-- ==== Sys2Proof/Word.lean ====
section
/-! DEFINITION. The plain value types of the MX-1624 model: bytes, register words, byte strings and the
list form in which every sparse store of the state is held. -/
namespace Sys2Proof

/-- One byte. -/
abbrev Byte := BitVec 8
/-- One 32-bit register word (R29). -/
abbrev Word := BitVec 32
/-- A byte string, in the order in which it is sent or stored (R3). -/
abbrev Bytes := List Byte
/-- A master ID (R10). -/
abbrev Master := BitVec 8
/-- An 8-bit completion status code (R8). -/
abbrev Status := BitVec 8
/-- A sparse store: pairs of key and value, keys strictly rising, no entry that equals what an unlisted key reads as. -/
abbrev SMap (α : Type) := List (Nat × α)

end Sys2Proof
end

