-- ==== Sys2Proof/Syntax.lean ====
section
/-! DEFINITION. The commands that act on the MX-1624: one constructor of `Instr` for each row of the table of operations
and events, with what arrives with it (register values, descriptors, data read from outside, pin levels). -/
namespace Sys2Proof

/-- The address space of an access (R78, R83, R84, R502). -/
inductive Space where
  | bar0 | bar2 | vfBar (v : Fin 16) | hart
  deriving DecidableEq, Repr

/-- One access of a master: its size in bytes, whether its byte enables are contiguous, and the bytes written. -/
structure Access where
  m : Master
  space : Space
  addr : Nat
  size : Nat
  contiguous : Bool
  write : Bool
  data : Bytes
  deriving DecidableEq, Repr

/-- Who submitted an operation: the issuer (R10, R387), the queue (0 to 63), hart ring (64 + h) or other path (255) that
carried it, its submission slot, its tag, and whether the write of its completion entry will fail (R459). A ring slot may be used again
while an older descriptor from it is in flight (R457): `seq` tells them apart. -/
structure JobSrc where
  issuer : Master
  ring : Nat
  slot : Nat
  tag : Word
  cqFail : Bool
  seq : Nat := 0
  deriving DecidableEq, Repr

/-- What the host sets in the configuration space of a function beside its power state and Bus Master Enable (R443, R444, R463, R468):
MSI-X Enable, Enable Relaxed Ordering, Max_Read_Request_Size (128 × 2^mrrs bytes), and the bases of PF0 BAR0, PF0 BAR2 and VF BAR0. -/
structure FnCtl where
  msix : Bool
  ero : Bool
  mrrs : Fin 6
  bar0 : BitVec 64
  bar2 : BitVec 64
  vfBar : BitVec 64
  deriving DecidableEq, Repr

/-- What IDE_KM installs (R447): the stream (0 the link stream, 1 to 4 the selective streams) and its AES-256 key material. -/
structure IdeKey where
  stream : Fin 5
  key : Bytes
  deriving DecidableEq, Repr

/-- A 64-byte submission descriptor as sixteen little-endian words (R460). -/
abbrev Desc := List Word

/-- What the memory reads and writes of an operation bring where its issuer is no hart: the input bytes that arrived, the scatter list as it
was read (R286), whether a read or a write failed, and a second input (customisation string, expected value, associated data). A hart's
are read from core memory. -/
structure JobIo where
  data : Bytes
  list : Bytes
  fault : Bool
  aux : Bytes
  auxFault : Bool
  writeFault : Bool
  keyFault : Bool := false
  deriving DecidableEq, Repr

/-- What the battery domain and the self-test meet at a PWR_OK (R585, R592). -/
structure PowerUpEnv where
  selfTestFails : Bool
  photodiodeFails : Bool
  rearmHeld : Bool
  live : BitVec 13
  deriving DecidableEq, Repr

/-- How the flash of FP0 answers the ROM (R115): in the fused mode, at the one retry in 1-1-1 at 25 MHz with 3-byte addresses, or not. -/
inductive FlashAnswer where
  | fused | retry | none
  deriving DecidableEq, Repr

/-- A slot of a guarded class on the flash of a port, or its Oasis copy, with the manifest that it holds: its chip select, first byte, length
and class. -/
structure GuardSlot where
  port : Fin 16
  cs : Fin 2
  addr : Nat
  len : Nat
  cls : Nat
  man : Bytes
  oasis : Bool := false
  deriving DecidableEq, Repr

/-- What is read at a boot: how FP0 answers, the manifests of runtime slots A and B, the pages of the two anti-rollback sectors and of the
command epoch record, which the ROM reads at steps 3 and 4, and the slots and Oasis copies of guarded classes, which the runtime reads (R358, R614). -/
structure RomScan where
  flash : FlashAnswer
  slotA : Bytes
  slotB : Bytes
  arbA : List Bytes
  arbB : List Bytes
  epochA : List Bytes
  epochB : List Bytes
  guarded : List GuardSlot := []
  deriving DecidableEq, Repr

/-- Kinds of refused hart access (R510). -/
inductive BusErr where
  | misaligned | unmapped | denied | ue
  deriving DecidableEq, Repr

/-- What a refused hart access was (R503): a fetch, a load or a store. -/
inductive AccKind where
  | fetch | load | store
  deriving DecidableEq, Repr
/-- A refused hart access. -/
structure HartFault where
  kind : BusErr
  acc : AccKind
  deriving DecidableEq, Repr

/-- Kinds of link error (R442). -/
inductive LinkErr where
  | receiver | replay | aer
  deriving DecidableEq, Repr


/-- One command of a flash master on a port, from its chip select to its last byte (R174, R195, R203): the chip select, the
opcode bytes, the address and whether its phase completed, the bytes the master sends, how many bytes it reads, what the
flash answers to them, the measured clock in MHz, and the Pantry frames whose read meets an uncorrectable error. -/
structure MCmd where
  cs : Fin 2
  opc : Byte
  opc2 : Byte
  addr : Nat
  addrDone : Bool
  data : Bytes
  n : Nat
  flash : Bytes
  mhz : Nat
  ueFrames : List Nat
  deriving DecidableEq, Repr

/-- How a master reads an identification (R168, R170, R171): how many bytes it clocks, and the measured clock in MHz. -/
structure IdRead where
  n : Nat
  mhz : Nat
  deriving DecidableEq, Repr

/-- What discovery reads from a flash device (R183): the three ID bytes and the SFDP space from its start. -/
structure DiscResult where
  id : Bytes
  sfdp : Bytes
  deriving DecidableEq, Repr

/-- How the executor of a commit ended: clean, or a flash fail bit set (R326). -/
inductive CommitResult where
  | clean | failBit
  deriving DecidableEq, Repr

/-- The SPDM transports (R433). -/
inductive Transport where
  | doe | mctp | doeSecured | mctpSecured
  deriving DecidableEq, Repr

/-- What the runtime reads on a port when it activates an image (R606, R607): the manifests of both slots, the nodes of the new tree in load
order and the blocks of the new windows. -/
structure PortScan where
  port : Fin 16
  manA : Bytes
  manB : Bytes
  nodes : List Bytes
  blocks : List Bytes
  deriving DecidableEq, Repr
/-- What it reads on the ports of the class: one, and the others where the class has more. -/
structure ClassScan extends PortScan where
  others : List PortScan := []
  deriving DecidableEq, Repr

/-- An image found on flash when a revocation is judged (R497): its class and its manifest. -/
structure ImageSeen where
  cls : Nat
  man : Bytes
  deriving DecidableEq, Repr

/-- A frame received on a Caravan port (R535) and the one-way latency of the link that the port measured, in ns (R558). -/
structure CvnFrame where
  bytes : Bytes
  lat : Nat
  deriving DecidableEq, Repr

/-- A HELLO frame received on a Caravan port (R532). -/
abbrev HelloFrame := CvnFrame


/-- The commands: one constructor for each row of the table of operations and events. -/
inductive Instr where
  /-- REGISTER_WRITE (R29): A write to a register that has no row of its own takes effect, is buffered, posted or ignored by its access code and lock. -/
  | registerWrite (a : Access)
  /-- POSTED_WRITE_APPLY (R43): A posted write applies in its slow domain, runs its deferred checks and clears PAGE_BUSY.BUSY. -/
  | postedWriteApply (page : Nat)
  /-- PAGE_LOCK_WRITE (R26): Setting PAGE_LOCK bits freezes register classes until reset and discards their buffered values. -/
  | pageLockWrite (m : Master) (page : Nat) (v : Word)
  /-- PAGE_ERR_ACK (R41): An acknowledge equal to PAGE_ERR.COUNT clears the page error record. -/
  | pageErrAck (m : Master) (page : Nat) (v : Word)
  /-- COUNTER_LOW_READ (R36): A read of the low word of a 64-bit counter latches its high word for the reading master. -/
  | counterLowRead (m : Master) (addr : Nat)
  /-- WIDE_REG_LOW_WRITE (R37): A write to the low word of a writable 64-bit register is held for the writing master. -/
  | wideRegLowWrite (m : Master) (addr : Nat) (v : Word)
  /-- WIDE_REG_HIGH_WRITE (R37): A write to the high word applies both halves of a writable 64-bit register in one cycle. -/
  | wideRegHighWrite (m : Master) (addr : Nat) (v : Word)
  /-- UPD_STROBE (R49): A write to UPD_STROBE applies the buffered values of the named update groups on fast pages. -/
  | updStrobe (m : Master) (v : Word)
  /-- SLOW_STROBE_APPLY (R49): A slow page in a strobed group applies its buffered values at its next slow-domain edge. -/
  | slowStrobeApply (page : Nat)
  /-- UPD_ARM (R52): ARM copies the mask and position and has Cistern schedule a strobe, or refuses it. -/
  | updArm (m : Master)
  /-- UPD_CANCEL (R54): CANCEL returns an armed strobe to IDLE so that it does not fire. -/
  | updCancel (m : Master)
  /-- UPD_ARM_FIRE (R53): When the line position reaches the armed position the copied groups are strobed and UPD_FIRED is counted. -/
  | updArmFire
  /-- ORDER_FENCE_READ (R62): A read of ORDER_FENCE returns once every earlier write of the reading master has reached its page. -/
  | orderFenceRead (m : Master)
  /-- EVENT_ACK (R67): A write to an EA register sets ACK and clears OVF if it is in range, or records ACK_RANGE. -/
  | eventAck (m : Master) (src : Fin 352) (v : Word)
  /-- EVT_FORCE (R69): In TEST and RETURN a write to EVT_FORCE counts one event on each source named. -/
  | evtForce (m : Master) (page : Nat) (v : Word)
  /-- SEM_READ (R71): A 32-bit read of a semaphore acquires it if free or returns the owner. -/
  | semRead (m : Master) (n : Fin 64)
  /-- SEM_WRITE (R72): A write of 0 by the owner frees a semaphore; any other write is refused with SEM_OWNER. -/
  | semWrite (m : Master) (n : Fin 64) (v : Word)
  /-- BROADCAST_WRITE (R75): A broadcast or group write reaches each member page, which decodes and applies it separately. -/
  | broadcastWrite (m : Master) (addr : Nat) (v : Word)
  /-- BIT_ALIAS_WRITE (R56): A write to the alias space changes one bit of a register in one cycle. -/
  | bitAliasWrite (m : Master) (baddr : Nat) (v : Word)
  /-- ROUTE_WRITE (R93): A write to a ROUTE register stores an accepted route or is refused. -/
  | routeWrite (m : Master) (src : Fin 352) (v : Word)
  /-- SW_EVT (R89): A write to SW_EVT counts one event on each software source named. -/
  | swEvt (m : Master) (v : Word)
  /-- MSIX_PENDING_SEND (R101): A message held in the PBA is sent once the vector is unmasked, MSI-X is enabled and bus mastering is enabled. -/
  | msixPendingSend (fn : Fin 16) (vec : Fin 64)
  /-- AON_VALID (R644): VDD_AON becomes valid: the always-on domain leaves reset, HOLD_N is asserted and CORE_EN is driven high. -/
  | aonValid
  /-- AON_LOSS (R601): VDD_AON falls below its threshold and the device enters BATTERY on VBAT. -/
  | aonLoss
  /-- PWR_OK_RISE (R14): PWR_OK rises, the self-test and re-arm run and the main road starts with the power-on wipe. -/
  | pwrOkRise (env : PowerUpEnv)
  /-- PWR_OK_LOSS (R105): PWR_OK falls: every HOLD_N asserts within 1 µs and the sequencer returns to IDLE. -/
  | pwrOkLoss
  /-- DEVICE_RESET (R106): A device reset sets HOLD_REQ, clears READY, returns the sequencer to IDLE and restarts the main road. -/
  | deviceReset
  /-- WIPE_COMPLETE (R107): The SRAM, digest store and AES wipe completes and all harts start at the ROM entry. -/
  | wipeComplete (fault : Bool) (us : Nat) (scan : RomScan)
  /-- ROM_FETCH_DONE (R123): The ROM fetcher finishes a runtime body and either pushes it for release or falls back to the next slot. -/
  | romFetchDone (body : Bytes) (readFail : Bool)
  /-- PUSH_CTRL_WRITE (R128): Hart 0 opens or closes push mode through PUSH_CTRL. -/
  | pushCtrlWrite (m : Master) (v : Word)
  /-- BOOT_STAGE_WRITE (R140): Before the runtime release hart 0 replaces STAGE, FAIL and SLOT of BOOT_STAGE. -/
  | bootStageWrite (m : Master) (v : Word)
  /-- STAGE_CLAIM (R130): An allowed agent claims the staging window and the counts reset. -/
  | stageClaim (m : Master) (v : Word)
  /-- STAGE_DATA_APPEND (R131): A 32-bit owner write to STAGE_DATA appends one word to the manifest buffer or the window. -/
  | stageDataAppend (m : Master) (v : Word)
  /-- RELEASE_GO (R133): GO by the owner in OWNED starts the release checker. -/
  | releaseGo (m : Master)
  /-- RELEASE_CHECK_DONE (R133): The release checker finishes its checks and passes, awaits lock, or refuses the release. -/
  | releaseCheckDone
  /-- RELEASE_ABANDON (R135): ABANDON wipes the window after a KIND IMAGE release, or refuses an unfinished one with ABORTED. -/
  | releaseAbandon (m : Master)
  /-- RUNTIME_RELEASE_COMPLETE (R137): With both locks set and digests equal, the banks swap and all harts restart at the runtime entry. -/
  | runtimeReleaseComplete
  /-- HOLD_REQ_WRITE (R104): Hart 0 writes the per-line firmware hold requests. -/
  | holdReqWrite (m : Master) (v : Word)
  /-- HOLD_UNFORCE (R143): A write to HOLD_UNFORCE ends containment or watchdog forces on the lines named. -/
  | holdUnforce (m : Master) (v : Word)
  /-- HOLD_N_DEASSERT (R148): A hold line is deasserted once no request, force or unmet gate asserts it. -/
  | holdNDeassert (ln : Fin 24)
  /-- HOLD_N_REASSERT (R239): A port status bit falls after release and the lines mapped to the port assert again. -/
  | holdNReassert (p : Fin 16)
  /-- SEQ_GO (R146): SEQ_CTRL.GO starts the release sequencer at slot 0 or resumes a stalled slot. -/
  | seqGo (m : Master)
  /-- SEQ_SKIP (R147): SKIP passes the current slot without clearing its line. -/
  | seqSkip (m : Master)
  /-- SEQ_STOP (R147): STOP returns the sequencer to IDLE. -/
  | seqStop (m : Master)
  /-- SEQ_SLOT_COMPLETE (R146): With the gate, PGOOD and delay met, the sequencer clears HOLD_REQ of the slot line and moves on. -/
  | seqSlotComplete
  /-- SEQ_STALL (R147): A slot waits longer than WAIT_MS and the sequencer enters STALLED. -/
  | seqStall
  /-- PGOOD_CHANGE (R152): A PGOOD input changes level. -/
  | pgoodChange (ix : Fin 8) (lvl : Bool)
  /-- MASTER_COMMAND (R174): A master command on an enabled port is looked up and forwarded, served, denied, captured or held. -/
  | masterCommand (p : Fin 16) (mc : MCmd)
  /-- READ_JEDEC_ID (R170): Read JEDEC ID 9Fh is answered from the discovery shadow. -/
  | readJedecId (p : Fin 16) (c : Fin 2) (r : IdRead)
  /-- READ_SFDP (R171): Read SFDP 5Ah is answered from the shadow, rewritten under REWRITE_EN. -/
  | readSfdp (p : Fin 16) (c : Fin 2) (addr : Nat) (r : IdRead)
  /-- MASTER_CS_DEASSERT (R216): The master chip select deasserts, ending the command, applying mode switches and capturing mediated writes. -/
  | masterCsDeassert (p : Fin 16)
  /-- DQS_TIMEOUT (R161): FDQS does not toggle within 16 clocks and the master receives 0xFF for the rest of the command. -/
  | dqsTimeout (p : Fin 16)
  /-- LEASE_WRITE (R180): Hart 0 requests or ends a lease on a flash chip select. -/
  | leaseWrite (m : Master) (p : Fin 16) (v : Word)
  /-- LEASE_GRANT (R180): A requested lease is granted once no master command is in progress on the chip select. -/
  | leaseGrant (p : Fin 16) (c : Fin 2)
  /-- LEASE_END (R180): A lease ends when the device-originated operation in progress completes. -/
  | leaseEnd (p : Fin 16) (c : Fin 2)
  /-- MRST_EDGE (R182): A falling MRST_N edge ends the master command, restores the mode and pulses FRST_N. -/
  | mrstEdge (p : Fin 16)
  /-- MRST_DEFERRED_PULSE (R182): A deferred flash reset pulse is sent after the device operation in progress completes. -/
  | mrstDeferredPulse (p : Fin 16)
  /-- DISCOVER (R183): DISC_CTRL.DISCOVERn starts discovery of a flash chip select. -/
  | discover (m : Master) (p : Fin 16) (v : Word)
  /-- DISCOVERY_DONE (R184): Discovery ends with the shadow filled, GEOMETRY set and DISC_STATUS written. -/
  | discoveryDone (p : Fin 16) (c : Fin 2) (r : DiscResult)
  /-- SFDP_WIN_READ (R185): A read of SFDP_WIN_DATA returns a shadow word and advances the offset. -/
  | sfdpWinRead (m : Master) (p : Fin 16)
  /-- PHY_CAL (R192): A write to PHY_CAL requests calibration of the flash-side capture delay. -/
  | phyCal (m : Master) (p : Fin 16)
  /-- PHY_CAL_DONE (R192): Calibration runs at port idle and updates RXDLY_CUR or sets CAL_FAIL. -/
  | phyCalDone (p : Fin 16) (best : Option Nat)
  /-- PORT_PENDING_APPLY (R191): Buffered port values apply at the first idle moment after the strobe edge. -/
  | portPendingApply (p : Fin 16)
  /-- BANK_FAULT (R189): The port bank voltage goes out of range and the port enters FAULT. -/
  | bankFault (p : Fin 16) (code : Fin 8)
  /-- CT_WRITE (R202): CT_CTRL.WRITE checks the words and stores a command-table shadow entry or rejects it. -/
  | ctWrite (m : Master) (p : Fin 16)
  /-- CT_READ (R213): CT_CTRL.READ loads the word registers from a command-table entry. -/
  | ctRead (m : Master) (p : Fin 16)
  /-- CT_SWAP (R214): CT_CTRL.SWAP requests a copy of the command shadow bank into the active bank. -/
  | ctSwap (m : Master) (p : Fin 16)
  /-- CT_CLEAR (R213): CT_CTRL.CLEAR invalidates every command shadow entry. -/
  | ctClear (m : Master) (p : Fin 16)
  /-- RT_WRITE (R210): RT_CTRL.WRITE checks the words and stores a region shadow entry or rejects it. -/
  | rtWrite (m : Master) (p : Fin 16)
  /-- RT_READ (R213): RT_CTRL.READ loads the word registers from a region entry with its SUBST bit. -/
  | rtRead (m : Master) (p : Fin 16)
  /-- RT_SWAP (R214): RT_CTRL.SWAP requests a copy of the region shadow bank into the active bank. -/
  | rtSwap (m : Master) (p : Fin 16)
  /-- RT_SWAP_ALL (R213): RT_CTRL.SWAP_ALL requests the copy for both tables of the port in one cycle. -/
  | rtSwapAll (m : Master) (p : Fin 16)
  /-- RT_CLEAR (R213): RT_CTRL.CLEAR invalidates every region shadow entry. -/
  | rtClear (m : Master) (p : Fin 16)
  /-- TABLE_SWAP_APPLY (R214): A pending swap copies the shadow bank into the active bank between master commands. -/
  | tableSwapApply (p : Fin 16)
  /-- WQ_APPLY (R221): APPLY marks a captured write-queue entry APPLIED. -/
  | wqApply (m : Master) (p : Fin 16)
  /-- WQ_DISCARD (R221): DISCARD marks an entry DISCARDED with ABORTED and withdraws a waiting commit. -/
  | wqDiscard (m : Master) (p : Fin 16)
  /-- WQ_RETIRE (R221): RETIRE frees an ended write-queue entry. -/
  | wqRetire (m : Master) (p : Fin 16)
  /-- WQ_FENCE (R221): FENCE creates a FENCE entry in the write queue. -/
  | wqFence (m : Master) (p : Fin 16)
  /-- WQ_ENTRY_START (R222): An applied entry starts on the flash once its ordering, lease and admission conditions hold. -/
  | wqEntryStart (p : Fin 16) (ix : Fin 64)
  /-- WQ_ENTRY_DONE (R224): A running entry ends DONE or FAILED when WIP clears and its fail bits are read. -/
  | wqEntryDone (p : Fin 16) (ix : Fin 64) (pFail : Bool) (eFail : Bool)
  /-- WQ_ENTRY_TIMEOUT (R224): A running entry reaches its WIP limit and ends FAILED with FLASH_TIMEOUT. -/
  | wqEntryTimeout (p : Fin 16) (ix : Fin 64)
  /-- FULLCHECK (R267): VER_CMD.FULLCHECK starts a full check of every CONFIRMED binding with FULL = 1. -/
  | fullcheck (m : Master) (p : Fin 16)
  /-- VER_RESUME (R257): VER_CMD.RESUME clears CONTAINED on a port that no PORT_MAP entry names. -/
  | verResume (m : Master) (p : Fin 16)
  /-- SCRUB_RESTART (R264): VER_CMD.SCRUB_RESTART begins a new scrub pass at once. -/
  | scrubRestart (m : Master) (p : Fin 16)
  /-- SUBST_SET_CMD (R263): SUBST_CTRL.SET sets SUBST in every valid region of the class with an Oasis copy. -/
  | substSetCmd (m : Master) (p : Fin 16) (v : Word)
  /-- SUBST_CLEAR_CMD (R263): SUBST_CTRL.CLEAR clears SUBST in every region index of the class. -/
  | substClearCmd (m : Master) (p : Fin 16) (v : Word)
  /-- BIND_WRITE (R241): BIND_CTRL.WRITE checks and stores a tree binding. -/
  | bindWrite (m : Master) (p : Fin 16)
  /-- BIND_READ (R240): BIND_CTRL.READ loads the registers from a binding. -/
  | bindRead (m : Master) (p : Fin 16)
  /-- BIND_LOAD (R242): BIND_CTRL.LOAD starts loading and pinning the tree nodes of a binding. -/
  | bindLoad (m : Master) (p : Fin 16)
  /-- BIND_CONFIRM (R240): BIND_CTRL.CONFIRM confirms a loaded binding and clears the check map of its body. -/
  | bindConfirm (m : Master) (p : Fin 16)
  /-- BIND_UNBIND (R240): BIND_CTRL.UNBIND empties a binding, frees its nodes and empties its windows. -/
  | bindUnbind (m : Master) (p : Fin 16)
  /-- TREE_NODE_READ (R242): A tree node read for LOAD arrives and is accepted against its parent or root, or fails the load. -/
  | treeNodeRead (p : Fin 16) (b : Fin 8) (node : Bytes)
  /-- DEMAND_NODE_READ (R243): A demand node and its missing ancestors arrive, are accepted and complete waiting LATE checks. -/
  | demandNodeRead (p : Fin 16) (b : Fin 8) (nodes : List Bytes)
  /-- TREE_NODE_UE (R244): An uncorrectable error makes a cached node non-resident and a pinned node is read again. -/
  | treeNodeUe (p : Fin 16) (b : Fin 8) (level : Nat) (idx : Nat)
  /-- STITCH_TIMEOUT (R248): 64 µs pass with no new master command and the stitch breaks. -/
  | stitchTimeout (p : Fin 16)
  /-- FETCH_CHECK_DONE (R253): A fully fetched block's leaf is compared with its tree entry and passes or fails. -/
  | fetchCheckDone (p : Fin 16)
  /-- PW_WRITE (R269): PW_CTRL.WRITE checks and stores a Pantry window. -/
  | pwWrite (m : Master) (p : Fin 16)
  /-- PW_READ (R268): PW_CTRL.READ loads the window words. -/
  | pwRead (m : Master) (p : Fin 16)
  /-- PW_LOAD (R270): PW_CTRL.LOAD starts reading and checking the window blocks into their frames. -/
  | pwLoad (m : Master) (p : Fin 16)
  /-- PW_UNLOAD (R268): PW_CTRL.UNLOAD requests that a window become EMPTY. -/
  | pwUnload (m : Master) (p : Fin 16)
  /-- WINDOW_BLOCK_READ (R270): A window block arrives, is checked and written to its frame, or fails the window. -/
  | windowBlockRead (p : Fin 16) (w : Fin 64) (data : Option Bytes)
  /-- WINDOW_STATE_APPLY (R270): A window becomes LOADED or EMPTY at the next moment that meets the idle condition. -/
  | windowStateApply (p : Fin 16) (w : Fin 64)
  /-- SCRUB_BLOCK_READ (R264): A scrub read of a block completes and the block is checked. -/
  | scrubBlockRead (p : Fin 16) (data : Option Bytes)
  /-- FULLCHECK_BLOCK_READ (R267): A full-check block read completes and is checked, and the last one sets FULL_OK. -/
  | fullcheckBlockRead (p : Fin 16) (data : Option Bytes)
  /-- COV_RESET (R275): COV_CTRL.RESET zeroes the fetch, scrub, partial and fail counters of a region. -/
  | covReset (m : Master) (p : Fin 16)
  /-- DIGEST_JOB (R288): A digest descriptor is checked and accepted, allocating or naming a context. -/
  | digestJob (src : JobSrc) (d : Desc)
  /-- DIGEST_DISCARD (R287): A DISCARD job frees the named context and completes OK. -/
  | digestDiscard (src : JobSrc) (d : Desc)
  /-- DIGEST_JOB_START (R293): A free lane takes the ready job of highest priority. -/
  | digestJobStart (lane : Fin 16)
  /-- LANE_PREEMPT (R294): A marked lane reaches a block boundary, suspends its job and takes the higher-priority job. -/
  | lanePreempt (lane : Fin 16)
  /-- DIGEST_JOB_DONE (R296): A job's last block ends and a FINAL job delivers its result to its destination. -/
  | digestJobDone (lane : Fin 16) (io : JobIo)
  /-- CONTEXT_SRAM_UE (R284): An uncorrectable error poisons a digest context. -/
  | contextSramUe (idx : Fin 256)
  /-- ZC_PULSE (R674): The trailing edge of a LINE_ZC_A pulse is judged for acceptance, tolerance and confirmation. -/
  | zcPulse (width : Nat)
  /-- ZC_B_PULSE (R312): A LINE_ZC_B pulse updates B_OFFSET or replaces a missing A crossing. -/
  | zcBPulse (width : Nat)
  /-- HALF_CYCLE_MISSING (R674): No crossing by 2,048 LU after the wrap marks the half-cycle MISSING. -/
  | halfCycleMissing
  /-- LINE_LOST_TIMEOUT (R311): No accepted crossing for 1.5 nominal HC takes the line to LOST. -/
  | lineLostTimeout
  /-- DC_FEED_ENTRY (R311): After DC_DWELL HC without crossings and with enough bulk, the line enters DC_FEED. -/
  | dcFeedEntry
  /-- PF_WARN_ASSERT (R311): PF_WARN_N asserts, the line goes LOST and hold-up mode begins. -/
  | pfWarnAssert
  /-- PF_WARN_DEASSERT (R650): PF_WARN_N deasserts and the hold-up exit count starts. -/
  | pfWarnDeassert
  /-- HOLDUP_MODE_EXIT (R650): After 10 ms of PF_WARN_N deasserted, gated blocks return and hold-up mode ends. -/
  | holdupModeExit
  /-- ERA_WRAP (R306): The HC count wraps to 0, ERA increments and ERA_WRAP is counted. -/
  | eraWrap
  /-- HOLDUP_ESTIMATE (R314): The hold-up estimate is recomputed from a new trough and may count HOLDUP_LOW or ADC_FAULT. -/
  | holdupEstimate (code : Fin 4096)
  /-- POS_SEED_WRITE (R309): A write of POS_SEED requests a new HC count and ERA. -/
  | posSeedWrite (m : Master) (lo : Word) (hi : Word)
  /-- SEED_APPLY (R309): At the next HC boundary the seed applies or is refused. -/
  | seedApply
  /-- COMMIT_SUBMIT (R326): COMMIT_SUBMIT.SUBMIT copies a hart commit slot into its queue entry or refuses it. -/
  | commitSubmit (m : Master) (v : Word)
  /-- COMMIT_WITHDRAW (R324): COMMIT_SUBMIT.WITHDRAW removes a waiting hart entry with ABORTED. -/
  | commitWithdraw (m : Master) (v : Word)
  /-- COMMIT_ADMIT (R319): Cistern admits the oldest ready waiting entry inside the window with enough hold-up and starts its write. -/
  | commitAdmit
  /-- COMMIT_END (R321): A commit in flight ends and its requester is told its result. -/
  | commitEnd (res : CommitResult)
  /-- COMMIT_FLASH_TIMEOUT (R326): A hart PAGE_REC commit keeps WIP set for 5 ms and ends INTERNAL with FLASH_TIMEOUT. -/
  | commitFlashTimeout
  /-- COMMIT_TIMEOUT (R323): A waiting entry's timeout passes and it leaves the queue with COMMIT_DEFERRED. -/
  | commitTimeout (entry : Fin 32)
  /-- TIMER_ARM (R327): TMR_CTRL.ARM copies a timer's position and configuration and arms or refuses it. -/
  | timerArm (m : Master) (v : Word)
  /-- TIMER_CANCEL (R327): TMR_CTRL.CANCEL returns an armed timer to IDLE. -/
  | timerCancel (m : Master) (v : Word)
  /-- LINE_TIMER_FIRE (R328): A line timer reaches its position, records TMRt_LAST and acts on its DEST. -/
  | lineTimerFire (t : Fin 8)
  /-- LC_REQ (R352): LC_REQ with GO checks and starts a life-cycle transition or refuses it. -/
  | lcReq (m : Master) (v : Word)
  /-- LC_CELLAR_WIPE_DONE (R353): The transition's Cellar wipe and epoch commits end and the device resets. -/
  | lcCellarWipeDone
  /-- DBG_GRANT (R361): A DBG_GRANT write sets debug rights within the ceiling or is refused, drawing a new nonce. -/
  | dbgGrant (m : Master) (v : Word)
  /-- NONCE_REFRESH (R350): NONCE_REFRESH draws a new device nonce. -/
  | nonceRefresh (m : Master)
  /-- MEMTEST_ENTER (R340): An allowed MEMTEST_CTRL write wipes SRAM and enters a memory factory test mode. -/
  | memtestEnter (m : Master) (v : Word)
  /-- KDU_DERIVE (R378): KDU_CTRL.DERIVE computes the seeds and CDIs into protected registers. -/
  | kduDerive (m : Master)
  /-- KDU_DISCARD (R380): KDU_CTRL.DISCARD zeroes every derived value and protected handle. -/
  | kduDiscard (m : Master)
  /-- KDU_ROOT_GEN (R370): KDU_CTRL.ROOT_GEN blows the UDS mask and field by FUSE_KEY commits. -/
  | kduRootGen (m : Master)
  /-- KDU_ROOT_CLASS (R371): KDU_CTRL.ROOT_CLASS opens the class-secret record and blows the class mask and field. -/
  | kduRootClass (m : Master) (v : Word)
  /-- BBRAM_ERASE (R375): KDU_CTRL.BBRAM_ERASE erases both BBRAM banks through the tamper-erase path. -/
  | bbramErase (m : Master)
  /-- KDU_CLOSE_SECRET (R381): Setting CLOSE_SECRET powers down the secret sense paths until reset. -/
  | kduCloseSecret (m : Master)
  /-- KDU_LOCK_CDI (R381): Setting LOCK_CDI zeroes CDI0 and locks derivation until reset. -/
  | kduLockCdi (m : Master)
  /-- KEY_GENERATE (R397): Creates a new Cellar context from the DRBG. -/
  | keyGenerate (src : JobSrc) (d : Desc) (io : JobIo)
  /-- KEY_LOAD (R395): Checks and unwraps a blob into a Cellar slot. -/
  | keyLoad (src : JobSrc) (d : Desc) (io : JobIo)
  /-- KEY_WRAP (R393): Seals a context as a 176-byte blob. -/
  | keyWrap (src : JobSrc) (d : Desc) (io : JobIo)
  /-- KEY_UNLOAD (R390): Destroys the context named. -/
  | keyUnload (src : JobSrc) (d : Desc) (io : JobIo)
  /-- KEY_QUERY (R397): Returns a context header and public key. -/
  | keyQuery (src : JobSrc) (d : Desc) (io : JobIo)
  /-- KEY_DERIVE (R397): Derives a new context from a KMAC or BDK parent. -/
  | keyDerive (src : JobSrc) (d : Desc) (io : JobIo)
  /-- KEY_RESERVE (R402): Reserves a slot with no material for a digest result. -/
  | keyReserve (src : JobSrc) (d : Desc) (io : JobIo)
  /-- KEY_IMPORT (R397): Opens a record sealed under an AES key into a new context. -/
  | keyImport (src : JobSrc) (d : Desc) (io : JobIo)
  /-- AES_SEAL (R397): Encrypts with AES-256-GCM under a device-drawn IV. -/
  | aesSeal (src : JobSrc) (d : Desc) (io : JobIo)
  /-- AES_OPEN (R397): Decrypts with AES-256-GCM, writing plaintext only if the tag verifies. -/
  | aesOpen (src : JobSrc) (d : Desc) (io : JobIo)
  /-- PK_SIGN (R398): Signs a message or digest with a private-key context. -/
  | pkSign (src : JobSrc) (d : Desc) (io : JobIo)
  /-- PK_VERIFY (R398): Verifies a signature with a public key in memory. -/
  | pkVerify (src : JobSrc) (d : Desc) (io : JobIo)
  /-- KEY_EXCHANGE (R397): Runs ECDH or ML-KEM decapsulation into a new context. -/
  | keyExchange (src : JobSrc) (d : Desc) (io : JobIo)
  /-- KEY_ENCAPS (R397): Encapsulates to a peer ML-KEM key into a new context. -/
  | keyEncaps (src : JobSrc) (d : Desc) (io : JobIo)
  /-- PROOF (R399): Returns a KMAC proof over a challenge, unit, state and boot counter. -/
  | proof (src : JobSrc) (d : Desc) (io : JobIo)
  /-- BLOB_EPOCH_ADVANCE (R397): Submits a BBRAM commit raising one domain's blob epoch. -/
  | blobEpochAdvance (src : JobSrc) (d : Desc) (io : JobIo)
  /-- CELLAR_OP_DONE (R397): A Cellar or public-key operation ends and its completion is written. -/
  | cellarOpDone (ix : Nat)
  /-- CELLAR_SRAM_UE (R391): An uncorrectable error in a Cellar context destroys it and counts MASK_FAULT. -/
  | cellarSramUe (slot : Nat)
  /-- MEAS_EXTEND (R422): Extends a measurement slot with an entry from the issuer. -/
  | measExtend (src : JobSrc) (d : Desc) (io : JobIo)
  /-- MEAS_READ (R423): Returns the slot snapshot or a range of log entries. -/
  | measRead (src : JobSrc) (d : Desc) (io : JobIo)
  /-- MEAS_SCAN (R425): Queues a host-memory scan of a range list. -/
  | measScan (src : JobSrc) (d : Desc) (io : JobIo)
  /-- MEAS_DEFINE (R422): Defines a DEFINED slot with its extender and scan permission. -/
  | measDefine (src : JobSrc) (d : Desc) (io : JobIo)
  /-- EXTEND_APPLY (R417): The extend unit applies the next queued extend and appends a log entry. -/
  | extendApply
  /-- SCAN_START (R427): The next waiting scan starts once no scan runs. -/
  | scanStart
  /-- SCAN_COMPLETE (R428): Every range of a scan is hashed and the results are delivered. -/
  | scanComplete (tag : Word)
  /-- SPDM_GET_VERSION (R434): SPDM GET_VERSION request. -/
  | spdmGetVersion (t : Transport) (q : Bytes)
  /-- SPDM_GET_CAPABILITIES (R434): SPDM GET_CAPABILITIES request. -/
  | spdmGetCapabilities (t : Transport) (q : Bytes)
  /-- SPDM_NEGOTIATE_ALGORITHMS (R434): SPDM NEGOTIATE_ALGORITHMS request. -/
  | spdmNegotiateAlgorithms (t : Transport) (q : Bytes)
  /-- SPDM_GET_DIGESTS (R434): SPDM GET_DIGESTS request. -/
  | spdmGetDigests (t : Transport) (q : Bytes)
  /-- SPDM_GET_CERTIFICATE (R435): SPDM GET_CERTIFICATE request. -/
  | spdmGetCertificate (t : Transport) (q : Bytes)
  /-- SPDM_CHALLENGE (R435): SPDM CHALLENGE request signed with the alias key. -/
  | spdmChallenge (t : Transport) (q : Bytes)
  /-- SPDM_GET_MEASUREMENTS (R437): SPDM GET_MEASUREMENTS request. -/
  | spdmGetMeasurements (t : Transport) (q : Bytes)
  /-- SPDM_KEY_EXCHANGE (R434): SPDM KEY_EXCHANGE request. -/
  | spdmKeyExchange (t : Transport) (q : Bytes)
  /-- SPDM_FINISH (R434): SPDM FINISH request. -/
  | spdmFinish (t : Transport) (q : Bytes)
  /-- SPDM_KEY_UPDATE (R434): SPDM KEY_UPDATE request. -/
  | spdmKeyUpdate (t : Transport) (q : Bytes)
  /-- SPDM_END_SESSION (R434): SPDM END_SESSION request. -/
  | spdmEndSession (t : Transport) (q : Bytes)
  /-- SPDM_HEARTBEAT (R434): SPDM HEARTBEAT request. -/
  | spdmHeartbeat (t : Transport) (q : Bytes)
  /-- SPDM_CHUNK_SEND (R434): SPDM CHUNK_SEND request. -/
  | spdmChunkSend (t : Transport) (q : Bytes)
  /-- SPDM_CHUNK_GET (R434): SPDM CHUNK_GET request. -/
  | spdmChunkGet (t : Transport) (q : Bytes)
  /-- SPDM_PQ_SIG (R436): Vendor-defined PQ_SIG returns the ML-DSA signature over the last signed message. -/
  | spdmPqSig (t : Transport) (q : Bytes)
  /-- SPDM_PQ_CHAIN (R436): Vendor-defined PQ_CHAIN returns a range of the ML-DSA certificate chain. -/
  | spdmPqChain (t : Transport) (q : Bytes)
  /-- SPDM_UNSUPPORTED (R434): Any other SPDM request is answered with ERROR UnsupportedRequest. -/
  | spdmUnsupported (t : Transport) (q : Bytes)
  /-- LINK_UP (R441): The PCIe link trains and comes up. -/
  | linkUp (speed : Nat) (width : Nat)
  /-- LINK_DOWN (R446): Hot reset, link disable or link-down resets PF0 host state and VFs. -/
  | linkDown
  /-- LINK_RETRAIN (R442): LINK_CMD.RETRAIN starts a link training. -/
  | linkRetrain (m : Master)
  /-- VF_FLR (R446): A VF function-level reset returns its queues and MSI-X to reset and destroys its contexts. -/
  | vfFlr (v : Fin 16)
  /-- VF_DISABLE (R446): Clearing VF Enable or lowering NumVFs resets every VF that stops existing. -/
  | vfDisable (numVfs : Nat)
  /-- PF0_FLR (R446): A PF0 FLR resets queues 0 to 15 and its MSI-X table and clears VF Enable. -/
  | pf0Flr
  /-- FLR_COMPLETE (R446): A function reset finishes and FLR_PENDING clears. -/
  | flrComplete (fn : Fin 16)
  /-- FUNC_POWER_CHANGE (R445): A function enters or leaves D3hot or changes Bus Master Enable, stalling or resuming its memory requests. -/
  | funcPowerChange (fn : Fin 16) (d3 : Bool) (bme : Bool) (ctl : FnCtl)
  /-- IDE_KEY_INSTALL (R447): IDE_KM in a secured session installs stream keys. -/
  | ideKeyInstall (key : IdeKey)
  /-- IDE_INTEGRITY_FAIL (R447): A TLP fails its integrity check, is discarded and its stream goes Insecure. -/
  | ideIntegrityFail (stream : Fin 5)
  /-- DOE_WRITE (R448): A dword written to the DOE mailbox is collected into the request buffer. -/
  | doeWrite (w : Word)
  /-- DOE_GO (R448): DOE Go on a complete object is answered for Discovery or handed to hart 0. -/
  | doeGo
  /-- DOE_ABORT (R448): DOE Abort discards both buffers and sets ABORTED. -/
  | doeAbort
  /-- DOE_SEND (R448): DOE_CTRL.SEND sets Data Object Ready on the response. -/
  | doeSend (m : Master)
  /-- DOE_FAIL (R449): DOE_CTRL.FAIL sets DOE Error in place of a response. -/
  | doeFail (m : Master)
  /-- QUEUE_ENABLE (R456): Q_CTRL.ENABLE resets the pointers and enables a queue. -/
  | queueEnable (m : Master) (q : Fin 64)
  /-- QUEUE_DISABLE (R456): Q_CTRL.DISABLE stops fetching and drains the queue. -/
  | queueDisable (m : Master) (q : Fin 64)
  /-- QUEUE_DRAINED (R456): The last fetched descriptor of a draining queue completes and the queue becomes DISABLED. -/
  | queueDrained (q : Nat)
  /-- SQ_DOORBELL (R457): A write of SQ_TAIL submits new descriptors. -/
  | sqDoorbell (m : Master) (q : Fin 64) (v : Word)
  /-- CQ_HEAD_WRITE (R457): A write of CQ_HEAD frees consumed completion entries. -/
  | cqHeadWrite (m : Master) (q : Fin 64) (v : Word)
  /-- DESCRIPTOR_FETCH (R458): The device fetches submitted descriptors while completion room allows. -/
  | descriptorFetch (q : Nat) (d : Option Desc)
  /-- DESCRIPTOR_START (R465): A fetched descriptor starts once its queue ordering or FENCE allows. -/
  | descriptorStart (q : Nat) (slot : Nat)
  /-- NOP (R453): NOP completes OK with no effect. -/
  | nop (src : JobSrc) (d : Desc)
  /-- MCTP_REQUEST (R474): An MCTP request over I3C carries a command descriptor and its input. -/
  | mctpRequest (tag : Fin 8) (d : Desc) (inp : Bytes)
  /-- HOST_NEGOTIATE (R493): Selects the highest common host command set version for the transport. -/
  | hostNegotiate (src : JobSrc) (d : Desc)
  /-- GET_EPOCH (R495): Returns the current command epoch with PENDING and EXHAUSTED. -/
  | getEpoch (src : JobSrc) (d : Desc)
  /-- ISSUER_LIST (R495): Returns the 64 issuer records. -/
  | issuerList (src : JobSrc) (d : Desc)
  /-- ENVELOPE (R477): Checks an authenticated envelope and, once accepted, consumes its counter and runs its command. -/
  | envelope (src : JobSrc) (d : Desc) (io : JobIo)
  /-- ENVELOPE_EPOCH_TIMEOUT (R481): An envelope waiting for the epoch commit times out with COMMIT_DEFERRED. -/
  | envelopeEpochTimeout (ix : Nat)
  /-- ISSUER_BOOTSTRAP (R488): Registers the owner issuer from an owner-signed bootstrap record. -/
  | issuerBootstrap (src : JobSrc) (d : Desc) (io : JobIo)
  /-- CMD_LC_TRANSITION (R498): Envelope command requesting a life-cycle transition. -/
  | cmdLcTransition
  /-- CMD_DEBUG_GRANT (R496): Envelope command presenting a debug certificate. -/
  | cmdDebugGrant
  /-- CMD_KEY_IMPORT (R496): Envelope command importing a sealed key record. -/
  | cmdKeyImport
  /-- CMD_POLICY_SET (R496): Envelope command blowing a policy or owner key-hash fuse field. -/
  | cmdPolicySet
  /-- CMD_IMAGE_ACTIVATE (R607): Envelope command activating the newer valid slot of a class. -/
  | cmdImageActivate (scan : ClassScan)
  /-- CMD_REVOKE (R497): Envelope command blowing an image-key revocation bit. -/
  | cmdRevoke (imgs : List ImageSeen)
  /-- CMD_BLOB_EPOCH_ADVANCE (R496): Envelope command advancing a blob epoch domain. -/
  | cmdBlobEpochAdvance
  /-- CMD_EPOCH_ADVANCE (R483): Envelope command committing the next command epoch. -/
  | cmdEpochAdvance
  /-- CMD_ISSUER_REGISTER (R489): Envelope command registering a new issuer by ML-KEM encapsulation. -/
  | cmdIssuerRegister
  /-- CMD_ISSUER_REMOVE (R491): Envelope command removing an issuer. -/
  | cmdIssuerRemove
  /-- HART_RESET (R507): HART_CTRL.RESET restarts a service hart at the runtime entry and frees its resources. -/
  | hartReset (m : Master) (h : Fin 5)
  /-- HART_WAKE (R505): HART_CTRL.WAKE resumes a parked hart. -/
  | hartWake (m : Master) (h : Fin 5)
  /-- HART_WFI (R505): A hart executes WFI and parks. -/
  | hartWfi (h : Fin 5) (mie : Word) (rx : Word) (tx : Word)
  /-- HART_GATE (R506): A service hart parked 100 µs with GATE set has its domain power-gated. -/
  | hartGate (h : Fin 5)
  /-- HART_ACCESS_FAULT (R503): A disallowed, misaligned or uncorrectable hart access takes an access fault and counts BUS_ERR. -/
  | hartAccessFault (h : Fin 5) (addr : Nat) (fault : HartFault)
  /-- LOCKSTEP_MISMATCH (R508): The hart 0 cores disagree, resetting or stopping hart 0 or halting the ROM. -/
  | lockstepMismatch
  /-- RING_ENABLE (R513): RING_CTRL.ENABLE enables a hart job ring. -/
  | ringEnable (m : Master) (h : Fin 5)
  /-- RING_DISABLE (R513): RING_CTRL.DISABLE drains a hart job ring. -/
  | ringDisable (m : Master) (h : Fin 5)
  /-- RING_DOORBELL (R513): A write of mxrtail submits descriptors on the hart ring. -/
  | ringDoorbell (h : Fin 5) (v : Word)
  /-- RING_CQ_HEAD (R513): A write of mxcqhead frees consumed ring completions. -/
  | ringCqHead (h : Fin 5) (v : Word)
  /-- DBG_HALT (R511): DBG_CTRL.HALT halts harts allowed by the debug rights. -/
  | dbgHalt (m : Master) (v : Word)
  /-- DBG_RESUME (R511): DBG_CTRL.RESUME resumes halted harts. -/
  | dbgResume (m : Master) (v : Word)
  /-- JDC_TX_WRITE (R512): Hart 0 writes a word for the probe and TX_FULL sets. -/
  | jdcTxWrite (m : Master) (v : Word)
  /-- JDC_RX_WRITE (R512): JTAG writes a word for hart 0 and RX_FULL sets. -/
  | jdcRxWrite (m : Master) (v : Word)
  /-- JDC_TX_READ (R512): A JTAG read of JDC_TX clears TX_FULL. -/
  | jdcTxRead (m : Master)
  /-- JDC_RX_READ (R512): A hart 0 read of JDC_RX clears RX_FULL. -/
  | jdcRxRead (m : Master)
  /-- BT_ENTRY_WRITE (R517): An accepted binding-table write rebinds a channel and clears it. -/
  | btEntryWrite (m : Master) (c : Fin 32) (v : Word)
  /-- CH_SEND (R520): SEND copies the TX window into the RX window and marks the channel FULL. -/
  | chSend (m : Master) (c : Fin 32)
  /-- CH_TAKE (R521): TAKE empties a FULL channel and gives an EMPTY notice. -/
  | chTake (m : Master) (c : Fin 32)
  /-- CH_TIMEOUT (R524): A message stays untaken for CH_TIMEOUT µs and a TIMEOUT notice is given. -/
  | chTimeout (c : Fin 32)
  /-- I3C_AGENT_RESET (R668): A Target Reset or RSTDAA resets the I3C agent as a master reset. -/
  | i3cAgentReset
  /-- JTAG_DISCONNECT (R669): TRST_N held low disconnects JTAG as a master reset. -/
  | jtagDisconnect
  /-- CVN_CFG_WRITE (R531): A CVN_CFG write configures Caravan; ENABLE = 0 takes every port down. -/
  | cvnCfgWrite (m : Master) (v : Word)
  /-- CVN_BLOCK_LOCK (R532): Both lanes of a port reach block lock and the handshake begins with HELLO. -/
  | cvnBlockLock (p : Fin 3)
  /-- CVN_HELLO_RX (R532): A HELLO frame arrives during the handshake and keys are derived. -/
  | cvnHelloRx (p : Fin 3) (f : HelloFrame)
  /-- CVN_CONFIRM_RX (R532): The peer CONFIRM is checked and the port becomes UP or FAILED. -/
  | cvnConfirmRx (p : Fin 3) (f : CvnFrame)
  /-- CVN_HANDSHAKE_TIMEOUT (R534): A port not UP within 10 ms of block lock goes FAILED. -/
  | cvnHandshakeTimeout (p : Fin 3)
  /-- CVN_PORT_RESTART (R534): PORT_CTRL.RESTART restarts the handshake on a port. -/
  | cvnPortRestart (m : Master) (v : Word)
  /-- CVN_PORT_DOWN (R531): A port loses its link, its key is destroyed and LINK_DOWN is counted. -/
  | cvnPortDown (p : Fin 3)
  /-- CVN_TRAIN (R539): CVN_CMD.TRAIN on the root starts address training. -/
  | cvnTrain (m : Master)
  /-- CVN_TRAIN_RX (R539): A TRAIN frame assigns a node address or marks it unaddressed and continues the walk. -/
  | cvnTrainRx (p : Fin 3) (f : CvnFrame)
  /-- CVN_SWEEP_RX (R544): A SWEEP frame is checked, countersigned or marked LATE, and forwarded or ended at the root. -/
  | cvnSweepRx (p : Fin 3) (f : CvnFrame)
  /-- SWEEP_LOST_TIMEOUT (R546): No sweep frame returns by twice the deadline and RESULT becomes LOST. -/
  | sweepLostTimeout
  /-- SWEEP_MISSED_CHECK (R547): A non-root node's deadline passes with no later sweep and SWEEP_MISSED is counted. -/
  | sweepMissedCheck
  /-- CVN_NOTICE_RX (R550): A NOTICE fragment is stored and a complete object sets RX_STATUS.FULL. -/
  | cvnNoticeRx (p : Fin 3) (f : CvnFrame)
  /-- CVN_RECOVER_RX (R555): A RECOVER fragment is stored for hart 0. -/
  | cvnRecoverRx (p : Fin 3) (f : CvnFrame)
  /-- CVN_FORWARD (R551): CVN_CMD.FORWARD sends the held object on and clears FULL. -/
  | cvnForward (m : Master) (imgs : List ImageSeen)
  /-- CVN_DROP (R551): CVN_CMD.DROP clears FULL and sends nothing. -/
  | cvnDrop (m : Master)
  /-- CVN_SEND_NOTICE (R551): CVN_CMD.SEND_NOTICE broadcasts the notice object at TX_BASE. -/
  | cvnSendNotice (m : Master)
  /-- CVN_SEND_RECOVER (R555): CVN_CMD.SEND_RECOVER sends a RECOVER frame from TX_BASE. -/
  | cvnSendRecover (m : Master)
  /-- CVN_TIME_SEND (R552): The root sends a TIME frame at LU 0 of each HC while TIME_HC is set. -/
  | cvnTimeSend
  /-- CVN_TIME_RX (R553): A TIME frame is checked against the rack position and forwarded. -/
  | cvnTimeRx (p : Fin 3) (f : CvnFrame)
  /-- CVN_TIME_CAL (R554): TIME_CAL.CAL calibrates the rack offset over 16 TIME frames. -/
  | cvnTimeCal (m : Master)
  /-- CVN_CREDIT_RX (R538): A CREDIT frame returns credits to the sender. -/
  | cvnCreditRx (p : Fin 3) (f : CvnFrame)
  /-- CVN_CREDIT_SEND (R538): With no frame due within 1 µs, a receiver sends a CREDIT frame. -/
  | cvnCreditSend (p : Fin 3)
  /-- EXC_DATA_READ (R559): A read of EXC_DATA returns an exception entry and advances the index. -/
  | excDataRead (m : Master)
  /-- TK_MAC_VERIFY (R571): Verifies a DUKPT-AES MAC and presents its counter. -/
  | tkMacVerify (src : JobSrc) (d : Desc) (io : JobIo)
  /-- TK_MAC_GENERATE (R571): Generates a MAC for a counter already presented. -/
  | tkMacGenerate (src : JobSrc) (d : Desc) (io : JobIo)
  /-- TK_PIN_TRANSLATE (R571): Translates a format 4 PIN block from the terminal key to a zone key. -/
  | tkPinTranslate (src : JobSrc) (d : Desc) (io : JobIo)
  /-- TK_IK_DERIVE (R573): Derives a terminal initial key from a BDK into a record or a local context. -/
  | tkIkDerive (src : JobSrc) (d : Desc) (io : JobIo)
  /-- TK_STATE (R571): Returns a terminal context's counter state. -/
  | tkState (src : JobSrc) (d : Desc) (io : JobIo)
  /-- TKS_JOB_START (R567): A TKS job starts when the previous job on its context has ended and a pipeline is free. -/
  | tksJobStart (ix : Nat)
  /-- TKS_JOB_DONE (R568): A TKS job ends, updating the counter window and cache on OK. -/
  | tksJobDone (pipe : Fin 8)
  /-- TKS_PIPE_FAULT (R577): A pipeline faults, leaves service and ends its job INTERNAL. -/
  | tksPipeFault (pipe : Fin 8)
  /-- SENSOR_TRIP (R583): A tamper sensor class trips. -/
  | sensorTrip (cause : Fin 13)
  /-- THERM_CONTAIN_LIFT (R586): After 1 s inside the limits with margin, the admission block lifts. -/
  | thermContainLift
  /-- VBAT_LOW (R586): VBAT falls below 2.5 V. -/
  | vbatLow
  /-- VBAT_MISSING (R586): VBAT falls below 2.0 V with VDD_AON valid and the battery domain moves to VDD_AON. -/
  | vbatMissing
  /-- BATTERY_DOMAIN_START (R591): The battery domain starts from no supply and sets the latch with BAT_POR. -/
  | batteryDomainStart
  /-- LOOP_ARM_WRITE (R584): A LOOP_ARM write sets arm bits of external loops. -/
  | loopArmWrite (m : Master) (v : Word)
  /-- PWR_REQ_STANDBY (R596): PWR_REQ STANDBY stops the host link, Caravan and TKS. -/
  | pwrReqStandby (m : Master)
  /-- PWR_REQ_RETAIN (R598): PWR_REQ RETAIN holds masters, wipes the Cellar and drives CORE_EN low. -/
  | pwrReqRetain (m : Master)
  /-- PWR_REQ_ACTIVE (R597): PWR_REQ ACTIVE powers the gated blocks again from STANDBY. -/
  | pwrReqActive (m : Master)
  /-- STANDBY_ENTRY_DONE (R596): Running TKS jobs end, blocks are gated and the state becomes STANDBY. -/
  | standbyEntryDone
  /-- ACTIVE_RETURN_DONE (R597): Gated blocks are powered and the state becomes ACTIVE. -/
  | activeReturnDone
  /-- RETAIN_ENTRY_DONE (R598): The Cellar wipe completes and CORE_EN is driven low. -/
  | retainEntryDone
  /-- WAKE_N_EDGE (R599): A falling edge on WAKE_N wakes the device from RETAIN. -/
  | wakeNEdge
  /-- GP_PIN_EDGE (R616): An edge on a general-purpose pin restarts a watchdog period or acts as a GPIO wake. -/
  | gpPinEdge (p : Fin 16) (rise : Bool)
  /-- PERST_ASSERT (R666): PERST_N asserts and acts as a link-down. -/
  | perstAssert
  /-- PERST_DEASSERT (R599): PERST_N deasserts, a PERST wake source. -/
  | perstDeassert
  /-- WAKE_TIMEOUT (R600): PWR_OK has not risen 500 ms after a wake and CORE_EN is driven low again. -/
  | wakeTimeout
  /-- WATCHDOG_EXPIRE (R616): A master watchdog period passes without a heartbeat edge and its line is forced. -/
  | watchdogExpire (w : Fin 8)
  /-- RECOVER_HOLD (R620): RECOVER ACTION HOLD sets HOLD_REQ for a class's lines until the next boot. -/
  | recoverHold (cls : Fin 64)
  /-- RECOVER_SUBSTITUTE (R620): RECOVER ACTION SUBSTITUTE substitutes a class as for a watchdog expiry. -/
  | recoverSubstitute (cls : Fin 64)
  /-- RECOVER_RESTORE (R620): RECOVER ACTION RESTORE runs an enclosed IMAGE_ACTIVATE envelope. -/
  | recoverRestore (cls : Fin 64) (env : Bytes)
  /-- RECOVER_REPORT (R620): RECOVER ACTION REPORT returns the node record to the root. -/
  | recoverReport
  /-- DRBG_RESEED (R624): The DRBG reseeds and a SEED record is written. -/
  | drbgReseed
  /-- CHECKPOINT_WRITE (R637): A hart writes CHECKPOINT and a record with its output digest is made. -/
  | checkpointWrite (m : Master) (v : Word)
  /-- EXPORT_START_DMA (R627): EXP_CTRL.START_DMA starts a sealed export to PF0 memory. -/
  | exportStartDma (m : Master)
  /-- EXPORT_START_WIN (R627): EXP_CTRL.START_WIN starts a sealed export read through EXP_DATA. -/
  | exportStartWin (m : Master)
  /-- EXPORT_ABORT (R630): EXP_CTRL.ABORT ends a running export FAILED. -/
  | exportAbort (m : Master)
  /-- EXPORT_DATA_READ (R627): A read of EXP_DATA returns the next word of the export. -/
  | exportDataRead (m : Master)
  /-- EXPORT_DONE (R630): The last export byte is written or read, STATE becomes DONE and EXPORTED may set. -/
  | exportDone (ok : Bool)
  /-- REPLAY_ENTER (R632): REPLAY_CTRL.ENTER sets replay PENDING and resets the device. -/
  | replayEnter (m : Master)
  /-- REPLAY_DIVERGE (R634): A replayed access or checkpoint differs from the stream and replay stops DIVERGED. -/
  | replayDiverge
  /-- REPLAY_END (R634): A GAP record or the end of the stream stops replay with DONE. -/
  | replayEnd
  /-- HALF_CYCLE_BOUNDARY (R304): The line oscillator's fraction wraps, the HC count increments and CONFIRMED is set anew for the new HC, for example for each synthetic HC in DC_FEED. -/
  | halfCycleBoundary
  /-- BANK_VOLTAGE_RETURN (R189): The VDDIO_FPn bank of an enabled port comes back into range, and the port leaves FAULT for ACTIVE. -/
  | bankVoltageReturn (p : Fin 16) (code : Fin 8)
  /-- VBAT_RETURN (R664): VBAT rises back to 2.0 V or more, the battery domain switches back to VBAT and ON_AON clears. -/
  | vbatReturn
  /-- MAIN_ROAD_START_AFTER_CORE_EN (R647): CORE_EN rose while PWR_OK was already high, and 3 ms later the main road starts at step 1. -/
  | mainRoadStartAfterCoreEn
  /-- JTAG_CONNECT (R669): TRST_N is released with a probe fitted, JTAG connects and DBG_STATUS.ATTACHED sets. -/
  | jtagConnect
  /-- SRAM_CORRECTED_ERROR (R88): A single-bit or double-bit SRAM error is corrected, and SRAM_CE1 or SRAM_CE2 is counted. -/
  | sramCorrectedError (double : Bool)
  /-- PLL_UNLOCK (R88): A core PLL loses lock, and the SYS event PLL_UNLOCK is counted. -/
  | pllUnlock
  /-- REFCLK_LOSS (R88): The PCIe reference clock is lost, and the SYS event REFCLK_LOSS is counted. -/
  | refclkLoss
  /-- FABRIC_TIMEOUT (R88): An internal fabric request runs out its time limit, and the SYS event FABRIC_TIMEOUT is counted. -/
  | fabricTimeout
  /-- AER_ERR (R442): The PCIe link reports a receiver error, data-link replay or AER error, which counts RX_ERRS or REPLAYS and the link source AER_ERR. -/
  | aerErr (kind : LinkErr)
  deriving DecidableEq, Repr

end Sys2Proof
end

