-- ==== Sys2Proof/Decode.lean ====
section
/-! DEFINITION. The commands that a word spells by the bits of the table. The table gives no row any bits: the block has no
encoding of commands, so no word spells one. -/
namespace Sys2Proof

/-- The command that a word spells: the table gives no row bits, so none. -/
def decodeTableWord (_nbits _w : Nat) : Option Instr := none

end Sys2Proof
end

