-- ==== Sys2Proof/Machine/Bits.lean ====
section
/-! DEFINITION. Bit fields of register words, saturating counts and the little-endian byte order of R3. -/
namespace Sys2Proof

/-- Field `[hi:lo]` of a word, as a number. -/
def Word.field (w : Word) (hi lo : Nat) : Nat := (w.toNat >>> lo) % 2 ^ (hi + 1 - lo)
/-- Bit `i` of a word. -/
def Word.bit (w : Word) (i : Nat) : Bool := w.getLsbD i
/-- The word with field `[hi:lo]` replaced by `v`. -/
def Word.setField (w : Word) (hi lo v : Nat) : Word :=
  BitVec.ofNat 32 (w.toNat - Word.field w hi lo * 2 ^ lo + (v % 2 ^ (hi + 1 - lo)) * 2 ^ lo)
/-- The word with bit `i` set to `b`. -/
def Word.setBit (w : Word) (i : Nat) (b : Bool) : Word := Word.setField w i i b.toNat
/-- A word from a number. -/
def wd (n : Nat) : Word := BitVec.ofNat 32 n
/-- A field value `v` placed at bit `lo`. -/
def fld (v lo : Nat) : Word := BitVec.ofNat 32 (v * 2 ^ lo)
/-- A flag placed at bit `lo`. -/
def flg (b : Bool) (lo : Nat) : Word := if b then fld 1 lo else 0
/-- A count that stops at `max`. -/
def satAdd (max a n : Nat) : Nat := min max (a + n)
/-- A register count that saturates at 0xFFFF_FFFF. -/
def satInc (w : Word) : Word := if w = 0xFFFFFFFF then w else w + 1
/-- A field count that saturates at its width's maximum. -/
def Word.satField (w : Word) (hi lo : Nat) : Word :=
  Word.setField w hi lo (satAdd (2 ^ (hi + 1 - lo) - 1) (Word.field w hi lo) 1)
/-- The bits of a word that are 1, lowest first. -/
def Word.ones (w : Word) : List Nat := (List.range 32).filter (fun i => w.getLsbD i)

/-- `n` bytes of a number, least significant first (R3). -/
def leBytes (n v : Nat) : Bytes := (List.range n).map (fun i => BitVec.ofNat 8 (v >>> (8 * i)))
/-- The number that little-endian bytes hold (R3). -/
def leNat (bs : Bytes) : Nat := bs.foldr (fun b a => b.toNat + 256 * a) 0
/-- `n` bytes of a number, most significant first. -/
def beBytes (n v : Nat) : Bytes := (leBytes n v).reverse
/-- The number that big-endian bytes hold. -/
def beNat (bs : Bytes) : Nat := leNat bs.reverse
/-- Bytes `o` to `o + n - 1` of a byte string. -/
def Bytes.slice (bs : Bytes) (o n : Nat) : Bytes := (bs.drop o).take n
/-- A little-endian number at an offset of a byte string. -/
def Bytes.num (bs : Bytes) (o n : Nat) : Nat := leNat (Bytes.slice bs o n)
/-- A byte at an offset; 0 beyond the end. -/
def Bytes.at (bs : Bytes) (o : Nat) : Byte := bs.getD o 0
/-- `n` zero bytes. -/
def zeros (n : Nat) : Bytes := List.replicate n 0
/-- The byte string cut or zero-filled to `n` bytes. -/
def Bytes.fit (bs : Bytes) (n : Nat) : Bytes := (bs.take n) ++ zeros (n - bs.length)
/-- The bytes of a list of words, each little-endian. -/
def wordsBytes (ws : List Word) : Bytes := ws.flatMap (fun w => leBytes 4 w.toNat)
/-- Word `i` of a byte string, little-endian. -/
def Bytes.word (bs : Bytes) (i : Nat) : Word := wd (Bytes.num bs (4 * i) 4)
/-- Two byte strings added byte for byte modulo 2. -/
def xorBytes (a b : Bytes) : Bytes := List.zipWith (fun x y => x ^^^ y) a b
/-- All bytes are 0. -/
def allZero (bs : Bytes) : Bool := bs.all (fun b => b == 0)
/-- Division rounded up. -/
def ceilDiv (a b : Nat) : Nat := (a + b - 1) / b
/-- A signed number held in the low `n` bits. -/
def signed (n v : Nat) : Int := if v % 2 ^ n < 2 ^ (n - 1) then ((v % 2 ^ n : Nat) : Int) else ((v % 2 ^ n : Nat) : Int) - (2 ^ n : Nat)
/-- The low `n` bits of a signed number. -/
def unsigned (n : Nat) (i : Int) : Nat := (i % ((2 ^ n : Nat) : Int)).toNat
/-- A signed number held between two bounds. -/
def clampInt (lo hi i : Int) : Int := max lo (min hi i)

end Sys2Proof
end

