-- ==== Sys2Proof/Config.lean ====
section
/-! DEFINITION. What the spec leaves to an implementation or to a standard outside it: the cryptographic functions that
its rules name by standard, the constants held in ROM, the random draws, and the free values. None has a body, so no
statement can lean on a value of theirs. -/
namespace Sys2Proof.Config

/-- Byte `i` of the hash of a message under a digest algorithm code of R277 (FIPS 180-4, FIPS 202; output length given). -/
opaque hashByte (alg : Nat) (outLen : Nat) (msg : Bytes) (i : Nat) : Byte
/-- Byte `i` of a keyed digest: HMAC or KMAC by the algorithm code of R277 (FIPS 198-1, SP 800-185). -/
opaque macByte (alg : Nat) (outLen : Nat) (key cust msg : Bytes) (i : Nat) : Byte
/-- Byte `i` of the AES-256 counter keystream of a key and a 12-byte nonce in GCM. -/
opaque gcmStreamByte (key iv : Bytes) (i : Nat) : Byte
/-- Byte `i` of the AES-GCM tag over associated data and ciphertext. -/
opaque gcmTagByte (key iv aad ct : Bytes) (i : Nat) : Byte
/-- Byte `i` of AES encryption of one 16-byte block, key length by the key (FIPS 197). -/
opaque aesBlockByte (key block : Bytes) (i : Nat) : Byte
/-- Byte `i` of AES decryption of one 16-byte block. -/
opaque aesInvByte (key block : Bytes) (i : Nat) : Byte
/-- Byte `i` of the AES-CMAC of a message (SP 800-38B). -/
opaque cmacByte (key msg : Bytes) (i : Nat) : Byte
/-- ECDSA verification over a curve (256 or 384) of a digest (FIPS 186-5). -/
opaque ecdsaVerify (curve : Nat) (pub digest sig : Bytes) : Bool
/-- Byte `i` of an ECDSA signature; `r` is the random draw mixed in (R398). -/
opaque ecdsaSignByte (curve : Nat) (priv digest r : Bytes) (i : Nat) : Byte
/-- ML-DSA verification with an empty context (FIPS 204); `lvl` is 65 or 87. -/
opaque mldsaVerify (lvl : Nat) (pub msg sig : Bytes) : Bool
/-- Byte `i` of a hedged ML-DSA signature from a seed. -/
opaque mldsaSignByte (lvl : Nat) (seed msg r : Bytes) (i : Nat) : Byte
/-- LMS verification (SP 800-208). -/
opaque lmsVerify (pub msg sig : Bytes) : Bool
/-- Byte `i` of the public key of a private key of a context type (R383). -/
opaque pubKeyByte (type : Nat) (material : Bytes) (i : Nat) : Byte
/-- Byte `i` of an ML-KEM-1024 ciphertext to a public key under a draw (FIPS 203). -/
opaque kemCtByte (pub r : Bytes) (i : Nat) : Byte
/-- Byte `i` of the ML-KEM-1024 shared secret that encapsulation gives. -/
opaque kemSecretByte (pub r : Bytes) (i : Nat) : Byte
/-- Byte `i` of the shared secret of a decapsulation or of an ECDH exchange, by context type; `none` for a malformed peer value. -/
opaque kexSecretByte (type : Nat) (material peer : Bytes) (i : Nat) : Byte
/-- Whether a peer value of a key exchange is well formed, by context type; type 0 asks it of an ML-KEM-1024 public key. -/
opaque kexPeerOk (type : Nat) (peer : Bytes) : Bool
/-- The place at which position `k` enters the bit permutation that the die's 12-bit selector chooses (R367). -/
opaque permPick (sel k : Nat) : Nat
/-- The chain from a root to the identity certificate over a public key of a slot (0 vendor, 1 owner), ECDSA or ML-DSA, as the home-area records
hold it (R431, R435); empty where there is none. -/
opaque idChain (slot : Nat) (pq : Bool) (key : Bytes) : Bytes
/-- Digest of the root certificate of a chain. -/
opaque rootHash (slot i : Nat) : Byte
/-- The DER form of the fields of a certificate that is to be signed (R432). -/
opaque derTbs (fields : List Bytes) : Bytes
/-- The DER form of a signed certificate. -/
opaque derCert (tbs sig : Bytes) : Bytes
/-- Byte `i` of a key hash held in ROM (R338, R339): 1 vendor tester, 2 vendor life-cycle, 3 vendor debug. -/
opaque romKeyHashByte (which i : Nat) : Byte
/-- Byte `i` of the vendor recorder's ML-KEM public key in ROM (R629). -/
opaque romRecorderKeyByte (i : Nat) : Byte
/-- Byte `i` of SHA-384 of the 256 KB ROM (R413): the ROM's contents are not given. -/
opaque romIdByte (i : Nat) : Byte
/-- Byte `i` of draw `n` of the DRBG. -/
opaque drbgByte (n i : Nat) : Byte
/-- Byte `i` of the transport key that the ephemeral provisioning key agreed with the vendor service (R371). -/
opaque rootTransportByte (eph : Bytes) (i : Nat) : Byte
/-- Byte `i` of one DUKPT-AES intermediate step: key length code, key, Initial Key ID, and the counter with the bits up to
this step (X9.24-3). -/
opaque dukptStepByte (alg : Nat) (key ikId : Bytes) (tc i : Nat) : Byte
/-- Byte `i` of the DUKPT-AES working-key derivation: key length code, working-key algorithm and usage (R564). -/
opaque dukptWorkByte (alg wk usage : Nat) (key ikId : Bytes) (tc i : Nat) : Byte
/-- Byte `i` of the DUKPT-AES initial key of an Initial Key ID from a base derivation key. -/
opaque dukptIkByte (bdk ikId : Bytes) (i : Nat) : Byte
/-- Whether a PK_VERIFY input verifies under an algorithm code and form: the spec gives its input no layout (R397, R398). -/
opaque pkInputOk (alg form : Nat) (input : Bytes) : Bool
/-- Free value number `n`: a value that the spec leaves open, nothing constrains it. -/
opaque freeWord (n : Nat) : Word
/-- Byte `i` of free byte string number `n`. -/
opaque freeByte (n i : Nat) : Byte

/-- The first `n` bytes that a byte function gives. -/
def take (n : Nat) (f : Nat → Byte) : Bytes := (List.range n).map f

/-- Bytes of draw `n` of the DRBG. -/
def drbg (n len : Nat) : Bytes := take len (drbgByte n)
/-- A free byte string. -/
def freeBytes (n len : Nat) : Bytes := take len (freeByte n)

end Sys2Proof.Config
end

