-- ==== Sys2Proof/Machine/Crypto.lean ====
section
/-! DEFINITION. The cryptographic functions as the rules use them, over the uninterpreted primitives of Config: digests,
the KDF of R377, AES-GCM sealing, the block-hash tree of R233 to R235, CRC-32C, and the manifest fields of R116 to R120. -/
namespace Sys2Proof.Machine

/-- Digest algorithms of R277 with a fixed output. -/
def sha256 (m : Bytes) : Bytes := Config.take 32 (Config.hashByte 1 32 m)
/-- SHA-384 (FIPS 180-4). -/
def sha384 (m : Bytes) : Bytes := Config.take 48 (Config.hashByte 2 48 m)
/-- SHA-512. -/
def sha512 (m : Bytes) : Bytes := Config.take 64 (Config.hashByte 3 64 m)
/-- SHA3-256 (FIPS 202). -/
def sha3_256 (m : Bytes) : Bytes := Config.take 32 (Config.hashByte 4 32 m)
/-- Output length of a digest algorithm (R277). -/
def algOutLen (alg outLen : Nat) : Nat :=
  match alg with
  | 1 => 32 | 2 => 48 | 3 => 64 | 4 => 32 | 5 => 48 | 6 => 64 | 9 => 32 | 0xA => 48 | 0xB => 64
  | _ => outLen
/-- Block length in bytes of a digest algorithm (R277). -/
def algBlock (alg : Nat) : Nat :=
  match alg with
  | 1 => 64 | 2 => 128 | 3 => 128 | 4 => 136 | 5 => 104 | 6 => 72 | 7 => 168 | 8 => 136 | 9 => 64
  | 0xA => 128 | 0xB => 128 | 0xC => 168 | 0xD => 136 | _ => 1
/-- The digest of a message under an algorithm code of R277. -/
def digestOf (alg outLen : Nat) (key cust msg : Bytes) : Bytes :=
  let n := algOutLen alg outLen
  if alg ≤ 8 then Config.take n (Config.hashByte alg n msg) else Config.take n (Config.macByte alg n key cust msg)
/-- The ASCII bytes of a text. -/
def ascii (s : String) : Bytes := s.toList.map (fun c => BitVec.ofNat 8 c.toNat)
/-- KMAC256 with an output length in bytes (SP 800-185). -/
def kmac256 (key x : Bytes) (len : Nat) (cust : Bytes) : Bytes := Config.take len (Config.macByte 0xD len key cust x)
/-- KDF(K, X, S) of R377. -/
def kdf (k x : Bytes) (s : String) : Bytes := kmac256 k x 32 (ascii s)
/-- HMAC-SHA-384 (FIPS 198-1). -/
def hmac384 (key m : Bytes) : Bytes := Config.take 48 (Config.macByte 0xA 48 key [] m)
/-- HMAC-SHA-256. -/
def hmac256 (key m : Bytes) : Bytes := Config.take 32 (Config.macByte 9 32 key [] m)

/-- AES-256-GCM encryption of a plaintext. -/
def gcmCrypt (key iv pt : Bytes) : Bytes := xorBytes pt (Config.take pt.length (Config.gcmStreamByte key iv))
/-- The 16-byte AES-256-GCM tag. -/
def gcmTag (key iv aad ct : Bytes) : Bytes := Config.take 16 (Config.gcmTagByte key iv aad ct)
/-- AES-256-GCM sealing: ciphertext and tag. -/
def gcmSeal (key iv aad pt : Bytes) : Bytes × Bytes :=
  let ct := gcmCrypt key iv pt
  (ct, gcmTag key iv aad ct)
/-- AES-256-GCM opening: the plaintext only if the tag verifies. -/
def gcmOpen (key iv aad ct tag : Bytes) : Option Bytes :=
  if gcmTag key iv aad ct = tag then some (gcmCrypt key iv ct) else none

/-- CRC-32C (Castagnoli), reflected, initial value and final complement all ones. -/
def crc32cByte (crc : Nat) (b : Byte) : Nat :=
  (List.range 8).foldl (fun c _ => if c % 2 = 1 then (c / 2) ^^^ 0x82F63B78 else c / 2) (crc ^^^ b.toNat)
/-- CRC-32C over a byte string (R372, R608). -/
def crc32c (bs : Bytes) : Nat := (bs.foldl crc32cByte 0xFFFFFFFF) ^^^ 0xFFFFFFFF

/-- Hash of a tree leaf or node: SHA-256 for HASH_ALG 0, SHA3-256 for 1 (R233). -/
def treeHash (hashAlg : Nat) (bs : Bytes) : Bytes := if hashAlg = 0 then sha256 bs else sha3_256 bs
/-- A byte string cut into pieces of `n` bytes; the fuel bounds the number of pieces. -/
def chunks (n fuel : Nat) (bs : Bytes) : List Bytes :=
  match fuel with
  | 0 => []
  | f + 1 => if bs.isEmpty then [] else bs.take n :: chunks n f (bs.drop n)
/-- The leaves of a body, one per 4,096-byte block (R233). -/
def treeLeaves (hashAlg : Nat) (body : Bytes) : List Bytes :=
  (chunks 4096 (body.length / 4096 + 1) body).map (treeHash hashAlg)
/-- One level of nodes from child hashes, 32 children a node, missing children 32 zero bytes (R234). -/
def treeLevel (fuel : Nat) (hs : List Bytes) : List Bytes :=
  match fuel with
  | 0 => []
  | f + 1 =>
    if hs.isEmpty then []
    else
      let g := hs.take 32
      (g.flatten ++ zeros (32 * (32 - g.length))) :: treeLevel f (hs.drop 32)
/-- The tree root over child hashes, by at most `fuel` levels (R234). -/
def treeRootFrom (hashAlg fuel : Nat) (hs : List Bytes) : Bytes :=
  match fuel with
  | 0 => []
  | f + 1 =>
    let nodes := treeLevel (hs.length + 1) hs
    let nh := nodes.map (treeHash hashAlg)
    if nodes.length ≤ 1 then nh.headD [] else treeRootFrom hashAlg f nh
/-- TREE_ROOT over a body (R234). -/
def treeRoot (hashAlg : Nat) (body : Bytes) : Bytes := treeRootFrom hashAlg 5 (treeLeaves hashAlg body)
/-- Number of nodes on level `l` (1 upward) of a tree over `nblk` blocks (R234). -/
def treeNodes (nblk l : Nat) : Nat :=
  match l with
  | 0 => nblk
  | k + 1 => ceilDiv (treeNodes nblk k) 32
/-- Depth of a tree over `nblk` blocks: the first level that holds one node (R234). -/
def treeDepth (nblk : Nat) : Nat :=
  if treeNodes nblk 1 ≤ 1 then 1 else if treeNodes nblk 2 ≤ 1 then 2 else if treeNodes nblk 3 ≤ 1 then 3 else 4
/-- Offset in the tree area of node `j` of level `l` (R235). -/
def treeOffset (nblk l j : Nat) : Nat :=
  1024 * (((List.range (treeDepth nblk + 1)).filter (fun k => decide (l < k))).foldl (fun a k => a + treeNodes nblk k) 0 + j)

/-- Fields of a Vebel manifest (R116, R117). -/
def manMagic (m : Bytes) : Nat := Bytes.num m 0 4
/-- VERSION. -/
def manVersion (m : Bytes) : Nat := Bytes.num m 4 2
/-- MANIFEST_LEN as written. -/
def manLenField (m : Bytes) : Nat := Bytes.num m 8 4
/-- The length that the staging window takes for a manifest: 4,096 or else 8,192 (R131). -/
def manLen (m : Bytes) : Nat := if manLenField m = 4096 then 4096 else 8192
/-- IMAGE_CLASS. -/
def manClass (m : Bytes) : Nat := Bytes.num m 0xC 1
/-- HASH_ALG. -/
def manHashAlg (m : Bytes) : Nat := Bytes.num m 0xD 1
/-- SEQUENCE. -/
def manSequence (m : Bytes) : Nat := Bytes.num m 0x10 4
/-- SECURITY_VERSION. -/
def manSecVersion (m : Bytes) : Nat := Bytes.num m 0x14 2
/-- KEY_SLOT. -/
def manKeySlot (m : Bytes) : Nat := Bytes.num m 0x16 1
/-- IMAGE_LEN. -/
def manImageLen (m : Bytes) : Nat := Bytes.num m 0x18 4
/-- ENTRY_OFFSET. -/
def manEntry (m : Bytes) : Nat := Bytes.num m 0x1C 4
/-- TREE_ROOT. -/
def manRoot (m : Bytes) : Bytes := Bytes.slice m 0x20 32
/-- TREE_OFFSET. -/
def manTreeOffset (m : Bytes) : Nat := Bytes.num m 0x40 8
/-- IMAGE_OFFSET. -/
def manImageOffset (m : Bytes) : Nat := Bytes.num m 0x48 8
/-- MAGIC, VERSION and MANIFEST_LEN agree (R116, R117, R133 check 2). -/
def manHeadOk (m : Bytes) (v2Allow : Bool) : Bool :=
  manMagic m == 0x4C424556 &&
    ((manVersion m == 3 && manLenField m == 8192) || (manVersion m == 2 && manLenField m == 4096 && v2Allow))
/-- The signed range (R118). -/
def manSigned (m : Bytes) : Bytes := if manVersion m = 3 then m.take 0xBE0 else m.take 0x1C0
/-- The key fields (R120). -/
def manKeys (m : Bytes) : Bytes := if manVersion m = 3 then Bytes.slice m 0x160 0xA80 else Bytes.slice m 0x160 0x60
/-- Every signature present verifies (R118, R120). -/
def manSigsOk (m : Bytes) : Bool :=
  if manVersion m = 3 then
    Config.ecdsaVerify 384 (Bytes.slice m 0x160 96) (sha384 (manSigned m)) (Bytes.slice m 0xBE0 96) &&
    Config.mldsaVerify 87 (Bytes.slice m 0x1C0 2592) (manSigned m) (Bytes.slice m 0xC40 4627)
  else Config.ecdsaVerify 384 (Bytes.slice m 0x160 96) (sha384 (manSigned m)) (Bytes.slice m 0x1C0 96)
/-- COMMIT is valid (R119). -/
def manCommitOk (m : Bytes) : Bool :=
  let o := if manVersion m = 3 then 0x1FF8 else 0xFF8
  Bytes.num m o 4 == manSequence m && Bytes.num m (o + 4) 4 == 0xA5C30F5A
/-- HASH_ALG is valid and the tree area and body lie inside a slot of `slotLen` bytes (R114, R120). -/
def manRegionsOk (m : Bytes) (slotLen : Nat) : Bool :=
  let nblk := manImageLen m / 4096
  let treeLen := 1024 * ((List.range (treeDepth nblk)).foldl (fun a k => a + treeNodes nblk (k + 1)) 0)
  decide (manHashAlg m ≤ 1) && decide (manImageLen m % 4096 = 0) &&
  decide (manTreeOffset m + treeLen ≤ slotLen) && decide (manImageOffset m + manImageLen m ≤ slotLen)

end Sys2Proof.Machine
end

