-- ==== Sys2Proof/Machine/RegMap.lean ====
section
/-! DEFINITION. The register map: which page sits at which address (R78, R84), how wide it decodes, what it can do, and
for every register its access code, reset value, lock class, writable bits and writer, as the register tables of the
chapters give them. -/
namespace Sys2Proof.Machine

/-- Access codes (R5); `rw64lo`, `rw64hi` are the halves of a writable 64-bit register (R37), `ctrlo`, `ctrhi` those of a
64-bit counter (R36). -/
inductive Code where
  | rw | rb | ro | lv | ec | ea | so | w1 | wo | pw
  deriving DecidableEq, Repr

/-- Width kind of a register word: plain, half of a writable pair (R37), or half of a 64-bit counter (R36). -/
inductive Half where
  | one | wideLo | wideHi | ctrLo | ctrHi
  deriving DecidableEq, Repr

/-- Lock classes (R6). -/
inductive LockClass where
  | none | c | k | p
  deriving DecidableEq, Repr

/-- Who may write a register beyond the page's own rules. -/
inductive Writer where
  | any | hart0 | queueOwner | pf0Hart0 | jtag | harts
  deriving DecidableEq, Repr

/-- One row of a register table: `cnt` registers from `off`, `stride` bytes apart. -/
structure RegRow where
  off : Nat
  cnt : Nat
  stride : Nat
  code : Code
  reset : Word
  lock : LockClass
  mask : Word
  who : Writer
  half : Half
  readEffect : Bool
  deriving DecidableEq, Repr

/-- The kinds of register page (R78). -/
inductive PageKind where
  | sysId | sysStrobe | sysSem | sysEvt | sysRoute | sysRouter | sysHart
  | lcf0 | lcf1 | boot0 | boot1 | cis0 | cis1 | tamp0 | tamp1 | cel0 | cel1 | cel2 | cel3
  | flr0 | flr1 | prst0 | prst1 | hart | hartDbg | dgl | fpPhy | fpCmd | fpReg | fpVer
  | hq | pciLink | pciFn | pciDoe | pciMsix | mbx | mbxBt | cvn0 | cvn1 | cvn2 | cvn3
  | tks0 | tks1 | tks2 | tks3 | vfInfo
  deriving DecidableEq, Repr

/-- What R78 says of a page: identity, decode width, capabilities and the event sources it carries. -/
structure PageInfo where
  kind : PageKind
  type : Nat
  inst : Nat
  page : Nat
  dw : Nat
  slow : Bool := false
  buffered : Bool := false
  groupable : Bool := false
  aliased : Bool := true
  secure : Bool := false
  src0 : Nat := 0
  nsrc : Nat := 0
  evtOff : Nat := 0
  ugroup : Nat := 0
  deriving DecidableEq, Repr

/-- First page number of the VF information pages in the model's own numbering; they lie outside PF0 BAR0 (R84). -/
def vfPageBase : Nat := 0x2000

/-- The page directory (R78, R84) by page number, that is BAR0 offset divided by 4,096. -/
def pageAt (pg : Nat) : Option PageInfo :=
  if pg < 0x10 then
    if pg = 0 then some { kind := .sysId, type := 1, inst := 0, page := 0, dw := 6 }
    else if pg = 1 then some { kind := .sysStrobe, type := 1, inst := 0, page := 1, dw := 5 }
    else if pg = 2 then some { kind := .sysSem, type := 1, inst := 0, page := 2, dw := 7 }
    else if pg = 3 then some { kind := .sysEvt, type := 1, inst := 0, page := 3, dw := 6, src0 := 0, nsrc := 16, evtOff := 0x40 }
    else if pg < 10 then some { kind := .sysRoute, type := 1, inst := 0, page := pg, dw := 7 }
    else if pg = 10 then some { kind := .sysRouter, type := 1, inst := 0, page := 10, dw := 6 }
    else some { kind := .sysHart, type := 1, inst := 0, page := pg, dw := 5 }
  else if pg < 0x40 then
    if pg = 0x10 then some { kind := .lcf0, type := 2, inst := 0, page := 0, dw := 6, slow := true, src0 := 16, nsrc := 8, evtOff := 0x80 }
    else if pg = 0x11 then some { kind := .lcf1, type := 2, inst := 0, page := 1, dw := 6, slow := true, secure := true }
    else if pg = 0x14 then some { kind := .boot0, type := 3, inst := 0, page := 0, dw := 6, src0 := 24, nsrc := 16, evtOff := 0x80 }
    else if pg = 0x15 then some { kind := .boot1, type := 3, inst := 0, page := 1, dw := 10 }
    else if pg = 0x18 then some { kind := .cis0, type := 4, inst := 0, page := 0, dw := 7, slow := true, src0 := 40, nsrc := 16, evtOff := 0x80 }
    else if pg = 0x19 then some { kind := .cis1, type := 4, inst := 0, page := 1, dw := 7, slow := true }
    else if pg = 0x1C then some { kind := .tamp0, type := 5, inst := 0, page := 0, dw := 6, slow := true, src0 := 316, nsrc := 16, evtOff := 0x80 }
    else if pg = 0x1D then some { kind := .tamp1, type := 5, inst := 0, page := 1, dw := 6, slow := true, secure := true }
    else if pg = 0x20 then some { kind := .cel0, type := 6, inst := 0, page := 0, dw := 6, src0 := 56, nsrc := 16, evtOff := 0x80 }
    else if pg = 0x21 then some { kind := .cel1, type := 6, inst := 0, page := 1, dw := 6, secure := true }
    else if pg = 0x22 then some { kind := .cel2, type := 6, inst := 0, page := 2, dw := 6, secure := true }
    else if pg = 0x23 then some { kind := .cel3, type := 6, inst := 0, page := 3, dw := 6, secure := true }
    else if pg = 0x28 then some { kind := .flr0, type := 7, inst := 0, page := 0, dw := 5, src0 := 340, nsrc := 4, evtOff := 0x60 }
    else if pg = 0x29 then some { kind := .flr1, type := 7, inst := 0, page := 1, dw := 5 }
    else if pg = 0x2C then some { kind := .prst0, type := 8, inst := 0, page := 0, dw := 6, buffered := true }
    else if pg = 0x2D then some { kind := .prst1, type := 8, inst := 0, page := 1, dw := 6, buffered := true }
    else if 0x30 ≤ pg ∧ pg ≤ 0x34 then some { kind := .hart, type := 9, inst := 0, page := pg - 0x30, dw := 6, secure := true }
    else if pg = 0x35 then some { kind := .hartDbg, type := 9, inst := 0, page := 5, dw := 6, secure := true, src0 := 344, nsrc := 8, evtOff := 0x80 }
    else none
  else if pg < 0x80 then
    if pg < 0x50 then
      some { kind := .dgl, type := 0x0A, inst := pg - 0x40, page := 0, dw := 6, buffered := true, groupable := true,
             src0 := 72 + 2 * (pg - 0x40), nsrc := 2, evtOff := 0x60, ugroup := 2 }
    else none
  else if pg < 0xC0 then
    let n := (pg - 0x80) / 4
    if pg % 4 = 0 then some { kind := .fpPhy, type := 0x0B, inst := n, page := 0, dw := 7, slow := true, buffered := true, groupable := true }
    else if pg % 4 = 1 then some { kind := .fpCmd, type := 0x0B, inst := n, page := 1, dw := 6, groupable := true, aliased := false }
    else if pg % 4 = 2 then some { kind := .fpReg, type := 0x0B, inst := n, page := 2, dw := 6, groupable := true, aliased := false }
    else some { kind := .fpVer, type := 0x0B, inst := n, page := 3, dw := 7, buffered := true, groupable := true,
                src0 := 104 + 6 * n, nsrc := 6, evtOff := 0xC0 }
  else if pg < 0x140 then
    if 0x100 ≤ pg then some { kind := .hq, type := 0x0C, inst := pg - 0x100, page := 0, dw := 5, src0 := 200 + (pg - 0x100), nsrc := 1, evtOff := 0x78 }
    else none
  else if pg = 0x140 then some { kind := .pciLink, type := 0x10, inst := 0, page := 0, dw := 7, src0 := 264, nsrc := 8, evtOff := 0x80 }
  else if pg = 0x141 then some { kind := .pciFn, type := 0x10, inst := 0, page := 1, dw := 7 }
  else if pg = 0x142 then some { kind := .pciDoe, type := 0x10, inst := 0, page := 2, dw := 7 }
  else if pg = 0x143 then some { kind := .pciMsix, type := 0x10, inst := 0, page := 3, dw := 10, aliased := false }
  else if 0x150 ≤ pg ∧ pg < 0x170 then
    some { kind := .mbx, type := 0x0D, inst := pg - 0x150, page := 0, dw := 6, src0 := 272 + (pg - 0x150), nsrc := 1, evtOff := 0x60 }
  else if pg = 0x170 then some { kind := .mbxBt, type := 0x0D, inst := 0x20, page := 0, dw := 6 }
  else if pg = 0x180 then some { kind := .cvn0, type := 0x0E, inst := 0, page := 0, dw := 6, src0 := 304, nsrc := 12, evtOff := 0x80 }
  else if pg = 0x181 then some { kind := .cvn1, type := 0x0E, inst := 0, page := 1, dw := 6 }
  else if pg = 0x182 then some { kind := .cvn2, type := 0x0E, inst := 0, page := 2, dw := 6 }
  else if pg = 0x183 then some { kind := .cvn3, type := 0x0E, inst := 0, page := 3, dw := 6 }
  else if pg = 0x190 then some { kind := .tks0, type := 0x0F, inst := 0, page := 0, dw := 6, src0 := 332, nsrc := 8, evtOff := 0x80 }
  else if pg = 0x191 then some { kind := .tks1, type := 0x0F, inst := 0, page := 1, dw := 6 }
  else if pg = 0x192 then some { kind := .tks2, type := 0x0F, inst := 0, page := 2, dw := 6 }
  else if pg = 0x193 then some { kind := .tks3, type := 0x0F, inst := 0, page := 3, dw := 6 }
  else if vfPageBase < pg ∧ pg < vfPageBase + 16 then
    some { kind := .vfInfo, type := 0x10, inst := pg - vfPageBase, page := 4, dw := 10, aliased := false }
  else none

/-- Member pages of a broadcast or group page (R78), and the group bit that a member needs (none for a broadcast). -/
def bcastMembers (pg : Nat) : Option (List Nat × Option Nat) :=
  if pg = 0x50 then some ((List.range 16).map (0x40 + ·), none)
  else if 0x51 ≤ pg ∧ pg ≤ 0x54 then some ((List.range 16).map (0x40 + ·), some (pg - 0x51))
  else if 0xC0 ≤ pg ∧ pg ≤ 0xC3 then some ((List.range 16).map (fun n => 0x80 + 4 * n + (pg - 0xC0)), none)
  else if 0xC4 ≤ pg ∧ pg ≤ 0xD3 then
    some ((List.range 16).map (fun n => 0x80 + 4 * n + (pg - 0xC4) % 4), some ((pg - 0xC4) / 4))
  else none

/-- Page number of the page that carries an event source (R78, R87). -/
def srcPage (s : Nat) : Nat :=
  if s < 16 then 3 else if s < 24 then 0x10 else if s < 40 then 0x14 else if s < 56 then 0x18
  else if s < 72 then 0x20 else if s < 104 then 0x40 + (s - 72) / 2
  else if s < 200 then 0x83 + 4 * ((s - 104) / 6) else if s < 264 then 0x100 + (s - 200)
  else if s < 272 then 0x140 else if s < 304 then 0x150 + (s - 272) else if s < 316 then 0x180
  else if s < 332 then 0x1C else if s < 340 then 0x190 else if s < 344 then 0x28 else 0x35

/-- Local index of a source in its page (R87). -/
def srcIndex (s : Nat) : Nat :=
  if s < 16 then s else if s < 24 then s - 16 else if s < 40 then s - 24 else if s < 56 then s - 40
  else if s < 72 then s - 56 else if s < 104 then (s - 72) % 2
  else if s < 200 then (s - 104) % 6 else if s < 264 then 0
  else if s < 272 then s - 264 else if s < 304 then 0 else if s < 316 then s - 304
  else if s < 332 then s - 316 else if s < 340 then s - 332 else if s < 344 then s - 340 else s - 344

/-- A table row with the usual values: no lock, no restriction on the writer, plain word. -/
def reg (off : Nat) (code : Code) (reset : Word := 0) (lock : LockClass := .none) (mask : Word := 0xFFFFFFFF)
    (who : Writer := .any) (cnt : Nat := 1) (stride : Nat := 4) (half : Half := .one) (readEffect : Bool := false) : RegRow :=
  { off, cnt, stride, code, reset, lock, mask, who, half, readEffect }
/-- A read-only row. -/
def ro (off : Nat) (reset : Word := 0) (cnt : Nat := 1) (stride : Nat := 4) : RegRow := reg off .ro reset (cnt := cnt) (stride := stride)
/-- A level-status row. -/
def lv (off : Nat) (reset : Word := 0) (cnt : Nat := 1) (stride : Nat := 4) : RegRow := reg off .lv reset (cnt := cnt) (stride := stride)
/-- The two rows of a 64-bit counter (R36). -/
def ctr64 (off : Nat) : List RegRow :=
  [reg off .ro (half := .ctrLo) (readEffect := true), reg (off + 4) .ro (half := .ctrHi)]
/-- The two rows of a writable 64-bit register (R37). -/
def wide64 (off : Nat) (code : Code) (lock : LockClass) (loMask hiMask : Word) (who : Writer := .any) : List RegRow :=
  [reg off code 0 lock loMask who (half := .wideLo), reg (off + 4) code 0 lock hiMask who (half := .wideHi)]
/-- The count and acknowledge rows of `n` event sources from `off` (R64). -/
def evts (off n : Nat) : List RegRow :=
  if n = 0 then [] else [reg off .ec (cnt := n) (stride := 8), reg (off + 4) .ea (cnt := n) (stride := 8)]

/-- The block registers of a page kind: the register tables of R48, R70, R82, R89, R91, R96, R97, R129, R143, R151, R185,
R211, R212, R236, R297, R331, R334, R363, R365, R404 to R408, R442, R449 to R451, R454, R509, R510, R515, R518, R556 to
R560, R578 to R582, R602, R604, R615, R635, R637 and R658. -/
def rowsOf (k : PageKind) : List RegRow :=
  match k with
  | .sysId => [ro 0x40 0x162400B0, ro 0x48, ro 0x4C]
  | .sysStrobe =>
    [reg 0x40 .wo, lv 0x44, reg 0x48 .rw] ++ wide64 0x50 .rw .none 0xFFFFFFFF 0xFFFF ++
    [reg 0x58 .wo, ro 0x5C, reg 0x60 .ro (readEffect := true)]
  | .sysSem => [reg 0x40 .rw (cnt := 64) (readEffect := true), lv 0x140, lv 0x144]
  | .sysEvt => evts 0x40 16 ++ [reg 0xC0 .wo]
  | .sysRoute => [reg 0x40 .rw 0 .c 0x37F3F (cnt := 64)]
  | .sysRouter => [lv 0x40 0 11, lv 0x98, lv 0x9C, lv 0xA0, lv 0xA4]
  | .sysHart => [lv 0x40 0 11, reg 0x6C .rw 0 .c 0x3, ro 0x70, lv 0x74]
  | .lcf0 =>
    [ro 0x40, lv 0x44, ro 0x48, ro 0x4C, ro 0x50 0 8, reg 0x70 .wo (who := .hart0), ro 0x74, ro 0x78, ro 0x7C] ++ evts 0x80 8 ++ [ro 0xC0]
  | .lcf1 =>
    [reg 0x40 .pw 0 .none 0x107 .hart0, reg 0x44 .so 0 .none 0xFFFF .hart0, reg 0x48 .wo, reg 0x4C .pw 0 .none 0x1FF, ro 0x50]
  | .boot0 =>
    [reg 0x40 .rw 1 .none 0x3FFFF .hart0, ro 0x44, ro 0x48, ro 0x4C, ro 0x50, ro 0x54, ro 0x58, ro 0x5C] ++ evts 0x80 16
  | .boot1 =>
    [reg 0x40 .wo, ro 0x44 0xFF, reg 0x48 .rw 0 .none 0x3F01, ro 0x4C, ro 0x50, reg 0x54 .wo, ro 0x58, ro 0x5C,
     reg 0x60 .rw 0 .none 0x1 .hart0, reg 0x80 .wo (cnt := 992)]
  | .cis0 =>
    [reg 0x40 .pw 0x8 .c 0x1F, lv 0x44 1] ++ ctr64 0x48 ++ [ro 0x50, ro 0x54, reg 0x58 .pw 0x1F .c 0xFFFFFF,
     reg 0x5C .pw 0x1000 .c 0xFFFFFF01] ++ wide64 0x60 .pw .p 0xFFFFFFFF 0xFFFF0000 ++ [ro 0x68, ro 0x6C, ro 0x70] ++ evts 0x80 16
  | .cis1 =>
    [reg 0x40 .pw 0 .c, reg 0x44 .pw 0 .c 0xFF0FFFFF, reg 0x48 .pw 0 .c, reg 0x4C .pw 0 .c 0xFFFF, ro 0x50, ro 0x54,
     reg 0x58 .pw 0x00FA1388 .p, reg 0x5C .pw 0x6666051F .p, lv 0x60, ro 0x64, reg 0x68 .wo, reg 0x6C .pw 0 .none 0x1F,
     ro 0x70, ro 0x74, ro 0x78] ++
    (List.range 8).flatMap (fun t => wide64 (0x80 + 16 * t) .pw .none 0xFFFFFFFF 0xFFFF ++
      [reg (0x88 + 16 * t) .pw 0 .none 0xFF03FFFF, ro (0x8C + 16 * t)]) ++
    [reg 0x100 .wo, ro 0x104]
  | .tamp0 =>
    [lv 0x40, lv 0x44, ro 0x48, ro 0x4C, ro 0x50, ro 0x54, ro 0x58, ro 0x5C, ro 0x60, lv 0x64, ro 0x68] ++ evts 0x80 16
  | .tamp1 =>
    [reg 0x40 .pw 0 .none 0x3, reg 0x44 .pw 1 .c 0x3F, reg 0x48 .pw 0 .p 0xF, reg 0x4C .pw 0 .p 0x3, reg 0x50 .pw 0 .p 0x3]
  | .cel0 =>
    [lv 0x40, ro 0x44 0x10000, ro 0x48, ro 0x4C, ro 0x50, ro 0x54, ro 0x58, reg 0x5C .rw 0 .none 0xFFFF, ro 0x60, ro 0x64 1,
     ro 0x68, ro 0x6C] ++ evts 0x80 16
  | .cel1 =>
    [reg 0x40 .wo, reg 0x44 .so 0 .none 0x3, ro 0x48, reg 0x4C .rw (cnt := 12), reg 0x7C .rw 0 .none 0xF] ++
    wide64 0x80 .rw .none 0xFFFFFFFF 0xFFFFFFFF ++ [ro 0x88]
  | .cel2 =>
    [reg 0x40 .rw 0x10000 .c 0x1FFFF, reg 0x44 .rw 0 .c 0x1FFFF (cnt := 15), reg 0x80 .rw 0 .c 0x1FFFF, ro 0xC0 0 16]
  | .cel3 => [ro 0x40, ro 0x44] ++ ctr64 0x48 ++ [ro 0x50, ro 0x54, ro 0x58]
  | .flr0 => [lv 0x40, ro 0x44, ro 0x48, ro 0x4C] ++ ctr64 0x50 ++ [ro 0x58, ro 0x5C] ++ evts 0x60 4
  | .flr1 =>
    [reg 0x40 .rw 3 .c 0x3 .hart0, reg 0x44 .wo (who := .harts), reg 0x48 .rw 0 .k 0xFFFFFFFF .hart0, reg 0x4C .wo] ++
    wide64 0x50 .rw .none 0xFFFFFFFF 0xFFFFFFFF ++ [ro 0x58, ro 0x5C, reg 0x60 .ro (readEffect := true), reg 0x64 .wo] ++
    wide64 0x68 .rw .none 0xFFFFFFFF 0xFFFFFFFF .hart0 ++ [reg 0x70 .rw 0 .none 0xFFFFFFFF .hart0, ro 0x74]
  | .prst0 =>
    [lv 0x40, reg 0x44 .rw 0xFFFFFF .none 0xFFFFFF .hart0, lv 0x48, reg 0x4C .wo (who := .hart0), lv 0x50,
     reg 0x54 .rb 0 .c 0x9F9F9F9F (cnt := 4), reg 0x64 .rw 0 .none 0xFFFFFF .hart0, reg 0x68 .wo (who := .hart0), ro 0x6C,
     reg 0x70 .rb 0x64 .c 0xFFFF, reg 0x80 .rb 0 .c 0x8FFF0F1F (cnt := 24)]
  | .prst1 =>
    [lv 0x40, reg 0x44 .rw 0 .c 0xFFFF .hart0, reg 0x48 .rw 0 .none 0xFFFF .hart0, reg 0x4C .rw 0 .c 0xFFFFFFFF .hart0,
     reg 0x50 .rw 0 .c 0xFFFF .hart0, reg 0x54 .rw 0 .c 0xFFFF .hart0, ro 0x58,
     reg 0xC0 .rb 0 .c 0xFFFF8F1F .hart0 8 8, ro 0xC4 0 8 8]
  | .hart =>
    [lv 0x40, reg 0x44 .wo, reg 0x48 .rw 0 .c 0x1, ro 0x4C, reg 0x50 .rw 0 .c 0xFFFFFFC0, reg 0x54 .rw 0 .c 0xFFFFFFE0,
     reg 0x58 .rw 0x10000 .c 0x31FFF, reg 0x5C .wo, lv 0x60, ro 0x64, lv 0x68, lv 0x6C, ro 0x70]
  | .hartDbg =>
    [lv 0x40, reg 0x44 .wo (who := .jtag), reg 0x48 .rw (who := .hart0) (readEffect := true), reg 0x4C .rw (who := .jtag) (readEffect := true), lv 0x50,
     ro 0x54, ro 0x58, ro 0x5C] ++ evts 0x80 8
  | .dgl =>
    [reg 0x40 .rb 0 .c 0x3 .hart0, lv 0x44] ++ ctr64 0x48 ++ [ro 0x50, ro 0x54, ro 0x58] ++ evts 0x60 2 ++
    [ro 0x70, reg 0x74 .rw 0 .none 0xFF, ro 0x78, reg 0x7C .rw 0 .none 0xFF, ro 0x80]
  | .fpPhy =>
    [reg 0x40 .rb 0 .c 0xF, lv 0x44, reg 0x48 .rb 0 .c 0xFF, reg 0x4C .rb 0 .c 0x1F, ro 0x50, reg 0x54 .rb 0x100 .c 0x11F,
     ro 0x58, ro 0x5C, reg 0x60 .rb 0x54701005 .c 0x77FF77FF, reg 0x64 .rb 0x54701005 .c 0x77FF77FF,
     reg 0x68 .rb 0x5050 .c 0xFFFF, ro 0x6C, reg 0x70 .pw 0 .none 0x3 .hart0, ro 0x74, reg 0x78 .wo (who := .hart0), ro 0x7C,
     ro 0x80, ro 0x84, reg 0x88 .pw 0 .c 0x1F1F, ro 0x8C, reg 0x90 .rb 0x80801 .c 0x1F1F01, reg 0x94 .pw 0 .none 0x107FF,
     reg 0x98 .ro (readEffect := true), reg 0x9C .rb 0x10044 .c 0x13F77, reg 0xA0 .wo, ro 0xA4, ro 0xA8] ++ ctr64 0xB0
  | .fpCmd =>
    [reg 0x40 .rw 0 .p 0x13F, reg 0x44 .rw 0 .p, reg 0x48 .rw 0x3C0000 .p, reg 0x4C .wo 0 .p (who := .hart0), ro 0x50]
  | .fpReg =>
    [reg 0x40 .rw 0 .p 0x1FF, reg 0x44 .rw 0 .p 0x8001FFFF, reg 0x48 .rw 0 .p 0xFFFF, reg 0x4C .rw 0 .p 0x7FFF, reg 0x50 .rw 0 .p 0x8001FFFF, reg 0x54 .rw 0 .p 0x8001FFFF,
     reg 0x58 .wo 0 .p (who := .hart0), ro 0x5C, lv 0x60, ro 0x64, ro 0x68,
     reg 0x6C .rw 1 .p 0x3, ro 0x70, reg 0x74 .rw 0 .none 0x3F, ro 0x78 0 4, reg 0x88 .wo (who := .hart0)]
  | .fpVer =>
    [reg 0x40 .rb 0x400 .c 0xF01, lv 0x44, reg 0x48 .wo (who := .hart0), reg 0x4C .wo (who := .hart0), reg 0x50 .rw 0 .none 0x7,
     reg 0x54 .rw 0 .none 0x30F3F, reg 0x58 .rw 0 .none 0x1FFFF, reg 0x5C .rw 0 .none 0x1FFFF, reg 0x60 .rw 0 .none 0x3FFFF,
     reg 0x64 .rw (cnt := 8), reg 0x84 .wo (who := .hart0), ro 0x88, ro 0x8C 0x1000, reg 0x90 .rw 0 .none 0x3F,
     reg 0x94 .rw, reg 0x98 .rw, reg 0x9C .wo (who := .hart0), ro 0xA0, lv 0xA4, lv 0xA8,
     ro 0xAC, ro 0xB0, ro 0xB4, ro 0xB8, ro 0xBC] ++ evts 0xC0 6 ++
    [ro 0xF0, ro 0xF4, reg 0xF8 .rw 0 .none 0xFF, ro 0xFC, ro 0x100, ro 0x104, ro 0x108, ro 0x10C, ro 0x110,
     reg 0x114 .wo (who := .hart0)]
  | .hq =>
    wide64 0x40 .rw .c 0xFFFFFFC0 0xFFFFFFFF .queueOwner ++ wide64 0x48 .rw .c 0xFFFFFFE0 0xFFFFFFFF .queueOwner ++
    [reg 0x50 .rw 0x10000 .c 0x31FFF .queueOwner, reg 0x54 .wo (who := .queueOwner), lv 0x58,
     reg 0x5C .rw 0 .none 0xFFF .queueOwner, ro 0x60, reg 0x64 .rw 0 .none 0xFFF .queueOwner, ro 0x68,
     reg 0x6C .rw 0x10 .c 0x1FF .queueOwner, ro 0x70, ro 0x74] ++ evts 0x78 1
  | .pciLink =>
    [lv 0x40, reg 0x44 .rw 0x45 .c 0x77 .hart0, reg 0x48 .wo (who := .hart0), ro 0x4C, ro 0x50, ro 0x54, ro 0x58] ++ evts 0x80 8
  | .pciFn => [lv 0x40, lv 0x44, reg 0x48 .rw 0x55555554 .c 0xFFFFFFFC .pf0Hart0, lv 0x4C, ro 0x50 0x16241F7A]
  | .pciDoe =>
    [lv 0x40, ro 0x44, reg 0x48 .rw 0 .none 0x1FFFF .hart0, reg 0x4C .wo (who := .hart0), lv 0x50, ro 0x54, ro 0x58]
  | .pciMsix => [reg 0x800 .rw (cnt := 256), ro 0xC00 0 2]
  | .mbx =>
    [ro 0x40, lv 0x44, reg 0x48 .rw, reg 0x4C .wo, ro 0x50, reg 0x54 .wo, reg 0x58 .rw 0x3E8 .c 0xFFFFF .hart0, ro 0x5C] ++
    evts 0x60 1 ++ [reg 0x80 .rw (cnt := 16), ro 0xC0 0 16]
  | .mbxBt => [lv 0x40 3, reg 0x80 .rw 0 .none 0x8000FFFF (cnt := 32)]
  | .cvn0 =>
    [reg 0x40 .rw 0x270 .c 0x377 .hart0, lv 0x44, reg 0x48 .wo (who := .hart0), ro 0x4C, ro 0x50, ro 0x54,
     reg 0x58 .rw 0 .k 0xFFFFFFFF .hart0, ro 0x5C] ++ evts 0x80 12
  | .cvn1 => [lv 0x40 0 3 16, ro 0x44 0 3 16, ro 0x48 0 3 16, ro 0x4C 0 3 16, reg 0x70 .wo (who := .hart0)]
  | .cvn2 =>
    [reg 0x40 .rw 1 .c 0x1FFF .hart0, reg 0x44 .rw 0 .c 0xFFFF .hart0, lv 0x48, ro 0x4C, ro 0x50, reg 0x54 .rw 0 .none 0x1FF,
     reg 0x58 .ro (readEffect := true), ro 0x60 0 12, ro 0x90 0 16]
  | .cvn3 =>
    [reg 0x40 .rw 0x290 .c 0xFFFF .hart0, reg 0x44 .rw 0 .c 0xFFFFFFFF .hart0, reg 0x48 .rw 0 .c 0xFFFF .hart0, ro 0x4C,
     reg 0x50 .wo (who := .hart0), ro 0x54, ro 0x58, reg 0x5C .rw 0 .c 0xFFFFE000 .hart0, reg 0x60 .rw 0 .c 0xFFFFE000 .hart0,
     reg 0x64 .rw 0 .none 0xFFF1FFF .hart0, lv 0x68, reg 0x6C .rw 0 .none 0xFFFFFFFF .hart0]
  | .tks0 => [lv 0x40, ro 0x44] ++ evts 0x80 8
  | .tks1 => [reg 0x40 .rw 0xFF .c 0xFF .hart0, reg 0x44 .rw 0xF0000000 .c 0xFFFFFFFF .hart0, ro 0x60 1 8]
  | .tks2 =>
    ctr64 0x40 ++ ctr64 0x48 ++ ctr64 0x50 ++ [ro 0x58, ro 0x5C, ro 0x60, ro 0x64, ro 0x68, ro 0x6C]
  | .tks3 => [reg 0x40 .rw, ro 0x44, ro 0x48, ro 0x4C, ro 0x50]
  | .vfInfo => [ro 0x40, ro 0x44, reg 0x800 .rw (cnt := 16), ro 0xC00]

/-- The row that holds a decoded offset, if any. -/
def findRow (rows : List RegRow) (off : Nat) : Option RegRow :=
  rows.find? (fun r => decide (r.off ≤ off) && decide ((off - r.off) % r.stride = 0) && decide ((off - r.off) / r.stride < r.cnt))

/-- The row of a decoded offset of a page: RUNAHEAD is reserved on queues 2 to 63 (R454), and the last route page ends with source
351 (R91). -/
def PageInfo.row (i : PageInfo) (off : Nat) : Option RegRow :=
  if (i.kind = .hq ∧ 2 ≤ i.inst ∧ off = 0x6C) ∨ (i.kind = .sysRoute ∧ i.page = 9 ∧ 0xC0 ≤ off) then none
  else findRow (rowsOf i.kind) off

/-- Bytes that a page decodes (R31). -/
def PageInfo.span (i : PageInfo) : Nat := 4 * 2 ^ i.dw

/-- Reset value of a register word, by page and decoded offset: the page header (R22 to R28), the values "per page" that
the chapters give (R297 note 2, R86), and the tables. -/
def resetAt (a : Nat) : Word :=
  match pageAt (a / 4096) with
  | none => 0
  | some i =>
    let off := a % 4096
    if off < 0x40 then
      if off = 0 then fld i.type 24 ||| fld i.inst 16 ||| fld i.page 12 ||| fld i.dw 0
      else if off = 4 then 0x00010000
      else if off = 8 then flg i.slow 0 ||| flg i.buffered 1 ||| flg i.groupable 2 ||| flg i.aliased 3
      else if off = 0x14 then fld i.ugroup 8
      else 0
    else if i.kind = .dgl ∧ off = 0x40 then (if i.inst < 12 then 0 else 1)
    else if (i.kind = .pciMsix ∨ i.kind = .vfInfo) ∧ 0x800 ≤ off ∧ off < 0xC00 ∧ off % 16 = 12 then 1
    else match findRow (rowsOf i.kind) off with
      | some r => r.reset
      | none => 0

end Sys2Proof.Machine
end

