-- ==== Sys2Proof/Machine/SMap.lean ====
section
/-! DEFINITION. The one sparse store that holds registers, memory bytes, table entries and records. A store is read with a
default for every key it does not list, and a write of that default removes the entry, so that equal contents are equal data. -/
namespace Sys2Proof

/-- The value at key `k`; an unlisted key reads as `d k`. -/
def SMap.get {α : Type} (d : Nat → α) (m : SMap α) (k : Nat) : α :=
  match m with
  | [] => d k
  | (j, v) :: t => if j = k then v else SMap.get d t k

/-- The store without an entry at `k`. -/
def SMap.erase {α : Type} (m : SMap α) (k : Nat) : SMap α :=
  m.filter (fun p => p.1 != k)

/-- Put an entry at its place in the rising order of keys. -/
def SMap.insert {α : Type} (m : SMap α) (k : Nat) (v : α) : SMap α :=
  match m with
  | [] => [(k, v)]
  | (j, w) :: t => if k < j then (k, v) :: (j, w) :: t else (j, w) :: SMap.insert t k v

/-- Write `v` at `k`; writing what an unlisted key reads as removes the entry. -/
def SMap.set {α : Type} [DecidableEq α] (d : Nat → α) (m : SMap α) (k : Nat) (v : α) : SMap α :=
  if v = d k then SMap.erase m k else SMap.insert (SMap.erase m k) k v

/-- Keys strictly rise. -/
def SMap.sorted {α : Type} (m : SMap α) : Bool :=
  match m with
  | [] => true
  | (k, _) :: t => t.all (fun p => decide (k < p.1)) && SMap.sorted t

/-- The canonical form: keys strictly rise and no entry equals what an unlisted key reads as. -/
def SMap.wf {α : Type} [DecidableEq α] (d : Nat → α) (m : SMap α) : Bool :=
  SMap.sorted m && m.all (fun p => decide (p.2 ≠ d p.1))

end Sys2Proof
end

