-- ==== Sys2Proof/Machine/State.lean ====
section
/-! DEFINITION. The state of the block as plain data: every register, store, queue, counter, mode and pin that the spec
gives the MX-1624, the queue of waiting commands, and the state right after reset. -/
namespace Sys2Proof.Machine

/-- Reasons to stop with a fault. No meaning of this model raises one: every command that the spec gives an effect answers a
next state. The constructor stands for an effect that the spec says does not exist; safe. -/
inductive Fault where
  /-- Raised by no command: kept so that the type is not empty. Safe: it is never answered. -/
  | none
  deriving DecidableEq, Repr

/-- Reasons to refuse. -/
inductive Refusal where
  /-- Raised by `exec` for a command that has no meaning yet; safe. -/
  | notModelled (mnemonic : String)
  deriving DecidableEq, Repr

/-- What leaves the block, in order (the model's own field: the spec gives each as an effect on a bus, a pin or a memory
outside the block). -/
inductive Out where
  /-- An MSI-X message of a function and vector with its address and data words (R101). -/
  | msix (fn vec : Nat) (addrLo addrHi data : Word)
  /-- The value returned to a read. -/
  | readData (m : Master) (addr : Nat) (data : Bytes)
  /-- A write to the memory of an issuer, at its address, with or without the Relaxed Ordering attribute (R463, R296). -/
  | memWrite (issuer : Master) (addr : Nat) (data : Bytes) (relaxed : Bool)
  /-- A completion entry of 32 bytes of a queue, one memory write at an address, without Relaxed Ordering (R462, R463). -/
  | completion (ring addr : Nat) (entry : Bytes)
  /-- A status answered on a path that has no ring: I3C or an internal engine. -/
  | reply (issuer : Master) (status : Status) (data : Bytes)
  /-- Bytes returned to a flash master on a port (R174). -/
  | master (port : Nat) (data : Bytes)
  /-- A command sent to a flash chip select: opcode, address, what the port drives in each mode clock (R163), and data. -/
  | flash (port cs opc addr : Nat) (mode data : Bytes)
  /-- A pulse on FRST_N of a port (R182). -/
  | frst (port : Nat)
  /-- A Caravan frame sent on a link port (R535). -/
  | cvn (port : Nat) (frame : Bytes)
  /-- An SPDM response on a transport (R434). -/
  | spdm (transport : Nat) (data : Bytes)
  /-- A word told on UART_TX (R339): BOOT_STAGE in PROVISION, the failure code of a halt in SCRAP. -/
  | uart (value : Nat)
  /-- An access-fault exception taken by a hart, with mcause and mtval (R34, R503). -/
  | hartTrap (h cause mtval : Nat)
  deriving DecidableEq, Repr

/-- Count, acknowledge and overflow of one event source (R64). -/
structure EventRec where
  count : BitVec 16
  ack : BitVec 16
  ovf : Bool
  deriving DecidableEq, Repr
/-- An event source after reset. -/
def EventRec.reset : EventRec := { count := 0, ack := 0, ovf := false }

/-- One write waiting in a slow domain (R43). -/
structure Posted where
  m : Master
  off : Nat
  v : Word
  viaAlias : Bool
  bcast : Bool
  deriving DecidableEq, Repr

/-- Power states (R594). -/
inductive Power where
  | active | standby | retain | battery
  deriving DecidableEq, Repr

/-- Power control (R594 to R601, R647, R649). -/
structure PwrState where
  power : Power
  aonValid : Bool
  pwrOk : Bool
  coreEn : Bool
  pwrOkAt : Nat
  coreEnAt : Nat
  pending : Option Power
  refuse : Status
  wakeSince : Option Nat
  wakeLast : Option Nat
  wakeOwed : Bool
  holdup : Bool
  pfwReleasedAt : Option Nat
  replayReset : Bool
  resetOwed : Bool
  riseEnv : Option PowerUpEnv
  deriving DecidableEq, Repr

/-- Tamper latch, record and battery domain (R583 to R592, R602). -/
structure TampState where
  latch : Bool
  responded : Bool
  contained : Bool
  onAon : Bool
  exported : Bool
  rearmed : Bool
  rearmPin : Bool
  live : BitVec 13
  cause : BitVec 13
  time : Word
  record : Word
  batTime : Word
  batUs : Nat
  rearms : Nat
  reported : BitVec 13
  loopArm : BitVec 4
  action : Nat
  deriving DecidableEq, Repr

/-- States of the staging window (R129). -/
inductive RelState where
  | idle | owned | checking | awaitLock | done | refused
  deriving DecidableEq, Repr

/-- A runtime slot candidate of the ROM: 1 A, 2 B, and its manifest (R122). -/
structure Candidate where
  slot : Nat
  man : Bytes
  deriving DecidableEq, Repr

/-- An image slot whose valid manifest has SEQUENCE 0xFFFF_FFFF (R124, R358): its port, chip select, first byte and 64 KB blocks. -/
structure WornSlot where
  port : Nat
  cs : Nat
  addr : Nat
  blocks : Nat
  deriving DecidableEq, Repr

/-- Boot and release (R107 to R142). -/
structure BootState where
  wipePending : Bool
  halted : Bool
  rtReleased : Bool
  cands : List Candidate
  trying : Option Candidate
  romCode : Nat
  heldMin : Nat
  owner : Master
  man : Bytes
  body : Bytes
  bodyCount : Nat
  overrun : Bool
  rel : RelState
  relCode : Status
  relCheck : Nat
  pushOpen : Bool
  rtMan : Bytes
  code : Bytes
  codeBank : Nat
  arb : Bytes
  arbCopy : Nat
  worn : List WornSlot
  classMin : List (Nat × Nat)
  eraseDue : List (Nat × Nat × Nat)
  arbErased : List Nat
  minDue : List (Nat × Nat)
  served : SMap Nat
  good : SMap (Option Nat)
  counted : SMap Bool
  jreq : Bytes
  deriving DecidableEq, Repr

/-- States of the release sequencer (R143). -/
inductive SeqState where
  | idle | running | stalled | done
  deriving DecidableEq, Repr

/-- A master watchdog (R615, R616). -/
structure Wdog where
  expired : Bool
  expiries : Nat
  since : Nat
  line : Nat
  deriving DecidableEq, Repr
/-- A watchdog after reset. -/
def Wdog.reset : Wdog := { expired := false, expiries := 0, since := 0, line := 0 }

/-- Platform reset outputs, inputs and the sequencer (R104, R143 to R150, R658). -/
structure PrstState where
  holdReq : BitVec 24
  force : BitVec 24
  ready : BitVec 24
  released : BitVec 24
  firstHold : Bool
  recoverHold : BitVec 24
  pgood : BitVec 8
  gpIn : BitVec 16
  gpWake : BitVec 16
  seq : SeqState
  slot : Nat
  refAt : Nat
  refLine : Option Nat
  waitAt : Nat
  recov : BitVec 24
  relAt : SMap Nat
  wdogs : SMap Wdog
  deriving DecidableEq, Repr

/-- Life-cycle states (R337). -/
inductive LcState where
  | raw | test | provision | owned | ret | scrap
  deriving DecidableEq, Repr

/-- Where a life-cycle transition stands (R353). -/
inductive LcStep where
  | copyA | copyB | copyC | scrapFields (k : Nat) | cellarWipe | epochs (banks : List Nat) | resetDue
  deriving DecidableEq, Repr

/-- Life-cycle and fuse controller (R337 to R366). -/
structure LcfState where
  fuses : SMap Word
  eff : Option LcState
  rule : Nat
  copyFault : Bool
  owed : List Nat
  scrapOwed : List Nat
  transit : Option (LcState × LcStep)
  dbgHalted : Bool
  granted : BitVec 16
  nonce : Bytes
  memtest : BitVec 3
  deriving DecidableEq, Repr

/-- States of a Cellar slot (R386). -/
inductive SlotSt where
  | free | reserved | loaded | retired
  deriving DecidableEq, Repr

/-- A key context (R382). -/
structure KeyCtx where
  type : Nat
  flags : Nat
  ops : Nat
  owner : Master
  domain : Nat
  mlen : Nat
  uses : Nat
  epoch : Nat
  material : Bytes
  deriving DecidableEq, Repr
/-- The zeroed context. -/
def KeyCtx.zero : KeyCtx :=
  { type := 0, flags := 0, ops := 0, owner := 0, domain := 0, mlen := 0, uses := 0, epoch := 0, material := [] }

/-- A Cellar slot: its state, generation and context (R385, R386). -/
structure Slot where
  st : SlotSt
  gen : Nat
  ctx : KeyCtx
  deriving DecidableEq, Repr
/-- A slot after reset: FREE with GEN 1 (R385). -/
def Slot.reset : Slot := { st := .free, gen := 1, ctx := KeyCtx.zero }

/-- A Cellar or public-key operation accepted and not ended: what its completion will write (R397). -/
structure CelOp where
  src : JobSrc
  opc : Nat
  status : Status
  result : Nat
  detail : Nat
  outAddr : Nat
  out : Bytes
  pk : Bool
  key : Word
  destroy : Option Nat
  deriving DecidableEq, Repr

/-- What a fuse or BBRAM commit of the KDU or the runtime is for (R370, R371). -/
inductive KduJob where
  | rootGen (step : Nat) | rootClass (step : Nat) (secret : Bytes)
  deriving DecidableEq, Repr

/-- Keys, the derivation unit and the Cellar (R367 to R408); `doomed` are the handles whose destruction waits for operations that have started on
them (R390). -/
structure CelState where
  bank0 : Bytes
  bank1 : Bytes
  active : Option Nat
  slots : SMap Slot
  ptr : Nat
  tampered : Bool
  ops : List CelOp
  doomed : List Word
  devidSeed : Option Bytes
  cdi0 : Option Bytes
  cdiSeal : Option Bytes
  rtidSeed : Option Bytes
  flrvSeed : Option Bytes
  cdiDigest : Bytes
  closeSecret : Bool
  lockCdi : Bool
  kduJob : Option KduJob
  kduErr : Status
  kduBusy : Word
  ephemeral : Option Bytes
  bootNonce : Bytes
  wrapSeq : Nat
  pkeDone : Nat
  unwrapOk : Word
  unwrapBad : Word
  quotaLast : Master
  drbgHealthy : Bool
  reseeds : Nat
  deriving DecidableEq, Repr

/-- A flight record (R623, R624). -/
structure FlrRec where
  type : Nat
  source : Master
  pinned : Bool
  seq : Nat
  pos : Nat
  body : Bytes
  deriving DecidableEq, Repr

/-- States of an export (R637). -/
inductive ExpState where
  | idle | running | done | failed
  deriving DecidableEq, Repr
/-- States of replay (R637). -/
inductive ReplayState where
  | off | pending | running | done | diverged | failed
  deriving DecidableEq, Repr

/-- Flight recorder, export and replay (R622 to R638). -/
structure FlrState where
  boot : List FlrRec
  bootOpen : Bool
  tamper : Option FlrRec
  ring : List FlrRec
  wrPtr : Nat
  nextSeq : Nat
  records : Nat
  lost : Word
  gap : Nat
  exp : ExpState
  expCode : Status
  expMaster : Master
  expWin : Bool
  expLegs : Nat
  expData : Bytes
  expPos : Nat
  expTamper : Bool
  replay : ReplayState
  checkpoints : Nat
  diverge : Word
  deriving DecidableEq, Repr

/-- States of a general digest context (R282). -/
inductive DCtxSt where
  | free | idle | queued | running | suspended | poisoned
  deriving DecidableEq, Repr

/-- A digest context: algorithm, generation, owner, key handle and the message absorbed so far (R283). -/
structure DCtx where
  st : DCtxSt
  alg : Nat
  gen : Nat
  owner : Master
  outLen : Nat
  key : Word
  last : Bool
  cust : Bytes
  msg : Bytes
  deriving DecidableEq, Repr
/-- A context in the pool. -/
def DCtx.reset : DCtx :=
  { st := .free, alg := 0, gen := 0, owner := 0, outLen := 0, key := 0, last := false, cust := [], msg := [] }

/-- Kinds of digest job: of a descriptor, range `i` of the running scan (R427), of a permanent context (R279), or the HMAC of the job that a
pipeline of TKS holds (R572). -/
inductive DJobKind where
  | user
  | range (i : Nat)
  | perm
  | mac (pipe : Nat)
  deriving DecidableEq, Repr
/-- A digest job accepted and not ended (R285, R293), with the lane that ran it last and the bytes that lanes have absorbed of it. -/
structure DJob where
  kind : DJobKind
  src : JobSrc
  ctx : Nat
  alg : Nat
  start : Bool
  final : Bool
  discard : Bool
  dest : Nat
  destArg : Word
  dataLen : Nat
  dataAddr : Nat
  sgl : Option Nat
  outAddr : Nat
  custAddr : Nat
  custLen : Nat
  prio : Nat
  suspended : Bool
  abort : Option Status
  ranOn : Option Nat
  absorbed : Nat
  deriving DecidableEq, Repr

/-- A digest lane: the job it runs, when it took it, and the context for whose job it is marked for suspension (R293, R294). -/
structure Lane where
  job : Option DJob
  since : Nat
  marked : Option Nat
  deriving DecidableEq, Repr
/-- An idle lane. -/
def Lane.reset : Lane := { job := none, since := 0, marked := none }

/-- Digest lanes and contexts (R277 to R301); `asked` has a bit for each lane page whose ISSUER_QINDEX was written since reset. -/
structure DglState where
  ctxs : SMap DCtx
  ready : List DJob
  lanes : SMap Lane
  order : Nat
  asked : BitVec 16
  deriving DecidableEq, Repr

/-- States of a queue pair or hart ring (R455). -/
inductive QSt where
  | disabled | enabled | draining | error
  deriving DecidableEq, Repr

/-- A descriptor fetched and not completed (R455): its ring slot, the number that tells it from an older one of that slot still in flight
(R457), whether it has started and at which priority (R469), and whether its operation has taken it. -/
structure QEntry where
  slot : Nat
  desc : Desc
  started : Bool
  taken : Bool
  seq : Nat := 0
  prio : Nat := 0
  deriving DecidableEq, Repr

/-- A queue pair or hart job ring (R454 to R459, R513). -/
structure Queue where
  st : QSt
  phase : Bool
  sqHead : Nat
  sqTail : Nat
  cqHead : Nat
  cqTail : Nat
  fetched : List QEntry
  cqFault : Bool
  done : Word
  cause : Nat
  errSlot : Nat
  deriving DecidableEq, Repr
/-- A queue after reset. -/
def Queue.reset : Queue :=
  { st := .disabled, phase := false, sqHead := 0, sqTail := 0, cqHead := 0, cqTail := 0, fetched := [], cqFault := false,
    done := 0, cause := 0, errSlot := 0 }

/-- Power state, Bus Master Enable and the other host-set configuration of a PCIe function (R443 to R445, R450). -/
structure FnState where
  d3 : Bool
  bme : Bool
  ctl : FnCtl
  deriving DecidableEq, Repr
/-- A function after reset: D0, bus mastering and MSI-X off. PRESUMED (log 118): Enable Relaxed Ordering 1, Max_Read_Request_Size 512
bytes and BAR bases 0 are the PCI Express defaults. -/
def FnState.reset : FnState :=
  { d3 := false, bme := false, ctl := { msix := false, ero := true, mrrs := 2, bar0 := 0, bar2 := 0, vfBar := 0 } }
/-- A memory request of a function that may issue none (R445): a data write, or the completion of an operation. -/
inductive Stalled where
  | data (fn : Master) (addr : Nat) (bytes : Bytes)
  | entry (src : JobSrc) (opc : Nat) (st : Status) (result detail : Nat)
  deriving DecidableEq, Repr

/-- The DOE mailbox (R448, R449). -/
structure DoeState where
  req : Bytes
  rsp : Bytes
  ready : Bool
  busy : Bool
  error : Bool
  aborted : Bool
  dataReady : Bool
  protocol : Nat
  deriving DecidableEq, Repr

/-- Host link, functions, queues, DOE and IDE (R441 to R470): `trainCtl` is the LINK_CTRL that a running training took (R442), `ideKeys` the
key registers of the IDE streams (R447), `stalled` the memory requests that wait for a function (R445). -/
structure HqState where
  up : Bool
  speed : Nat
  width : Nat
  linkDowns : Word
  rxErrs : Word
  replays : Word
  training : Bool
  fns : SMap FnState
  numVfs : Nat
  vfEnable : Bool
  flrPending : BitVec 16
  queues : SMap Queue
  doe : DoeState
  doeObjects : Word
  ideSecure : BitVec 5
  ideErrs : Word
  ideKeys : SMap Bytes
  trainCtl : Option Word
  stalled : List Stalled
  deriving DecidableEq, Repr

/-- States of a hart (R509). -/
inductive HartSt where
  | reset | run | parked | gated | halted | stopped
  deriving DecidableEq, Repr

/-- A hart: its number (R109), its state, where it runs, its resets, its interrupt masks and resumes (R501 to R513). -/
structure Hart where
  mhartid : Nat
  st : HartSt
  inRom : Bool
  entry : Nat
  wakeCause : Nat
  resets : Nat
  lastReset : Nat
  wakes : Word
  parkedAt : Nat
  mie : Word
  mxmbxrx : Word
  mxmbxtx : Word
  haltedFrom : HartSt
  deriving DecidableEq, Repr
/-- Hart `h` after reset: HART_STATUS reads RUN (R509); no hart executes until the wipe is complete (R107). -/
def Hart.reset (h : Nat) : Hart :=
  { mhartid := h, st := .run, inRom := true, entry := 0, wakeCause := 0, resets := 0, lastReset := 0, wakes := 0, parkedAt := 0,
    mie := 0, mxmbxrx := 0, mxmbxtx := 0, haltedFrom := .run }

/-- Harts, debug and the JTAG data channel (R501 to R513). -/
structure HartsState where
  harts : SMap Hart
  lsResets : Nat
  mismatches : Nat
  attached : Bool
  unforceLocked : Bool
  jdcTx : Word
  jdcRx : Word
  txFull : Bool
  rxFull : Bool
  busAddr : Word
  busInfo : Word
  deriving DecidableEq, Repr

/-- Kinds of mailbox notice (R518, R522). -/
inductive Notice where
  | none | message | empty | aborted | timeout
  deriving DecidableEq, Repr

/-- A mailbox channel (R514 to R526). -/
structure Channel where
  entry : Word
  full : Bool
  timedOut : Bool
  last : Notice
  txHdr : Word
  tx : List Word
  rxHdr : Word
  rx : List Word
  sentAt : Nat
  sent : Nat
  aborts : Nat
  timeouts : Nat
  deriving DecidableEq, Repr
/-- The reset entry of channel `c` (R515). -/
def Channel.resetEntry (c : Nat) : Word := if c < 8 then 0x80001000 else if c < 16 then 0x80000010 else 0
/-- Channel `c` after reset. -/
def Channel.reset (c : Nat) : Channel :=
  { entry := Channel.resetEntry c, full := false, timedOut := false, last := .none, txHdr := 0, tx := List.replicate 16 0,
    rxHdr := 0, rx := List.replicate 16 0, sentAt := 0, sent := 0, aborts := 0, timeouts := 0 }

/-- A registered issuer: rights, last accepted sequence, key slot handle (R487). -/
structure Issuer where
  id : Nat
  rights : Nat
  lastSeq : Nat
  handle : Word
  serial : Nat
  deriving DecidableEq, Repr

/-- Why a command waits for a commit: what its end decides (R477 to R498). -/
inductive CmdWait where
  | none
  | epoch
  | lcTransition
  | fuse
  | blobEpoch
  | epochAdvance (value : Nat)
  | register (issuer : Issuer) (ct : Bytes)
  | remove
  deriving DecidableEq, Repr

/-- An envelope or bootstrap taken by the device: its source, command, payload and where it stands (R477 to R480). -/
structure EnvJob where
  src : JobSrc
  mctp : Bool
  cmd : Nat
  issuer : Nat
  counter : Nat
  payload : Bytes
  raw : Bytes
  outAddr : Nat
  outLen : Nat
  accepted : Bool
  wait : CmdWait
  since : Nat
  slot : Nat
  quiet : Bool
  deriving DecidableEq, Repr

/-- Commands, epochs, issuers and versions (R471 to R500): `recs` are the issuer records of the command epoch area with the half that holds
each, `half` the active half, `used` how many of its 256 pages are taken, `copy` the records that a hart slot has still to write (R485). -/
structure CmdState where
  pfVersion : Nat
  i3cVersion : Nat
  epoch : Nat
  epochPending : Bool
  epochSlot : Option Nat
  found : Option Nat
  recs : List (Nat × Bytes)
  half : Nat
  used : Nat
  copy : List (Nat × Nat × Bytes)
  issuers : List Issuer
  running : Option EnvJob
  waiting : List EnvJob
  blobJob : Option (JobSrc × Nat)
  deriving DecidableEq, Repr

/-- Line states (R311). -/
inductive LineSt where
  | healthy | disturbed | lost | dcFeed
  deriving DecidableEq, Repr

/-- A fuse or BBRAM write of the life-cycle and fuse controller (R316, R353, R354, R374, R376): a life-cycle copy with the
state it takes, a fuse field with its value, or a BBRAM bank image. -/
inductive LcfWrite where
  | lcCopy (copy : Nat) (st : LcState)
  | field (idx : Nat) (val : Bytes)
  | bbram (bank : Nat) (img : Bytes)
  deriving DecidableEq, Repr

/-- What a commit writes (R316). -/
inductive CommitWhat where
  | none
  | wq (port i : Nat)
  | lcf (w : LcfWrite)
  | page (slot port cs addr : Nat) (data : Bytes)
  | bank (slot bank : Nat) (data : Bytes)
  deriving DecidableEq, Repr

/-- States of an admission queue entry (R334 Q_INFO). -/
inductive AdmSt where
  | empty | waiting | running
  deriving DecidableEq, Repr

/-- An admission queue entry (R318). -/
structure AdmEntry where
  st : AdmSt
  cls : Nat
  order : Nat
  since : Nat
  timeout : Nat
  what : CommitWhat
  startHc : Nat
  deriving DecidableEq, Repr
/-- An empty entry. -/
def AdmEntry.reset : AdmEntry := { st := .empty, cls := 0, order := 0, since := 0, timeout := 0, what := .none, startHc := 0 }

/-- States of a line timer or armed strobe (R327, R52). -/
inductive TmrSt where
  | idle | armed | fired | refused
  deriving DecidableEq, Repr
/-- The number that a status field shows. -/
def TmrSt.code (t : TmrSt) : Nat := match t with | .idle => 0 | .armed => 1 | .fired => 2 | .refused => 3

/-- A line timer with the copy that ARM took (R327): position, period, destination, mark. -/
structure Timer where
  st : TmrSt
  hc : Nat
  lu : Nat
  period : Nat
  dest : Nat
  mark : Nat
  deriving DecidableEq, Repr
/-- A timer after reset. -/
def Timer.reset : Timer := { st := .idle, hc := 0, lu := 0, period := 0, dest := 0, mark := 0 }

/-- The SYS armed strobe (R52). -/
structure ArmState where
  st : TmrSt
  mask : Word
  hc : Nat
  lu : Nat
  deriving DecidableEq, Repr

/-- Cistern (R302 to R336): the oscillator (phase in 2^-20 LU, half-cycle length in 10 ns units), the line state, the hold-up
estimate, the admission queue and the line timers. Pulse times are in 10 ns units. `judged`: the crossing of the last wrap has
been judged; `early`: a crossing seen just before the coming wrap, and whether it was confirmed; `hcRun`: half-cycles run since the
rail's start, which no seed moves (R323); `aCross` and `bCross`: crossings that wait for their pair, the latter with its width and
whether it is in tolerance (R312); `estLow` and `validWas`: what HOLDUP_LOW is counted on (R335). -/
structure CisState where
  ph : Nat
  len : Nat
  period : Nat
  locked : Bool
  acquired : Bool
  hc : Nat
  era : Nat
  line : LineSt
  goodRun : Nat
  confirmed : Bool
  onB : Bool
  lastFault : Nat
  ref : Option Nat
  lastAcc : Nat
  lastPulse : Nat
  hcRun : Nat
  phaseErr : Int
  width : Nat
  judged : Bool
  early : Option Bool
  pfw : Bool
  aCross : Option Nat
  bRef : Option Nat
  bCross : Option (Nat × Nat × Bool)
  bSum : Int
  bCount : Nat
  bOffset : Int
  seed : Nat
  seedHc : Nat
  seedEra : Nat
  seedUsed : Bool
  samples : List (Nat × Nat)
  code : Nat
  codeSeen : Bool
  faultAt : Option Nat
  estUs : Nat
  estValid : Bool
  queue : SMap AdmEntry
  order : Nat
  inflight : Option Nat
  blocked : Bool
  ifSince : Nat
  timers : SMap Timer
  estLow : Bool
  validWas : Bool
  deriving DecidableEq, Repr

/-- A protocol mode and address width of a flash device (R157, R160). -/
structure FMode where
  code : Nat
  addr4 : Bool
  deriving DecidableEq, Repr

/-- The master view of one chip select (R176), and whether a WREN was forwarded to its flash (R174). -/
structure MView where
  wel : Bool
  pFail : Bool
  eFail : Bool
  wrenFwd : Bool
  deriving DecidableEq, Repr
/-- The view after reset. -/
def MView.reset : MView := { wel := false, pFail := false, eFail := false, wrenFwd := false }

/-- States of a write-queue entry (R220). -/
inductive WqSt where
  | free | captured | applied | running | done | failed | discarded
  deriving DecidableEq, Repr
/-- The STATE code of R220. -/
def WqSt.num (s : WqSt) : Nat :=
  match s with | .free => 0 | .captured => 1 | .applied => 2 | .running => 3 | .done => 4 | .failed => 5 | .discarded => 6

/-- A write-queue entry (R219, R220). -/
structure WqEntry where
  st : WqSt
  type : Nat
  cs : Nat
  trunc : Bool
  commit : Bool
  entry : Nat
  region : Option Nat
  seq : Nat
  addr : Nat
  size : Nat
  result : Status
  mcmd : Word
  data : Bytes
  opcode : Byte
  cls : Nat
  timeoutLog : Nat
  since : Nat
  deriving DecidableEq, Repr
/-- A free entry. -/
def WqEntry.reset : WqEntry :=
  { st := .free, type := 0, cs := 0, trunc := false, commit := false, entry := 0, region := none, seq := 0, addr := 0,
    size := 0, result := 0, mcmd := 0, data := [], opcode := 0, cls := 0, timeoutLog := 0, since := 0 }

/-- A command on the flash side: flash chip select, opcode, address, number of mode clocks, and the data sent. -/
structure FlashCmd where
  cs : Nat
  opc : Byte
  addr : Nat
  mclk : Nat
  data : Bytes
  deriving DecidableEq, Repr
/-- What the end of a forwarded command does to the master view (R176): nothing, a WREN (WEL set, forwarded), a WRDI, a write
(true for a program or erase), or the FAIL_CLR opcode. -/
inductive ViewOp where
  | keep
  | wren (wel fwd : Bool)
  | wrdi
  | write (pe : Bool)
  | failClr
  deriving DecidableEq, Repr
/-- Kinds of read whose data phase an FDQS strobe paces in mode 0x7 (R161). -/
inductive LateKind where
  | read | status | other
  deriving DecidableEq, Repr
/-- A read that was issued in mode 0x7 and whose data phase is still to come (R161): the command, the flash chip select, its
kind, whether the stitch follows it, whether its dummy count is short (R168), and where it reads. -/
structure LateRead where
  mc : MCmd
  fcs : Nat
  kind : LateKind
  follow : Bool
  short : Bool
  addr : Nat × Nat
  deriving DecidableEq, Repr
/-- The master command in progress (R160, R174, R216): its chip select, whether it was forwarded, the mode switch that its end
makes, what it captures, the master address, whether a WRDI follows, the flash command and the change of the master view that
its end brings, and the data phase that a mode 0x7 read still owes. -/
structure ActiveCmd where
  cs : Nat
  fwd : Bool
  sw : Nat
  asw : Nat
  capture : Option WqEntry
  maddr : Nat
  wrdi : Bool
  issue : Option FlashCmd
  view : ViewOp
  late : Option LateRead
  deriving DecidableEq, Repr

/-- States of a tree binding (R240). -/
inductive BindSt where
  | empty | bound | loading | loaded | confirmed | failed
  deriving DecidableEq, Repr
/-- The STATE code of R240. -/
def BindSt.num (s : BindSt) : Nat :=
  match s with | .empty => 0 | .bound => 1 | .loading => 2 | .loaded => 3 | .confirmed => 4 | .failed => 5

/-- A tree binding: its registers, the nodes accepted by a load in progress, and whether a full check passed (R237, R240, R267). -/
structure Binding where
  st : BindSt
  cfg : Word
  body : Word
  len : Word
  tree : Word
  root : Bytes
  nodes : Nat
  fullOk : Bool
  reread : List (Nat × Nat)
  deriving DecidableEq, Repr
/-- An empty binding. -/
def Binding.reset : Binding :=
  { st := .empty, cfg := 0, body := 0, len := 0, tree := 0, root := zeros 32, nodes := 0, fullOk := false, reread := [] }

/-- A node in the tree cache shared by the ports (R243); the cache lists the node whose last use is longest ago first. -/
structure CNode where
  port : Nat
  bind : Nat
  level : Nat
  idx : Nat
  pinned : Bool
  bytes : Bytes
  deriving DecidableEq, Repr

/-- States of a Pantry window (R268). -/
inductive WinSt where
  | empty | written | loading | loaded | failed
  deriving DecidableEq, Repr
/-- The STATE code of R268. -/
def WinSt.num (s : WinSt) : Nat := match s with | .empty => 0 | .written => 1 | .loading => 2 | .loaded => 3 | .failed => 4

/-- A Pantry window: its words, the REJECT of its last WRITE, the blocks loaded so far, and a state change that waits for the
condition of R214 (R236, R268, R270). -/
structure Window where
  st : WinSt
  reject : Nat
  w0 : Word
  w1 : Word
  dropped : Bool
  failBlk : Nat
  next : Nat
  pend : Option WinSt
  retry : Bool
  deriving DecidableEq, Repr
/-- An empty window. -/
def Window.reset : Window := { st := .empty, reject := 0, w0 := 0, w1 := 0, dropped := false, failBlk := 0, next := 0, pend := none, retry := false }

/-- Sources of a check (R254 SRC). -/
inductive ChkSrc where
  | fetch | scrub | load | full
  deriving DecidableEq, Repr
/-- The SRC code of R254. -/
def ChkSrc.num (s : ChkSrc) : Nat := match s with | .fetch => 0 | .scrub => 1 | .load => 2 | .full => 3

/-- A completed block that waits for its check (R252, R253, R259): where it lies, its governing region and that region's
class, action and SUBST when its first byte was fetched (R250), its leaf source and the command count. -/
structure Check where
  src : ChkSrc
  cs : Nat
  blk : Nat
  region : Option Nat
  cls : Nat
  action : Nat
  subst : Bool
  data : Bytes
  mcmd : Word
  late : Bool
  win : Nat
  deriving DecidableEq, Repr

/-- The stitch tracker of a port (R247 to R251): whether a stitch is open, where it continues, whether the current block is
being hashed or passed over (and then whether that counts), the bytes hashed, and the policy fixed at its first byte. -/
structure Stitch where
  isOpen : Bool
  cs : Nat
  next : Nat
  skip : Bool
  counts : Bool
  hashing : Bool
  cut : Bool
  got : Bytes
  fetched : Bool
  blk : Check
  ended : Option Nat
  start : Nat
  total : Nat
  leaves : List Bytes
  deriving DecidableEq, Repr
/-- No block. -/
def Check.none : Check :=
  { src := .fetch, cs := 0, blk := 0, region := Option.none, cls := 0, action := 0, subst := false, data := [], mcmd := 0, late := false,
    win := 0 }
/-- The tracker in IDLE. -/
def Stitch.idle : Stitch :=
  { isOpen := false, cs := 0, next := 0, skip := false, counts := false, hashing := false, cut := false, got := [], fetched := false,
    blk := Check.none, ended := none, start := 0, total := 0, leaves := [] }

/-- Coverage counters of a region (R274). -/
structure Cov where
  fetch : Word
  scrub : Word
  part : Word
  fail : Word
  deriving DecidableEq, Repr
/-- Counters at 0. -/
def Cov.reset : Cov := { fetch := 0, scrub := 0, part := 0, fail := 0 }

/-- The scrubber of a port (R264, R265): running, its region and block index within it, whether the pass read a block, and
whether the block's read failed once. -/
structure Scrub where
  run : Bool
  region : Nat
  off : Nat
  any : Bool
  retry : Bool
  deriving DecidableEq, Repr

/-- A full check in progress (R267): the bindings left, the block within the first of them, and those with a failure. -/
structure FullChk where
  run : Bool
  binds : List Nat
  blk : Nat
  failed : List Nat
  all : List Nat
  retry : Bool
  deriving DecidableEq, Repr

/-- A flash port (R153 to R276). -/
structure PortState where
  mode0 : FMode
  mode1 : FMode
  bank : Nat
  view0 : MView
  view1 : MView
  mcs : Option Nat
  active : Option ActiveCmd
  grant0 : Bool
  grant1 : Bool
  discSt0 : Nat
  discSt1 : Nat
  id0 : Bytes
  id1 : Bytes
  sfdp0 : Bytes
  sfdp1 : Bytes
  needed : Nat
  calOwed : Bool
  mrstOwed : Bool
  ctS : SMap (List Word)
  ctA : SMap (List Word)
  rtS : SMap (List Word)
  rtA : SMap (List Word)
  ctSwap : Bool
  rtSwap : Bool
  subst : SMap Bool
  wq : SMap WqEntry
  wqSeq : Nat
  binds : SMap Binding
  wins : SMap Window
  stitch : Stitch
  checks : List Check
  dev : Option Check
  scrub : Scrub
  full : FullChk
  cov : SMap Cov
  chk : SMap Bool
  contained : Bool
  lastFail : Option (Nat × Nat)
  stopped : Bool
  busy0 : Bool
  busy1 : Bool
  wip0 : Bool
  wip1 : Bool
  deriving DecidableEq, Repr

/-- An unwritten command-table entry: SWITCH is 0xF (R199). -/
def ctZero : List Word := [0, 0x003C0000]
/-- An unwritten region entry. -/
def rtZero : List Word := [0, 0, 0, 0, 0]

/-- A port after reset, in the modes that its fuses or registers give. -/
def PortState.reset (m0 m1 : FMode) (bank : Nat) : PortState :=
  { mode0 := m0, mode1 := m1, bank := bank, view0 := MView.reset, view1 := MView.reset, mcs := none, active := none, grant0 := false,
    grant1 := false, discSt0 := 0, discSt1 := 0, id0 := [], id1 := [],
    sfdp0 := [], sfdp1 := [], needed := 0, calOwed := false, mrstOwed := false, ctS := [], ctA := [], rtS := [],
    rtA := [], ctSwap := false, rtSwap := false, subst := [], wq := [], wqSeq := 0, binds := [],
    wins := [], stitch := Stitch.idle, checks := [], dev := none,
    scrub := { run := false, region := 0, off := 0, any := false, retry := false },
    full := { run := false, binds := [], blk := 0, failed := [], all := [], retry := false }, cov := [], chk := [],
    contained := false, lastFail := none, stopped := false, busy0 := false, busy1 := false, wip0 := false, wip1 := false }

/-- A measurement slot (R409, R423). -/
structure MSlot where
  value : Bytes
  count : Word
  unlogged : Word
  defined : Bool
  extender : Master
  allowScan : Bool
  deriving DecidableEq, Repr
/-- A slot after reset: 48 zero bytes. -/
def MSlot.reset : MSlot := { value := zeros 48, count := 0, unlogged := 0, defined := false, extender := 0, allowScan := false }

/-- An extend that waits for the extend unit (R411, R417), with the operation it completes if it is a request. -/
structure MEntry where
  slot : Nat
  type : Nat
  source : Master
  late : Bool
  info : Nat
  data : Bytes
  job : Option JobSrc
  deriving DecidableEq, Repr

/-- How the range of a scan ended: its digest, the bytes that arrived, and its status (R284, R428, R429). -/
structure ScanEnd where
  digest : Bytes
  len : Nat
  st : Status
  deriving DecidableEq, Repr
/-- A host-memory scan accepted and not ended (R425 to R429): the next range to start and the ranges that have ended. -/
structure ScanJob where
  src : JobSrc
  desc : Desc
  list : Bytes
  expect : Bytes
  expectFault : Bool
  next : Nat
  ends : List (Nat × ScanEnd)
  deriving DecidableEq, Repr

/-- Measurement slots, log and queues (R409 to R430). -/
structure MeasState where
  slots : SMap MSlot
  log : List Bytes
  hwq : List MEntry
  hwLate : List MEntry
  reqq : List MEntry
  scans : List ScanJob
  scan : Option ScanJob
  deriving DecidableEq, Repr

/-- An SPDM session (R434): its handshake secret and transcript, the secrets of the two directions, and the records passed in each. -/
structure SpdmSession where
  id : Nat
  finished : Bool
  keyUpdates : Nat
  hs : Bytes
  th : Bytes
  req : Bytes
  rsp : Bytes
  reqSeq : Nat
  rspSeq : Nat
  deriving DecidableEq, Repr

/-- The connection state of one SPDM transport (R433): negotiated version, step reached, the transcript of the negotiation, transcript, the last
signed message, the session, chunk transfers. -/
structure SpdmConn where
  version : Nat
  step : Nat
  vca : Bytes
  transcript : Bytes
  lastM : Option Bytes
  session : Option SpdmSession
  chunkIn : Bytes
  chunkInSeq : Nat
  chunkOut : Bytes
  chunkOutSeq : Nat
  deriving DecidableEq, Repr
/-- A transport after reset. -/
def SpdmConn.reset : SpdmConn :=
  { version := 0, step := 0, vca := [], transcript := [], lastM := none, session := none, chunkIn := [], chunkInSeq := 0, chunkOut := [], chunkOutSeq := 0 }

/-- The SPDM responder (R433 to R439): its connections, and the draw with which the runtime signed this boot's alias certificates (R431). -/
structure SpdmState where
  doe : SpdmConn
  mctp : SpdmConn
  aliasDraw : Bytes
  deriving DecidableEq, Repr

/-- States of a Caravan port (R558). -/
inductive CvnPSt where
  | down | locking | handshake | up | failed
  deriving DecidableEq, Repr
/-- The STATE code of R558. -/
def CvnPSt.num (s : CvnPSt) : Nat := match s with | .down => 0 | .locking => 1 | .handshake => 2 | .up => 3 | .failed => 4

/-- A frame that waits to leave on a link port (R535, R538): its header fields, its body, the port whose receive slot it still holds, and
the LINK_SEQ that it came in with, which the copies of one frame share. -/
structure CvnOut where
  func : Nat
  src : Nat
  dst : Nat
  epoch : Nat
  flags : Nat
  frag : Nat
  pos : Bytes
  body : Bytes
  held : Option Nat
  seq : Nat := 0
  deriving DecidableEq, Repr

/-- A Caravan link port (R529 to R538): block lock, the handshake, the handle of its link key, credits and sequence numbers,
frames that wait to leave, and delivered frames that wait for the receive buffer. -/
structure CvnPort where
  st : CvnPSt
  lock : Bool
  ver : Nat
  cause : Nat
  peer : Nat
  tx : Nat
  rxFree : Nat
  owed : Nat
  lockAt : Nat
  eph : Bytes
  hello : Bytes
  key : Word
  t : Bytes
  txSeq : Nat
  rxSeq : Nat
  tagFails : Nat
  lat : Nat
  hopMax : Nat
  frames : Word
  waiting : List CvnOut
  held : List Bytes
  deriving DecidableEq, Repr
/-- A port in DOWN. -/
def CvnPort.reset : CvnPort :=
  { st := .down, lock := false, ver := 0, cause := 0, peer := 0, tx := 0, rxFree := 0, owed := 0, lockAt := 0, eph := [],
    hello := [], key := 0, t := [], txSeq := 0, rxSeq := 0, tagFails := 0, lat := 0, hopMax := 0, frames := 0, waiting := [], held := [] }

/-- Caravan (R529 to R561). -/
structure CvnState where
  ports : SMap CvnPort
  trained : Bool
  topo : Nat
  addr : Nat
  nodes : Nat
  unaddr : Nat
  hops : Nat
  maxHops : Nat
  branchLast : Nat
  sweep : Nat
  sweepRes : Nat
  overflow : Bool
  boundShort : Bool
  epoch : Word
  count : Nat
  exc : List Word
  fold : Bytes
  ownRec : Bytes
  sweepHc : Nat
  sweepLu : Nat
  missAt : List (Nat × Nat)
  missEpoch : Word
  rxFull : Bool
  rxFunc : Nat
  rxSrc : Nat
  rxDst : Nat
  rxPort : Nat
  rxBuf : Bytes
  rxFrag : Nat
  noticeRefused : Bool
  timeHc : Option Nat
  timeSkew : Option Nat
  timeErr : Int
  timeChecks : Nat
  calN : Nat
  calD : List Int
  calSt : Nat
  calHc : Nat
  calOff : Int
  calSpread : Nat
  deriving DecidableEq, Repr

/-- States of a TKS pipeline (R580). -/
inductive PipeSt where
  | off | idle | busy | fault
  deriving DecidableEq, Repr
/-- The STATE code of R580. -/
def PipeSt.num (s : PipeSt) : Nat := match s with | .off => 0 | .idle => 1 | .busy => 2 | .fault => 3

/-- A TKS job accepted and not ended (R564 to R577): its descriptor, input, the context it works on, and, once it runs,
its outcome, its output and the material that it leaves in the context. -/
structure TkJob where
  src : JobSrc
  opc : Nat
  desc : Desc
  io : JobIo
  handle : Word
  faulted : Bool
  hit : Bool
  status : Status
  detail : Nat
  abort : Option Status
  out : Bytes
  after : Option Bytes
  deriving DecidableEq, Repr

/-- The transaction key service (R562 to R582); the job that a pipeline holds. -/
structure TksState where
  waiting : List TkJob
  running : SMap (Option TkJob)
  faulty : BitVec 8
  tampered : Bool
  deriving DecidableEq, Repr

/-- The whole state of the block, and the queue of commands that wait, first in first out. -/
@[ext]
structure State where
  clk : Nat
  regs : SMap Word
  buf : SMap (Option Word)
  posted : SMap (Option Posted)
  heldLow : SMap (Option Word)
  hiLatch : SMap (Option Word)
  w1 : SMap Bool
  events : SMap EventRec
  msixPba : SMap Bool
  sems : SMap (Option Master)
  slowDue : SMap (Option (Bool × Word))
  arm : ArmState
  pwr : PwrState
  tamp : TampState
  boot : BootState
  prst : PrstState
  lcf : LcfState
  cel : CelState
  flr : FlrState
  dgl : DglState
  hq : HqState
  harts : HartsState
  mbx : SMap Channel
  cmd : CmdState
  cis : CisState
  ports : SMap PortState
  cache : List CNode
  frames : SMap Bytes
  meas : MeasState
  spdm : SpdmState
  cvn : CvnState
  tks : TksState
  ram : SMap Byte
  outbox : List Out
  freeCtr : Nat
  drbgCtr : Nat
  pending : List Instr
  deriving DecidableEq, Repr

/-- The state right after reset: the start of step 1 of the main road (R14, R106): core rails valid, wipe pending, every hold
line requested, every register at its reset value, every store empty, no command waiting. -/
def State.reset : State :=
  { clk := 0, regs := [], buf := [], posted := [], heldLow := [], hiLatch := [], w1 := [], events := [],
    msixPba := [], sems := [], slowDue := [],
    arm := { st := .idle, mask := 0, hc := 0, lu := 0 },
    pwr := { power := .active, aonValid := true, pwrOk := true, coreEn := true, pwrOkAt := 0, coreEnAt := 0,
             pending := none, refuse := 0, wakeSince := none, wakeLast := none, wakeOwed := false,
             holdup := false, pfwReleasedAt := none, replayReset := false, resetOwed := false, riseEnv := none },
    tamp := { latch := false, responded := false, contained := false, onAon := false, exported := false,
              rearmed := true, rearmPin := false, live := 0, cause := 0x800, time := 0, record := 0x23, batTime := 0, batUs := 0,
              rearms := 1, reported := 0x800, loopArm := 0, action := 2 },
    boot := { wipePending := true, halted := false, rtReleased := false, cands := [], trying := none, romCode := 0,
              heldMin := 0, owner := 0xFF, man := [], body := [], bodyCount := 0, overrun := false, rel := .idle,
              relCode := 0, relCheck := 0, pushOpen := false, rtMan := [], code := [], codeBank := 0, arb := [], arbCopy := 0, worn := [], classMin := [], eraseDue := [], arbErased := [], minDue := [],
              served := [], good := [], counted := [], jreq := [] },
    prst := { holdReq := 0xFFFFFF, force := 0, ready := 0, released := 0, firstHold := false, recoverHold := 0, pgood := 0,
              gpIn := 0, gpWake := 0, seq := .idle, slot := 0, refAt := 0, refLine := none, waitAt := 0, recov := 0, relAt := [], wdogs := [] },
    lcf := { fuses := [], eff := some .raw, rule := 0, copyFault := false, owed := [], scrapOwed := [],
             transit := none, dbgHalted := false, granted := 0, nonce := zeros 32, memtest := 0 },
    cel := { bank0 := [], bank1 := [], active := none, slots := [], ptr := 0, tampered := false, ops := [], doomed := [],
             devidSeed := none, cdi0 := none, cdiSeal := none, rtidSeed := none, flrvSeed := none, cdiDigest := [],
             closeSecret := false, lockCdi := false, kduJob := none, kduErr := 0, kduBusy := 0, ephemeral := none,
             bootNonce := [], wrapSeq := 0, pkeDone := 0, unwrapOk := 0, unwrapBad := 0, quotaLast := 0,
             drbgHealthy := false, reseeds := 0 },
    flr := { boot := [], bootOpen := true, tamper := none, ring := [], wrPtr := 0, nextSeq := 0, records := 0, lost := 0,
             gap := 0, exp := .idle, expCode := 0, expMaster := 0, expWin := false, expLegs := 0,
             expData := [], expPos := 0, expTamper := false, replay := .off, checkpoints := 0, diverge := 0 },
    dgl := { ctxs := [], ready := [], lanes := [], order := 0, asked := 0 },
    hq := { up := false, speed := 0, width := 0, linkDowns := 0, rxErrs := 0, replays := 0, training := false, fns := [],
            numVfs := 0, vfEnable := false, flrPending := 0, queues := [],
            doe := { req := [], rsp := [], ready := false, busy := false, error := false, aborted := false,
                     dataReady := false, protocol := 0 },
            doeObjects := 0, ideSecure := 0, ideErrs := 0, ideKeys := [], trainCtl := none, stalled := [] },
    harts := { harts := [], lsResets := 0, mismatches := 0, attached := false, unforceLocked := false, jdcTx := 0, jdcRx := 0,
               txFull := false, rxFull := false, busAddr := 0, busInfo := 0 },
    mbx := [],
    cmd := { pfVersion := 0, i3cVersion := 0, epoch := 0, epochPending := false, epochSlot := none, found := none, recs := [], half := 0, used := 0,
             copy := [], issuers := [], running := none, waiting := [], blobJob := none },
    cis := { ph := 0, len := 1000000, period := 1000000, locked := false, acquired := false, hc := 0, era := 0,
             line := .disturbed, goodRun := 0, confirmed := false, onB := false, lastFault := 0, ref := none, lastAcc := 0,
             lastPulse := 0, hcRun := 0, phaseErr := 0, width := 0, judged := false, early := none, pfw := false, aCross := none,
             bRef := none, bCross := none, bSum := 0,
             bCount := 0, bOffset := 0, seed := 0, seedHc := 0, seedEra := 0, seedUsed := false, samples := [], code := 0,
             codeSeen := false, faultAt := none, estUs := 0, estValid := false, queue := [], order := 0, inflight := none,
             blocked := false, ifSince := 0, timers := [], estLow := true, validWas := false },
    ports := [], cache := [], frames := [],
    meas := { slots := [], log := [], hwq := [], hwLate := [], reqq := [], scans := [], scan := none },
    spdm := { doe := SpdmConn.reset, mctp := SpdmConn.reset, aliasDraw := [] },
    cvn := { ports := [], trained := false, topo := 0, addr := 0, nodes := 0, unaddr := 0, hops := 0, maxHops := 0,
             branchLast := 0, sweep := 0, sweepRes := 0, overflow := false, boundShort := false, epoch := 0, count := 0,
             exc := [], fold := zeros 48, ownRec := zeros 64, sweepHc := 0, sweepLu := 0, missAt := [], missEpoch := 0,
             rxFull := false, rxFunc := 0, rxSrc := 0, rxDst := 0, rxPort := 0, rxBuf := [], rxFrag := 0,
             noticeRefused := false, timeHc := none, timeSkew := none, timeErr := 0, timeChecks := 0, calN := 0, calD := [], calSt := 0,
             calHc := 0, calOff := 0, calSpread := 0 },
    tks := { waiting := [], running := [], faulty := 0, tampered := false },
    ram := [], outbox := [], freeCtr := 0, drbgCtr := 0, pending := [] }

end Sys2Proof.Machine
end

