-- ==== Sys2Proof/Machine/Ops.lean ====
section
/-! DEFINITION. The named operations over the registers and stores of the state: reading and writing a stored register,
64-bit counters, the stores of each block, page errors (R38 to R42), event counts and the event router (R64 to R69, R90 to
R101), and what wakes a parked hart (R505). -/
namespace Sys2Proof.Machine

/-- The outcome of a command that runs: the next state. -/
abbrev Res := Host.Outcome State Fault Refusal

/-- BAR0 address of an offset in a page. -/
def pg (page off : Nat) : Nat := page * 4096 + off
/-- BAR0 address of an offset in page `k` of flash port `p` (R78). -/
def fp (p k off : Nat) : Nat := pg (0x80 + 4 * p + k) off

/-- The stored value of a register word. -/
def State.reg (s : State) (a : Nat) : Word := SMap.get resetAt s.regs a
/-- Store a register word. -/
@[noinline] def State.setReg (s : State) (a : Nat) (v : Word) : State := { s with regs := SMap.set resetAt s.regs a v }
/-- A field of a stored register. -/
def State.fldOf (s : State) (a hi lo : Nat) : Nat := Word.field (s.reg a) hi lo
/-- A bit of a stored register. -/
def State.bitOf (s : State) (a i : Nat) : Bool := Word.bit (s.reg a) i
/-- Set a field of a stored register. -/
@[noinline] def State.setFld (s : State) (a hi lo v : Nat) : State := s.setReg a (Word.setField (s.reg a) hi lo v)
/-- Count one in a saturating 32-bit register. -/
@[noinline] def State.incReg (s : State) (a : Nat) : State := s.setReg a (satInc (s.reg a))
/-- Add to a 64-bit counter that takes two register words (R36). -/
@[noinline] def State.add64 (s : State) (a n : Nat) : State :=
  let v := (s.reg a).toNat + 2 ^ 32 * (s.reg (a + 4)).toNat + n
  (s.setReg a (wd (v % 2 ^ 32))).setReg (a + 4) (wd (v / 2 ^ 32))

/-- Buffered value of an RB register (R47). -/
def State.bufAt (s : State) (a : Nat) : Option Word := SMap.get (fun _ => none) s.buf a
/-- Replace or clear a buffered value. -/
@[noinline] def State.setBuf (s : State) (a : Nat) (v : Option Word) : State := { s with buf := SMap.set (fun _ => none) s.buf a v }
/-- Write in flight to a slow page (R43). -/
def State.postedAt (s : State) (page : Nat) : Option Posted := SMap.get (fun _ => none) s.posted page
/-- Post or clear the write in flight of a page. -/
@[noinline] def State.setPosted (s : State) (page : Nat) (v : Option Posted) : State :=
  { s with posted := SMap.set (fun _ => none) s.posted page v }
/-- Append to what leaves the block. -/
@[noinline] def State.out (s : State) (o : Out) : State := { s with outbox := s.outbox ++ [o] }

/-- The core domain runs (R594): ACTIVE or STANDBY. -/
def State.coreUp (s : State) : Bool := s.pwr.power == .active || s.pwr.power == .standby

/-- The ROM has halted (R111, R141), or a tamper response has ended the main road before the runtime release (R18): the device serves
register reads and the export of the flight record only. -/
def State.shut (s : State) : Bool := s.boot.halted || (s.tamp.responded && !s.boot.rtReleased)
/-- The engines serve (R107, R594): the core domain runs, the wipe is complete, the road has not ended. -/
def State.awake (s : State) : Bool := s.coreUp && !s.boot.wipePending && !s.shut

/-- Flash port `p`; an unlisted port is as after reset, its modes 0 and its bank not yet sensed. -/
def portDefault : Nat → PortState := fun _ => PortState.reset { code := 0, addr4 := false } { code := 0, addr4 := false } 0
/-- Port `p`. -/
def State.port (s : State) (p : Nat) : PortState := SMap.get portDefault s.ports p
/-- Replace port `p`. -/
@[noinline] def State.setPort (s : State) (p : Nat) (v : PortState) : State := { s with ports := SMap.set portDefault s.ports p v }
/-- Change port `p`. -/
@[noinline] def State.modPort (s : State) (p : Nat) (f : PortState → PortState) : State := s.setPort p (f (s.port p))
/-- Hart `h`. -/
def State.hart (s : State) (h : Nat) : Hart := SMap.get Hart.reset s.harts.harts h
/-- Replace hart `h`. -/
@[noinline] def State.setHart (s : State) (h : Nat) (v : Hart) : State :=
  { s with harts := { s.harts with harts := SMap.set Hart.reset s.harts.harts h v } }
/-- Mailbox channel `c`. -/
def State.chan (s : State) (c : Nat) : Channel := SMap.get Channel.reset s.mbx c
/-- Replace channel `c`. -/
@[noinline] def State.setChan (s : State) (c : Nat) (v : Channel) : State := { s with mbx := SMap.set Channel.reset s.mbx c v }
/-- Queue pair `q` (0 to 63) or the job ring of hart `q - 64`. -/
def State.queue (s : State) (q : Nat) : Queue := SMap.get (fun _ => Queue.reset) s.hq.queues q
/-- Replace a queue. -/
@[noinline] def State.setQueue (s : State) (q : Nat) (v : Queue) : State :=
  { s with hq := { s.hq with queues := SMap.set (fun _ => Queue.reset) s.hq.queues q v } }
/-- PCIe function `f`. -/
def State.fn (s : State) (f : Nat) : FnState := SMap.get (fun _ => FnState.reset) s.hq.fns f
/-- Replace a function. -/
@[noinline] def State.setFn (s : State) (f : Nat) (v : FnState) : State :=
  { s with hq := { s.hq with fns := SMap.set (fun _ => FnState.reset) s.hq.fns f v } }
/-- Cellar slot `i`. -/
def State.slot (s : State) (i : Nat) : Slot := SMap.get (fun _ => Slot.reset) s.cel.slots i
/-- Replace a Cellar slot. -/
@[noinline] def State.setSlot (s : State) (i : Nat) (v : Slot) : State :=
  { s with cel := { s.cel with slots := SMap.set (fun _ => Slot.reset) s.cel.slots i v } }
/-- Digest context `i`. -/
def State.dctx (s : State) (i : Nat) : DCtx := SMap.get (fun _ => DCtx.reset) s.dgl.ctxs i
/-- Replace a digest context. -/
@[noinline] def State.setDctx (s : State) (i : Nat) (v : DCtx) : State :=
  { s with dgl := { s.dgl with ctxs := SMap.set (fun _ => DCtx.reset) s.dgl.ctxs i v } }
/-- Digest lane `n`. -/
def State.lane (s : State) (n : Nat) : Lane := SMap.get (fun _ => Lane.reset) s.dgl.lanes n
/-- Replace a lane. -/
@[noinline] def State.setLane (s : State) (n : Nat) (v : Lane) : State :=
  { s with dgl := { s.dgl with lanes := SMap.set (fun _ => Lane.reset) s.dgl.lanes n v } }
/-- Admission queue entry `i`. -/
def State.adm (s : State) (i : Nat) : AdmEntry := SMap.get (fun _ => AdmEntry.reset) s.cis.queue i
/-- Replace an admission queue entry. -/
@[noinline] def State.setAdm (s : State) (i : Nat) (v : AdmEntry) : State :=
  { s with cis := { s.cis with queue := SMap.set (fun _ => AdmEntry.reset) s.cis.queue i v } }
/-- Line timer `t`. -/
def State.timer (s : State) (t : Nat) : Timer := SMap.get (fun _ => Timer.reset) s.cis.timers t
/-- Replace a line timer. -/
@[noinline] def State.setTimer (s : State) (t : Nat) (v : Timer) : State :=
  { s with cis := { s.cis with timers := SMap.set (fun _ => Timer.reset) s.cis.timers t v } }
/-- Measurement slot `i`. -/
def State.mslot (s : State) (i : Nat) : MSlot := SMap.get (fun _ => MSlot.reset) s.meas.slots i
/-- Replace a measurement slot. -/
@[noinline] def State.setMslot (s : State) (i : Nat) (v : MSlot) : State :=
  { s with meas := { s.meas with slots := SMap.set (fun _ => MSlot.reset) s.meas.slots i v } }
/-- Caravan port `p`: 0 UP, 1 DOWN, 2 BRANCH. -/
def State.link (s : State) (p : Nat) : CvnPort := SMap.get (fun _ => CvnPort.reset) s.cvn.ports p
/-- Replace a Caravan port. -/
@[noinline] def State.setLink (s : State) (p : Nat) (v : CvnPort) : State :=
  { s with cvn := { s.cvn with ports := SMap.set (fun _ => CvnPort.reset) s.cvn.ports p v } }
/-- Master watchdog `w`. -/
def State.wdog (s : State) (w : Nat) : Wdog := SMap.get (fun _ => Wdog.reset) s.prst.wdogs w
/-- Replace a watchdog. -/
@[noinline] def State.setWdog (s : State) (w : Nat) (v : Wdog) : State :=
  { s with prst := { s.prst with wdogs := SMap.set (fun _ => Wdog.reset) s.prst.wdogs w v } }
/-- Fuse word `i`. -/
def State.fuse (s : State) (i : Nat) : Word := SMap.get (fun _ => 0) s.lcf.fuses i
/-- Write fuse word `i`. -/
@[noinline] def State.setFuse (s : State) (i : Nat) (v : Word) : State :=
  { s with lcf := { s.lcf with fuses := SMap.set (fun _ => 0) s.lcf.fuses i v } }
/-- Byte of core memory at a hart address. -/
def State.byte (s : State) (a : Nat) : Byte := SMap.get (fun _ => 0) s.ram a
/-- Write a byte of core memory. -/
@[noinline] def State.setByte (s : State) (a : Nat) (v : Byte) : State := { s with ram := SMap.set (fun _ => 0) s.ram a v }
/-- `n` bytes of core memory. -/
def State.bytes (s : State) (a n : Nat) : Bytes := (List.range n).map (fun i => s.byte (a + i))
/-- Write bytes of core memory. -/
@[noinline] def State.setBytes (s : State) (a : Nat) (bs : Bytes) : State :=
  match bs with
  | [] => s
  | b :: t => State.setBytes (s.setByte a b) (a + 1) t
/-- One draw of `n` bytes from the DRBG. -/
def State.draw (s : State) (n : Nat) : Bytes := Config.drbg s.drbgCtr n
/-- The state after a draw. -/
@[noinline] def State.drew (s : State) : State := { s with drbgCtr := s.drbgCtr + 1 }
/-- The state after a free value was taken. -/
@[noinline] def State.freed (s : State) : State := { s with freeCtr := s.freeCtr + 1 }

/-! ### Events and the router -/

/-- Record of event source `k`. -/
def State.evt (s : State) (k : Nat) : EventRec := SMap.get (fun _ => EventRec.reset) s.events k
/-- Replace an event record. -/
@[noinline] def State.setEvt (s : State) (k : Nat) (v : EventRec) : State :=
  { s with events := SMap.set (fun _ => EventRec.reset) s.events k v }
/-- A source is pending while COUNT ≠ ACK or OVF is 1 (R65). -/
def EventRec.pending (e : EventRec) : Bool := decide (e.count ≠ e.ack) || e.ovf
/-- One more event, saturating at 0xFFFF ahead of ACK (R66). -/
def EventRec.bump (e : EventRec) : EventRec :=
  if e.count - e.ack = 0xFFFF then { e with ovf := true } else { e with count := e.count + 1 }
/-- EVT_ENABLE of the source (R68). -/
def State.evtOn (s : State) (k : Nat) : Bool := s.bitOf (pg (srcPage k) 0x24) (srcIndex k)
/-- A source is asserted while it is pending and enabled (R90). -/
def State.asserted (s : State) (k : Nat) : Bool := (s.evt k).pending && s.evtOn k
/-- Address of the ROUTE register of a source (R91). -/
def routeAddr (k : Nat) : Nat := pg (4 + k / 64) (0x40 + 4 * (k % 64))
/-- ROUTE of a source (R92). -/
def State.route (s : State) (k : Nat) : Word := s.reg (routeAddr k)
/-- ROUTE.TYPE. -/
def routeType (r : Word) : Nat := Word.field r 14 12
/-- ROUTE.FUNC. -/
def routeFunc (r : Word) : Nat := Word.field r 11 8
/-- ROUTE.VECTOR. -/
def routeVec (r : Word) : Nat := Word.field r 5 0
/-- ROUTE.PRIO. -/
def routePrio (r : Word) : Nat := Word.field r 17 16
/-- A source that drives the line of hart `h`: routed to it, asserted, PRIO above THRESH (R98). -/
def State.drives (s : State) (h k : Nat) : Bool :=
  s.asserted k && routeType (s.route k) == 1 && routeFunc (s.route k) == h &&
    decide (s.fldOf (pg (11 + h) 0x6C) 1 0 < routePrio (s.route k))
/-- HLINE.LINE of hart `h` (R98). -/
def State.hline (s : State) (h : Nat) : Bool := (List.range 352).any (s.drives h)
/-- HTOP of hart `h` (R99). DESIGN CHOICE (log 104): SRC reads 0 while VALID is 0; the spec gives it a meaning only while LINE is 1. -/
def State.htop (s : State) (h : Nat) : Word :=
  let c := (List.range 352).filter (s.drives h)
  let best := c.foldl (fun (b : Option Nat) k => match b with
    | none => some k
    | some j => if routePrio (s.route j) < routePrio (s.route k) then some k else some j) none
  match best with
  | none => 0
  | some k => wd k ||| flg true 31

/-- Address of an MSI-X table entry (R86). -/
def msixAddr (f v : Nat) : Nat := if f = 0 then pg 0x143 (0x800 + 16 * v) else pg (vfPageBase + f) (0x800 + 16 * v)
/-- PBA bit of a vector. -/
def State.pba (s : State) (f v : Nat) : Bool := SMap.get (fun _ => false) s.msixPba (64 * f + v)
/-- Set or clear a PBA bit. -/
@[noinline] def State.setPba (s : State) (f v : Nat) (b : Bool) : State :=
  { s with msixPba := SMap.set (fun _ => false) s.msixPba (64 * f + v) b }
/-- A message may be sent: vector unmasked, MSI-X on, bus mastering on (R101). -/
def State.msixReady (s : State) (f v : Nat) : Bool :=
  !(s.bitOf (msixAddr f v + 12) 0) && (s.fn f).ctl.msix && (s.fn f).bme
/-- The message of a vector. -/
def State.msixMsg (s : State) (f v : Nat) : Out :=
  .msix f v (s.reg (msixAddr f v)) (s.reg (msixAddr f v + 4)) (s.reg (msixAddr f v + 8))
/-- Request one message for a vector (R101): it is sent, or its PBA bit is set. -/
@[noinline] def State.msixRequest (s : State) (f v : Nat) : State :=
  if s.pba f v then s
  else if s.msixReady f v then s.out (s.msixMsg f v) else s.setPba f v true

/-- Resume a parked or gated hart, once the runtime is released (R505, R110): WAKE_CAUSE 1 interrupt, 2 mailbox, 3 wake. -/
@[noinline] def State.resume (s : State) (h cause : Nat) : State :=
  let x := s.hart h
  if s.boot.rtReleased && (x.st == .parked || x.st == .gated) then
    s.setHart h { x with st := .run, wakeCause := cause, wakes := satInc x.wakes }
  else s
/-- Resume hart `h` if its external interrupt line is up and enabled (mip bit 11, R504, R505). -/
@[noinline] def State.hartIrq (s : State) (h : Nat) : State :=
  if Word.bit (s.hart h).mie 11 && s.hline h then s.resume h 1 else s

/-- What the router does when a source asserts newly (R98, R100). -/
@[noinline] def State.deliver (s : State) (k : Nat) : State :=
  let r := s.route k
  if routeType r = 1 then
    (if s.drives (routeFunc r) k && Word.bit (s.hart (routeFunc r)).mie 11 then s.resume (routeFunc r) 1 else s)
  else if routeType r = 2 then s.msixRequest 0 (routeVec r)
  else if routeType r = 3 then s.msixRequest (routeFunc r) (routeVec r)
  else s
/-- Deliver a source that was not asserted before and is now. -/
@[noinline] def State.deliverIfNew (s : State) (was : Bool) (k : Nat) : State := if !was && s.asserted k then s.deliver k else s
/-- Count one event on source `k` (R66) and let the router act on it. -/
@[noinline] def State.count (s : State) (k : Nat) : State :=
  (s.setEvt k (s.evt k).bump).deliverIfNew (s.asserted k) k
/-- Count several sources in order. -/
@[noinline] def State.counts (s : State) (ks : List Nat) : State := ks.foldl State.count s

/-- Event sources by block (R87, R88). -/
def evSys (k : Nat) : Nat := k
/-- LCF source. -/
def evLcf (k : Nat) : Nat := 16 + k
/-- BOOT source. -/
def evBoot (k : Nat) : Nat := 24 + k
/-- CIS source (R335). -/
def evCis (k : Nat) : Nat := 40 + k
/-- CEL source. -/
def evCel (k : Nat) : Nat := 56 + k
/-- Digest lane source: 0 JOB_DONE, 1 JOB_ERR. -/
def evLane (n k : Nat) : Nat := 72 + 2 * n + k
/-- Flash port source: VERIFY_FAIL, CONTAINED, QUEUE_CAPTURE, POLICY_HIT, SCRUB_DONE, PORT_ERR. -/
def evPort (p k : Nat) : Nat := 104 + 6 * p + k
/-- COMPLETION of a queue. -/
def evQueue (q : Nat) : Nat := 200 + q
/-- PCIe link source. -/
def evLink (k : Nat) : Nat := 264 + k
/-- Mailbox channel source. -/
def evMbx (c : Nat) : Nat := 272 + c
/-- Caravan source (R557). -/
def evCvn (k : Nat) : Nat := 304 + k
/-- TAMP source. -/
def evTamp (k : Nat) : Nat := 316 + k
/-- TKS source (R579). -/
def evTks (k : Nat) : Nat := 332 + k
/-- FLR source. -/
def evFlr (k : Nat) : Nat := 340 + k
/-- Hart and bus error source (R88). -/
def evHart (k : Nat) : Nat := 344 + k

/-! ### Page errors -/

/-- Kinds of page error (R39). -/
inductive ErrKind where
  | busyDrop | narrow | locked | aliasErr | roWrite | reserved | state | ackRange | semOwner | unmapped
  deriving DecidableEq, Repr
/-- The KIND code of R39. -/
def ErrKind.code (k : ErrKind) : Nat :=
  match k with
  | .busyDrop => 1 | .narrow => 2 | .locked => 3 | .aliasErr => 4 | .roWrite => 5 | .reserved => 6 | .state => 7
  | .ackRange => 8 | .semOwner => 9 | .unmapped => 10
/-- PAGE_ERR after one more error (R38, R40): captured at COUNT 0, else only counted, saturating at 255. -/
def pageErrAfter (v : Word) (off : Nat) (k : ErrKind) (m : Master) : Word :=
  if Word.field v 7 0 = 0 then fld (off % 4096) 20 ||| fld k.code 16 ||| fld m.toNat 8 ||| 1
  else Word.satField v 7 0
/-- Record an access error of a master in a page and count REG_ERR, and LOCK_VIOLATION for LOCKED (R40, R42). -/
@[noinline] def State.err (s : State) (page off : Nat) (k : ErrKind) (m : Master) : State :=
  let s := s.setReg (pg page 0x18) (pageErrAfter (s.reg (pg page 0x18)) off k m)
  let s := s.count (evSys 0)
  if k = .locked then s.count (evSys 1) else s
/-- An error at a BAR0 address. -/
@[noinline] def State.errAt (s : State) (a : Nat) (k : ErrKind) (m : Master) : State := s.err (a / 4096) (a % 4096) k m

/-- A lock class is frozen by PAGE_LOCK of the page (R26). -/
def lockedBy (lock : Word) (cl : LockClass) : Bool :=
  match cl with
  | .none => false
  | .c => Word.bit lock 0 || Word.bit lock 3
  | .k => Word.bit lock 1 || Word.bit lock 3
  | .p => Word.bit lock 2 || Word.bit lock 3
/-- A register of a lock class in a page is frozen. -/
def State.frozen (s : State) (page : Nat) (cl : LockClass) : Bool := lockedBy (s.reg (pg page 0xC)) cl

/-- The table row of a BAR0 address. -/
def rowAt (a : Nat) : Option RegRow :=
  match pageAt (a / 4096) with
  | none => none
  | some i => i.row (a % 4096 % i.span)

/-! ### Status codes and masters -/

/-- OK (R8). -/
def stOk : Status := 0
/-- BAD_OPCODE (R8). -/
def stBadOpcode : Status := 1
/-- BAD_LENGTH (R8). -/
def stBadLength : Status := 2
/-- LENGTH_SHORT (R8). -/
def stLengthShort : Status := 3
/-- LENGTH_LONG (R8). -/
def stLengthLong : Status := 4
/-- AUTH_FAIL (R8). -/
def stAuthFail : Status := 5
/-- COUNTER_STALE (R8). -/
def stCounterStale : Status := 6
/-- NO_SLOT (R8). -/
def stNoSlot : Status := 7
/-- BUSY (R8). -/
def stBusy : Status := 8
/-- STATE_FORBIDS (R8). -/
def stStateForbids : Status := 9
/-- TAMPERED (R8). -/
def stTampered : Status := 10
/-- ABORTED (R8). -/
def stAborted : Status := 11
/-- COMMIT_DEFERRED (R8). -/
def stCommitDeferred : Status := 12
/-- STALE_HANDLE (R8). -/
def stStaleHandle : Status := 13
/-- VERSION (R8). -/
def stVersion : Status := 14
/-- INTERNAL (R8). -/
def stInternal : Status := 15

/-- A master is one of the harts (R10). -/
def isHart (m : Master) : Bool := decide (m.toNat < 5)
/-- A master is a PCIe function. -/
def isPcie (m : Master) : Bool := decide (0x10 ≤ m.toNat ∧ m.toNat < 0x20)
/-- JTAG. -/
def jtag : Master := 0x30
/-- R10 assigns the ID; the device issues no access under any other (R11). -/
def assigned (m : Master) : Bool :=
  isHart m || isPcie m || m == 0x20 || m == jtag || (decide (0x40 ≤ m.toNat) && decide (m.toNat < 0x58))

end Sys2Proof.Machine
end

