-- ==== Sys2Proof/Machine/Line.lean ====
section
/-! DEFINITION. The line position (R4, R304 to R307) and the records of the flight recorder (R622 to R626). -/
namespace Sys2Proof.Machine

/-- The fraction in LU: the oscillator's phase, held in steps of 2^-20 LU (R304). -/
def CisState.lu (c : CisState) : Nat := min 65535 (c.ph / 2 ^ 20)
/-- Position distance of R307: how far `hc, lu` lies ahead of `chc, clu`, modulo 2^48. -/
def posDist (hc lu chc clu : Nat) : Nat :=
  ((((hc + 2 ^ 32 - chc % 2 ^ 32) % 2 ^ 32) * 65536 + lu + 2 ^ 48) - clu) % 2 ^ 48
/-- A position is ahead of another (R307). -/
def posAhead (hc lu chc clu : Nat) : Bool := decide (1 ≤ posDist hc lu chc clu ∧ posDist hc lu chc clu < 2 ^ 47)
/-- A position is ahead of the line position. -/
def State.ahead (s : State) (hc lu : Nat) : Bool := posAhead hc lu s.cis.hc s.cis.lu
/-- The line position has reached a position: it is no longer ahead (R53, R328). -/
def State.reached (s : State) (hc lu : Nat) : Bool := !s.ahead hc lu
/-- The 48-bit line timestamp (R306): ERA above the HC count. -/
def State.lineStamp (s : State) : Nat := s.cis.era * 2 ^ 32 + s.cis.hc
/-- The eight position bytes of records and frames: HC count, LU, ERA (R535, R623). -/
def State.posBytes (s : State) : Bytes := leBytes 4 s.cis.hc ++ leBytes 2 s.cis.lu ++ leBytes 2 s.cis.era
/-- How far the line position has run since the rail's start, in steps of 2^-20 LU: what ages are measured on; a seed does not move
it (R323). -/
def State.posRun (s : State) : Nat := s.cis.hcRun * 2 ^ 36 + s.cis.ph
/-- Whole half-cycles of line position since a moment (R323). -/
def State.hcSince (s : State) (t : Nat) : Nat := (s.posRun - t) / 2 ^ 36

/-! ### Flight records -/

/-- Length of a record in bytes, header included (R623). -/
def FlrRec.size (r : FlrRec) : Nat := 16 + ceilDiv r.body.length 8 * 8
/-- Bytes that a list of records takes. -/
def recBytes (l : List FlrRec) : Nat := (l.map FlrRec.size).foldl (· + ·) 0
/-- Bytes of the ring: 1 MB less the boot section and the pinned tamper slot of 64 bytes (R622). -/
def FlrState.ringCap (f : FlrState) : Nat := 2 ^ 20 - 64 - recBytes f.boot
/-- Drop the oldest records until `n` more bytes fit; the fuel is the number of records. -/
def ringRoom (cap n fuel : Nat) (l : List FlrRec) : List FlrRec :=
  match fuel with
  | 0 => l
  | k + 1 => if recBytes l + n ≤ cap then l else ringRoom cap n k (l.drop 1)

/-- Put a record into the store (R622): the boot section while it is open and below 64 KB, the tamper slot for the first
TAMPER record, else the ring, whose oldest records are overwritten; while an export runs nothing is overwritten (R626). -/
@[noinline] def State.putRec (s : State) (r : FlrRec) : State :=
  let f := s.flr
  if r.type = 0x0B ∧ f.tamper = none then
    { s with flr := { f with tamper := some { r with pinned := true }, nextSeq := f.nextSeq + 1, records := f.records + 1 } }
  else if f.bootOpen ∧ recBytes f.boot + r.size ≤ 65536 then
    { s with flr := { f with boot := f.boot ++ [{ r with pinned := true }], nextSeq := f.nextSeq + 1,
                             records := f.records + 1, wrPtr := recBytes f.boot + r.size } }
  else
    let full := decide (f.ringCap < recBytes f.ring + r.size)
    if full ∧ f.exp = .running then
      { s with flr := { f with bootOpen := false, lost := satInc f.lost, gap := f.gap + 1 } }.count (evFlr 2)
    else
      let base := recBytes f.boot
      let wraps := decide (2 ^ 20 - 64 < f.wrPtr + r.size)
      let s := { s with flr := { f with
        bootOpen := false, ring := ringRoom f.ringCap r.size f.ring.length f.ring ++ [r], nextSeq := f.nextSeq + 1,
        records := f.records + 1, wrPtr := if wraps then base + r.size else f.wrPtr + r.size } }
      if wraps then s.count (evFlr 0) else s

/-- A record of `n` bytes finds room (R626): always, but while an export runs and nothing may be overwritten. -/
def FlrState.room (f : FlrState) (n : Nat) : Bool :=
  f.exp != .running || (f.bootOpen && decide (recBytes f.boot + n ≤ 65536)) || decide (recBytes f.ring + n ≤ f.ringCap)
/-- Write a record of a type with its source and body; a GAP record comes first after a loss, once there is room for it (R623, R624). The
recorder works while the core domain runs (R12). -/
@[noinline] def State.flight (s : State) (type : Nat) (src : Master) (body : Bytes) : State :=
  if !s.coreUp then s else
  let mk (s : State) (t : Nat) (m : Master) (b : Bytes) : FlrRec :=
    { type := t, source := m, pinned := false, seq := s.flr.nextSeq, pos := leNat s.posBytes, body := b }
  let s := if s.flr.gap = 0 ∨ !s.flr.room 24 then s else
    let g := s.flr.gap
    { s with flr := { s.flr with gap := 0 } }.putRec (mk s 0x10 0x46 (leBytes 4 g ++ zeros 4))
  s.putRec (mk s type src body)

/-- The bytes of a record: header and padded body (R623). -/
def FlrRec.bytes (r : FlrRec) : Bytes :=
  leBytes 1 r.type ++ leBytes 1 (r.size / 8) ++ [r.source] ++ leBytes 1 r.pinned.toNat ++ leBytes 4 r.seq ++
  leBytes 8 r.pos ++ Bytes.fit r.body (r.size - 16)

/-- DMA_IN records for bytes that a master other than a hart writes at a hart address, 256 bytes each (R624). -/
@[noinline] def State.dmaRecords (s : State) (m : Master) (addr : Nat) (data : Bytes) : State :=
  if !s.bitOf (pg 0x29 0x40) 1 then s
  else (List.range (ceilDiv data.length 256)).foldl (fun s k =>
    let p := Bytes.slice data (256 * k) 256
    s.flight 0x05 m (leBytes 4 (addr + 256 * k) ++ leBytes 2 p.length ++ zeros 2 ++ p)) s

/-- A read returns bytes to its master; a hart's load from the register window writes a LOAD record from the runtime release on
where FLR_CTRL.LOADS is set (R624, R637). -/
@[noinline] def State.readOut (s : State) (m : Master) (a : Nat) (data : Bytes) : State :=
  let s := if isHart m && s.boot.rtReleased && s.bitOf (pg 0x29 0x40) 0 then
      s.flight 0x03 m (leBytes 4 (0x20000000 + a) ++ leBytes 1 data.length ++ zeros 3 ++ Bytes.fit data 8)
    else s
  s.out (.readData m a data)

/-- BOOT_STAGE register (R140). -/
def aStage : Nat := pg 0x14 0x40
/-- What the UART carries out of the device by itself (R339): the boot status in PROVISION, the halt code in SCRAP and undecodable
(STAGE 0x0F). The words' form on the line is not stated. -/
@[noinline] def State.uartOut (s : State) (v : Word) : State :=
  match s.lcf.eff with
  | some .provision => s.out (.uart v.toNat)
  | some .scrap => if Word.field v 7 0 = 0x0F then s.out (.uart (Word.field v 15 8)) else s
  | none => if Word.field v 7 0 = 0x0F then s.out (.uart (Word.field v 15 8)) else s
  | _ => s
/-- Write BOOT_STAGE; a change writes a STAGE record (R624) and counts STAGE_CHANGE (R152). -/
@[noinline] def State.setStage (s : State) (v : Word) : State :=
  if s.reg aStage = v then s
  else (((s.setReg aStage v).uartOut v).flight 0x01 0x00 (leBytes 4 v.toNat ++ leBytes 4 (s.clk - s.pwr.pwrOkAt))).count (evBoot 1)

end Sys2Proof.Machine
end

