-- ==== Sys2Proof/Machine/Access.lean ====
section
/-! DEFINITION. Which writes reach a register (R26 to R44, R59, R81, R339) and the commands on page headers, semaphores,
events and routes. -/
namespace Sys2Proof.Machine

/-- Debug rights in force (R359, R360): all in RAW and TEST, none in SCRAP and undecodable, else those granted. -/
def State.rights (s : State) : Nat :=
  match s.lcf.eff with
  | some .raw => 0x1FFF
  | some .test => 0x1FFF
  | some .scrap => 0
  | none => 0
  | _ => s.lcf.granted.toNat
/-- A debug right by its bit. -/
def State.right (s : State) (b : Nat) : Bool := s.rights.testBit b
/-- JTAG may write pages, secure or not, in the current state with the rights in force (R81, R339). -/
def State.jtagAllows (s : State) (secure : Bool) : Bool :=
  match s.lcf.eff with
  | some .raw => true
  | some .test => true
  | some .provision => s.right 6 && (!secure || s.right 11)
  | some .owned => s.right 6 && !secure
  | some .ret => s.right 6 && (!secure || s.right 11)
  | _ => false
/-- JTAG may write this page (R81, R339): BOOT page 1 in RETURN without a right. -/
def State.jtagMay (s : State) (i : PageInfo) : Bool := (i.kind == .boot1 && s.lcf.eff == some .ret) || s.jtagAllows i.secure

/-- Who writes a queue page besides hart 0 (R84, R452, R454 note 1): PF0 of queues 0 to 15, a VF of its three queues, nobody of 61 to 63. -/
def queueOwner (q : Nat) (m : Master) : Bool :=
  m == 0 || (decide (q < 16) && m == 0x10) || (decide (16 ≤ q) && decide (q ≤ 60) && m.toNat == 0x11 + (q - 16) / 3)
/-- A master may write a page (R454 note 1): of a queue page only the queue's owner and hart 0, of every other page any. -/
def pageWriter (i : PageInfo) (m : Master) : Bool := i.kind != .hq || queueOwner i.inst m
/-- The writer class of a register admits a master. -/
def writerOk (i : PageInfo) (w : Writer) (m : Master) : Bool :=
  match w with
  | .any => true
  | .hart0 => m == 0
  | .queueOwner => queueOwner i.inst m
  | .pf0Hart0 => m == 0 || m == 0x10
  | .jtag => m == jtag
  | .harts => isHart m

/-- The two registers that JTAG writes under rights of their own (R81): DBG_CTRL and JDC_RX. -/
def jtagOwn (i : PageInfo) (r : RegRow) : Bool := i.kind == .hartDbg && (r.off == 0x44 || r.off == 0x4C)
/-- JTAG may write a register: DBG_CTRL in every state that grants debug rights and JDC_RX as a page that is not secure (R81, R511, R512),
or any register of a page that it may write. -/
def State.jtagReg (s : State) (i : PageInfo) (r : RegRow) : Bool :=
  if jtagOwn i r then (if r.off = 0x44 then s.lcf.eff != none && s.lcf.eff != some .scrap else s.jtagAllows false) else s.jtagMay i
/-- CIS registers that hart 0 alone writes: every writable block register but the EA registers and Q_INDEX (R330). -/
def cisHart0 (i : PageInfo) (r : RegRow) : Bool :=
  (i.kind == .cis0 || i.kind == .cis1) && r.code != .ea && !(i.kind == .cis1 && r.off == 0x6C)

/-- Why a 32-bit write of a master to a block register is refused before its own conditions: R81 and R339 for JTAG and
secure pages, the reserved words (R32), the access codes that take no write (R29), the writer and the locks (R59). DESIGN CHOICE
(log 64): of a write that fails several of these, the first in this order is the kind recorded; the spec gives no order. -/
def State.writeGate (s : State) (m : Master) (a : Nat) : Option ErrKind :=
  match pageAt (a / 4096) with
  | none => some .unmapped
  | some i =>
    match i.row (a % 4096 % i.span) with
    | none => if (m = jtag ∧ !s.jtagMay i) ∨ (i.secure ∧ m ≠ 0 ∧ m ≠ jtag) then some .state else some .reserved
    | some r =>
      if m = jtag ∧ !s.jtagReg i r then some .state
      else if i.secure ∧ m ≠ 0 ∧ m ≠ jtag then some .state
      else if r.code = .ro ∨ r.code = .lv ∨ r.code = .ec then some .roWrite
      else if !(writerOk i r.who m) ∨ !pageWriter i m ∨ (cisHart0 i r ∧ m ≠ 0) then some .state
      else if s.frozen (a / 4096) r.lock then some .locked
      else none

/-- A hart has its clock: hold-up mode stops harts 1 to 4 (R649). -/
def State.clocked (s : State) (h : Nat) : Bool := s.coreUp && !(s.pwr.holdup && h != 0)
/-- The hart executes: in RUN, with its clock, the wipe complete (R107). -/
def State.runs (s : State) (h : Nat) : Bool := (s.hart h).st == .run && s.clocked h && !s.boot.wipePending
/-- The PCIe endpoint works (R12, R594): in ACTIVE, with its link up. -/
def State.hostUp (s : State) : Bool := s.hq.up && s.pwr.power == .active
/-- The block takes an access of a master (R11, R12, R107, R446, R594, R633, R649): its core is powered, its ID is assigned, a hart runs and
does not replay (a replayed store reaches no register), and a PCIe master has the endpoint working and its function not in reset. -/
def State.takes (s : State) (m : Master) : Bool :=
  s.coreUp && assigned m && !(isHart m && (s.flr.replay == .running || !s.runs m.toNat)) &&
    !(isPcie m && (!s.hostUp || s.hq.flrPending.getLsbD (m.toNat - 0x10)))
/-- A master reaches a page (R84, R85): a VF its three queue pages and its information page, every other master all pages but the
information pages. -/
def reaches (m : Master) (page : Nat) : Bool :=
  let v := m.toNat - 0x10
  if vfPageBase < page then isPcie m && page == vfPageBase + v
  else !isPcie m || v == 0 || (decide (0x110 + 3 * (v - 1) ≤ page) && decide (page < 0x113 + 3 * (v - 1)))
/-- An access of a master arrives at a page. -/
def State.arrives (s : State) (m : Master) (page : Nat) : Bool := s.takes m && reaches m page
/-- A read by a function whose reset is not over returns 0 (R446). -/
def State.flrReads (s : State) (m : Master) (page : Nat) : Bool :=
  s.coreUp && isPcie m && s.hostUp && s.hq.flrPending.getLsbD (m.toNat - 0x10) && reaches m page
/-- The registers that start and address an export of the flight record: EXP_CTRL and EXP_ADDR (R627, R637). -/
def exportReg (a : Nat) : Bool := [pg 0x29 0x4C, pg 0x29 0x50, pg 0x29 0x54].contains a
/-- In the ROM's halt, and once a tamper response has ended the main road before the runtime release, the device serves register reads and
flight-record export only (R18, R111, R141): of all words only those of the export take a write. -/
def State.haltBars (s : State) (a : Nat) : Bool := s.shut && !exportReg a
/-- A write of a master to a block register whose effect is `eff`: it is dropped while the slow page is busy (R44), refused
under `writeGate`, and otherwise has its effect. An error of unmapped space lands in SYS page 0 (R33). -/
@[noinline] def State.guarded (s : State) (m : Master) (a : Nat) (eff : State → State) : State :=
  match pageAt (a / 4096) with
  | none => if s.arrives m (a / 4096) then s.err 0 a .unmapped m else s
  | some i =>
    if !s.arrives m (a / 4096) then s
    else if i.slow ∧ (s.postedAt (a / 4096)).isSome then s.errAt a .busyDrop m
    else if s.haltBars a then s.errAt a .state m
    else match s.writeGate m a with
      | some k => s.errAt a k m
      | none => eff s
/-- Refuse a write as not allowed in the current state. -/
@[noinline] def State.refuse (s : State) (m : Master) (a : Nat) : State := s.errAt a .state m
/-- Do `eff` where a condition holds, else refuse the write as STATE. -/
@[noinline] def State.when (s : State) (m : Master) (a : Nat) (c : Bool) (eff : State → State) : State :=
  if c then eff s else s.refuse m a

/-! ### Page headers -/

/-- A master may write the headers of a page (R81, R339, R454). -/
def State.headMay (s : State) (m : Master) (i : PageInfo) : Bool :=
  (if m = jtag then s.jtagMay i else !i.secure || m == 0) && pageWriter i m
/-- A header write that has arrived at a page: R44, R81, R141, R339, R454. -/
@[noinline] def State.headOne (s : State) (m : Master) (i : PageInfo) (page off : Nat) (eff : State → State) : State :=
  if i.slow ∧ (s.postedAt page).isSome then s.err page off .busyDrop m
  else if s.haltBars (pg page off) then s.err page off .state m
  else if !s.headMay m i then s.err page off .state m
  else eff s
/-- Members that a write to a broadcast or group page reaches (R75). -/
def State.membersOf (s : State) (ms : List Nat × Option Nat) : List Nat :=
  match ms.2 with
  | none => ms.1
  | some g => ms.1.filter (fun p => s.bitOf (pg p 0x14) g)
/-- What a broadcast or group write of a header word does in one member (R75, R76): PAGE_LOCK takes it, any other word records STATE. -/
@[noinline] def State.headMember (s : State) (m : Master) (page off : Nat) (eff : State → State) : State :=
  match pageAt page with
  | none => s
  | some i => s.headOne m i page off (if off = 0xC then eff else fun s => s.err page off .state m)
/-- A header write of a master (R33, R44, R75, R76, R80, R81, R339): a broadcast or group page forwards it to its members, each of which takes
or refuses it; unmapped space records UNMAPPED in SYS page 0. -/
@[noinline] def State.headGuard (s : State) (m : Master) (page off : Nat) (eff : Nat → State → State) : State :=
  if !s.arrives m page then s
  else match pageAt page with
  | some i => s.headOne m i page off (eff page)
  | none =>
    match bcastMembers page with
    | some ms => (s.membersOf ms).foldl (fun s p => s.headMember m p off (eff p)) s
    | none => s.err 0 off .unmapped m

/-- The lock class of the register at an address. -/
def lockOf (a : Nat) : LockClass :=
  match rowAt a with
  | none => if a % 4096 = 0x14 ∨ a % 4096 = 0x24 then .c else .none
  | some r => r.lock
/-- Set lock bits of a page: set-only, and values of the registers they freeze that have not applied are discarded (R26, R51). -/
@[noinline] def State.setLock (s : State) (page : Nat) (v : Word) : State :=
  let s := s.setReg (pg page 0xC) (s.reg (pg page 0xC) ||| (v &&& 0xF))
  let keep (a : Nat) : Bool := !(a / 4096 == page && s.frozen page (lockOf a))
  { s with buf := s.buf.filter (fun e => keep e.1), slowDue := s.slowDue.filter (fun e => keep e.1) }
/-- The effect of PAGE_ERR_ACK (R41). -/
@[noinline] def State.ackErr (s : State) (page : Nat) (v : Word) : State :=
  if Word.field v 7 0 = Word.field (s.reg (pg page 0x18)) 7 0 then (s.setReg (pg page 0x18) 0).setReg (pg page 0x1C) (v &&& 0xFF) else s
/-- The effect of EVT_FORCE: in TEST and RETURN one event on each source named, else STATE (R69). -/
@[noinline] def State.force (s : State) (m : Master) (page : Nat) (v : Word) : State :=
  if s.lcf.eff = some .test ∨ s.lcf.eff = some .ret then
    match pageAt page with
    | none => s
    | some i => s.counts (((Word.ones v).filter (fun n => decide (n < i.nsrc))).map (fun n => i.src0 + n))
  else s.err page 0x28 .state m
/-- Bits of PAGE_GROUP that a page takes: BGROUP where groupable, UGROUP where buffered (R28). -/
def groupMask (i : PageInfo) : Word := (if i.groupable then 0xF else 0) ||| (if i.buffered then 0x1F00 else 0)

/-- PAGE_LOCK_WRITE (R26, R75, R76). -/
def execPageLockWrite (m : Master) (page : Nat) (v : Word) (s : State) : Res :=
  .next (s.headGuard m page 0xC (fun p s => s.setLock p v))
/-- PAGE_ERR_ACK (R41). -/
def execPageErrAck (m : Master) (page : Nat) (v : Word) (s : State) : Res :=
  .next (s.headGuard m page 0x1C (fun p s => s.ackErr p v))
/-- EVT_FORCE (R69). -/
def execEvtForce (m : Master) (page : Nat) (v : Word) (s : State) : Res :=
  .next (s.headGuard m page 0x28 (fun p s => s.force m p v))

/-! ### Events -/

/-- Address of the EA register of a source. -/
def ackAddr (k : Nat) : Nat :=
  match pageAt (srcPage k) with
  | none => 0
  | some i => pg (srcPage k) (i.evtOff + 8 * srcIndex k + 4)
/-- An acknowledge value is in range: not ahead of the count (R67). -/
def EventRec.ackOk (e : EventRec) (v : BitVec 16) : Bool := decide ((v - e.ack).toNat ≤ (e.count - e.ack).toNat)
/-- The MSI-X request of a source that an acknowledge leaves asserted (R100). -/
@[noinline] def State.reassert (s : State) (k : Nat) : State :=
  if s.asserted k && (routeType (s.route k) == 2 || routeType (s.route k) == 3) then s.deliver k else s
/-- The effect of an EA write (R67): acknowledge in range, else ACK_RANGE. -/
@[noinline] def State.ackEvt (s : State) (m : Master) (k : Nat) (v : Word) : State :=
  let a := BitVec.ofNat 16 v.toNat
  if (s.evt k).ackOk a then (s.setEvt k { s.evt k with ack := a, ovf := false }).reassert k
  else s.errAt (ackAddr k) .ackRange m
/-- EVENT_ACK (R67). -/
def execEventAck (m : Master) (src : Fin 352) (v : Word) (s : State) : Res :=
  .next (s.guarded m (ackAddr src.val) (fun s => s.ackEvt m src.val v))

/-- The effect of SW_EVT: one event on SYS source 12 + j for each bit j (R89). -/
@[noinline] def State.swEvt (s : State) (v : Word) : State :=
  s.counts (((Word.ones v).filter (fun j => decide (j < 4))).map (fun j => evSys (12 + j)))
/-- SW_EVT (R89). -/
def execSwEvt (m : Master) (v : Word) (s : State) : Res := .next (s.guarded m (pg 3 0xC0) (fun s => s.swEvt v))

/-! ### Semaphores -/

/-- Holder of semaphore `n`. -/
def State.sem (s : State) (n : Nat) : Option Master := SMap.get (fun _ => none) s.sems n
/-- Set or free a semaphore. -/
@[noinline] def State.setSem (s : State) (n : Nat) (o : Option Master) : State := { s with sems := SMap.set (fun _ => none) s.sems n o }
/-- What a read of a semaphore returns (R71). -/
def semValue (o : Option Master) : Word := match o with | none => 0 | some m => 0x80000000 ||| wd m.toNat
/-- What a 32-bit read of a semaphore does: it acquires a free one (R71); a hart's read writes a SEM record (R624). -/
@[noinline] def State.semTake (s : State) (m : Master) (n : Nat) : State :=
  let v := semValue (s.sem n)
  let s := if s.sem n = none then s.setSem n (some m) else s
  if isHart m then s.flight 0x0C m (leBytes 1 n ++ zeros 3 ++ leBytes 4 v.toNat) else s
/-- The effect of a semaphore write: the owner's 0 frees it, any other write is SEM_OWNER (R72). -/
@[noinline] def State.semWrite (s : State) (m : Master) (n : Nat) (v : Word) : State :=
  if s.sem n = some m ∧ v = 0 then s.setSem n none else s.errAt (pg 2 (0x40 + 4 * n)) .semOwner m
/-- SEM_WRITE (R72). -/
def execSemWrite (m : Master) (n : Fin 64) (v : Word) (s : State) : Res :=
  .next (s.guarded m (pg 2 (0x40 + 4 * n.val)) (fun s => s.semWrite m n.val v))
/-- Free every semaphore of a reset master and count SEM_RECLAIM for each (R74). -/
@[noinline] def State.semReclaim (s : State) (m : Master) : State :=
  ((List.range 64).filter (fun n => s.sem n == some m)).foldl (fun s n => (s.setSem n none).count (evSys 3)) s

/-! ### Routes -/

/-- The value that a route write stores, or none where R93 does not accept it. -/
def routeStored (src : Nat) (v : Word) : Option Word :=
  match routeType v with
  | 0 => some 0
  | 1 => if routeFunc v < 5 then some (fld 1 12 ||| fld (routeFunc v) 8 ||| fld (routePrio v) 16) else none
  | 2 => some (fld 2 12 ||| wd (routeVec v))
  | 3 =>
    let q := src - 200
    if 200 ≤ src ∧ src < 264 ∧ 16 ≤ q ∧ q ≤ 60 ∧ (q - 16) / 3 + 1 = routeFunc v ∧ routeVec v < 4 then
      some (fld 3 12 ||| fld (routeFunc v) 8 ||| wd (routeVec v))
    else none
  | _ => none
/-- Sources whose routes hart 0 alone may write, or JTAG where it may write secure pages (R81, R94): LCF, CEL, TAMP and the hart and bus errors. -/
def routeGuarded (src : Nat) : Bool :=
  (decide (16 ≤ src) && decide (src < 24)) || (decide (56 ≤ src) && decide (src < 72)) ||
  (decide (316 ≤ src) && decide (src < 332)) || decide (344 ≤ src)
/-- TYPE, FUNC and VECTOR of a route (R95). -/
def routeDest (r : Word) : Word := r &&& 0x7F3F
/-- The effect of a route write (R93 to R95): stored, and a route change delivers an asserted source anew; a refusal records
STATE and counts ROUTE_REJECT. -/
@[noinline] def State.routeWrite (s : State) (m : Master) (src : Nat) (v : Word) : State :=
  match (if routeGuarded src && m != 0 && !(m == jtag && s.jtagAllows true) then none else routeStored src v) with
  | none => (s.errAt (routeAddr src) .state m).count (evSys 5)
  | some r =>
    let old := s.route src
    let s := s.setReg (routeAddr src) r
    if routeDest old ≠ routeDest r then (if s.asserted src then s.deliver src else s)
    else if routeType r = 1 then s.hartIrq (routeFunc r) else s
/-- ROUTE_WRITE (R93). -/
def execRouteWrite (m : Master) (src : Fin 352) (v : Word) (s : State) : Res :=
  .next (s.guarded m (routeAddr src.val) (fun s => s.routeWrite m src.val v))

/-- MSIX_PENDING_SEND (R101): the message of a vector whose PBA bit is set, once it may be sent. -/
@[noinline] def State.msixPending (s : State) (f v : Nat) : State :=
  if s.coreUp && s.pba f v && s.msixReady f v then (s.setPba f v false).out (s.msixMsg f v) else s
/-- MSIX_PENDING_SEND (R101). -/
def execMsixPendingSend (fn : Fin 16) (vec : Fin 64) (s : State) : Res := .next (s.msixPending fn.val vec.val)

end Sys2Proof.Machine
end

