-- ==== Sys2Proof/Machine/Hold.lean ====
section
/-! DEFINITION. What decides the level of a hold line (R104, R145, R675), the hardware forces (R149), and the queues of the
extend unit (R417, R418). -/
namespace Sys2Proof.Machine

/-- Hold line that PORT_MAP gives a port: VALID and LINE below 24 (R143, R675). -/
def State.lineOf (s : State) (p : Nat) : Option Nat :=
  let w := s.reg (pg 0x2C (0x54 + 4 * (p / 4)))
  let line := Word.field w (8 * (p % 4) + 4) (8 * (p % 4))
  if Word.bit w (8 * (p % 4) + 7) ∧ line < 24 then some line else none
/-- Ports mapped to a line. -/
def State.portsOf (s : State) (i : Nat) : List Nat := (List.range 16).filter (fun p => s.lineOf p == some i)
/-- Tree binding `b` of port `p`. -/
def PortState.bind (q : PortState) (b : Nat) : Binding := SMap.get (fun _ => Binding.reset) q.binds b
/-- Replace a binding. -/
def PortState.setBind (q : PortState) (b : Nat) (v : Binding) : PortState :=
  { q with binds := SMap.set (fun _ => Binding.reset) q.binds b v }
/-- Pantry window `w` of a port. -/
def PortState.win (q : PortState) (w : Nat) : Window := SMap.get (fun _ => Window.reset) q.wins w
/-- Replace a window. -/
def PortState.setWin (q : PortState) (w : Nat) (v : Window) : PortState :=
  { q with wins := SMap.set (fun _ => Window.reset) q.wins w v }
/-- BIND_CFG.CLASS. -/
def Binding.cls (b : Binding) : Nat := Word.field b.cfg 5 0
/-- BIND_CFG.HASH. -/
def Binding.hash (b : Binding) : Nat := Word.field b.cfg 8 8
/-- BIND_CFG.GATE. -/
def Binding.gate (b : Binding) : Bool := Word.bit b.cfg 16
/-- BIND_CFG.FULL. -/
def Binding.full (b : Binding) : Bool := Word.bit b.cfg 17
/-- BIND_BODY.FBLOCK. -/
def Binding.fblock (b : Binding) : Nat := Word.field b.body 15 0
/-- BIND_BODY.CS. -/
def Binding.cs (b : Binding) : Nat := Word.field b.body 16 16
/-- BIND_LEN.NBLK. -/
def Binding.nblk (b : Binding) : Nat := Word.field b.len 16 0
/-- BIND_TREE.TBASE. -/
def Binding.tbase (b : Binding) : Nat := Word.field b.tree 17 0
/-- The lowest pinned level: min(PIN_LEVEL, d) (R242). -/
def Binding.pin (b : Binding) : Nat := min (Word.field b.cfg 11 9) (treeDepth b.nblk)

/-- VER_CTRL.EN of a port. -/
def State.verEn (s : State) (p : Nat) : Bool := s.bitOf (fp p 3 0x40) 0
/-- Bindings of a port that take part in the release gate. -/
def PortState.gated (q : PortState) : List Binding :=
  ((List.range 8).map q.bind).filter (fun b => b.st != .empty && b.gate)
/-- MAN_OK (R238). -/
def State.manOk (s : State) (p : Nat) : Bool :=
  let g := (s.port p).gated
  s.verEn p && !g.isEmpty && g.all (fun b => b.st == .confirmed)
/-- PANTRY_OK (R238). -/
def State.pantryOk (s : State) (p : Nat) : Bool :=
  (List.range 64).all (fun w => let x := ((s.port p).win w).st; x == .empty || x == .loaded)
/-- FULL_OK (R238). -/
def State.fullOk (s : State) (p : Nat) : Bool :=
  (s.port p).gated.all (fun b => b.st != .confirmed || !b.full || b.fullOk)
/-- The release gate of a line (R145, R239). -/
def State.gate (s : State) (i : Nat) : Bool :=
  s.boot.rtReleased && s.prst.ready.getLsbD i && (s.portsOf i).all (fun p => s.manOk p && s.pantryOk p && s.fullOk p)
/-- A line is asserted by HOLD_REQ, also as a RECOVER HOLD keeps it until the next boot (R620), HOLD_FORCE, the gate, or a power rail that is not valid (R104, R105). -/
def State.asserts (s : State) (i : Nat) : Bool :=
  s.prst.holdReq.getLsbD i || s.prst.recoverHold.getLsbD i || s.prst.force.getLsbD i || !s.gate i || !s.pwr.pwrOk || !s.coreUp
/-- HOLD_N[i] is low: it has not deasserted, or it is asserted again. -/
def State.lineHeld (s : State) (i : Nat) : Bool := !s.prst.released.getLsbD i || s.asserts i
/-- PORT_CTRL.EN. -/
def State.portEn (s : State) (p : Nat) : Bool := s.bitOf (fp p 0 0x40) 0
/-- The line of a port counts as held (R675 for an unmapped port). -/
def State.portHeld (s : State) (p : Nat) : Bool :=
  match s.lineOf p with
  | some i => s.lineHeld i
  | none => !s.portEn p || (s.port p).contained

/-- A bit vector with one bit set or cleared. -/
def putBit {n : Nat} (v : BitVec n) (i : Nat) (b : Bool) : BitVec n :=
  if b then v ||| BitVec.ofNat n (2 ^ i) else v &&& ~~~(BitVec.ofNat n (2 ^ i))
/-- Force a line (R149): HOLD_N asserts. -/
@[noinline] def State.forceLine (s : State) (i : Nat) : State :=
  { s with prst := { s.prst with force := putBit s.prst.force i true, released := putBit s.prst.released i false } }
/-- The classes behind a line are in recovery from a trigger of R617 until its master runs again. -/
@[noinline] def State.recovLine (s : State) (i : Nat) : State :=
  { s with prst := { s.prst with recov := putBit s.prst.recov i true } }
/-- Force the line of a port, if it is mapped. -/
@[noinline] def State.forcePort (s : State) (p : Nat) : State :=
  match s.lineOf p with
  | some i => s.forceLine i
  | none => s

/-! ### Extends made by the device -/

/-- Put an entry of types 0x01 to 0x3F into the hardware queue of 64; a full queue makes it wait in its block with LATE set
(R417, R418). After a tamper response extends go on. -/
@[noinline] def State.measHw (s : State) (slot type : Nat) (src : Master) (info : Nat) (data : Bytes) : State :=
  let e : MEntry := { slot, type, source := src, late := false, info, data := Bytes.fit data 48, job := none }
  if s.meas.hwq.length < 64 ∧ s.meas.hwLate = [] then { s with meas := { s.meas with hwq := s.meas.hwq ++ [e] } }
  else { s with meas := { s.meas with hwLate := s.meas.hwLate ++ [{ e with late := true }] } }

/-- Master ID of the engine of port `p` (R10). -/
def portMaster (p : Nat) : Master := BitVec.ofNat 8 (0x48 + p)

end Sys2Proof.Machine
end

