-- ==== Sys2Proof/Machine/Lanes.lean ====
section
/-! DEFINITION. Digest lanes as they are shared: which jobs a lane may run, which a free lane takes, and which a job that becomes
ready preempts (R291 to R294, R299). -/
namespace Sys2Proof.Machine

/-- RESV of a lane is active and it is not offline (R291, R299). -/
def State.laneResv (s : State) (n : Nat) : Bool := s.bitOf (pg (0x40 + n) 0x40) 0 && !s.bitOf (pg (0x40 + n) 0x40) 1
/-- A lane has power and clocks (R598, R649): lanes stop on the way to RETAIN, and hold-up mode suspends those that are not reserved. -/
def State.laneOn (s : State) (n : Nat) : Bool := s.coreUp && s.pwr.pending != some .retain && (!s.pwr.holdup || s.laneResv n)
/-- A lane runs general jobs (R291, R299, R649): not reserved, not offline, not stopped. -/
def State.laneRuns (s : State) (n : Nat) : Bool :=
  s.laneOn n && !s.bitOf (pg (0x40 + n) 0x40) 0 && !s.bitOf (pg (0x40 + n) 0x40) 1
/-- A lane runs permanent contexts (R291): a reserved one while any lane is reserved, else any that is not offline. -/
def State.lanePerm (s : State) (n : Nat) : Bool :=
  s.laneOn n && !s.bitOf (pg (0x40 + n) 0x40) 1 && (s.laneResv n || !(List.range 16).any s.laneResv)
/-- A lane may run a job (R291). -/
def State.mayRun (s : State) (n : Nat) (j : DJob) : Bool := if j.kind = .perm then s.lanePerm n else s.laneRuns n
/-- A lane holds a context. -/
def State.ctxRuns (s : State) (i : Nat) : Bool := (List.range 16).any (fun n => (s.lane n).job.any (fun j => j.ctx == i))
/-- Jobs that may run: the first of their context in the ready list, the context held by no lane (R289, R293). -/
def State.eligible (s : State) : List DJob :=
  (s.dgl.ready.foldl (fun (a : List DJob × List Nat) j =>
    if a.2.contains j.ctx then a else (a.1 ++ [j], a.2 ++ [j.ctx])) ([], [])).1.filter (fun j => !s.ctxRuns j.ctx)
/-- The job that a free lane takes (R293): of those it may run, the first of the highest priority. -/
def State.bestJob (s : State) (n : Nat) : Option DJob :=
  (s.eligible.filter (s.mayRun n)).foldl
    (fun b j => match b with | none => some j | some x => if x.prio < j.prio then some j else some x) none
/-- A lane that may run a job is free. -/
def State.laneIdle (s : State) (j : DJob) : Bool := (List.range 16).any (fun n => s.mayRun n j && (s.lane n).job.isNone)
/-- The lane that a job preempts (R294): lowest priority, the one that started most recently, not marked already. -/
def State.victim (s : State) (j : DJob) : Option Nat :=
  let c := (List.range 16).filter (fun n =>
    s.mayRun n j && (s.lane n).marked.isNone && (s.lane n).job.any (fun x => decide (x.prio < j.prio)))
  c.foldl (fun b n =>
    let key (k : Nat) : Nat × Nat := (match (s.lane k).job with | some j => j.prio | none => 0, (s.lane k).since)
    match b with
    | none => some n
    | some x => if (key n).1 < (key x).1 ∨ ((key n).1 = (key x).1 ∧ (key x).2 < (key n).2) then some n else some x) none
/-- A lane is marked for a job's context. -/
def State.isWanted (s : State) (ctx : Nat) : Bool := (List.range 16).any (fun n => (s.lane n).marked == some ctx)
/-- A job has become ready (R294): unless a lane is free or marked for it already, a lane may be marked for it. -/
@[noinline] def State.wantLane (s : State) (j : DJob) : State :=
  if s.laneIdle j || s.isWanted j.ctx then s
  else match s.victim j with
    | some n => s.setLane n { s.lane n with marked := some j.ctx }
    | none => s
/-- Every job that may run and has neither a free lane nor a mark looks for a lane. -/
@[noinline] def State.wantLanes (s : State) : State := s.eligible.foldl State.wantLane s
/-- The marks for a context are withdrawn (R301). -/
@[noinline] def State.unmark (s : State) (ctx : Nat) : State :=
  (List.range 16).foldl (fun s n => if (s.lane n).marked = some ctx then s.setLane n { s.lane n with marked := none } else s) s
/-- A job joins the tail of the ready list (R293). -/
@[noinline] def State.readyJob (s : State) (j : DJob) : State :=
  let s := { s with dgl := { s.dgl with ready := s.dgl.ready ++ [j] } }
  if s.eligible.contains j then s.wantLane j else s
/-- Bytes that a job suspended or stopped has absorbed on its lane when it reaches a block boundary of its message (R294, R297, R299, R301): the
spec does not say at which of the boundaries ahead, so a free one; where none is left, all that it had left. -/
def State.partBytes (s : State) (j : DJob) : Nat :=
  let left := j.dataLen - j.absorbed
  let b := algBlock j.alg
  let k := (b - ((s.dctx j.ctx).msg.length + j.absorbed) % b) % b
  if left < k then left else k + b * ((Config.freeWord s.freeCtr).toNat % ((left - k) / b + 1))
/-- A lane absorbs bytes (R297). -/
@[noinline] def State.laneAbsorb (s : State) (n k : Nat) : State := s.add64 (pg (0x40 + n) 0x48) k
/-- Jobs leave their lanes at a block boundary (R301): each lane counts what it absorbed of its job. -/
@[noinline] def State.lanesStop (s : State) (p : DJob → Bool) : State :=
  (List.range 16).foldl (fun s n => match (s.lane n).job with
    | some j => if p j then ((s.setLane n Lane.reset).laneAbsorb n (s.partBytes j)).freed else s
    | none => s) s
/-- The job of a permanent context (R279, R292): priority 4, its owner the verifier of a port or the BOOT release checker. -/
def permJob (ctx alg n : Nat) : DJob :=
  { kind := .perm, src := { issuer := if ctx < 32 then BitVec.ofNat 8 (0x48 + ctx / 2) else 0x40, ring := 255, slot := 0, tag := 0, cqFail := false },
    ctx := ctx, alg := alg, start := true, final := true, discard := false, dest := 0, destArg := 0, dataLen := n, dataAddr := 0, sgl := none,
    outAddr := 0, custAddr := 0, custLen := 0, prio := 4, suspended := false, abort := none, ranOn := none, absorbed := 0 }
/-- A permanent context has data to hash: a job of it becomes ready (R291, R293). -/
@[noinline] def State.permReady (s : State) (ctx alg n : Nat) : State := s.readyJob (permJob ctx alg n)
/-- Some lane may run permanent contexts (R291): with none, no block, node or pushed body is hashed, and its check waits. -/
def State.permOn (s : State) : Bool := (List.range 16).any s.lanePerm
/-- The data of a permanent context has been hashed: its oldest job ends. DESIGN CHOICE (log 77): the command that completes a check is the
moment by which a lane has hashed its block (R258); a job that no lane has taken until then ends on the first idle lane that may run it. -/
@[noinline] def State.permEnd (s : State) (ctx : Nat) : State :=
  match (List.range 16).find? (fun n => (s.lane n).job.any (fun j => j.ctx == ctx)), s.dgl.ready.find? (fun j => j.ctx == ctx) with
  | some n, _ =>
    (match (s.lane n).job with
     | some j => (s.setLane n Lane.reset).laneAbsorb n (j.dataLen - j.absorbed)
     | none => s)
  | none, some j =>
    let l := (List.range 16).filter s.lanePerm
    let n := (l.find? (fun n => (s.lane n).job.isNone)).getD (l.headD 15)
    (({ s with dgl := { s.dgl with ready := s.dgl.ready.erase j } }).unmark ctx).laneAbsorb n (j.dataLen - j.absorbed)
  | none, none => s
/-- The jobs of a permanent context leave their lane and the ready list. -/
@[noinline] def State.permDrop (s : State) (i : Nat) : State :=
  let s := s.lanesStop (fun j => j.ctx == i)
  { s with dgl := { s.dgl with ready := s.dgl.ready.filter (fun j => j.ctx != i) } }

end Sys2Proof.Machine
end

