-- ==== Sys2Proof/Machine/Ports.lean ====
section
/-! DEFINITION. Flash ports: configuration fields, dummy counts, modes, region and command tables as they are looked up, tree
bindings and the node cache, checks of blocks, containment, substitution and the stitch tracker (R153 to R162, R195 to R206,
R233 to R276). -/
namespace Sys2Proof.Machine

/-- Clock in MHz of a clock code (R158). -/
def clkMhz (c : Nat) : Nat := [25, 50, 66, 80, 104, 133, 166, 200].getD c 25
/-- The automatic count max(6, ⌈38 ns × f⌉ + 2) at a clock in MHz (R165). -/
def autoDummy (mhz : Nat) : Nat := max 6 (ceilDiv (38 * mhz) 1000 + 2)
/-- The effective ADD_DUMMY of a port at a clock (R165). -/
def State.addDummy (s : State) (p mhz : Nat) : Nat :=
  if s.bitOf (fp p 0 0x54) 8 then autoDummy mhz else min 16 (max 6 (s.fldOf (fp p 0 0x54) 4 0))
/-- MODE_CS0.CLK of a port in MHz. -/
def State.portMhz (s : State) (p : Nat) : Nat := clkMhz (s.fldOf (fp p 0 0x48) 7 5)
/-- A mode code is allowed on a bank (R157): 0 to 5 on either voltage, 6 and 7 on 1.8 V. DESIGN CHOICE (log 70): a strobe may
name 0 to 5 also while the bank is unpowered or out of range, where R189 keeps the port from acting on it. -/
def modeOk (bank code : Nat) : Bool := decide (code ≤ 5) || (decide (code ≤ 7) && bank == 1)
/-- A clock code is allowed in a mode (R158). -/
def clkOk (code clk : Nat) : Bool := decide (clk ≤ 5) || (decide (clk ≤ 7) && (code == 6 || code == 7))
/-- The command phase of a mode code: one line, four lines, eight lines STR, eight lines DTR (R195). -/
def cmdPhase (code : Nat) : Nat :=
  if code ≤ 4 then 0 else if code = 5 then 1 else if code = 6 then 2 else if code = 7 then 3 else 4
/-- Current mode of a chip select. -/
def PortState.mode (q : PortState) (cs : Nat) : FMode := if cs = 0 then q.mode0 else q.mode1
/-- Replace the current mode. -/
def PortState.setMode (q : PortState) (cs : Nat) (m : FMode) : PortState :=
  if cs = 0 then { q with mode0 := m } else { q with mode1 := m }
/-- MODE_CSn of a port as a mode. -/
def State.modeReg (s : State) (p cs : Nat) : FMode :=
  let w := s.reg (fp p 0 (0x48 + 4 * cs))
  { code := Word.field w 3 0, addr4 := Word.bit w 4 }
/-- Master view of a chip select. -/
def PortState.view (q : PortState) (cs : Nat) : MView := if cs = 0 then q.view0 else q.view1
/-- Change the master view. -/
def PortState.modView (q : PortState) (cs : Nat) (f : MView → MView) : PortState :=
  if cs = 0 then { q with view0 := f q.view0 } else { q with view1 := f q.view1 }
/-- LEASE_STATUS.GRANTEDn. -/
def PortState.granted (q : PortState) (cs : Nat) : Bool := if cs = 0 then q.grant0 else q.grant1
/-- Grant or end a lease; no status has been read under it yet (R318). -/
def PortState.setGrant (q : PortState) (cs : Nat) (b : Bool) : PortState :=
  if cs = 0 then { q with grant0 := b, wip0 := false } else { q with grant1 := b, wip1 := false }
/-- A program, erase or status write of the master goes to a flash chip select, which is busy from then on (R318). -/
def PortState.writeSent (q : PortState) (cs : Nat) : PortState :=
  if cs = 0 then { q with busy0 := true } else { q with busy1 := true }
/-- A forwarded status read has shown WIP = 0 on a flash chip select. -/
def PortState.writeOver (q : PortState) (cs : Nat) : PortState :=
  if cs = 0 then { q with busy0 := false } else { q with busy1 := false }
/-- GEOMETRY.DENSn: log2 of the density in bytes, 0 unknown. -/
def State.dens (s : State) (p cs : Nat) : Nat := s.fldOf (fp p 0 0x88) (8 * cs + 4) (8 * cs)
/-- A flash address taken modulo the density where it is known (R156). -/
def State.wrapAddr (s : State) (p cs a : Nat) : Nat := if s.dens p cs = 0 then a else a % 2 ^ s.dens p cs
/-- Blocks of a chip select, where the density is known. -/
def State.densBlocks (s : State) (p cs : Nat) : Option Nat :=
  if s.dens p cs = 0 then none else some (2 ^ s.dens p cs / 4096)
/-- The flash chip select that a master chip select reaches (R155): none for MCS1 unless STRAIGHT. -/
def State.csMap (s : State) (p mcs : Nat) : Option Nat :=
  if mcs = 0 then some 0 else if s.fldOf (fp p 0 0x40) 2 1 = 0 then some 1 else none
/-- The port is in FAULT: enabled on a bank that is unpowered or out of range (R189). -/
def State.portFault (s : State) (p : Nat) : Bool :=
  s.portEn p && ((s.port p).bank == 0 || (s.port p).bank == 3)
/-- The port hears its master: enabled, no fault, line not asserted, not contained (R177, R189, R256), and not stopped on the way to RETAIN
(R598). -/
def State.portLive (s : State) (p : Nat) : Bool :=
  s.portEn p && !s.portFault p && !s.portHeld p && !(s.port p).contained && s.pwr.pending != some .retain
/-- Neither master chip select is asserted and no master command is in progress (R191, R214). -/
def PortState.idle (q : PortState) : Bool := q.mcs.isNone && q.active.isNone
/-- The flash of a chip select can be spoken to: octal modes run only on a 1.8 V bank (R154, R157). -/
def PortState.modeRuns (q : PortState) (cs : Nat) : Bool := modeOk q.bank (q.mode cs).code

/-- Record PORT_ERR with its cause (R190). -/
@[noinline] def State.portErr (s : State) (p cause cs : Nat) : State :=
  (s.setReg (fp p 0 0xA8) (fld cause 0 ||| fld cs 4)).count (evPort p 5)
/-- Record a policy hit (R212, R227). -/
@[noinline] def State.policyHit (s : State) (p cause cs : Nat) (opc : Byte) (region : Option Nat) (addr : Nat) : State :=
  let r := match region with | some i => fld i 16 | none => flg true 24
  ((s.setReg (fp p 2 0x64) (fld cause 0 ||| fld cs 4 ||| fld opc.toNat 8 ||| r)).setReg (fp p 2 0x68) (wd addr)).count (evPort p 3)

/-! ### Tables -/

/-- Entry `i` of a command table. -/
def ctGet (m : SMap (List Word)) (i : Nat) : List Word := SMap.get (fun _ => ctZero) m i
/-- Entry `i` of a region table. -/
def rtGet (m : SMap (List Word)) (i : Nat) : List Word := SMap.get (fun _ => rtZero) m i
/-- Word `w` of an entry. -/
def ew (e : List Word) (w : Nat) : Word := e.getD w 0
/-- VALID of an entry. -/
def eValid (e : List Word) : Bool := Word.bit (ew e 0) 31
/-- Command-table fields (R198, R199). -/
def ctOpc (e : List Word) : Nat := Word.field (ew e 0) 7 0
/-- FMT. -/
def ctFmt (e : List Word) : Nat := Word.field (ew e 0) 11 8
/-- CLASS. -/
def ctClass (e : List Word) : Nat := Word.field (ew e 0) 15 12
/-- ADDR. -/
def ctAddr (e : List Word) : Nat := Word.field (ew e 0) 17 16
/-- DATA. -/
def ctData (e : List Word) : Nat := Word.field (ew e 0) 19 18
/-- ACTION. -/
def ctAction (e : List Word) : Nat := Word.field (ew e 0) 21 20
/-- SIZE_LOG2. -/
def ctSize (e : List Word) : Nat := Word.field (ew e 1) 12 8
/-- The entry of the active bank that matches an opcode in a mode (R195). -/
def PortState.ctMatch (q : PortState) (opc code : Nat) : Option Nat :=
  (List.range 64).find? (fun i => let e := ctGet q.ctA i
    eValid e && ctOpc e == opc && cmdPhase (ctFmt e) == cmdPhase code)

/-- Region fields (R204): START. -/
def rgStart (e : List Word) : Nat := Word.field (ew e 0) 15 0
/-- CS. -/
def rgCs (e : List Word) : Nat := Word.field (ew e 0) 16 16
/-- END. -/
def rgEnd (e : List Word) : Nat := Word.field (ew e 1) 15 0
/-- MODE: 0 FORWARD, 1 PANTRY, 2 MEDIATE, 3 DENY, 4 HOLD. -/
def rgMode (e : List Word) : Nat := Word.field (ew e 2) 2 0
/-- WR_ALLOW. -/
def rgWr (e : List Word) : Bool := Word.bit (ew e 2) 3
/-- VERIFY. -/
def rgVerify (e : List Word) : Nat := Word.field (ew e 2) 5 4
/-- ACTION: 0 REPORT, 1 CONTAIN, 2 SUBSTITUTE. -/
def rgAction (e : List Word) : Nat := Word.field (ew e 2) 7 6
/-- CLASS. -/
def rgClass (e : List Word) : Nat := Word.field (ew e 2) 13 8
/-- CWATCH. -/
def rgCwatch (e : List Word) : Bool := Word.bit (ew e 2) 14
/-- TARGET, TARGET_CS, TARGET_EN. -/
def rgTarget (e : List Word) : Nat × Nat × Bool := (Word.field (ew e 3) 15 0, Word.field (ew e 3) 16 16, Word.bit (ew e 3) 31)
/-- OASIS, OASIS_CS, OASIS_VALID. -/
def rgOasis (e : List Word) : Nat × Nat × Bool := (Word.field (ew e 4) 15 0, Word.field (ew e 4) 16 16, Word.bit (ew e 4) 31)
/-- Region `i` of the active bank. -/
def PortState.rg (q : PortState) (i : Nat) : List Word := rtGet q.rtA i
/-- SUBST of region index `i` (R205). -/
def PortState.sub (q : PortState) (i : Nat) : Bool := SMap.get (fun _ => false) q.subst i
/-- The region that governs a master block (R203): the lowest-numbered valid one. -/
def PortState.govern (q : PortState) (cs blk : Nat) : Option Nat :=
  (List.range 256).find? (fun i => let e := q.rg i
    eValid e && rgCs e == cs && decide (rgStart e ≤ blk) && decide (blk ≤ rgEnd e))
/-- Flash chip select and block of the first block of a region (R205). -/
def PortState.mapBase (q : PortState) (i : Nat) (mcs fcs : Nat) : Nat × Nat :=
  let e := q.rg i
  if q.sub i then ((rgOasis e).2.1, (rgOasis e).1)
  else if (rgTarget e).2.2 then ((rgTarget e).2.1, (rgTarget e).1)
  else (if mcs = 0 then 0 else fcs, rgStart e)
/-- Flash chip select and address that serve a master address in region `i` (R205). -/
def PortState.mapAddr (q : PortState) (i mcs fcs a : Nat) : Nat × Nat :=
  let b := q.mapBase i mcs fcs
  (b.1, (a / 4096 - rgStart (q.rg i) + b.2) * 4096 + a % 4096)
/-- Mode of the governing region; an unmatched address behaves as DENY (R203). -/
def PortState.modeOf (q : PortState) (g : Option Nat) : Nat :=
  match g with
  | some j => rgMode (q.rg j)
  | none => 3
/-- Flash chip select and address of a master address under its governing region, if any (R205). -/
def PortState.mapOf (q : PortState) (g : Option Nat) (mcs fcs a : Nat) : Nat × Nat :=
  match g with
  | some j => q.mapAddr j mcs fcs a
  | none => (fcs, a)
/-- A valid region of a chip select that forwards program and erase (R201). -/
def PortState.writable (q : PortState) (cs : Nat) : Bool :=
  (List.range 256).any (fun i => let e := q.rg i; eValid e && rgCs e == cs && rgMode e == 0 && rgWr e)
/-- A valid MEDIATE region of a chip select. -/
def PortState.mediate (q : PortState) (cs : Nat) : Bool :=
  (List.range 256).any (fun i => let e := q.rg i; eValid e && rgCs e == cs && rgMode e == 2)

/-! ### Bindings, nodes and windows -/

/-- The CONFIRMED binding that holds a flash block for a class (R246): some binding, uncovered (`some none`), or unbound. -/
def PortState.findBind (q : PortState) (cls cs blk : Nat) : Option (Option Nat) :=
  let c := (List.range 8).filter (fun b => (q.bind b).st == .confirmed && (q.bind b).cls == cls)
  if c.isEmpty then none
  else some (c.find? (fun b => let x := q.bind b
    x.cs == cs && decide (x.fblock ≤ blk) && decide (blk < x.fblock + x.nblk)))
/-- A block is uncovered (R246). -/
def PortState.uncovered (q : PortState) (cls cs blk : Nat) : Bool := q.findBind cls cs blk == some none
/-- A node in the cache. -/
def findNode (c : List CNode) (p b l j : Nat) : Option CNode :=
  c.find? (fun n => n.port == p && n.bind == b && n.level == l && n.idx == j)
/-- The hash that a node must have: the root for the top node, else its child entry in its resident parent (R242). -/
def State.nodeHash (s : State) (p b l j : Nat) : Option Bytes :=
  let x := (s.port p).bind b
  if treeDepth x.nblk ≤ l then some x.root
  else match findNode s.cache p b (l + 1) (j / 32) with
    | some n => some (Bytes.slice n.bytes (32 * (j % 32)) 32)
    | none => none
/-- A node is accepted against its parent or the root (R242). -/
def State.nodeOk (s : State) (p b l j : Nat) (node : Bytes) : Bool :=
  s.nodeHash p b l j == some (treeHash ((s.port p).bind b).hash node)
/-- Drop the least recently used demand node if the cache is full (R243). -/
def evictOne (c : List CNode) : List CNode :=
  if c.length < 4096 then c else
    match c.find? (fun n => !n.pinned) with
    | some n => c.erase n
    | none => c
/-- A node is used: it becomes the last to be evicted (R243). -/
@[noinline] def State.useNode (s : State) (p b l j : Nat) : State :=
  match findNode s.cache p b l j with
  | some n => { s with cache := s.cache.erase n ++ [n] }
  | none => s
/-- Put a node into the cache; accepting it used its parent (R242, R243). -/
@[noinline] def State.addNode (s : State) (n : CNode) : State :=
  let t := s.useNode n.port n.bind (n.level + 1) (n.idx / 32)
  { t with cache := evictOne t.cache ++ [n] }
/-- Free every node of a binding. -/
@[noinline] def State.freeNodes (s : State) (p b : Nat) : State :=
  { s with cache := s.cache.filter (fun n => !(n.port == p && n.bind == b)) }
/-- The pinned nodes of a binding in load order: levels d down to the lowest pinned, each ascending (R242). -/
def Binding.pinned (x : Binding) : List (Nat × Nat) :=
  ((List.range (treeDepth x.nblk)).reverse.map (· + 1)).flatMap (fun l =>
    if x.pin ≤ l then (List.range (treeNodes x.nblk l)).map (fun j => (l, j)) else [])
/-- Number of pinned nodes that a load of the binding takes. -/
def Binding.pinCount (x : Binding) : Nat :=
  ((List.range (treeDepth x.nblk)).map (fun k => if x.pin ≤ k + 1 then treeNodes x.nblk (k + 1) else 0)).foldl (· + ·) 0

/-- First window of a port that is LOADED and covers a flash block of a chip select (R271). -/
def PortState.winOf (q : PortState) (cs blk : Nat) : Option Nat :=
  (List.range 64).find? (fun w => let x := q.win w
    x.st == .loaded && w / 32 == cs && decide (Word.field x.w0 15 0 ≤ blk) &&
      decide (blk < Word.field x.w0 15 0 + Word.field x.w0 24 16))
/-- Frame of a block in a window. -/
def PortState.frameOf (q : PortState) (w blk : Nat) : Nat :=
  Word.field (q.win w).w1 9 0 + blk - Word.field (q.win w).w0 15 0
/-- Contents of a Pantry frame. -/
def State.frame (s : State) (f : Nat) : Bytes := SMap.get (fun _ => []) s.frames f
/-- Write a Pantry frame. -/
@[noinline] def State.setFrame (s : State) (f : Nat) (b : Bytes) : State := { s with frames := SMap.set (fun _ => []) s.frames f b }
/-- Every window bound to a binding goes EMPTY at the next idle moment (R272). -/
def PortState.emptyWins (q : PortState) (b : Nat) : PortState :=
  (List.range 64).foldl (fun q w =>
    if (q.win w).st != .empty && Word.field (q.win w).w1 18 16 == b then q.setWin w { q.win w with pend := some .empty } else q) q

/-! ### Check map and coverage -/

/-- Key of a block in the check map: chip select and block (R273). -/
def chkKey (cs blk : Nat) : Nat := cs * 65536 + blk
/-- Check-map bit: a chip select has 65,536 of them. -/
def PortState.chkBit (q : PortState) (cs blk : Nat) : Bool := decide (blk < 65536) && SMap.get (fun _ => false) q.chk (chkKey cs blk)
/-- Set or clear a check-map bit; a block past the last of its chip select has none (R273). -/
def PortState.setChk (q : PortState) (cs blk : Nat) (b : Bool) : PortState :=
  if blk < 65536 then { q with chk := SMap.set (fun _ => false) q.chk (chkKey cs blk) b } else q
/-- Clear the check-map bits of a range of blocks of a chip select. -/
def PortState.clearChk (q : PortState) (cs lo n : Nat) : PortState :=
  { q with chk := q.chk.filter (fun e => !(decide (chkKey cs lo ≤ e.1) && decide (e.1 < min (chkKey cs lo + n) (chkKey (cs + 1) 0)))) }
/-- Coverage of a region. -/
def PortState.covOf (q : PortState) (r : Nat) : Cov := SMap.get (fun _ => Cov.reset) q.cov r
/-- Change the coverage of a region. -/
def PortState.modCov (q : PortState) (r : Nat) (f : Cov → Cov) : PortState :=
  { q with cov := SMap.set (fun _ => Cov.reset) q.cov r (f (q.covOf r)) }
/-- Count COV_PARTIAL for a region. -/
def PortState.partCov (q : PortState) (r : Option Nat) : PortState :=
  match r with
  | some i => q.modCov i (fun c => { c with part := satInc c.part })
  | none => q

/-- Start a scrub pass (R264). -/
def PortState.startScrub (q : PortState) : PortState :=
  { q with scrub := { run := true, region := 0, off := 0, any := false, retry := false } }
/-- The first block at or after an offset of a region that is not uncovered: the offset itself or the start of a binding's
body in the region (R246, R264). -/
def PortState.scrubIn (q : PortState) (r off : Nat) : Option Nat :=
  let e := q.rg r
  if !eValid e ∨ rgVerify e ≠ 2 then none
  else
    let b := q.mapBase r (rgCs e) (rgCs e)
    let n := rgEnd e + 1 - rgStart e
    let starts := (((List.range 8).map q.bind).filter (fun x => x.st == .confirmed && x.cls == rgClass e && x.cs == b.1)).map
      (fun x => x.fblock - b.2)
    let cand := (off :: starts).filter (fun o => decide (off ≤ o) && decide (o < n) && !(q.uncovered (rgClass e) b.1 (b.2 + o)))
    cand.foldl (fun m o => match m with | none => some o | some x => some (min x o)) none
/-- The next block of a scrub pass at or after a position (R264). -/
def PortState.scrubNext (q : PortState) (r off : Nat) : Option (Nat × Nat) :=
  (List.range 256).findSome? (fun k => if k < r then none else (q.scrubIn k (if k = r then off else 0)).map (fun o => (k, o)))
/-- The scrubber may run: EN, SCRUB_SHARE above 0, no tamper response (R264, R276). -/
def State.scrubOn (s : State) (p : Nat) : Bool :=
  s.verEn p && decide (0 < s.fldOf (fp p 3 0x40) 11 8) && !(s.port p).stopped
/-- Begin a pass; one that finds no block stops at once, uncounted (R264). A scrub block that waits for its node is read again. -/
@[noinline] def State.newPass (s : State) (p : Nat) : State :=
  let q := (s.port p).startScrub
  let q := { q with dev := q.dev.filter (fun (c : Check) => c.src != ChkSrc.scrub) }
  match q.scrubNext 0 0 with
  | some x => s.setPort p { q with scrub := { q.scrub with region := x.1, off := x.2 } }
  | none => s.setPort p { q with scrub := { q.scrub with run := false } }
/-- A swap, CONFIRM, UNBIND or change of SUBST begins a new pass where the scrubber waits (R264). -/
@[noinline] def State.wakeScrub (s : State) (p : Nat) : State :=
  if !(s.port p).scrub.run && s.scrubOn p then s.newPass p else s

/-! ### Stitching -/

/-- First 16 bytes of SHA-256 over the checked leaves, 0 if there are none (R624). -/
def leafDigest (ls : List Bytes) : Bytes := if ls.isEmpty then zeros 16 else (sha256 ls.flatten).take 16
/-- A break of the stitch (R251): a block partly hashed or skipped over counts COV_PARTIAL, the digest is discarded, a FETCH
record is written (R624), and the tracker goes IDLE. -/
@[noinline] def State.stitchBreak (s : State) (p : Nat) : State :=
  let t := (s.port p).stitch
  if !t.isOpen then s else
    let part := (t.hashing && (!t.got.isEmpty || t.cut)) || (t.counts && t.fetched)
    let s := if part then s.modPort p (fun q => q.partCov t.blk.region) else s
    let s := s.modPort p (fun q => { q with stitch := Stitch.idle })
    s.flight 0x08 (portMaster p) (leBytes 1 p ++ leBytes 1 t.cs ++ zeros 2 ++ leBytes 4 t.start ++ leBytes 4 t.total ++
      leBytes 4 t.leaves.length ++ leafDigest t.leaves)
/-- The policy of a block, fixed at its first byte (R250). -/
def PortState.blkPolicy (q : PortState) (region : Option Nat) (cs blk : Nat) (mcmd : Word) : Check :=
  let e := match region with | some i => q.rg i | none => rtZero
  { Check.none with cs := cs, blk := blk, region := region, cls := rgClass e, action := rgAction e,
                    subst := (match region with | some i => q.sub i | none => false), mcmd := mcmd }
/-- A block is checkable (R249): its region verifies on fetch, its bytes are not served, it is not uncovered. -/
def PortState.checkable (q : PortState) (region : Option Nat) (cs blk : Nat) : Bool :=
  match region with
  | none => false
  | some i =>
    let e := q.rg i
    decide (1 ≤ rgVerify e) && decide (rgVerify e ≤ 2) && !(rgMode e == 1 && (q.winOf cs blk).isSome) &&
      !(q.uncovered (rgClass e) cs blk)
/-- Open the block that holds a flash address, or pass over it: an unaligned start at a checkable block counts later (R249, R251). -/
def PortState.openBlk (q : PortState) (region : Option Nat) (cs fa : Nat) (mcmd : Word) : PortState :=
  let ok := q.checkable region cs (fa / 4096)
  let al := decide (fa % 4096 = 0)
  { q with stitch := { q.stitch with skip := !(ok && al), counts := ok && !al, hashing := ok && al, cut := false, got := [], fetched := false,
                                     blk := q.blkPolicy region cs (fa / 4096) mcmd } }
/-- The node that a check needs is resident, or the check fails unbound at once. -/
def State.chkReady (s : State) (p : Nat) (c : Check) : Bool :=
  let q := s.port p
  match q.findBind c.cls c.cs c.blk with
  | some (some b) => (findNode s.cache p b 1 ((c.blk - (q.bind b).fblock) / 32)).isSome
  | _ => true
/-- The ALG code of a tree hash (R233, R277): SHA3-256 where the manifest or the binding says 1, else SHA-256. -/
def leafAlg (hash : Nat) : Nat := if hash = 1 then 4 else 1
/-- The algorithm of a block's leaf under the binding that holds it (R253). -/
def permAlg (q : PortState) (c : Check) : Nat :=
  match q.findBind c.cls c.cs c.blk with
  | some (some b) => leafAlg (q.bind b).hash
  | _ => 1
/-- A completed block goes to its check; its node not resident makes it wait, at most 8 a port (R252, R259). -/
@[noinline] def State.pushCheck (s : State) (p : Nat) (c : Check) : State :=
  let q := s.port p
  let late := !s.chkReady p c
  if late && decide (8 ≤ (q.checks.filter (fun c => c.late)).length) then s.modPort p (fun q => q.partCov c.region)
  else (s.permReady (2 * p) (permAlg q c) 4096).modPort p (fun q => { q with checks := q.checks ++ [{ c with late := late }] })
/-- The leaf of a block under the hash of the binding that holds it (R233, R253). -/
def State.leafOf (s : State) (p : Nat) (c : Check) : Bytes :=
  match (s.port p).findBind c.cls c.cs c.blk with
  | some (some b) => treeHash ((s.port p).bind b).hash c.data
  | _ => treeHash 0 c.data
/-- A stitch starts at a flash address (R248, R249). -/
@[noinline] def State.stitchStart (s : State) (p : Nat) (region : Option Nat) (cs fa : Nat) (mcmd : Word) : State :=
  s.modPort p (fun q => ({ q with stitch := { Stitch.idle with isOpen := true, cs := cs, next := fa, start := fa } }).openBlk region cs fa mcmd)
/-- One byte of a READ-class command that the tracker follows: `some b` passes from the flash, `none` is served (R247, R248). -/
@[noinline] def State.stitchByte (s : State) (p : Nat) (region : Option Nat) (cs fa : Nat) (b : Option Byte) (mcmd : Word) : State :=
  let s := if fa % 4096 = 0 ∧ (s.port p).stitch.total ≠ 0 then s.modPort p (fun q => q.openBlk region cs fa mcmd) else s
  let t := (s.port p).stitch
  let t := { t with next := fa + 1, total := t.total + 1 }
  let t := match b with
    | some x => if t.hashing && !t.cut then { t with got := t.got ++ [x] } else { t with fetched := true }
    | none => if t.hashing && !t.got.isEmpty then { t with cut := true, got := [] } else t
  if fa % 4096 ≠ 4095 then s.modPort p (fun q => { q with stitch := t })
  else if t.hashing && t.got.length == 4096 then
    let leaf := s.leafOf p { t.blk with data := t.got }
    let s := s.modPort p (fun q => { q with stitch := { t with hashing := false, got := [], leaves := t.leaves ++ [leaf] } })
    s.pushCheck p { t.blk with data := t.got, mcmd := mcmd }
  else
    let part := (t.hashing && t.cut) || (t.counts && t.fetched)
    let s := if part then s.modPort p (fun q => q.partCov t.blk.region) else s
    s.modPort p (fun q => { q with stitch := { t with hashing := false, skip := false, counts := false, got := [] } })

/-! ### Checks, containment, substitution -/

/-- Regions whose SUBST a setting for a class changes: valid, of the class, with an Oasis copy, and ACTION SUBSTITUTE when
`auto` (R262, R263). -/
def PortState.substSet (q : PortState) (cls : Nat) (auto : Bool) : List Nat :=
  (List.range 256).filter (fun i => let e := q.rg i
    eValid e && rgClass e == cls && (rgOasis e).2.2 && (!auto || rgAction e == 2))
/-- A bitmap of regions as 32 bytes (R413). -/
def regionMap (l : List Nat) : Bytes := leBytes 32 (l.foldl (fun a i => a + 2 ^ i) 0)
/-- Set or clear SUBST of some regions, extend the port's slot and let the scrubber begin a pass (R262 to R264, R413). -/
@[noinline] def State.setSubst (s : State) (p cls : Nat) (l : List Nat) (on : Bool) : State :=
  let s := s.modPort p (fun q => { q with subst := l.foldl (fun m i => SMap.set (fun _ => false) m i on) q.subst })
  (s.measHw (16 + p) (if on then 0x12 else 0x13) (portMaster p) cls (regionMap l)).wakeScrub p
/-- End the master command in progress, which breaks the stitch (R177, R182, R248). -/
@[noinline] def State.silence (s : State) (p : Nat) : State :=
  if (s.port p).active.isSome then (s.stitchBreak p).modPort p (fun q => { q with active := none }) else s
/-- Contain a port (R256): CONTAINED set and counted on each entry, its line forced, the master silenced. -/
@[noinline] def State.contain (s : State) (p : Nat) : State :=
  let was := (s.port p).contained
  let s := (s.modPort p (fun q => { q with contained := true })).forcePort p
  let s := match s.lineOf p with | some i => s.recovLine i | none => s
  let ports := match s.lineOf p with | some i => s.portsOf i | none => [p]
  let s := ports.foldl State.silence s
  if was then s else s.count (evPort p 1)

/-- Record a verification failure (R254): VF_LAST, VERIFY_FAIL, and the extend of R414 unless R415 suppresses it. -/
@[noinline] def State.recFail (s : State) (p : Nat) (vf0 : Word) (addr cs : Nat) (mcmd : Word) (leaf : Bytes) : State :=
  let s := ((s.setReg (fp p 3 0xAC) vf0).setReg (fp p 3 0xB0) (wd addr)).setReg (fp p 3 0xB4) mcmd
  let s := s.count (evPort p 0)
  if (s.port p).lastFail = some (addr, cs) then s
  else (s.measHw (16 + p) 0x11 (portMaster p) 0
      (leBytes 4 vf0.toNat ++ leBytes 4 addr ++ leBytes 4 mcmd.toNat ++ Bytes.fit leaf 32)).modPort p
        (fun q => { q with lastFail := some (addr, cs) })
/-- VF_LAST0 of a failed check (R254). DESIGN CHOICE (log 114): of a window load whose block a region governs, NOREGION is 0 and REGION names it. -/
def vfLast0 (c : Check) (cause act bind : Nat) : Word :=
  fld cause 0 ||| fld c.src.num 4 ||| fld c.cs 6 ||| flg c.late 7 ||| fld (c.region.getD 0) 8 ||| fld act 16 |||
    flg c.region.isNone 18 ||| fld bind 20
/-- The action that a failed check takes (R255): none for a load and where no region governs. -/
def Check.act (c : Check) : Nat := if c.src = .load ∨ c.region.isNone then 3 else c.action
/-- A VERIFY_FAIL of a class ends its run of good half-cycles (R611). -/
@[noinline] def State.goodEnd (s : State) (cls : Nat) : State :=
  { s with boot := { s.boot with good := SMap.set (fun _ => none) s.boot.good cls none } }
/-- The action SUBSTITUTE sets SUBST of the class's regions (R262); where a failure of the same block has set them all, nothing is left to do
(R276). -/
@[noinline] def State.autoSubst (s : State) (p cls : Nat) : State :=
  let l := (s.port p).substSet cls true
  if l ≠ [] ∧ l.all (s.port p).sub then s else s.setSubst p cls l true
/-- A failed check (R254, R255): its record, COV_FAIL, the check-map bit and the region's action. -/
@[noinline] def State.verifyFail (s : State) (p : Nat) (c : Check) (cause bind : Nat) (leaf : Bytes) : State :=
  let act := c.act
  let s := s.modPort p (fun q =>
    let q := q.setChk c.cs c.blk false
    match c.region with
    | some r => q.modCov r (fun v => { v with fail := satInc v.fail })
    | none => q)
  let s := (s.recFail p (vfLast0 c cause act bind) (c.blk * 4096) c.cs c.mcmd leaf).goodEnd c.cls
  if act = 1 then s.contain p
  else if act = 2 then
    (if c.subst then s.contain p
     else (s.contain p).autoSubst p c.cls)
  else s
/-- A passed check sets the check-map bit and counts coverage (R253, R274). -/
@[noinline] def State.verifyPass (s : State) (p : Nat) (c : Check) : State :=
  s.modPort p (fun q =>
    let q := q.setChk c.cs c.blk true
    match c.region with
    | some r => q.modCov r (fun v =>
        if c.src = .fetch then { v with fetch := satInc v.fetch } else { v with scrub := satInc v.scrub })
    | none => q)
/-- Whether a block's leaf equals its entry in the resident level-1 node (R253): binding and verdict, none if unbound. -/
def State.verdict (s : State) (p : Nat) (c : Check) : Option (Nat × Bool) :=
  let q := s.port p
  match q.findBind c.cls c.cs c.blk with
  | some (some b) =>
    let i := c.blk - (q.bind b).fblock
    match findNode s.cache p b 1 (i / 32) with
    | some n => some (b, treeHash (q.bind b).hash c.data == Bytes.slice n.bytes (32 * (i % 32)) 32)
    | none => some (b, false)
  | _ => none
/-- Judge a check whose node is resident (R243, R253 to R255); the second component says whether it passed. DESIGN CHOICE (log 113): BIND of
an UNBOUND failure, which has no binding, is recorded as 0. -/
def State.judge (s : State) (p : Nat) (c : Check) : State × Bool :=
  match (s.port p).findBind c.cls c.cs c.blk with
  | some none => (s, true)
  | _ =>
    match s.verdict p c with
    | none => (s.verifyFail p c 3 0 (treeHash 0 c.data), false)
    | some (b, true) => ((s.useNode p b 1 ((c.blk - ((s.port p).bind b).fblock) / 32)).verifyPass p c, true)
    | some (b, false) => ((s.useNode p b 1 ((c.blk - ((s.port p).bind b).fblock) / 32)).verifyFail p c 1 b (treeHash ((s.port p).bind b).hash c.data), false)

end Sys2Proof.Machine
end

