-- ==== Sys2Proof/Machine/PortMaster.lean ====
section
/-! DEFINITION. Commands of a flash master: lookup, what the master sees, policy hits, captures, the identification shadow
and the end of a command (R163 to R181, R195 to R209, R216 to R228, R676). -/
namespace Sys2Proof.Machine

/-- An entry of the write queue. -/
def PortState.wqe (q : PortState) (i : Nat) : WqEntry := SMap.get (fun _ => WqEntry.reset) q.wq i
/-- Replace a write-queue entry. -/
def PortState.setWqe (q : PortState) (i : Nat) (e : WqEntry) : PortState :=
  { q with wq := SMap.set (fun _ => WqEntry.reset) q.wq i e }
/-- The lowest FREE entry (R217). -/
def PortState.freeWqe (q : PortState) : Option Nat := (List.range 64).find? (fun i => (q.wqe i).st == .free)
/-- Some entry of a chip select other than a FENCE is CAPTURED, APPLIED or RUNNING (R225). -/
def PortState.tracked (q : PortState) (cs : Nat) : Bool :=
  (List.range 64).any (fun i => let e := q.wqe i
    e.type != 3 && e.cs == cs && (e.st == .captured || e.st == .applied || e.st == .running))

/-- A byte with one bit replaced. -/
def byteBit (b : Byte) (i : Nat) (v : Bool) : Byte := putBit b i v
/-- The byte that a status read returns (R174, R176, R181, R225): the flash byte with the master view of WEL and the fail bits
at the places of STAT_MAP, and WIP 1 under a lease or while the queue is tracked. -/
def State.statusByte (s : State) (p cs : Nat) (opc flash : Byte) : Byte :=
  let m := s.reg (fp p 0 (0x60 + 4 * cs))
  let v := (s.port p).view cs
  let srOpc := Word.field m 7 0
  let failOpc := if Word.field m 23 16 = 0 then srOpc else Word.field m 23 16
  let track := s.fldOf (fp p 2 0x6C) 1 1 = 0 && (s.port p).tracked cs
  let b := if (s.port p).granted cs then 0 else flash
  let b := if opc.toNat = srOpc then
      byteBit (byteBit b (Word.field m 10 8) (b.getLsbD (Word.field m 10 8) || track || (s.port p).granted cs)) (Word.field m 14 12) v.wel
    else b
  if opc.toNat = failOpc then byteBit (byteBit b (Word.field m 26 24) v.pFail) (Word.field m 30 28) v.eFail else b
/-- An opcode that STAT_MAP names for a chip select (R187). -/
def State.statOpc (s : State) (p cs : Nat) (opc : Byte) : Bool :=
  let m := s.reg (fp p 0 (0x60 + 4 * cs))
  opc.toNat == Word.field m 7 0 || (opc.toNat == Word.field m 23 16 && opc.toNat != 0)
/-- The FAIL_CLR opcode of a chip select (R185). -/
def State.isFailClr (s : State) (p cs : Nat) (opc : Byte) : Bool := opc.toNat == s.fldOf (fp p 0 0x68) (8 * cs + 7) (8 * cs)
/-- A command of a chip select reads status: class STATUS_READ with a STAT_MAP opcode. -/
def State.isStatus (s : State) (p cs cls : Nat) (opc : Byte) : Bool := cls == 4 && s.statOpc p cs opc
/-- A STAT_MAP opcode needs an entry of class 4 and the FAIL_CLR opcode one of class 8; else it is forbidden (R200). -/
def State.classFits (s : State) (p cs cls : Nat) (opc : Byte) : Bool :=
  (cls == 4 || !s.statOpc p cs opc) && (cls == 8 || !s.isFailClr p cs opc)

/-- A command on the flash side; in each mode clock the port drives all ones (R163). -/
@[noinline] def State.issue (s : State) (p : Nat) (c : FlashCmd) : State :=
  s.out (.flash p c.cs c.opc.toNat c.addr (List.replicate c.mclk 0xFF) c.data)
/-- A device-originated command on the flash side without mode clocks. -/
@[noinline] def State.toFlash (s : State) (p cs : Nat) (opc : Byte) (a : Nat) (d : Bytes) : State :=
  s.issue p { cs := cs, opc := opc, addr := a, mclk := 0, data := d }
/-- MCLK of an entry: the flash mode clocks of its command (R199). -/
def ctMclk (e : List Word) : Nat := Word.field (ew e 1) 7 5
/-- Begin a command: what its end will do. -/
@[noinline] def State.begin (s : State) (p : Nat) (c : ActiveCmd) : State := s.modPort p (fun q => { q with active := some c })
/-- A command that nothing follows. -/
def ActiveCmd.plain (cs : Nat) (fwd : Bool) : ActiveCmd :=
  { cs := cs, fwd := fwd, sw := 0xF, asw := 0, capture := none, maddr := 0, wrdi := false, issue := none, view := .keep, late := none }
/-- A command forwarded under an entry: its mode switch follows at its end (R199). -/
def ActiveCmd.forward (cs : Nat) (e : List Word) : ActiveCmd :=
  { ActiveCmd.plain cs true with sw := Word.field (ew e 1) 21 18, asw := Word.field (ew e 1) 23 22 }
/-- A command that is denied: a WRDI follows where a WREN was forwarded (R174). -/
def State.deniedCmd (s : State) (p cs : Nat) : ActiveCmd := { ActiveCmd.plain cs false with wrdi := ((s.port p).view cs).wrenFwd }

/-- The master view after a denied program (1), erase (2) or other write (R176). -/
@[noinline] def State.denyView (s : State) (p cs kind : Nat) : State :=
  s.modPort p (fun q => q.modView cs (fun v =>
    { v with wel := false, pFail := v.pFail || kind == 1, eFail := v.eFail || kind == 2 }))
/-- The master view after a captured program or erase (R176): nothing was issued, so a WREN that was forwarded still stands in the flash (R174). -/
@[noinline] def State.doneView (s : State) (p cs : Nat) (pe : Bool) : State :=
  s.modPort p (fun q => q.modView cs (fun v =>
    { v with wel := false, pFail := v.pFail && !pe, eFail := v.eFail && !pe }))
/-- 1 for a program, 2 for an erase, 0 for a status write. -/
def wrKind (cls : Nat) : Nat := if cls = 1 then 1 else if cls = 2 ∨ cls = 3 then 2 else 0

/-- A HOLD region forces the line of the port (R178); the other ports on the line lose their master commands (R177). -/
@[noinline] def State.holdLine (s : State) (p : Nat) : State :=
  match s.lineOf p with
  | some i => ((s.portsOf i).filter (fun k => k != p)).foldl State.silence (s.forceLine i)
  | none => s

/-- What a read byte at a time carries along: where the flash-side command stands, whether it broke on the map or met a HOLD
region, whether the tracker still follows, whether a denial was recorded, and whether a byte missed every loaded window under a lease. -/
structure RdAcc where
  s : State
  out : Bytes
  flashAt : Option (Nat × Nat)
  broken : Bool
  held : Bool
  follow : Bool
  denied : Bool
  collide : Bool
  deriving DecidableEq, Repr

/-- Byte `i` of a READ-class command (R174, R175, R206, R271): from the region of its address. `deny` is an entry ACTION of
DENY; `lease` and `short` are R181, under which no region is held or denied, and R168. DESIGN CHOICE (log 111): a read that began denied has no
command on the flash to go on with; where it runs into a FORWARD or PANTRY region it records MAP_BREAK (R206) and reads 0xFF to its end. -/
def rdByte (p : Nat) (mc : MCmd) (fcs : Nat) (deny lease short : Bool) (r : RdAcc) (i : Nat) : RdAcc :=
  if r.held then r else
  let s := r.s
  let q := s.port p
  let a := s.wrapAddr p fcs (mc.addr + i)
  let wrapped := decide (0 < i) && decide (a = 0)
  let g := q.govern mc.cs.val (a / 4096)
  let mode := q.modeOf g
  let stop (s : State) : State := if r.follow then s.stitchBreak p else s
  if mode = 4 ∧ !lease then
    { r with s := ((stop s).policyHit p 4 mc.cs.val mc.opc g a).holdLine p, held := true, follow := false }
  else if deny || mode == 3 || mode == 4 then
    let s := stop s
    let s := if r.denied || lease then s else s.policyHit p 2 mc.cs.val mc.opc g a
    { r with s := s, out := r.out ++ [0xFF], denied := true, follow := false, flashAt := r.flashAt.map (fun x => (x.1, s.wrapAddr p x.1 (x.2 + 1))),
             collide := r.collide || lease }
  else
    match g with
    | none => r
    | some j =>
      let m := q.mapAddr j mc.cs.val fcs a
      let brk := r.broken || (match r.flashAt with | some x => x != m | none => decide (0 < i))
      if brk then
        let s := stop s
        let s := if r.broken then s else s.policyHit p 9 mc.cs.val mc.opc g a
        { r with s := s, out := r.out ++ [0xFF], broken := true, follow := false, collide := r.collide || lease }
      else
        let nxt := some (m.1, s.wrapAddr p m.1 (m.2 + 1))
        let s := if wrapped && r.follow then s.stitchBreak p else s
        let f := r.follow && !wrapped
        let w := if mode = 1 then q.winOf m.1 (m.2 / 4096) else none
        let fr := match w with | some k => q.frameOf k (m.2 / 4096) | none => 0
        let ue := w.isSome && mc.ueFrames.contains fr
        let s := if ue then
            (match w with
             | some k => (s.modPort p (fun q => q.setWin k { q.win k with st := .empty, dropped := true })).count (evSys 8)
             | none => s) else s
        if w.isSome && !ue && !short then
          let s := if f then s.stitchByte p g m.1 m.2 none (s.reg (fp p 0 0xB0)) else s
          { r with s := s, out := r.out ++ [Bytes.at (s.frame fr) (m.2 % 4096)], flashAt := nxt, follow := f }
        else if lease || short then
          { r with s := stop s, out := r.out ++ [0xFF], follow := false, flashAt := nxt, collide := r.collide || lease }
        else
          let b := Bytes.at mc.flash i
          let s := if f then s.stitchByte p g m.1 m.2 (some b) (s.reg (fp p 0 0xB0)) else s
          { r with s := s, out := r.out ++ [b], flashAt := nxt, follow := f }

/-- The stitch at the start of a READ-class command (R248): continue, or break and start. -/
@[noinline] def State.stitchCmd (s : State) (p : Nat) (region : Option Nat) (cs fa : Nat) : State :=
  let t := (s.port p).stitch
  let near := match t.ended with | some e => decide (s.clk ≤ e + 64) | none => true
  if t.isOpen && t.cs == cs && t.next == fa && near then
    s.modPort p (fun q => { q with stitch := { q.stitch with ended := none } })
  else (s.stitchBreak p).stitchStart p region cs fa (s.reg (fp p 0 0xB0))

/-- The data phase of a READ-class command (R168, R174, R175, R181): its bytes go to the master, and what a lease or a short
dummy count did is recorded. -/
@[noinline] def State.readData (s : State) (p : Nat) (mc : MCmd) (fcs : Nat) (deny lease short : Bool) (r : RdAcc) : RdAcc :=
  let r := (List.range mc.n).foldl (rdByte p mc fcs deny lease short) { r with s := s }
  let s := if short then r.s.portErr p 1 fcs else r.s
  let s := if r.collide then s.portErr p 2 fcs else s
  { r with s := s.out (.master p r.out) }
/-- A held command: the line is forced and MIO released (R174, R178, R227). -/
@[noinline] def State.masterHold (s : State) (p : Nat) (mc : MCmd) (g : Option Nat) (a : Nat) : State :=
  ((s.policyHit p 4 mc.cs.val mc.opc g a).holdLine p).begin p (ActiveCmd.plain mc.cs.val false)
/-- The start of a data phase: where the flash-side command stands, whether the stitch follows, whether a denial is recorded. -/
def RdAcc.start (s : State) (at_ : Option (Nat × Nat)) (follow denied collide : Bool) : RdAcc :=
  { s := s, out := [], flashAt := at_, broken := false, held := false, follow := follow, denied := denied, collide := collide }
/-- A READ-class command with its entry (R174, R181, R207, R208). In mode 0x7 the data phase of an issued read follows at its end,
since FDQS may fail to toggle (R161). -/
@[noinline] def State.masterRead (s : State) (p : Nat) (mc : MCmd) (fcs : Nat) (e : List Word) : State :=
  let q := s.port p
  let cs := mc.cs.val
  let lease := q.granted fcs
  let short := decide (s.addDummy p (s.portMhz p) < autoDummy mc.mhz)
  let a := s.wrapAddr p fcs mc.addr
  let g := q.govern cs (a / 4096)
  let mode := q.modeOf g
  let deny := ctAction e == 2
  let no := deny || mode == 3 || mode == 4
  let fa := q.mapOf g cs fcs a
  let follow := !no && !short
  let s := if follow then s.stitchCmd p g fa.1 fa.2 else s.stitchBreak p
  if lease then
    let miss := no || mode != 1 || (q.winOf fa.1 (fa.2 / 4096)).isNone
    ((s.readData p mc fcs deny true short (RdAcc.start s (if no then none else some fa) follow false miss)).s).begin p
      (ActiveCmd.plain cs false)
  else if mode = 4 then s.masterHold p mc g a
  else if no then
    let s := s.policyHit p 2 cs mc.opc g a
    ((s.readData p mc fcs deny false short (RdAcc.start s none false true false)).s).begin p (ActiveCmd.plain cs false)
  else
    let s := s.issue p { cs := fa.1, opc := mc.opc, addr := fa.2, mclk := ctMclk e, data := [] }
    if (q.mode fcs).code = 7 then
      s.begin p { ActiveCmd.forward cs e with
        late := some { mc := mc, fcs := fcs, kind := .read, follow := follow, short := short, addr := fa } }
    else
      let r := s.readData p mc fcs false false short (RdAcc.start s (some fa) follow false false)
      r.s.begin p (if r.held then ActiveCmd.plain cs false else ActiveCmd.forward cs e)

/-- A capture record of a write-class command (R216, R218, R220, R228). -/
def State.captureOf (s : State) (p : Nat) (mc : MCmd) (fcs ei : Nat) (e : List Word) (g : Option Nat) (a : Nat) : WqEntry :=
  let q := s.port p
  let cls := ctClass e
  let na := decide (cls = 3 ∨ cls = 5)
  let sz := ctSize e
  let m := q.mapOf g mc.cs.val fcs a
  let room := if cls = 1 then 2 ^ sz - a % 2 ^ sz else if cls = 5 then 8 else 0
  let d := mc.data.take room
  let base := if cls = 2 then m.2 - m.2 % 2 ^ sz else m.2
  let off := a % 4096
  let commit := cls = 1 && (match g with | some j => rgCwatch (q.rg j) | none => false) && decide (0 < d.length) &&
    decide (4088 < off + d.length)
  { WqEntry.reset with
    st := .captured, type := if cls = 1 then 0 else if cls = 2 then 1 else 2, cs := m.1,
    trunc := decide (room < mc.data.length) && decide (cls = 1 ∨ cls = 5), commit := commit, entry := ei, region := if na then none else g,
    addr := if na then 0 else base, size := sz, data := d, opcode := mc.opc, cls := cls,
    timeoutLog := Word.field (ew e 1) 17 13 }

/-- An erase whose aligned range lies in more than one region, or partly in none (R209). -/
def State.eraseSpan (s : State) (p : Nat) (mc : MCmd) (e : List Word) (g : Option Nat) (a : Nat) : Bool :=
  let q := s.port p
  let lo := (a - a % 2 ^ ctSize e) / 4096
  g == none || (List.range (2 ^ ctSize e / 4096)).any (fun k => q.govern mc.cs.val (lo + k) != g)

/-- A denied write-class command (R174, R176, R227). -/
@[noinline] def State.masterDeny (s : State) (p : Nat) (mc : MCmd) (cls cause : Nat) (g : Option Nat) (a : Nat) : State :=
  let s := s.policyHit p cause mc.cs.val mc.opc g a
  let c := s.deniedCmd p mc.cs.val
  (s.denyView p mc.cs.val (wrKind cls)).begin p c
/-- A write-class command with its entry (R207 to R209). DESIGN CHOICE (log 110): where the class has no address, the hit's PH_LAST1 shows the one
that the command carries, and 0 for one held in the queue. -/
@[noinline] def State.masterWrite (s : State) (p : Nat) (mc : MCmd) (fcs ei : Nat) (e : List Word) : State :=
  let q := s.port p
  let cls := ctClass e
  let addressed := decide (ctAddr e ≠ 0)
  let a := s.wrapAddr p fcs mc.addr
  let g := if addressed then q.govern mc.cs.val (a / 4096) else none
  let mode := q.modeOf g
  let wr := match g with | some j => rgWr (q.rg j) | none => false
  if addressed && !mc.addrDone then s.begin p (ActiveCmd.plain mc.cs.val false)
  else if addressed && mode == 4 then s.masterHold p mc g a
  else if cls = 2 ∧ s.eraseSpan p mc e g a then s.masterDeny p mc cls 8 g a
  else if ctAction e = 2 then s.masterDeny p mc cls 3 g a
  else if ctAction e = 3 ∨ (addressed && mode == 2) then
    s.begin p { ActiveCmd.plain mc.cs.val false with capture := some (s.captureOf p mc fcs ei e g a), maddr := if addressed then a else 0 }
  else if addressed && mode == 0 && wr then
    let m := q.mapOf g mc.cs.val fcs a
    s.begin p { ActiveCmd.forward mc.cs.val e with
      issue := some { cs := m.1, opc := mc.opc, addr := m.2, mclk := ctMclk e, data := mc.data }, view := .write true }
  else s.masterDeny p mc cls 3 g a

/-- A command that is forwarded as the flash answers (R174). A read is issued at once and answered, in mode 0x7 at its end; any
other command reaches the flash with the chip-select deassertion, so one that ends before is not forwarded (R216). -/
@[noinline] def State.masterFwd (s : State) (p : Nat) (mc : MCmd) (fcs : Nat) (e : List Word) (a : Nat) (v : ViewOp) : State :=
  let c : FlashCmd := { cs := fcs, opc := mc.opc, addr := a, mclk := ctMclk e, data := mc.data }
  if ctData e ≠ 2 then s.begin p { ActiveCmd.forward mc.cs.val e with issue := some c, view := v }
  else
    let s := s.issue p c
    if ((s.port p).mode mc.cs.val).code = 7 then
      s.begin p { ActiveCmd.forward mc.cs.val e with
        late := some { mc := mc, fcs := fcs, kind := .other, follow := false, short := false, addr := (fcs, a) } }
    else (s.out (.master p (mc.flash.take mc.n))).begin p (ActiveCmd.forward mc.cs.val e)
/-- An addressed MODE_SET or OTHER command (R676). -/
@[noinline] def State.masterAddr (s : State) (p : Nat) (mc : MCmd) (fcs : Nat) (e : List Word) : State :=
  let q := s.port p
  let cs := mc.cs.val
  let a := s.wrapAddr p fcs mc.addr
  let g := q.govern cs (a / 4096)
  let mode := q.modeOf g
  let m := q.mapOf g cs fcs a
  let stop (s : State) : State := s.begin p (ActiveCmd.plain cs false)
  if !mc.addrDone then stop s
  else if mode = 4 then s.masterHold p mc g a
  else if mode = 3 then
    (if ctData e = 2 then stop ((s.policyHit p 2 cs mc.opc g a).out (.master p (List.replicate mc.n (BitVec.allOnes 8))))
     else stop (s.policyHit p 3 cs mc.opc g a))
  else s.masterFwd p mc m.1 e m.2 .keep
/-- The bytes of a status read of a STAT_MAP opcode, given those of the flash (R174). -/
def State.statusBytes (s : State) (p : Nat) (mc : MCmd) (flash : Bytes) : Bytes :=
  (List.range mc.n).map (fun i => s.statusByte p mc.cs.val mc.opc (Bytes.at flash i))
/-- A forwarded status read whose last byte shows WIP = 0: the flash runs nothing that the master forwarded (R318). -/
@[noinline] def State.statusSeen (s : State) (p : Nat) (mc : MCmd) (fcs : Nat) : State :=
  let m := s.reg (fp p 0 (0x60 + 4 * mc.cs.val))
  if mc.n = 0 ∨ mc.opc.toNat ≠ Word.field m 7 0 ∨ (Bytes.at mc.flash (mc.n - 1)).getLsbD (Word.field m 10 8) then s
  else s.modPort p (fun q => q.writeOver fcs)
/-- A status read of a STAT_MAP opcode (R174). -/
@[noinline] def State.masterStatus (s : State) (p : Nat) (mc : MCmd) (fcs : Nat) (e : List Word) : State :=
  let s := s.issue p { cs := fcs, opc := mc.opc, addr := 0, mclk := ctMclk e, data := [] }
  if ((s.port p).mode mc.cs.val).code = 7 then
    s.begin p { ActiveCmd.forward mc.cs.val e with
      late := some { mc := mc, fcs := fcs, kind := .status, follow := false, short := false, addr := (fcs, 0) } }
  else ((s.out (.master p (s.statusBytes p mc mc.flash))).statusSeen p mc fcs).begin p (ActiveCmd.forward mc.cs.val e)
/-- A WREN: at its end the master view sets WEL where a region takes program or erase; it is forwarded only where one forwards
them (R176, R201). -/
@[noinline] def State.masterWren (s : State) (p : Nat) (mc : MCmd) (fcs : Nat) (e : List Word) : State :=
  let q := s.port p
  let cs := mc.cs.val
  let fwd := q.writable cs
  let v := ViewOp.wren (fwd || q.mediate cs) fwd
  if fwd then s.masterFwd p mc fcs e 0 v else s.begin p { ActiveCmd.plain cs false with view := v }
/-- A command of the other classes with ACTION REGION (R174, R176, R200). -/
@[noinline] def State.masterOther (s : State) (p : Nat) (mc : MCmd) (fcs : Nat) (e : List Word) : State :=
  let cls := ctClass e
  let cs := mc.cs.val
  if (cls = 13 ∨ cls = 14) ∧ ctAddr e ≠ 0 then s.masterAddr p mc fcs e
  else if s.isStatus p cs cls mc.opc then s.masterStatus p mc fcs e
  else if cls = 6 then s.masterWren p mc fcs e
  else s.masterFwd p mc fcs e 0 (if cls = 7 then .wrdi else if s.isFailClr p cs mc.opc then .failClr else .keep)

/-- The answer of a leased chip select to a command that is no read of the data path (R181): a status read shows WIP 1, any
other read gives 0xFF, anything else is swallowed; the last two are LEASE_COLLISION. -/
@[noinline] def State.masterLeased (s : State) (p : Nat) (mc : MCmd) (fcs cls : Nat) (rd : Bool) : State :=
  if s.isStatus p mc.cs.val cls mc.opc then
    (s.out (.master p (s.statusBytes p mc []))).begin p (ActiveCmd.plain mc.cs.val false)
  else
    let s := if rd then s.out (.master p (List.replicate mc.n 0xFF)) else s
    (s.portErr p 2 fcs).begin p (ActiveCmd.plain mc.cs.val false)

/-- A command forbidden by the command table (R174, R195, R196). DESIGN CHOICE (log 110): PH_LAST1 shows the address that the command carries. -/
@[noinline] def State.masterForbid (s : State) (p : Nat) (mc : MCmd) : State :=
  ((s.policyHit p 1 mc.cs.val mc.opc none mc.addr)).begin p (ActiveCmd.plain mc.cs.val false)

/-- The accepted command counts and its clock is measured (R168, R185). -/
@[noinline] def State.accept (s : State) (p mhz : Nat) : State :=
  (((s.add64 (fp p 0 0xB0) 1).setReg (fp p 0 0x5C) (wd mhz)).modPort p (fun q => { q with needed := autoDummy mhz }))

/-! ### The identification shadow -/

/-- JEDEC ID bytes of a chip select. -/
def PortState.jedec (q : PortState) (cs : Nat) : Bytes := if cs = 0 then q.id0 else q.id1
/-- SFDP shadow of a chip select. -/
def PortState.sfdp (q : PortState) (cs : Nat) : Bytes := if cs = 0 then q.sfdp0 else q.sfdp1
/-- A byte of a shadow: 0xFF where discovery filled nothing (R170). -/
def shadowByte (b : Bytes) (i : Nat) : Byte := b.getD i 0xFF

/-- A 32-bit word of a byte string replaced. -/
def putWord (b : Bytes) (o v : Nat) : Bytes :=
  if o + 4 ≤ b.length then b.take o ++ leBytes 4 v ++ b.drop (o + 4) else b
/-- Field of a 32-bit word of a byte string replaced. -/
def putFld (b : Bytes) (o hi lo v : Nat) : Bytes :=
  putWord b o (Word.setField (wd (Bytes.num b o 4)) hi lo v).toNat
/-- The parameter headers of an SFDP space: identifier, length in words, pointer (JESD216). -/
def sfdpTables (b : Bytes) : List (Nat × Nat × Nat) :=
  (List.range (Bytes.num b 6 1 + 1)).map (fun k =>
    let o := 8 + 8 * k
    (Bytes.num b o 1 + 256 * Bytes.num b (o + 7) 1, Bytes.num b (o + 3) 1, Bytes.num b (o + 4) 3))
/-- The entry of the active table that allows an opcode in a command phase: valid and not FORBID (R171, R195). -/
def PortState.opEntry (q : PortState) (opc phase : Nat) : Option (List Word) :=
  ((List.range 64).map (ctGet q.ctA)).find? (fun e => eValid e && ctOpc e == opc && ctAction e != 0 && cmdPhase (ctFmt e) == phase)
/-- An opcode is allowed in a command phase (R171, R195). -/
def PortState.opAllowed (q : PortState) (opc phase : Nat) : Bool := (q.opEntry opc phase).isSome
/-- An opcode is forbidden in every command phase: of an erase or a 4-byte instruction, whose table names no phase (R171). -/
def PortState.opForbidden (q : PortState) (opc : Nat) : Bool := !(List.range 4).any (q.opAllowed opc)
/-- WAIT of an entry: the flash wait states of its command (R199). -/
def ctWait (e : List Word) : Nat := Word.field (ew e 1) 4 0
/-- Wait states of a fast read after the rewrite (R171): W + M + A, with the WAIT and MCLK of the read's command-table entry (R164), or none if
they do not fit five bits or no entry allows the read. -/
def rewriteWait (e : Option (List Word)) (a : Nat) : Option Nat :=
  match e with
  | some e => let w := ctWait e + ctMclk e + a; if w < 32 then some w else none
  | none => none
/-- One fast-read half word (wait states [4:0], mode clocks [7:5], opcode [15:8]) at byte `o` of the shadow and its support
bit (byte offset of the support word, bit), rewritten (R171). DESIGN CHOICE (log 71): the half word of a read whose support bit is cleared is
served unchanged. -/
def rewriteRead (q : PortState) (a base : Nat) (b : Bytes) (o supOff supBit : Nat) : Bytes :=
  match rewriteWait (q.opEntry (Bytes.num b (base + o + 1) 1) (if supBit = 4 then 1 else 0)) a with
  | some w => b.take (base + o) ++ leBytes 1 w ++ b.drop (base + o + 1)
  | none => putFld b (base + supOff) supBit supBit 0
/-- The basic flash parameter table rewritten (R171). -/
def rewriteBfpt (q : PortState) (a base len : Nat) (b : Bytes) : Bytes :=
  let b := if q.opForbidden (Bytes.num b (base + 1) 1) then putFld (putFld b base 1 0 3) base 15 8 0xFF else b
  let b := rewriteRead q a base b 8 0 21
  let b := rewriteRead q a base b 10 0 22
  let b := rewriteRead q a base b 12 0 16
  let b := rewriteRead q a base b 14 0 20
  let b := if 5 ≤ len then putFld b (base + 16) 0 0 0 else b
  let b := if 7 ≤ len then rewriteRead q a base b 26 16 4 else b
  let b := if 6 ≤ len then putFld b (base + 20) 31 16 0 else b
  (List.range 4).foldl (fun b k =>
    let o := base + 28 + 2 * k
    if 8 + k / 2 ≤ len ∧ q.opForbidden (Bytes.num b (o + 1) 1) then
      b.take o ++ leBytes 1 0 ++ b.drop (o + 1) else b) b
/-- Opcodes of the 4-byte address instruction table by support bit (JESD216); bits 9 to 12 take theirs from its second word. -/
def fourByteOps : List Nat :=
  [0x13, 0x0C, 0x3C, 0xBC, 0x6C, 0xEC, 0x12, 0x34, 0x3E, 0x21, 0x5C, 0xDC, 0xDC, 0x0E, 0xBE, 0xEE, 0xE0, 0xE1, 0xE2, 0xE3,
   0x7C, 0xCC, 0xFD, 0x84, 0x8E]
/-- The 4-byte address instruction table: the support bit of a forbidden opcode is cleared (R171). -/
def rewrite4b (q : PortState) (base : Nat) (b : Bytes) : Bytes :=
  (List.range 25).foldl (fun b k =>
    let opc := if 9 ≤ k ∧ k ≤ 12 then Bytes.num b (base + 4 + (k - 9)) 1 else fourByteOps.getD k 0
    if q.opForbidden opc then putFld b base k k 0 else b) b
/-- Dummy-cycle fields of the xSPI profile table: frequency in MHz, byte offset of the word, lowest bit; five bits each
(JESD251: word 4 holds 200 MHz, word 5 holds 166, 133 and 100 MHz). -/
def profFreqs : List (Nat × Nat × Nat) := [(200, 12, 7), (166, 16, 27), (133, 16, 17), (100, 16, 7)]
/-- The xSPI profile table: A at each listed frequency is added to its dummy field; the read is removed where the sum does not
fit (R171). -/
def rewriteProf (auto : Bool) (count base : Nat) (b : Bytes) : Bytes :=
  profFreqs.foldl (fun b x =>
    let o := base + x.2.1
    let lo := x.2.2
    let n := Word.field (wd (Bytes.num b o 4)) (lo + 4) lo + (if auto then autoDummy x.1 else count)
    putFld b o (lo + 4) lo (if n < 32 then n else 0)) b
/-- The SFDP bytes that a 5Ah command is served (R170 to R172). -/
def State.sfdpServed (s : State) (p cs : Nat) : Bytes :=
  let q := s.port p
  let b := q.sfdp cs
  if !s.bitOf (fp p 0 0x90) 0 ∨ b.isEmpty then b
  else
    let a := s.addDummy p (s.portMhz p)
    (sfdpTables b).foldl (fun b t =>
      if t.1 = 0xFF00 then rewriteBfpt q a t.2.2 t.2.1 b
      else if t.1 = 0xFF84 then rewrite4b q t.2.2 b
      else if t.1 = 0xFF05 then rewriteProf (s.bitOf (fp p 0 0x54) 8) (s.addDummy p (s.portMhz p)) t.2.2 b
      else b) b

/-- Bytes of the shadow go to the master, or 0xFF with LEASE_COLLISION under a lease (R170, R181). -/
@[noinline] def State.shadowRead (s : State) (p cs fcs : Nat) (d : Bytes) : State :=
  let s := s.stitchBreak p
  let s := if (s.port p).granted fcs then (s.out (.master p (List.replicate d.length 0xFF))).portErr p 2 fcs else s.out (.master p d)
  s.begin p (ActiveCmd.plain cs false)
/-- A 9Fh command (R170): the shadow ID bytes. -/
@[noinline] def State.readId (s : State) (p cs fcs n : Nat) : State :=
  s.shadowRead p cs fcs ((List.range n).map (shadowByte ((s.port p).jedec cs)))
/-- A 5Ah command (R170 to R172): the shadow from an address. -/
@[noinline] def State.readSfdp (s : State) (p cs fcs addr n : Nat) : State :=
  s.shadowRead p cs fcs ((List.range n).map (fun i => shadowByte (s.sfdpServed p cs) (addr + i)))

/-- The address that a command carries: its low 24 bits where its address phase has three bytes (R198). -/
def FMode.addr (m : FMode) (e : List Word) (a : Nat) : Nat :=
  if ctAddr e = 3 ∨ (ctAddr e = 1 ∧ m.addr4) then a else a % 2 ^ 24
/-- A master command that the port takes, on the flash chip select it reaches (R174, R181, R195, R196, R200, R207, R208). -/
@[noinline] def State.masterCmd (s : State) (p : Nat) (mc : MCmd) (fcs : Nat) : State :=
  let s := s.accept p mc.mhz
  let q := s.port p
  let code := (q.mode fcs).code
  let forbid (s : State) : State :=
    if q.granted fcs then (s.stitchBreak p).masterLeased p mc fcs 15 false else (s.stitchBreak p).masterForbid p mc
  if (code = 6 ∨ code = 7) ∧ mc.opc2 ≠ ~~~mc.opc then forbid s
  else if mc.opc = 0x9F then s.readId p mc.cs.val fcs mc.n
  else if mc.opc = 0x5A then s.readSfdp p mc.cs.val fcs mc.addr mc.n
  else
    match q.ctMatch mc.opc.toNat code with
    | none => forbid s
    | some i =>
      let e := ctGet q.ctA i
      let cls := ctClass e
      let mc := { mc with addr := (q.mode fcs).addr e mc.addr }
      if ctAction e = 0 ∨ !s.classFits p mc.cs.val cls mc.opc then forbid s
      else if cls = 0 then
        (if mc.addrDone then s.masterRead p mc fcs e
         else if q.granted fcs then (s.stitchBreak p).masterLeased p { mc with n := 0 } fcs cls true
         else (s.stitchBreak p).begin p (ActiveCmd.plain mc.cs.val false))
      else
        let s := s.stitchBreak p
        if q.granted fcs then s.masterLeased p mc fcs cls (ctData e == 2)
        else if cls = 1 ∨ cls = 2 ∨ cls = 3 ∨ cls = 5 then s.masterWrite p mc fcs i e
        else s.masterOther p mc fcs e
/-- The device may read a flash chip select: no master command runs on the port and no chip select that it heeds is asserted (R177, R179), and
the bank allows the mode (R154). -/
def State.readable (s : State) (p cs : Nat) : Bool :=
  (s.port p).active.isNone && !(s.portLive p && (s.port p).mcs.isSome) && (s.port p).modeRuns cs
/-- The port takes a command of a master chip select (R155, R177): it is live, no chip select is asserted, the chip select reaches a
flash chip select, and the bank allows that one's mode (R154). -/
def State.hears (s : State) (p cs : Nat) : Bool :=
  s.portLive p && (s.port p).idle && (match s.csMap p cs with | some f => (s.port p).modeRuns f | none => false)
/-- A master chip select asserts (R188); a command while one is asserted is part of that command and changes nothing. -/
@[noinline] def State.assertCs (s : State) (p cs : Nat) : State :=
  if (s.port p).mcs.isSome then s else s.modPort p (fun q => { q with mcs := some cs })
/-- A command of a master chip select begins: the chip select asserts, and the port takes the command or ignores it (R177). -/
@[noinline] def State.onCs (s : State) (p cs : Nat) (eff : Nat → State → State) : State :=
  let t := s.assertCs p cs
  if s.hears p cs then eff ((s.csMap p cs).getD 0) t else t
/-- MASTER_COMMAND (R174). -/
def execMasterCommand (p : Fin 16) (mc : MCmd) (s : State) : Res :=
  .next (s.onCs p.val mc.cs.val (fun f s => s.masterCmd p.val mc f))
/-- READ_JEDEC_ID (R170). -/
def execReadJedecId (p : Fin 16) (c : Fin 2) (r : IdRead) (s : State) : Res :=
  .next (s.onCs p.val c.val (fun f s => (s.accept p.val r.mhz).readId p.val c.val f r.n))
/-- READ_SFDP (R171). -/
def execReadSfdp (p : Fin 16) (c : Fin 2) (addr : Nat) (r : IdRead) (s : State) : Res :=
  .next (s.onCs p.val c.val (fun f s => (s.accept p.val r.mhz).readSfdp p.val c.val f addr r.n))

/-- Address of byte 0 of a write-queue entry's data in core memory (R219). -/
def wqDataAt (p i : Nat) : Nat := 0x104C0000 + 32768 * p + 512 * i
/-- Store a capture in the lowest FREE entry, or deny it when the queue is full or off (R216, R217, R218, R219, R226); the hits
carry the master address (R212), or 0 of a command without one (log 110). DESIGN CHOICE (log 72): an empty program leaves the master view. -/
@[noinline] def State.capture (s : State) (p cs maddr : Nat) (e : WqEntry) : State :=
  if e.type = 0 ∧ e.data = [] then s.policyHit p 7 cs e.opcode e.region maddr
  else
    match (if s.bitOf (fp p 2 0x6C) 0 then (s.port p).freeWqe else none) with
    | none =>
      let wrdi := ((s.port p).view cs).wrenFwd
      let s := (s.policyHit p 5 cs e.opcode e.region maddr).denyView p cs (wrKind e.cls)
      if wrdi then (s.toFlash p cs 0x04 0 []).modPort p (fun q => q.modView cs (fun v => { v with wrenFwd := false })) else s
    | some i =>
      let s := s.modPort p (fun q => { (q.setWqe i { e with seq := q.wqSeq, mcmd := s.reg (fp p 0 0xB0), since := s.clk }) with wqSeq := q.wqSeq + 1 })
      let s := (s.setBytes (wqDataAt p i) e.data).doneView p cs (decide (e.cls ≠ 5))
      let s := if e.trunc && e.type == 0 then s.policyHit p 6 cs e.opcode e.region maddr else s
      s.count (evPort p 2)
/-- What the end of a forwarded command does to the master view (R176, R201). -/
def MView.apply (v : MView) (o : ViewOp) : MView :=
  match o with
  | .keep => v
  | .wren wel fwd => { v with wel := v.wel || wel, wrenFwd := v.wrenFwd || fwd }
  | .wrdi => { v with wel := false, wrenFwd := false }
  | .write pe => { v with wel := false, pFail := v.pFail && !pe, eFail := v.eFail && !pe, wrenFwd := false }
  | .failClr => { v with pFail := false, eFail := false }
/-- The data phase of a mode 0x7 read (R161): from the flash, or 0xFF on every byte where FDQS did not toggle, which is then the
recorded error. The second component says whether a HOLD region ended the command. -/
@[noinline] def State.lateData (s : State) (p : Nat) (l : LateRead) (dead : Bool) : State × Bool :=
  match l.kind with
  | .read =>
    let r := RdAcc.start s (some l.addr) l.follow false false
    if dead then
      let r := (List.range l.mc.n).foldl (rdByte p l.mc l.fcs false false true) r
      ((r.s.stitchBreak p).out (.master p r.out), r.held)
    else
      let r := s.readData p l.mc l.fcs false false l.short r
      (r.s, r.held)
  | .status =>
    (if dead then s.out (.master p (List.replicate l.mc.n 0xFF))
     else (s.out (.master p (s.statusBytes p l.mc l.mc.flash))).statusSeen p l.mc l.fcs, false)
  | .other => (s.out (.master p (if dead then List.replicate l.mc.n 0xFF else l.mc.flash.take l.mc.n)), false)
/-- The current mode after a forwarded command (R160, R199). -/
def FMode.switch (m d : FMode) (c : ActiveCmd) : FMode :=
  { code := if c.sw = 0xF then m.code else if c.sw = 0xE then d.code else c.sw,
    addr4 := if c.asw = 1 then false else if c.asw = 2 then true else if c.asw = 3 then d.addr4 else m.addr4 }
/-- The end of a command (R160, R174, R216): the data phase still owed, the flash command and the master view of a forwarded
command, its mode switch, a capture, the WRDI after a denial; the stitch waits from here (R248). -/
@[noinline] def State.csEnd (s : State) (p : Nat) (c : ActiveCmd) : State :=
  let cs := c.cs
  let d := match c.late with | some l => s.lateData p l false | none => (s, false)
  let s := match c.issue with | some f => d.1.issue p f | none => d.1
  let s := s.modPort p (fun q => q.modView cs (fun v => v.apply c.view))
  let s := match c.issue, c.view with
    | some f, .write _ => s.modPort p (fun q => q.writeSent f.cs)
    | _, _ => s
  let s := s.modPort p (fun q =>
    let q := if c.fwd && !d.2 then q.setMode cs ((q.mode cs).switch (s.modeReg p cs) c) else q
    { q with active := none, stitch := if q.stitch.isOpen then { q.stitch with ended := some s.clk } else q.stitch })
  let s := match c.capture with | some e => s.capture p cs c.maddr e | none => s
  if c.wrdi then (s.toFlash p cs 0x04 0 []).modPort p (fun q => q.modView cs (fun v => { v with wrenFwd := false })) else s
/-- MASTER_CS_DEASSERT (R216). -/
def execMasterCsDeassert (p : Fin 16) (s : State) : Res :=
  .next (let t := s.modPort p.val (fun q => { q with mcs := none })
    match (s.port p.val).active with
    | some c => t.csEnd p.val c
    | none => t)
/-- DQS_TIMEOUT (R161): every byte of the read that waits for its data is 0xFF, PORT_ERR is recorded, after DUMMY_SHORT where the measured clock
asks for more dummy clocks (R168), and the stitch breaks. -/
def execDqsTimeout (p : Fin 16) (s : State) : Res :=
  .next (match (s.port p.val).active with
    | some c => (match c.late with
      | some l =>
        let d := ((if l.short then s.portErr p.val 1 l.fcs else s).portErr p.val 5 l.fcs).lateData p.val l true
        d.1.modPort p.val (fun q => { q with active := q.active.map (fun a =>
          if d.2 then ActiveCmd.plain a.cs false else { a with late := none }) })
      | none => s)
    | none => s)

end Sys2Proof.Machine
end

