-- ==== Sys2Proof/Machine/Admit.lean ====
section
/-! DEFINITION. Entry into the admission queue of Cistern and withdrawal from it (R318, R324), and the write-queue effects of
either (R223, R225, R323). -/
namespace Sys2Proof.Machine

/-- A request enters the admission queue and waits (R318). -/
@[noinline] def State.enqueue (s : State) (i cls timeout : Nat) (what : CommitWhat) : State :=
  let s := s.setAdm i { st := .waiting, cls := cls, order := s.cis.order, since := s.posRun, timeout := timeout, what := what, startHc := 0 }
  { s with cis := { s.cis with order := s.cis.order + 1 } }
/-- A waiting entry leaves the queue without effect, and COMMIT_WITHDRAWN is counted (R324). -/
@[noinline] def State.withdraw (s : State) (i : Nat) : State :=
  if (s.adm i).st = .waiting then (s.setAdm i AdmEntry.reset).count (evCis 6) else s

/-- A write-queue entry has ended. -/
def WqEntry.ended (e : WqEntry) : Bool := e.st == .done || e.st == .failed || e.st == .discarded
/-- Entries of the queue that are in use, with their indices. -/
def PortState.wqAll (q : PortState) : List (Nat × WqEntry) :=
  ((List.range 64).map (fun i => (i, q.wqe i))).filter (fun x => x.2.st != .free)
/-- Every entry with earlier SEQ has ended (R222, R223). -/
def PortState.earlierEnded (q : PortState) (seq : Nat) : Bool :=
  q.wqAll.all (fun x => decide (seq ≤ x.2.seq) || x.2.ended)
/-- FENCE entries whose earlier entries have all ended become DONE with RESULT OK (R223), in order of creation. -/
def PortState.fences (q : PortState) : PortState :=
  (List.range 64).foldl (fun q _ =>
    match q.wqAll.find? (fun x => x.2.type == 3 && x.2.st == .captured && q.earlierEnded x.2.seq) with
    | some x => q.setWqe x.1 { x.2 with st := .done, result := stOk }
    | none => q) q
/-- An entry other than a FENCE that becomes FAILED or DISCARDED shows in the master view (R225). -/
@[noinline] def State.failView (s : State) (p : Nat) (e : WqEntry) : State :=
  s.modPort p (fun q => q.modView e.cs (fun v =>
    if e.type = 0 ∨ e.cls = 5 then { v with pFail := true } else { v with eFail := true }))
/-- End a write-queue entry (R221, R224, R225, R226). -/
@[noinline] def State.wqEnd (s : State) (p i : Nat) (st : WqSt) (r : Status) : State :=
  let e := (s.port p).wqe i
  let s := s.modPort p (fun q => (q.setWqe i { e with st := st, result := r }))
  let s := if e.type ≠ 3 ∧ (st = .failed ∨ st = .discarded) then s.failView p e else s
  let s := s.modPort p PortState.fences
  if e.type ≠ 3 ∧ (st = .done ∨ st = .failed) then s.count (evPort p 2) else s
/-- The oldest APPLIED commit capture of a port asks for admission where its queue entry is free (R222, R318). -/
@[noinline] def State.wqAsk (s : State) (p : Nat) : State :=
  if (s.adm p).st ≠ .empty then s
  else
    match (s.port p).wqAll.foldl (fun m x => if x.2.commit && x.2.st == .applied then
        (match m with | none => some x | some y => if x.2.seq < y.2.seq then some x else some y) else m) none with
    | some x => s.enqueue p 2 0 (.wq p x.1)
    | none => s

/-- The commit in flight leaves its entry (R321): ADM_LAST, COMMITS_DONE and COMMIT_DONE (R334, R335). -/
@[noinline] def State.admDone (s : State) (i : Nat) (r : Status) : State :=
  let e := s.adm i
  let s := s.setAdm i AdmEntry.reset
  let s := { s with cis := { s.cis with inflight := none } }
  let s := s.setReg (pg 0x19 0x64) (fld i 0 ||| fld e.cls 5 ||| fld r.toNat 8 ||| fld (e.startHc % 65536) 16)
  (s.incReg (pg 0x19 0x74)).count (evCis 4)
/-- A hart PAGE_REC commit in flight on a chip select of a port, or on either (R318). -/
def State.commitOn (s : State) (p : Nat) : Option Nat :=
  match s.cis.inflight with
  | some i => (match (s.adm i).what with
    | .page _ q cs _ _ => if q = p then some cs else none
    | _ => none)
  | none => none
/-- A device-originated program or erase runs on the port: its chip select (R180, R222). -/
def State.devOp (s : State) (p : Nat) : Option Nat :=
  match (s.port p).wqAll.find? (fun x => x.2.st == .running) with
  | some x => some x.2.cs
  | none => s.commitOn p

end Sys2Proof.Machine
end

