-- ==== Sys2Proof/Machine/Policy.lean ====
section
/-! DEFINITION. The command and region tables of a port and their windows (R195 to R215, R275). -/
namespace Sys2Proof.Machine

/-- The REJECT field of a status register. -/
@[noinline] def State.setReject (s : State) (a code : Nat) : State := s.setFld a 7 4 code

/-- Structure and ACTION that R200 accepts for a class. -/
def ctClassOk (e : List Word) : Bool :=
  let a := ctAddr e
  let d := ctData e
  let act := ctAction e
  let sz := ctSize e
  let plain := (a == 0) && (d == 0) && (act == 0 || act == 1) && (sz == 0)
  match ctClass e with
  | 0 => a != 0 && d == 2 && act != 3 && sz == 0
  | 1 => a != 0 && d == 1 && (sz == 8 || sz == 9)
  | 2 => a != 0 && d == 0 && decide (12 ≤ sz) && decide (sz ≤ 18)
  | 3 => a == 0 && d == 0 && act != 1 && sz == 0
  | 4 => a == 0 && d == 2 && (act == 0 || act == 1) && sz == 0
  | 5 => d == 1 && act != 1 && sz == 0
  | 13 => (d == 0 || d == 1) && (act == 0 || act == 1) && sz == 0
  | 14 => (d == 0 || d == 2) && (act == 0 || act == 1) && sz == 0
  | 15 => false
  | _ => plain
/-- The REJECT code of a command-table WRITE, 0 where it is accepted (R202, R213). -/
def PortState.ctCheck (q : PortState) (idx : Nat) (e : List Word) : Nat :=
  let sw := Word.field (ew e 1) 21 18
  if !eValid e then 0
  else if 7 < ctFmt e ∨ ctData e = 3 ∨ (7 < sw ∧ sw < 0xE) ∨ Word.field (ew e 0) 30 22 ≠ 0 ∨ Word.field (ew e 1) 31 24 ≠ 0 ∨
      31 < Word.field (ew e 1) 4 0 + Word.field (ew e 1) 7 5 then 1
  else if ctOpc e = 0x9F ∨ ctOpc e = 0x5A then 3
  else if !ctClassOk e then 4
  else if (List.range 64).any (fun i => let x := ctGet q.ctS i
      i != idx && eValid x && ctOpc x == ctOpc e && cmdPhase (ctFmt x) == cmdPhase (ctFmt e)) then 2
  else 0
/-- The entry that the window words spell. -/
def State.ctWords (s : State) (p : Nat) : List Word := [s.reg (fp p 1 0x44), s.reg (fp p 1 0x48)]
/-- CT_INDEX.INDEX. -/
def State.ctIdx (s : State) (p : Nat) : Nat := s.fldOf (fp p 1 0x40) 5 0
/-- Store an entry of a table store. -/
def ctSet (m : SMap (List Word)) (i : Nat) (e : List Word) : SMap (List Word) := SMap.set (fun _ => ctZero) m i e
/-- Store a region entry. -/
def rtSet (m : SMap (List Word)) (i : Nat) (e : List Word) : SMap (List Word) := SMap.set (fun _ => rtZero) m i e
/-- Address of CT_CTRL. -/
def aCt (p : Nat) : Nat := fp p 1 0x4C
/-- Address of RT_CTRL. -/
def aRt (p : Nat) : Nat := fp p 2 0x58
/-- A command-table trigger while no swap is pending (R214). -/
@[noinline] def State.ctTrig (s : State) (m : Master) (p : Nat) (eff : State → State) : State := s.when m (aCt p) (!(s.port p).ctSwap) eff
/-- A region-table trigger while no swap is pending. -/
@[noinline] def State.rtTrig (s : State) (m : Master) (p : Nat) (eff : State → State) : State := s.when m (aRt p) (!(s.port p).rtSwap) eff

/-- CT_CTRL.WRITE (R202, R213). -/
@[noinline] def State.ctWrite (s : State) (m : Master) (p : Nat) : State :=
  s.ctTrig m p (fun s =>
    let code := (s.port p).ctCheck (s.ctIdx p) (s.ctWords p)
    let t := s.setReject (fp p 1 0x50) code
    if code = 0 then t.modPort p (fun q => { q with ctS := ctSet q.ctS (s.ctIdx p) (s.ctWords p) }) else t.refuse m (aCt p))
/-- CT_CTRL.READ (R213). -/
@[noinline] def State.ctRead (s : State) (p : Nat) : State :=
  let e := ctGet (if s.bitOf (fp p 1 0x40) 8 then (s.port p).ctA else (s.port p).ctS) (s.ctIdx p)
  (s.setReg (fp p 1 0x44) (ew e 0)).setReg (fp p 1 0x48) (ew e 1)
/-- VALID = 0 in every entry of a store (R213 CLEAR). -/
def clearValid (d : List Word) (m : SMap (List Word)) : SMap (List Word) :=
  m.foldl (fun a x => SMap.set (fun _ => d) a x.1 (Word.setBit (ew x.2 0) 31 false :: x.2.drop 1)) []
/-- CT_CTRL.CLEAR. -/
@[noinline] def State.ctClear (s : State) (m : Master) (p : Nat) : State :=
  s.ctTrig m p (fun s => s.modPort p (fun q => { q with ctS := clearValid ctZero q.ctS }))
/-- CT_CTRL.SWAP (R214). -/
@[noinline] def State.ctSwapReq (s : State) (m : Master) (p : Nat) : State :=
  s.ctTrig m p (fun s => s.modPort p (fun q => { q with ctSwap := true }))

/-- CT_WRITE (R202). -/
def execCtWrite (m : Master) (p : Fin 16) (s : State) : Res := .next (s.guarded m (aCt p.val) (fun s => s.ctWrite m p.val))
/-- CT_READ (R213). -/
def execCtRead (m : Master) (p : Fin 16) (s : State) : Res := .next (s.guarded m (aCt p.val) (fun s => s.ctRead p.val))
/-- CT_SWAP (R214). -/
def execCtSwap (m : Master) (p : Fin 16) (s : State) : Res := .next (s.guarded m (aCt p.val) (fun s => s.ctSwapReq m p.val))
/-- CT_CLEAR (R213). -/
def execCtClear (m : Master) (p : Fin 16) (s : State) : Res := .next (s.guarded m (aCt p.val) (fun s => s.ctClear m p.val))

/-- A range of blocks lies below a density where it is known (R210). -/
def State.inDens (s : State) (p cs last : Nat) : Bool := match s.densBlocks p cs with | some n => decide (last < n) | none => true
/-- The REJECT code of a region WRITE, 0 where it is accepted (R210, R213). -/
def State.rtCheck (s : State) (p : Nat) (e : List Word) : Nat :=
  let span := rgEnd e - rgStart e
  if !eValid e then 0
  else if 4 < rgMode e ∨ rgVerify e = 3 ∨ rgAction e = 3 then 1
  else if rgEnd e < rgStart e ∨ !s.inDens p (rgCs e) (rgEnd e) ∨
      ((rgTarget e).2.2 ∧ !s.inDens p (rgTarget e).2.1 ((rgTarget e).1 + span)) ∨
      ((rgOasis e).2.2 ∧ !s.inDens p (rgOasis e).2.1 ((rgOasis e).1 + span)) then 5
  else if (rgWr e ∧ (rgMode e ≠ 0 ∨ rgVerify e ≠ 0)) ∨ (rgMode e = 2 ∧ rgVerify e ≠ 0) ∨
      (rgCwatch e ∧ (rgMode e ≠ 2 ∨ rgStart e ≠ rgEnd e)) then 6
  else if rgAction e = 2 ∧ !(rgOasis e).2.2 then 7
  else 0
/-- Bits of the region words that the table of R204 lists; SUBST is kept outside and a write ignores it (R213). -/
def rtMasks : List Word := [0x8001FFFF, 0x0000FFFF, 0x00007FFF, 0x8001FFFF, 0x8001FFFF]
/-- The region entry that the window words spell. -/
def State.rtWords (s : State) (p : Nat) : List Word :=
  (List.range 5).map (fun w => s.reg (fp p 2 (0x44 + 4 * w)) &&& rtMasks.getD w 0)
/-- RT_INDEX.INDEX. -/
def State.rtIdx (s : State) (p : Nat) : Nat := s.fldOf (fp p 2 0x40) 7 0
/-- RT_CTRL.WRITE (R210, R213). -/
@[noinline] def State.rtWrite (s : State) (m : Master) (p : Nat) : State :=
  s.rtTrig m p (fun s =>
    let code := s.rtCheck p (s.rtWords p)
    let t := s.setReject (fp p 2 0x5C) code
    if code = 0 then t.modPort p (fun q => { q with rtS := rtSet q.rtS (s.rtIdx p) (s.rtWords p) }) else t.refuse m (aRt p))
/-- RT_CTRL.READ: the words of an entry, with the SUBST bit of its index (R213). -/
@[noinline] def State.rtRead (s : State) (p : Nat) : State :=
  let i := s.rtIdx p
  let e := rtGet (if s.bitOf (fp p 2 0x40) 8 then (s.port p).rtA else (s.port p).rtS) i
  (List.range 5).foldl (fun t w =>
    t.setReg (fp p 2 (0x44 + 4 * w)) (if w = 2 then Word.setBit (ew e 2) 15 ((s.port p).sub i) else ew e w)) s
/-- RT_CTRL.CLEAR. -/
@[noinline] def State.rtClear (s : State) (m : Master) (p : Nat) : State :=
  s.rtTrig m p (fun s => s.modPort p (fun q => { q with rtS := clearValid rtZero q.rtS }))
/-- RT_CTRL.SWAP (R214). -/
@[noinline] def State.rtSwapReq (s : State) (m : Master) (p : Nat) : State :=
  s.rtTrig m p (fun s => s.modPort p (fun q => { q with rtSwap := true }))
/-- RT_CTRL.SWAP_ALL: both tables in the same cycle; the request to a table whose swap is pending is ignored as STATE (R213, R214). -/
@[noinline] def State.swapAllReq (s : State) (m : Master) (p : Nat) : State :=
  let t := if (s.port p).rtSwap || (s.port p).ctSwap then s.refuse m (aRt p) else s
  t.modPort p (fun q => { q with rtSwap := true, ctSwap := true })

/-- RT_WRITE (R210). -/
def execRtWrite (m : Master) (p : Fin 16) (s : State) : Res := .next (s.guarded m (aRt p.val) (fun s => s.rtWrite m p.val))
/-- RT_READ (R213). -/
def execRtRead (m : Master) (p : Fin 16) (s : State) : Res := .next (s.guarded m (aRt p.val) (fun s => s.rtRead p.val))
/-- RT_SWAP (R214). -/
def execRtSwap (m : Master) (p : Fin 16) (s : State) : Res := .next (s.guarded m (aRt p.val) (fun s => s.rtSwapReq m p.val))
/-- RT_SWAP_ALL (R213). -/
def execRtSwapAll (m : Master) (p : Fin 16) (s : State) : Res := .next (s.guarded m (aRt p.val) (fun s => s.swapAllReq m p.val))
/-- RT_CLEAR (R213). -/
def execRtClear (m : Master) (p : Fin 16) (s : State) : Res := .next (s.guarded m (aRt p.val) (fun s => s.rtClear m p.val))

/-- A swap changes START, END, CS, TARGET, TARGET_EN or CLASS of a region index (R275). -/
def rtMoves (a b : List Word) : Bool :=
  rgStart a != rgStart b || rgEnd a != rgEnd b || rgCs a != rgCs b || (rgTarget a).1 != (rgTarget b).1 ||
  (rgTarget a).2.2 != (rgTarget b).2.2 || rgClass a != rgClass b
/-- The copies that are pending take place (R214, R275). -/
def PortState.swapTables (q : PortState) : PortState :=
  let cov := if q.rtSwap then (List.range 256).foldl (fun m i =>
      if rtMoves (rtGet q.rtA i) (rtGet q.rtS i) then SMap.set (fun _ => Cov.reset) m i Cov.reset else m) q.cov else q.cov
  { q with ctA := if q.ctSwap then q.ctS else q.ctA, rtA := if q.rtSwap then q.rtS else q.rtA, ctSwap := false,
           rtSwap := false, cov := cov }
/-- TABLE_SWAP_APPLY (R214): at an idle moment the shadow banks are copied; a region swap may begin a scrub pass (R264). -/
def execTableSwapApply (p : Fin 16) (s : State) : Res :=
  .next (if (s.port p.val).idle && ((s.port p.val).ctSwap || (s.port p.val).rtSwap) then
    let t := s.modPort p.val PortState.swapTables
    if (s.port p.val).rtSwap then t.wakeScrub p.val else t
  else s)

end Sys2Proof.Machine
end

