-- ==== Sys2Proof/Machine/WriteQueue.lean ====
section
/-! DEFINITION. The mediated write queue: the runtime's commands on it and the entries that run on the flash (R216 to R226,
R232, R273). -/
namespace Sys2Proof.Machine

/-- Address of WQ_CMD. -/
def aWq (p : Nat) : Nat := fp p 2 0x88
/-- WQ_INDEX. -/
def State.wqIdx (s : State) (p : Nat) : Nat := s.fldOf (fp p 2 0x74) 5 0
/-- Set WQ_RESULT (R212). -/
@[noinline] def State.wqResult (s : State) (p : Nat) (r : Status) : State := s.setFld (fp p 2 0x70) 31 24 r.toNat

/-- APPLY (R221): a CAPTURED entry becomes APPLIED; a commit capture asks for admission (R228). -/
@[noinline] def State.wqApply (s : State) (p : Nat) : State :=
  let e := (s.port p).wqe (s.wqIdx p)
  if e.st = .captured ∧ e.type ≠ 3 then
    (if e.commit && decide (256 < e.data.length) then s.wqResult p stBadLength
     else ((s.modPort p (fun q => q.setWqe (s.wqIdx p) { e with st := .applied })).wqResult p stOk).wqAsk p)
  else s.wqResult p stStateForbids
/-- DISCARD (R221, R232): a CAPTURED or APPLIED entry becomes DISCARDED with ABORTED; its waiting commit is withdrawn (R324). -/
@[noinline] def State.wqDiscard (s : State) (p : Nat) : State :=
  let i := s.wqIdx p
  let e := (s.port p).wqe i
  if e.st = .captured ∨ e.st = .applied then
    let s := if (s.adm p).what = .wq p i then s.withdraw p else s
    ((s.wqEnd p i .discarded stAborted).wqResult p stOk).wqAsk p
  else s.wqResult p stStateForbids
/-- RETIRE (R221): an ended entry becomes FREE. -/
@[noinline] def State.wqRetire (s : State) (p : Nat) : State :=
  let e := (s.port p).wqe (s.wqIdx p)
  if e.ended then (s.modPort p (fun q => q.setWqe (s.wqIdx p) WqEntry.reset)).wqResult p stOk
  else s.wqResult p stStateForbids
/-- FENCE (R221, R223): a FENCE entry is created. -/
@[noinline] def State.wqFence (s : State) (p : Nat) : State :=
  match (s.port p).freeWqe with
  | none => s.wqResult p stNoSlot
  | some i =>
    (s.modPort p (fun q =>
      ({ (q.setWqe i { WqEntry.reset with st := .captured, type := 3, seq := q.wqSeq, mcmd := s.reg (fp p 0 0xB0) }) with
          wqSeq := q.wqSeq + 1 }).fences)).wqResult p stOk

/-- WQ_APPLY (R221). -/
def execWqApply (m : Master) (p : Fin 16) (s : State) : Res := .next (s.guarded m (aWq p.val) (fun s => s.wqApply p.val))
/-- WQ_DISCARD (R221). -/
def execWqDiscard (m : Master) (p : Fin 16) (s : State) : Res := .next (s.guarded m (aWq p.val) (fun s => s.wqDiscard p.val))
/-- WQ_RETIRE (R221). -/
def execWqRetire (m : Master) (p : Fin 16) (s : State) : Res := .next (s.guarded m (aWq p.val) (fun s => s.wqRetire p.val))
/-- WQ_FENCE (R221). -/
def execWqFence (m : Master) (p : Fin 16) (s : State) : Res := .next (s.guarded m (aWq p.val) (fun s => s.wqFence p.val))

/-- First flash byte and byte count that an entry changes. -/
def WqEntry.range (e : WqEntry) : Nat × Nat := (e.addr, if e.type = 0 then e.data.length else 2 ^ e.size)
/-- Two entries conflict (R222). -/
def WqEntry.conflicts (a b : WqEntry) : Bool :=
  a.cs == b.cs && (a.type == 2 || b.type == 2 || (a.region.isSome && a.region == b.region) ||
    (decide (a.range.1 < b.range.1 + b.range.2) && decide (b.range.1 < a.range.1 + a.range.2)))
/-- The conditions of R222 other than admission: conflicts, FENCEs and, for a commit, everything earlier have ended, the
lease is granted, the flash bus carries no other program or erase; and the bank allows the mode (R154). -/
def State.wqReady (s : State) (p i : Nat) : Bool :=
  let q := s.port p
  let e := q.wqe i
  e.st == .applied && e.type != 3 &&
  q.wqAll.all (fun x => decide (e.seq ≤ x.2.seq) ||
    (if x.2.type == 3 then x.2.st == .done || x.2.st == .discarded else x.2.ended || !(e.commit || e.conflicts x.2))) &&
  q.granted e.cs && q.modeRuns e.cs && (s.devOp p).isNone && !q.stopped
/-- WREN opcode of a port in the mode of a chip select: the lowest valid WREN entry, else 06h (R224, R326). -/
def PortState.wrenOp (q : PortState) (cs : Nat) : Option Byte :=
  ((List.range 64).find? (fun i => let e := ctGet q.ctA i
    eValid e && ctClass e == 6 && cmdPhase (ctFmt e) == cmdPhase (q.mode cs).code)).map (fun i => BitVec.ofNat 8 (ctOpc (ctGet q.ctA i)))
/-- An entry starts: WREN and the captured command go to the flash (R224). -/
@[noinline] def State.wqStart (s : State) (p i : Nat) : State :=
  let q := s.port p
  let e := q.wqe i
  let s := s.modPort p (fun q => q.setWqe i { e with st := .running, since := s.clk })
  (s.toFlash p e.cs ((q.wrenOp e.cs).getD 0x06) 0 []).toFlash p e.cs e.opcode e.addr e.data
/-- WQ_ENTRY_START (R222); a commit capture starts by its admission alone. -/
def execWqEntryStart (p : Fin 16) (i : Fin 64) (s : State) : Res :=
  .next (if s.wqReady p.val i.val && !((s.port p.val).wqe i.val).commit then s.wqStart p.val i.val else s)

/-- The check-map bits of the blocks that an entry programs or erases clear (R273). -/
def PortState.wqClear (q : PortState) (e : WqEntry) : PortState :=
  if e.cls = 3 then q.clearChk e.cs 0 65536
  else if e.type = 2 then q
  else q.clearChk e.cs (e.range.1 / 4096) ((e.range.1 + e.range.2 - 1) / 4096 + 1 - e.range.1 / 4096)
/-- The end of a running entry (R224): its blocks count as unchecked, its commit ends with it. -/
@[noinline] def State.wqFinish (s : State) (p i : Nat) (ok : Bool) : State :=
  let e := (s.port p).wqe i
  let s := s.modPort p (fun q => q.wqClear e)
  let r := if ok then stOk else stInternal
  let s := s.wqEnd p i (if ok then .done else .failed) r
  let s := if s.cis.inflight = some p ∧ (s.adm p).what = .wq p i then s.admDone p r else s
  s.wqAsk p
/-- FAIL_CLR of a chip select on the flash (R224). -/
@[noinline] def State.sendFailClr (s : State) (p cs : Nat) : State :=
  s.toFlash p cs (BitVec.ofNat 8 (s.fldOf (fp p 0 0x68) (8 * cs + 7) (8 * cs))) 0 []

end Sys2Proof.Machine
end

