-- ==== Sys2Proof/Machine/PortCtl.lean ====
section
/-! DEFINITION. Leases, the master's flash reset, discovery, calibration, buffered values and bank voltage of a port (R162,
R180 to R194). -/
namespace Sys2Proof.Machine

/-- The effect of a LEASE write (R180). -/
@[noinline] def State.leaseWrite (s : State) (p : Nat) (v : Word) : State := s.setReg (fp p 0 0x70) (v &&& 3)
/-- LEASE_WRITE (R180). -/
def execLeaseWrite (m : Master) (p : Fin 16) (v : Word) (s : State) : Res :=
  .next (s.guarded m (fp p.val 0 0x70) (fun s => s.leaseWrite p.val v))
/-- No master command is in progress on a flash chip select (R180). -/
def State.csQuiet (s : State) (p cs : Nat) : Bool :=
  match (s.port p).active with
  | none => true
  | some a => s.csMap p a.cs != some cs
/-- One 64 KB erasure by the device: it starts only under a granted lease and waits for one (R180). DESIGN CHOICE (log 74): it shows as one
command with opcode D8h on the flash side. -/
@[noinline] def State.eraseAt (s : State) (p cs a : Nat) : State :=
  if (s.port p).granted cs then s.toFlash p cs 0xD8 a []
  else { s with boot := { s.boot with eraseDue := s.boot.eraseDue ++ [(p, cs, a)] } }
/-- The erasures that waited for the lease of a chip select take place (R180). -/
@[noinline] def State.eraseRun (s : State) (p cs : Nat) : State :=
  let mine (x : Nat × Nat × Nat) : Bool := x.1 == p && x.2.1 == cs
  let l := s.boot.eraseDue.filter mine
  l.foldl (fun s x => s.toFlash p cs 0xD8 x.2.2 []) { s with boot := { s.boot with eraseDue := s.boot.eraseDue.filter (fun x => !mine x) } }
/-- LEASE_GRANT (R180): the bit is set and no master command runs on the chip select; erasures that wait for it follow. -/
def execLeaseGrant (p : Fin 16) (c : Fin 2) (s : State) : Res :=
  .next (if s.bitOf (fp p.val 0 0x70) c.val && !(s.port p.val).granted c.val && s.csQuiet p.val c.val then
    (s.modPort p.val (fun q => q.setGrant c.val true)).eraseRun p.val c.val else s)
/-- LEASE_END (R180): the bit is clear and no device-originated operation runs on the chip select. -/
def execLeaseEnd (p : Fin 16) (c : Fin 2) (s : State) : Res :=
  .next (if !s.bitOf (fp p.val 0 0x70) c.val && s.devOp p.val != some c.val then
    s.modPort p.val (fun q => q.setGrant c.val false) else s)

/-- Both chip selects return to the modes of MODE_CSn (R160). -/
@[noinline] def State.resetModes (s : State) (p : Nat) : State :=
  s.modPort p (fun q => { q with mode0 := s.modeReg p 0, mode1 := s.modeReg p 1 })
/-- A master's flash reset (R182). -/
@[noinline] def State.mrst (s : State) (p : Nat) : State :=
  let s := (s.silence p).resetModes p
  let s := s.modPort p (fun q => { q with view0 := MView.reset, view1 := MView.reset })
  match s.devOp p with
  | some c => (s.modPort p (fun q => { q with mrstOwed := true })).portErr p 7 c
  | none => s.out (.frst p)
/-- MRST_EDGE (R182): acts while MRST_EN is 1 and the line is released. -/
def execMrstEdge (p : Fin 16) (s : State) : Res :=
  .next (if s.bitOf (fp p.val 0 0x40) 3 && !s.portHeld p.val then s.mrst p.val else s)
/-- Commands of the device without data on a chip select, in its current mode: none where the bank does not allow that mode (R154). -/
@[noinline] def State.devCmds (s : State) (p cs : Nat) (l : List Byte) : State :=
  if (s.port p).modeRuns cs then l.foldl (fun s o => s.toFlash p cs o 0 []) s else s
/-- MRST_DEFERRED_PULSE (R182): the pulse after the operation, then 66h and 99h. DESIGN CHOICE (log 73): both flash devices, which
share FRST_N, get them. -/
def execMrstDeferredPulse (p : Fin 16) (s : State) : Res :=
  .next (if (s.port p.val).mrstOwed && (s.devOp p.val).isNone then
    ((((s.modPort p.val (fun q => { q with mrstOwed := false })).out (.frst p.val)).devCmds p.val 0 [0x66, 0x99]).devCmds p.val 1 [0x66, 0x99])
  else s)

/-- DISC_STATUS of a chip select. -/
def PortState.disc (q : PortState) (cs : Nat) : Nat := if cs = 0 then q.discSt0 else q.discSt1
/-- Set DISC_STATUS of a chip select. -/
def PortState.setDisc (q : PortState) (cs v : Nat) : PortState := if cs = 0 then { q with discSt0 := v } else { q with discSt1 := v }
/-- Discovery may run (R183): line held, no lease, no device-originated operation. -/
def State.discOk (s : State) (p : Nat) : Bool :=
  let q := s.port p
  s.portHeld p && !q.grant0 && !q.grant1 && (s.devOp p).isNone && q.discSt0 != 1 && q.discSt1 != 1
/-- Discovery starts on a chip select (R183): the reset pulse, 66h and 99h in the MODE_CSn mode, then 9Fh and 5Ah, where the bank allows the mode
(R154). -/
@[noinline] def State.discStart (s : State) (p cs : Nat) : State :=
  let t := (s.out (.frst p)).modPort p (fun q => (q.setMode cs (s.modeReg p cs)).setDisc cs 1)
  t.devCmds p cs [0x66, 0x99, 0x9F, 0x5A]
/-- The effect of a DISC_CTRL write (R183). -/
@[noinline] def State.discover (s : State) (m : Master) (p : Nat) (v : Word) : State :=
  s.when m (fp p 0 0x78) (s.discOk p) (fun s =>
    let s := if Word.bit v 0 then s.discStart p 0 else s
    if Word.bit v 1 then s.discStart p 1 else s)
/-- DISCOVER (R183). -/
def execDiscover (m : Master) (p : Fin 16) (v : Word) (s : State) : Res :=
  .next (s.guarded m (fp p.val 0 0x78) (fun s => s.discover m p.val v))

/-- DISC_STATUS that the bytes read give (R184). DESIGN CHOICE (log 108): the SFDP space that a table may not point outside of is 2^24 bytes. -/
def discCode (r : DiscResult) : Nat :=
  if r.id.all (fun b => b == 0) || r.id.all (fun b => b == 0xFF) then 4
  else if Bytes.num r.sfdp 0 4 ≠ 0x50444653 then 3
  else if (sfdpTables r.sfdp).any (fun t => decide (2 ^ 24 < t.2.2 + 4 * t.2.1)) then 5
  else if 2048 < r.sfdp.length then 6
  else 2
/-- A shadow cut to 2,048 bytes, the headers of tables that lie past it removed (R184 TRUNCATED). -/
def discTrunc (b : Bytes) : Bytes :=
  let n := Bytes.num b 6 1 + 1
  let keep := (List.range n).filter (fun k =>
    decide (Bytes.num b (8 + 8 * k + 4) 3 + 4 * Bytes.num b (8 + 8 * k + 3) 1 ≤ 2048))
  let heads := keep.flatMap (fun k => Bytes.slice b (8 + 8 * k) 8)
  (b.take 6 ++ leBytes 1 (keep.length - 1) ++ Bytes.slice b 7 1 ++ heads ++ List.replicate (8 * (n - keep.length)) 0xFF ++
    b.drop (8 + 8 * n)).take 2048
/-- log2 of the density in bytes by BFPT DWORD 2 (R183, JESD216): 2^N bits with bit 31 set, else N + 1 bits. -/
def discDens (b : Bytes) : Nat :=
  match (sfdpTables b).find? (fun t => t.1 == 0xFF00) with
  | none => 0
  | some t =>
    let v := Bytes.num b (t.2.2 + 4) 4
    if v < 2 ^ 31 then Nat.log2 ((v + 1) / 8) else v % 2 ^ 31 - 3
/-- Discovery ends (R183, R184): shadow, GEOMETRY, DISC_STATUS, and DISC_FAIL for each result other than OK. -/
@[noinline] def State.discDone (s : State) (p cs : Nat) (r : DiscResult) : State :=
  let c := discCode r
  let id := if c = 4 ∨ c = 5 then [] else r.id
  let sf := if c = 2 then r.sfdp else if c = 6 then discTrunc r.sfdp else []
  let s := s.modPort p (fun q =>
    let q := q.setDisc cs c
    if cs = 0 then { q with id0 := id, sfdp0 := sf } else { q with id1 := id, sfdp1 := sf })
  let s := if c = 2 ∨ c = 6 then s.setFld (fp p 0 0x88) (8 * cs + 4) (8 * cs) (discDens sf)
    else if c = 3 then s.setFld (fp p 0 0x88) (8 * cs + 4) (8 * cs) 0 else s
  if c = 2 then s else s.portErr p 8 cs
/-- What a chip select that is not spoken to gives: all ones. -/
def DiscResult.silent : DiscResult := { id := [0xFF, 0xFF, 0xFF], sfdp := [] }
/-- DISCOVERY_DONE (R154, R184): where the bank does not allow the mode, nothing has answered. -/
def execDiscoveryDone (p : Fin 16) (c : Fin 2) (r : DiscResult) (s : State) : Res :=
  .next (if (s.port p.val).disc c.val = 1 then
    s.discDone p.val c.val (if (s.port p.val).modeRuns c.val then r else DiscResult.silent) else s)

/-- SFDP_WIN_DATA: the raw shadow word at SFDP_WIN_ADDR (R185); before any discovery it reads its reset value 0. -/
def State.sfdpWord (s : State) (p : Nat) : Word :=
  let a := s.reg (fp p 0 0x94)
  if (s.port p).disc (Word.field a 16 16) = 0 then 0 else
  let b := (s.port p).sfdp (Word.field a 16 16)
  wd (leNat ((List.range 4).map (fun i => shadowByte b (Word.field a 10 0 + i))))
/-- A read of SFDP_WIN_DATA advances OFFSET by 4 (R185). -/
@[noinline] def State.sfdpStep (s : State) (p : Nat) : State := s.setFld (fp p 0 0x94) 10 0 (s.fldOf (fp p 0 0x94) 10 0 + 4)

/-- A PHY_CAL write asks for a calibration where AUTOCAL is 1 (R192). -/
@[noinline] def State.phyCal (s : State) (p : Nat) : State :=
  if s.bitOf (fp p 0 0x9C) 16 then s.modPort p (fun q => { q with calOwed := true }) else s
/-- PHY_CAL (R192). -/
def execPhyCal (m : Master) (p : Fin 16) (s : State) : Res := .next (s.guarded m (fp p.val 0 0xA0) (fun s => s.phyCal p.val))
/-- The end of a calibration (R192): the delay found, or CAL_FAIL with RXDLY_CUR kept. -/
@[noinline] def State.calDone (s : State) (p : Nat) (best : Option Nat) : State :=
  let s := s.modPort p (fun q => { q with calOwed := false })
  let a := fp p 0 0xA4
  match best with
  | some d => s.setReg a (1 ||| fld (d % 64) 8)
  | none => s.setFld a 1 1 1
/-- The idle condition of R191: no chip select asserted, no master command, no device-originated operation, no discovery running. -/
def State.portIdle (s : State) (p : Nat) : Bool :=
  (s.port p).idle && (s.devOp p).isNone && (s.port p).discSt0 != 1 && (s.port p).discSt1 != 1
/-- PHY_CAL_DONE (R192). -/
def execPhyCalDone (p : Fin 16) (best : Option Nat) (s : State) : Res :=
  .next (if (s.port p.val).calOwed && s.portIdle p.val then s.calDone p.val best else s)

/-- A strobed value waiting at an address: whether the slow-domain edge has passed, and the value. -/
def State.dueAt (s : State) (a : Nat) : Option (Bool × Word) := SMap.get (fun _ => none) s.slowDue a
/-- Replace or clear a strobed value. -/
@[noinline] def State.setDue (s : State) (a : Nat) (v : Option (Bool × Word)) : State := { s with slowDue := SMap.set (fun _ => none) s.slowDue a v }
/-- An enabled port on a bank of no valid voltage enters FAULT and records it (R189). -/
@[noinline] def State.faultEntry (s : State) (p : Nat) (was : Bool) : State :=
  if !was && s.portFault p then (s.portErr p 4 0).silence p else s
/-- One buffered value of a port's PHY page applies (R162, R165, R192). -/
@[noinline] def State.portApply (s : State) (p a : Nat) (v : Word) : State :=
  let off := a % 4096
  let was := s.portFault p
  if off = 0x48 ∨ off = 0x4C then
    let code := Word.field v 3 0
    let clk := if off = 0x48 then Word.field v 7 5 else 0
    if modeOk (s.port p).bank code && clkOk code clk then
      let moved := off = 0x48 && Word.field (s.reg a) 7 5 != clk
      let s := s.setReg a v
      if moved && s.bitOf (fp p 0 0x9C) 16 then s.modPort p (fun q => { q with calOwed := true }) else s
    else s.portErr p 3 ((off - 0x48) / 4)
  else if off = 0x54 then s.setReg a (Word.setField v 4 0 (min 16 (max 6 (Word.field v 4 0))))
  else (s.setReg a v).faultEntry p was
/-- Every strobed value of the page whose edge has passed applies (R191). -/
@[noinline] def State.portPending (s : State) (p : Nat) : State :=
  (s.slowDue.filter (fun e => e.1 / 4096 == 0x80 + 4 * p)).foldl (fun s e =>
    match e.2 with
    | some (true, v) => (s.setDue e.1 none).portApply p e.1 v
    | _ => s) s
/-- PORT_PENDING_APPLY (R191). -/
def execPortPendingApply (p : Fin 16) (s : State) : Res := .next (if s.portIdle p.val then s.portPending p.val else s)

/-- The bank voltage code changes (R154, R188, R189). -/
@[noinline] def State.bankTo (s : State) (p code : Nat) : State :=
  let was := s.portFault p
  (s.modPort p (fun q => { q with bank := code })).faultEntry p was
/-- BANK_FAULT (R189): the bank is unpowered or out of range. -/
def execBankFault (p : Fin 16) (code : Fin 8) (s : State) : Res :=
  .next (if code.val = 0 ∨ code.val = 3 then s.bankTo p.val code.val else s)
/-- BANK_VOLTAGE_RETURN (R189): the bank reads 1.8 V or 3.3 V again. -/
def execBankVoltageReturn (p : Fin 16) (code : Fin 8) (s : State) : Res :=
  .next (if code.val = 1 ∨ code.val = 2 then s.bankTo p.val code.val else s)

end Sys2Proof.Machine
end

