-- ==== Sys2Proof/Machine/Verify.lean ====
section
/-! DEFINITION. Tree bindings and the node cache, Pantry windows, scrub and full checks, substitution by command and the
coverage counters (R237 to R276). -/
namespace Sys2Proof.Machine

/-! ### Bindings -/

/-- Address of BIND_CTRL. -/
def aBind (p : Nat) : Nat := fp p 3 0x84
/-- BIND_INDEX. -/
def State.bIdx (s : State) (p : Nat) : Nat := s.fldOf (fp p 3 0x50) 2 0
/-- The selected binding. -/
def State.curBind (s : State) (p : Nat) : Binding := (s.port p).bind (s.bIdx p)
/-- Set BIND_STATUS.REJECT. -/
@[noinline] def State.bReject (s : State) (p code : Nat) : State := s.setFld (fp p 3 0x88) 7 4 code
/-- The binding that the registers describe (R237, R240). -/
def State.bindRegs (s : State) (p : Nat) : Binding :=
  { Binding.reset with
    st := .bound, cfg := s.reg (fp p 3 0x54), body := s.reg (fp p 3 0x58), len := s.reg (fp p 3 0x5C),
    tree := s.reg (fp p 3 0x60),
    root := (List.range 8).flatMap (fun w => leBytes 4 (s.reg (fp p 3 (0x64 + 4 * w))).toNat) }
/-- Bytes of the tree area over `nblk` blocks (R235). -/
def treeBytes (nblk : Nat) : Nat :=
  1024 * ((List.range (treeDepth nblk)).foldl (fun a k => a + treeNodes nblk (k + 1)) 0)
/-- The flash byte ranges of a binding: body and tree area, each as start and end. -/
def Binding.areas (x : Binding) : List (Nat × Nat) :=
  [(x.fblock * 4096, (x.fblock + x.nblk) * 4096), (x.tbase * 1024, x.tbase * 1024 + treeBytes x.nblk)]
/-- Two byte ranges share a byte. -/
def meets (a b : Nat × Nat) : Bool := decide (a.1 < b.2) && decide (b.1 < a.2)
/-- The REJECT code of a WRITE, 0 where it is accepted (R241). -/
def State.bindCheck (s : State) (p : Nat) (x : Binding) : Nat :=
  let pin := Word.field x.cfg 11 9
  if pin = 0 ∨ 4 < pin ∨ x.nblk = 0 ∨ 65536 < x.nblk then 1
  else if s.dens p x.cs ≠ 0 ∧ x.areas.any (fun a => decide (2 ^ s.dens p x.cs < a.2)) then 2
  else if (List.range 8).any (fun b => let y := (s.port p).bind b
      b != s.bIdx p && y.st != .empty && y.cs == x.cs && x.areas.any (fun a => y.areas.any (meets a))) then 3
  else 0
/-- Store binding `b` of a port. -/
@[noinline] def State.putBind (s : State) (p b : Nat) (x : Binding) : State := s.modPort p (fun q => q.setBind b x)
/-- BIND_CTRL.WRITE (R240, R241). -/
@[noinline] def State.bindWrite (s : State) (m : Master) (p : Nat) : State :=
  let x := s.curBind p
  s.when m (aBind p) (x.st == .empty || x.st == .bound || x.st == .failed) (fun s =>
    let y := s.bindRegs p
    let code := s.bindCheck p y
    if code = 0 then (s.putBind p (s.bIdx p) y).bReject p 0 else s.bReject p code)
/-- BIND_CTRL.READ (R240). -/
@[noinline] def State.bindRead (s : State) (p : Nat) : State :=
  let x := s.curBind p
  let s := (((s.setReg (fp p 3 0x54) x.cfg).setReg (fp p 3 0x58) x.body).setReg (fp p 3 0x5C) x.len).setReg (fp p 3 0x60) x.tree
  (List.range 8).foldl (fun s w => s.setReg (fp p 3 (0x64 + 4 * w)) (Bytes.word x.root w)) s
/-- Pinned nodes in the cache (R243). -/
def State.pinnedNodes (s : State) : Nat := (s.cache.filter (fun n => n.pinned)).length
/-- Nodes that the loads in progress will still pin. -/
def State.pinsDue (s : State) : Nat :=
  ((List.range 16).flatMap (fun p => (List.range 8).map (fun b =>
    let x := (s.port p).bind b
    if x.st = .loading then x.pinCount - x.nodes else 0))).foldl (· + ·) 0
/-- BIND_CTRL.LOAD (R240, R243, R276): refused with CAPACITY where fewer than 64 unpinned nodes would remain. -/
@[noinline] def State.bindLoad (s : State) (m : Master) (p : Nat) : State :=
  let x := s.curBind p
  s.when m (aBind p) ((x.st == .bound || x.st == .failed) && !(s.port p).stopped) (fun s =>
    if 4096 < s.pinnedNodes + s.pinsDue + x.pinCount + 64 then s.bReject p 4
    else s.putBind p (s.bIdx p) { x with st := .loading, nodes := 0, reread := [] })
/-- The open block of the stitch lies in the body of a binding (R276). -/
def PortState.openIn (q : PortState) (x : Binding) : Bool :=
  let t := q.stitch
  t.isOpen && t.hashing && x.st == .confirmed && t.blk.cls == x.cls && t.blk.cs == x.cs && decide (x.fblock ≤ t.blk.blk) &&
    decide (t.blk.blk < x.fblock + x.nblk)
/-- A binding leaves CONFIRMED: a full check no longer runs over it, and a block of it or of a window bound to it that waits
for its node is dropped (R267, R272). -/
def PortState.dropBind (q : PortState) (b : Nat) : PortState :=
  let f := q.full
  let first := f.binds.head? == some b
  let gone (c : Check) : Bool :=
    (c.src == .full && first) || (c.src == .load && Word.field (q.win c.win).w1 18 16 == b)
  { q with full := { f with binds := f.binds.filter (fun x => x != b), all := f.all.filter (fun x => x != b),
                            blk := if first then 0 else f.blk, retry := f.retry && !first },
           dev := q.dev.filter (fun c => !gone c) }
/-- BIND_WRITE (R240, R241). -/
def execBindWrite (m : Master) (p : Fin 16) (s : State) : Res := .next (s.guarded m (aBind p.val) (fun s => s.bindWrite m p.val))
/-- BIND_READ (R240). -/
def execBindRead (m : Master) (p : Fin 16) (s : State) : Res := .next (s.guarded m (aBind p.val) (fun s => s.bindRead p.val))
/-- BIND_LOAD (R240, R243). -/
def execBindLoad (m : Master) (p : Fin 16) (s : State) : Res := .next (s.guarded m (aBind p.val) (fun s => s.bindLoad m p.val))

/-! ### Nodes -/

/-- A binding fails (R242, R244): its nodes are freed and its windows go EMPTY. -/
@[noinline] def State.bindFail (s : State) (p b : Nat) : State :=
  (s.modPort p (fun q =>
    ((q.dropBind b).setBind b { q.bind b with st := .failed, nodes := 0, reread := [], fullOk := false }).emptyWins b)).freeNodes p b
/-- The failure that a load records for a node that is not accepted (R242, R254). -/
@[noinline] def State.loadFail (s : State) (p b l j : Nat) (node : Bytes) : State :=
  let x := (s.port p).bind b
  (s.bindFail p b).recFail p (fld 2 0 ||| fld 2 4 ||| fld x.cs 6 ||| fld 3 16 ||| flg true 18 ||| fld b 20)
    (x.tbase * 1024 + treeOffset x.nblk l j) x.cs 0 (treeHash x.hash node)
/-- A pinned node read by a load or read again (R242, R244). -/
@[noinline] def State.treeNode (s : State) (p b : Nat) (node : Bytes) : State :=
  let x := (s.port p).bind b
  match x.reread with
  | (l, j) :: rest =>
    if s.nodeOk p b l j node then
      (s.addNode { port := p, bind := b, level := l, idx := j, pinned := true, bytes := node }).putBind p b { x with reread := rest }
    else s.bindFail p b
  | [] =>
    if x.st ≠ .loading then s
    else match x.pinned[x.nodes]? with
      | none => s
      | some (l, j) =>
        if s.nodeOk p b l j node then
          (s.addNode { port := p, bind := b, level := l, idx := j, pinned := true, bytes := node }).putBind p b
            { x with nodes := x.nodes + 1, st := if x.nodes + 1 = x.pinned.length then .loaded else .loading }
        else s.loadFail p b l j node
/-- A pinned node that is to be read again takes its place: a node of a higher level goes before its descendants (R242, R244). -/
def rereadIn (r : List (Nat × Nat)) (l j : Nat) : List (Nat × Nat) :=
  r.filter (fun x => decide (l ≤ x.1)) ++ [(l, j)] ++ r.filter (fun x => decide (x.1 < l))
/-- An uncorrectable error makes a cached node non-resident; a pinned one is read again (R244). -/
@[noinline] def State.nodeUe (s : State) (p b l j : Nat) : State :=
  match findNode s.cache p b l j with
  | none => s
  | some n =>
    let s := ({ s with cache := s.cache.erase n }).count (evSys 8)
    let x := (s.port p).bind b
    if n.pinned then s.putBind p b { x with reread := rereadIn x.reread l j } else s
/-- TREE_NODE_UE (R244). -/
def execTreeNodeUe (p : Fin 16) (b : Fin 8) (level : Nat) (idx : Nat) (s : State) : Res := .next (s.nodeUe p.val b.val level idx)

/-- Levels of the path of body block `i` that are not resident, top first (R243). -/
def State.missing (s : State) (p b i : Nat) : List (Nat × Nat) :=
  (((List.range (treeDepth ((s.port p).bind b).nblk)).reverse.map (· + 1)).map (fun l => (l, i / 32 ^ l))).filter
    (fun x => (findNode s.cache p b x.1 x.2).isNone)
/-- Read demand nodes for a path top-down; the first that is not accepted is answered with its place (R243). -/
def State.demand (s : State) (p b : Nat) (want : List (Nat × Nat)) (nodes : List Bytes) : State × Option (Nat × Nat × Bytes) :=
  match want, nodes with
  | (l, j) :: ws, n :: ns =>
    if s.nodeOk p b l j n then
      State.demand (s.addNode { port := p, bind := b, level := l, idx := j, pinned := false, bytes := n }) p b ws ns
    else (s, some (l, j, n))
  | _, _ => (s, none)

/-! ### Device-side reads: what follows a judged block -/

/-- The region that governs a flash block: the lowest valid one of the class whose mapped range holds it. -/
def PortState.regionAt (q : PortState) (cls cs blk : Nat) : Option Nat :=
  (List.range 256).find? (fun i => let e := q.rg i
    let b := q.mapBase i (rgCs e) (rgCs e)
    eValid e && rgClass e == cls && b.1 == cs && decide (b.2 ≤ blk) && decide (blk < b.2 + (rgEnd e + 1 - rgStart e)))
/-- A device-side check of a block (R253): its region's policy, its source. -/
def PortState.devCheck (q : PortState) (src : ChkSrc) (region : Option Nat) (cls cs blk win : Nat) (data : Bytes) : Check :=
  { (q.blkPolicy region cs blk 0) with src := src, cls := cls, data := data, win := win }

/-- A scrub pass goes on after a block (R264): the next block, or its end. -/
@[noinline] def State.scrubStep (s : State) (p : Nat) : State :=
  let c := (s.port p).scrub
  match (s.port p).scrubNext c.region (c.off + 1) with
  | some (r, o) => s.modPort p (fun q => { q with scrub := { c with region := r, off := o, any := true, retry := false } })
  | none => ((s.incReg (fp p 3 0xF4)).count (evPort p 4)).newPass p
/-- A full check ends (R267). -/
@[noinline] def State.fullEnd (s : State) (p : Nat) : State :=
  (s.modPort p (fun q =>
    let f := q.full
    let q := (f.all.filter (fun b => !f.failed.contains b)).foldl (fun q b =>
      let x := q.bind b
      if x.st = .confirmed then q.setBind b { x with fullOk := true } else q) q
    { q with full := { f with run := false, binds := [], blk := 0, failed := [], all := [], retry := false } })).count (evPort p 4)
/-- A full check goes on after a block of its first binding (R267). -/
@[noinline] def State.fullStep (s : State) (p : Nat) (ok : Bool) : State :=
  let f := (s.port p).full
  match f.binds with
  | [] => s
  | b :: rest =>
    let bad := if ok then f.failed else b :: f.failed
    if f.blk + 1 < ((s.port p).bind b).nblk then
      s.modPort p (fun q => { q with full := { f with blk := f.blk + 1, failed := bad, retry := false } })
    else
      let s := s.modPort p (fun q => { q with full := { f with binds := rest, blk := 0, failed := bad, retry := false } })
      if rest.isEmpty then s.fullEnd p else s
/-- A window load goes on after a block, or ends (R270). -/
@[noinline] def State.winStep (s : State) (p w : Nat) (data : Bytes) (ok : Bool) : State :=
  let x := (s.port p).win w
  if x.st ≠ .loading then s
  else if ok then
    let s := s.setFrame (Word.field x.w1 9 0 + x.next) data
    s.modPort p (fun q => q.setWin w { x with next := x.next + 1, retry := false,
                                              pend := if x.next + 1 = Word.field x.w0 24 16 then some .loaded else x.pend })
  else s.modPort p (fun q => q.setWin w { x with st := .failed, failBlk := x.next, retry := false })
/-- What follows a device-side block that was judged. -/
@[noinline] def State.devAfter (s : State) (p : Nat) (c : Check) (ok : Bool) : State :=
  match c.src with
  | .fetch => s
  | .scrub => s.scrubStep p
  | .load => s.winStep p c.win c.data ok
  | .full => s.fullStep p ok
/-- A device-side block is judged: its digest job has ended by then (R253, R258). -/
@[noinline] def State.devJudge (s : State) (p : Nat) (c : Check) : State :=
  let s := s.permEnd (2 * p + 1)
  (s.judge p c).1.devAfter p c (s.judge p c).2
/-- A device-side block has been read: it is judged at once, or waits for its node (R243, R253). -/
@[noinline] def State.devRead (s : State) (p : Nat) (c : Check) : State :=
  let s := s.permReady (2 * p + 1) (permAlg (s.port p) c) 4096
  if s.chkReady p c then s.devJudge p c else s.modPort p (fun q => { q with dev := some c })
/-- A device-side block that waited is judged once its node is resident or its binding is gone, and a full check whose bindings
are all gone ends (R253, R267). -/
@[noinline] def State.devSettle (s : State) (p : Nat) : State :=
  let s := if (s.port p).full.run && (s.port p).full.binds.isEmpty then s.fullEnd p else s
  match (s.port p).dev with
  | some c => if s.chkReady p c then (s.modPort p (fun q => { q with dev := none })).devJudge p c else s
  | none => s
/-- BIND_CTRL.CONFIRM (R240, R273, R413); a device-side block that waits is settled. -/
@[noinline] def State.bindConfirm (s : State) (m : Master) (p : Nat) : State :=
  let b := s.bIdx p
  let x := s.curBind p
  s.when m (aBind p) (x.st == .loaded) (fun s =>
    let s := s.modPort p (fun q =>
      { ((q.setBind b { x with st := .confirmed, fullOk := false }).clearChk x.cs x.fblock x.nblk) with lastFail := none })
    (s.measHw (16 + p) 0x10 (portMaster p) b (Bytes.fit x.root 32 ++ leBytes 4 x.body.toNat ++ leBytes 4 x.len.toNat ++
      leBytes 4 x.tree.toNat ++ leBytes 4 x.cfg.toNat)).wakeScrub p |>.devSettle p)
/-- BIND_CTRL.UNBIND (R240, R264, R267, R272, R276, R413); a device-side block that waited for a node of it is settled, and so is a full check. -/
@[noinline] def State.bindUnbind (s : State) (p : Nat) : State :=
  let b := s.bIdx p
  let x := s.curBind p
  let s := if (s.port p).openIn x then s.stitchBreak p else s
  let s := (s.modPort p (fun q => ((q.dropBind b).setBind b Binding.reset).emptyWins b)).freeNodes p b
  let s := if x.st = .empty then s else s.measHw (16 + p) 0x14 (portMaster p) b (Bytes.fit x.root 32)
  (s.wakeScrub p).devSettle p
/-- BIND_CONFIRM (R240). -/
def execBindConfirm (m : Master) (p : Fin 16) (s : State) : Res :=
  .next (s.guarded m (aBind p.val) (fun s => s.bindConfirm m p.val))
/-- BIND_UNBIND (R240). -/
def execBindUnbind (m : Master) (p : Fin 16) (s : State) : Res :=
  .next (s.guarded m (aBind p.val) (fun s => s.bindUnbind p.val))
/-- TREE_NODE_READ (R242, R244): a device-originated read, which yields under R179 and is hashed on a lane (R291). -/
def execTreeNodeRead (p : Fin 16) (b : Fin 8) (node : Bytes) (s : State) : Res :=
  .next (if s.permOn && s.readable p.val ((s.port p.val).bind b.val).cs then (s.treeNode p.val b.val node).devSettle p.val else s)
/-- A device-side read failed twice (R265, R254): READ_FAULT. -/
@[noinline] def State.devFault (s : State) (p : Nat) (c : Check) : State :=
  let b := match (s.port p).findBind c.cls c.cs c.blk with | some (some b) => b | _ => 0
  (s.verifyFail p c 4 b (zeros 32)).devAfter p c false

/-- The nodes of one check were read (R243, R259): the check of a late fetch, else the device-side check, is completed. -/
@[noinline] def State.demandRead (s : State) (p b : Nat) (nodes : List Bytes) : State :=
  let q := s.port p
  let mine (c : Check) : Bool := q.findBind c.cls c.cs c.blk == some (some b) && !s.chkReady p c
  let go (c : Check) : State × Option (Nat × Nat × Bytes) :=
    s.demand p b (s.missing p b (c.blk - (q.bind b).fblock)) nodes
  match q.checks.find? mine with
  | some c =>
    let r := go c
    match r.2 with
    | none => r.1.devSettle p
    | some n => (r.1.modPort p (fun q => { q with checks := q.checks.erase c })).verifyFail p c 2 b (treeHash (q.bind b).hash n.2.2)
  | none =>
    match q.dev with
    | none => s
    | some c =>
      if !mine c then s else
      let r := go c
      match r.2 with
      | none => r.1.devSettle p
      | some n => ((r.1.modPort p (fun q => { q with dev := none })).verifyFail p c 2 b (treeHash (q.bind b).hash n.2.2)).devAfter p c false
/-- DEMAND_NODE_READ (R243, R259): a device-originated read, which yields under R179 and is hashed on a lane (R291). -/
def execDemandNodeRead (p : Fin 16) (b : Fin 8) (nodes : List Bytes) (s : State) : Res :=
  .next (if s.permOn && s.readable p.val ((s.port p.val).bind b.val).cs then s.demandRead p.val b.val nodes else s)
/-- STITCH_TIMEOUT (R248): 64 µs have passed after the chip-select deassertion with no command of the stitch running. -/
def execStitchTimeout (p : Fin 16) (s : State) : Res :=
  .next (match (s.port p.val).stitch.ended with
    | some t => if (s.port p.val).stitch.isOpen ∧ t + 64 ≤ s.clk then s.stitchBreak p.val else s
    | none => s)
/-- The first check whose node is resident is judged once a lane has hashed its block (R253 to R255, R258). -/
@[noinline] def State.checkDone (s : State) (p : Nat) : State :=
  match (if s.permOn then (s.port p).checks.find? (s.chkReady p) else none) with
  | none => s
  | some c => (((s.permEnd (2 * p)).modPort p (fun q => { q with checks := q.checks.erase c })).judge p c).1
/-- FETCH_CHECK_DONE (R253). -/
def execFetchCheckDone (p : Fin 16) (s : State) : Res := .next (s.checkDone p.val)

/-! ### Pantry windows -/

/-- Address of PW_CTRL. -/
def aPw (p : Nat) : Nat := fp p 3 0x9C
/-- PW_INDEX. -/
def State.wIdx (s : State) (p : Nat) : Nat := s.fldOf (fp p 3 0x90) 5 0
/-- The selected window. -/
def State.curWin (s : State) (p : Nat) : Window := (s.port p).win (s.wIdx p)
/-- First and one-past-last flash block of a window. -/
def Window.blocks (x : Window) : Nat × Nat := (Word.field x.w0 15 0, Word.field x.w0 15 0 + Word.field x.w0 24 16)
/-- First and one-past-last frame of a window. -/
def Window.fr (x : Window) : Nat × Nat := (Word.field x.w1 9 0, Word.field x.w1 9 0 + Word.field x.w0 24 16)
/-- The REJECT code of a window WRITE, 0 where it is accepted (R269). -/
def State.winCheck (s : State) (p w : Nat) (x : Window) : Nat :=
  let n := Word.field x.w0 24 16
  let b := (s.port p).bind (Word.field x.w1 18 16)
  if n = 0 ∨ 256 < n ∨ Word.field x.w0 31 25 ≠ 0 ∨ Word.field x.w1 31 19 ≠ 0 ∨ Word.field x.w1 15 10 ≠ 0 then 1
  else if b.st ≠ .confirmed ∨ b.cs ≠ w / 32 ∨ x.blocks.1 < b.fblock ∨ b.fblock + b.nblk < x.blocks.2 then 2
  else if 1024 < x.fr.2 ∨ (List.range 16).any (fun r => (List.range 64).any (fun v => let y := (s.port r).win v
      !(r == p && v == w) && y.st != .empty && meets x.fr y.fr)) then 3
  else if (List.range 64).any (fun v => let y := (s.port p).win v
      v != w && v / 32 == w / 32 && y.st != .empty && meets x.blocks y.blocks) then 4
  else 0
/-- PW_CTRL.WRITE (R268, R269): a rejected WRITE leaves the window but for its REJECT (R236). -/
@[noinline] def State.pwWrite (s : State) (m : Master) (p : Nat) : State :=
  let x := s.curWin p
  s.when m (aPw p) (x.st == .empty || x.st == .written || x.st == .failed) (fun s =>
    let y := { Window.reset with st := .written, w0 := s.reg (fp p 3 0x94), w1 := s.reg (fp p 3 0x98) }
    let code := s.winCheck p (s.wIdx p) y
    s.modPort p (fun q => q.setWin (s.wIdx p) (if code = 0 then y else { x with reject := code })))
/-- PW_CTRL.READ (R268). -/
@[noinline] def State.pwRead (s : State) (p : Nat) : State :=
  (s.setReg (fp p 3 0x94) (s.curWin p).w0).setReg (fp p 3 0x98) (s.curWin p).w1
/-- PW_CTRL.LOAD (R268, R270, R276). -/
@[noinline] def State.pwLoad (s : State) (m : Master) (p : Nat) : State :=
  let x := s.curWin p
  s.when m (aPw p) ((x.st == .written || x.st == .failed) && !(s.port p).stopped)
    (fun s => s.modPort p (fun q => q.setWin (s.wIdx p) { x with st := .loading, next := 0, retry := false, failBlk := 0 }))
/-- PW_CTRL.UNLOAD (R268): EMPTY at the next idle moment. -/
@[noinline] def State.pwUnload (s : State) (m : Master) (p : Nat) : State :=
  let x := s.curWin p
  s.when m (aPw p) (x.st == .written || x.st == .loaded || x.st == .failed)
    (fun s => s.modPort p (fun q => q.setWin (s.wIdx p) { x with pend := some .empty }))
/-- PW_WRITE (R268, R269). -/
def execPwWrite (m : Master) (p : Fin 16) (s : State) : Res := .next (s.guarded m (aPw p.val) (fun s => s.pwWrite m p.val))
/-- PW_READ (R268). -/
def execPwRead (m : Master) (p : Fin 16) (s : State) : Res := .next (s.guarded m (aPw p.val) (fun s => s.pwRead p.val))
/-- PW_LOAD (R268, R270). -/
def execPwLoad (m : Master) (p : Fin 16) (s : State) : Res := .next (s.guarded m (aPw p.val) (fun s => s.pwLoad m p.val))
/-- PW_UNLOAD (R268). -/
def execPwUnload (m : Master) (p : Fin 16) (s : State) : Res := .next (s.guarded m (aPw p.val) (fun s => s.pwUnload m p.val))

/-- The next block of a window load was read, or its read failed (R265, R270). -/
@[noinline] def State.winRead (s : State) (p w : Nat) (data : Option Bytes) : State :=
  let q := s.port p
  let x := q.win w
  let blk := Word.field x.w0 15 0 + x.next
  let cls := (q.bind (Word.field x.w1 18 16)).cls
  if x.st ≠ .loading ∨ x.pend.isSome ∨ q.dev.isSome ∨ !s.readable p (w / 32) ∨ !s.permOn then s
  else
    let c := q.devCheck .load (q.regionAt cls (w / 32) blk) cls (w / 32) blk w (data.getD [])
    match data with
    | some _ => s.devRead p c
    | none => if x.retry then s.devFault p c else s.modPort p (fun q => q.setWin w { x with retry := true })
/-- WINDOW_BLOCK_READ (R270). -/
def execWindowBlockRead (p : Fin 16) (w : Fin 64) (data : Option Bytes) (s : State) : Res := .next (s.winRead p.val w.val data)
/-- A window change that waited takes place (R214, R268, R270, R272). -/
@[noinline] def State.winApply (s : State) (p w : Nat) : State :=
  let x := (s.port p).win w
  match x.pend with
  | some .loaded => (s.modPort p (fun q => q.setWin w { x with st := .loaded, pend := none })).count (evPort p 4)
  | some .empty => s.modPort p (fun q => q.setWin w { Window.reset with reject := x.reject })
  | _ => s
/-- WINDOW_STATE_APPLY (R214, R268). -/
def execWindowStateApply (p : Fin 16) (w : Fin 64) (s : State) : Res :=
  .next (if (s.port p.val).idle then s.winApply p.val w.val else s)

/-! ### Scrub, full check, resume, coverage, substitution -/

/-- The scrub read of the next block, or its failure (R264, R265); hold-up mode stops the scrubber (R649). -/
@[noinline] def State.scrubRead (s : State) (p : Nat) (data : Option Bytes) : State :=
  let q := s.port p
  if !s.scrubOn p ∨ !q.scrub.run ∨ q.dev.isSome ∨ s.pwr.holdup then s
  else match q.scrubNext q.scrub.region q.scrub.off with
    | none => if q.scrub.any then s.scrubStep p else s.modPort p (fun q => { q with scrub := { q.scrub with run := false } })
    | some (r, o) =>
      let e := q.rg r
      let b := q.mapBase r (rgCs e) (rgCs e)
      if q.granted b.1 ∨ !s.readable p b.1 ∨ !s.permOn then s
      else
        let c := q.devCheck .scrub (some r) (rgClass e) b.1 (b.2 + o) 0 (data.getD [])
        let s := s.modPort p (fun q => { q with scrub := { q.scrub with region := r, off := o } })
        match data with
        | some _ => s.devRead p c
        | none => if q.scrub.retry then s.devFault p c
                  else s.modPort p (fun q => { q with scrub := { q.scrub with retry := true } })
/-- SCRUB_BLOCK_READ (R264, R265). -/
def execScrubBlockRead (p : Fin 16) (data : Option Bytes) (s : State) : Res := .next (s.scrubRead p.val data)

/-- VER_CMD.FULLCHECK (R267, R276). -/
@[noinline] def State.fullStart (s : State) (m : Master) (p : Nat) : State :=
  s.when m (fp p 3 0x48) (!(s.port p).full.run && !(s.port p).stopped) (fun s =>
    let l := (List.range 8).filter (fun b => ((s.port p).bind b).st == .confirmed && ((s.port p).bind b).full)
    let s := s.modPort p (fun q => { q with full := { run := true, binds := l, blk := 0, failed := [], all := l, retry := false } })
    if l.isEmpty then s.fullEnd p else s)
/-- FULLCHECK (R267). -/
def execFullcheck (m : Master) (p : Fin 16) (s : State) : Res := .next (s.guarded m (fp p.val 3 0x48) (fun s => s.fullStart m p.val))
/-- The full check reads its next block, or the read fails (R267); hold-up mode stops full checks (R649). -/
@[noinline] def State.fullRead (s : State) (p : Nat) (data : Option Bytes) : State :=
  let q := s.port p
  match q.full.binds with
  | [] => s
  | b :: _ =>
    let x := q.bind b
    if !q.full.run ∨ q.dev.isSome ∨ q.granted x.cs ∨ !s.readable p x.cs ∨ !s.permOn ∨ s.pwr.holdup then s
    else
      let blk := x.fblock + q.full.blk
      let c := q.devCheck .full (q.regionAt x.cls x.cs blk) x.cls x.cs blk 0 (data.getD [])
      match data with
      | some _ => s.devRead p c
      | none => if q.full.retry then s.devFault p c else s.modPort p (fun q => { q with full := { q.full with retry := true } })
/-- FULLCHECK_BLOCK_READ (R267). -/
def execFullcheckBlockRead (p : Fin 16) (data : Option Bytes) (s : State) : Res := .next (s.fullRead p.val data)

/-- VER_CMD.SCRUB_RESTART (R264, R276). -/
@[noinline] def State.scrubRestart (s : State) (m : Master) (p : Nat) : State :=
  s.when m (fp p 3 0x48) (!(s.port p).stopped) (fun s => if s.scrubOn p then s.newPass p else s)
/-- SCRUB_RESTART (R264). -/
def execScrubRestart (m : Master) (p : Fin 16) (s : State) : Res :=
  .next (s.guarded m (fp p.val 3 0x48) (fun s => s.scrubRestart m p.val))
/-- VER_CMD.RESUME (R257): only for a port that no valid PORT_MAP entry names. -/
@[noinline] def State.verResume (s : State) (m : Master) (p : Nat) : State :=
  s.when m (fp p 3 0x48) (s.lineOf p).isNone (fun s => s.modPort p (fun q => { q with contained := false }))
/-- VER_RESUME (R257). -/
def execVerResume (m : Master) (p : Fin 16) (s : State) : Res := .next (s.guarded m (fp p.val 3 0x48) (fun s => s.verResume m p.val))

/-- Regions whose SUBST a CLEAR changes (R263): every index of the class whose SUBST is 1, valid or not. -/
def PortState.substClr (q : PortState) (cls : Nat) : List Nat :=
  (List.range 256).filter (fun i => rgClass (q.rg i) == cls && q.sub i)
/-- The effect of a SUBST_CTRL write (R263). -/
@[noinline] def State.substCtrl (s : State) (m : Master) (p : Nat) (v : Word) : State :=
  let cls := Word.field v 5 0
  s.when m (fp p 3 0x4C) (s.portHeld p && !(Word.bit v 8 && Word.bit v 9)) (fun s =>
    if Word.bit v 8 then s.setSubst p cls ((s.port p).substSet cls false) true
    else if Word.bit v 9 then s.setSubst p cls ((s.port p).substClr cls) false
    else s)
/-- SUBST_SET_CMD (R263). -/
def execSubstSetCmd (m : Master) (p : Fin 16) (v : Word) (s : State) : Res :=
  .next (s.guarded m (fp p.val 3 0x4C) (fun s => s.substCtrl m p.val (v ||| 0x100)))
/-- SUBST_CLEAR_CMD (R263). -/
def execSubstClearCmd (m : Master) (p : Fin 16) (v : Word) (s : State) : Res :=
  .next (s.guarded m (fp p.val 3 0x4C) (fun s => s.substCtrl m p.val (v ||| 0x200)))

/-- COV_CTRL.RESET (R275). -/
@[noinline] def State.covReset (s : State) (p : Nat) : State :=
  s.modPort p (fun q => q.modCov (s.fldOf (fp p 3 0xF8) 7 0) (fun _ => Cov.reset))
/-- COV_RESET (R275). -/
def execCovReset (m : Master) (p : Fin 16) (s : State) : Res := .next (s.guarded m (fp p.val 3 0x114) (fun s => s.covReset p.val))

/-- What a tamper response does to a port (R232, R276): nothing runs on, and no check of it counts. -/
@[noinline] def State.portStop (s : State) (p : Nat) : State :=
  let q := s.port p
  let q := (List.range 8).foldl (fun q b =>
    let x := q.bind b
    if x.st = .loading then q.setBind b { x with st := .failed, nodes := 0, reread := [] } else q) q
  let q := (List.range 64).foldl (fun q w =>
    let x := q.win w
    if x.st = .loading then q.setWin w { x with st := .failed, failBlk := x.next, retry := false, pend := if x.pend = some .loaded then none else x.pend } else q) q
  let loading := (List.range 8).filter (fun b => ((s.port p).bind b).st == .loading)
  let s := s.setPort p { q with stopped := true, stitch := Stitch.idle, checks := [], dev := none, active := none,
                                scrub := { q.scrub with run := false },
                                full := { q.full with run := false, binds := [], blk := 0, failed := [], all := [], retry := false } }
  let s := loading.foldl (fun s b => s.freeNodes p b) s
  (List.range 64).foldl (fun s i =>
    let e := (s.port p).wqe i
    if e.st = .captured ∨ e.st = .applied then
      let s := s.modPort p (fun q => q.setWqe i { e with st := .discarded, result := stTampered })
      if e.type ≠ 3 then s.failView p e else s
    else s) s

end Sys2Proof.Machine
end

