-- ==== Sys2Proof/Machine/HartMem.lean ====
section
/-! DEFINITION. Core memory as the harts address it, and as the engines read and write it for them (R502, R285). -/
namespace Sys2Proof.Machine

/-- Log entry `i`; positions at or beyond LOG_COUNT read 0 (R422). -/
def State.logAt (s : State) (i : Nat) : Bytes := s.meas.log.getD i (zeros 64)
/-- Regions of the hart address map outside the two windows (R502). -/
inductive HartRegion where
  | rom | code | staging | dataRam | desc | manifest | meas | doeReq | doeRsp | wqData | chkMap | log
  deriving DecidableEq, Repr
/-- The region that holds `n` bytes at a hart address, and the offset in it (R502). -/
def hartRegion (a n : Nat) : Option (HartRegion × Nat) :=
  let at_ (r : HartRegion) (b len : Nat) : Option (HartRegion × Nat) := if b ≤ a ∧ a + n ≤ b + len then some (r, a - b) else none
  (at_ .rom 0 0x40000).orElse fun _ => (at_ .code 0x10000000 0x200000).orElse fun _ => (at_ .staging 0x10200000 0x200000).orElse fun _ =>
  (at_ .dataRam 0x10400000 0x70000).orElse fun _ => (at_ .desc 0x10470000 0x2000).orElse fun _ => (at_ .manifest 0x10472000 0x4000).orElse fun _ =>
  (at_ .meas 0x10476000 0x2000).orElse fun _ => (at_ .doeReq 0x10480000 0x20000).orElse fun _ => (at_ .doeRsp 0x104A0000 0x20000).orElse fun _ =>
  (at_ .wqData 0x104C0000 0x80000).orElse fun _ => (at_ .chkMap 0x10540000 0x40000).orElse fun _ => at_ .log 0x10580000 0x80000
/-- A hart may load from a region (R134, R502). -/
def State.loadMay (s : State) (h : Nat) (r : HartRegion) : Bool :=
  match r with
  | .rom => !s.boot.rtReleased
  | .staging => h == 0 && s.boot.owner == 0
  | .manifest => h == 0
  | .doeReq => h == 0
  | .doeRsp => h == 0
  | .code => true
  | .dataRam => true
  | .desc => true
  | .meas => true
  | .wqData => true
  | .chkMap => true
  | .log => true
/-- A hart may store to a region (R502). -/
def storeMay (h : Nat) (r : HartRegion) : Bool :=
  match r with
  | .dataRam => true
  | .desc => h == 0
  | .doeRsp => h == 0
  | .rom => false
  | .code => false
  | .staging => false
  | .manifest => false
  | .meas => false
  | .doeReq => false
  | .wqData => false
  | .chkMap => false
  | .log => false
/-- Only hardware writes a region, so that loads from it are recorded (R624). -/
def HartRegion.hw (r : HartRegion) : Bool := !(storeMay 0 r)
/-- A byte of the check map (R273): eight flash blocks of a port's chip select, the lowest in bit 0. -/
def State.chkByte (s : State) (o : Nat) : Byte :=
  let bit (k : Nat) : Nat := ((s.port (k / 131072)).chkBit (k / 65536 % 2) (k % 65536)).toNat
  BitVec.ofNat 8 ((List.range 8).foldl (fun v j => v + bit (8 * o + j) * 2 ^ j) 0)
/-- Byte `o` of a region, the `j`-th of a load (R502); what nothing has written since the wipe is 0 (R107). The contents of the ROM and the
layout of the measurement store are not stated: they are free. -/
def State.regionByte (s : State) (r : HartRegion) (o j : Nat) : Byte :=
  let free := Config.freeBytes s.freeCtr 8
  match r with
  | .rom => Bytes.at free j
  | .code => s.boot.code.getD o 0
  | .staging => s.boot.body.getD o 0
  | .manifest => s.boot.man.getD o 0
  | .meas => Bytes.at free j
  | .doeReq => s.byte (0x10480000 + o)
  | .wqData => s.byte (0x104C0000 + o)
  | .chkMap => s.chkByte o
  | .log => Bytes.at (s.logAt (o / 64)) (o % 64)
  | .dataRam => s.byte (0x10400000 + o)
  | .desc => s.byte (0x10470000 + o)
  | .doeRsp => s.byte (0x104A0000 + o)

/-- The bytes at an address of a hart, read for it by an engine (R285, R502): none outside core memory or where the hart may not load.
DESIGN CHOICE (log 76): an engine does not reach the register and alias windows. -/
def State.hartRead (s : State) (h a n : Nat) : Option Bytes :=
  if n = 0 then some []
  else match hartRegion a n with
    | some (r, o) => if s.loadMay h r then some ((List.range n).map (fun j => s.regionByte r (o + j) j)) else none
    | none => none
/-- An engine may write bytes at an address of a hart (R296, R502). -/
def hartWritable (h a n : Nat) : Bool :=
  n == 0 || (match hartRegion a n with | some (r, _) => storeMay h r | none => false)

end Sys2Proof.Machine
end

