-- ==== Sys2Proof/Machine/Jobs.lean ====
section
/-! DEFINITION. Queues and hart job rings as operations use them: their configuration, the descriptor that an operation takes,
and the completion entry that it writes (R445, R452 to R469, R513). -/
namespace Sys2Proof.Machine

/-- Page of a queue (0 to 63) or of the hart whose ring it is (64 + h). -/
def qPage (q : Nat) : Nat := if q < 64 then 0x100 + q else 0x30 + (q - 64)
/-- Q_CFG or RING_CFG. -/
def State.qCfg (s : State) (q : Nat) : Word := s.reg (pg (qPage q) (if q < 64 then 0x50 else 0x58))
/-- SIZE of a queue. -/
def State.qSize (s : State) (q : Nat) : Nat := Word.field (s.qCfg q) 12 0
/-- Submission ring address. -/
def State.sqBase (s : State) (q : Nat) : Nat :=
  if q < 64 then (s.reg (pg (qPage q) 0x40)).toNat + 2 ^ 32 * (s.reg (pg (qPage q) 0x44)).toNat else (s.reg (pg (qPage q) 0x50)).toNat
/-- Completion ring address. -/
def State.cqBase (s : State) (q : Nat) : Nat :=
  if q < 64 then (s.reg (pg (qPage q) 0x48)).toNat + 2 ^ 32 * (s.reg (pg (qPage q) 0x4C)).toNat else (s.reg (pg (qPage q) 0x54)).toNat
/-- Owner of a queue or ring (R452, R513). -/
def qOwner (q : Nat) : Option Master :=
  if q < 16 then some 0x10
  else if q ≤ 60 then some (BitVec.ofNat 8 (0x11 + (q - 16) / 3))
  else if 64 ≤ q ∧ q < 69 then some (BitVec.ofNat 8 (q - 64))
  else none
/-- Effective priority of a queue or ring (R452, R513). -/
def State.eprio (s : State) (q : Nat) : Nat :=
  let p := Word.field (s.qCfg q) 17 16
  if q < 2 then 3
  else if q < 16 ∨ 64 ≤ q then p
  else let v := (q - 16) / 3 + 1
    min p (s.fldOf (pg 0x141 0x48) (2 * v + 1) (2 * v))
/-- Codes that a queue or ring accepts (R452, R472, R513). -/
def opOk (q opc : Nat) : Bool :=
  opc == 0 ||
  (if q = 0 then opc == 1 || opc == 2 || opc == 3
   else if q = 1 then opc == 4 || opc == 5
   else opc == 0x10 || (decide (0x20 ≤ opc) && decide (opc ≤ 0x26)) || (decide (0x28 ≤ opc) && decide (opc ≤ 0x2E)) ||
     (decide (0x30 ≤ opc) && decide (opc ≤ 0x33)) || (decide (0x40 ≤ opc) && decide (opc ≤ 0x4F)))
/-- PCIe function number of a master. -/
def fnOf (m : Master) : Nat := m.toNat - 0x10
/-- A master may issue memory requests (R445): a function in D0 with bus mastering on, or a master inside the device. -/
def State.memOn (s : State) (m : Master) : Bool :=
  !isPcie m || (!(s.fn (fnOf m)).d3 && (s.fn (fnOf m)).bme && !s.hq.flrPending.getLsbD (fnOf m))

/-- Word `i` of a descriptor. -/
def dw (d : Desc) (i : Nat) : Word := d.getD i 0
/-- The bytes of a descriptor. -/
def dbytes (d : Desc) : Bytes := wordsBytes d
/-- Number in `n` bytes at an offset of a descriptor. -/
def dnum (d : Desc) (o n : Nat) : Nat := Bytes.num (wordsBytes d) o n
/-- OPC. -/
def dopc (d : Desc) : Nat := Word.field (dw d 0) 7 0
/-- FENCE. -/
def dfence (d : Desc) : Bool := Word.bit (dw d 0) 8
/-- The reserved fields of bytes 0 to 15 are 0 (R460). -/
def dheadOk (d : Desc) : Bool := Word.field (dw d 0) 31 9 == 0 && dw d 2 == 0 && dw d 3 == 0

/-- The entry is the one that a slot and number name. -/
def QEntry.named (e : QEntry) (slot seq : Nat) : Bool := e.slot == slot && e.seq == seq
/-- Replace a fetched descriptor. -/
def Queue.modEntry (x : Queue) (slot seq : Nat) (f : QEntry → QEntry) : Queue :=
  { x with fetched := x.fetched.map (fun e => if e.named slot seq then f e else e) }
/-- The fetched descriptor that a slot and number name. -/
def Queue.entry (x : Queue) (slot seq : Nat) : Option QEntry := x.fetched.find? (fun e => e.named slot seq)
/-- The first number that no descriptor of a slot in flight has (R457). -/
def Queue.freeSeq (x : Queue) (slot : Nat) : Nat :=
  ((List.range (x.fetched.length + 1)).find? (fun k => (x.entry slot k).isNone)).getD x.fetched.length
/-- An operation may take its descriptor: it started on its queue or ring and nothing has taken it; the other paths are those
of the I3C agent and the internal engines (R11, R452, R466, R513), and host commands come over the I3C agent alone there (R471). -/
def State.srcOk (s : State) (src : JobSrc) (d : Desc) : Bool :=
  if src.ring < 69 then
    (match (s.queue src.ring).entry src.slot src.seq with
     | some e => e.started && !e.taken && e.desc == d && src.tag == dw d 1
     | none => false) && qOwner src.ring == some src.issuer
  else src.issuer == 0x20 || (decide (0x40 ≤ src.issuer.toNat) && assigned src.issuer && !(decide (1 ≤ dopc d) && decide (dopc d ≤ 5)))
/-- Mark the descriptor of an operation as taken. -/
@[noinline] def State.take (s : State) (src : JobSrc) : State :=
  if src.ring < 69 then s.setQueue src.ring ((s.queue src.ring).modEntry src.slot src.seq (fun e => { e with taken := true })) else s
/-- An operation with its source and descriptor: its effect where the engines serve, the descriptor has started and the issuer may
reach its memory, else no effect (R107, R445, R466). -/
@[noinline] def State.job (s : State) (src : JobSrc) (d : Desc) (opc : Nat) (eff : State → State) : State :=
  if s.awake && s.srcOk src d && dopc d == opc && s.memOn src.issuer then eff (s.take src) else s
/-- Priority of a job (R292, R469): that of its queue as its descriptor started. -/
def State.jobPrio (s : State) (src : JobSrc) : Nat :=
  if src.ring < 69 then (((s.queue src.ring).entry src.slot src.seq).map QEntry.prio).getD (s.eprio src.ring) else if src.issuer = 0x20 then 1 else 2

/-- mip bit 16 of a hart (R504): its ring has CQ_TAIL ≠ CQ_HEAD. -/
def State.ringi (s : State) (h : Nat) : Bool := (s.queue (64 + h)).cqTail != (s.queue (64 + h)).cqHead
/-- Resume a hart on RINGI where it is enabled (R505). -/
@[noinline] def State.ringIrq (s : State) (h : Nat) : State :=
  if Word.bit (s.hart h).mie 16 && s.ringi h then s.resume h 1 else s

/-- A queue or ring goes to ERROR with a cause (R459, R513): entering ERROR counts one COMPLETION event of a queue. -/
@[noinline] def State.qError (s : State) (q cause slot : Nat) : State :=
  let was := (s.queue q).st
  let s := s.setQueue q { s.queue q with st := .error, cause := cause, errSlot := slot }
  if q < 64 ∧ was ≠ .error then s.count (evQueue q) else s
/-- The 32 bytes of a completion entry (R461). -/
def cqEntry (tag : Word) (st : Status) (opc sqHead slot result detail : Nat) (phase : Bool) : Bytes :=
  leBytes 4 tag.toNat ++ leBytes 1 st.toNat ++ leBytes 1 opc ++ leBytes 2 sqHead ++ leBytes 2 slot ++ zeros 6 ++
  leBytes 8 result ++ leBytes 4 detail ++ zeros 3 ++ leBytes 1 phase.toNat
/-- Write a completion entry to a queue or ring (R462, R463): the entry at CQ_BASE + 32 × CQ_TAIL, CQ_TAIL, PHASE, Q_DONE and COMPLETION or RINGI; a
ring's entry is recorded (R624). -/
@[noinline] def State.cqWrite (s : State) (src : JobSrc) (opc : Nat) (st : Status) (result detail : Nat) : State :=
  let q := src.ring
  let x := s.queue q
  let e := cqEntry src.tag st opc x.sqHead src.slot result detail x.phase
  let t := if s.qSize q ≤ x.cqTail + 1 then 0 else x.cqTail + 1
  let y := { x with cqTail := t, phase := if t = 0 then !x.phase else x.phase, done := satInc x.done }
  if q < 64 then ((s.out (.completion q (s.cqBase q + 32 * x.cqTail) e)).setQueue q y).count (evQueue q)
  else
    let s := s.flight 0x04 (BitVec.ofNat 8 (q - 64)) e
    ((s.setBytes (s.cqBase q + 32 * x.cqTail) e).setQueue q y).ringIrq (q - 64)
/-- The completion of a descriptor (R459, R462): it leaves its queue or ring, and its entry is written; a failed write puts the queue or
ring in ERROR, and later entries are discarded. -/
@[noinline] def State.entryDone (s : State) (src : JobSrc) (opc : Nat) (st : Status) (result detail : Nat) : State :=
  let x := s.queue src.ring
  let s := s.setQueue src.ring { x with fetched := x.fetched.filter (fun e => !e.named src.slot src.seq) }
  if x.cqFault then s
  else if src.cqFail then (s.setQueue src.ring { s.queue src.ring with cqFault := true }).qError src.ring 4 src.slot
  else s.cqWrite src opc st result detail
/-- A memory request that waits for its function (R445). -/
@[noinline] def State.stall (s : State) (w : Stalled) : State := { s with hq := { s.hq with stalled := s.hq.stalled ++ [w] } }
/-- Complete an operation (R445, R459, R462, R474): a descriptor whose queue still exists completes, or waits while its function issues no
memory request. Other paths get the entry as a reply. -/
@[noinline] def State.complete (s : State) (src : JobSrc) (opc : Nat) (st : Status) (result detail : Nat) : State :=
  if 69 ≤ src.ring then
    s.out (.reply src.issuer st (cqEntry src.tag st opc 0 src.slot result detail false))
  else if ((s.queue src.ring).entry src.slot src.seq).isNone then s
  else if s.memOn src.issuer then s.entryDone src opc st result detail
  else (s.take src).stall (.entry src opc st result detail)
/-- What an engine reads and may write for an operation: for a hart from core memory by the hart's address map (R285, R502), where any fault
is the model's own to tell; for every other issuer as the command brings it (R463). -/
def State.jobIo (s : State) (src : JobSrc) (io : JobIo) (inAddr inLen outAddr outLen : Nat) : JobIo :=
  if !isHart src.issuer then io
  else
    let b := s.hartRead src.issuer.toNat inAddr inLen
    { io with data := b.getD [], fault := b.isNone, writeFault := !hartWritable src.issuer.toNat outAddr outLen }
/-- A write to host memory for an issuer (R463): Relaxed Ordering as the function's Enable Relaxed Ordering bit says. -/
@[noinline] def State.hostWrite (s : State) (m : Master) (addr : Nat) (data : Bytes) : State :=
  s.out (.memWrite m addr data (isPcie m && (s.fn (fnOf m)).ctl.ero))
/-- An engine writes the result of an operation at an address of its issuer: core memory for a hart, recorded as DMA_IN
(R624), host memory else (R463, R513), where a function that may issue no request holds it back (R445). -/
@[noinline] def State.putOut (s : State) (eng : Master) (src : JobSrc) (addr : Nat) (data : Bytes) : State :=
  if data.isEmpty then s
  else if isHart src.issuer then (s.dmaRecords eng addr data).setBytes addr data
  else if s.memOn src.issuer then s.hostWrite src.issuer addr data
  else s.stall (.data src.issuer addr data)
/-- The function whose memory a stalled request is for. -/
def Stalled.fn (w : Stalled) : Master := match w with | .data m _ _ => m | .entry src _ _ _ _ => src.issuer
/-- A stalled request is issued (R445). -/
@[noinline] def State.unstall (s : State) (w : Stalled) : State :=
  match w with
  | .data m a b => s.hostWrite m a b
  | .entry src opc st r d => s.entryDone src opc st r d
/-- The stalled requests of a function leave the list. -/
@[noinline] def State.stallDrop (s : State) (m : Master) : State :=
  { s with hq := { s.hq with stalled := s.hq.stalled.filter (fun w => w.fn != m) } }
/-- A function may issue requests again (R445): those that waited are issued in order. -/
@[noinline] def State.stallGo (s : State) (m : Master) : State :=
  if s.memOn m then (s.hq.stalled.filter (fun w => w.fn == m)).foldl State.unstall (s.stallDrop m) else s

end Sys2Proof.Machine
end

