-- ==== Sys2Proof/Machine/Fuses.lean ====
section
/-! DEFINITION. Fuse fields, the life-cycle states and the decode of their three copies, debug rights, and the root secrets
(R337 to R347, R359, R360, R367). -/
namespace Sys2Proof.Machine

/-- State code of a life-cycle state (R337). -/
def LcState.code (s : LcState) : Nat :=
  match s with | .raw => 0 | .test => 1 | .provision => 2 | .owned => 3 | .ret => 4 | .scrap => 5
/-- Fuse code of a life-cycle state (R337). -/
def LcState.fuseCode (s : LcState) : Nat :=
  match s with
  | .raw => 0 | .test => 2 ^ 16 - 1 | .provision => 2 ^ 32 - 1 | .owned => 2 ^ 48 - 1 | .ret => 2 ^ 56 - 1 | .scrap => 2 ^ 64 - 1
/-- The six states. -/
def lcAll : List LcState := [.raw, .test, .provision, .owned, .ret, .scrap]
/-- The state of a code. -/
def lcOfCode (c : Nat) : Option LcState := lcAll.find? (fun s => s.code == c)
/-- The transitions that the device accepts (R338). -/
def lcLegal (a b : LcState) : Bool :=
  match a, b with
  | .raw, .test => true | .test, .provision => true | .provision, .owned => true | .owned, .ret => true | .provision, .ret => true
  | .raw, .scrap => true | .test, .scrap => true | .provision, .scrap => true | .owned, .scrap => true | .ret, .scrap => true
  | _, _ => false
/-- The state to which a copy decodes (R345). -/
def lcDecode1 (v : Nat) : Option LcState := lcAll.find? (fun s => s.fuseCode == v)
/-- Every bit blown in `a` is blown in `b` (R345). -/
def bitsIn (a b : Nat) : Bool := (a &&& b) == a
/-- What the three copies decode to (R346): the effective state, the RULE code, the copies owed (0 A, 1 B, 2 C). -/
def lcDecode (a b c : Nat) : Option LcState × Nat × List Nat :=
  let maj (s : LcState) (k x : Nat) : Option LcState × Nat × List Nat :=
    if x = s.fuseCode then (some s, 0, [])
    else if bitsIn x s.fuseCode then (some s, 0, [k])
    else (some s, 2, [])
  let resume := match lcDecode1 a, lcDecode1 c with
    | some t, some s => if lcLegal s t && bitsIn s.fuseCode b && bitsIn b t.fuseCode then some t else none
    | _, _ => none
  match resume with
  | some t => (some t, 1, (if b = t.fuseCode then [] else [1]) ++ [2])
  | none =>
    match lcDecode1 a, lcDecode1 b, lcDecode1 c with
    | some x, some y, some z => if x = y then maj x 2 c else if x = z then maj x 1 b else if y = z then maj y 0 a else (none, 3, [])
    | some x, some y, none => if x = y then maj x 2 c else (none, 3, [])
    | some x, none, some z => if x = z then maj x 1 b else (none, 3, [])
    | none, some y, some z => if y = z then maj y 0 a else (none, 3, [])
    | _, _, _ => (none, 3, [])

/-- Byte `i` of the fuses (R343: bit b in word b >> 5). -/
def State.fuseByte (s : State) (i : Nat) : Byte := BitVec.ofNat 8 ((s.fuse (i / 4)).toNat >>> (8 * (i % 4)))
/-- `n` fuse bytes from byte `i`. -/
def State.fuseBytes (s : State) (i n : Nat) : Bytes := (List.range n).map (fun k => s.fuseByte (i + k))
/-- Blow bits: the fuse bytes from byte `i` OR the bytes given (R337). -/
@[noinline] def State.blow (s : State) (i : Nat) (bs : Bytes) : State :=
  match bs with
  | [] => s
  | b :: t => State.blow (s.setFuse (i / 4) (s.fuse (i / 4) ||| wd (b.toNat * 2 ^ (8 * (i % 4))))) (i + 1) t
/-- Life-cycle copy `k`. -/
def State.lcCopy (s : State) (k : Nat) : Nat := leNat (s.fuseBytes (8 * k) 8)
/-- UNIT_ID. -/
def State.unitId (s : State) : Bytes := s.fuseBytes 24 8
/-- Image-key hash of slot `k`. -/
def State.keyHash (s : State) (k : Nat) : Bytes := s.fuseBytes (160 + 48 * k) 48
/-- Revocation bits of the slots. -/
def State.revoked (s : State) : Nat := leNat (s.fuseBytes 928 2)
/-- Policy fuses. -/
def State.policy (s : State) : Nat := leNat (s.fuseBytes 1028 8)
/-- V2_ALLOW. -/
def State.v2Allow (s : State) : Bool := s.policy.testBit 0
/-- PUSH_PCIE. -/
def State.pushPcie (s : State) : Bool := s.policy.testBit 1
/-- HOME_BASE. -/
def State.homeBase (s : State) : Nat := s.policy / 256 % 256
/-- BOOT_FP0_MODE. -/
def State.bootFp0Mode (s : State) : Nat := s.policy / 65536 % 256
/-- First bytes of the ten trim and mask fields of 256 bits (R343): the mask bank is two of them. -/
def scrapFields : List Nat := [96, 128] ++ (List.range 8).map (fun k => 1036 + 32 * k)
/-- Trim and mask fields that are not all ones. -/
def State.trimLeft (s : State) : List Nat := scrapFields.filter (fun i => s.fuseBytes i 32 != List.replicate 32 0xFF)

/-- LC, the one-byte state code of the effective state (R377). -/
def State.lc (s : State) : Bytes := leBytes 1 (match s.lcf.eff with | some x => x.code | none => 7)
/-- The ceiling of the state (R360): RAW and TEST, where every right is active and no grant is taken, have none. -/
def State.ceiling (s : State) : Nat :=
  match s.lcf.eff with
  | some .provision => 0x7F
  | some .owned => 0x7F
  | some .ret => 0x1FFF
  | _ => 0
/-- A secret right is active (R359). -/
def State.secretRight (s : State) : Bool := s.rights &&& 0x0F00 != 0

/-- A field of fuses may be blown in the state (R344), by its first byte. -/
def State.blowOk (s : State) (i : Nat) : Bool :=
  let st := s.lcf.eff
  if i = 24 then st == some .raw
  else if (32 ≤ i ∧ i < 160) ∨ (932 ≤ i ∧ i < 980) then st == some .provision
  else if 160 ≤ i ∧ i < 544 then st == some .test || st == some .provision
  else if (544 ≤ i ∧ i < 928) ∨ (980 ≤ i ∧ i < 1028) then st == some .provision || st == some .owned
  else if 928 ≤ i ∧ i < 930 then st == some .provision || st == some .owned || st == some .ret
  else if i = 1028 then st == some .provision || st == some .owned
  else if 1029 ≤ i ∧ i < 1292 then st == some .test || st == some .provision
  else false
/-- A field may be blown more than once: revocation bits and single policy bits (R344). -/
def blowBits (i : Nat) : Bool := (decide (928 ≤ i) && decide (i < 930)) || i == 1028
/-- The status of a FUSE_KEY request: BUSY during a transition or while entry 16 is taken, TAMPERED after a tamper response,
STATE_FORBIDS outside the states or over blown bits (R344, R356). -/
def State.fuseCheck (s : State) (i n : Nat) : Status :=
  if s.lcf.transit.isSome || (s.adm 16).st != .empty then stBusy
  else if s.tamp.responded || s.tamp.latch then stTampered
  else if !s.blowOk i || (!blowBits i && !allZero (s.fuseBytes i n)) then stStateForbids
  else stOk
/-- Queue a FUSE_KEY commit of a field (R316, R344). -/
@[noinline] def State.fuseKey (s : State) (i : Nat) (val : Bytes) (timeout : Nat) : State :=
  s.enqueue 16 1 timeout (.lcf (.field i val))

/-- The permutation selector of the die: bits [11:0] of trim and repair field 7 (R367). -/
def State.permSel (s : State) : Nat := leNat (s.fuseBytes 1260 2) % 4096
/-- A list of numbers with one more put in at a place that its length bounds. -/
def insertAt (l : List Nat) (i x : Nat) : List Nat := l.take (i % (l.length + 1)) ++ x :: l.drop (i % (l.length + 1))
/-- The permutation of the positions below `n`: each position enters at a place that the wiring fixes, so whatever the places are it
is a permutation. -/
def permList (pick : Nat → Nat) (n : Nat) : List Nat :=
  match n with
  | 0 => []
  | k + 1 => insertAt (permList pick k) (pick k) k
/-- π of a selector: bit `i` of a secret stands at position `permBits sel [i]` of its field (R367). -/
def permBits (sel : Nat) : List Nat := permList (Config.permPick sel) 256
/-- Bit `i` of a byte string, the lowest of byte 0 first. -/
def bitAt (b : Bytes) (i : Nat) : Bool := (Bytes.at b (i / 8)).getLsbD (i % 8)
/-- The 32 bytes whose bits a function gives. -/
def ofBits (f : Nat → Bool) : Bytes :=
  (List.range 32).map (fun k => (List.range 8).foldl (fun b j => putBit b j (f (8 * k + j))) 0)
/-- π(S) (R367). -/
def permute (l : List Nat) (b : Bytes) : Bytes := ofBits (fun i => bitAt b (l.findIdx (fun x => x == i)))
/-- π⁻¹ (R368). -/
def unpermute (l : List Nat) (b : Bytes) : Bytes := ofBits (fun i => bitAt b (l.getD i 0))
/-- A root secret: π⁻¹(F ⊕ M) (R367, R368); 0 the unique device secret, 1 the class secret. -/
def State.rootSecret (s : State) (k : Nat) : Bytes :=
  unpermute (permBits s.permSel) (xorBytes (s.fuseBytes (32 + 32 * k) 32) (s.fuseBytes (96 + 32 * k) 32))
/-- The fuse field of a secret under the blown mask: π(S) ⊕ M (R367). -/
def State.rootField (s : State) (k : Nat) (secret : Bytes) : Bytes :=
  xorBytes (permute (permBits s.permSel) secret) (s.fuseBytes (96 + 32 * k) 32)

end Sys2Proof.Machine
end

