-- ==== Sys2Proof/Machine/Cellar.lean ====
section
/-! DEFINITION. The Cellar: slots, handles and contexts, the owner secret, derivations and blobs, and the Cellar operations
(R372 to R403). -/
namespace Sys2Proof.Machine

/-! ### The owner secret and wrap keys -/

/-- BBRAM bank `b`. -/
def State.bank (s : State) (b : Nat) : Bytes := if b = 0 then s.cel.bank0 else s.cel.bank1
/-- Write a BBRAM bank. -/
@[noinline] def State.setBank (s : State) (b : Nat) (v : Bytes) : State :=
  if b = 0 then { s with cel := { s.cel with bank0 := v } } else { s with cel := { s.cel with bank1 := v } }
/-- GENERATION of a bank image (R372). -/
def bankGen (v : Bytes) : Nat := Bytes.num v 0x20 4
/-- EPOCH of domain `d` in a bank image. -/
def bankEpoch (v : Bytes) (d : Nat) : Nat := Bytes.num v (0x24 + 4 * d) 4
/-- CHECK of a bank image matches (R372, R373). -/
def bankSum (v : Bytes) : Bool := Bytes.num v 0x64 4 == crc32c (Bytes.fit v 100)
/-- A bank image is valid (R373). -/
def bankValid (v : Bytes) : Bool :=
  bankSum v && decide (1 ≤ bankGen v) && decide (bankGen v ≤ 0xFFFFFFFE)
/-- A bank image with a fresh CHECK (R372). -/
def bankImage (secret : Bytes) (gen : Nat) (epochs : List Nat) : Bytes :=
  let b := Bytes.fit secret 32 ++ leBytes 4 gen ++ epochs.flatMap (leBytes 4)
  b ++ leBytes 4 (crc32c b)
/-- The active bank of two images (R373): valid, the higher GENERATION, bank 0 if equal. -/
def activeOf (a b : Bytes) : Option Nat :=
  if bankValid a && (!bankValid b || decide (bankGen b ≤ bankGen a)) then some 0 else if bankValid b then some 1 else none
/-- The owner secret, where it is present. -/
def State.ownerSecret (s : State) : Option Bytes := s.cel.active.map (fun b => (s.bank b).take 32)
/-- Current EPOCH of a domain; 0 if the secret is absent (R407). -/
def State.blobEpoch (s : State) (d : Nat) : Nat := match s.cel.active with | some b => bankEpoch (s.bank b) d | none => 0
/-- WRAP_KEY(d, e) (R378). -/
def State.wrapKey (s : State) (d e : Nat) : Option Bytes :=
  match s.cel.cdiSeal, s.ownerSecret with
  | some k, some o => some (kdf k (o ++ s.lc ++ leBytes 1 d ++ leBytes 4 e) "MX-WRAP")
  | _, _ => none

/-! ### Contexts and handles -/

/-- The 128-byte image of a context (R382). -/
def KeyCtx.image (c : KeyCtx) : Bytes :=
  leBytes 1 c.type ++ leBytes 1 c.flags ++ leBytes 2 c.ops ++ [c.owner] ++ leBytes 1 c.domain ++ leBytes 2 c.mlen ++
  leBytes 4 c.uses ++ leBytes 4 c.epoch ++ Bytes.fit c.material 112
/-- The context of an image. -/
def ctxOf (b : Bytes) : KeyCtx :=
  { type := Bytes.num b 0 1, flags := Bytes.num b 1 1, ops := Bytes.num b 2 2, owner := Bytes.at b 4, domain := Bytes.num b 5 1,
    mlen := Bytes.num b 6 2, uses := Bytes.num b 8 4, epoch := Bytes.num b 12 4, material := (b.drop 16).take (Bytes.num b 6 2) }
/-- Material length of a type where it is fixed (R383, R562). -/
def typeLen (t : Nat) : Nat :=
  match t with
  | 1 => 32 | 2 => 64 | 3 => 32 | 4 => 32 | 5 => 32 | 6 => 48 | 7 => 32 | 8 => 32 | 9 => 32 | 0xA => 64 | 0xB => 96
  | 0xC => 32 | 0xD => 32 | 0xE => 48 | 0xF => 64 | _ => 0
/-- A TYPE of R383. -/
def typeOk (t : Nat) : Bool := decide (1 ≤ t) && decide (t ≤ 0xF)
/-- A material length is allowed for a type (R383). -/
def mlenOk (t n : Nat) : Bool := if t = 2 then decide (32 ≤ n) && decide (n ≤ 64) else n == typeLen t
/-- The blob epoch domain of an owner (R394). -/
def domainOf (m : Master) : Nat := if isPcie m then m.toNat - 0x10 else 0
/-- A handle of a slot and generation (R385). -/
def handleOf (slot gen : Nat) : Word := wd (slot + 65536 * gen)
/-- SLOT of a handle. -/
def hSlot (h : Word) : Nat := Word.field h 15 0
/-- GEN of a handle. -/
def hGen (h : Word) : Nat := Word.field h 31 16
/-- A slot is live. -/
def Slot.live (x : Slot) : Bool := x.st == .loaded || x.st == .reserved
/-- A handle names the context that its slot holds. -/
def State.heldH (s : State) (h : Word) : Bool :=
  hGen h != 0 && (s.slot (hSlot h)).gen == hGen h && (s.slot (hSlot h)).live
/-- A handle names a live context (R385); one that is to be destroyed once what runs on it has ended names none any more (R390). -/
def State.liveH (s : State) (h : Word) : Bool := s.heldH h && !s.cel.doomed.contains h
/-- Slots in use: LOADED or RESERVED, with their numbers. -/
def State.liveSlots (s : State) : List (Nat × Slot) := s.cel.slots.filter (fun x => x.2.live)
/-- A TKS job on a terminal context, or an operation in its order, has not ended: operations of R567 that join its order wait. -/
def State.tkBusy (s : State) (h : Word) : Bool :=
  s.tks.waiting.any (fun j => j.opc != 0x43 && j.handle == h) || s.tks.running.any (fun x => x.2.any (fun j => j.opc != 0x43 && j.handle == h))
/-- Cellar operations and TKS jobs that have started on a context and not ended (R390). -/
def State.opsOn (s : State) (h : Word) : Bool :=
  s.cel.ops.any (fun o => o.key == h) || s.tks.running.any (fun x => x.2.any (fun j => j.handle == h || dw j.desc 5 == h))

/-- The key of a keyed digest context is destroyed while the message is open (R301): POISONED, its running job ended with a status. -/
@[noinline] def State.poisonKey (s : State) (h : Word) (why : Status) : State :=
  let hit (i : Nat) : Bool := let c := s.dctx i
    c.key == h && h != 0 && c.st != .free
  let ctxs := s.dgl.ctxs.map (fun x => if hit x.1 then (x.1, { x.2 with st := .poisoned }) else x)
  let lanes := s.dgl.lanes.map (fun x => (x.1, match x.2.job with
    | some j => if hit j.ctx then { x.2 with job := some { j with abort := some why } } else x.2
    | none => x.2))
  { s with dgl := { s.dgl with ctxs := ctxs, lanes := lanes } }
/-- Destroy the context of a slot at once (R390): zeroed, GEN advanced, FREE or RETIRED; a digest job on it ends with a status. -/
@[noinline] def State.destroyFor (s : State) (i : Nat) (why : Status) : State :=
  let x := s.slot i
  if !x.live then s
  else
    let g := x.gen + 1
    let s := s.poisonKey (handleOf i x.gen) why
    let s := { s with cel := { s.cel with doomed := s.cel.doomed.filter (fun h => h != handleOf i x.gen) } }
    if g = 0xFFFF then (s.setSlot i { st := .retired, gen := g, ctx := KeyCtx.zero }).count (evCel 3)
    else s.setSlot i { st := .free, gen := g, ctx := KeyCtx.zero }
/-- Destroy the context of a slot (R390): operations that have started on it end first; a digest job on it is aborted (R301). -/
@[noinline] def State.destroy (s : State) (i : Nat) : State :=
  let h := handleOf i (s.slot i).gen
  if s.liveH h && s.opsOn h then
    let s := s.poisonKey h stAborted
    { s with cel := { s.cel with doomed := s.cel.doomed ++ [h] } }
  else if s.opsOn h then s
  else s.destroyFor i stAborted
/-- Contexts whose destruction waited are destroyed once nothing runs on them (R390). -/
@[noinline] def State.reap (s : State) : State :=
  s.cel.doomed.foldl (fun s h => if s.opsOn h || !s.heldH h then s else s.destroyFor (hSlot h) stAborted) s
/-- Destroy every live context that a test names. -/
@[noinline] def State.destroyAll (s : State) (f : KeyCtx → Bool) : State :=
  (s.liveSlots.filter (fun x => f x.2.ctx)).foldl (fun s x => s.destroy x.1) s
/-- Destroy the contexts of an owner and count ISSUER_DESTROY (R391). -/
@[noinline] def State.destroyOwner (s : State) (m : Master) : State :=
  (s.destroyAll (fun c => c.owner == m)).count (evCel 13)

/-- The cap of an issuer (R388, R407): PF0, VFs and I3C have one. -/
def State.quota (s : State) (m : Master) : Option Nat :=
  if m = 0x10 then some (s.fldOf (pg 0x22 0x40) 16 0)
  else if isPcie m then some (s.fldOf (pg 0x22 (0x44 + 4 * (m.toNat - 0x11))) 16 0)
  else if m = 0x20 then some (s.fldOf (pg 0x22 0x80) 16 0)
  else none
/-- Contexts that an issuer owns. -/
def State.owned (s : State) (m : Master) : Nat := (s.liveSlots.filter (fun x => x.2.ctx.owner == m)).length
/-- An issuer has reached its cap. -/
def State.overQuota (s : State) (m : Master) : Bool := match s.quota m with | some q => decide (q ≤ s.owned m) | none => false
/-- The first FREE slot at or after a slot number, wrapping (R386); the fuel bounds the search. -/
def State.findFree (s : State) (i fuel : Nat) : Option Nat :=
  match fuel with
  | 0 => none
  | k + 1 => if (s.slot (i % 65536)).st = .free then some (i % 65536) else s.findFree (i + 1) k
/-- The slot that an allocation for an issuer takes (R386, R388). -/
def State.allocAt (s : State) (m : Master) : Option Nat :=
  if s.overQuota m then none else s.findFree s.cel.ptr (min 65536 (s.cel.slots.length + 1))
/-- Count NO_SLOT, and QUOTA_HIT where the cap refused (R388, R405). -/
@[noinline] def State.noSlot (s : State) (m : Master) : State :=
  let q := s.overQuota m
  let s := ({ s with cel := { s.cel with quotaLast := m } }).count (evCel 4)
  if q then s.count (evCel 9) else s
/-- Put a new context into slot `i` and move the allocation pointer (R386). -/
@[noinline] def State.putCtx (s : State) (i : Nat) (st : SlotSt) (c : KeyCtx) : State :=
  let s := s.setSlot i { s.slot i with st := st, ctx := c }
  { s with cel := { s.cel with ptr := (i + 1) % 65536 } }

/-- Why a handle may not be used by an issuer with an operation right (R385, R387, R384), and the context where it may. -/
def State.keyFor (s : State) (m : Master) (h : Word) (opBit : Option Nat) : Status × KeyCtx :=
  if hGen h = 0 then (stStateForbids, KeyCtx.zero)
  else if !s.liveH h then (stStaleHandle, KeyCtx.zero)
  else
    let x := s.slot (hSlot h)
    match opBit with
      | none => if x.ctx.owner = m ∨ m = 0 then (stOk, x.ctx) else (stStateForbids, KeyCtx.zero)
      | some b =>
        if x.ctx.uses = 0 then (stStaleHandle, KeyCtx.zero)
        else if x.ctx.owner ≠ m ∨ x.st ≠ .loaded ∨ !x.ctx.ops.testBit b then (stStateForbids, KeyCtx.zero) else (stOk, x.ctx)
/-- Take one use of the key that a handle names (R389); the second component tells that it was the last. -/
def State.takeUse (s : State) (h : Word) : State × Bool :=
  let x := s.slot (hSlot h)
  if x.ctx.uses = 0xFFFFFFFF then (s, false)
  else (s.setSlot (hSlot h) { x with ctx := { x.ctx with uses := x.ctx.uses - 1 } }, x.ctx.uses == 1)
/-- The last use of a key has ended (R389): destroyed and counted, unless it was destroyed before (R401). -/
@[noinline] def State.lastUse (s : State) (h : Word) : State :=
  if s.liveH h then (s.destroy (hSlot h)).count (evCel 2) else s

/-! ### Operations as they are accepted and ended -/

/-- An operation fails when it is accepted (R395, R397): it completes at once; STALE_USE and PKE_ERR are counted. -/
@[noinline] def State.celFail (s : State) (src : JobSrc) (opc : Nat) (st : Status) (detail : Nat) : State :=
  let s := if st = stStaleHandle then s.count (evCel 14) else s
  let s := if opc = 0x2A ∨ opc = 0x2B ∨ opc = 0x2C ∨ opc = 0x2D then s.count (evCel 10) else s
  s.complete src opc st 0 detail
/-- An operation is accepted: its completion comes at its end. -/
@[noinline] def State.celRun (s : State) (o : CelOp) : State := { s with cel := { s.cel with ops := s.cel.ops ++ [o] } }
/-- A public-key operation. -/
def pkOp (opc : Nat) : Bool := opc == 0x2A || opc == 0x2B || opc == 0x2C || opc == 0x2D
/-- What an accepted operation will write at its end. -/
def celOp (src : JobSrc) (opc : Nat) (result outAddr : Nat) (out : Bytes) (use : Option Nat) : CelOp :=
  { src, opc, status := stOk, result, detail := 0, outAddr, out, pk := pkOp opc, key := 0, destroy := use }

/-- The fields of a Cellar descriptor that an operation uses: HANDLE, HANDLE2, input, PARAM, output, TYPE, FLAGS, OPS and
USES (R396, R397). -/
def celUses (opc : Nat) : List Bool :=
  match opc with
  | 0x20 => [false, false, false, false, false, true, true, true, true]
  | 0x21 => [false, false, true, false, false, false, false, false, false]
  | 0x22 => [true, false, false, false, true, false, false, false, false]
  | 0x23 => [true, false, false, false, false, false, false, false, false]
  | 0x24 => [true, false, false, false, true, false, false, false, false]
  | 0x25 => [true, false, true, false, false, true, true, true, true]
  | 0x26 => [false, false, false, false, false, true, false, true, true]
  | 0x27 => [true, false, true, false, false, false, false, false, false]
  | 0x28 => [true, false, true, true, true, false, false, false, false]
  | 0x29 => [true, false, true, true, true, false, false, false, false]
  | 0x2A => [true, false, true, true, true, false, false, false, false]
  | 0x2B => [false, false, true, true, false, true, false, false, false]
  | 0x2C => [true, false, true, false, false, true, true, true, true]
  | 0x2D => [false, false, true, false, true, true, true, true, true]
  | 0x2E => [true, false, true, false, true, false, false, false, false]
  | _ => [false, false, false, true, false, false, false, false, false]
/-- HANDLE. -/
def cHandle (d : Desc) : Word := dw d 4
/-- IN_LEN. -/
def cInLen (d : Desc) : Nat := (dw d 8).toNat
/-- PARAM. -/
def cParam (d : Desc) : Nat := (dw d 9).toNat
/-- OUT_ADDR. -/
def cOutAddr (d : Desc) : Nat := dnum d 40 8
/-- OUT_LEN. -/
def cOutLen (d : Desc) : Nat := (dw d 12).toNat
/-- TYPE. -/
def cType (d : Desc) : Nat := dnum d 52 1
/-- FLAGS. -/
def cFlags (d : Desc) : Nat := dnum d 53 1
/-- OPS. -/
def cOps (d : Desc) : Nat := dnum d 54 2
/-- USES. -/
def cUses (d : Desc) : Nat := (dw d 14).toNat
/-- Fields that an operation does not use are 0 (R396). -/
def celFieldsOk (d : Desc) : Bool :=
  let u := celUses (dopc d)
  let z : List Bool := [cHandle d == 0, dw d 5 == 0, dw d 6 == 0 && dw d 7 == 0 && cInLen d == 0, cParam d == 0,
    cOutAddr d == 0 && cOutLen d == 0, cType d == 0, cFlags d == 0, cOps d == 0, cUses d == 0]
  dheadOk d && dw d 15 == 0 && (List.zipWith (fun a b => a || b) u z).all id
/-- The checks that come before any of the operation's own: TAMPERED (R403), reserved fields, USES 0, the input that arrived,
reserved values of TYPE, FLAGS and OPS; the status and the DETAIL. -/
def State.celPre (s : State) (d : Desc) (io : JobIo) : Status × Nat :=
  let u := celUses (dopc d)
  if s.cel.tampered then (stTampered, 0)
  else if !celFieldsOk d then (stBadOpcode, 0)
  else if u.getD 5 false ∧ !typeOk (cType d) ∧ dopc d ≠ 0x2B then (stBadOpcode, 0)
  else if 1 < cFlags d ∨ 2047 < cOps d then (stBadOpcode, 0)
  else if u.getD 8 false ∧ cUses d = 0 then (stBadLength, 0)
  else if (dopc d = 0x21 ∨ dopc d = 0x27) ∧ cInLen d ≠ 176 then (stBadLength, 0)
  else if u.getD 2 false ∧ (io.fault ∨ io.data.length < cInLen d) then (stLengthShort, io.data.length)
  else (stOk, 0)
/-- A Cellar operation: its checks, then its own effect, on the input that its issuer's memory gives. -/
@[noinline] def State.celJob (s : State) (src : JobSrc) (d : Desc) (io : JobIo) (eff : State → JobIo → State) : State :=
  let io := s.jobIo src io (dnum d 24 8) (cInLen d) (cOutAddr d) (cOutLen d)
  let c := s.celPre d io
  if c.1 ≠ stOk then s.celFail src (dopc d) c.1 c.2 else eff s io
/-- Use a key with an operation right: the effect with the context, else the failure. -/
@[noinline] def State.withKey (s : State) (src : JobSrc) (opc : Nat) (h : Word) (bit : Option Nat) (eff : State → KeyCtx → State) : State :=
  let k := s.keyFor src.issuer h bit
  if k.1 ≠ stOk then s.celFail src opc k.1 0 else eff s k.2
/-- A new context for an issuer: the effect with its handle, else NO_SLOT (R388). -/
@[noinline] def State.withSlot (s : State) (src : JobSrc) (opc : Nat) (st : SlotSt) (c : KeyCtx) (eff : State → Word → State) : State :=
  match s.allocAt src.issuer with
  | none => (s.noSlot src.issuer).celFail src opc stNoSlot 0
  | some i =>
    let g := (s.slot i).gen
    eff (s.putCtx i st c) (handleOf i g)
/-- Take a use and run; the operation remembers a last use. -/
@[noinline] def State.celUseRun (s : State) (h : Word) (o : CelOp) : State :=
  let u := s.takeUse h
  u.1.celRun { o with key := h, destroy := if u.2 then some h.toNat else none }
/-- A new context of the TYPE, FLAGS, OPS and USES of a descriptor with material (R382, R394). -/
def State.newCtx (s : State) (m : Master) (d : Desc) (material : Bytes) : KeyCtx :=
  { type := cType d, flags := cFlags d, ops := cOps d, owner := m, domain := domainOf m, mlen := material.length,
    uses := cUses d, epoch := s.blobEpoch (domainOf m), material := material }

/-! ### The operations -/

/-- KEY_GENERATE (R397). -/
@[noinline] def State.keyGenerate (s : State) (src : JobSrc) (d : Desc) : State :=
  let c := s.newCtx src.issuer d (s.draw (typeLen (cType d)))
  s.withSlot src 0x20 .loaded c (fun s h => s.drew.celRun (celOp src 0x20 h.toNat 0 [] none))
/-- KEY_RESERVE (R397, R402): no material yet, MLEN by TYPE. -/
@[noinline] def State.keyReserve (s : State) (src : JobSrc) (d : Desc) : State :=
  let c := { s.newCtx src.issuer d [] with mlen := typeLen (cType d) }
  s.withSlot src 0x26 .reserved c (fun s h => s.celRun (celOp src 0x26 h.toNat 0 [] none))

/-- The header of a blob (R392). -/
def blobHeader (c : KeyCtx) (ctr : Nat) : Bytes :=
  leBytes 2 0x4B43 ++ leBytes 1 1 ++ leBytes 1 c.type ++ leBytes 4 c.epoch ++ leBytes 8 ctr ++ leBytes 1 c.flags ++
  leBytes 1 c.domain ++ leBytes 2 c.ops ++ [c.owner] ++ zeros 3 ++ leBytes 4 c.uses ++ zeros 4
/-- A blob: header, sealed image, tag; the boot nonce joins the associated data where RESET_EXPIRE is set (R392). -/
def blobOf (key nonce : Bytes) (c : KeyCtx) (ctr : Nat) : Bytes :=
  let h := blobHeader c ctr
  let aad := if c.flags % 2 = 1 then h ++ nonce else h
  let r := gcmSeal key (Bytes.slice h 4 12) aad c.image
  h ++ r.1 ++ r.2
/-- The reserved fields, MAGIC, VERSION and TYPE of a blob are right (R395). -/
def blobFieldsOk (b : Bytes) : Bool :=
  Bytes.num b 0 2 == 0x4B43 && Bytes.num b 2 1 == 1 && typeOk (Bytes.num b 3 1) && Bytes.num b 0x15 3 == 0 &&
  Bytes.num b 0x1C 4 == 0 && decide (Bytes.num b 0x10 1 ≤ 1) && decide (Bytes.num b 0x12 2 ≤ 2047)
/-- The image of a blob, opened under a key, whose fields equal their header copies (R395). -/
def openBlob (key nonce : Bytes) (b : Bytes) : Option KeyCtx :=
  let h := b.take 32
  let aad := if Bytes.num b 0x10 1 % 2 = 1 then h ++ nonce else h
  match gcmOpen key (Bytes.slice h 4 12) aad (Bytes.slice b 32 128) (Bytes.slice b 160 16) with
  | none => none
  | some p =>
    let c := ctxOf p
    if c.type = Bytes.num b 3 1 ∧ c.flags = Bytes.num b 0x10 1 ∧ c.ops = Bytes.num b 0x12 2 ∧ c.owner = Bytes.at b 0x14 ∧
       c.domain = Bytes.num b 0x11 1 ∧ c.uses = Bytes.num b 0x18 4 ∧ c.epoch = Bytes.num b 4 4 ∧ mlenOk c.type c.mlen then some c
    else none
/-- WRAP_CTR may not be drawn yet, or no more (R393). -/
def State.wrapCheck (s : State) : Status :=
  if s.cmd.epochPending then stBusy else if 0xFFFFFFFF ≤ s.cel.wrapSeq then stStateForbids else stOk
/-- WRAP_CTR (R393). -/
def State.wrapCtr (s : State) : Nat := s.cmd.epoch * 2 ^ 32 + s.cel.wrapSeq
/-- The wrap sequence advances. -/
@[noinline] def State.wrapped (s : State) : State := { s with cel := { s.cel with wrapSeq := s.cel.wrapSeq + 1 } }
/-- KEY_WRAP (R392, R393, R397). -/
@[noinline] def State.keyWrap (s : State) (src : JobSrc) (d : Desc) (io : JobIo) : State :=
  if cOutLen d ≠ 176 then s.celFail src 0x22 stBadLength 0
  else s.withKey src 0x22 (cHandle d) (some 6) (fun s c =>
    if s.wrapCheck ≠ stOk then s.celFail src 0x22 s.wrapCheck 0
    else match s.wrapKey c.domain (s.blobEpoch c.domain) with
      | none => s.celFail src 0x22 stStateForbids 0
      | some k =>
        if io.writeFault then s.celFail src 0x22 stLengthShort 0
        else
          let left := if c.uses = 0xFFFFFFFF then c.uses else c.uses - 1
          let b := blobOf k s.cel.bootNonce { c with uses := left, epoch := s.blobEpoch c.domain } s.wrapCtr
          s.wrapped.celUseRun (cHandle d) (celOp src 0x22 0 (cOutAddr d) b none))

/-- The checks of KEY_LOAD on 176 bytes for an issuer, up to the slot (R395). -/
def State.loadCheck (s : State) (m : Master) (b : Bytes) : Status :=
  let owner : Master := Bytes.at b 0x14
  let dom := Bytes.num b 0x11 1
  if !blobFieldsOk b then stBadOpcode
  else if s.lcf.transit.isSome || s.secretRight || s.ownerSecret.isNone then stStateForbids
  else if (owner ≠ m ∧ m ≠ 0) ∨ dom ≠ domainOf owner then stStateForbids
  else if Bytes.num b 4 4 ≠ s.blobEpoch dom then stAuthFail
  else if (s.allocAt owner).isNone then stNoSlot
  else stOk
/-- The context that a blob opens to under the wrap key of its header. -/
def State.loadOpen (s : State) (b : Bytes) : Option KeyCtx :=
  match s.wrapKey (Bytes.num b 0x11 1) (Bytes.num b 4 4) with
  | some k => openBlob k s.cel.bootNonce b
  | none => none
/-- Load a blob for an issuer (R395): the state and the status, with the new handle. -/
def State.loadBlob (s : State) (m : Master) (b : Bytes) : State × Status × Word :=
  let st := s.loadCheck m b
  if st = stNoSlot then (s.noSlot (Bytes.at b 0x14), st, 0)
  else if st = stAuthFail then (({ s with cel := { s.cel with unwrapBad := satInc s.cel.unwrapBad } }).count (evCel 1), st, 0)
  else if st ≠ stOk then (s, st, 0)
  else match s.loadOpen b, s.allocAt (Bytes.at b 0x14) with
    | some c, some i =>
      let g := (s.slot i).gen
      let s := s.putCtx i .loaded c
      ({ s with cel := { s.cel with unwrapOk := satInc s.cel.unwrapOk } }, stOk, handleOf i g)
    | _, _ => (({ s with cel := { s.cel with unwrapBad := satInc s.cel.unwrapBad } }).count (evCel 1), stAuthFail, 0)
/-- KEY_LOAD (R395). -/
@[noinline] def State.keyLoad (s : State) (src : JobSrc) (d : Desc) (io : JobIo) : State :=
    let r := s.loadBlob src.issuer io.data
    if r.2.1 = stOk then r.1.celRun (celOp src 0x21 r.2.2.toNat 0 [] none) else r.1.celFail src 0x21 r.2.1 0
/-- KEY_UNLOAD (R387, R390): the owner or hart 0. -/
@[noinline] def State.keyUnload (s : State) (src : JobSrc) (d : Desc) : State :=
  s.withKey src 0x23 (cHandle d) none (fun s _ => (s.destroy (hSlot (cHandle d))).celRun (celOp src 0x23 0 0 [] none))

/-- Length of the public key of a type. -/
def pubLen (t : Nat) : Nat :=
  match t with | 5 => 64 | 6 => 96 | 7 => 1952 | 8 => 2592 | 0xE => 96 | 0xF => 1568 | _ => 0
/-- Length of a signature of a type. -/
def sigLen (t : Nat) : Nat := match t with | 5 => 64 | 6 => 96 | 7 => 3309 | 8 => 4627 | _ => 0
/-- The public key of a private-key type. -/
def pubKey (t : Nat) (material : Bytes) : Bytes := Config.take (pubLen t) (Config.pubKeyByte t material)
/-- Order of P-384. -/
def p384n : Nat := 0xffffffffffffffffffffffffffffffffffffffffffffffffc7634d81f4372ddf581a0db248b0a77aecec196accc52973
/-- The ECDSA P-384 private scalar of a seed (R379). -/
def seedScalar (seed : Bytes) : Bytes := beBytes 48 (beNat (kmac256 seed [] 56 (ascii "MX-EC")) % (p384n - 1) + 1)
/-- The ML-DSA seed of a seed (R379). -/
def seedXi (seed : Bytes) : Bytes := kmac256 seed [] 32 (ascii "MX-ML")
/-- The key that a protected handle names (R379): type and material. -/
def State.protectedKey (s : State) (h : Word) : Option (Nat × Bytes) :=
  let k := hSlot h
  if k = 0 then s.cel.devidSeed.map (fun x => (6, seedScalar x))
  else if k = 1 then s.cel.devidSeed.map (fun x => (8, seedXi x))
  else if k = 2 then s.cel.rtidSeed.map (fun x => (6, seedScalar x))
  else if k = 3 then s.cel.rtidSeed.map (fun x => (8, seedXi x))
  else if k = 4 then (if s.lcf.eff = some .provision then s.cel.ephemeral.map (fun x => (0xF, x)) else none)
  else none
/-- What KEY_QUERY returns of a context (R397). -/
def queryOut (c : KeyCtx) : Bytes := c.image.take 16 ++ pubKey c.type c.material
/-- KEY_QUERY (R379, R397). -/
@[noinline] def State.keyQuery (s : State) (src : JobSrc) (d : Desc) (io : JobIo) : State :=
  let fin (s : State) (out : Bytes) : State :=
    if cOutLen d < out.length then s.celFail src 0x24 stBadLength 0
    else if io.writeFault then s.celFail src 0x24 stLengthShort 0
    else s.celRun { celOp src 0x24 0 (cOutAddr d) out none with key := cHandle d }
  if hGen (cHandle d) = 0 then
    (match s.protectedKey (cHandle d) with
     | some (t, k) => if src.issuer = 0 then fin s (queryOut { KeyCtx.zero with type := t, mlen := k.length, material := k })
                      else s.celFail src 0x24 stStateForbids 0
     | none => s.celFail src 0x24 stStateForbids 0)
  else s.withKey src 0x24 (cHandle d) none (fun s c => fin s (queryOut c))

/-- KEY_DERIVE (R362, R397): the parent is a KMAC_KEY or a BDK. -/
@[noinline] def State.keyDerive (s : State) (src : JobSrc) (d : Desc) (io : JobIo) : State :=
  s.withKey src 0x25 (cHandle d) (some 5) (fun s c =>
    if s.secretRight || (c.type != 3 && c.type != 0xC) then s.celFail src 0x25 stStateForbids 0
    else
      let m := kmac256 c.material (io.data.take (cInLen d)) (typeLen (cType d)) (ascii "MX-KDRV")
      s.withSlot src 0x25 .loaded (s.newCtx src.issuer d m)
        (fun s h => s.celUseRun (cHandle d) (celOp src 0x25 h.toNat 0 [] none)))
/-- KEY_IMPORT (R362, R397; it counts in neither UNWRAP register: DEDUCED, log 116): a record sealed under the key of HANDLE; OWNER and DOMAIN become the importing issuer's. -/
@[noinline] def State.keyImport (s : State) (src : JobSrc) (d : Desc) (io : JobIo) : State :=
  if !blobFieldsOk io.data then s.celFail src 0x27 stBadOpcode 0
  else if s.lcf.transit.isSome || s.secretRight || s.ownerSecret.isNone then s.celFail src 0x27 stStateForbids 0
  else s.withKey src 0x27 (cHandle d) (some 1) (fun s k =>
    if k.type ≠ 1 then s.celFail src 0x27 stStateForbids 0
    else if (s.allocAt src.issuer).isNone then (s.noSlot src.issuer).celFail src 0x27 stNoSlot 0
    else match openBlob k.material s.cel.bootNonce io.data with
      | none => (s.count (evCel 1)).celFail src 0x27 stAuthFail 0
      | some c =>
        s.withSlot src 0x27 .loaded { c with owner := src.issuer, domain := domainOf src.issuer, epoch := s.blobEpoch (domainOf src.issuer) }
          (fun s h => s.celUseRun (cHandle d) (celOp src 0x27 h.toNat 0 [] none)))

/-- AES_SEAL (R397): the first PARAM bytes of the input are the associated data; the drawn IV is written first, then the
ciphertext and the tag. -/
@[noinline] def State.aesSeal (s : State) (src : JobSrc) (d : Desc) (io : JobIo) : State :=
  s.withKey src 0x28 (cHandle d) (some 0) (fun s c =>
    if c.type ≠ 1 then s.celFail src 0x28 stStateForbids 0
    else if cInLen d < cParam d ∨ cOutLen d < cInLen d - cParam d + 28 then s.celFail src 0x28 stBadLength 0
    else if io.writeFault then s.celFail src 0x28 stLengthShort 0
    else
      let x := io.data.take (cInLen d)
      let iv := s.draw 12
      let r := gcmSeal c.material iv (x.take (cParam d)) (x.drop (cParam d))
      s.drew.celUseRun (cHandle d) (celOp src 0x28 0 (cOutAddr d) (iv ++ r.1 ++ r.2) none))
/-- AES_OPEN (R397): associated data, IV, ciphertext and tag; the plaintext is written only if the tag verifies. -/
@[noinline] def State.aesOpen (s : State) (src : JobSrc) (d : Desc) (io : JobIo) : State :=
  s.withKey src 0x29 (cHandle d) (some 1) (fun s c =>
    if c.type ≠ 1 then s.celFail src 0x29 stStateForbids 0
    else if cInLen d < cParam d + 28 ∨ cOutLen d < cInLen d - cParam d - 28 then s.celFail src 0x29 stBadLength 0
    else if io.writeFault then s.celFail src 0x29 stLengthShort 0
    else
      let x := io.data.take (cInLen d)
      let n := cInLen d - cParam d - 28
      match gcmOpen c.material (Bytes.slice x (cParam d) 12) (x.take (cParam d)) (Bytes.slice x (cParam d + 12) n)
          (Bytes.slice x (cParam d + 12 + n) 16) with
      | some p => s.celUseRun (cHandle d) (celOp src 0x29 0 (cOutAddr d) p none)
      | none => s.celUseRun (cHandle d) { celOp src 0x29 0 0 [] none with status := stAuthFail })

/-- A signature of a type over a message or digest with a draw (R398). -/
def signOf (t : Nat) (material msg r : Bytes) (isDigest : Bool) : Bytes :=
  if t = 5 then Config.take 64 (Config.ecdsaSignByte 256 material (if isDigest then msg else sha256 msg) r)
  else if t = 6 then Config.take 96 (Config.ecdsaSignByte 384 material (if isDigest then msg else sha384 msg) r)
  else if t = 7 then Config.take 3309 (Config.mldsaSignByte 65 material msg r)
  else Config.take 4627 (Config.mldsaSignByte 87 material msg r)
/-- PK_SIGN with a type and material (R398). -/
@[noinline] def State.signWith (s : State) (src : JobSrc) (d : Desc) (io : JobIo) (t : Nat) (material : Bytes) (h : Option Word) : State :=
  let dig := cParam d % 2 == 1
  if 1 < cParam d ∨ (dig ∧ (t = 7 ∨ t = 8)) then s.celFail src 0x2A stBadOpcode 0
  else if sigLen t = 0 then s.celFail src 0x2A stStateForbids 0
  else if cOutLen d < sigLen t ∨ (dig ∧ cInLen d ≠ (if t = 5 then 32 else 48)) then s.celFail src 0x2A stBadLength 0
  else if io.writeFault then s.celFail src 0x2A stLengthShort 0
  else
    let o := celOp src 0x2A 0 (cOutAddr d) (signOf t material (io.data.take (cInLen d)) (s.draw 32) dig) none
    match h with
    | some h => s.drew.celUseRun h o
    | none => s.drew.celRun o
/-- PK_SIGN (R379, R398): the protected handles are hart 0's. -/
@[noinline] def State.pkSign (s : State) (src : JobSrc) (d : Desc) (io : JobIo) : State :=
  if hGen (cHandle d) = 0 then
    (match s.protectedKey (cHandle d) with
     | some (t, k) => if src.issuer = 0 ∧ t ≠ 0xF then s.signWith src d io t k none else s.celFail src 0x2A stStateForbids 0
     | none => s.celFail src 0x2A stStateForbids 0)
  else s.withKey src 0x2A (cHandle d) (some 4) (fun s c => s.signWith src d io c.type c.material (some (cHandle d)))
/-- PK_VERIFY (R397, R398). -/
@[noinline] def State.pkVerify (s : State) (src : JobSrc) (d : Desc) (io : JobIo) : State :=
  if 1 < cParam d ∨ (cParam d = 1 ∧ (cType d = 7 ∨ cType d = 8)) then s.celFail src 0x2B stBadOpcode 0
  else if Config.pkInputOk (cType d) (cParam d) (io.data.take (cInLen d)) then s.celRun (celOp src 0x2B 0 0 [] none)
  else s.celRun { celOp src 0x2B 0 0 [] none with status := stAuthFail }
/-- KEY_EXCHANGE (R397): ECDH or ML-KEM decapsulation into a new context. -/
@[noinline] def State.keyExchange (s : State) (src : JobSrc) (d : Desc) (io : JobIo) : State :=
  s.withKey src 0x2C (cHandle d) (some 8) (fun s c =>
    let peer := io.data.take (cInLen d)
    if c.type ≠ 0xE ∧ c.type ≠ 0xF then s.celFail src 0x2C stStateForbids 0
    else if !Config.kexPeerOk c.type peer then s.celFail src 0x2C stAuthFail 0
    else
      let m := Config.take (typeLen (cType d)) (Config.kexSecretByte c.type c.material peer)
      s.withSlot src 0x2C .loaded (s.newCtx src.issuer d m)
        (fun s h => s.celUseRun (cHandle d) (celOp src 0x2C h.toNat 0 [] none)))
/-- KEY_ENCAPS (R397): ML-KEM-1024 to a peer key; ciphertext out, secret into a new context. -/
@[noinline] def State.keyEncaps (s : State) (src : JobSrc) (d : Desc) (io : JobIo) : State :=
  if cInLen d ≠ 1568 ∨ cOutLen d < 1568 then s.celFail src 0x2D stBadLength 0
  else if io.writeFault then s.celFail src 0x2D stLengthShort 0
  else
    let r := s.draw 32
    let peer := io.data.take 1568
    let m := Config.take (typeLen (cType d)) (Config.kemSecretByte peer r)
    s.withSlot src 0x2D .loaded (s.newCtx src.issuer d m)
      (fun s h => s.drew.celRun (celOp src 0x2D h.toNat (cOutAddr d) (Config.take 1568 (Config.kemCtByte peer r)) none))
/-- PROOF (R399). -/
@[noinline] def State.proof (s : State) (src : JobSrc) (d : Desc) (io : JobIo) : State :=
  if cInLen d ≠ 32 ∨ cOutLen d < 32 then s.celFail src 0x2E stBadLength 0
  else s.withKey src 0x2E (cHandle d) (some 9) (fun s c =>
    if c.type ≠ 4 then s.celFail src 0x2E stStateForbids 0
    else if s.cmd.epochPending then s.celFail src 0x2E stBusy 0
    else if io.writeFault then s.celFail src 0x2E stLengthShort 0
    else
      let x := io.data.take 32 ++ s.unitId ++ s.lc ++ leBytes 4 s.cmd.epoch
      s.celUseRun (cHandle d) (celOp src 0x2E 0 (cOutAddr d) (kmac256 c.material x 32 (ascii "MX-PROOF")) none))

/-- KEY_GENERATE (R397). -/
def execKeyGenerate (src : JobSrc) (d : Desc) (io : JobIo) (s : State) : Res :=
  .next (s.job src d 0x20 (fun s => s.celJob src d io (fun s _ => s.keyGenerate src d)))
/-- KEY_LOAD (R395). -/
def execKeyLoad (src : JobSrc) (d : Desc) (io : JobIo) (s : State) : Res :=
  .next (s.job src d 0x21 (fun s => s.celJob src d io (fun s io => s.keyLoad src d io)))
/-- KEY_DERIVE (R397). -/
def execKeyDerive (src : JobSrc) (d : Desc) (io : JobIo) (s : State) : Res :=
  .next (s.job src d 0x25 (fun s => s.celJob src d io (fun s io => s.keyDerive src d io)))
/-- KEY_RESERVE (R402). -/
def execKeyReserve (src : JobSrc) (d : Desc) (io : JobIo) (s : State) : Res :=
  .next (s.job src d 0x26 (fun s => s.celJob src d io (fun s _ => s.keyReserve src d)))
/-- KEY_IMPORT (R397, R452): only the runtime's path for an accepted envelope carries it. -/
def execKeyImport (src : JobSrc) (d : Desc) (io : JobIo) (s : State) : Res :=
  .next (if src.ring < 69 then s else s.job src d 0x27 (fun s => s.celJob src d io (fun s io => s.keyImport src d io)))
/-- AES_SEAL (R397). -/
def execAesSeal (src : JobSrc) (d : Desc) (io : JobIo) (s : State) : Res :=
  .next (s.job src d 0x28 (fun s => s.celJob src d io (fun s io => s.aesSeal src d io)))
/-- AES_OPEN (R397). -/
def execAesOpen (src : JobSrc) (d : Desc) (io : JobIo) (s : State) : Res :=
  .next (s.job src d 0x29 (fun s => s.celJob src d io (fun s io => s.aesOpen src d io)))
/-- PK_SIGN (R398). -/
def execPkSign (src : JobSrc) (d : Desc) (io : JobIo) (s : State) : Res :=
  .next (s.job src d 0x2A (fun s => s.celJob src d io (fun s io => s.pkSign src d io)))
/-- PK_VERIFY (R398). -/
def execPkVerify (src : JobSrc) (d : Desc) (io : JobIo) (s : State) : Res :=
  .next (s.job src d 0x2B (fun s => s.celJob src d io (fun s io => s.pkVerify src d io)))
/-- KEY_EXCHANGE (R397). -/
def execKeyExchange (src : JobSrc) (d : Desc) (io : JobIo) (s : State) : Res :=
  .next (s.job src d 0x2C (fun s => s.celJob src d io (fun s io => s.keyExchange src d io)))
/-- KEY_ENCAPS (R397). -/
def execKeyEncaps (src : JobSrc) (d : Desc) (io : JobIo) (s : State) : Res :=
  .next (s.job src d 0x2D (fun s => s.celJob src d io (fun s io => s.keyEncaps src d io)))
/-- PROOF (R399). -/
def execProof (src : JobSrc) (d : Desc) (io : JobIo) (s : State) : Res :=
  .next (s.job src d 0x2E (fun s => s.celJob src d io (fun s io => s.proof src d io)))

/-- An operation ends (R397): its output and its completion are written, a last use destroys its key, and so does a destruction that waited for
it (R390). -/
@[noinline] def State.celEnd (s : State) (o : CelOp) : State :=
  let s := if o.status = stOk then s.putOut 0x42 o.src o.outAddr o.out else s
  let s := s.complete o.src o.opc o.status o.result o.detail
  let s := if o.pk then { s with cel := { s.cel with pkeDone := s.cel.pkeDone + 1 } } else s
  let s := if o.pk && o.status != stOk then s.count (evCel 10) else s
  (match o.destroy with
  | some h => s.lastUse (wd h)
  | none => s).reap
/-- An uncorrectable error in a context (R391): destroyed; MASK_FAULT and SRAM_UE are counted, operations on it,
digest jobs and TKS jobs that run on it end INTERNAL. -/
@[noinline] def State.celUe (s : State) (i : Nat) : State :=
  if !(s.slot i).live then s
  else
    let h := handleOf i (s.slot i).gen
    let ops := s.cel.ops.map (fun o => if o.key = h ∨ o.result = h.toNat then { o with status := stInternal, out := [] } else o)
    let run := s.tks.running.map (fun x => (x.1, x.2.map (fun j =>
      if j.handle = h ∨ j.desc.getD 5 0 = h then { j with abort := some stInternal } else j)))
    (((({ s with cel := { s.cel with ops := ops }, tks := { s.tks with running := run } }).destroyFor i stInternal).count (evCel 15)).count (evSys 8))
/-- CELLAR_SRAM_UE (R391). -/
def execCellarSramUe (slot : Nat) (s : State) : Res := .next (s.celUe (slot % 65536))

/-- Every context is destroyed at once by a wipe of the Cellar (R353, R403). -/
@[noinline] def State.celWipe (s : State) : State := s.liveSlots.foldl (fun s x => s.destroyFor x.1 stAborted) s
/-- A tamper response on the Cellar (R403): operations end TAMPERED, the wipe, every later operation TAMPERED. -/
@[noinline] def State.celTamper (s : State) : State :=
  let ops := s.cel.ops
  let s := { s with cel := { s.cel with ops := [], tampered := true } }
  ((ops.foldl (fun s o => s.complete o.src o.opc stTampered 0 0) s).celWipe).count (evCel 0)
/-- Operations of a reset issuer go with its queues (R446); a last use that one had taken destroys its key (R389). -/
@[noinline] def State.celIssuerReset (s : State) (m : Master) : State :=
  let gone := s.cel.ops.filter (fun o => o.src.issuer == m)
  let s := { s with cel := { s.cel with ops := s.cel.ops.filter (fun o => o.src.issuer != m) } }
  (gone.foldl (fun s o => match o.destroy with | some h => s.lastUse (wd h) | none => s) s).reap

end Sys2Proof.Machine
end

