-- ==== Sys2Proof/Machine/Measure.lean ====
section
/-! DEFINITION. Measurement slots, the extend unit and the log, and the measurement operations (R409 to R427). -/
namespace Sys2Proof.Machine

/-- LOG_COUNT. -/
def State.logCount (s : State) : Nat := s.meas.log.length
/-- An issuer may extend a slot (R409). -/
def State.mayExtend (s : State) (m : Master) (slot : Nat) : Bool :=
  if slot < 2 ∨ 63 < slot then false
  else if slot < 32 then m == 0
  else (s.mslot slot).defined && (m == 0 || m == (s.mslot slot).extender)
/-- An entry type is allowed to an issuer on a slot (R409, R413). -/
def extTypeOk (m : Master) (type : Nat) : Bool := if m = 0 then decide (0x40 ≤ type) else decide (0x80 ≤ type)

/-- A log entry (R411). -/
def logEntry (e : MEntry) (count stamp : Nat) : Bytes :=
  leBytes 1 e.slot ++ leBytes 1 e.type ++ [e.source] ++ leBytes 1 e.late.toNat ++ leBytes 4 count ++ leBytes 6 stamp ++
  leBytes 2 e.info ++ Bytes.fit e.data 48
/-- The part of an entry that enters the value (R412). -/
def extendDigest (entry : Bytes) : Bytes := sha384 (Bytes.slice entry 0 4 ++ Bytes.slice entry 0x0E 50)
/-- Append an entry to the log (R420). -/
@[noinline] def State.appendLog (s : State) (b : Bytes) : State := { s with meas := { s.meas with log := s.meas.log ++ [b] } }
/-- The LOG_FULL entry (R420). -/
def State.logFull (s : State) : Bytes := leBytes 1 0xFF ++ leBytes 1 0x3F ++ zeros 6 ++ leBytes 6 s.lineStamp ++ zeros 50
/-- Apply one extend (R412, R420); DEDUCED (log 115): the first that finds only entry 8,191 left takes none and writes LOG_FULL there (R440). -/
@[noinline] def State.applyExtend (s : State) (e : MEntry) : State :=
  let x := s.mslot e.slot
  let n := satInc x.count
  let b := logEntry e n.toNat s.lineStamp
  let y := { x with value := sha384 (x.value ++ extendDigest b), count := n }
  if s.logCount < 8191 then (s.setMslot e.slot y).appendLog b
  else
    let s := s.setMslot e.slot { y with unlogged := satInc x.unlogged }
    if s.logCount = 8191 then s.appendLog s.logFull else s
/-- The extend unit takes its next entry: the hardware queue first (R417 to R419). -/
@[noinline] def State.extendNext (s : State) : State :=
  match s.meas.hwq with
  | e :: rest =>
    let s := { s with meas := { s.meas with hwq := rest ++ s.meas.hwLate.take 1, hwLate := s.meas.hwLate.drop 1 } }
    s.applyExtend e
  | [] =>
    match s.meas.reqq with
    | [] => s
    | e :: rest =>
      let s := ({ s with meas := { s.meas with reqq := rest } }).applyExtend e
      match e.job with
      | some src => s.complete src 0x30 stOk 0 0
      | none => s
/-- The extend unit takes everything that waits, in its order. -/
@[noinline] def State.extendAll (s : State) : State :=
  (List.range (s.meas.hwq.length + s.meas.hwLate.length + s.meas.reqq.length)).foldl (fun s _ => s.extendNext) s
/-- EXTEND_APPLY (R417). -/
def execExtendApply (s : State) : Res := .next s.extendNext

/-- Put a request into the request queue (R417). -/
@[noinline] def State.askExtend (s : State) (e : MEntry) : State := { s with meas := { s.meas with reqq := s.meas.reqq ++ [e] } }
/-- The request queue is full (R418). -/
def State.reqFull (s : State) : Bool := decide (16 ≤ s.meas.reqq.length)

/-! ### Operations -/

/-- SLOT. -/
def mSlot (d : Desc) : Nat := dnum d 16 1
/-- TYPE, KIND or DEST. -/
def mType (d : Desc) : Nat := dnum d 17 1
/-- INFO. -/
def mInfo (d : Desc) : Nat := dnum d 18 2
/-- PARAM. -/
def mParam (d : Desc) : Nat := (dw d 5).toNat
/-- IN_LEN. -/
def mInLen (d : Desc) : Nat := (dw d 8).toNat
/-- OUT_ADDR. -/
def mOutAddr (d : Desc) : Nat := dnum d 40 8
/-- OUT_LEN. -/
def mOutLen (d : Desc) : Nat := (dw d 12).toNat
/-- Fields that a measurement operation does not use are 0, and its reserved fields (R421, R424). -/
def measFieldsOk (d : Desc) : Bool :=
  let z := dheadOk d && dw d 9 == 0 && dw d 13 == 0
  let inp := dw d 6 == 0 && dw d 7 == 0 && mInLen d == 0
  let out := mOutAddr d == 0 && mOutLen d == 0
  let aux := dw d 14 == 0 && dw d 15 == 0
  z && (if dopc d = 0x30 then mParam d == 0 && out && aux
    else if dopc d = 0x31 then mSlot d == 0 && inp && aux && (mType d == 1 || (mInfo d == 0 && mParam d == 0))
    else if dopc d = 0x32 then mInfo d == 0 && mParam d == 0
    else mType d == 0 && mInfo d == 0 && inp && out && aux)

/-- COUNT of a scan list. -/
def scanCount (l : Bytes) : Nat := Bytes.num l 6 2
/-- COMPARE of range `i`. -/
def scanCmp (l : Bytes) (i : Nat) : Bool := (Bytes.num l (44 + 16 * i) 4).testBit 0
/-- The expected digests that a hart's scan needs, each read from core memory (R428, R429): the list digest for COMPARE, that of a range with
COMPARE = 1; none where one of these reads fails. -/
def State.hartExpect (s : State) (h : Nat) (d : Desc) (l : Bytes) : Option Bytes :=
  (List.range (scanCount l + 1)).foldl (fun a k =>
    if (if k = 0 then mType d == 1 else scanCmp l (k - 1)) then a.bind (fun b => (s.hartRead h (dnum d 56 8 + 48 * k) 48).map (fun x => b ++ x))
    else a.map (fun b => b ++ zeros 48)) (some [])
/-- What a measurement operation reads and may write (R421, R502): a hart's from core memory, the expected digests that it needs too. -/
def State.measIo (s : State) (src : JobSrc) (d : Desc) (io : JobIo) : JobIo :=
  let io := s.jobIo src io (dnum d 24 8) (mInLen d) (mOutAddr d) (mOutLen d)
  if isHart src.issuer && dopc d == 0x32 then
    let b := s.hartExpect src.issuer.toNat d io.data
    { io with aux := b.getD [], auxFault := b.isNone }
  else io
/-- MEAS_EXTEND (R422, R424). -/
@[noinline] def State.measExtend (s : State) (src : JobSrc) (d : Desc) (io : JobIo) : State :=
  let fin (st : Status) (n : Nat) : State := s.complete src 0x30 st 0 n
  if !measFieldsOk d ∨ !extTypeOk src.issuer (mType d) then fin stBadOpcode 0
  else if mInLen d ≠ 48 then fin stBadLength 0
  else if !s.mayExtend src.issuer (mSlot d) ∨ (16 ≤ mSlot d ∧ mSlot d < 32 ∧ 0x80 ≤ mType d) then fin stStateForbids 0
  else if s.tamp.responded then fin stTampered 0
  else if s.reqFull then fin stBusy 0
  else if io.fault ∨ io.data.length < 48 then fin stLengthShort io.data.length
  else s.askExtend { slot := mSlot d, type := mType d, source := src.issuer, late := false, info := mInfo d,
                     data := io.data.take 48, job := some src }
/-- MEAS_EXTEND (R422). -/
def execMeasExtend (src : JobSrc) (d : Desc) (io : JobIo) (s : State) : Res :=
  .next (s.job src d 0x30 (fun s => s.measExtend src d (s.measIo src d io)))

/-- The record of a slot in a snapshot (R423). -/
def MSlot.record (x : MSlot) : Bytes :=
  Bytes.fit x.value 48 ++ leBytes 4 x.count.toNat ++ leBytes 4 x.unlogged.toNat ++ [x.extender] ++
  leBytes 1 (x.defined.toNat + 2 * x.allowScan.toNat) ++ zeros 6
/-- The snapshot of KIND 0 (R423). -/
def State.snapshot (s : State) : Bytes :=
  leBytes 4 s.logCount ++ leBytes 8 s.lineStamp ++ leBytes 4 s.cmd.epoch ++ s.lc ++ zeros 15 ++
  (List.range 64).flatMap (fun i => (s.mslot i).record)
/-- MEAS_READ (R422 to R424). -/
@[noinline] def State.measRead (s : State) (src : JobSrc) (d : Desc) (io : JobIo) : State :=
  let fin (st : Status) : State := s.complete src 0x31 st 0 0
  if !measFieldsOk d ∨ 1 < mType d then fin stBadOpcode
  else
    let n := if mType d = 0 then 4128 else 64 * mParam d
    if mOutLen d < n ∨ (mType d = 1 ∧ (mParam d = 0 ∨ 8192 < mInfo d + mParam d)) then fin stBadLength
    else if s.tamp.responded then fin stTampered
    else if io.writeFault then fin stLengthShort
    else
      let out := if mType d = 0 then s.snapshot else (List.range (mParam d)).flatMap (fun i => s.logAt (mInfo d + i))
      (s.putOut 0x44 src (mOutAddr d) out).complete src 0x31 stOk s.logCount 0
/-- MEAS_READ (R422). -/
def execMeasRead (src : JobSrc) (d : Desc) (io : JobIo) (s : State) : Res := .next (s.job src d 0x31 (fun s => s.measRead src d (s.measIo src d io)))

/-- MEAS_DEFINE (R422, R424). -/
@[noinline] def State.measDefine (s : State) (src : JobSrc) (d : Desc) : State :=
  let fin (st : Status) : State := s.complete src 0x33 st 0 0
  let ext : Master := BitVec.ofNat 8 (mParam d)
  if !measFieldsOk d ∨ 511 < mParam d ∨ !(isPcie ext || ext == 0x20) then fin stBadOpcode
  else if src.issuer ≠ 0 ∨ mSlot d < 32 ∨ 63 < mSlot d ∨ (s.mslot (mSlot d)).defined then fin stStateForbids
  else if s.tamp.responded then fin stTampered
  else (s.setMslot (mSlot d) { s.mslot (mSlot d) with defined := true, extender := ext, allowScan := (mParam d).testBit 8 }).complete
    src 0x33 stOk 0 0
/-- MEAS_DEFINE (R422). -/
def execMeasDefine (src : JobSrc) (d : Desc) (io : JobIo) (s : State) : Res := .next (s.job src d 0x33 (fun s => s.measDefine src d))

/-- ALG of a scan list. -/
def scanAlg (l : Bytes) : Nat := Bytes.num l 8 1
/-- LEN of range `i`. -/
def scanLen (l : Bytes) (i : Nat) : Nat := Bytes.num l (40 + 16 * i) 4
/-- The header and entries of a scan list are right (R425). -/
def scanListOk (l : Bytes) : Bool :=
  Bytes.num l 0 4 == 0x4E414353 && Bytes.num l 4 2 == 1 && decide (1 ≤ scanCount l) && decide (scanCount l ≤ 1024) &&
  (scanAlg l == 2 || scanAlg l == 5) && allZero (Bytes.slice l 9 23) &&
  (List.range (scanCount l)).all (fun i => decide (1 ≤ scanLen l i) && decide (Bytes.num l (44 + 16 * i) 4 ≤ 1))
/-- An issuer may scan (R422): PF0, hart 0, or the extender of a DEFINED slot with ALLOW_SCAN; into a slot only as R409 lets it. -/
def State.mayScan (s : State) (m : Master) (d : Desc) : Bool :=
  let ext := (List.range 32).any (fun k => let x := s.mslot (32 + k)
    x.defined && x.allowScan && x.extender == m)
  (m == 0x10 || m == 0 || ext) &&
    (mType d != 2 || (s.mayExtend m (mSlot d) && (m == 0x10 || m == 0 || (s.mslot (mSlot d)).allowScan)))
/-- The lengths of a scan agree with the COUNT of its list, as far as the header has arrived (R426). -/
def scanLenOk (d : Desc) (l : Bytes) : Bool :=
  decide (48 ≤ mInLen d) && decide (mInLen d ≤ 16416) &&
  (decide (l.length < 32) || (mInLen d == 32 + 16 * scanCount l && (mOutLen d == 0 || decide (64 + 64 * scanCount l ≤ mOutLen d))))
/-- MEAS_SCAN is accepted and waits, or completes at its first failed check (R424 to R427). -/
@[noinline] def State.measScan (s : State) (src : JobSrc) (d : Desc) (io : JobIo) : State :=
  let fin (st : Status) : State := s.complete src 0x32 st 0 0
  if !measFieldsOk d ∨ 2 < mType d then fin stBadOpcode
  else if !scanLenOk d io.data then fin stBadLength
  else if 63 < mSlot d ∨ !s.mayScan src.issuer d then fin stStateForbids
  else if s.tamp.responded then fin stTampered
  else if 8 ≤ s.meas.scans.length ∨ (mType d = 2 ∧ s.reqFull) then fin stBusy
  else if io.fault ∨ io.data.length < mInLen d then s.complete src 0x32 stLengthShort 0 io.data.length
  else if !scanListOk io.data then fin stBadOpcode
  else { s with meas := { s.meas with scans := s.meas.scans ++
    [{ src, desc := d, list := io.data, expect := io.aux, expectFault := io.auxFault, next := 0, ends := [] }] } }
/-- MEAS_SCAN (R422). -/
def execMeasScan (src : JobSrc) (d : Desc) (io : JobIo) (s : State) : Res := .next (s.job src d 0x32 (fun s => s.measScan src d (s.measIo src d io)))

end Sys2Proof.Machine
end

