-- ==== Sys2Proof/Machine/Digest.lean ====
section
/-! DEFINITION. Digest contexts, jobs and lanes (R277 to R301). -/
namespace Sys2Proof.Machine

/-- FLAGS of a digest descriptor. -/
def dFlags (d : Desc) : Nat := dnum d 17 1
/-- ALG. -/
def dAlg (d : Desc) : Nat := dnum d 16 1
/-- START. -/
def dStart (d : Desc) : Bool := (dFlags d).testBit 0
/-- FINAL. -/
def dFinal (d : Desc) : Bool := (dFlags d).testBit 1
/-- SGL. -/
def dSgl (d : Desc) : Bool := (dFlags d).testBit 2
/-- DISCARD. -/
def dDiscard (d : Desc) : Bool := (dFlags d).testBit 3
/-- DEST. -/
def dDest (d : Desc) : Nat := dnum d 18 1
/-- CUST_LEN. -/
def dCust (d : Desc) : Nat := dnum d 19 1
/-- CTX. -/
def dCtx (d : Desc) : Nat := dnum d 20 2
/-- OUT_LEN. -/
def dOutLen (d : Desc) : Nat := dnum d 22 2
/-- DATA_LEN. -/
def dLen (d : Desc) : Nat := (dw d 8).toNat
/-- KEY. -/
def dKey (d : Desc) : Word := dw d 9
/-- DATA_ADDR. -/
def dDataAddr (d : Desc) : Nat := dnum d 24 8
/-- CUST_ADDR. -/
def dCustAddr (d : Desc) : Nat := dnum d 48 8
/-- SGL_COUNT. -/
def dSglCount (d : Desc) : Nat := dnum d 60 2
/-- A keyed algorithm. -/
def keyedAlg (a : Nat) : Bool := decide (9 ≤ a) && decide (a ≤ 0xD)
/-- An algorithm whose output length the job gives (R277). -/
def xofAlg (a : Nat) : Bool := a == 7 || a == 8 || a == 0xC || a == 0xD

/-- General contexts that an issuer may hold at once (R281). -/
def ctxLimit (m : Master) : Option Nat :=
  if m = 0x10 then some 64
  else if isPcie m then some 8
  else if m = 0x20 then some 4
  else if m = 0x44 then some 32
  else if m = 0x43 then some 16
  else if m = 0x42 ∨ m = 0x45 then some 8
  else none
/-- Contexts that an issuer holds. -/
def State.ctxHeld (s : State) (m : Master) : Nat := (s.dgl.ctxs.filter (fun x => x.2.st != .free && x.2.owner == m)).length
/-- The context that a START takes (R279, R281): the lowest FREE one of the pool. -/
def State.ctxAlloc (s : State) (m : Master) : Option Nat :=
  if (match ctxLimit m with | some n => decide (n ≤ s.ctxHeld m) | none => false) then none
  else ((List.range 222).map (· + 34)).find? (fun i => (s.dctx i).st == .free)
/-- A handle of a context (R280). -/
def ctxHandle (i gen : Nat) : Nat := i + 256 * gen
/-- A context goes back to the pool (R280): GEN advances; the last use of its key has ended (R389). -/
@[noinline] def State.ctxFree (s : State) (i : Nat) : State :=
  let c := s.dctx i
  if c.st = .free then s
  else
    let s := s.setDctx i { DCtx.reset with gen := (c.gen + 1) % 256 }
    if c.last then s.lastUse c.key else s

/-! ### Acceptance -/

/-- The first failed check of a descriptor (R288), before the context and the key. -/
def digShape (d : Desc) : Status :=
  let a := dAlg d
  if !dheadOk d ∨ a = 0 ∨ 0xD < a ∨ 15 < dFlags d ∨ 3 < dDest d ∨ dnum d 62 2 ≠ 0 ∨ (dDiscard d ∧ dStart d) then stBadOpcode
  else if (xofAlg a ∧ (dOutLen d = 0 ∨ 64 < dOutLen d)) ∨ (!xofAlg a ∧ dOutLen d ≠ 0) ∨ (a < 0xC ∧ dCust d ≠ 0) ∨
      (dSgl d ∧ (dSglCount d = 0 ∨ 256 < dSglCount d)) ∨ (!dSgl d ∧ dSglCount d ≠ 0) then stBadLength
  else stOk
/-- The checks of a context that a descriptor names (R288). -/
def State.ctxCheck (s : State) (m : Master) (handle : Nat) (alg : Option Nat) : Status :=
  let i := handle % 256
  let c := s.dctx i
  if i < 34 ∨ c.gen ≠ handle / 256 ∨ c.st = .free then stStaleHandle
  else if c.owner ≠ m then stStateForbids
  else match alg with
    | some a => if c.alg ≠ a then stStateForbids else stOk
    | none => stOk
/-- The key of a continuation (R288): as at START, but for the uses, of which only START takes one. -/
def State.digKeyOn (s : State) (m : Master) (h : Word) : Status :=
  let x := s.slot (hSlot h)
  if hGen h = 0 then stStateForbids
  else if !s.liveH h then stStaleHandle
  else if x.ctx.owner ≠ m ∨ x.st ≠ .loaded ∨ !x.ctx.ops.testBit 2 then stStateForbids
  else stOk
/-- The checks of the key of a keyed job and of the destination CELLAR (R288), a derivation that no secret right allows (R362). -/
def State.digKey (s : State) (m : Master) (d : Desc) : Status :=
  let a := dAlg d
  let k := s.keyFor m (dKey d) (some 2)
  let st := if dStart d then k.1 else s.digKeyOn m (dKey d)
  if keyedAlg a ∧ st ≠ stOk then st
  else if keyedAlg a ∧ dStart d ∧ k.2.type ≠ (if a < 0xC then 2 else 3) then stStateForbids
  else if dFinal d ∧ dDest d = 3 ∧ (!keyedAlg a ∨ !((s.slot (hSlot (dKey d))).ctx.ops.testBit 5) ∨ s.secretRight) then stStateForbids
  else stOk
/-- A job of a general context joins the tail of the ready list (R293). -/
@[noinline] def State.enqueueJob (s : State) (j : DJob) : State :=
  let c := s.dctx j.ctx
  (if c.st = .idle then s.setDctx j.ctx { c with st := .queued } else s).readyJob j
/-- The job of a descriptor on a context. -/
def State.djob (s : State) (src : JobSrc) (d : Desc) (ctx : Nat) (discard : Bool) : DJob :=
  { kind := .user, src, ctx, alg := dAlg d, start := dStart d, final := dFinal d, discard, dest := dDest d, destArg := dw d 14,
    dataLen := dLen d, dataAddr := dDataAddr d, sgl := if dSgl d then some (dSglCount d) else none, outAddr := dnum d 40 8,
    custAddr := dCustAddr d, custLen := dCust d, prio := s.jobPrio src, suspended := false, abort := none, ranOn := none, absorbed := 0 }
/-- JOB_DONE, and JOB_ERR with LANE_ERR, on the lane that ran a job's last block (R300); a job that reached no lane counts nothing, nor
does one of a permanent context. -/
@[noinline] def State.laneEnd (s : State) (j : DJob) (st : Status) : State :=
  match j.kind, j.ranOn with
  | .perm, _ => s
  | _, none => s
  | _, some n =>
    let s := (s.incReg (pg (0x40 + n) 0x50)).count (evLane n 0)
    if st = stOk ∨ st = stLengthLong then s
    else (s.setReg (pg (0x40 + n) 0x58) (fld st.toNat 0 ||| fld j.ctx 8 ||| fld j.src.issuer.toNat 16 ||| fld j.alg 24)).count (evLane n 1)
/-- The HMAC of a pipeline's job has ended (R572): one that failed ends that job. -/
@[noinline] def State.macOver (s : State) (p : Nat) (st : Status) : State :=
  if st = stOk then s
  else { s with tks := { s.tks with running := s.tks.running.map (fun x =>
    if x.1 = p then (x.1, x.2.map (fun j => { j with abort := some st })) else x) } }
/-- A range of the running scan ended without a digest, with a status (R284, R429). -/
@[noinline] def State.rangeFault (s : State) (i : Nat) (st : Status) : State :=
  match s.meas.scan with
  | none => s
  | some x =>
    if x.ends.any (fun e => e.1 == i) then s
    else { s with meas := { s.meas with scan := some { x with ends := x.ends ++ [(i, { digest := [], len := 0, st := st })] } } }
/-- A job ends with a status: its lane counts, its mark goes, and its submitter gets the completion. -/
@[noinline] def State.jobOver (s : State) (j : DJob) (st : Status) (res det : Nat) : State :=
  let s := (s.laneEnd j st).unmark j.ctx
  match j.kind with
  | .user => s.complete j.src 0x10 st res det
  | .mac p => s.macOver p st
  | .perm => s
  | .range i => if st = stOk then s else s.rangeFault i st
/-- Jobs of a general context that no lane holds are settled in order until one can run (R284, R287, R289, R301): a DISCARD frees it, a
job on a FREE one is stale, one that was to end ends so, and one on a POISONED one is aborted. -/
@[noinline] def State.settle (s : State) (i fuel : Nat) : State :=
  match fuel with
  | 0 => s
  | k + 1 =>
    if s.ctxRuns i ∨ i < 34 then s
    else match s.dgl.ready.find? (fun j => j.ctx == i) with
      | none => s
      | some j =>
        let t := { s with dgl := { s.dgl with ready := s.dgl.ready.erase j } }
        let c := s.dctx i
        if c.st = .free then (t.jobOver j stStaleHandle 0 0).settle i k
        else if j.discard then ((t.ctxFree i).jobOver j stOk 0 0).settle i k
        else if c.st = .poisoned ∨ j.abort.isSome then
          ((if j.final then t.ctxFree i else t).jobOver j (j.abort.getD stAborted) 0 0).settle i k
        else if j.suspended || c.st == .queued then s
        else (s.setDctx i { c with st := .queued }).wantLane j
/-- Settle every job of a context. -/
@[noinline] def State.settleAll (s : State) (i : Nat) : State := s.settle i (s.dgl.ready.length + 1)

/-! ### Lanes -/

/-- A job starts on a lane (R293); the marks for it elsewhere are withdrawn (R301). -/
@[noinline] def State.laneTake (s : State) (n : Nat) (j : DJob) : State :=
  let s := (s.unmark j.ctx).setLane n { job := some { j with suspended := false, ranOn := some n }, since := s.dgl.order, marked := none }
  let s := { s with dgl := { s.dgl with order := s.dgl.order + 1, ready := s.dgl.ready.erase j } }
  if j.kind = .perm then s else s.setDctx j.ctx { s.dctx j.ctx with st := .running }
/-- A free lane takes the ready job of highest priority among those it may run (R293); one whose context is poisoned ends instead (R289). -/
@[noinline] def State.laneStart (s : State) (n : Nat) : State :=
  if (s.lane n).job.isNone then
    (match s.bestJob n with
     | some j => if j.kind ≠ .perm ∧ (s.dctx j.ctx).st = .poisoned then s.settleAll j.ctx else s.laneTake n j
     | none => s)
  else s
/-- A job leaves its lane at a block boundary and returns to the head of the ready list (R293). -/
@[noinline] def State.laneSuspend (s : State) (n : Nat) (j : DJob) : State :=
  let k := s.partBytes j
  let s := ((s.setLane n Lane.reset).laneAbsorb n k).freed
  let s := { s with dgl := { s.dgl with ready := { j with suspended := true, absorbed := j.absorbed + k } :: s.dgl.ready } }
  let s := if j.kind = .perm ∨ (s.dctx j.ctx).st = .poisoned then s else s.setDctx j.ctx { s.dctx j.ctx with st := .suspended }
  s.incReg (pg (0x40 + n) 0x54)
/-- A lane keeps the job it holds (R299): one that stops being reserved finishes its permanent context, an offline one nothing. -/
def State.laneKeeps (s : State) (n : Nat) (j : DJob) : Bool :=
  if j.kind = .perm then s.laneOn n && !s.bitOf (pg (0x40 + n) 0x40) 1 else s.laneRuns n
/-- A marked lane, or one that may no longer run its job, suspends it at a block boundary and takes the best job; the suspended job is
ready again and looks for a lane itself (R294, R299, R301). -/
@[noinline] def State.lanePreempt (s : State) (n : Nat) : State :=
  match (s.lane n).job with
  | none => s
  | some j =>
    if (s.lane n).marked.isSome || !s.laneKeeps n j then
      let t := ((s.laneSuspend n j).settleAll j.ctx).laneStart n
      t.wantLanes
    else s
/-- DIGEST_JOB_START (R293). -/
def execDigestJobStart (lane : Fin 16) (s : State) : Res := .next (s.laneStart lane.val)
/-- LANE_PREEMPT (R294). -/
def execLanePreempt (lane : Fin 16) (s : State) : Res := .next (s.lanePreempt lane.val)

/-! ### Accepted jobs -/

/-- DIGEST_JOB: the checks of R288, then the context and the ready list (R287 to R289). -/
@[noinline] def State.digAccept (s : State) (src : JobSrc) (d : Desc) : State :=
  let fin (s : State) (st : Status) : State := s.complete src 0x10 st 0 0
  let key (s : State) (st : Status) : State := fin (if st = stStaleHandle then s.count (evCel 14) else s) st
  if s.cel.tampered then fin s stTampered
  else if digShape d ≠ stOk then fin s (digShape d)
  else if dStart d then
    (match s.ctxAlloc src.issuer with
     | none => fin s stBusy
     | some i =>
       if s.digKey src.issuer d ≠ stOk then key s (s.digKey src.issuer d)
       else
         let u := if keyedAlg (dAlg d) then s.takeUse (dKey d) else (s, false)
         let c := { DCtx.reset with st := .idle, alg := dAlg d, gen := (s.dctx i).gen, owner := src.issuer, outLen := dOutLen d,
                                    key := if keyedAlg (dAlg d) then dKey d else 0, last := u.2 }
         (u.1.setDctx i c).enqueueJob (s.djob src d i false))
  else
    let st := s.ctxCheck src.issuer (dCtx d) (some (dAlg d))
    if st ≠ stOk then fin s st
    else if (s.dctx (dCtx d % 256)).st ≠ .poisoned ∧ s.digKey src.issuer d ≠ stOk then key s (s.digKey src.issuer d)
    else
      let i := dCtx d % 256
      let c := s.dctx i
      if c.st = .poisoned ∧ !s.ctxRuns i ∧ !(s.dgl.ready.any (fun j => j.ctx == i)) then
        (if dFinal d then (s.ctxFree i).complete src 0x10 stAborted 0 0 else s.complete src 0x10 stAborted 0 0)
      else s.enqueueJob (s.djob src d i false)
/-- DIGEST_JOB (R285 to R289). -/
def execDigestJob (src : JobSrc) (d : Desc) (s : State) : Res :=
  .next (if dDiscard d && !dStart d then s else s.job src d 0x10 (fun s => s.digAccept src d))
/-- A DISCARD (R287, R301): it waits behind the jobs pending on its context. -/
@[noinline] def State.digDiscard (s : State) (src : JobSrc) (d : Desc) : State :=
  let st := s.ctxCheck src.issuer (dCtx d) none
  if s.cel.tampered then s.complete src 0x10 stTampered 0 0
  else if st ≠ stOk then s.complete src 0x10 st 0 0
  else
    let i := dCtx d % 256
    let s := { s with dgl := { s.dgl with ready := s.dgl.ready ++ [s.djob src d i true] } }
    s.settleAll i
/-- DIGEST_DISCARD (R287). -/
def execDigestDiscard (src : JobSrc) (d : Desc) (s : State) : Res :=
  .next (if dDiscard d && !dStart d then s.job src d 0x10 (fun s => s.digDiscard src d) else s)

/-! ### The end of a job -/

/-- The result of a context's message: its digest under its algorithm, key and customisation string (R277, R278). -/
def State.digResult (s : State) (c : DCtx) : Bytes :=
  let k := (s.slot (hSlot c.key)).ctx.material
  digestOf c.alg c.outLen k c.cust c.msg
/-- A result fills a RESERVED Cellar slot (R296, R362, R402): the status, and the state where it is filled. -/
def State.fillSlot (s : State) (m : Master) (h : Word) (r : Bytes) : State × Status :=
  let x := s.slot (hSlot h)
  if hGen h = 0 ∨ s.secretRight then (s, stStateForbids)
  else if !s.liveH h then (s.count (evCel 14), stStaleHandle)
  else if x.ctx.owner ≠ m ∨ x.st ≠ .reserved then (s, stStateForbids)
  else if !mlenOk x.ctx.type r.length then (s, stBadLength)
  else (s.setSlot (hSlot h) { x with st := .loaded, ctx := { x.ctx with material := r, mlen := r.length } }, stOk)
/-- One entry of a scatter list (R286): address and length; its last word is reserved. -/
def sglEntry (l : Bytes) (i : Nat) : Nat × Nat := (Bytes.num l (16 * i) 8, Bytes.num l (16 * i + 8) 4)
/-- Bytes at an address of an issuer: from core memory for a hart, else the next bytes that its reads brought; what is left of those. -/
def State.readAt (s : State) (m : Master) (a n : Nat) (given : Bytes) : Option (Bytes × Bytes) :=
  if isHart m then (s.hartRead m.toNat a n).map (fun b => (b, given))
  else if n ≤ given.length then some (given.take n, given.drop n) else none
/-- The first `left` bytes of scatter entries in order, and whether every read brought its bytes (R286, R290): the rest is not read. -/
def State.gather (s : State) (m : Master) (es : List (Nat × Nat)) (left : Nat) (given : Bytes) : Bytes × Bool :=
  match es with
  | [] => ([], true)
  | e :: t =>
    if left = 0 then ([], true)
    else match s.readAt m e.1 (min e.2 left) given with
      | none => (if isHart m then [] else given, false)
      | some (b, rest) => let r := s.gather m t (left - b.length) rest; (b ++ r.1, r.2)
/-- The data of a job (R285, R286, R290): what was hashed or arrived, whether it came short, and whether the list names more. -/
structure JobData where
  bytes : Bytes
  short : Bool
  long : Bool
/-- The data that a job reads: at DATA_ADDR, or the concatenation of the entries of its scatter list (R286, R290). -/
def State.jobData (s : State) (j : DJob) (io : JobIo) : JobData :=
  let m := j.src.issuer
  let bad := io.fault && !isHart m
  match j.sgl with
  | none =>
    let g := s.gather m [(j.dataAddr, j.dataLen)] j.dataLen io.data
    { bytes := g.1, short := bad || !g.2, long := false }
  | some k =>
    match (if isHart m then s.hartRead m.toNat j.dataAddr (16 * k) else if 16 * k ≤ io.list.length then some io.list else none) with
    | none => { bytes := [], short := true, long := false }
    | some l =>
      let es := (List.range k).map (sglEntry l)
      let total := (es.map (fun e => e.2)).foldl (· + ·) 0
      let g := s.gather m es j.dataLen io.data
      { bytes := g.1, short := bad || !g.2 || decide (total < j.dataLen), long := decide (j.dataLen < total) }
/-- The customisation string of a job (R285): none where its read failed. -/
def State.jobCust (s : State) (j : DJob) (io : JobIo) : Option Bytes :=
  if j.custLen = 0 then some []
  else if isHart j.src.issuer then s.hartRead j.src.issuer.toNat j.custAddr j.custLen
  else if io.auxFault ∨ io.aux.length < j.custLen then none else some (io.aux.take j.custLen)
/-- The expected value of a COMPARE (R296): none where its read failed. -/
def State.jobExpect (s : State) (j : DJob) (io : JobIo) (n : Nat) : Option Bytes :=
  if isHart j.src.issuer then s.hartRead j.src.issuer.toNat j.outAddr n
  else
    let e := io.aux.drop j.custLen
    if io.auxFault ∨ e.length < n then none else some (e.take n)
/-- Deliver the result of a FINAL job (R296): the state and the status. -/
def State.deliverDigest (s : State) (j : DJob) (c : DCtx) (io : JobIo) : State × Status :=
  let r := s.digResult c
  let m := j.src.issuer
  match j.dest with
  | 0 =>
    if (if isHart m then !hartWritable m.toNat j.outAddr r.length else io.writeFault) then (s, stLengthShort)
    else (s.putOut 0x41 j.src j.outAddr r, stOk)
  | 1 =>
    match s.jobExpect j io r.length with
    | none => (s, stLengthShort)
    | some e => (s, if e = r then stOk else stAuthFail)
  | 2 =>
    if !s.mayExtend m j.destArg.toNat then (s, stStateForbids)
    else if r.length ≠ 48 then (s, stBadLength)
    else if s.reqFull then (s, stBusy)
    else (s.askExtend { slot := j.destArg.toNat, type := 0x30, source := m, late := false, info := c.alg, data := r, job := none }, stOk)
  | _ => s.fillSlot m j.destArg r
/-- The end of a job of a descriptor that ran (R287, R290, R296): its context afterwards, its result and its status. -/
@[noinline] def State.jobEnd (s : State) (n : Nat) (j : DJob) (io : JobIo) : State :=
  let c := s.dctx j.ctx
  let s := s.setLane n Lane.reset
  let fin (s : State) (st : Status) (res det : Nat) : State := (s.jobOver j st res det).settleAll j.ctx
  let freeIf (s : State) : State := if j.final then s.ctxFree j.ctx else s
  let d := s.jobData j io
  if j.abort.isSome ∨ c.st = .poisoned then
    fin (freeIf ((s.laneAbsorb n (s.partBytes j)).freed)) (j.abort.getD stAborted) 0 0
  else match (if keyedAlg j.alg && io.keyFault then none else s.jobCust j io), d.short with
    | none, _ => fin (if j.final then s.ctxFree j.ctx else s.setDctx j.ctx { c with st := .poisoned }) stLengthShort 0 0
    | some _, true =>
      let s := s.laneAbsorb n (d.bytes.length - j.absorbed)
      fin (if j.final then s.ctxFree j.ctx else s.setDctx j.ctx { c with st := .poisoned }) stLengthShort 0 d.bytes.length
    | some cust, false =>
      let s := s.laneAbsorb n (j.dataLen - j.absorbed)
      let c := { c with msg := c.msg ++ d.bytes, st := .idle, cust := if j.start then cust else c.cust }
      if j.final then
        let r := s.deliverDigest j c io
        let st := if r.2 = stOk ∧ d.long then stLengthLong else r.2
        fin (r.1.ctxFree j.ctx) st 0 0
      else
        fin (s.setDctx j.ctx c) (if d.long then stLengthLong else stOk) (if j.start then ctxHandle j.ctx c.gen else 0) 0

/-! ### Scan ranges -/

/-- The running scan starts ranges in list order while at most 32 are in flight and contexts of issuer 0x44 are free (R281, R427);
none follows a failed read (R429). -/
@[noinline] def State.scanFill (s : State) (fuel : Nat) : State :=
  match fuel, s.meas.scan with
  | k + 1, some x =>
    if scanCount x.list ≤ x.next ∨ 32 ≤ x.next - x.ends.length ∨ x.ends.any (fun e => e.2.st != stOk) then s
    else match s.ctxAlloc 0x44 with
      | none => s
      | some i =>
        let c := { DCtx.reset with st := .idle, alg := scanAlg x.list, gen := (s.dctx i).gen, owner := 0x44 }
        let s := (s.setDctx i c).enqueueJob
          { kind := .range x.next, src := { issuer := 0x44, ring := 255, slot := 0, tag := 0, cqFail := false }, ctx := i, alg := scanAlg x.list,
            start := true, final := true, discard := false, dest := 0, destArg := 0, dataLen := scanLen x.list x.next,
            dataAddr := Bytes.num x.list (32 + 16 * x.next) 8, sgl := none, outAddr := 0, custAddr := 0, custLen := 0, prio := 2,
            suspended := false, abort := none, ranOn := none, absorbed := 0 }
        ({ s with meas := { s.meas with scan := some { x with next := x.next + 1 } } }).scanFill k
  | _, _ => s
/-- The range of the running scan that a lane hashed has ended (R425, R427 to R429), its bytes read from host memory under 0x44: its digest is kept, its context freed, the next starts. -/
@[noinline] def State.rangeEnd (s : State) (n i : Nat) (j : DJob) (io : JobIo) : State :=
  match s.meas.scan with
  | none => s
  | some x =>
    let d := s.jobData j io
    let e : ScanEnd := { digest := digestOf j.alg 0 [] [] d.bytes, len := d.bytes.length, st := j.abort.getD (if d.short then stLengthShort else stOk) }
    let s := ((s.setLane n Lane.reset).laneAbsorb n (d.bytes.length - j.absorbed)).ctxFree j.ctx
    let s := { s with meas := { s.meas with scan := some { x with ends := x.ends ++ [(i, e)] } } }
    (s.jobOver j e.st 0 0).scanFill 32
/-- A context for the HMAC of a TKS job (R281, R572): one of at most 16. -/
def State.macRoom (s : State) : Bool := (s.ctxAlloc 0x43).isSome
/-- The HMAC of the job that a pipeline holds joins the ready list as issuer 0x43 at priority 2 (R572). -/
@[noinline] def State.macStart (s : State) (p n : Nat) : State :=
  match s.ctxAlloc 0x43 with
  | none => s
  | some i =>
    (s.setDctx i { DCtx.reset with st := .idle, alg := 9, gen := (s.dctx i).gen, owner := 0x43 }).enqueueJob
      { kind := .mac p, src := { issuer := 0x43, ring := 255, slot := 0, tag := 0, cqFail := false }, ctx := i, alg := 9, start := true,
        final := true, discard := false, dest := 0, destArg := 0, dataLen := n, dataAddr := 0, sgl := none, outAddr := 0, custAddr := 0,
        custLen := 0, prio := 2, suspended := false, abort := none, ranOn := none, absorbed := 0 }
/-- The HMAC of a pipeline's job has been hashed on a lane (R572). -/
@[noinline] def State.macEnd (s : State) (n : Nat) (j : DJob) : State :=
  let s := (s.setLane n Lane.reset).laneAbsorb n (j.dataLen - j.absorbed)
  ((s.ctxFree j.ctx).jobOver j (j.abort.getD stOk) 0 0).settleAll j.ctx
/-- The master whose memory a job reads. -/
def State.jobMem (s : State) (j : DJob) : Master :=
  match j.kind, s.meas.scan with
  | .range _, some x => x.src.issuer
  | _, _ => j.src.issuer
/-- DIGEST_JOB_DONE (R290, R296, R300, R427): the job on a lane has read its data and hashed it; one of a permanent context leaves its
outcome to the check of its block or body. -/
def execDigestJobDone (lane : Fin 16) (io : JobIo) (s : State) : Res :=
  .next (match (if s.laneOn lane.val then (s.lane lane.val).job else none) with
    | none => s
    | some j =>
      match j.kind with
      | .perm => (s.setLane lane.val Lane.reset).laneAbsorb lane.val (j.dataLen - j.absorbed)
      | .mac _ => s.macEnd lane.val j
      | .range i => if s.memOn (s.jobMem j) then s.rangeEnd lane.val i j io else s
      | .user => if s.memOn j.src.issuer then s.jobEnd lane.val j io else s)

/-- Mark the jobs of a context that lanes hold, or that were suspended, to end with a status. -/
@[noinline] def State.abortCtx (s : State) (i : Nat) (st : Status) : State :=
  let end_ (j : DJob) : DJob := if j.ctx = i then { j with abort := some st } else j
  { s with dgl := { s.dgl with lanes := s.dgl.lanes.map (fun x => (x.1, { x.2 with job := x.2.job.map end_ })),
                               ready := s.dgl.ready.map (fun j => if j.suspended then end_ j else j) } }
/-- An uncorrectable error in a context (R251, R284): POISONED, SRAM_UE, the job in progress ends INTERNAL; in a verifier context the open
block is broken: the stitch, or a device-side block, which counts as partial and is read again. -/
@[noinline] def State.ctxUe (s : State) (i : Nat) : State :=
  let s := s.count (evSys 8)
  if i < 32 then
    (if i % 2 = 0 then (s.permDrop i).stitchBreak (i / 2)
     else (s.permDrop i).modPort (i / 2) (fun q => match q.dev with
       | some c => { q.partCov c.region with dev := none }
       | none => q))
  else if i < 34 then s.permDrop i
  else if (s.dctx i).st = .free then s
  else ((s.setDctx i { s.dctx i with st := .poisoned }).abortCtx i stInternal).settleAll i

/-- Every job that has not ended. -/
def State.digJobs (s : State) : List DJob := ((List.range 16).filterMap (fun n => (s.lane n).job)) ++ s.dgl.ready
/-- Jobs are taken from the lanes, at a block boundary, and from the ready list, and end with a status (R300, R301). -/
@[noinline] def State.endJobs (s : State) (p : DJob → Bool) (st : Status) : State :=
  let js := s.digJobs.filter p
  let s := s.lanesStop p
  let s := { s with dgl := { s.dgl with ready := s.dgl.ready.filter (fun j => !p j) } }
  js.foldl (fun s j => s.jobOver j st 0 0) s
/-- Contexts of an owner go back to the pool. -/
@[noinline] def State.freeCtxs (s : State) (m : Master) : State :=
  ((s.dgl.ctxs.filter (fun x => x.2.st != .free && x.2.owner == m)).map (fun x => x.1)).foldl State.ctxFree s
/-- The HMAC of a pipeline's job is dropped, and its context goes back to the pool (R572, R577). -/
@[noinline] def State.macDrop (s : State) (p : Nat) : State :=
  let js := s.digJobs.filter (fun j => j.kind == .mac p)
  (js.map (fun j => j.ctx)).foldl State.ctxFree (s.endJobs (fun j => j.kind == .mac p) stAborted)
/-- The HMAC of a pipeline's job waits for a lane or runs on one. -/
def State.macBusy (s : State) (p : Nat) : Bool := s.digJobs.any (fun j => j.kind == .mac p)
/-- A reset of an issuer (R301): its jobs end ABORTED, its contexts become FREE. -/
@[noinline] def State.digIssuerReset (s : State) (m : Master) : State :=
  (s.endJobs (fun j => j.src.issuer == m) stAborted).freeCtxs m
/-- A tamper response on the lanes (R301): every job ends TAMPERED, the context store is wiped to zero, GEN and all. -/
@[noinline] def State.digTamper (s : State) : State :=
  let s := s.endJobs (fun _ => true) stTampered
  { s with dgl := { s.dgl with ctxs := [], lanes := [], ready := [] } }

end Sys2Proof.Machine
end

