-- ==== Sys2Proof/Machine/Scan.lean ====
section
/-! DEFINITION. Host-memory scans: their start, their end, and what a reset or a tamper response does to them (R427 to R429). -/
namespace Sys2Proof.Machine

/-- The oldest waiting scan starts where none runs, and ranges of the running one start where contexts are free (R427). -/
@[noinline] def State.scanStart (s : State) : State :=
  match s.meas.scan, s.meas.scans with
  | none, j :: rest => ({ s with meas := { s.meas with scan := some j, scans := rest } }).scanFill 32
  | _, _ => s.scanFill 32
/-- SCAN_START (R427). -/
def execScanStart (s : State) : Res := .next s.scanStart

/-- The end of range `i` of a scan, if it has ended. -/
def ScanJob.endOf (j : ScanJob) (i : Nat) : Option ScanEnd := (j.ends.find? (fun e => e.1 == i)).map (fun e => e.2)
/-- The status with which a scan ends early, OK where it does not: the first range that failed (R284, R429), or a read of an expected value
that failed or brought too little (R429). -/
def ScanJob.failed (j : ScanJob) : Status :=
  let need := (List.range (scanCount j.list)).foldl (fun m i => if scanCmp j.list i then 96 + 48 * i else m) (if mType j.desc = 1 then 48 else 0)
  match j.ends.find? (fun e => e.2.st != stOk) with
  | some e => e.2.st
  | none => if 0 < need ∧ (j.expectFault ∨ j.expect.length < need) then stLengthShort else stOk
/-- A range of the scan failed, or a read of it brought too little (R429). -/
def ScanJob.short (j : ScanJob) : Bool := j.failed != stOk
/-- Every range of the scan has been hashed (R428). -/
def ScanJob.hashed (j : ScanJob) : Bool := (List.range (scanCount j.list)).all (fun i => (j.endOf i).isSome)
/-- The ranges in flight are dropped and the contexts of issuer 0x44 discarded (R429). -/
@[noinline] def State.scanDrop (s : State) : State := (s.endJobs (fun j => j.src.issuer == 0x44) stAborted).freeCtxs 0x44
/-- A scan ends (R428, R429); one that is to extend and finds the request queue full completes BUSY with no effect (R418). -/
@[noinline] def State.scanDone (s : State) (j : ScanJob) : State :=
  if j.short then
    s.scanDrop.complete j.src 0x32 j.failed 0 (if j.failed = stLengthShort then (j.ends.map (fun e => e.2.len)).foldl (· + ·) 0 else 0)
  else if mType j.desc = 2 ∧ s.reqFull then s.complete j.src 0x32 stBusy 0 0
  else
    let l := j.list
    let n := scanCount l
    let ds := (List.range n).map (fun i => match j.endOf i with | some e => e.digest | none => [])
    let bad (i : Nat) : Bool := scanCmp l i && ds.getD i [] != Bytes.slice j.expect (48 + 48 * i) 48
    let fails := ((List.range n).filter bad).length
    let ld := sha384 ds.flatten
    let listBad := mType j.desc == 1 && ld != j.expect.take 48
    let out := ld ++ leBytes 4 fails ++ zeros 12 ++ (List.range n).flatMap (fun i =>
      Bytes.fit (ds.getD i []) 48 ++ [if bad i then stAuthFail else stOk] ++ zeros 15)
    let s := if mOutLen j.desc = 0 then s else s.putOut 0x44 j.src (mOutAddr j.desc) out
    let s := if mType j.desc = 2 then s.askExtend { slot := mSlot j.desc, type := 0x20, source := j.src.issuer, late := false,
                                                    info := n, data := ld, job := none } else s
    s.complete j.src 0x32 (if fails ≠ 0 ∨ listBad then stAuthFail else stOk) 0 0
/-- SCAN_COMPLETE (R428, R429): every range of the running scan, which its TAG names, has been hashed, or a read failed. -/
def execScanComplete (tag : Word) (s : State) : Res :=
  .next (match s.meas.scan with
    | none => s
    | some j => if j.src.tag ≠ tag ∨ !(j.hashed || j.short) ∨ !s.memOn j.src.issuer then s
                else ({ s with meas := { s.meas with scan := none } }).scanDone j)

/-- A tamper response on measurements (R429, R439): scans end TAMPERED, and so does every MEAS_EXTEND that still waits. -/
@[noinline] def State.measTamper (s : State) : State :=
  let js := s.meas.scan.toList ++ s.meas.scans
  let es := s.meas.reqq.filterMap (fun e => e.job)
  let s := { s with meas := { s.meas with scan := none, scans := [], reqq := s.meas.reqq.filter (fun e => e.job.isNone) } }
  es.foldl (fun s j => s.complete j 0x30 stTampered 0 0) (js.foldl (fun s j => s.complete j.src 0x32 stTampered 0 0) s)
/-- A reset of an issuer ends its scans with ABORTED (R429), its ranges in flight with them; extends accepted before stand. -/
@[noinline] def State.measIssuerReset (s : State) (m : Master) : State :=
  let mine := (s.meas.scan.toList ++ s.meas.scans).filter (fun j => j.src.issuer == m)
  let s := if s.meas.scan.any (fun j => j.src.issuer == m) then s.scanDrop else s
  let s := { s with meas := { s.meas with
    scan := s.meas.scan.filter (fun j => j.src.issuer != m),
    scans := s.meas.scans.filter (fun j => j.src.issuer != m),
    reqq := s.meas.reqq.map (fun e => { e with job := e.job.filter (fun j => j.issuer != m) }) } }
  mine.foldl (fun s j => s.complete j.src 0x32 stAborted 0 0) s

end Sys2Proof.Machine
end

