-- ==== Sys2Proof/Machine/Lcf.lean ====
section
/-! DEFINITION. The life-cycle and fuse controller: the decode at PWR_OK, transitions and their commits, debug grants, nonce,
memory test modes, and the key derivation unit (R340 to R380). -/
namespace Sys2Proof.Machine

/-- Address of a register of LCF page 0. -/
def aLcf0 (off : Nat) : Nat := pg 0x10 off
/-- Address of a register of LCF page 1. -/
def aLcf1 (off : Nat) : Nat := pg 0x11 off
/-- BBRAM_CLEAR: both banks all zero (R375). -/
def State.bbramClear (s : State) : Bool := allZero s.cel.bank0 && allZero s.cel.bank1
/-- ISSUERS_CLEAR (R391). -/
def State.issuersClear (s : State) : Bool := s.cmd.issuers.isEmpty && !(s.liveSlots.any (fun x => x.2.ctx.type == 9))
/-- LC_PRECOND (R363). -/
def State.lcPrecond (s : State) : Nat := s.bbramClear.toNat + 2 * s.liveSlots.isEmpty.toNat + 4 * s.issuersClear.toNat
/-- A new device nonce (R350). -/
@[noinline] def State.newNonce (s : State) : State := ({ s with lcf := { s.lcf with nonce := s.draw 32 } }).drew

/-! ### Commits of the LCF -/

/-- Queue the next life-cycle copy that R346 or a transition owes, or the next field of SCRAP, where entry 16 is empty and no
tamper latch or response stands (R347, R354). -/
@[noinline] def State.lcKick (s : State) : State :=
  if (s.adm 16).st ≠ .empty ∨ s.tamp.latch ∨ s.tamp.responded then s
  else match s.lcf.owed, s.lcf.eff with
    | k :: _, some st => s.enqueue 16 0 0xFFFF (.lcf (.lcCopy k st))
    | _, _ => match s.lcf.scrapOwed with
      | i :: _ => s.fuseKey i (List.replicate 32 0xFF) 0xFFFF
      | [] => s
/-- Set the transition's step. -/
@[noinline] def State.setTransit (s : State) (x : Option (LcState × LcStep)) : State := { s with lcf := { s.lcf with transit := x } }
/-- The last step of a transition: the device reset (R353). -/
@[noinline] def State.lcReset (s : State) (t : LcState) : State :=
  let s := s.setTransit (some (t, .resetDue))
  { s with pwr := { s.pwr with resetOwed := true } }
/-- Go on with a transition from a step (R353): what is already done is passed over. The fuel bounds the steps passed. -/
@[noinline] def State.lcGo (s : State) (t : LcState) (st : LcStep) (fuel : Nat) : State :=
  match fuel with
  | 0 => s
  | n + 1 =>
    match st with
    | .copyA => if s.lcCopy 0 = t.fuseCode then s.lcGo t .copyB n
                else (s.setTransit (some (t, .copyA))).enqueue 16 0 0 (.lcf (.lcCopy 0 t))
    | .copyB => if s.lcCopy 1 = t.fuseCode then s.lcGo t .copyC n
                else (s.setTransit (some (t, .copyB))).enqueue 16 0 0xFFFF (.lcf (.lcCopy 1 t))
    | .copyC => if s.lcCopy 2 = t.fuseCode then s.lcGo t (.scrapFields 0) n
                else (s.setTransit (some (t, .copyC))).enqueue 16 0 0xFFFF (.lcf (.lcCopy 2 t))
    | .scrapFields k =>
      if t ≠ .scrap then s.lcGo t .cellarWipe n
      else
        let s := if k = 0 then { s with cel := { s.cel with bank0 := [], bank1 := [], active := none } } else s
        match s.trimLeft with
        | [] => s.lcGo t .cellarWipe n
        | i :: _ => (s.setTransit (some (t, .scrapFields (k + 1)))).fuseKey i (List.replicate 32 0xFF) 0xFFFF
    | .cellarWipe => s.setTransit (some (t, .cellarWipe))
    | .epochs banks =>
      match banks with
      | [] => s.lcReset t
      | b :: rest =>
        let v := s.bank b
        (s.setTransit (some (t, .epochs rest))).enqueue 16 3 0xFFFF
          (.lcf (.bbram b (bankImage (v.take 32) (bankGen v) (List.replicate 16 1))))
    | .resetDue => s.lcReset t
/-- The step that follows a written copy or field; a tamper response ends the sequence (R356). -/
@[noinline] def State.lcAfter (s : State) : State :=
  if s.tamp.responded then s
  else match s.lcf.transit with
  | some (t, .copyA) => s.lcGo t .copyB 8
  | some (t, .copyB) => s.lcGo t .copyC 8
  | some (t, .copyC) => s.lcGo t (.scrapFields 0) 8
  | some (t, .scrapFields k) => s.lcGo t (.scrapFields k) 8
  | some (t, .epochs l) => s.lcGo t (.epochs l) 8
  | _ => s.lcKick
/-- Domains whose EPOCH a new bank image raises over what was active (R391). -/
def State.raisedEpochs (s : State) (before : State) : List Nat :=
  (List.range 16).filter (fun d => decide (before.blobEpoch d < s.blobEpoch d))
/-- A BBRAM bank has been written (R373, R374, R391): the active bank, BBRAM_WRITTEN, and the contexts of raised epochs. -/
@[noinline] def State.bankWritten (s : State) (b : Nat) (img : Bytes) : State :=
  let t := s.setBank b img
  let t := { t with cel := { t.cel with active := activeOf t.cel.bank0 t.cel.bank1 } }
  let t := t.count (evCel 6)
  (t.raisedEpochs s).foldl (fun u d =>
    (u.destroyAll (fun c => c.domain == d && decide (c.epoch < u.blobEpoch d))).count (evCel 5)) t

/-! ### The key derivation unit -/

/-- Set ERR of KDU_STATUS. -/
@[noinline] def State.kduErr (s : State) (st : Status) : State := { s with cel := { s.cel with kduErr := st } }
/-- Set or clear the KDU job. -/
@[noinline] def State.setKdu (s : State) (j : Option KduJob) : State := { s with cel := { s.cel with kduJob := j } }
/-- A KDU step blows a field through entry 16 (R370), or fails with the status of R344. -/
@[noinline] def State.kduBlow (s : State) (j : KduJob) (i : Nat) (val : Bytes) : State :=
  let st := s.fuseCheck i 32
  if st ≠ stOk then (s.setKdu none).kduErr st else (s.setKdu (some j)).fuseKey i val 0
/-- The next step of ROOT_GEN or ROOT_CLASS (R370, R371): mask first, then field; a step whose field is blown is skipped. -/
@[noinline] def State.kduNext (s : State) (j : KduJob) (fuel : Nat) : State :=
  match fuel with
  | 0 => s
  | n + 1 =>
    let k := match j with | .rootGen _ => 0 | .rootClass _ _ => 1
    let step := match j with | .rootGen x => x | .rootClass x _ => x
    let up (x : Nat) : KduJob := match j with | .rootGen _ => .rootGen x | .rootClass _ sec => .rootClass x sec
    if step = 0 then
      (if allZero (s.fuseBytes (96 + 32 * k) 32) then (s.drew).kduBlow (up 1) (96 + 32 * k) (s.draw 32) else s.kduNext (up 1) n)
    else if step = 1 then
      (if allZero (s.fuseBytes (32 + 32 * k) 32) then
        (match j with
         | .rootGen _ => (s.drew).kduBlow (up 2) (32 + 32 * k) (s.rootField k (s.draw 32))
         | .rootClass _ sec => s.kduBlow (up 2) (32 + 32 * k) (s.rootField k sec))
       else (s.setKdu none).kduErr stOk)
    else (s.setKdu none).kduErr stOk
/-- A KDU step has been blown (R370, R405 ROOT_FUSED). -/
@[noinline] def State.kduStepDone (s : State) : State :=
  match s.cel.kduJob with
  | none => s
  | some j => (s.count (evCel 12)).kduNext j 4
/-- A write of one KDU_CTRL trigger (R406): while BUSY it is refused as STATE and counted. -/
@[noinline] def State.kduFree (s : State) (m : Master) (eff : State → State) : State :=
  if s.cel.kduJob.isSome then ({ s with cel := { s.cel with kduBusy := satInc s.cel.kduBusy } }).refuse m (pg 0x21 0x40) else eff s
/-- A command of one KDU_CTRL trigger. -/
@[noinline] def State.kduTrig (s : State) (m : Master) (eff : State → State) : State :=
  s.guarded m (pg 0x21 0x40) (fun s => s.kduFree m eff)
/-- CDI_MDIGEST as written. -/
def State.mdigest (s : State) : Bytes := (List.range 12).flatMap (fun w => leBytes 4 (s.reg (pg 0x21 (0x4C + 4 * w))).toNat)
/-- The derivations of R378 from a manifest digest and a key slot. -/
@[noinline] def State.derive (s : State) (md : Bytes) (keySlot : Nat) : State :=
  let uds := s.rootSecret 0
  let cdi0 := kdf uds (md ++ s.lc) "MX-CDI0"
  { s with cel := { s.cel with
    devidSeed := some (kdf uds s.unitId "MX-DEVID"), cdi0 := some cdi0,
    cdiSeal := some (kdf uds (leBytes 1 keySlot ++ s.keyHash keySlot ++ s.lc) "MX-CDIS"),
    rtidSeed := some (kdf cdi0 [] "MX-RTID"), flrvSeed := some (kdf (s.rootSecret 1) s.unitId "MX-FLRV"), cdiDigest := md } }
/-- DERIVE (R378, R381). -/
@[noinline] def State.kduDerive (s : State) : State :=
  if s.cel.closeSecret ∨ s.cel.lockCdi then s.kduErr stStateForbids
  else (s.derive s.mdigest (s.fldOf (pg 0x21 0x7C) 3 0)).kduErr stOk
/-- Every value of R378 and every protected handle is zeroed (R380): that of the ephemeral provisioning key too. -/
@[noinline] def State.kduZero (s : State) : State :=
  { s with cel := { s.cel with devidSeed := none, cdi0 := none, cdiSeal := none, rtidSeed := none, flrvSeed := none, cdiDigest := [], ephemeral := none } }
/-- DISCARD (R380): only before either lock is set. -/
@[noinline] def State.kduDiscard (s : State) : State :=
  if s.cel.closeSecret ∨ s.cel.lockCdi then s.kduErr stStateForbids else s.kduZero.kduErr stOk
/-- ROOT_GEN (R370, R381, R406). -/
@[noinline] def State.rootGen (s : State) : State :=
  if s.cel.closeSecret ∨ s.lcf.eff ≠ some .provision then s.kduErr stStateForbids else s.kduNext (.rootGen 0) 4
/-- The 176-byte record at the hart address that KDU_ARG names, as hart 0 reads it (R371, R502). -/
def State.classRecord (s : State) : Option Bytes :=
  s.hartRead 0 ((s.reg (pg 0x21 0x80)).toNat + 2 ^ 32 * (s.reg (pg 0x21 0x84)).toNat) 176
/-- The class secret that a record in blob layout opens to under the transport key (R371): 32 bytes of material. -/
def State.classSecret (s : State) (record : Bytes) : Option Bytes :=
  match s.cel.ephemeral with
  | none => none
  | some e =>
    if record.length ≠ 176 ∨ !blobFieldsOk record then none
    else (openBlob (Config.take 32 (Config.rootTransportByte e)) s.cel.bootNonce record).bind
      (fun c => if c.mlen = 32 then some c.material else none)
/-- ROOT_CLASS (R371, R381, R406). -/
@[noinline] def State.rootClass (s : State) : State :=
  if s.cel.closeSecret ∨ s.lcf.eff ≠ some .provision then s.kduErr stStateForbids
  else match s.classRecord.bind s.classSecret with
    | none => s.kduErr stAuthFail
    | some sec => s.kduNext (.rootClass 0 sec) 4
/-- BBRAM_ERASE (R375): both banks erased to zero. -/
@[noinline] def State.bbramErase (s : State) : State :=
  ({ s with cel := { s.cel with bank0 := [], bank1 := [], active := none } }).kduErr stOk

/-- KDU_DERIVE (R378). -/
def execKduDerive (m : Master) (s : State) : Res := .next (s.kduTrig m (fun s => s.kduDerive))
/-- KDU_DISCARD (R380). -/
def execKduDiscard (m : Master) (s : State) : Res := .next (s.kduTrig m (fun s => s.kduDiscard))
/-- KDU_ROOT_GEN (R370). -/
def execKduRootGen (m : Master) (s : State) : Res := .next (s.kduTrig m (fun s => s.rootGen))
/-- KDU_ROOT_CLASS (R371): a write of `v` to KDU_CTRL with ROOT_CLASS set; with a second command bit it is refused as STATE (R406). -/
def execKduRootClass (m : Master) (v : Word) (s : State) : Res :=
  .next (s.kduTrig m (fun s => if v &&& 0x1F = 8 then s.rootClass else s.refuse m (pg 0x21 0x40)))
/-- BBRAM_ERASE (R375). -/
def execBbramErase (m : Master) (s : State) : Res := .next (s.kduTrig m (fun s => s.bbramErase))

/-! ### Requests -/

/-- LC_RESULT (R363). -/
@[noinline] def State.lcResult (s : State) (st : Status) (target : Nat) : State :=
  s.setReg (aLcf0 0x48) (fld st.toNat 0 ||| fld target 8)
/-- The first failed check of a transition request (R352). -/
def State.lcCheck (s : State) (target : Nat) : Status :=
  if s.lcf.transit.isSome ∨ s.lcf.owed ≠ [] ∨ (s.adm 16).st ≠ .empty then stBusy
  else if s.tamp.latch ∨ s.tamp.responded then stTampered
  else match s.lcf.eff, lcOfCode target with
    | some x, some t =>
      if !lcLegal x t then stStateForbids
      else if t ≠ .scrap ∧ (allZero s.unitId ∨ s.lcf.dbgHalted) then stStateForbids
      else if s.lcf.copyFault ∧ (List.range 3).any (fun k => !bitsIn (s.lcCopy k) t.fuseCode) then stStateForbids
      else if x = .owned ∧ t = .ret ∧ s.lcPrecond ≠ 7 then stStateForbids
      else stOk
    | _, _ => stStateForbids
/-- The effect of an LC_REQ write (R350, R352, R353). -/
@[noinline] def State.lcReq (s : State) (v : Word) : State :=
  let t := Word.field v 2 0
  let s := s.setReg (aLcf1 0x40) (v &&& 0x107)
  if !Word.bit v 8 then s
  else
    let st := s.lcCheck t
    let s := s.newNonce
    match (if st = stOk then lcOfCode t else none) with
    | some x => (s.count (evLcf 0)).lcGo x .copyA 8
    | none => (s.lcResult st t).count (evLcf 1)
/-- LC_REQ (R342, R352). -/
def execLcReq (m : Master) (v : Word) (s : State) : Res :=
  .next (s.guarded m (aLcf1 0x40) (fun s => s.when m (aLcf1 0x40) (m == 0) (fun s => s.lcReq v)))
/-- The Cellar wipe of a transition is done (R353): the epochs of the valid banks follow, the inactive bank first (R376); a tamper
response has ended the sequence (R356). -/
@[noinline] def State.lcWiped (s : State) : State :=
  if s.tamp.responded then s
  else match s.lcf.transit with
  | some (t, .cellarWipe) =>
    let order := match s.cel.active with | some 0 => [1, 0] | _ => [0, 1]
    ((s.celWipe).count (evCel 0)).lcGo t (.epochs (order.filter (fun b => bankValid (s.bank b)))) 8
  | _ => s

/-- The effect of a DBG_GRANT write of hart 0 (R350, R360, R361, R414). -/
@[noinline] def State.dbgGrant (s : State) (m : Master) (v : Word) : State :=
  if s.lcf.eff = some .raw ∨ s.lcf.eff = some .test then s.refuse m (aLcf1 0x44)
  else
    let r := Word.field v 15 0
    let s := s.newNonce
    if s.lcf.transit.isNone ∧ bitsIn r s.ceiling ∧ (r &&& 0x0F00 = 0 ∨ s.lcPrecond = 7) then
      let s := ({ s with lcf := { s.lcf with granted := s.lcf.granted ||| BitVec.ofNat 16 r } }).count (evLcf 5)
      s.measHw 1 0x05 0 0 (leBytes 2 r ++ leBytes 2 s.rights)
    else (s.refuse m (aLcf1 0x44)).count (evLcf 6)
/-- DBG_GRANT (R342, R361). -/
def execDbgGrant (m : Master) (v : Word) (s : State) : Res :=
  .next (s.guarded m (aLcf1 0x44) (fun s => s.when m (aLcf1 0x44) (m == 0) (fun s => s.dbgGrant m v)))
/-- NONCE_REFRESH (R350, R363). -/
def execNonceRefresh (m : Master) (s : State) : Res :=
  .next (s.guarded m (aLcf0 0x70) (fun s => s.newNonce))

/-- The wipe of all SRAM and of the digest context store (R107, R340). -/
@[noinline] def State.sramWipe (s : State) : State :=
  let s := s.celWipe
  { s with ram := [], frames := [], cache := [],
           ports := s.ports.map (fun e => (e.1, { e.2 with
             chk := [], wq := e.2.wq.map (fun x => (x.1, { x.2 with data := zeros x.2.data.length })) })),
           dgl := { s.dgl with ctxs := [], ready := [], lanes := [] },
           boot := { s.boot with man := [], body := [], bodyCount := 0, code := [] },
           meas := { s.meas with slots := [], log := [] },
           flr := { s.flr with boot := [], ring := [], tamper := none, wrPtr := 0 },
           hq := { s.hq with doe := { s.hq.doe with req := [], rsp := [] },
                             queues := s.hq.queues.map (fun x => (x.1, if x.1 < 64 then { x.2 with fetched := x.2.fetched.map (fun e =>
                               if e.started then e else { e with desc := List.replicate 16 0 }) } else x.2)) } }
/-- Memory test modes are allowed (R339): TEST, or RETURN with the right MEM_TEST. -/
def State.memtestOk (s : State) : Bool := s.lcf.eff == some .test || (s.lcf.eff == some .ret && s.right 12)
/-- Entry into memory test modes that are not active yet (R340). -/
@[noinline] def State.memtest (s : State) (m : Master) (v : Word) : State :=
  s.when m (aLcf1 0x48) s.memtestOk (fun s =>
    if s.lcf.memtest ||| BitVec.ofNat 3 v.toNat = s.lcf.memtest then s
    else
      let s := s.sramWipe
      { s with lcf := { s.lcf with memtest := s.lcf.memtest ||| BitVec.ofNat 3 v.toNat } })
/-- MEMTEST_ENTER (R340). -/
def execMemtestEnter (m : Master) (v : Word) (s : State) : Res := .next (s.guarded m (aLcf1 0x48) (fun s => s.memtest m v))
/-- FUSE_RD_DATA (R341, R365). -/
def State.fuseRead (s : State) : Word :=
  let w := s.fldOf (aLcf1 0x4C) 8 0
  if s.lcf.memtest.getLsbD 2 && !(decide (8 ≤ w) && decide (w ≤ 39)) then s.fuse w else 0

/-- The LCF reads the copies at PWR_OK (R346, R347, R354): the effective state and what it owes. -/
@[noinline] def State.lcBoot (s : State) : State :=
  let r := lcDecode (s.lcCopy 0) (s.lcCopy 1) (s.lcCopy 2)
  let scrap := if r.1 = some .scrap then s.trimLeft else []
  let s := { s with lcf := { s.lcf with eff := r.1, rule := r.2.1, copyFault := r.2.1 == 2, owed := r.2.2, scrapOwed := scrap,
                                        transit := none, dbgHalted := false, granted := 0, memtest := 0 } }
  let s := if r.2.1 = 2 then s.count (evLcf 4) else s
  if s.tamp.latch then s else (if r.2.2 ≠ [] then s.count (evLcf 3) else s).lcKick

end Sys2Proof.Machine
end

