-- ==== Sys2Proof/Machine/Cistern.lean ====
section
/-! DEFINITION. Cistern: the line inputs, the oscillator and its position, line states, the hold-up estimate, the position
seed, hart commit descriptors, and arming of line timers and of the update strobe (R302 to R327, R674, R677, R52, R54). -/
namespace Sys2Proof.Machine

/-- Address of a register of CIS page 0. -/
def aCis0 (off : Nat) : Nat := pg 0x18 off
/-- Address of a register of CIS page 1. -/
def aCis1 (off : Nat) : Nat := pg 0x19 off
/-- Change the Cistern state. -/
@[noinline] def State.modCis (s : State) (f : CisState → CisState) : State := { s with cis := f s.cis }
/-- The phase of one whole half-cycle: 65,536 LU in steps of 2^-20 LU. -/
def phFull : Nat := 65536 * 2 ^ 20
/-- How far the phase moves in one microsecond. -/
def CisState.rate (c : CisState) : Nat := phFull * 100 / max 1 c.len
/-- The declared nominal half-cycle in 10 ns units (R332). -/
def State.nominal (s : State) : Nat := if s.fldOf (aCis0 0x40) 1 0 = 1 then 833333 else 1000000
/-- The oscillator period: the locked one, or before the lock the nominal one (R304, R677). -/
def State.oscPeriod (s : State) : Nat := if s.cis.locked then s.cis.period else s.nominal
/-- PF_WARN_N takes part in R311 and is asserted. -/
def State.pfwOn (s : State) : Bool := s.cis.pfw && s.bitOf (aCis0 0x40) 3
/-- CONFIRMED (R333): the half-cycle began at a confirmed crossing, or is one of DC_FEED. -/
def State.confirmed (s : State) : Bool := s.cis.confirmed || s.cis.line == .dcFeed

/-- LINE_STATUS (R333). -/
def State.lineStatus (s : State) : Word :=
  let c := s.cis
  fld (match c.line with | .healthy => 0 | .disturbed => 1 | .lost => 2 | .dcFeed => 3) 0 ||| flg s.confirmed 2 ||| flg c.pfw 3 |||
  flg c.onB 4 ||| fld (min 7 c.goodRun) 5 ||| fld c.lastFault 16
/-- CAP, DERATE, FS, VMIN, P_HIGH and P_LOW are all non-zero (R315). -/
def State.declared (s : State) : Bool :=
  s.fldOf (aCis1 0x44) 19 0 != 0 && s.fldOf (aCis1 0x44) 31 24 != 0 && s.fldOf (aCis1 0x40) 15 0 != 0 &&
  s.fldOf (aCis1 0x40) 31 16 != 0 && s.fldOf (aCis1 0x48) 15 0 != 0 && s.fldOf (aCis1 0x4C) 15 0 != 0
/-- HU_EST.VALID (R315). -/
def State.huValid (s : State) : Bool := s.cis.estValid && s.declared
/-- HU_EST (R334). -/
def State.huEst (s : State) : Word := fld s.cis.estUs 0 ||| flg s.huValid 31
/-- A wake source acts (R599, R600): in RETAIN with CORE_EN low and its WAKE_EN bit set, CORE_EN goes high. -/
@[noinline] def State.wake (s : State) (src : Nat) : State :=
  if s.pwr.power == .retain && !s.pwr.coreEn && s.bitOf (pg 0x1D 0x44) src then
    { s with pwr := { s.pwr with coreEn := true, coreEnAt := s.clk, wakeSince := some s.clk, wakeLast := some src, wakeOwed := true } }
  else s
/-- The line state changes (R311, R305, R599): STATE_CHANGE; LOST coasts at the last locked period, DC_FEED runs at the
nominal one; a LINE record is written (R624). -/
@[noinline] def State.lineTo (s : State) (l : LineSt) : State :=
  if s.cis.line = l then s
  else
    let was := s.cis.line
    let len := if l = .dcFeed then s.nominal else if was = .dcFeed ∧ s.cis.locked then s.cis.period else s.cis.len
    let s := (s.modCis (fun c => { c with line := l, goodRun := if l = .lost then 0 else c.goodRun, len := len })).count (evCis 0)
    let s := s.flight 0x09 0x47 (leBytes 4 s.lineStatus.toNat ++ leBytes 4 s.huEst.toNat)
    if was = .lost ∧ l = .disturbed then s.wake 3 else s
/-- A half-cycle is out of tolerance (R310, R311): LAST_FAULT, CROSSING_FAULT, and HEALTHY becomes DISTURBED. -/
@[noinline] def State.lineFault (s : State) (code : Nat) : State :=
  let s := (s.modCis (fun c => { c with goodRun := 0, lastFault := code })).count (evCis 1)
  if s.cis.line = .healthy then s.lineTo .disturbed else s
/-- PF_WARN_N asserted with PFW_EN leads to LOST (R311). -/
@[noinline] def State.pfwLost (s : State) : State :=
  if s.pfwOn && s.cis.line != .lost then (s.modCis (fun c => { c with lastFault := 6 })).lineTo .lost else s

/-! ### Crossings -/

/-- A crossing's place: in the current half-cycle, or within the last half before the coming wrap; its error in LU (R304). -/
def CisState.place (c : CisState) (age : Nat) : Bool × Int :=
  let p : Int := (c.ph : Int) - (age * c.rate / 100 : Nat)
  if (phFull : Int) ≤ 2 * p then (true, (p - phFull) / 2 ^ 20) else (false, p / 2 ^ 20)
/-- What is out of tolerance in an accepted crossing (R310): 1 SAG, 2 PERIOD, 3 PHASE, 0 nothing. -/
def State.crossFault (s : State) (iv width : Nat) (err : Int) : Nat :=
  let tol := s.reg (aCis0 0x58)
  let sag := Word.field tol 23 8
  let per := s.oscPeriod
  if sag ≠ 0 ∧ sag < width then 1
  else if per * Word.field tol 7 0 < (if iv ≤ per then per - iv else iv - per) * 1024 then 2
  else if err < -2048 ∨ 2048 < err then 3
  else 0
/-- The judgment that a crossing near a wrap leaves: for the coming half-cycle or for the current one (R304, R674). -/
def CisState.seen (c : CisState) (next : Bool) (err : Int) (ok : Bool) : CisState :=
  if err < -2048 ∨ 2048 < err then c
  else if next then { c with early := some (ok || c.early == some true) }
  else { c with judged := true, confirmed := c.confirmed || ok }
/-- The correction of one crossing, slewed at 1,024 LU a half-cycle at most (R305), as a half-cycle length. -/
def slewed (per : Nat) (err : Int) : Nat := ((per : Int) + clampInt (-1024) 1024 err * per / 65536).toNat
/-- An accepted crossing (R303, R304, R310, R311): centre `tc`, width in microseconds, interval, place and error; a line that stays LOST coasts
at its last locked period (R305). -/
@[noinline] def State.accepted (s : State) (tc width iv : Nat) (next : Bool) (err : Int) : State :=
  let f := s.crossFault iv width err
  let s := s.modCis (fun c => { c with phaseErr := err, width := width, lastAcc := tc })
  let s := if (s.cis.line == .lost || s.cis.line == .dcFeed) && !s.pfwOn then s.lineTo .disturbed else s
  let s := if f ≠ 0 then s.lineFault f
    else
      let s := s.modCis (fun c => { c with goodRun := min 7 (c.goodRun + 1) })
      if s.cis.line = .disturbed ∧ 4 ≤ s.cis.goodRun then s.lineTo .healthy else s
  s.modCis (fun c => let c := c.seen next err (f == 0)
    if c.line = .lost then c else { c with period := iv, locked := true, len := slewed iv err })
/-- A pulse that is not accepted: CROSS_REJECTS, and fault RANGE (R303). -/
@[noinline] def State.rejected (s : State) (next : Bool) (err : Int) : State :=
  ((s.incReg (aCis0 0x70)).lineFault 5).modCis (fun c => c.seen next err false)
/-- A crossing on LINE_ZC_A, or one of B in its place (R303, R312): its interval to the reference decides. -/
@[noinline] def State.crossing (s : State) (tc width : Nat) (onB : Bool) : State :=
  let pl := s.cis.place (s.clk * 100 - tc)
  let s := s.modCis (fun c => { c with lastPulse := tc, onB := onB })
  match s.cis.ref with
  | none => (s.incReg (aCis0 0x70)).modCis (fun c => { c.seen pl.1 pl.2 false with ref := some tc })
  | some r =>
    let iv := tc - r
    let s := if iv < 758000 then s else s.modCis (fun c => { c with ref := some tc })
    if 758000 ≤ iv ∧ iv ≤ 1111000 then s.accepted tc width iv pl.1 pl.2 else s.rejected pl.1 pl.2

/-- CVN corrects HC_DELTA by the change that a seed makes, so that the rack position does not move (R553); the root, whose OFFSET is
0, has nothing to correct. -/
@[noinline] def State.rackSeed (s : State) (oldHc : Nat) : State :=
  if s.bitOf (pg 0x180 0x40) 1 then s
  else s.setReg (pg 0x183 0x44) (s.reg (pg 0x183 0x44) + wd s.cis.hc - wd (oldHc + 1))
/-- The half-cycle count steps over a wrap (R304, R306, R309): a pending seed applies at it where R309 still allows. -/
@[noinline] def State.hcStep (s : State) : State :=
  let c := s.cis
  let s := s.modCis (fun c => { c with hcRun := c.hcRun + 1 })
  let s := s.modCis (fun c => { c with confirmed := c.early.getD false, judged := c.early.isSome, early := none,
                                       len := if c.early.isSome then c.len else if c.locked && c.line != .dcFeed then c.period else s.nominal })
  let armed := (List.range 8).any (fun t => (s.timer t).st == .armed) || s.arm.st == .armed
  if c.seed = 1 ∧ !armed ∧ !c.seedUsed then
    ((s.modCis (fun c => { c with hc := c.seedHc, era := c.seedEra, ph := 0, seed := 2, seedUsed := true })).rackSeed c.hc).count (evCis 12)
  else
    let s := if c.seed = 1 then s.modCis (fun c => { c with seed := 3 }) else s
    if c.hc = 0xFFFFFFFF then (s.modCis (fun c => { c with hc := 0, era := (c.era + 1) % 65536 })).count (evCis 8)
    else s.modCis (fun c => { c with hc := c.hc + 1 })
/-- The fraction wraps once the phase has run through the half-cycle (R304). -/
@[noinline] def State.hcWrap (s : State) : State :=
  if phFull ≤ s.cis.ph then (s.modCis (fun c => { c with ph := c.ph - phFull })).hcStep else s
/-- HALF_CYCLE_BOUNDARY (R304). -/
def execHalfCycleBoundary (s : State) : Res := .next (if s.pwr.aonValid then s.hcWrap else s)
/-- ERA_WRAP (R306): the wrap of the count from 0xFFFF_FFFF. -/
def execEraWrap (s : State) : Res := .next (if s.pwr.aonValid ∧ s.cis.hc = 0xFFFFFFFF then s.hcWrap else s)
/-- SEED_APPLY (R309): the boundary at which a pending request applies. -/
def execSeedApply (s : State) : Res := .next (if s.pwr.aonValid ∧ s.cis.seed = 1 then s.hcWrap else s)

/-- Acquisition, first step (R677): the fraction steps forward to its wrap and counts from the pulse's centre. -/
@[noinline] def State.acquire (s : State) (width : Nat) : State :=
  let s := s.hcStep
  s.modCis (fun c => { c with acquired := true, ph := width * c.rate / 2 })
/-- The mean offset of B from A in LU, over the pairs measured (R312). -/
def CisState.offsetOf (c : CisState) (sum : Int) (n : Nat) : Int := sum * 65536 / (max 1 n * max 1 c.period : Nat)
/-- One pair of crossings in tolerance on both inputs (R312): VALID after 16. DESIGN CHOICE (log 83): the mean over those 16 is held. -/
@[noinline] def State.bPair (s : State) (ta tb : Nat) : State :=
  if 16 ≤ s.cis.bCount then s
  else s.modCis (fun c =>
    let sum := c.bSum + ((tb : Int) - ta)
    { c with bSum := sum, bCount := c.bCount + 1, bOffset := c.offsetOf sum (c.bCount + 1), aCross := none, bCross := none })
/-- Two crossings belong to one half-cycle: less than half a period apart. -/
def CisState.same (c : CisState) (a b : Nat) : Bool := decide (2 * (if a ≤ b then b - a else a - b) < c.period)
/-- An A crossing in tolerance looks for its B crossing. -/
@[noinline] def State.aPair (s : State) (ta : Nat) : State :=
  match s.cis.bCross with
  | some (tb, _, ok) => if ok && s.bitOf (aCis0 0x40) 2 && s.cis.same ta tb then s.bPair ta tb else s.modCis (fun c => { c with aCross := some ta })
  | none => s.modCis (fun c => { c with aCross := some ta })
/-- A pulse of LINE_ZC_A at its trailing edge (R303, R674, R677). -/
@[noinline] def State.zcPulse (s : State) (width : Nat) : State :=
  let tc := s.clk * 100 - width * 50
  let s := if s.cis.acquired then s else s.acquire width
  let s := s.crossing tc width false
  if s.cis.lastAcc = tc ∧ 0 < s.cis.goodRun then s.aPair tc else s
/-- ZC_PULSE (R303): pulses shorter than 2 µs are filtered (R657). -/
def execZcPulse (width : Nat) (s : State) : Res := .next (if s.pwr.aonValid && decide (2 ≤ width) then s.zcPulse width else s)
/-- A pulse of LINE_ZC_B at its trailing edge (R312): it pairs with an A crossing in tolerance, or waits to stand in for one. -/
@[noinline] def State.zcBSeen (s : State) (width : Nat) : State :=
  let tb := s.clk * 100 - width * 50
  let ok := match s.cis.bRef with
    | none => false
    | some r => decide (758000 ≤ tb - r ∧ tb - r ≤ 1111000) && s.crossFault (tb - r) width 0 == 0
  let short := match s.cis.bRef with | none => false | some r => decide (tb - r < 758000)
  let s := if short then s else s.modCis (fun c => { c with bRef := some tb })
  match s.cis.aCross with
  | some ta => if ok && s.cis.same ta tb then s.bPair ta tb
               else s.modCis (fun c => { c with bCross := some (tb, width, ok) })
  | none => s.modCis (fun c => { c with bCross := some (tb, width, ok) })
/-- B may stand in for A (R312): B_EN and B_OFFSET.VALID. -/
def State.bUsed (s : State) : Bool := s.bitOf (aCis0 0x40) 2 && decide (16 ≤ s.cis.bCount)
/-- The B crossing less the offset, where it lies within half a half-cycle of the wrap (R312). -/
def State.bStandIn (s : State) : Option (Nat × Nat) :=
  match s.cis.bCross with
  | some (tb, w, _) =>
    let off := s.cis.bOffset * s.cis.period / 65536
    let tc := ((tb : Int) - off).toNat
    if s.bUsed && decide (tc ≤ s.clk * 100) && decide (s.cis.lastPulse < tc) &&
        decide (2 * (s.clk * 100 - tc) < s.cis.period) then some (tc, w) else none
  | none => none
/-- How far after the wrap a crossing that A does not bring may still come (R311, R312): 2,048 LU, and by the offset later where B may stand in. -/
def State.missLu (s : State) : Nat := 2048 + (if s.bUsed then s.cis.bOffset.toNat else 0)
/-- The half-cycle is not judged, and 2,048 LU after its wrap A has brought no crossing (R311). -/
def State.aMissing (s : State) : Bool := s.cis.acquired && !s.cis.judged && decide (2048 * 2 ^ 20 ≤ s.cis.ph)
/-- A brought no crossing (R311, R312): B stands in where it can, in every line state; once none can come any more the half-cycle is MISSING, which
is told of the line states that follow crossings. -/
@[noinline] def State.halfMissing (s : State) : State :=
  match s.bStandIn with
  | some (tc, w) =>
    let s := s.modCis (fun c => { c with bCross := none })
    ((s.crossing tc w true).count (evCis 11)).modCis (fun c => { c with judged := true })
  | none =>
    if s.missLu * 2 ^ 20 ≤ s.cis.ph ∧ (s.cis.line = .healthy ∨ s.cis.line = .disturbed) then (s.modCis (fun c => { c with judged := true })).lineFault 4
    else s
/-- HALF_CYCLE_MISSING (R311, R674). -/
def execHalfCycleMissing (s : State) : Res := .next (if s.pwr.aonValid && s.aMissing then s.halfMissing else s)
/-- A pulse of LINE_ZC_B (R312): where it comes after the time for A's, it stands in at once. -/
@[noinline] def State.zcBPulse (s : State) (width : Nat) : State :=
  let s := s.zcBSeen width
  if s.aMissing && s.bStandIn.isSome then s.halfMissing else s
/-- ZC_B_PULSE (R312). -/
def execZcBPulse (width : Nat) (s : State) : Res :=
  .next (if s.pwr.aonValid && s.bitOf (aCis0 0x40) 2 && decide (2 ≤ width) then s.zcBPulse width else s)
/-- LINE_LOST_TIMEOUT (R311): no accepted crossing for 1.5 nominal half-cycles. -/
def execLineLostTimeout (s : State) : Res :=
  .next (if s.pwr.aonValid && (s.cis.line == .healthy || s.cis.line == .disturbed) &&
      decide (s.cis.lastAcc + (if s.fldOf (aCis0 0x40) 1 0 = 1 then 1250000 else 1500000) ≤ s.clk * 100) then
    (s.modCis (fun c => { c with lastFault := 7 })).lineTo .lost else s)

/-! ### The hold-up estimate -/

/-- The trough window in microseconds (R313): the last LINE_PERIOD, or 10 ms in DC_FEED and LOST. -/
def State.trWindow (s : State) : Nat :=
  if s.cis.line = .dcFeed ∨ s.cis.line = .lost then 10000 else s.oscPeriod / 100
/-- The trough: the lowest sample of the window (R313). -/
def CisState.trough (c : CisState) : Nat :=
  match c.samples with
  | [] => 0
  | x :: t => t.foldl (fun m y => min m y.2) x.2
/-- The trough lies at or above DC_MIN (R311). -/
def State.dcHigh (s : State) : Bool :=
  decide (s.fldOf (aCis0 0x5C) 31 16 * 4095 ≤ s.cis.trough * s.fldOf (aCis1 0x40) 15 0)
/-- EST_US of R314 from a trough code and the declarations, rounded down and saturating. -/
def estOf (code fs vmin cap derate pHigh tShed pLow : Nat) : Nat :=
  let d := (code * fs) ^ 2 - (vmin * 4095) ^ 2
  let k := 51200 * 4095 ^ 2
  let a := if code * fs ≤ vmin * 4095 then 0 else derate * cap * d
  let shed := pHigh * tShed * 10 * k
  min 0xFFFFFF (if a ≤ shed then a * 10 / (k * pHigh) else tShed * 100 + (a - shed) * 10 / (k * pLow))
/-- The samples hold no fault code within the trough window (R313). -/
def State.adcOk (s : State) : Bool :=
  s.cis.codeSeen && match s.cis.faultAt with | some t => decide (t + s.trWindow ≤ s.clk) | none => true
/-- The formula of R314 divides by a power of 0: P_HIGH where the energy lasts less than the shed time, else P_LOW. -/
def estOpen (code fs vmin cap derate pHigh tShed pLow : Nat) : Bool :=
  let d := (code * fs) ^ 2 - (vmin * 4095) ^ 2
  let a := if code * fs ≤ vmin * 4095 then 0 else derate * cap * d
  if a ≤ pHigh * tShed * 10 * (51200 * 4095 ^ 2) then pHigh == 0 else pLow == 0
/-- HOLDUP_LOW is counted when VALID falls or EST_US falls below 5 ms + MARGIN_US (R335). -/
@[noinline] def State.holdUpEvent (s : State) : State :=
  let low := decide (s.cis.estUs < 5000 + s.fldOf (aCis1 0x58) 15 0)
  let falls := (low && !s.cis.estLow) || (s.cis.validWas && !s.huValid)
  let s := s.modCis (fun c => { c with estLow := low, validWas := s.huValid })
  if falls then s.count (evCis 7) else s
/-- Recompute the estimate (R314, R315): a draw on a power of 0 has no stated value. -/
@[noinline] def State.estimate (s : State) : State :=
  let of {α : Type} (f : Nat → Nat → Nat → Nat → Nat → Nat → Nat → Nat → α) : α :=
    f s.cis.trough (s.fldOf (aCis1 0x40) 15 0) (s.fldOf (aCis1 0x40) 31 16) (s.fldOf (aCis1 0x44) 19 0)
      (s.fldOf (aCis1 0x44) 31 24) (s.fldOf (aCis1 0x48) 15 0) (s.fldOf (aCis1 0x48) 31 16) (s.fldOf (aCis1 0x4C) 15 0)
  let free := of estOpen
  let est := if free then (Config.freeWord s.freeCtr).toNat % 2 ^ 24 else of estOf
  let s := if free then s.freed else s
  let s := s.modCis (fun c => { c with estUs := est, estValid := s.adcOk })
  let s := s.holdUpEvent
  if s.cis.line == .dcFeed && !s.dcHigh then s.lineTo .lost else s
/-- One HOLD_SENSE sample (R313). -/
@[noinline] def State.sample (s : State) (code : Nat) : State :=
  let bad := decide (code = 0 ∨ code = 4095)
  let enters := bad && !(s.cis.codeSeen && (s.cis.code == 0 || s.cis.code == 4095))
  let keep := s.cis.samples.filter (fun x => decide (s.clk < x.1 + s.trWindow))
  let s := s.modCis (fun c => { c with code := code, codeSeen := true, samples := keep ++ [(s.clk, code)],
                                       faultAt := if bad then some s.clk else c.faultAt })
  let s := if enters then s.count (evCis 13) else s
  s.estimate
/-- HOLDUP_ESTIMATE (R313, R314). -/
def execHoldupEstimate (code : Fin 4096) (s : State) : Res := .next (if s.pwr.aonValid then s.sample code.val else s)
/-- DC_FEED_ENTRY (R311). -/
def execDcFeedEntry (s : State) : Res :=
  .next (if s.cis.line == .lost && !s.pfwOn && s.bitOf (aCis0 0x5C) 0 && s.dcHigh &&
      decide (s.cis.lastPulse + s.fldOf (aCis0 0x5C) 15 8 * s.nominal ≤ s.clk * 100) then s.lineTo .dcFeed else s)

/-! ### The position seed -/

/-- The effect of a POS_SEED write, low and high word together (R309): PENDING, or REFUSED and recorded as STATE. -/
@[noinline] def State.posSeed (s : State) (m : Master) (lo hi : Word) : State :=
  let s := (s.setReg (aCis0 0x60) lo).setReg (aCis0 0x64) (hi &&& 0xFFFF0000)
  let armed := (List.range 8).any (fun t => (s.timer t).st == .armed) || s.arm.st == .armed
  if armed || s.cis.seedUsed || !posAhead lo.toNat 0 (s.cis.hc + 1) 0 then
    (s.modCis (fun c => { c with seed := 3 })).refuse m (aCis0 0x64)
  else s.modCis (fun c => { c with seed := 1, seedHc := lo.toNat, seedEra := Word.field hi 31 16 })
/-- POS_SEED_WRITE (R309). -/
def execPosSeedWrite (m : Master) (lo hi : Word) (s : State) : Res :=
  .next (s.guarded m (aCis0 0x64) (fun s => s.posSeed m lo hi))

/-! ### Hart commit descriptors -/

/-- Core memory address of a commit descriptor slot (R325, R502). -/
def descAt (slot : Nat) : Nat := 0x10470000 + 320 * slot
/-- Set RESULT and STATE of a commit descriptor slot. -/
@[noinline] def State.descEnd (s : State) (slot : Nat) (r : Status) : State :=
  (s.setByte (descAt slot + 16) r).setByte (descAt slot + 17) 3
/-- The active GENERATION is 0xFFFF_FFFE (R374). -/
def State.genFull (s : State) : Bool := match s.cel.active with | some b => bankGen (s.bank b) == 0xFFFFFFFE | none => false
/-- The status of a BBRAM submission (R374). -/
def State.bankCheck (s : State) (bank : Nat) (data : Bytes) : Status :=
  let src := Bytes.num data 0 1
  let low := (List.range 16).any (fun d => decide (bankEpoch data d < s.blobEpoch d))
  if 1 < src ∨ !allZero (Bytes.slice data 1 35) ∨ !allZero (Bytes.slice data 0x64 4) then stBadOpcode
  else if s.cel.active = some bank ∨ low ∨ (src = 0 ∧ s.cel.active = none) ∨ s.secretRight ∨ s.genFull then stStateForbids
  else stOk
/-- The status of a submission of a slot (R326). -/
def State.submitCheck (s : State) (slot : Nat) (h : Bytes) : Status :=
  let cls := Bytes.num h 0 1
  let len := Bytes.num h 6 2
  let addr := Bytes.num h 8 4
  if (cls ≠ 2 ∧ cls ≠ 3) ∨ Bytes.num h 1 1 ≠ 0 ∨ Bytes.num h 12 4 ≠ 0 ∨ !allZero (Bytes.slice h 18 46) then stBadOpcode
  else if cls = 2 ∧ (15 < Bytes.num h 4 1 ∨ 1 < Bytes.num h 5 1) then stBadOpcode
  else if cls = 3 ∧ (1 < Bytes.num h 4 1 ∨ Bytes.num h 5 1 ≠ 0) then stBadOpcode
  else if cls = 2 ∧ (len = 0 ∨ 256 < len ∨ addr / 256 ≠ (addr + len - 1) / 256) then stBadLength
  else if cls = 3 ∧ (len ≠ 104 ∨ addr ≠ 0) then stBadLength
  else if (s.adm (17 + slot)).st ≠ .empty ∨ s.cis.blocked then stStateForbids
  else if cls = 3 then s.bankCheck (Bytes.num h 4 1) (Bytes.slice h 64 104)
  else stOk
/-- COMMIT_SUBMIT.SUBMIT (R326): the slot is copied into its queue entry, or refused. -/
@[noinline] def State.commitSubmit (s : State) (m : Master) (v : Word) : State :=
  let slot := Word.field v 3 0
  if slot = 15 ∨ (Word.bit v 8 ∧ Word.bit v 9) then s.refuse m (aCis1 0x68)
  else if !Word.bit v 8 then s
  else
    let h := s.bytes (descAt slot) 320
    let st := s.submitCheck slot h
    if st ≠ stOk then (s.descEnd slot st).count (evCis 15)
    else
      let data := Bytes.slice h 64 (Bytes.num h 6 2)
      let what := if Bytes.num h 0 1 = 2 then .page slot (Bytes.num h 4 1) (Bytes.num h 5 1) (Bytes.num h 8 4) data
        else .bank slot (Bytes.num h 4 1) data
      (s.setByte (descAt slot + 17) 1).enqueue (17 + slot) (Bytes.num h 0 1) (Bytes.num h 2 2) what
/-- COMMIT_SUBMIT (R326, R334). -/
def execCommitSubmit (m : Master) (v : Word) (s : State) : Res :=
  .next (s.guarded m (aCis1 0x68) (fun s => s.commitSubmit m v))
/-- COMMIT_SUBMIT.WITHDRAW (R324, R336): a waiting slot is withdrawn with ABORTED, any other is recorded as STATE. -/
@[noinline] def State.commitWithdraw (s : State) (m : Master) (v : Word) : State :=
  let slot := Word.field v 3 0
  if slot = 15 ∨ (Word.bit v 8 ∧ Word.bit v 9) then s.refuse m (aCis1 0x68)
  else if !Word.bit v 9 then s
  else if (s.adm (17 + slot)).st = .waiting then (s.withdraw (17 + slot)).descEnd slot stAborted
  else s.refuse m (aCis1 0x68)
/-- COMMIT_WITHDRAW (R324). -/
def execCommitWithdraw (m : Master) (v : Word) (s : State) : Res :=
  .next (s.guarded m (aCis1 0x68) (fun s => s.commitWithdraw m v))

/-! ### Line timers and the armed strobe -/

/-- ARM of one timer (R327): it copies AT and CFG and is ARMED where the position is ahead, else REFUSED. -/
@[noinline] def State.armTimer (s : State) (t : Nat) : State :=
  let hc := (s.reg (aCis1 (0x80 + 16 * t))).toNat
  let lu := s.fldOf (aCis1 (0x84 + 16 * t)) 15 0
  let cfg := s.reg (aCis1 (0x88 + 16 * t))
  let x : Timer := { st := .armed, hc := hc, lu := lu, period := Word.field cfg 15 0, dest := Word.field cfg 17 16, mark := Word.field cfg 31 24 }
  if s.ahead hc lu then s.setTimer t x
  else (s.setTimer t { x with st := .refused }).count (evCis 10)
/-- CANCEL of one timer (R327). -/
@[noinline] def State.cancelTimer (s : State) (t : Nat) : State :=
  if (s.timer t).st = .armed then s.setTimer t { s.timer t with st := .idle } else s
/-- Timers that a TMR_CTRL write arms: ARM set, CANCEL not set (R327). -/
def armBits (v : Word) : List Nat := (List.range 8).filter (fun t => Word.bit v t && !Word.bit v (8 + t))
/-- ARM bits of a TMR_CTRL write (R327); a write of which a timer is REFUSED is recorded as STATE (R330). -/
@[noinline] def State.timersArm (s : State) (m : Master) (v : Word) : State :=
  let s := (armBits v).foldl State.armTimer s
  if (armBits v).any (fun t => (s.timer t).st == .refused) then s.refuse m (aCis1 0x100) else s
/-- CANCEL bits of a TMR_CTRL write. -/
@[noinline] def State.timersCancel (s : State) (v : Word) : State :=
  (List.range 8).foldl (fun s t => if Word.bit v (8 + t) then s.cancelTimer t else s) s
/-- The effect of a TMR_CTRL write (R327). -/
@[noinline] def State.tmrCtrl (s : State) (m : Master) (v : Word) : State := (s.timersArm m v).timersCancel v
/-- TIMER_ARM (R327). -/
def execTimerArm (m : Master) (v : Word) (s : State) : Res := .next (s.guarded m (aCis1 0x100) (fun s => s.tmrCtrl m v))
/-- TIMER_CANCEL (R327): the timers that the value names are cancelled. -/
def execTimerCancel (m : Master) (v : Word) (s : State) : Res :=
  .next (s.guarded m (aCis1 0x100) (fun s => s.timersCancel v))

/-- ARM of the SYS armed strobe (R52, R54); a refusal counts UPD_REFUSED (R88). -/
@[noinline] def State.updArm (s : State) (m : Master) : State :=
  if s.arm.st = .armed then s.refuse m (pg 1 0x58)
  else
    let hc := (s.reg (pg 1 0x50)).toNat
    let lu := s.fldOf (pg 1 0x54) 15 0
    let ok := s.ahead hc lu
    let s := { s with arm := { st := if ok then .armed else .refused, mask := s.reg (pg 1 0x48), hc := hc, lu := lu } }
    if ok then s else s.count (evSys 4)
/-- UPD_ARM (R52). -/
def execUpdArm (m : Master) (s : State) : Res := .next (s.guarded m (pg 1 0x58) (fun s => s.updArm m))
/-- CANCEL of the SYS armed strobe (R54). -/
@[noinline] def State.updCancel (s : State) : State :=
  if s.arm.st = .armed then { s with arm := { s.arm with st := .idle } } else s
/-- UPD_CANCEL (R54). -/
def execUpdCancel (m : Master) (s : State) : Res := .next (s.guarded m (pg 1 0x58) (fun s => s.updCancel))

/-! ### Across a reset -/

/-- What a reset keeps of Cistern (R308); the admission queue, the timers, the counts and a pending seed go. -/
def CisState.warm (c : CisState) : CisState :=
  { c with queue := [], order := 0, inflight := none, blocked := false, timers := [], seed := if c.seed = 1 then 0 else c.seed }
/-- CIS registers that a reset keeps (R308): LINE_CFG, LINE_TOL, DC_CFG, HU_BULK, HU_CAP, HU_LOAD, HU_LOAD2, ADM_CFG, COMMIT_WIN. -/
def cisKept (a : Nat) : Bool :=
  [aCis0 0x40, aCis0 0x58, aCis0 0x5C, aCis1 0x40, aCis1 0x44, aCis1 0x48, aCis1 0x4C, aCis1 0x58, aCis1 0x5C].contains a

end Sys2Proof.Machine
end

