-- ==== Sys2Proof/Machine/Boot.lean ====
section
/-! DEFINITION. BOOT: stages and halts, push mode, the ROM's choice of a runtime slot, the staging window and the release
checker, and the locks of the derivation unit (R111, R114 to R142, R381). -/
namespace Sys2Proof.Machine

/-- Address of a register of BOOT page 0. -/
def aBoot0 (off : Nat) : Nat := pg 0x14 off
/-- Address of a register of BOOT page 1. -/
def aBoot1 (off : Nat) : Nat := pg 0x15 off
/-- Change the boot state. -/
@[noinline] def State.modBoot (s : State) (f : BootState → BootState) : State := { s with boot := f s.boot }
/-- BOOT_STAGE with STAGE replaced. -/
@[noinline] def State.stage (s : State) (st : Nat) : State := s.setStage (Word.setField (s.reg aStage) 7 0 st)
/-- BOOT_STAGE with STAGE, FAIL and SLOT replaced. -/
@[noinline] def State.stageAll (s : State) (st fail slot : Nat) : State := s.setStage (wd st ||| fld fail 8 ||| fld slot 16)
/-- BOOT_STAGE with STAGE and FAIL replaced. -/
@[noinline] def State.stageFail (s : State) (st fail : Nat) : State := s.stageAll st fail (Word.field (s.reg aStage) 17 16)
/-- Halt with a failure code (R111, R141): hart 0 stays in the ROM's halt loop, BOOT_FAULT is counted. -/
@[noinline] def State.haltRom (s : State) (code : Nat) : State :=
  ((s.modBoot (fun b => { b with halted := true })).stageFail 0x0F code).count (evBoot 15)
/-- PUSH_CTRL.OPEN. -/
def State.pushOn (s : State) : Bool := s.bitOf (aBoot1 0x60) 0
/-- Set PUSH_CTRL.OPEN; opening counts PUSH_OPENED (R152). -/
@[noinline] def State.setPush (s : State) (on : Bool) : State :=
  let was := s.pushOn
  let s := s.setReg (aBoot1 0x60) (flg on 0)
  if on && !was then s.count (evBoot 2) else s
/-- The ROM opens push mode with a failure code (R141); code 0x07 counts REVOKED_ONLY. -/
@[noinline] def State.openPush (s : State) (code : Nat) : State :=
  let s := (s.setPush true).stageFail 0x0E code
  if code = 0x07 then s.count (evBoot 9) else s

/-- States in which an agent of a column of R127 may push. -/
def State.lcIn (s : State) (l : List LcState) : Bool := match s.lcf.eff with | some x => l.contains x | none => false
/-- Agents allowed by the life-cycle state (R127, R128). -/
def State.agentOk (s : State) (m : Master) : Bool :=
  if m = 0x40 ∨ m = 0x20 then s.lcIn [.test, .provision, .owned, .ret]
  else if m = 0x10 then s.lcIn [.test, .provision, .ret] || (s.lcIn [.owned] && s.pushPcie)
  else if m = jtag then s.lcIn [.raw, .test, .ret]
  else m == 0 && s.boot.rtReleased && s.lcIn [.test, .provision, .owned, .ret]
/-- PUSH_ALLOW (R151). -/
def State.pushAllow (s : State) : Word := flg (s.agentOk 0x40) 0 ||| flg (s.agentOk 0x20) 1 ||| flg (s.agentOk 0x10) 2 ||| flg (s.agentOk jtag) 3
/-- Image key slots allowed in the state (R121). -/
def State.keySlotOk (s : State) (k : Nat) : Bool :=
  if k < 8 then s.lcIn [.test, .provision, .owned, .ret] else k < 16 && s.lcIn [.owned]
/-- The key fields of a manifest hash to the fuses of its slot (R120). -/
def State.keyHashOk (s : State) (m : Bytes) : Bool := sha384 (manKeys m) == s.keyHash (manKeySlot m)
/-- The revocation fuse of a manifest's key slot is blown. -/
def State.keyRevoked (s : State) (m : Bytes) : Bool := s.revoked.testBit (manKeySlot m)
/-- Everything of R120 that the header and the commit word say, for a class and a slot of `len` bytes. -/
def State.manHead (s : State) (m : Bytes) (cls len : Nat) : Bool :=
  manHeadOk m s.v2Allow && manClass m == cls && manCommitOk m && manRegionsOk m len
/-- A manifest is valid under R120. -/
def State.manValid (s : State) (m : Bytes) (cls len : Nat) : Bool :=
  s.manHead m cls len && s.keySlotOk (manKeySlot m) && !s.keyRevoked m && s.keyHashOk m && manSigsOk m
/-- The minimum of a class in the record that counts, or the one held without a record (R125, R614). -/
def State.recMin (s : State) (cls : Nat) : Nat :=
  if s.boot.arb.isEmpty then (if cls = 0 then s.boot.heldMin else 0) else Bytes.num s.boot.arb (0x10 + 2 * cls) 2
/-- The class minimum that a check takes (R125, R357): 0 in RETURN. -/
def State.minVersion (s : State) (cls : Nat) : Nat := if s.lcf.eff = some .ret then 0 else s.recMin cls

/-! ### The ROM's choice of a slot -/

/-- SLOT_RESULT of a slot (1 A, 2 B). -/
@[noinline] def State.slotResult (s : State) (slot : Nat) (st : Status) : State :=
  s.setFld (aBoot0 0x50) (8 * slot - 1) (8 * slot - 8) st.toNat
/-- The ROM writes CDI_MDIGEST and CDI_KEYSLOT and triggers DERIVE (R123, R142, R378): LOCK_CDI makes the two ignore the writes, and
either lock makes DERIVE be refused (R381). -/
@[noinline] def State.romDerive (s : State) (m : Bytes) : State :=
  let md := sha384 (manSigned m)
  let s := if s.cel.lockCdi then s else
    ((List.range 12).foldl (fun s w => s.setReg (pg 0x21 (0x4C + 4 * w)) (Bytes.word md w)) s).setReg (pg 0x21 0x7C) (wd (manKeySlot m % 16))
  s.kduDerive
/-- The failure code that BOOT_STAGE shows while the ROM tries its next candidate (R140, R141): that of the candidate that fell back. -/
def State.romFail (s : State) : Nat := if s.boot.romCode = 0x06 ∨ s.boot.romCode = 0x0B then s.boot.romCode else s.fldOf aStage 15 8
/-- The ROM tries its candidates in order (R122, R123): the first that verifies is derived and fetched; with none left push mode
opens with the code reached. DESIGN CHOICE (log 68): SLOT_RESULT is AUTH_FAIL for a key slot, key hash, signature or revocation that
fails and STATE_FORBIDS below the minimum; the spec names no status. -/
@[noinline] def State.romTry (s : State) (cs : List Candidate) : State :=
  match cs with
  | [] => (s.modBoot (fun b => { b with cands := [], trying := none })).openPush s.boot.romCode
  | c :: rest =>
    let m := c.man
    if !(s.keySlotOk (manKeySlot m) && s.keyHashOk m && manSigsOk m) then (s.slotResult c.slot stAuthFail).romTry rest
    else if s.keyRevoked m then
      ((s.slotResult c.slot stAuthFail).modBoot (fun b => { b with romCode := if b.romCode = 5 then 7 else b.romCode })).romTry rest
    else if manSecVersion m < s.minVersion 0 then
      ((s.slotResult c.slot stStateForbids).modBoot (fun b => { b with romCode := 8 })).romTry rest
    else
      let s := (s.modBoot (fun b => { b with cands := rest, trying := some c })).stageAll 0x04 s.romFail c.slot
      (s.romDerive m).stage 0x05
/-- A candidate fails (R123, R380): CDI0 and the seeds are discarded unless a lock bars it, SLOT_FALLBACK is counted, the next one is
tried. -/
@[noinline] def State.romFallback (s : State) (code : Nat) (st : Status) : State :=
  match s.boot.trying with
  | none => s
  | some c =>
    let s := (s.kduDiscard.slotResult c.slot st).count (evBoot 8)
    (s.modBoot (fun b => { b with romCode := code, trying := none })).romTry s.boot.cands
/-- Candidates in the order of R122: descending SEQUENCE, slot A first on equal numbers. -/
def romOrder (a b : Option Candidate) : List Candidate :=
  match a, b with
  | some x, some y => if manSequence x.man < manSequence y.man then [y, x] else [x, y]
  | some x, none => [x]
  | none, some y => [y]
  | none, none => []

/-! ### The staging window -/

/-- The window and the manifest buffer are wiped. -/
@[noinline] def State.stageWipe (s : State) (rel : RelState) (owner : Master) : State :=
  s.modBoot (fun b => { b with man := [], body := [], bodyCount := 0, overrun := false, rel := rel, owner := owner })
/-- A release is refused (R138); the ROM goes on to its next candidate where it fetched the body (R123, R141), unless the road has ended
(R18, R111). DESIGN CHOICE (log 66): CHECK is 0 where no check failed. -/
@[noinline] def State.relRefuse (s : State) (code : Status) (check : Nat) : State :=
  let fetched := s.boot.owner == 0x40
  let s := (((s.permDrop 32).stageWipe .refused 0xFF).modBoot (fun b => { b with relCode := code, relCheck := check })).count (evBoot 6)
  if fetched && !s.shut then s.romFallback 0x0B code else s
/-- The window opens to a new owner (R130). -/
@[noinline] def State.stageOpen (s : State) (m : Master) : State := (s.stageWipe .owned m).count (evBoot 3)
/-- A claim by a register write is allowed (R128, R130): hart 0, or in push mode an agent outside; the FETCH agent claims at the ROM's
command only. -/
def State.claimOk (s : State) (m : Master) : Bool :=
  s.boot.owner == 0xFF && s.agentOk m && m != 0x40 && (m == 0 || s.pushOn) &&
  (s.boot.rel == .idle || s.boot.rel == .done || s.boot.rel == .refused)
/-- The effect of a STAGE_CLAIM write (R130). -/
@[noinline] def State.claim (s : State) (m : Master) (v : Word) : State :=
  if !Word.bit v 0 then s else s.when m (aBoot1 0x40) (s.claimOk m) (fun s => s.stageOpen m)
/-- STAGE_CLAIM (R130). -/
def execStageClaim (m : Master) (v : Word) (s : State) : Res := .next (s.guarded m (aBoot1 0x40) (fun s => s.claim m v))

/-- One word appended (R131). -/
@[noinline] def State.stageAppend (s : State) (w : Bytes) : State :=
  let b := s.boot
  if b.man.length < manLen b.man then s.modBoot (fun b => { b with man := b.man ++ w })
  else
    let cnt := min 0xFFFFFFFF (b.bodyCount + 4)
    if b.body.length < 2 ^ 21 then s.modBoot (fun b => { b with body := b.body ++ w, bodyCount := cnt })
    else
      let s := s.modBoot (fun b => { b with bodyCount := cnt, overrun := true })
      if b.overrun then s else s.count (evBoot 4)
/-- The effect of a STAGE_DATA write (R131, R132). -/
@[noinline] def State.stageData (s : State) (m : Master) (v : Word) : State :=
  s.when m (aBoot1 0x80) (s.boot.owner == m && s.boot.rel == .owned) (fun s => s.stageAppend (leBytes 4 v.toNat))
/-- STAGE_DATA_APPEND (R131). -/
def execStageDataAppend (m : Master) (v : Word) (s : State) : Res := .next (s.guarded m (aBoot1 0x80) (fun s => s.stageData m v))

/-- The effect of RELEASE.GO (R132, R133, R139). -/
@[noinline] def State.relGo (s : State) (m : Master) : State :=
  s.when m (aBoot1 0x54) (s.boot.owner == m && s.boot.rel == .owned) (fun s =>
    (s.modBoot (fun b => { b with rel := .checking })).permReady 32 (leafAlg (manHashAlg s.boot.man)) s.boot.body.length)
/-- RELEASE_GO (R133). -/
def execReleaseGo (m : Master) (s : State) : Res := .next (s.guarded m (aBoot1 0x54) (fun s => s.relGo m))
/-- A release whose checks have not ended (R139). -/
def BootState.unfinished (b : BootState) : Bool := b.rel == .owned || b.rel == .checking || b.rel == .awaitLock
/-- The effect of RELEASE.ABANDON (R135, R139); CHECK 0 as log 66 has it. -/
@[noinline] def State.relAbandon (s : State) (m : Master) : State :=
  if s.boot.owner ≠ m then s.refuse m (aBoot1 0x54)
  else if s.boot.unfinished then s.relRefuse stAborted 0
  else if s.boot.rel = .done ∧ m = 0 then s.stageWipe .idle 0xFF
  else s.refuse m (aBoot1 0x54)
/-- RELEASE_ABANDON (R135, R139). -/
def execReleaseAbandon (m : Master) (s : State) : Res := .next (s.guarded m (aBoot1 0x54) (fun s => s.relAbandon m))
/-- The owning agent is reset (R139). -/
@[noinline] def State.stageReset (s : State) (m : Master) : State :=
  if s.boot.owner == m && s.boot.unfinished then s.relRefuse stAborted 0 else s
/-- A tamper response refuses a release in any STATE other than IDLE (R139). -/
@[noinline] def State.stageTamper (s : State) : State := if s.boot.rel = .idle then s else s.relRefuse stTampered 0

/-! ### The release checker -/

/-- STAGE_TARGET.KIND is IMAGE. -/
def State.kindImage (s : State) : Bool := s.bitOf (aBoot1 0x48) 0
/-- Replay is to start at this boot (R632): its checks differ. -/
def State.replayBoot (s : State) : Bool := s.flr.replay == .pending
/-- The first RT_RELEASE digest of the stream that replay reads from PF0 memory: host data, free here (R632). -/
def State.streamDigest (s : State) : Bytes := Config.freeBytes s.freeCtr 48
/-- The first check that fails, with its code (R133, R632). DESIGN CHOICE (log 105): a manifest whose HASH_ALG is above 1 names no tree, and fails
check 7 with AUTH_FAIL; the spec gives no check for the field. -/
def State.relCheckFail (s : State) : Option (Nat × Status) :=
  let b := s.boot
  let m := b.man
  let img := s.kindImage
  let cls := s.fldOf (aBoot1 0x48) 13 8
  let rp := s.replayBoot && !img
  if m.length ≠ manLen m then some (1, stLengthShort)
  else if !manHeadOk m s.v2Allow then some (2, stVersion)
  else if (if img then manClass m != cls || !b.rtReleased || !(b.owner == 0 || b.pushOpen) else manClass m != 0 || b.rtReleased || b.owner == 0) then
    some (3, stStateForbids)
  else if !rp && !(s.keySlotOk (manKeySlot m) && !s.keyRevoked m && s.keyHashOk m) then some (4, stAuthFail)
  else if !rp && !manSigsOk m then some (5, stAuthFail)
  else if b.bodyCount < manImageLen m then some (6, stLengthShort)
  else if b.bodyCount ≠ manImageLen m ∨ 2 ^ 21 < manImageLen m ∨ (!img ∧ (manImageLen m ≤ manEntry m ∨ manEntry m % 2 ≠ 0)) then some (6, stBadLength)
  else if 1 < manHashAlg m ∨ treeRoot (manHashAlg m) b.body ≠ manRoot m then some (7, stAuthFail)
  else if !rp && decide (manSecVersion m < s.minVersion (manClass m)) then some (8, stStateForbids)
  else none
/-- The checks pass (R134, R136): an image is DONE and owned by hart 0; a runtime waits for the locks, and from a pushed one the ROM
derives now (R142; a replay boot derives nothing, R632). -/
@[noinline] def State.relPass (s : State) : State :=
  if s.kindImage then (s.modBoot (fun b => { b with rel := .done, owner := 0 })).count (evBoot 5)
  else
    let s := if s.boot.owner = 0x40 then s else s.stageAll (s.fldOf aStage 7 0) (s.fldOf aStage 15 8) 3
    let s := if s.boot.owner = 0x40 || s.replayBoot then s else s.romDerive s.boot.man
    (s.modBoot (fun b => { b with rel := .awaitLock })).count (evBoot 7)
/-- The checker ends (R133); in a replay boot the manifest must be the recorded one (R632). -/
@[noinline] def State.relCheckEnd (s : State) : State :=
  match s.relCheckFail with
  | some (k, st) => s.relRefuse st k
  | none =>
    if s.replayBoot && !s.kindImage then
      (if sha384 (manSigned s.boot.man) = s.streamDigest then (s.freed).relPass
       else ({ s.freed with flr := { s.flr with replay := .failed } }).relRefuse stAuthFail 0)
    else s.relPass
/-- RELEASE_CHECK_DONE (R133): a lane has hashed the body (R279, R291). -/
def execReleaseCheckDone (s : State) : Res :=
  .next (if s.awake && s.boot.rel == .checking && s.permOn then (s.permEnd 32).relCheckEnd else s)

/-! ### The ROM fetcher -/

/-- The fetched body is the one that the manifest names: length and tree root (R123, R141). -/
def Candidate.bodyOk (c : Candidate) (body : Bytes) : Bool :=
  body.length == manImageLen c.man && treeRoot (manHashAlg c.man) body == manRoot c.man
/-- The FETCH agent streams manifest and body into the window and writes GO (R123, R131, R133). -/
@[noinline] def State.romPush (s : State) (man body : Bytes) : State :=
  let s := (s.stageOpen 0x40).setReg (aBoot1 0x48) 0
  let s := s.modBoot (fun b => { b with man := man, body := body.take (2 ^ 21), bodyCount := body.length, rel := .checking,
                                        overrun := decide (2 ^ 21 < body.length) })
  let s := s.permReady 32 (leafAlg (manHashAlg man)) body.length
  if 2 ^ 21 < body.length then s.count (evBoot 4) else s
/-- ROM_FETCH_DONE (R123); a body that does not match gives SLOT_RESULT AUTH_FAIL (log 68). -/
def execRomFetchDone (body : Bytes) (readFail : Bool) (s : State) : Res :=
  .next (match s.boot.trying with
    | none => s
    | some c =>
      if s.boot.rtReleased || !s.awake || s.boot.rel == .checking || s.boot.rel == .awaitLock then s
      else if readFail || !c.bodyOk body then s.romFallback 0x06 stAuthFail
      else s.romPush c.man body)

/-! ### Register writes of BOOT and the locks -/

/-- The effect of a PUSH_CTRL write (R128). -/
@[noinline] def State.pushCtrl (s : State) (v : Word) : State :=
  let s := s.setPush (Word.bit v 0)
  if Word.bit v 0 && s.boot.rtReleased then s.modBoot (fun b => { b with pushOpen := true }) else s
/-- PUSH_CTRL_WRITE (R128). -/
def execPushCtrlWrite (m : Master) (v : Word) (s : State) : Res := .next (s.guarded m (aBoot1 0x60) (fun s => s.pushCtrl v))
/-- The effect of a BOOT_STAGE write (R140): before the runtime release it replaces STAGE, FAIL and SLOT. -/
@[noinline] def State.bootStage (s : State) (m : Master) (v : Word) : State :=
  s.when m aStage (!s.boot.rtReleased) (fun s => s.setStage (v &&& 0x3FFFF))
/-- BOOT_STAGE_WRITE (R140). -/
def execBootStageWrite (m : Master) (v : Word) (s : State) : Res := .next (s.guarded m aStage (fun s => s.bootStage m v))

/-- Both locks set for the first time count LOCKED of the Cellar (R405). -/
@[noinline] def State.locked (s : State) (before : State) : State :=
  if s.cel.closeSecret && s.cel.lockCdi && !(before.cel.closeSecret && before.cel.lockCdi) then s.count (evCel 8) else s
/-- CLOSE_SECRET (R381). -/
@[noinline] def State.closeSecret (s : State) : State := ({ s with cel := { s.cel with closeSecret := true } }).locked s
/-- LOCK_CDI (R381): CDI0 is zeroed. -/
@[noinline] def State.lockCdi (s : State) : State := ({ s with cel := { s.cel with lockCdi := true, cdi0 := none } }).locked s
/-- KDU_CLOSE_SECRET (R381). -/
def execKduCloseSecret (m : Master) (s : State) : Res := .next (s.guarded m (pg 0x21 0x44) (fun s => s.closeSecret))
/-- KDU_LOCK_CDI (R381). -/
def execKduLockCdi (m : Master) (s : State) : Res := .next (s.guarded m (pg 0x21 0x44) (fun s => s.lockCdi))

/-- LC_STATE (R364). -/
def State.lcReg (s : State) : Word :=
  let c (k : Nat) : Nat := match lcDecode1 (s.lcCopy k) with | some x => x.code | none => 7
  wd (match s.lcf.eff with | some x => x.code | none => 7) ||| fld s.lcf.rule 4 ||| fld (c 0) 8 ||| fld (c 1) 12 ||| fld (c 2) 16 |||
  flg (!s.lcf.owed.isEmpty) 24 ||| flg s.lcf.copyFault 25 ||| flg s.lcf.transit.isSome 26 ||| flg s.lcf.dbgHalted 27
/-- DBG_RIGHTS (R363). -/
def State.rightsReg (s : State) : Word := wd s.rights ||| fld s.ceiling 16

end Sys2Proof.Machine
end

