-- ==== Sys2Proof/Machine/Prst.lean ====
section
/-! DEFINITION. PRST: hold requests and forces, the release sequencer, power-good inputs, general-purpose pins and the master
watchdogs (R104, R143 to R150, R239, R615, R616, R658). -/
namespace Sys2Proof.Machine

/-- Address of a register of PRST page 0. -/
def aPrst0 (off : Nat) : Nat := pg 0x2C off
/-- Address of a register of PRST page 1. -/
def aPrst1 (off : Nat) : Nat := pg 0x2D off
/-- Change the PRST state. -/
@[noinline] def State.modPrst (s : State) (f : PrstState → PrstState) : State := { s with prst := f s.prst }
/-- HOLD_N[i] asserts: the ports mapped to the line are silenced (R177). -/
@[noinline] def State.holdAssert (s : State) (i : Nat) : State :=
  let s := s.modPrst (fun p => { p with released := putBit p.released i false })
  (s.portsOf i).foldl State.silence s
/-- A line whose deassertion is the reference moment to come is held again before it deasserts: the completion of its slot stays that moment
(R146, R150). -/
@[noinline] def State.refHeld (s : State) : State :=
  match s.prst.refLine with
  | some i => if s.asserts i then s.modPrst (fun p => { p with refLine := none }) else s
  | none => s
/-- Every released line that something asserts again goes low (R104, R239). -/
@[noinline] def State.holdCheck (s : State) : State :=
  (List.range 24).foldl (fun s i => if s.prst.released.getLsbD i && s.asserts i then s.holdAssert i else s) s.refHeld
/-- A hardware force on a line (R149). -/
@[noinline] def State.force1 (s : State) (i : Nat) : State := ((s.forceLine i).holdAssert i).refHeld
/-- Every hardware force is set (R149, R508, R586). -/
@[noinline] def State.forceAll (s : State) : State := (List.range 24).foldl State.force1 s

/-- The effect of a HOLD_REQ write. -/
@[noinline] def State.holdReq (s : State) (v : Word) : State :=
  (s.modPrst (fun p => { p with holdReq := BitVec.ofNat 24 v.toNat })).holdCheck
/-- HOLD_REQ_WRITE (R104, R143). -/
def execHoldReqWrite (m : Master) (v : Word) (s : State) : Res := .next (s.guarded m (aPrst0 0x44) (fun s => s.holdReq v))

/-- The force on one line ends: containment and the forces that watchdogs set on it (R143, R257, R616). -/
@[noinline] def State.unforce1 (s : State) (i : Nat) : State :=
  let s := s.modPrst (fun p => { p with force := putBit p.force i false })
  let s := (s.portsOf i).foldl (fun s p => s.modPort p (fun q => { q with contained := false })) s
  (List.range 8).foldl (fun s w =>
    if (s.wdog w).line = i then s.setWdog w { s.wdog w with expired := false } else s) s
/-- The effect of a HOLD_UNFORCE write (R143, R149, R508): refused after a tamper response or a stop of hart 0. -/
@[noinline] def State.unforce (s : State) (m : Master) (v : Word) : State :=
  s.when m (aPrst0 0x4C) (!s.tamp.responded && !s.harts.unforceLocked) (fun s =>
    (List.range 24).foldl (fun s i => if Word.bit v i then s.unforce1 i else s) s)
/-- HOLD_UNFORCE (R143). -/
def execHoldUnforce (m : Master) (v : Word) (s : State) : Res := .next (s.guarded m (aPrst0 0x4C) (fun s => s.unforce m v))

/-- Watchdogs whose period restarts as a line deasserts (R616). -/
@[noinline] def State.wdogStart (s : State) (i : Nat) : State :=
  (List.range 8).foldl (fun s w =>
    if s.fldOf (aPrst1 (0xC0 + 8 * w)) 4 0 = i then s.setWdog w { s.wdog w with since := s.clk } else s) s
/-- HOLD_N[i] deasserts (R148): HOLD_RELEASED, and T_FIRST_HOLD at the first since reset; the slot after the one that released it counts
from here (R146), the master runs again and its recovery ends (R617), and a run of good half-cycles begins (R611). -/
@[noinline] def State.deassert (s : State) (i : Nat) : State :=
  let s := if s.prst.firstHold then s else s.setReg (aBoot0 0x58) (wd (s.clk - s.pwr.pwrOkAt))
  let t := s.posRun
  let s := s.modPrst (fun p => { p with released := putBit p.released i true, firstHold := true, recov := putBit p.recov i false,
                                        relAt := SMap.set (fun _ => 0) p.relAt i t })
  let s := if s.prst.refLine = some i then s.modPrst (fun p => { p with refAt := s.clk, refLine := none }) else s
  (s.wdogStart i).count (evBoot 10)
/-- A line may deassert: nothing asserts it and no replay runs (R104, R632). -/
def State.mayDeassert (s : State) (i : Nat) : Bool := !s.asserts i && !s.prst.released.getLsbD i && s.flr.replay == .off
/-- HOLD_N_DEASSERT (R148). -/
def execHoldNDeassert (ln : Fin 24) (s : State) : Res := .next (if s.mayDeassert ln.val then s.deassert ln.val else s)
/-- HOLD_N_REASSERT (R239): the line of a port whose gate is no longer met. -/
def execHoldNReassert (p : Fin 16) (s : State) : Res :=
  .next (match s.lineOf p.val with
    | some i => if s.prst.released.getLsbD i && s.asserts i then s.holdAssert i else s
    | none => s)

/-! ### The release sequencer -/

/-- SEQ_SLOTk. -/
def State.seqSlot (s : State) (k : Nat) : Word := s.reg (aPrst0 (0x80 + 4 * k))
/-- The sequence goes on at slot `k`, or is DONE (R144, R146): STAGE 0x09, SEQ_DONE, and the boot section of the recorder ends. DESIGN CHOICE
(log 106): at DONE, SEQ_STATUS.SLOT keeps the last slot waited at. -/
@[noinline] def State.seqAt (s : State) (k : Nat) : State :=
  if k < 24 ∧ Word.bit (s.seqSlot k) 31 ∧ Word.field (s.seqSlot k) 4 0 < 24 then
    s.modPrst (fun p => { p with seq := .running, slot := k, refAt := s.clk, refLine := none, waitAt := s.clk })
  else
    let s := ((s.modPrst (fun p => { p with seq := .done })).stage 0x09).count (evBoot 13)
    { s with flr := { s.flr with bootOpen := false } }
/-- The effect of SEQ_CTRL.GO (R146, R147); DEDUCED (log 75): after a tamper response, when no later step of the road runs (R18), it is
refused as STATE. -/
@[noinline] def State.seqGo (s : State) (m : Master) : State :=
  if s.tamp.responded then s.refuse m (aPrst0 0x68)
  else match s.prst.seq with
  | .running => s.refuse m (aPrst0 0x68)
  | .stalled => s.modPrst (fun p => { p with seq := .running, waitAt := s.clk })
  | _ => s.seqAt 0
/-- SEQ_GO (R146). -/
def execSeqGo (m : Master) (s : State) : Res := .next (s.guarded m (aPrst0 0x68) (fun s => s.seqGo m))
/-- The sequencer waits at a slot, running or stalled. -/
def PrstState.waiting (p : PrstState) : Bool := p.seq == .running || p.seq == .stalled
/-- The effect of SEQ_CTRL.SKIP (R147); DEDUCED (log 75): after a tamper response it is refused as STATE too. -/
@[noinline] def State.seqSkip (s : State) (m : Master) : State :=
  s.when m (aPrst0 0x68) (s.prst.waiting && !s.tamp.responded) (fun s => s.seqAt (s.prst.slot + 1))
/-- SEQ_SKIP (R147). -/
def execSeqSkip (m : Master) (s : State) : Res := .next (s.guarded m (aPrst0 0x68) (fun s => s.seqSkip m))
/-- The sequencer returns to IDLE (R147). DESIGN CHOICE (log 106): SEQ_STATUS.SLOT then reads 0. -/
@[noinline] def State.seqIdle (s : State) : State := s.modPrst (fun p => { p with seq := .idle, slot := 0, refLine := none })
/-- SEQ_STOP (R147). -/
def execSeqStop (m : Master) (s : State) : Res := .next (s.guarded m (aPrst0 0x68) (fun s => s.seqIdle))
/-- The slot that the sequencer is at ends the sequence (R144); a strobe may have made it so (R150). -/
def State.slotEnds (s : State) : Bool :=
  let w := s.seqSlot s.prst.slot
  !Word.bit w 31 || decide (24 ≤ Word.field w 4 0)
/-- What slot `k` waits for is met (R146): its line has deasserted already, or gate, PGOOD and DELAY. -/
def State.slotMet (s : State) : Bool :=
  let w := s.seqSlot s.prst.slot
  let i := Word.field w 4 0
  !s.lineHeld i ||
  (s.gate i && (!Word.bit w 11 || s.prst.pgood.getLsbD (Word.field w 10 8)) &&
    decide (s.prst.refAt + 10 * Word.field w 27 16 ≤ s.clk))
/-- The line of the slot before has still to deassert: only then is that slot complete (R146; DEDUCED, log 126). -/
def State.refDue (s : State) : Bool := match s.prst.refLine with | some i => s.mayDeassert i | none => false
/-- A slot completes (R146, R150): HOLD_REQ of its line clears and the sequencer moves on; where nothing else holds the line it deasserts
next (R148), which is the reference moment of the next slot. -/
@[noinline] def State.slotDone (s : State) : State :=
  let i := Word.field (s.seqSlot s.prst.slot) 4 0
  let s := s.modPrst (fun p => { p with holdReq := putBit p.holdReq i false })
  let due := s.mayDeassert i
  ((s.stage 0x08).seqAt (s.prst.slot + 1)).modPrst (fun p => { p with refLine := if due then some i else none })
/-- SEQ_SLOT_COMPLETE (R146): after a tamper response no later step of the road runs (R18). -/
def execSeqSlotComplete (s : State) : Res :=
  .next (if !(s.prst.seq == .running) || s.tamp.responded then s
    else if s.slotEnds then s.seqAt s.prst.slot
    else if s.slotMet && !s.refDue then s.slotDone else s)
/-- SEQ_STALL (R147): a slot has waited longer than WAIT_MS. -/
def execSeqStall (s : State) : Res :=
  .next (if s.prst.seq == .running && decide (s.prst.waitAt + 1000 * s.fldOf (aPrst0 0x70) 15 0 < s.clk) then
    (s.modPrst (fun p => { p with seq := .stalled })).count (evBoot 12) else s)
/-- PGOOD_CHANGE (R12, R152): BOOT counts it while the core domain runs. -/
def execPgoodChange (ix : Fin 8) (lvl : Bool) (s : State) : Res :=
  .next (if s.prst.pgood.getLsbD ix.val = lvl then s
    else
      let s := s.modPrst (fun p => { p with pgood := putBit p.pgood ix.val lvl })
      if s.coreUp then s.count (evBoot 14) else s)

/-! ### Watchdogs and pins -/

/-- WDOGw_CFG. -/
def State.wdogCfg (s : State) (w : Nat) : Word := s.reg (aPrst1 (0xC0 + 8 * w))
/-- Watchdog `w` is enabled and its line is deasserted (R616). DESIGN CHOICE (log 127): LINE 24 to 31 names no line, and the watchdog never runs. -/
def State.wdogRuns (s : State) (w : Nat) : Bool :=
  let c := s.wdogCfg w
  Word.bit c 15 && decide (Word.field c 4 0 < 24) && !s.lineHeld (Word.field c 4 0)
/-- A watchdog expires (R616): its line is forced and HOLD_FORCED is counted. -/
@[noinline] def State.wdogExpire (s : State) (w : Nat) : State :=
  let x := s.wdog w
  let i := Word.field (s.wdogCfg w) 4 0
  (((s.setWdog w { x with expired := true, expiries := min 255 (x.expiries + 1), line := i }).force1 i).recovLine i).count (evBoot 11)
/-- WATCHDOG_EXPIRE (R616). -/
def execWatchdogExpire (w : Fin 8) (s : State) : Res :=
  .next (if s.wdogRuns w.val && decide ((s.wdog w.val).since + 1000 * Word.field (s.wdogCfg w.val) 31 16 ≤ s.clk) then
    s.wdogExpire w.val else s)
/-- An edge on pin `p` restarts the periods of the watchdogs on it (R616). -/
@[noinline] def State.wdogEdge (s : State) (p : Nat) : State :=
  (List.range 8).foldl (fun s w =>
    if Word.field (s.wdogCfg w) 11 8 = p then s.setWdog w { s.wdog w with since := s.clk } else s) s
/-- A wake edge on pin `p` in RETAIN (R599, R658). -/
@[noinline] def State.gpWake (s : State) (p : Nat) (rise : Bool) : State :=
  if s.bitOf (aPrst1 (if rise then 0x50 else 0x54)) p && !s.pwr.coreEn && s.pwr.power == .retain && s.bitOf (pg 0x1D 0x44) 1 then
    (s.wake 1).modPrst (fun q => { q with gpWake := putBit q.gpWake p true })
  else s
/-- GP_PIN_EDGE (R616, R599, R658): the level applied to a pin; an output pin keeps the level that it drives. -/
def execGpPinEdge (p : Fin 16) (rise : Bool) (s : State) : Res :=
  .next (if s.prst.gpIn.getLsbD p.val = rise then s
    else
      let s := s.modPrst (fun q => { q with gpIn := putBit q.gpIn p.val rise })
      if s.bitOf (aPrst1 0x44) p.val then s else (s.wdogEdge p.val).gpWake p.val rise)

/-- What a reset leaves of PRST (R106, R143, R658): every line requested, nothing ready, the sequencer IDLE; pin levels stay. -/
def PrstState.afterReset (p : PrstState) : PrstState :=
  { p with holdReq := 0xFFFFFF, force := 0, ready := 0, released := 0, firstHold := false, recoverHold := 0, seq := .idle,
           slot := 0, refAt := 0, refLine := none, waitAt := 0, recov := 0, relAt := [], wdogs := [] }

end Sys2Proof.Machine
end

