-- ==== Sys2Proof/Machine/Mailbox.lean ====
section
/-! DEFINITION. Mailboxes: the binding table, sends, takes, notices and resets (R514 to R526), and the hart interrupt MBXI
(R504). -/
namespace Sys2Proof.Machine

/-- The entry of a channel is VALID. -/
def Channel.valid (x : Channel) : Bool := Word.bit x.entry 31
/-- SENDER of a channel. -/
def Channel.sender (x : Channel) : Master := BitVec.ofNat 8 (Word.field x.entry 7 0)
/-- RECEIVER of a channel. -/
def Channel.receiver (x : Channel) : Master := BitVec.ofNat 8 (Word.field x.entry 15 8)
/-- MBX_RX of hart `h` (R509). -/
def State.mbxRx (s : State) (h : Nat) : Word :=
  ((List.range 32).map (fun c => flg ((s.chan c).valid && (s.chan c).full && (s.chan c).receiver.toNat == h) c)).foldl (· ||| ·) 0
/-- MBX_TX of hart `h`. -/
def State.mbxTx (s : State) (h : Nat) : Word :=
  ((List.range 32).map (fun c => flg ((s.chan c).valid && !(s.chan c).full && (s.chan c).sender.toNat == h) c)).foldl (· ||| ·) 0
/-- TIMED_OUT of every channel as a mask. -/
def State.mbxLate (s : State) : Word := ((List.range 32).map (fun c => flg (s.chan c).timedOut c)).foldl (· ||| ·) 0
/-- MBXI of hart `h` (R504). -/
def State.mbxi (s : State) (h : Nat) : Bool :=
  (s.mbxRx h &&& (s.hart h).mxmbxrx) != 0 || ((s.hart h).mxmbxtx &&& (s.mbxTx h ||| s.mbxLate)) != 0
/-- A hart with MBXI enabled resumes on it (R505). -/
@[noinline] def State.mbxIrq (s : State) (h : Nat) : State := if Word.bit (s.hart h).mie 17 && s.mbxi h then s.resume h 1 else s
/-- Every hart is looked at for MBXI. -/
@[noinline] def State.mbxIrqs (s : State) : State := (List.range 5).foldl State.mbxIrq s

/-- Address of a register of channel page `c`. -/
def aMbx (c off : Nat) : Nat := pg (0x150 + c) off
/-- A notice (R522): LAST, one CHANNEL event, and MBXI of the harts. -/
@[noinline] def State.notice (s : State) (c : Nat) (n : Notice) : State :=
  ((s.setChan c { s.chan c with last := n }).count (evMbx c)).mbxIrqs
/-- An MBX record (R624) for a channel with a hart endpoint: 1 SEND, 2 TAKE, 3 ABORTED. -/
@[noinline] def State.mbxRecord (s : State) (c op : Nat) (m : Master) (x : Channel) : State :=
  if isHart x.sender || isHart x.receiver then
    s.flight 0x06 m (leBytes 1 c ++ leBytes 1 op ++ zeros 2 ++ leBytes 4 x.rxHdr.toNat ++ (sha256 (wordsBytes x.rx)).take 16)
  else s
/-- Sixteen zero words. -/
def zeroWords : List Word := List.replicate 16 0

/-- The binding table is open (R516), and why. -/
def State.btReason (s : State) : Nat :=
  if !s.prst.firstHold then 1 else if s.lcIn [.test, .ret] then 2 else if s.pushOn then 3 else 0
/-- A pair that a channel entry may bind (R514); entries are written only while the table is open. -/
def bindOk (c : Nat) (a b : Master) : Bool :=
  let ns (m : Master) := (decide (1 ≤ m.toNat) && decide (m.toNat ≤ 4)) || isPcie m || m == 0x20 || m == jtag
  if c < 16 then
    (a == 0 && (b == 0x10 || b == 0x20 || b == jtag)) || (b == 0 && (a == 0x10 || a == 0x20 || a == jtag))
  else a != b && ns a && ns b
/-- An accepted entry write applies (R517). -/
@[noinline] def State.btSet (s : State) (m : Master) (c : Nat) (v : Word) : State :=
  let x := s.chan c
  let s := if x.full then s.mbxRecord c 3 m x else s
  let s := s.setChan c { x with entry := v &&& 0x8000FFFF, full := false, timedOut := false, txHdr := 0, tx := zeroWords,
                                rxHdr := 0, rx := zeroWords, aborts := if x.full then min 255 (x.aborts + 1) else x.aborts }
  if x.full then s.notice c .aborted else s.mbxIrqs
/-- The effect of a BT_ENTRY write (R515, R516). -/
@[noinline] def State.btWrite (s : State) (m : Master) (c : Nat) (v : Word) : State :=
  let a := pg 0x170 (0x80 + 4 * c)
  if !(m == 0 || (m == jtag && s.lcIn [.raw, .test])) then s.refuse m a
  else if s.btReason = 0 then s.errAt a .locked m
  else if Word.bit v 31 && !bindOk c (BitVec.ofNat 8 (Word.field v 7 0)) (BitVec.ofNat 8 (Word.field v 15 8)) then s.refuse m a
  else s.btSet m c v
/-- BT_ENTRY_WRITE (R515 to R517). -/
def execBtEntryWrite (m : Master) (c : Fin 32) (v : Word) (s : State) : Res :=
  .next (s.guarded m (pg 0x170 (0x80 + 4 * c.val)) (fun s => s.btWrite m c.val v))

/-- Mailboxes work (R598): they stop on the way to RETAIN. -/
def State.mbxOn (s : State) : Bool := s.pwr.pending != some .retain
/-- A send is accepted (R520). -/
def State.sendOk (s : State) (m : Master) (c : Nat) : Bool :=
  let x := s.chan c
  x.valid && x.sender == m && !x.full && Word.field x.txHdr 3 0 == 1 && Word.field x.txHdr 7 4 == 0 && Word.field x.txHdr 31 23 == 0 &&
  decide (Word.field x.txHdr 22 16 ≤ 64) && !(s.tamp.responded && decide (c < 16)) && s.mbxOn
/-- The words of a message of `n` bytes: the rest of the window is 0. -/
def msgWords (tx : List Word) (n : Nat) : List Word :=
  let b := Bytes.fit ((wordsBytes tx).take n) 64
  (List.range 16).map (Bytes.word b)
/-- The message is sent (R520, R523): a hart that receives it resumes with WAKE_CAUSE MAILBOX, as step 4 of the chapter's example has it
(R509), before the notice makes its MBXI pending. -/
@[noinline] def State.send (s : State) (m : Master) (c : Nat) : State :=
  let x := s.chan c
  let y := { x with rxHdr := x.txHdr, rx := msgWords x.tx (Word.field x.txHdr 22 16), full := true, timedOut := false, sentAt := s.clk,
                    sent := min 65535 (x.sent + 1) }
  let s := (s.setChan c y).mbxRecord c 1 m y
  (if isHart x.receiver then s.resume x.receiver.toNat 2 else s).notice c .message
/-- The effect of CH_SEND (R520). -/
@[noinline] def State.chSend (s : State) (m : Master) (c : Nat) : State := s.when m (aMbx c 0x4C) (s.sendOk m c) (fun s => s.send m c)
/-- CH_SEND (R520). -/
def execChSend (m : Master) (c : Fin 32) (s : State) : Res := .next (s.guarded m (aMbx c.val 0x4C) (fun s => s.chSend m c.val))
/-- The message is taken (R521). -/
@[noinline] def State.takeMsg (s : State) (m : Master) (c : Nat) : State :=
  let x := s.chan c
  ((s.mbxRecord c 2 m x).setChan c { x with rxHdr := 0, rx := zeroWords, full := false, timedOut := false }).notice c .empty
/-- The effect of CH_TAKE (R521, R598). -/
@[noinline] def State.chTake (s : State) (m : Master) (c : Nat) : State :=
  s.when m (aMbx c 0x54) ((s.chan c).valid && (s.chan c).receiver == m && (s.chan c).full && s.mbxOn) (fun s => s.takeMsg m c)
/-- CH_TAKE (R521). -/
def execChTake (m : Master) (c : Fin 32) (s : State) : Res := .next (s.guarded m (aMbx c.val 0x54) (fun s => s.chTake m c.val))
/-- The wait limit of a channel has passed (R524). -/
def State.chLate (s : State) (c : Nat) : Bool :=
  let us := s.fldOf (aMbx c 0x58) 19 0
  s.mbxOn && (s.chan c).full && !(s.chan c).timedOut && us != 0 && decide ((s.chan c).sentAt + us ≤ s.clk)
/-- CH_TIMEOUT (R524). -/
def execChTimeout (c : Fin 32) (s : State) : Res :=
  .next (if s.chLate c.val then
    (s.setChan c.val { s.chan c.val with timedOut := true, timeouts := min 255 ((s.chan c.val).timeouts + 1) }).notice c.val .timeout
  else s)

/-- A reset of the receiver of a channel (R525). -/
@[noinline] def State.chAbort (s : State) (m : Master) (c : Nat) : State :=
  let x := s.chan c
  let s := if x.full then s.mbxRecord c 3 m x else s
  (s.setChan c { x with rxHdr := 0, rx := zeroWords, full := false, timedOut := false, aborts := min 255 (x.aborts + 1) }).notice c .aborted
/-- A reset of a master on every channel bound to it (R525). -/
@[noinline] def State.mbxReset (s : State) (m : Master) : State :=
  (List.range 32).foldl (fun s c =>
    let x := s.chan c
    if !x.valid then s
    else if x.receiver = m then s.chAbort m c
    else if x.sender = m then s.setChan c { x with txHdr := 0, tx := zeroWords }
    else s) s
/-- A tamper response clears every FULL channel (R526). -/
@[noinline] def State.mbxTamper (s : State) : State :=
  (List.range 32).foldl (fun s c => if (s.chan c).full then s.chAbort (s.chan c).receiver c else s) s

end Sys2Proof.Machine
end

