-- ==== Sys2Proof/Machine/Tks.lean ====
section
/-! DEFINITION. The transaction key service: job descriptors and their checks, the counter window, the derivation cache, the
jobs and the pipelines (R562 to R582). -/
namespace Sys2Proof.Machine

/-! ### Descriptors and contexts -/

/-- HANDLE2 of a TKS descriptor (R564). -/
def tHandle2 (d : Desc) : Word := dw d 5
/-- IK_ID of the KSN. -/
def tIkId (d : Desc) : Bytes := Bytes.slice (wordsBytes d) 24 8
/-- TC of the KSN, big-endian. -/
def tTc (d : Desc) : Nat := beNat (Bytes.slice (wordsBytes d) 32 4)
/-- USAGE. -/
def tUsage (d : Desc) : Nat := dnum d 36 1
/-- WK_ALG. -/
def tWk (d : Desc) : Nat := dnum d 37 1
/-- TLEN. -/
def tTlen (d : Desc) : Nat := dnum d 38 1
/-- FAULT. -/
def tFault (d : Desc) : Bool := dnum d 39 1 % 2 == 1
/-- LOCAL. -/
def tLocal (d : Desc) : Bool := dnum d 39 1 / 2 % 2 == 1
/-- IN_LEN. -/
def tInLen (d : Desc) : Nat := dnum d 48 2
/-- OUT_LEN. -/
def tOutLen (d : Desc) : Nat := dnum d 50 2
/-- OUT_ADDR. -/
def tOutAddr (d : Desc) : Nat := dnum d 52 8

/-- IK of a terminal context's material (R562). -/
def ikKey (m : Bytes) : Bytes := m.take 32
/-- IK_ID. -/
def ikId (m : Bytes) : Bytes := Bytes.slice m 0x20 8
/-- KEY_ALG. -/
def ikAlg (m : Bytes) : Nat := Bytes.num m 0x28 1
/-- LAST_TC. -/
def ikTc (m : Bytes) : Nat := Bytes.num m 0x2C 4
/-- REPLAY_MAP. -/
def ikMap (m : Bytes) : Nat := Bytes.num m 0x30 4
/-- CACHE_TC. -/
def ikCache (m : Bytes) : Nat := Bytes.num m 0x34 4
/-- CACHE_KEY. -/
def ikCacheKey (m : Bytes) : Bytes := Bytes.slice m 0x40 32
/-- The material of a terminal context (R562). -/
def ikMaterial (key id : Bytes) (alg tc map cache : Nat) (ckey : Bytes) : Bytes :=
  Bytes.fit key 32 ++ Bytes.fit id 8 ++ leBytes 1 alg ++ zeros 3 ++ leBytes 4 tc ++ leBytes 4 map ++ leBytes 4 cache ++
  zeros 8 ++ Bytes.fit ckey 32
/-- Number of bits set in a counter. -/
def popCount (n : Nat) : Nat := ((List.range 32).filter (fun i => n.testBit i)).length

/-! ### The checks at acceptance -/

/-- TLEN is allowed for a working-key algorithm (R564). -/
def tlenOk (wk t : Nat) : Bool :=
  if wk = 5 then decide (8 ≤ t) && decide (t ≤ 32) else decide (4 ≤ t) && decide (t ≤ 16)
/-- A KSN of all zeros. -/
def ksnZero (d : Desc) : Bool := allZero (Bytes.slice (wordsBytes d) 24 12)
/-- Check 1 of R566: reserved and unused fields, and USAGE, WK_ALG, TLEN and FLAGS as R564 and R565 allow them. -/
def tkCheck1 (opc : Nat) (d : Desc) : Bool :=
  dheadOk d && dw d 15 == 0 && decide (dnum d 39 1 < 4) &&
  (match opc with
   | 0x40 => decide (tUsage d ≤ 2) && decide (2 ≤ tWk d) && decide (tWk d ≤ 5) && tlenOk (tWk d) (tTlen d) && !tLocal d &&
       tHandle2 d == 0 && tOutAddr d == 0
   | 0x41 => decide (tUsage d ≤ 2) && decide (2 ≤ tWk d) && decide (tWk d ≤ 5) && tlenOk (tWk d) (tTlen d) && !tLocal d &&
       tHandle2 d == 0
   | 0x42 => tUsage d == 3 && decide (2 ≤ tWk d) && decide (tWk d ≤ 4) && tTlen d == 0 && !tLocal d
   | 0x43 => tUsage d == 0 && tWk d == 0 && tTlen d == 0 && tTc d == 0 && (tFault d || dnum d 40 8 == 0) &&
       (!tLocal d || (tHandle2 d == 0 && tOutAddr d == 0))
   | 0x44 => tUsage d == 0 && tWk d == 0 && tTlen d == 0 && ksnZero d && !tLocal d && tHandle2 d == 0 &&
       (tFault d || dnum d 40 8 == 0)
   | _ => false)
/-- Check 2 of R566: the lengths of R565. -/
def tkCheck2 (opc : Nat) (d : Desc) : Bool :=
  match opc with
  | 0x40 => decide (tTlen d ≤ tInLen d) && decide (tInLen d ≤ 4096 + tTlen d) && tOutLen d == 0
  | 0x41 => decide (tInLen d ≤ 4096) && tOutLen d == tTlen d
  | 0x42 => tInLen d == 32 && tOutLen d == 16
  | 0x43 => tInLen d == 0 && tOutLen d == (if tLocal d then 0 else 176)
  | _ => tInLen d == 0 && tOutLen d == 24
/-- The TYPE of HANDLE and the OPS bit that an operation needs of it (R565). -/
def tkNeeds (opc : Nat) : Nat × Option Nat :=
  match opc with
  | 0x40 => (0xB, some 3) | 0x41 => (0xB, some 2) | 0x42 => (0xB, some 7) | 0x43 => (0xC, some 5) | _ => (0xB, none)
/-- The TYPE of HANDLE2 and the OPS bit, where the operation names it. -/
def tkNeeds2 (opc : Nat) (d : Desc) : Option (Nat × Nat) :=
  if opc = 0x42 then some (0xD, 7) else if opc = 0x43 ∧ !tLocal d then some (1, 0) else none
/-- A handle is stale: it names no live context, or no use of it is left (R385, R389); a protected handle, of GEN 0, is none. -/
def State.tkStale (s : State) (h : Word) : Bool := hGen h != 0 && (!s.liveH h || (s.slot (hSlot h)).ctx.uses == 0)
/-- A LOADED context of a TYPE may be used by an issuer (R384, R387). -/
def State.tkKeyOk (s : State) (m : Master) (h : Word) (need : Nat × Option Nat) : Bool :=
  (s.keyFor m h need.2).1 == stOk && (s.slot (hSlot h)).st == .loaded && (s.slot (hSlot h)).ctx.type == need.1
/-- Strength of a working-key algorithm beside KEY_ALG (R563): HMAC-SHA-256 counts as 256 bits. -/
def wkStrength (wk : Nat) : Nat := if wk = 5 then 4 else wk
/-- Check 4 of R566; TK_IK_DERIVE is a derivation that R362 refuses while a secret right is active. -/
def State.tkCheck4 (s : State) (m : Master) (opc : Nat) (d : Desc) (h : Word) : Bool :=
  s.tkKeyOk m h (tkNeeds opc) && !(opc == 0x43 && s.secretRight) &&
  (match tkNeeds2 opc d with | none => true | some n => s.tkKeyOk m (tHandle2 d) (n.1, some n.2)) &&
  (0x43 ≤ opc || decide (wkStrength (tWk d) ≤ ikAlg (s.slot (hSlot h)).ctx.material))
/-- Check 5 of R566. -/
def State.tkCheck5 (s : State) (opc : Nat) (d : Desc) (h : Word) : Bool :=
  0x43 ≤ opc || (tIkId d == ikId (s.slot (hSlot h)).ctx.material && decide (popCount (tTc d) ≤ 16))
/-- TKS takes no new job (R596, R600, R647): outside ACTIVE, and on the way to another state. -/
def State.tkShut (s : State) : Bool := s.pwr.power != .active || s.pwr.pending.isSome || s.pwr.holdup

/-! ### How jobs end -/

/-- A terminal's counter: address of TC_WARN. -/
def tcWarnAddr : Nat := pg 0x191 0x44
/-- ERR_LAST of a job that did not end OK (R578). -/
@[noinline] def State.tkErrLast (s : State) (st : Status) (opc : Nat) (m : Master) : State :=
  s.setReg (pg 0x190 0x44) (wd st.toNat ||| fld opc 8 ||| fld m.toNat 16)
/-- Counting of a job that did not end OK (R578, R579, R581). -/
@[noinline] def State.tkBad (s : State) (j : TkJob) (st : Status) (fault : Bool) : State :=
  let s := s.tkErrLast st j.opc j.src.issuer
  let s := if st = stAuthFail then (if fault then s else s.count (evTks 0)).incReg (pg 0x192 0x58) else s
  if st = stCounterStale then (s.count (evTks 1)).incReg (pg 0x192 0x5C) else s
/-- RESULT of a job (R566). -/
def tkResult (j : TkJob) : Nat := j.handle.toNat + 2 ^ 32 * j.faulted.toNat + 2 ^ 33 * j.hit.toNat
/-- A job names a handle. -/
def TkJob.names (j : TkJob) (h : Word) : Bool := j.handle == h || (h != 0 && tHandle2 j.desc == h)
/-- Jobs accepted and not ended. -/
def State.tkJobs (s : State) : List TkJob := s.tks.waiting ++ s.tks.running.filterMap (fun x => x.2)
/-- A context whose uses ran out is destroyed when the last job that names it has ended (R389, R577). -/
@[noinline] def State.tkUsed (s : State) (h : Word) : State :=
  if s.liveH h && (s.slot (hSlot h)).ctx.uses == 0 && !(s.tkJobs.any (fun j => j.names h)) then s.lastUse h else s
/-- A job has left the service: its completion, the last uses it took, and a destruction that waited for it (R390). -/
@[noinline] def State.tkFinish (s : State) (j : TkJob) (st : Status) (detail result : Nat) : State :=
  (((s.complete j.src j.opc st result detail).tkUsed j.handle).tkUsed (tHandle2 j.desc)).reap
/-- A job fails. -/
@[noinline] def State.tkFail (s : State) (j : TkJob) (st : Status) (detail : Nat) (fault : Bool) : State :=
  (s.tkBad j st fault).tkFinish j st detail (tkResult j)

/-! ### Acceptance -/

/-- IN_ADDR. -/
def tInAddr (d : Desc) : Nat := dnum d 40 8
/-- What a job reads and may write (R564, R574): for a hart from core memory, the blob of a fault-in before the input. -/
def State.tkIo (s : State) (src : JobSrc) (d : Desc) (io : JobIo) : JobIo :=
  let io := s.jobIo src io (tInAddr d) (tInLen d) (tOutAddr d) (tOutLen d)
  if !isHart src.issuer then io
  else
    let b := if tInAddr d < 176 then none else s.hartRead src.issuer.toNat (tInAddr d - 176) 176
    { io with aux := b.getD [], auxFault := b.isNone }
/-- A new job of a descriptor. -/
def State.tkNew (s : State) (src : JobSrc) (opc : Nat) (d : Desc) (io : JobIo) : TkJob :=
  { src, opc, desc := d, io := s.tkIo src d io, handle := dw d 4, faulted := false, hit := false, status := stOk, detail := 0, abort := none,
    out := [], after := none }
/-- INFLIGHT (R578). -/
def State.tkInflight (s : State) : Nat := (s.tkJobs.filter (fun j => decide (0x40 ≤ j.opc))).length
/-- Accept a job: it takes its uses, joins the order and DEPTH_MAX follows (R566, R567, R581). -/
@[noinline] def State.tkQueue (s : State) (j : TkJob) : State :=
  let s := (s.takeUse j.handle).1
  let s := if (tkNeeds2 j.opc j.desc).isSome then (s.takeUse (tHandle2 j.desc)).1 else s
  let s := { s with tks := { s.tks with waiting := s.tks.waiting ++ [j] } }
  s.setReg (pg 0x192 0x6C) (wd (max (s.reg (pg 0x192 0x6C)).toNat s.tkInflight))
/-- Checks 4 and 5 of R566 on the context that a job will use, then acceptance. -/
@[noinline] def State.tkAdmit (s : State) (j : TkJob) : State :=
  if !s.tkCheck4 j.src.issuer j.opc j.desc j.handle then s.tkFail j stStateForbids 0 false
  else if !s.tkCheck5 j.opc j.desc j.handle then s.tkFail j stAuthFail 0 false
  else s.tkQueue j
/-- The fault-in of R574: the 176 bytes before the input are loaded as KEY_LOAD does; the job goes on with the new context. -/
@[noinline] def State.tkFaultIn (s : State) (j : TkJob) (eff : State → TkJob → State) : State :=
  if j.io.auxFault ∨ j.io.aux.length < 176 then (s.count (evTks 5)).tkFail j stLengthShort j.io.aux.length true
  else
    let r := s.loadBlob j.src.issuer (j.io.aux.take 176)
    if r.2.1 = stOk then
      eff ((r.1.count (evTks 4)).incReg (pg 0x192 0x60)) { j with handle := r.2.2, faulted := true }
    else (r.1.count (evTks 5)).tkFail j r.2.1 0 true
/-- Checks 1 to 3 of R566 on a job that TKS receives. -/
@[noinline] def State.tkReceive (s : State) (j : TkJob) : State :=
  if s.tks.tampered then s.tkFail j stTampered 0 false
  else if s.tkShut then s.tkFail j stStateForbids 0 false
  else if !tkCheck1 j.opc j.desc then s.tkFail j stBadOpcode 0 false
  else if !tkCheck2 j.opc j.desc then s.tkFail j stBadLength 0 false
  else if (tkNeeds2 j.opc j.desc).isSome && s.tkStale (tHandle2 j.desc) then (s.count (evCel 14)).tkFail j stStaleHandle 0 false
  else if (s.tkStale j.handle || j.handle == 0) && tFault j.desc then s.tkFaultIn j State.tkAdmit
  else if s.tkStale j.handle then (s.count (evCel 14)).tkFail j stStaleHandle 0 false
  else s.tkAdmit j

/-- TK_MAC_VERIFY (R565, R566). -/
def execTkMacVerify (src : JobSrc) (d : Desc) (io : JobIo) (s : State) : Res :=
  .next (s.job src d 0x40 (fun s => s.tkReceive (s.tkNew src 0x40 d io)))
/-- TK_MAC_GENERATE (R565, R566). -/
def execTkMacGenerate (src : JobSrc) (d : Desc) (io : JobIo) (s : State) : Res :=
  .next (s.job src d 0x41 (fun s => s.tkReceive (s.tkNew src 0x41 d io)))
/-- TK_PIN_TRANSLATE (R565, R566). -/
def execTkPinTranslate (src : JobSrc) (d : Desc) (io : JobIo) (s : State) : Res :=
  .next (s.job src d 0x42 (fun s => s.tkReceive (s.tkNew src 0x42 d io)))
/-- TK_IK_DERIVE (R565, R566, R573). -/
def execTkIkDerive (src : JobSrc) (d : Desc) (io : JobIo) (s : State) : Res :=
  .next (s.job src d 0x43 (fun s => s.tkReceive (s.tkNew src 0x43 d io)))
/-- TK_STATE (R565, R566). -/
def execTkState (src : JobSrc) (d : Desc) (io : JobIo) (s : State) : Res :=
  .next (s.job src d 0x44 (fun s => s.tkReceive (s.tkNew src 0x44 d io)))

/-! ### The counter window and the derivation -/

/-- What a job makes of the window (R568): refused, or the LAST_TC and REPLAY_MAP that it leaves if it ends OK; at the highest counter nothing
further is accepted through TK_MAC_VERIFY or TK_PIN_TRANSLATE (R570). -/
def present (opc tc last map : Nat) : Option (Nat × Nat) :=
  let adv := if 32 ≤ tc - last then 0 else (map <<< (tc - last)) % 2 ^ 32
  if last = 0xFFFF0000 ∧ (opc = 0x40 ∨ opc = 0x42) then none
  else if last < tc then
    (if opc = 0x40 then some (tc, adv ||| 1) else if opc = 0x42 then some (tc, adv) else none)
  else if last ≤ tc + 31 then
    (if opc = 0x40 then (if map.testBit (last - tc) then none else some (last, map ||| 2 ^ (last - tc))) else some (last, map))
  else none
/-- The set bits of a counter between two positions, from the highest down. -/
def bitsDown (tc hi lo : Nat) : List Nat :=
  ((List.range (hi + 1 - lo)).map (fun i => hi - i)).filter (fun i => tc.testBit i)
/-- Key length in bytes of KEY_ALG and WK_ALG. -/
def algLen (a : Nat) : Nat := if a = 2 then 16 else if a = 3 then 24 else 32
/-- The derivation along set bits (R563): each step's counter holds the bits taken so far. -/
def dukptWalk (alg : Nat) (id : Bytes) (key : Bytes) (acc : Nat) (bits : List Nat) : Bytes :=
  match bits with
  | [] => key
  | b :: t => dukptWalk alg id (Config.take (algLen alg) (Config.dukptStepByte alg key id (acc + 2 ^ b))) (acc + 2 ^ b) t
/-- CACHE_HIT (R569). -/
def cacheHit (m : Bytes) (tc : Nat) : Bool := ikCache m % 2 == 1 && ikCache m / 256 == tc / 256
/-- The intermediate key of the prefix of a counter (R569). -/
def prefixKey (m : Bytes) (tc : Nat) : Bytes :=
  if cacheHit m tc then (ikCacheKey m).take (algLen (ikAlg m))
  else dukptWalk (ikAlg m) (ikId m) ((ikKey m).take (algLen (ikAlg m))) 0 (bitsDown tc 31 8)
/-- The working key of a counter, usage and algorithm (R563). -/
def workKey (m : Bytes) (tc usage wk : Nat) : Bytes :=
  let k := dukptWalk (ikAlg m) (ikId m) (prefixKey m tc) (tc / 256 * 256) (bitsDown tc 7 0)
  Config.take (algLen wk) (Config.dukptWorkByte (ikAlg m) wk usage k (ikId m) tc)
/-- The MAC of a message under a working key (R571). -/
def tkMac (wk : Nat) (key msg : Bytes) (n : Nat) : Bytes :=
  (if wk = 5 then hmac256 key msg else Config.take 16 (Config.cmacByte key msg)).take n
/-- The material that a job which ends OK leaves (R568, R569). -/
def tkAfter (m : Bytes) (tc last map : Nat) : Bytes :=
  let keep := tc / 256 == last / 256
  ikMaterial (ikKey m) (ikId m) (ikAlg m) last map (if keep then tc / 256 * 256 + 1 else ikCache m)
    (if keep then prefixKey m tc else ikCacheKey m)

/-- AES encryption of a block. -/
def aesEnc (key b : Bytes) : Bytes := Config.take 16 (Config.aesBlockByte key b)
/-- AES decryption of a block. -/
def aesDec (key b : Bytes) : Bytes := Config.take 16 (Config.aesInvByte key b)
/-- Nibble `i` of a byte string, the high nibble of byte 0 first. -/
def nibble (b : Bytes) (i : Nat) : Nat := if i % 2 = 0 then (Bytes.at b (i / 2)).toNat / 16 else (Bytes.at b (i / 2)).toNat % 16
/-- A deciphered PIN field is well formed (R571): control nibble 4, length 4 to 12, fill nibbles 0xA up to nibble 15. -/
def pinOk (p : Bytes) : Bool :=
  nibble p 0 == 4 && decide (4 ≤ nibble p 1) && decide (nibble p 1 ≤ 12) &&
  ((List.range 16).filter (fun i => decide (2 + nibble p 1 ≤ i))).all (fun i => nibble p i == 0xA)
/-- The PIN field of a format 4 block under a key and a PAN field (ISO 9564-1). -/
def pinField (key block pan : Bytes) : Bytes := aesDec key (xorBytes (aesDec key block) pan)
/-- The format 4 block of a PIN field. -/
def pinBlock (key field pan : Bytes) : Bytes := aesEnc key (xorBytes (aesEnc key field) pan)

/-! ### Starting -/

/-- The pipelines have power and clocks (R596, R649). -/
def State.tkPowered (s : State) : Bool := s.pwr.power == .active && !s.pwr.holdup
/-- A pipeline is in service (R580): enabled and not in FAULT. -/
def State.pipeOn (s : State) (p : Nat) : Bool := s.bitOf (pg 0x191 0x40) p && !s.tks.faulty.getLsbD p
/-- The job that a pipeline holds. -/
def State.pipe (s : State) (p : Nat) : Option TkJob := SMap.get (fun _ => none) s.tks.running p
/-- Put a job into a pipeline, or empty it. -/
@[noinline] def State.setPipe (s : State) (p : Nat) (j : Option TkJob) : State :=
  { s with tks := { s.tks with running := SMap.set (fun _ => none) s.tks.running p j } }
/-- The pipeline that takes the next job: the lowest in service that is idle. -/
def State.freePipe (s : State) : Option Nat := (List.range 8).find? (fun p => s.pipeOn p && (s.pipe p).isNone)
/-- STATE of a pipeline (R580). -/
def State.pipeState (s : State) (p : Nat) : PipeSt :=
  if s.tks.faulty.getLsbD p then .fault else if (s.pipe p).isSome then .busy else if s.pipeOn p then .idle else .off
/-- Job `ix` of those waiting may start (R567): no job and no key operation on its terminal context runs or was accepted before it; TK_IK_DERIVE
names none. -/
def State.tkTurn (s : State) (ix : Nat) (j : TkJob) : Bool :=
  j.opc == 0x43 || !((s.tks.waiting.take ix).any (fun k => k.opc != 0x43 && k.handle == j.handle)) &&
  !(s.tks.running.any (fun x => x.2.any (fun k => k.opc != 0x43 && k.handle == j.handle))) && !(s.cel.ops.any (fun o => o.key == j.handle))
/-- Checks 6 to 8 of R566 and the operation's own result (R568 to R571), as a job starts on its context: the outcome, the
output and the material it leaves; for TK_IK_DERIVE the initial key and the material of the transport key. -/
def State.tkRun (s : State) (j : TkJob) : TkJob :=
  let m := (s.slot (hSlot j.handle)).ctx.material
  let tc := tTc j.desc
  if j.opc = 0x44 then { j with out := Bytes.slice m 0x20 24 }
  else if j.opc = 0x43 then
    { j with out := Config.take 32 (Config.dukptIkByte m (tIkId j.desc)) ++ (s.slot (hSlot (tHandle2 j.desc))).ctx.material }
  else match present j.opc tc (ikTc m) (ikMap m) with
    | none => { j with status := stCounterStale, detail := ikTc m }
    | some (last, map) =>
      let j := { j with hit := cacheHit m tc }
      let x := j.io.data.take (tInLen j.desc)
      if j.io.fault ∨ x.length < tInLen j.desc then { j with status := stLengthShort, detail := x.length }
      else
        let wk := workKey m tc (tUsage j.desc) (tWk j.desc)
        let ok := { j with after := some (tkAfter m tc last map) }
        let n := tTlen j.desc
        if j.opc = 0x40 then
          (if tkMac (tWk j.desc) wk (x.take (x.length - n)) n = x.drop (x.length - n) then ok else { j with status := stAuthFail })
        else if j.opc = 0x41 then { ok with out := tkMac (tWk j.desc) wk x n }
        else
          let p := pinField wk (x.take 16) (x.drop 16)
          let z := (s.slot (hSlot (tHandle2 j.desc))).ctx.material
          if pinOk p then { ok with out := pinBlock z (p.take 8 ++ s.draw 8) (x.drop 16) } else { j with status := stAuthFail }
/-- A job needs a digest lane for its MAC (R571, R572). -/
def TkJob.hmac (j : TkJob) : Bool := decide (j.opc < 0x42) && tWk j.desc == 5
/-- Bytes of the message of a MAC job (R565). -/
def TkJob.msgLen (j : TkJob) : Nat := if j.opc = 0x40 then tInLen j.desc - tTlen j.desc else tInLen j.desc
/-- A job starts in a pipeline; CACHE_MISSES counts one that starts without CACHE_HIT (R581), and an HMAC job whose counter and input stand
goes to the digest lanes (R572). -/
@[noinline] def State.tkGo (s : State) (p : Nat) (j : TkJob) : State :=
  let k := s.tkRun j
  let s := if j.opc = 0x42 then s.drew else s
  let s := if !k.hit then s.incReg (pg 0x192 0x64) else s
  let s := s.setPipe p (some k)
  if j.hmac && (k.status == stOk || k.status == stAuthFail) then s.macStart p j.msgLen else s
/-- A waiting job whose context was destroyed ends STALE_HANDLE, or faults in again (R577); else it starts. -/
@[noinline] def State.tkStart (s : State) (ix p : Nat) (j : TkJob) : State :=
  let s := { s with tks := { s.tks with waiting := s.tks.waiting.eraseIdx ix } }
  if s.liveH j.handle && ((tkNeeds2 j.opc j.desc).isNone || s.liveH (tHandle2 j.desc)) then s.tkGo p j
  else if !s.liveH j.handle && tFault j.desc && ((tkNeeds2 j.opc j.desc).isNone || s.liveH (tHandle2 j.desc)) then
    s.tkFaultIn j (fun s j =>
      if !s.tkCheck4 j.src.issuer j.opc j.desc j.handle then s.tkFail j stStateForbids 0 false
      else if !s.tkCheck5 j.opc j.desc j.handle then s.tkFail j stAuthFail 0 false
      else ((s.takeUse j.handle).1).tkGo p j)
  else (s.count (evCel 14)).tkFail j stStaleHandle 0 false
/-! ### Key operations in the order of a terminal context -/

/-- The effect of KEY_WRAP, KEY_UNLOAD or KEY_QUERY once its checks hold. -/
@[noinline] def State.keyOp (s : State) (src : JobSrc) (d : Desc) (opc : Nat) (io : JobIo) : State :=
  s.celJob src d io (fun s io => if opc = 0x22 then s.keyWrap src d io else if opc = 0x23 then s.keyUnload src d else s.keyQuery src d io)
/-- KEY_WRAP, KEY_UNLOAD and KEY_QUERY (R567): on a context with jobs before it an operation that would be accepted now waits in their order,
checked again and taking its use at its turn (DEDUCED, log 117). -/
@[noinline] def State.keyJoin (s : State) (src : JobSrc) (d : Desc) (opc : Nat) (io : JobIo) : State :=
  let pre := (s.celPre d (s.jobIo src io (dnum d 24 8) (cInLen d) (cOutAddr d) (cOutLen d))).1
  if s.tkBusy (cHandle d) && pre == stOk && (s.keyFor src.issuer (cHandle d) (if opc = 0x22 then some 6 else none)).1 == stOk then
    { s with tks := { s.tks with waiting := s.tks.waiting ++ [{ src, opc, desc := d, io, handle := cHandle d, faulted := false, hit := false,
                                                                status := stOk, detail := 0, abort := none, out := [], after := none }] } }
  else s.keyOp src d opc io
/-- A waiting entry is a key operation whose turn has come. -/
def State.keyTurn (s : State) (ix : Nat) : Option TkJob :=
  match s.tks.waiting[ix]? with
  | some j => if j.opc < 0x40 && s.tkTurn ix j then some j else none
  | none => none
/-- Key operations whose turn has come run (R567). -/
@[noinline] def State.keyPump (s : State) (fuel : Nat) : State :=
  match fuel with
  | 0 => s
  | k + 1 =>
    match (List.range s.tks.waiting.length).find? (fun ix => (s.keyTurn ix).isSome) with
    | none => s
    | some ix =>
      match s.keyTurn ix with
      | none => s
      | some j => (({ s with tks := { s.tks with waiting := s.tks.waiting.eraseIdx ix } }).keyOp j.src j.desc j.opc j.io).keyPump k
/-- Every key operation whose turn has come runs. -/
@[noinline] def State.keyGo (s : State) : State := s.keyPump s.tks.waiting.length
/-- KEY_WRAP (R392, R567). -/
def execKeyWrap (src : JobSrc) (d : Desc) (io : JobIo) (s : State) : Res := .next (s.job src d 0x22 (fun s => s.keyJoin src d 0x22 io))
/-- KEY_UNLOAD (R390, R567). -/
def execKeyUnload (src : JobSrc) (d : Desc) (io : JobIo) (s : State) : Res := .next (s.job src d 0x23 (fun s => s.keyJoin src d 0x23 io))
/-- KEY_QUERY (R397, R567). -/
def execKeyQuery (src : JobSrc) (d : Desc) (io : JobIo) (s : State) : Res := .next (s.job src d 0x24 (fun s => s.keyJoin src d 0x24 io))
/-- CELLAR_OP_DONE (R397): operation `ix` of those accepted ends; a key operation that waited for it may run (R567). -/
def execCellarOpDone (ix : Nat) (s : State) : Res :=
  .next (match s.cel.ops[ix]? with
    | none => s
    | some o => if s.memOn o.src.issuer then (({ s with cel := { s.cel with ops := s.cel.ops.eraseIdx ix } }).celEnd o).keyGo else s)

/-! ### The start of jobs -/

/-- The effect of TKS_JOB_START: an HMAC job waits for one of the 16 contexts (R572). -/
@[noinline] def State.tkJobStart (s : State) (ix : Nat) : State :=
  match s.tks.waiting[ix]?, s.freePipe with
  | some j, some p =>
    if 0x40 ≤ j.opc && s.tkTurn ix j && s.tkPowered && (!j.hmac || s.macRoom) then (s.tkStart ix p j).keyGo else s
  | _, _ => s
/-- TKS_JOB_START (R567): job `ix` of those waiting, in order of acceptance, starts. -/
def execTksJobStart (ix : Nat) (s : State) : Res := .next (s.tkJobStart ix)

/-! ### Ending -/

/-- Counting of a job that ended OK (R581). -/
@[noinline] def State.tkGood (s : State) (j : TkJob) : State :=
  match j.opc with
  | 0x40 => s.add64 (pg 0x192 0x40) 1
  | 0x41 => s.add64 (pg 0x192 0x48) 1
  | 0x42 => s.add64 (pg 0x192 0x50) 1
  | 0x43 => (s.count (evTks 7)).incReg (pg 0x192 0x68)
  | _ => s
/-- COUNTER_HIGH and COUNTER_END of a move of LAST_TC (R570). -/
@[noinline] def State.tkMoved (s : State) (old new : Nat) : State :=
  let w := (s.reg tcWarnAddr).toNat
  let s := if old < w ∧ w ≤ new then s.count (evTks 2) else s
  if new = 0xFFFF0000 ∧ old ≠ new then s.count (evTks 3) else s
/-- The material that a job leaves is written into its context, one that is to be destroyed after it too (R390, R577). -/
@[noinline] def State.tkStore (s : State) (j : TkJob) : State :=
  match j.after with
  | none => s
  | some m =>
    if s.heldH j.handle then
      let x := s.slot (hSlot j.handle)
      (s.setSlot (hSlot j.handle) { x with ctx := { x.ctx with material := m } }).tkMoved (ikTc x.ctx.material) (ikTc m)
    else s
/-- A job ends OK: output, context and counts, then the completion (R568, R571). -/
@[noinline] def State.tkOk (s : State) (j : TkJob) : State :=
  (((s.putOut 0x43 j.src (tOutAddr j.desc) j.out).tkStore j).tkGood j).tkFinish j stOk j.detail (tkResult j)
/-- The context that TK_IK_DERIVE makes (R573). -/
def ikCtx (j : TkJob) : KeyCtx :=
  { type := 0xB, flags := 0, ops := 0xCC, owner := 0, domain := 0, mlen := 96, uses := 0xFFFFFFFF, epoch := 0,
    material := ikMaterial (j.out.take 32) (tIkId j.desc) 4 0 0 0 [] }
/-- TK_IK_DERIVE ends (R573): a local context, or a record sealed under the transport key. -/
@[noinline] def State.tkIkEnd (s : State) (j : TkJob) : State :=
  if tLocal j.desc then
    let m := j.src.issuer
    match s.allocAt m with
    | none => (s.noSlot m).tkFail j stNoSlot 0 false
    | some i =>
      let h := handleOf i (s.slot i).gen
      let c := { ikCtx j with owner := m, domain := domainOf m, epoch := s.blobEpoch (domainOf m) }
      ((s.putCtx i .loaded c).tkGood j).tkFinish j stOk 0 (tkResult { j with handle := h })
  else if s.wrapCheck ≠ stOk then s.tkFail j s.wrapCheck 0 false
  else
    let b := blobOf (j.out.drop 32) s.cel.bootNonce (ikCtx j) s.wrapCtr
    s.wrapped.tkOk { j with out := b }
/-- The end of the job of a pipeline. -/
@[noinline] def State.tkEnd (s : State) (j : TkJob) : State :=
  match j.abort with
  | some st => s.tkFail j st 0 false
  | none =>
    if j.status ≠ stOk then s.tkFail j j.status j.detail false
    else if j.io.writeFault ∧ tOutLen j.desc ≠ 0 then s.tkFail j stLengthShort 0 false
    else if j.opc = 0x43 then s.tkIkEnd j
    else s.tkOk j
/-- The effect of TKS_JOB_DONE: an HMAC job has had its hash from a digest lane (R572). -/
@[noinline] def State.tkJobDone (s : State) (p : Nat) : State :=
  match s.pipe p with
  | none => s
  | some j => if s.memOn j.src.issuer && s.tkPowered && !s.macBusy p then ((s.setPipe p none).tkEnd j).keyGo else s
/-- TKS_JOB_DONE (R568): the job of a pipeline ends. -/
def execTksJobDone (pipe : Fin 8) (s : State) : Res := .next (s.tkJobDone pipe.val)
/-- A pipeline fault (R577): it leaves service until reset, its job ends INTERNAL, PIPE_FAULT is counted. -/
@[noinline] def State.tkPipeFault (s : State) (p : Nat) : State :=
  let j := s.pipe p
  let s := ((({ s with tks := { s.tks with faulty := s.tks.faulty ||| BitVec.ofNat 8 (2 ^ p) } }).setPipe p none).macDrop p).count (evTks 6)
  match j with
  | some j => (s.tkFail j stInternal 0 false).keyGo
  | none => s
/-- TKS_PIPE_FAULT (R577). -/
def execTksPipeFault (pipe : Fin 8) (s : State) : Res := .next (s.tkPipeFault pipe.val)

/-- A job ends early with a status; a key operation that waited in its order completes with it. -/
@[noinline] def State.tkCut (s : State) (j : TkJob) (st : Status) : State :=
  if j.opc < 0x40 then s.complete j.src j.opc st 0 0 else s.tkFail j st 0 false
/-- End the jobs that a test names with a status. -/
@[noinline] def State.tkStop (s : State) (p : TkJob → Bool) (st : Status) : State :=
  let js := s.tkJobs.filter p
  let off := (List.range 8).filter (fun i => (s.pipe i).any p)
  let s := { s with tks := { s.tks with waiting := s.tks.waiting.filter (fun j => !p j), running := s.tks.running.filter (fun x => x.2.any (fun j => !p j)) } }
  let s := off.foldl State.macDrop s
  js.foldl (fun s j => s.tkCut j st) s
/-- A tamper response on TKS (R577). -/
@[noinline] def State.tkTamper (s : State) : State :=
  let s := s.tkStop (fun _ => true) stTampered
  { s with tks := { s.tks with tampered := true } }
/-- Reset of an issuer (R577): its jobs end with ABORTED; a stopped job changes no counter state. -/
@[noinline] def State.tkIssuerReset (s : State) (m : Master) : State :=
  (s.tkStop (fun j => j.src.issuer == m) stAborted).keyGo
/-- Entry to STANDBY ends the jobs of the pipelines with ABORTED (R596 step 4); those that wait end too. -/
@[noinline] def State.tkStandby (s : State) : State := (s.tkStop (fun j => decide (0x40 ≤ j.opc)) stAborted).keyGo

end Sys2Proof.Machine
end

