-- ==== Sys2Proof/Machine/Queues.lean ====
section
/-! DEFINITION. Queue pairs and hart job rings: enable, disable, doorbells, the fetch and start of descriptors, and NOP (R452
to R470, R513). -/
namespace Sys2Proof.Machine

/-- Address of a register of queue page `q`. -/
def aQ (q off : Nat) : Nat := pg (0x100 + q) off
/-- Record a queue error that leaves the queue in its state (R459): the SLOT of such an error has no stated value. -/
@[noinline] def State.qNote (s : State) (q cause : Nat) : State :=
  (s.setQueue q { s.queue q with cause := cause, errSlot := (Config.freeWord s.freeCtr).toNat % 4096 }).freed
/-- ENABLE is allowed (R456): SIZE from 2 to 4,096 and an owner. -/
def State.qSizeOk (s : State) (q : Nat) : Bool := decide (2 ≤ s.qSize q) && decide (s.qSize q ≤ 4096) && (qOwner q).isSome
/-- The pointers and counts that ENABLE clears, PHASE 1, ENABLED (R456). -/
def Queue.opened (x : Queue) : Queue :=
  { x with st := .enabled, phase := true, sqHead := 0, sqTail := 0, cqHead := 0, cqTail := 0, done := 0, fetched := [], cqFault := false }
/-- The effect of ENABLE on a queue or ring, where what it needs holds (R456). -/
@[noinline] def State.qEnable (s : State) (m : Master) (a q : Nat) (ok : Bool) : State :=
  if (s.queue q).st ≠ .disabled then s.refuse m a
  else if ok then s.setQueue q (s.queue q).opened
  else s.qNote q 5
/-- QUEUE_ENABLE (R456). -/
def execQueueEnable (m : Master) (q : Fin 64) (s : State) : Res :=
  .next (s.guarded m (aQ q.val 0x54) (fun s => s.qEnable m (aQ q.val 0x54) q.val (s.qSizeOk q.val)))
/-- The effect of DISABLE (R456): DRAINING. -/
@[noinline] def State.qDisable (s : State) (m : Master) (a q : Nat) : State :=
  s.when m a ((s.queue q).st == .enabled || (s.queue q).st == .error) (fun s => s.setQueue q { s.queue q with st := .draining })
/-- QUEUE_DISABLE (R456). -/
def execQueueDisable (m : Master) (q : Fin 64) (s : State) : Res :=
  .next (s.guarded m (aQ q.val 0x54) (fun s => s.qDisable m (aQ q.val 0x54) q.val))
/-- QUEUE_DRAINED (R456): the last fetched descriptor of a draining queue or ring has completed. -/
def execQueueDrained (q : Nat) (s : State) : Res :=
  .next (if q < 69 ∧ (s.queue q).st = .draining ∧ (s.queue q).fetched = [] then s.setQueue q { s.queue q with st := .disabled } else s)

/-- The effect of a tail write (R456, R457). -/
@[noinline] def State.qTail (s : State) (m : Master) (a q : Nat) (v : Word) : State :=
  let t := Word.field v 11 0
  if (s.queue q).st ≠ .enabled then s.refuse m a
  else if s.qSize q ≤ t then (s.refuse m a).qNote q 1
  else s.setQueue q { s.queue q with sqTail := t }
/-- SQ_DOORBELL (R457). -/
def execSqDoorbell (m : Master) (q : Fin 64) (v : Word) (s : State) : Res :=
  .next (s.guarded m (aQ q.val 0x5C) (fun s => s.qTail m (aQ q.val 0x5C) q.val v))
/-- Distance from one ring index to another. -/
def ringDist (size a b : Nat) : Nat := if a ≤ b then b - a else b + size - a
/-- Completion entries that the host has not consumed: (CQ_TAIL − CQ_HEAD) mod SIZE. -/
def State.cqUsed (s : State) (q : Nat) : Nat := ringDist (s.qSize q) (s.queue q).cqHead (s.queue q).cqTail
/-- The effect of a completion-head write (R457): it may not pass CQ_TAIL. -/
@[noinline] def State.qHead (s : State) (m : Master) (a q : Nat) (v : Word) : State :=
  let h := Word.field v 11 0
  if s.qSize q ≤ h ∨ s.cqUsed q < ringDist (s.qSize q) (s.queue q).cqHead h then (s.refuse m a).qNote q 2
  else s.setQueue q { s.queue q with cqHead := h }
/-- CQ_HEAD_WRITE (R457). -/
def execCqHeadWrite (m : Master) (q : Fin 64) (v : Word) (s : State) : Res :=
  .next (s.guarded m (aQ q.val 0x64) (fun s => s.qHead m (aQ q.val 0x64) q.val v))

/-! ### Fetch and start -/

/-- RUNAHEAD.CREDITS of an ordered queue. -/
def State.credits (s : State) (q : Nat) : Nat := s.fldOf (aQ q 0x6C) 8 0
/-- Descriptors fetched and not started. -/
def Queue.unstarted (x : Queue) : Nat := (x.fetched.filter (fun e => !e.started)).length
/-- Room in the completion ring (R458). -/
def State.cqRoom (s : State) (q : Nat) : Bool := decide ((s.queue q).fetched.length + s.cqUsed q + 1 < s.qSize q)
/-- HQ fetches (R596, R600, R649): in ACTIVE, on no way to another state, and not in hold-up mode.
Hart rings go on in STANDBY, and are not fetched in a replay (R633). -/
def State.hqOn (s : State) (q : Nat) : Bool :=
  if q < 64 then s.pwr.power == .active && s.pwr.pending.isNone && !s.pwr.holdup else s.coreUp && s.flr.replay != .running
/-- Slots of the descriptor buffer that the relaxed queues share (R468). -/
def State.shared (s : State) : Nat := 4096 - (s.credits 0 + s.credits 1)
/-- Slots of it that the relaxed queues hold (R468). -/
def State.sharedUsed (s : State) : Nat := ((List.range 59).map (fun k => (s.queue (k + 2)).unstarted)).foldl (fun a b => a + b) 0
/-- The descriptor buffer has room for a descriptor of a queue or ring (R465, R468, R513): the queues at most 60 share its rest. -/
def State.bufferRoom (s : State) (q : Nat) : Bool :=
  decide ((s.queue q).unstarted < if q < 2 then s.credits q else 64) && (decide (q < 2) || decide (60 < q) || decide (s.sharedUsed < s.shared))
/-- A descriptor may be fetched (R445, R457, R458, R465, R468). -/
def State.mayFetch (s : State) (q : Nat) : Bool :=
  let x := s.queue q
  x.st == .enabled && x.sqHead != x.sqTail && s.cqRoom q && s.hqOn q && (qOwner q).any s.memOn && s.bufferRoom q
/-- A descriptor of sixteen words. -/
def descOf (d : Desc) : Desc := (List.range 16).map (dw d)
/-- The descriptor that a ring reads in core memory (R513). -/
def State.ringDesc (s : State) (q : Nat) : Desc :=
  (List.range 16).map (Bytes.word (s.bytes (s.sqBase q + 64 * (s.queue q).sqHead) 64))
/-- A descriptor has been fetched: SQ_HEAD advances (R457). -/
@[noinline] def State.fetched (s : State) (q : Nat) (d : Desc) : State :=
  let x := s.queue q
  s.setQueue q { x with sqHead := if s.qSize q ≤ x.sqHead + 1 then 0 else x.sqHead + 1,
                        fetched := x.fetched ++
                          [{ slot := x.sqHead, desc := d, started := false, taken := false, seq := x.freeSeq x.sqHead }] }
/-- DESCRIPTOR_FETCH (R458, R459, R513): queue 0 to 63, or hart ring 64 + h, whose descriptor lies in core memory; a failed read is a
FETCH_FAULT. -/
def execDescriptorFetch (q : Nat) (d : Option Desc) (s : State) : Res :=
  .next (if 69 ≤ q ∨ !s.mayFetch q then s
    else match d with
      | some d => s.fetched q (if 64 ≤ q then s.ringDesc q else descOf d)
      | none => s.qError q 3 (s.queue q).sqHead)

/-- The descriptor may start (R465, R466, R467): on queues 0 and 1, and with FENCE, every earlier one has completed. -/
def Queue.mayStart (x : Queue) (q : Nat) (e : QEntry) : Bool :=
  !e.started && (!(decide (q < 2) || dfence e.desc) || x.fetched.head?.any (fun f => f.named e.slot e.seq))
/-- Source of a descriptor of a queue. -/
def qSrc (q : Nat) (e : QEntry) : JobSrc :=
  { issuer := (qOwner q).getD 0, ring := q, slot := e.slot, tag := dw e.desc 1, cqFail := false, seq := e.seq }
/-- The status with which a descriptor completes as it starts, where no operation runs: a reserved field or a code that the
queue does not accept (R452, R460, R565), or, after a tamper response, all of an ordered queue but what R495 lets answer (R18, R470). -/
def State.startFail (s : State) (q : Nat) (d : Desc) : Option Status :=
  if s.tamp.responded && (q == 1 || (q == 0 && !([2, 3].contains (dopc d)))) then some stTampered
  else if !dheadOk d || !opOk q (dopc d) || (decide (0x45 ≤ dopc d) && decide (dopc d ≤ 0x4F)) then some stBadOpcode
  else none
/-- A code of a TKS job on a queue or ring that carries them (R452, R565). -/
def isTkJob (q : Nat) (d : Desc) : Bool := decide (2 ≤ q) && decide (0x40 ≤ dopc d) && decide (dopc d ≤ 0x4F)
/-- A descriptor starts, at the priority that its queue has now (R469); a TKS job that ends at once is in ERR_LAST (R578). -/
@[noinline] def State.qStart (s : State) (q : Nat) (e : QEntry) : State :=
  let s := s.setQueue q ((s.queue q).modEntry e.slot e.seq (fun x => { x with started := true, prio := s.eprio q }))
  let src := qSrc q e
  match s.startFail q e.desc with
  | some st => (if isTkJob q e.desc then s.tkErrLast st (dopc e.desc) src.issuer else s).complete src (dopc e.desc) st 0 0
  | none => s
/-- The descriptor of a slot that waits to start. DESIGN CHOICE (log 125): the older one where the slot was used again (R457). -/
def Queue.waiting (x : Queue) (slot : Nat) : Option QEntry := x.fetched.find? (fun e => e.slot == slot && !e.started)
/-- DESCRIPTOR_START (R465 to R467). -/
def execDescriptorStart (q slot : Nat) (s : State) : Res :=
  .next (match (if q < 69 then (s.queue q).waiting slot else none) with
    | some e => if (s.queue q).mayStart q e then s.qStart q e else s
    | none => s)

/-- NOP (R453): OK with no effect; its other fields are not used and are not looked at. -/
def execNop (src : JobSrc) (d : Desc) (s : State) : Res := .next (s.job src d 0 (fun s => s.complete src 0 stOk 0 0))

end Sys2Proof.Machine
end

