-- ==== Sys2Proof/Machine/HostCmd.lean ====
section
/-! DEFINITION. Host commands: versions, the envelope and its checks, the command epoch, issuers, and the envelope commands
(R471 to R500, R338, R351). -/
namespace Sys2Proof.Machine

/-! ### Descriptors and transports -/

/-- IN_LEN of a host command (R473). -/
def hInLen (d : Desc) : Nat := (dw d 6).toNat
/-- OUT_ADDR. -/
def hOutAddr (d : Desc) : Nat := dnum d 32 8
/-- OUT_LEN. -/
def hOutLen (d : Desc) : Nat := (dw d 10).toNat
/-- PARAM. -/
def hParam (d : Desc) : Nat := (dw d 11).toNat
/-- The reserved fields of a host command, and those that it does not use, are 0 (R473). -/
def hFieldsOk (d : Desc) (inp outp param : Bool) : Bool :=
  dheadOk d && dw d 7 == 0 && dw d 12 == 0 && dw d 13 == 0 && dw d 14 == 0 && dw d 15 == 0 &&
  (inp || (dw d 4 == 0 && dw d 5 == 0 && dw d 6 == 0)) && (outp || (dw d 8 == 0 && dw d 9 == 0 && dw d 10 == 0)) &&
  (param || dw d 11 == 0)
/-- The operation came over MCTP (R471). -/
def viaMctp (x : JobSrc) : Bool := decide (69 ≤ x.ring)
/-- Complete a host command with output (R463, R474): over MCTP the output follows the completion entry. -/
@[noinline] def State.hDone (s : State) (src : JobSrc) (opc : Nat) (st : Status) (result detail outAddr : Nat) (out : Bytes) : State :=
  if viaMctp src then s.out (.reply src.issuer st (cqEntry src.tag st opc 0 src.slot result detail false ++ out))
  else (s.putOut 0x44 src outAddr out).complete src opc st result detail
/-- Version negotiated on a transport (R493); 0 none. -/
def State.hVersion (s : State) (mctp : Bool) : Nat := if mctp then s.cmd.i3cVersion else s.cmd.pfVersion
/-- Set the version of a transport. -/
@[noinline] def State.setVersion (s : State) (mctp : Bool) (v : Nat) : State :=
  if mctp then { s with cmd := { s.cmd with i3cVersion := v } } else { s with cmd := { s.cmd with pfVersion := v } }
/-- The highest version of a bitmap (R493). -/
def pickVersion (p : Nat) : Option Nat :=
  if p.testBit 2 then some 0x0300 else if p.testBit 1 then some 0x0201 else if p.testBit 0 then some 0x0200 else none
/-- HOST_NEGOTIATE (R493). -/
@[noinline] def State.negotiate (s : State) (src : JobSrc) (d : Desc) : State :=
  if !hFieldsOk d false false true ∨ 7 < hParam d then s.hDone src 1 stBadOpcode 0 0 0 []
  else match pickVersion (hParam d) with
    | none => s.hDone src 1 stVersion 0 0 0 []
    | some v => (s.setVersion (viaMctp src) v).hDone src 1 stOk v 0 0 []
/-- EXHAUSTED (R484). -/
def State.exhausted (s : State) : Bool := s.cmd.epoch == 0xFFFFFFFF
/-- GET_EPOCH (R495). -/
@[noinline] def State.getEpoch (s : State) (src : JobSrc) (d : Desc) : State :=
  if !hFieldsOk d false false false then s.hDone src 2 stBadOpcode 0 0 0 []
  else s.hDone src 2 stOk (s.cmd.epoch + 2 ^ 32 * s.cmd.epochPending.toNat + 2 ^ 33 * s.exhausted.toNat) 0 0 []
/-- LAST_SEQ in the list of issuers (R494): 0 under version 2.0; no version negotiated has no stated value. -/
def State.listSeq (s : State) (v seq : Nat) : Nat := if v = 0x200 then 0 else if v = 0 then (Config.freeWord s.freeCtr).toNat else seq
/-- The 64 records of ISSUER_LIST (R495). -/
def State.issuerList (s : State) (v : Nat) : Bytes :=
  Bytes.fit (s.cmd.issuers.flatMap (fun i => leBytes 2 i.id ++ leBytes 2 i.rights ++ leBytes 1 1 ++ zeros 3 ++
    leBytes 4 (s.listSeq v i.lastSeq) ++ zeros 4)) 1024
/-- ISSUER_LIST (R495). -/
@[noinline] def State.listIssuers (s : State) (src : JobSrc) (d : Desc) : State :=
  if !hFieldsOk d false true false then s.hDone src 3 stBadOpcode 0 0 0 []
  else if hOutLen d < 1024 then s.hDone src 3 stBadLength 0 0 0 []
  else
    let out := s.issuerList (s.hVersion (viaMctp src))
    (s.freed).hDone src 3 stOk s.cmd.issuers.length 0 (hOutAddr d) out

/-- HOST_NEGOTIATE (R493). -/
def execHostNegotiate (src : JobSrc) (d : Desc) (s : State) : Res := .next (s.job src d 1 (fun s => s.negotiate src d))
/-- GET_EPOCH (R495). -/
def execGetEpoch (src : JobSrc) (d : Desc) (s : State) : Res := .next (s.job src d 2 (fun s => s.getEpoch src d))
/-- ISSUER_LIST (R495). -/
def execIssuerList (src : JobSrc) (d : Desc) (s : State) : Res := .next (s.job src d 3 (fun s => s.listIssuers src d))

/-! ### Commits that the runtime submits for a command -/

/-- Change the command state. -/
@[noinline] def State.modCmd (s : State) (f : CmdState → CmdState) : State := { s with cmd := f s.cmd }
/-- A free hart commit descriptor slot for the runtime's own submissions: the highest empty one. -/
def State.cmdSlot (s : State) : Option Nat := ((List.range 15).reverse).find? (fun k => (s.adm (17 + k)).st == .empty)
/-- The runtime erases `n` blocks of 64 KB of a flash chip select from an address, each once the lease is granted (R180). -/
@[noinline] def State.eraseBlocks (s : State) (p cs a n : Nat) : State := (List.range n).foldl (fun s k => s.eraseAt p cs (a + 0x10000 * k)) s
/-- The runtime erases `n` blocks of 64 KB of the home area from an offset (R113, R358). Erasures are no commits (R317). -/
@[noinline] def State.homeErase (s : State) (off n : Nat) : State := s.eraseBlocks 0 0 (s.homeBase * 2 ^ 24 + off) n
/-- Flash address of the next page of the active half of the command epoch area (R113, R485). -/
def State.epochPage (s : State) : Nat := s.homeBase * 2 ^ 24 + 0x820000 + 0x10000 * s.cmd.half + 256 * s.cmd.used
/-- Submit one PAGE_REC commit of a record in a slot, at the next page (R485). DESIGN CHOICE (log 120): a page whose commit does not end OK is
passed over. -/
@[noinline] def State.recPut (s : State) (slot timeout : Nat) (r : Bytes) : State :=
  (s.enqueue (17 + slot) 2 timeout (.page slot 0 0 s.epochPage r)).modCmd (fun c => { c with used := c.used + 1 })
/-- An epoch record (R485). -/
def epochRec (e : Nat) : Bytes :=
  let b := leBytes 4 0x48504345 ++ leBytes 4 e ++ zeros 20
  b ++ leBytes 4 (crc32c b)
/-- EPOCH of a valid epoch record at the start of a page. -/
def epochOf (p : Bytes) : Option Nat :=
  if Bytes.num p 0 4 = 0x48504345 ∧ Bytes.num p 28 4 = crc32c (Bytes.fit p 28) then some (Bytes.num p 4 4) else none
/-- An issuer record (R490). -/
def issuerRec (kind id rights serial : Nat) (blob : Bytes) : Bytes :=
  let b := leBytes 4 0x52535349 ++ leBytes 1 kind ++ zeros 1 ++ leBytes 2 id ++ leBytes 2 rights ++ zeros 2 ++
    leBytes 4 serial ++ Bytes.fit blob 176 ++ zeros 60
  b ++ leBytes 4 (crc32c b)
/-- A page holds a valid issuer record (R490). -/
def issuerRecOk (p : Bytes) : Bool := Bytes.num p 0 4 == 0x52535349 && Bytes.num p 0xFC 4 == crc32c (Bytes.fit p 0xFC)

/-! ### The boot of the command epoch -/

/-- The highest valid epoch record of the pages read (R485). -/
def epochFind (ps : List Bytes) : Option Nat :=
  (ps.filterMap epochOf).foldl (fun m e => match m with | none => some e | some x => some (max x e)) none
/-- Put a record at its place by SERIAL. -/
def recInsert (l : List Bytes) (r : Bytes) : List Bytes :=
  match l with
  | [] => [r]
  | x :: t => if Bytes.num r 0xC 4 < Bytes.num x 0xC 4 then r :: x :: t else x :: recInsert t r
/-- The issuer records of a half (R490). -/
def recsOf (half : Nat) (ps : List Bytes) : List (Nat × Bytes) := (ps.filter issuerRecOk).map (fun r => (half, r))
/-- Pages of a half up to the last that is not erased. -/
def pagesUsed (ps : List Bytes) : Nat :=
  ((List.range (min 256 ps.length)).filter (fun k => (ps.getD k []).any (fun b => b != 0xFF))).foldl (fun _ k => k + 1) 0
/-- The issuer records of the area in SERIAL order (R490). -/
def State.recsSorted (s : State) : List Bytes := (s.cmd.recs.map (fun x => x.2)).foldl recInsert []
/-- SERIAL of the next record: one more than the highest in the area (R490). -/
def State.nextSerial (s : State) : Nat := (s.cmd.recs.map (fun x => Bytes.num x.2 0xC 4)).foldl max 0 + 1
/-- The compacted copy of the area (R485): the newest epoch record and one REGISTER record for every registered issuer. -/
def State.compacted (s : State) : List Bytes :=
  (if s.cmd.epochPending then s.cmd.found else some s.cmd.epoch).toList.map epochRec ++
  s.cmd.issuers.filterMap (fun i => s.recsSorted.find? (fun r => Bytes.num r 4 1 == 1 && Bytes.num r 0xC 4 == i.serial))
/-- The active half is full (R485): the other is erased and becomes the active one. -/
@[noinline] def State.halfSwitch (s : State) : State :=
  let h := 1 - s.cmd.half
  (s.homeErase (0x820000 + 0x10000 * h) 1).modCmd (fun c => { c with half := h, used := 0, recs := c.recs.filter (fun x => x.1 != h) })
/-- Append a record of the command epoch area by a PAGE_REC commit in a slot (R485); where the active half is full, the compacted copy in the
other half goes first, record by record in the same slot. -/
@[noinline] def State.recCommit (s : State) (slot timeout : Nat) (r : Bytes) : State :=
  if s.cmd.used < 256 then s.recPut slot timeout r
  else match s.compacted ++ [r] with
    | [] => s
    | x :: t => (s.halfSwitch.recPut slot timeout x).modCmd (fun c => { c with copy := c.copy ++ t.map (fun y => (slot, timeout, y)) })
/-- A slot has more records to write. -/
def State.copying (s : State) (slot : Nat) : Bool := s.cmd.copy.any (fun x => x.1 == slot)
/-- A commit of a slot that copies ended OK: its next record is submitted. -/
@[noinline] def State.copyNext (s : State) (slot : Nat) : State :=
  match s.cmd.copy.find? (fun x => x.1 == slot) with
  | some x => (s.modCmd (fun c => { c with copy := c.copy.erase x })).recPut slot x.2.1 x.2.2
  | none => s
/-- A copy ends without its records: the former half is the active one again, and full. -/
@[noinline] def State.copyFail (s : State) (slot : Nat) : State :=
  s.modCmd (fun c => { c with copy := c.copy.filter (fun x => x.1 != slot), half := 1 - c.half, used := 256 })
/-- One record is replayed (R490): REGISTER keeps the last one of an issuer, REMOVE drops it. -/
def replayRec (l : List Bytes) (r : Bytes) : List Bytes :=
  let rest := l.filter (fun x => Bytes.num x 6 2 != Bytes.num r 6 2)
  if Bytes.num r 4 1 = 1 then rest ++ [r] else rest
/-- The blob of one issuer is loaded; one that fails leaves it unregistered (R490). -/
@[noinline] def State.loadIssuer (s : State) (r : Bytes) : State :=
  let x := s.loadBlob 0 (Bytes.slice r 0x10 176)
  if x.2.1 = stOk then
    x.1.modCmd (fun c => { c with issuers := c.issuers ++ [{ id := Bytes.num r 6 2, rights := Bytes.num r 8 2, lastSeq := 0,
                                                             handle := x.2.2, serial := Bytes.num r 0xC 4 }] })
  else x.1
/-- The runtime takes the command epoch at boot (R481, R484, R486, R490). -/
@[noinline] def State.epochBoot (s : State) : State :=
  let old := match s.cmd.found with | some e => e | none => 0
  let s := s.modCmd (fun c => { c with issuers := [], epoch := min 0xFFFFFFFF (old + 1), epochPending := decide (old ≠ 0xFFFFFFFF) })
  let s := if s.cmd.found.isSome then (s.recsSorted.foldl replayRec []).foldl State.loadIssuer s else s
  if old = 0xFFFFFFFF then s
  else (s.modCmd (fun c => { c with epochSlot := some 14 })).recCommit 14 0xFFFF (epochRec (old + 1))

/-! ### The envelope -/

/-- HDR_VER of an envelope (R475). -/
def eVer (b : Bytes) : Nat := Bytes.num b 4 2
/-- ISSUER. -/
def eIssuer (b : Bytes) : Nat := Bytes.num b 6 2
/-- Sequence of COUNTER. -/
def eSeq (b : Bytes) : Nat := Bytes.num b 8 4
/-- Epoch of COUNTER. -/
def eEpoch (b : Bytes) : Nat := Bytes.num b 12 4
/-- CMD. -/
def eCmd (b : Bytes) : Nat := Bytes.num b 0x10 2
/-- LEN. -/
def eLen (b : Bytes) : Nat := Bytes.num b 0x14 4
/-- Command codes of a version (R494). -/
def cmdKnown (ver cmd : Nat) : Bool :=
  decide (1 ≤ cmd) && decide (cmd ≤ 10) && !(ver == 0x200 && (cmd == 7 || cmd == 8))
/-- Payload lengths of a command (R496). -/
def cmdLenOk (cmd len : Nat) : Bool :=
  match cmd with
  | 1 => len == 64 || len == 7488 || len == 14912
  | 2 => len == 7488
  | 3 => len == 224
  | 4 => len == 52
  | 8 => len == 0
  | 9 => len == 1576
  | _ => len == 4
/-- LEN limit of a version (R494). -/
def lenLimit (ver : Nat) : Nat := if ver = 0x300 then 16384 else 8192
/-- Output length of a command. -/
def cmdOut (cmd : Nat) : Nat := if cmd = 9 then 1568 else 0
/-- Checks 1 to 7 of R477 on what was read; the status and DETAIL. -/
def State.envCheck1 (s : State) (mctp : Bool) (d : Desc) (io : JobIo) : Status × Nat :=
  let b := io.data
  if hInLen d < 64 then (stBadLength, 0)
  else if 32 ≤ b.length ∧ cmdKnown 0x300 (eCmd b) ∧ cmdOut (eCmd b) = 0 ∧ hOutLen d ≠ 0 then (stBadLength, 0)
  else if b.length < 32 then (stLengthShort, b.length)
  else if Bytes.num b 0 4 ≠ 0x4C564E45 ∨ Bytes.num b 0x12 2 ≠ 0 ∨ Bytes.num b 0x18 8 ≠ 0 then (stBadOpcode, 0)
  else if s.hVersion mctp = 0 ∨ eVer b ≠ s.hVersion mctp then (stVersion, 0)
  else if !cmdKnown (eVer b) (eCmd b) then (stBadOpcode, 0)
  else if lenLimit (eVer b) < eLen b ∨ !cmdLenOk (eCmd b) (eLen b) ∨ hInLen d < 64 + eLen b ∨ hOutLen d < cmdOut (eCmd b) then (stBadLength, 0)
  else if b.length < 64 + eLen b then (stLengthShort, b.length)
  else (stOk, 0)
/-- A registered issuer. -/
def State.issuer (s : State) (id : Nat) : Option Issuer := s.cmd.issuers.find? (fun i => i.id == id)
/-- The command key of an issuer. -/
def State.cmdKey (s : State) (i : Issuer) : Bytes := (s.slot (hSlot i.handle)).ctx.material
/-- TAG verifies (R476). -/
def State.tagOk (s : State) (i : Issuer) (b : Bytes) : Bool :=
  s.liveH i.handle && kmac256 (s.cmdKey i) (b.take (0x20 + eLen b)) 32 (ascii "MX-CMD") == Bytes.slice b (0x20 + eLen b) 32
/-- Checks 9 to 12 of R477; the status and DETAIL. -/
def State.envCheck2 (s : State) (b : Bytes) : Status × Nat :=
  match s.issuer (eIssuer b) with
  | none => (stAuthFail, 0)
  | some i =>
    if !s.tagOk i b then (stAuthFail, 0)
    else if eEpoch b ≠ s.cmd.epoch ∨ eSeq b ≤ i.lastSeq then (stCounterStale, s.cmd.epoch)
    else if eSeq b = 0xFFFFFFFF ∧ eCmd b ≠ 8 then (stStateForbids, 0)
    else (stOk, 0)
/-- Check 13: the issuer's rights hold the command. -/
def State.rightOk (s : State) (b : Bytes) : Bool := (s.issuer (eIssuer b)).any (fun i => i.rights.testBit (eCmd b - 1))
/-- Change the issuers. -/
@[noinline] def State.modIssuers (s : State) (f : Issuer → Issuer) : State := s.modCmd (fun c => { c with issuers := c.issuers.map f })
/-- The CMD record of an acceptance (R624). -/
@[noinline] def State.cmdRecord (s : State) (j : EnvJob) : State :=
  s.flight 0x07 j.src.issuer (leBytes 1 j.src.ring ++ leBytes 1 (if j.cmd = 0 then 5 else 4) ++ zeros 2 ++ leBytes 4 j.src.tag.toNat ++
    leBytes 2 j.issuer ++ zeros 6 ++ leBytes 8 j.counter ++ (sha256 j.raw).take 16)
/-- COUNTER as the completion's RESULT. -/
def EnvJob.opc (j : EnvJob) : Nat := if j.cmd = 0 then 5 else 4
/-- The completion of an envelope or bootstrap that is no longer running; after a transport reset none is written (R499). -/
@[noinline] def State.envReply (s : State) (j : EnvJob) (st : Status) (result detail : Nat) (out : Bytes) : State :=
  if j.quiet then s else s.hDone j.src j.opc st result detail j.outAddr out
/-- An envelope waits at check 8 (R481, R483). -/
def State.epochWait (s : State) : Bool :=
  s.cmd.epochPending || (match s.cmd.running with | some j => (match j.wait with | .epochAdvance _ => true | _ => false) | none => false)
/-- Entries of the waiting list that reach check 8 note the line position. -/
@[noinline] def State.markWait (s : State) : State :=
  if s.epochWait then
    s.modCmd (fun c => { c with waiting := c.waiting.map (fun j => if j.wait = .none ∧ j.cmd ≠ 0 then { j with wait := .epoch, since := s.posRun } else j) })
  else s
/-- Checks 9 to 13 on the envelope at the head of the order: it completes, or it is accepted (R477, R478); where the epoch has been
exhausted while it waited, STATE_FORBIDS (R484). -/
@[noinline] def State.envTake (s : State) (j : EnvJob) : State :=
  let c := if s.exhausted then (stStateForbids, 0) else s.envCheck2 j.raw
  if c.1 ≠ stOk then s.envReply j c.1 0 c.2 []
  else
    let ok := s.rightOk j.raw
    let s := (s.modIssuers (fun i => if i.id = j.issuer then { i with lastSeq := eSeq j.raw } else i)).cmdRecord j
    if ok then s.modCmd (fun c => { c with running := some { j with accepted := true, wait := .none } })
    else s.envReply j stStateForbids j.counter 0 []

/-! ### Establishing a command key -/

/-- A new CMD_KEY context is made and its record committed (R489); the failure's status otherwise. -/
@[noinline] def State.establish (s : State) (j : EnvJob) (id rights : Nat) (pub : Bytes) (fin : State → Status → State) : State :=
  if !Config.kexPeerOk 0 pub then fin s stAuthFail
  else if s.wrapCheck ≠ stOk then fin s s.wrapCheck
  else match s.wrapKey 0 (s.blobEpoch 0), s.allocAt 0, s.cmdSlot with
    | none, _, _ => fin s stStateForbids
    | _, none, _ => fin (s.noSlot 0) stNoSlot
    | _, _, none => fin s stCommitDeferred
    | some k, some i, some slot =>
      let r := s.draw 32
      let key := kdf (Config.take 32 (Config.kemSecretByte pub r)) (leBytes 2 id ++ s.unitId) "MX-CMDK"
      let c : KeyCtx := { type := 9, flags := 0, ops := 0x400, owner := 0, domain := 0, mlen := 32, uses := 0xFFFFFFFF,
                          epoch := s.blobEpoch 0, material := key }
      let h := handleOf i (s.slot i).gen
      let n := s.nextSerial
      let r1 := issuerRec 1 id rights n (blobOf k s.cel.bootNonce c s.wrapCtr)
      let s := (((s.putCtx i .loaded c).wrapped).drew).recCommit slot 0 r1
      let w : CmdWait := .register { id := id, rights := rights, lastSeq := 0, handle := h, serial := n }
        (Config.take 1568 (Config.kemCtByte pub r))
      s.modCmd (fun c => { c with running := some { j with accepted := true, wait := w, slot := slot } })

/-! ### Signer blocks -/

/-- The key hash of a signer (R338, R339, R348): the ROM holds those of the vendor, the fuses those of the owner. -/
def State.signerHash (s : State) (id : Nat) : Bytes :=
  if id ≤ 3 then Config.take 48 (Config.romKeyHashByte id) else if id = 4 then s.fuseBytes 932 48 else s.fuseBytes 980 48
/-- The hash of a signer may be used: a fuse hash that is not blown fails. -/
def State.signerKnown (s : State) (id : Nat) : Bool := decide (1 ≤ id) && decide (id ≤ 5) && !(decide (4 ≤ id) && allZero (s.signerHash id))
/-- Both signatures of a block verify over a header (R349). -/
def blockSigOk (hdr blk : Bytes) : Bool :=
  let m := hdr ++ blk.take 0xA80
  Config.ecdsaVerify 384 (blk.take 96) (sha384 m) (Bytes.slice blk 0xA80 96) &&
  Config.mldsaVerify 87 (Bytes.slice blk 0x60 2592) m (Bytes.slice blk 0xAE0 4627)
/-- Block `j` of a request. -/
def reqBlock (b : Bytes) (j : Nat) : Bytes := Bytes.slice b (64 + 7424 * j) 7424
/-- SIGNER_ID of block `j`. -/
def reqSigner (b : Bytes) (j : Nat) : Nat := Bytes.num b 0x14 1 / 16 ^ j % 16
/-- The signers that R338 asks for, in order; none where it has no such transition. -/
def lcSigners (x t : LcState) : Option (List Nat) :=
  match x, t with
  | .raw, .test => some [1]
  | .test, .provision => some [2]
  | .provision, .owned => some [4]
  | .owned, .ret => some [4, 2]
  | .provision, .ret => some [2]
  | _, _ => if lcLegal x t then some [] else none
/-- The signers of a debug certificate (R339); none where the state has no signer. -/
def State.dbgSigners (s : State) : Option (List Nat) :=
  match s.lcf.eff with
  | some .provision => some [3]
  | some .owned => some [5]
  | some .ret => if allZero (s.fuseBytes 980 48) then some [3] else some [5]
  | _ => none
/-- The signers that a request (kind 1) or certificate (kind 2) needs. -/
def State.reqSigners (s : State) (b : Bytes) (kind : Nat) : Option (List Nat) :=
  if kind = 1 then (match s.lcf.eff, lcOfCode (Bytes.num b 0x11 1) with | some x, some t => lcSigners x t | _, _ => none) else s.dbgSigners
/-- SIGNERS and SIGNER_ID of a request are those of a list. -/
def signersAre (b : Bytes) (want : Option (List Nat)) : Bool :=
  match want with
  | some l => Bytes.num b 7 1 == l.length && (List.range 2).map (reqSigner b) == l ++ List.replicate (2 - l.length) 0
  | none => false
/-- The checks of R351 on a request (kind 1) or certificate (kind 2), in order. -/
def State.reqCheck (s : State) (b : Bytes) (kind : Nat) : Status :=
  let n := Bytes.num b 7 1
  if b.length ≠ 64 + n * 7424 then stBadLength
  else if Bytes.num b 0 4 ≠ (if kind = 1 then 0x4E415254 else 0x43474244) ∨ Bytes.num b 4 2 ≠ 1 ∨ Bytes.num b 6 1 ≠ kind ∨
      Bytes.num b 0x15 1 ≠ 0 ∨ !allZero (Bytes.slice b 0x16 10) ∨
      (kind = 1 ∧ Bytes.num b 0x12 2 ≠ 0) ∨ (kind = 2 ∧ Bytes.num b 0x11 1 ≠ 0) then stBadOpcode
  else if Bytes.slice b 8 8 ≠ s.unitId then stAuthFail
  else if leBytes 1 (Bytes.num b 0x10 1) ≠ s.lc then stStateForbids
  else if Bytes.slice b 0x20 32 ≠ s.lcf.nonce then stAuthFail
  else if !signersAre b (s.reqSigners b kind) then stAuthFail
  else if !(List.range n).all (fun j => s.signerKnown (reqSigner b j) && sha384 ((reqBlock b j).take 0xA80) == s.signerHash (reqSigner b j)) then
    stAuthFail
  else if !(List.range n).all (fun j => blockSigOk (b.take 64) (reqBlock b j)) then stAuthFail
  else stOk

/-! ### Bootstrap -/

/-- The checks of ISSUER_BOOTSTRAP before its signature (R488). -/
def State.bootCheck (s : State) (b : Bytes) : Status :=
  if Bytes.num b 0 4 ≠ 0x54534F42 ∨ Bytes.num b 4 2 ≠ 1 ∨ Bytes.num b 6 2 ≠ 0 ∨ !allZero (Bytes.slice b 0x10 16) then stBadOpcode
  else if s.lcf.eff ≠ some .owned ∨ s.cmd.issuers ≠ [] then stStateForbids
  else if Bytes.slice b 8 8 ≠ s.unitId ∨ Bytes.slice b 0x20 32 ≠ s.lcf.nonce then stAuthFail
  else if !s.signerKnown 4 ∨ sha384 (Bytes.slice b 0x660 0xA80) ≠ s.signerHash 4 then stAuthFail
  else stOk
/-- ISSUER_BOOTSTRAP at the head of the order (R488). -/
@[noinline] def State.bootTake (s : State) (j : EnvJob) : State :=
  let b := j.raw
  let st := s.bootCheck b
  if st ≠ stOk then s.envReply j st 0 0 []
  else
    let ok := blockSigOk (b.take 0x660) (Bytes.slice b 0x660 7424)
    let s := s.newNonce
    if !ok then s.envReply j stAuthFail 0 0 []
    else (s.cmdRecord j).establish j 0 0x3FF (Bytes.slice b 0x40 1568) (fun s st => s.envReply j st 0 0 [])
/-- Go on with the order of R480: the first that waits is taken where nothing runs and it does not wait at check 8. The fuel
bounds how many complete at once. -/
@[noinline] def State.envPump (s : State) (fuel : Nat) : State :=
  match fuel with
  | 0 => s
  | n + 1 =>
    match s.cmd.running, s.cmd.waiting with
    | none, j :: rest =>
      if j.cmd ≠ 0 && s.cmd.epochPending then s.markWait
      else
        let s := s.modCmd (fun c => { c with waiting := rest })
        (if j.cmd = 0 then s.bootTake j else s.envTake j).envPump n
    | _, _ => s.markWait
/-- Run the order. -/
@[noinline] def State.envRun (s : State) : State := s.envPump (s.cmd.waiting.length + 1)
/-- A job joins the order. -/
@[noinline] def State.envJoin (s : State) (j : EnvJob) : State := (s.modCmd (fun c => { c with waiting := c.waiting ++ [j] })).envRun
/-- The running command ends, and the order goes on. -/
@[noinline] def State.envEnd (s : State) (j : EnvJob) (st : Status) (result : Nat) (out : Bytes) : State :=
  ((s.modCmd (fun c => { c with running := none })).envReply j st result 0 out).envRun
/-- An envelope's job from its bytes. -/
def envJob (src : JobSrc) (d : Desc) (b : Bytes) : EnvJob :=
  { src, mctp := viaMctp src, cmd := eCmd b, issuer := eIssuer b, counter := Bytes.num b 8 8, payload := Bytes.slice b 0x20 (eLen b),
    raw := b.take (64 + eLen b), outAddr := hOutAddr d, outLen := hOutLen d, accepted := false, wait := .none, since := 0, slot := 0,
    quiet := false }
/-- ENVELOPE arrives (R477). -/
@[noinline] def State.envelope (s : State) (src : JobSrc) (d : Desc) (io : JobIo) : State :=
  if s.tamp.responded then s.hDone src 4 stTampered 0 0 0 []
  else if !hFieldsOk d true true false then s.hDone src 4 stBadOpcode 0 0 0 []
  else if s.exhausted then s.hDone src 4 stStateForbids 0 0 0 []
  else
    let c := s.envCheck1 (viaMctp src) d io
    if c.1 ≠ stOk then s.hDone src 4 c.1 0 c.2 0 [] else s.envJoin (envJob src d io.data)
/-- ENVELOPE (R477, R478). -/
def execEnvelope (src : JobSrc) (d : Desc) (io : JobIo) (s : State) : Res := .next (s.job src d 4 (fun s => s.envelope src d io))
/-- ISSUER_BOOTSTRAP arrives (R488). -/
@[noinline] def State.bootstrap (s : State) (src : JobSrc) (d : Desc) (io : JobIo) : State :=
  if s.tamp.responded then s.hDone src 5 stTampered 0 0 0 []
  else if !hFieldsOk d true true false then s.hDone src 5 stBadOpcode 0 0 0 []
  else if hInLen d ≠ 9056 ∨ hOutLen d < 1568 then s.hDone src 5 stBadLength 0 0 0 []
  else if io.data.length < 9056 then s.hDone src 5 stLengthShort 0 io.data.length 0 []
  else
    s.envJoin { src, mctp := viaMctp src, cmd := 0, issuer := 0, counter := 0, payload := [], raw := io.data.take 9056,
                outAddr := hOutAddr d, outLen := hOutLen d, accepted := false, wait := .none, since := 0, slot := 0, quiet := false }
/-- ISSUER_BOOTSTRAP (R488). -/
def execIssuerBootstrap (src : JobSrc) (d : Desc) (io : JobIo) (s : State) : Res := .next (s.job src d 5 (fun s => s.bootstrap src d io))
/-- ADM_CFG.TIMEOUT_HC (R323). -/
def State.admTimeout (s : State) : Nat := s.fldOf (pg 0x19 0x58) 31 16
/-- ENVELOPE_EPOCH_TIMEOUT (R481): waiting envelope `ix` has waited longer than ADM_CFG.TIMEOUT_HC. -/
def execEnvelopeEpochTimeout (ix : Nat) (s : State) : Res :=
  .next (match s.cmd.waiting[ix]? with
    | some j => if j.wait = .epoch ∧ s.epochWait ∧ s.admTimeout ≤ s.hcSince j.since then
        ((s.modCmd (fun c => { c with waiting := c.waiting.eraseIdx ix })).envReply j stCommitDeferred 0 0 []).envRun
      else s
    | none => s)
/-- MCTP_REQUEST (R471, R474): the I3C agent's request as master 0x20; SLOT holds the message tag. The runtime handles it. -/
@[noinline] def State.mctp (s : State) (tag : Nat) (d : Desc) (inp : Bytes) : State :=
  let d := descOf d
  let src : JobSrc := { issuer := 0x20, ring := 255, slot := tag, tag := dw d 1, cqFail := false }
  let io : JobIo := { data := inp.take (hInLen d), list := [], fault := false, aux := [], auxFault := false, writeFault := false }
  if dw d 4 ≠ 0 ∨ dw d 5 ≠ 0 ∨ dw d 8 ≠ 0 ∨ dw d 9 ≠ 0 then s.hDone src (dopc d) stBadOpcode 0 0 0 []
  else match dopc d with
    | 1 => s.negotiate src d
    | 2 => s.getEpoch src d
    | 3 => s.listIssuers src d
    | 4 => s.envelope src d io
    | 5 => s.bootstrap src d io
    | n => s.hDone src n stBadOpcode 0 0 0 []
/-- MCTP_REQUEST (R474). -/
def execMctpRequest (tag : Fin 8) (d : Desc) (inp : Bytes) (s : State) : Res :=
  .next (if s.boot.rtReleased then s.mctp tag.val d inp else s)

/-! ### The commands -/

/-- Run an envelope command: the envelope that runs holds it, accepted and not yet waiting for a commit. -/
@[noinline] def State.command (s : State) (code : Nat) (eff : State → EnvJob → State) : State :=
  match s.cmd.running with
  | some j => if j.cmd = code ∧ j.wait = .none then eff s j else s
  | none => s
/-- End the running command with a status; RESULT is the counter (R478). -/
@[noinline] def State.cmdEnd (s : State) (j : EnvJob) (st : Status) : State := s.envEnd j st j.counter []
/-- The running command waits for a commit. -/
@[noinline] def State.cmdWait (s : State) (j : EnvJob) (w : CmdWait) (slot : Nat) : State :=
  s.modCmd (fun c => { c with running := some { j with wait := w, slot := slot } })

/-- LC_TRANSITION (R351, R496, R498). -/
@[noinline] def State.cmdLc (s : State) (j : EnvJob) : State :=
  let st := s.reqCheck j.payload 1
  if st ≠ stOk then s.cmdEnd j st
  else
    let t := Bytes.num j.payload 0x11 1
    let c := s.lcCheck t
    let s := s.lcReq (wd (0x100 + t))
    if c ≠ stOk then s.cmdEnd j c
    else match s.lcf.transit with
      | some (_, .copyA) => s.cmdWait j .lcTransition 0
      | _ => s.cmdEnd j stOk
/-- CMD_LC_TRANSITION (R498). -/
def execCmdLcTransition (s : State) : Res := .next (s.command 1 State.cmdLc)
/-- The rights that a grant asks for are given (R361). -/
def State.dbgOk (s : State) (r : Nat) : Bool :=
  !(s.lcIn [.raw, .test]) && s.lcf.transit.isNone && bitsIn r s.ceiling && (r &&& 0x0F00 == 0 || s.lcPrecond == 7)
/-- DEBUG_GRANT (R351, R361, R496). -/
@[noinline] def State.cmdDbg (s : State) (j : EnvJob) : State :=
  let st := s.reqCheck j.payload 2
  if st ≠ stOk then s.cmdEnd j st
  else
    let r := Bytes.num j.payload 0x12 2
    (s.dbgGrant 0 (wd r)).cmdEnd j (if s.dbgOk r then stOk else stStateForbids)
/-- CMD_DEBUG_GRANT (R496). -/
def execCmdDebugGrant (s : State) : Res := .next (s.command 2 State.cmdDbg)

/-- The 0x27 descriptor of a KEY_IMPORT payload (R496). -/
def importDesc (j : EnvJob) : Desc :=
  [0x27, j.src.tag, 0, 0] ++ (List.range 12).map (Bytes.word (j.payload.take 48))
/-- Count a failed unwrap (R405): UNWRAP_BAD counts loads alone (R408; DEDUCED, log 116). -/
@[noinline] def State.unwrapFail (s : State) : State :=
  s.count (evCel 1)
/-- The checks of KEY_IMPORT on an issuer's descriptor and record, up to the slot. -/
def State.importCheck (s : State) (m : Master) (d : Desc) (b : Bytes) : Status :=
  let k := s.keyFor m (cHandle d) (some 1)
  if !blobFieldsOk b then stBadOpcode
  else if s.lcf.transit.isSome || s.secretRight || s.ownerSecret.isNone then stStateForbids
  else if k.1 ≠ stOk then k.1
  else if k.2.type ≠ 1 then stStateForbids
  else if (s.allocAt m).isNone then stNoSlot
  else stOk
/-- KEY_IMPORT as an envelope command (R397, R496): the new context's OWNER is the transport's master; RESULT is its handle. -/
@[noinline] def State.cmdImport (s : State) (j : EnvJob) : State :=
  let m := j.src.issuer
  let d := importDesc j
  let b := j.payload.drop 48
  let pre := s.celPre d { data := b, list := [], fault := false, aux := [], auxFault := false, writeFault := false }
  if dw d 6 ≠ 0 ∨ dw d 7 ≠ 0 then s.cmdEnd j stBadOpcode
  else if pre.1 ≠ stOk then s.cmdEnd j pre.1
  else
    let st := s.importCheck m d b
    if st = stNoSlot then (s.noSlot m).cmdEnd j st
    else if st ≠ stOk then (if st = stStaleHandle then s.count (evCel 14) else s).cmdEnd j st
    else match openBlob (s.slot (hSlot (cHandle d))).ctx.material s.cel.bootNonce b, s.allocAt m with
      | some c, some i =>
        let h := handleOf i (s.slot i).gen
        let s := s.putCtx i .loaded { c with owner := m, domain := domainOf m, epoch := s.blobEpoch (domainOf m) }
        let u := s.takeUse (cHandle d)
        (if u.2 then u.1.lastUse (cHandle d) else u.1).envEnd j stOk h.toNat []
      | _, _ => s.unwrapFail.cmdEnd j stAuthFail
/-- CMD_KEY_IMPORT (R496). -/
def execCmdKeyImport (s : State) : Res := .next (s.command 3 State.cmdImport)

/-- First fuse byte and value of a POLICY_SET payload (R343, R496). -/
def policyField (p : Bytes) : Option (Nat × Bytes) :=
  let i := Bytes.num p 1 1
  if Bytes.num p 2 2 ≠ 0 then none
  else match Bytes.num p 0 1 with
    | 1 => some (1028, [1])
    | 2 => some (1028, [2])
    | 3 => if 8 ≤ i ∧ i ≤ 15 then some (160 + 48 * i, Bytes.slice p 4 48) else none
    | 4 => some (980, Bytes.slice p 4 48)
    | _ => none
/-- A FUSE_KEY commit for a command, or its refusal (R344). -/
@[noinline] def State.cmdFuse (s : State) (j : EnvJob) (i : Nat) (v : Bytes) : State :=
  let st := s.fuseCheck i v.length
  if st ≠ stOk then s.cmdEnd j st else (s.fuseKey i v 0).cmdWait j .fuse 0
/-- POLICY_SET (R496). -/
@[noinline] def State.cmdPolicy (s : State) (j : EnvJob) : State :=
  match policyField j.payload with
  | none => s.cmdEnd j stBadOpcode
  | some (i, v) => s.cmdFuse j i v
/-- CMD_POLICY_SET (R496). -/
def execCmdPolicySet (s : State) : Res := .next (s.command 4 State.cmdPolicy)

/-- Where an image of a class lies: a runtime slot of 4 MB, or a guarded slot of the board's own size. -/
def slotLen (cls : Nat) : Nat := if cls = 0 then 2 ^ 22 else 2 ^ 32
/-- R497 lets a slot be revoked: each class with a valid image signed in it has another image under a slot neither revoked nor named. -/
def State.revokeOk (s : State) (imgs : List ImageSeen) (k : Nat) : Bool :=
  let valid := imgs.filter (fun x => decide (x.cls < 64) && s.manValid x.man x.cls (slotLen x.cls))
  (valid.filter (fun x => manKeySlot x.man == k)).all (fun x =>
    valid.any (fun y => y.cls == x.cls && manKeySlot y.man != k))
/-- REVOKE (R496, R497). -/
@[noinline] def State.cmdRevoke (s : State) (imgs : List ImageSeen) (j : EnvJob) : State :=
  let k := Bytes.num j.payload 0 1
  if 15 < k ∨ !allZero (Bytes.slice j.payload 1 3) then s.cmdEnd j stBadOpcode
  else if s.revoked.testBit k then s.cmdEnd j stOk
  else if !s.revokeOk imgs k then s.cmdEnd j stStateForbids
  else s.cmdFuse j 928 (leBytes 2 (2 ^ k))
/-- CMD_REVOKE (R497); the images are those that the runtime finds on flash. -/
def execCmdRevoke (imgs : List ImageSeen) (s : State) : Res := .next (s.command 6 (fun s j => s.cmdRevoke imgs j))

/-- The BBRAM image that raises EPOCH of a domain by 1 (R374, R397), in the form of a commit descriptor. -/
def State.epochImage (s : State) (dom : Nat) : Bytes :=
  zeros 36 ++ ((List.range 16).flatMap (fun d => leBytes 4 (s.blobEpoch d + if d = dom then 1 else 0))) ++ zeros 4
/-- The bank that is not active. -/
def State.idleBank (s : State) : Nat := match s.cel.active with | some 0 => 1 | _ => 0
/-- Why BLOB_EPOCH_ADVANCE of a domain is refused (R374, R397). -/
def State.advanceCheck (s : State) (dom : Nat) : Status :=
  if 15 < dom then stBadOpcode
  else if s.blobEpoch dom = 0xFFFFFFFF then stStateForbids
  else s.bankCheck s.idleBank (s.epochImage dom)
/-- The runtime submits the commit of BLOB_EPOCH_ADVANCE in a slot (R397). -/
@[noinline] def State.advance (s : State) (dom slot : Nat) : State :=
  s.enqueue (17 + slot) 3 0 (.bank slot s.idleBank (s.epochImage dom))
/-- BLOB_EPOCH_ADVANCE as an operation of the runtime (R397, R452). -/
@[noinline] def State.blobAdvance (s : State) (src : JobSrc) (d : Desc) : State :=
  let st := s.advanceCheck (cParam d)
  if st ≠ stOk then s.celFail src 0x2F st 0
  else match (if s.cmd.blobJob.isNone then s.cmdSlot else none) with
    | none => s.celFail src 0x2F stCommitDeferred 0
    | some k => (s.advance (cParam d) k).modCmd (fun c => { c with blobJob := some (src, k) })
/-- BLOB_EPOCH_ADVANCE (R397, R452): no queue or ring carries it. -/
def execBlobEpochAdvance (src : JobSrc) (d : Desc) (io : JobIo) (s : State) : Res :=
  .next (if src.ring < 69 then s else s.job src d 0x2F (fun s => s.celJob src d io (fun s _ => s.blobAdvance src d)))
/-- BLOB_EPOCH_ADVANCE as an envelope command (R496). -/
@[noinline] def State.cmdBlob (s : State) (j : EnvJob) : State :=
  let dom := Bytes.num j.payload 0 1
  let st := if allZero (Bytes.slice j.payload 1 3) then s.advanceCheck dom else stBadOpcode
  if st ≠ stOk then s.cmdEnd j st
  else match s.cmdSlot with
    | none => s.cmdEnd j stCommitDeferred
    | some k => (s.advance dom k).cmdWait j .blobEpoch k
/-- CMD_BLOB_EPOCH_ADVANCE (R496). -/
def execCmdBlobEpochAdvance (s : State) : Res := .next (s.command 7 State.cmdBlob)

/-- CMD_EPOCH_ADVANCE (R483). -/
@[noinline] def State.cmdEpoch (s : State) (j : EnvJob) : State :=
  if s.exhausted then s.cmdEnd j stStateForbids
  else match s.cmdSlot with
    | none => s.cmdEnd j stCommitDeferred
    | some k => ((s.recCommit k 0 (epochRec (s.cmd.epoch + 1))).cmdWait j (.epochAdvance (s.cmd.epoch + 1)) k).markWait
/-- CMD_EPOCH_ADVANCE (R483). -/
def execCmdEpochAdvance (s : State) : Res := .next (s.command 8 State.cmdEpoch)
/-- RIGHTS that an issuer other than the owner may hold (R487). -/
def rightsOk (r : Nat) : Bool := decide (r < 256)
/-- ISSUER_REGISTER (R489, R496). -/
@[noinline] def State.cmdRegister (s : State) (j : EnvJob) : State :=
  let id := Bytes.num j.payload 0 2
  let r := Bytes.num j.payload 2 2
  if !allZero (Bytes.slice j.payload 4 4) then s.cmdEnd j stBadOpcode
  else if id = 0 ∨ id = 0xFFFF ∨ (s.issuer id).isSome ∨ !rightsOk r then s.cmdEnd j stStateForbids
  else if 64 ≤ s.cmd.issuers.length then s.cmdEnd j stNoSlot
  else s.establish j id r (Bytes.slice j.payload 8 1568) (fun s st => s.cmdEnd j st)
/-- CMD_ISSUER_REGISTER (R489). -/
def execCmdIssuerRegister (s : State) : Res := .next (s.command 9 State.cmdRegister)
/-- ISSUER_REMOVE (R491, R496). -/
@[noinline] def State.cmdRemove (s : State) (j : EnvJob) : State :=
  let id := Bytes.num j.payload 0 2
  if Bytes.num j.payload 2 2 ≠ 0 then s.cmdEnd j stBadOpcode
  else match s.issuer id, s.cmdSlot with
    | none, _ => s.cmdEnd j stStateForbids
    | some _, none => s.cmdEnd j stCommitDeferred
    | some i, some k =>
      if id = 0 ∧ 1 < s.cmd.issuers.length then s.cmdEnd j stStateForbids
      else
        let n := s.nextSerial
        let s := (s.destroy (hSlot i.handle)).modCmd (fun c => { c with issuers := c.issuers.filter (fun x => x.id != id) })
        (s.recCommit k 0 (issuerRec 2 id 0 n [])).cmdWait j .remove k
/-- CMD_ISSUER_REMOVE (R491). -/
def execCmdIssuerRemove (s : State) : Res := .next (s.command 10 State.cmdRemove)

/-! ### What the end of a commit decides -/

/-- The fuse commit of a command has ended, or was withdrawn or deferred (R344, R496). -/
@[noinline] def State.cmdFuseEnd (s : State) (st : Status) : State :=
  match s.cmd.running with
  | some j => if j.wait = .fuse then s.cmdEnd j st else s
  | none => s
/-- Copy A of a transition has been written, or timed out (R498). -/
@[noinline] def State.cmdLcEnd (s : State) (st : Status) : State :=
  match s.cmd.running with
  | some j => if j.wait = .lcTransition then s.cmdEnd j st else s
  | none => s
/-- The commit of the boot epoch record has ended OK (R481). -/
@[noinline] def State.epochDone (s : State) : State := (s.modCmd (fun c => { c with epochPending := false, epochSlot := none })).envRun
/-- The commit of the running command in a hart slot has ended (R483, R489, R491, R496). -/
@[noinline] def State.cmdSlotDone (s : State) (j : EnvJob) (st : Status) : State :=
  match j.wait with
  | .epochAdvance e =>
    if st = stOk then
      ((s.modCmd (fun c => { c with epoch := e })).modIssuers (fun i => { i with lastSeq := 0 })).envEnd j stOk (e % 2 ^ 32) []
    else s.cmdEnd j st
  | .register i ct =>
    if st = stOk then (s.modCmd (fun c => { c with issuers := c.issuers ++ [i] })).envEnd j stOk j.counter ct
    else (if s.liveH i.handle then s.destroy (hSlot i.handle) else s).cmdEnd j st
  | .remove => s.cmdEnd j st
  | .blobEpoch => s.cmdEnd j st
  | _ => s
/-- The last commit that a hart slot has for the runtime has ended with a status: the boot epoch, which stays pending where it is not OK,
BLOB_EPOCH_ADVANCE of the runtime, or the running command. -/
@[noinline] def State.cmdSlotLast (s : State) (slot : Nat) (st : Status) : State :=
  let s := if s.cmd.epochSlot ≠ some slot then s
    else if st = stOk then s.epochDone else s.modCmd (fun c => { c with epochSlot := none })
  let s := match s.cmd.blobJob with
    | some (src, k) => if k = slot then (s.modCmd (fun c => { c with blobJob := none })).complete src 0x2F st 0 0 else s
    | none => s
  match s.cmd.running with
  | some j => if j.slot = slot then s.cmdSlotDone j st else s
  | none => s
/-- A hart slot's commit has ended with a status: a slot that copies the epoch area goes on with its next record (R485). -/
@[noinline] def State.cmdSlotEnd (s : State) (slot : Nat) (st : Status) : State :=
  if !s.copying slot then s.cmdSlotLast slot st
  else if st = stOk then s.copyNext slot else (s.copyFail slot).cmdSlotLast slot st

/-! ### Resets and tamper -/

/-- A reset of the PCIe transport or of the I3C agent (R493, R499). -/
@[noinline] def State.cmdReset (s : State) (mctp : Bool) : State :=
  let gone := s.cmd.waiting.filter (fun j => j.mctp == mctp)
  let s := (s.setVersion mctp 0).modCmd (fun c => { c with
    waiting := c.waiting.filter (fun j => j.mctp != mctp),
    running := c.running.map (fun j => if j.mctp = mctp then { j with quiet := true } else j) })
  (gone.foldl (fun s j => s.envReply j stAborted 0 0 []) s).envRun
/-- A job waits for the end of a commit in a hart slot. -/
def EnvJob.inSlot (j : EnvJob) (slot : Nat) : Bool :=
  j.slot == slot && !([.none, .epoch, .lcTransition, .fuse].contains j.wait)
/-- The commit of a job is in flight, and so runs to its end (R321, R324, R336). -/
def State.cmdFlying (s : State) (j : EnvJob) : Bool :=
  match s.cis.inflight.map (fun i => (s.adm i).what) with
  | some (.lcf (.lcCopy _ _)) => j.wait == .lcTransition
  | some (.lcf (.field _ _)) => j.wait == .fuse
  | some (.page slot _ _ _ _) => j.inSlot slot
  | some (.bank slot _ _) => j.inSlot slot
  | _ => false
/-- A tamper response (R495, R500): what waits or runs completes with TAMPERED, and a counter consumed stays consumed. A command whose
commit is in flight ends with that commit, for R478 leaves no effect of a command that ends otherwise. -/
@[noinline] def State.cmdTamper (s : State) : State :=
  let js := s.cmd.running.toList.filter (fun j => !s.cmdFlying j) ++ s.cmd.waiting
  let s := s.modCmd (fun c => { c with running := c.running.filter s.cmdFlying, waiting := [] })
  js.foldl (fun s j => s.envReply j stTampered (if j.accepted then j.counter else 0) 0 []) s

end Sys2Proof.Machine
end

