-- ==== Sys2Proof/Machine/HostLink.lean ====
section
/-! DEFINITION. The PCIe link, function resets and power, IDE and the DOE mailbox (R441 to R451), and what the reset of a
master does (R74, R301, R525, R630). -/
namespace Sys2Proof.Machine

/-- Change the host link state. -/
@[noinline] def State.modHq (s : State) (f : HqState → HqState) : State := { s with hq := f s.hq }
/-- Address of a register of the DOE page. -/
def aDoe (off : Nat) : Nat := pg 0x142 off

/-! ### Resets of masters -/

/-- An export ends FAILED (R630). -/
@[noinline] def State.expFail (s : State) (st : Status) : State :=
  { s with flr := { s.flr with exp := .failed, expCode := st, expData := [] } }
/-- The reset of a master that runs an export ends it (R630). -/
@[noinline] def State.expReset (s : State) (m : Master) : State :=
  if s.flr.exp = .running ∧ s.flr.expMaster = m then s.expFail stAborted else s
/-- What the reset of a master ends: its jobs (R301, R429, R577), semaphores (R74), channels (R525), export (R630). -/
@[noinline] def State.masterReset (s : State) (m : Master) : State :=
  ((((((s.digIssuerReset m).measIssuerReset m).celIssuerReset m).tkIssuerReset m).semReclaim m).mbxReset m).expReset m
/-- The pages of a queue return to reset values (R446); the event counts stay. -/
@[noinline] def State.queueReset (s : State) (q : Nat) : State :=
  let s := s.setQueue q Queue.reset
  [0x40, 0x44, 0x48, 0x4C, 0x50, 0x6C].foldl (fun s o => s.setReg (aQ q o) (resetAt (aQ q o))) s
/-- The MSI-X table and PBA of a function return to reset values. -/
@[noinline] def State.msixReset (s : State) (f : Nat) : State :=
  (List.range (if f = 0 then 64 else 4)).foldl (fun s v =>
    (List.range 4).foldl (fun s w => s.setReg (msixAddr f v + 4 * w) (resetAt (msixAddr f v + 4 * w))) (s.setPba f v false)) s
/-- VF `v` exists. -/
def State.vfOn (s : State) (v : Nat) : Bool := s.hq.vfEnable && decide (1 ≤ v) && decide (v ≤ s.hq.numVfs)
/-- Master ID of function `f`. -/
def fnMaster (f : Nat) : Master := BitVec.ofNat 8 (0x10 + f)
/-- The reset of VF `v` (R446): queues, MSI-X, its jobs and its Cellar contexts. -/
@[noinline] def State.vfReset (s : State) (v : Nat) : State :=
  let s := (((s.queueReset (13 + 3 * v)).queueReset (14 + 3 * v)).queueReset (15 + 3 * v)).msixReset v
  ((((s.setFn v FnState.reset).stallDrop (fnMaster v))).masterReset (fnMaster v)).destroyOwner (fnMaster v)
/-- VFs above a number stop existing (R446). -/
@[noinline] def State.vfsGone (s : State) (n : Nat) : State :=
  let gone := (List.range 16).filter (fun v => s.vfOn v && decide (n < v))
  let s := gone.foldl State.vfReset s
  s.modHq (fun h => { h with numVfs := min h.numVfs n, vfEnable := h.vfEnable && n != 0,
                             flrPending := gone.foldl (fun b v => putBit b v true) h.flrPending })
/-- What PF0 FLR and a link-down have in common (R446, R493, R499, R139). -/
@[noinline] def State.pfReset (s : State) : State :=
  let s := (List.range 16).foldl State.queueReset s
  let s := (((s.msixReset 0).setFn 0 FnState.reset).stallDrop 0x10).vfsGone 0
  ((s.masterReset 0x10).cmdReset false).stageReset 0x10

/-- VF_FLR (R446). -/
def execVfFlr (v : Fin 16) (s : State) : Res :=
  .next (if s.vfOn v.val then
    ((s.vfReset v.val).modHq (fun h => { h with flrPending := putBit h.flrPending v.val true })).count (evLink 4) else s)
/-- VF_DISABLE (R446): NumVFs becomes lower, 0 for VF Enable cleared; FLR_VF is counted once. -/
def execVfDisable (numVfs : Nat) (s : State) : Res :=
  .next (if s.hq.vfEnable ∧ numVfs < s.hq.numVfs then (s.vfsGone numVfs).count (evLink 4) else s)
/-- The effect of a PF0 FLR (R446): FLR_PF, and FLR_VF once where VFs stop existing. -/
@[noinline] def State.pfFlr (s : State) : State :=
  let vf := s.hq.vfEnable
  let s := ((s.pfReset).modHq (fun h => { h with flrPending := putBit h.flrPending 0 true })).count (evLink 3)
  if vf then s.count (evLink 4) else s
/-- PF0_FLR (R446). -/
def execPf0Flr (s : State) : Res := .next (if s.hq.up then s.pfFlr else s)
/-- FLR_COMPLETE (R446): the function's reset is over. -/
def execFlrComplete (fn : Fin 16) (s : State) : Res :=
  .next (s.modHq (fun h => { h with flrPending := putBit h.flrPending fn.val false }))

/-! ### The link -/

/-- The link goes down (R446): as a PF0 FLR, and what the functions hold is freed; LINK_DOWN. DESIGN CHOICE (log 119): the IDE streams
lose their keys. -/
@[noinline] def State.linkDown (s : State) : State :=
  if !s.hq.up then s
  else
    let s := s.pfReset
    let s := (List.range 16).foldl (fun s f => s.semReclaim (fnMaster f)) s
    (s.modHq (fun h => { h with up := false, speed := 0, width := 0, training := false, linkDowns := satInc h.linkDowns,
                                ideSecure := 0, ideKeys := [], trainCtl := none, flrPending := 0 })).count (evLink 1)
/-- LINK_DOWN (R446). -/
def execLinkDown (s : State) : Res := .next s.linkDown
/-- The LINK_CTRL of a training (R442): as it stood where a retraining began, or as it stands where the link comes up. -/
def State.trainWord (s : State) : Word := s.hq.trainCtl.getD (s.reg (pg 0x140 0x44))
/-- Speed that LINK_CTRL allows of what the partners offer (R441). -/
def State.linkSpeed (s : State) (x : Nat) : Nat := min x (Word.field s.trainWord 2 0)
/-- Width that LINK_CTRL allows. -/
def State.linkWidth (s : State) (x : Nat) : Nat := min x (2 ^ Word.field s.trainWord 6 4)
/-- The device trains a link: ACTIVE, no hold-up mode, on the way to no other state (R594, R596, R649). -/
def State.linkMay (s : State) : Bool := s.pwr.power == .active && !s.pwr.holdup && s.pwr.pending.isNone
/-- A training ends with the link up (R441, R442): LINK_UP, or SPEED_CHANGE where a link that was up changes speed. -/
@[noinline] def State.linkUp (s : State) (speed width : Nat) : State :=
  let was := s.hq.up
  let old := s.hq.speed
  let v := s.linkSpeed speed
  let s := s.modHq (fun h => { h with up := true, speed := v, width := s.linkWidth width, training := false, trainCtl := none })
  if !was then s.count (evLink 0) else if old ≠ v then s.count (evLink 2) else s
/-- LINK_UP (R441). -/
def execLinkUp (speed width : Nat) (s : State) : Res :=
  .next (if s.linkMay && decide (1 ≤ speed) && decide (speed ≤ 5) && [1, 2, 4, 8, 16].contains width && (!s.hq.up || s.hq.training) then
    s.linkUp speed width else s)
/-- The effect of LINK_CMD.RETRAIN (R442): it starts a training of a link that is up, to which LINK_CTRL as it stands applies. -/
@[noinline] def State.retrain (s : State) : State :=
  if s.hq.up then s.modHq (fun h => { h with training := true, trainCtl := some (s.reg (pg 0x140 0x44)) }) else s
/-- LINK_RETRAIN (R442). -/
def execLinkRetrain (m : Master) (s : State) : Res := .next (s.guarded m (pg 0x140 0x48) (fun s => s.retrain))
/-- AER_ERR (R442): receiver errors and replays are counted in their registers, an AER error as AER_ERR. -/
def execAerErr (kind : LinkErr) (s : State) : Res :=
  .next (match kind with
    | .receiver => s.modHq (fun h => { h with rxErrs := satInc h.rxErrs })
    | .replay => s.modHq (fun h => { h with replays := satInc h.replays })
    | .aer => s.count (evLink 7))
/-- What configuration registers keep of a write (R444, R468): BAR bases are multiples of the sizes, reads of at most 4,096 bytes. -/
def cfgStored (c : FnCtl) : FnCtl :=
  { c with bar0 := BitVec.ofNat 64 (c.bar0.toNat / 2 ^ 25 * 2 ^ 25), bar2 := BitVec.ofNat 64 (c.bar2.toNat / 2 ^ 26 * 2 ^ 26),
           vfBar := BitVec.ofNat 64 (c.vfBar.toNat / 2 ^ 14 * 2 ^ 14) }
/-- FUNC_POWER_CHANGE (R443 to R446, R450): power state, enables and configuration of a function; for a VF that does not exist yet it stands
for the enabling of VFs up to it. A function that resets takes no configuration request. Requests that waited are issued where they may be. -/
def execFuncPowerChange (fn : Fin 16) (d3 bme : Bool) (ctl : FnCtl) (s : State) : Res :=
  .next (if !s.hq.up || s.hq.flrPending.getLsbD fn.val then s else
    let s := s.setFn fn.val { d3, bme, ctl := cfgStored ctl }
    let s := if fn.val = 0 then s else s.modHq (fun h => { h with vfEnable := true, numVfs := max h.numVfs fn.val })
    s.stallGo (fnMaster fn.val))

/-! ### IDE and DOE -/

/-- A secured SPDM session stands on the DOE mailbox (R434, R447). -/
def State.doeSecured (s : State) : Bool := match s.spdm.doe.session with | some x => x.finished | none => false
/-- IDE_KEY_INSTALL (R447): IDE_KM in a secured session writes the key registers of a stream, which no register returns, and makes it
secure. -/
def execIdeKeyInstall (key : IdeKey) (s : State) : Res :=
  .next (if s.hq.up && s.doeSecured then
    s.modHq (fun h => { h with ideSecure := putBit h.ideSecure key.stream.val true,
                               ideKeys := SMap.set (fun _ => []) h.ideKeys key.stream.val key.key })
  else s)
/-- IDE_INTEGRITY_FAIL (R447): the TLP is discarded, its stream goes Insecure until IDE_KM installs new keys, IDE_ERR. -/
def execIdeIntegrityFail (stream : Fin 5) (s : State) : Res :=
  .next (if s.hq.ideSecure.getLsbD stream.val then
    (s.modHq (fun h => { h with ideSecure := putBit h.ideSecure stream.val false, ideErrs := satInc h.ideErrs })).count (evLink 6)
  else s)

/-- Change the DOE mailbox. -/
@[noinline] def State.modDoe (s : State) (f : DoeState → DoeState) : State := s.modHq (fun h => { h with doe := f h.doe })
/-- DOE Error, and the object is discarded (R448). -/
def DoeState.fail (d : DoeState) : DoeState := { d with error := true, req := [] }
/-- The DOE mailbox takes configuration requests (R12, R107, R111, R446): the endpoint works, the memory wipe is over, the road has not ended in
a halt, and no reset of PF0 makes the host retry them. -/
def State.doeTakes (s : State) : Bool := s.hostUp && s.awake && !s.hq.flrPending.getLsbD 0
/-- DOE_WRITE (R448): the dword joins the request buffer, which hart 0 reads in core memory (R502). -/
def execDoeWrite (w : Word) (s : State) : Res :=
  .next (if !s.doeTakes then s
    else if s.hq.doe.busy ∨ 65540 < s.hq.doe.req.length then s.modDoe DoeState.fail
    else (s.setBytes (0x10480000 + s.hq.doe.req.length) (leBytes 4 w.toNat)).modDoe (fun d => { d with req := d.req ++ leBytes 4 w.toNat }))
/-- The length in bytes that a DOE header gives. -/
def doeLen (b : Bytes) : Nat := let n := Bytes.num b 4 4 % 2 ^ 18; 4 * (if n = 0 then 2 ^ 18 else n)
/-- The answer to DOE Discovery for an index: Discovery, CMA/SPDM, Secured CMA/SPDM (R443). -/
def doeDiscovery (i : Nat) : Bytes :=
  leBytes 2 1 ++ leBytes 1 0 ++ zeros 1 ++ leBytes 4 3 ++
  (if i < 3 then leBytes 2 1 ++ leBytes 1 i ++ leBytes 1 (if i = 2 then 0 else i + 1) else [0xFF, 0xFF, 0xFF, 0])
/-- The effect of DOE Go on a complete object (R448). -/
@[noinline] def State.doeObject (s : State) (b : Bytes) : State :=
  let s := s.modHq (fun h => { h with doeObjects := satInc h.doeObjects })
  let p := Bytes.num b 2 1
  if Bytes.num b 0 2 = 1 ∧ p = 0 then
    s.modDoe (fun d => { d with rsp := doeDiscovery (Bytes.num b 8 1), dataReady := true, req := [] })
  else if Bytes.num b 0 2 = 1 ∧ (p = 1 ∨ p = 2) then
    ((s.modDoe (fun d => { d with busy := true, ready := true, aborted := false, dataReady := false, protocol := p })).dmaRecords
      0x10 0x10480000 b).count (evLink 5)
  else s.modDoe DoeState.fail
/-- DOE_GO (R448): an incomplete object is an error. -/
def execDoeGo (s : State) : Res :=
  .next (let b := s.hq.doe.req
    if !s.doeTakes || s.hq.doe.busy then s
    else if b.length < 8 ∨ doeLen b ≠ b.length then s.modDoe DoeState.fail
    else s.doeObject b)
/-- DOE_ABORT (R448). -/
def execDoeAbort (s : State) : Res :=
  .next (if !s.doeTakes then s else s.modDoe (fun d =>
    { d with req := [], rsp := [], ready := false, busy := false, error := false, aborted := true, dataReady := false }))
/-- DOE_RSP_LEN. -/
def State.rspLen (s : State) : Nat := s.fldOf (aDoe 0x48) 16 0
/-- The effect of DOE_CTRL.SEND (R448): Data Object Ready. A response length outside 8 to 65,544 is refused. -/
@[noinline] def State.doeSend (s : State) (m : Master) : State :=
  s.when m (aDoe 0x4C) (s.hq.doe.ready && decide (8 ≤ s.rspLen) && decide (s.rspLen ≤ 65544)) (fun s =>
    s.modDoe (fun d => { d with rsp := s.bytes 0x104A0000 s.rspLen, req := [], ready := false, busy := false, dataReady := true }))
/-- DOE_SEND (R448). -/
def execDoeSend (m : Master) (s : State) : Res := .next (s.guarded m (aDoe 0x4C) (fun s => s.doeSend m))
/-- The effect of DOE_CTRL.FAIL (R448, R449): DOE Error in place of a response. -/
@[noinline] def State.doeFail (s : State) (m : Master) : State :=
  s.when m (aDoe 0x4C) s.hq.doe.ready (fun s => s.modDoe (fun d => { d with error := true, req := [], ready := false, busy := false }))
/-- DOE_FAIL (R448, R449). -/
def execDoeFail (m : Master) (s : State) : Res := .next (s.guarded m (aDoe 0x4C) (fun s => s.doeFail m))

end Sys2Proof.Machine
end

