-- ==== Sys2Proof/Machine/Arb.lean ====
section
/-! DEFINITION. The anti-rollback record (R608 to R610, R613, R614): its layout, the one that counts, and the commits by which
the runtime writes a new one. -/
namespace Sys2Proof.Machine

/-- MAGIC of a record (R608). -/
def arbMagic : Nat := 0x42524158
/-- A record: SEQ, CONFIRM_N, FLAGS, the minima and the pending entries as bytes, closed by CHECK (R608). -/
def arbRec (seq confirm flags : Nat) (mins pend : Bytes) : Bytes :=
  let b := leBytes 4 arbMagic ++ leBytes 4 seq ++ leBytes 1 confirm ++ leBytes 1 flags ++ zeros 6 ++ Bytes.fit mins 128 ++
    Bytes.fit pend 32 ++ zeros 12
  b ++ leBytes 4 (crc32c b)
/-- SEQ of a record. -/
def arbSeq (r : Bytes) : Nat := Bytes.num r 4 4
/-- A record is valid: MAGIC, CHECK and the range of SEQ (R608). -/
def arbValid (r : Bytes) : Bool :=
  Bytes.num r 0 4 == arbMagic && Bytes.num r 0xBC 4 == crc32c (r.take 0xBC) && decide (1 ≤ arbSeq r) && decide (arbSeq r ≤ 0xFFFFFFFE)
/-- The record that counts among the pages read (R609): the valid one with the highest SEQ. -/
def arbPick (ps : List Bytes) : Bytes :=
  (ps.filter arbValid).foldl (fun m r => if arbSeq m < arbSeq r then r.take 192 else m) []
/-- Replace bytes of a byte string. -/
def putAt (b : Bytes) (o : Nat) (v : Bytes) : Bytes := b.take o ++ v ++ b.drop (o + v.length)
/-- The minima of the record that counts, with one class at a new version. -/
def State.arbMins (s : State) (cls v : Nat) : Bytes :=
  putAt ((List.range 64).flatMap (fun k => leBytes 2 (s.recMin k))) (2 * cls) (leBytes 2 v)
/-- The erased pages among those that the ROM read from a sector, numbered from `base` (R609): page 0 to 15 lie in copy A, 16 to 31 in B. -/
def erasedPages (base : Nat) (ps : List Bytes) : List Nat :=
  ((List.range 16).filter (fun i => match ps[i]? with | some p => !p.isEmpty && p.all (· == 0xFF) | none => false)).map (base + ·)
/-- Flash address of a page of the two sectors. -/
def State.arbPage (s : State) (n : Nat) : Nat := s.homeBase * 2 ^ 24 + 0x800000 + 0x10000 * (n / 16) + 256 * (n % 16)
/-- First page of the sector that does not hold the record that counts (R610). -/
def State.arbOther (s : State) : Nat := if s.boot.arbCopy = 0 then 16 else 0
/-- A record commit waits or runs. -/
def State.arbBusy (s : State) : Bool :=
  (List.range 15).any (fun k => match (s.adm (17 + k)).what with
    | .page _ 0 0 a _ => (s.adm (17 + k)).st != .empty && decide (s.homeBase * 2 ^ 24 + 0x800000 ≤ a ∧ a < s.homeBase * 2 ^ 24 + 0x811000)
    | _ => false)
/-- The next record can be written: SEQ may still rise (R610), a hart slot is free and Cistern takes requests (R326). -/
def State.arbMay (s : State) : Bool := decide (arbSeq s.boot.arb < 0xFFFFFFFE) && s.cmdSlot.isSome && !s.cis.blocked
/-- The sector that does not hold the record that counts is erased, where it has no erased page (R610). -/
@[noinline] def State.arbMakeRoom (s : State) : State :=
  if s.boot.arbErased.any (fun n => n / 16 == s.arbOther / 16) then s
  else (s.homeErase (0x800000 + 0x1000 * s.arbOther) 1).modBoot (fun b => { b with arbErased := b.arbErased ++ (List.range 16).map (s.arbOther + ·) })
/-- Write a record by a PAGE_REC hart commit with a timeout, into the first erased page of the sector that does not hold the record that
counts (R323, R610). -/
@[noinline] def State.arbCommit (s : State) (timeout : Nat) (r : Bytes) : State :=
  match s.cmdSlot with
  | some k =>
    let s := s.arbMakeRoom
    let n := (s.boot.arbErased.find? (fun n => n / 16 == s.arbOther / 16)).getD s.arbOther
    s.enqueue (17 + k) 2 timeout (.page k 0 0 (s.arbPage n) r)
  | none => s
/-- Set the minimum of a class by one record commit (R613); a minimum never falls. While another record commit waits or runs this one
comes after it, on the record that counts then (R638). -/
@[noinline] def State.arbRaise (s : State) (cls v : Nat) : State :=
  if v ≤ s.recMin cls then s
  else if s.arbMay && !s.arbBusy then
    s.arbCommit 0 (arbRec (arbSeq s.boot.arb + 1) (Bytes.num s.boot.arb 8 1) (Bytes.num s.boot.arb 9 1) (s.arbMins cls v) (Bytes.slice s.boot.arb 0x90 32))
  else s.modBoot (fun b => { b with minDue := b.minDue ++ [(cls, v)] })
/-- The next minimum that waits for its record commit (R638). -/
@[noinline] def State.arbNext (s : State) : State :=
  match s.boot.minDue with
  | [] => s
  | x :: t => if s.arbMay && !s.arbBusy then (s.modBoot (fun b => { b with minDue := t })).arbRaise x.1 x.2 else s
/-- The highest version among the valid images of a guarded class (R614). -/
def State.heldClass (s : State) (k : Nat) : Nat := ((s.boot.classMin.filter (fun x => x.1 == k)).map (fun x => x.2)).foldl max 0
/-- The record that the runtime writes after a boot without one (R614): SEQ 1, CONFIRM_N 3, REBUILT, MIN[0] the higher of the
held minimum and the running version, and MIN of every other class the highest version that its images hold. Both sectors are erased first. Requested before the release of masters, it never
times out (R16, R323). -/
@[noinline] def State.arbRebuild (s : State) (running : Nat) : State :=
  if s.boot.arb.isEmpty && s.cmdSlot.isSome then
    let others := (List.range 63).flatMap (fun k => leBytes 2 (s.heldClass (k + 1)))
    ((s.modBoot (fun b => { b with arbErased := List.range 32 })).homeErase 0x800000 2).arbCommit 0xFFFF (arbRec 1 3 1 (leBytes 2 (max s.boot.heldMin running) ++ others) ((List.range 8).flatMap (fun _ => [0xFF, 0, 0, 0])))
  else s
/-- A page has been written at a flash address (R609, R610): a valid record in either sector, with a SEQ above the record that
counts, is the one that counts from now on. -/
@[noinline] def State.arbWritten (s : State) (port cs addr : Nat) (data : Bytes) : State :=
  let off := addr - s.homeBase * 2 ^ 24
  let inA := decide (s.homeBase * 2 ^ 24 + 0x800000 ≤ addr ∧ addr < s.homeBase * 2 ^ 24 + 0x801000)
  let inB := decide (s.homeBase * 2 ^ 24 + 0x810000 ≤ addr ∧ addr < s.homeBase * 2 ^ 24 + 0x811000)
  let page := off % 0x10000 / 256 + (if inA then 0 else 16)
  let s := if port = 0 ∧ cs = 0 ∧ (inA ∨ inB) then s.modBoot (fun b => { b with arbErased := b.arbErased.filter (· != page) }) else s
  if port = 0 ∧ cs = 0 ∧ (inA ∨ inB) ∧ off % 256 = 0 ∧ arbValid data ∧ arbSeq s.boot.arb < arbSeq data then
    s.modBoot (fun b => { b with arb := data.take 192, arbCopy := if inA then 0 else 1 })
  else s

end Sys2Proof.Machine
end

