-- ==== Sys2Proof/Machine/Caravan.lean ====
section
/-! DEFINITION. Caravan link ports (R529 to R538): link-up and link keys, frames with their tags and sequence numbers, credits,
and the walk that TRAIN, SWEEP and TIME frames follow. -/
namespace Sys2Proof.Machine

/-- Address of a register of CVN page `k`. -/
def aCvn (k off : Nat) : Nat := pg (0x180 + k) off
/-- Change the Caravan state. -/
@[noinline] def State.modCvn (s : State) (f : CvnState → CvnState) : State := { s with cvn := f s.cvn }
/-- Change a link port. -/
@[noinline] def State.modLink (s : State) (p : Nat) (f : CvnPort → CvnPort) : State := s.setLink p (f (s.link p))
/-- This node is the root. -/
def State.cvnRoot (s : State) : Bool := s.bitOf (aCvn 0 0x40) 1
/-- CVN works (R531, R649): ENABLE in ACTIVE, outside hold-up mode. -/
def State.cvnOn (s : State) : Bool := s.bitOf (aCvn 0 0x40) 0 && s.pwr.power == .active && s.pwr.pending.isNone && !s.pwr.holdup
/-- A port may be used: CVN works and PORT_EN names it. -/
def State.linkOn (s : State) (p : Nat) : Bool := s.cvnOn && s.bitOf (aCvn 0 0x40) (4 + p)
/-- A port is UP. -/
def State.cvnUp (s : State) (p : Nat) : Bool := (s.link p).st == .up

/-- The rack position (R552): the line position less OFFSET, modulo 2^48 LU; the root has an OFFSET of 0. -/
def State.rackPos (s : State) : Nat :=
  let own : Int := s.cis.hc * 65536 + s.cis.lu
  let off : Int := if s.cvnRoot then 0 else (s.reg (aCvn 3 0x44)).toNat * 65536 + signed 16 (s.fldOf (aCvn 3 0x48) 15 0)
  unsigned 48 (own - off)
/-- The POSITION bytes of a rack position, with the era of this node. -/
def State.rackBytes (s : State) (pos : Nat) : Bytes := leBytes 4 (pos / 65536) ++ leBytes 2 pos ++ leBytes 2 s.cis.era
/-- A rack position lies ahead of this node's (R307, R544). -/
def State.rackAhead (s : State) (hc lu : Nat) : Bool := posAhead hc lu (s.rackPos / 65536) (s.rackPos % 65536)

/-! ### Frames -/

/-- FUNC (R535). -/
def fFunc (b : Bytes) : Nat := Bytes.num b 1 1
/-- SRC. -/
def fSrc (b : Bytes) : Nat := Bytes.num b 4 2
/-- DST. -/
def fDst (b : Bytes) : Nat := Bytes.num b 6 2
/-- EPOCH. -/
def fEpoch (b : Bytes) : Nat := Bytes.num b 8 4
/-- FLAGS. -/
def fFlags (b : Bytes) : Nat := Bytes.num b 0xC 1
/-- FRAG.INDEX. -/
def fIndex (b : Bytes) : Nat := Bytes.num b 0xD 1 % 16
/-- FRAG.LAST. -/
def fLast (b : Bytes) : Nat := Bytes.num b 0xD 1 / 16
/-- BODY. -/
def fBody (b : Bytes) : Bytes := Bytes.slice b 0x20 (b.length - 64)
/-- The frame up to its tag. -/
def fHead (b : Bytes) : Bytes := b.take (b.length - 32)
/-- The broadcast address. -/
def bcast : Nat := 0xFFF

/-- The two keys of a link, from its Cellar context (R532). -/
def State.linkKeys (s : State) (p : Nat) : Bytes :=
  if s.liveH (s.link p).key then (s.slot (hSlot (s.link p).key)).ctx.material else []
/-- The key of the direction that a port sends in: K_UP toward the root, which the UP port sends; else K_DOWN. -/
def State.sendKey (s : State) (p : Nat) : Bytes := if p = 0 then (s.linkKeys p).take 32 else (s.linkKeys p).drop 32
/-- The key of the direction that a port receives. -/
def State.recvKey (s : State) (p : Nat) : Bytes := if p = 0 then (s.linkKeys p).drop 32 else (s.linkKeys p).take 32
/-- A whole frame: header, body and tag (R535, R536). -/
def frameOf (key : Bytes) (ver : Nat) (e : CvnOut) (credits seq : Nat) : Bytes :=
  let b := leBytes 1 ver ++ leBytes 1 e.func ++ leBytes 2 (e.body.length + 64) ++ leBytes 2 e.src ++ leBytes 2 e.dst ++
    leBytes 4 e.epoch ++ leBytes 1 e.flags ++ leBytes 1 e.frag ++ leBytes 2 credits ++ Bytes.fit e.pos 8 ++ leBytes 8 seq ++ e.body
  b ++ kmac256 key b 32 (ascii "MX-CVN")
/-- A frame to send with only its FUNC, source, destination and body. -/
def cvnOut (func src dst : Nat) (body : Bytes) : CvnOut :=
  { func := func, src := src, dst := dst, epoch := 0, flags := 0, frag := 0, pos := zeros 8, body := body, held := none }
/-- NOTICE and RECOVER frames: they may fill at most 12 slots (R538). -/
def bulky (func : Nat) : Bool := func == 4 || func == 6
/-- The slot that a frame held is free again, and its credit is owed (R538). -/
@[noinline] def State.slotFree (s : State) (o : Option Nat) : State :=
  match o with
  | some q => if s.cvnUp q then s.modLink q (fun l => { l with rxFree := min 16 (l.rxFree + 1), owed := min 16 (l.owed + 1) }) else s
  | none => s
/-- A copy of a frame still waits on some port. -/
def State.copyWaits (s : State) (e : CvnOut) : Bool :=
  (List.range 3).any (fun q => (s.link q).waiting.any (fun x => x.held == e.held && x.seq == e.seq))
/-- A copy of a frame has left or is lost: the slot is free again once no other copy waits (R538). -/
@[noinline] def State.copyGone (s : State) (e : CvnOut) : State := if e.held.isSome && s.copyWaits e then s else s.slotFree e.held
/-- A frame that came in on a port leaves the node (R548, R558): HOP_MAX of that port takes the time of the hop where it is longer; the
time is measured by no command and is free. -/
@[noinline] def State.hopSeen (s : State) (o : Option Nat) : State :=
  match o with
  | some q => (s.modLink q (fun l => { l with hopMax := max l.hopMax ((Config.freeWord s.freeCtr).toNat % 65536) })).freed
  | none => s
/-- Send one frame on a port that is UP (R535, R536, R538): a TIME frame takes its position as it leaves (R552). -/
@[noinline] def State.xmit (s : State) (p : Nat) (e : CvnOut) : State :=
  let l := s.link p
  let e := if e.func = 5 then { e with pos := s.rackBytes s.rackPos } else e
  let b := frameOf (s.sendKey p) l.ver e (min 31 l.owed) (l.txSeq + 1)
  (((s.setLink p { l with owed := 0, txSeq := l.txSeq + 1, tx := if e.func = 7 then l.tx else l.tx - 1 }).out (.cvn p b)).hopSeen e.held).copyGone e
/-- A frame may leave with the credits held (R538): bulky ones leave four slots to the walk. -/
def mayXmit (tx : Nat) (e : CvnOut) : Bool := if bulky e.func then decide (4 < tx) else decide (0 < tx)
/-- Send what waits on a port as far as its credits go (R538); the fuel is the number of waiting frames. -/
@[noinline] def State.drainGo (s : State) (p fuel : Nat) : State :=
  match fuel with
  | 0 => s
  | k + 1 =>
    match (s.link p).waiting.find? (mayXmit (s.link p).tx) with
    | some e => ((s.modLink p (fun l => { l with waiting := l.waiting.erase e })).xmit p e).drainGo p k
    | none => s
/-- Send what waits on a port. -/
@[noinline] def State.drain (s : State) (p : Nat) : State :=
  if s.cvnUp p then s.drainGo p (s.link p).waiting.length else s
/-- Count a dropped frame in a field of DROPS and an event (R537): 0 LEN, 1 AUTH, 2 FORMAT, 3 CREDIT. -/
@[noinline] def State.dropOnly (s : State) (k : Nat) : State :=
  s.setReg (aCvn 0 0x5C) (Word.satField (s.reg (aCvn 0 0x5C)) (8 * k + 7) (8 * k))
/-- A frame is dropped (R537). -/
@[noinline] def State.dropFrame (s : State) (k : Nat) : State := (s.dropOnly k).count (evCvn (if k = 1 then 11 else 10))
/-- Put a frame before a port: it is lost on a port that is not UP; a RECOVER frame is never sent on a version 1 link (R533). -/
@[noinline] def State.put (s : State) (p : Nat) (e : CvnOut) : State :=
  if !s.cvnUp p then s
  else if e.func = 6 ∧ (s.link p).ver < 2 then s.dropOnly 2
  else s.modLink p (fun l => { l with waiting := l.waiting ++ [e] })
/-- Give a frame to several ports; it holds its slot until the last has taken it. -/
@[noinline] def State.giveAll (s : State) (ps : List Nat) (e : CvnOut) : State :=
  ps.foldl State.drain ((ps.foldl (fun s p => s.put p e) s).copyGone e)
/-- Give a frame to a port. -/
@[noinline] def State.give (s : State) (p : Nat) (e : CvnOut) : State := s.giveAll [p] e

/-! ### Ports up and down -/

/-- What the loss of a port loses with it (R538, R561): the frames that wait in it free their slots on the other ports, and the frames
that it received and that still wait elsewhere are lost. -/
@[noinline] def State.linkLost (s : State) (p : Nat) : State :=
  let w := (s.link p).waiting
  let s := w.foldl State.copyGone (s.modLink p (fun l => { l with waiting := [] }))
  (List.range 3).foldl (fun s q => s.modLink q (fun l => { l with waiting := l.waiting.filter (fun e => e.held != some p) })) s
/-- A port leaves its state (R531, R532, R534): its link key is destroyed, what waits in it is lost, and LINK_DOWN is counted if it
was UP. -/
@[noinline] def State.linkLeave (s : State) (p : Nat) (st : CvnPSt) (cause : Nat) : State :=
  let l := s.link p
  let s := s.linkLost p
  let s := if s.liveH l.key then s.destroy (hSlot l.key) else s
  let s := s.setLink p { l with st := st, cause := cause, ver := 0, tx := 0, rxFree := 0, owed := 0, eph := [], hello := [], key := 0,
                                t := [], txSeq := 0, rxSeq := 0, tagFails := 0, waiting := [], held := [] }
  if l.st = .up then s.count (evCvn 1) else s
/-- Every port goes DOWN (R531): on leaving ACTIVE, on a tamper response and with ENABLE 0. DESIGN CHOICE (log 122): the openings of R547 end
with it. -/
@[noinline] def State.cvnDown (s : State) : State :=
  ((List.range 3).foldl (fun s p => (s.linkLeave p .down 0).modLink p (fun l => { l with lock := false })) s).modCvn (fun c => { c with missAt := [] })
/-- A tamper response (R531, R561): every port DOWN and the receive buffer discarded. -/
@[noinline] def State.cvnTamper (s : State) : State :=
  s.cvnDown.modCvn (fun c => { c with rxFull := false, rxBuf := [], rxFrag := 0 })

/-- MAX_VER of this node (R556). -/
def State.maxVer (s : State) : Nat := s.fldOf (aCvn 0 0x40) 9 8
/-- The HELLO body (R532). -/
def State.helloBody (s : State) (vers role : Nat) (ec kem : Bytes) : Bytes :=
  leBytes 1 vers ++ leBytes 1 role ++ zeros 2 ++ s.unitId ++ ec ++ kem
/-- A HELLO frame (R532, R536): LINK_SEQ 0 and a tag of zeros. -/
def helloFrame (ver src : Nat) (body : Bytes) : Bytes :=
  leBytes 1 ver ++ [0] ++ leBytes 2 (body.length + 64) ++ leBytes 2 src ++ zeros 26 ++ body ++ zeros 32
/-- The handshake begins (R532): ephemeral keys are drawn, and a child sends its HELLO. The version byte of the child's HELLO is
not stated: it is free. -/
@[noinline] def State.handshake (s : State) (p : Nat) : State :=
  let eph := s.draw 112
  let s := s.drew
  let l := { s.link p with st := .handshake, cause := 0, lockAt := s.clk, eph := eph }
  if p ≠ 0 then s.setLink p l
  else
    let f := helloFrame ((Config.freeWord s.freeCtr).toNat % 256) s.cvn.addr
      (s.helloBody (if s.maxVer = 1 then 1 else 3) 0 (pubKey 0xE (eph.take 48)) (pubKey 0xF (eph.drop 48)))
    ((s.freed).setLink p { l with hello := f }).out (.cvn p f)
/-- A CVN_CFG write (R531, R556): MAX_VER 0 and 3 are stored as 2; ENABLE 0 takes every port DOWN, a port without PORT_EN is DOWN,
and enabled ports seek block lock. -/
@[noinline] def State.cvnCfg (s : State) (v : Word) : State :=
  let mv := Word.field v 9 8
  let s := s.setReg (aCvn 0 0x40) (Word.setField (v &&& 0x377) 9 8 (if mv = 1 then 1 else 2))
  if !Word.bit v 0 then s.cvnDown
  else (List.range 3).foldl (fun s p =>
    if !s.linkOn p then (s.linkLeave p .down 0).modLink p (fun l => { l with lock := false })
    else if (s.link p).st = .down then s.modLink p (fun l => { l with st := .locking }) else s) s
/-- CVN_CFG_WRITE (R531, R556). -/
def execCvnCfgWrite (m : Master) (v : Word) (s : State) : Res := .next (s.guarded m (aCvn 0 0x40) (fun s => s.cvnCfg v))
/-- CVN_BLOCK_LOCK (R532). -/
def execCvnBlockLock (p : Fin 3) (s : State) : Res :=
  .next (if s.linkOn p.val then ((s.linkLeave p.val .locking 0).modLink p.val (fun l => { l with lock := true })).handshake p.val else s)
/-- A handshake check fails (R534). -/
@[noinline] def State.linkFail (s : State) (p cause : Nat) : State := s.linkLeave p .failed cause

/-- The rack key (R532, R534): the context that RACK_KEY names, of TYPE KMAC_KEY with DERIVE, used for hart 0. -/
def State.rackKey (s : State) : Option Bytes :=
  let r := s.keyFor 0 (s.reg (aCvn 0 0x58)) (some 5)
  if r.1 = stOk ∧ r.2.type = 3 then some r.2.material else none
/-- One use of the rack key is taken (R389). -/
@[noinline] def State.rackUsed (s : State) : State :=
  let h := s.reg (aCvn 0 0x58)
  let u := s.takeUse h
  if u.2 then u.1.lastUse h else u.1
/-- Step 3 and the sending side of step 4 (R532): the link keys go into a Cellar context, and CONFIRM is sent. -/
@[noinline] def State.linkDerive (s : State) (p ver : Nat) (z t : Bytes) : State :=
  match s.rackKey with
  | none => s.linkFail p 4
  | some k =>
    if s.secretRight then s.linkFail p 4
    else match s.allocAt 0x45 with
    | none => (s.noSlot 0x45).linkFail p 4
    | some i =>
      let keys := kdf k (z ++ t) "MX-CVNU" ++ kdf k (z ++ t) "MX-CVND"
      let c : KeyCtx := { type := 0xA, flags := 0, ops := 0, owner := 0x45, domain := 0, mlen := 64, uses := 0xFFFFFFFF, epoch := 0, material := keys }
      let s := s.rackUsed.putCtx i .loaded c
      let h := handleOf i (s.slot i).gen
      let s := s.modLink p (fun l => { l with ver := ver, key := h, t := t, txSeq := 1 })
      let e := cvnOut 1 s.cvn.addr 0 (kmac256 (s.sendKey p) t 32 (ascii "MX-CVNC"))
      s.out (.cvn p (frameOf (s.sendKey p) ver e 0 1))
/-- The highest version that both sides allow (R533). -/
def versionOf (theirs mine : Nat) : Nat := if theirs.testBit 1 && decide (2 ≤ mine) then 2 else if theirs.testBit 0 then 1 else 0
/-- HELLO at a parent (R532 step 2): it answers with its own and derives. DESIGN CHOICE (log 122): ROLE is checked before the version
(R534). -/
@[noinline] def State.helloParent (s : State) (p : Nat) (b : Bytes) : State :=
  let x := fBody b
  let ver := versionOf (Bytes.num x 0 1) s.maxVer
  if Bytes.num x 1 1 ≠ 0 then s.linkFail p 2
  else if ver = 0 ∨ (p = 2 ∧ ver = 1) then s.linkFail p 1
  else
    let l := s.link p
    let ek := Bytes.slice x 108 1568
    let r := l.eph.drop 80
    let f := helloFrame ver s.cvn.addr (s.helloBody ver 1 (pubKey 0xE (l.eph.take 48)) (Config.take 1568 (Config.kemCtByte ek r)))
    let z := Config.take 48 (Config.kexSecretByte 0xE (l.eph.take 48) (Bytes.slice x 12 96)) ++ Config.take 32 (Config.kemSecretByte ek r)
    (s.out (.cvn p f)).linkDerive p ver z (sha384 (fHead b ++ fHead f))
/-- HELLO at a child (R532 step 3). -/
@[noinline] def State.helloChild (s : State) (p : Nat) (b : Bytes) : State :=
  let x := fBody b
  let vm := Bytes.num x 0 1
  let ver := if vm = 2 ∧ 2 ≤ s.maxVer then 2 else if vm = 1 then 1 else 0
  if Bytes.num x 1 1 ≠ 1 then s.linkFail p 2
  else if ver = 0 then s.linkFail p 1
  else
    let l := s.link p
    let z := Config.take 48 (Config.kexSecretByte 0xE (l.eph.take 48) (Bytes.slice x 12 96)) ++
      Config.take 32 (Config.kexSecretByte 0xF (l.eph.drop 48) (Bytes.slice x 108 1568))
    s.linkDerive p ver z (sha384 (fHead l.hello ++ fHead b))

/-! ### Receiving -/

/-- The length field matches what came, within bounds (R537). -/
def lenOk (b : Bytes) : Bool := Bytes.num b 2 2 == b.length && decide (64 ≤ b.length) && decide (b.length ≤ 2048)
/-- The tag of a frame verifies (R536). -/
def State.tagGood (s : State) (p : Nat) (b : Bytes) : Bool :=
  kmac256 (s.recvKey p) (fHead b) 32 (ascii "MX-CVN") == b.drop (b.length - 32)
/-- A tag failure (R534, R537): the eighth in a row fails the port. -/
@[noinline] def State.tagFail (s : State) (p : Nat) : State :=
  let s := (s.dropFrame 1).modLink p (fun l => { l with tagFails := l.tagFails + 1 })
  if 8 ≤ (s.link p).tagFails then s.linkFail p 6 else s
/-- The reserved bits of a header are 0 (R535). -/
def headResv (b : Bytes) : Bool :=
  decide (fSrc b < 4096) && decide (fDst b < 4096) && decide (fFlags b < 16) && decide (Bytes.num b 0xE 2 < 32)
/-- The header fields that every frame has in common are well formed, for the version of the link (R535, R537). -/
def headOk (ver : Nat) (b : Bytes) : Bool :=
  Bytes.num b 0 1 == ver && decide (fFunc b ≤ 7) && (fFunc b != 6 || decide (2 ≤ ver)) && headResv b
/-- The reserved fields of a SWEEP body are 0 (R543, R545): STATUS [7:3] and bytes 0x1E and 0x1F of LAST_REC, and REASON bits 6 and 7. -/
def sweepResv (b : Bytes) : Bool :=
  decide (Bytes.num b 0x5B 1 < 8) && Bytes.num b 0x76 2 == 0 &&
  (List.range (Bytes.num b 0x22 2)).all (fun i => Bytes.num b (0x98 + 4 * i) 4 / 2 ^ 18 % 4 == 0)
/-- The body has the form that FUNC gives it (R532, R538, R539, R542, R549, R555). -/
def bodyOk (b : Bytes) : Bool :=
  match fFunc b with
  | 0 => b.length == 1740 && Bytes.num b 0x22 2 == 0
  | 1 => b.length == 96
  | 2 => b.length == 72 && Bytes.num b 0x26 2 == 0
  | 3 => b.length == 184 + 4 * Bytes.num b 0x22 2 && sweepResv b
  | 4 => fLast b == 3 && decide (fIndex b ≤ 3) && b.length == (if fIndex b = 3 then 1600 else 2048)
  | 5 => b.length == 64
  | 6 => decide (fIndex b ≤ fLast b) && decide (fLast b ≤ 3) && (fIndex b != 0 || (decide (72 ≤ b.length) && Bytes.num b 0x22 2 == 0))
  | 7 => b.length == 64
  | _ => false
/-- NOTICE and RECOVER frames that a port's slots hold (R538): those that wait for the receive buffer, and those that wait to go on. -/
def State.bulkIn (s : State) (p : Nat) : Nat :=
  (s.link p).held.length +
  (((List.range 3).flatMap (fun q => (s.link q).waiting.filter (fun e => e.held == some p && bulky e.func))).map (fun e => e.seq)).eraseDups.length
/-- A frame on a port that is UP, for the command that names its FUNC (R535 to R538): dropped and counted, or accepted, its credits
taken and `eff` done; `fmt` is what else its form must satisfy. -/
@[noinline] def State.cvnIn (s : State) (p want : Nat) (b : Bytes) (fmt : Bool) (eff : State → State) : State :=
  let l := s.link p
  if 2 ≤ fFunc b ∧ fFunc b ≤ 7 ∧ fFunc b ≠ want then s
  else if !lenOk b then s.dropFrame 0
  else if !s.tagGood p b then s.tagFail p
  else
    let s := s.modLink p (fun l => { l with tagFails := 0 })
    if Bytes.num b 0x18 8 ≤ l.rxSeq then s.dropFrame 1
    else if !headOk l.ver b || decide (fFunc b ≠ want) || !bodyOk b || !fmt then s.dropFrame 2
    else if want ≠ 7 ∧ (l.rxFree ≤ l.owed ∨ (bulky want ∧ 12 ≤ s.bulkIn p)) then s.dropFrame 3
    else
      let s := s.modLink p (fun l =>
        { l with rxSeq := Bytes.num b 0x18 8, frames := satInc l.frames, tx := min 16 (l.tx + Bytes.num b 0xE 2),
                 rxFree := (if want = 7 then l.rxFree else l.rxFree - 1), peer := (if want = 7 then fSrc b else l.peer) })
      eff (s.drain p)

/-- A HELLO frame during the handshake (R532, R536, R537): before keys exist its tag is zeros and its LINK_SEQ 0. -/
@[noinline] def State.helloRx (s : State) (p : Nat) (b : Bytes) : State :=
  let l := s.link p
  if l.st = .up then s.cvnIn p 0 b false (fun s => s)
  else if l.st ≠ .handshake then s
  else if !lenOk b then s.dropFrame 0
  else if l.t ≠ [] ∨ fFunc b ≠ 0 ∨ !headResv b ∨ !bodyOk b then s.dropFrame 2
  else if !allZero (b.drop (b.length - 32)) ∨ Bytes.num b 0x18 8 ≠ 0 then s.tagFail p
  else if p = 0 then s.helloChild p b else s.helloParent p b
/-- CVN_HELLO_RX (R532). -/
def execCvnHelloRx (p : Fin 3) (f : HelloFrame) (s : State) : Res := .next (s.helloRx p.val f.bytes)

/-- CONFIRM is checked (R532 step 5): the port becomes UP with 16 credits, and LINK_UP is counted; the link latency is measured. -/
@[noinline] def State.confirmed1 (s : State) (p lat : Nat) (b : Bytes) : State :=
  if fBody b ≠ kmac256 (s.recvKey p) (s.link p).t 32 (ascii "MX-CVNC") then s.linkFail p 3
  else (s.modLink p (fun l => { l with st := .up, tx := 16, rxFree := 16, owed := 0, rxSeq := 1, tagFails := 0, lat := min 65535 lat, peer := fSrc b, frames := satInc l.frames })).count (evCvn 0)
/-- A CONFIRM frame (R532, R536, R537). -/
@[noinline] def State.confirmRx (s : State) (p lat : Nat) (b : Bytes) : State :=
  let l := s.link p
  if l.st = .up then s.cvnIn p 1 b false (fun s => s)
  else if l.st ≠ .handshake ∨ l.t = [] then s
  else if !lenOk b then s.dropFrame 0
  else if !s.tagGood p b then s.tagFail p
  else if Bytes.num b 0x18 8 ≠ 1 then s.dropFrame 1
  else if !headOk l.ver b ∨ fFunc b ≠ 1 ∨ !bodyOk b then s.dropFrame 2
  else s.confirmed1 p lat b
/-- CVN_CONFIRM_RX (R532). -/
def execCvnConfirmRx (p : Fin 3) (f : CvnFrame) (s : State) : Res := .next (s.confirmRx p.val f.lat f.bytes)
/-- CVN_HANDSHAKE_TIMEOUT (R534): 10 ms from block lock. -/
def execCvnHandshakeTimeout (p : Fin 3) (s : State) : Res :=
  .next (if (s.link p.val).st == .handshake && decide ((s.link p.val).lockAt + 10000 ≤ s.clk) then s.linkFail p.val 5 else s)
/-- RESTART of one port (R534): the handshake begins again where both lanes hold block lock; without it a FAILED port seeks block lock. -/
@[noinline] def State.linkRestart (s : State) (p : Nat) : State :=
  if !s.linkOn p then s
  else if (s.link p).lock then (s.linkLeave p .locking 0).handshake p
  else if (s.link p).st = .failed then s.linkLeave p .locking 0 else s
/-- CVN_PORT_RESTART (R534). -/
def execCvnPortRestart (m : Master) (v : Word) (s : State) : Res :=
  .next (s.guarded m (aCvn 1 0x70) (fun s => (List.range 3).foldl (fun s p => if Word.bit v p then s.linkRestart p else s) s))
/-- CVN_PORT_DOWN (R531): the link of a port is lost; a FAILED port stays FAILED (R534). -/
def execCvnPortDown (p : Fin 3) (s : State) : Res :=
  .next (let s := s.modLink p.val (fun l => { l with lock := false })
    if (s.link p.val).st == .failed then s else s.linkLeave p.val .down 0)
/-- CVN_CREDIT_RX (R538). -/
def execCvnCreditRx (p : Fin 3) (f : CvnFrame) (s : State) : Res :=
  .next (if s.cvnUp p.val then s.cvnIn p.val 7 f.bytes true (fun s => s) else s)
/-- CVN_CREDIT_SEND (R538): credits are owed and no frame is due; a frame that waits without a credit is none that could carry them. -/
def execCvnCreditSend (p : Fin 3) (s : State) : Res :=
  .next (if s.cvnUp p.val && decide (0 < (s.link p.val).owed) && !(s.link p.val).waiting.any (mayXmit (s.link p.val).tx)
    then s.xmit p.val (cvnOut 7 s.cvn.addr 0 []) else s)

/-! ### The walk -/

/-- Where a walk frame goes from here (R530): the port and the RETURN flag it carries on; none at the end of the walk. `pin` is the
port it came in on, none at the root that starts it. -/
def State.walkNext (s : State) (pin : Option Nat) (ret : Bool) : Option (Nat × Bool) :=
  let back := if s.cvnRoot then none else some (0, true)
  let down := if s.cvnUp 1 then some (1, if pin = some 2 then false else ret) else back
  match pin with
  | some 0 => if s.cvnRoot then none else if s.cvnUp 2 then some (2, ret) else down
  | some 2 => down
  | some _ => back
  | none => if s.cvnUp 2 then some (2, ret) else down
/-- FLAGS with RETURN as given. -/
def setRet (flags : Nat) (ret : Bool) : Nat := flags / 2 * 2 + ret.toNat
/-- A frame received, as it is sent on, holding its receive slot (R538). -/
def fwdOf (p : Nat) (b : Bytes) : CvnOut :=
  { func := fFunc b, src := fSrc b, dst := fDst b, epoch := fEpoch b, flags := fFlags b, frag := Bytes.num b 0xD 1,
    pos := Bytes.slice b 0x10 8, body := fBody b, held := some p, seq := Bytes.num b 0x18 8 }

/-! ### Training -/

/-- H and MAX_HOPS are compared anew (R548). -/
@[noinline] def State.cvnBound (s : State) : State :=
  let mx := min 65535 (s.fldOf (aCvn 2 0x40) 7 0 * s.cis.period / 1000)
  s.modCvn (fun c => { c with maxHops := mx, boundShort := decide (mx < c.hops) })
/-- The TRAIN body (R539). -/
def trainBody (next unaddr hops : Nat) : Bytes := leBytes 2 next ++ leBytes 2 unaddr ++ leBytes 2 hops ++ zeros 2
/-- TRAIN ends at the root (R539): NODES, UNADDR, HOPS and TOPO. -/
@[noinline] def State.trainEnd (s : State) (next unaddr hops : Nat) (ring : Bool) : State :=
  (s.modCvn (fun c => { c with trained := true, nodes := min (next - 1) 4095, unaddr := unaddr, hops := hops, topo := if ring then 1 else 2 })).cvnBound
/-- PEER of a port on which TRAIN goes out (R539, R558): the child takes NEXT as its address. DESIGN CHOICE (log 46): below the root the partner
on DOWN may be the root, at which a ring closes; which of the two it is no frame says, and it is free until the frame comes back. -/
@[noinline] def State.peerOut (s : State) (q next : Nat) : State :=
  let n := if next ≤ 0xFFF then next else 0
  if q = 0 then s
  else if q = 1 ∧ !s.cvnRoot then
    (s.modLink q (fun l => { l with peer := if Word.bit (Config.freeWord s.freeCtr) 0 then n else 1 })).freed
  else s.modLink q (fun l => { l with peer := n })
/-- PEER of DOWN once TRAIN has come back on it: no ring closes there, and the child took the address after this node's own and its branch's. -/
@[noinline] def State.peerBack (s : State) : State :=
  let n := max s.cvn.addr s.cvn.branchLast + 1
  s.modLink 1 (fun l => { l with peer := if s.cvn.addr = 0 ∨ 0xFFF < n then 0 else n })
/-- TRAIN goes on, one traversal further; a child reached for the first time takes NEXT as its address. -/
@[noinline] def State.trainSend (s : State) (pin : Option Nat) (src next unaddr hops flags : Nat) (held : Option Nat) : State :=
  match s.walkNext pin (flags % 2 == 1) with
  | none => (s.trainEnd next unaddr hops (pin == some 0)).slotFree held
  | some (q, ret) =>
    let s := s.peerOut q next
    s.give q { cvnOut 2 src 0 (trainBody next unaddr (min 65535 (hops + 1))) with flags := setRet flags ret, held := held }
/-- The effect of CVN_CMD.TRAIN (R531, R539). DESIGN CHOICE (log 122): a command of CVN_CMD that sends is refused as STATE while CVN does not
work. -/
@[noinline] def State.train (s : State) (m : Master) : State :=
  s.when m (aCvn 0 0x48) (s.cvnOn && s.cvnRoot && s.cvn.sweep != 1) (fun s =>
    (s.modCvn (fun c => { c with addr := 1, branchLast := 0 })).cvnBound.trainSend none 1 2 0 0 0 none)
/-- CVN_TRAIN (R539). -/
def execCvnTrain (m : Master) (s : State) : Res := .next (s.guarded m (aCvn 0 0x48) (fun s => s.train m))
/-- A TRAIN frame came in on UP (R539, R545): where every traversal so far gave an address (HOPS is NEXT − 1, no branch and no unaddressed node
behind it) the partner holds NEXT − 1; else how the node learns its address is not stated, and it is free. -/
@[noinline] def State.trainPeer (s : State) (next hops : Nat) : State :=
  if hops + 1 = next then s.modLink 0 (fun l => { l with peer := next - 1 })
  else (s.modLink 0 (fun l => { l with peer := (Config.freeWord s.freeCtr).toNat % 4096 })).freed
/-- A node takes its address from a TRAIN frame that reaches it first, on UP (R539). -/
@[noinline] def State.trainTake (s : State) (next unaddr : Nat) : State × Nat × Nat :=
  let s := s.modCvn (fun c => { c with branchLast := 0 })
  if next ≤ 0xFFF then ((s.modCvn (fun c => { c with addr := next, trained := true })).count (evCvn 2), next + 1, unaddr)
  else ((s.modCvn (fun c => { c with addr := 0, trained := false })).count (evCvn 3), next, min 65535 (unaddr + 1))
/-- A TRAIN frame (R539). -/
@[noinline] def State.trainRx (s : State) (p : Nat) (b : Bytes) : State :=
  let x := fBody b
  let s := if p = 0 then s.trainPeer (Bytes.num x 0 2) (Bytes.num x 4 2) else if p = 1 then s.peerBack else s
  let s := if p = 2 then s.modCvn (fun c => { c with branchLast := Bytes.num x 0 2 - 1 }) else s
  let r := if p = 0 && !s.cvnRoot then s.trainTake (Bytes.num x 0 2) (Bytes.num x 2 2) else (s, Bytes.num x 0 2, Bytes.num x 2 2)
  r.1.trainSend (some p) (fSrc b) r.2.1 r.2.2 (Bytes.num x 4 2) (fFlags b) (some p)
/-- CVN_TRAIN_RX (R539). -/
def execCvnTrainRx (p : Fin 3) (f : CvnFrame) (s : State) : Res :=
  .next (if s.cvnUp p.val then s.cvnIn p.val 2 f.bytes true (fun s => s.trainRx p.val f.bytes) else s)

/-! ### Time -/

/-- A TIME frame leaves along the walk from the root (R552). -/
@[noinline] def State.timeSend (s : State) : State :=
  match s.walkNext none false with
  | some (q, ret) => s.give q { cvnOut 5 s.cvn.addr 0 [] with epoch := s.cvn.epoch.toNat, flags := ret.toNat }
  | none => s
/-- LU 0 of a half-cycle has just been reached, to the microsecond of the model's clock, and its TIME frame has not been sent. -/
def State.timeDue (s : State) : Bool := decide (s.cis.ph ≤ s.cis.rate) && s.cvn.timeHc != some s.cis.hc
/-- CVN_TIME_SEND (R552): at LU 0 of a half-cycle while TIME_HC is set, once. -/
def execCvnTimeSend (s : State) : Res :=
  .next (if s.cvnOn && s.cvnRoot && s.bitOf (aCvn 0 0x40) 2 && s.timeDue then
    (s.modCvn (fun c => { c with timeHc := some s.cis.hc })).timeSend else s)
/-- The latency of a port in LU, at this node's LINE_PERIOD (R553). -/
def State.latLu (s : State) (p : Nat) : Nat := (s.link p).lat * 65536 / (10 * max 1 s.cis.period)
/-- The position that a TIME frame says it is now, in LU (R553). -/
def State.timeAt (s : State) (p : Nat) (b : Bytes) : Nat := Bytes.num b 0x10 4 * 65536 + Bytes.num b 0x14 2 + s.latLu p
/-- The TIME check (R553): ERR, CHECKS, and TIME_SKEW beyond TIME_TOL. -/
@[noinline] def State.timeCheck (s : State) (p : Nat) (b : Bytes) : State :=
  let err := signed 48 (unsigned 48 ((s.rackPos : Int) - s.timeAt p b))
  let s := s.modCvn (fun c => { c with timeErr := clampInt (-32767) 32767 err, timeChecks := min 65535 (c.timeChecks + 1) })
  if s.fldOf (aCvn 3 0x40) 15 0 < err.natAbs then (s.modCvn (fun c => { c with timeSkew := some (fEpoch b) })).count (evCvn 8) else s
/-- The calibration ends (R554): mean, OFFSET, spread, and CAL_DONE. -/
@[noinline] def State.calEnd (s : State) : State :=
  let d := s.cvn.calD
  let mean := d.foldl (· + ·) 0 / 16
  let hc := (mean + 32768) / 65536
  let hi := d.foldl max (d.headD 0)
  let lo := d.foldl min (d.headD 0)
  let spread := (hi - lo).toNat
  (s.modCvn (fun c => { c with calN := 0, calD := [], calHc := unsigned 32 hc, calOff := mean - hc * 65536,
                               calSpread := min 4095 spread, calSt := if spread ≤ 256 then 2 else 3 })).count (evCvn 9)
/-- One TIME frame on UP of a running calibration (R554): own position less the sender's, with OFFSET 0. -/
@[noinline] def State.calStep (s : State) (b : Bytes) : State :=
  if s.cvn.calN = 0 then s
  else
    let d := signed 48 (unsigned 48 (((s.cis.hc * 65536 + s.cis.lu : Nat) : Int) - s.timeAt 0 b))
    let s := s.modCvn (fun c => { c with calN := c.calN - 1, calD := c.calD ++ [d] })
    if s.cvn.calN = 0 then s.calEnd else s
/-- A walk frame goes on, or its slot is free at the walk's end. -/
@[noinline] def State.walkOn (s : State) (p : Nat) (e : CvnOut) : State :=
  match s.walkNext (some p) (e.flags % 2 == 1) with
  | some (q, ret) => s.give q { e with flags := setRet e.flags ret }
  | none => s.slotFree e.held
/-- A TIME frame (R552 to R554). -/
@[noinline] def State.timeRx (s : State) (p : Nat) (b : Bytes) : State :=
  let s := if p = 0 then (s.timeCheck p b).calStep b else s.timeCheck p b
  s.walkOn p (fwdOf p b)
/-- CVN_TIME_RX (R553). -/
def execCvnTimeRx (p : Fin 3) (f : CvnFrame) (s : State) : Res :=
  .next (if s.cvnUp p.val then s.cvnIn p.val 5 f.bytes true (fun s => s.timeRx p.val f.bytes) else s)
/-- The effect of TIME_CAL (R531, R554): none while CVN does not work. -/
@[noinline] def State.timeCal (s : State) : State := if s.cvnOn then s.modCvn (fun c => { c with calN := 16, calD := [], calSt := 1 }) else s
/-- CVN_TIME_CAL (R554). -/
def execCvnTimeCal (m : Master) (s : State) : Res := .next (s.guarded m (aCvn 3 0x50) (fun s => s.timeCal))

end Sys2Proof.Machine
end

