-- ==== Sys2Proof/Machine/Harts.lean ====
section
/-! DEFINITION. Harts: reset, parking, gating and waking, access faults, lockstep, the job rings' control, debug halts and the
JTAG data channel; resets of the I3C agent and of JTAG (R501 to R513, R669, R74). -/
namespace Sys2Proof.Machine

/-- Address of a register of the page of hart `h`. -/
def aHart (h off : Nat) : Nat := pg (0x30 + h) off
/-- Address of a register of the HART debug page. -/
def aDbg (off : Nat) : Nat := pg 0x35 off
/-- Master ID of hart `h`. -/
def hartMaster (h : Nat) : Master := BitVec.ofNat 8 h
/-- A hart reset (R507): ring DISABLED with no completion written, jobs, semaphores and channels as for any master's reset,
then it runs from the runtime entry; LAST is 1 CTRL, 2 LOCKSTEP, 3 DEBUG. -/
@[noinline] def State.hartReset (s : State) (h why : Nat) : State :=
  let s := (s.setQueue (64 + h) Queue.reset).masterReset (hartMaster h)
  let x := s.hart h
  s.setHart h { Hart.reset h with st := .run, inRom := false, entry := x.entry, resets := min 65535 (x.resets + 1), lastReset := why, wakes := x.wakes }
/-- The effect of HART_CTRL.RESET (R507). -/
@[noinline] def State.hartCtrlReset (s : State) (m : Master) (h : Nat) : State :=
  s.when m (aHart h 0x44) (h != 0 && s.boot.rtReleased) (fun s => s.hartReset h 1)
/-- HART_RESET (R507). -/
def execHartReset (m : Master) (h : Fin 5) (s : State) : Res := .next (s.guarded m (aHart h.val 0x44) (fun s => s.hartCtrlReset m h.val))
/-- The effect of HART_CTRL.WAKE (R505): hart 0's WAKE resumes a parked hart; a WAKE of another master is no resume condition. -/
@[noinline] def State.hartWake (s : State) (m : Master) (h : Nat) : State := if m = 0 then s.resume h 3 else s
/-- HART_WAKE (R505). -/
def execHartWake (m : Master) (h : Fin 5) (s : State) : Res :=
  .next (s.guarded m (aHart h.val 0x44) (fun s => s.hartWake m h.val))
/-- An enabled interrupt is pending (R504). -/
def State.hartPending (s : State) (h : Nat) : Bool :=
  (Word.bit (s.hart h).mie 11 && s.hline h) || (Word.bit (s.hart h).mie 16 && s.ringi h) || (Word.bit (s.hart h).mie 17 && s.mbxi h)
/-- HART_WFI (R505): the hart parks with the masks it holds, unless the runtime runs and an enabled interrupt is pending. -/
def execHartWfi (h : Fin 5) (mie rx tx : Word) (s : State) : Res :=
  .next (if !s.runs h.val then s
    else
      let s := s.setHart h.val { s.hart h.val with mie := mie &&& 0x30800, mxmbxrx := rx, mxmbxtx := tx }
      if s.boot.rtReleased && s.hartPending h.val then s
      else s.setHart h.val { s.hart h.val with st := .parked, parkedAt := s.clk })
/-- HART_GATE (R506): a service hart parked for 100 µs with GATE set. -/
def execHartGate (h : Fin 5) (s : State) : Res :=
  .next (let x := s.hart h.val
    if h.val ≠ 0 ∧ x.st = .parked ∧ s.bitOf (aHart h.val 0x48) 0 ∧ x.parkedAt + 100 ≤ s.clk then s.setHart h.val { x with st := .gated } else s)

/-- KIND of an access fault (R510). -/
def busErrCode (k : BusErr) : Nat := match k with | .misaligned => 1 | .unmapped => 2 | .denied => 3 | .ue => 4
/-- Change the harts' shared state. -/
@[noinline] def State.modHarts (s : State) (f : HartsState → HartsState) : State := { s with harts := f s.harts }
/-- Cause of an access fault (R503). -/
def accCause (a : AccKind) : Nat := match a with | .fetch => 1 | .load => 5 | .store => 7
/-- An access fault of a hart (R503): BUSERR registers, BUS_ERR, SRAM_UE for an uncorrectable error, a TRAP record with the cause, whose
minstret the program decides (R624), and the exception with its cause and mtval. -/
@[noinline] def State.busFault (s : State) (h addr : Nat) (k : BusErr) (a : AccKind) : State :=
  let s := s.modHarts (fun x => { x with busAddr := wd addr, busInfo := wd h ||| fld (busErrCode k) 4 })
  let s := s.count (evHart h)
  let s := if k = .ue then s.count (evSys 8) else s
  let s := (s.flight 0x0D (hartMaster h) (leBytes 8 (accCause a) ++ Config.freeBytes s.freeCtr 8)).freed
  s.out (.hartTrap h (accCause a) addr)
/-- HART_ACCESS_FAULT (R503). -/
def execHartAccessFault (h : Fin 5) (addr : Nat) (fault : HartFault) (s : State) : Res :=
  .next (if s.runs h.val then s.busFault h.val addr fault.kind fault.acc else s)

/-- A lockstep mismatch of hart 0 (R111, R508): the ROM halts; the first after release resets hart 0, a later one stops it and
holds every master until reset. -/
@[noinline] def State.lockstep (s : State) : State :=
  let s := s.modHarts (fun x => { x with mismatches := min 15 (x.mismatches + 1) })
  if !s.boot.rtReleased then s.haltRom 0x0C
  else if s.harts.lsResets = 0 then
    ((s.count (evHart 5)).hartReset 0 2).modHarts (fun x => { x with lsResets := 1 })
  else
    ((s.setHart 0 { s.hart 0 with st := .stopped }).forceAll).modHarts (fun x => { x with unforceLocked := true })
/-- LOCKSTEP_MISMATCH (R508). -/
def execLockstepMismatch (s : State) : Res :=
  .next (if (s.hart 0).st == .stopped || s.boot.halted || !s.coreUp then s else s.lockstep)

/-! ### Job rings -/

/-- Both rings of a hart lie in data RAM (R513). -/
def State.ringOk (s : State) (h : Nat) : Bool :=
  let q := 64 + h
  let inRam (a n : Nat) : Bool := decide (0x10400000 ≤ a) && decide (a + n ≤ 0x10470000)
  s.qSizeOk q && inRam (s.sqBase q) (64 * s.qSize q) && inRam (s.cqBase q) (32 * s.qSize q)
/-- RING_ENABLE (R456, R513). -/
def execRingEnable (m : Master) (h : Fin 5) (s : State) : Res :=
  .next (s.guarded m (aHart h.val 0x5C) (fun s => s.qEnable m (aHart h.val 0x5C) (64 + h.val) (s.ringOk h.val)))
/-- RING_DISABLE (R456, R513). -/
def execRingDisable (m : Master) (h : Fin 5) (s : State) : Res :=
  .next (s.guarded m (aHart h.val 0x5C) (fun s => s.qDisable m (aHart h.val 0x5C) (64 + h.val)))
/-- A write of mxrtail (R457, R513): a refusal shows in RING_ERR. -/
@[noinline] def State.ringTail (s : State) (q : Nat) (v : Word) : State :=
  let t := Word.field v 11 0
  if (s.queue q).st ≠ .enabled ∨ s.qSize q ≤ t then s.qNote q 1 else s.setQueue q { s.queue q with sqTail := t }
/-- RING_DOORBELL (R513): the hart that runs writes its own CSR. -/
def execRingDoorbell (h : Fin 5) (v : Word) (s : State) : Res :=
  .next (if s.runs h.val then s.ringTail (64 + h.val) v else s)
/-- A write of mxcqhead (R457, R513). -/
@[noinline] def State.ringHead (s : State) (q : Nat) (v : Word) : State :=
  let h := Word.field v 11 0
  if s.qSize q ≤ h ∨ s.cqUsed q < ringDist (s.qSize q) (s.queue q).cqHead h then s.qNote q 2
  else s.setQueue q { s.queue q with cqHead := h }
/-- RING_CQ_HEAD (R513). -/
def execRingCqHead (h : Fin 5) (v : Word) (s : State) : Res :=
  .next (if s.runs h.val then s.ringHead (64 + h.val) v else s)

/-! ### Debug -/

/-- The rights in force allow the debug of hart `h` (R359, R511). -/
def State.dbgMay (s : State) (h : Nat) : Bool := s.right (if h = 0 then 8 else 0)
/-- One hart is halted (R364, R511). -/
@[noinline] def State.dbgHalt1 (s : State) (h : Nat) : State :=
  let x := s.hart h
  if x.st = .halted ∨ x.st = .stopped then s
  else
    let s := s.setHart h { x with st := .halted, haltedFrom := x.st }
    let s := if h = 0 then { s with lcf := { s.lcf with dbgHalted := true } } else s
    s.count (evHart 7)
/-- The harts that a field of DBG_CTRL names. -/
def dbgBits (v : Word) (lo : Nat) : List Nat := (List.range 5).filter (fun h => Word.bit v (lo + h))
/-- DBG_CTRL acts on the harts whose bits the rights allow; any other bit written as 1, reserved ones among them, is recorded as STATE (R511). -/
@[noinline] def State.dbgCtrl (s : State) (m : Master) (v : Word) (lo : Nat) (f : State → Nat → State) : State :=
  let s := ((dbgBits v lo).filter s.dbgMay).foldl f s
  if v &&& ~~~0x1F1F ≠ 0 ∨ (dbgBits v 0 ++ dbgBits v 8).any (fun h => !s.dbgMay h) then s.refuse m (aDbg 0x44) else s
/-- DBG_HALT (R511): the HALT bits of a DBG_CTRL write. -/
def execDbgHalt (m : Master) (v : Word) (s : State) : Res :=
  .next (s.guarded m (aDbg 0x44) (fun s => s.dbgCtrl m v 0 State.dbgHalt1))
/-- One halted hart goes on; a hart that was parked resumes with WAKE_CAUSE DEBUG (R509). -/
@[noinline] def State.dbgResume1 (s : State) (h : Nat) : State :=
  let x := s.hart h
  if x.st ≠ .halted then s
  else if x.haltedFrom = .parked ∨ x.haltedFrom = .gated then s.setHart h { x with st := .run, wakeCause := 4, wakes := satInc x.wakes }
  else s.setHart h { x with st := x.haltedFrom, wakeCause := 4 }
/-- DBG_RESUME (R511): the RESUME bits of a DBG_CTRL write. -/
def execDbgResume (m : Master) (v : Word) (s : State) : Res :=
  .next (s.guarded m (aDbg 0x44) (fun s => s.dbgCtrl m v 8 State.dbgResume1))

/-- The effect of a JDC_TX write (R512). -/
@[noinline] def State.jdcTxWrite (s : State) (m : Master) (v : Word) : State :=
  s.when m (aDbg 0x48) (!s.harts.txFull) (fun s => s.modHarts (fun x => { x with jdcTx := v, txFull := true }))
/-- JDC_TX_WRITE (R512). -/
def execJdcTxWrite (m : Master) (v : Word) (s : State) : Res := .next (s.guarded m (aDbg 0x48) (fun s => s.jdcTxWrite m v))
/-- The effect of a JDC_RX write (R512). -/
@[noinline] def State.jdcRxWrite (s : State) (m : Master) (v : Word) : State :=
  s.when m (aDbg 0x4C) (!s.harts.rxFull) (fun s => s.modHarts (fun x => { x with jdcRx := v, rxFull := true }))
/-- JDC_RX_WRITE (R512). -/
def execJdcRxWrite (m : Master) (v : Word) (s : State) : Res := .next (s.guarded m (aDbg 0x4C) (fun s => s.jdcRxWrite m v))
/-- A read of JDC_TX by JTAG clears TX_FULL (R512). -/
@[noinline] def State.jdcTxStep (s : State) (m : Master) : State :=
  if m = jtag then s.modHarts (fun x => { x with txFull := false }) else s
/-- A read of JDC_RX by hart 0 clears RX_FULL (R512). -/
@[noinline] def State.jdcRxStep (s : State) (m : Master) : State :=
  if m = 0 then s.modHarts (fun x => { x with rxFull := false }) else s

/-- I3C_AGENT_RESET (R74, R139, R301, R499, R525). -/
def execI3cAgentReset (s : State) : Res := .next (((s.masterReset 0x20).cmdReset true).stageReset 0x20)
/-- JTAG_CONNECT (R669): TRST_N is released. -/
def execJtagConnect (s : State) : Res := .next (s.modHarts (fun x => { x with attached := true }))
/-- JTAG_DISCONNECT (R74, R139, R525, R669): TRST_N goes low. -/
def execJtagDisconnect (s : State) : Res :=
  .next (((s.modHarts (fun x => { x with attached := false })).masterReset jtag).stageReset jtag)

end Sys2Proof.Machine
end

