-- ==== Sys2Proof/Machine/Sweep.lean ====
section
/-! DEFINITION. Caravan sweeps, notices and recovery requests (R540 to R551, R555, R561). -/
namespace Sys2Proof.Machine

/-! ### Sweeps -/

/-- The fields of a SWEEP body (R542). -/
structure SweepBody where
  count : Nat
  policy : Nat
  floor : Nat
  fold : Bytes
  last : Bytes
  exc : List Word
  deriving DecidableEq, Repr
/-- A SWEEP body as bytes (R542). -/
def SweepBody.bytes (x : SweepBody) : Bytes :=
  leBytes 2 x.count ++ leBytes 2 x.exc.length ++ leBytes 2 x.policy ++ leBytes 2 x.floor ++ Bytes.fit x.fold 48 ++ Bytes.fit x.last 64 ++
  wordsBytes x.exc
/-- The body that bytes spell. -/
def sweepOf (b : Bytes) : SweepBody :=
  { count := Bytes.num b 0 2, policy := Bytes.num b 4 2, floor := Bytes.num b 6 2, fold := Bytes.slice b 8 48,
    last := Bytes.slice b 0x38 64, exc := (List.range (Bytes.num b 2 2)).map (fun i => wd (Bytes.num b (0x78 + 4 * i) 4)) }
/-- SECURITY_VERSION of the released runtime. -/
def State.rtSvn (s : State) : Nat := if s.boot.rtReleased then manSecVersion s.boot.rtMan else 0
/-- Bit n: port n is contained. -/
def State.containedBits (s : State) : Nat := ((List.range 16).filter (fun p => (s.port p).contained)).foldl (fun a p => a + 2 ^ p) 0
/-- Some guarded class runs substituted. -/
def State.substAny (s : State) : Bool := (List.range 16).any (fun p => (s.port p).subst.any (fun x => x.2))
/-- NOTICE_SEQ register. -/
def State.noticeSeq (s : State) : Nat := (s.reg (aCvn 3 0x6C)).toNat
/-- The record of this node for an epoch (R543). -/
def State.nodeRec (s : State) (epoch : Nat) : Bytes :=
  let st := s.cvn.noticeRefused.toNat + 2 * s.substAny.toNat + 4 * (s.cvn.timeSkew == some epoch).toNat
  leBytes 2 s.cvn.addr ++ s.lc ++ leBytes 1 st ++ leBytes 2 s.rtSvn ++ leBytes 2 s.containedBits ++ s.unitId ++ leBytes 4 s.noticeSeq ++
  leBytes 4 epoch ++ leBytes 6 s.lineStamp ++ zeros 2 ++
  (sha384 ((List.range 64).flatMap (fun i => Bytes.fit (s.mslot i).value 48))).take 32
/-- REASON of a check of a record (R545), by the node that checks: the partner on the port that the frame came in on. -/
def State.sweepReason (s : State) (p epoch : Nat) (x : SweepBody) : Nat :=
  let r := x.last
  let bit (i : Nat) (b : Bool) : Nat := if b then 2 ^ i else 0
  let on (i : Nat) : Bool := x.policy.testBit i
  bit 0 (Bytes.num r 0 2 != (s.link p).peer || Bytes.num r 0x14 4 != epoch) +
  bit 1 (on 0 && Bytes.slice r 2 1 != s.lc) +
  bit 2 (on 1 && decide (Bytes.num r 4 2 < x.floor)) +
  bit 3 (on 2 && Bytes.num r 6 2 != 0) +
  bit 4 (on 3 && Bytes.num r 0x10 4 != s.noticeSeq) +
  bit 5 (on 4 && Bytes.num r 3 1 / 4 % 2 == 1)
/-- A check of LAST_REC (R545): at most one entry, and OVERFLOW beyond 466. -/
def State.sweepCheck (s : State) (p epoch : Nat) (x : SweepBody) (flags : Nat) : SweepBody × Nat :=
  let why := s.sweepReason p epoch x
  if why = 0 then (x, flags)
  else if 466 ≤ x.exc.length then (x, if flags.testBit 3 then flags else flags + 8)
  else ({ x with exc := x.exc ++ [wd (Bytes.num x.last 0 2 % 4096) ||| fld why 12 ||| fld s.cvn.addr 20] }, flags)
/-- Set a flag bit. -/
def flagOn (flags i : Nat) : Nat := if flags.testBit i then flags else flags + 2 ^ i
/-- Clear a flag bit. -/
def flagOff (flags i : Nat) : Nat := if flags.testBit i then flags - 2 ^ i else flags
/-- The countersign (R544): the node's record folded in, and kept in OWN_REC. -/
@[noinline] def State.countersign (s : State) (epoch : Nat) (x : SweepBody) : State × SweepBody :=
  let r := s.nodeRec epoch
  (s.modCvn (fun c => { c with ownRec := r, epoch := wd epoch }),
   { x with fold := sha384 (x.fold ++ r), count := x.count + 1, last := r })
/-- The end of a sweep at the root (R546): 0 COMPLETE, 1 INCOMPLETE, 2 LOST; SWEEP_DONE. -/
@[noinline] def State.sweepEnd (s : State) (res : Nat) : State :=
  (s.modCvn (fun c => { c with sweep := 2, sweepRes := res })).count (evCvn 4)
/-- A SWEEP frame at the end of its walk (R546). -/
@[noinline] def State.sweepHome (s : State) (p epoch : Nat) (x : SweepBody) (flags : Nat) : State :=
  if s.cvn.sweep ≠ 1 ∨ wd epoch ≠ s.cvn.epoch then s
  else
    let y := if flags.testBit 2 then (x, flags) else s.sweepCheck p epoch x flags
    let s := s.modCvn (fun c => { c with fold := y.1.fold, count := y.1.count, exc := y.1.exc, overflow := y.2.testBit 3 })
    s.sweepEnd (if !y.2.testBit 1 && y.1.count == s.cvn.nodes then 0 else 1)
/-- A SWEEP frame of a later epoch passes through (R547). -/
@[noinline] def State.sweepPass (s : State) (epoch : Nat) : State :=
  if s.cvn.missEpoch.toNat < epoch then s.modCvn (fun c => { c with missAt := [], missEpoch := wd epoch }) else s
/-- What an addressed node does with a SWEEP frame (R544): LATE, countersign, or a check on the way back. -/
@[noinline] def State.sweepNode (s : State) (p : Nat) (b : Bytes) : State × SweepBody × Nat :=
  let x := sweepOf (fBody b)
  let fl := fFlags b
  let epoch := fEpoch b
  if fl.testBit 1 ∨ s.cvn.addr = 0 then (s, x, fl)
  else if !s.rackAhead (Bytes.num b 0x10 4) (Bytes.num b 0x14 2) then (s, x, flagOn fl 1)
  else if !fl.testBit 0 then
    let y := if fl.testBit 2 then (x, fl) else s.sweepCheck p epoch x fl
    let z := s.countersign epoch y.1
    (z.1, z.2, flagOff y.2 2)
  else if !fl.testBit 2 then
    let y := s.sweepCheck p epoch x fl
    (s, y.1, flagOn y.2 2)
  else (s, x, fl)
/-- A SWEEP frame (R544, R546). -/
@[noinline] def State.sweepRx (s : State) (p : Nat) (b : Bytes) : State :=
  let epoch := fEpoch b
  let s := s.sweepPass epoch
  if s.cvnRoot && (s.walkNext (some p) (fFlags b % 2 == 1)).isNone then
    let late := !s.rackAhead (Bytes.num b 0x10 4) (Bytes.num b 0x14 2)
    (s.sweepHome p epoch (sweepOf (fBody b)) (if late then flagOn (fFlags b) 1 else fFlags b)).slotFree (some p)
  else
    let r := s.sweepNode p b
    r.1.walkOn p { fwdOf p b with flags := r.2.2, body := r.2.1.bytes }
/-- CVN_SWEEP_RX (R544). -/
def execCvnSweepRx (p : Fin 3) (f : CvnFrame) (s : State) : Res :=
  .next (if s.cvnUp p.val then s.cvnIn p.val 3 f.bytes true (fun s => s.sweepRx p.val f.bytes) else s)

/-- Deadline in half-cycles (R559). -/
def State.deadlineHc (s : State) : Nat := s.fldOf (aCvn 2 0x40) 7 0
/-- The root starts an epoch (R542): a TIME frame, and right behind it a SWEEP frame with its own record. -/
@[noinline] def State.sweepStart (s : State) : State :=
  let s := s.cvnBound
  let hc := (s.rackPos / 65536 + s.deadlineHc) % 2 ^ 32
  let lu := s.rackPos % 65536
  let s := s.modCvn (fun c => { c with epoch := c.epoch + 1, sweep := 1, overflow := false, sweepHc := hc, sweepLu := lu })
  let s := s.timeSend
  let epoch := s.cvn.epoch.toNat
  let x : SweepBody := { count := 0, policy := s.fldOf (aCvn 2 0x40) 12 8, floor := s.fldOf (aCvn 2 0x44) 15 0, fold := zeros 48, last := [], exc := [] }
  let r := s.countersign epoch x
  match r.1.walkNext none false with
  | some (q, ret) =>
    r.1.give q
      { cvnOut 3 r.1.cvn.addr 0 r.2.bytes with
        epoch := epoch, flags := ret.toNat, pos := leBytes 4 hc ++ leBytes 2 lu ++ leBytes 2 r.1.cis.era }
  | none => r.1.sweepHome 0 epoch r.2 4
/-- A CARAVAN firing (R328, R531, R542, R547, R561): none of it while CVN does not work. -/
@[noinline] def State.cvnFire (s : State) : State :=
  if !s.cvnOn then s
  else if s.cvnRoot then
    (if s.cvn.sweep = 1 then s.cvnBound.count (evCvn 5)
     else if s.cvn.trained then s.sweepStart else s.cvnBound)
  else s.cvnBound.modCvn (fun c => { c with missAt := c.missAt ++ [((s.rackPos / 65536 + s.deadlineHc) % 2 ^ 32, s.rackPos % 65536)] })
/-- SWEEP_LOST_TIMEOUT (R546): the deadline plus a further DEADLINE_HC has been reached with no frame back. -/
def execSweepLostTimeout (s : State) : Res :=
  .next (if s.cvn.sweep == 1 && !s.rackAhead ((s.cvn.sweepHc + s.deadlineHc) % 2 ^ 32) s.cvn.sweepLu then s.sweepEnd 2 else s)
/-- SWEEP_MISSED_CHECK (R547): the oldest opening has reached its deadline. -/
def execSweepMissedCheck (s : State) : Res :=
  .next (match s.cvn.missAt with
    | (hc, lu) :: t => if !s.cvnOn || s.rackAhead hc lu then s else (s.modCvn (fun c => { c with missAt := t })).count (evCvn 5)
    | [] => s)
/-- EXC_DATA (R559): entry INDEX of the last sweep, 0 where it has none; beyond its entries the value is not stated. -/
def State.excWord (s : State) : Word :=
  if s.cvn.exc.isEmpty then 0 else s.cvn.exc.getD (s.fldOf (aCvn 2 0x54) 8 0) (Config.freeWord s.freeCtr)
/-- A read of EXC_DATA advances INDEX (R559). -/
@[noinline] def State.excStep (s : State) : State :=
  s.freed.setReg (aCvn 2 0x54) (wd ((s.fldOf (aCvn 2 0x54) 8 0 + 1) % 512))

/-! ### Notices and recovery requests -/

/-- A buffer of 8 KB lies wholly in data RAM (R502, R560). -/
def bufInRam (a : Nat) : Bool := decide (0x10400000 ≤ a ∧ a + 8192 ≤ 0x10470000)
/-- RX_BASE. -/
def State.rxBase (s : State) : Nat := (s.reg (aCvn 3 0x5C)).toNat
/-- TX_BASE. -/
def State.txBase (s : State) : Nat := (s.reg (aCvn 3 0x60)).toNat
/-- The object in the receive buffer: as memory holds it where RX_BASE names data RAM. -/
def State.rxObject (s : State) : Bytes :=
  if bufInRam s.rxBase then s.bytes s.rxBase s.cvn.rxBuf.length else s.cvn.rxBuf
/-- One fragment goes into the receive buffer (R550, R555); the last one fills it. -/
@[noinline] def State.rxStore (s : State) (p : Nat) (b : Bytes) : State :=
  let x := fBody b
  let o := if fIndex b = 0 then 0 else s.cvn.rxBuf.length
  let s := if bufInRam s.rxBase then (s.dmaRecords 0x45 (s.rxBase + o) x).setBytes (s.rxBase + o) x else s
  let fin := fIndex b == fLast b
  let s := s.modCvn (fun c =>
    { c with rxBuf := c.rxBuf.take o ++ x, rxFrag := (if fin then 0 else fIndex b + 1), rxFunc := fFunc b, rxSrc := fSrc b,
             rxDst := fDst b, rxPort := p, rxFull := fin })
  if fin then s.count (evCvn (if fFunc b = 4 then 6 else 7)) else s
/-- What becomes of a NOTICE or RECOVER frame that came in on a port (R540, R541). -/
inductive NrAct where
  | noRoute | consume | deliver
  | pass (ports : List Nat)
  deriving DecidableEq, Repr
/-- Outward ports: BRANCH and DOWN. -/
def outward : List Nat := [2, 1]
/-- Where a unicast frame goes from this node (R540); none at the node itself. -/
def State.routeTo (s : State) (dst : Nat) : Option Nat :=
  if dst = s.cvn.addr then none
  else if dst < s.cvn.addr then some 0
  else if dst ≤ s.cvn.branchLast then some 2
  else some (if s.cvnUp 1 then 1 else 0)
/-- The routing of R540 and R541, behind the discard of a NOTICE whose NOTICE_SEQ is not above the register (R550). -/
def State.nrAct (s : State) (p : Nat) (b : Bytes) : NrAct :=
  let dst := fDst b
  if fFunc b = 4 ∧ fEpoch b ≤ s.noticeSeq then .consume
  else if dst = bcast then
    (if s.cvnRoot then (if fSrc b = s.cvn.addr then .consume else .deliver)
     else if p ≠ 0 then .pass [0]
     else if s.cvn.addr = 0 then .pass outward
     else .deliver)
  else if s.cvn.addr = 0 then .noRoute
  else match s.routeTo dst with
    | none => .deliver
    | some q => if !s.cvnUp q then .noRoute else .pass [q]
/-- A delivered fragment comes in order (R537): the first one starts an object, and each later one follows the one before it. -/
def State.fragOk (s : State) (b : Bytes) : Bool :=
  fIndex b == 0 || (fIndex b == s.cvn.rxFrag && fFunc b == s.cvn.rxFunc && fSrc b == s.cvn.rxSrc)
/-- A NOTICE or RECOVER frame accepted on a port (R540, R550, R555): while FULL a delivered one waits in its slot. -/
@[noinline] def State.nrRx (s : State) (p : Nat) (b : Bytes) : State :=
  match s.nrAct p b with
  | .noRoute => s.slotFree (some p)
  | .consume => s.slotFree (some p)
  | .pass qs => s.giveAll qs (fwdOf p b)
  | .deliver => if s.cvn.rxFull then s.modLink p (fun l => { l with held := l.held ++ [b] })
    else (s.rxStore p b).slotFree (some p)
/-- Such a frame is well formed: it has a route, and if delivered it comes in order. Behind a full buffer the order is checked when
it is taken. -/
def State.nrOk (s : State) (p : Nat) (b : Bytes) : Bool :=
  match s.nrAct p b with
  | .noRoute => false
  | .deliver => s.cvn.rxFull || s.fragOk b
  | _ => true
/-- CVN_NOTICE_RX (R550). -/
def execCvnNoticeRx (p : Fin 3) (f : CvnFrame) (s : State) : Res :=
  .next (if s.cvnUp p.val then s.cvnIn p.val 4 f.bytes (s.nrOk p.val f.bytes) (fun s => s.nrRx p.val f.bytes) else s)
/-- CVN_RECOVER_RX (R555). -/
def execCvnRecoverRx (p : Fin 3) (f : CvnFrame) (s : State) : Res :=
  .next (if s.cvnUp p.val then s.cvnIn p.val 6 f.bytes (s.nrOk p.val f.bytes) (fun s => s.nrRx p.val f.bytes) else s)
/-- Frames that waited for the buffer on a port are taken until it is full again (R550). -/
@[noinline] def State.heldGo (s : State) (p fuel : Nat) : State :=
  match fuel with
  | 0 => s
  | k + 1 =>
    match (s.link p).held with
    | [] => s
    | b :: t =>
      if s.cvn.rxFull then s
      else
        let s := s.modLink p (fun l => { l with held := t })
        (if s.nrOk p b then s.nrRx p b else (s.dropFrame 2).slotFree (some p)).heldGo p k
/-- FULL is cleared, and waiting frames are taken (R550, R561). -/
@[noinline] def State.rxClear (s : State) : State :=
  let s := s.modCvn (fun c => { c with rxFull := false, rxBuf := [], rxFrag := 0 })
  (List.range 3).foldl (fun s p => s.heldGo p (s.link p).held.length) s
/-- The fragments of an object (R549, R555): 1,984 bytes each, the last with what remains. -/
def fragments (func src dst epoch : Nat) (o : Bytes) : List CvnOut :=
  let ps := chunks 1984 (o.length / 1984 + 1) o
  (List.range ps.length).map (fun i =>
    { cvnOut func src dst (ps.getD i []) with epoch := epoch, frag := i + 16 * (ps.length - 1) })
/-- Send every fragment to the given ports. -/
@[noinline] def State.sendObject (s : State) (qs : List Nat) (es : List CvnOut) : State := es.foldl (fun s e => s.giveAll qs e) s

/-- A notice verifies (R349, R551): its header, the signer of the owner life-cycle key, and both signatures. -/
def State.noticeOk (s : State) (o : Bytes) : Bool :=
  let blk := Bytes.slice o 64 7424
  o.length == 7488 && Bytes.num o 0 4 == 0x4543544E && Bytes.num o 4 2 == 1 && allZero (Bytes.slice o 0xE 50) &&
  s.signerKnown 4 && sha384 (blk.take 0xA80) == s.signerHash 4 && blockSigOk (o.take 64) blk
/-- A MIN_VERSION notice may be applied (R613): some slot of the class holds a valid image of that version or higher. -/
def State.minOk (s : State) (imgs : List ImageSeen) (cls v : Nat) : Bool :=
  imgs.any (fun x => x.cls == cls && decide (cls < 64) && s.manValid x.man cls (slotLen cls) && decide (v ≤ manSecVersion x.man))
/-- The runtime applies a verified notice (R549, R551, R613), or has NOTICE_REFUSED set in its later records. -/
@[noinline] def State.noticeApply (s : State) (imgs : List ImageSeen) (o : Bytes) : State :=
  let k := Bytes.num o 7 1
  let refused (s : State) : State := s.modCvn (fun c => { c with noticeRefused := true })
  if !s.noticeOk o then s
  else if Bytes.num o 6 1 = 1 then
    (if 15 < k then refused s
     else if s.revoked.testBit k then s
     else if !s.revokeOk imgs k then refused s
     else if s.fuseCheck 928 2 = stOk then s.fuseKey 928 (leBytes 2 (2 ^ k)) 0 else refused s)
  else if Bytes.num o 6 1 = 2 then
    (if s.minOk imgs k (Bytes.num o 0xC 2) then s.arbRaise k (Bytes.num o 0xC 2) else refused s)
  else refused s
/-- Where FORWARD sends the held object (R540, R551, R555). -/
def State.forwardTo (s : State) : List Nat :=
  if s.cvn.rxDst ≠ bcast then []
  else if s.cvnRoot && s.cvn.rxPort == 0 then []
  else outward
/-- The effect of CVN_CMD.FORWARD (R551, R555): the runtime has verified the object and applies it. -/
@[noinline] def State.forward (s : State) (imgs : List ImageSeen) : State :=
  if !s.cvn.rxFull then s
  else
    let o := s.rxObject
    let seq := Bytes.num o 8 4
    let es := fragments s.cvn.rxFunc s.cvn.rxSrc s.cvn.rxDst (if s.cvn.rxFunc = 4 then seq else 0) o
    let qs := s.forwardTo
    let s := if s.cvn.rxFunc = 4 then (s.setReg (aCvn 3 0x6C) (wd seq)).noticeApply imgs o else s
    (s.sendObject qs es).rxClear
/-- CVN_FORWARD (R551, R555). -/
def execCvnForward (m : Master) (imgs : List ImageSeen) (s : State) : Res :=
  .next (s.guarded m (aCvn 0 0x48) (fun s => s.forward imgs))
/-- The effect of CVN_CMD.DROP (R551). -/
@[noinline] def State.rxDrop (s : State) : State := if s.cvn.rxFull then s.rxClear else s
/-- CVN_DROP (R551). -/
def execCvnDrop (m : Master) (s : State) : Res := .next (s.guarded m (aCvn 0 0x48) (fun s => s.rxDrop))
/-- Where a broadcast of this node goes (R540): outward from the root, else up to the root. -/
def State.bcastTo (s : State) : List Nat := if s.cvnRoot then outward else [0]
/-- The effect of CVN_CMD.SEND_NOTICE (R551). -/
@[noinline] def State.sendNotice (s : State) (m : Master) : State :=
  let o := s.bytes s.txBase 7488
  let seq := Bytes.num o 8 4
  s.when m (aCvn 0 0x48) (s.cvnOn && bufInRam s.txBase && s.fldOf (aCvn 3 0x64) 12 0 == 7488 && decide (s.noticeSeq < seq)) (fun s =>
    (s.setReg (aCvn 3 0x6C) (wd seq)).sendObject s.bcastTo (fragments 4 s.cvn.addr bcast seq o))
/-- CVN_SEND_NOTICE (R551). -/
def execCvnSendNotice (m : Master) (s : State) : Res := .next (s.guarded m (aCvn 0 0x48) (fun s => s.sendNotice m))
/-- An object that this node sends to itself goes into its receive buffer (R540, R555). -/
@[noinline] def State.rxOwn (s : State) (dst : Nat) (o : Bytes) : State :=
  let s := if bufInRam s.rxBase then (s.dmaRecords 0x45 s.rxBase o).setBytes s.rxBase o else s
  (s.modCvn (fun c => { c with rxBuf := o, rxFunc := 6, rxSrc := c.addr, rxDst := dst, rxPort := 3, rxFull := true, rxFrag := 0 })).count (evCvn 7)
/-- A RECOVER object goes to its destination (R555): a broadcast, a node, or this node itself. -/
@[noinline] def State.sendRecover1 (s : State) (dst : Nat) (o : Bytes) : State :=
  let es := fragments 6 s.cvn.addr dst 0 o
  if dst = bcast then s.sendObject s.bcastTo es
  else match s.routeTo dst with
    | some q => if s.cvnUp q then s.sendObject [q] es else s.dropFrame 2
    | none => if s.cvn.rxFull then s else s.rxOwn dst o
/-- The effect of CVN_CMD.SEND_RECOVER (R555): an object of 8 to 4 × 1,984 bytes. -/
@[noinline] def State.sendRecover (s : State) (m : Master) : State :=
  let len := s.fldOf (aCvn 3 0x64) 12 0
  s.when m (aCvn 0 0x48) (s.cvnOn && bufInRam s.txBase && decide (8 ≤ len ∧ len ≤ 7936)) (fun s =>
    s.sendRecover1 (s.fldOf (aCvn 3 0x64) 27 16) (s.bytes s.txBase len))
/-- CVN_SEND_RECOVER (R555). -/
def execCvnSendRecover (m : Master) (s : State) : Res := .next (s.guarded m (aCvn 0 0x48) (fun s => s.sendRecover m))

end Sys2Proof.Machine
end

