-- ==== Sys2Proof/Machine/Status.lean ====
section
/-! DEFINITION. Values that several readers compute from the state: line and verification status, coverage figures (R238, R274,
R333). -/
namespace Sys2Proof.Machine

/-- VER_STATUS (R238). -/
def State.verStatus (s : State) (p : Nat) : Word :=
  let q := s.port p
  flg (s.manOk p) 0 ||| flg (s.pantryOk p) 1 ||| flg (s.fullOk p) 2 ||| flg q.contained 3 ||| flg q.scrub.run 4 ||| flg q.full.run 5
/-- Flash blocks of a region: chip select, first block and how many (R205). -/
def PortState.span (q : PortState) (r : Nat) : Nat × Nat × Nat :=
  let b := q.mapBase r (rgCs (q.rg r)) (rgCs (q.rg r))
  (b.1, b.2, rgEnd (q.rg r) + 1 - rgStart (q.rg r))
/-- The region is valid and verifies (R274). -/
def PortState.covered (q : PortState) (r : Nat) : Bool := eValid (q.rg r) && rgVerify (q.rg r) != 0
/-- COV_UNCOVERED (R246, R274). -/
def PortState.covUncovered (q : PortState) (r : Nat) : Nat :=
  let a := q.span r
  if q.covered r then ((List.range a.2.2).filter (fun k => q.uncovered (rgClass (q.rg r)) a.1 (a.2.1 + k))).length else 0
/-- COV_NEVER (R274): checkable blocks whose check-map bit is 0; a block served from a window counts only if that is not LOADED. -/
def PortState.covNever (q : PortState) (r : Nat) : Nat :=
  let a := q.span r
  if q.covered r then
    ((List.range a.2.2).filter (fun k => q.checkable (some r) a.1 (a.2.1 + k) && !q.chkBit a.1 (a.2.1 + k))).length
  else 0
/-- The six figures of a region (R274). -/
def PortState.covWords (q : PortState) (r : Nat) : List Word :=
  let c := q.covOf r
  [c.fetch, c.scrub, wd (q.covNever r), wd (q.covUncovered r), c.part, c.fail]

end Sys2Proof.Machine
end

