-- ==== Sys2Proof/Machine/Spdm.lean ====
section
/-! DEFINITION. The SPDM responder (R433 to R439). The spec names the requests, what they report, the algorithms and the signing
keys; the message layouts are those of the DMTF standard, outside the spec (PRESUMED, logs 49 and 95). What an answer carries that neither gives
is free. -/
namespace Sys2Proof.Machine

/-- Number of a message type: SPDM on DOE and on MCTP type 0x05, secured messages on DOE and on MCTP type 0x06 (R433). -/
def tNum (t : Transport) : Nat := match t with | .doe => 0 | .mctp => 1 | .doeSecured => 2 | .mctpSecured => 3
/-- The message type is MCTP's, 0x05 or 0x06. -/
def tMctp (t : Transport) : Bool := match t with | .mctp | .mctpSecured => true | .doe | .doeSecured => false
/-- The message is a record of a session. -/
def tSecured (t : Transport) : Bool := match t with | .doeSecured | .mctpSecured => true | .doe | .mctp => false
/-- Connection state of a transport (R433). -/
def State.conn (s : State) (t : Transport) : SpdmConn := if tMctp t then s.spdm.mctp else s.spdm.doe
/-- Replace it. -/
@[noinline] def State.setConn (s : State) (t : Transport) (c : SpdmConn) : State :=
  if tMctp t then { s with spdm := { s.spdm with mctp := c } } else { s with spdm := { s.spdm with doe := c } }
/-- Change it. -/
@[noinline] def State.modConn (s : State) (t : Transport) (f : SpdmConn → SpdmConn) : State := s.setConn t (f (s.conn t))

/-- Request code of a message. -/
def qCode (q : Bytes) : Nat := Bytes.num q 1 1
/-- Param1. -/
def qP1 (q : Bytes) : Nat := Bytes.num q 2 1
/-- Param2. -/
def qP2 (q : Bytes) : Nat := Bytes.num q 3 1
/-! ### Certificates -/

/-- What an alias certificate says (R431, R432). -/
structure AliasCert where
  keyType : Nat
  key : Bytes
  serial : Bytes
  notBefore : String
  notAfter : String
  fwid : Bytes
  svn : Nat
  vendor : String
  model : String
  type : Bytes
  deriving DecidableEq, Repr
/-- The serial number of a subject public key (R432): the first 16 bytes of its SHA-384, bit 127 cleared. -/
def certSerial (key : Bytes) : Bytes :=
  let h := (sha384 key).take 16
  putBit (Bytes.at h 0) 7 false :: h.drop 1
/-- The public key that a protected handle names. -/
def State.handlePub (s : State) (h : Nat) : Bytes := match s.protectedKey (wd h) with | some (t, k) => pubKey t k | none => []
/-- The alias certificate over handle 2 (ECDSA P-384) or 3 (ML-DSA-87) that the runtime makes at every boot (R431, R432). -/
def State.aliasCert (s : State) (pq : Bool) : AliasCert :=
  let key := s.handlePub (if pq then 3 else 2)
  { keyType := if pq then 8 else 6, key := key, serial := certSerial key, notBefore := "20240101000000Z", notAfter := "99991231235959Z",
    fwid := sha384 (manSigned s.boot.rtMan), svn := manSecVersion s.boot.rtMan, vendor := "Oxmuat", model := "MX-1624", type := s.lc }
/-- The certificate signed by the device identity key, handle 0 or 1 (R431), in DER. -/
def State.aliasDer (s : State) (pq : Bool) : Bytes :=
  let c := s.aliasCert pq
  let tbs := Config.derTbs [leBytes 1 c.keyType, c.key, c.serial, ascii c.notBefore, ascii c.notAfter, c.fwid, leBytes 2 c.svn,
    ascii c.vendor, ascii c.model, c.type]
  let k := match s.protectedKey (if pq then 1 else 0) with | some x => x.2 | none => []
  Config.derCert tbs (signOf c.keyType k tbs (Bytes.slice s.spdm.aliasDraw (if pq then 32 else 0) 32) false)
/-- The chain down to the identity certificate of a slot (R431, R435), over the key of handle 0 or 1: the device's, made at PROVISION, in slot 0;
the owner's, where one was made in OWNED, in slot 1. What other authorities sign is free. -/
def State.idChain (s : State) (slot : Nat) (pq : Bool) : Option Bytes :=
  let c := Config.idChain slot pq (s.handlePub (if pq then 1 else 0))
  if slot = 0 then (if s.lcf.eff = some .raw ∨ s.lcf.eff = some .test then none else some c)
  else if slot = 1 ∧ s.lcf.eff = some .owned ∧ c ≠ [] then some c
  else none
/-- The chain of a certificate slot, ending in the alias certificate (R435): none where no identity certificate was made. -/
def State.derChain (s : State) (slot : Nat) (pq : Bool) : Option Bytes := (s.idChain slot pq).map (fun c => c ++ s.aliasDer pq)
/-- A slot's chain as SPDM carries it: length, root hash, certificates. -/
def State.spdmChain (s : State) (slot : Nat) : Option Bytes :=
  (s.derChain slot false).map (fun d => leBytes 2 (d.length + 52) ++ zeros 2 ++ Config.take 48 (Config.rootHash slot) ++ d)

/-- The four header bytes of an answer: version, code, two parameters. -/
def rHead (ver code p1 p2 : Nat) : Bytes := [BitVec.ofNat 8 ver, BitVec.ofNat 8 code, BitVec.ofNat 8 p1, BitVec.ofNat 8 p2]
/-- The version byte that an answer carries: the negotiated one, or 1.2 before. -/
def SpdmConn.ver (c : SpdmConn) : Nat := if c.version = 0 then 0x12 else c.version
/-- ERROR with a code: 0x04 UnexpectedRequest, 0x05 Unspecified, 0x07 UnsupportedRequest, 0x41 VersionMismatch. -/
def rError (c : SpdmConn) (code : Nat) : Bytes := rHead c.ver 0x7F code 0

/-! ### Sessions -/

/-- HKDF-Expand of the SPDM key schedule (R434): a label of the negotiated version and a context under a secret. -/
def spdmExpand (ver : Nat) (secret : Bytes) (label : String) (ctx : Bytes) (n : Nat) : Bytes :=
  (hmac384 secret (leBytes 2 n ++ ascii (if ver = 0x13 then "spdm1.3 " else "spdm1.2 ") ++ ascii label ++ ctx ++ [1])).take n
/-- The HMAC over a transcript with the finished key of a direction's handshake secret. -/
def spdmVerify (ver : Nat) (secret th : Bytes) : Bytes := hmac384 (spdmExpand ver secret "finished" [] 48) (sha384 th)
/-- The session that a KEY_EXCHANGE begins (R434): the ECDH secret and the transcript up to the signature give the handshake secrets. -/
def spdmBegin (ver id : Nat) (dhe th : Bytes) : SpdmSession :=
  let hs := hmac384 (zeros 48) dhe
  { id := id, finished := false, keyUpdates := 0, hs := hs, th := th, req := spdmExpand ver hs "req hs data" (sha384 th) 48,
    rsp := spdmExpand ver hs "rsp hs data" (sha384 th) 48, reqSeq := 0, rspSeq := 0 }
/-- The session after FINISH: the data secrets over the whole handshake. -/
def SpdmSession.finish (x : SpdmSession) (ver : Nat) (th : Bytes) : SpdmSession :=
  let m := hmac384 (spdmExpand ver x.hs "derived" [] 48) (zeros 48)
  { x with finished := true, th := th, req := spdmExpand ver m "req app data" (sha384 th) 48, rsp := spdmExpand ver m "rsp app data" (sha384 th) 48,
           reqSeq := 0, rspSeq := 0 }
/-- The session after KEY_UPDATE of the requester's direction, or of both. -/
def SpdmSession.update (x : SpdmSession) (ver : Nat) (both : Bool) : SpdmSession :=
  let x := { x with keyUpdates := x.keyUpdates + 1, req := spdmExpand ver x.req "traffic upd" [] 48, reqSeq := 0 }
  if both then { x with rsp := spdmExpand ver x.rsp "traffic upd" [] 48, rspSeq := 0 } else x
/-- The nonce of a record: the IV with the sequence number. -/
def recNonce (ver : Nat) (secret : Bytes) (seq : Nat) : Bytes := xorBytes (spdmExpand ver secret "iv" [] 12) (leBytes 12 seq)
/-- The header of a record: session, on MCTP the sequence number, length. -/
def recHead (mctp : Bool) (id seq n : Nat) : Bytes := leBytes 4 id ++ (if mctp then leBytes 2 seq else []) ++ leBytes 2 n
/-- A message as a record of a session, sealed with AES-256-GCM (R434). -/
def recSeal (mctp : Bool) (ver : Nat) (x : SpdmSession) (a : Bytes) : Bytes :=
  let app := (if mctp then [5] else []) ++ a
  let p := leBytes 2 app.length ++ app
  let h := recHead mctp x.id x.rspSeq (p.length + 16)
  let r := gcmSeal (spdmExpand ver x.rsp "key" [] 32) (recNonce ver x.rsp x.rspSeq) h p
  h ++ r.1 ++ r.2
/-- The message of a record of a session: none where session, sequence number, length or tag is wrong. -/
def recOpen (mctp : Bool) (ver : Nat) (x : SpdmSession) (b : Bytes) : Option Bytes :=
  let o := if mctp then 8 else 6
  let h := recHead mctp x.id x.reqSeq (b.length - o)
  if b.length < o + 16 ∨ b.take o ≠ h then none
  else match gcmOpen (spdmExpand ver x.req "key" [] 32) (recNonce ver x.req x.reqSeq) h (Bytes.slice b o (b.length - o - 16)) (b.drop (b.length - 16)) with
    | none => none
    | some p => some (Bytes.slice p (if mctp then 3 else 2) (Bytes.num p 0 2 - (if mctp then 1 else 0)))
/-- The request that a message carries: itself, or what the record of a session holds. -/
def State.opened (s : State) (t : Transport) (q : Bytes) : Option Bytes :=
  if tSecured t then (s.conn t).session.bind (fun x => recOpen (tMctp t) (s.conn t).ver x q) else some q

/-- An answer under construction: the state after it, and its bytes. -/
abbrev Ans := State × Bytes
/-- An answer that joins the transcript of its connection together with its request (R433). -/
def State.logged (s : State) (t : Transport) (q r : Bytes) : Ans := (s.modConn t (fun c => { c with transcript := c.transcript ++ q ++ r }), r)
/-- A signed answer (R435, R436): the alias ECDSA key of handle 2 signs the message M, which PQ_SIG signs again later. -/
def State.signed (s : State) (t : Transport) (q r : Bytes) : Ans :=
  let m := (s.conn t).transcript ++ q ++ r
  let key := match s.protectedKey 2 with | some x => x.2 | none => []
  let sig := signOf 6 key m (s.draw 32) false
  (s.drew.modConn t (fun c => { c with lastM := some m, transcript := c.vca }), r ++ sig)

/-! ### Measurement blocks -/

/-- DMTFSpecMeasurementValueType of a slot (R437). -/
def slotKind (i : Nat) : Nat := if i = 1 then 2 else if 2 ≤ i ∧ i ≤ 15 then 3 else 1
/-- A measurement block: index, specification DMTF, size, value type, value size, value. -/
def mBlock (i kind : Nat) (v : Bytes) : Bytes :=
  leBytes 1 i ++ [1] ++ leBytes 2 (v.length + 3) ++ leBytes 1 kind ++ leBytes 2 v.length ++ v
/-- The coverage block of a port (R438). -/
def State.covBlock (s : State) (p : Nat) : Bytes :=
  let q := s.port p
  let rs := (List.range 256).filter q.covered
  leBytes 1 p ++ leBytes 1 (Word.field (s.verStatus p) 7 0) ++ leBytes 2 rs.length ++ leBytes 4 (s.reg (fp p 3 0xF4)).toNat ++
  leBytes 8 s.lineStamp ++ rs.flatMap (fun r => leBytes 1 r ++ leBytes 1 (rgVerify (q.rg r)) ++ zeros 2 ++ wordsBytes (q.covWords r))
/-- The device state block (R437). -/
def State.devBlock (s : State) : Bytes :=
  wordsBytes [s.lcReg, s.rightsReg, s.reg aStage, wd s.cmd.epoch, wd s.logCount] ++ leBytes 8 s.lineStamp ++ wordsBytes [s.lineStatus]
/-- The block of a measurement index (R437): absent where its slot is undefined or its port has EN 0. -/
def State.mIndex (s : State) (i : Nat) : Option Bytes :=
  if 1 ≤ i ∧ i ≤ 64 then
    (if i - 1 < 32 ∨ (s.mslot (i - 1)).defined then some (mBlock i (slotKind (i - 1)) (Bytes.fit (s.mslot (i - 1)).value 48)) else none)
  else if 65 ≤ i ∧ i ≤ 80 then (if s.portEn (i - 65) then some (mBlock i 0x83 (s.covBlock (i - 65))) else none)
  else if i = 81 then some (mBlock i 0x83 s.devBlock)
  else none
/-- The blocks that a request names: one index, or 0xFF for all (R437). -/
def State.mBlocks (s : State) (op : Nat) : List Bytes :=
  if op = 0xFF then ((List.range 82).map s.mIndex).filterMap (fun x => x) else if op = 0 then [] else (s.mIndex op).toList

/-! ### The requests -/

/-- GET_VERSION: versions 1.2 and 1.3 (R433); the connection starts anew, but for the message that the transport signed last (R436). -/
def State.aVersion (s : State) (t : Transport) (q : Bytes) : Ans :=
  let r := rHead 0x10 0x04 0 0 ++ [0, 2] ++ leBytes 2 0x1200 ++ leBytes 2 0x1300
  (s.setConn t { SpdmConn.reset with step := 1, transcript := q ++ r, lastM := (s.conn t).lastM }, r)
/-- GET_CAPABILITIES (R434): CTExponent, flags and sizes; the request names the version. -/
def State.aCaps (s : State) (t : Transport) (q : Bytes) : Ans :=
  let v := Bytes.num q 0 1
  if (s.conn t).step ≠ 1 then (s, rError (s.conn t) 4)
  else if v ≠ 0x12 ∧ v ≠ 0x13 then (s, rError (s.conn t) 0x41)
  else
    let size := if tMctp t then 4096 else 65536
    let r := rHead v 0x61 0 0 ++ [0, 14, 0, 0] ++ leBytes 4 0x262D6 ++ leBytes 4 size ++ leBytes 4 65536
    (s.modConn t (fun c => { c with version := v, step := 2 })).logged t q r
/-- NEGOTIATE_ALGORITHMS (R434): the one suite. -/
def State.aAlgs (s : State) (t : Transport) (q : Bytes) : Ans :=
  let c := s.conn t
  if c.step ≠ 2 then (s, rError c 4)
  else
    let r := rHead c.ver 0x63 4 0 ++ leBytes 2 52 ++ [1, 2] ++ leBytes 4 4 ++ leBytes 4 0x80 ++ leBytes 4 2 ++ zeros 12 ++ [0, 0, 0, 0] ++
      [2, 0x20] ++ leBytes 2 0x10 ++ [3, 0x20] ++ leBytes 2 2 ++ [4, 0x20] ++ leBytes 2 0 ++ [5, 0x20] ++ leBytes 2 1
    (s.modConn t (fun c => { c with step := 3, vca := c.transcript ++ q ++ r })).logged t q r
/-- A request that needs the negotiation done (R433). -/
def State.ready3 (s : State) (t : Transport) (f : Ans) : Ans := if (s.conn t).step = 3 then f else (s, rError (s.conn t) 4)
/-- GET_DIGESTS: the digests of the chains in slots 0 and 1 (R435). -/
def State.aDigests (s : State) (t : Transport) (q : Bytes) : Ans :=
  let cs := [s.spdmChain 0, s.spdmChain 1].filterMap (fun x => x)
  s.ready3 t (s.logged t q (rHead (s.conn t).ver 0x01 0 (2 ^ cs.length - 1) ++ cs.flatMap sha384))
/-- GET_CERTIFICATE: a portion of a slot's chain (R435); ERROR InvalidRequest for a slot without one or an offset beyond it. -/
def State.aCert (s : State) (t : Transport) (q : Bytes) : Ans :=
  let o := Bytes.num q 4 2
  s.ready3 t (match s.spdmChain (qP1 q % 16) with
    | none => (s, rError (s.conn t) 1)
    | some c =>
      if c.length ≤ o then (s, rError (s.conn t) 1)
      else
        let p := Bytes.slice c o (min (Bytes.num q 6 2) 4096)
        s.logged t q (rHead (s.conn t).ver 0x02 (qP1 q % 16) 0 ++ leBytes 2 p.length ++ leBytes 2 (c.length - o - p.length) ++ p))
/-- CHALLENGE: CHALLENGE_AUTH with the digest of the slot's chain, signed with handle 2 (R435). -/
def State.aChallenge (s : State) (t : Transport) (q : Bytes) : Ans :=
  s.ready3 t (s.drew.signed t q (rHead (s.conn t).ver 0x03 (qP1 q % 16) 0 ++ sha384 ((s.spdmChain (qP1 q % 16)).getD []) ++ s.draw 32 ++ sha384 ((s.mBlocks 0xFF).flatten) ++ zeros 2))
/-- GET_MEASUREMENTS (R437): the blocks named, signed if the request asks for it. -/
def State.aMeas (s : State) (t : Transport) (q : Bytes) : Ans :=
  let bs := s.mBlocks (qP2 q)
  let rec0 := bs.flatten
  let total := if qP2 q = 0 then (s.mBlocks 0xFF).length else 0
  let r := rHead (s.conn t).ver 0x60 total 0 ++ leBytes 1 bs.length ++ leBytes 3 rec0.length ++ rec0 ++ s.draw 32 ++ zeros 2
  s.ready3 t (if qP1 q % 2 = 1 then s.drew.signed t q r else s.drew.logged t q r)
/-- KEY_EXCHANGE (R434): a drawn secp384r1 key, the signed answer, and the session that the exchange begins; ERROR InvalidRequest for a malformed
peer value. The answer ends with the HMAC over the exchange. -/
def State.aKeyEx (s : State) (t : Transport) (q : Bytes) : Ans :=
  let peer := Bytes.slice q 40 96
  let c := s.conn t
  s.ready3 t (if !Config.kexPeerOk 0xE peer then (s, rError c 1)
    else
      let id := leNat (s.draw 2)
      let key := s.drew.drew.draw 48
      let chain := sha384 ((s.spdmChain (qP2 q % 16)).getD [])
      let r := rHead c.ver 0x64 0 0 ++ leBytes 2 id ++ zeros 2 ++ s.drew.draw 32 ++ pubKey 0xE key ++ sha384 ((s.mBlocks 0xFF).flatten) ++ zeros 2
      let a := s.drew.drew.drew.signed t q r
      let x := spdmBegin c.ver (Bytes.num q 4 2 + 65536 * id) (Config.take 48 (Config.kexSecretByte 0xE key peer)) (c.vca ++ chain ++ q ++ a.2)
      let v := spdmVerify c.ver x.rsp x.th
      (a.1.modConn t (fun c => { c with session := some { x with th := x.th ++ v } }), a.2 ++ v))
/-- A request inside a session: a record of it. -/
def State.inSession (s : State) (t : Transport) (f : SpdmSession → Ans) : Ans :=
  match (if tSecured t then (s.conn t).session else none) with
  | some x => f x
  | none => (s, rError (s.conn t) 4)
/-- FINISH (R434): where its HMAC verifies, the handshake ends and the data secrets follow; else ERROR DecryptError. -/
def State.aFinish (s : State) (t : Transport) (q : Bytes) : Ans :=
  s.inSession t (fun x =>
    let ver := (s.conn t).ver
    let th := x.th ++ q.take 4
    if x.finished then (s, rError (s.conn t) 4)
    else if spdmVerify ver x.req th ≠ Bytes.slice q 4 48 then (s, rError (s.conn t) 6)
    else
      let r := rHead ver 0x65 0 0
      (s.modConn t (fun c => { c with session := some (x.finish ver (th ++ Bytes.slice q 4 48 ++ r)) }), r))
/-- A request inside a finished session. -/
def State.secured (s : State) (t : Transport) (f : SpdmSession → Ans) : Ans :=
  s.inSession t (fun x => if x.finished then f x else (s, rError (s.conn t) 4))
/-- KEY_UPDATE (R434): operation 1 updates the requester's key, 2 both; 3 verifies the new key. -/
def State.aKeyUpdate (s : State) (t : Transport) (q : Bytes) : Ans :=
  s.secured t (fun x =>
    if qP1 q = 0 ∨ 3 < qP1 q then (s, rError (s.conn t) 1)
    else
      let y := if qP1 q = 3 then x else x.update (s.conn t).ver (qP1 q == 2)
      (s.modConn t (fun c => { c with session := some y }), rHead (s.conn t).ver 0x69 (qP1 q) (qP2 q)))
/-- END_SESSION: the session ends. -/
def State.aEnd (s : State) (t : Transport) (_q : Bytes) : Ans :=
  s.secured t (fun _ => (s.modConn t (fun c => { c with session := none }), rHead (s.conn t).ver 0x6C 0 0))
/-- HEARTBEAT. -/
def State.aHeartbeat (s : State) (t : Transport) (_q : Bytes) : Ans := s.secured t (fun _ => (s, rHead (s.conn t).ver 0x68 0 0))
/-- A VENDOR_DEFINED answer of the PCI-SIG registry and the device's vendor ID, with its payload (R436). -/
def rVendor (c : SpdmConn) (p : Bytes) : Bytes := rHead c.ver 0x7E 0 0 ++ leBytes 2 3 ++ [2] ++ leBytes 2 0x1F7A ++ leBytes 2 p.length ++ p
/-- Payload of a VENDOR_DEFINED request. -/
def qPayload (q : Bytes) : Bytes := q.drop (9 + Bytes.num q 6 1)
/-- PQ_SIG (R436): the ML-DSA-87 signature by handle 3 over the message of the last signed answer; STATE_FORBIDS without one. -/
def State.aPqSig (s : State) (t : Transport) (_q : Bytes) : Ans :=
  match (s.conn t).lastM with
  | none => (s, rVendor (s.conn t) [1, stStateForbids])
  | some m =>
    let key := match s.protectedKey 3 with | some x => x.2 | none => []
    (s.drew, rVendor (s.conn t) ([1, stOk] ++ signOf 8 key m (s.draw 32) false))
/-- PQ_CHAIN (R436): a range of the DER ML-DSA-87 chain from the vendor root to the alias certificate. -/
def State.aPqChain (s : State) (t : Transport) (q : Bytes) : Ans :=
  let len := Bytes.num (qPayload q) 5 2
  if 4096 < len then (s, rVendor (s.conn t) [2, stBadLength])
  else (s, rVendor (s.conn t) ([2, stOk] ++ Bytes.slice ((s.derChain 0 true).getD []) (Bytes.num (qPayload q) 1 4) len))
/-- A VENDOR_DEFINED request of the PCI-SIG registry and the device's vendor ID whose payload has a kind (R436). -/
def isPq (q : Bytes) (kind : Nat) : Bool :=
  qCode q == 0xFE && Bytes.num q 4 2 == 3 && Bytes.num q 6 1 == 2 && Bytes.num q 7 2 == 0x1F7A && Bytes.num (qPayload q) 0 1 == kind
/-- Any other request (R434). -/
def State.aUnsupported (s : State) (t : Transport) (_q : Bytes) : Ans := (s, rError (s.conn t) 7)

/-- The answer to a request that is no chunk request, by its code (R434, R436). -/
def State.aWhole (s : State) (t : Transport) (q : Bytes) : Ans :=
  match qCode q with
  | 0x84 => s.aVersion t q
  | 0xE1 => s.aCaps t q
  | 0xE3 => s.aAlgs t q
  | 0x81 => s.aDigests t q
  | 0x82 => s.aCert t q
  | 0x83 => s.aChallenge t q
  | 0xE0 => s.aMeas t q
  | 0xE4 => s.aKeyEx t q
  | 0xE5 => s.aFinish t q
  | 0xE9 => s.aKeyUpdate t q
  | 0xEC => s.aEnd t q
  | 0xE8 => s.aHeartbeat t q
  | 0xFE => if isPq q 1 then s.aPqSig t q else if isPq q 2 then s.aPqChain t q else s.aUnsupported t q
  | _ => s.aUnsupported t q
/-- CHUNK_SEND (R434): chunks of a large request are gathered in order; the last one has the request answered within the
acknowledgement. -/
def State.aChunkSend (s : State) (t : Transport) (q : Bytes) : Ans :=
  let c := s.conn t
  let no := Bytes.num q 4 2
  let o := if no = 0 then 16 else 12
  let data := Bytes.slice q o (Bytes.num q 8 4)
  let head := rHead c.ver 0x05 0 (qP2 q) ++ leBytes 2 no
  if no ≠ (if no = 0 then 0 else c.chunkInSeq) then (s, rError c 4)
  else
    let whole := (if no = 0 then [] else c.chunkIn) ++ data
    if qP1 q % 2 = 1 then
      let a := (s.modConn t (fun c => { c with chunkIn := [], chunkInSeq := 0 })).aWhole t whole
      (a.1, head ++ a.2)
    else (s.modConn t (fun c => { c with chunkIn := whole, chunkInSeq := no + 1 }), head)
/-- CHUNK_GET (R434): the next chunk of a large answer. -/
def State.aChunkGet (s : State) (t : Transport) (q : Bytes) : Ans :=
  let c := s.conn t
  let size := (if tMctp t then 4096 else 65536) - 16
  if c.chunkOut.isEmpty ∨ Bytes.num q 4 2 ≠ c.chunkOutSeq then (s, rError c 4)
  else
    let last := decide (c.chunkOut.length ≤ size)
    (s.modConn t (fun c => { c with chunkOut := c.chunkOut.drop size, chunkOutSeq := c.chunkOutSeq + 1 }),
     rHead c.ver 0x06 last.toNat (qP2 q) ++ leBytes 2 c.chunkOutSeq ++ zeros 2 ++ leBytes 4 (min size c.chunkOut.length) ++ c.chunkOut.take size)

/-- An answer leaves on its transport, in a session as a record of it: under the keys of the session that stands after it, or, where FINISH or
END_SESSION was answered, of the one before. -/
@[noinline] def State.spdmSend (s : State) (t : Transport) (was : Option SpdmSession) (a : Bytes) : State :=
  if !tSecured t then s.out (.spdm (tNum t) a)
  else
    let ver := (s.conn t).ver
    match was, (s.conn t).session with
    | some w, some x =>
      if x.finished = w.finished then
        (s.modConn t (fun c => { c with session := some { x with rspSeq := x.rspSeq + 1 } })).out (.spdm (tNum t) (recSeal (tMctp t) ver x a))
      else s.out (.spdm (tNum t) (recSeal (tMctp t) ver w a))
    | some w, none => s.out (.spdm (tNum t) (recSeal (tMctp t) ver w a))
    | none, _ => s
/-- An answer leaves; one beyond the transfer size of MCTP is fetched by CHUNK_GET, after ERROR LargeResponse. -/
@[noinline] def State.spdmOut (s : State) (t : Transport) (was : Option SpdmSession) (a : Bytes) : State :=
  if tMctp t ∧ 4096 < a.length then
    (s.modConn t (fun c => { c with chunkOut := a, chunkOutSeq := 0 })).spdmSend t was (rError (s.conn t) 0x0F ++ [0])
  else s.spdmSend t was a
/-- A record of a session has been opened: its sequence number moves on. -/
@[noinline] def State.recTaken (s : State) (t : Transport) : State :=
  if tSecured t then s.modConn t (fun c => { c with session := c.session.map (fun x => { x with reqSeq := x.reqSeq + 1 }) }) else s
/-- The version byte of a request is the negotiated one, once there is one (R433); GET_VERSION starts anew. -/
def SpdmConn.verOk (c : SpdmConn) (q : Bytes) : Bool := c.version == 0 || qCode q == 0x84 || Bytes.num q 0 1 == c.version
/-- One SPDM request reaches the runtime (R433, R434, R439): a record that does not open is discarded; after a tamper response every request is
answered with ERROR Unspecified, and one of another version than the negotiated one with ERROR VersionMismatch. `ok` says that the request is of
the kind that its command names. -/
@[noinline] def State.spdm1 (s : State) (t : Transport) (q : Bytes) (ok : Bytes → Bool) (f : State → Bytes → Ans) : State :=
  match (if s.boot.rtReleased && s.coreUp then s.opened t q else none) with
  | none => s
  | some p =>
    if !ok p then s
    else
      let s := s.recTaken t
      let was := (s.conn t).session
      if s.tamp.responded then s.spdmOut t was (rError (s.conn t) 5)
      else if !(s.conn t).verOk p then s.spdmOut t was (rError (s.conn t) 0x41)
      else (f s p).1.spdmOut t was (f s p).2

/-- SPDM_GET_VERSION (R433). -/
def execSpdmGetVersion (t : Transport) (q : Bytes) (s : State) : Res :=
  .next (s.spdm1 t q (fun q => qCode q == 0x84) (fun s q => s.aVersion t q))
/-- SPDM_GET_CAPABILITIES (R434). -/
def execSpdmGetCapabilities (t : Transport) (q : Bytes) (s : State) : Res :=
  .next (s.spdm1 t q (fun q => qCode q == 0xE1) (fun s q => s.aCaps t q))
/-- SPDM_NEGOTIATE_ALGORITHMS (R434). -/
def execSpdmNegotiateAlgorithms (t : Transport) (q : Bytes) (s : State) : Res :=
  .next (s.spdm1 t q (fun q => qCode q == 0xE3) (fun s q => s.aAlgs t q))
/-- SPDM_GET_DIGESTS (R434). -/
def execSpdmGetDigests (t : Transport) (q : Bytes) (s : State) : Res :=
  .next (s.spdm1 t q (fun q => qCode q == 0x81) (fun s q => s.aDigests t q))
/-- SPDM_GET_CERTIFICATE (R435). -/
def execSpdmGetCertificate (t : Transport) (q : Bytes) (s : State) : Res :=
  .next (s.spdm1 t q (fun q => qCode q == 0x82) (fun s q => s.aCert t q))
/-- SPDM_CHALLENGE (R435). -/
def execSpdmChallenge (t : Transport) (q : Bytes) (s : State) : Res :=
  .next (s.spdm1 t q (fun q => qCode q == 0x83) (fun s q => s.aChallenge t q))
/-- SPDM_GET_MEASUREMENTS (R437). -/
def execSpdmGetMeasurements (t : Transport) (q : Bytes) (s : State) : Res :=
  .next (s.spdm1 t q (fun q => qCode q == 0xE0) (fun s q => s.aMeas t q))
/-- SPDM_KEY_EXCHANGE (R434). -/
def execSpdmKeyExchange (t : Transport) (q : Bytes) (s : State) : Res :=
  .next (s.spdm1 t q (fun q => qCode q == 0xE4) (fun s q => s.aKeyEx t q))
/-- SPDM_FINISH (R434). -/
def execSpdmFinish (t : Transport) (q : Bytes) (s : State) : Res :=
  .next (s.spdm1 t q (fun q => qCode q == 0xE5) (fun s q => s.aFinish t q))
/-- SPDM_KEY_UPDATE (R434). -/
def execSpdmKeyUpdate (t : Transport) (q : Bytes) (s : State) : Res :=
  .next (s.spdm1 t q (fun q => qCode q == 0xE9) (fun s q => s.aKeyUpdate t q))
/-- SPDM_END_SESSION (R434). -/
def execSpdmEndSession (t : Transport) (q : Bytes) (s : State) : Res :=
  .next (s.spdm1 t q (fun q => qCode q == 0xEC) (fun s q => s.aEnd t q))
/-- SPDM_HEARTBEAT (R434). -/
def execSpdmHeartbeat (t : Transport) (q : Bytes) (s : State) : Res :=
  .next (s.spdm1 t q (fun q => qCode q == 0xE8) (fun s q => s.aHeartbeat t q))
/-- SPDM_CHUNK_SEND (R434). -/
def execSpdmChunkSend (t : Transport) (q : Bytes) (s : State) : Res :=
  .next (s.spdm1 t q (fun q => qCode q == 0x85) (fun s q => s.aChunkSend t q))
/-- SPDM_CHUNK_GET (R434). -/
def execSpdmChunkGet (t : Transport) (q : Bytes) (s : State) : Res :=
  .next (s.spdm1 t q (fun q => qCode q == 0x86) (fun s q => s.aChunkGet t q))
/-- SPDM_PQ_SIG (R436). -/
def execSpdmPqSig (t : Transport) (q : Bytes) (s : State) : Res := .next (s.spdm1 t q (fun q => isPq q 1) (fun s q => s.aPqSig t q))
/-- SPDM_PQ_CHAIN (R436). -/
def execSpdmPqChain (t : Transport) (q : Bytes) (s : State) : Res := .next (s.spdm1 t q (fun q => isPq q 2) (fun s q => s.aPqChain t q))
/-- The request codes that the responder supports (R434). -/
def spdmCodes : List Nat := [0x84, 0xE1, 0xE3, 0x81, 0x82, 0x83, 0xE0, 0xE4, 0xE5, 0xE9, 0xEC, 0xE8, 0x85, 0x86]
/-- SPDM_UNSUPPORTED (R434): any other request. -/
def execSpdmUnsupported (t : Transport) (q : Bytes) (s : State) : Res :=
  .next (s.spdm1 t q (fun q => !(spdmCodes.contains (qCode q)) && !isPq q 1 && !isPq q 2) (fun s q => s.aUnsupported t q))

end Sys2Proof.Machine
end

