-- ==== Sys2Proof/Machine/Commit.lean ====
section
/-! DEFINITION. Commit admission: which waiting entry Cistern admits, what an admitted commit writes, how it ends, and what a
timeout or a tamper response does to those that wait (R316 to R326, R336, R353, R374). -/
namespace Sys2Proof.Machine

/-- The worst case of a class in microseconds (R316). -/
def worstUs (cls : Nat) : Nat := match cls with | 0 => 2000 | 1 => 4000 | 2 => 5000 | _ => 50
/-- The estimate covers a class (R319). -/
def State.fits (s : State) (cls : Nat) : Bool :=
  s.huValid && decide (worstUs cls + s.fldOf (aCis1 0x58) 15 0 ≤ s.cis.estUs)
/-- The fraction lies in the commit window (R319). -/
def State.winOpen (s : State) : Bool :=
  let w := s.reg (aCis1 0x5C)
  decide (Word.field w 15 0 ≤ s.cis.lu) && decide (s.cis.lu ≤ Word.field w 31 16)
/-- WIP = 0 has been read on a chip select since its lease was granted (R318). -/
def PortState.wip (q : PortState) (cs : Nat) : Bool := if cs = 0 then q.wip0 else q.wip1
/-- The flash may still run a program or erase that the master forwarded: no status read has shown its end (R318). -/
def PortState.busy (q : PortState) (cs : Nat) : Bool := if cs = 0 then q.busy0 else q.busy1
/-- WIP = 0 has been read on a chip select. -/
def PortState.wipClear (q : PortState) (cs : Nat) : PortState :=
  if cs = 0 then { q with wip0 := true, busy0 := false } else { q with wip1 := true, busy1 := false }
/-- The chip select that a PAGE_REC entry programs, and its port. -/
def State.admFlash (s : State) (i : Nat) : Option (Nat × Nat) :=
  match (s.adm i).what with
  | .wq p j => some (p, ((s.port p).wqe j).cs)
  | .page _ p cs _ _ => some (p, cs)
  | _ => none
/-- The port reads the status for an entry that waits under a lease (R318), yielding to masters as every device read (R154, R167, R179): WIP is 0, or free while the flash may still be busy. -/
@[noinline] def State.wipPoll (s : State) (i : Nat) : State :=
  match s.admFlash i with
  | none => s
  | some (p, cs) =>
    let q := s.port p
    if (s.adm i).st != .waiting || !q.granted cs || !s.readable p cs || q.wip cs || q.stopped || (s.devOp p).isSome then s
    else if !q.busy cs then s.modPort p (fun q => q.wipClear cs)
    else if Word.bit (Config.freeWord s.freeCtr) 0 then s.freed
    else s.freed.modPort p (fun q => q.wipClear cs)
/-- The status reads of one step, in the order of the queue entries. -/
@[noinline] def State.wipPolls (s : State) : State := s.cis.queue.foldl (fun s e => s.wipPoll e.1) s
/-- The executor of an entry can start its write now (R318). -/
def State.admReady (s : State) (i : Nat) : Bool :=
  match (s.adm i).what with
  | .none => false
  | .wq p j => s.wqReady p j && (s.port p).wip ((s.port p).wqe j).cs
  | .page _ p cs _ _ => (s.port p).granted cs && (s.port p).modeRuns cs && (s.devOp p).isNone && !(s.port p).stopped && (s.port p).wip cs
  | _ => true
/-- Both are hart descriptor slots: one requester (R320). -/
def sameHart (i j : Nat) : Bool := decide (17 ≤ i) && decide (17 ≤ j)
/-- No earlier waiting entry of the same requester stands before it (R320). -/
def State.admFirst (s : State) (i : Nat) : Bool :=
  (List.range 32).all (fun j => !sameHart i j || (s.adm j).st != .waiting || decide ((s.adm i).order ≤ (s.adm j).order))
/-- Everything of R319 that does not depend on the entry. -/
def State.admOpen (s : State) : Bool :=
  s.pwr.aonValid && (s.cis.line == .healthy || s.cis.line == .dcFeed) && s.confirmed && s.winOpen && s.cis.inflight.isNone &&
  !s.cis.blocked && !s.tamp.responded && !s.tamp.contained
/-- An entry meets R319. -/
def State.admissible (s : State) (i : Nat) : Bool :=
  (s.adm i).st == .waiting && s.admReady i && s.fits (s.adm i).cls && s.admFirst i
/-- The entry that Cistern admits: of those that meet R319 the one that has waited longest (R320). -/
def State.admPick (s : State) : Option Nat :=
  ((List.range 32).filter s.admissible).foldl (fun m i => match m with
    | none => some i
    | some j => if (s.adm i).order < (s.adm j).order then some i else some j) none

/-! ### Ends -/

/-- The opcode of the page program that a hart commit uses on a chip select (R326). -/
def PortState.progOp (q : PortState) (cs : Nat) : Option Byte :=
  ((List.range 64).find? (fun i => let e := ctGet q.ctA i
    eValid e && ctClass e == 1 && cmdPhase (ctFmt e) == cmdPhase (q.mode cs).code)).map (fun i => BitVec.ofNat 8 (ctOpc (ctGet q.ctA i)))
/-- A page of the command epoch area has been written (R481, R485, R490): it is taken, an issuer record stands in the area, and the boot
epoch's record ends what is pending. -/
@[noinline] def State.epochWritten (s : State) (port cs addr : Nat) (data : Bytes) : State :=
  let base := s.homeBase * 2 ^ 24 + 0x820000
  if port ≠ 0 ∨ cs ≠ 0 ∨ addr < base ∨ base + 0x20000 ≤ addr then s
  else
    let half := (addr - base) / 0x10000
    let s := s.modCmd (fun c => { c with
      used := if half = c.half then max c.used ((addr - base) % 0x10000 / 256 + 1) else c.used,
      recs := if issuerRecOk data then c.recs ++ [(half, data)] else c.recs })
    if s.cmd.epochPending && epochOf data == some s.cmd.epoch then s.epochDone else s
/-- A hart descriptor's commit has ended with a status (R325, R326): its slot, the records that a written page changes, and the
command that waited for it. -/
@[noinline] def State.slotEnd (s : State) (slot : Nat) (r : Status) : State := (s.descEnd slot r).cmdSlotEnd slot r
/-- The image that a BBRAM commit of a hart descriptor writes (R374). -/
def State.newBank (s : State) (data : Bytes) : Bytes :=
  let act : Bytes := match s.cel.active with | some b => s.bank b | none => []
  let secret := if Bytes.num data 0 1 = 1 then s.draw 32 else act.take 32
  let gen := match s.cel.active with | some b => bankGen (s.bank b) + 1 | none => 1
  bankImage secret gen ((List.range 16).map (bankEpoch data))
/-- A fuse field has been blown (R366 FUSE_DONE): the derivation unit, the fields of SCRAP, a transition or the command that
waited go on. -/
@[noinline] def State.fieldEnd (s : State) (i : Nat) (v : Bytes) : State :=
  let s := (s.blow i v).count (evLcf 7)
  let s := { s with lcf := { s.lcf with scrapOwed := s.lcf.scrapOwed.filter (fun x => x != i) } }
  if s.cel.kduJob.isSome then s.kduStepDone else (s.lcAfter).cmdFuseEnd stOk
/-- A life-cycle copy has been written (R353, R366 COPY_WRITTEN). -/
@[noinline] def State.copyEnd (s : State) (k : Nat) (t : LcState) : State :=
  let s := (s.blow (8 * k) (leBytes 8 t.fuseCode)).count (evLcf 2)
  ({ s with lcf := { s.lcf with owed := s.lcf.owed.filter (fun x => x != k) } }.lcAfter).cmdLcEnd stOk
/-- What a commit has written, apart from the write queue's own (R321, R322). -/
@[noinline] def State.commitWrote (s : State) (w : CommitWhat) (r : Status) : State :=
  match w with
  | .lcf (.lcCopy k t) => s.copyEnd k t
  | .lcf (.field i v) => s.fieldEnd i v
  | .lcf (.bbram b img) => (s.bankWritten b img).lcAfter
  | .page slot p cs a d => if r = stOk then ((s.arbWritten p cs a d).epochWritten p cs a d).slotEnd slot r else s.slotEnd slot r
  | .bank slot b d =>
    let img := s.newBank d
    ((if Bytes.num d 0 1 = 1 then s.drew else s).bankWritten b img).slotEnd slot r
  | _ => s
/-- The commit in flight ends with a status (R321): the entry leaves, then its requester is told. -/
@[noinline] def State.commitEnds (s : State) (i : Nat) (r : Status) : State :=
  let w := (s.adm i).what
  match w with
  | .wq p j => s.wqFinish p j (r == stOk)
  | _ => (s.admDone i r).commitWrote w r
/-- The executor of an admitted entry starts (R224, R326). -/
@[noinline] def State.commitStart (s : State) (i : Nat) : State :=
  match (s.adm i).what with
  | .wq p j => s.wqStart p j
  | .page slot p cs a d =>
    (match (s.port p).wrenOp cs, (s.port p).progOp cs with
     | some w, some g => ((s.toFlash p cs w 0 []).toFlash p cs g a d).setByte (descAt slot + 17) 2
     | _, _ => (s.commitEnds i stInternal).count (evCis 14))
  | .bank slot _ _ => s.setByte (descAt slot + 17) 2
  | _ => s
/-- One entry is admitted (R319): it runs, COMMIT_ADMITTED. -/
@[noinline] def State.admitSlot (s : State) (i : Nat) : State :=
  let s := s.setAdm i { s.adm i with st := .running, startHc := s.cis.hc }
  let s := s.modCis (fun c => { c with inflight := some i, ifSince := s.clk })
  (s.count (evCis 3)).commitStart i
/-- COMMIT_ADMIT (R319, R320). -/
def execCommitAdmit (s : State) : Res :=
  .next (if s.admOpen then (match s.admPick with | some i => s.admitSlot i | none => s) else s)

/-- A fail bit of the flash ends a commit with INTERNAL (R326, R224). -/
@[noinline] def State.commitFails (s : State) (i : Nat) : State :=
  match (s.adm i).what with
  | .page _ p cs _ _ => ((s.sendFailClr p cs).commitEnds i stInternal).count (evCis 14)
  | .wq p j => ((s.sendFailClr p ((s.port p).wqe j).cs).commitEnds i stInternal).count (evCis 14)
  | _ => s.commitEnds i stOk
/-- A hart PAGE_REC commit keeps WIP for 5 ms (R326): INTERNAL, COMMIT_FAULT and FLASH_TIMEOUT. -/
@[noinline] def State.commitLate (s : State) (i : Nat) : State :=
  match (s.adm i).what with
  | .page _ p cs _ _ => if s.cis.ifSince + 5000 ≤ s.clk then ((s.commitEnds i stInternal).count (evCis 14)).portErr p 6 cs else s
  | _ => s
/-! ### Deferral and withdrawal -/

/-- The timeout of an entry in half-cycles, or none (R323). -/
def State.commitTimeout (s : State) (i : Nat) : Option Nat :=
  let t := (s.adm i).timeout
  let v := if t = 0 then s.fldOf (aCis1 0x58) 31 16 else t
  if v = 0xFFFF then none else some v
/-- The requester of an entry that left the queue without effect is told (R323, R324, R354, R356). -/
@[noinline] def State.commitLost (s : State) (w : CommitWhat) (r : Status) : State :=
  match w with
  | .wq p j => s.wqEnd p j (if r = stCommitDeferred then .failed else .discarded) r
  | .lcf (.lcCopy _ _) =>
    (match s.lcf.transit with
     | some (t, .copyA) => ((s.setTransit none).lcResult r t.code).cmdLcEnd r
     | _ => s)
  | .lcf (.field _ _) => (if s.cel.kduJob.isSome then (s.setKdu none).kduErr r else s).cmdFuseEnd r
  | .page slot _ _ _ _ => s.slotEnd slot r
  | .bank slot _ _ => s.slotEnd slot r
  | _ => s
/-- The timeout of a waiting entry has passed (R323). -/
def State.admLate (s : State) (i : Nat) : Bool :=
  (s.adm i).st == .waiting && (match s.commitTimeout i with | some t => decide (t ≤ s.hcSince (s.adm i).since) | none => false)
/-- An entry is deferred (R323): COMMIT_DEFERRED; the port's next capture asks for the entry. -/
@[noinline] def State.defer (s : State) (i : Nat) : State :=
  let w := (s.adm i).what
  let s := ((s.setAdm i AdmEntry.reset).incReg (aCis1 0x78)).count (evCis 5)
  let s := s.commitLost w stCommitDeferred
  match w with | .wq p _ => s.wqAsk p | _ => s
/-- COMMIT_TIMEOUT (R323). -/
def execCommitTimeout (entry : Fin 32) (s : State) : Res := .next (if s.admLate entry.val then s.defer entry.val else s)
/-- A tamper response withdraws every waiting entry with TAMPERED, and admission is blocked until reset (R324, R336). -/
@[noinline] def State.admTamper (s : State) : State :=
  let s := s.modCis (fun c => { c with blocked := true })
  (List.range 32).foldl (fun s i =>
    if (s.adm i).st = .waiting then (s.withdraw i).commitLost (s.adm i).what stTampered else s) s

end Sys2Proof.Machine
end

