-- ==== Sys2Proof/Machine/Tamper.lean ====
section
/-! DEFINITION. Sensors, the tamper response, the tamper record and the battery domain (R583 to R593, R602, R603, R664). -/
namespace Sys2Proof.Machine

/-- Address of a register of TAMP page 1. -/
def aTamp1 (off : Nat) : Nat := pg 0x1D off
/-- Change the tamper state. -/
@[noinline] def State.modTamp (s : State) (f : TampState → TampState) : State := { s with tamp := f s.tamp }
/-- Change the power state. -/
@[noinline] def State.modPwr (s : State) (f : PwrState → PwrState) : State := { s with pwr := f s.pwr }
/-- The number of a power state in TREC_STATE. -/
def Power.num (p : Power) : Nat := match p with | .active => 0 | .standby => 1 | .retain => 2 | .battery => 3
/-- TREC_STATE (R602): power state, moment, and BOOT_STAGE.STAGE, which reads 0 in SLEEP. -/
def State.trecState (s : State) : Word :=
  let moment := if s.coreUp then (if s.boot.rtReleased then 1 else 0) else 2
  fld s.pwr.power.num 0 ||| fld moment 4 ||| fld (if s.coreUp then s.fldOf aStage 7 0 else 0) 8

/-- The event source of a cause bit (R603), where its class has one. -/
def classSrc (c : Nat) : Option Nat :=
  match c with
  | 0 => some 1
  | 5 => some 3
  | 6 => some 3
  | 7 => some 4
  | 8 => some 5
  | 9 => some 7
  | 10 => some 6
  | 11 => none
  | 12 => none
  | _ => if c < 5 then some 2 else none
/-- Cause bits as a list. -/
def causeBits (v : BitVec 13) : List Nat := (List.range 13).filter (fun c => v.getLsbD c)
/-- One cause bit. -/
def causeBit (c : Nat) : BitVec 13 := BitVec.ofNat 13 (2 ^ c)
/-- Count the class sources of cause bits (R603). -/
@[noinline] def State.countCauses (s : State) (v : BitVec 13) : State :=
  s.counts (((causeBits v).filterMap classSrc).map evTamp)

/-- Both BBRAM banks are erased (R375, R587). -/
@[noinline] def State.bbramWipe (s : State) : State := { s with cel := { s.cel with bank0 := [], bank1 := [], active := none } }
/-- The tamper latch and record after a trip (R587, R591, R603). -/
def TampState.tripped (t : TampState) (v : BitVec 13) (state : Word) (core : Bool) : TampState :=
  let seen := if core then v else 0
  if t.latch then { t with cause := t.cause ||| v, reported := t.reported ||| seen }
  else { t with latch := true, cause := v, time := t.batTime, record := state, rearmed := false, reported := seen }
/-- What the battery domain does at a trip, in every power state (R587). -/
@[noinline] def State.latchTrip (s : State) (v : BitVec 13) : State :=
  (s.modTamp (fun t => t.tripped v s.trecState s.coreUp)).bbramWipe
/-- A TAMPER record (R624). -/
@[noinline] def State.tamperRecord (s : State) : State :=
  s.flight 0x0B 0x46 (leBytes 4 s.tamp.cause.toNat ++ leBytes 4 s.tamp.record.toNat)
/-- A running export that lost the key of its only leg fails (R630, R638): a vendor leg keeps it going. -/
@[noinline] def State.expTamper (s : State) : State :=
  if s.flr.exp = .running ∧ s.flr.expLegs &&& 5 = 0 then s.expFail stAborted else s
/-- A request that is pending is dropped (R605): PWR_REFUSED with TAMPERED. -/
@[noinline] def State.pwrDrop (s : State) : State :=
  if s.pwr.pending.isSome then (s.modPwr (fun p => { p with pending := none, refuse := stTampered })).count (evTamp 12) else s
/-- A trip while the ROM runs (R18, R590): the road ends in a halt with FAIL 0x01. Before step 3 the ROM itself finds the latch there. -/
@[noinline] def State.romTrip (s : State) : State :=
  if s.boot.rtReleased || s.boot.wipePending || s.boot.halted then s else s.haltRom 0x01
/-- What the core does at a trip while it is powered (R149, R588, R590). -/
@[noinline] def State.coreTrip (s : State) : State :=
  let s := (s.modTamp (fun t => { t with responded := true })).count (evTamp 0)
  let s := ((List.range 16).foldl State.portStop s).forceAll.count (evBoot 11)
  let s := s.celTamper.digTamper.tkTamper.measTamper
  let s := s.cmdTamper.admTamper.cvnTamper.mbxTamper.stageTamper
  s.tamperRecord.expTamper.pwrDrop.romTrip
/-- A tamper response to cause bits (R587, R588, R599). -/
@[noinline] def State.respond (s : State) (v : BitVec 13) : State :=
  let s := s.latchTrip v
  if s.coreUp then (s.countCauses v).coreTrip else s.wake 5

/-- The class is sensed in the power state (R583): the battery domain senses the shield and the loops alone. -/
def State.senses (s : State) (c : Nat) : Bool := s.pwr.power != .battery || decide (c < 5)
/-- The containment of THERM_LIMIT (R586): every HOLD_FORCE bit, and no commit is admitted. -/
@[noinline] def State.thermHold (s : State) : State := s.forceAll.modTamp (fun t => { t with contained := true })
/-- THERM_LIMIT trips (R586): the containment acts in RETAIN too, where PRST works (R12); without the core THERM_LIMIT is not counted (R603). -/
@[noinline] def State.thermLimit (s : State) : State :=
  match s.tamp.action with
  | 0 => if s.coreUp then s.count (evTamp 7) else s
  | 1 => (if s.coreUp then s.counts [evTamp 7, evTamp 8] else s.count (evTamp 8)).thermHold
  | _ => s.respond (causeBit 9)
/-- A new action applies while THERM_LIMIT trips (R605): a trip is counted once, and a CONTAIN in force stays. -/
@[noinline] def State.thermNow (s : State) : State :=
  match s.tamp.action with
  | 0 => s
  | 1 => (s.count (evTamp 8)).thermHold
  | _ => let s := s.latchTrip (causeBit 9)
    if s.coreUp then s.coreTrip else s.wake 5
/-- The effect of a THERM_CFG write (R586, R604, R605): 3 is stored as 2. -/
@[noinline] def State.thermCfg (s : State) (v : Word) : State :=
  let old := s.tamp.action
  let s := s.modTamp (fun t => { t with action := min 2 (Word.field v 1 0) })
  if s.tamp.action ≠ old ∧ s.tamp.live.getLsbD 9 then s.thermNow else s
/-- TAMP_STATUS (R602). -/
def TampState.status (t : TampState) : Word :=
  flg t.latch 0 ||| flg t.responded 1 ||| flg t.contained 2 ||| flg t.onAon 3 ||| flg t.exported 4 ||| flg t.rearmed 5 ||| flg t.rearmPin 6
/-- A class trips (R583 to R587). -/
@[noinline] def State.trip (s : State) (c : Nat) : State :=
  let s := s.modTamp (fun t => { t with live := t.live ||| causeBit c })
  if c = 9 then s.thermLimit else s.respond (causeBit c)
/-- A loop trips only while it is armed (R584). -/
def State.armed (s : State) (c : Nat) : Bool := !(decide (1 ≤ c) && decide (c ≤ 4)) || s.tamp.loopArm.getLsbD (c - 1)

/-- The battery domain starts from no supply (R586, R591): everything it held is lost, the latch is set with BAT_POR. -/
@[noinline] def State.batteryStart (s : State) : State :=
  (s.modTamp (fun t => { t with latch := true, exported := false, rearmed := false, live := causeBit 11, cause := causeBit 11, time := 0,
                                record := s.trecState, batTime := 0, batUs := 0, rearms := 0, reported := 0, loopArm := 0,
                                action := 2 })).bbramWipe
/-- SENSOR_TRIP (R583): BAT_POR trips as the battery domain starts, which the core never sees, and SELFTEST at PWR_OK alone. -/
def execSensorTrip (cause : Fin 13) (s : State) : Res :=
  .next (if cause.val = 11 then (if s.coreUp then s else s.batteryStart)
    else if decide (cause.val ≠ 12) && s.senses cause.val && s.armed cause.val then s.trip cause.val else s)
/-- BATTERY_DOMAIN_START (R591). -/
def execBatteryDomainStart (s : State) : Res := .next (if s.coreUp then s else s.batteryStart)
/-- THERM_CONTAIN_LIFT (R586): the temperature has stayed within the margin for 1 s. -/
def execThermContainLift (s : State) : Res :=
  .next (s.modTamp (fun t => { t with contained := false, live := t.live &&& ~~~(causeBit 9) }))
/-- VBAT_LOW (R586). -/
def execVbatLow (s : State) : Res := .next (if s.coreUp then s.count (evTamp 9) else s)
/-- VBAT_MISSING (R586, R664): the domain is fed from VDD_AON where that is valid. -/
def execVbatMissing (s : State) : Res :=
  .next (if s.pwr.aonValid then
    (if s.coreUp then s.count (evTamp 10) else s).modTamp (fun t => { t with onAon := true }) else s)
/-- VBAT_RETURN (R664). -/
def execVbatReturn (s : State) : Res := .next (s.modTamp (fun t => { t with onAon := false }))

/-- The effect of a LOOP_ARM write (R584): bits are only set. -/
@[noinline] def State.loopArm (s : State) (v : Word) : State :=
  s.modTamp (fun t => { t with loopArm := t.loopArm ||| BitVec.ofNat 4 (v.toNat % 16) })
/-- LOOP_ARM_WRITE (R584). -/
def execLoopArmWrite (m : Master) (v : Word) (s : State) : Res := .next (s.guarded m (aTamp1 0x48) (fun s => s.loopArm v))

end Sys2Proof.Machine
end

