-- ==== Sys2Proof/Machine/Power.lean ====
section
/-! DEFINITION. Power states, wake sources and hold-up mode (R594 to R601, R649, R650, R652, R666). -/
namespace Sys2Proof.Machine

/-- A PWR_REQ write is refused with a status (R595). -/
@[noinline] def State.pwrRefuse (s : State) (st : Status) : State :=
  (s.modPwr (fun p => { p with refuse := st })).count (evTamp 12)
/-- A lease is granted on some port. -/
def State.leased (s : State) : Bool := (List.range 16).any (fun p => (s.port p).grant0 || (s.port p).grant1)
/-- Why a request for a target is refused (R595); 0 where it is accepted. -/
def State.pwrCheck (s : State) (t : Power) : Status :=
  if s.pwr.pending.isSome then stBusy
  else if s.pwr.power = t then stStateForbids
  else match t with
    | .standby => if s.pwr.power = .active then stOk else stStateForbids
    | .active => if s.pwr.power = .standby then stOk else stStateForbids
    | .retain => if (List.range 32).any (fun i => (s.adm i).st != .empty) || s.leased || s.lcf.transit.isSome then stStateForbids else stOk
    | .battery => stBadOpcode
/-- HQ, TKS and Caravan stop, and the link goes down (R596 steps 1 to 3). -/
@[noinline] def State.hostStop (s : State) : State := s.linkDown.cvnDown
/-- Lanes, ports, the Cellar and harts 1 to 4 stop on the way to RETAIN, every master held (R598 steps 1 and 2); the reset of a hart
ends what it owns (R74, R301, R525). -/
@[noinline] def State.retainStop (s : State) : State :=
  let s := ((s.seqIdle.holdReq 0xFFFFFF).celWipe).count (evCel 0)
  let s := (List.range 16).foldl State.portStop s
  [1, 2, 3, 4].foldl (fun s h => (s.setHart h { s.hart h with st := .reset }).masterReset (hartMaster h)) s
/-- A PWR_REQ write applies (R595 to R598). -/
@[noinline] def State.pwrReq (s : State) (t : Power) : State :=
  let st := s.pwrCheck t
  if st ≠ stOk then s.pwrRefuse st
  else
    let was := s.pwr.power
    let s := (s.setReg (aTamp1 0x40) (wd t.num)).modPwr (fun p => { p with pending := some t })
    match t with
    | .standby => s.hostStop
    | .retain => (if was = .active then s.hostStop else s).retainStop
    | _ => s
/-- PWR_REQ_STANDBY (R595, R596). -/
def execPwrReqStandby (m : Master) (s : State) : Res := .next (s.guarded m (aTamp1 0x40) (fun s => s.pwrReq .standby))
/-- PWR_REQ_RETAIN (R595, R598). -/
def execPwrReqRetain (m : Master) (s : State) : Res := .next (s.guarded m (aTamp1 0x40) (fun s => s.pwrReq .retain))
/-- PWR_REQ_ACTIVE (R595, R597). -/
def execPwrReqActive (m : Master) (s : State) : Res := .next (s.guarded m (aTamp1 0x40) (fun s => s.pwrReq .active))

/-- A request completes (R595): PENDING clears, PWR_STATE. -/
@[noinline] def State.pwrDone (s : State) (t : Power) : State :=
  (s.modPwr (fun p => { p with power := t, pending := none })).count (evTamp 11)
/-- STANDBY_ENTRY_DONE (R596 step 4). -/
def execStandbyEntryDone (s : State) : Res :=
  .next (if s.pwr.pending = some .standby then s.tkStandby.pwrDone .standby else s)
/-- Every enabled Caravan port that is DOWN seeks block lock (R532, R597). -/
@[noinline] def State.linkSeek (s : State) : State :=
  (List.range 3).foldl (fun s p =>
    if s.linkOn p && (s.link p).st == .down then s.modLink p (fun l => { l with st := .locking }) else s) s
/-- ACTIVE_RETURN_DONE (R597). -/
def execActiveReturnDone (s : State) : Res := .next (if s.pwr.pending = some .active then (s.pwrDone .active).linkSeek else s)
/-- The ports once the core has lost its supply or is reset: nothing stays but the sensed bank voltages, which are levels of the supplies
(R154, R188), and what the flash devices may still be busy with (R318). -/
def portsKept (m : SMap PortState) : SMap PortState :=
  (List.range 16).foldl (fun r p =>
    let q := SMap.get portDefault m p
    SMap.set portDefault r p { portDefault p with bank := q.bank, busy0 := q.busy0, busy1 := q.busy1 }) []
/-- Pages of the blocks that run down to RETAIN (R12): LCF, CIS, TAMP and PRST. -/
def aonPage (page : Nat) : Bool := [0x10, 0x11, 0x18, 0x19, 0x1C, 0x1D, 0x2C, 0x2D].contains page
/-- VDD_CORE is off (R12, R594): every block that does not run down to RETAIN keeps nothing and does nothing until the next boot. -/
@[noinline] def State.coreLost (s : State) : State :=
  { State.reset with
    clk := s.clk
    regs := s.regs.filter (fun e => aonPage (e.1 / 4096))
    events := s.events.filter (fun e => aonPage (srcPage e.1))
    pwr := s.pwr
    tamp := s.tamp
    boot := { State.reset.boot with wipePending := false }
    prst := s.prst
    lcf := s.lcf
    cel := { State.reset.cel with bank0 := s.cel.bank0, bank1 := s.cel.bank1, active := s.cel.active }
    harts := { State.reset.harts with attached := s.harts.attached }
    cis := s.cis
    ports := portsKept s.ports
    outbox := s.outbox
    freeCtr := s.freeCtr
    drbgCtr := s.drbgCtr
    pending := s.pending }
/-- CORE_EN goes low (R598 step 4): the core loses what it holds; the wake pins of the last RETAIN are forgotten (R658). -/
@[noinline] def State.coreOff (s : State) : State :=
  let s := (s.pwrDone .retain).modPwr (fun p => { p with coreEn := false, wakeSince := none })
  ({ s with prst := { s.prst with gpWake := 0 } }).coreLost
/-- RETAIN_ENTRY_DONE (R598). -/
def execRetainEntryDone (s : State) : Res := .next (if s.pwr.pending = some .retain then s.tkStandby.coreOff else s)

/-! ### Wake sources -/

/-- WAKE_N_EDGE (R599). -/
def execWakeNEdge (s : State) : Res := .next (s.wake 0)
/-- PERST_ASSERT (R666): as a link-down. -/
def execPerstAssert (s : State) : Res := .next s.linkDown
/-- PERST_DEASSERT (R599, R666). -/
def execPerstDeassert (s : State) : Res := .next (s.wake 4)
/-- The 500 ms of a wake have passed without PWR_OK (R600). -/
def State.wakeLate (s : State) : Bool :=
  s.pwr.power == .retain && s.pwr.coreEn && !s.pwr.pwrOk &&
  (match s.pwr.wakeSince with | some t => decide (t + 500000 ≤ s.clk) | none => false)
/-- WAKE_TIMEOUT (R600). -/
def execWakeTimeout (s : State) : Res :=
  .next (if s.wakeLate then s.modPwr (fun p => { p with coreEn := false, wakeSince := none }) else s)

/-! ### Hold-up mode -/

/-- PFW_EN (R332). -/
def State.pfwEn (s : State) : Bool := s.bitOf (aCis0 0x40) 3
/-- PF_WARN_N goes low (R311, R335, R649, R652). -/
@[noinline] def State.pfWarn (s : State) : State :=
  if s.cis.pfw then s
  else
    let s := (s.modCis (fun c => { c with pfw := true })).count (evCis 2)
    if !s.pfwEn then s
    else
      let s := s.pfwLost
      if s.coreUp then (s.modPwr (fun p => { p with holdup := true, pfwReleasedAt := none })).hostStop else s
/-- PF_WARN_ASSERT (R311, R649); without VDD_AON the pin's level is all that changes. -/
def execPfWarnAssert (s : State) : Res := .next (if s.pwr.aonValid then s.pfWarn else s.modCis (fun c => { c with pfw := true }))
/-- PF_WARN_DEASSERT (R650): the 10 ms start. -/
def execPfWarnDeassert (s : State) : Res :=
  .next (if s.cis.pfw then (s.modCis (fun c => { c with pfw := false })).modPwr (fun p => { p with pfwReleasedAt := some s.clk }) else s)
/-- HOLDUP_MODE_EXIT (R650): PF_WARN_N has been high for 10 ms with PWR_OK still high; the gated blocks return as in R597. -/
def execHoldupModeExit (s : State) : Res :=
  .next (if s.pwr.holdup && s.pwr.pwrOk && !s.cis.pfw &&
      (match s.pwr.pfwReleasedAt with | some t => decide (t + 10000 ≤ s.clk) | none => false) then
    (s.modPwr (fun p => { p with holdup := false, pfwReleasedAt := none })).linkSeek else s)

end Sys2Proof.Machine
end

