-- ==== Sys2Proof/Machine/Road.lean ====
section
/-! DEFINITION. The main road: supplies, resets, the power-on wipe, the ROM's steps up to its choice of a slot, and the release of
the runtime (R14 to R19, R105 to R110, R137, R141, R142, R308, R414, R585, R592, R600, R601, R603, R614, R644, R647). -/
namespace Sys2Proof.Machine

/-! ### What a reset leaves -/

/-- Registers of the replay stream, which survive the reset that ENTER causes (R632). -/
def replayRegs : List Nat := [pg 0x29 0x68, pg 0x29 0x6C, pg 0x29 0x70]
/-- A commit that had started when power failed is fully written (R19, R322). -/
@[noinline] def State.commitStored (s : State) : State :=
  match s.cis.inflight with
  | none => s
  | some i =>
    (match (s.adm i).what with
     | .lcf (.lcCopy k t) => s.blow (8 * k) (leBytes 8 t.fuseCode)
     | .lcf (.field f v) => s.blow f v
     | .lcf (.bbram b img) => s.setBank b img
     | .bank _ b d => (if Bytes.num d 0 1 = 1 then s.drew else s).setBank b (s.newBank d)
     | _ => s)
/-- A life-cycle copy that VDD_AON left before its worst case had passed, the board's hold-up being below the requirement (R347, R355): which
of its bits are blown is free. -/
@[noinline] def State.copyCut (s : State) : State :=
  match s.cis.inflight with
  | none => s
  | some i =>
    match (s.adm i).what with
    | .lcf (.lcCopy k t) =>
      if s.cis.ifSince + worstUs 0 ≤ s.clk then s
      else
        let b := leBytes 4 (Config.freeWord s.freeCtr).toNat ++ leBytes 4 (Config.freeWord (s.freeCtr + 1)).toNat
        { (s.freed.freed.blow (8 * k) ((List.zipWith (fun x y => x &&& y) b (leBytes 8 t.fuseCode)))) with
          cis := { s.cis with inflight := none } }
    | _ => s
/-- The state that a reset leaves (R14, R106, R308): what the always-on and the battery domain, the fuses and the pins hold stays,
all else is as after power-on, the wipe is due and the main road is at step 1. DESIGN CHOICE (log 69): T_RT_RELEASE and T_FIRST_HOLD
count from this moment also where the road restarts without a rise of PWR_OK. -/
@[noinline] def State.afterReset (s : State) : State :=
  { State.reset with
    clk := s.clk
    regs := s.regs.filter (fun x => cisKept x.1 || (s.pwr.replayReset && replayRegs.contains x.1))
    pwr := { s.pwr with power := .active, pwrOk := true, coreEn := true, pwrOkAt := s.clk, pending := none, refuse := 0,
                        wakeSince := none, holdup := false, pfwReleasedAt := none, replayReset := false,
                        resetOwed := false, riseEnv := none }
    tamp := { s.tamp with responded := false }
    prst := s.prst.afterReset
    lcf := { State.reset.lcf with fuses := s.lcf.fuses }
    cel := { State.reset.cel with bank0 := s.cel.bank0, bank1 := s.cel.bank1 }
    flr := { State.reset.flr with replay := if s.pwr.replayReset then .pending else .off }
    harts := { State.reset.harts with attached := s.harts.attached }
    cis := s.cis.warm
    ports := portsKept s.ports
    outbox := s.outbox
    freeCtr := s.freeCtr
    drbgCtr := s.drbgCtr
    pending := s.pending }
/-- FP0 comes up in the mode that BOOT_FP0_MODE selects (R115, R159), or where its bank does not allow that in 1-1-1 (R154, R162). -/
@[noinline] def State.fp0Mode (s : State) : State :=
  let v := if modeOk (s.port 0).bank (s.bootFp0Mode % 16) && clkOk (s.bootFp0Mode % 16) (s.bootFp0Mode / 32) then s.bootFp0Mode else 0
  (s.setReg (fp 0 0 0x48) (wd v)).modPort 0 (fun q => { q with mode0 := { code := v % 16, addr4 := v.testBit 4 } })
/-- The retry of R115: FP0 in 1-1-1 at 25 MHz with 3-byte addresses. -/
@[noinline] def State.fp0Retry (s : State) : State :=
  (s.setReg (fp 0 0 0x48) 0).modPort 0 (fun q => { q with mode0 := { code := 0, addr4 := false } })
/-- The draws of a reset (R350, R371, R394): the device nonce, the boot nonce, and in PROVISION an ephemeral key. -/
@[noinline] def State.bootDraws (s : State) : State :=
  let s := s.newNonce
  let s := ({ s with cel := { s.cel with bootNonce := s.draw 32 } }).drew
  if s.lcf.eff = some .provision then ({ s with cel := { s.cel with ephemeral := some (s.draw 64) } }).drew else s
/-- The main road starts at step 1 (R14): the life-cycle decode, the port mode of FP0, the draws. -/
@[noinline] def State.roadStart (s : State) : State := s.lcBoot.fp0Mode.bootDraws

/-! ### PWR_OK -/

/-- The self-test of R585: a failure counts SENSOR_FAULT and trips SELFTEST. -/
@[noinline] def State.selfTest (s : State) (fails : Bool) : State :=
  if fails then ((s.modTamp (fun t => { t with live := t.live ||| causeBit 12 })).count (evTamp 14)).respond (causeBit 12) else s
/-- The conditions of a re-arm (R592). -/
def State.rearmOk (s : State) (held : Bool) : Bool :=
  s.tamp.latch && held && s.tamp.live == 0 && (s.tamp.exported || s.tamp.cause == causeBit 11)
/-- The re-arm (R592): REARMED is counted once the event pages are reachable. -/
@[noinline] def State.rearm (s : State) (held : Bool) : State :=
  if s.rearmOk held then
    (s.modTamp (fun t => { t with latch := false, loopArm := 0, exported := false, rearmed := true, rearms := min 65535 (t.rearms + 1) })).count (evTamp 15)
  else s
/-- Trips while the core was off are counted (R603): each class of an added cause bit once, TAMPER once. -/
@[noinline] def State.countMissed (s : State) : State :=
  let added := s.tamp.cause &&& ~~~s.tamp.reported
  if added = 0 then s
  else ((s.countCauses added).count (evTamp 0)).modTamp (fun t => { t with reported := t.reported ||| added })
/-- WAKE is counted at the boot that follows a wake (R599). -/
@[noinline] def State.countWake (s : State) : State :=
  if s.pwr.wakeOwed then (s.modPwr (fun p => { p with wakeOwed := false })).count (evTamp 13) else s
/-- A THERM_LIMIT that still trips at a PWR_OK is still contained (R586), for the reset has cleared HOLD_FORCE. -/
@[noinline] def State.thermStill (s : State) : State := if s.tamp.live.getLsbD 9 && s.tamp.action == 1 then s.thermHold else s
/-- PWR_OK starts the main road (R14, R585, R586, R592, R603). -/
@[noinline] def State.powerUp (s : State) (fails held : Bool) (live : BitVec 13) : State :=
  let s := s.afterReset.modTamp (fun t => { t with live := live, rearmPin := held })
  (((s.selfTest fails).rearm held).countMissed).countWake.thermStill.roadStart
/-- PWR_OK starts the main road with what the self-test and the battery domain meet. -/
@[noinline] def State.powerUpEnv (s : State) (e : PowerUpEnv) : State := s.powerUp (e.selfTestFails || e.photodiodeFails) e.rearmHeld e.live
/-- PWR_OK_RISE (R14, R600, R647): ignored while CORE_EN is low; what came with it is met as the road starts. -/
def execPwrOkRise (env : PowerUpEnv) (s : State) : Res :=
  .next (if s.pwr.pwrOk then s
    else if s.pwr.aonValid && s.pwr.coreEn && !s.coreUp then s.powerUpEnv env
    else s.modPwr (fun p => { p with pwrOk := true, riseEnv := some env }))
/-- What the self-test meets at a road start of R647 (R585): what came with the rise of PWR_OK; where CORE_EN alone fell and rose since, whether
the test fails is free (DEDUCED, log 98). -/
def State.roadEnv (s : State) : PowerUpEnv :=
  match s.pwr.riseEnv with
  | some e => { e with live := e.live ||| s.tamp.live }
  | none => { selfTestFails := Word.bit (Config.freeWord s.freeCtr) 0, photodiodeFails := false, rearmHeld := s.tamp.rearmPin, live := s.tamp.live }
/-- MAIN_ROAD_START_AFTER_CORE_EN (R585, R647): PWR_OK was high as CORE_EN rose, and 3 ms have passed. -/
def execMainRoadStartAfterCoreEn (s : State) : Res :=
  .next (if s.pwr.pwrOk && s.pwr.aonValid && s.pwr.coreEn && !s.coreUp && decide (s.pwr.coreEnAt + 3000 ≤ s.clk) then
    s.freed.powerUpEnv s.roadEnv else s)
/-- Everything waiting for admission is lost with the core, the commit in flight is written (R19, R322). -/
@[noinline] def State.commitsLost (s : State) : State :=
  s.commitStored.modCis (fun c => { c with queue := [], inflight := none })
/-- PWR_OK falls (R105, R594): every HOLD_N asserts, the sequencer is IDLE, CORE_EN stays; the core domain keeps nothing, so that no block
of it acts in RETAIN (R12), and the wake pins of the last RETAIN are forgotten (R658). -/
@[noinline] def State.powerLoss (s : State) : State :=
  let s := s.commitsLost.seqIdle.modPwr (fun p => { p with pwrOk := false, power := .retain, pending := none, holdup := false,
                                                            pfwReleasedAt := none, replayReset := false, resetOwed := false })
  ({ s with prst := { s.prst with gpWake := 0 } }).holdCheck.coreLost
/-- PWR_OK_LOSS (R105, R646). -/
def execPwrOkLoss (s : State) : Res :=
  .next (if !s.pwr.pwrOk then s
    else if s.coreUp then s.powerLoss
    else s.modPwr (fun p => { p with pwrOk := false, riseEnv := none }))

/-! ### The always-on rail -/

/-- VDD_AON is lost (R308, R601, R658): the battery domain and the fuses keep what they hold, nothing else does; a
life-cycle copy in flight may be cut short (R355). -/
@[noinline] def State.aonLoss (s : State) : State :=
  let s := s.copyCut.commitsLost
  { State.reset with
    clk := s.clk
    pwr := { State.reset.pwr with power := .battery, aonValid := false, pwrOk := false, coreEn := false }
    tamp := { s.tamp with responded := false, contained := false, onAon := false, live := s.tamp.live &&& 0x1F }
    prst := { State.reset.prst with pgood := s.prst.pgood, gpIn := s.prst.gpIn }
    lcf := { State.reset.lcf with fuses := s.lcf.fuses }
    cel := { State.reset.cel with bank0 := s.cel.bank0, bank1 := s.cel.bank1 }
    harts := { State.reset.harts with attached := s.harts.attached }
    cis := { State.reset.cis with pfw := s.cis.pfw }
    ports := portsKept s.ports
    boot := { State.reset.boot with wipePending := false }
    outbox := s.outbox
    freeCtr := s.freeCtr
    drbgCtr := s.drbgCtr
    pending := s.pending }
/-- AON_LOSS (R601). -/
def execAonLoss (s : State) : Res := .next (if s.pwr.aonValid then s.aonLoss else s)
/-- AON_VALID (R600, R644): HOLD_N is asserted, CORE_EN goes high, the device waits for PWR_OK. -/
def execAonValid (s : State) : Res :=
  .next (if s.pwr.aonValid then s
    else ((s.modPwr (fun p => { p with aonValid := true, coreEn := true, coreEnAt := s.clk, power := .retain })).modCis (fun c =>
      { c with lastAcc := s.clk * 100, lastPulse := s.clk * 100 })).pfwLost)

/-! ### Device resets and the wipe -/

/-- The device resets (R14, R106, R308): the main road starts again at step 1; with a commit in flight only after that has ended (R321). -/
@[noinline] def State.resetGo (s : State) : State :=
  if s.cis.inflight.isNone then s.afterReset.roadStart else s.modPwr (fun p => { p with resetOwed := true })
/-- DEVICE_RESET (R106): one of a transition that a tamper response has cut short does not follow (R356). -/
def execDeviceReset (s : State) : Res :=
  .next (if !s.coreUp ∨ (s.tamp.responded ∧ s.lcf.transit.isSome) then s else s.resetGo)
/-- A reset that waited, for the commit in flight (R308, R321) or for the end of a transition (R353, R356), takes effect. -/
@[noinline] def State.resetDue (s : State) : State :=
  if s.pwr.resetOwed && s.cis.inflight.isNone && s.coreUp && !(s.tamp.responded && s.lcf.transit.isSome) then s.afterReset.roadStart else s
/-- LC_CELLAR_WIPE_DONE (R353): the wipe of the Cellar has ended, and with nothing else to do the device resets. -/
def execLcCellarWipeDone (s : State) : Res := .next s.lcWiped.resetDue

/-- RT_VERSION (R413). -/
def State.rtVersion (s : State) (m : Bytes) : Bytes :=
  leBytes 2 (manSecVersion m) ++ leBytes 4 (manSequence m) ++ leBytes 1 (manKeySlot m) ++ leBytes 1 (s.fldOf aStage 17 16)
/-- The extends of step 3 (R413, R414): ROM_ID, then LC_STATE. -/
@[noinline] def State.romExtends (s : State) : State :=
  (s.measHw 0 0x01 0 0xB0 (Config.take 48 Config.romIdByte)).measHw 1 0x04 0 0
    (leBytes 4 s.lcReg.toNat ++ leBytes 4 s.rightsReg.toNat ++ leBytes 8 s.policy ++ leBytes 4 s.revoked ++ s.unitId)
/-- Step 4 reads the banks of the battery-backed RAM (R373): one that fails CHECK and is not clear counts BBRAM_INVALID. -/
@[noinline] def State.bankRead (s : State) : State :=
  let bad (v : Bytes) : Bool := !bankSum v && !allZero v
  let s := { s with cel := { s.cel with active := activeOf s.cel.bank0 s.cel.bank1 } }
  let s := if bad s.cel.bank0 then s.count (evCel 7) else s
  if bad s.cel.bank1 then s.count (evCel 7) else s
/-- A runtime slot whose header and commit word hold (R122, R123), with its SEQUENCE shown (R151). -/
@[noinline] def State.slotSeen (s : State) (slot : Nat) (m : Bytes) : State :=
  s.setReg (aBoot0 (0x44 + 4 * slot)) (wd (if s.manHead m 0 (slotLen 0) then manSequence m else 0))
/-- A candidate slot of the ROM. -/
def State.candidate (s : State) (slot : Nat) (m : Bytes) : Option Candidate :=
  if s.manHead m 0 (slotLen 0) then some { slot := slot, man := m } else none
/-- A slot's valid manifest of a class has the last SEQUENCE (R124, R358). -/
def State.wornSlot (s : State) (m : Bytes) (cls len : Nat) : Bool := s.manValid m cls len && manSequence m == 0xFFFFFFFF
/-- The image slots, runtime and guarded, that no newer image may follow (R124, R358). -/
def State.wornSlots (s : State) (scan : RomScan) : List WornSlot :=
  let rt (k : Nat) (m : Bytes) : List WornSlot :=
    if s.wornSlot m 0 (slotLen 0) then [{ port := 0, cs := 0, addr := s.homeBase * 2 ^ 24 + 0x400000 * k, blocks := 64 }] else []
  (if scan.flash = .none then [] else rt 0 scan.slotA ++ rt 1 scan.slotB) ++
    (scan.guarded.filter (fun g => !g.oasis && g.cls != 0 && s.wornSlot g.man g.cls g.len)).map (fun g =>
      { port := g.port.val, cs := g.cs.val, addr := g.addr, blocks := ceilDiv g.len 0x10000 })
/-- Class and SECURITY_VERSION of the valid guarded images, slots and Oasis copies, of the boards' flash (R614). -/
def State.guardVersions (s : State) (scan : RomScan) : List (Nat × Nat) :=
  (scan.guarded.filter (fun g => g.cls != 0 && decide (g.cls < 64) && s.manValid g.man g.cls g.len)).map (fun g => (g.cls, manSecVersion g.man))
/-- SECURITY_VERSION of a slot manifest that is valid (R614), 0 of one that is not. -/
def State.heldOf (s : State) (m : Bytes) : Nat := if s.manValid m 0 (slotLen 0) then manSecVersion m else 0
/-- What the flash holds of the command epoch area (R485, R490). DESIGN CHOICE (log 120): the active half is the one with the highest valid
epoch record, the first where neither has one. -/
@[noinline] def State.epochScan (s : State) (scan : RomScan) : State :=
  let inB := match epochFind scan.epochA, epochFind scan.epochB with
    | some a, some b => decide (a < b)
    | none, some _ => true
    | _, none => false
  s.modCmd (fun c => { c with found := epochFind (scan.epochA ++ scan.epochB), recs := recsOf 0 scan.epochA ++ recsOf 1 scan.epochB,
                              half := if inB then 1 else 0, used := pagesUsed (if inB then scan.epochB else scan.epochA), copy := [] })
/-- Step 4 (R14, R115, R122, R609, R614, R632): the records and manifests of the home area, and the choice of a slot. -/
@[noinline] def State.romStep4 (s : State) (scan : RomScan) : State :=
  let s := (s.bankRead).stage 0x04
  let s := s.modBoot (fun b => { b with worn := s.wornSlots scan, classMin := s.guardVersions scan })
  let s := if scan.flash = .fused then s else s.fp0Retry
  if scan.flash = .none then s.openPush 0x0A
  else
    let s := s.modBoot (fun b => { b with arb := arbPick (scan.arbA ++ scan.arbB),
                                          arbCopy := if arbSeq (arbPick scan.arbA) < arbSeq (arbPick scan.arbB) then 1 else 0,
                                          arbErased := erasedPages 0 scan.arbA ++ erasedPages 16 scan.arbB })
    let s := s.epochScan scan
    let s := (s.slotSeen 1 scan.slotA).slotSeen 2 scan.slotB
    if s.replayBoot then s.openPush 0x00
    else if s.boot.arb.isEmpty then
      (s.modBoot (fun b => { b with heldMin := max (s.heldOf scan.slotA) (s.heldOf scan.slotB) })).openPush 0x09
    else (s.modBoot (fun b => { b with romCode := 0x05 })).romTry (romOrder (s.candidate 1 scan.slotA) (s.candidate 2 scan.slotB))
/-- Step 3 (R14, R141, R414): the tamper latch, then the life-cycle state. -/
@[noinline] def State.romStep3 (s : State) (scan : RomScan) : State :=
  let s := s.stage 0x03
  if s.tamp.latch then (s.tamperRecord).haltRom 0x01
  else if s.lcf.eff = none ∨ s.lcf.eff = some .scrap then s.haltRom 0x02
  else
    let s := s.romExtends
    if s.lcf.eff = some .raw then s.openPush 0x03 else s.romStep4 scan
/-- The harts start at the ROM entry (R109): hart 0 runs the ROM, the others park. -/
@[noinline] def State.hartsRom (s : State) : State :=
  (List.range 5).foldl (fun s h =>
    s.setHart h { s.hart h with st := if h = 0 then .run else .parked, inRom := true, parkedAt := s.clk }) s
/-- The wipe is complete (R107 to R109, R141): WIPE_STATUS, WIPE_DONE, the harts start. -/
@[noinline] def State.wiped (s : State) (fault : Bool) (us : Nat) (scan : RomScan) : State :=
  let s := (s.modBoot (fun b => { b with wipePending := false })).setReg (aBoot0 0x44) (wd 7 ||| flg fault 3 ||| fld us 16)
  let s := ((s.count (evBoot 0)).hartsRom).stage 0x02
  if fault then s.haltRom 0x04 else s.romStep3 scan
/-- WIPE_COMPLETE (R107). -/
def execWipeComplete (fault : Bool) (us : Nat) (scan : RomScan) (s : State) : Res :=
  .next (if s.boot.wipePending && s.coreUp then s.wiped fault us scan else s)

/-! ### The runtime release -/

/-- The manifest digest from which CDI0 was derived is that of the staged manifest (R136); a replay boot derives nothing (R632). -/
def State.cdiMatches (s : State) : Bool :=
  s.replayBoot || s.cel.cdiDigest == sha384 (manSigned s.boot.man)
/-- All harts restart at the runtime entry (R110, R137). -/
@[noinline] def State.hartsRuntime (s : State) (entry : Nat) : State :=
  (List.range 5).foldl (fun s h =>
    s.setHart h { s.hart h with st := .run, inRom := false, entry := 0x10000000 + entry }) s
/-- An exhausted anti-rollback record is erased in both sectors and rewritten at a boot in RETURN (R358). -/
@[noinline] def State.arbRenew (s : State) : State :=
  if s.lcf.eff = some .ret ∧ arbSeq s.boot.arb = 0xFFFFFFFE ∧ s.cmdSlot.isSome then
    ((s.modBoot (fun b => { b with arb := [], arbErased := List.range 32 })).homeErase 0x800000 2).arbCommit 0xFFFF
      (arbRec 1 3 1 (zeros 128) ((List.range 8).flatMap (fun _ => [0xFF, 0, 0, 0])))
  else s
/-- The other exhausted records at a boot in RETURN (R124, R358): the halves of a command epoch record at 0xFFFF_FFFF are erased, and each slot,
runtime or guarded, whose valid manifest has SEQUENCE 0xFFFF_FFFF. -/
@[noinline] def State.homeRenew (s : State) : State :=
  if s.lcf.eff ≠ some .ret then s
  else
    let s := if s.cmd.found = some 0xFFFFFFFF then
      (s.homeErase 0x820000 2).modCmd (fun c => { c with recs := [], half := 0, used := 0 }) else s
    s.boot.worn.foldl (fun s k => s.eraseBlocks k.port k.cs k.addr k.blocks) s
/-- What the runtime extends into slot 2 at every boot before it confirms a binding (R593): the tamper status and record. -/
@[noinline] def State.tamperExtend (s : State) : State :=
  let t := s.tamp
  s.askExtend { slot := 2, type := 0x41, source := 0, late := false, info := t.rearms % 65536,
                data := Bytes.fit (wordsBytes [t.status, wd t.cause.toNat, t.time, t.record, t.batTime]) 48, job := none }
/-- What the runtime does first (R358, R481, R490, R593, R614). -/
@[noinline] def State.rtStart (s : State) (version : Nat) : State :=
  let s := s.tamperExtend.epochBoot.homeRenew
  if s.boot.arb.isEmpty then s.arbRebuild version else s.arbRenew
/-- The runtime signs this boot's alias certificates (R431): the draw that the signatures take. -/
@[noinline] def State.aliasSign (s : State) : State := ({ s with spdm := { s.spdm with aliasDraw := s.draw 64 } }).drew
/-- The release completes (R137, R413, R414, R624): the banks exchange roles, the window is wiped, push mode closes, the harts
restart; a replay release starts the replay (R633). DESIGN CHOICE (log 67): the wipe of the window takes the manifest buffer with it, and
MAN_COUNT and BODY_COUNT read 0. -/
@[noinline] def State.rtRelease (s : State) : State :=
  let m := s.boot.man
  let owner := s.boot.owner
  let s := s.modBoot (fun b => { b with code := b.body, codeBank := 1 - b.codeBank, rtMan := m, rtReleased := true })
  let s := ((s.stageWipe .done 0xFF).setReg (aBoot0 0x54) (wd (s.clk - s.pwr.pwrOkAt))).stage 0x06
  let s := ((s.setPush false).count (evBoot 5)).flight 0x02 0x00 (sha384 (manSigned m))
  let s := s.measHw 0 0x02 0 0 (sha384 (manSigned m))
  let s := s.measHw 0 0x03 0 (if owner = 0x40 then 0 else owner.toNat) (s.rtVersion m)
  let s := s.hartsRuntime (manEntry m)
  let s := s.aliasSign
  if s.flr.replay = .pending then { s with flr := { s.flr with replay := .running } } else s.rtStart (manSecVersion m)
/-- RUNTIME_RELEASE_COMPLETE (R136, R137): both locks are set; a digest that differs refuses the release. -/
def execRuntimeReleaseComplete (s : State) : Res :=
  .next (if s.awake && s.boot.rel == .awaitLock && s.cel.closeSecret && s.cel.lockCdi then
    (if s.cdiMatches then s.rtRelease else s.relRefuse stInternal 0)
  else s)

end Sys2Proof.Machine
end

