-- ==== Sys2Proof/Machine/Ends.lean ====
section
/-! DEFINITION. The commands by which an operation on a flash, a fuse or the battery-backed RAM ends (R224, R321, R326), and an uncorrectable error in a digest context (R284); a device reset
that waited for the commit in flight takes effect then (R308, R321). -/
namespace Sys2Proof.Machine

/-- CONTEXT_SRAM_UE (R284): a job in progress ends INTERNAL, and so does the release check that hashes in context 32 or 33. -/
def execContextSramUe (idx : Fin 256) (s : State) : Res :=
  .next (let t := s.ctxUe idx.val
    if (idx.val = 32 ∨ idx.val = 33) ∧ t.boot.rel = .checking then t.relRefuse stInternal 0 else t)
/-- COMMIT_END (R321); only a flash program has fail bits. -/
def execCommitEnd (res : CommitResult) (s : State) : Res :=
  .next (match s.cis.inflight with
    | none => s
    | some i => (match res with | .clean => s.commitEnds i stOk | .failBit => s.commitFails i).resetDue)
/-- COMMIT_FLASH_TIMEOUT (R326). -/
def execCommitFlashTimeout (s : State) : Res :=
  .next (match s.cis.inflight with | none => s | some i => (s.commitLate i).resetDue)
/-- WQ_ENTRY_DONE (R224). -/
def execWqEntryDone (p : Fin 16) (i : Fin 64) (pFail eFail : Bool) (s : State) : Res :=
  .next (let e := (s.port p.val).wqe i.val
    if e.st = .running then
      (if pFail || eFail then (s.sendFailClr p.val e.cs).wqFinish p.val i.val false else s.wqFinish p.val i.val true).resetDue
    else s)
/-- WQ_ENTRY_TIMEOUT (R224): the limit on WIP has passed. -/
def execWqEntryTimeout (p : Fin 16) (i : Fin 64) (s : State) : Res :=
  .next (let e := (s.port p.val).wqe i.val
    if e.st = .running ∧ e.since + 2 ^ e.timeoutLog ≤ s.clk then ((s.wqFinish p.val i.val false).portErr p.val 6 e.cs).resetDue else s)

end Sys2Proof.Machine
end

