-- ==== Sys2Proof/Machine/Recovery.lean ====
section
/-! DEFINITION. Activation of guarded images and recovery requests (R606, R607, R617, R620), flight records that harts and the DRBG
make, sealed export and replay (R624 to R638), line timers (R327, R328) and board events (R88). -/
namespace Sys2Proof.Machine

/-! ### Lines of a class -/

/-- Port `p` carries image class `k`: a binding or a valid region of it names the class. -/
def State.portClass (s : State) (p k : Nat) : Bool :=
  (List.range 8).any (fun b => let x := (s.port p).bind b
    x.st != .empty && x.cls == k) ||
  (List.range 256).any (fun r => let e := (s.port p).rg r
    eValid e && rgClass e == k)
/-- Ports of a class. -/
def State.classPorts (s : State) (k : Nat) : List Nat := (List.range 16).filter (fun p => s.portClass p k)
/-- Lines mapped to a port of a class. -/
def State.classLines (s : State) (k : Nat) : List Nat :=
  (List.range 24).filter (fun i => (s.classPorts k).any (fun p => s.lineOf p == some i))
/-- A class is in recovery (R617): from a trigger on a line of it until that line deasserts, or while an unmapped port of it is contained. -/
def State.inRecovery (s : State) (k : Nat) : Bool :=
  (s.classPorts k).any (fun p => (s.port p).contained) || (s.classLines k).any (fun i => s.prst.recov.getLsbD i)
/-- A bit for each line. -/
def lineBits (l : List Nat) : BitVec 24 := l.foldl (fun v i => putBit v i true) 0
/-- HOLD_REQ is set for lines. -/
@[noinline] def State.holdLines (s : State) (l : List Nat) : State :=
  (s.modPrst (fun p => { p with holdReq := p.holdReq ||| lineBits l })).holdCheck
/-- HOLD_REQ is cleared for lines. -/
@[noinline] def State.freeLines (s : State) (l : List Nat) : State :=
  s.modPrst (fun p => { p with holdReq := p.holdReq &&& ~~~(lineBits l) })

/-! ### IMAGE_ACTIVATE -/

/-- The slot manifest that selection takes (R357, R606): valid, not below MIN of the class (0 in RETURN), the higher SEQUENCE, slot A at equal ones. -/
def State.pickSlot (s : State) (k : Nat) (a b : Bytes) : Option Bytes :=
  let ok (m : Bytes) : Bool := s.manValid m k (slotLen k) && decide (s.minVersion k ≤ manSecVersion m)
  if ok a && (!ok b || decide (manSequence b ≤ manSequence a)) then some a else if ok b then some b else none
/-- The binding of a class that a port holds, CONFIRMED or not. -/
def State.classBind (s : State) (p k : Nat) : Option Nat :=
  (List.range 8).find? (fun b => let x := (s.port p).bind b
    x.st != .empty && x.cls == k)
/-- The serving slot's manifest: the one whose TREE_ROOT the CONFIRMED binding of the class holds. -/
def State.serving (s : State) (p k : Nat) (a b : Bytes) : Option Bytes :=
  match s.classBind p k with
  | none => none
  | some i => let x := (s.port p).bind i
    [a, b].find? (fun m => x.st == .confirmed && manRoot m == x.root && manClass m == k)
/-- The manifest that is newer than the serving slot (R607 step 2). -/
def State.newer (s : State) (p k : Nat) (a b : Bytes) : Option Bytes :=
  match s.pickSlot k a b, s.serving p k a b with
  | none, _ => none
  | some m, none => some m
  | some m, some v => if manSequence v < manSequence m then some m else none
/-- Active regions of a class that a TARGET maps: those of the update window (MEDIATE, its CWATCH region among them) or of the
image window (R230). -/
def PortState.windowOf (q : PortState) (k : Nat) (update : Bool) : List Nat :=
  (List.range 256).filter (fun r => let e := q.rg r
    eValid e && rgClass e == k && (rgTarget e).2.2 && (rgMode e == 2) == update)
/-- Where a window maps: its lowest TARGET block and that region's TARGET_CS. -/
def PortState.slotAt (q : PortState) (k : Nat) (update : Bool) : Option (Nat × Nat) :=
  ((q.windowOf k update).map (fun r => ((rgTarget (q.rg r)).1, (rgTarget (q.rg r)).2.1))).foldl
    (fun m x => match m with | none => some x | some y => if x.1 < y.1 then some x else some y) none
/-- A region entry whose TARGET moves from one slot base to the same place of the other. -/
def moveTarget (e : List Word) (a b : Nat × Nat) : List Word :=
  e.take 3 ++ [fld (((rgTarget e).1 + b.1 - a.1) % 65536) 0 ||| fld b.2 16 ||| flg true 31] ++ e.drop 4
/-- The TARGET values of the image window and the update window are exchanged (R230 step 6, R607): every region keeps its place
within its slot. The shadow entries are written and a swap is requested, since the active bank changes by a swap alone (R214). -/
def PortState.exchange (q : PortState) (k : Nat) : PortState :=
  match q.slotAt k false, q.slotAt k true with
  | some a, some b =>
    let put (q0 : PortState) (r : Nat) (x y : Nat × Nat) : PortState :=
      { q0 with rtS := rtSet q0.rtS r (moveTarget (q.rg r) x y) }
    let t := (q.windowOf k false).foldl (fun t r => put t r a b) q
    { ((q.windowOf k true).foldl (fun t r => put t r b a) t) with rtSwap := true }
  | _, _ => q
/-- The exchange takes place: at an idle moment at once, else with TABLE_SWAP_APPLY (R214). -/
@[noinline] def State.exchange (s : State) (p k : Nat) : State :=
  s.modPort p (fun q => let t := q.exchange k
    if q.idle && t.rtSwap then t.swapTables else t)
/-- Flash byte address and chip select of the new slot: where the update window maps its first block; without an update window
the runtime's own record says it, free here. -/
def State.slotBase (s : State) (p k : Nat) : Nat × Nat :=
  match (s.port p).slotAt k true with
  | some x => (x.1 * 4096, x.2)
  | none => ((Config.freeWord s.freeCtr).toNat / 4096 * 4096, 0)
/-- Select binding `b` and set its registers for an image of class `k` at a slot base (R236, R240). -/
@[noinline] def State.bindImage (s : State) (p b k : Nat) (old : Word) (base cs : Nat) (m : Bytes) : State :=
  let pin := if Word.field old 11 9 = 0 then 1 else Word.field old 11 9
  let cfg := fld k 0 ||| fld (manHashAlg m) 8 ||| fld pin 9 ||| flg true 16 ||| fld (Bytes.num m 0xE 1 % 2) 17
  let s := (s.setReg (fp p 3 0x50) (wd b)).setReg (fp p 3 0x54) cfg
  let s := s.setReg (fp p 3 0x58) (wd ((base + manImageOffset m) / 4096 % 65536) ||| fld cs 16)
  let s := (s.setReg (fp p 3 0x5C) (wd (manImageLen m / 4096))).setReg (fp p 3 0x60) (wd ((base + manTreeOffset m) / 1024 % 2 ^ 18))
  (List.range 8).foldl (fun s w => s.setReg (fp p 3 (0x64 + 4 * w)) (Bytes.word (manRoot m) w)) s
/-- The first free run of `n` Pantry frames. -/
def State.freeFrames (s : State) (n : Nat) : Option Nat :=
  (List.range 1024).find? (fun f => decide (f + n ≤ 1024) &&
    !(List.range 16).any (fun r => (List.range 64).any (fun v => let y := (s.port r).win v
      y.st != .empty && meets (f, f + n) y.fr)))
/-- The next block of a window load, with the nodes that its check lacks. -/
@[noinline] def State.loadBlock (s : State) (p b w : Nat) (data : Bytes) (nodes : List Bytes) : State × List Bytes :=
  let s := s.winRead p w (some data)
  match (s.port p).dev with
  | none => (s, nodes)
  | some c =>
    let n := (s.missing p b (c.blk - ((s.port p).bind b).fblock)).length
    (s.demandRead p b (nodes.take n), nodes.drop n)
/-- Load one window of the image (R268, R270). -/
@[noinline] def State.loadWindow (s : State) (p b w off len : Nat) (blocks nodes : List Bytes) : State × List Bytes × List Bytes :=
  let n := len / 4096
  match s.freeFrames n with
  | none => (s, blocks, nodes)
  | some f =>
    let x := (s.port p).bind b
    let s := (s.setReg (fp p 3 0x90) (wd w)).setReg (fp p 3 0x94) (wd (x.fblock + off / 4096) ||| fld n 16)
    let s := ((s.setReg (fp p 3 0x98) (wd f ||| fld b 16)).pwWrite 0 p).pwLoad 0 p
    let r := (blocks.take n).foldl (fun (a : State × List Bytes) d => a.1.loadBlock p b w d a.2) (s, nodes)
    (r.1.winApply p w, blocks.drop n, r.2)
/-- The windows that a manifest lists: offset and length within the body (R116). -/
def manWindows (m : Bytes) : List (Nat × Nat) :=
  (List.range (min 32 (Bytes.num m 0x17 1))).map (fun i => (Bytes.num m (0x60 + 8 * i) 4, Bytes.num m (0x64 + 8 * i) 4))
/-- Every window that the manifest lists is LOADED. -/
def State.windowsOk (s : State) (p cs : Nat) (m : Bytes) : Bool :=
  (List.range (manWindows m).length).all (fun i => ((s.port p).win (32 * cs + i)).st == .loaded)
/-- The runtime extends the slot of a port with the manifest of an image and waits for the extend (R416). -/
@[noinline] def State.extendManifest (s : State) (p k : Nat) (m : Bytes) : State :=
  (s.askExtend { slot := 16 + p, type := 0x40, source := 0, late := false, info := k, data := sha384 (manSigned m), job := none }).extendAll
/-- Steps 3 and 4 of R607 on a port: whether the new binding is CONFIRMED and its windows are LOADED. -/
@[noinline] def State.activate (s : State) (p k : Nat) (m : Bytes) (nodes blocks : List Bytes) : State × Bool :=
  let at0 := s.slotBase p k
  let s := s.freed
  let b := match s.classBind p k with
    | some i => i
    | none => ((List.range 8).find? (fun i => ((s.port p).bind i).st == .empty)).getD 0
  let old := ((s.port p).bind b).cfg
  let s := (s.setReg (fp p 3 0x50) (wd b)).bindUnbind p
  let s := (List.range 64).foldl (fun s w => s.winApply p w) s
  let s := (s.exchange p k).setSubst p k ((s.port p).substClr k) false
  let s := ((s.bindImage p b k old at0.1 at0.2 m).bindWrite 0 p).bindLoad 0 p
  let n := ((s.port p).bind b).pinCount
  let s := (nodes.take n).foldl (fun s x => s.treeNode p b x) s
  let s := if ((s.port p).bind b).st = .loaded then s.extendManifest p k m else s
  let s := s.bindConfirm 0 p
  let r := (List.range (manWindows m).length).foldl (fun (a : State × List Bytes × List Bytes) i =>
      let w := (manWindows m).getD i (0, 0)
      a.1.loadWindow p b (32 * at0.2 + i) w.1 w.2 a.2.1 a.2.2) (s, blocks, nodes.drop n)
  (r.1, ((r.1.port p).bind b).st == .confirmed && r.1.windowsOk p at0.2 m)
/-- The class serves an image of a version in this boot (R611): one more than the version is held. -/
@[noinline] def State.serves (s : State) (k v : Nat) : State :=
  s.modBoot (fun b => { b with served := SMap.set (fun _ => 0) b.served k (v + 1), good := SMap.set (fun _ => none) b.good k none,
                               counted := SMap.set (fun _ => false) b.counted k false })
/-- What the runtime reads for the ports of a class. -/
def scanAll (x : ClassScan) : List PortScan := x.toPortScan :: x.others.filter (fun y => y.port != x.port)
/-- The ports of a class with the manifest of their newer slot (R607 step 2). -/
def State.newerPorts (s : State) (k : Nat) (scan : ClassScan) : List (PortScan × Bytes) :=
  ((scanAll scan).filter (fun x => s.portClass x.port.val k)).filterMap (fun x => (s.newer x.port.val k x.manA x.manB).map (fun m => (x, m)))
/-- Steps 3 and 4 of R607 on each of those ports. -/
@[noinline] def State.activateAll (s : State) (k : Nat) (l : List (PortScan × Bytes)) : State × Bool :=
  l.foldl (fun a x => let r := a.1.activate x.1.port.val k x.2 x.1.nodes x.1.blocks
    (r.1, a.2 && r.2)) (s, true)
/-- Steps 1 to 5 of R607 on the ports that have a newer slot. DEDUCED (log 121): a slot whose binding or window fails is no valid slot, so the
command ends with STATE_FORBIDS, and, as R478 has it, without effect. -/
@[noinline] def State.activateRun (s : State) (k : Nat) (l : List (PortScan × Bytes)) (version : Nat) (j : EnvJob) : State :=
  let lines := s.classLines k
  let r := (s.holdLines lines).activateAll k l
  if r.2 then ((r.1.freeLines lines).serves k version).cmdEnd j stOk
  else ({ s with freeCtr := r.1.freeCtr }).cmdEnd j stStateForbids
/-- IMAGE_ACTIVATE (R478, R496, R606, R607). -/
@[noinline] def State.cmdActivate (s : State) (scan : ClassScan) (j : EnvJob) : State :=
  let k := Bytes.num j.payload 0 1
  if !allZero (Bytes.slice j.payload 1 3) then s.cmdEnd j stBadOpcode
  else if k = 0 ∨ 64 ≤ k ∨ s.classPorts k = [] then s.cmdEnd j stStateForbids
  else if s.inRecovery k then s.cmdEnd j stBusy
  else match s.newerPorts k scan with
    | [] => s.cmdEnd j stStateForbids
    | x :: t => s.activateRun k (x :: t) (manSecVersion x.2) j
/-- CMD_IMAGE_ACTIVATE (R607); what the runtime reads from flash comes with it. -/
def execCmdImageActivate (scan : ClassScan) (s : State) : Res := .next (s.command 5 (fun s j => s.cmdActivate scan j))

/-! ### RECOVER frames -/

/-- A RECOVER object from the root waits in the receive buffer with an ACTION and a class (R555, R620). -/
def State.recovers (s : State) (action : Nat) (cls : Option Nat) : Bool :=
  s.boot.rtReleased && s.coreUp && s.cvn.rxFull && s.cvn.rxFunc == 6 && s.cvn.rxSrc == 1 && Bytes.num s.rxObject 0 1 == action &&
  (match cls with | none => true | some k => Bytes.num s.rxObject 1 1 == k)
/-- RECOVER_HOLD (R620): the lines of the class stay requested until the next boot. -/
@[noinline] def State.recoverHold (s : State) (k : Nat) : State :=
  (s.modPrst (fun p => { p with recoverHold := p.recoverHold ||| lineBits (s.classLines k) })).holdLines (s.classLines k)
/-- RECOVER_HOLD (R620). -/
def execRecoverHold (cls : Fin 64) (s : State) : Res :=
  .next (if s.recovers 1 (some cls.val) then s.recoverHold cls.val else s)
/-- SUBST_CTRL.SET for a class on every port of it, its lines held (R263, R617). -/
@[noinline] def State.recoverSubst (s : State) (k : Nat) : State :=
  (s.classPorts k).foldl (fun s p => s.setSubst p k ((s.port p).substSet k false) true)
    ((s.classLines k).foldl State.recovLine (s.holdLines (s.classLines k)))
/-- RECOVER_SUBSTITUTE (R617, R620). -/
def execRecoverSubstitute (cls : Fin 64) (s : State) : Res :=
  .next (if s.recovers 2 (some cls.val) then s.recoverSubst cls.val else s)
/-- The runtime as the source of an envelope that came over Caravan. -/
def rackSrc : JobSrc := { issuer := 0x45, ring := 255, slot := 0, tag := 0, cqFail := false }
/-- An envelope that came in a RECOVER object joins the order if checks 1 to 7 pass as on queue 1; no completion is written. -/
@[noinline] def State.recoverRestore (s : State) (env : Bytes) : State :=
  let d : Desc := [0, 0, 0, 0, 0, 0, wd env.length, 0, 0, 0, 0, 0, 0, 0, 0, 0]
  let io : JobIo := { data := env, list := [], fault := false, aux := [], auxFault := false, writeFault := false }
  if s.tamp.responded || s.exhausted || eCmd env != 5 || (s.envCheck1 false d io).1 != stOk then s
  else s.envJoin { envJob rackSrc d env with mctp := false, quiet := true }
/-- RECOVER_RESTORE (R620): the object's payload is an IMAGE_ACTIVATE envelope. -/
def execRecoverRestore (cls : Fin 64) (env : Bytes) (s : State) : Res :=
  .next (if s.recovers 3 (some cls.val) && s.rxObject.drop 8 == env then s.recoverRestore env else s)
/-- RECOVER_REPORT (R543, R620): the node's record goes to the root. -/
def execRecoverReport (s : State) : Res :=
  .next (if s.recovers 4 none then
    s.sendRecover1 1 (leBytes 4 4 ++ zeros 4 ++ s.nodeRec s.cvn.epoch.toNat) else s)

/-! ### Records of harts and the DRBG -/

/-- Address of a register of FLR page 1. -/
def aFlr1 (off : Nat) : Nat := pg 0x29 off
/-- Change the recorder. -/
@[noinline] def State.modFlr (s : State) (f : FlrState → FlrState) : State := { s with flr := f s.flr }
/-- A SEED record (R624); the seed input is not given, and so the digest over it is free. -/
@[noinline] def State.reseed (s : State) : State :=
  let s := { s with cel := { s.cel with reseeds := min 65535 (s.cel.reseeds + 1), drbgHealthy := true } }
  (s.flight 0x0A 0x42 (leBytes 4 s.cel.reseeds ++ zeros 4 ++ Config.freeBytes s.freeCtr 16)).freed
/-- DRBG_RESEED (R404, R624). DEDUCED (log 123): a seed taken leaves the DRBG healthy, and nothing makes it fail. -/
def execDrbgReseed (s : State) : Res := .next (if s.coreUp then s.reseed else s)
/-- A CHECKPOINT record (R624, R625); the output digest is over what the hart has sent, which no state here holds: free. -/
@[noinline] def State.checkpoint (s : State) (m : Master) (v : Word) : State :=
  (s.flight 0x0F m (leBytes 4 v.toNat ++ zeros 4 ++ Config.freeBytes s.freeCtr 16)).freed
/-- CHECKPOINT_WRITE (R624, R637); in a replay it is counted and reaches no register (R633). -/
def execCheckpointWrite (m : Master) (v : Word) (s : State) : Res :=
  .next (if s.flr.replay = .running ∧ isHart m then s.modFlr (fun f => { f with checkpoints := min 65535 (f.checkpoints + 1) })
    else s.guarded m (aFlr1 0x44) (fun s => s.checkpoint m v))

/-! ### Sealed export -/

/-- Put a record at its place by SEQ. -/
def recInsertSeq (l : List FlrRec) (r : FlrRec) : List FlrRec :=
  match l with
  | [] => [r]
  | x :: t => if r.seq < x.seq then r :: x :: t else x :: recInsertSeq t r
/-- The records that an export covers, in SEQ order (R627). -/
def FlrState.covered (f : FlrState) : List FlrRec := (f.boot ++ f.tamper.toList ++ f.ring).foldl recInsertSeq []
/-- A leg under a key (R629): KIND, the sealed data key and its tag, and a further ciphertext. -/
def expLeg (kind : Nat) (key dk more : Bytes) : Bytes :=
  let iv := leBytes 1 kind ++ zeros 11
  let c := gcmSeal key iv [] dk
  leBytes 1 kind ++ zeros 15 ++ c.1 ++ c.2 ++ more
/-- REC_KEY names a live AES256 context with ENCRYPT and OWNER 0 (R629). -/
def State.recKey (s : State) : Option Bytes :=
  let r := s.keyFor 0 (s.reg (aFlr1 0x48)) (some 0)
  if r.1 = stOk ∧ r.2.type = 1 then some r.2.material else none
/-- Sealing the owner leg takes one use of REC_KEY (R389). -/
@[noinline] def State.recUse (s : State) : State :=
  if s.recKey.isSome then
    let u := s.takeUse (s.reg (aFlr1 0x48))
    if u.2 then u.1.lastUse (s.reg (aFlr1 0x48)) else u.1
  else s
/-- The legs of an export and their LEGS bits, under a nonce, a data key and a draw (R629). -/
def State.legs (s : State) (nonce dk r : Bytes) : Bytes × Nat :=
  let own := match s.recKey with | some k => (expLeg 2 k dk [], 2) | none => ([], 0)
  match s.cel.flrvSeed with
  | some v => (expLeg 1 (kdf v nonce "MX-FLRE") dk [] ++ own.1, 1 + own.2)
  | none =>
    let pub := Config.take 1568 Config.romRecorderKeyByte
    (own.1 ++ expLeg 3 (kdf (Config.take 32 (Config.kemSecretByte pub r)) nonce "MX-FLRK") dk (Config.take 1568 (Config.kemCtByte pub r)),
     own.2 + 4)
/-- The Ebeth record (R628, R629) from the draws of an export. -/
def State.ebeth (s : State) (nonce dk r : Bytes) : Bytes × Nat :=
  let l := s.flr.covered
  let body := l.flatMap FlrRec.bytes
  let rel : Bytes := match l.find? (fun x => x.type == 2) with | some x => Bytes.fit x.body 48 | none => zeros 48
  let g := s.legs nonce dk r
  let first := match l with | x :: _ => x.seq | [] => 0
  let hdr := leBytes 4 0x48544245 ++ leBytes 2 1 ++ leBytes 1 g.2 ++ s.lc ++ s.unitId ++ leBytes 4 first ++ leBytes 4 (s.flr.nextSeq - 1) ++
    leBytes 4 body.length ++ leBytes 4 s.flr.lost.toNat ++ nonce ++ rel ++ zeros 16
  let c := gcmSeal dk (zeros 12) (hdr ++ g.1) body
  (hdr ++ g.1 ++ c.1 ++ c.2, g.2)
/-- Masters that may start an export (R627). -/
def State.expMay (s : State) (m : Master) : Bool :=
  let st := s.fldOf aStage 7 0
  m == 0 || ((m == 0x10 || m == 0x20) && (st == 0x0E || st == 0x0F || s.tamp.responded)) || (m == jtag && (s.right 3 || s.boot.halted))
/-- An export starts (R627 to R630): what it covers is fixed, and the record is sealed. -/
@[noinline] def State.expStart (s : State) (m : Master) (win : Bool) : State :=
  let nonce := s.draw 32
  let s := s.drew
  let dk := s.draw 32
  let s := s.drew
  let x := s.ebeth nonce dk (s.draw 32)
  let s := (if s.cel.flrvSeed = none then s.drew else s).recUse
  (s.modFlr (fun f => { f with exp := .running, expCode := 0, expMaster := m, expWin := win, expLegs := x.2,
                               expData := x.1, expPos := 0, expTamper := f.tamper.isSome })).setReg (aFlr1 0x5C) (wd x.1.length)
/-- The effect of EXP_CTRL.START_DMA or START_WIN. -/
@[noinline] def State.expGo (s : State) (m : Master) (win : Bool) : State :=
  s.when m (aFlr1 0x4C) (s.expMay m && s.flr.exp != .running) (fun s => s.expStart m win)
/-- EXPORT_START_DMA (R627). -/
def execExportStartDma (m : Master) (s : State) : Res := .next (s.guarded m (aFlr1 0x4C) (fun s => s.expGo m false))
/-- EXPORT_START_WIN (R627). -/
def execExportStartWin (m : Master) (s : State) : Res := .next (s.guarded m (aFlr1 0x4C) (fun s => s.expGo m true))
/-- The effect of EXP_CTRL.ABORT (R630). -/
@[noinline] def State.expAbort (s : State) : State := if s.flr.exp = .running then s.expFail stAborted else s
/-- EXPORT_ABORT (R630). -/
def execExportAbort (m : Master) (s : State) : Res := .next (s.guarded m (aFlr1 0x4C) (fun s => s.expAbort))
/-- The last byte has been written or read (R630): DONE, EXPORT_DONE, and EXPORTED where a pinned TAMPER record was covered. -/
@[noinline] def State.expDone (s : State) : State :=
  let s := (s.modFlr (fun f => { f with exp := .done, expData := [] })).count (evFlr 1)
  if s.flr.expTamper then s.modTamp (fun t => { t with exported := true }) else s
/-- EXP_DATA is read by the master that runs an export through the window (R627). -/
def State.expReads (s : State) (m : Master) : Bool := s.flr.exp == .running && s.flr.expWin && s.flr.expMaster == m
/-- EXP_DATA (R627): the next word for the master that started the export. DESIGN CHOICE (log 128): 0 for any other, and outside an export by
window. -/
def State.expWord (s : State) (m : Master) : Word :=
  if s.expReads m then wd (leNat (Bytes.slice s.flr.expData s.flr.expPos 4)) else 0
/-- A read of EXP_DATA moves on, and the last one ends the export (R627, R630). -/
@[noinline] def State.expStep (s : State) (m : Master) : State :=
  if s.expReads m then
    let pos := s.flr.expPos + 4
    let fin := decide (s.flr.expData.length ≤ pos)
    let s := s.modFlr (fun f => { f with expPos := pos })
    if fin then s.expDone else s
  else s
/-- EXP_ADDR. -/
def State.expAddr (s : State) : Nat := (s.reg (aFlr1 0x50)).toNat + 2 ^ 32 * (s.reg (aFlr1 0x54)).toNat
/-- The DMA of an export ends (R627, R630). -/
@[noinline] def State.expDma (s : State) (ok : Bool) : State :=
  if ok then (s.hostWrite 0x10 s.expAddr s.flr.expData).expDone else s.expFail stLengthShort
/-- EXPORT_DONE (R630): an export by window ends with its last read, one by DMA here. -/
def execExportDone (ok : Bool) (s : State) : Res :=
  .next (if s.flr.exp = .running ∧ !s.flr.expWin then s.expDma ok else s)

/-! ### Replay -/

/-- ENTER is accepted (R632). -/
def State.replayMay (s : State) (m : Master) : Bool :=
  m == 0 && s.lcf.eff == some .ret && s.right 7 && s.reg (aFlr1 0x70) != 0
/-- The effect of REPLAY_CTRL.ENTER (R632): PENDING, and a device reset that keeps it. -/
@[noinline] def State.replayGo (s : State) (m : Master) : State :=
  s.when m (aFlr1 0x64) (s.replayMay m) (fun s =>
    ((s.modFlr (fun f => { f with replay := .pending })).modPwr (fun p => { p with replayReset := true })).resetGo)
/-- REPLAY_ENTER (R632). -/
def execReplayEnter (m : Master) (s : State) : Res := .next (s.guarded m (aFlr1 0x64) (fun s => s.replayGo m))
/-- Every hart is halted as a replay stops (R634). -/
@[noinline] def State.haltHarts (s : State) : State :=
  (List.range 5).foldl (fun s h => let x := s.hart h
    if x.st = .halted then s else s.setHart h { x with st := .halted, haltedFrom := x.st }) s
/-- A replay stops (R634). -/
@[noinline] def State.replayStop (s : State) (r : ReplayState) : State := (s.modFlr (fun f => { f with replay := r })).haltHarts
/-- REPLAY_DIVERGE (R634): DIVERGED is counted; which record it was, the stream says, which is not held here: free. -/
def execReplayDiverge (s : State) : Res :=
  .next (if s.flr.replay = .running ∧ s.coreUp then
    ((s.replayStop .diverged).modFlr (fun f => { f with diverge := Config.freeWord s.freeCtr })).freed.count (evFlr 3) else s)
/-- REPLAY_END (R634). -/
def execReplayEnd (s : State) : Res := .next (if s.flr.replay = .running ∧ s.coreUp then s.replayStop .done else s)

/-! ### Line timers -/

/-- What a firing does beyond its event (R328): a sweep epoch, or a MARK record. -/
@[noinline] def State.timerDest (s : State) (t : Nat) (x : Timer) : State :=
  if x.dest = 1 then (if s.coreUp then s.cvnFire else s)
  else if x.dest = 2 then s.flight 0x0E 0x47 (leBytes 1 t ++ leBytes 1 x.mark ++ zeros 6)
  else s
/-- A line timer fires (R328, R599): TMRt_LAST, TIMER_FIRED, DEST; a periodic one moves on by its period. -/
@[noinline] def State.timerFire (s : State) (t : Nat) : State :=
  let x := s.timer t
  let s := s.setTimer t (if x.period = 0 then { x with st := .fired } else { x with hc := (x.hc + x.period) % 2 ^ 32 })
  (((s.setReg (aCis1 (0x8C + 16 * t)) (wd s.cis.hc)).count (evCis 9)).timerDest t x).wake 2
/-- LINE_TIMER_FIRE (R328). -/
def execLineTimerFire (t : Fin 8) (s : State) : Res :=
  .next (if s.pwr.aonValid && (s.timer t.val).st == .armed && s.reached (s.timer t.val).hc (s.timer t.val).lu then s.timerFire t.val else s)

/-! ### Board events -/

/-- An event that the SYS block counts while the core domain runs. -/
@[noinline] def State.sysEvent (s : State) (k : Nat) : State := if s.coreUp then s.count (evSys k) else s
/-- SRAM_CORRECTED_ERROR (R88). -/
def execSramCorrectedError (double : Bool) (s : State) : Res := .next (s.sysEvent (if double then 7 else 6))
/-- PLL_UNLOCK (R88). -/
def execPllUnlock (s : State) : Res := .next (s.sysEvent 10)
/-- REFCLK_LOSS (R88). -/
def execRefclkLoss (s : State) : Res := .next (s.sysEvent 11)
/-- FABRIC_TIMEOUT (R88). -/
def execFabricTimeout (s : State) : Res := .next (s.sysEvent 9)

end Sys2Proof.Machine
end

