-- ==== Sys2Proof/Machine/RegRead.lean ====
section
/-! DEFINITION. What a 32-bit read of a register word returns (R29) and the effects of the reads that have one (R35, R36): page
headers (R22 to R28), and the block registers whose values the state decides; every other register returns what it holds. -/
namespace Sys2Proof.Machine

/-- A word of 32 flags. -/
def wordOf (f : Nat → Bool) : Word := ((List.range 32).map (fun i => flg (f i) i)).foldl (· ||| ·) 0
/-- A buffered value waits on a page (R27, R49, R191). -/
def State.pendingUpdate (s : State) (page : Nat) : Bool :=
  s.buf.any (fun e => e.1 / 4096 == page && e.2.isSome) || s.slowDue.any (fun e => e.1 / 4096 == page && e.2.isSome)
/-- PAGE_GROUP.UGROUP of a page. -/
def State.ugroup (s : State) (page : Nat) : Nat := s.fldOf (pg page 0x14) 12 8
/-- The buffered pages (R78). -/
def bufferedPages : List Nat :=
  [0x2C, 0x2D] ++ (List.range 16).map (0x40 + ·) ++ (List.range 16).flatMap (fun n => [0x80 + 4 * n, 0x83 + 4 * n])
/-- A header word (R22). -/
def State.rdHead (s : State) (page : Nat) (i : PageInfo) (off : Nat) : Word :=
  match off with
  | 0x10 => flg (s.postedAt page).isSome 0 ||| flg (s.pendingUpdate page) 1
  | 0x20 => wordOf (fun n => decide (n < i.nsrc) && (s.evt (i.src0 + n)).pending)
  | 0x28 => 0
  | o => s.reg (pg page o)
/-- EC and EA words (R64). -/
def State.rdEvt (s : State) (i : PageInfo) (off : Nat) : Word :=
  let e := s.evt (i.src0 + (off - i.evtOff) / 8)
  if (off - i.evtOff) % 8 = 0 then wd e.count.toNat ||| flg e.ovf 16 else wd e.ack.toNat
/-- The offset is one of the event words of the page. -/
def PageInfo.isEvt (i : PageInfo) (off : Nat) : Bool := decide (i.evtOff ≤ off) && decide (off < i.evtOff + 8 * i.nsrc)

/-! ### System pages -/

/-- SYS pages 0, 1 and 2 (R48, R70, R82). -/
def State.rdSys (s : State) (k : PageKind) (off : Nat) : Word :=
  match k with
  | .sysId => if off = 0x48 then wd (leNat (s.unitId.take 4)) else if off = 0x4C then wd (leNat (s.unitId.drop 4)) else s.reg (pg 0 off)
  | .sysStrobe =>
    if off = 0x44 then wordOf (fun g => bufferedPages.any (fun p => s.ugroup p == g && s.pendingUpdate p))
    else if off = 0x5C then wd s.arm.st.code else s.reg (pg 1 off)
  | .sysSem =>
    if off = 0x140 then wordOf (fun n => (s.sem n).isSome)
    else if off = 0x144 then wordOf (fun n => (s.sem (32 + n)).isSome)
    else semValue (s.sem ((off - 0x40) / 4))
  | .sysRouter =>
    let j := (off - 0x40) / 4
    let vec (ty f v : Nat) : Bool := (List.range 352).any (fun src => s.asserted src && routeType (s.route src) == ty &&
      (ty == 2 || routeFunc (s.route src) == f) && routeVec (s.route src) == v)
    if off < 0x6C then wordOf (fun i => s.asserted (32 * j + i))
    else if off = 0x98 then wordOf (fun v => vec 2 0 v)
    else if off = 0x9C then wordOf (fun v => vec 2 0 (32 + v))
    else if off = 0xA0 then wordOf (fun b => vec 3 (1 + b / 4) (b % 4))
    else if off = 0xA4 then wordOf (fun b => decide (b < 28) && vec 3 (9 + b / 4) (b % 4))
    else 0
  | _ => 0
/-- The delivery page of hart `h` (R97). -/
def State.rdSysHart (s : State) (h off : Nat) : Word :=
  if off < 0x6C then
    wordOf (fun i => let k := 32 * ((off - 0x40) / 4) + i
      s.asserted k && routeType (s.route k) == 1 && routeFunc (s.route k) == h)
  else match off with
    | 0x70 => s.htop h
    | 0x74 => flg (s.hline h) 0
    | _ => s.reg (pg (11 + h) off)

/-! ### Always-on pages -/

/-- LCF page 0 (R363): TRIM_LEFT and the keys of FUSE_STATUS from the fuse fields; ROOT_SET while the UDS field holds a blown bit. -/
def State.rdLcf0 (s : State) (off : Nat) : Word :=
  if 0x50 ≤ off ∧ off < 0x70 then wd (Bytes.num s.lcf.nonce (off - 0x50) 4)
  else match off with
    | 0x40 => s.lcReg
    | 0x44 => wd s.lcPrecond
    | 0x4C => s.rightsReg
    | 0x74 => wd (s.policy % 2 ^ 32)
    | 0x78 => wd (s.policy / 2 ^ 32)
    | 0x7C => wd s.revoked
    | 0xC0 =>
      fld s.trimLeft.length 0 ||| flg (!allZero (s.signerHash 4)) 8 ||| flg (!allZero (s.signerHash 5)) 9 |||
      flg (!allZero s.unitId) 10 ||| flg (!allZero (s.fuseBytes 32 32)) 11
    | _ => s.reg (aLcf0 off)
/-- LCF page 1 (R365). -/
def State.rdLcf1 (s : State) (off : Nat) : Word :=
  match off with
  | 0x44 => wd s.lcf.granted.toNat
  | 0x50 => s.fuseRead
  | _ => s.reg (aLcf1 off)
/-- The STATE number of the staging window (R129). -/
def RelState.num (r : RelState) : Nat :=
  match r with | .idle => 0 | .owned => 1 | .checking => 2 | .awaitLock => 3 | .done => 4 | .refused => 5
/-- BOOT page 1 (R129). -/
def State.rdBoot1 (s : State) (off : Nat) : Word :=
  match off with
  | 0x44 => wd s.boot.owner.toNat
  | 0x4C => wd s.boot.man.length
  | 0x50 => wd s.boot.bodyCount
  | 0x58 => fld s.boot.rel.num 0 ||| fld s.boot.relCode.toNat 8 ||| fld s.boot.relCheck 16
  | 0x5C => flg s.cel.closeSecret 0 ||| flg s.cel.lockCdi 1
  | _ => s.reg (aBoot1 off)
/-- CIS page 0 (R331, R333): before the first accepted crossing no period is known and LINE_PERIOD reads its reset value 0. -/
def State.rdCis0 (s : State) (off : Nat) : Word :=
  match off with
  | 0x44 => s.lineStatus
  | 0x48 => wd s.cis.hc
  | 0x4C => fld s.cis.lu 0 ||| fld (s.cis.era % 65536) 16
  | 0x50 => if s.cis.locked then wd (s.cis.period % 2 ^ 24) else 0
  | 0x54 => fld (unsigned 16 (clampInt (-32768) 32767 s.cis.phaseErr)) 0 ||| fld (min 65535 s.cis.width) 16
  | 0x68 => wd s.cis.seed
  | 0x6C => fld (unsigned 16 (clampInt (-32768) 32767 s.cis.bOffset)) 0 ||| flg (decide (16 ≤ s.cis.bCount)) 16
  | _ => s.reg (aCis0 off)
/-- ADM_STATUS (R334). -/
def State.admStatus (s : State) : Word :=
  let run := match s.cis.inflight with
    | some i => flg true 0 ||| fld (s.adm i).cls 1 ||| fld i 8
    | none => 0
  run ||| fld ((List.range 32).filter (fun i => (s.adm i).st == .waiting)).length 16 ||| flg s.winOpen 24 |||
  flg (s.fits 0) 25 ||| flg (s.fits 1) 26 ||| flg (s.fits 2) 27 ||| flg (s.fits 3) 28 ||| flg s.cis.blocked 31
/-- Q_INFO of entry `i` (R334). -/
def State.admInfo (s : State) (i : Nat) : Word :=
  let e := s.adm i
  match e.st with
  | .empty => 0
  | st => fld (if st = .waiting then 1 else 2) 0 ||| fld e.cls 2 ||| flg (s.admReady i) 4 ||| fld (min 65535 (s.hcSince e.since)) 16
/-- CIS page 1 (R334). -/
def State.rdCis1 (s : State) (off : Nat) : Word :=
  match off with
  | 0x50 => fld s.cis.code 0 ||| fld s.cis.trough 16
  | 0x54 => s.huEst
  | 0x60 => s.admStatus
  | 0x70 => s.admInfo (s.fldOf (aCis1 0x6C) 4 0)
  | 0x104 => ((List.range 8).map (fun t => fld (s.timer t).st.code (2 * t))).foldl (· ||| ·) 0
  | _ => s.reg (aCis1 off)
/-- A measured value of TAMP page 0 (R602): 0 at the moment of reset, then free, since no command brings a temperature or a battery voltage. -/
def State.measured (s : State) : Word := if s.clk = s.pwr.pwrOkAt then 0 else Config.freeWord s.freeCtr
/-- TAMP page 0 (R602). -/
def State.rdTamp0 (s : State) (off : Nat) : Word :=
  let t := s.tamp
  match off with
  | 0x40 => t.status
  | 0x44 => wd t.live.toNat
  | 0x48 => wd t.cause.toNat
  | 0x4C => t.time
  | 0x50 => t.record
  | 0x54 => t.batTime
  | 0x58 => wd t.rearms
  | 0x5C => s.measured &&& 0x0FFF0FFF
  | 0x60 => s.measured &&& 0xFFF
  | 0x64 => fld (if s.pwr.power = .standby then 1 else 0) 0 ||| flg s.pwr.pending.isSome 4 ||| fld s.pwr.refuse.toNat 8
  | 0x68 => match s.pwr.wakeLast with | some b => fld b 0 ||| flg true 7 | none => 0
  | _ => s.reg (pg 0x1C off)
/-- TAMP page 1 (R604). -/
def State.rdTamp1 (s : State) (off : Nat) : Word :=
  match off with
  | 0x48 => wd s.tamp.loopArm.toNat
  | 0x50 => wd s.tamp.action
  | _ => s.reg (aTamp1 off)

/-! ### Cellar pages -/

/-- The STATE number of a Cellar slot (R386). -/
def SlotSt.num (t : SlotSt) : Nat := match t with | .free => 0 | .reserved => 1 | .loaded => 2 | .retired => 3
/-- Slots of a state among those that the store lists. -/
def State.slotCount (s : State) (f : SlotSt → Bool) : Nat := (s.cel.slots.filter (fun x => f x.2.st)).length
/-- WIPING (R404): the wipe of a transition runs (R353); that of a tamper response is one step, and leaves none to run. -/
def State.celWiping (s : State) : Bool := match s.lcf.transit with | some (_, .cellarWipe) => !s.cel.tampered | _ => false
/-- CEL page 0 (R404). -/
def State.rdCel0 (s : State) (off : Nat) : Word :=
  let q := s.slot (s.fldOf (pg 0x20 0x5C) 15 0)
  let gen (b : Nat) : Word := if bankValid (s.bank b) then wd (bankGen (s.bank b)) else 0
  match off with
  | 0x40 => flg s.celWiping 0 ||| flg s.cel.active.isSome 1 ||| fld (s.cel.active.getD 3) 2 ||| flg s.cel.tampered 4 ||| flg s.secretRight 5
  | 0x44 => wd (65536 - s.slotCount (fun t => t != .free))
  | 0x48 => wd (s.slotCount (fun t => t == .loaded || t == .reserved))
  | 0x4C => wd (s.slotCount (fun t => t == .retired))
  | 0x50 => gen 0
  | 0x54 => gen 1
  | 0x58 => wd (s.cel.ptr % 65536)
  | 0x60 => fld q.st.num 0 ||| fld q.ctx.domain 4 ||| fld q.ctx.type 8 ||| fld q.ctx.owner.toNat 16
  | 0x64 => wd q.gen
  | 0x68 => wd q.ctx.uses
  | 0x6C => wd s.cel.quotaLast.toNat
  | _ => s.reg (pg 0x20 off)
/-- CEL page 1 (R406): CDI_VALID while CDI0 stands, SEEDS_LOADED while the seeds do (R378, R380, R381). -/
def State.rdCel1 (s : State) (off : Nat) : Word :=
  match off with
  | 0x44 => flg s.cel.closeSecret 0 ||| flg s.cel.lockCdi 1
  | 0x48 =>
    flg s.cel.cdi0.isSome 0 ||| flg s.cel.devidSeed.isSome 1 ||| flg (!allZero (s.fuseBytes 32 32)) 2 ||| flg s.cel.kduJob.isSome 3 |||
    fld s.cel.kduErr.toNat 8
  | 0x88 => s.cel.kduBusy
  | _ => s.reg (pg 0x21 off)
/-- CEL page 2 (R407). -/
def State.rdCel2 (s : State) (off : Nat) : Word :=
  if 0xC0 ≤ off then wd (s.blobEpoch ((off - 0xC0) / 4)) else s.reg (pg 0x22 off)
/-- CEL page 3 (R408). -/
def State.rdCel3 (s : State) (off : Nat) : Word :=
  match off with
  | 0x40 => flg s.cel.drbgHealthy 0 ||| fld s.cel.reseeds 16
  | 0x44 => wd (min 255 (s.cel.ops.filter (fun o => o.pk)).length)
  | 0x48 => wd (s.cel.pkeDone % 2 ^ 32)
  | 0x4C => wd (s.cel.pkeDone / 2 ^ 32)
  | 0x50 => s.cel.unwrapOk
  | 0x54 => s.cel.unwrapBad
  | 0x58 => wd (s.cel.wrapSeq % 2 ^ 32)
  | _ => s.reg (pg 0x23 off)

/-! ### Recorder, platform reset, harts -/

/-- FLR page 0 (R635): BOOT_PINNED and BOOT_END once the boot section has ended. -/
def State.rdFlr0 (s : State) (off : Nat) : Word :=
  let f := s.flr
  match off with
  | 0x40 => flg true 0 ||| flg (!f.bootOpen) 1 ||| flg f.tamper.isSome 2 ||| flg (f.replay == .running) 3 ||| flg (f.exp == .running) 4
  | 0x44 => if f.bootOpen then 0 else wd (recBytes f.boot)
  | 0x48 => wd f.wrPtr
  | 0x4C => match f.ring with | r :: _ => wd r.seq | [] => 0
  | 0x50 => wd (f.records % 2 ^ 32)
  | 0x54 => wd (f.records / 2 ^ 32)
  | 0x58 => f.lost
  | 0x5C => f.diverge
  | _ => s.reg (pg 0x28 off)
/-- The STATE number of an export. -/
def ExpState.num (e : ExpState) : Nat := match e with | .idle => 0 | .running => 1 | .done => 2 | .failed => 3
/-- The STATE number of a replay. -/
def ReplayState.num (r : ReplayState) : Nat :=
  match r with | .off => 0 | .pending => 1 | .running => 2 | .done => 3 | .diverged => 4 | .failed => 5
/-- FLR page 1 (R637). -/
def State.rdFlr1 (s : State) (m : Master) (off : Nat) : Word :=
  match off with
  | 0x58 => fld s.flr.exp.num 0 ||| fld s.flr.expCode.toNat 8 ||| fld s.flr.expLegs 16
  | 0x60 => s.expWord m
  | 0x74 => fld s.flr.replay.num 0 ||| fld s.flr.checkpoints 16
  | _ => s.reg (aFlr1 off)
/-- The STATE number of the release sequencer. -/
def SeqState.num (q : SeqState) : Nat := match q with | .idle => 0 | .running => 1 | .stalled => 2 | .done => 3
/-- PRST page 0 (R143). -/
def State.rdPrst0 (s : State) (off : Nat) : Word :=
  match off with
  | 0x40 => wordOf (fun i => decide (i < 24) && s.lineHeld i)
  | 0x44 => wd (s.prst.holdReq ||| s.prst.recoverHold).toNat
  | 0x48 => wd s.prst.force.toNat
  | 0x50 => wd s.prst.pgood.toNat
  | 0x64 => wd s.prst.ready.toNat
  | 0x6C => fld s.prst.seq.num 0 ||| fld s.prst.slot 8
  | _ => s.reg (aPrst0 off)
/-- The level at a general-purpose pad (R658): what an output drives, else what is applied. -/
def State.gpPad (s : State) : Word :=
  let dir := s.reg (aPrst1 0x44)
  (s.reg (aPrst1 0x48) &&& dir) ||| (wd s.prst.gpIn.toNat &&& ~~~dir)
/-- PRST page 1 (R615, R658). -/
def State.rdPrst1 (s : State) (off : Nat) : Word :=
  if 0xC0 ≤ off ∧ off % 8 = 4 then
    flg (s.wdog ((off - 0xC0) / 8)).expired 0 ||| fld (s.wdog ((off - 0xC0) / 8)).expiries 8
  else match off with
    | 0x40 => s.gpPad
    | 0x58 => wd s.prst.gpWake.toNat
    | _ => s.reg (aPrst1 off)
/-- The STATE number of a hart (R509). -/
def HartSt.num (h : HartSt) : Nat :=
  match h with | .reset => 0 | .run => 1 | .parked => 2 | .gated => 3 | .halted => 4 | .stopped => 5
/-- The STATE number of a queue. -/
def QSt.num (q : QSt) : Nat := match q with | .disabled => 0 | .enabled => 1 | .draining => 2 | .error => 3
/-- Q_STATUS or RING_STATUS (R455): a DISABLED queue has no effective priority and reads the reset value; FENCE waits on relaxed queues and
rings only (R465, R467). -/
def State.qStatus (s : State) (q : Nat) : Word :=
  let x := s.queue q
  fld x.st.num 0 ||| flg x.phase 2 ||| flg (x.st == .enabled && x.sqHead != x.sqTail && !s.cqRoom q) 3 |||
  flg (decide (2 ≤ q) && x.fetched.any (fun e => dfence e.desc && !x.mayStart q e && !e.started)) 4 ||| fld (if x.st = .disabled then 0 else s.eprio q) 5 ||| fld x.fetched.length 16
/-- Q_ERR or RING_ERR. -/
def State.qErrReg (s : State) (q : Nat) : Word := fld (s.queue q).cause 0 ||| fld (s.queue q).errSlot 16
/-- Page of hart `h` (R509). -/
def State.rdHart (s : State) (h off : Nat) : Word :=
  let x := s.hart h
  match off with
  | 0x40 => fld x.st.num 0 ||| fld x.wakeCause 8
  | 0x4C => fld x.resets 0 ||| fld x.lastReset 16
  | 0x60 => s.qStatus (64 + h)
  | 0x64 => s.qErrReg (64 + h)
  | 0x68 => s.mbxRx h
  | 0x6C => s.mbxTx h
  | 0x70 => x.wakes
  | _ => s.reg (aHart h off)
/-- The debug and bus-error page (R510). -/
def State.rdDbg (s : State) (off : Nat) : Word :=
  let h := s.harts
  match off with
  | 0x40 => wordOf (fun i => decide (i < 5) && (s.hart i).st == .halted) ||| flg h.attached 8
  | 0x48 => h.jdcTx
  | 0x4C => h.jdcRx
  | 0x50 => flg h.txFull 0 ||| flg h.rxFull 1
  | 0x54 => h.busAddr
  | 0x58 => h.busInfo
  | 0x5C => wd h.mismatches
  | _ => s.reg (aDbg off)

/-! ### Digest lanes and flash ports -/

/-- LANE_STATUS (R298): a lane marked for suspension is SWITCHING. A permanent context is owned by the master of its job. -/
def State.laneStatus (s : State) (n : Nat) : Word :=
  let l := s.lane n
  match l.job with
  | some j =>
    fld (if l.marked.isSome then 2 else 1) 0 ||| flg (s.laneResv n) 2 ||| fld j.alg 4 ||| fld j.ctx 8 ||| fld j.prio 16 |||
      fld j.src.issuer.toNat 24
  | none => fld (if s.bitOf (pg (0x40 + n) 0x40) 1 then 3 else 0) 0 ||| flg (s.laneResv n) 2
/-- POOL_STATUS (R297): FREE of the 222 general contexts; a job that waits behind another of its context is not ready. -/
def State.poolStatus (s : State) : Word :=
  let busy := (s.dgl.ctxs.filter (fun x => x.2.st != .free)).length
  fld (222 - busy) 0 ||| fld (s.dgl.ctxs.filter (fun x => x.2.st == .poisoned)).length 8 |||
  fld ((List.range 16).filter s.laneResv).length 16 ||| fld (min 255 s.eligible.length) 24
/-- The STATE number of a digest context (R282). -/
def DCtxSt.num (t : DCtxSt) : Nat :=
  match t with | .free => 0 | .idle => 1 | .queued => 2 | .running => 3 | .suspended => 4 | .poisoned => 5
/-- CTX_QINFO (R297): contexts 0 to 33 are PERMANENT; one with no job shows its reset value. -/
def State.ctxInfo (s : State) (i : Nat) : Word :=
  let c := s.dctx i
  let lane := (List.range 16).find? (fun n => (s.lane n).job.any (fun j => j.ctx == i))
  let job := s.digJobs.find? (fun j => j.ctx == i)
  (if i < 34 then 6 ||| (match job with | some j => fld j.alg 4 ||| fld j.src.issuer.toNat 16 | none => 0)
   else fld c.st.num 0 ||| fld c.alg 4 ||| fld c.gen 8 ||| fld c.owner.toNat 16) |||
  (match job with | some j => fld j.prio 24 | none => 0) ||| (match lane with | some n => fld n 27 ||| flg true 31 | none => 0)
/-- ISSUER_QINFO (R281, R297). -/
def State.issuerInfo (s : State) (m : Master) : Word :=
  fld (min 255 (s.ctxHeld m)) 0 ||| fld ((ctxLimit m).getD 0xFF) 8 |||
  fld (min 65535 (s.dgl.ready.filter (fun j => j.src.issuer == m)).length) 16
/-- A lane page (R297): ISSUER_QINFO reads its reset value until an issuer is named. -/
def State.rdDgl (s : State) (n off : Nat) : Word :=
  match off with
  | 0x44 => s.laneStatus n
  | 0x70 => s.poolStatus
  | 0x78 => s.ctxInfo (s.fldOf (pg (0x40 + n) 0x74) 7 0)
  | 0x80 => if s.dgl.asked.getLsbD n then s.issuerInfo (BitVec.ofNat 8 (s.fldOf (pg (0x40 + n) 0x7C) 7 0)) else 0
  | _ => s.reg (pg (0x40 + n) off)
/-- PORT_STATUS (R188): a flash is known to be busy while a device-originated program or erase runs on it. DESIGN CHOICE (log 107): STATE shows OFF
while EN is 0, while a discovery that R183 allows runs there too. -/
def State.portStatus (s : State) (p : Nat) : Word :=
  let q := s.port p
  let st := if !s.portEn p then 0 else if s.portFault p then 3 else if q.discSt0 = 1 ∨ q.discSt1 = 1 then 2 else 1
  fld st 0 ||| fld q.bank 2 ||| flg q.mcs.isSome 4 ||| flg (s.devOp p == some 0) 8 ||| flg (s.devOp p == some 1) 9
/-- One chip select of MVIEW. -/
def MView.num (v : MView) : Nat := v.wel.toNat + 2 * v.pFail.toNat + 4 * v.eFail.toNat
/-- One chip select of CUR_MODE. -/
def FMode.num (f : FMode) : Nat := f.code + 16 * f.addr4.toNat
/-- The CTRL and PHY page of a port (R185): EFFECTIVE reads its reset value 0 while the port is off. -/
def State.rdPhy (s : State) (p off : Nat) : Word :=
  let q := s.port p
  match off with
  | 0x44 => s.portStatus p
  | 0x50 => fld q.mode0.num 0 ||| fld q.mode1.num 8
  | 0x58 => fld (if s.portEn p then s.addDummy p (s.portMhz p) else 0) 0 ||| fld q.needed 8
  | 0x6C => fld q.view0.num 0 ||| fld q.view1.num 8
  | 0x74 => flg q.grant0 0 ||| flg q.grant1 1
  | 0x7C => fld q.discSt0 0 ||| fld q.discSt1 4
  | 0x80 => wd (leNat (q.id0.take 3))
  | 0x84 => wd (leNat (q.id1.take 3))
  | 0x8C => fld q.sfdp0.length 0 ||| fld q.sfdp1.length 16
  | 0x98 => s.sfdpWord p
  | _ => s.reg (fp p 0 off)
/-- The command-table window (R211): reserved bits of the words read 0, though a WRITE checks them (R7, R202). -/
def State.rdCt (s : State) (p off : Nat) : Word :=
  let q := s.port p
  if off = 0x50 then
    flg q.ctSwap 0 ||| fld (s.fldOf (fp p 1 0x50) 7 4) 4 ||| fld ((List.range 64).filter (fun i => eValid (ctGet q.ctS i))).length 16
  else s.reg (fp p 1 off) &&& (if off = 0x44 then 0x803FFFFF else if off = 0x48 then 0xFFFFFF else 0xFFFFFFFF)
/-- Words of a write-queue descriptor (R220). DESIGN CHOICE (log 112): all four read 0 of a FREE entry. -/
def WqEntry.word (e : WqEntry) (w : Nat) : Word :=
  if e.st = .free then 0
  else match w with
    | 0 => fld e.type 0 ||| fld e.st.num 2 ||| fld e.cs 5 ||| flg e.trunc 6 ||| flg e.commit 7 ||| fld e.entry 8 |||
           flg e.region.isNone 14 ||| fld (e.region.getD 0) 16 ||| fld (e.seq % 256) 24
    | 1 => wd e.addr
    | 2 => fld e.data.length 0 ||| fld e.size 10 ||| (if e.ended then fld e.result.toNat 16 else 0)
    | _ => e.mcmd
/-- WQ_STATUS (R212, R228). -/
def State.wqStatus (s : State) (p : Nat) : Word :=
  let l := (s.port p).wqAll
  fld l.length 0 ||| fld (l.filter (fun x => x.2.st == .captured)).length 8 ||| flg (l.any (fun x => x.2.st == .running)) 16 |||
  flg ((s.adm p).st == .waiting) 17 ||| flg (l.any (fun x => x.2.st == .applied && !(s.port p).granted x.2.cs)) 18 |||
  flg (l.length == 64) 19 ||| fld (s.fldOf (fp p 2 0x70) 31 24) 24
/-- The region-table window (R212). -/
def State.rdRt (s : State) (p off : Nat) : Word :=
  let q := s.port p
  if 0x78 ≤ off ∧ off < 0x88 then (q.wqe (s.wqIdx p)).word ((off - 0x78) / 4)
  else match off with
    | 0x5C =>
      flg q.rtSwap 0 ||| fld (s.fldOf (fp p 2 0x5C) 7 4) 4 ||| fld ((List.range 256).filter (fun i => eValid (rtGet q.rtS i))).length 16
    | 0x60 => flg (q.writable 0) 0 ||| flg (q.mediate 0) 1 ||| flg (q.writable 1) 2 ||| flg (q.mediate 1) 3
    | 0x70 => s.wqStatus p
    | _ => s.reg (fp p 2 off)
/-- SCRUB_STATUS (R236): the flash block that the scrubber stands at. -/
def State.scrubReg (s : State) (p : Nat) : Word :=
  let q := s.port p
  let e := q.rg q.scrub.region
  let b := q.mapBase q.scrub.region (rgCs e) (rgCs e)
  if q.scrub.run then fld (b.2 + q.scrub.off) 0 ||| fld b.1 16 else 0
/-- The VERIFY/STATS page (R236): reserved bits of the window words read 0, though a WRITE checks them (R7, R269). -/
def State.rdVer (s : State) (p off : Nat) : Word :=
  let q := s.port p
  let loaded (lo : Nat) : Word := wordOf (fun w => (q.win (lo + w)).st == .loaded)
  if 0xFC ≤ off ∧ off ≤ 0x110 then (q.covWords (s.fldOf (fp p 3 0xF8) 7 0)).getD ((off - 0xFC) / 4) 0
  else match off with
    | 0x44 => s.verStatus p
    | 0x88 =>
      let x := s.curBind p
      fld x.st.num 0 ||| fld (s.fldOf (fp p 3 0x88) 7 4) 4 |||
      (((List.range 8).map (fun b => flg ((q.bind b).st != .empty) (8 + b))).foldl (· ||| ·) 0) ||| fld x.nodes 16
    | 0x8C => fld (4096 - s.pinnedNodes) 0 ||| fld (s.cache.filter (fun n => n.pinned && n.port == p)).length 16
    | 0xA0 =>
      let x := s.curWin p
      fld x.st.num 0 ||| fld x.reject 4 ||| flg x.dropped 8 ||| fld x.failBlk 16
    | 0x94 => s.reg (fp p 3 0x94) &&& 0x1FFFFFF
    | 0x98 => s.reg (fp p 3 0x98) &&& 0x703FF
    | 0xA4 => loaded 0
    | 0xA8 => loaded 32
    | 0xB8 => flg q.stitch.isOpen 0 ||| fld q.stitch.cs 1 ||| flg q.stitch.skip 2 ||| fld (q.stitch.got.length % 4096) 4
    | 0xBC => wd q.stitch.next
    | 0xF0 => s.scrubReg p
    | _ => s.reg (fp p 3 off)

/-! ### Host link, mailboxes -/

/-- LTSSM of LINK_STATUS (R442): 0 after reset; the codes are not given, and it is free once the link has been up. -/
def State.ltssm (s : State) : Nat := if s.hq.up || s.hq.linkDowns != 0 then (Config.freeWord s.freeCtr).toNat % 64 else 0
/-- The PCIe link page (R442). Equalisation at a rate is complete while the link runs at that rate or above. -/
def State.rdLink (s : State) (off : Nat) : Word :=
  let h := s.hq
  match off with
  | 0x40 => flg h.up 0 ||| fld h.speed 1 ||| fld h.width 4 ||| fld s.ltssm 10
  | 0x4C => h.linkDowns
  | 0x50 => h.rxErrs
  | 0x54 => h.replays
  | 0x58 => wordOf (fun k => decide (k < 3) && h.up && decide (k + 3 ≤ h.speed))
  | _ => s.reg (pg 0x140 off)
/-- The function page (R450). -/
def State.rdFn (s : State) (off : Nat) : Word :=
  let h := s.hq
  match off with
  | 0x40 => flg (s.fn 0).d3 0 ||| flg (s.fn 0).bme 1 ||| flg (s.fn 0).ctl.msix 2 ||| flg h.vfEnable 3 ||| fld h.numVfs 4
  | 0x44 => wordOf (fun v => decide (v < 16) && s.vfOn v && (s.fn v).bme)
  | 0x4C => wd h.flrPending.toNat
  | _ => s.reg (pg 0x141 off)
/-- The DOE and IDE page (R449). -/
def State.rdDoe (s : State) (off : Nat) : Word :=
  let d := s.hq.doe
  match off with
  | 0x40 => flg d.ready 0 ||| flg d.busy 1 ||| flg d.error 2 ||| flg d.aborted 3 ||| fld d.protocol 8
  | 0x44 => wd d.req.length
  | 0x50 => wd s.hq.ideSecure.toNat
  | 0x54 => s.hq.ideErrs
  | 0x58 => s.hq.doeObjects
  | _ => s.reg (aDoe off)
/-- A word of a PBA (R86). -/
def State.pbaWord (s : State) (f w : Nat) : Word := wordOf (fun v => decide (32 * w + v < if f = 0 then 64 else 4) && s.pba f (32 * w + v))
/-- The VF information page (R451). -/
def State.rdVf (s : State) (v off : Nat) : Word :=
  match off with
  | 0x40 =>
    fld v 0 ||| fld (16 + 3 * (v - 1)) 8 ||| fld (s.fldOf (pg 0x141 0x48) (2 * v + 1) (2 * v)) 16 ||| flg (s.vfOn v && (s.fn v).bme) 24
  | 0x44 => fld 8 0 ||| fld (s.fldOf (pg 0x22 (0x40 + 4 * v)) 16 0) 8
  | 0xC00 => s.pbaWord v 0
  | _ => s.reg (pg (vfPageBase + v) off)
/-- A queue page (R454): PRIO of queues 0 and 1 reads 3. -/
def State.rdHq (s : State) (q off : Nat) : Word :=
  let x := s.queue q
  match off with
  | 0x50 => if q < 2 then Word.setField (s.reg (aQ q 0x50)) 17 16 3 else s.reg (aQ q 0x50)
  | 0x58 => s.qStatus q
  | 0x5C => wd x.sqTail
  | 0x60 => wd x.sqHead
  | 0x64 => wd x.cqHead
  | 0x68 => wd x.cqTail
  | 0x6C => if q < 2 then s.reg (aQ q 0x6C) else 0
  | 0x70 => s.qErrReg q
  | 0x74 => x.done
  | _ => s.reg (aQ q off)
/-- The LAST code of a channel (R518). -/
def Notice.num (n : Notice) : Nat := match n with | .none => 0 | .message => 1 | .empty => 2 | .aborted => 3 | .timeout => 4
/-- A channel page as a master sees it (R518): the transmit side reads 0 to all but the sender, the receive side to all but the
receiver. -/
def State.rdMbx (s : State) (m : Master) (c off : Nat) : Word :=
  let x := s.chan c
  let snd := x.valid && x.sender == m
  let rcv := x.valid && x.receiver == m
  if 0x80 ≤ off ∧ off < 0xC0 then (if snd then x.tx.getD ((off - 0x80) / 4) 0 else 0)
  else if 0xC0 ≤ off then (if rcv then x.rx.getD ((off - 0xC0) / 4) 0 else 0)
  else match off with
    | 0x40 => x.entry ||| flg (decide (c < 16)) 16
    | 0x44 => flg x.full 0 ||| flg x.timedOut 1 ||| fld x.last.num 4
    | 0x48 => if snd then x.txHdr else 0
    | 0x50 => if rcv then x.rxHdr else 0
    | 0x5C => fld x.sent 0 ||| fld x.aborts 16 ||| fld x.timeouts 24
    | _ => s.reg (aMbx c off)
/-- The binding table page (R515). -/
def State.rdBt (s : State) (off : Nat) : Word :=
  if 0x80 ≤ off then (s.chan ((off - 0x80) / 4)).entry
  else if off = 0x40 then flg (s.btReason != 0) 0 ||| fld s.btReason 1 else s.reg (pg 0x170 off)

/-! ### Caravan and TKS -/

/-- CVN page 0 (R556). -/
def State.rdCvn0 (s : State) (off : Nat) : Word :=
  let c := s.cvn
  let st := if !s.bitOf (aCvn 0 0x40) 0 then 0 else if !c.trained then 1
    else if (List.range 3).all (fun p => !s.bitOf (aCvn 0 0x40) (4 + p) || s.cvnUp p) then 2 else 3
  match off with
  | 0x44 => fld st 0 ||| fld c.topo 4 ||| fld c.addr 16
  | 0x4C => fld c.nodes 0 ||| fld (min 65535 c.unaddr) 16
  | 0x50 => fld (min 65535 c.hops) 0 ||| fld (min 65535 c.maxHops) 16
  | 0x54 => wd c.branchLast
  | _ => s.reg (aCvn 0 off)
/-- CVN page 1 (R558); the longest hop is a measured value that no command brings: free. -/
def State.rdCvn1 (s : State) (off : Nat) : Word :=
  let l := s.link ((off - 0x40) / 16)
  if 0x70 ≤ off then 0
  else match off % 16 with
    | 0 => fld l.st.num 0 ||| fld l.ver 4 ||| fld l.cause 8 ||| fld l.peer 16
    | 4 => fld l.tx 0 ||| fld l.rxFree 8
    | 8 => fld (min 65535 l.lat) 0 ||| fld l.hopMax 16
    | _ => l.frames
/-- CVN page 2 (R559). -/
def State.rdCvn2 (s : State) (off : Nat) : Word :=
  let c := s.cvn
  if 0x60 ≤ off ∧ off < 0x90 then wd (Bytes.num c.fold (off - 0x60) 4)
  else if 0x90 ≤ off ∧ off < 0xD0 then wd (Bytes.num c.ownRec (off - 0x90) 4)
  else match off with
    | 0x48 => fld c.sweep 0 ||| fld c.sweepRes 4 ||| flg c.overflow 6 ||| flg c.boundShort 7
    | 0x4C => c.epoch
    | 0x50 => fld (min 8191 c.count) 0 ||| fld (min 511 c.exc.length) 16
    | 0x58 => s.excWord
    | _ => s.reg (aCvn 2 off)
/-- CVN page 3 (R560). -/
def State.rdCvn3 (s : State) (off : Nat) : Word :=
  let c := s.cvn
  match off with
  | 0x4C => fld (unsigned 16 (clampInt (-32767) 32767 c.timeErr)) 0 ||| fld (min 65535 c.timeChecks) 16
  | 0x54 => fld (unsigned 16 c.calOff) 0 ||| fld c.calSt 16 ||| fld (min 4095 c.calSpread) 20
  | 0x58 => wd c.calHc
  | 0x68 => if c.rxFull then flg true 0 ||| fld c.rxFunc 1 ||| fld c.rxBuf.length 4 ||| fld c.rxSrc 20 else 0
  | _ => s.reg (aCvn 3 off)
/-- TKS pages (R578 to R582); the 64-bit counters and the saturating counts of page 2 are held as registers. -/
def State.rdTks (s : State) (k off : Nat) : Word :=
  let h := s.reg (pg 0x193 0x40)
  let c := (s.slot (hSlot h)).ctx
  let ok := s.liveH h && c.type == 0xB
  match k with
  | 0 => if off = 0x40 then wordOf (fun p => decide (p < 8) && s.pipeOn p) ||| fld (min 8191 s.tkInflight) 8 ||| flg s.tks.tampered 24
         else s.reg (pg 0x190 off)
  | 1 => if 0x60 ≤ off ∧ off < 0x80 then
           fld (s.pipeState ((off - 0x60) / 4)).num 0 ||| (match s.pipe ((off - 0x60) / 4) with | some j => fld j.opc 8 | none => 0)
         else s.reg (pg 0x191 off)
  | 3 =>
    (match off with
     | 0x44 => flg ok 0 ||| (if ok then fld (ikAlg c.material) 4 ||| flg (s.tks.running.any (fun x => x.2.any (fun j => j.names h))) 8 else 0)
     | 0x48 => if ok then wd (ikTc c.material) else 0
     | 0x4C => if ok then wd (ikMap c.material) else 0
     | 0x50 => if ok then wd (ikCache c.material) else 0
     | _ => s.reg (pg 0x193 off))
  | _ => s.reg (pg (0x190 + k) off)

/-! ### One word -/

/-- What a 32-bit read of a decoded word returns to a master; write-only words read 0 (R29). -/
def State.rdBlock (s : State) (m : Master) (page : Nat) (i : PageInfo) (off : Nat) : Word :=
  match i.kind with
  | .sysId => s.rdSys .sysId off
  | .sysStrobe => s.rdSys .sysStrobe off
  | .sysSem => s.rdSys .sysSem off
  | .sysRouter => s.rdSys .sysRouter off
  | .sysHart => s.rdSysHart (page - 11) off
  | .lcf0 => s.rdLcf0 off
  | .lcf1 => s.rdLcf1 off
  | .boot0 => if off = 0x5C then s.pushAllow else s.reg (pg page off)
  | .boot1 => s.rdBoot1 off
  | .cis0 => s.rdCis0 off
  | .cis1 => s.rdCis1 off
  | .tamp0 => s.rdTamp0 off
  | .tamp1 => s.rdTamp1 off
  | .cel0 => s.rdCel0 off
  | .cel1 => s.rdCel1 off
  | .cel2 => s.rdCel2 off
  | .cel3 => s.rdCel3 off
  | .flr0 => s.rdFlr0 off
  | .flr1 => s.rdFlr1 m off
  | .prst0 => s.rdPrst0 off
  | .prst1 => s.rdPrst1 off
  | .hart => s.rdHart i.page off
  | .hartDbg => s.rdDbg off
  | .dgl => s.rdDgl i.inst off
  | .fpPhy => s.rdPhy i.inst off
  | .fpCmd => s.rdCt i.inst off
  | .fpReg => s.rdRt i.inst off
  | .fpVer => s.rdVer i.inst off
  | .hq => s.rdHq i.inst off
  | .pciLink => s.rdLink off
  | .pciFn => s.rdFn off
  | .pciDoe => s.rdDoe off
  | .pciMsix => if 0xC00 ≤ off then s.pbaWord 0 ((off - 0xC00) / 4) else s.reg (pg page off)
  | .vfInfo => s.rdVf i.inst off
  | .mbx => s.rdMbx m i.inst off
  | .mbxBt => s.rdBt off
  | .cvn0 => s.rdCvn0 off
  | .cvn1 => s.rdCvn1 off
  | .cvn2 => s.rdCvn2 off
  | .cvn3 => s.rdCvn3 off
  | .tks0 => s.rdTks 0 off
  | .tks1 => s.rdTks 1 off
  | .tks2 => s.rdTks 2 off
  | .tks3 => s.rdTks 3 off
  | .sysEvt => s.reg (pg page off)
  | .sysRoute => s.reg (pg page off)
/-- The high word of a 64-bit counter as a master reads it (R36). -/
def State.latched (s : State) (m : Master) (a : Nat) : Option Word := SMap.get (fun _ => none) s.hiLatch (m.toNat * 2 ^ 32 + a)
/-- Latch the high word of a counter for a master. -/
@[noinline] def State.setLatch (s : State) (m : Master) (a : Nat) (v : Word) : State :=
  { s with hiLatch := SMap.set (fun _ => none) s.hiLatch (m.toNat * 2 ^ 32 + a) (some v) }
/-- The value of a 32-bit read of BAR0 address `a` (R29, R31 to R33, R76): 0 for unlisted pages, broadcast pages and reserved words. -/
def State.readWord (s : State) (m : Master) (a : Nat) : Word :=
  match pageAt (a / 4096) with
  | none => 0
  | some i =>
    let page := a / 4096
    let off := a % 4096 % i.span
    if off < 0x40 then s.rdHead page i off
    else if i.isEvt off then s.rdEvt i off
    else match i.row off with
      | none => 0
      | some r =>
        if r.code = .wo then 0
        else if r.half = .ctrHi then (s.latched m (pg page off)).getD (s.rdBlock m page i off)
        else s.rdBlock m page i off
/-- A register whose read has a side effect (R35). -/
def readsBack (a : Nat) : Bool := match rowAt a with | some r => r.readEffect | none => false
/-- A value that the spec leaves open is taken by the read of this word. -/
def freeRead (i : PageInfo) (off : Nat) : Bool :=
  (i.kind == .tamp0 && (off == 0x5C || off == 0x60)) || (i.kind == .pciLink && off == 0x40)
/-- What a 32-bit read does to the state (R35, R36, R71, R185, R512, R559, R627). -/
@[noinline] def State.readEff (s : State) (m : Master) (a : Nat) : State :=
  match pageAt (a / 4096) with
  | none => s
  | some i =>
    let page := a / 4096
    let off := a % 4096 % i.span
    match (if off < 0x40 then none else i.row off) with
    | none => s
    | some r =>
      if freeRead i off then s.freed
      else if !r.readEffect then s
      else if r.half = .ctrLo then s.setLatch m (pg page (off + 4)) (s.rdBlock m page i (off + 4))
      else match i.kind with
        | .sysSem => s.semTake m ((off - 0x40) / 4)
        | .fpPhy => s.sfdpStep i.inst
        | .cvn2 => s.excStep
        | .flr1 => s.expStep m
        | .hartDbg => if off = 0x48 then s.jdcTxStep m else s.jdcRxStep m
        | _ => s
/-- A read of the register window returns bytes (R29); a semaphore read has its own record and writes no LOAD record (R624). -/
@[noinline] def State.answer (s : State) (m : Master) (a : Nat) (d : Bytes) : State :=
  if a / 4096 = 2 ∧ readsBack a then s.out (.readData m a d) else s.readOut m a d
/-- A 32-bit read of an address by a master that reaches the block (R29): in a replay a hart is served its records instead, whose
values are free (R633), and a function whose reset is not over reads 0 (R446). -/
@[noinline] def State.read32 (s : State) (m : Master) (a : Nat) : State :=
  if isHart m && s.flr.replay == .running then (s.out (.readData m a (Config.freeBytes s.freeCtr 4))).freed
  else if s.flrReads m (a / 4096) then s.out (.readData m a (zeros 4))
  else if !s.arrives m (a / 4096) then s
  else (s.readEff m a).answer m a (leBytes 4 (s.readWord m a).toNat)

/-- COUNTER_LOW_READ (R36): the low word of a 64-bit counter; any other address is an ordinary read. -/
def execCounterLowRead (m : Master) (addr : Nat) (s : State) : Res := 
  .next (if addr < 0x2000000 then s.read32 m (addr / 4 * 4) else s)
/-- ORDER_FENCE_READ (R62): commands reach the block one after another, so every earlier write has reached its page. -/
def execOrderFenceRead (m : Master) (s : State) : Res := .next (s.read32 m (pg 1 0x60))

/-- SEM_READ (R71). -/
def execSemRead (m : Master) (n : Fin 64) (s : State) : Res := .next (s.read32 m (pg 2 (0x40 + 4 * n.val)))
/-- SFDP_WIN_READ (R185). -/
def execSfdpWinRead (m : Master) (p : Fin 16) (s : State) : Res := .next (s.read32 m (fp p.val 0 0x98))
/-- JDC_TX_READ (R512). -/
def execJdcTxRead (m : Master) (s : State) : Res := .next (s.read32 m (aDbg 0x48))
/-- JDC_RX_READ (R512). -/
def execJdcRxRead (m : Master) (s : State) : Res := .next (s.read32 m (aDbg 0x4C))
/-- EXC_DATA_READ (R559). -/
def execExcDataRead (m : Master) (s : State) : Res := .next (s.read32 m (aCvn 2 0x58))
/-- EXPORT_DATA_READ (R627). -/
def execExportDataRead (m : Master) (s : State) : Res := .next (s.read32 m (aFlr1 0x60))

end Sys2Proof.Machine
end

