-- ==== Sys2Proof/Machine/RegEffect.lean ====
section
/-! DEFINITION. What a 32-bit write that a block register takes does (R29): the value it stores and the actions of the bits it
writes as 1, page by page. -/
namespace Sys2Proof.Machine

/-- Do the action of each bit that is 1, lowest first (R29, WO). -/
def actsFrom (s : State) (v : Word) (i : Nat) (l : List (State → State)) : State :=
  match l with
  | [] => s
  | f :: t => actsFrom (if Word.bit v i then f s else s) v (i + 1) t
/-- The actions of a WO register by bit, from bit 0. -/
@[noinline] def State.acts (s : State) (v : Word) (l : List (State → State)) : State := actsFrom s v 0 l
/-- The actions of a WO register that takes one bit at a time: more than one is recorded as STATE. -/
@[noinline] def State.oneAct (s : State) (m : Master) (a : Nat) (v : Word) (l : List (State → State)) : State :=
  s.when m a (decide (((Word.ones v).filter (fun i => decide (i < l.length))).length ≤ 1)) (fun s => s.acts v l)

/-! ### Strobes -/

/-- A buffered value of a page becomes active (R49): on a PHY page it waits for the slow-domain edge and an idle port (R191). -/
@[noinline] def State.bufApply (s : State) (i : PageInfo) (a : Nat) (v : Word) : State :=
  let s := s.setBuf a none
  if i.slow then s.setDue a (some (false, v))
  else
    let s := s.setReg a v
    match i.kind with
    | .prst1 => if s.wdogRuns ((a % 4096 - 0xC0) / 8) then s.setWdog ((a % 4096 - 0xC0) / 8) { s.wdog ((a % 4096 - 0xC0) / 8) with since := s.clk } else s
    | .fpVer => s.wakeScrub i.inst
    | _ => s
/-- Every buffered value of a page becomes active. -/
@[noinline] def State.bufApplyAll (s : State) (page : Nat) : State :=
  match pageAt page with
  | none => s
  | some i => (s.buf.filter (fun e => e.1 / 4096 == page)).foldl (fun s e => match e.2 with | some v => s.bufApply i e.1 v | none => s) s
/-- A port whose line is low after a new map loses its master command (R177). -/
@[noinline] def State.silenceHeld (s : State) : State :=
  (List.range 16).foldl (fun s p => if s.portHeld p && (s.port p).active.isSome then s.silence p else s) s
/-- A strobe of update groups (R49, R50). -/
@[noinline] def State.strobe (s : State) (v : Word) : State :=
  ((bufferedPages.filter (fun p => Word.bit v (s.ugroup p))).foldl State.bufApplyAll s).holdCheck.silenceHeld
/-- The value that an RB register buffers (R143, R165, R236, R615): reserved fields 0, out-of-range fields as their rules store them. -/
def rbStored (k : PageKind) (off : Nat) (v : Word) : Word :=
  match k with
  | .prst1 => if Word.field v 31 16 = 0 then Word.setField v 31 16 1 else v
  | .fpPhy => if off = 0x54 then Word.setField v 4 0 (min 16 (max 6 (Word.field v 4 0))) else v
  | .fpVer => if off = 0x40 ∧ 8 < Word.field v 11 8 then Word.setField v 11 8 8 else v
  | _ => v
/-- A write of an RB register (R47); SFDP rewriting is turned off in TEST and RETURN only. -/
@[noinline] def State.rbWrite (s : State) (m : Master) (i : PageInfo) (a : Nat) (v : Word) : State :=
  s.when m a (!(i.kind == .fpPhy && a % 4096 == 0x90 && !Word.bit v 0 && !s.lcIn [.test, .ret])) (fun s =>
    s.setBuf a (some (rbStored i.kind (a % 4096) v)))

/-! ### System pages -/

/-- UPD_ARM_CTRL (R52, R54): ARM with CANCEL acts as CANCEL. -/
@[noinline] def State.armCtrl (s : State) (m : Master) (v : Word) : State :=
  if Word.bit v 1 then s.updCancel else if Word.bit v 0 then s.updArm m else s
/-- SYS page 1 (R48). -/
@[noinline] def State.effStrobe (s : State) (m : Master) (off : Nat) (v : Word) : State :=
  match off with
  | 0x40 => s.strobe v
  | 0x48 => s.when m (pg 1 0x48) (s.arm.st != .armed) (fun s => s.setReg (pg 1 0x48) v)
  | 0x58 => s.armCtrl m v
  | _ => s
/-- HTHRESH of hart `h` (R97, R98). -/
@[noinline] def State.effHthresh (s : State) (h : Nat) (v : Word) : State := (s.setReg (pg (11 + h) 0x6C) v).hartIrq h

/-! ### Always-on pages -/

/-- LCF page 1 (R365). -/
@[noinline] def State.effLcf1 (s : State) (m : Master) (off : Nat) (v : Word) : State :=
  match off with
  | 0x40 => s.lcReq v
  | 0x44 => s.dbgGrant m v
  | 0x48 => s.memtest m v
  | _ => s.setReg (aLcf1 off) v
/-- BOOT page 1 (R129, R139: ABANDON goes before GO). -/
@[noinline] def State.effBoot1 (s : State) (m : Master) (off : Nat) (v : Word) : State :=
  match off with
  | 0x40 => s.claim m v
  | 0x48 => s.when m (aBoot1 0x48) (s.boot.owner == m) (fun s => s.setReg (aBoot1 0x48) v)
  | 0x54 => if Word.bit v 1 then s.relAbandon m else if Word.bit v 0 then s.relGo m else s
  | 0x60 => s.pushCtrl v
  | _ => s.stageData m v
/-- LINE_CFG (R302, R304, R308): an unlocked or DC-fed oscillator runs on the nominal frequency; a warning that is now enabled
and present acts. -/
@[noinline] def State.lineCfg (s : State) (v : Word) : State :=
  let was := s.pfwOn
  let s := s.setReg (aCis0 0x40) v
  let s := if !s.cis.locked || s.cis.line == .dcFeed then s.modCis (fun c => { c with len := s.nominal }) else s
  if !was && s.pfwOn then s.pfwLost else s
/-- CIS page 0 (R331). -/
@[noinline] def State.effCis0 (s : State) (off : Nat) (v : Word) : State :=
  match off with
  | 0x40 => s.lineCfg v
  | 0x5C => (s.setReg (aCis0 0x5C) v).estimate
  | _ => s.setReg (aCis0 off) v
/-- COMMIT_SUBMIT (R325): both bits at once are refused. -/
@[noinline] def State.submitCtrl (s : State) (m : Master) (v : Word) : State :=
  if (Word.bit v 8 && Word.bit v 9) || Word.field v 3 0 = 15 then s.refuse m (aCis1 0x68)
  else if Word.bit v 8 then s.commitSubmit m v
  else if Word.bit v 9 then s.commitWithdraw m v
  else s
/-- CIS page 1 (R334). -/
@[noinline] def State.effCis1 (s : State) (m : Master) (off : Nat) (v : Word) : State :=
  if 0x80 ≤ off ∧ off < 0x100 then
    s.when m (aCis1 off) ((s.timer ((off - 0x80) / 16)).st != .armed) (fun s => s.setReg (aCis1 off) v)
  else match off with
    | 0x58 => (s.setReg (aCis1 0x58) (Word.setField v 15 0 (max 1000 (Word.field v 15 0)))).estimate
    | 0x5C => s.when m (aCis1 0x5C) (decide (Word.field v 15 0 < Word.field v 31 16)) (fun s => s.setReg (aCis1 0x5C) v)
    | 0x68 => s.submitCtrl m v
    | 0x6C => s.setReg (aCis1 0x6C) v
    | 0x100 => s.tmrCtrl m v
    | o => (s.setReg (aCis1 o) v).estimate
/-- PWR_REQ.TARGET (R595): 3 is refused with BAD_OPCODE, but while a request is PENDING with BUSY as any other. -/
@[noinline] def State.effPwrReq (s : State) (v : Word) : State :=
  match Word.field v 1 0 with
  | 0 => s.pwrReq .active
  | 1 => s.pwrReq .standby
  | 2 => s.pwrReq .retain
  | _ => s.pwrRefuse (if s.pwr.pending.isSome then stBusy else stBadOpcode)
/-- TAMP page 1 (R604). -/
@[noinline] def State.effTamp1 (s : State) (off : Nat) (v : Word) : State :=
  match off with
  | 0x40 => s.effPwrReq v
  | 0x48 => s.loopArm v
  | 0x50 => s.thermCfg v
  | _ => s.setReg (aTamp1 off) v

/-! ### Cellar, recorder, platform reset -/

/-- CEL page 1 (R381, R406): LOCK_CDI makes CDI_MDIGEST and CDI_KEYSLOT ignore writes. -/
@[noinline] def State.effCel1 (s : State) (m : Master) (off : Nat) (v : Word) : State :=
  match off with
  | 0x40 =>
    if v &&& 0x1F = 0 then s
    else s.kduFree m (fun s => s.oneAct m (pg 0x21 0x40) v
      [State.kduDerive, State.kduDiscard, State.rootGen, State.rootClass, State.bbramErase])
  | 0x44 => s.acts v [State.closeSecret, State.lockCdi]
  | o => s.when m (pg 0x21 o) (!s.cel.lockCdi || decide (0x80 ≤ o)) (fun s => s.setReg (pg 0x21 o) v)
/-- FLR page 1 (R637). -/
@[noinline] def State.effFlr1 (s : State) (m : Master) (off : Nat) (v : Word) : State :=
  match off with
  | 0x44 => s.checkpoint m v
  | 0x4C => s.acts v [fun s => s.expGo m false, fun s => s.expGo m true, State.expAbort]
  | 0x64 => s.acts v [fun s => s.replayGo m]
  | _ => s.setReg (aFlr1 off) v
/-- PRST page 0 (R143). -/
@[noinline] def State.effPrst0 (s : State) (m : Master) (off : Nat) (v : Word) : State :=
  match off with
  | 0x44 => s.holdReq v
  | 0x4C => s.unforce m v
  | 0x64 => (s.modPrst (fun p => { p with ready := BitVec.ofNat 24 v.toNat })).holdCheck
  | _ => s.oneAct m (aPrst0 0x68) v [fun s => s.seqGo m, fun s => s.seqSkip m, State.seqIdle]
/-- GP_PULL takes no 3 (R658). -/
def pullStored (v : Word) : Word :=
  (List.range 16).foldl (fun v p => if Word.field v (2 * p + 1) (2 * p) = 3 then Word.setField v (2 * p + 1) (2 * p) 0 else v) v
/-- A write that changes pad levels is an edge for the watchdogs on those pins (R616, R658). -/
@[noinline] def State.gpStore (s : State) (off : Nat) (v : Word) : State :=
  let was := s.gpPad
  let s := s.setReg (aPrst1 off) v
  ((List.range 16).filter (fun p => Word.bit was p != Word.bit s.gpPad p)).foldl State.wdogEdge s
/-- PRST page 1 (R658). -/
@[noinline] def State.effPrst1 (s : State) (off : Nat) (v : Word) : State :=
  match off with
  | 0x44 => s.gpStore 0x44 v
  | 0x48 => s.gpStore 0x48 v
  | 0x4C => s.setReg (aPrst1 0x4C) (pullStored v)
  | _ => s.setReg (aPrst1 off) v

/-! ### Harts -/

/-- Q_CTRL and RING_CTRL (R456): both bits at once are refused. -/
@[noinline] def State.qCtrl (s : State) (m : Master) (a q : Nat) (ok : Bool) (v : Word) : State :=
  s.oneAct m a v [fun s => s.qEnable m a q ok, fun s => s.qDisable m a q]
/-- Page of hart `h` (R509): GATE is reserved on hart 0. -/
@[noinline] def State.effHart (s : State) (m : Master) (h off : Nat) (v : Word) : State :=
  match off with
  | 0x44 => s.acts v [fun s => s.hartCtrlReset m h, fun s => s.hartWake m h]
  | 0x48 => if h = 0 then s else s.setReg (aHart h 0x48) v
  | 0x5C => s.qCtrl m (aHart h 0x5C) (64 + h) (s.ringOk h) v
  | o => s.when m (aHart h o) ((s.queue (64 + h)).st == .disabled) (fun s => s.setReg (aHart h o) v)
/-- DBG_CTRL (R511): HALT and RESUME bits in one write; a bit that the rights do not allow is recorded once. -/
@[noinline] def State.dbgBoth (s : State) (m : Master) (v : Word) : State :=
  let s := ((dbgBits v 0).filter s.dbgMay).foldl State.dbgHalt1 s
  s.dbgCtrl m v 8 State.dbgResume1
/-- The debug page (R510). -/
@[noinline] def State.effDbg (s : State) (m : Master) (off : Nat) (v : Word) : State :=
  match off with
  | 0x44 => s.dbgBoth m v
  | 0x48 => s.jdcTxWrite m v
  | _ => s.jdcRxWrite m v

/-! ### Flash ports -/

/-- The CTRL and PHY page (R185). -/
@[noinline] def State.effPhy (s : State) (m : Master) (p off : Nat) (v : Word) : State :=
  match off with
  | 0x70 => s.leaseWrite p v
  | 0x78 => if v &&& 3 = 0 then s else s.discover m p v
  | 0xA0 => s.acts v [fun s => s.phyCal p]
  | _ => s.setReg (fp p 0 off) v
/-- The command-table window (R211). -/
@[noinline] def State.effCt (s : State) (m : Master) (p off : Nat) (v : Word) : State :=
  match off with
  | 0x4C => s.oneAct m (aCt p) v [fun s => s.ctWrite m p, fun s => s.ctRead p, fun s => s.ctSwapReq m p, fun s => s.ctClear m p]
  | _ => s.setReg (fp p 1 off) v
/-- WQ_CMD (R223, R226): DISCARD goes before APPLY; any other combination is refused. DESIGN CHOICE (log 109): a combination that is ignored leaves
WQ_RESULT as it was (R221). -/
@[noinline] def State.wqCtrl (s : State) (m : Master) (p : Nat) (v : Word) : State :=
  s.oneAct m (aWq p) (if v &&& 0xF = 3 then 2 else v)
    [fun s => s.wqApply p, fun s => s.wqDiscard p, fun s => s.wqRetire p, fun s => s.wqFence p]
/-- The region-table window (R212). -/
@[noinline] def State.effRt (s : State) (m : Master) (p off : Nat) (v : Word) : State :=
  match off with
  | 0x58 => s.oneAct m (aRt p) v
      [fun s => s.rtWrite m p, fun s => s.rtRead p, fun s => s.rtSwapReq m p, fun s => s.swapAllReq m p, fun s => s.rtClear m p]
  | 0x88 => s.wqCtrl m p v
  | _ => s.setReg (fp p 2 off) v
/-- The VERIFY/STATS page (R236). -/
@[noinline] def State.effVer (s : State) (m : Master) (p off : Nat) (v : Word) : State :=
  match off with
  | 0x48 => s.acts v [fun s => s.fullStart m p, fun s => s.verResume m p, fun s => s.scrubRestart m p]
  | 0x4C => if v &&& 0x300 = 0 then s else s.substCtrl m p v
  | 0x84 => s.oneAct m (aBind p) v
      [fun s => s.bindWrite m p, fun s => s.bindRead p, fun s => s.bindLoad m p, fun s => s.bindConfirm m p, fun s => s.bindUnbind p]
  | 0x9C => s.oneAct m (aPw p) v [fun s => s.pwWrite m p, fun s => s.pwRead p, fun s => s.pwLoad m p, fun s => s.pwUnload m p]
  | 0x114 => s.acts v [fun s => s.covReset p]
  | _ => s.setReg (fp p 3 off) v

/-! ### Host link, queues, mailboxes -/

/-- A queue page (R454, R456, R457). -/
@[noinline] def State.effHq (s : State) (m : Master) (q off : Nat) (v : Word) : State :=
  let idle := (s.queue q).st == .disabled
  match off with
  | 0x50 => s.when m (aQ q 0x50) idle (fun s => s.setReg (aQ q 0x50) (if q < 2 then Word.setField v 17 16 (s.fldOf (aQ q 0x50) 17 16) else v))
  | 0x54 => s.qCtrl m (aQ q 0x54) q (s.qSizeOk q) v
  | 0x5C => s.qTail m (aQ q 0x5C) q v
  | 0x64 => s.qHead m (aQ q 0x64) q v
  | _ => s.when m (aQ q 0x6C) idle (fun s => s.setReg (aQ q 0x6C) (wd (min 256 (max 1 v.toNat))))
/-- The PCIe link page (R442). -/
@[noinline] def State.effLink (s : State) (off : Nat) (v : Word) : State :=
  match off with
  | 0x44 =>
    let sp := Word.field v 2 0
    s.setReg (pg 0x140 0x44) (fld (if sp = 0 ∨ 5 < sp then 5 else sp) 0 ||| fld (min 4 (Word.field v 6 4)) 4)
  | _ => s.acts v [State.retrain]
/-- The DOE page (R449). -/
@[noinline] def State.effDoe (s : State) (m : Master) (off : Nat) (v : Word) : State :=
  match off with
  | 0x4C => s.acts v [fun s => s.doeSend m, fun s => s.doeFail m]
  | _ => s.setReg (aDoe off) v
/-- A channel page (R518): the transmit side belongs to the bound sender, and SEND and TAKE to the sender and the receiver whatever bit 0 is.
DESIGN CHOICE (log 103): CH_TXHDR keeps its reserved bits [7:4] and [31:23] as written, since SEND tests that they are 0 (R519, R520). -/
@[noinline] def State.effMbx (s : State) (m : Master) (c off : Nat) (v : Word) : State :=
  let x := s.chan c
  let snd := x.valid && x.sender == m
  match off with
  | 0x48 => s.when m (aMbx c 0x48) snd (fun s => s.setChan c { x with txHdr := v })
  | 0x4C => if Word.bit v 0 then s.chSend m c else s.when m (aMbx c 0x4C) snd id
  | 0x54 => if Word.bit v 0 then s.chTake m c else s.when m (aMbx c 0x54) (x.valid && x.receiver == m) id
  | 0x58 => s.setReg (aMbx c 0x58) v
  | o => s.when m (aMbx c o) snd (fun s => s.setChan c { x with tx := x.tx.set ((o - 0x80) / 4) v })

/-! ### Caravan -/

/-- CVN page 0 (R556). FORWARD of a register write brings no images seen on other nodes. -/
@[noinline] def State.effCvn0 (s : State) (m : Master) (off : Nat) (v : Word) : State :=
  match off with
  | 0x40 => s.cvnCfg v
  | 0x48 => s.acts v [fun s => s.train m, fun s => s.sendNotice m, fun s => s.sendRecover m, fun s => s.forward [], State.rxDrop]
  | _ => s.setReg (aCvn 0 off) v
/-- CVN page 2 (R559): a deadline of 0 is stored as 1. -/
@[noinline] def State.effCvn2 (s : State) (off : Nat) (v : Word) : State :=
  match off with
  | 0x40 => (s.setReg (aCvn 2 0x40) (Word.setField v 7 0 (max 1 (Word.field v 7 0)))).cvnBound
  | _ => s.setReg (aCvn 2 off) v
/-- CVN page 3 (R560). -/
@[noinline] def State.effCvn3 (s : State) (m : Master) (off : Nat) (v : Word) : State :=
  match off with
  | 0x50 => s.acts v [State.timeCal]
  | 0x5C => s.when m (aCvn 3 0x5C) (bufInRam v.toNat) (fun s => s.setReg (aCvn 3 0x5C) v)
  | 0x60 => s.when m (aCvn 3 0x60) (bufInRam v.toNat) (fun s => s.setReg (aCvn 3 0x60) v)
  | 0x6C => s.when m (aCvn 3 0x6C) (decide (s.noticeSeq ≤ v.toNat)) (fun s => s.setReg (aCvn 3 0x6C) v)
  | _ => s.setReg (aCvn 3 off) v

/-! ### One register -/

/-- What a write of a value, reserved fields cleared, to a register of a page does; a register with no action stores it. -/
@[noinline] def State.pageEffect (s : State) (m : Master) (page : Nat) (i : PageInfo) (off : Nat) (v : Word) : State :=
  match i.kind with
  | .sysStrobe => s.effStrobe m off v
  | .sysSem => s.semWrite m ((off - 0x40) / 4) v
  | .sysEvt => s.swEvt v
  | .sysRoute => s.routeWrite m (64 * (page - 4) + (off - 0x40) / 4) v
  | .sysHart => s.effHthresh (page - 11) v
  | .lcf0 => s.acts v [State.newNonce]
  | .lcf1 => s.effLcf1 m off v
  | .boot0 => s.bootStage m v
  | .boot1 => s.effBoot1 m off v
  | .cis0 => s.effCis0 off v
  | .cis1 => s.effCis1 m off v
  | .tamp1 => s.effTamp1 off v
  | .cel1 => s.effCel1 m off v
  | .flr1 => s.effFlr1 m off v
  | .prst0 => s.effPrst0 m off v
  | .prst1 => s.effPrst1 off v
  | .hart => s.effHart m i.page off v
  | .hartDbg => s.effDbg m off v
  | .fpPhy => s.effPhy m i.inst off v
  | .fpCmd => s.effCt m i.inst off v
  | .fpReg => s.effRt m i.inst off v
  | .fpVer => s.effVer m i.inst off v
  | .hq => s.effHq m i.inst off v
  | .pciLink => s.effLink off v
  | .pciDoe => s.effDoe m off v
  | .mbx => s.effMbx m i.inst off v
  | .mbxBt => s.btWrite m ((off - 0x80) / 4) v
  | .cvn0 => s.effCvn0 m off v
  | .cvn1 => s.acts v ((List.range 3).map (fun p => fun s => s.linkRestart p))
  | .cvn2 => s.effCvn2 off v
  | .cvn3 => s.effCvn3 m off v
  | .sysId => s.setReg (pg page off) v
  | .sysRouter => s.setReg (pg page off) v
  | .tamp0 => s.setReg (pg page off) v
  | .cel0 => s.setReg (pg page off) v
  | .cel2 => s.setReg (pg page off) v
  | .cel3 => s.setReg (pg page off) v
  | .flr0 => s.setReg (pg page off) v
  | .dgl => (if off = 0x7C then { s with dgl := { s.dgl with asked := putBit s.dgl.asked (page - 0x40) true } } else s).setReg (pg page off) v
  | .pciFn => s.setReg (pg page off) v
  | .pciMsix => s.setReg (pg page off) v
  | .tks0 => s.setReg (pg page off) v
  | .tks1 => s.setReg (pg page off) v
  | .tks2 => s.setReg (pg page off) v
  | .tks3 => s.setReg (pg page off) v
  | .vfInfo => s.setReg (pg page off) v

/-! ### Writable 64-bit registers (R37) -/

/-- The half of a pair is not writable now: an armed position (R54, R330) or a ring base outside DISABLED (R456). -/
def State.pairBars (s : State) (i : PageInfo) (off : Nat) : Bool :=
  match i.kind with
  | .sysStrobe => s.arm.st == .armed
  | .cis1 => (s.timer ((off - 0x80) / 16)).st == .armed
  | .hq => (s.queue i.inst).st != .disabled
  | _ => false
/-- Both halves of the pair at `a` apply (R37). -/
@[noinline] def State.pairApply (s : State) (m : Master) (i : PageInfo) (a : Nat) (lo hi : Word) : State :=
  match i.kind with
  | .cis0 => s.posSeed m lo hi
  | _ => (s.setReg a lo).setReg (a + 4) hi
/-- The low word that a master holds for a pair. -/
def State.heldLo (s : State) (m : Master) (a : Nat) : Option Word := SMap.get (fun _ => none) s.heldLow (m.toNat * 2 ^ 32 + a)
/-- Hold or drop the low word of a master. -/
@[noinline] def State.setHeld (s : State) (m : Master) (a : Nat) (v : Option Word) : State :=
  { s with heldLow := SMap.set (fun _ => none) s.heldLow (m.toNat * 2 ^ 32 + a) v }
/-- A write of the low word at `a`: it is held for its master. -/
@[noinline] def State.lowWrite (s : State) (m : Master) (i : PageInfo) (a : Nat) (v : Word) : State :=
  s.when m a (!s.pairBars i (a % 4096)) (fun s => s.setHeld m a (some v))
/-- A write of the high word of the pair at `a`: it applies with the held low word, or with the current one. -/
@[noinline] def State.highWrite (s : State) (m : Master) (i : PageInfo) (a : Nat) (v : Word) : State :=
  s.when m (a + 4) (!s.pairBars i (a % 4096)) (fun s =>
    (s.setHeld m a none).pairApply m i a ((s.heldLo m a).getD (s.reg a)) v)

/-- The effect of a 32-bit write that a register takes, by its access code (R29). A W1 register takes its first write only (R59). -/
@[noinline] def State.regEffect (s : State) (m : Master) (page : Nat) (i : PageInfo) (off : Nat) (r : RegRow) (v : Word) : State :=
  match r.code with
  | .ea => s.ackEvt m (i.src0 + (off - i.evtOff) / 8) v
  | .w1 =>
    if SMap.get (fun _ => false) s.w1 (pg page off) then s.errAt (pg page off) .locked m
    else ({ s with w1 := SMap.set (fun _ => false) s.w1 (pg page off) true }).setReg (pg page off) (v &&& r.mask)
  | .rb => s.rbWrite m i (pg page off) (v &&& r.mask)
  | _ =>
    match r.half with
    | .wideLo => s.lowWrite m i (pg page off) (v &&& r.mask)
    | .wideHi => s.highWrite m i (pg page (off - 4)) (v &&& r.mask)
    | _ => s.pageEffect m page i off (v &&& r.mask)

end Sys2Proof.Machine
end

