-- ==== Sys2Proof/Machine/RegWrite.lean ====
section
/-! DEFINITION. Accesses of a master to the register pages and, for harts, to core memory: 32-bit and wider writes, posting to
slow pages, broadcasts, bit aliases and narrow accesses (R29 to R62, R75 to R85, R502, R503). -/
namespace Sys2Proof.Machine

/-! ### Page headers -/

/-- EVT_ENABLE of a page (R68): a pending source that is now enabled asserts. -/
@[noinline] def State.enableWrite (s : State) (page : Nat) (i : PageInfo) (v : Word) : State :=
  let t := s.setReg (pg page 0x24) (v &&& wd (2 ^ i.nsrc - 1))
  ((List.range i.nsrc).map (fun n => i.src0 + n)).foldl (fun t k => t.deliverIfNew (s.asserted k) k) t
/-- A header write that JTAG and secure-page rules allow (R22, R26, R28, R41, R68, R69). -/
@[noinline] def State.headEffect (s : State) (m : Master) (page : Nat) (i : PageInfo) (off : Nat) (v : Word) : State :=
  if off = 0xC then s.setLock page v
  else if off = 0x14 then
    if s.frozen page .c then s.err page off .locked m else s.setReg (pg page 0x14) (v &&& groupMask i)
  else if off = 0x1C then s.ackErr page v
  else if off = 0x24 then
    if s.frozen page .c then s.err page off .locked m else s.enableWrite page i v
  else if off = 0x28 then s.force m page v
  else if off ≤ 0x20 then s.err page off .roWrite m
  else s.err page off .reserved m

/-! ### 32-bit writes -/

/-- The byte offset of the first error of a page is that of the access, before partial decode (R31, R38). -/
@[noinline] def State.errOffset (s : State) (before : State) (page off : Nat) : State :=
  if before.fldOf (pg page 0x18) 7 0 = 0 ∧ s.fldOf (pg page 0x18) 7 0 ≠ 0 then s.setFld (pg page 0x18) 31 20 off else s
/-- A 32-bit write applies in a page (R29, R31, R32): at once in a fast page, when it reaches its domain in a slow one. A broadcast
reaches no header word but PAGE_LOCK (R76). -/
@[noinline] def State.applyWrite (s : State) (m : Master) (a : Nat) (v : Word) (bcast : Bool) : State :=
  match pageAt (a / 4096) with
  | none => s
  | some i =>
    let page := a / 4096
    let off := a % 4096 % i.span
    let t :=
      if s.haltBars (pg page off) then s.err page off .state m
      else if off < 0x40 then
        (if (bcast && off != 0xC) || !s.headMay m i then s.err page off .state m else s.headEffect m page i off v)
      else match s.writeGate m (pg page off), i.row off with
        | some k, _ => s.err page off k m
        | none, some r => s.regEffect m page i off r v
        | none, none => s
    t.errOffset s page (a % 4096)
/-- A write reaches one page (R33, R43, R44): a slow page takes one at a time. -/
@[noinline] def State.pageWrite (s : State) (m : Master) (a : Nat) (v : Word) (viaAlias bcast : Bool) (now : State → State) : State :=
  match pageAt (a / 4096) with
  | none => s.err 0 a .unmapped m
  | some i =>
    if !i.slow then now s
    else if (s.postedAt (a / 4096)).isSome then s.errAt a .busyDrop m
    else s.setPosted (a / 4096) (some { m := m, off := a % 4096, v := v, viaAlias := viaAlias, bcast := bcast })
/-- A hart's store in a replay reaches no register (R633); a store to CHECKPOINT is counted. -/
@[noinline] def State.replayStore (s : State) (a : Nat) : State :=
  if a / 4096 = 0x29 ∧ a % 4096 % 128 = 0x44 then s.modFlr (fun f => { f with checkpoints := min 65535 (f.checkpoints + 1) }) else s
/-- A 32-bit write of a master at a BAR0 address (R29). -/
@[noinline] def State.write32 (s : State) (m : Master) (a : Nat) (v : Word) : State :=
  if s.coreUp && isHart m && s.flr.replay == .running then s.replayStore a
  else if !s.arrives m (a / 4096) then s
  else match bcastMembers (a / 4096) with
    | some ms => (s.membersOf ms).foldl (fun s p => s.pageWrite m (pg p (a % 4096)) v false true (fun s => s.applyWrite m (pg p (a % 4096)) v true)) s
    | none => s.pageWrite m a v false false (fun s => s.applyWrite m a v false)

/-! ### Bit aliases -/

/-- The value that waits for an RB register (R27, R29, R49): the one buffered, else the strobed one whose slow-domain edge is still to come,
else the active one. -/
def State.rbWaiting (s : State) (a : Nat) : Word :=
  match s.bufAt a, s.dueAt a with
  | some v, _ => v
  | none, some (_, v) => v
  | none, none => s.reg a
/-- The word that an alias write changes one bit of (R29): the waiting value of an RB register, else the current value. -/
def State.aliasBase (s : State) (m : Master) (page : Nat) (i : PageInfo) (off : Nat) (r : RegRow) : Word :=
  if r.code = .rb then s.rbWaiting (pg page off)
  else if i.kind = .prst0 ∧ off = 0x44 then wd s.prst.holdReq.toNat
  else s.rdBlock m page i off
/-- The WO registers whose every write is refused of a master or at a time (R149, R518), whatever its value. -/
def woRefuses (k : PageKind) (off : Nat) : Bool := (k == .prst0 && off == 0x4C) || (k == .mbx && (off == 0x4C || off == 0x54))
/-- The effect of an alias write on a register that takes it (R29, R56): a 0 to a WO register acts on nothing, and is refused where every write
is (R149, R518). -/
@[noinline] def State.aliasEffect (s : State) (m : Master) (page : Nat) (i : PageInfo) (off : Nat) (r : RegRow) (bit : Nat) (b : Bool) : State :=
  let a := pg page off
  let v := Word.setBit (s.aliasBase m page i off r) bit b &&& r.mask
  match r.code with
  | .wo => if b || woRefuses i.kind off then s.pageEffect m page i off (fld b.toNat bit &&& r.mask) else s
  | .so => if b then s.pageEffect m page i off (fld 1 bit &&& r.mask) else s
  | .rb => s.rbWrite m i a v
  | _ =>
    match r.half with
    | .wideLo => s.when m a (!s.pairBars i off) (fun s => s.pairApply m i a v (s.reg (a + 4)))
    | .wideHi => s.when m a (!s.pairBars i (off - 4)) (fun s => s.pairApply m i (a - 4) (s.reg (a - 4)) v)
    | _ => s.pageEffect m page i off v
/-- An alias write of a header bit. -/
@[noinline] def State.aliasHead (s : State) (m : Master) (page : Nat) (i : PageInfo) (off bit : Nat) (b : Bool) : State :=
  if off = 0xC then (if b then s.setLock page (fld 1 bit) else s)
  else if off = 0x14 ∨ off = 0x24 then s.headEffect m page i off (Word.setBit (s.reg (pg page off)) bit b)
  else if off = 0x28 then s.force m page (flg b bit)
  else if off ≤ 0x20 then s.err page off .aliasErr m
  else s.err page off .reserved m
/-- An alias write applies in a page (R29, R56, R58); STAGE_DATA takes none (R131). -/
@[noinline] def State.aliasApply (s : State) (m : Master) (a bit : Nat) (b : Bool) : State :=
  match pageAt (a / 4096) with
  | none => s
  | some i =>
    let page := a / 4096
    let off := a % 4096 % i.span
    let t :=
      if s.haltBars (pg page off) then s.err page off .state m
      else if off < 0x40 then (if !s.headMay m i then s.err page off .state m else s.aliasHead m page i off bit b)
      else match s.writeGate m (pg page off), i.row off with
        | some .roWrite, _ => s.err page off .aliasErr m
        | some k, _ => s.err page off k m
        | none, some r =>
          if r.code = .ea ∨ r.code = .w1 ∨ (i.kind = .boot1 ∧ 0x80 ≤ off) then s.err page off .aliasErr m
          else s.aliasEffect m page i off r bit b
        | none, none => s
    t.errOffset s page (a % 4096)
/-- The word and bit of an alias address (R56). -/
def aliasOf (b : Nat) : Nat × Nat := (b / 128 * 4, b % 128 / 4)
/-- The page of an alias takes aliases (R57): listed, no broadcast page, ALIASED. -/
def aliasable (b : Nat) : Bool :=
  match pageAt ((aliasOf b).1 / 4096) with | some i => i.aliased && decide (b < 2 ^ 26) | none => false
/-- A 32-bit write to the alias space (R56, R57). -/
@[noinline] def State.aliasWrite (s : State) (m : Master) (b : Nat) (v : Word) : State :=
  if s.coreUp && isHart m && s.flr.replay == .running then s
  else if !s.arrives m 0 then s
  else
    let x := aliasOf b
    if !aliasable b then s.err 0 x.1 .unmapped m
    else s.pageWrite m x.1 (wd x.2 ||| flg (Word.bit v 0) 31) true false (fun s => s.aliasApply m x.1 x.2 (Word.bit v 0))
/-- What a read of an alias word returns (R57). -/
def State.aliasWord (s : State) (m : Master) (b : Nat) : Word :=
  let x := aliasOf b
  if !aliasable b ∨ readsBack x.1 then 0 else flg (Word.bit (s.readWord m x.1) x.2) 0
/-- A read of an alias of a register with read side effects records ALIAS (R57, R58). -/
@[noinline] def State.aliasReadEff (s : State) (m : Master) (b : Nat) : State :=
  if aliasable b && readsBack (aliasOf b).1 then s.errAt (aliasOf b).1 .aliasErr m else s

/-! ### Posted writes -/

/-- The write in flight to a page applies in its domain, and BUSY clears (R43). -/
@[noinline] def State.postedApply (s : State) (page : Nat) : State :=
  match s.postedAt page with
  | none => s
  | some p =>
    let s := s.setPosted page none
    if p.viaAlias then s.aliasApply p.m (pg page p.off) (Word.field p.v 4 0) (Word.bit p.v 31)
    else s.applyWrite p.m (pg page p.off) p.v p.bcast

/-! ### Wide and narrow accesses -/

/-- Pages that an access reaches: the members of a broadcast page, else its own. -/
def State.reachedPages (s : State) (a : Nat) : List Nat :=
  match bcastMembers (a / 4096) with
  | some ms => s.membersOf ms
  | none => [a / 4096]
/-- A narrow write is ignored (R34): NARROW, or UNMAPPED where no page is. -/
@[noinline] def State.narrowWrite (s : State) (m : Master) (a : Nat) : State :=
  if !s.arrives m (a / 4096) then s
  else (s.reachedPages a).foldl (fun s p =>
    match pageAt p with
    | none => s.err 0 a .unmapped m
    | some _ => s.err p (a % 4096) .narrow m) s
/-- The aligned words that bytes `a` to `a + n - 1` lie in. -/
def wordsOf (a n : Nat) : List Nat := (List.range ((a + n - 1) / 4 - a / 4 + 1)).map (fun k => 4 * (a / 4 + k))
/-- The bytes from offset `o` that a narrow read of the words `ws` returns (R34, R35). -/
def State.narrowBytes (s : State) (m : Master) (ws : List Nat) (o n : Nat) : Bytes :=
  Bytes.slice (ws.flatMap (fun w => leBytes 4 (if readsBack w then 0 else s.readWord m w).toNat)) o n
/-- A narrow read of `n` bytes at `a`, in the words `ws` (R34, R35): a register with read side effects records NARROW at the access's byte
offset and has no effect. -/
@[noinline] def State.narrowRead (s : State) (m : Master) (a n : Nat) (ws : List Nat) : State :=
  let t := (ws.filter readsBack).foldl (fun s w => s.errAt (w / 4096 * 4096 + a % 4096) .narrow m) s
  (if ws.any (fun w => (pageAt (w / 4096)).any (fun i => freeRead i (w % 4096 % i.span))) then t.freed else t).readOut m a
    (s.narrowBytes m ws (a % 4) n)
/-- Successive 32-bit reads of the words `ws`, returned as one at `a` after the bytes `d` (R34). -/
def State.readWords (s : State) (m : Master) (a : Nat) (ws : List Nat) (d : Bytes) : State :=
  match ws with
  | [] => s.answer m a d
  | w :: t => State.readWords (s.readEff m w) m a t (d ++ leBytes 4 (s.readWord m w).toNat)
/-- How many dwords an access reads or writes at full width (R34): 32 bits on a word, 64 bits as two, a PCIe request of several dwords
as many; 0 for an access that is narrow, crosses a dword boundary without filling both, or has byte enables with gaps. -/
def accWords (c : Access) : Nat := if c.contiguous && c.addr % 4 == 0 && c.size % 4 == 0 then c.size / 4 else 0
/-- The words of an access that begins at `a`, in ascending order, each at the address that `at_` gives it. -/
def accAddrs (at_ : Nat → Nat) (a n : Nat) : List Nat := (List.range n).map (fun k => at_ (a + 4 * k))
/-- A read of the register pages at address `a` of a space, whose words lie at BAR0 addresses `at_` (R29, R34). -/
@[noinline] def State.regRead (s : State) (c : Access) (at_ : Nat → Nat) (a : Nat) : State :=
  if accWords c = 1 then s.read32 c.m (at_ a)
  else if isHart c.m && s.flr.replay == .running then (s.out (.readData c.m (at_ a) (Config.freeBytes s.freeCtr c.size))).freed
  else if s.flrReads c.m (at_ a / 4096) then s.out (.readData c.m (at_ a) (zeros c.size))
  else if !s.arrives c.m (at_ a / 4096) then s
  else if accWords c ≠ 0 then s.readWords c.m (at_ a) (accAddrs at_ a (accWords c)) []
  else s.narrowRead c.m (at_ a) c.size ((wordsOf a c.size).map at_)
/-- A write of the register pages at address `a` of a space (R29, R34). -/
@[noinline] def State.regWrite (s : State) (c : Access) (at_ : Nat → Nat) (a : Nat) : State :=
  if accWords c = 0 then s.narrowWrite c.m (at_ a)
  else (List.range (accWords c)).foldl (fun s k => s.write32 c.m (at_ (a + 4 * k)) (Bytes.word c.data k)) s
/-- An access to the register pages. -/
@[noinline] def State.regAccess (s : State) (c : Access) (at_ : Nat → Nat) (a : Nat) : State :=
  if c.write then s.regWrite c at_ a else s.regRead c at_ a

/-! ### The alias space -/

/-- A read returns bytes to its master; a hart's load from the alias window has a LOAD record too (R624). -/
@[noinline] def State.loadOut (s : State) (m : Master) (hartAddr a : Nat) (data : Bytes) : State :=
  let s := if isHart m && s.boot.rtReleased && s.bitOf (pg 0x29 0x40) 0 then
      s.flight 0x03 m (leBytes 4 hartAddr ++ leBytes 1 data.length ++ zeros 3 ++ Bytes.fit data 8)
    else s
  s.out (.readData m a data)
/-- The bytes of the alias space from address `a` (R57, R58). -/
def State.aliasBytes (s : State) (m : Master) (a n : Nat) : Bytes :=
  Bytes.slice ((wordsOf a n).flatMap (fun w => leBytes 4 (s.aliasWord m w).toNat)) (a % 4) n
/-- A read of the alias space: no side effect (R57, R58). -/
@[noinline] def State.aliasRead (s : State) (m : Master) (a n : Nat) : State :=
  if isHart m && s.flr.replay == .running then (s.out (.readData m a (Config.freeBytes s.freeCtr n))).freed
  else if s.flrReads m 0 then s.out (.readData m a (zeros n))
  else if !s.arrives m 0 then s
  else ((wordsOf a n).foldl (fun s w => s.aliasReadEff m w) s).loadOut m (0x40000000 + a) a (s.aliasBytes m a n)
/-- An access to the alias space (R56 to R58). DESIGN CHOICE (log 65): a narrow write to the alias of unmapped or unaliased space records
UNMAPPED, as R57 has it, and not the NARROW of R58. -/
@[noinline] def State.aliasAccess (s : State) (c : Access) (a : Nat) : State :=
  if !c.write then s.aliasRead c.m a c.size
  else if accWords c ≠ 0 then (List.range (accWords c)).foldl (fun s k => s.aliasWrite c.m (a + 4 * k) (Bytes.word c.data k)) s
  else if !s.arrives c.m 0 then s
  else if aliasable a then s.errAt (aliasOf a).1 .narrow c.m
  else s.err 0 (aliasOf a).1 .unmapped c.m

/-! ### Core memory of the harts -/

/-- A load of a hart from core memory; one from a region that only hardware writes has a LOAD record (R624), and in a replay it is
served from the stream (R633). -/
@[noinline] def State.hartLoad (s : State) (m : Master) (r : HartRegion) (a o n : Nat) : State :=
  if r.hw && s.flr.replay == .running then (s.out (.readData m a (Config.freeBytes s.freeCtr n))).freed
  else
    let d := (List.range n).map (fun j => s.regionByte r (o + j) j)
    (if r.hw then s.loadOut m a a d else s.out (.readData m a d)).freed
/-- The kind of an access of a hart (R503). -/
def accKind (c : Access) : AccKind := if c.write then .store else .load
/-- An access of hart `h` to core memory (R502, R503). -/
@[noinline] def State.coreAccess (s : State) (h : Nat) (c : Access) : State :=
  match hartRegion c.addr c.size with
  | none => s.busFault h c.addr .unmapped (accKind c)
  | some (r, o) =>
    if c.write then (if storeMay h r then s.setBytes c.addr (c.data.take c.size) else s.busFault h c.addr .denied (accKind c))
    else if s.loadMay h r then s.hartLoad c.m r c.addr o c.size
    else s.busFault h c.addr .denied (accKind c)
/-- An access of a hart that runs (R34, R502, R503). -/
@[noinline] def State.hartAccess (s : State) (c : Access) : State :=
  let h := c.m.toNat
  if !isHart c.m || !s.runs h then s
  else if c.addr % c.size ≠ 0 then s.busFault h c.addr .misaligned (accKind c)
  else if 0x20000000 ≤ c.addr ∧ c.addr + c.size ≤ 0x22000000 then s.regAccess c id (c.addr - 0x20000000)
  else if 0x40000000 ≤ c.addr ∧ c.addr + c.size ≤ 0x44000000 then s.aliasAccess c (c.addr - 0x40000000)
  else s.coreAccess h c

/-- The BAR0 address of a word in the BAR of VF `v` (R84); the VF information page has its own number in the model. -/
def vfAddr (v a : Nat) : Nat := if a < 0x3000 then 0x110000 + 0x3000 * (v - 1) + a else pg (vfPageBase + v) (a % 4096)
/-- One access of a master in an address space (R78, R83 to R85, R502). -/
@[noinline] def State.access (s : State) (c : Access) : State :=
  match c.space with
  | .bar0 => if c.addr + c.size ≤ 0x2000000 then s.regAccess c id c.addr else s
  | .bar2 => if c.addr + c.size ≤ 0x4000000 then s.aliasAccess c c.addr else s
  | .vfBar v =>
    if s.vfOn v.val && c.m == fnMaster v.val && decide (c.addr + c.size ≤ 0x4000) then s.regAccess c (vfAddr v.val) c.addr else s
  | .hart => s.hartAccess c

/-! ### Commands -/

/-- A 32-bit write at an address of PF0 BAR0, which is 32 MB (R78). -/
@[noinline] def State.barWrite (s : State) (m : Master) (addr : Nat) (v : Word) : State :=
  if addr < 0x2000000 then s.write32 m (addr / 4 * 4) v else s


/-- REGISTER_WRITE (R29): one access of a master to a register or, for a hart, to its address map. -/
def execRegisterWrite (a : Access) (s : State) : Res := .next (s.access a)
/-- POSTED_WRITE_APPLY (R43). -/
def execPostedWriteApply (page : Nat) (s : State) : Res := .next (if s.coreUp then s.postedApply page else s)
/-- WIDE_REG_LOW_WRITE (R37): a 32-bit write at the address of a low word; any other address is an ordinary write. -/
def execWideRegLowWrite (m : Master) (addr : Nat) (v : Word) (s : State) : Res := .next (s.barWrite m addr v)
/-- WIDE_REG_HIGH_WRITE (R37): a 32-bit write at the address of a high word; any other address is an ordinary write. -/
def execWideRegHighWrite (m : Master) (addr : Nat) (v : Word) (s : State) : Res := .next (s.barWrite m addr v)
/-- BROADCAST_WRITE (R75): a 32-bit write at an offset of a broadcast or group page; any other address is an ordinary write. -/
def execBroadcastWrite (m : Master) (addr : Nat) (v : Word) (s : State) : Res := .next (s.barWrite m addr v)
/-- BIT_ALIAS_WRITE (R56). -/
def execBitAliasWrite (m : Master) (baddr : Nat) (v : Word) (s : State) : Res := .next (s.aliasWrite m (baddr / 4 * 4) v)
/-- UPD_STROBE (R49). -/
def execUpdStrobe (m : Master) (v : Word) (s : State) : Res := .next (s.guarded m (pg 1 0x40) (fun s => s.strobe v))
/-- SLOW_STROBE_APPLY (R49): the slow-domain edge of a page passes. -/
@[noinline] def State.slowEdge (s : State) (page : Nat) : State :=
  if !s.coreUp then s else { s with slowDue := s.slowDue.map (fun e => if e.1 / 4096 == page then (e.1, e.2.map (fun x => (true, x.2))) else e) }
/-- SLOW_STROBE_APPLY (R49). -/
def execSlowStrobeApply (page : Nat) (s : State) : Res := .next (s.slowEdge page)
/-- UPD_ARM_FIRE (R53): the armed position is reached; the copied groups are strobed and UPD_FIRED counts. -/
def execUpdArmFire (s : State) : Res :=
  .next (if s.coreUp && s.arm.st == .armed && s.reached s.arm.hc s.arm.lu then
    ((s.strobe s.arm.mask).count (evSys 2)) |> fun s => { s with arm := { s.arm with st := .fired } }
  else s)

end Sys2Proof.Machine
end

