-- ==== Sys2Proof/Machine/Dispatch.lean ====
section
/-! DEFINITION. One arm per command: a direct call of its meaning. -/
namespace Sys2Proof.Machine

/-- The effect of a command on everything but the queue. -/
def exec (i : Instr) (s : State) : Host.Outcome State Fault Refusal :=
  match i with
  | .registerWrite a => Sys2Proof.Machine.execRegisterWrite a s
  | .postedWriteApply page => Sys2Proof.Machine.execPostedWriteApply page s
  | .pageLockWrite m page v => Sys2Proof.Machine.execPageLockWrite m page v s
  | .pageErrAck m page v => Sys2Proof.Machine.execPageErrAck m page v s
  | .counterLowRead m addr => Sys2Proof.Machine.execCounterLowRead m addr s
  | .wideRegLowWrite m addr v => Sys2Proof.Machine.execWideRegLowWrite m addr v s
  | .wideRegHighWrite m addr v => Sys2Proof.Machine.execWideRegHighWrite m addr v s
  | .updStrobe m v => Sys2Proof.Machine.execUpdStrobe m v s
  | .slowStrobeApply page => Sys2Proof.Machine.execSlowStrobeApply page s
  | .updArm m => Sys2Proof.Machine.execUpdArm m s
  | .updCancel m => Sys2Proof.Machine.execUpdCancel m s
  | .updArmFire => Sys2Proof.Machine.execUpdArmFire s
  | .orderFenceRead m => Sys2Proof.Machine.execOrderFenceRead m s
  | .eventAck m src v => Sys2Proof.Machine.execEventAck m src v s
  | .evtForce m page v => Sys2Proof.Machine.execEvtForce m page v s
  | .semRead m n => Sys2Proof.Machine.execSemRead m n s
  | .semWrite m n v => Sys2Proof.Machine.execSemWrite m n v s
  | .broadcastWrite m addr v => Sys2Proof.Machine.execBroadcastWrite m addr v s
  | .bitAliasWrite m baddr v => Sys2Proof.Machine.execBitAliasWrite m baddr v s
  | .routeWrite m src v => Sys2Proof.Machine.execRouteWrite m src v s
  | .swEvt m v => Sys2Proof.Machine.execSwEvt m v s
  | .msixPendingSend fn vec => Sys2Proof.Machine.execMsixPendingSend fn vec s
  | .aonValid => Sys2Proof.Machine.execAonValid s
  | .aonLoss => Sys2Proof.Machine.execAonLoss s
  | .pwrOkRise env => Sys2Proof.Machine.execPwrOkRise env s
  | .pwrOkLoss => Sys2Proof.Machine.execPwrOkLoss s
  | .deviceReset => Sys2Proof.Machine.execDeviceReset s
  | .wipeComplete fault us scan => Sys2Proof.Machine.execWipeComplete fault us scan s
  | .romFetchDone body readFail => Sys2Proof.Machine.execRomFetchDone body readFail s
  | .pushCtrlWrite m v => Sys2Proof.Machine.execPushCtrlWrite m v s
  | .bootStageWrite m v => Sys2Proof.Machine.execBootStageWrite m v s
  | .stageClaim m v => Sys2Proof.Machine.execStageClaim m v s
  | .stageDataAppend m v => Sys2Proof.Machine.execStageDataAppend m v s
  | .releaseGo m => Sys2Proof.Machine.execReleaseGo m s
  | .releaseCheckDone => Sys2Proof.Machine.execReleaseCheckDone s
  | .releaseAbandon m => Sys2Proof.Machine.execReleaseAbandon m s
  | .runtimeReleaseComplete => Sys2Proof.Machine.execRuntimeReleaseComplete s
  | .holdReqWrite m v => Sys2Proof.Machine.execHoldReqWrite m v s
  | .holdUnforce m v => Sys2Proof.Machine.execHoldUnforce m v s
  | .holdNDeassert ln => Sys2Proof.Machine.execHoldNDeassert ln s
  | .holdNReassert p => Sys2Proof.Machine.execHoldNReassert p s
  | .seqGo m => Sys2Proof.Machine.execSeqGo m s
  | .seqSkip m => Sys2Proof.Machine.execSeqSkip m s
  | .seqStop m => Sys2Proof.Machine.execSeqStop m s
  | .seqSlotComplete => Sys2Proof.Machine.execSeqSlotComplete s
  | .seqStall => Sys2Proof.Machine.execSeqStall s
  | .pgoodChange ix lvl => Sys2Proof.Machine.execPgoodChange ix lvl s
  | .masterCommand p mc => Sys2Proof.Machine.execMasterCommand p mc s
  | .readJedecId p c r => Sys2Proof.Machine.execReadJedecId p c r s
  | .readSfdp p c addr r => Sys2Proof.Machine.execReadSfdp p c addr r s
  | .masterCsDeassert p => Sys2Proof.Machine.execMasterCsDeassert p s
  | .dqsTimeout p => Sys2Proof.Machine.execDqsTimeout p s
  | .leaseWrite m p v => Sys2Proof.Machine.execLeaseWrite m p v s
  | .leaseGrant p c => Sys2Proof.Machine.execLeaseGrant p c s
  | .leaseEnd p c => Sys2Proof.Machine.execLeaseEnd p c s
  | .mrstEdge p => Sys2Proof.Machine.execMrstEdge p s
  | .mrstDeferredPulse p => Sys2Proof.Machine.execMrstDeferredPulse p s
  | .discover m p v => Sys2Proof.Machine.execDiscover m p v s
  | .discoveryDone p c r => Sys2Proof.Machine.execDiscoveryDone p c r s
  | .sfdpWinRead m p => Sys2Proof.Machine.execSfdpWinRead m p s
  | .phyCal m p => Sys2Proof.Machine.execPhyCal m p s
  | .phyCalDone p best => Sys2Proof.Machine.execPhyCalDone p best s
  | .portPendingApply p => Sys2Proof.Machine.execPortPendingApply p s
  | .bankFault p code => Sys2Proof.Machine.execBankFault p code s
  | .ctWrite m p => Sys2Proof.Machine.execCtWrite m p s
  | .ctRead m p => Sys2Proof.Machine.execCtRead m p s
  | .ctSwap m p => Sys2Proof.Machine.execCtSwap m p s
  | .ctClear m p => Sys2Proof.Machine.execCtClear m p s
  | .rtWrite m p => Sys2Proof.Machine.execRtWrite m p s
  | .rtRead m p => Sys2Proof.Machine.execRtRead m p s
  | .rtSwap m p => Sys2Proof.Machine.execRtSwap m p s
  | .rtSwapAll m p => Sys2Proof.Machine.execRtSwapAll m p s
  | .rtClear m p => Sys2Proof.Machine.execRtClear m p s
  | .tableSwapApply p => Sys2Proof.Machine.execTableSwapApply p s
  | .wqApply m p => Sys2Proof.Machine.execWqApply m p s
  | .wqDiscard m p => Sys2Proof.Machine.execWqDiscard m p s
  | .wqRetire m p => Sys2Proof.Machine.execWqRetire m p s
  | .wqFence m p => Sys2Proof.Machine.execWqFence m p s
  | .wqEntryStart p ix => Sys2Proof.Machine.execWqEntryStart p ix s
  | .wqEntryDone p ix pFail eFail => Sys2Proof.Machine.execWqEntryDone p ix pFail eFail s
  | .wqEntryTimeout p ix => Sys2Proof.Machine.execWqEntryTimeout p ix s
  | .fullcheck m p => Sys2Proof.Machine.execFullcheck m p s
  | .verResume m p => Sys2Proof.Machine.execVerResume m p s
  | .scrubRestart m p => Sys2Proof.Machine.execScrubRestart m p s
  | .substSetCmd m p v => Sys2Proof.Machine.execSubstSetCmd m p v s
  | .substClearCmd m p v => Sys2Proof.Machine.execSubstClearCmd m p v s
  | .bindWrite m p => Sys2Proof.Machine.execBindWrite m p s
  | .bindRead m p => Sys2Proof.Machine.execBindRead m p s
  | .bindLoad m p => Sys2Proof.Machine.execBindLoad m p s
  | .bindConfirm m p => Sys2Proof.Machine.execBindConfirm m p s
  | .bindUnbind m p => Sys2Proof.Machine.execBindUnbind m p s
  | .treeNodeRead p b node => Sys2Proof.Machine.execTreeNodeRead p b node s
  | .demandNodeRead p b nodes => Sys2Proof.Machine.execDemandNodeRead p b nodes s
  | .treeNodeUe p b level idx => Sys2Proof.Machine.execTreeNodeUe p b level idx s
  | .stitchTimeout p => Sys2Proof.Machine.execStitchTimeout p s
  | .fetchCheckDone p => Sys2Proof.Machine.execFetchCheckDone p s
  | .pwWrite m p => Sys2Proof.Machine.execPwWrite m p s
  | .pwRead m p => Sys2Proof.Machine.execPwRead m p s
  | .pwLoad m p => Sys2Proof.Machine.execPwLoad m p s
  | .pwUnload m p => Sys2Proof.Machine.execPwUnload m p s
  | .windowBlockRead p w data => Sys2Proof.Machine.execWindowBlockRead p w data s
  | .windowStateApply p w => Sys2Proof.Machine.execWindowStateApply p w s
  | .scrubBlockRead p data => Sys2Proof.Machine.execScrubBlockRead p data s
  | .fullcheckBlockRead p data => Sys2Proof.Machine.execFullcheckBlockRead p data s
  | .covReset m p => Sys2Proof.Machine.execCovReset m p s
  | .digestJob src d => Sys2Proof.Machine.execDigestJob src d s
  | .digestDiscard src d => Sys2Proof.Machine.execDigestDiscard src d s
  | .digestJobStart lane => Sys2Proof.Machine.execDigestJobStart lane s
  | .lanePreempt lane => Sys2Proof.Machine.execLanePreempt lane s
  | .digestJobDone lane io => Sys2Proof.Machine.execDigestJobDone lane io s
  | .contextSramUe idx => Sys2Proof.Machine.execContextSramUe idx s
  | .zcPulse width => Sys2Proof.Machine.execZcPulse width s
  | .zcBPulse width => Sys2Proof.Machine.execZcBPulse width s
  | .halfCycleMissing => Sys2Proof.Machine.execHalfCycleMissing s
  | .lineLostTimeout => Sys2Proof.Machine.execLineLostTimeout s
  | .dcFeedEntry => Sys2Proof.Machine.execDcFeedEntry s
  | .pfWarnAssert => Sys2Proof.Machine.execPfWarnAssert s
  | .pfWarnDeassert => Sys2Proof.Machine.execPfWarnDeassert s
  | .holdupModeExit => Sys2Proof.Machine.execHoldupModeExit s
  | .eraWrap => Sys2Proof.Machine.execEraWrap s
  | .holdupEstimate code => Sys2Proof.Machine.execHoldupEstimate code s
  | .posSeedWrite m lo hi => Sys2Proof.Machine.execPosSeedWrite m lo hi s
  | .seedApply => Sys2Proof.Machine.execSeedApply s
  | .commitSubmit m v => Sys2Proof.Machine.execCommitSubmit m v s
  | .commitWithdraw m v => Sys2Proof.Machine.execCommitWithdraw m v s
  | .commitAdmit => Sys2Proof.Machine.execCommitAdmit s
  | .commitEnd res => Sys2Proof.Machine.execCommitEnd res s
  | .commitFlashTimeout => Sys2Proof.Machine.execCommitFlashTimeout s
  | .commitTimeout entry => Sys2Proof.Machine.execCommitTimeout entry s
  | .timerArm m v => Sys2Proof.Machine.execTimerArm m v s
  | .timerCancel m v => Sys2Proof.Machine.execTimerCancel m v s
  | .lineTimerFire t => Sys2Proof.Machine.execLineTimerFire t s
  | .lcReq m v => Sys2Proof.Machine.execLcReq m v s
  | .lcCellarWipeDone => Sys2Proof.Machine.execLcCellarWipeDone s
  | .dbgGrant m v => Sys2Proof.Machine.execDbgGrant m v s
  | .nonceRefresh m => Sys2Proof.Machine.execNonceRefresh m s
  | .memtestEnter m v => Sys2Proof.Machine.execMemtestEnter m v s
  | .kduDerive m => Sys2Proof.Machine.execKduDerive m s
  | .kduDiscard m => Sys2Proof.Machine.execKduDiscard m s
  | .kduRootGen m => Sys2Proof.Machine.execKduRootGen m s
  | .kduRootClass m v => Sys2Proof.Machine.execKduRootClass m v s
  | .bbramErase m => Sys2Proof.Machine.execBbramErase m s
  | .kduCloseSecret m => Sys2Proof.Machine.execKduCloseSecret m s
  | .kduLockCdi m => Sys2Proof.Machine.execKduLockCdi m s
  | .keyGenerate src d io => Sys2Proof.Machine.execKeyGenerate src d io s
  | .keyLoad src d io => Sys2Proof.Machine.execKeyLoad src d io s
  | .keyWrap src d io => Sys2Proof.Machine.execKeyWrap src d io s
  | .keyUnload src d io => Sys2Proof.Machine.execKeyUnload src d io s
  | .keyQuery src d io => Sys2Proof.Machine.execKeyQuery src d io s
  | .keyDerive src d io => Sys2Proof.Machine.execKeyDerive src d io s
  | .keyReserve src d io => Sys2Proof.Machine.execKeyReserve src d io s
  | .keyImport src d io => Sys2Proof.Machine.execKeyImport src d io s
  | .aesSeal src d io => Sys2Proof.Machine.execAesSeal src d io s
  | .aesOpen src d io => Sys2Proof.Machine.execAesOpen src d io s
  | .pkSign src d io => Sys2Proof.Machine.execPkSign src d io s
  | .pkVerify src d io => Sys2Proof.Machine.execPkVerify src d io s
  | .keyExchange src d io => Sys2Proof.Machine.execKeyExchange src d io s
  | .keyEncaps src d io => Sys2Proof.Machine.execKeyEncaps src d io s
  | .proof src d io => Sys2Proof.Machine.execProof src d io s
  | .blobEpochAdvance src d io => Sys2Proof.Machine.execBlobEpochAdvance src d io s
  | .cellarOpDone ix => Sys2Proof.Machine.execCellarOpDone ix s
  | .cellarSramUe slot => Sys2Proof.Machine.execCellarSramUe slot s
  | .measExtend src d io => Sys2Proof.Machine.execMeasExtend src d io s
  | .measRead src d io => Sys2Proof.Machine.execMeasRead src d io s
  | .measScan src d io => Sys2Proof.Machine.execMeasScan src d io s
  | .measDefine src d io => Sys2Proof.Machine.execMeasDefine src d io s
  | .extendApply => Sys2Proof.Machine.execExtendApply s
  | .scanStart => Sys2Proof.Machine.execScanStart s
  | .scanComplete tag => Sys2Proof.Machine.execScanComplete tag s
  | .spdmGetVersion t q => Sys2Proof.Machine.execSpdmGetVersion t q s
  | .spdmGetCapabilities t q => Sys2Proof.Machine.execSpdmGetCapabilities t q s
  | .spdmNegotiateAlgorithms t q => Sys2Proof.Machine.execSpdmNegotiateAlgorithms t q s
  | .spdmGetDigests t q => Sys2Proof.Machine.execSpdmGetDigests t q s
  | .spdmGetCertificate t q => Sys2Proof.Machine.execSpdmGetCertificate t q s
  | .spdmChallenge t q => Sys2Proof.Machine.execSpdmChallenge t q s
  | .spdmGetMeasurements t q => Sys2Proof.Machine.execSpdmGetMeasurements t q s
  | .spdmKeyExchange t q => Sys2Proof.Machine.execSpdmKeyExchange t q s
  | .spdmFinish t q => Sys2Proof.Machine.execSpdmFinish t q s
  | .spdmKeyUpdate t q => Sys2Proof.Machine.execSpdmKeyUpdate t q s
  | .spdmEndSession t q => Sys2Proof.Machine.execSpdmEndSession t q s
  | .spdmHeartbeat t q => Sys2Proof.Machine.execSpdmHeartbeat t q s
  | .spdmChunkSend t q => Sys2Proof.Machine.execSpdmChunkSend t q s
  | .spdmChunkGet t q => Sys2Proof.Machine.execSpdmChunkGet t q s
  | .spdmPqSig t q => Sys2Proof.Machine.execSpdmPqSig t q s
  | .spdmPqChain t q => Sys2Proof.Machine.execSpdmPqChain t q s
  | .spdmUnsupported t q => Sys2Proof.Machine.execSpdmUnsupported t q s
  | .linkUp speed width => Sys2Proof.Machine.execLinkUp speed width s
  | .linkDown => Sys2Proof.Machine.execLinkDown s
  | .linkRetrain m => Sys2Proof.Machine.execLinkRetrain m s
  | .vfFlr v => Sys2Proof.Machine.execVfFlr v s
  | .vfDisable numVfs => Sys2Proof.Machine.execVfDisable numVfs s
  | .pf0Flr => Sys2Proof.Machine.execPf0Flr s
  | .flrComplete fn => Sys2Proof.Machine.execFlrComplete fn s
  | .funcPowerChange fn d3 bme ctl => Sys2Proof.Machine.execFuncPowerChange fn d3 bme ctl s
  | .ideKeyInstall key => Sys2Proof.Machine.execIdeKeyInstall key s
  | .ideIntegrityFail stream => Sys2Proof.Machine.execIdeIntegrityFail stream s
  | .doeWrite w => Sys2Proof.Machine.execDoeWrite w s
  | .doeGo => Sys2Proof.Machine.execDoeGo s
  | .doeAbort => Sys2Proof.Machine.execDoeAbort s
  | .doeSend m => Sys2Proof.Machine.execDoeSend m s
  | .doeFail m => Sys2Proof.Machine.execDoeFail m s
  | .queueEnable m q => Sys2Proof.Machine.execQueueEnable m q s
  | .queueDisable m q => Sys2Proof.Machine.execQueueDisable m q s
  | .queueDrained q => Sys2Proof.Machine.execQueueDrained q s
  | .sqDoorbell m q v => Sys2Proof.Machine.execSqDoorbell m q v s
  | .cqHeadWrite m q v => Sys2Proof.Machine.execCqHeadWrite m q v s
  | .descriptorFetch q d => Sys2Proof.Machine.execDescriptorFetch q d s
  | .descriptorStart q slot => Sys2Proof.Machine.execDescriptorStart q slot s
  | .nop src d => Sys2Proof.Machine.execNop src d s
  | .mctpRequest tag d inp => Sys2Proof.Machine.execMctpRequest tag d inp s
  | .hostNegotiate src d => Sys2Proof.Machine.execHostNegotiate src d s
  | .getEpoch src d => Sys2Proof.Machine.execGetEpoch src d s
  | .issuerList src d => Sys2Proof.Machine.execIssuerList src d s
  | .envelope src d io => Sys2Proof.Machine.execEnvelope src d io s
  | .envelopeEpochTimeout ix => Sys2Proof.Machine.execEnvelopeEpochTimeout ix s
  | .issuerBootstrap src d io => Sys2Proof.Machine.execIssuerBootstrap src d io s
  | .cmdLcTransition => Sys2Proof.Machine.execCmdLcTransition s
  | .cmdDebugGrant => Sys2Proof.Machine.execCmdDebugGrant s
  | .cmdKeyImport => Sys2Proof.Machine.execCmdKeyImport s
  | .cmdPolicySet => Sys2Proof.Machine.execCmdPolicySet s
  | .cmdImageActivate scan => Sys2Proof.Machine.execCmdImageActivate scan s
  | .cmdRevoke imgs => Sys2Proof.Machine.execCmdRevoke imgs s
  | .cmdBlobEpochAdvance => Sys2Proof.Machine.execCmdBlobEpochAdvance s
  | .cmdEpochAdvance => Sys2Proof.Machine.execCmdEpochAdvance s
  | .cmdIssuerRegister => Sys2Proof.Machine.execCmdIssuerRegister s
  | .cmdIssuerRemove => Sys2Proof.Machine.execCmdIssuerRemove s
  | .hartReset m h => Sys2Proof.Machine.execHartReset m h s
  | .hartWake m h => Sys2Proof.Machine.execHartWake m h s
  | .hartWfi h mie rx tx => Sys2Proof.Machine.execHartWfi h mie rx tx s
  | .hartGate h => Sys2Proof.Machine.execHartGate h s
  | .hartAccessFault h addr fault => Sys2Proof.Machine.execHartAccessFault h addr fault s
  | .lockstepMismatch => Sys2Proof.Machine.execLockstepMismatch s
  | .ringEnable m h => Sys2Proof.Machine.execRingEnable m h s
  | .ringDisable m h => Sys2Proof.Machine.execRingDisable m h s
  | .ringDoorbell h v => Sys2Proof.Machine.execRingDoorbell h v s
  | .ringCqHead h v => Sys2Proof.Machine.execRingCqHead h v s
  | .dbgHalt m v => Sys2Proof.Machine.execDbgHalt m v s
  | .dbgResume m v => Sys2Proof.Machine.execDbgResume m v s
  | .jdcTxWrite m v => Sys2Proof.Machine.execJdcTxWrite m v s
  | .jdcRxWrite m v => Sys2Proof.Machine.execJdcRxWrite m v s
  | .jdcTxRead m => Sys2Proof.Machine.execJdcTxRead m s
  | .jdcRxRead m => Sys2Proof.Machine.execJdcRxRead m s
  | .btEntryWrite m c v => Sys2Proof.Machine.execBtEntryWrite m c v s
  | .chSend m c => Sys2Proof.Machine.execChSend m c s
  | .chTake m c => Sys2Proof.Machine.execChTake m c s
  | .chTimeout c => Sys2Proof.Machine.execChTimeout c s
  | .i3cAgentReset => Sys2Proof.Machine.execI3cAgentReset s
  | .jtagDisconnect => Sys2Proof.Machine.execJtagDisconnect s
  | .cvnCfgWrite m v => Sys2Proof.Machine.execCvnCfgWrite m v s
  | .cvnBlockLock p => Sys2Proof.Machine.execCvnBlockLock p s
  | .cvnHelloRx p f => Sys2Proof.Machine.execCvnHelloRx p f s
  | .cvnConfirmRx p f => Sys2Proof.Machine.execCvnConfirmRx p f s
  | .cvnHandshakeTimeout p => Sys2Proof.Machine.execCvnHandshakeTimeout p s
  | .cvnPortRestart m v => Sys2Proof.Machine.execCvnPortRestart m v s
  | .cvnPortDown p => Sys2Proof.Machine.execCvnPortDown p s
  | .cvnTrain m => Sys2Proof.Machine.execCvnTrain m s
  | .cvnTrainRx p f => Sys2Proof.Machine.execCvnTrainRx p f s
  | .cvnSweepRx p f => Sys2Proof.Machine.execCvnSweepRx p f s
  | .sweepLostTimeout => Sys2Proof.Machine.execSweepLostTimeout s
  | .sweepMissedCheck => Sys2Proof.Machine.execSweepMissedCheck s
  | .cvnNoticeRx p f => Sys2Proof.Machine.execCvnNoticeRx p f s
  | .cvnRecoverRx p f => Sys2Proof.Machine.execCvnRecoverRx p f s
  | .cvnForward m imgs => Sys2Proof.Machine.execCvnForward m imgs s
  | .cvnDrop m => Sys2Proof.Machine.execCvnDrop m s
  | .cvnSendNotice m => Sys2Proof.Machine.execCvnSendNotice m s
  | .cvnSendRecover m => Sys2Proof.Machine.execCvnSendRecover m s
  | .cvnTimeSend => Sys2Proof.Machine.execCvnTimeSend s
  | .cvnTimeRx p f => Sys2Proof.Machine.execCvnTimeRx p f s
  | .cvnTimeCal m => Sys2Proof.Machine.execCvnTimeCal m s
  | .cvnCreditRx p f => Sys2Proof.Machine.execCvnCreditRx p f s
  | .cvnCreditSend p => Sys2Proof.Machine.execCvnCreditSend p s
  | .excDataRead m => Sys2Proof.Machine.execExcDataRead m s
  | .tkMacVerify src d io => Sys2Proof.Machine.execTkMacVerify src d io s
  | .tkMacGenerate src d io => Sys2Proof.Machine.execTkMacGenerate src d io s
  | .tkPinTranslate src d io => Sys2Proof.Machine.execTkPinTranslate src d io s
  | .tkIkDerive src d io => Sys2Proof.Machine.execTkIkDerive src d io s
  | .tkState src d io => Sys2Proof.Machine.execTkState src d io s
  | .tksJobStart ix => Sys2Proof.Machine.execTksJobStart ix s
  | .tksJobDone pipe => Sys2Proof.Machine.execTksJobDone pipe s
  | .tksPipeFault pipe => Sys2Proof.Machine.execTksPipeFault pipe s
  | .sensorTrip cause => Sys2Proof.Machine.execSensorTrip cause s
  | .thermContainLift => Sys2Proof.Machine.execThermContainLift s
  | .vbatLow => Sys2Proof.Machine.execVbatLow s
  | .vbatMissing => Sys2Proof.Machine.execVbatMissing s
  | .batteryDomainStart => Sys2Proof.Machine.execBatteryDomainStart s
  | .loopArmWrite m v => Sys2Proof.Machine.execLoopArmWrite m v s
  | .pwrReqStandby m => Sys2Proof.Machine.execPwrReqStandby m s
  | .pwrReqRetain m => Sys2Proof.Machine.execPwrReqRetain m s
  | .pwrReqActive m => Sys2Proof.Machine.execPwrReqActive m s
  | .standbyEntryDone => Sys2Proof.Machine.execStandbyEntryDone s
  | .activeReturnDone => Sys2Proof.Machine.execActiveReturnDone s
  | .retainEntryDone => Sys2Proof.Machine.execRetainEntryDone s
  | .wakeNEdge => Sys2Proof.Machine.execWakeNEdge s
  | .gpPinEdge p rise => Sys2Proof.Machine.execGpPinEdge p rise s
  | .perstAssert => Sys2Proof.Machine.execPerstAssert s
  | .perstDeassert => Sys2Proof.Machine.execPerstDeassert s
  | .wakeTimeout => Sys2Proof.Machine.execWakeTimeout s
  | .watchdogExpire w => Sys2Proof.Machine.execWatchdogExpire w s
  | .recoverHold cls => Sys2Proof.Machine.execRecoverHold cls s
  | .recoverSubstitute cls => Sys2Proof.Machine.execRecoverSubstitute cls s
  | .recoverRestore cls env => Sys2Proof.Machine.execRecoverRestore cls env s
  | .recoverReport => Sys2Proof.Machine.execRecoverReport s
  | .drbgReseed => Sys2Proof.Machine.execDrbgReseed s
  | .checkpointWrite m v => Sys2Proof.Machine.execCheckpointWrite m v s
  | .exportStartDma m => Sys2Proof.Machine.execExportStartDma m s
  | .exportStartWin m => Sys2Proof.Machine.execExportStartWin m s
  | .exportAbort m => Sys2Proof.Machine.execExportAbort m s
  | .exportDataRead m => Sys2Proof.Machine.execExportDataRead m s
  | .exportDone ok => Sys2Proof.Machine.execExportDone ok s
  | .replayEnter m => Sys2Proof.Machine.execReplayEnter m s
  | .replayDiverge => Sys2Proof.Machine.execReplayDiverge s
  | .replayEnd => Sys2Proof.Machine.execReplayEnd s
  | .halfCycleBoundary => Sys2Proof.Machine.execHalfCycleBoundary s
  | .bankVoltageReturn p code => Sys2Proof.Machine.execBankVoltageReturn p code s
  | .vbatReturn => Sys2Proof.Machine.execVbatReturn s
  | .mainRoadStartAfterCoreEn => Sys2Proof.Machine.execMainRoadStartAfterCoreEn s
  | .jtagConnect => Sys2Proof.Machine.execJtagConnect s
  | .sramCorrectedError double => Sys2Proof.Machine.execSramCorrectedError double s
  | .pllUnlock => Sys2Proof.Machine.execPllUnlock s
  | .refclkLoss => Sys2Proof.Machine.execRefclkLoss s
  | .fabricTimeout => Sys2Proof.Machine.execFabricTimeout s
  | .aerErr kind => Sys2Proof.Machine.execAerErr kind s

end Sys2Proof.Machine
end

