-- ==== Sys2Proof/Machine/Tick.lean ====
section
/-! DEFINITION. One microsecond of the block's clock: the oscillator's phase (R304), BAT_TIME (R602), the status reads for waiting
commits (R318), the ROM's reading of the JTAG data channel (R351), and the anti-rollback records of successful boots (R611, R612). Everything else that happens in time is a command of its own. -/
namespace Sys2Proof.Machine

/-! ### Successful boots -/

/-- Half-cycles that make a boot successful (R611). -/
def goodHc : Nat := 6000
/-- The classes that serve a known version: the runtime itself, class 0, and those activated in this boot. -/
def State.served (s : State) (k : Nat) : Option Nat :=
  if k = 0 then some (manSecVersion s.boot.rtMan)
  else match SMap.get (fun _ => 0) s.boot.served k with | 0 => none | v + 1 => some v
/-- What must hold without a break (R611): class 0, STAGE 0x09 and no lockstep reset of hart 0; a guarded class, every line of it
released, no containment and no watchdog expiry. -/
def State.goodNow (s : State) (k : Nat) : Bool :=
  if k = 0 then s.fldOf aStage 7 0 == 9 && s.harts.lsResets == 0
  else !(s.classLines k).isEmpty && (s.classLines k).all (fun i => !s.lineHeld i) && !s.inRecovery k
/-- When the run of good half-cycles of a class began. -/
def State.goodAt (s : State) (k : Nat) : Option Nat := SMap.get (fun _ => none) s.boot.good k
/-- When the last of a class's lines deasserted. -/
def State.lastRelease (s : State) (k : Nat) : Nat :=
  if k = 0 then 0 else (s.classLines k).foldl (fun m i => max m (SMap.get (fun _ => 0) s.prst.relAt i)) 0
/-- The run goes on, begins, or ends; a line that was held in between begins it anew. -/
@[noinline] def State.goodStep (s : State) (k : Nat) : State :=
  let v := if s.goodNow k then some (max ((s.goodAt k).getD s.posRun) (s.lastRelease k)) else none
  if v = s.goodAt k then s else s.modBoot (fun b => { b with good := SMap.set (fun _ => none) b.good k v })
/-- PENDING entry `i` of a record: CLASS, COUNT, VERSION (R608). -/
def arbEntry (r : Bytes) (i : Nat) : Nat × Nat × Nat := (Bytes.num r (0x90 + 4 * i) 1, Bytes.num r (0x91 + 4 * i) 1, Bytes.num r (0x92 + 4 * i) 2)
/-- The entry that a class uses: its own, else the first empty one. -/
def arbSlot (r : Bytes) (k : Nat) : Option Nat :=
  ((List.range 8).find? (fun i => (arbEntry r i).1 == k)).orElse (fun _ => (List.range 8).find? (fun i => (arbEntry r i).1 == 0xFF))
/-- A class has an Oasis copy on some port; whether it holds a valid image of the version is read from flash by the runtime: free. -/
def State.hasOasis (s : State) (k : Nat) : Bool :=
  (List.range 16).any (fun p => (List.range 256).any (fun r =>
    let e := (s.port p).rg r
    eValid e && rgClass e == k && (rgOasis e).2.2))
/-- The minimum of a class may rise now (R612). -/
def State.oasisOk (s : State) (k : Nat) : Bool := !s.hasOasis k || Word.bit (Config.freeWord s.freeCtr) 31
/-- The record of a successful boot of class `k` at version `v` (R611, R612), in entry `i`. -/
@[noinline] def State.arbCount (s : State) (k v i : Nat) : State :=
  let r := s.boot.arb
  let e := arbEntry r i
  let n := Bytes.num r 8 1
  let cnt := if e.1 = k ∧ e.2.2 = v then min n (e.2.1 + 1) else 1
  let up := decide (n ≤ cnt) && s.oasisOk k
  let ent := if up then [0xFF, 0, 0, 0] else leBytes 1 k ++ leBytes 1 cnt ++ leBytes 2 v
  let mins := if up then s.arbMins k v else s.arbMins k (s.recMin k)
  s.arbCommit 0 (arbRec (arbSeq r + 1) n (Bytes.num r 9 1) mins (putAt (Bytes.slice r 0x90 32) (4 * i) ent))
/-- A class whose boot is successful has one record written in this boot, once a record can be written (R610, R611). -/
@[noinline] def State.arbGood (s : State) (k : Nat) : State :=
  match s.served k, s.goodAt k with
  | some v, some t =>
    if s.hcSince t < goodHc ∨ SMap.get (fun _ => false) s.boot.counted k ∨ v ≤ s.recMin k ∨ s.boot.arb.isEmpty ∨ !s.arbMay ∨ s.arbBusy then s
    else match arbSlot s.boot.arb k with
      | some i => (s.modBoot (fun b => { b with counted := SMap.set (fun _ => false) b.counted k true })).arbCount k v i
      | none => s
  | _, _ => s
/-- What the runtime does about successful boots. -/
@[noinline] def State.goodBoots (s : State) : State :=
  if !s.boot.rtReleased || !s.coreUp then s
  else (0 :: s.boot.served.map (fun x => x.1)).foldl (fun s k => (s.goodStep k).arbGood k) s.arbNext

/-! ### Requests through the JTAG data channel -/

/-- The ROM takes life-cycle requests through the JTAG data channel (R338, R351, R512): while it runs, in RAW, TEST and RETURN. -/
def State.romTakes (s : State) : Bool :=
  s.awake && !s.shut && !s.boot.rtReleased && (s.hart 0).st == .run && s.lcIn [.raw, .test, .ret]
/-- The ROM reads a word of the channel (R351, R512): a request is whole at the length that its SIGNERS gives; it is checked, the
transition requested, and the status told in JDC_TX. DESIGN CHOICE (log 86): that framing, and where the status goes. -/
@[noinline] def State.romRequest (s : State) : State :=
  if !s.romTakes || !s.harts.rxFull then s
  else
    let b := s.boot.jreq ++ leBytes 4 s.harts.jdcRx.toNat
    let n := Bytes.num b 7 1
    let s := (s.modHarts (fun x => { x with rxFull := false })).modBoot (fun x => { x with jreq := b })
    if b.length < 64 ∨ (n ≤ 2 ∧ b.length < 64 + 7424 * n) then s
    else
      let t := Bytes.num b 0x11 1
      let st := s.reqCheck b 1
      let r := if st = stOk then s.lcCheck t else st
      let s := s.modBoot (fun x => { x with jreq := [] })
      (if st = stOk then s.lcReq (wd (0x100 + t)) else s).jdcTxWrite 0 (wd r.toNat)

/-! ### The clock -/

/-- BAT_TIME counts seconds while the battery domain runs, which it always does, and saturates (R602). -/
def TampState.second (t : TampState) : TampState :=
  if t.batUs = 999999 then { t with batUs := 0, batTime := satInc t.batTime } else { t with batUs := t.batUs + 1 }
/-- The oscillator runs on while the always-on rail is valid (R304); the count steps with HALF_CYCLE_BOUNDARY. -/
def State.oscStep (s : State) : State := if s.pwr.aonValid then s.modCis (fun c => { c with ph := c.ph + c.rate }) else s
/-- One microsecond passes. -/
def State.tick (s : State) : State :=
  ({ s.oscStep with clk := s.clk + 1, tamp := s.tamp.second }).wipPolls.romRequest.goodBoots

end Sys2Proof.Machine
end

