-- ==== Sys2Proof/Safety.lean ====
section
/-! DEFINITION. The vocabulary of the claims: what counts as a safe run, when a write reaches its register, and what an event may
reach through the router. -/
namespace Sys2Proof.Machine

/-- The outcome is a next state. -/
def Runs (o : Host.Outcome State Fault Refusal) : Prop := ∃ t, o = .next t

/-- A state from which `n` steps run without a fault or a refusal. -/
def SafeFor (n : Nat) (s : State) : Prop := Runs (Host.Core.run Sys2Proof.core n s)

/-- A 32-bit write of master `m` reaches the block register at BAR0 address `a`: the block takes writes of the master, the page is
not busy (R44), the ROM's halt does not bar it (R141), and neither access code, writer, security nor lock refuses it (R29, R59, R81). -/
def State.admits (s : State) (m : Master) (a : Nat) : Bool :=
  match pageAt (a / 4096) with
  | none => false
  | some i => s.arrives m (a / 4096) && !(i.slow && (s.postedAt (a / 4096)).isSome) && !s.haltBars a && (s.writeGate m a).isNone

/-- A write of master `m` reaches the header of a page (R44, R81, R141, R339, R454). -/
def State.headAdmits (s : State) (m : Master) (page : Nat) : Bool :=
  match pageAt page with
  | none => false
  | some i => s.arrives m page && !(i.slow && (s.postedAt page).isSome) && !s.shut && s.headMay m i

/-- `s` with what events reach taken from `t`: the event records, the harts that the router wakes, the PBA bits and the messages
that it sends (R66, R90 to R101). -/
def State.routed (s t : State) : State :=
  { s with events := t.events, harts := t.harts, msixPba := t.msixPba, outbox := t.outbox }

/-- The same with the flight recorder's store too: a record may be written (R622 to R626). -/
def State.recorded (s t : State) : State := { s.routed t with flr := t.flr }

/-- No register changes from `s` to `t` but those of the digest lanes (R297). -/
def State.laneRegs (s t : State) : Prop := ∀ a, a / 4096 < 0x40 ∨ 0x50 ≤ a / 4096 → t.reg a = s.reg a

/-- An operation takes its descriptor (R445, R452, R466): the engines serve, the descriptor has started, its code is `opc` and its issuer may
reach memory. -/
def State.takesJob (s : State) (src : JobSrc) (d : Desc) (opc : Nat) : Bool :=
  s.awake && s.srcOk src d && dopc d == opc && s.memOn src.issuer

/-- `t` is `s` once the Cellar has accepted operation `o` of a descriptor (R397): the descriptor taken, `o` last among those that run,
and nothing changed but the Cellar and the random draws. -/
def State.startsOp (s t : State) (src : JobSrc) (o : CelOp) : Prop :=
  t.cel.ops = s.cel.ops ++ [o] ∧ t = { s.take src with cel := t.cel, drbgCtr := t.drbgCtr }

/-- The operation `o` as it remembers the key that it uses (R389): its handle, and whether this use was the last. -/
def State.keyed (s : State) (h : Word) (o : CelOp) : CelOp :=
  { o with key := h, destroy := if (s.takeUse h).2 then some h.toNat else none }

/-- The key of a handle has had one use taken, and the other slots but those named are as before (R389). -/
def State.useTaken (s t : State) (h : Word) (but : List Nat) : Prop :=
  t.slot (hSlot h) = (s.takeUse h).1.slot (hSlot h) ∧ ∀ j, j ≠ hSlot h → j ∉ but → t.slot j = s.slot j

/-- The command that a message is, by the code of the request `p` that it carries (R433 to R436). -/
def spdmCommand (t : Transport) (q p : Bytes) : Instr :=
  match qCode p with
  | 0x84 => .spdmGetVersion t q
  | 0xE1 => .spdmGetCapabilities t q
  | 0xE3 => .spdmNegotiateAlgorithms t q
  | 0x81 => .spdmGetDigests t q
  | 0x82 => .spdmGetCertificate t q
  | 0x83 => .spdmChallenge t q
  | 0xE0 => .spdmGetMeasurements t q
  | 0xE4 => .spdmKeyExchange t q
  | 0xE5 => .spdmFinish t q
  | 0xE9 => .spdmKeyUpdate t q
  | 0xEC => .spdmEndSession t q
  | 0xE8 => .spdmHeartbeat t q
  | 0x85 => .spdmChunkSend t q
  | 0x86 => .spdmChunkGet t q
  | _ => if isPq p 1 then .spdmPqSig t q else if isPq p 2 then .spdmPqChain t q else .spdmUnsupported t q

/-- `t` is `r` after one SPDM answer `a` (R433): `x` differs from `r` in the connections and the draws only, and the answer leaves from it. -/
def State.answers (r t : State) (tr : Transport) (x : State) (a : Bytes) : Prop :=
  t = x.spdmOut tr (r.conn tr).session a ∧ x = { r with spdm := x.spdm, drbgCtr := x.drbgCtr }

/-- The state after ERROR with a code is the answer of a transport. -/
def State.spdmErr (r : State) (tr : Transport) (code : Nat) : State := r.spdmOut tr (r.conn tr).session (rError (r.conn tr) code)

/-- A HELLO frame is taken in the handshake of a port (R532, R536): the port has sent or awaits the first messages, the length and the
form are right, the tag is zeros and LINK_SEQ is 0. -/
def State.helloTaken (s : State) (p : Nat) (b : Bytes) : Bool :=
  (s.link p).st == .handshake && (s.link p).t.isEmpty && lenOk b && fFunc b == 0 && headResv b && bodyOk b && allZero (b.drop (b.length - 32)) &&
    Bytes.num b 0x18 8 == 0

/-- A CONFIRM frame is taken in the handshake of a port (R532, R536): keys exist, and length, tag, LINK_SEQ 1 and form are right. -/
def State.confirmTaken (s : State) (p : Nat) (b : Bytes) : Bool :=
  (s.link p).st == .handshake && !(s.link p).t.isEmpty && lenOk b && s.tagGood p b && Bytes.num b 0x18 8 == 1 &&
    headOk (s.link p).ver b && fFunc b == 1 && bodyOk b

/-- A frame of FUNC `want` is accepted on a port that is UP (R535 to R538): its length, tag, LINK_SEQ and form are right, `fmt` says what else
its form must satisfy, and a receive slot is free for it. -/
def State.frameOk (s : State) (p want : Nat) (b : Bytes) (fmt : Bool) : Bool :=
  s.cvnUp p && fFunc b == want && lenOk b && s.tagGood p b && decide ((s.link p).rxSeq < Bytes.num b 0x18 8) &&
    headOk (s.link p).ver b && bodyOk b && fmt &&
    (want == 7 || (decide ((s.link p).owed < (s.link p).rxFree) && !(bulky want && decide (12 ≤ s.bulkIn p))))

/-- The state once an accepted frame is taken (R536, R538): LINK_SEQ and FRAMES moved on, its credits added, one slot filled unless it is a
CREDIT frame, and what waited for credits sent. -/
def State.frameTaken (s : State) (p want : Nat) (b : Bytes) : State :=
  ((s.modLink p (fun l => { l with tagFails := 0 })).modLink p (fun l =>
    { l with rxSeq := Bytes.num b 0x18 8, frames := satInc l.frames, tx := min 16 (l.tx + Bytes.num b 0xE 2),
             rxFree := (if want = 7 then l.rxFree else l.rxFree - 1), peer := (if want = 7 then fSrc b else l.peer) })).drain p

/-- What a link port keeps when another port is lost (R561): all but the frames that wait in it and the slots that they free. -/
def CvnPort.kept (l : CvnPort) : CvnPort := { l with waiting := [], rxFree := 0, owed := 0 }

/-- A port sends at once what it is given: it is UP, nothing waits on it, and it holds more than `n` credits (R538). -/
def State.linkIdle (s : State) (p n : Nat) : Bool := s.cvnUp p && (s.link p).waiting.isEmpty && decide (n < (s.link p).tx)

/-- The frame that a port sends next (R535, R536, R538): its version, the credits that it owes and the next LINK_SEQ. -/
def State.nextFrame (s : State) (p : Nat) (e : CvnOut) : Bytes :=
  frameOf (s.sendKey p) (s.link p).ver e (min 31 (s.link p).owed) ((s.link p).txSeq + 1)

/-- The port by which a walk leaves the root (R530): BRANCH where it is UP, else DOWN. -/
def State.rootPort (s : State) : Nat := if s.cvnUp 2 then 2 else 1

/-- No frame waits in a receive slot for the receive buffer (R550). -/
def State.noneHeld (s : State) : Bool := (s.link 0).held.isEmpty && (s.link 1).held.isEmpty && (s.link 2).held.isEmpty

/-- `c` is the command of a TKS operation code (R565). -/
def tkCommand (opc : Nat) (src : JobSrc) (d : Desc) (io : JobIo) (c : Instr) : Prop :=
  (opc = 0x40 ∧ c = .tkMacVerify src d io) ∨ (opc = 0x41 ∧ c = .tkMacGenerate src d io) ∨ (opc = 0x42 ∧ c = .tkPinTranslate src d io) ∨
    (opc = 0x43 ∧ c = .tkIkDerive src d io) ∨ (opc = 0x44 ∧ c = .tkState src d io)

/-- The first of the checks 1 to 3 of R566 that a job fails without a fault-in; OK where it passes them. -/
def State.tkFirst (s : State) (opc : Nat) (d : Desc) : Status :=
  if s.tks.tampered then stTampered
  else if s.tkShut then stStateForbids
  else if !tkCheck1 opc d then stBadOpcode
  else if !tkCheck2 opc d then stBadLength
  else if (tkNeeds2 opc d).isSome && s.tkStale (tHandle2 d) then stStaleHandle
  else stOk

/-- A job passes every check of acceptance with its context live (R566). -/
def State.tkAccepts (s : State) (m : Master) (opc : Nat) (d : Desc) : Bool :=
  s.tkFirst opc d == stOk && !s.tkStale (dw d 4) && s.tkCheck4 m opc d (dw d 4) && s.tkCheck5 opc d (dw d 4)

/-- No key operation waits in the order of a terminal context (R567): every entry of TKS is a job of its own. -/
def State.noKeyOps (s : State) : Bool := s.tkJobs.all (fun j => decide (0x40 ≤ j.opc))

/-- The power state, the request and the wake of a state in RETAIN that a wake source `src` reaches (R599, R600). -/
def State.wakesBy (s : State) (src : Nat) : Bool := s.pwr.power == .retain && !s.pwr.coreEn && s.bitOf (pg 0x1D 0x44) src

/-- The register file, the core memory, the event records and the semaphores are each in the one canonical form of a store. -/
def State.canonical (s : State) : Bool :=
  SMap.wf resetAt s.regs && SMap.wf (fun _ => 0) s.ram && SMap.wf (fun _ => EventRec.reset) s.events && SMap.wf (fun _ => none) s.sems

end Sys2Proof.Machine
end

