-- ==== Sys2Proof/Certificates/Slice0/Obligations.lean ====
section
/-! DEFINITION. The statements: what each command of the block does to its state, family by family in the order of the table, and what every
step of the block keeps. -/
open Sys2Proof Sys2Proof.Machine

/-! ### Registers, pages and events -/

/-- SEM_READ and SEM_WRITE (R71, R72, R624). A 32-bit read makes its master the owner of a free semaphore and returns 0, or returns
0x80000000 OR the owner's ID; the owner's write of 0 frees it, any other write is SEM_OWNER. No other semaphore, no other register
and nothing but event delivery and the flight record of a hart's read changes.
It says that `exec` completes with a next state for each of: semRead, semWrite. -/
def Obligations.SemaphoreReadTakesAndOwnerWriteFrees : Prop :=
  ∀ (s : State) (m : Master) (n : Fin 64),
    (s.arrives m 2 = true → ∃ t, exec (.semRead m n) s = .next t ∧
      t.sem n.val = some ((s.sem n.val).getD m) ∧ (∀ k, k ≠ n.val → t.sem k = s.sem k) ∧
      t.outbox.getLast? = some (.readData m (pg 2 (0x40 + 4 * n.val))
        (leBytes 4 (match s.sem n.val with | none => 0 | some o => 0x80000000 + o.toNat))) ∧
      (isHart m = false → t.flr = s.flr) ∧ t = { s.recorded t with sems := t.sems }) ∧
    (∀ v, s.admits m (pg 2 (0x40 + 4 * n.val)) = true → ∃ t, exec (.semWrite m n v) s = .next t ∧
      (s.sem n.val = some m ∧ v = 0 → t = s.setSem n.val none) ∧
      (¬(s.sem n.val = some m ∧ v = 0) → t.sems = s.sems ∧
        t.reg (pg 2 0x18) = pageErrAfter (s.reg (pg 2 0x18)) (0x40 + 4 * n.val) .semOwner m ∧
        (∀ a, a ≠ pg 2 0x18 → t.reg a = s.reg a) ∧ t.evt (evSys 0) = (s.evt (evSys 0)).bump ∧
        t = { s.routed t with regs := t.regs }))

/-- PAGE_LOCK_WRITE, PAGE_ERR_ACK and EVT_FORCE (R26, R33, R41, R51, R69, R75, R76): lock bits are set-only and drop the buffered values that they
freeze; an acknowledge of exactly COUNT clears PAGE_ERR and any other does nothing; EVT_FORCE outside TEST and RETURN is a STATE error
and inside counts one event on each source that it names. On a broadcast or group page PAGE_LOCK reaches every member and any other header
word is a STATE error in each; on an unmapped page each of the three is UNMAPPED in SYS page 0.
It says that `exec` completes with a next state for each of: pageLockWrite, pageErrAck, evtForce. -/
def Obligations.PageHeadersLockAcknowledgeAndForce : Prop :=
  (∀ (s : State) (m : Master) (page : Nat) (v : Word), s.headAdmits m page = true →
    (∃ t, exec (.pageLockWrite m page v) s = .next t ∧
      t.reg (pg page 0xC) = s.reg (pg page 0xC) ||| (v &&& 0xF) ∧ (∀ a, a ≠ pg page 0xC → t.reg a = s.reg a) ∧
      (∀ a, t.bufAt a = if a / 4096 = page ∧ t.frozen page (lockOf a) = true then none else s.bufAt a) ∧
      t = { s with regs := t.regs, buf := t.buf, slowDue := t.slowDue }) ∧
    (∃ t, exec (.pageErrAck m page v) s = .next t ∧
      (v.toNat % 256 = (s.reg (pg page 0x18)).toNat % 256 → t.reg (pg page 0x18) = 0 ∧
        (∀ a, a ≠ pg page 0x18 → a ≠ pg page 0x1C → t.reg a = s.reg a) ∧ t = { s with regs := t.regs }) ∧
      (v.toNat % 256 ≠ (s.reg (pg page 0x18)).toNat % 256 → t = s)) ∧
    (∃ t, exec (.evtForce m page v) s = .next t ∧
      (s.lcf.eff ≠ some .test → s.lcf.eff ≠ some .ret →
        t.reg (pg page 0x18) = pageErrAfter (s.reg (pg page 0x18)) 0x28 .state m ∧
        (∀ a, a ≠ pg page 0x18 → t.reg a = s.reg a) ∧ t = { s.routed t with regs := t.regs }) ∧
      ((s.lcf.eff = some .test ∨ s.lcf.eff = some .ret) → ∀ i, pageAt page = some i → t = s.routed t ∧
        ∀ n, n < 32 → n < i.nsrc → i.src0 + i.nsrc ≤ 352 →
          t.evt (i.src0 + n) = if v.getLsbD n then (s.evt (i.src0 + n)).bump else s.evt (i.src0 + n)))) ∧
  (∀ (s : State) (m : Master) (page : Nat) (v : Word), pageAt page = none → s.arrives m page = true →
    (∀ ms l, bcastMembers page = some ms → s.membersOf ms = l → (∀ p, p ∈ l → s.headAdmits m p = true) →
      (∃ t, exec (.pageLockWrite m page v) s = .next t ∧ (∀ p, p ∈ l → t.reg (pg p 0xC) = s.reg (pg p 0xC) ||| (v &&& 0xF)) ∧
        (∀ a, (∀ p, p ∈ l → a ≠ pg p 0xC) → t.reg a = s.reg a) ∧ t = { s with regs := t.regs, buf := t.buf, slowDue := t.slowDue }) ∧
      (∀ (c : Instr) (off : Nat), ((c = .pageErrAck m page v ∧ off = 0x1C) ∨ (c = .evtForce m page v ∧ off = 0x28)) → ∃ t, exec c s = .next t ∧
        (∀ p, p ∈ l → t.reg (pg p 0x18) = pageErrAfter (s.reg (pg p 0x18)) off .state m) ∧
        (∀ a, (∀ p, p ∈ l → a ≠ pg p 0x18) → t.reg a = s.reg a) ∧ t = { s.routed t with regs := t.regs })) ∧
    (bcastMembers page = none → ∀ (c : Instr) (off : Nat),
      ((c = .pageLockWrite m page v ∧ off = 0xC) ∨ (c = .pageErrAck m page v ∧ off = 0x1C) ∨ (c = .evtForce m page v ∧ off = 0x28)) →
      ∃ t, exec c s = .next t ∧ t.reg (pg 0 0x18) = pageErrAfter (s.reg (pg 0 0x18)) off .unmapped m ∧
        (∀ a, a ≠ pg 0 0x18 → t.reg a = s.reg a) ∧ t = { s.routed t with regs := t.regs }))

/-- EVENT_ACK, SW_EVT, ROUTE_WRITE and MSIX_PENDING_SEND (R67, R81, R89, R93, R94, R100, R101): an acknowledge that is not ahead of the count
sets ACK and clears OVF, one that is ahead is an ACK_RANGE error; SW_EVT counts one event on SYS source 12 + j for each of its four bits;
an accepted route is stored in its stored form and no event count changes; a refused one, or one of a guarded source by another master
than hart 0 or JTAG where it may write secure pages, leaves ROUTE as it was, records STATE and counts ROUTE_REJECT; a pending vector that
may be sent sends one message and clears its PBA bit.
It says that `exec` completes with a next state for each of: eventAck, swEvt, routeWrite, msixPendingSend. -/
def Obligations.EventsAreAcknowledgedRoutedAndSent : Prop :=
  ∀ s : State,
    (∀ (m : Master) (v : Word) (k : Fin 352), s.admits m (ackAddr k.val) = true → ∃ t, exec (.eventAck m k v) s = .next t ∧
      ((BitVec.ofNat 16 v.toNat - (s.evt k.val).ack).toNat ≤ ((s.evt k.val).count - (s.evt k.val).ack).toNat →
        (t.evt k.val).ack = BitVec.ofNat 16 v.toNat ∧ (t.evt k.val).ovf = false ∧ (t.evt k.val).count = (s.evt k.val).count ∧
        (∀ j, j ≠ k.val → t.evt j = s.evt j) ∧ t = s.routed t) ∧
      (((s.evt k.val).count - (s.evt k.val).ack).toNat < (BitVec.ofNat 16 v.toNat - (s.evt k.val).ack).toNat →
        (t.evt k.val).ack = (s.evt k.val).ack ∧
        t.reg (pg (srcPage k.val) 0x18) = pageErrAfter (s.reg (pg (srcPage k.val) 0x18)) (ackAddr k.val) .ackRange m ∧
        (∀ a, a ≠ pg (srcPage k.val) 0x18 → t.reg a = s.reg a) ∧ t = { s.routed t with regs := t.regs })) ∧
    (∀ m v, s.admits m (pg 3 0xC0) = true → ∃ t, exec (.swEvt m v) s = .next t ∧ t = s.routed t ∧
      (∀ j, j < 4 → t.evt (12 + j) = if v.getLsbD j then (s.evt (12 + j)).bump else s.evt (12 + j)) ∧
      (∀ k, k < 12 ∨ 16 ≤ k → t.evt k = s.evt k)) ∧
    (∀ (m : Master) (k : Fin 352) (v : Word), s.admits m (routeAddr k.val) = true → ∃ t, exec (.routeWrite m k v) s = .next t ∧
      (∀ r, routeStored k.val v = some r → (routeGuarded k.val = true → m = 0 ∨ m = jtag ∧ s.jtagAllows true = true) →
        t.route k.val = r ∧ (∀ a, a ≠ routeAddr k.val → t.reg a = s.reg a) ∧ t.events = s.events ∧
        t = { s.routed t with regs := t.regs }) ∧
      ((routeStored k.val v = none ∨ (routeGuarded k.val = true ∧ m ≠ 0 ∧ ¬(m = jtag ∧ s.jtagAllows true = true))) →
        t.route k.val = s.route k.val ∧ t.evt (evSys 5) = (s.evt (evSys 5)).bump ∧ t.evt (evSys 0) = (s.evt (evSys 0)).bump ∧
        t = { s.routed t with regs := t.regs })) ∧
    (∀ (f : Fin 16) (vec : Fin 64), s.coreUp = true → s.pba f.val vec.val = true → s.msixReady f.val vec.val = true →
      exec (.msixPendingSend f vec) s =
        .next { s with msixPba := SMap.set (fun _ => false) s.msixPba (64 * f.val + vec.val) false,
                       outbox := s.outbox ++ [s.msixMsg f.val vec.val] })

/-- REGISTER_WRITE (R29, R43, R47, R59): an aligned 32-bit access of a master at BAR0. A write that is refused leaves every register
but PAGE_ERR as it was; a write of a buffered register of a fast page replaces its buffered value and changes no active one; a write to
a slow page is posted; a read returns the word, and one by a function whose reset is not over returns 0 (R446).
It says that `exec` completes with a next state for each of: registerWrite. -/
def Obligations.RegisterAccessesFollowTheirAccessCode : Prop :=
  (∀ (s : State) (a : Access), a.space = .bar0 → a.size = 4 → a.contiguous = true → a.addr % 4 = 0 → a.addr < 0x2000000 → a.write = false →
    s.flrReads a.m (a.addr / 4096) = true → exec (.registerWrite a) s = .next (s.out (.readData a.m a.addr (zeros 4)))) ∧
  ∀ (s : State) (a : Access) (i : PageInfo) (r : RegRow) (off : Nat),
    a.space = .bar0 → a.size = 4 → a.contiguous = true → a.addr % 4 = 0 → a.addr < 0x2000000 →
    pageAt (a.addr / 4096) = some i → off = a.addr % 4096 % i.span → 0x40 ≤ off → i.row off = some r → s.arrives a.m (a.addr / 4096) = true →
    (a.write = true → i.slow = true → s.postedAt (a.addr / 4096) = none →
      ∃ t, exec (.registerWrite a) s = .next t ∧
        t.postedAt (a.addr / 4096) = some { m := a.m, off := a.addr % 4096, v := Bytes.word a.data 0, viaAlias := false, bcast := false } ∧
        t = { s with posted := t.posted }) ∧
    (∀ k, a.write = true → i.slow = false → s.haltBars (pg (a.addr / 4096) off) = false →
      s.writeGate a.m (pg (a.addr / 4096) off) = some k →
      ∃ t, exec (.registerWrite a) s = .next t ∧
        t.reg (pg (a.addr / 4096) 0x18) = pageErrAfter (s.reg (pg (a.addr / 4096) 0x18)) (a.addr % 4096) k a.m ∧
        (∀ x, x ≠ pg (a.addr / 4096) 0x18 → t.reg x = s.reg x) ∧ t = { s.routed t with regs := t.regs }) ∧
    (a.write = true → i.slow = false → s.haltBars (pg (a.addr / 4096) off) = false → s.writeGate a.m (pg (a.addr / 4096) off) = none →
      r.code = .rb → ∃ t, exec (.registerWrite a) s = .next t ∧
        t.bufAt (pg (a.addr / 4096) off) = some (rbStored i.kind (pg (a.addr / 4096) off % 4096) (Bytes.word a.data 0 &&& r.mask)) ∧
        (∀ x, x ≠ pg (a.addr / 4096) off → t.bufAt x = s.bufAt x) ∧ t = { s with buf := t.buf }) ∧
    (a.write = false → ∃ t, exec (.registerWrite a) s = .next t ∧
      t.outbox.getLast? = some (.readData a.m a.addr (leBytes 4 (s.readWord a.m a.addr).toNat)))

/-- COUNTER_LOW_READ, WIDE_REG_LOW_WRITE, WIDE_REG_HIGH_WRITE and ORDER_FENCE_READ (R36, R37, R62): a low-word read latches the live
high word for its master; a low-word write is held and changes no register; a high-word write applies both halves, the held low word
or the current one, and drops what was held; a fence read returns its word.
It says that `exec` completes with a next state for each of: counterLowRead, wideRegLowWrite, wideRegHighWrite, orderFenceRead. -/
def Obligations.WideRegistersLatchHoldAndApplyTogether : Prop :=
  ∀ (s : State) (m : Master) (page : Nat) (i : PageInfo) (off : Nat) (r : RegRow), s.arrives m page = true → pageAt page = some i →
    page < 0x2000 → off < i.span → off % 4 = 0 → 0x40 ≤ off → i.row off = some r →
    (r.half = .ctrLo → ∃ t, exec (.counterLowRead m (pg page off)) s = .next t ∧
      t.outbox.getLast? = some (.readData m (pg page off) (leBytes 4 (s.readWord m (pg page off)).toNat)) ∧
      t.latched m (pg page (off + 4)) = some (s.rdBlock m page i (off + 4)) ∧
      (∀ x h, (x, h) ≠ (m, pg page (off + 4)) → h < 2 ^ 32 → t.latched x h = s.latched x h) ∧ t = { s.recorded t with hiLatch := t.hiLatch }) ∧
    (∀ v, r.half = .wideLo → r.code = .rw → i.slow = false → s.admits m (pg page off) = true → s.pairBars i off = false →
      ∃ t, exec (.wideRegLowWrite m (pg page off) v) s = .next t ∧
        t.heldLo m (pg page off) = some (v &&& r.mask) ∧ t = { s with heldLow := t.heldLow }) ∧
    (∀ v, r.half = .wideHi → r.code = .rw → i.slow = false → s.admits m (pg page off) = true → s.pairBars i (off - 4) = false →
      ∃ t, exec (.wideRegHighWrite m (pg page off) v) s = .next t ∧
        t.reg (pg page off) = v &&& r.mask ∧
        t.reg (pg page (off - 4)) = (s.heldLo m (pg page (off - 4))).getD (s.reg (pg page (off - 4))) ∧
        (∀ x, x ≠ pg page off → x ≠ pg page (off - 4) → t.reg x = s.reg x) ∧
        t.heldLo m (pg page (off - 4)) = none ∧ t = { s with regs := t.regs, heldLow := t.heldLow }) ∧
    (∀ v, i.slow = true → s.postedAt page = none → ∃ t, exec (.wideRegLowWrite m (pg page off) v) s = .next t ∧
      exec (.wideRegHighWrite m (pg page off) v) s = .next t ∧
      t.postedAt page = some { m := m, off := off, v := v, viaAlias := false, bcast := false } ∧ t = { s with posted := t.posted }) ∧
    (s.arrives m 1 = true → ∃ t, exec (.orderFenceRead m) s = .next t ∧ t.outbox.getLast? = some (.readData m (pg 1 0x60)
      (leBytes 4 (s.reg (pg 1 0x60)).toNat)) ∧ t = s.recorded t)

/-- POSTED_WRITE_APPLY (R43): where a write is in flight to a page of a running core, the page is no longer busy and the write has the
effect of that write of its master; where none is, nothing happens. SLOW_STROBE_APPLY (R49) passes the slow-domain edge of a page: every
strobed value of it may apply from then on; with VDD_CORE off neither happens.
It says that `exec` completes with a next state for each of: postedWriteApply, slowStrobeApply. -/
def Obligations.PostedWritesAndSlowEdges : Prop :=
  ∀ (s : State) (page : Nat),
    (∀ p, s.coreUp = true → s.postedAt page = some p → p.viaAlias = false →
      exec (.postedWriteApply page) s = .next ((s.setPosted page none).applyWrite p.m (pg page p.off) p.v p.bcast)) ∧
    (∀ p, s.coreUp = true → s.postedAt page = some p → p.viaAlias = true →
      exec (.postedWriteApply page) s = .next ((s.setPosted page none).aliasApply p.m (pg page p.off) (Word.field p.v 4 0) (Word.bit p.v 31))) ∧
    ((s.coreUp = false ∨ s.postedAt page = none) → exec (.postedWriteApply page) s = .next s) ∧
    (s.coreUp = false → exec (.slowStrobeApply page) s = .next s) ∧
    (s.coreUp = true → ∃ t, exec (.slowStrobeApply page) s = .next t ∧ t = { s with slowDue := t.slowDue } ∧
      (∀ a, a / 4096 ≠ page → t.dueAt a = s.dueAt a) ∧
      (∀ a, a / 4096 = page → t.dueAt a = (s.dueAt a).map (fun x => (true, x.2))))

/-- BROADCAST_WRITE and BIT_ALIAS_WRITE (R56, R75): a broadcast to the digest lanes buffers its value in every lane as that lane's own
write would, a write to group page g only in the lanes of the group; an alias write changes one bit of the waiting value: what is buffered, else
what a strobe has left to apply, else the active value.
It says that `exec` completes with a next state for each of: broadcastWrite, bitAliasWrite. -/
def Obligations.BroadcastsReachTheirMembersAndAliasesOneBit : Prop :=
  ∀ (s : State) (m : Master) (v : Word), s.arrives m 0x50 = true → (∀ n, n < 16 → s.admits m (pg (0x40 + n) 0x40) = true) →
    (∃ t, exec (.broadcastWrite m (pg 0x50 0x40) v) s = .next t ∧ t = { s with buf := t.buf } ∧
      (∀ n, n < 16 → t.bufAt (pg (0x40 + n) 0x40) = some (v &&& 0x3)) ∧
      (∀ a, (∀ n, n < 16 → a ≠ pg (0x40 + n) 0x40) → t.bufAt a = s.bufAt a)) ∧
    (∀ g, g < 4 → ∃ t, exec (.broadcastWrite m (pg (0x51 + g) 0x40) v) s = .next t ∧ t = { s with buf := t.buf } ∧
      (∀ n, n < 16 → t.bufAt (pg (0x40 + n) 0x40) =
        if s.bitOf (pg (0x40 + n) 0x14) g then some (v &&& 0x3) else s.bufAt (pg (0x40 + n) 0x40))) ∧
    (∀ n b, n < 16 → b < 2 → ∃ t, exec (.bitAliasWrite m (pg (0x40 + n) 0x40 * 32 + 4 * b) v) s = .next t ∧ t = { s with buf := t.buf } ∧
      t.bufAt (pg (0x40 + n) 0x40) =
        some (Word.setBit (s.rbWaiting (pg (0x40 + n) 0x40)) b (v.getLsbD 0) &&& 0x3) ∧
      (∀ a, a ≠ pg (0x40 + n) 0x40 → t.bufAt a = s.bufAt a)) ∧
    (∀ a w, (s.bufAt a = some w → s.rbWaiting a = w) ∧ (∀ e, s.bufAt a = none → s.dueAt a = some (e, w) → s.rbWaiting a = w) ∧
      (s.bufAt a = none → s.dueAt a = none → s.rbWaiting a = s.reg a))

/-- UPD_STROBE, UPD_ARM, UPD_CANCEL and UPD_ARM_FIRE (R47, R49, R52 to R54): a strobe makes every buffered value of a digest lane of a
strobed group the active one and no value of another group; ARM copies mask and position and is ARMED or REFUSED by whether the position
is ahead; CANCEL and firing end it.
It says that `exec` completes with a next state for each of: updStrobe, updArm, updCancel, updArmFire. -/
def Obligations.StrobesApplyGroupsAndArmedStrobesFire : Prop :=
  (∀ (s : State) (m : Master) (v : Word), s.admits m (pg 1 0x40) = true → SMap.wf (fun _ => none) s.buf = true →
    ∃ t, exec (.updStrobe m v) s = .next t ∧
      (∀ n off w, n < 16 → off < 4096 → s.bufAt (pg (0x40 + n) off) = some w → Word.bit v (s.ugroup (0x40 + n)) = true →
        t.reg (pg (0x40 + n) off) = w ∧ t.bufAt (pg (0x40 + n) off) = none) ∧
      (∀ n off, n < 16 → off < 4096 → Word.bit v (s.ugroup (0x40 + n)) = false →
        t.reg (pg (0x40 + n) off) = s.reg (pg (0x40 + n) off) ∧ t.bufAt (pg (0x40 + n) off) = s.bufAt (pg (0x40 + n) off))) ∧
  (∀ (s : State) (m : Master), s.admits m (pg 1 0x58) = true → s.arm.st ≠ .armed →
    ∃ t, exec (.updArm m) s = .next t ∧
      t.arm = { st := if posAhead (s.reg (pg 1 0x50)).toNat ((s.reg (pg 1 0x54)).toNat % 65536) s.cis.hc s.cis.lu then .armed else .refused,
                mask := s.reg (pg 1 0x48), hc := (s.reg (pg 1 0x50)).toNat, lu := (s.reg (pg 1 0x54)).toNat % 65536 } ∧
      t = { s.routed t with arm := t.arm } ∧ (t.arm.st = .armed → t = { s with arm := t.arm })) ∧
  (∀ (s : State) (m : Master), s.admits m (pg 1 0x58) = true → s.arm.st = .armed →
    exec (.updCancel m) s = .next { s with arm := { s.arm with st := .idle } }) ∧
  (∀ (s : State), s.coreUp = true → s.arm.st = .armed → s.ahead s.arm.hc s.arm.lu = false →
    exec .updArmFire s = .next { (s.strobe s.arm.mask).count (evSys 2) with arm := { s.arm with st := .fired } })

/-! ### Power, resets and the main road -/

/-- AON_VALID, AON_LOSS and PWR_OK_LOSS (R12, R105, R311, R594, R600, R601, R644): a valid always-on rail raises CORE_EN, and the line is LOST at
once where PF_WARN_N is already low; its loss leaves what the battery domain, the fuses and the pins hold and nothing else; with PWR_OK
low every hold line is held, no commit waits, and only the always-on blocks keep their registers.
It says that `exec` completes with a next state for each of: aonValid, aonLoss, pwrOkLoss. -/
def Obligations.RailsComeAndGo : Prop :=
  (∀ s : State, s.pwr.aonValid = false → ∃ t, exec .aonValid s = .next t ∧
    t.pwr = { s.pwr with aonValid := true, coreEn := true, coreEnAt := s.clk, power := .retain } ∧
    (s.pfwOn = false → t = { s with pwr := t.pwr, cis := { s.cis with lastAcc := s.clk * 100, lastPulse := s.clk * 100 } }) ∧
    (s.pfwOn = true → t.cis.line = .lost)) ∧
  (∀ s : State, s.pwr.aonValid = true → ∃ t, exec .aonLoss s = .next t ∧
    t.pwr.aonValid = false ∧ t.pwr.pwrOk = false ∧ t.pwr.coreEn = false ∧ t.pwr.power = .battery ∧
    t.regs = [] ∧ t.ram = [] ∧ t.events = [] ∧ t.cis.queue = [] ∧ t.cis.inflight = none ∧
    (s.cis.inflight = none → t.lcf.fuses = s.lcf.fuses ∧ t.cel.bank0 = s.cel.bank0 ∧ t.cel.bank1 = s.cel.bank1) ∧
    t.tamp.latch = s.tamp.latch ∧ t.tamp.cause = s.tamp.cause ∧ t.tamp.time = s.tamp.time ∧ t.prst.gpIn = s.prst.gpIn ∧
    t.pending = s.pending) ∧
  (∀ s : State, s.pwr.pwrOk = true → s.coreUp = true → ∃ t, exec .pwrOkLoss s = .next t ∧
    t.pwr.pwrOk = false ∧ t.pwr.power = .retain ∧ t.pwr.coreEn = s.pwr.coreEn ∧ t.prst.seq = .idle ∧
    t.cis.queue = [] ∧ t.cis.inflight = none ∧ t.flr.replay = .off ∧ t.boot.rtReleased = false ∧ t.ram = [] ∧ t.sems = [] ∧
    (∀ a, aonPage (a / 4096) = true → t.reg a = s.reg a) ∧ (∀ i, t.lineHeld i = true)) ∧
  (∀ s : State, s.pwr.pwrOk = true → s.coreUp = false → exec .pwrOkLoss s = .next { s with pwr := { s.pwr with pwrOk := false } })

/-- PWR_OK_RISE, MAIN_ROAD_START_AFTER_CORE_EN and DEVICE_RESET (R14, R106, R308, R600, R647): the road starts at step 1: ACTIVE, the
wipe due, no runtime, every line requested and none released; what the always-on and battery domains hold stays: line position,
declarations, fuses; the queue of commands stays.
It says that `exec` completes with a next state for each of: deviceReset, pwrOkRise, mainRoadStartAfterCoreEn. -/
def Obligations.TheMainRoadStartsAtStepOne : Prop :=
  ∀ (s : State) (i : Instr), (i = .deviceReset ∧ s.coreUp = true ∧ s.cis.inflight = none ∧ ¬(s.tamp.responded = true ∧ s.lcf.transit.isSome = true)) ∨
      (∃ env, i = .pwrOkRise env ∧ s.pwr.pwrOk = false ∧ s.pwr.aonValid = true ∧ s.pwr.coreEn = true ∧ s.coreUp = false) ∨
      (i = .mainRoadStartAfterCoreEn ∧ s.pwr.pwrOk = true ∧ s.pwr.aonValid = true ∧ s.pwr.coreEn = true ∧ s.coreUp = false ∧
        s.pwr.coreEnAt + 3000 ≤ s.clk) →
    ∃ t, exec i s = .next t ∧ t.pwr.power = .active ∧ t.pwr.resetOwed = false ∧ t.pwr.pwrOk = true ∧ t.boot.wipePending = true ∧ t.boot.rtReleased = false ∧
      t.prst.holdReq = 0xFFFFFF ∧ t.prst.released = 0 ∧ t.prst.ready = 0 ∧ t.prst.seq = .idle ∧
      t.cis.hc = s.cis.hc ∧ t.cis.era = s.cis.era ∧ t.cis.line = s.cis.line ∧ (∀ a, cisKept a = true → t.reg a = s.reg a) ∧
      t.lcf.fuses = s.lcf.fuses ∧ t.ram = [] ∧ t.sems = [] ∧ t.clk = s.clk ∧ t.pending = s.pending

/-- WIPE_COMPLETE (R14, R107 to R109, R115, R122 to R125, R141, R151, R609): the wipe is over and counted, hart 0 starts at the ROM entry and harts 1 to 4 park.
A wipe fault, a set tamper latch and a state that does not decode or is SCRAP halt the ROM with their codes; RAW opens push mode, and so does
an FP0 that answers in no mode, a home area without an anti-rollback record, or one without a candidate. Where a record counts and the
first candidate in the order of their SEQUENCE numbers verifies, is not revoked and is not below its class minimum, the ROM tries it: STAGE 5
with its slot, the others left.
It says that `exec` completes with a next state for each of: wipeComplete. -/
def Obligations.TheWipeEndsInTheRom : Prop :=
  (∀ (s : State) (fault : Bool) (us : Nat) (scan : RomScan), (s.boot.wipePending = false ∨ s.coreUp = false) →
    exec (.wipeComplete fault us scan) s = .next s) ∧
  ∀ (s : State) (fault : Bool) (us : Nat) (scan : RomScan), s.boot.wipePending = true → s.coreUp = true →
    ∃ t, exec (.wipeComplete fault us scan) s = .next t ∧ t.boot.wipePending = false ∧
      t.reg (pg 0x14 0x44) = (if fault then 15 else 7) ||| BitVec.ofNat 32 (us * 65536) ∧
      (t.hart 0).st = .run ∧ (t.hart 0).inRom = true ∧ (∀ h, 1 ≤ h → h ≤ 4 → (t.hart h).st = .parked ∨ (t.hart h).st = .run) ∧
      (fault = true → t.boot.halted = true ∧ Word.field (t.reg aStage) 15 0 = 0x040F) ∧
      (fault = false → s.tamp.latch = true → t.boot.halted = true ∧ Word.field (t.reg aStage) 15 0 = 0x010F) ∧
      (fault = false → s.tamp.latch = false → (s.lcf.eff = none ∨ s.lcf.eff = some .scrap) →
        t.boot.halted = true ∧ Word.field (t.reg aStage) 15 0 = 0x020F) ∧
      (fault = false → s.tamp.latch = false → s.lcf.eff = some .raw →
        t.pushOn = true ∧ Word.field (t.reg aStage) 15 0 = 0x030E ∧ t.boot.halted = s.boot.halted) ∧
      (fault = false → s.tamp.latch = false → (s.lcf.eff = some .test ∨ s.lcf.eff = some .provision ∨ s.lcf.eff = some .owned ∨ s.lcf.eff = some .ret) →
        t.boot.halted = s.boot.halted ∧
        (scan.flash = .none → t.pushOn = true ∧ Word.field (t.reg aStage) 15 0 = 0x0A0E) ∧
        (scan.flash ≠ .fused → (t.port 0).mode0 = { code := 0, addr4 := false }) ∧
        (scan.flash ≠ .none → s.flr.replay = .pending → t.pushOn = true ∧ Word.field (t.reg aStage) 15 0 = 0x000E) ∧
        (scan.flash ≠ .none → s.flr.replay = .off → arbPick (scan.arbA ++ scan.arbB) = [] →
          t.pushOn = true ∧ Word.field (t.reg aStage) 15 0 = 0x090E ∧ t.boot.heldMin = max (s.heldOf scan.slotA) (s.heldOf scan.slotB)) ∧
        (scan.flash ≠ .none → s.flr.replay = .off → arbPick (scan.arbA ++ scan.arbB) ≠ [] → t.boot.arb = arbPick (scan.arbA ++ scan.arbB) ∧
          (romOrder (s.candidate 1 scan.slotA) (s.candidate 2 scan.slotB) = [] → t.pushOn = true ∧ Word.field (t.reg aStage) 15 0 = 0x050E) ∧
          (∀ c rest, romOrder (s.candidate 1 scan.slotA) (s.candidate 2 scan.slotB) = c :: rest →
            if s.keySlotOk (manKeySlot c.man) = true ∧ s.keyHashOk c.man = true ∧ manSigsOk c.man = true ∧ s.keyRevoked c.man = false ∧
              (s.lcf.eff = some .ret ∨ Bytes.num (arbPick (scan.arbA ++ scan.arbB)) 0x10 2 ≤ manSecVersion c.man) then
              t.boot.trying = some c ∧ t.boot.cands = rest ∧ Word.field (t.reg aStage) 7 0 = 5 ∧ Word.field (t.reg aStage) 17 16 = c.slot ∧
              t.pushOn = s.pushOn
            else t.boot.trying ≠ some c)))

/-! ### Staging, release and hold lines -/

/-- STAGE_CLAIM, STAGE_DATA_APPEND, RELEASE_GO and RELEASE_ABANDON (R130 to R133, R135, R138, R139): a claim that the state allows opens an
empty window to its master, any other is refused; the owner's words are appended to the manifest, then to the body; GO starts the
checks; the owner's ABANDON refuses the release with ABORTED.
It says that `exec` completes with a next state for each of: stageClaim, stageDataAppend, releaseGo, releaseAbandon. -/
def Obligations.StagingWindowCommandsServeTheirOwner : Prop :=
  ∀ (s : State) (m : Master),
    (s.admits m (aBoot1 0x40) = true → ∃ t, exec (.stageClaim m 1) s = .next t ∧
      (s.claimOk m = true → t.boot.owner = m ∧ t.boot.rel = .owned ∧ t.boot.man = [] ∧ t.boot.body = [] ∧ t.boot.bodyCount = 0 ∧
        t.boot.overrun = false ∧ t.evt (evBoot 3) = (s.evt (evBoot 3)).bump ∧ t = { s.routed t with boot := t.boot }) ∧
      (s.claimOk m = false → t.boot = s.boot ∧ t = { s.routed t with regs := t.regs } ∧
        t.reg (aBoot1 0x18) = pageErrAfter (s.reg (aBoot1 0x18)) 0x40 .state m)) ∧
    (∀ v, s.admits m (aBoot1 0x80) = true → ∃ t, exec (.stageDataAppend m v) s = .next t ∧
      (s.boot.owner = m → s.boot.rel = .owned → s.boot.man.length < manLen s.boot.man →
        t = { s with boot := { s.boot with man := s.boot.man ++ leBytes 4 v.toNat } }) ∧
      (s.boot.owner = m → s.boot.rel = .owned → manLen s.boot.man ≤ s.boot.man.length → s.boot.body.length < 2 ^ 21 →
        t = { s with boot := { s.boot with body := s.boot.body ++ leBytes 4 v.toNat, bodyCount := min 0xFFFFFFFF (s.boot.bodyCount + 4) } }) ∧
      ((s.boot.owner ≠ m ∨ s.boot.rel ≠ .owned) → t.boot = s.boot ∧ t = { s.routed t with regs := t.regs })) ∧
    (m ≠ 0x40 → s.admits m (aBoot1 0x54) = true → s.boot.owner = m → s.boot.rel = .owned →
      (∃ t, exec (.releaseGo m) s = .next t ∧ t.boot = { s.boot with rel := .checking } ∧ t = { s with boot := t.boot, dgl := t.dgl }) ∧
      ∃ t, exec (.releaseAbandon m) s = .next t ∧ t.boot.rel = .refused ∧ t.boot.relCode = stAborted ∧ t.boot.owner = 0xFF ∧
        t.boot.man = [] ∧ t.boot.body = [] ∧ t.evt (evBoot 6) = (s.evt (evBoot 6)).bump ∧ t = { s.routed t with boot := t.boot })

/-- RELEASE_CHECK_DONE and RUNTIME_RELEASE_COMPLETE (R12, R18, R111, R133 to R138): the first failing check refuses the release with its number and code;
an image that passes belongs to hart 0; a runtime that passes waits for both locks, and with them, on the manifest that CDI0 came
from, the banks exchange and the harts restart at its entry. In RETAIN, in the ROM's halt and after a tamper response before the runtime
release neither goes on.
It says that `exec` completes with a next state for each of: releaseCheckDone, runtimeReleaseComplete. -/
def Obligations.ReleasesPassTheirChecksOrAreRefused : Prop :=
  ∀ s : State,
    (s.awake = true → s.boot.rel = .checking → s.boot.owner ≠ 0x40 → ∃ t, exec .releaseCheckDone s = .next t ∧
      (∀ k st, s.relCheckFail = some (k, st) → t.boot.rel = .refused ∧ t.boot.relCode = st ∧ t.boot.relCheck = k ∧
        t.boot.owner = 0xFF ∧ t.boot.body = [] ∧ t = { s.routed t with boot := t.boot }) ∧
      (s.relCheckFail = none → s.kindImage = true → t.boot = { s.boot with rel := .done, owner := 0 } ∧
        t = { s.routed t with boot := t.boot }) ∧
      (s.relCheckFail = none → s.kindImage = false → s.flr.replay = .off → t.boot = { s.boot with rel := .awaitLock } ∧
        t.evt (evBoot 7) = (s.evt (evBoot 7)).bump ∧ Word.field (t.reg aStage) 17 16 = 3)) ∧
    (s.boot.rel = .awaitLock → s.cel.closeSecret = true → s.cel.lockCdi = true → s.cdiMatches = true → s.awake = true →
      ∃ t, exec .runtimeReleaseComplete s = .next t ∧ t.boot.rtReleased = true ∧ t.boot.code = s.boot.body ∧ t.boot.rtMan = s.boot.man ∧
        t.boot.codeBank = 1 - s.boot.codeBank ∧ t.boot.rel = .done ∧ t.boot.owner = 0xFF ∧ t.boot.body = [] ∧ t.pushOn = false ∧
        (∀ h, h < 5 → (t.hart h).st = .run ∧ (t.hart h).inRom = false ∧ (t.hart h).entry = 0x10000000 + manEntry s.boot.man)) ∧
    (s.boot.rel = .awaitLock → (s.cel.closeSecret = false ∨ s.cel.lockCdi = false) → exec .runtimeReleaseComplete s = .next s) ∧
    (s.awake = false → exec .releaseCheckDone s = .next s ∧ exec .runtimeReleaseComplete s = .next s)

/-- ROM_FETCH_DONE, PUSH_CTRL_WRITE and BOOT_STAGE_WRITE (R123, R128, R131, R140, R152): the fetched body of the tried candidate goes into the
window and its check starts, one that does not match falls back, and with no candidate left push mode opens with code 6; PUSH_CTRL.OPEN takes the value written and opening is counted; STAGE, FAIL and SLOT are replaced before
the runtime release and never after it.
It says that `exec` completes with a next state for each of: romFetchDone, pushCtrlWrite, bootStageWrite. -/
def Obligations.RomStagesAndPushModeFollowTheirWrites : Prop :=
  (∀ (s : State) (c : Candidate) (body : Bytes), s.boot.trying = some c → s.boot.rtReleased = false → s.awake = true →
    s.boot.rel ≠ .checking → s.boot.rel ≠ .awaitLock → c.bodyOk body = true → body.length ≤ 2 ^ 21 →
    ∃ t, exec (.romFetchDone body false) s = .next t ∧
      t.boot = { s.boot with man := c.man, body := body, bodyCount := body.length, overrun := false, rel := .checking, owner := 0x40 } ∧
      t.reg (aBoot1 0x48) = 0 ∧ (∀ a, a ≠ aBoot1 0x48 → t.reg a = s.reg a) ∧ t = { s.routed t with regs := t.regs, boot := t.boot, dgl := t.dgl }) ∧
  (∀ (s : State) (c : Candidate) (body : Bytes) (bad : Bool), s.boot.trying = some c → s.boot.rtReleased = false → s.awake = true →
    s.boot.rel ≠ .checking → s.boot.rel ≠ .awaitLock → (bad = true ∨ c.bodyOk body = false) → s.boot.cands = [] →
    ∃ t, exec (.romFetchDone body bad) s = .next t ∧ t.boot.trying = none ∧ t.pushOn = true ∧ Word.field (t.reg aStage) 15 0 = 0x060E ∧
      (c.slot = 1 → Word.field (t.reg (aBoot0 0x50)) 7 0 = stAuthFail.toNat) ∧ t.evt (evBoot 8) = (s.evt (evBoot 8)).bump) ∧
  (∀ (s : State) (m : Master) (v : Word), s.admits m (aBoot1 0x60) = true → ∃ t, exec (.pushCtrlWrite m v) s = .next t ∧
    t.pushOn = v.getLsbD 0 ∧ (∀ a, a ≠ aBoot1 0x60 → t.reg a = s.reg a) ∧
    t.boot.pushOpen = (s.boot.pushOpen || (v.getLsbD 0 && s.boot.rtReleased)) ∧
    (v.getLsbD 0 = true → s.pushOn = false → t.evt (evBoot 2) = (s.evt (evBoot 2)).bump) ∧
    t = { s.routed t with regs := t.regs, boot := { s.boot with pushOpen := t.boot.pushOpen } }) ∧
  (∀ (s : State) (m : Master) (v : Word), s.admits m aStage = true → ∃ t, exec (.bootStageWrite m v) s = .next t ∧
    (s.boot.rtReleased = false → t.reg aStage = v &&& 0x3FFFF ∧ (∀ a, a ≠ aStage → t.reg a = s.reg a) ∧
      t = { s.recorded t with regs := t.regs }) ∧
    (s.boot.rtReleased = true → t.reg aStage = s.reg aStage ∧ t = { s.routed t with regs := t.regs }))

/-- HOLD_REQ_WRITE, HOLD_N_DEASSERT, HOLD_N_REASSERT, HOLD_UNFORCE and PGOOD_CHANGE (R104, R143, R148, R149, R152, R239): HOLD_REQ takes the
value; a line that nothing asserts is released and counted, T_FIRST_HOLD at the first only; a released line that something asserts is
held again; an unforce clears the forces that it names and is refused after a tamper response; a change of a power-good input is counted
while the core runs.
It says that `exec` completes with a next state for each of: holdReqWrite, holdNDeassert, holdNReassert, holdUnforce, pgoodChange. -/
def Obligations.HoldLinesFollowRequestsForcesAndGates : Prop :=
  (∀ (s : State) (m : Master) (v : Word), s.admits m (aPrst0 0x44) = true → ∃ t, exec (.holdReqWrite m v) s = .next t ∧
    t.prst.holdReq = BitVec.ofNat 24 v.toNat ∧ (∀ i, i < 24 → v.getLsbD i = true → t.lineHeld i = true ∧ t.prst.released.getLsbD i = false)) ∧
  (∀ (s : State) (ln : Fin 24), s.asserts ln.val = false → s.prst.released.getLsbD ln.val = false → s.flr.replay = .off →
    ∃ t, exec (.holdNDeassert ln) s = .next t ∧ t.prst.released.getLsbD ln.val = true ∧ t.lineHeld ln.val = false ∧
      (∀ i, i < 24 → i ≠ ln.val → t.prst.released.getLsbD i = s.prst.released.getLsbD i) ∧
      t.evt (evBoot 10) = (s.evt (evBoot 10)).bump ∧
      (s.prst.firstHold = true → t.regs = s.regs) ∧
      (s.prst.firstHold = false → t.reg (aBoot0 0x58) = BitVec.ofNat 32 (s.clk - s.pwr.pwrOkAt)) ∧
      t.prst.recov.getLsbD ln.val = false ∧ SMap.get (fun _ => 0) t.prst.relAt ln.val = s.posRun ∧
      t = { s.routed t with regs := t.regs, prst := t.prst }) ∧
  (∀ (s : State) (ln : Fin 24), s.asserts ln.val = true → exec (.holdNDeassert ln) s = .next s) ∧
  (∀ (s : State) (p : Fin 16) (i : Nat), s.lineOf p.val = some i → s.prst.released.getLsbD i = true → s.asserts i = true →
    ∃ t, exec (.holdNReassert p) s = .next t ∧ t.prst.released.getLsbD i = false ∧ t.lineHeld i = true) ∧
  (∀ (s : State) (m : Master) (v : Word), s.admits m (aPrst0 0x4C) = true → ∃ t, exec (.holdUnforce m v) s = .next t ∧
    (s.tamp.responded = false → s.harts.unforceLocked = false → ∀ i, i < 24 →
      t.prst.force.getLsbD i = (s.prst.force.getLsbD i && !v.getLsbD i)) ∧
    ((s.tamp.responded = true ∨ s.harts.unforceLocked = true) → t.prst = s.prst ∧ t = { s.routed t with regs := t.regs })) ∧
  (∀ (s : State) (ix : Fin 8) (lvl : Bool), s.prst.pgood.getLsbD ix.val ≠ lvl → ∃ t, exec (.pgoodChange ix lvl) s = .next t ∧
    t.prst.pgood.getLsbD ix.val = lvl ∧ (∀ j, j < 8 → j ≠ ix.val → t.prst.pgood.getLsbD j = s.prst.pgood.getLsbD j) ∧
    (s.coreUp = true → t.evt (evBoot 14) = (s.evt (evBoot 14)).bump ∧ t = { s.routed t with prst := { s.prst with pgood := t.prst.pgood } }) ∧
    (s.coreUp = false → t = { s with prst := { s.prst with pgood := t.prst.pgood } })) ∧
  (∀ (s : State) (ix : Fin 8), exec (.pgoodChange ix (s.prst.pgood.getLsbD ix.val)) s = .next s)

/-- SEQ_GO, SEQ_SKIP, SEQ_STOP, SEQ_SLOT_COMPLETE and SEQ_STALL (R18, R144, R146, R147, R150): the sequencer runs its valid slots in order, clears the
request of each completed slot's line, stalls past WAIT_MS, goes on after a stall at the same slot, and is DONE at the first slot that
is not valid; the next slot counts from the moment at which the line of the completed one deasserts; after a tamper response it goes no further
(that GO and SKIP are then refused as STATE is the model's choice, assumption 75).
It says that `exec` completes with a next state for each of: seqGo, seqSkip, seqStop, seqSlotComplete, seqStall. -/
def Obligations.TheReleaseSequencerRunsItsSlots : Prop :=
  (∀ (s : State) (m : Master), s.admits m (aPrst0 0x68) = true →
    (s.tamp.responded = true → exec (.seqGo m) s = .next (s.refuse m (aPrst0 0x68)) ∧ exec (.seqSkip m) s = .next (s.refuse m (aPrst0 0x68))) ∧
    (s.prst.seq = .running → exec (.seqGo m) s = .next (s.refuse m (aPrst0 0x68))) ∧
    ((s.prst.seq = .idle ∨ s.prst.seq = .done) → exec (.seqSkip m) s = .next (s.refuse m (aPrst0 0x68))) ∧
    (s.tamp.responded = false → s.prst.seq = .stalled → exec (.seqGo m) s = .next { s with prst := { s.prst with seq := .running, waitAt := s.clk } }) ∧
    (s.tamp.responded = false → (s.prst.seq = .idle ∨ s.prst.seq = .done) → Word.bit (s.seqSlot 0) 31 = true → Word.field (s.seqSlot 0) 4 0 < 24 →
      exec (.seqGo m) s = .next { s with prst := { s.prst with seq := .running, slot := 0, refAt := s.clk, refLine := none, waitAt := s.clk } }) ∧
    (s.tamp.responded = false → (s.prst.seq = .running ∨ s.prst.seq = .stalled) → s.prst.slot + 1 < 24 → Word.bit (s.seqSlot (s.prst.slot + 1)) 31 = true →
      Word.field (s.seqSlot (s.prst.slot + 1)) 4 0 < 24 →
      exec (.seqSkip m) s = .next { s with prst := { s.prst with seq := .running, slot := s.prst.slot + 1, refAt := s.clk, refLine := none, waitAt := s.clk } }) ∧
    exec (.seqStop m) s = .next { s with prst := { s.prst with seq := .idle, slot := 0, refLine := none } }) ∧
  (∀ s : State, (s.prst.seq ≠ .running ∨ s.tamp.responded = true) → exec .seqSlotComplete s = .next s) ∧
  (∀ s : State, s.prst.seq = .running → s.tamp.responded = false → s.slotEnds = true → ∃ t, exec .seqSlotComplete s = .next t ∧
    t.prst.holdReq = s.prst.holdReq ∧ (s.prst.slot < 24 → t.prst.seq = .done ∧ Word.field (t.reg aStage) 7 0 = 9)) ∧
  (∀ s : State, s.prst.seq = .running → s.tamp.responded = false → s.slotEnds = false → (s.slotMet = false ∨ s.refDue = true) →
    exec .seqSlotComplete s = .next s) ∧
  (∀ s : State, s.prst.seq = .running → s.tamp.responded = false → s.slotEnds = false → s.prst.slot < 24 → s.slotMet = true →
    s.refDue = false → ∃ t, exec .seqSlotComplete s = .next t ∧
      t.prst.holdReq = putBit s.prst.holdReq (Word.field (s.seqSlot s.prst.slot) 4 0) false ∧
      (s.prst.slot = 23 ∨ Word.bit (s.seqSlot (s.prst.slot + 1)) 31 = false → t.prst.seq = .done ∧ Word.field (t.reg aStage) 7 0 = 9 ∧
        t.flr.bootOpen = false) ∧
      (s.prst.slot < 23 → Word.bit (s.seqSlot (s.prst.slot + 1)) 31 = true → Word.field (s.seqSlot (s.prst.slot + 1)) 4 0 < 24 →
        t.prst.seq = .running ∧ t.prst.slot = s.prst.slot + 1 ∧ t.prst.refAt = s.clk ∧
        t.prst.refLine = (if { s with prst := { s.prst with holdReq := putBit s.prst.holdReq (Word.field (s.seqSlot s.prst.slot) 4 0) false } }.mayDeassert
          (Word.field (s.seqSlot s.prst.slot) 4 0) then some (Word.field (s.seqSlot s.prst.slot) 4 0) else none) ∧ Word.field (t.reg aStage) 7 0 = 8)) ∧
  (∀ s : State, s.prst.seq = .running → s.prst.waitAt + 1000 * Word.field (s.reg (aPrst0 0x70)) 15 0 < s.clk →
    exec .seqStall s = .next ({ s with prst := { s.prst with seq := .stalled } }.count (evBoot 12))) ∧
  (∀ s : State, (s.prst.seq ≠ .running ∨ s.clk ≤ s.prst.waitAt + 1000 * Word.field (s.reg (aPrst0 0x70)) 15 0) → exec .seqStall s = .next s)

/-! ### Flash ports and their masters -/

/-- READ_JEDEC_ID, READ_SFDP and SFDP_WIN_READ (R168, R170, R172, R177, R181, R185, R188): a command that the port hears counts in M_CMDS, its
clock is measured, its chip select shows asserted, and the master reads the identification bytes from the shadow, 0xFF where discovery
filled nothing; under a lease it reads 0xFF bytes and PORT_ERR shows LEASE_COLLISION; nothing reaches the flash. A command that the port
does not hear asserts its chip select and changes nothing else. Each read of the SFDP window moves its offset on by 4.
It says that `exec` completes with a next state for each of: readJedecId, readSfdp, sfdpWinRead. -/
def Obligations.IdentificationIsServedFromTheShadow : Prop :=
  ∀ (s : State) (p : Fin 16),
    (∀ (c : Fin 2) (n mhz f : Nat), s.hears p.val c.val = true → s.csMap p.val c.val = some f → (s.port p.val).granted f = false →
      ∃ t, exec (.readJedecId p c ⟨n, mhz⟩) s = .next t ∧
      t.outbox.getLast? = some (.master p.val ((List.range n).map (fun k => ((s.port p.val).jedec c.val).getD k 0xFF))) ∧
      (∀ q c o a mo d, Out.flash q c o a mo d ∈ t.outbox → Out.flash q c o a mo d ∈ s.outbox) ∧
      (t.port p.val).active = some (ActiveCmd.plain c.val false) ∧ (t.port p.val).mcs = some c.val ∧ (t.port p.val).stitch.isOpen = false ∧
      (t.port p.val).needed = autoDummy mhz ∧ t.reg (fp p.val 0 0x5C) = BitVec.ofNat 32 mhz ∧
      (t.reg (fp p.val 0 0xB0)).toNat = ((s.reg (fp p.val 0 0xB0)).toNat + 1) % 2 ^ 32 ∧
      (∀ q, q ≠ p.val → t.port q = s.port q) ∧
      (∀ a, a ≠ fp p.val 0 0xB0 → a ≠ fp p.val 0 0xB4 → a ≠ fp p.val 0 0x5C → t.reg a = s.reg a) ∧
      t = { s.recorded t with regs := t.regs, ports := t.ports }) ∧
    (∀ (c : Fin 2) (addr n mhz f : Nat), s.hears p.val c.val = true → s.csMap p.val c.val = some f → (s.port p.val).granted f = false →
      ∃ t, exec (.readSfdp p c addr ⟨n, mhz⟩) s = .next t ∧
      (s.bitOf (fp p.val 0 0x90) 0 = false → t.outbox.getLast? =
        some (.master p.val ((List.range n).map (fun k => ((s.port p.val).sfdp c.val).getD (addr + k) 0xFF)))) ∧
      (∀ q c o a mo d, Out.flash q c o a mo d ∈ t.outbox → Out.flash q c o a mo d ∈ s.outbox) ∧
      (t.port p.val).active = some (ActiveCmd.plain c.val false) ∧ (t.port p.val).mcs = some c.val ∧
      (t.port p.val).needed = autoDummy mhz ∧ (∀ q, q ≠ p.val → t.port q = s.port q) ∧
      t = { s.recorded t with regs := t.regs, ports := t.ports }) ∧
    (∀ (c : Fin 2) (addr n mhz f : Nat), s.hears p.val c.val = true → s.csMap p.val c.val = some f → (s.port p.val).granted f = true →
      (∃ t, exec (.readJedecId p c ⟨n, mhz⟩) s = .next t ∧ t.outbox.contains (.master p.val (List.replicate n 0xFF)) = true ∧
        t.reg (fp p.val 0 0xA8) = fld 2 0 ||| fld f 4 ∧ t.evt (evPort p.val 5) = (s.evt (evPort p.val 5)).bump) ∧
      (∃ t, exec (.readSfdp p c addr ⟨n, mhz⟩) s = .next t ∧ t.outbox.contains (.master p.val (List.replicate n 0xFF)) = true ∧
        t.reg (fp p.val 0 0xA8) = fld 2 0 ||| fld f 4 ∧ t.evt (evPort p.val 5) = (s.evt (evPort p.val 5)).bump)) ∧
    (∀ (c : Fin 2) (addr n mhz : Nat), s.hears p.val c.val = false →
      exec (.readJedecId p c ⟨n, mhz⟩) s = .next (s.assertCs p.val c.val) ∧ exec (.readSfdp p c addr ⟨n, mhz⟩) s = .next (s.assertCs p.val c.val)) ∧
    (∀ c : Nat, (s.assertCs p.val c).port p.val = { s.port p.val with mcs := some ((s.port p.val).mcs.getD c) } ∧
      s.assertCs p.val c = { s with ports := (s.assertCs p.val c).ports }) ∧
    (∀ m, s.arrives m (0x80 + 4 * p.val) = true → ∃ t, exec (.sfdpWinRead m p) s = .next t ∧
      t.outbox.getLast? = some (.readData m (fp p.val 0 0x98) (leBytes 4 (s.sfdpWord p.val).toNat)) ∧
      (t.reg (fp p.val 0 0x94)).toNat % 2048 = ((s.reg (fp p.val 0 0x94)).toNat + 4) % 2048 ∧
      (∀ a, a ≠ fp p.val 0 0x94 → t.reg a = s.reg a) ∧ t = { s.recorded t with regs := t.regs })

/-- MASTER_COMMAND (R174, R176, R177, R181, R195, R196, R198, R200, R207 to R209, R216). A READ-class command in a region that passes it
goes to the flash with the master's opcode at the mapped address, and the flash's bytes go to the master. A program, erase or status
write reaches nothing before its end: where its region forwards it, its flash command waits for the end; where its region mediates it, a
capture does; where its region denies it, or an erase spans regions, the hit is recorded and WEL clears. An opcode that no valid entry
names, or without its complement, is recorded as cause 1 and swallowed; a leased chip select swallows writes as LEASE_COLLISION; a
command that the port does not hear only asserts its chip select.
It says that `exec` completes with a next state for each of: masterCommand. -/
def Obligations.MasterCommandsReachTheFlashAsTheirRegionsAllow : Prop :=
  ∀ (s : State) (p : Fin 16) (mc : MCmd),
    (s.hears p.val mc.cs.val = false → exec (.masterCommand p mc) s = .next (s.assertCs p.val mc.cs.val)) ∧
    (∀ f, s.hears p.val mc.cs.val = true → s.csMap p.val mc.cs.val = some f →
      ((s.port p.val).granted f = false →
        (5 < ((s.port p.val).mode f).code ∧ mc.opc2 ≠ ~~~mc.opc ∨ (((s.port p.val).mode f).code ≤ 5 ∨ mc.opc2 = ~~~mc.opc) ∧ mc.opc ≠ 0x9F ∧
          mc.opc ≠ 0x5A ∧ (s.port p.val).ctMatch mc.opc.toNat ((s.port p.val).mode f).code = none) →
        ∃ t, exec (.masterCommand p mc) s = .next t ∧
          (∀ q c o a mo d, Out.flash q c o a mo d ∈ t.outbox → Out.flash q c o a mo d ∈ s.outbox) ∧
          (t.port p.val).active = some (ActiveCmd.plain mc.cs.val false) ∧ Word.field (t.reg (fp p.val 2 0x64)) 3 0 = 1 ∧
          t.evt (evPort p.val 3) = (s.evt (evPort p.val 3)).bump ∧ (∀ q, q ≠ p.val → t.port q = s.port q) ∧
          t = { s.recorded t with regs := t.regs, ports := t.ports }) ∧
      (∀ i e, mc.opc ≠ 0x9F → mc.opc ≠ 0x5A → (((s.port p.val).mode f).code ≤ 5 ∨ mc.opc2 = ~~~mc.opc) →
        (s.port p.val).ctMatch mc.opc.toNat ((s.port p.val).mode f).code = some i → ctGet (s.port p.val).ctA i = e →
        s.classFits p.val mc.cs.val (ctClass e) mc.opc = true →
        -- a read that ends before its data
        (ctClass e = 0 → ctAction e ≠ 0 → mc.addrDone = false → ∃ t, exec (.masterCommand p mc) s = .next t ∧
          (t.port p.val).active = some (ActiveCmd.plain mc.cs.val false) ∧ (t.port p.val).mcs = some mc.cs.val ∧
          (∀ q c o a mo d, Out.flash q c o a mo d ∈ t.outbox → Out.flash q c o a mo d ∈ s.outbox) ∧
          ((s.port p.val).granted f = true → t.reg (fp p.val 0 0xA8) = fld 2 0 ||| fld f 4 ∧ t.evt (evPort p.val 5) = (s.evt (evPort p.val 5)).bump) ∧
          ((s.port p.val).granted f = false → t.reg (fp p.val 0 0xA8) = s.reg (fp p.val 0 0xA8) ∧
            ∀ q d, Out.master q d ∈ t.outbox → Out.master q d ∈ s.outbox)) ∧
        -- a read in a region that passes it
        (∀ j fa, ctClass e = 0 → ctAction e = 1 → mc.addrDone = true → (s.port p.val).granted f = false → ((s.port p.val).mode f).code ≠ 7 →
          autoDummy mc.mhz ≤ s.addDummy p.val (s.portMhz p.val) →
          (s.port p.val).govern mc.cs.val (s.wrapAddr p.val f (((s.port p.val).mode f).addr e mc.addr) / 4096) = some j →
          rgMode ((s.port p.val).rg j) ≤ 2 →
          (s.port p.val).mapAddr j mc.cs.val f (s.wrapAddr p.val f (((s.port p.val).mode f).addr e mc.addr)) = fa →
          (∀ k, k < mc.n →
            s.wrapAddr p.val f (((s.port p.val).mode f).addr e mc.addr + k) = s.wrapAddr p.val f (((s.port p.val).mode f).addr e mc.addr) + k ∧
            s.wrapAddr p.val fa.1 (fa.2 + k) = fa.2 + k ∧
            (s.port p.val).govern mc.cs.val ((s.wrapAddr p.val f (((s.port p.val).mode f).addr e mc.addr) + k) / 4096) = some j ∧
            (rgMode ((s.port p.val).rg j) = 1 → (s.port p.val).winOf fa.1 ((fa.2 + k) / 4096) = none)) →
          ∃ t, exec (.masterCommand p mc) s = .next t ∧
            t.outbox.getLast? = some (.master p.val ((List.range mc.n).map (fun k => Bytes.at mc.flash k))) ∧
            Out.flash p.val fa.1 mc.opc.toNat fa.2 (List.replicate (ctMclk e) 0xFF) [] ∈ t.outbox ∧
            (t.port p.val).active = some (ActiveCmd.forward mc.cs.val e) ∧ (t.port p.val).mcs = some mc.cs.val ∧
            (∀ q, q ≠ p.val → t.port q = s.port q)) ∧
        -- writes
        ((ctClass e = 1 ∨ ctClass e = 2 ∨ ctClass e = 3 ∨ ctClass e = 5) → ∀ a g, ((s.port p.val).mode f).addr e mc.addr = a →
          (if ctAddr e ≠ 0 then (s.port p.val).govern mc.cs.val (s.wrapAddr p.val f a / 4096) else none) = g →
          (ctAddr e ≠ 0 → mc.addrDone = true) → (ctClass e = 2 → s.eraseSpan p.val { mc with addr := a } e g (s.wrapAddr p.val f a) = false) →
          ∀ j, (s.port p.val).granted f = false →
          (ctAction e = 1 → ctAddr e ≠ 0 → g = some j → rgMode ((s.port p.val).rg j) = 0 → rgWr ((s.port p.val).rg j) = true →
            ∃ t, exec (.masterCommand p mc) s = .next t ∧
              (∀ q c o a mo d, Out.flash q c o a mo d ∈ t.outbox → Out.flash q c o a mo d ∈ s.outbox) ∧
              (t.port p.val).active = some { ActiveCmd.forward mc.cs.val e with
                issue := some { cs := ((s.port p.val).mapAddr j mc.cs.val f (s.wrapAddr p.val f a)).1, opc := mc.opc,
                                addr := ((s.port p.val).mapAddr j mc.cs.val f (s.wrapAddr p.val f a)).2, mclk := ctMclk e, data := mc.data },
                view := .write true } ∧
              (∀ q, q ≠ p.val → t.port q = s.port q) ∧ t = { s.recorded t with regs := t.regs, ports := t.ports }) ∧
          ((ctAction e = 3 ∧ ctAddr e = 0 ∨ ctAddr e ≠ 0 ∧ g = some j ∧ rgMode ((s.port p.val).rg j) = 2 ∧ ctAction e ≠ 0 ∧ ctAction e ≠ 2) →
            ∃ t, exec (.masterCommand p mc) s = .next t ∧
              (∀ q c o a mo d, Out.flash q c o a mo d ∈ t.outbox → Out.flash q c o a mo d ∈ s.outbox) ∧
              (t.port p.val).active = some { ActiveCmd.plain mc.cs.val false with
                capture := some (s.captureOf p.val { mc with addr := a } f i e g (s.wrapAddr p.val f a)),
                maddr := if ctAddr e ≠ 0 then s.wrapAddr p.val f a else 0 } ∧
              (∀ q, q ≠ p.val → t.port q = s.port q) ∧ t = { s.recorded t with regs := t.regs, ports := t.ports }) ∧
          (ctAction e = 1 → (ctAddr e = 0 ∨ g = none ∨ g = some j ∧ (rgMode ((s.port p.val).rg j) = 1 ∨ rgMode ((s.port p.val).rg j) = 3 ∨
              rgMode ((s.port p.val).rg j) = 0 ∧ rgWr ((s.port p.val).rg j) = false)) →
            ∃ t, exec (.masterCommand p mc) s = .next t ∧
              (∀ q c o a mo d, Out.flash q c o a mo d ∈ t.outbox → Out.flash q c o a mo d ∈ s.outbox) ∧
              ((t.port p.val).view mc.cs.val).wel = false ∧ (t.port p.val).active = some (s.deniedCmd p.val mc.cs.val) ∧
              Word.field (t.reg (fp p.val 2 0x64)) 3 0 = 3 ∧ t.reg (fp p.val 2 0x68) = BitVec.ofNat 32 (s.wrapAddr p.val f a) ∧
              t.evt (evPort p.val 3) = (s.evt (evPort p.val 3)).bump ∧
              (∀ q, q ≠ p.val → t.port q = s.port q) ∧ t = { s.recorded t with regs := t.regs, ports := t.ports })) ∧
        -- under a lease
        ((s.port p.val).granted f = true → ctAction e ≠ 0 → (ctClass e = 1 ∨ ctClass e = 2 ∨ ctClass e = 3 ∨ ctClass e = 5) → ctData e ≠ 2 →
          ∃ t, exec (.masterCommand p mc) s = .next t ∧
            (∀ q c o a mo d, Out.flash q c o a mo d ∈ t.outbox → Out.flash q c o a mo d ∈ s.outbox) ∧
            t.reg (fp p.val 0 0xA8) = fld 2 0 ||| fld f 4 ∧ (t.port p.val).active = some (ActiveCmd.plain mc.cs.val false) ∧
            (t.port p.val).view mc.cs.val = (s.port p.val).view mc.cs.val)))

/-- MASTER_CS_DEASSERT and DQS_TIMEOUT (R160, R161, R174, R176, R188, R199, R216, R217). The end of a command leaves no chip select asserted and
the port idle; the flash command of a forwarded write goes out now, the master view changes as the command says and the mode of a
forwarded command switches; a capture takes the lowest free entry of the write queue with its data, where the queue is on; a read in
mode 0x7 is answered now. Where FDQS does not toggle, every byte of that read is 0xFF and PORT_ERR shows cause 5.
It says that `exec` completes with a next state for each of: masterCsDeassert, dqsTimeout. -/
def Obligations.TheEndOfAMasterCommandForwardsCapturesAndSwitches : Prop :=
  ∀ (s : State) (p : Fin 16),
    ((s.port p.val).active = none → exec (.masterCsDeassert p) s = .next (s.modPort p.val (fun q => { q with mcs := none }))) ∧
    (∀ c, (s.port p.val).active = some c → c.late = none → c.capture = none → c.wrdi = false →
      ∃ t, exec (.masterCsDeassert p) s = .next t ∧ (t.port p.val).active = none ∧ (t.port p.val).mcs = none ∧
        t.outbox = s.outbox ++ (match c.issue with
          | some f => [.flash p.val f.cs f.opc.toNat f.addr (List.replicate f.mclk 0xFF) f.data]
          | none => []) ∧
        (t.port p.val).view c.cs = ((s.port p.val).view c.cs).apply c.view ∧
        (t.port p.val).mode c.cs = (if c.fwd then ((s.port p.val).mode c.cs).switch (s.modeReg p.val c.cs) c else (s.port p.val).mode c.cs) ∧
        (c.fwd = true → c.sw < 8 → ((t.port p.val).mode c.cs).code = c.sw) ∧ (t.port p.val).wq = (s.port p.val).wq ∧
        (∀ q, q ≠ p.val → t.port q = s.port q) ∧ t = { s with ports := t.ports, outbox := t.outbox }) ∧
    (∀ c e, (s.port p.val).active = some c → c.late = none → c.issue = none → c.view = .keep → c.wrdi = false → c.capture = some e →
      ¬(e.type = 0 ∧ e.data = []) →
      (∀ i, s.bitOf (fp p.val 2 0x6C) 0 = true → (s.port p.val).freeWqe = some i → e.data.length ≤ 512 → (e.trunc && e.type == 0) = false →
        ∃ t, exec (.masterCsDeassert p) s = .next t ∧ (t.port p.val).active = none ∧ (t.port p.val).mcs = none ∧
          (t.port p.val).wqe i = { e with seq := (s.port p.val).wqSeq, mcmd := s.reg (fp p.val 0 0xB0), since := s.clk } ∧
          (∀ j, j ≠ i → (t.port p.val).wqe j = (s.port p.val).wqe j) ∧
          (∀ a, t.byte a = if wqDataAt p.val i ≤ a ∧ a < wqDataAt p.val i + e.data.length then e.data.getD (a - wqDataAt p.val i) 0 else s.byte a) ∧
          ((t.port p.val).view c.cs).wel = false ∧ ((t.port p.val).view c.cs).wrenFwd = ((s.port p.val).view c.cs).wrenFwd ∧
          t.evt (evPort p.val 2) = (s.evt (evPort p.val 2)).bump ∧
          (∀ q, q ≠ p.val → t.port q = s.port q) ∧ t = { s.routed t with ram := t.ram, ports := t.ports }) ∧
      ((s.bitOf (fp p.val 2 0x6C) 0 = false ∨ (s.port p.val).freeWqe = none) → ((s.port p.val).view c.cs).wrenFwd = false →
        ∃ t, exec (.masterCsDeassert p) s = .next t ∧ (t.port p.val).active = none ∧ (t.port p.val).mcs = none ∧
          (t.port p.val).wq = (s.port p.val).wq ∧ Word.field (t.reg (fp p.val 2 0x64)) 3 0 = 5 ∧
          t.reg (fp p.val 2 0x68) = BitVec.ofNat 32 c.maddr ∧ ((t.port p.val).view c.cs).wel = false ∧
          (∀ q, q ≠ p.val → t.port q = s.port q) ∧ t = { s.routed t with regs := t.regs, ports := t.ports }) ∧
      ((s.bitOf (fp p.val 2 0x6C) 0 = false ∨ (s.port p.val).freeWqe = none) → ((s.port p.val).view c.cs).wrenFwd = true →
        ∃ t, exec (.masterCsDeassert p) s = .next t ∧ (t.port p.val).active = none ∧ t.outbox.getLast? = some (.flash p.val c.cs 0x04 0 [] []) ∧
          (t.port p.val).wq = (s.port p.val).wq ∧ ((t.port p.val).view c.cs).wel = false ∧ ((t.port p.val).view c.cs).wrenFwd = false)) ∧
    (∀ c l, (s.port p.val).active = some c → c.late = some l → l.kind = .other → c.issue = none → c.view = .keep → c.capture = none →
      c.wrdi = false → ∃ t, exec (.masterCsDeassert p) s = .next t ∧ (t.port p.val).active = none ∧
        t.outbox = s.outbox ++ [.master p.val (l.mc.flash.take l.mc.n)] ∧ (∀ q, q ≠ p.val → t.port q = s.port q)) ∧
    (∀ c, (s.port p.val).active = some c → c.wrdi = true → c.late = none → c.issue = none → c.capture = none →
      ∃ t, exec (.masterCsDeassert p) s = .next t ∧ (t.port p.val).active = none ∧
        t.outbox = s.outbox ++ [.flash p.val c.cs 0x04 0 [] []] ∧ ((t.port p.val).view c.cs).wrenFwd = false) ∧
    (∀ c l, (s.port p.val).active = some c → c.late = some l → (l.kind = .read → ∀ k, k < l.mc.n →
        (s.port p.val).modeOf ((s.port p.val).govern l.mc.cs.val (s.wrapAddr p.val l.fcs (l.mc.addr + k) / 4096)) ≠ 4) →
      ∃ t, exec (.dqsTimeout p) s = .next t ∧ t.outbox.contains (.master p.val (List.replicate l.mc.n 0xFF)) = true ∧
        t.reg (fp p.val 0 0xA8) = fld 5 0 ||| fld l.fcs 4 ∧
        t.evt (evPort p.val 5) = (if l.short = true then (s.evt (evPort p.val 5)).bump.bump else (s.evt (evPort p.val 5)).bump) ∧
        (t.port p.val).active = some { c with late := none } ∧ (l.kind = .read → (t.port p.val).stitch.isOpen = false) ∧
        (∀ a, a ≠ fp p.val 0 0xA8 → a ≠ fp p.val 2 0x64 → a ≠ fp p.val 2 0x68 → t.reg a = s.reg a) ∧
        (∀ q, q ≠ p.val → t.port q = s.port q) ∧ t = { s.recorded t with regs := t.regs, ports := t.ports }) ∧
    ((∀ c, (s.port p.val).active = some c → c.late = none) → exec (.dqsTimeout p) s = .next s)

/-- LEASE_WRITE, LEASE_GRANT, LEASE_END, MRST_EDGE and MRST_DEFERRED_PULSE (R160, R180, R182): a lease is granted while no master command
runs on its chip select, the erasures that waited for it follow, and it ends when its bit is clear and no device operation runs; a master's reset ends its command and returns both
chip selects to their configured modes and pulses FRST, at once or after the device operation, with 66h and 99h where the bank allows the mode (R154).
It says that `exec` completes with a next state for each of: leaseWrite, leaseGrant, leaseEnd, mrstEdge, mrstDeferredPulse. -/
def Obligations.LeasesAndMasterResetsOfAPort : Prop :=
  ∀ (s : State) (p : Fin 16),
    (∀ m v, s.admits m (fp p.val 0 0x70) = true → ∃ t, exec (.leaseWrite m p v) s = .next t ∧ t.reg (fp p.val 0 0x70) = v &&& 3 ∧
      (∀ a, a ≠ fp p.val 0 0x70 → t.reg a = s.reg a) ∧ t = { s with regs := t.regs }) ∧
    (∀ c : Fin 2, s.bitOf (fp p.val 0 0x70) c.val = true →
      (∀ a, (s.port p.val).active = some a → s.csMap p.val a.cs ≠ some c.val) → ∃ t, exec (.leaseGrant p c) s = .next t ∧
      (t.port p.val).granted c.val = true ∧ (t.port p.val).granted (1 - c.val) = (s.port p.val).granted (1 - c.val) ∧
      ((s.port p.val).granted c.val = false → (t.port p.val).wip c.val = false ∧
        t.outbox = s.outbox ++ (s.boot.eraseDue.filter (fun x => x.1 == p.val && x.2.1 == c.val)).map (fun x => .flash p.val c.val 0xD8 x.2.2 [] []) ∧
        t.boot = { s.boot with eraseDue := s.boot.eraseDue.filter (fun x => !(x.1 == p.val && x.2.1 == c.val)) }) ∧
      ((s.port p.val).granted c.val = true → t = s) ∧
      (∀ q, q ≠ p.val → t.port q = s.port q) ∧ t = { s with ports := t.ports, boot := t.boot, outbox := t.outbox }) ∧
    (∀ c : Fin 2, (∃ a, (s.port p.val).active = some a ∧ s.csMap p.val a.cs = some c.val) → exec (.leaseGrant p c) s = .next s) ∧
    (∀ c : Fin 2, s.bitOf (fp p.val 0 0x70) c.val = false → s.devOp p.val ≠ some c.val → ∃ t, exec (.leaseEnd p c) s = .next t ∧
      (t.port p.val).granted c.val = false ∧ (t.port p.val).granted (1 - c.val) = (s.port p.val).granted (1 - c.val) ∧
      (∀ q, q ≠ p.val → t.port q = s.port q) ∧ t = { s with ports := t.ports }) ∧
    (s.bitOf (fp p.val 0 0x40) 3 = true → s.portHeld p.val = false → ∃ t, exec (.mrstEdge p) s = .next t ∧
      (t.port p.val).active = none ∧ (t.port p.val).mode0 = s.modeReg p.val 0 ∧ (t.port p.val).mode1 = s.modeReg p.val 1 ∧
      (t.port p.val).view0 = MView.reset ∧ (t.port p.val).view1 = MView.reset ∧ (t.port p.val).mcs = (s.port p.val).mcs ∧
      (s.devOp p.val = none → t.outbox.getLast? = some (.frst p.val)) ∧ ((s.devOp p.val).isSome = true → (t.port p.val).mrstOwed = true) ∧
      (∀ q, q ≠ p.val → t.port q = s.port q)) ∧
    (((s.port p.val).mrstOwed = false ∨ (s.devOp p.val).isSome = true) → exec (.mrstDeferredPulse p) s = .next s) ∧
    ((s.port p.val).mrstOwed = true → s.devOp p.val = none → ∃ t, exec (.mrstDeferredPulse p) s = .next t ∧
      t.outbox = s.outbox ++ [.frst p.val] ++
        (if (s.port p.val).modeRuns 0 = true then [.flash p.val 0 0x66 0 [] [], .flash p.val 0 0x99 0 [] []] else []) ++
        (if (s.port p.val).modeRuns 1 = true then [.flash p.val 1 0x66 0 [] [], .flash p.val 1 0x99 0 [] []] else []) ∧
      (t.port p.val).mrstOwed = false ∧ (∀ q, q ≠ p.val → t.port q = s.port q) ∧ t = { s with ports := t.ports, outbox := t.outbox })

/-- DISCOVER, DISCOVERY_DONE, PHY_CAL, PHY_CAL_DONE, PORT_PENDING_APPLY, BANK_FAULT and BANK_VOLTAGE_RETURN (R162, R165, R183, R184, R188 to R192):
discovery starts only on a held port without lease or device operation, sends FRST and, where the bank allows the mode, 66h, 99h, 9Fh and 5Ah, and
fills the shadow with what it read, nothing where no command could be sent; a calibration ends on an idle port with its delay or CAL_FAIL; buffered values of a port apply while it is idle, a mode that the
bank forbids is recorded and not taken, a dummy count is clamped to 6 to 16; a bank without a valid voltage faults an enabled port.
It says that `exec` completes with a next state for each of: discover, discoveryDone, phyCal, phyCalDone, portPendingApply, bankFault,
bankVoltageReturn. -/
def Obligations.PortServicesDiscoverCalibrateAndFault : Prop :=
  ∀ (s : State) (p : Fin 16),
    (∀ m v, s.admits m (fp p.val 0 0x78) = true → ∃ t, exec (.discover m p v) s = .next t ∧
      (s.discOk p.val = true → (v.getLsbD 0 = true → (t.port p.val).discSt0 = 1) ∧ (v.getLsbD 1 = true → (t.port p.val).discSt1 = 1) ∧
        (v.getLsbD 0 = true → v.getLsbD 1 = false → t.outbox = s.outbox ++ [.frst p.val] ++
          (if ((s.port p.val).setMode 0 (s.modeReg p.val 0)).modeRuns 0 = true then [.flash p.val 0 0x66 0 [] [], .flash p.val 0 0x99 0 [] [],
            .flash p.val 0 0x9F 0 [] [], .flash p.val 0 0x5A 0 [] []] else [])) ∧
        t = { s with ports := t.ports, outbox := t.outbox } ∧ ∀ q, q ≠ p.val → t.port q = s.port q) ∧
      (s.discOk p.val = false → t.ports = s.ports ∧ t.reg (fp p.val 0 0x18) = pageErrAfter (s.reg (fp p.val 0 0x18)) 0x78 .state m ∧
        t = { s.routed t with regs := t.regs })) ∧
    (∀ (c : Fin 2) (r : DiscResult), (s.port p.val).disc c.val = 1 → (s.port p.val).modeRuns c.val = true → discCode r = 2 → ∃ t, exec (.discoveryDone p c r) s = .next t ∧
      (t.port p.val).disc c.val = 2 ∧ (t.port p.val).jedec c.val = r.id ∧ (t.port p.val).sfdp c.val = r.sfdp ∧
      Word.field (t.reg (fp p.val 0 0x88)) (8 * c.val + 4) (8 * c.val) = discDens r.sfdp % 32 ∧
      (∀ q, q ≠ p.val → t.port q = s.port q) ∧ t = { s with regs := t.regs, ports := t.ports }) ∧
    (∀ (c : Fin 2) (r : DiscResult), (s.port p.val).disc c.val = 1 → (s.port p.val).modeRuns c.val = false → ∃ t, exec (.discoveryDone p c r) s = .next t ∧
      (t.port p.val).disc c.val = 4 ∧ (t.port p.val).jedec c.val = [] ∧ (t.port p.val).sfdp c.val = [] ∧
      t.reg (fp p.val 0 0xA8) = fld 8 0 ||| fld c.val 4 ∧ (∀ q, q ≠ p.val → t.port q = s.port q)) ∧
    (∀ (c : Fin 2) (r : DiscResult), (s.port p.val).disc c.val ≠ 1 → exec (.discoveryDone p c r) s = .next s) ∧
    (∀ m, s.admits m (fp p.val 0 0xA0) = true → s.bitOf (fp p.val 0 0x9C) 16 = true → ∃ t, exec (.phyCal m p) s = .next t ∧
      (t.port p.val).calOwed = true ∧ (∀ q, q ≠ p.val → t.port q = s.port q) ∧ t = { s with ports := t.ports }) ∧
    (∀ best, (s.port p.val).calOwed = true → s.portIdle p.val = true → ∃ t, exec (.phyCalDone p best) s = .next t ∧
      (t.port p.val).calOwed = false ∧ (∀ d, best = some d → t.reg (fp p.val 0 0xA4) = 1 ||| BitVec.ofNat 32 (d % 64 * 256)) ∧
      (best = none → Word.bit (t.reg (fp p.val 0 0xA4)) 1 = true ∧
        Word.field (t.reg (fp p.val 0 0xA4)) 31 8 = Word.field (s.reg (fp p.val 0 0xA4)) 31 8) ∧
      (∀ a, a ≠ fp p.val 0 0xA4 → t.reg a = s.reg a) ∧ t = { s with regs := t.regs, ports := t.ports }) ∧
    (s.portIdle p.val = false → (∀ best, exec (.phyCalDone p best) s = .next s) ∧ exec (.portPendingApply p) s = .next s) ∧
    (s.portIdle p.val = true → SMap.wf (fun _ => none) s.slowDue = true → ∃ t, exec (.portPendingApply p) s = .next t ∧
      (∀ a v, a / 4096 = 0x80 + 4 * p.val → s.dueAt a = some (true, v) → t.dueAt a = none ∧
        (a ≠ fp p.val 0 0x48 → a ≠ fp p.val 0 0x4C → a ≠ fp p.val 0 0x54 → a ≠ fp p.val 0 0xA8 → t.reg a = v) ∧
        (a = fp p.val 0 0x54 → Word.field (t.reg a) 4 0 = min 16 (max 6 (Word.field v 4 0))) ∧
        (a = fp p.val 0 0x48 → modeOk (s.port p.val).bank (Word.field v 3 0) = true → clkOk (Word.field v 3 0) (Word.field v 7 5) = true → t.reg a = v) ∧
        (a = fp p.val 0 0x48 ∨ a = fp p.val 0 0x4C → modeOk (s.port p.val).bank (Word.field v 3 0) = false → t.reg a = s.reg a)) ∧
      (∀ a, a / 4096 ≠ 0x80 + 4 * p.val → t.dueAt a = s.dueAt a ∧ t.reg a = s.reg a) ∧ (∀ q, q ≠ p.val → t.port q = s.port q)) ∧
    (∀ v, s.portIdle p.val = true → s.slowDue = [(fp p.val 0 0x48, some (true, v))] → modeOk (s.port p.val).bank (Word.field v 3 0) = false →
      ∃ t, exec (.portPendingApply p) s = .next t ∧ t.reg (fp p.val 0 0x48) = s.reg (fp p.val 0 0x48) ∧ Word.field (t.reg (fp p.val 0 0xA8)) 3 0 = 3) ∧
    (∀ code : Fin 8, ((code.val = 0 ∨ code.val = 3) → ∃ t, exec (.bankFault p code) s = .next t ∧ (t.port p.val).bank = code.val ∧
        (s.portEn p.val = true → t.portFault p.val = true ∧ t.portLive p.val = false) ∧ ∀ q, q ≠ p.val → t.port q = s.port q) ∧
      ((code.val = 1 ∨ code.val = 2) → ∃ t, exec (.bankVoltageReturn p code) s = .next t ∧ (t.port p.val).bank = code.val ∧
        t.portFault p.val = false ∧ (∀ q, q ≠ p.val → t.port q = s.port q) ∧ t = { s with ports := t.ports }))

/-! ### Tables, write queue and verification of a port -/

/-- CT_WRITE, CT_READ, CT_SWAP, CT_CLEAR, RT_WRITE, RT_READ, RT_SWAP, RT_SWAP_ALL, RT_CLEAR and TABLE_SWAP_APPLY (R202, R210, R213, R214): a
write that passes its checks stores the window words at the index in the shadow bank only, one that fails leaves both banks as they were
and shows its code; reads fill the window; a swap of both tables asks for each that has none pending, a pending one being recorded; a swap
waits for an idle moment and then the active bank is the shadow bank.
It says that `exec` completes with a next state for each of: ctWrite, ctSwap, ctClear, ctRead, rtWrite, rtSwap, rtClear, rtRead, rtSwapAll,
tableSwapApply. -/
def Obligations.TableWritesReachTheActiveBankOnlyBySwap : Prop :=
  ∀ (s : State) (m : Master) (p : Fin 16),
    (s.admits m (aCt p.val) = true → (s.port p.val).ctSwap = false →
      (∃ t, exec (.ctWrite m p) s = .next t ∧ (t.port p.val).ctA = (s.port p.val).ctA ∧
        Word.field (t.reg (fp p.val 1 0x50)) 7 4 = (s.port p.val).ctCheck (s.ctIdx p.val) (s.ctWords p.val) ∧
        ((s.port p.val).ctCheck (s.ctIdx p.val) (s.ctWords p.val) = 0 →
          (∀ i, ctGet (t.port p.val).ctS i = if i = s.ctIdx p.val then s.ctWords p.val else ctGet (s.port p.val).ctS i) ∧
          t = { s with regs := t.regs, ports := t.ports }) ∧
        ((s.port p.val).ctCheck (s.ctIdx p.val) (s.ctWords p.val) ≠ 0 → t.ports = s.ports)) ∧
      exec (.ctSwap m p) s = .next (s.modPort p.val (fun q => { q with ctSwap := true })) ∧
      (∃ t, exec (.ctClear m p) s = .next t ∧ (t.port p.val).ctA = (s.port p.val).ctA ∧
        (SMap.wf (fun _ => ctZero) (s.port p.val).ctS = true → ∀ i, eValid (ctGet (t.port p.val).ctS i) = false) ∧
        t = { s with ports := t.ports })) ∧
    (s.admits m (aCt p.val) = true → ∃ t, exec (.ctRead m p) s = .next t ∧ t = { s with regs := t.regs } ∧
      (s.bitOf (fp p.val 1 0x40) 8 = true → t.ctWords p.val = [ew (ctGet (s.port p.val).ctA (s.ctIdx p.val)) 0, ew (ctGet (s.port p.val).ctA (s.ctIdx p.val)) 1]) ∧
      (s.bitOf (fp p.val 1 0x40) 8 = false → t.ctWords p.val = [ew (ctGet (s.port p.val).ctS (s.ctIdx p.val)) 0, ew (ctGet (s.port p.val).ctS (s.ctIdx p.val)) 1])) ∧
    (s.admits m (aRt p.val) = true → (s.port p.val).rtSwap = false →
      (∃ t, exec (.rtWrite m p) s = .next t ∧ (t.port p.val).rtA = (s.port p.val).rtA ∧
        Word.field (t.reg (fp p.val 2 0x5C)) 7 4 = s.rtCheck p.val (s.rtWords p.val) ∧
        (s.rtCheck p.val (s.rtWords p.val) = 0 →
          (∀ i, rtGet (t.port p.val).rtS i = if i = s.rtIdx p.val then s.rtWords p.val else rtGet (s.port p.val).rtS i) ∧
          t = { s with regs := t.regs, ports := t.ports }) ∧
        (s.rtCheck p.val (s.rtWords p.val) ≠ 0 → t.ports = s.ports)) ∧
      exec (.rtSwap m p) s = .next (s.modPort p.val (fun q => { q with rtSwap := true })) ∧
      (∃ t, exec (.rtClear m p) s = .next t ∧ (t.port p.val).rtA = (s.port p.val).rtA ∧ t = { s with ports := t.ports })) ∧
    (s.admits m (aRt p.val) = true → ∃ t, exec (.rtRead m p) s = .next t ∧ t = { s with regs := t.regs } ∧
      ∀ w, w < 5 → t.reg (fp p.val 2 (0x44 + 4 * w)) =
        (let v := ew (rtGet (if s.bitOf (fp p.val 2 0x40) 8 then (s.port p.val).rtA else (s.port p.val).rtS) (s.rtIdx p.val)) w
         if w = 2 then Word.setBit v 15 ((s.port p.val).sub (s.rtIdx p.val)) else v)) ∧
    (s.admits m (aRt p.val) = true → ∃ t, exec (.rtSwapAll m p) s = .next t ∧
      t.port p.val = { s.port p.val with rtSwap := true, ctSwap := true } ∧ (∀ q, q ≠ p.val → t.port q = s.port q) ∧
      ((s.port p.val).rtSwap = false → (s.port p.val).ctSwap = false → t.regs = s.regs) ∧
      ((s.port p.val).rtSwap = true ∨ (s.port p.val).ctSwap = true →
        t.reg (fp p.val 2 0x18) = pageErrAfter (s.reg (fp p.val 2 0x18)) 0x58 .state m) ∧
      t = { s.routed t with regs := t.regs, ports := t.ports }) ∧
    ((s.port p.val).idle = false → exec (.tableSwapApply p) s = .next s) ∧
    ((s.port p.val).idle = true → ((s.port p.val).ctSwap = true ∨ (s.port p.val).rtSwap = true) →
      ∃ t, exec (.tableSwapApply p) s = .next t ∧ (t.port p.val).ctSwap = false ∧ (t.port p.val).rtSwap = false ∧
        (t.port p.val).ctA = (if (s.port p.val).ctSwap then (s.port p.val).ctS else (s.port p.val).ctA) ∧
        (t.port p.val).rtA = (if (s.port p.val).rtSwap then (s.port p.val).rtS else (s.port p.val).rtA) ∧
        (∀ q, q ≠ p.val → t.port q = s.port q) ∧ t = { s with ports := t.ports })

/-- WQ_APPLY, WQ_DISCARD, WQ_RETIRE, WQ_FENCE, WQ_ENTRY_START, WQ_ENTRY_DONE and WQ_ENTRY_TIMEOUT (R221 to R224): the entry at the index takes the
next state of its life and WQ_RESULT shows OK; an entry in another state stays and the result is STATE_FORBIDS; a ready entry goes to the
flash after WREN, and ends DONE, or FAILED on a fail bit or a timeout.
It says that `exec` completes with a next state for each of: wqApply, wqDiscard, wqRetire, wqFence, wqEntryStart, wqEntryDone,
wqEntryTimeout. -/
def Obligations.WriteQueueEntriesLiveByTheirStates : Prop :=
  ∀ (s : State) (p : Fin 16),
    (∀ m, s.admits m (aWq p.val) = true →
    (((s.port p.val).wqe (s.wqIdx p.val)).st = .captured → ((s.port p.val).wqe (s.wqIdx p.val)).type ≠ 3 →
      ((s.port p.val).wqe (s.wqIdx p.val)).commit = false → ∃ t, exec (.wqApply m p) s = .next t ∧
        ((t.port p.val).wqe (s.wqIdx p.val)).st = .applied ∧ Word.field (t.reg (fp p.val 2 0x70)) 31 24 = 0 ∧
        (∀ i, i ≠ s.wqIdx p.val → (t.port p.val).wqe i = (s.port p.val).wqe i) ∧ t = { s with regs := t.regs, ports := t.ports, cis := t.cis }) ∧
    (((s.port p.val).wqe (s.wqIdx p.val)).st ≠ .captured → ((s.port p.val).wqe (s.wqIdx p.val)).st ≠ .applied →
      ∃ t, exec (.wqApply m p) s = .next t ∧ exec (.wqDiscard m p) s = .next t ∧
        Word.field (t.reg (fp p.val 2 0x70)) 31 24 = 9 ∧ t = { s with regs := t.regs }) ∧
    ((((s.port p.val).wqe (s.wqIdx p.val)).st = .captured ∨ ((s.port p.val).wqe (s.wqIdx p.val)).st = .applied) →
      ((s.port p.val).wqe (s.wqIdx p.val)).type ≠ 3 → ∃ t, exec (.wqDiscard m p) s = .next t ∧
        ((t.port p.val).wqe (s.wqIdx p.val)).st = .discarded ∧ ((t.port p.val).wqe (s.wqIdx p.val)).result = stAborted ∧
        Word.field (t.reg (fp p.val 2 0x70)) 31 24 = 0 ∧ (∀ q, q ≠ p.val → t.port q = s.port q)) ∧
    (((s.port p.val).wqe (s.wqIdx p.val)).ended = true → ∃ t, exec (.wqRetire m p) s = .next t ∧
        (t.port p.val).wqe (s.wqIdx p.val) = WqEntry.reset ∧ Word.field (t.reg (fp p.val 2 0x70)) 31 24 = 0 ∧
        (∀ i, i ≠ s.wqIdx p.val → (t.port p.val).wqe i = (s.port p.val).wqe i) ∧ t = { s with regs := t.regs, ports := t.ports }) ∧
    ((s.port p.val).freeWqe = none → ∃ t, exec (.wqFence m p) s = .next t ∧ Word.field (t.reg (fp p.val 2 0x70)) 31 24 = 7 ∧
        t = { s with regs := t.regs }) ∧
    (∀ i, (s.port p.val).freeWqe = some i → ∃ t, exec (.wqFence m p) s = .next t ∧ Word.field (t.reg (fp p.val 2 0x70)) 31 24 = 0 ∧
        ((t.port p.val).wqe i).type = 3 ∧ (((t.port p.val).wqe i).st = .captured ∨ ((t.port p.val).wqe i).st = .done) ∧
        (t.port p.val).wqSeq = (s.port p.val).wqSeq + 1 ∧ t = { s with regs := t.regs, ports := t.ports })) ∧
    (∀ i : Fin 64, s.wqReady p.val i.val = true → ((s.port p.val).wqe i.val).commit = false → ∃ t, exec (.wqEntryStart p i) s = .next t ∧
        ((t.port p.val).wqe i.val).st = .running ∧
        t.outbox = s.outbox ++ [.flash p.val ((s.port p.val).wqe i.val).cs (((s.port p.val).wrenOp ((s.port p.val).wqe i.val).cs).getD 6).toNat 0 [] [],
          .flash p.val ((s.port p.val).wqe i.val).cs ((s.port p.val).wqe i.val).opcode.toNat ((s.port p.val).wqe i.val).addr [] ((s.port p.val).wqe i.val).data] ∧
        (∀ j, j ≠ i.val → (t.port p.val).wqe j = (s.port p.val).wqe j) ∧ t = { s with ports := t.ports, outbox := t.outbox }) ∧
    (∀ (i : Fin 64) (pf ef : Bool), s.pwr.resetOwed = false → ((s.port p.val).wqe i.val).st = .running → ((s.port p.val).wqe i.val).type ≠ 3 → ∃ t, exec (.wqEntryDone p i pf ef) s = .next t ∧
        ((t.port p.val).wqe i.val).st = (if pf || ef then WqSt.failed else WqSt.done) ∧
        ((t.port p.val).wqe i.val).result = (if pf || ef then stInternal else stOk) ∧ (∀ q, q ≠ p.val → t.port q = s.port q)) ∧
    (∀ i : Fin 64, s.pwr.resetOwed = false → ((s.port p.val).wqe i.val).st = .running → ((s.port p.val).wqe i.val).type ≠ 3 →
      ((s.port p.val).wqe i.val).since + 2 ^ ((s.port p.val).wqe i.val).timeoutLog ≤ s.clk →
      ∃ t, exec (.wqEntryTimeout p i) s = .next t ∧ ((t.port p.val).wqe i.val).st = .failed ∧ Word.field (t.reg (fp p.val 0 0xA8)) 3 0 = 6 ∧
        (∀ q, q ≠ p.val → t.port q = s.port q))

/-- BIND_WRITE, BIND_READ, BIND_LOAD, BIND_CONFIRM, BIND_UNBIND, TREE_NODE_READ, DEMAND_NODE_READ and TREE_NODE_UE (R240 to R244, R413): a binding goes from EMPTY through
BOUND, LOADING, LOADED to CONFIRMED by its commands, each refused elsewhere; while no master command runs and a lane hashes for the verifiers, a node is read, and one that
does not hash to its parent's entry fails the load; a node with an uncorrectable error is not resident any more.
It says that `exec` completes with a next state for each of: bindWrite, bindLoad, bindConfirm, bindRead, bindUnbind, treeNodeRead,
demandNodeRead, treeNodeUe. -/
def Obligations.BindingsLoadOnlyNodesThatHashToTheirParents : Prop :=
  ∀ (s : State) (m : Master) (p : Fin 16),
    (s.admits m (aBind p.val) = true →
      ((s.curBind p.val).st = .empty → s.bindCheck p.val (s.bindRegs p.val) = 0 → ∃ t, exec (.bindWrite m p) s = .next t ∧
        t.curBind p.val = s.bindRegs p.val ∧ Word.field (t.reg (fp p.val 3 0x88)) 7 4 = 0 ∧
        (∀ b, b ≠ s.bIdx p.val → (t.port p.val).bind b = (s.port p.val).bind b) ∧ t = { s with regs := t.regs, ports := t.ports }) ∧
      ((s.curBind p.val).st = .confirmed → ∃ t, exec (.bindWrite m p) s = .next t ∧ exec (.bindLoad m p) s = .next t ∧
        exec (.bindConfirm m p) s = .next t ∧ t.ports = s.ports ∧
        t.reg (fp p.val 3 0x18) = pageErrAfter (s.reg (fp p.val 3 0x18)) 0x84 .state m ∧ t = { s.routed t with regs := t.regs }) ∧
      (∃ t, exec (.bindRead m p) s = .next t ∧ t.reg (fp p.val 3 0x54) = (s.curBind p.val).cfg ∧ t.reg (fp p.val 3 0x58) = (s.curBind p.val).body ∧
        t.reg (fp p.val 3 0x5C) = (s.curBind p.val).len ∧ t.reg (fp p.val 3 0x60) = (s.curBind p.val).tree ∧ t = { s with regs := t.regs }) ∧
      ((s.curBind p.val).st = .bound → (s.port p.val).stopped = false → s.pinnedNodes + s.pinsDue + (s.curBind p.val).pinCount + 64 ≤ 4096 →
        exec (.bindLoad m p) s = .next (s.modPort p.val (fun q => q.setBind (s.bIdx p.val)
          { s.curBind p.val with st := .loading, nodes := 0, reread := [] }))) ∧
      ((s.curBind p.val).st = .loaded → ∃ t, exec (.bindConfirm m p) s = .next t ∧ (t.curBind p.val).st = .confirmed ∧
        (t.curBind p.val).root = (s.curBind p.val).root ∧ (t.curBind p.val).fullOk = false ∧
        ((s.port p.val).dev = none → ((s.port p.val).full.run && (s.port p.val).full.binds.isEmpty) = false →
          (∀ b, b ≠ s.bIdx p.val → (t.port p.val).bind b = (s.port p.val).bind b) ∧ t = { s with ports := t.ports, meas := t.meas })) ∧
      (∃ t, exec (.bindUnbind m p) s = .next t ∧ t.curBind p.val = Binding.reset ∧
        (∀ n ∈ t.cache, ¬(n.port = p.val ∧ n.bind = s.bIdx p.val)) ∧
        ((s.port p.val).dev = none → (s.port p.val).full.run = false →
          ∀ b, b ≠ s.bIdx p.val → (t.port p.val).bind b = (s.port p.val).bind b))) ∧
    (∀ (b : Fin 8) (node : Bytes), (s.permOn = false ∨ s.readable p.val ((s.port p.val).bind b.val).cs = false) → exec (.treeNodeRead p b node) s = .next s ∧
      ∀ l, exec (.demandNodeRead p b l) s = .next s) ∧
    (∀ (b : Fin 8) (node : Bytes) (l j : Nat), s.permOn = true → s.readable p.val ((s.port p.val).bind b.val).cs = true →
      ((s.port p.val).bind b.val).st = .loading → ((s.port p.val).bind b.val).reread = [] →
      ((s.port p.val).bind b.val).pinned[((s.port p.val).bind b.val).nodes]? = some (l, j) → ∃ t, exec (.treeNodeRead p b node) s = .next t ∧
        (s.nodeOk p.val b.val l j node = true → ((t.port p.val).bind b.val).nodes = ((s.port p.val).bind b.val).nodes + 1 ∧
          { port := p.val, bind := b.val, level := l, idx := j, pinned := true, bytes := node : CNode } ∈ t.cache ∧
          ((s.port p.val).dev = none → ((s.port p.val).full.run && (s.port p.val).full.binds.isEmpty) = false →
            t = { s with ports := t.ports, cache := t.cache })) ∧
        (s.nodeOk p.val b.val l j node = false → ((t.port p.val).bind b.val).st = .failed ∧
          (∀ n ∈ t.cache, ¬(n.port = p.val ∧ n.bind = b.val)) ∧
          ((s.port p.val).dev = none → t.evt (evPort p.val 0) = (s.evt (evPort p.val 0)).bump))) ∧
    (∀ (b : Fin 8) (l j : Nat) (n : CNode), findNode s.cache p.val b.val l j = some n → ∃ t, exec (.treeNodeUe p b l j) s = .next t ∧
      t.cache = s.cache.erase n ∧ t.evt (evSys 8) = (s.evt (evSys 8)).bump ∧
      (n.pinned = false → t = { s.routed t with cache := t.cache })) ∧
    (∀ (b : Fin 8) (c : Check) (l j : Nat) (node : Bytes), s.permOn = true →
      s.readable p.val ((s.port p.val).bind b.val).cs = true →
      (s.port p.val).checks = [c] → (s.port p.val).findBind c.cls c.cs c.blk = some (some b.val) → s.chkReady p.val c = false →
      s.missing p.val b.val (c.blk - ((s.port p.val).bind b.val).fblock) = [(l, j)] → s.nodeOk p.val b.val l j node = true →
      ∃ t, exec (.demandNodeRead p b [node]) s = .next t ∧
        { port := p.val, bind := b.val, level := l, idx := j, pinned := false, bytes := node : CNode } ∈ t.cache ∧
        ((s.port p.val).dev = none → ((s.port p.val).full.run && (s.port p.val).full.binds.isEmpty) = false → t = { s with cache := t.cache }))

/-- FETCH_CHECK_DONE, STITCH_TIMEOUT, VER_RESUME, SCRUB_RESTART, SUBST_SET_CMD, SUBST_CLEAR_CMD and COV_RESET (R248, R253 to R257, R262 to R264, R275): a block whose
leaf differs from its entry in the tree sets VERIFY_FAIL and, where its region says CONTAIN, contains the port; one that equals it sets
its check-map bit; substitution changes only while the port is held.
It says that `exec` completes with a next state for each of: fetchCheckDone, stitchTimeout, verResume, scrubRestart, substSetCmd,
substClearCmd, covReset. -/
def Obligations.FetchedBlocksAreCheckedAndFailuresContained : Prop :=
  ∀ (s : State) (p : Fin 16),
    (s.permOn = false → exec (.fetchCheckDone p) s = .next s) ∧
    (∀ (c : Check) (b : Nat) (ok : Bool), s.permOn = true → (s.port p.val).checks.find? (s.chkReady p.val) = some c → s.verdict p.val c = some (b, ok) →
      c.src = .fetch → ∃ t, exec (.fetchCheckDone p) s = .next t ∧ (t.port p.val).checks = (s.port p.val).checks.erase c ∧
        (t.port p.val).chkBit c.cs c.blk = (ok && decide (c.blk < 65536)) ∧
        (ok = false → t.evt (evPort p.val 0) = (s.evt (evPort p.val 0)).bump ∧ t.reg (fp p.val 3 0xB0) = BitVec.ofNat 32 (c.blk * 4096) ∧
          (c.region.isSome = true → c.action = 1 → (t.port p.val).contained = true ∧ (t.port p.val).active = none)) ∧
        (ok = true → t = { s with ports := t.ports, cache := t.cache, dgl := t.dgl, regs := t.regs } ∧ s.laneRegs t ∧ (∀ n, n ∈ t.cache ↔ n ∈ s.cache) ∧ (t.port p.val).contained = (s.port p.val).contained)) ∧
    (∀ e, (s.port p.val).stitch.isOpen = true → (s.port p.val).stitch.ended = some e → e + 64 ≤ s.clk →
      ∃ t, exec (.stitchTimeout p) s = .next t ∧ (t.port p.val).stitch = Stitch.idle ∧ (∀ q, q ≠ p.val → t.port q = s.port q) ∧
        t = { s.recorded t with ports := t.ports }) ∧
    (∀ m, s.admits m (fp p.val 3 0x48) = true →
      (s.lineOf p.val = none → exec (.verResume m p) s = .next (s.modPort p.val (fun q => { q with contained := false }))) ∧
      ((s.lineOf p.val).isSome = true → ∃ t, exec (.verResume m p) s = .next t ∧ t.ports = s.ports ∧ t = { s.routed t with regs := t.regs }) ∧
      ((s.port p.val).stopped = false → s.scrubOn p.val = true → ∃ t, exec (.scrubRestart m p) s = .next t ∧
        (t.port p.val).scrub.run = ((s.port p.val).scrubNext 0 0).isSome ∧ (∀ x, (s.port p.val).scrubNext 0 0 = some x →
          (t.port p.val).scrub.region = x.1 ∧ (t.port p.val).scrub.off = x.2) ∧ t = { s with ports := t.ports })) ∧
    (∀ m v, s.admits m (fp p.val 3 0x4C) = true → Word.bit v 8 = false → Word.bit v 9 = false →
      (s.portHeld p.val = true → ∃ t, exec (.substSetCmd m p v) s = .next t ∧
        (∀ i, i < 256 → (t.port p.val).sub i = ((s.port p.val).sub i || ((s.port p.val).substSet (v.toNat % 64) false).contains i)) ∧
        t = { s with ports := t.ports, meas := t.meas }) ∧
      (s.portHeld p.val = true → ∃ t, exec (.substClearCmd m p v) s = .next t ∧
        (∀ i, i < 256 → (t.port p.val).sub i = ((s.port p.val).sub i && !(rgClass ((s.port p.val).rg i) == v.toNat % 64))) ∧
        t = { s with ports := t.ports, meas := t.meas }) ∧
      (s.portHeld p.val = false → ∃ t, exec (.substSetCmd m p v) s = .next t ∧ exec (.substClearCmd m p v) s = .next t ∧
        t.ports = s.ports ∧ t = { s.routed t with regs := t.regs })) ∧
    (∀ m, s.admits m (fp p.val 3 0x114) = true → ∃ t, exec (.covReset m p) s = .next t ∧
      (t.port p.val).covOf (Word.field (s.reg (fp p.val 3 0xF8)) 7 0) = Cov.reset ∧
      (∀ r, r ≠ Word.field (s.reg (fp p.val 3 0xF8)) 7 0 → (t.port p.val).covOf r = (s.port p.val).covOf r) ∧ t = { s with ports := t.ports })

/-- PW_WRITE, PW_READ, PW_LOAD, PW_UNLOAD, WINDOW_BLOCK_READ and WINDOW_STATE_APPLY (R179, R214, R236, R253, R265, R268 to R270): a window goes
from EMPTY through WRITTEN and LOADING to LOADED; a WRITE that its checks reject leaves it but for its REJECT, one in another state is
recorded as STATE; a block that equals its leaf fills its frame, one that differs fails the load as VERIFY_FAIL; a read that fails once is
tried again, and the second failure is a READ_FAULT; changes of state take place at idle moments only.
It says that `exec` completes with a next state for each of: pwWrite, pwRead, pwLoad, pwUnload, windowBlockRead, windowStateApply. -/
def Obligations.WindowsLoadOnlyBlocksThatEqualTheirLeaves : Prop :=
  ∀ (s : State) (m : Master) (p : Fin 16),
    (s.admits m (aPw p.val) = true →
      (((s.curWin p.val).st = .empty ∨ (s.curWin p.val).st = .written ∨ (s.curWin p.val).st = .failed) → ∃ t, exec (.pwWrite m p) s = .next t ∧
        (s.winCheck p.val (s.wIdx p.val) { Window.reset with st := .written, w0 := s.reg (fp p.val 3 0x94), w1 := s.reg (fp p.val 3 0x98) } = 0 →
          t.curWin p.val = { Window.reset with st := .written, w0 := s.reg (fp p.val 3 0x94), w1 := s.reg (fp p.val 3 0x98) }) ∧
        (∀ code, code ≠ 0 →
          s.winCheck p.val (s.wIdx p.val) { Window.reset with st := .written, w0 := s.reg (fp p.val 3 0x94), w1 := s.reg (fp p.val 3 0x98) } = code →
          t.curWin p.val = { s.curWin p.val with reject := code }) ∧
        (∀ w, w ≠ s.wIdx p.val → (t.port p.val).win w = (s.port p.val).win w) ∧ (∀ q, q ≠ p.val → t.port q = s.port q) ∧
        t = { s with ports := t.ports }) ∧
      (((s.curWin p.val).st = .loading ∨ (s.curWin p.val).st = .loaded) → ∃ t, exec (.pwWrite m p) s = .next t ∧ t.ports = s.ports ∧
        t.reg (fp p.val 3 0x18) = pageErrAfter (s.reg (fp p.val 3 0x18)) 0x9C .state m ∧ t = { s.routed t with regs := t.regs }) ∧
      (∃ t, exec (.pwRead m p) s = .next t ∧ t.reg (fp p.val 3 0x94) = (s.curWin p.val).w0 ∧ t.reg (fp p.val 3 0x98) = (s.curWin p.val).w1 ∧
        (∀ a, a ≠ fp p.val 3 0x94 → a ≠ fp p.val 3 0x98 → t.reg a = s.reg a) ∧ t = { s with regs := t.regs }) ∧
      (((s.curWin p.val).st = .written ∨ (s.curWin p.val).st = .failed) → (s.port p.val).stopped = false →
        exec (.pwLoad m p) s = .next (s.modPort p.val (fun q =>
          q.setWin (s.wIdx p.val) { s.curWin p.val with st := .loading, next := 0, retry := false, failBlk := 0 }))) ∧
      (((s.curWin p.val).st = .written ∨ (s.curWin p.val).st = .loaded ∨ (s.curWin p.val).st = .failed) →
        exec (.pwUnload m p) s = .next (s.modPort p.val (fun q => q.setWin (s.wIdx p.val) { s.curWin p.val with pend := some .empty })))) ∧
    (∀ (w : Fin 64) (x : Window), (s.port p.val).win w.val = x → x.st = .loading → x.pend = none → (s.port p.val).dev = none →
      ((s.permOn = false ∨ s.readable p.val (w.val / 32) = false) → ∀ d, exec (.windowBlockRead p w d) s = .next s) ∧
      (s.permOn = true → s.readable p.val (w.val / 32) = true →
        (x.retry = false → exec (.windowBlockRead p w none) s = .next (s.modPort p.val (fun q => q.setWin w.val { x with retry := true }))) ∧
        (x.retry = true → ∃ t, exec (.windowBlockRead p w none) s = .next t ∧ ((t.port p.val).win w.val).st = .failed ∧
          ((t.port p.val).win w.val).failBlk = x.next ∧ Word.field (t.reg (fp p.val 3 0xAC)) 3 0 = 4 ∧
          t.evt (evPort p.val 0) = (s.evt (evPort p.val 0)).bump) ∧
        (∀ data c, (s.port p.val).devCheck .load ((s.port p.val).regionAt ((s.port p.val).bind (Word.field x.w1 18 16)).cls (w.val / 32)
            (Word.field x.w0 15 0 + x.next)) ((s.port p.val).bind (Word.field x.w1 18 16)).cls (w.val / 32) (Word.field x.w0 15 0 + x.next)
            w.val data = c →
          (s.chkReady p.val c = false → ∃ t, exec (.windowBlockRead p w (some data)) s = .next t ∧ (t.port p.val).dev = some c ∧
            (t.port p.val).win w.val = x ∧ t = { s with ports := t.ports, dgl := t.dgl }) ∧
          (∀ b ok, s.chkReady p.val c = true → s.verdict p.val c = some (b, ok) → ∃ t, exec (.windowBlockRead p w (some data)) s = .next t ∧
            (t.port p.val).chkBit (w.val / 32) (Word.field x.w0 15 0 + x.next) = (ok && decide (Word.field x.w0 15 0 + x.next < 65536)) ∧
            (ok = true → t.frame (Word.field x.w1 9 0 + x.next) = data ∧ (t.port p.val).win w.val = { x with
                next := x.next + 1, retry := false, pend := if x.next + 1 = Word.field x.w0 24 16 then some .loaded else none } ∧
              t = { s with ports := t.ports, cache := t.cache, frames := t.frames, dgl := t.dgl, regs := t.regs } ∧ s.laneRegs t) ∧
            (ok = false → ((t.port p.val).win w.val).st = .failed ∧ ((t.port p.val).win w.val).failBlk = x.next ∧ t.frames = s.frames ∧
              Word.field (t.reg (fp p.val 3 0xAC)) 3 0 = 1 ∧ t.evt (evPort p.val 0) = (s.evt (evPort p.val 0)).bump))))) ∧
    (∀ w : Fin 64, (s.port p.val).idle = true →
      (((s.port p.val).win w.val).pend = some .loaded → ∃ t, exec (.windowStateApply p w) s = .next t ∧
        (t.port p.val).win w.val = { (s.port p.val).win w.val with st := .loaded, pend := none } ∧
        t.evt (evPort p.val 4) = (s.evt (evPort p.val 4)).bump ∧ t = { s.routed t with ports := t.ports }) ∧
      (((s.port p.val).win w.val).pend = some .empty → exec (.windowStateApply p w) s = .next (s.modPort p.val (fun q =>
        q.setWin w.val { Window.reset with reject := ((s.port p.val).win w.val).reject })))) ∧
    (∀ w : Fin 64, (s.port p.val).idle = false → exec (.windowStateApply p w) s = .next s)

/-- SCRUB_BLOCK_READ, FULLCHECK and FULLCHECK_BLOCK_READ (R179, R253, R254, R264, R265, R267, R273, R274): where no lease and no master command
stand in the way, the scrubber and a full check read their next block; one that equals its leaf sets its check-map bit and the pass goes on,
the last block of a full check that found no failure marking its binding; one that differs is a VERIFY_FAIL; a read that fails once is
tried again, and the second failure is a READ_FAULT.
It says that `exec` completes with a next state for each of: scrubBlockRead, fullcheck, fullcheckBlockRead. -/
def Obligations.ScrubsAndFullChecksReadBlocksTwice : Prop :=
  ∀ (s : State) (m : Master) (p : Fin 16),
    (∀ r o f, s.scrubOn p.val = true → (s.port p.val).scrub.run = true → (s.port p.val).dev = none → s.pwr.holdup = false →
      (s.port p.val).scrubNext (s.port p.val).scrub.region (s.port p.val).scrub.off = some (r, o) →
      (s.port p.val).mapBase r (rgCs ((s.port p.val).rg r)) (rgCs ((s.port p.val).rg r)) = f →
      (s.permOn = false ∨ (s.port p.val).granted f.1 = true ∨ s.readable p.val f.1 = false → ∀ d, exec (.scrubBlockRead p d) s = .next s) ∧
      (s.permOn = true → (s.port p.val).granted f.1 = false → s.readable p.val f.1 = true →
        ((s.port p.val).scrub.retry = false → ∃ t, exec (.scrubBlockRead p none) s = .next t ∧
          (t.port p.val).scrub = { (s.port p.val).scrub with region := r, off := o, retry := true } ∧ t = { s with ports := t.ports }) ∧
        ((s.port p.val).scrub.retry = true → ∃ t, exec (.scrubBlockRead p none) s = .next t ∧ (t.port p.val).scrub.retry = false ∧
          (t.port p.val).chkBit f.1 (f.2 + o) = false ∧ Word.field (t.reg (fp p.val 3 0xAC)) 3 0 = 4 ∧
          t.evt (evPort p.val 0) = (s.evt (evPort p.val 0)).bump) ∧
        (∀ data c, (s.port p.val).devCheck .scrub (some r) (rgClass ((s.port p.val).rg r)) f.1 (f.2 + o) 0 data = c →
          (s.chkReady p.val c = false → ∃ t, exec (.scrubBlockRead p (some data)) s = .next t ∧ (t.port p.val).dev = some c ∧
            t = { s with ports := t.ports, dgl := t.dgl }) ∧
          (∀ b ok, s.chkReady p.val c = true → s.verdict p.val c = some (b, ok) → ∃ t, exec (.scrubBlockRead p (some data)) s = .next t ∧
            (t.port p.val).chkBit f.1 (f.2 + o) = (ok && decide (f.2 + o < 65536)) ∧
            (ok = true → ∀ r' o', (s.port p.val).scrubNext r (o + 1) = some (r', o') →
              (t.port p.val).scrub = { (s.port p.val).scrub with region := r', off := o', any := true, retry := false } ∧
              (t.port p.val).covOf r = { (s.port p.val).covOf r with scrub := satInc ((s.port p.val).covOf r).scrub } ∧
              t = { s with ports := t.ports, cache := t.cache, dgl := t.dgl, regs := t.regs } ∧ s.laneRegs t) ∧
            (ok = false → Word.field (t.reg (fp p.val 3 0xAC)) 3 0 = 1 ∧ t.evt (evPort p.val 0) = (s.evt (evPort p.val 0)).bump))))) ∧
    (s.admits m (fp p.val 3 0x48) = true → (s.port p.val).full.run = false → (s.port p.val).stopped = false →
      ∃ t, exec (.fullcheck m p) s = .next t ∧
        (∀ l, l = (List.range 8).filter (fun b => ((s.port p.val).bind b).st == .confirmed && ((s.port p.val).bind b).full) →
          (l ≠ [] → t = s.modPort p.val (fun q => { q with full := { run := true, binds := l, blk := 0, failed := [], all := l, retry := false } })) ∧
          (l = [] → (t.port p.val).full.run = false ∧ t.evt (evPort p.val 4) = (s.evt (evPort p.val 4)).bump))) ∧
    (s.admits m (fp p.val 3 0x48) = true → ((s.port p.val).full.run = true ∨ (s.port p.val).stopped = true) → ∃ t, exec (.fullcheck m p) s = .next t ∧
      t.ports = s.ports ∧ t.reg (fp p.val 3 0x18) = pageErrAfter (s.reg (fp p.val 3 0x18)) 0x48 .state m ∧ t = { s.routed t with regs := t.regs }) ∧
    (∀ b rest x, (s.port p.val).full.run = true → (s.port p.val).full.binds = b :: rest → (s.port p.val).bind b = x → (s.port p.val).dev = none →
      s.pwr.holdup = false →
      (s.permOn = false ∨ (s.port p.val).granted x.cs = true ∨ s.readable p.val x.cs = false → ∀ d, exec (.fullcheckBlockRead p d) s = .next s) ∧
      (s.permOn = true → (s.port p.val).granted x.cs = false → s.readable p.val x.cs = true →
        ((s.port p.val).full.retry = false →
          exec (.fullcheckBlockRead p none) s = .next (s.modPort p.val (fun q => { q with full := { q.full with retry := true } }))) ∧
        ((s.port p.val).full.retry = true → (s.port p.val).full.blk + 1 < x.nblk → ∃ t, exec (.fullcheckBlockRead p none) s = .next t ∧
          (t.port p.val).full = { (s.port p.val).full with blk := (s.port p.val).full.blk + 1, failed := b :: (s.port p.val).full.failed, retry := false } ∧
          Word.field (t.reg (fp p.val 3 0xAC)) 3 0 = 4 ∧ t.evt (evPort p.val 0) = (s.evt (evPort p.val 0)).bump) ∧
        (∀ data c b' ok, (s.port p.val).devCheck .full ((s.port p.val).regionAt x.cls x.cs (x.fblock + (s.port p.val).full.blk)) x.cls x.cs
            (x.fblock + (s.port p.val).full.blk) 0 data = c → s.chkReady p.val c = true → s.verdict p.val c = some (b', ok) →
          ∃ t, exec (.fullcheckBlockRead p (some data)) s = .next t ∧
            (t.port p.val).chkBit x.cs (x.fblock + (s.port p.val).full.blk) = (ok && decide (x.fblock + (s.port p.val).full.blk < 65536)) ∧
            ((s.port p.val).full.blk + 1 < x.nblk → (t.port p.val).full = { (s.port p.val).full with
              blk := (s.port p.val).full.blk + 1, failed := if ok then (s.port p.val).full.failed else b :: (s.port p.val).full.failed, retry := false }) ∧
            (ok = true → (s.port p.val).full.blk + 1 < x.nblk →
              t = { s with ports := t.ports, cache := t.cache, dgl := t.dgl, regs := t.regs } ∧ s.laneRegs t) ∧
            (ok = true → x.nblk ≤ (s.port p.val).full.blk + 1 → rest = [] → (t.port p.val).full.run = false ∧
              t.evt (evPort p.val 4) = (s.evt (evPort p.val 4)).bump ∧
              (x.st = .confirmed → b ∈ (s.port p.val).full.all → b ∉ (s.port p.val).full.failed → ((t.port p.val).bind b).fullOk = true)) ∧
            (ok = false → t.evt (evPort p.val 0) = (s.evt (evPort p.val 0)).bump))))

/-! ### Digest contexts, jobs and lanes -/

/-- DIGEST_JOB and DIGEST_DISCARD (R281, R285 to R289, R301): a job that fails a check completes with its code and runs nothing; a START takes
the lowest free context for its issuer and joins the tail of the ready list, a job that goes on joins it on the context that it names; a
DISCARD with nothing pending on its context frees it at once.
It says that `exec` completes with a next state for each of: digestJob, digestDiscard. -/
def Obligations.DigestJobsAreCheckedAndQueued : Prop :=
  ∀ (s : State) (src : JobSrc) (d : Desc), s.takesJob src d 0x10 = true →
    ((dDiscard d = false ∨ dStart d = true) →
      (s.cel.tampered = true → exec (.digestJob src d) s = .next ((s.take src).complete src 0x10 stTampered 0 0)) ∧
      (s.cel.tampered = false → digShape d ≠ stOk →
        exec (.digestJob src d) s = .next ((s.take src).complete src 0x10 (digShape d) 0 0)) ∧
      (s.cel.tampered = false → digShape d = stOk → dStart d = true →
        (s.ctxAlloc src.issuer = none → exec (.digestJob src d) s = .next ((s.take src).complete src 0x10 stBusy 0 0)) ∧
        (∀ i, s.ctxAlloc src.issuer = some i → s.digKey src.issuer d = stOk → ∃ t, exec (.digestJob src d) s = .next t ∧
          t.dctx i = { DCtx.reset with st := .queued, alg := dAlg d, gen := (s.dctx i).gen, owner := src.issuer, outLen := dOutLen d,
                                       key := if keyedAlg (dAlg d) then dKey d else 0,
                                       last := keyedAlg (dAlg d) && (s.takeUse (dKey d)).2 } ∧
          (∀ k, k ≠ i → t.dctx k = s.dctx k) ∧ t.dgl.ready = s.dgl.ready ++ [s.djob src d i false] ∧
          t.cel = (if keyedAlg (dAlg d) then (s.takeUse (dKey d)).1.cel else s.cel) ∧
          t = { s.take src with dgl := t.dgl, cel := t.cel })) ∧
      (s.cel.tampered = false → digShape d = stOk → dStart d = false →
        (s.ctxCheck src.issuer (dCtx d) (some (dAlg d)) ≠ stOk → exec (.digestJob src d) s =
          .next ((s.take src).complete src 0x10 (s.ctxCheck src.issuer (dCtx d) (some (dAlg d))) 0 0)) ∧
        (s.ctxCheck src.issuer (dCtx d) (some (dAlg d)) = stOk → s.digKey src.issuer d = stOk →
          (s.dctx (dCtx d % 256)).st ≠ .poisoned → ∃ t, exec (.digestJob src d) s = .next t ∧
            t.dgl.ready = s.dgl.ready ++ [s.djob src d (dCtx d % 256) false] ∧
            (∀ k, (t.dctx k).msg = (s.dctx k).msg ∧ (t.dctx k).owner = (s.dctx k).owner) ∧ t = { s.take src with dgl := t.dgl }) ∧
        (s.ctxCheck src.issuer (dCtx d) (some (dAlg d)) = stOk → (s.dctx (dCtx d % 256)).st = .poisoned → s.ctxRuns (dCtx d % 256) = false →
          (∀ j ∈ s.dgl.ready, j.ctx ≠ dCtx d % 256) → exec (.digestJob src d) s =
            .next ((if dFinal d then (s.take src).ctxFree (dCtx d % 256) else s.take src).complete src 0x10 stAborted 0 0)))) ∧
    (dDiscard d = true → dStart d = false →
      (s.cel.tampered = true → exec (.digestDiscard src d) s = .next ((s.take src).complete src 0x10 stTampered 0 0)) ∧
      (s.cel.tampered = false → s.ctxCheck src.issuer (dCtx d) none ≠ stOk → exec (.digestDiscard src d) s =
        .next ((s.take src).complete src 0x10 (s.ctxCheck src.issuer (dCtx d) none) 0 0)) ∧
      (s.cel.tampered = false → s.ctxCheck src.issuer (dCtx d) none = stOk → s.ctxRuns (dCtx d % 256) = false →
        (∀ j ∈ s.dgl.ready, j.ctx ≠ dCtx d % 256) → exec (.digestDiscard src d) s =
          .next (((s.take src).ctxFree (dCtx d % 256)).complete src 0x10 stOk 0 0)))

/-- DIGEST_JOB_START, LANE_PREEMPT, DIGEST_JOB_DONE and CONTEXT_SRAM_UE (R251, R284, R285, R287, R289 to R294, R299 to R301): a free lane takes,
of the ready jobs that it may run, one of the highest priority; a lane that is marked gives way to a job of at least the same priority,
one that may no longer run its job gives it up at a block boundary of its message, and the suspended job waits at the head of the ready list; a
job that ends adds the data that it read to its context, or poisons it when the data was short or its key could not be read; an uncorrectable error poisons a general context, and drops what a
permanent one was hashing; one in the checker's contexts refuses the release with INTERNAL.
It says that `exec` completes with a next state for each of: digestJobStart, lanePreempt, digestJobDone, contextSramUe. -/
def Obligations.LanesRunTheReadyJobOfHighestPriority : Prop :=
  ∀ (s : State) (n : Fin 16),
    ((s.lane n.val).job = none →
      ((∀ x ∈ s.eligible, s.mayRun n.val x = false) → exec (.digestJobStart n) s = .next s) ∧
      ((∃ x ∈ s.eligible, s.mayRun n.val x = true) → ∃ j ∈ s.eligible, s.mayRun n.val j = true ∧
        (∀ x ∈ s.eligible, s.mayRun n.val x = true → x.prio ≤ j.prio) ∧ ((j.kind = .perm ∨ (s.dctx j.ctx).st ≠ .poisoned) →
          ∃ t, exec (.digestJobStart n) s = .next t ∧ (t.lane n.val).job = some { j with suspended := false, ranOn := some n.val } ∧
            t.dgl.ready = s.dgl.ready.erase j ∧ (j.kind ≠ .perm → (t.dctx j.ctx).st = .running) ∧
            (∀ k, k ≠ n.val → (t.lane k).job = (s.lane k).job) ∧ t = { s with dgl := t.dgl }))) ∧
    (∀ j, (s.lane n.val).job = some j →
      (exec (.digestJobStart n) s = .next s) ∧
      ((s.lane n.val).marked = none → s.laneKeeps n.val j = true → exec (.lanePreempt n) s = .next s) ∧
      ((s.laneOn n.val = false ∨ s.bitOf (pg (0x40 + n.val) 0x40) 1 = true) → 34 ≤ j.ctx → j.abort = none → j.discard = false →
        (s.dctx j.ctx).st = .running → j.kind ≠ .perm → (∀ k, k < 16 → k ≠ n.val → ∀ x, (s.lane k).job = some x → x.ctx ≠ j.ctx) →
        ∃ t k, exec (.lanePreempt n) s = .next t ∧ (t.lane n.val).job = none ∧ k ≤ j.dataLen - j.absorbed ∧
          (k = j.dataLen - j.absorbed ∨ ((s.dctx j.ctx).msg.length + j.absorbed + k) % algBlock j.alg = 0) ∧
          t.dgl.ready = { j with suspended := true, absorbed := j.absorbed + k } :: s.dgl.ready ∧ (t.dctx j.ctx).st = .suspended ∧
          t.reg (pg (0x40 + n.val) 0x54) = satInc (s.reg (pg (0x40 + n.val) 0x54)) ∧
          t = { s with regs := t.regs, dgl := t.dgl, freeCtr := t.freeCtr }) ∧
      ((s.lane n.val).marked.isSome = true → s.laneKeeps n.val j = true → 34 ≤ j.ctx → j.abort = none → j.discard = false → j.kind ≠ .perm →
        (s.dctx j.ctx).st = .running → (∀ x ∈ s.dgl.ready, (s.dctx x.ctx).st ≠ .poisoned) →
        (∀ k, k < 16 → k ≠ n.val → ∀ x, (s.lane k).job = some x → x.ctx ≠ j.ctx) →
        ∃ t k, exec (.lanePreempt n) s = .next t ∧ (t.lane n.val).job = some k ∧ j.prio ≤ k.prio ∧
          t.reg (pg (0x40 + n.val) 0x54) = satInc (s.reg (pg (0x40 + n.val) 0x54)) ∧
          t = { s with regs := t.regs, dgl := t.dgl, freeCtr := t.freeCtr })) ∧
    (∀ io, s.laneOn n.val = false → exec (.digestJobDone n io) s = .next s) ∧
    (∀ (j : DJob) (io : JobIo), (s.lane n.val).job = some j → s.laneOn n.val = true →
      (j.kind = .perm → exec (.digestJobDone n io) s = .next ((s.setLane n.val Lane.reset).laneAbsorb n.val (j.dataLen - j.absorbed))) ∧
      (j.kind = .user → s.memOn j.src.issuer = true → (∀ x ∈ s.dgl.ready, x.ctx ≠ j.ctx) →
        (j.abort = none → j.final = false → (s.dctx j.ctx).st ≠ .poisoned → keyedAlg j.alg = true → io.keyFault = true →
          ∃ t, exec (.digestJobDone n io) s = .next t ∧ (t.lane n.val).job = none ∧ t.dctx j.ctx = { s.dctx j.ctx with st := .poisoned } ∧
            ∀ k, k ≠ j.ctx → t.dctx k = s.dctx k) ∧
        (j.abort = none → j.final = false → (s.dctx j.ctx).st ≠ .poisoned → (keyedAlg j.alg && io.keyFault) = false → ∀ cust, s.jobCust j io = some cust →
          ∃ t, exec (.digestJobDone n io) s = .next t ∧ (t.lane n.val).job = none ∧ t.dgl.ready = s.dgl.ready ∧
            ((s.jobData j io).short = true → t.dctx j.ctx = { s.dctx j.ctx with st := .poisoned }) ∧
            ((s.jobData j io).short = false → (t.dctx j.ctx).st = .idle ∧ (t.dctx j.ctx).msg = (s.dctx j.ctx).msg ++ (s.jobData j io).bytes ∧
              (j.start = true → (t.dctx j.ctx).cust = cust)) ∧
            (∀ k, k ≠ j.ctx → t.dctx k = s.dctx k) ∧ t.cel = s.cel) ∧
        (j.final = true → (s.dctx j.ctx).st ≠ .free → ∃ t, exec (.digestJobDone n io) s = .next t ∧
          (t.lane n.val).job = none ∧ (t.dctx j.ctx).st = .free ∧ (t.dctx j.ctx).gen = ((s.dctx j.ctx).gen + 1) % 256 ∧
          ((s.dctx j.ctx).last = false → ∀ k, k ≠ j.ctx → t.dctx k = s.dctx k)))) ∧
    (∀ i : Fin 256, 34 ≤ i.val → (s.dctx i.val).st ≠ .free → (s.ctxRuns i.val = true ∨ ∀ x ∈ s.dgl.ready, x.ctx ≠ i.val) →
      ∃ t, exec (.contextSramUe i) s = .next t ∧ (t.dctx i.val).st = .poisoned ∧ (∀ k, k ≠ i.val → t.dctx k = s.dctx k) ∧
        (∀ k x, (t.lane k).job = some x → x.ctx = i.val → x.abort = some stInternal) ∧
        t.evt (evSys 8) = (s.evt (evSys 8)).bump ∧ t = { s.routed t with dgl := t.dgl }) ∧
    (∀ i : Fin 256, i.val < 34 → (i.val < 32 ∨ s.boot.rel ≠ .checking) → ∃ t, exec (.contextSramUe i) s = .next t ∧ (∀ k x, (t.lane k).job = some x → x.ctx ≠ i.val) ∧
      (∀ x ∈ t.dgl.ready, x.ctx ≠ i.val) ∧ (i.val < 32 → i.val % 2 = 0 → (t.port (i.val / 2)).stitch.isOpen = false) ∧
      (i.val < 32 → i.val % 2 = 1 → (t.port (i.val / 2)).dev = none) ∧ t.evt (evSys 8) = (s.evt (evSys 8)).bump ∧
      t = { s.recorded t with dgl := t.dgl, ports := t.ports, regs := t.regs, freeCtr := t.freeCtr } ∧ s.laneRegs t) ∧
    (∀ i : Fin 256, 32 ≤ i.val → i.val < 34 → s.boot.rel = .checking → exec (.contextSramUe i) s = .next ((s.ctxUe i.val).relRefuse stInternal 0))

/-! ### Cistern: the line, its position, commits and timers -/

/-- HALF_CYCLE_BOUNDARY, ERA_WRAP, SEED_APPLY, ZC_PULSE and ZC_B_PULSE (R303, R304, R306, R309 to R312): at a wrap of the fraction the count steps by
one, from its maximum to 0 with the era one up and ERA_WRAP counted; a pending seed takes its place, once, where nothing is armed, and is
REFUSED else; before the wrap nothing happens. A pulse 7.58 to 11.11 ms after the reference locks the period to that interval and sets the
line's course by its faults, but a line that PF_WARN_N keeps LOST coasts; any other counts CROSS_REJECTS as fault RANGE and leaves the period;
the first pulse acquires the line; a B pulse stands in for a crossing that A did not bring, and else changes only what B is held by.
It says that `exec` completes with a next state for each of: halfCycleBoundary, seedApply, eraWrap, zcPulse, zcBPulse. -/
def Obligations.TheLineCountStepsOncePerWrapAndCrossingsLockThePeriod : Prop :=
  (∀ s : State, s.pwr.aonValid = true →
    (s.cis.ph < phFull → exec .halfCycleBoundary s = .next s) ∧
    (phFull ≤ s.cis.ph → ∃ t, exec .halfCycleBoundary s = .next t ∧
      t.cis.hcRun = s.cis.hcRun + 1 ∧ (s.cis.seed = 1 → exec .seedApply s = .next t) ∧ (s.cis.hc = 0xFFFFFFFF → exec .eraWrap s = .next t) ∧
      ((s.cis.seed ≠ 1 ∨ s.cis.seedUsed = true ∨ s.arm.st = .armed ∨ ∃ k, k < 8 ∧ (s.timer k).st = .armed) →
        t.cis.ph = s.cis.ph - phFull ∧ t.cis.seed = (if s.cis.seed = 1 then 3 else s.cis.seed) ∧ t.regs = s.regs ∧
        (s.cis.hc ≠ 0xFFFFFFFF → t.cis.hc = s.cis.hc + 1 ∧ t.cis.era = s.cis.era ∧ t = { s with cis := t.cis }) ∧
        (s.cis.hc = 0xFFFFFFFF → t.cis.hc = 0 ∧ t.cis.era = (s.cis.era + 1) % 65536 ∧ t.evt (evCis 8) = (s.evt (evCis 8)).bump ∧
          t = { s.routed t with cis := t.cis })) ∧
      (s.cis.seed = 1 → s.cis.seedUsed = false → s.arm.st ≠ .armed → (∀ k, k < 8 → (s.timer k).st ≠ .armed) →
        t.cis.hc = s.cis.seedHc ∧ t.cis.era = s.cis.seedEra ∧ t.cis.ph = 0 ∧ t.cis.seed = 2 ∧ t.cis.seedUsed = true ∧
        t.evt (evCis 12) = (s.evt (evCis 12)).bump ∧ t = { s.routed t with regs := t.regs, cis := t.cis }))) ∧
  (∀ (s : State) (width : Nat), s.pwr.aonValid = true → 2 ≤ width →
    (s.cis.acquired = true → ∀ r, s.cis.ref = some r → ∀ iv, iv = s.clk * 100 - width * 50 - r → ∃ t, exec (.zcPulse width) s = .next t ∧
      t.cis.lastPulse = s.clk * 100 - width * 50 ∧ t.cis.onB = false ∧
      (758000 ≤ iv → iv ≤ 1111000 → ((s.cis.line ≠ .lost ∨ s.pfwOn = false) → t.cis.locked = true ∧ t.cis.period = iv) ∧
        (s.cis.line = .lost → s.pfwOn = true → t.cis.line = .lost ∧ t.cis.locked = s.cis.locked ∧ t.cis.period = s.cis.period ∧
          t.cis.len = s.cis.len) ∧ t.cis.lastAcc = s.clk * 100 - width * 50 ∧ t.cis.width = width ∧ t.reg (aCis0 0x70) = s.reg (aCis0 0x70) ∧
        (s.cis.line = .lost → s.pfwOn = false → t.cis.line ≠ .lost) ∧
        (s.crossFault iv width (s.cis.place (width * 50)).2 = 0 → width * 50 ≤ s.clk * 100 → s.cis.line = .healthy →
          t.cis.line = .healthy ∧ t.cis.goodRun = min 7 (s.cis.goodRun + 1)) ∧
        (s.crossFault iv width (s.cis.place (width * 50)).2 = 0 → width * 50 ≤ s.clk * 100 → s.cis.line = .disturbed → 3 ≤ s.cis.goodRun →
          t.cis.line = .healthy) ∧
        (∀ f, f ≠ 0 → s.crossFault iv width (s.cis.place (width * 50)).2 = f → width * 50 ≤ s.clk * 100 → s.cis.line = .healthy →
          t.cis.line = .disturbed ∧ t.cis.goodRun = 0 ∧ t.cis.lastFault = f)) ∧
      ((iv < 758000 ∨ 1111000 < iv) → t.cis.locked = s.cis.locked ∧ t.cis.period = s.cis.period ∧
        t.cis.ref = (if iv < 758000 then some r else some (s.clk * 100 - width * 50)) ∧ t.cis.lastFault = 5 ∧
        t.reg (aCis0 0x70) = satInc (s.reg (aCis0 0x70)) ∧ t.evt (evCis 1) = (s.evt (evCis 1)).bump ∧
        t.cis.line = (if s.cis.line = .healthy then .disturbed else s.cis.line))) ∧
    (s.cis.acquired = false → ∃ t, exec (.zcPulse width) s = .next t ∧ t.cis.acquired = true ∧ t.cis.hcRun = s.cis.hcRun + 1 ∧
      t.cis.lastPulse = s.clk * 100 - width * 50 ∧ t.cis.onB = false) ∧
    (s.bitOf (aCis0 0x40) 2 = true → s.aMissing = true → ∀ tc w, (s.zcBSeen width).bStandIn = some (tc, w) →
      ∃ t, exec (.zcBPulse width) s = .next t ∧ t.cis.onB = true ∧ t.cis.judged = true ∧ t.cis.lastPulse = tc ∧ t.cis.bCross = none ∧
        t.evt (evCis 11) = (s.evt (evCis 11)).bump) ∧
    (s.bitOf (aCis0 0x40) 2 = true → (s.aMissing = false ∨ (s.zcBSeen width).bStandIn = none) → ∃ t, exec (.zcBPulse width) s = .next t ∧
      t = { s with cis := { s.cis with bRef := t.cis.bRef, bCross := t.cis.bCross, aCross := t.cis.aCross, bSum := t.cis.bSum,
                                       bCount := t.cis.bCount, bOffset := t.cis.bOffset } } ∧
      (s.cis.aCross = none → t.cis.bCross.map (fun x => (x.1, x.2.1)) = some (s.clk * 100 - width * 50, width) ∧ t.cis.bCount = s.cis.bCount) ∧
      t.cis.bCount ≤ s.cis.bCount + 1))

/-- HALF_CYCLE_MISSING, LINE_LOST_TIMEOUT, DC_FEED_ENTRY, HOLDUP_ESTIMATE, PF_WARN_ASSERT, PF_WARN_DEASSERT and HOLDUP_MODE_EXIT (R311, R313, R314, R332, R649,
R650): a half-cycle without a crossing is fault MISSING once none can come, unless B stands in; 1.5 half-cycles without one make the line LOST; the feed's
conditions make it DC_FEED; a sample joins the window; PF_WARN_N with PFW_EN starts hold-up mode, which ends 10 ms after its release.
It says that `exec` completes with a next state for each of: halfCycleMissing, lineLostTimeout, dcFeedEntry, holdupEstimate, pfWarnAssert,
pfWarnDeassert, holdupModeExit. -/
def Obligations.TheLineIsLostAndHoldUpModeHolds : Prop :=
  ∀ s : State, s.pwr.aonValid = true →
    ((s.cis.acquired = false ∨ s.cis.judged = true ∨ s.cis.ph < 2048 * 2 ^ 20) → exec .halfCycleMissing s = .next s) ∧
    (s.cis.acquired = true → s.cis.judged = false → 2048 * 2 ^ 20 ≤ s.cis.ph →
      (s.bStandIn = none → s.missLu * 2 ^ 20 ≤ s.cis.ph → (s.cis.line = .healthy ∨ s.cis.line = .disturbed) →
        ∃ t, exec .halfCycleMissing s = .next t ∧ t.cis.judged = true ∧ t.cis.lastFault = 4 ∧ t.cis.line = .disturbed ∧ t.cis.goodRun = 0 ∧
          t.evt (evCis 1) = (s.evt (evCis 1)).bump ∧ t = { s.recorded t with cis := t.cis }) ∧
      (s.bStandIn = none → (s.cis.ph < s.missLu * 2 ^ 20 ∨ s.cis.line = .lost ∨ s.cis.line = .dcFeed) → exec .halfCycleMissing s = .next s) ∧
      (∀ tc w, s.bStandIn = some (tc, w) → ∃ t, exec .halfCycleMissing s = .next t ∧ t.cis.judged = true ∧ t.cis.onB = true ∧
        t.cis.lastPulse = tc ∧ t.cis.bCross = none ∧ t.evt (evCis 11) = (s.evt (evCis 11)).bump)) ∧
    ((s.cis.line = .healthy ∨ s.cis.line = .disturbed) →
      s.cis.lastAcc + (if s.fldOf (aCis0 0x40) 1 0 = 1 then 1250000 else 1500000) ≤ s.clk * 100 →
      ∃ t, exec .lineLostTimeout s = .next t ∧ t.cis.line = .lost ∧ t.cis.lastFault = 7 ∧ t.cis.goodRun = 0 ∧
        t.evt (evCis 0) = (s.evt (evCis 0)).bump ∧ t = { s.recorded t with cis := t.cis }) ∧
    (s.cis.line = .lost → s.pfwOn = false → s.bitOf (aCis0 0x5C) 0 = true → s.dcHigh = true →
      s.cis.lastPulse + s.fldOf (aCis0 0x5C) 15 8 * s.nominal ≤ s.clk * 100 →
      ∃ t, exec .dcFeedEntry s = .next t ∧ t.cis.line = .dcFeed ∧ t.cis.len = s.nominal ∧ t.evt (evCis 0) = (s.evt (evCis 0)).bump ∧
        t = { s.recorded t with cis := t.cis }) ∧
    (∀ code : Fin 4096, ∃ t, exec (.holdupEstimate code) s = .next t ∧ t.cis.code = code.val ∧ t.cis.codeSeen = true ∧
      t.cis.samples.getLast? = some (s.clk, code.val) ∧ (∀ x ∈ t.cis.samples, s.clk < x.1 + s.trWindow ∨ x = (s.clk, code.val)) ∧
      (s.cis.line ≠ .dcFeed → t = { s.routed t with cis := t.cis, freeCtr := t.freeCtr }) ∧ t.cis.hc = s.cis.hc) ∧
    (s.cis.pfw = false → ∃ t, exec .pfWarnAssert s = .next t ∧ t.cis.pfw = true ∧
      (s.pfwEn = false → t.evt (evCis 2) = (s.evt (evCis 2)).bump ∧ t = { s.routed t with cis := { s.cis with pfw := true } }) ∧
      (s.pfwEn = true → t.cis.line = .lost ∧ (s.coreUp = true → t.pwr.holdup = true ∧ t.pwr.pfwReleasedAt = none))) ∧
    (s.cis.pfw = true → exec .pfWarnAssert s = .next s ∧
      exec .pfWarnDeassert s = .next { s with cis := { s.cis with pfw := false }, pwr := { s.pwr with pfwReleasedAt := some s.clk } }) ∧
    (∀ r, s.pwr.holdup = true → s.pwr.pwrOk = true → s.cis.pfw = false → s.pwr.pfwReleasedAt = some r →
      (r + 10000 ≤ s.clk → ∃ t, exec .holdupModeExit s = .next t ∧
        t = { s with pwr := { s.pwr with holdup := false, pfwReleasedAt := none }, cvn := t.cvn } ∧
        ∀ p, (t.link p).st = .up ↔ (s.link p).st = .up) ∧
      (s.clk < r + 10000 → exec .holdupModeExit s = .next s))

/-- COMMIT_SUBMIT, COMMIT_WITHDRAW and COMMIT_ADMIT (R318 to R320, R324, R326): a descriptor that passes waits in the slot's queue entry, one
that fails shows its code and counts COMMIT_REFUSED; a waiting slot is withdrawn with ABORTED; of the entries that meet the conditions the
one that has waited longest is admitted, and none while a condition of R319 fails.
It says that `exec` completes with a next state for each of: commitSubmit, commitWithdraw, commitAdmit. -/
def Obligations.CommitsWaitAndTheLongestWaiterIsAdmitted : Prop :=
  (∀ (s : State) (m : Master) (v : Word), s.admits m (aCis1 0x68) = true → Word.field v 3 0 < 15 → Word.bit v 8 = true → Word.bit v 9 = false →
    (s.submitCheck (Word.field v 3 0) (s.bytes (descAt (Word.field v 3 0)) 320) ≠ stOk → exec (.commitSubmit m v) s =
      .next ((s.descEnd (Word.field v 3 0) (s.submitCheck (Word.field v 3 0) (s.bytes (descAt (Word.field v 3 0)) 320))).count (evCis 15))) ∧
    (s.submitCheck (Word.field v 3 0) (s.bytes (descAt (Word.field v 3 0)) 320) = stOk → ∃ t, exec (.commitSubmit m v) s = .next t ∧
      (t.adm (17 + Word.field v 3 0)).st = .waiting ∧ (t.adm (17 + Word.field v 3 0)).cls = (s.byte (descAt (Word.field v 3 0))).toNat ∧
      (t.adm (17 + Word.field v 3 0)).order = s.cis.order ∧ (t.adm (17 + Word.field v 3 0)).since = s.posRun ∧
      (∀ i, i ≠ 17 + Word.field v 3 0 → t.adm i = s.adm i) ∧
      (∀ a, t.byte a = if a = descAt (Word.field v 3 0) + 17 then 1 else s.byte a) ∧ t = { s with ram := t.ram, cis := t.cis })) ∧
  (∀ (s : State) (m : Master) (v : Word), s.admits m (aCis1 0x68) = true → Word.field v 3 0 < 15 → Word.bit v 8 = false → Word.bit v 9 = true →
    ((s.adm (17 + Word.field v 3 0)).st ≠ .waiting → exec (.commitWithdraw m v) s = .next (s.refuse m (aCis1 0x68))) ∧
    ((s.adm (17 + Word.field v 3 0)).st = .waiting → ∃ t, exec (.commitWithdraw m v) s = .next t ∧
      (t.adm (17 + Word.field v 3 0)).st = .empty ∧ (∀ i, i ≠ 17 + Word.field v 3 0 → t.adm i = s.adm i) ∧
      t.byte (descAt (Word.field v 3 0) + 16) = stAborted ∧ t.byte (descAt (Word.field v 3 0) + 17) = 3 ∧
      t.evt (evCis 6) = (s.evt (evCis 6)).bump ∧ t = { s.routed t with ram := t.ram, cis := t.cis })) ∧
  (∀ s : State, (s.admOpen = false → exec .commitAdmit s = .next s) ∧
    (s.admOpen = true → (∀ i, i < 32 → s.admissible i = false) → exec .commitAdmit s = .next s) ∧
    (s.admOpen = true → ∀ j, j < 32 → s.admissible j = true → ∃ i t, i < 32 ∧ s.admissible i = true ∧
      (∀ k, k < 32 → s.admissible k = true → (s.adm i).order ≤ (s.adm k).order) ∧ exec .commitAdmit s = .next t ∧
      ((∀ slot p cs a d, (s.adm i).what = .page slot p cs a d → ((s.port p).wrenOp cs).isSome = true ∧ ((s.port p).progOp cs).isSome = true) →
        t.cis.inflight = some i ∧ t.cis.ifSince = s.clk ∧ (t.adm i).st = .running ∧ (t.adm i).startHc = s.cis.hc ∧
        (∀ k, k ≠ i → t.adm k = s.adm k) ∧ t.evt (evCis 3) = (s.evt (evCis 3)).bump)))

/-- COMMIT_END, COMMIT_FLASH_TIMEOUT and COMMIT_TIMEOUT (R321 to R323, R326, R374): the commit in flight leaves its entry, ADM_LAST and the
descriptor show its result; a bank commit writes the new bank; a fail bit or 5 ms of WIP end a page commit with INTERNAL; an entry past
its timeout leaves with COMMIT_DEFERRED.
It says that `exec` completes with a next state for each of: commitEnd, commitFlashTimeout, commitTimeout. -/
def Obligations.CommitsEndOnceWithTheirResult : Prop :=
  ∀ (s : State), s.cmd.running = none → s.cmd.blobJob = none → s.pwr.resetOwed = false →
    (∀ i slot b d, s.cis.inflight = some i → (s.adm i).what = .bank slot b d → b < 2 → s.cmd.epochSlot ≠ some slot →
      ∃ t, exec (.commitEnd .clean) s = .next t ∧ t.cis.inflight = none ∧ (t.adm i).st = .empty ∧ t.bank b = s.newBank d ∧
        t.bank (1 - b) = s.bank (1 - b) ∧ t.byte (descAt slot + 16) = stOk ∧ t.byte (descAt slot + 17) = 3 ∧
        t.reg (pg 0x19 0x64) = (fld i 0 ||| fld (s.adm i).cls 5 ||| fld stOk.toNat 8 ||| fld ((s.adm i).startHc % 65536) 16) ∧
        t.reg (pg 0x19 0x74) = satInc (s.reg (pg 0x19 0x74))) ∧
    (∀ i slot p cs a d, s.cis.inflight = some i → (s.adm i).what = .page slot p cs a d →
      ∃ t, exec (.commitEnd .failBit) s = .next t ∧
        (s.cis.ifSince + 5000 ≤ s.clk → ∃ u, exec .commitFlashTimeout s = .next u ∧ u.cis.inflight = none ∧
          u.byte (descAt slot + 16) = stInternal ∧ u.evt (evCis 14) = (s.evt (evCis 14)).bump) ∧
        (s.clk < s.cis.ifSince + 5000 → exec .commitFlashTimeout s = .next s) ∧
        t.cis.inflight = none ∧ (t.adm i).st = .empty ∧ t.byte (descAt slot + 16) = stInternal ∧ t.byte (descAt slot + 17) = 3 ∧
        t.reg (pg 0x19 0x64) = (fld i 0 ||| fld (s.adm i).cls 5 ||| fld stInternal.toNat 8 ||| fld ((s.adm i).startHc % 65536) 16) ∧
        t.evt (evCis 14) = (s.evt (evCis 14)).bump) ∧
    (s.cis.inflight = none → ∀ r, exec (.commitEnd r) s = .next s ∧ exec .commitFlashTimeout s = .next s) ∧
    (∀ (e : Fin 32), (s.admLate e.val = false → exec (.commitTimeout e) s = .next s) ∧
      (∀ slot p cs a d, s.admLate e.val = true → (s.adm e.val).what = .page slot p cs a d → ∃ t, exec (.commitTimeout e) s = .next t ∧
        (t.adm e.val).st = .empty ∧ (∀ k, k ≠ e.val → t.adm k = s.adm k) ∧ t.byte (descAt slot + 16) = stCommitDeferred ∧
        t.byte (descAt slot + 17) = 3 ∧ t.reg (aCis1 0x78) = satInc (s.reg (aCis1 0x78)) ∧ t.evt (evCis 5) = (s.evt (evCis 5)).bump ∧
        t = { s.routed t with regs := t.regs, ram := t.ram, cis := t.cis }))

/-- POS_SEED_WRITE, TIMER_ARM, TIMER_CANCEL and LINE_TIMER_FIRE (R307, R309, R327, R328, R330): a seed ahead of the position, with nothing
armed and none used, is PENDING, any other REFUSED; each timer of an ARM bit copies AT and CFG and is ARMED where the position is ahead,
else REFUSED; an armed timer that the position has reached fires, once or every PERIOD.
It says that `exec` completes with a next state for each of: posSeedWrite, timerArm, timerCancel, lineTimerFire. -/
def Obligations.TimersArmOnlyAheadOfThePosition : Prop :=
  (∀ (s : State) (m : Master) (lo hi : Word), s.admits m (aCis0 0x64) = true → ∃ t, exec (.posSeedWrite m lo hi) s = .next t ∧
    (s.arm.st ≠ .armed → (∀ k, k < 8 → (s.timer k).st ≠ .armed) → s.cis.seedUsed = false → posAhead lo.toNat 0 (s.cis.hc + 1) 0 = true →
      t = { s with regs := t.regs, cis := { s.cis with seed := 1, seedHc := lo.toNat, seedEra := Word.field hi 31 16 } }) ∧
    ((s.arm.st = .armed ∨ s.cis.seedUsed = true ∨ posAhead lo.toNat 0 (s.cis.hc + 1) 0 = false ∨ ∃ k, k < 8 ∧ (s.timer k).st = .armed) →
      t.reg (aCis0 0x18) = pageErrAfter (s.reg (aCis0 0x18)) 0x64 .state m ∧
      t = { s.routed t with regs := t.regs, cis := { s.cis with seed := 3 } })) ∧
  (∀ (s : State) (m : Master) (v : Word), s.admits m (aCis1 0x100) = true →
    (∃ t, exec (.timerArm m v) s = .next t ∧ t = { s.routed t with regs := t.regs, cis := { s.cis with timers := t.cis.timers } } ∧
      ∀ k, k < 8 → Word.bit v (8 + k) = false →
        (Word.bit v k = false → t.timer k = s.timer k) ∧
        (Word.bit v k = true → t.timer k =
          { st := if s.ahead (s.reg (aCis1 (0x80 + 16 * k))).toNat (s.fldOf (aCis1 (0x84 + 16 * k)) 15 0) then .armed else .refused,
            hc := (s.reg (aCis1 (0x80 + 16 * k))).toNat, lu := s.fldOf (aCis1 (0x84 + 16 * k)) 15 0,
            period := s.fldOf (aCis1 (0x88 + 16 * k)) 15 0, dest := s.fldOf (aCis1 (0x88 + 16 * k)) 17 16,
            mark := s.fldOf (aCis1 (0x88 + 16 * k)) 31 24 })) ∧
    (∃ t, exec (.timerCancel m v) s = .next t ∧ t = { s with cis := { s.cis with timers := t.cis.timers } } ∧
      ∀ k, k < 8 → t.timer k = if Word.bit v (8 + k) = true ∧ (s.timer k).st = .armed then { s.timer k with st := .idle } else s.timer k)) ∧
  (∀ (s : State) (k : Fin 8), s.pwr.aonValid = true → (s.timer k.val).st = .armed →
    (s.reached (s.timer k.val).hc (s.timer k.val).lu = false → exec (.lineTimerFire k) s = .next s) ∧
    (s.reached (s.timer k.val).hc (s.timer k.val).lu = true → ∃ t, exec (.lineTimerFire k) s = .next t ∧
      t.timer k.val = (if (s.timer k.val).period = 0 then { s.timer k.val with st := .fired }
        else { s.timer k.val with hc := ((s.timer k.val).hc + (s.timer k.val).period) % 2 ^ 32 }) ∧
      (∀ j, j ≠ k.val → t.timer j = s.timer j) ∧
      ((s.timer k.val).dest ≠ 1 → t.reg (aCis1 (0x8C + 16 * k.val)) = wd s.cis.hc ∧ t.evt (evCis 9) = (s.evt (evCis 9)).bump)))

/-! ### Life cycle, debug rights and the key derivation unit -/

/-- LC_REQ, LC_CELLAR_WIPE_DONE, DBG_GRANT, NONCE_REFRESH and MEMTEST_ENTER (R340, R350, R352, R353, R360, R361, R363, R376): a legal request of
hart 0 starts the commits of its transition and any other shows its code; both draw a new nonce; the wipe of the transition destroys every
context; a grant adds rights within the ceiling; entry into a further memory test mode wipes the memories first.
It says that `exec` completes with a next state for each of: lcReq, dbgGrant, lcCellarWipeDone, nonceRefresh, memtestEnter. -/
def Obligations.LifeCycleRequestsAreCheckedAndCommitted : Prop :=
  (∀ (s : State) (v : Word), s.admits 0 (aLcf1 0x40) = true →
    (Word.bit v 8 = false → exec (.lcReq 0 v) s = .next (s.setReg (aLcf1 0x40) (v &&& 0x107))) ∧
    (Word.bit v 8 = true → s.lcCheck (Word.field v 2 0) ≠ stOk → ∃ t, exec (.lcReq 0 v) s = .next t ∧
      t.reg (aLcf0 0x48) = (fld (s.lcCheck (Word.field v 2 0)).toNat 0 ||| fld (Word.field v 2 0) 8) ∧
      t.evt (evLcf 1) = (s.evt (evLcf 1)).bump ∧ t.drbgCtr = s.drbgCtr + 1 ∧
      t = { s.routed t with regs := t.regs, drbgCtr := t.drbgCtr, lcf := { s.lcf with nonce := s.draw 32 } }) ∧
    (Word.bit v 8 = true → s.lcCheck (Word.field v 2 0) = stOk → ∃ x t, lcOfCode (Word.field v 2 0) = some x ∧
      exec (.lcReq 0 v) s = .next t ∧ t.evt (evLcf 0) = (s.evt (evLcf 0)).bump ∧ t.lcf.nonce = s.draw 32 ∧ t.drbgCtr = s.drbgCtr + 1 ∧
      (s.lcCopy 0 ≠ x.fuseCode → t.lcf.transit = some (x, .copyA) ∧ (t.adm 16).st = .waiting ∧ (t.adm 16).cls = 0 ∧
        (t.adm 16).what = .lcf (.lcCopy 0 x) ∧ (∀ i, i ≠ 16 → t.adm i = s.adm i)))) ∧
  (∀ (s : State) (m : Master) (v : Word), m ≠ 0 → s.arrives m 0x11 = true → s.postedAt 0x11 = none → s.shut = false →
    exec (.lcReq m v) s = .next (s.refuse m (aLcf1 0x40)) ∧ exec (.dbgGrant m v) s = .next (s.refuse m (aLcf1 0x44))) ∧
  (∀ (s : State) (x : LcState), s.lcf.transit = some (x, .cellarWipe) → s.tamp.responded = false → s.pwr.resetOwed = false →
    (bankValid s.cel.bank0 = false → bankValid s.cel.bank1 = false → s.cis.inflight.isSome = true → ∃ t, exec .lcCellarWipeDone s = .next t ∧
      (∀ i, (t.slot i).live = false) ∧ t.evt (evCel 0) = (s.evt (evCel 0)).bump ∧
      t.lcf.transit = some (x, .resetDue) ∧ t.pwr.resetOwed = true ∧ t.cis = s.cis) ∧
    (bankValid s.cel.bank0 = false → bankValid s.cel.bank1 = false → s.cis.inflight.isSome = false → s.coreUp = true →
      ∃ t, exec .lcCellarWipeDone s = .next t ∧ t.lcf.transit = none ∧ t.boot.wipePending = true ∧ t.lcf.fuses = s.lcf.fuses ∧
        (∀ i, (t.slot i).live = false) ∧ t.cel.bank0 = s.cel.bank0 ∧ t.cel.bank1 = s.cel.bank1) ∧
    ((bankValid s.cel.bank0 = true ∨ bankValid s.cel.bank1 = true) → ∃ t, exec .lcCellarWipeDone s = .next t ∧
      (∀ i, (t.slot i).live = false) ∧ t.evt (evCel 0) = (s.evt (evCel 0)).bump ∧ (t.adm 16).st = .waiting ∧ (t.adm 16).cls = 3)) ∧
  (∀ s : State, (s.tamp.responded = true ∨ ∀ x, s.lcf.transit ≠ some (x, .cellarWipe)) → s.pwr.resetOwed = false →
    exec .lcCellarWipeDone s = .next s) ∧
  (∀ (s : State) (m : Master) (v : Word), s.admits m (aLcf1 0x44) = true →
    ((s.lcf.eff = some .raw ∨ s.lcf.eff = some .test) → exec (.dbgGrant m v) s = .next (s.refuse m (aLcf1 0x44))) ∧
    (m = 0 → s.lcf.eff ≠ some .raw → s.lcf.eff ≠ some .test → ∃ t, exec (.dbgGrant m v) s = .next t ∧ t.lcf.nonce = s.draw 32 ∧
      (s.lcf.transit = none → bitsIn (Word.field v 15 0) s.ceiling = true → (Word.field v 15 0 &&& 0x0F00 = 0 ∨ s.lcPrecond = 7) →
        t.lcf.granted = s.lcf.granted ||| BitVec.ofNat 16 (Word.field v 15 0) ∧ t.evt (evLcf 5) = (s.evt (evLcf 5)).bump ∧
        t = { s.routed t with lcf := t.lcf, drbgCtr := s.drbgCtr + 1, meas := t.meas }) ∧
      ((s.lcf.transit ≠ none ∨ bitsIn (Word.field v 15 0) s.ceiling = false ∨ (Word.field v 15 0 &&& 0x0F00 ≠ 0 ∧ s.lcPrecond ≠ 7)) →
        t.lcf = { s.lcf with nonce := s.draw 32 } ∧ t.evt (evLcf 6) = (s.evt (evLcf 6)).bump ∧
        t = { s.routed t with lcf := t.lcf, drbgCtr := s.drbgCtr + 1, regs := t.regs }))) ∧
  (∀ (s : State) (m : Master), s.admits m (aLcf0 0x70) = true →
    exec (.nonceRefresh m) s = .next { s with lcf := { s.lcf with nonce := s.draw 32 }, drbgCtr := s.drbgCtr + 1 }) ∧
  (∀ (s : State) (m : Master) (v : Word), s.admits m (aLcf1 0x48) = true →
    (s.memtestOk = false → exec (.memtestEnter m v) s = .next (s.refuse m (aLcf1 0x48))) ∧
    (s.memtestOk = true → s.lcf.memtest ||| BitVec.ofNat 3 v.toNat = s.lcf.memtest → exec (.memtestEnter m v) s = .next s) ∧
    (s.memtestOk = true → s.lcf.memtest ||| BitVec.ofNat 3 v.toNat ≠ s.lcf.memtest → ∃ t, exec (.memtestEnter m v) s = .next t ∧
      t.lcf.memtest = s.lcf.memtest ||| BitVec.ofNat 3 v.toNat ∧
      (∀ a, t.byte a = 0) ∧ (∀ i, (t.slot i).live = false) ∧ (∀ i, t.dctx i = DCtx.reset) ∧
      (∀ q e, q < 64 → e ∈ (t.queue q).fetched → e.started = false → e.desc = List.replicate 16 0) ∧ t.regs = s.regs ∧ t.lcf.fuses = s.lcf.fuses))

/-- KDU_DERIVE, KDU_DISCARD, KDU_ROOT_GEN, KDU_ROOT_CLASS, BBRAM_ERASE, KDU_CLOSE_SECRET and KDU_LOCK_CDI (R370, R371, R375, R378, R380, R381,
R405, R406): before either lock the derivations of the manifest digest are made or discarded; in PROVISION, with the secret path open,
a root is drawn or opened and its mask is blown first; a write of ROOT_CLASS together with another command bit is refused as STATE; the
locks stay; while the unit is busy every trigger is refused as STATE.
It says that `exec` completes with a next state for each of: kduDerive, kduDiscard, kduRootGen, kduRootClass, bbramErase, kduCloseSecret,
kduLockCdi. -/
def Obligations.TheDerivationUnitWorksUntilItsLocks : Prop :=
  (∀ (s : State) (m : Master), s.admits m (pg 0x21 0x40) = true → s.cel.kduJob = none →
    ((s.cel.closeSecret = true ∨ s.cel.lockCdi = true) →
      exec (.kduDerive m) s = .next { s with cel := { s.cel with kduErr := stStateForbids } } ∧
      exec (.kduDiscard m) s = .next { s with cel := { s.cel with kduErr := stStateForbids } }) ∧
    (s.cel.closeSecret = false → s.cel.lockCdi = false →
      (∃ t, exec (.kduDerive m) s = .next t ∧ t = { s with cel := t.cel } ∧ t.cel.kduErr = stOk ∧
        t.cel.devidSeed = some (kdf (s.rootSecret 0) s.unitId "MX-DEVID") ∧
        t.cel.cdi0 = some (kdf (s.rootSecret 0) (s.mdigest ++ s.lc) "MX-CDI0") ∧
        t.cel.rtidSeed = some (kdf (kdf (s.rootSecret 0) (s.mdigest ++ s.lc) "MX-CDI0") [] "MX-RTID") ∧
        t.cel.flrvSeed = some (kdf (s.rootSecret 1) s.unitId "MX-FLRV") ∧ t.cel.slots = s.cel.slots ∧ t.cel.bank0 = s.cel.bank0 ∧
        t.cel.bank1 = s.cel.bank1) ∧
      exec (.kduDiscard m) s = .next { s with cel := { s.cel with devidSeed := none, cdi0 := none, cdiSeal := none, rtidSeed := none,
                                                                   flrvSeed := none, cdiDigest := [], ephemeral := none, kduErr := stOk } }) ∧
    ((s.cel.closeSecret = true ∨ s.lcf.eff ≠ some .provision) → (exec (.kduRootGen m) s =
        .next { s with cel := { s.cel with kduErr := stStateForbids } } ∧
      ∀ v : Word, v &&& 0x1F = 8 → exec (.kduRootClass m v) s = .next { s with cel := { s.cel with kduErr := stStateForbids } })) ∧
    (∀ v : Word, v &&& 0x1F ≠ 8 → ∃ t, exec (.kduRootClass m v) s = .next t ∧ t.reg (pg 0x21 0x18) = pageErrAfter (s.reg (pg 0x21 0x18)) 0x40 .state m ∧
      t = { s.routed t with regs := t.regs }) ∧
    (s.cel.closeSecret = false → s.lcf.eff = some .provision → allZero (s.fuseBytes 96 32) = true → s.fuseCheck 96 32 = stOk →
      ∃ t, exec (.kduRootGen m) s = .next t ∧ t.cel.kduJob = some (.rootGen 1) ∧ (t.adm 16).st = .waiting ∧ (t.adm 16).cls = 1 ∧
        (t.adm 16).what = .lcf (.field 96 (s.draw 32)) ∧ t = { s with cel := t.cel, cis := t.cis, drbgCtr := s.drbgCtr + 1 }) ∧
    (∀ v : Word, v &&& 0x1F = 8 → s.cel.closeSecret = false → s.lcf.eff = some .provision →
      ((s.classRecord = none ∨ ∃ r, s.classRecord = some r ∧ s.classSecret r = none) →
        exec (.kduRootClass m v) s = .next { s with cel := { s.cel with kduErr := stAuthFail } }) ∧
      (∀ r sec, s.classRecord = some r → s.classSecret r = some sec → allZero (s.fuseBytes 128 32) = true → s.fuseCheck 128 32 = stOk →
        ∃ t, exec (.kduRootClass m v) s = .next t ∧ t.cel.kduJob = some (.rootClass 1 sec) ∧ (t.adm 16).st = .waiting ∧
          (t.adm 16).what = .lcf (.field 128 (s.draw 32)) ∧ t = { s with cel := t.cel, cis := t.cis, drbgCtr := s.drbgCtr + 1 })) ∧
    exec (.bbramErase m) s = .next { s with cel := { s.cel with bank0 := [], bank1 := [], active := none, kduErr := stOk } }) ∧
  (∀ (s : State) (m : Master) (j : KduJob) (v : Word), s.admits m (pg 0x21 0x40) = true → s.cel.kduJob = some j →
    ∃ t, exec (.kduDerive m) s = .next t ∧ exec (.kduDiscard m) s = .next t ∧ exec (.kduRootGen m) s = .next t ∧
      exec (.bbramErase m) s = .next t ∧ exec (.kduRootClass m v) s = .next t ∧
      t.reg (pg 0x21 0x18) = pageErrAfter (s.reg (pg 0x21 0x18)) 0x40 .state m ∧
      t = { s.routed t with regs := t.regs, cel := { s.cel with kduBusy := satInc s.cel.kduBusy } }) ∧
  (∀ (s : State) (m : Master), s.admits m (pg 0x21 0x44) = true →
    (∃ t, exec (.kduCloseSecret m) s = .next t ∧ t = { s.routed t with cel := { s.cel with closeSecret := true } } ∧
      t.evt (evCel 8) = if s.cel.lockCdi = true ∧ s.cel.closeSecret = false then (s.evt (evCel 8)).bump else s.evt (evCel 8)) ∧
    (∃ t, exec (.kduLockCdi m) s = .next t ∧ t = { s.routed t with cel := { s.cel with lockCdi := true, cdi0 := none } } ∧
      t.evt (evCel 8) = if s.cel.closeSecret = true ∧ s.cel.lockCdi = false then (s.evt (evCel 8)).bump else s.evt (evCel 8)))

/-! ### Cellar and measurements -/

/-- KEY_GENERATE, KEY_RESERVE, KEY_LOAD, KEY_DERIVE, KEY_IMPORT, KEY_EXCHANGE and KEY_ENCAPS (R382, R385, R386, R388, R389, R395 to R397, R402): an
operation that fails the first checks, or finds no slot, completes at once with its code; else the context that its rule describes fills
the slot that the allocation finds, and the operation runs with the new handle as its result.
It says that `exec` completes with a next state for each of: keyGenerate, keyReserve, keyLoad, keyDerive, keyImport, keyExchange, keyEncaps. -/
def Obligations.KeyOperationsFillAFreeSlot : Prop :=
  ∀ (s : State) (src : JobSrc) (d : Desc) (raw io : JobIo),
    io = s.jobIo src raw (dnum d 24 8) (cInLen d) (cOutAddr d) (cOutLen d) →
    (s.takesJob src d 0x20 = true → (s.celPre d io).1 ≠ stOk → exec (.keyGenerate src d raw) s =
      .next ((s.take src).celFail src 0x20 (s.celPre d io).1 (s.celPre d io).2)) ∧
    (s.takesJob src d 0x20 = true → (s.celPre d io).1 = stOk →
      (s.allocAt src.issuer = none → exec (.keyGenerate src d raw) s =
        .next (((s.take src).noSlot src.issuer).celFail src 0x20 stNoSlot 0)) ∧
      (∀ i, s.allocAt src.issuer = some i → ∃ t, exec (.keyGenerate src d raw) s = .next t ∧
        t.slot i = { st := .loaded, gen := (s.slot i).gen, ctx := s.newCtx src.issuer d (s.draw (typeLen (cType d))) } ∧
        (∀ j, j ≠ i → t.slot j = s.slot j) ∧ t.drbgCtr = s.drbgCtr + 1 ∧
        s.startsOp t src (celOp src 0x20 (handleOf i (s.slot i).gen).toNat 0 [] none))) ∧
    (s.takesJob src d 0x26 = true → (s.celPre d io).1 = stOk → ∀ i, s.allocAt src.issuer = some i →
      ∃ t, exec (.keyReserve src d raw) s = .next t ∧ (t.slot i).st = .reserved ∧ (t.slot i).gen = (s.slot i).gen ∧
        (t.slot i).ctx = { s.newCtx src.issuer d [] with mlen := typeLen (cType d) } ∧ (∀ j, j ≠ i → t.slot j = s.slot j) ∧
        t.drbgCtr = s.drbgCtr ∧ s.startsOp t src (celOp src 0x26 (handleOf i (s.slot i).gen).toNat 0 [] none)) ∧
    (s.takesJob src d 0x21 = true → (s.celPre d io).1 = stOk → cInLen d = 176 → s.loadCheck src.issuer io.data = stOk →
      (∀ c i, s.loadOpen io.data = some c → s.allocAt (Bytes.at io.data 0x14) = some i → ∃ t, exec (.keyLoad src d raw) s = .next t ∧
        t.slot i = { st := .loaded, gen := (s.slot i).gen, ctx := c } ∧ (∀ j, j ≠ i → t.slot j = s.slot j) ∧
        t.cel.unwrapOk = satInc s.cel.unwrapOk ∧ s.startsOp t src (celOp src 0x21 (handleOf i (s.slot i).gen).toNat 0 [] none)) ∧
      (s.loadOpen io.data = none → ∃ t, exec (.keyLoad src d raw) s = .next t ∧ t.cel.slots = s.cel.slots ∧ t.cel.ops = s.cel.ops ∧
        t.cel.unwrapBad = satInc s.cel.unwrapBad ∧ t.evt (evCel 1) = (s.evt (evCel 1)).bump)) ∧
    (∀ c i, s.takesJob src d 0x25 = true → (s.celPre d io).1 = stOk → s.keyFor src.issuer (cHandle d) (some 5) = (stOk, c) →
      s.secretRight = false → (c.type = 3 ∨ c.type = 0xC) → s.allocAt src.issuer = some i → ∃ t, exec (.keyDerive src d raw) s = .next t ∧
        (t.slot i).st = .loaded ∧ (t.slot i).ctx =
          s.newCtx src.issuer d (kmac256 c.material (io.data.take (cInLen d)) (typeLen (cType d)) (ascii "MX-KDRV")) ∧
        s.useTaken t (cHandle d) [i] ∧
        s.startsOp t src (s.keyed (cHandle d) (celOp src 0x25 (handleOf i (s.slot i).gen).toNat 0 [] none))) ∧
    (∀ k c i, 69 ≤ src.ring → s.takesJob src d 0x27 = true → (s.celPre d io).1 = stOk → cInLen d = 176 → blobFieldsOk io.data = true →
      s.lcf.transit = none → s.secretRight = false → s.ownerSecret ≠ none → s.keyFor src.issuer (cHandle d) (some 1) = (stOk, k) →
      k.type = 1 → s.allocAt src.issuer = some i → openBlob k.material s.cel.bootNonce io.data = some c →
      ∃ t, exec (.keyImport src d raw) s = .next t ∧ (t.slot i).st = .loaded ∧
        (t.slot i).ctx = { c with owner := src.issuer, domain := domainOf src.issuer, epoch := s.blobEpoch (domainOf src.issuer) } ∧
        s.useTaken t (cHandle d) [i] ∧
        s.startsOp t src (s.keyed (cHandle d) (celOp src 0x27 (handleOf i (s.slot i).gen).toNat 0 [] none))) ∧
    (∀ c i, s.takesJob src d 0x2C = true → (s.celPre d io).1 = stOk → s.keyFor src.issuer (cHandle d) (some 8) = (stOk, c) →
      (c.type = 0xE ∨ c.type = 0xF) → Config.kexPeerOk c.type (io.data.take (cInLen d)) = true → s.allocAt src.issuer = some i →
      ∃ t, exec (.keyExchange src d raw) s = .next t ∧ (t.slot i).st = .loaded ∧ (t.slot i).ctx = s.newCtx src.issuer d
          (Config.take (typeLen (cType d)) (Config.kexSecretByte c.type c.material (io.data.take (cInLen d)))) ∧
        s.useTaken t (cHandle d) [i] ∧
        s.startsOp t src (s.keyed (cHandle d) (celOp src 0x2C (handleOf i (s.slot i).gen).toNat 0 [] none))) ∧
    (∀ i, s.takesJob src d 0x2D = true → (s.celPre d io).1 = stOk → cInLen d = 1568 → 1568 ≤ cOutLen d → io.writeFault = false →
      s.allocAt src.issuer = some i → ∃ t, exec (.keyEncaps src d raw) s = .next t ∧ (t.slot i).st = .loaded ∧
        (t.slot i).ctx = s.newCtx src.issuer d (Config.take (typeLen (cType d)) (Config.kemSecretByte (io.data.take 1568) (s.draw 32))) ∧
        (∀ j, j ≠ i → t.slot j = s.slot j) ∧ t.drbgCtr = s.drbgCtr + 1 ∧ s.startsOp t src (celOp src 0x2D (handleOf i (s.slot i).gen).toNat
          (cOutAddr d) (Config.take 1568 (Config.kemCtByte (io.data.take 1568) (s.draw 32))) none))

/-- KEY_WRAP, KEY_UNLOAD, KEY_QUERY, AES_SEAL, AES_OPEN, PK_SIGN, PK_VERIFY, PROOF, BLOB_EPOCH_ADVANCE, CELLAR_OP_DONE and CELLAR_SRAM_UE (R387,
R389 to R393, R397 to R399, R401, R567): an operation of the key's owner that passes its checks takes one use and runs with the output that
its rule gives; one on a context with jobs before it joins their order; an unloaded or faulty context is destroyed, an unloaded one once what
has started on it has ended; at its end an operation leaves the list and a last use destroys its key.
It says that `exec` completes with a next state for each of: keyWrap, keyUnload, keyQuery, aesSeal, aesOpen, pkSign, pkVerify, proof,
blobEpochAdvance, cellarOpDone, cellarSramUe. -/
def Obligations.KeyOperationsUseTheirKeyOnce : Prop :=
  ∀ (s : State) (src : JobSrc) (d : Desc) (raw io : JobIo),
    io = s.jobIo src raw (dnum d 24 8) (cInLen d) (cOutAddr d) (cOutLen d) →
    (∀ opc c x, (opc = 0x22 ∧ x = .keyWrap src d raw ∨ opc = 0x23 ∧ x = .keyUnload src d raw ∨ opc = 0x24 ∧ x = .keyQuery src d raw) →
      s.tkBusy (cHandle d) = true → s.takesJob src d opc = true → (s.celPre d io).1 = stOk →
      s.keyFor src.issuer (cHandle d) (if opc = 0x22 then some 6 else none) = (stOk, c) → ∃ t j, exec x s = .next t ∧
        t.tks.waiting = s.tks.waiting ++ [j] ∧ j.src = src ∧ j.opc = opc ∧ j.desc = d ∧ j.io = raw ∧ j.handle = cHandle d ∧
        t = { s.take src with tks := t.tks }) ∧
    (∀ c k, s.tkBusy (cHandle d) = false → s.takesJob src d 0x22 = true → (s.celPre d io).1 = stOk → cOutLen d = 176 →
      s.keyFor src.issuer (cHandle d) (some 6) = (stOk, c) → s.wrapCheck = stOk → s.wrapKey c.domain (s.blobEpoch c.domain) = some k → io.writeFault = false →
      ∃ t, exec (.keyWrap src d raw) s = .next t ∧ t.cel.wrapSeq = s.cel.wrapSeq + 1 ∧ s.useTaken t (cHandle d) [] ∧
        s.startsOp t src (s.keyed (cHandle d) (celOp src 0x22 0 (cOutAddr d) (blobOf k s.cel.bootNonce
          { c with uses := if c.uses = 0xFFFFFFFF then c.uses else c.uses - 1, epoch := s.blobEpoch c.domain } s.wrapCtr) none))) ∧
    (∀ c, s.tkBusy (cHandle d) = false → s.takesJob src d 0x23 = true → (s.celPre d io).1 = stOk →
      s.keyFor src.issuer (cHandle d) none = (stOk, c) → ∃ t, exec (.keyUnload src d raw) s = .next t ∧
        (s.opsOn (cHandle d) = false → (t.slot (hSlot (cHandle d))).live = false ∧
          (t.slot (hSlot (cHandle d))).gen = (s.slot (hSlot (cHandle d))).gen + 1 ∧ (t.slot (hSlot (cHandle d))).ctx = KeyCtx.zero) ∧
        (s.opsOn (cHandle d) = true → t.slot (hSlot (cHandle d)) = s.slot (hSlot (cHandle d)) ∧ t.cel.doomed = s.cel.doomed ++ [cHandle d]) ∧
        t.liveH (cHandle d) = false ∧ (∀ j, j ≠ hSlot (cHandle d) → t.slot j = s.slot j) ∧
        t.cel.ops = s.cel.ops ++ [celOp src 0x23 0 0 [] none]) ∧
    (s.tkBusy (cHandle d) = false → s.takesJob src d 0x24 = true → (s.celPre d io).1 = stOk →
      (hGen (cHandle d) = 0 → src.issuer ≠ 0 → exec (.keyQuery src d raw) s = .next ((s.take src).celFail src 0x24 stStateForbids 0)) ∧
      (∀ c, hGen (cHandle d) ≠ 0 → s.keyFor src.issuer (cHandle d) none = (stOk, c) → (queryOut c).length ≤ cOutLen d → io.writeFault = false →
        ∃ t, exec (.keyQuery src d raw) s = .next t ∧ t.cel.slots = s.cel.slots ∧
          s.startsOp t src { celOp src 0x24 0 (cOutAddr d) (queryOut c) none with key := cHandle d })) ∧
    (∀ c, s.takesJob src d 0x28 = true → (s.celPre d io).1 = stOk → s.keyFor src.issuer (cHandle d) (some 0) = (stOk, c) → c.type = 1 →
      cParam d ≤ cInLen d → cInLen d - cParam d + 28 ≤ cOutLen d → io.writeFault = false → ∃ t x, exec (.aesSeal src d raw) s = .next t ∧
        x = gcmSeal c.material (s.draw 12) ((io.data.take (cInLen d)).take (cParam d)) ((io.data.take (cInLen d)).drop (cParam d)) ∧
        t.drbgCtr = s.drbgCtr + 1 ∧ s.useTaken t (cHandle d) [] ∧
        s.startsOp t src (s.keyed (cHandle d) (celOp src 0x28 0 (cOutAddr d) (s.draw 12 ++ x.1 ++ x.2) none))) ∧
    (∀ c, s.takesJob src d 0x29 = true → (s.celPre d io).1 = stOk → s.keyFor src.issuer (cHandle d) (some 1) = (stOk, c) → c.type = 1 →
      cParam d + 28 ≤ cInLen d → cInLen d - cParam d - 28 ≤ cOutLen d → io.writeFault = false → ∃ t x o, exec (.aesOpen src d raw) s = .next t ∧
        x = io.data.take (cInLen d) ∧ s.useTaken t (cHandle d) [] ∧ s.startsOp t src (s.keyed (cHandle d) o) ∧
        (gcmOpen c.material (Bytes.slice x (cParam d) 12) (x.take (cParam d)) (Bytes.slice x (cParam d + 12) (cInLen d - cParam d - 28))
            (Bytes.slice x (cParam d + 12 + (cInLen d - cParam d - 28)) 16) = none → o.status = stAuthFail ∧ o.out = []) ∧
        (∀ p, gcmOpen c.material (Bytes.slice x (cParam d) 12) (x.take (cParam d)) (Bytes.slice x (cParam d + 12) (cInLen d - cParam d - 28))
            (Bytes.slice x (cParam d + 12 + (cInLen d - cParam d - 28)) 16) = some p → o = celOp src 0x29 0 (cOutAddr d) p none)) ∧
    (∀ c, s.takesJob src d 0x2A = true → (s.celPre d io).1 = stOk → hGen (cHandle d) ≠ 0 →
      s.keyFor src.issuer (cHandle d) (some 4) = (stOk, c) → cParam d = 0 → sigLen c.type ≠ 0 → sigLen c.type ≤ cOutLen d →
      io.writeFault = false → ∃ t, exec (.pkSign src d raw) s = .next t ∧ t.drbgCtr = s.drbgCtr + 1 ∧ s.useTaken t (cHandle d) [] ∧
        s.startsOp t src (s.keyed (cHandle d) (celOp src 0x2A 0 (cOutAddr d)
          (signOf c.type c.material (io.data.take (cInLen d)) (s.draw 32) false) none))) ∧
    (s.takesJob src d 0x2B = true → (s.celPre d io).1 = stOk → cParam d ≤ 1 → (cParam d = 1 → cType d ≠ 7 ∧ cType d ≠ 8) →
      ∃ t, exec (.pkVerify src d raw) s = .next t ∧ t.cel.slots = s.cel.slots ∧ s.startsOp t src { celOp src 0x2B 0 0 [] none with
        status := if Config.pkInputOk (cType d) (cParam d) (io.data.take (cInLen d)) then stOk else stAuthFail }) ∧
    (∀ c, s.takesJob src d 0x2E = true → (s.celPre d io).1 = stOk → cInLen d = 32 → 32 ≤ cOutLen d →
      s.keyFor src.issuer (cHandle d) (some 9) = (stOk, c) → c.type = 4 → s.cmd.epochPending = false → io.writeFault = false →
      ∃ t, exec (.proof src d raw) s = .next t ∧ s.useTaken t (cHandle d) [] ∧ s.startsOp t src (s.keyed (cHandle d) (celOp src 0x2E 0 (cOutAddr d)
        (kmac256 c.material (io.data.take 32 ++ s.unitId ++ s.lc ++ leBytes 4 s.cmd.epoch) 32 (ascii "MX-PROOF")) none))) ∧
    (∀ k, 69 ≤ src.ring → s.takesJob src d 0x2F = true → (s.celPre d io).1 = stOk → s.advanceCheck (cParam d) = stOk → s.cmd.blobJob = none →
      s.cmdSlot = some k → ∃ t, exec (.blobEpochAdvance src d raw) s = .next t ∧ t.cmd.blobJob = some (src, k) ∧
        (t.adm (17 + k)).st = .waiting ∧ (t.adm (17 + k)).cls = 3 ∧ (t.adm (17 + k)).what = .bank k s.idleBank (s.epochImage (cParam d)) ∧
        (∀ i, i ≠ 17 + k → t.adm i = s.adm i) ∧ t = { s.take src with cmd := t.cmd, cis := t.cis }) ∧
    (∀ ix o r, s.cel.ops[ix]? = some o → s.memOn o.src.issuer = true → (∀ k ∈ s.tks.waiting, 0x40 ≤ k.opc) →
      r = { s with cel := { s.cel with ops := s.cel.ops.eraseIdx ix } } → ∃ t, exec (.cellarOpDone ix) s = .next t ∧
      t.cel.ops = s.cel.ops.eraseIdx ix ∧ (o.destroy = none → s.cel.doomed = [] → t.cel.slots = s.cel.slots) ∧
      (∀ h, o.destroy = some h → s.liveH (wd h) = true → r.opsOn (wd h) = false → s.cel.doomed = [] → (t.slot (hSlot (wd h))).live = false ∧
        ∀ j, j ≠ hSlot (wd h) → t.slot j = s.slot j) ∧
      (∀ h, o.destroy = none → s.cel.doomed = [h] → s.heldH h = true → r.opsOn h = false → (t.slot (hSlot h)).live = false ∧
        ∀ j, j ≠ hSlot h → t.slot j = s.slot j)) ∧
    (∀ i, i < 65536 → ((s.slot i).live = false → exec (.cellarSramUe i) s = .next s) ∧
      ((s.slot i).live = true → ∃ t, exec (.cellarSramUe i) s = .next t ∧ (t.slot i).live = false ∧ (t.slot i).ctx = KeyCtx.zero ∧
        (∀ j, j ≠ i → t.slot j = s.slot j) ∧ t.evt (evCel 15) = (s.evt (evCel 15)).bump ∧ t.evt (evSys 8) = (s.evt (evSys 8)).bump ∧
        (∀ o ∈ t.cel.ops, o.key = handleOf i (s.slot i).gen → o.status = stInternal ∧ o.out = [])))

/-- MEAS_EXTEND, MEAS_READ, MEAS_SCAN, MEAS_DEFINE, EXTEND_APPLY, SCAN_START and SCAN_COMPLETE (R409, R411, R412, R417 to R429): an allowed extend
waits in its queue; the unit takes hardware extends first and each changes its slot's value and count and is logged while there is room; a
read returns the snapshot; scans run one at a time, oldest first, their ranges on the lanes, and end once every range is hashed or a
read failed, one that is to extend and finds its queue full as BUSY.
It says that `exec` completes with a next state for each of: measExtend, measRead, measDefine, measScan, extendApply, scanStart,
scanComplete. -/
def Obligations.ExtendsChainIntoTheirSlot : Prop :=
  (∀ (s : State) (src : JobSrc) (d : Desc) (raw io : JobIo), io = s.measIo src d raw →
    (s.takesJob src d 0x30 = true → measFieldsOk d = true → extTypeOk src.issuer (mType d) = true → mInLen d = 48 →
      s.mayExtend src.issuer (mSlot d) = true → (mSlot d < 16 ∨ 32 ≤ mSlot d ∨ mType d < 0x80) → s.tamp.responded = false →
      s.reqFull = false → io.fault = false → 48 ≤ io.data.length → ∃ t, exec (.measExtend src d raw) s = .next t ∧
        t.meas.reqq = s.meas.reqq ++ [{ slot := mSlot d, type := mType d, source := src.issuer, late := false, info := mInfo d,
                                        data := io.data.take 48, job := some src }] ∧
        t = { s.take src with meas := { s.meas with reqq := t.meas.reqq } }) ∧
    (s.takesJob src d 0x30 = true → measFieldsOk d = true → extTypeOk src.issuer (mType d) = true → mInLen d = 48 →
      s.mayExtend src.issuer (mSlot d) = false → exec (.measExtend src d raw) s = .next ((s.take src).complete src 0x30 stStateForbids 0 0)) ∧
    (s.takesJob src d 0x31 = true → measFieldsOk d = true → mType d = 0 → 4128 ≤ mOutLen d → s.tamp.responded = false → io.writeFault = false →
      exec (.measRead src d raw) s =
        .next (((s.take src).putOut 0x44 src (mOutAddr d) s.snapshot).complete src 0x31 stOk s.logCount 0)) ∧
    (s.takesJob src d 0x33 = true → measFieldsOk d = true → mParam d ≤ 511 →
      (isPcie (BitVec.ofNat 8 (mParam d)) = true ∨ (BitVec.ofNat 8 (mParam d) : Master) = 0x20) → src.issuer = 0 → 32 ≤ mSlot d → mSlot d ≤ 63 →
      (s.mslot (mSlot d)).defined = false → s.tamp.responded = false → ∃ t, exec (.measDefine src d raw) s = .next t ∧
        t.mslot (mSlot d) = { s.mslot (mSlot d) with defined := true, extender := BitVec.ofNat 8 (mParam d), allowScan := (mParam d).testBit 8 } ∧
        (∀ j, j ≠ mSlot d → t.mslot j = s.mslot j)) ∧
    (s.takesJob src d 0x32 = true → measFieldsOk d = true → mType d ≤ 2 → 48 ≤ mInLen d → mInLen d ≤ 16416 → mSlot d ≤ 63 →
      s.mayScan src.issuer d = true → s.tamp.responded = false → s.meas.scans.length < 8 → (mType d = 2 → s.reqFull = false) →
      io.fault = false → mInLen d ≤ io.data.length → scanListOk io.data = true → mInLen d = 32 + 16 * scanCount io.data →
      (mOutLen d = 0 ∨ 64 + 64 * scanCount io.data ≤ mOutLen d) → ∃ t, exec (.measScan src d raw) s = .next t ∧
        t.meas.scans.length = s.meas.scans.length + 1 ∧ t.meas.scans.take s.meas.scans.length = s.meas.scans ∧
        t = { s.take src with meas := { s.meas with scans := t.meas.scans } })) ∧
  (∀ (s : State) (e : MEntry) (b : Bytes),
    (s.meas.hwq.head? = some e ∨ (s.meas.hwq = [] ∧ s.meas.reqq.head? = some e ∧ e.job = none)) →
    b = logEntry e (satInc (s.mslot e.slot).count).toNat s.lineStamp → ∃ t, exec .extendApply s = .next t ∧
      (t.mslot e.slot).value = sha384 ((s.mslot e.slot).value ++ extendDigest b) ∧ (t.mslot e.slot).count = satInc (s.mslot e.slot).count ∧
      (∀ j, j ≠ e.slot → t.mslot j = s.mslot j) ∧
      (s.logCount < 8191 → (t.mslot e.slot).unlogged = (s.mslot e.slot).unlogged ∧ t.meas.log = s.meas.log ++ [b]) ∧
      (8191 ≤ s.logCount → (t.mslot e.slot).unlogged = satInc (s.mslot e.slot).unlogged ∧
        t.meas.log = if s.logCount = 8191 then s.meas.log ++ [s.logFull] else s.meas.log) ∧
      (s.meas.hwq ≠ [] → t.meas.reqq = s.meas.reqq) ∧ t = { s with meas := t.meas }) ∧
  (∀ s : State, s.meas.hwq = [] → s.meas.reqq = [] → exec .extendApply s = .next s) ∧
  (∀ (s : State) (j : ScanJob) (rest : List ScanJob), s.meas.scan = none → s.meas.scans = j :: rest →
    ∃ t, exec .scanStart s = .next t ∧ t.meas.scans = rest ∧ t.meas.reqq = s.meas.reqq ∧
      t.meas.scan.map (fun x => { x with next := j.next }) = some j) ∧
  (∀ (s : State) (j : ScanJob), s.meas.scan = some j → (∀ e ∈ j.ends, e.2.st = stOk) →
    (scanCount j.list ≤ j.next ∨ 32 ≤ j.next - j.ends.length ∨ s.ctxAlloc 0x44 = none → exec .scanStart s = .next s) ∧
    (j.next < scanCount j.list → j.next - j.ends.length < 32 → s.ctxAlloc 0x44 ≠ none → ∃ t y, exec .scanStart s = .next t ∧
      t.meas.scan = some y ∧ j.next < y.next ∧ y.next ≤ scanCount j.list ∧ y.next - y.ends.length ≤ 32 ∧ { y with next := j.next } = j ∧
      t.meas = { s.meas with scan := some y })) ∧
  (∀ (s : State) (j : ScanJob), s.meas.scan = some j → s.memOn j.src.issuer = true →
    (∀ tag, tag ≠ j.src.tag → exec (.scanComplete tag) s = .next s) ∧
    (j.hashed = false → j.short = false → exec (.scanComplete j.src.tag) s = .next s) ∧
    (j.short = true → ∃ t, exec (.scanComplete j.src.tag) s = .next t ∧ t.meas.scan = none ∧ t.meas.reqq = s.meas.reqq) ∧
    (j.short = false → j.hashed = true → mType j.desc = 2 → s.reqFull = true → exec (.scanComplete j.src.tag) s =
      .next (({ s with meas := { s.meas with scan := none } }).complete j.src 0x32 stBusy 0 0)) ∧
    (j.short = false → j.hashed = true → (mType j.desc = 2 → s.reqFull = false) → ∃ t, exec (.scanComplete j.src.tag) s = .next t ∧ t.meas.scan = none ∧
      (mType j.desc ≠ 2 → t.meas.reqq = s.meas.reqq) ∧
      (mType j.desc = 2 → t.meas.reqq = s.meas.reqq ++
        [{ slot := mSlot j.desc, type := 0x20, source := j.src.issuer, late := false, info := scanCount j.list,
           data := sha384 ((List.range (scanCount j.list)).map (fun i => match j.endOf i with | some e => e.digest | none => [])).flatten,
           job := none }])))

/-! ### SPDM, the link, functions, DOE and IDE -/

/-- SPDM_GET_VERSION, SPDM_GET_CAPABILITIES, SPDM_NEGOTIATE_ALGORITHMS, SPDM_GET_DIGESTS, SPDM_GET_CERTIFICATE, SPDM_CHALLENGE,
SPDM_GET_MEASUREMENTS, SPDM_KEY_EXCHANGE, SPDM_FINISH, SPDM_KEY_UPDATE, SPDM_END_SESSION, SPDM_HEARTBEAT, SPDM_CHUNK_SEND, SPDM_CHUNK_GET,
SPDM_PQ_SIG, SPDM_PQ_CHAIN and SPDM_UNSUPPORTED (R433 to R437, R439): after the runtime release every message that carries a request has one
answer, on its own transport, in the order that the negotiation asks for, in a session as a record; a record that does not open is discarded; after
a tamper response every answer is ERROR Unspecified, and one to a request of another version than the negotiated one is VersionMismatch.
It says that `exec` completes with a next state for each of: spdmGetVersion, spdmGetCapabilities, spdmNegotiateAlgorithms, spdmGetDigests,
spdmGetCertificate, spdmChallenge, spdmGetMeasurements, spdmKeyExchange, spdmFinish, spdmKeyUpdate, spdmEndSession, spdmHeartbeat,
spdmChunkSend, spdmChunkGet, spdmPqSig, spdmPqChain, spdmUnsupported. -/
def Obligations.SpdmRequestsHaveOneAnswerOnTheirTransport : Prop :=
  ∀ (s : State) (tr : Transport) (q : Bytes), s.boot.rtReleased = true → s.coreUp = true →
    (s.opened tr q = none → ∀ p, exec (spdmCommand tr q p) s = .next s) ∧
    (tSecured tr = false → s.opened tr q = some q) ∧
    (∀ (x : State) (was : Option SpdmSession) (a : Bytes), tSecured tr = false → (tMctp tr = false ∨ a.length ≤ 4096) →
      x.spdmOut tr was a = x.out (.spdm (tNum tr) a)) ∧
    (∀ (x : State) (y : SpdmSession) (a : Bytes), tSecured tr = true → (tMctp tr = false ∨ a.length ≤ 4096) → (x.conn tr).session = some y →
      ∃ u, x.spdmOut tr (some y) a = u ∧ u.outbox = x.outbox ++ [.spdm (tNum tr) (recSeal (tMctp tr) (x.conn tr).ver y a)] ∧
        (u.conn tr).session = some { y with rspSeq := y.rspSeq + 1 }) ∧
    (∀ (p : Bytes) (r : State), s.opened tr q = some p → r = s.recTaken tr →
      (s.tamp.responded = true → exec (spdmCommand tr q p) s = .next (r.spdmErr tr 5)) ∧
      (s.tamp.responded = false → (r.conn tr).verOk p = false → exec (spdmCommand tr q p) s = .next (r.spdmErr tr 0x41)) ∧
      (s.tamp.responded = false → (r.conn tr).verOk p = true →
      (qCode p = 0x84 → ∃ t x a, exec (.spdmGetVersion tr q) s = .next t ∧ r.answers t tr x a ∧ qCode a = 0x04 ∧
        x.conn tr = { SpdmConn.reset with step := 1, transcript := p ++ a, lastM := (r.conn tr).lastM }) ∧
      (qCode p = 0xE1 →
        ((r.conn tr).step ≠ 1 → exec (.spdmGetCapabilities tr q) s = .next (r.spdmErr tr 4)) ∧
        ((r.conn tr).step = 1 → (Bytes.num p 0 1 = 0x12 ∨ Bytes.num p 0 1 = 0x13) → ∃ t x a, exec (.spdmGetCapabilities tr q) s = .next t ∧
          r.answers t tr x a ∧ qCode a = 0x61 ∧ (x.conn tr).version = Bytes.num p 0 1 ∧ (x.conn tr).step = 2)) ∧
      (qCode p = 0xE3 →
        ((r.conn tr).step ≠ 2 → exec (.spdmNegotiateAlgorithms tr q) s = .next (r.spdmErr tr 4)) ∧
        ((r.conn tr).step = 2 → ∃ t x a, exec (.spdmNegotiateAlgorithms tr q) s = .next t ∧ r.answers t tr x a ∧ qCode a = 0x63 ∧
          (x.conn tr).step = 3 ∧ (x.conn tr).vca = (r.conn tr).transcript ++ p ++ a)) ∧
      ((r.conn tr).step ≠ 3 → ∀ c ∈ [0x81, 0x82, 0x83, 0xE0, 0xE4], qCode p = c →
        exec (spdmCommand tr q p) s = .next (r.spdmErr tr 4)) ∧
      ((r.conn tr).step = 3 →
        (qCode p = 0x81 → ∃ t x a, exec (.spdmGetDigests tr q) s = .next t ∧ r.answers t tr x a ∧ qCode a = 0x01) ∧
        (qCode p = 0x82 →
          ((r.spdmChain (qP1 p % 16) = none ∨ ∃ c, r.spdmChain (qP1 p % 16) = some c ∧ c.length ≤ Bytes.num p 4 2) →
            exec (.spdmGetCertificate tr q) s = .next (r.spdmErr tr 1)) ∧
          (∀ c, r.spdmChain (qP1 p % 16) = some c → Bytes.num p 4 2 < c.length → (∃ y, c = y ++ r.aliasDer false) ∧
            ∃ t x a, exec (.spdmGetCertificate tr q) s = .next t ∧ r.answers t tr x a ∧ qCode a = 0x02 ∧
              a.drop 8 = Bytes.slice c (Bytes.num p 4 2) (min (Bytes.num p 6 2) 4096))) ∧
        (qCode p = 0x83 → ∃ t x a, exec (.spdmChallenge tr q) s = .next t ∧ r.answers t tr x a ∧ qCode a = 0x03 ∧
          (x.conn tr).lastM ≠ none ∧ (x.conn tr).transcript = (r.conn tr).vca) ∧
        (qCode p = 0xE0 → ∃ t x a, exec (.spdmGetMeasurements tr q) s = .next t ∧ r.answers t tr x a ∧ qCode a = 0x60 ∧
          Bytes.num a 4 1 = (r.mBlocks (qP2 p)).length % 256 ∧ (qP1 p % 2 = 0 → (x.conn tr).lastM = (r.conn tr).lastM)) ∧
        (qCode p = 0xE4 →
          (Config.kexPeerOk 0xE (Bytes.slice p 40 96) = false → exec (.spdmKeyExchange tr q) s = .next (r.spdmErr tr 1)) ∧
          (Config.kexPeerOk 0xE (Bytes.slice p 40 96) = true → ∃ t x a y, exec (.spdmKeyExchange tr q) s = .next t ∧ r.answers t tr x a ∧
            qCode a = 0x64 ∧ (x.conn tr).session = some y ∧ y.id = Bytes.num p 4 2 + 65536 * leNat (r.draw 2) ∧ y.finished = false ∧
            y.hs = hmac384 (zeros 48) (Config.take 48 (Config.kexSecretByte 0xE (r.drew.drew.draw 48) (Bytes.slice p 40 96)))))) ∧
      ((tSecured tr = false ∨ (r.conn tr).session = none) → ∀ c ∈ [0xE5, 0xE9, 0xEC, 0xE8], qCode p = c →
        exec (spdmCommand tr q p) s = .next (r.spdmErr tr 4)) ∧
      (∀ y, tSecured tr = true → (r.conn tr).session = some y →
        (qCode p = 0xE5 → y.finished = false →
          (spdmVerify (r.conn tr).ver y.req (y.th ++ p.take 4) ≠ Bytes.slice p 4 48 → exec (.spdmFinish tr q) s = .next (r.spdmErr tr 6)) ∧
          (spdmVerify (r.conn tr).ver y.req (y.th ++ p.take 4) = Bytes.slice p 4 48 → ∃ t x a z, exec (.spdmFinish tr q) s = .next t ∧
            r.answers t tr x a ∧ qCode a = 0x65 ∧ (x.conn tr).session = some z ∧ z.finished = true ∧ z.id = y.id ∧
            z = y.finish (r.conn tr).ver (y.th ++ p.take 4 ++ Bytes.slice p 4 48 ++ a))) ∧
        (y.finished = true →
          (qCode p = 0xE9 → (qP1 p = 1 ∨ qP1 p = 2) → ∃ t x a, exec (.spdmKeyUpdate tr q) s = .next t ∧ r.answers t tr x a ∧ qCode a = 0x69 ∧
            (x.conn tr).session = some (y.update (r.conn tr).ver (qP1 p == 2))) ∧
          (qCode p = 0xE9 → qP1 p = 3 → ∃ t x a, exec (.spdmKeyUpdate tr q) s = .next t ∧ r.answers t tr x a ∧ qCode a = 0x69 ∧
            (x.conn tr).session = some y) ∧
          (qCode p = 0xEC → ∃ t x a, exec (.spdmEndSession tr q) s = .next t ∧ r.answers t tr x a ∧ qCode a = 0x6C ∧
            (x.conn tr).session = none) ∧
          (qCode p = 0xE8 → ∃ t, exec (.spdmHeartbeat tr q) s = .next t ∧ r.answers t tr r (rHead (r.conn tr).ver 0x68 0 0)))) ∧
      (qCode p = 0x85 →
        (Bytes.num p 4 2 ≠ 0 → Bytes.num p 4 2 ≠ (r.conn tr).chunkInSeq → exec (.spdmChunkSend tr q) s = .next (r.spdmErr tr 4)) ∧
        (Bytes.num p 4 2 = 0 → qP1 p % 2 = 0 → ∃ t x a, exec (.spdmChunkSend tr q) s = .next t ∧ r.answers t tr x a ∧ qCode a = 0x05 ∧
          (x.conn tr).chunkIn = Bytes.slice p 16 (Bytes.num p 8 4) ∧ (x.conn tr).chunkInSeq = 1)) ∧
      (qCode p = 0x86 →
        ((r.conn tr).chunkOut = [] → exec (.spdmChunkGet tr q) s = .next (r.spdmErr tr 4)) ∧
        ((r.conn tr).chunkOut ≠ [] → Bytes.num p 4 2 = (r.conn tr).chunkOutSeq → ∃ t x a, exec (.spdmChunkGet tr q) s = .next t ∧
          r.answers t tr x a ∧ qCode a = 0x06 ∧ (x.conn tr).chunkOutSeq = (r.conn tr).chunkOutSeq + 1 ∧
          (x.conn tr).chunkOut.length < (r.conn tr).chunkOut.length)) ∧
      (isPq p 1 = true →
        ((r.conn tr).lastM = none → ∃ t, exec (.spdmPqSig tr q) s = .next t ∧ r.answers t tr r (rVendor (r.conn tr) [1, stStateForbids])) ∧
        (∀ m, (r.conn tr).lastM = some m → ∃ t, exec (.spdmPqSig tr q) s = .next t ∧ r.answers t tr r.drew
          (rVendor (r.conn tr) ([1, stOk] ++ signOf 8 (((r.protectedKey 3).map (fun x => x.2)).getD []) m (r.draw 32) false)))) ∧
      (isPq p 2 = true →
        (4096 < Bytes.num (qPayload p) 5 2 →
          ∃ t, exec (.spdmPqChain tr q) s = .next t ∧ r.answers t tr r (rVendor (r.conn tr) [2, stBadLength])) ∧
        (Bytes.num (qPayload p) 5 2 ≤ 4096 → ∃ t a, exec (.spdmPqChain tr q) s = .next t ∧ r.answers t tr r a ∧ qCode a = 0x7E)) ∧
      (qCode p ∉ spdmCodes → isPq p 1 = false → isPq p 2 = false → exec (.spdmUnsupported tr q) s = .next (r.spdmErr tr 7))))

/-- LINK_UP, LINK_DOWN, LINK_RETRAIN, VF_FLR, VF_DISABLE, PF0_FLR, FLR_COMPLETE, FUNC_POWER_CHANGE and AER_ERR (R441, R442, R445, R446, R450): a
trained link takes the lower of what both ends allow, by the LINK_CTRL that stood when a retraining began; a link-down or an FLR puts the
function's queues at their reset values, and an FLR of a VF leaves it no live key context; each is counted. A function that may issue requests
again issues those that waited.
It says that `exec` completes with a next state for each of: linkUp, linkDown, pf0Flr, linkRetrain, vfFlr, vfDisable, flrComplete,
funcPowerChange, aerErr. -/
def Obligations.LinkAndFunctionResetsClearTheirQueues : Prop :=
  (∀ (s : State) (v w : Nat), (s.linkMay = false → exec (.linkUp v w) s = .next s) ∧
    (s.linkMay = true → 1 ≤ v → v ≤ 5 → w ∈ [1, 2, 4, 8, 16] → (s.hq.up = false ∨ s.hq.training = true) →
      ∃ t, exec (.linkUp v w) s = .next t ∧
        t = { s.routed t with hq :=
          { s.hq with up := true, speed := s.linkSpeed v, width := s.linkWidth w, training := false, trainCtl := none } } ∧
        (s.hq.trainCtl = none → s.trainWord = s.reg (pg 0x140 0x44)) ∧ (∀ c, s.hq.trainCtl = some c → s.trainWord = c) ∧
        (s.hq.up = false → t.evt (evLink 0) = (s.evt (evLink 0)).bump) ∧
        (s.hq.up = true → s.hq.speed ≠ s.linkSpeed v → t.evt (evLink 2) = (s.evt (evLink 2)).bump))) ∧
  (∀ s : State, (s.hq.up = false → exec .linkDown s = .next s ∧ exec .pf0Flr s = .next s) ∧
    (s.hq.up = true → (∃ t, exec .linkDown s = .next t ∧ t.hq.up = false ∧ t.hq.speed = 0 ∧ t.hq.linkDowns = satInc s.hq.linkDowns ∧
        t.hq.vfEnable = false ∧ t.hq.ideSecure = 0 ∧ t.hq.ideKeys = [] ∧ t.hq.flrPending = 0 ∧ (∀ i, i < 16 → t.queue i = Queue.reset) ∧
        t.evt (evLink 1) = (s.evt (evLink 1)).bump) ∧
      (∃ t, exec .pf0Flr s = .next t ∧ t.hq.up = true ∧ t.hq.flrPending.getLsbD 0 = true ∧ (∀ i, i < 16 → t.queue i = Queue.reset) ∧
        t.fn 0 = FnState.reset ∧ t.hq.vfEnable = false ∧ t.evt (evLink 3) = (s.evt (evLink 3)).bump))) ∧
  (∀ (s : State) (m : Master), s.admits m (pg 0x140 0x48) = true →
    (s.hq.up = false → exec (.linkRetrain m) s = .next s) ∧
    (s.hq.up = true → exec (.linkRetrain m) s =
      .next { s with hq := { s.hq with training := true, trainCtl := some (s.reg (pg 0x140 0x44)) } })) ∧
  (∀ (s : State) (v : Fin 16), (s.vfOn v.val = false → exec (.vfFlr v) s = .next s) ∧
    (s.vfOn v.val = true → ∃ t, exec (.vfFlr v) s = .next t ∧ t.queue (13 + 3 * v.val) = Queue.reset ∧
      t.queue (14 + 3 * v.val) = Queue.reset ∧ t.queue (15 + 3 * v.val) = Queue.reset ∧ t.fn v.val = FnState.reset ∧
      t.hq.flrPending = putBit s.hq.flrPending v.val true ∧ 
      (∀ i, i < 65536 → (t.slot i).live = true → (t.slot i).ctx.owner = fnMaster v.val → t.liveH (handleOf i (t.slot i).gen) = false) ∧
      t.evt (evLink 4) = (s.evt (evLink 4)).bump)) ∧
  (∀ (s : State) (n : Nat), (s.hq.vfEnable = true → n < s.hq.numVfs → ∃ t, exec (.vfDisable n) s = .next t ∧ t.hq.numVfs = n ∧
      t.hq.vfEnable = (n != 0) ∧ (∀ v : Nat, n < v → v ≤ s.hq.numVfs → v < 16 → t.queue (13 + 3 * v) = Queue.reset ∧
        t.hq.flrPending.getLsbD v = true) ∧ t.evt (evLink 4) = (s.evt (evLink 4)).bump) ∧
    ((s.hq.vfEnable = false ∨ s.hq.numVfs ≤ n) → exec (.vfDisable n) s = .next s)) ∧
  (∀ (s : State) (f : Fin 16), exec (.flrComplete f) s =
    .next { s with hq := { s.hq with flrPending := putBit s.hq.flrPending f.val false } }) ∧
  (∀ (s : State) (f : Fin 16) (d3 bme : Bool) (ctl : FnCtl), ((s.hq.up = false ∨ s.hq.flrPending.getLsbD f.val = true) →
      exec (.funcPowerChange f d3 bme ctl) s = .next s) ∧
    (s.hq.up = true → s.hq.flrPending.getLsbD f.val = false → ∃ t, exec (.funcPowerChange f d3 bme ctl) s = .next t ∧
      t.fn f.val = { d3 := d3, bme := bme, ctl := cfgStored ctl } ∧ (t.fn f.val).ctl.bar0.toNat = ctl.bar0.toNat / 2 ^ 25 * 2 ^ 25 ∧
      (t.fn f.val).ctl.bar2.toNat = ctl.bar2.toNat / 2 ^ 26 * 2 ^ 26 ∧ (t.fn f.val).ctl.vfBar.toNat = ctl.vfBar.toNat / 2 ^ 14 * 2 ^ 14 ∧
      (∀ g, g ≠ f.val → t.fn g = s.fn g) ∧ (f.val ≠ 0 → t.vfOn f.val = true) ∧
      ((d3 = true ∨ bme = false) → t.hq.stalled = s.hq.stalled ∧ t = { s with hq := t.hq }) ∧
      (d3 = false → bme = true → t.hq.stalled = s.hq.stalled.filter (fun w => w.fn != fnMaster f.val)) ∧
      ((∀ w ∈ s.hq.stalled, w.fn ≠ fnMaster f.val) → t = { s with hq := t.hq }))) ∧
  (∀ s : State, exec (.aerErr .receiver) s = .next { s with hq := { s.hq with rxErrs := satInc s.hq.rxErrs } } ∧
    exec (.aerErr .replay) s = .next { s with hq := { s.hq with replays := satInc s.hq.replays } } ∧
    ∃ t, exec (.aerErr .aer) s = .next t ∧ t.evt (evLink 7) = (s.evt (evLink 7)).bump ∧ t = s.routed t)

/-- DOE_WRITE, DOE_GO, DOE_ABORT, DOE_SEND, DOE_FAIL, IDE_KEY_INSTALL and IDE_INTEGRITY_FAIL (R443, R447 to R449): dwords gather into an object,
which Go checks and answers or hands to the runtime, while the endpoint serves PF0; an abort empties the mailbox; a response goes out only for an object; a stream is
secure from its key on and Insecure from an integrity failure on.
It says that `exec` completes with a next state for each of: doeWrite, doeGo, doeAbort, ideKeyInstall, ideIntegrityFail, doeSend, doeFail. -/
def Obligations.TheDoeMailboxCarriesOneObject : Prop :=
  (∀ (s : State), s.doeTakes = false → (∀ w : Word, exec (.doeWrite w) s = .next s) ∧ exec .doeGo s = .next s ∧ exec .doeAbort s = .next s) ∧
  (∀ (s : State), s.doeTakes = true →
    (∀ w : Word, s.hq.doe.busy = false → s.hq.doe.req.length ≤ 65540 → exec (.doeWrite w) s =
      .next ((s.setBytes (0x10480000 + s.hq.doe.req.length) (leBytes 4 w.toNat)).modDoe (fun d => { d with
        req := s.hq.doe.req ++ leBytes 4 w.toNat }))) ∧
    (∀ w : Word, (s.hq.doe.busy = true ∨ 65540 < s.hq.doe.req.length) → exec (.doeWrite w) s =
      .next { s with hq := { s.hq with doe := { s.hq.doe with error := true, req := [] } } }) ∧
    (s.hq.doe.busy = true → exec .doeGo s = .next s) ∧
    (s.hq.doe.busy = false → (s.hq.doe.req.length < 8 ∨ doeLen s.hq.doe.req ≠ s.hq.doe.req.length) →
      exec .doeGo s = .next { s with hq := { s.hq with doe := { s.hq.doe with error := true, req := [] } } }) ∧
    (s.hq.doe.busy = false → 8 ≤ s.hq.doe.req.length → doeLen s.hq.doe.req = s.hq.doe.req.length →
      ∃ t, exec .doeGo s = .next t ∧ t.hq.doeObjects = satInc s.hq.doeObjects ∧
        (Bytes.num s.hq.doe.req 0 2 = 1 → Bytes.num s.hq.doe.req 2 1 = 0 → t.hq.doe.dataReady = true ∧
          t.hq.doe.req = [] ∧ t.hq.doe.rsp = doeDiscovery (Bytes.num s.hq.doe.req 8 1) ∧ t = { s with hq := t.hq }) ∧
        (Bytes.num s.hq.doe.req 0 2 = 1 → (Bytes.num s.hq.doe.req 2 1 = 1 ∨ Bytes.num s.hq.doe.req 2 1 = 2) →
          t.hq.doe = { s.hq.doe with busy := true, ready := true, aborted := false, dataReady := false,
                                     protocol := Bytes.num s.hq.doe.req 2 1 } ∧
          t.evt (evLink 5) = (s.evt (evLink 5)).bump ∧ t = { s.recorded t with hq := t.hq }) ∧
        ((Bytes.num s.hq.doe.req 0 2 ≠ 1 ∨ 2 < Bytes.num s.hq.doe.req 2 1) → t.hq.doe.error = true ∧ t = { s with hq := t.hq })) ∧
    (∃ t, exec .doeAbort s = .next t ∧ t.hq.doe = { s.hq.doe with req := [], rsp := [], ready := false, busy := false, error := false,
                                                                  aborted := true, dataReady := false } ∧
      t = { s with hq := { s.hq with doe := t.hq.doe } })) ∧
  (∀ (s : State) (k : IdeKey), ((s.hq.up = false ∨ s.doeSecured = false) → exec (.ideKeyInstall k) s = .next s) ∧
    (s.hq.up = true → s.doeSecured = true → ∃ t, exec (.ideKeyInstall k) s = .next t ∧ t.hq.ideSecure.getLsbD k.stream.val = true ∧
      SMap.get (fun _ => []) t.hq.ideKeys k.stream.val = k.key ∧
      (∀ j, j < 5 → j ≠ k.stream.val → t.hq.ideSecure.getLsbD j = s.hq.ideSecure.getLsbD j ∧
        SMap.get (fun _ => []) t.hq.ideKeys j = SMap.get (fun _ => []) s.hq.ideKeys j) ∧
      t = { s with hq := { s.hq with ideSecure := t.hq.ideSecure, ideKeys := t.hq.ideKeys } })) ∧
  (∀ (s : State) (k : Fin 5), (s.hq.ideSecure.getLsbD k.val = false → exec (.ideIntegrityFail k) s = .next s) ∧
    (s.hq.ideSecure.getLsbD k.val = true → ∃ t, exec (.ideIntegrityFail k) s = .next t ∧ t.hq.ideSecure.getLsbD k.val = false ∧
      t.hq.ideErrs = satInc s.hq.ideErrs ∧ t.evt (evLink 6) = (s.evt (evLink 6)).bump ∧ t = { s.routed t with hq := t.hq })) ∧
  (∀ (s : State) (m : Master), s.admits m (aDoe 0x4C) = true →
    (s.hq.doe.ready = true → 8 ≤ s.rspLen → s.rspLen ≤ 65544 → ∃ t, exec (.doeSend m) s = .next t ∧
      t.hq.doe = { s.hq.doe with rsp := s.bytes 0x104A0000 s.rspLen, req := [], ready := false, busy := false, dataReady := true } ∧
      t = { s with hq := { s.hq with doe := t.hq.doe } }) ∧
    (s.hq.doe.ready = true → exec (.doeFail m) s =
      .next { s with hq := { s.hq with doe := { s.hq.doe with error := true, req := [], ready := false, busy := false } } }) ∧
    (s.hq.doe.ready = false → exec (.doeSend m) s = .next (s.refuse m (aDoe 0x4C)) ∧
      exec (.doeFail m) s = .next (s.refuse m (aDoe 0x4C))))

/-! ### Queues, rings and host commands -/

/-- QUEUE_ENABLE, QUEUE_DISABLE, QUEUE_DRAINED, SQ_DOORBELL, CQ_HEAD_WRITE, DESCRIPTOR_FETCH, DESCRIPTOR_START, NOP, RING_ENABLE, RING_DISABLE,
RING_DOORBELL and RING_CQ_HEAD (R453, R456 to R462, R465, R466, R513): a queue or ring opens only with a legal configuration, takes
pointers only within its size and its tail, fetches and starts its descriptors at the priority that it then has, and gets one completion entry
for each, at CQ_BASE + 32 × CQ_TAIL, which waits while its function may issue no memory request; a failed read puts it into ERROR.
It says that `exec` completes with a next state for each of: queueEnable, queueDisable, ringEnable, ringDisable, queueDrained, sqDoorbell,
cqHeadWrite, ringDoorbell, ringCqHead, descriptorFetch, descriptorStart, nop. -/
def Obligations.QueuesFollowTheirPointersAndStates : Prop :=
  (∀ (s : State) (m : Master) (q : Fin 64), s.admits m (aQ q.val 0x54) = true →
    ((s.queue q.val).st ≠ .disabled → exec (.queueEnable m q) s = .next (s.refuse m (aQ q.val 0x54))) ∧
    ((s.queue q.val).st = .disabled → s.qSizeOk q.val = true →
      exec (.queueEnable m q) s = .next (s.setQueue q.val (s.queue q.val).opened)) ∧
    ((s.queue q.val).st = .disabled → s.qSizeOk q.val = false → ∃ t, exec (.queueEnable m q) s = .next t ∧
      (t.queue q.val).st = .disabled ∧ (t.queue q.val).cause = 5 ∧ (∀ k, k ≠ q.val → t.queue k = s.queue k) ∧
      t = { s with hq := t.hq, freeCtr := s.freeCtr + 1 }) ∧
    (((s.queue q.val).st = .enabled ∨ (s.queue q.val).st = .error) →
      exec (.queueDisable m q) s = .next (s.setQueue q.val { s.queue q.val with st := .draining })) ∧
    (((s.queue q.val).st = .disabled ∨ (s.queue q.val).st = .draining) →
      exec (.queueDisable m q) s = .next (s.refuse m (aQ q.val 0x54)))) ∧
  (∀ (s : State) (m : Master) (h : Fin 5), s.admits m (aHart h.val 0x5C) = true →
    ((s.queue (64 + h.val)).st = .disabled → s.ringOk h.val = true →
      exec (.ringEnable m h) s = .next (s.setQueue (64 + h.val) (s.queue (64 + h.val)).opened)) ∧
    (((s.queue (64 + h.val)).st = .enabled ∨ (s.queue (64 + h.val)).st = .error) →
      exec (.ringDisable m h) s = .next (s.setQueue (64 + h.val) { s.queue (64 + h.val) with st := .draining }))) ∧
  (∀ (s : State) (q : Nat), q < 69 → (s.queue q).st = .draining →
    ((s.queue q).fetched = [] → exec (.queueDrained q) s = .next (s.setQueue q { s.queue q with st := .disabled })) ∧
    ((s.queue q).fetched ≠ [] → exec (.queueDrained q) s = .next s)) ∧
  (∀ (s : State) (m : Master) (q : Fin 64) (v : Word), s.admits m (aQ q.val 0x5C) = true →
    ((s.queue q.val).st ≠ .enabled → exec (.sqDoorbell m q v) s = .next (s.refuse m (aQ q.val 0x5C))) ∧
    ((s.queue q.val).st = .enabled → Word.field v 11 0 < s.qSize q.val →
      exec (.sqDoorbell m q v) s = .next (s.setQueue q.val { s.queue q.val with sqTail := Word.field v 11 0 })) ∧
    ((s.queue q.val).st = .enabled → s.qSize q.val ≤ Word.field v 11 0 → ∃ t, exec (.sqDoorbell m q v) s = .next t ∧
      (t.queue q.val).cause = 1 ∧ (t.queue q.val).sqTail = (s.queue q.val).sqTail ∧ (t.queue q.val).st = .enabled)) ∧
  (∀ (s : State) (m : Master) (q : Fin 64) (v : Word), s.admits m (aQ q.val 0x64) = true →
    (Word.field v 11 0 < s.qSize q.val → ringDist (s.qSize q.val) (s.queue q.val).cqHead (Word.field v 11 0) ≤ s.cqUsed q.val →
      exec (.cqHeadWrite m q v) s = .next (s.setQueue q.val { s.queue q.val with cqHead := Word.field v 11 0 })) ∧
    ((s.qSize q.val ≤ Word.field v 11 0 ∨ s.cqUsed q.val < ringDist (s.qSize q.val) (s.queue q.val).cqHead (Word.field v 11 0)) →
      ∃ t, exec (.cqHeadWrite m q v) s = .next t ∧ (t.queue q.val).cause = 2 ∧ (t.queue q.val).cqHead = (s.queue q.val).cqHead)) ∧
  (∀ (s : State) (h : Fin 5) (v : Word), s.runs h.val = true →
    ((s.queue (64 + h.val)).st = .enabled → Word.field v 11 0 < s.qSize (64 + h.val) →
      exec (.ringDoorbell h v) s = .next (s.setQueue (64 + h.val) { s.queue (64 + h.val) with sqTail := Word.field v 11 0 })) ∧
    (Word.field v 11 0 < s.qSize (64 + h.val) →
      ringDist (s.qSize (64 + h.val)) (s.queue (64 + h.val)).cqHead (Word.field v 11 0) ≤ s.cqUsed (64 + h.val) →
      exec (.ringCqHead h v) s = .next (s.setQueue (64 + h.val) { s.queue (64 + h.val) with cqHead := Word.field v 11 0 }))) ∧
  (∀ (s : State) (q : Nat) (od : Option Desc), q < 69 →
    (s.mayFetch q = false → exec (.descriptorFetch q od) s = .next s) ∧
    (s.mayFetch q = true → ∃ t, exec (.descriptorFetch q od) s = .next t ∧
      (od = none → (t.queue q).st = .error ∧ (t.queue q).cause = 3 ∧ (t.queue q).fetched = (s.queue q).fetched) ∧
      (∀ x d, od = some x → d = (if 64 ≤ q then s.ringDesc q else descOf x) →
        t = s.setQueue q { s.queue q with
          sqHead := if s.qSize q ≤ (s.queue q).sqHead + 1 then 0 else (s.queue q).sqHead + 1,
          fetched := (s.queue q).fetched ++ [{ slot := (s.queue q).sqHead, desc := d, started := false, taken := false,
                                               seq := (s.queue q).freeSeq (s.queue q).sqHead }] }))) ∧
  (∀ (s : State) (q slot : Nat), (s.queue q).waiting slot = none → exec (.descriptorStart q slot) s = .next s) ∧
  (∀ (s : State) (q slot : Nat) (e : QEntry), q < 69 → (s.queue q).waiting slot = some e →
    ((s.queue q).mayStart q e = false → exec (.descriptorStart q slot) s = .next s) ∧
    ((s.queue q).mayStart q e = true →
      (s.startFail q e.desc = none → exec (.descriptorStart q slot) s =
        .next (s.setQueue q ((s.queue q).modEntry e.slot e.seq (fun x => { x with started := true, prio := s.eprio q })))) ∧
      (∀ st, s.startFail q e.desc = some st → ∃ t, exec (.descriptorStart q slot) s = .next t ∧
        (s.memOn (qSrc q e).issuer = true → (t.queue q).entry e.slot e.seq = none) ∧
        (s.memOn (qSrc q e).issuer = false → t.hq.stalled = s.hq.stalled ++ [.entry (qSrc q e) (dopc e.desc) st 0 0])))) ∧
  (∀ (s : State) (src : JobSrc) (d : Desc), s.takesJob src d 0 = true → src.ring < 64 → (s.queue src.ring).cqFault = false →
    ∃ t, exec (.nop src d) s = .next t ∧ (t.queue src.ring).entry src.slot src.seq = none ∧
      (src.cqFail = false → (∃ r, t.outbox = s.outbox ++ .completion src.ring (s.cqBase src.ring + 32 * (s.queue src.ring).cqTail)
          (cqEntry src.tag stOk 0 (s.queue src.ring).sqHead src.slot 0 0 (s.queue src.ring).phase) :: r) ∧
        (t.queue src.ring).cqTail = (if s.qSize src.ring ≤ (s.queue src.ring).cqTail + 1 then 0 else (s.queue src.ring).cqTail + 1) ∧
        (t.queue src.ring).phase = ((s.queue src.ring).phase != ((t.queue src.ring).cqTail == 0)) ∧
        (t.queue src.ring).done = satInc (s.queue src.ring).done ∧
        t.evt (evQueue src.ring) = (s.evt (evQueue src.ring)).bump) ∧
      (src.cqFail = true → (t.queue src.ring).st = .error ∧ (t.queue src.ring).cause = 4 ∧ (t.queue src.ring).errSlot = src.slot))

/-- HOST_NEGOTIATE, GET_EPOCH, ISSUER_LIST, MCTP_REQUEST, ENVELOPE, ENVELOPE_EPOCH_TIMEOUT and ISSUER_BOOTSTRAP (R471, R474, R477 to R481, R488,
R493, R495): the highest common version is chosen; an envelope that passes its checks runs and its counter is used up, one that fails
completes with the first failing check's code; one that waits too long for the epoch is deferred.
It says that `exec` completes with a next state for each of: hostNegotiate, getEpoch, issuerList, mctpRequest, envelope,
envelopeEpochTimeout, issuerBootstrap. -/
def Obligations.EnvelopesUseTheirCounterOnce : Prop :=
  ∀ (s : State) (src : JobSrc) (d : Desc),
    (s.takesJob src d 1 = true → hFieldsOk d false false true = true → hParam d ≤ 7 →
      (∀ v, pickVersion (hParam d) = some v → exec (.hostNegotiate src d) s =
        .next (((s.take src).setVersion (viaMctp src) v).hDone src 1 stOk v 0 0 [])) ∧
      (pickVersion (hParam d) = none → exec (.hostNegotiate src d) s = .next ((s.take src).hDone src 1 stVersion 0 0 0 []))) ∧
    (s.takesJob src d 2 = true → hFieldsOk d false false false = true → exec (.getEpoch src d) s =
      .next ((s.take src).hDone src 2 stOk (s.cmd.epoch + 2 ^ 32 * s.cmd.epochPending.toNat + 2 ^ 33 * s.exhausted.toNat) 0 0 [])) ∧
    (s.takesJob src d 3 = true → hFieldsOk d false true false = true → 1024 ≤ hOutLen d → exec (.issuerList src d) s =
      .next ((s.take src).freed.hDone src 3 stOk s.cmd.issuers.length 0 (hOutAddr d) (s.issuerList (s.hVersion (viaMctp src))))) ∧
    (∀ (tag : Fin 8) (inp : Bytes) (x : JobSrc) (r : Desc),
      x = { issuer := 0x20, ring := 255, slot := tag.val, tag := dw (descOf d) 1, cqFail := false } → r = descOf d →
      (s.boot.rtReleased = false → exec (.mctpRequest tag d inp) s = .next s) ∧
      (s.boot.rtReleased = true →
        ((5 < dopc r ∨ dopc r = 0 ∨ dw r 4 ≠ 0 ∨ dw r 5 ≠ 0 ∨ dw r 8 ≠ 0 ∨ dw r 9 ≠ 0) → ∃ e, exec (.mctpRequest tag d inp) s =
          .next (s.out (.reply 0x20 stBadOpcode e))) ∧
        (dw r 4 = 0 → dw r 5 = 0 → dw r 8 = 0 → dw r 9 = 0 →
          (dopc r = 1 → hFieldsOk r false false true = true → ∀ v, hParam r ≤ 7 → pickVersion (hParam r) = some v →
            exec (.mctpRequest tag d inp) s = .next ((s.setVersion true v).hDone x 1 stOk v 0 0 [])) ∧
          (dopc r = 2 → hFieldsOk r false false false = true → exec (.mctpRequest tag d inp) s = .next (s.hDone x 2 stOk
            (s.cmd.epoch + 2 ^ 32 * s.cmd.epochPending.toNat + 2 ^ 33 * s.exhausted.toNat) 0 0 [])) ∧
          (dopc r = 3 → hFieldsOk r false true false = true → 1024 ≤ hOutLen r → ∃ e, exec (.mctpRequest tag d inp) s =
            .next (s.freed.out (.reply 0x20 stOk e))) ∧
          (dopc r = 4 → s.tamp.responded = false → hFieldsOk r true true false = true → s.exhausted = false → s.cmd.epochPending = false →
            s.cmd.running = none → s.cmd.waiting = [] → ∀ b, b = inp.take (hInLen r) →
            (s.envCheck1 true r { data := b, list := [], fault := false, aux := [], auxFault := false, writeFault := false }).1 = stOk →
            (s.envCheck2 b).1 = stOk → s.rightOk b = true → ∃ t, exec (.mctpRequest tag d inp) s = .next t ∧
              t.cmd.running = some { envJob x r b with accepted := true } ∧
              t.cmd.issuers = s.cmd.issuers.map (fun i => if i.id = eIssuer b then { i with lastSeq := eSeq b } else i)) ∧
          (dopc r = 5 → (s.tamp.responded = true → exec (.mctpRequest tag d inp) s = .next (s.hDone x 5 stTampered 0 0 0 [])) ∧
            (s.tamp.responded = false → hFieldsOk r true true false = true → (hInLen r ≠ 9056 ∨ hOutLen r < 1568) →
              exec (.mctpRequest tag d inp) s = .next (s.hDone x 5 stBadLength 0 0 0 [])))))) ∧
    (∀ io, s.takesJob src d 4 = true →
      (s.tamp.responded = true → exec (.envelope src d io) s = .next ((s.take src).hDone src 4 stTampered 0 0 0 [])) ∧
      (s.tamp.responded = false → hFieldsOk d true true false = true → s.exhausted = false →
        ((s.envCheck1 (viaMctp src) d io).1 ≠ stOk → exec (.envelope src d io) s = .next ((s.take src).hDone src 4
          (s.envCheck1 (viaMctp src) d io).1 0 (s.envCheck1 (viaMctp src) d io).2 0 [])) ∧
        ((s.envCheck1 (viaMctp src) d io).1 = stOk → s.cmd.running = none → s.cmd.waiting = [] →
          ∃ t, exec (.envelope src d io) s = .next t ∧
          (s.cmd.epochPending = true → t.cmd.issuers = s.cmd.issuers ∧ t.cmd.running = none ∧
            t.cmd.waiting = [{ envJob src d io.data with wait := .epoch, since := s.posRun }]) ∧
          (s.cmd.epochPending = false → (s.envCheck2 io.data).1 ≠ stOk → t.cmd.issuers = s.cmd.issuers ∧ t.cmd.running = none ∧
            t.cmd.waiting = []) ∧
          (s.cmd.epochPending = false → (s.envCheck2 io.data).1 = stOk → t.cmd.waiting = [] ∧
            t.cmd.issuers = s.cmd.issuers.map (fun i => if i.id = eIssuer io.data then { i with lastSeq := eSeq io.data } else i) ∧
            t.cmd.running = (if s.rightOk io.data then some { envJob src d io.data with accepted := true } else none))))) ∧
    (∀ ix j, s.cmd.waiting[ix]? = some j → j.wait = .epoch → s.epochWait = true →
      (s.hcSince j.since < s.admTimeout → exec (.envelopeEpochTimeout ix) s = .next s) ∧
      (s.admTimeout ≤ s.hcSince j.since → exec (.envelopeEpochTimeout ix) s =
        .next (({ s with cmd := { s.cmd with waiting := s.cmd.waiting.eraseIdx ix } }.envReply j stCommitDeferred 0 0 []).envRun))) ∧
    (∀ io, s.takesJob src d 5 = true → s.tamp.responded = false → hFieldsOk d true true false = true → hInLen d = 9056 →
      1568 ≤ hOutLen d → 9056 ≤ io.data.length → s.cmd.running = none → s.cmd.waiting = [] →
      ∃ t, exec (.issuerBootstrap src d io) s = .next t ∧ t.cmd.waiting = [] ∧ t.cmd.issuers = s.cmd.issuers ∧
        (s.bootCheck (io.data.take 9056) ≠ stOk → t.cmd.running = none ∧ t.lcf = s.lcf) ∧
        (s.bootCheck (io.data.take 9056) = stOk → t.lcf.nonce = s.draw 32) ∧
        (∀ k i n, s.bootCheck (io.data.take 9056) = stOk →
          blockSigOk ((io.data.take 9056).take 0x660) (Bytes.slice (io.data.take 9056) 0x660 7424) = true →
          Config.kexPeerOk 0 (Bytes.slice (io.data.take 9056) 0x40 1568) = true → s.wrapCheck = stOk →
          s.wrapKey 0 (s.blobEpoch 0) = some k → s.allocAt 0 = some i → s.cmdSlot = some n →
          (t.slot i).st = .loaded ∧ (t.slot i).ctx.type = 9 ∧ (t.slot i).ctx.owner = 0 ∧ (t.adm (17 + n)).st = .waiting ∧
          ∃ j iss ct, t.cmd.running = some j ∧ j.accepted = true ∧ j.slot = n ∧ j.wait = .register iss ct ∧ iss.id = 0 ∧
            iss.rights = 0x3FF ∧ iss.handle = handleOf i (s.slot i).gen ∧ iss.serial = s.nextSerial))

/-- CMD_LC_TRANSITION, CMD_DEBUG_GRANT, CMD_KEY_IMPORT, CMD_POLICY_SET, CMD_IMAGE_ACTIVATE, CMD_REVOKE, CMD_BLOB_EPOCH_ADVANCE, CMD_EPOCH_ADVANCE,
CMD_ISSUER_REGISTER and CMD_ISSUER_REMOVE (R344, R351, R483, R489, R491, R496 to R498, R606, R607): the accepted command that runs does what its
rule says: it submits the commit that it needs and waits for its end, or ends with the code of the check that failed.
It says that `exec` completes with a next state for each of: cmdLcTransition, cmdDebugGrant, cmdKeyImport, cmdPolicySet, cmdImageActivate,
cmdRevoke, cmdBlobEpochAdvance, cmdEpochAdvance, cmdIssuerRegister, cmdIssuerRemove. -/
def Obligations.AcceptedCommandsSubmitTheirCommit : Prop :=
  ∀ (s : State) (j : EnvJob), s.cmd.running = some j → j.wait = .none →
    (j.cmd = 1 → (s.reqCheck j.payload 1 ≠ stOk → exec .cmdLcTransition s = .next (s.cmdEnd j (s.reqCheck j.payload 1))) ∧
      (∀ x, s.reqCheck j.payload 1 = stOk → s.lcCheck (Bytes.num j.payload 0x11 1) = stOk → lcOfCode (Bytes.num j.payload 0x11 1) = some x →
        s.lcCopy 0 ≠ x.fuseCode → ∃ t, exec .cmdLcTransition s = .next t ∧ t.lcf.transit = some (x, .copyA) ∧
          t.cmd = { s.cmd with running := some { j with wait := .lcTransition, slot := 0 } } ∧ (t.adm 16).st = .waiting ∧
          (t.adm 16).what = .lcf (.lcCopy 0 x))) ∧
    (j.cmd = 2 → (s.reqCheck j.payload 2 ≠ stOk → exec .cmdDebugGrant s = .next (s.cmdEnd j (s.reqCheck j.payload 2))) ∧
      (s.reqCheck j.payload 2 = stOk → exec .cmdDebugGrant s =
        .next ((s.dbgGrant 0 (wd (Bytes.num j.payload 0x12 2))).cmdEnd j (if s.dbgOk (Bytes.num j.payload 0x12 2) then stOk else stStateForbids)))) ∧
    (j.cmd = 3 → dw (importDesc j) 6 = 0 → dw (importDesc j) 7 = 0 → cInLen (importDesc j) = 176 → ∀ io : JobIo,
      io = { data := j.payload.drop 48, list := [], fault := false, aux := [], auxFault := false, writeFault := false } →
      ((s.celPre (importDesc j) io).1 ≠ stOk → exec .cmdKeyImport s = .next (s.cmdEnd j (s.celPre (importDesc j) io).1)) ∧
      (∀ c i, (s.celPre (importDesc j) io).1 = stOk → s.importCheck j.src.issuer (importDesc j) io.data = stOk →
        openBlob (s.slot (hSlot (cHandle (importDesc j)))).ctx.material s.cel.bootNonce io.data = some c →
        s.allocAt j.src.issuer = some i → ∃ u : State, exec .cmdKeyImport s = .next (u.envEnd j stOk (handleOf i (s.slot i).gen).toNat []) ∧
          u.slot i = { st := .loaded, gen := (s.slot i).gen, ctx := { c with
            owner := j.src.issuer, domain := domainOf j.src.issuer, epoch := s.blobEpoch (domainOf j.src.issuer) } })) ∧
    (j.cmd = 4 → (policyField j.payload = none → exec .cmdPolicySet s = .next (s.cmdEnd j stBadOpcode)) ∧
      (∀ i v, policyField j.payload = some (i, v) →
        (s.fuseCheck i v.length ≠ stOk → exec .cmdPolicySet s = .next (s.cmdEnd j (s.fuseCheck i v.length))) ∧
        (s.fuseCheck i v.length = stOk → ∃ t, exec .cmdPolicySet s = .next t ∧ (t.adm 16).st = .waiting ∧ (t.adm 16).cls = 1 ∧
          (t.adm 16).what = .lcf (.field i v) ∧ t = { s with cis := t.cis, cmd := { s.cmd with running := some { j with wait := .fuse, slot := 0 } } }))) ∧
    (j.cmd = 5 → ∀ scan : ClassScan,
      (allZero (Bytes.slice j.payload 1 3) = false → exec (.cmdImageActivate scan) s = .next (s.cmdEnd j stBadOpcode)) ∧
      (allZero (Bytes.slice j.payload 1 3) = true →
        ((Bytes.num j.payload 0 1 = 0 ∨ 64 ≤ Bytes.num j.payload 0 1 ∨ s.classPorts (Bytes.num j.payload 0 1) = []) →
          exec (.cmdImageActivate scan) s = .next (s.cmdEnd j stStateForbids)) ∧
        (∀ k, k = Bytes.num j.payload 0 1 → 0 < k → k < 64 → s.classPorts k ≠ [] →
          (s.inRecovery k = true → exec (.cmdImageActivate scan) s = .next (s.cmdEnd j stBusy)) ∧
          (s.inRecovery k = false →
            (s.newerPorts k scan = [] → exec (.cmdImageActivate scan) s = .next (s.cmdEnd j stStateForbids)) ∧
            (∀ x l, s.newerPorts k scan = x :: l → ∃ r : State × Bool, r = (s.holdLines (s.classLines k)).activateAll k (x :: l) ∧
              exec (.cmdImageActivate scan) s = .next (if r.2 then ((r.1.freeLines (s.classLines k)).serves k (manSecVersion x.2)).cmdEnd j stOk
                else ({ s with freeCtr := r.1.freeCtr }).cmdEnd j stStateForbids)))))) ∧
    (j.cmd = 6 → ∀ imgs, Bytes.num j.payload 0 1 ≤ 15 → allZero (Bytes.slice j.payload 1 3) = true →
      (s.revoked.testBit (Bytes.num j.payload 0 1) = true → exec (.cmdRevoke imgs) s = .next (s.cmdEnd j stOk)) ∧
      (s.revoked.testBit (Bytes.num j.payload 0 1) = false → s.revokeOk imgs (Bytes.num j.payload 0 1) = false →
        exec (.cmdRevoke imgs) s = .next (s.cmdEnd j stStateForbids)) ∧
      (s.revoked.testBit (Bytes.num j.payload 0 1) = false → s.revokeOk imgs (Bytes.num j.payload 0 1) = true → s.fuseCheck 928 2 = stOk →
        ∃ t, exec (.cmdRevoke imgs) s = .next t ∧ (t.adm 16).what = .lcf (.field 928 (leBytes 2 (2 ^ Bytes.num j.payload 0 1))) ∧
          (t.adm 16).st = .waiting ∧ t = { s with cis := t.cis, cmd := { s.cmd with running := some { j with wait := .fuse, slot := 0 } } })) ∧
    (∀ k, s.cmdSlot = some k →
      (j.cmd = 7 → allZero (Bytes.slice j.payload 1 3) = true → s.advanceCheck (Bytes.num j.payload 0 1) = stOk →
        ∃ t, exec .cmdBlobEpochAdvance s = .next t ∧ (t.adm (17 + k)).st = .waiting ∧
          (t.adm (17 + k)).what = .bank k s.idleBank (s.epochImage (Bytes.num j.payload 0 1)) ∧
          t = { s with cis := t.cis, cmd := { s.cmd with running := some { j with wait := .blobEpoch, slot := k } } }) ∧
      (j.cmd = 8 → s.exhausted = false → ∃ t, exec .cmdEpochAdvance s = .next t ∧ (t.adm (17 + k)).st = .waiting ∧
        (s.cmd.used < 256 → (t.adm (17 + k)).what = .page k 0 0 s.epochPage (epochRec (s.cmd.epoch + 1)) ∧ t.cmd.half = s.cmd.half ∧
          t.cmd.used = s.cmd.used + 1) ∧
        (256 ≤ s.cmd.used → t.cmd.half = 1 - s.cmd.half ∧ t.cmd.used = 1) ∧
        t.cmd.running = some { j with wait := .epochAdvance (s.cmd.epoch + 1), slot := k } ∧ t.cmd.epoch = s.cmd.epoch) ∧
      (j.cmd = 9 → allZero (Bytes.slice j.payload 4 4) = true → Bytes.num j.payload 0 2 ≠ 0 → Bytes.num j.payload 0 2 ≠ 0xFFFF →
        s.issuer (Bytes.num j.payload 0 2) = none → Bytes.num j.payload 2 2 < 256 → s.cmd.issuers.length < 64 →
        Config.kexPeerOk 0 (Bytes.slice j.payload 8 1568) = true → s.wrapCheck = stOk → ∀ key i, s.wrapKey 0 (s.blobEpoch 0) = some key →
        s.allocAt 0 = some i → ∃ t, exec .cmdIssuerRegister s = .next t ∧ (t.adm (17 + k)).st = .waiting ∧ (t.slot i).ctx.type = 9 ∧
          (t.slot i).st = .loaded ∧ t.cmd.issuers = s.cmd.issuers ∧ ∃ iss ct x, t.cmd.running = some x ∧ x.wait = .register iss ct ∧
            iss.id = Bytes.num j.payload 0 2 ∧ iss.rights = Bytes.num j.payload 2 2 ∧ iss.serial = s.nextSerial) ∧
      (j.cmd = 10 → Bytes.num j.payload 2 2 = 0 → ∀ i, s.issuer (Bytes.num j.payload 0 2) = some i →
        (Bytes.num j.payload 0 2 ≠ 0 ∨ s.cmd.issuers.length ≤ 1) → ∃ t, exec .cmdIssuerRemove s = .next t ∧
          t.liveH i.handle = false ∧ (s.opsOn (handleOf (hSlot i.handle) (s.slot (hSlot i.handle)).gen) = false →
            (t.slot (hSlot i.handle)).live = false) ∧ t.cmd.issuers = s.cmd.issuers.filter (fun x => x.id != Bytes.num j.payload 0 2) ∧
          (t.adm (17 + k)).st = .waiting ∧ t.cmd.running = some { j with wait := .remove, slot := k }))

/-! ### Harts, debug and mailboxes -/

/-- HART_RESET, HART_WAKE, HART_WFI, HART_GATE, HART_ACCESS_FAULT, LOCKSTEP_MISMATCH, DBG_HALT, DBG_RESUME, JDC_TX_WRITE, JDC_RX_WRITE, JDC_TX_READ,
JDC_RX_READ, I3C_AGENT_RESET, JTAG_CONNECT and JTAG_DISCONNECT (R74, R499, R503 to R512, R525, R669): each moves the hart or the channel from the state that
its rule names to the one that it gives, and a reset of a master frees its semaphores.
It says that `exec` completes with a next state for each of: hartReset, hartWake, hartWfi, hartGate, hartAccessFault, lockstepMismatch,
dbgHalt, dbgResume, jdcTxWrite, jdcRxWrite, jdcTxRead, jdcRxRead, i3cAgentReset, jtagConnect, jtagDisconnect. -/
def Obligations.HartsResetParkHaltAndResume : Prop :=
  (∀ (s : State) (m : Master) (h : Fin 5), s.admits m (aHart h.val 0x44) = true →
    ((h.val = 0 ∨ s.boot.rtReleased = false) → exec (.hartReset m h) s = .next (s.refuse m (aHart h.val 0x44))) ∧
    (h.val ≠ 0 → s.boot.rtReleased = true → ∃ t, exec (.hartReset m h) s = .next t ∧ (t.hart h.val).st = .run ∧
      (t.hart h.val).inRom = false ∧ (t.hart h.val).lastReset = 1 ∧ (t.hart h.val).resets = min 65535 ((s.hart h.val).resets + 1) ∧
      t.queue (64 + h.val) = Queue.reset ∧ (∀ n, n < 64 → s.sem n = some (hartMaster h.val) → t.sem n = none)) ∧
    ((m = 0 → s.boot.rtReleased = true → ((s.hart h.val).st = .parked ∨ (s.hart h.val).st = .gated) → exec (.hartWake m h) s =
      .next (s.setHart h.val { s.hart h.val with st := .run, wakeCause := 3, wakes := satInc (s.hart h.val).wakes })) ∧
     ((m ≠ 0 ∨ s.boot.rtReleased = false ∨ ((s.hart h.val).st ≠ .parked ∧ (s.hart h.val).st ≠ .gated)) → exec (.hartWake m h) s = .next s))) ∧
  (∀ (s : State) (h : Fin 5) (mie rx tx : Word), (s.runs h.val = false → exec (.hartWfi h mie rx tx) s = .next s) ∧
    (s.runs h.val = true → ∃ t, exec (.hartWfi h mie rx tx) s = .next t ∧ (t.hart h.val).mie = mie &&& 0x30800 ∧
      (t.hart h.val).mxmbxrx = rx ∧ (t.hart h.val).mxmbxtx = tx ∧
      ((s.boot.rtReleased = false ∨ t.hartPending h.val = false) → (t.hart h.val).st = .parked ∧ (t.hart h.val).parkedAt = s.clk) ∧
      (s.boot.rtReleased = true → t.hartPending h.val = true → (t.hart h.val).st = .run) ∧
      (∀ k, k ≠ h.val → t.hart k = s.hart k) ∧ t = { s with harts := t.harts })) ∧
  (∀ (s : State) (h : Fin 5), (s.hart h.val).st = .parked →
    (h.val ≠ 0 → s.bitOf (aHart h.val 0x48) 0 = true → (s.hart h.val).parkedAt + 100 ≤ s.clk →
      exec (.hartGate h) s = .next (s.setHart h.val { s.hart h.val with st := .gated })) ∧
    ((h.val = 0 ∨ s.bitOf (aHart h.val 0x48) 0 = false ∨ s.clk < (s.hart h.val).parkedAt + 100) → exec (.hartGate h) s = .next s)) ∧
  (∀ (s : State) (h : Fin 5) (a : Nat) (k : HartFault), s.runs h.val = true → ∃ t, exec (.hartAccessFault h a k) s = .next t ∧
    t.harts.busAddr = wd a ∧ t.harts.busInfo = (wd h.val ||| fld (busErrCode k.kind) 4) ∧ t.evt (evHart h.val) = (s.evt (evHart h.val)).bump ∧
    (k.kind = .ue → t.evt (evSys 8) = (s.evt (evSys 8)).bump) ∧
    t.outbox.getLast? = some (.hartTrap h.val (match k.acc with | .fetch => 1 | .load => 5 | .store => 7) a) ∧
    t = { s.recorded t with freeCtr := s.freeCtr + 1 }) ∧
  (∀ s : State, (s.hart 0).st ≠ .stopped → s.boot.halted = false → s.coreUp = true → ∃ t, exec .lockstepMismatch s = .next t ∧
    t.harts.mismatches = min 15 (s.harts.mismatches + 1) ∧
    (s.boot.rtReleased = false → t.boot.halted = true ∧ t.evt (evBoot 15) = (s.evt (evBoot 15)).bump) ∧
    (s.boot.rtReleased = true → s.harts.lsResets = 0 → t.harts.lsResets = 1 ∧ (t.hart 0).st = .run ∧ (t.hart 0).lastReset = 2 ∧
      t.evt (evHart 5) = (s.evt (evHart 5)).bump) ∧
    (s.boot.rtReleased = true → s.harts.lsResets ≠ 0 → (t.hart 0).st = .stopped ∧ t.harts.unforceLocked = true ∧
      ∀ i, i < 24 → t.prst.force.getLsbD i = true)) ∧
  (∀ (s : State) (m : Master) (v : Word), s.admits m (aDbg 0x44) = true → ∀ h, h < 5 →
    (∃ t, exec (.dbgHalt m v) s = .next t ∧
      (Word.bit v h = true → s.dbgMay h = true → (s.hart h).st ≠ .stopped → (t.hart h).st = .halted) ∧
      ((Word.bit v h = false ∨ s.dbgMay h = false) → (s.hart h).st ≠ .parked → (s.hart h).st ≠ .gated → (t.hart h).st = (s.hart h).st)) ∧
    (∃ t, exec (.dbgResume m v) s = .next t ∧
      (Word.bit v (8 + h) = true → s.dbgMay h = true → (s.hart h).st = .halted → (t.hart h).wakeCause = 4 ∧
        (t.hart h).st = (if (s.hart h).haltedFrom = .parked ∨ (s.hart h).haltedFrom = .gated then .run else (s.hart h).haltedFrom)) ∧
      ((Word.bit v (8 + h) = false ∨ s.dbgMay h = false) → (s.hart h).st = .halted → (t.hart h).st = .halted))) ∧
  (∀ (s : State) (m : Master) (v : Word),
    (s.admits m (aDbg 0x48) = true →
      (s.harts.txFull = false → exec (.jdcTxWrite m v) s = .next { s with harts := { s.harts with jdcTx := v, txFull := true } }) ∧
      (s.harts.txFull = true → exec (.jdcTxWrite m v) s = .next (s.refuse m (aDbg 0x48)))) ∧
    (s.admits m (aDbg 0x4C) = true →
      (s.harts.rxFull = false → exec (.jdcRxWrite m v) s = .next { s with harts := { s.harts with jdcRx := v, rxFull := true } }) ∧
      (s.harts.rxFull = true → exec (.jdcRxWrite m v) s = .next (s.refuse m (aDbg 0x4C))))) ∧
  (∀ (s : State) (m : Master), s.arrives m 0x35 = true →
    (∃ t, exec (.jdcTxRead m) s = .next t ∧ t.harts.jdcTx = s.harts.jdcTx ∧ (m = jtag → t.harts.txFull = false) ∧
      (m ≠ jtag → t.harts.txFull = s.harts.txFull) ∧ ∃ d, t.outbox.getLast? = some (.readData m (aDbg 0x48) d)) ∧
    (∃ t, exec (.jdcRxRead m) s = .next t ∧ t.harts.jdcRx = s.harts.jdcRx ∧ (m = 0 → t.harts.rxFull = false) ∧
      (m ≠ 0 → t.harts.rxFull = s.harts.rxFull) ∧ ∃ d, t.outbox.getLast? = some (.readData m (aDbg 0x4C) d))) ∧
  (∀ s : State, (∃ t, exec .i3cAgentReset s = .next t ∧ t.cmd.i3cVersion = 0 ∧ t.cmd.pfVersion = s.cmd.pfVersion ∧
      ∀ n, n < 64 → s.sem n = some 0x20 → t.sem n = none) ∧
    exec .jtagConnect s = .next { s with harts := { s.harts with attached := true } } ∧
    (∃ t, exec .jtagDisconnect s = .next t ∧ t.harts.attached = false ∧ ∀ n, n < 64 → s.sem n = some jtag → t.sem n = none))

/-- BT_ENTRY_WRITE, CH_SEND, CH_TAKE and CH_TIMEOUT (R514 to R524): entries change only while the table is open and only to allowed pairs; a
message moves whole from its sender's side to its receiver's, one at a time; a take empties the channel; a wait beyond the limit shows
once.
It says that `exec` completes with a next state for each of: btEntryWrite, chSend, chTake, chTimeout. -/
def Obligations.MailboxesCarryOneMessageAtATime : Prop :=
  (∀ (s : State) (m : Master) (c : Fin 32) (v : Word), s.admits m (pg 0x170 (0x80 + 4 * c.val)) = true →
    (m ≠ 0 → m ≠ jtag → exec (.btEntryWrite m c v) s = .next (s.refuse m (pg 0x170 (0x80 + 4 * c.val)))) ∧
    (m = 0 → s.btReason = 0 → exec (.btEntryWrite m c v) s = .next (s.errAt (pg 0x170 (0x80 + 4 * c.val)) .locked m)) ∧
    (m = 0 → s.btReason ≠ 0 → Word.bit v 31 = true → bindOk c.val (BitVec.ofNat 8 (Word.field v 7 0)) (BitVec.ofNat 8 (Word.field v 15 8)) = false →
      exec (.btEntryWrite m c v) s = .next (s.refuse m (pg 0x170 (0x80 + 4 * c.val)))) ∧
    (m = 0 → s.btReason ≠ 0 →
      (Word.bit v 31 = false ∨ bindOk c.val (BitVec.ofNat 8 (Word.field v 7 0)) (BitVec.ofNat 8 (Word.field v 15 8)) = true) →
      ∃ t, exec (.btEntryWrite m c v) s = .next t ∧ (t.chan c.val).entry = v &&& 0x8000FFFF ∧ (t.chan c.val).full = false ∧
        (t.chan c.val).rx = zeroWords ∧ (t.chan c.val).tx = zeroWords ∧ (∀ k, k ≠ c.val → t.chan k = s.chan k) ∧
        ((s.chan c.val).full = true → (t.chan c.val).last = .aborted ∧ t.evt (evMbx c.val) = (s.evt (evMbx c.val)).bump) ∧
        t = { s.recorded t with mbx := t.mbx })) ∧
  (∀ (s : State) (m : Master) (c : Fin 32), s.admits m (aMbx c.val 0x4C) = true →
    (s.sendOk m c.val = false → exec (.chSend m c) s = .next (s.refuse m (aMbx c.val 0x4C))) ∧
    (s.sendOk m c.val = true → ∃ t, exec (.chSend m c) s = .next t ∧
      t.chan c.val = { s.chan c.val with
        rxHdr := (s.chan c.val).txHdr, rx := msgWords (s.chan c.val).tx (Word.field (s.chan c.val).txHdr 22 16), full := true,
        timedOut := false, sentAt := s.clk, sent := min 65535 ((s.chan c.val).sent + 1), last := .message } ∧
      (∀ k, k ≠ c.val → t.chan k = s.chan k) ∧ t.evt (evMbx c.val) = (s.evt (evMbx c.val)).bump ∧ t = { s.recorded t with mbx := t.mbx })) ∧
  (∀ (s : State) (m : Master) (c : Fin 32), s.admits m (aMbx c.val 0x54) = true →
    (((s.chan c.val).valid = false ∨ (s.chan c.val).receiver ≠ m ∨ (s.chan c.val).full = false ∨ s.mbxOn = false) →
      exec (.chTake m c) s = .next (s.refuse m (aMbx c.val 0x54))) ∧
    ((s.chan c.val).valid = true → (s.chan c.val).receiver = m → (s.chan c.val).full = true → s.mbxOn = true → ∃ t, exec (.chTake m c) s = .next t ∧
      t.chan c.val = { s.chan c.val with rxHdr := 0, rx := zeroWords, full := false, timedOut := false, last := .empty } ∧
      (∀ k, k ≠ c.val → t.chan k = s.chan k) ∧ t.evt (evMbx c.val) = (s.evt (evMbx c.val)).bump ∧ t = { s.recorded t with mbx := t.mbx })) ∧
  (∀ (s : State) (c : Fin 32), (s.chLate c.val = false → exec (.chTimeout c) s = .next s) ∧
    (s.chLate c.val = true → ∃ t, exec (.chTimeout c) s = .next t ∧
      t.chan c.val = { s.chan c.val with timedOut := true, timeouts := min 255 ((s.chan c.val).timeouts + 1), last := .timeout } ∧
      (∀ k, k ≠ c.val → t.chan k = s.chan k) ∧ t.evt (evMbx c.val) = (s.evt (evMbx c.val)).bump ∧ t = { s.routed t with mbx := t.mbx }))

/-! ### Caravan -/

/-- CVN_CFG_WRITE, CVN_BLOCK_LOCK, CVN_HELLO_RX, CVN_CONFIRM_RX, CVN_HANDSHAKE_TIMEOUT, CVN_PORT_RESTART, CVN_PORT_DOWN, CVN_CREDIT_RX and
CVN_CREDIT_SEND (R531 to R538, R556): ENABLE 0 takes every port DOWN and destroys its key; block lock starts the handshake; the HELLOs
derive the link keys under the rack key, and a right CONFIRM brings the port UP with 16 credits; each failed check leaves FAILED with its
cause; credits move as frames are accepted.
It says that `exec` completes with a next state for each of: cvnCfgWrite, cvnBlockLock, cvnHelloRx, cvnConfirmRx, cvnHandshakeTimeout,
cvnPortRestart, cvnPortDown, cvnCreditRx, cvnCreditSend. -/
def Obligations.LinkPortsComeUpByHandshakeAndFailByCause : Prop :=
  (∀ (s : State) (m : Master) (v : Word), s.admits m (aCvn 0 0x40) = true → ∃ t, exec (.cvnCfgWrite m v) s = .next t ∧
    t.reg (aCvn 0 0x40) = Word.setField (v &&& 0x377) 9 8 (if Word.field v 9 8 = 1 then 1 else 2) ∧
    (∀ a, a ≠ aCvn 0 0x40 → t.reg a = s.reg a) ∧
    (Word.bit v 0 = false → ∀ p, p < 3 → (t.link p).st = .down ∧ (t.link p).key = 0 ∧
      (s.liveH (s.link p).key = true → t.liveH (s.link p).key = false ∧
        (s.opsOn (s.link p).key = false → (t.slot (hSlot (s.link p).key)).live = false))) ∧
    (Word.bit v 0 = true → s.pwr.power = .active → s.pwr.pending = none → s.pwr.holdup = false → ∀ p, p < 3 →
      (Word.bit v (4 + p) = false → (t.link p).st = .down ∧ (t.link p).key = 0) ∧
      (Word.bit v (4 + p) = true → (s.link p).st = .down → (t.link p).kept = { (s.link p).kept with st := .locking }) ∧
      (Word.bit v (4 + p) = true → (s.link p).st ≠ .down → (t.link p).kept = (s.link p).kept))) ∧
  (∀ (s : State) (p : Fin 3), (s.linkOn p.val = false → exec (.cvnBlockLock p) s = .next s) ∧
    (s.linkOn p.val = true → ∃ t, exec (.cvnBlockLock p) s = .next t ∧ (t.link p.val).st = .handshake ∧ (t.link p.val).lock = true ∧
      (t.link p.val).lockAt = s.clk ∧ (t.link p.val).eph = s.draw 112 ∧ (t.link p.val).key = 0 ∧ (t.link p.val).cause = 0 ∧
      (∀ q, q ≠ p.val → (t.link q).kept = (s.link q).kept) ∧ t.drbgCtr = s.drbgCtr + 1 ∧ t.regs = s.regs ∧
      (p.val = 0 → t.outbox.getLast? = some (.cvn 0 (helloFrame ((Config.freeWord s.freeCtr).toNat % 256) s.cvn.addr
        (s.helloBody (if s.maxVer = 1 then 1 else 3) 0 (pubKey 0xE ((s.draw 112).take 48)) (pubKey 0xF ((s.draw 112).drop 48)))))))) ∧
  (∀ (s : State) (p : Fin 3) (f : HelloFrame), (s.link p.val).st ≠ .up → (s.link p.val).st ≠ .handshake → exec (.cvnHelloRx p f) s = .next s) ∧
  (∀ (s : State) (p : Fin 3) (f : HelloFrame), s.helloTaken p.val f.bytes = true → p.val ≠ 0 →
    (∀ ver, ver = versionOf (Bytes.num (fBody f.bytes) 0 1) s.maxVer →
      (Bytes.num (fBody f.bytes) 1 1 ≠ 0 → exec (.cvnHelloRx p f) s = .next (s.linkFail p.val 2)) ∧
      (Bytes.num (fBody f.bytes) 1 1 = 0 → (ver = 0 ∨ (p.val = 2 ∧ ver = 1)) → exec (.cvnHelloRx p f) s = .next (s.linkFail p.val 1)) ∧
      (ver ≠ 0 → ¬(p.val = 2 ∧ ver = 1) → Bytes.num (fBody f.bytes) 1 1 = 0 →
        ∀ ek eph r g z tr, ek = Bytes.slice (fBody f.bytes) 108 1568 → eph = (s.link p.val).eph → r = eph.drop 80 →
          g = helloFrame ver s.cvn.addr (s.helloBody ver 1 (pubKey 0xE (eph.take 48)) (Config.take 1568 (Config.kemCtByte ek r))) →
          z = Config.take 48 (Config.kexSecretByte 0xE (eph.take 48) (Bytes.slice (fBody f.bytes) 12 96)) ++
            Config.take 32 (Config.kemSecretByte ek r) → tr = sha384 (fHead f.bytes ++ fHead g) →
        ((s.rackKey = none ∨ s.secretRight = true) → ∃ t, exec (.cvnHelloRx p f) s = .next t ∧ (t.link p.val).st = .failed ∧ (t.link p.val).cause = 4) ∧
        (∀ k i, s.rackKey = some k → s.secretRight = false → s.allocAt 0x45 = some i → ∃ t, exec (.cvnHelloRx p f) s = .next t ∧
          .cvn p.val g ∈ t.outbox ∧
          (t.link p.val).st = .handshake ∧ (t.link p.val).ver = ver ∧ (t.link p.val).t = tr ∧ (t.link p.val).txSeq = 1 ∧
          (t.slot i).st = .loaded ∧ (t.slot i).ctx.type = 0xA ∧ (t.slot i).ctx.owner = 0x45 ∧
          (t.slot i).ctx.material = kdf k (z ++ tr) "MX-CVNU" ++ kdf k (z ++ tr) "MX-CVND" ∧
          t.outbox.getLast? = some (.cvn p.val (frameOf (t.sendKey p.val) ver
            (cvnOut 1 s.cvn.addr 0 (kmac256 (t.sendKey p.val) tr 32 (ascii "MX-CVNC"))) 0 1)))))) ∧
  (∀ (s : State) (f : HelloFrame), s.helloTaken 0 f.bytes = true →
    (Bytes.num (fBody f.bytes) 1 1 ≠ 1 → exec (.cvnHelloRx 0 f) s = .next (s.linkFail 0 2)) ∧
    (Bytes.num (fBody f.bytes) 1 1 = 1 → ¬(Bytes.num (fBody f.bytes) 0 1 = 2 ∧ 2 ≤ s.maxVer) → Bytes.num (fBody f.bytes) 0 1 ≠ 1 →
      exec (.cvnHelloRx 0 f) s = .next (s.linkFail 0 1)) ∧
    (∀ ver, ver = Bytes.num (fBody f.bytes) 0 1 → ((ver = 2 ∧ 2 ≤ s.maxVer) ∨ ver = 1) →
      (Bytes.num (fBody f.bytes) 1 1 = 1 → ∀ k i, s.rackKey = some k → s.secretRight = false → s.allocAt 0x45 = some i → ∃ t, exec (.cvnHelloRx 0 f) s = .next t ∧
        (t.link 0).st = .handshake ∧ (t.link 0).ver = ver ∧ (t.link 0).t = sha384 (fHead (s.link 0).hello ++ fHead f.bytes) ∧
        (t.link 0).txSeq = 1 ∧ (t.slot i).ctx.type = 0xA ∧ (t.slot i).ctx.owner = 0x45))) ∧
  (∀ (s : State) (p : Fin 3) (f : CvnFrame), s.confirmTaken p.val f.bytes = true →
    (fBody f.bytes ≠ kmac256 (s.recvKey p.val) (s.link p.val).t 32 (ascii "MX-CVNC") → exec (.cvnConfirmRx p f) s = .next (s.linkFail p.val 3)) ∧
    (fBody f.bytes = kmac256 (s.recvKey p.val) (s.link p.val).t 32 (ascii "MX-CVNC") → ∃ t, exec (.cvnConfirmRx p f) s = .next t ∧
      t.link p.val = { s.link p.val with st := .up, tx := 16, rxFree := 16, owed := 0, rxSeq := 1, tagFails := 0, lat := min 65535 f.lat,
                                         peer := fSrc f.bytes, frames := satInc (s.link p.val).frames } ∧
      (∀ q, q ≠ p.val → t.link q = s.link q) ∧ t.evt (evCvn 0) = (s.evt (evCvn 0)).bump ∧ t = { s.routed t with cvn := t.cvn })) ∧
  (∀ (s : State) (p : Fin 3),
    ((s.link p.val).st = .handshake → (s.link p.val).lockAt + 10000 ≤ s.clk → exec (.cvnHandshakeTimeout p) s = .next (s.linkFail p.val 5)) ∧
    (((s.link p.val).st ≠ .handshake ∨ s.clk < (s.link p.val).lockAt + 10000) → exec (.cvnHandshakeTimeout p) s = .next s)) ∧
  (∀ (s : State) (p cause : Nat), ((s.linkFail p cause).link p).st = .failed ∧ ((s.linkFail p cause).link p).cause = cause ∧
    ((s.linkFail p cause).link p).key = 0 ∧
    (s.liveH (s.link p).key = true → (s.linkFail p cause).liveH (s.link p).key = false ∧
      (s.opsOn (s.link p).key = false → ((s.linkFail p cause).slot (hSlot (s.link p).key)).live = false)) ∧
    ∀ q, q ≠ p → ((s.linkFail p cause).link q).kept = (s.link q).kept) ∧
  (∀ (s : State) (m : Master) (v : Word), s.admits m (aCvn 1 0x70) = true → ∃ t, exec (.cvnPortRestart m v) s = .next t ∧ ∀ p, p < 3 →
    (Word.bit v p = true → s.linkOn p = true → (s.link p).lock = true → (t.link p).st = .handshake ∧ (t.link p).lockAt = s.clk ∧
      (t.link p).key = 0 ∧ (t.link p).cause = 0) ∧
    (Word.bit v p = true → s.linkOn p = true → (s.link p).lock = false → (s.link p).st = .failed → (t.link p).st = .locking ∧
      (t.link p).cause = 0) ∧
    ((Word.bit v p = false ∨ s.linkOn p = false ∨ ((s.link p).lock = false ∧ (s.link p).st ≠ .failed)) →
      (t.link p).kept = (s.link p).kept)) ∧
  (∀ (s : State) (p : Fin 3), ∃ t, exec (.cvnPortDown p) s = .next t ∧ (t.link p.val).lock = false ∧ (∀ q, q ≠ p.val → (t.link q).kept = (s.link q).kept) ∧
    ((s.link p.val).st = .failed → t.link p.val = { s.link p.val with lock := false }) ∧
    ((s.link p.val).st ≠ .failed → (t.link p.val).st = .down ∧ (t.link p.val).key = 0 ∧
      (s.liveH (s.link p.val).key = true → t.liveH (s.link p.val).key = false ∧
        (s.opsOn (s.link p.val).key = false → (t.slot (hSlot (s.link p.val).key)).live = false))) ∧
    ((s.link p.val).st = .up → t.evt (evCvn 1) = (s.evt (evCvn 1)).bump)) ∧
  (∀ (s : State) (p : Fin 3) (f : CvnFrame), (s.cvnUp p.val = false → exec (.cvnCreditRx p f) s = .next s) ∧
    (s.frameOk p.val 7 f.bytes true = true → exec (.cvnCreditRx p f) s = .next (s.frameTaken p.val 7 f.bytes)) ∧
    (s.cvnUp p.val = true → fFunc f.bytes = 7 → lenOk f.bytes = false → ∃ t, exec (.cvnCreditRx p f) s = .next t ∧
      t.reg (aCvn 0 0x5C) = Word.satField (s.reg (aCvn 0 0x5C)) 7 0 ∧ t.evt (evCvn 10) = (s.evt (evCvn 10)).bump ∧
      t = { s.routed t with regs := t.regs }) ∧
    (s.cvnUp p.val = true → fFunc f.bytes = 7 → lenOk f.bytes = true → s.tagGood p.val f.bytes = false → ∃ t,
      exec (.cvnCreditRx p f) s = .next t ∧ t.evt (evCvn 11) = (s.evt (evCvn 11)).bump ∧
      ((s.link p.val).tagFails < 7 → t.link p.val = { s.link p.val with tagFails := (s.link p.val).tagFails + 1 }) ∧
      (7 ≤ (s.link p.val).tagFails → (t.link p.val).st = .failed ∧ (t.link p.val).cause = 6))) ∧
  (∀ (s : State) (p : Fin 3),
    ((s.cvnUp p.val = false ∨ (s.link p.val).owed = 0 ∨ (s.link p.val).waiting.any (mayXmit (s.link p.val).tx) = true) →
      exec (.cvnCreditSend p) s = .next s) ∧
    (s.cvnUp p.val = true → 0 < (s.link p.val).owed → (s.link p.val).waiting.any (mayXmit (s.link p.val).tx) = false → ∃ t, exec (.cvnCreditSend p) s = .next t ∧
      t.outbox = s.outbox ++ [.cvn p.val (s.nextFrame p.val (cvnOut 7 s.cvn.addr 0 []))] ∧
      t.link p.val = { s.link p.val with owed := 0, txSeq := (s.link p.val).txSeq + 1 } ∧ (∀ q, q ≠ p.val → t.link q = s.link q) ∧
      t = { s with cvn := t.cvn, outbox := t.outbox }))

/-- CVN_TRAIN, CVN_TRAIN_RX, CVN_TIME_SEND, CVN_TIME_RX, CVN_TIME_CAL, CVN_SWEEP_RX, SWEEP_LOST_TIMEOUT, SWEEP_MISSED_CHECK and EXC_DATA_READ
(R530, R539, R542 to R547, R552 to R554, R559): training numbers the nodes as TRAIN reaches them and ends at the root; TIME frames carry the
root's position and are checked against this node's; a node countersigns an outward SWEEP in time, and the root ends the epoch when it
is back or lost.
It says that `exec` completes with a next state for each of: cvnTrain, cvnTrainRx, cvnTimeSend, cvnTimeRx, cvnTimeCal, cvnSweepRx,
sweepLostTimeout, sweepMissedCheck, excDataRead. -/
def Obligations.WalksTrainTimeAndCountersignTheRack : Prop :=
  (∀ (s : State) (m : Master), s.admits m (aCvn 0 0x48) = true →
    ((s.cvnOn = false ∨ s.cvnRoot = false ∨ s.cvn.sweep = 1) → exec (.cvnTrain m) s = .next (s.refuse m (aCvn 0 0x48))) ∧
    (s.cvnOn = true → s.cvnRoot = true → s.cvn.sweep ≠ 1 → ∃ t, exec (.cvnTrain m) s = .next t ∧ t.cvn.addr = 1 ∧ t.cvn.branchLast = 0 ∧
      t = { s with cvn := t.cvn, outbox := t.outbox, regs := t.regs, freeCtr := t.freeCtr } ∧
      (s.cvnUp 1 = false → s.cvnUp 2 = false → t.cvn.trained = true ∧ t.cvn.nodes = 1 ∧ t.cvn.unaddr = 0 ∧ t.cvn.hops = 0 ∧
        t.outbox = s.outbox) ∧
      (s.linkIdle s.rootPort 0 = true → (t.link s.rootPort).peer = 2 ∧
        t.outbox = s.outbox ++ [.cvn s.rootPort (s.nextFrame s.rootPort (cvnOut 2 1 0 (trainBody 2 0 1)))]))) ∧
  (∀ (s : State) (p : Fin 3) (f : CvnFrame), (s.cvnUp p.val = false → exec (.cvnTrainRx p f) s = .next s) ∧
    (s.frameOk p.val 2 f.bytes true = true → ∀ next un hops, next = Bytes.num (fBody f.bytes) 0 2 → un = Bytes.num (fBody f.bytes) 2 2 →
      hops = Bytes.num (fBody f.bytes) 4 2 → ∃ t, exec (.cvnTrainRx p f) s = .next t ∧
      (s.cvnRoot = false → p.val = 0 → next ≤ 0xFFF → t.cvn.addr = next ∧ t.cvn.trained = true ∧
        t.evt (evCvn 2) = (s.evt (evCvn 2)).bump) ∧
      (s.cvnRoot = false → p.val = 0 → 0xFFF < next → t.cvn.addr = 0 ∧ t.cvn.trained = false ∧ t.evt (evCvn 3) = (s.evt (evCvn 3)).bump) ∧
      (p.val = 0 → hops + 1 = next → (t.link 0).peer = next - 1) ∧
      (p.val = 2 → t.cvn.branchLast = next - 1) ∧
      (s.cvnRoot = true → s.walkNext (some p.val) (fFlags f.bytes % 2 == 1) = none → t.cvn.trained = true ∧
        t.cvn.nodes = min (next - 1) 4095 ∧ t.cvn.unaddr = un ∧ t.cvn.hops = hops ∧ t.cvn.topo = (if p.val = 0 then 1 else 2)))) ∧
  (∀ s : State, ((s.cvnOn = false ∨ s.cvnRoot = false ∨ s.bitOf (aCvn 0 0x40) 2 = false ∨ s.timeDue = false) →
      exec .cvnTimeSend s = .next s) ∧
    (s.cvnOn = true → s.cvnRoot = true → s.bitOf (aCvn 0 0x40) 2 = true → s.timeDue = true → s.linkIdle s.rootPort 0 = true → ∃ t, exec .cvnTimeSend s = .next t ∧
      t.outbox = s.outbox ++ [.cvn s.rootPort (s.nextFrame s.rootPort
        { cvnOut 5 s.cvn.addr 0 [] with epoch := s.cvn.epoch.toNat, pos := s.rackBytes s.rackPos })] ∧
      t.cvn.timeHc = some s.cis.hc ∧ t.timeDue = false ∧ t = { s with cvn := t.cvn, outbox := t.outbox })) ∧
  (∀ (s : State) (p : Fin 3) (f : CvnFrame), (s.cvnUp p.val = false → exec (.cvnTimeRx p f) s = .next s) ∧
    (s.frameOk p.val 5 f.bytes true = true → ∀ e, e = signed 48 (unsigned 48 ((s.rackPos : Int) - s.timeAt p.val f.bytes)) → ∃ t,
      exec (.cvnTimeRx p f) s = .next t ∧ t.cvn.timeErr = clampInt (-32767) 32767 e ∧ t.cvn.timeChecks = min 65535 (s.cvn.timeChecks + 1) ∧
      (s.fldOf (aCvn 3 0x40) 15 0 < e.natAbs → t.cvn.timeSkew = some (fEpoch f.bytes) ∧ t.evt (evCvn 8) = (s.evt (evCvn 8)).bump) ∧
      (e.natAbs ≤ s.fldOf (aCvn 3 0x40) 15 0 → t.cvn.timeSkew = s.cvn.timeSkew ∧ t.evt (evCvn 8) = s.evt (evCvn 8)) ∧
      (p.val = 0 → ∀ n, s.cvn.calN = n + 2 → t.cvn.calN = n + 1 ∧ t.cvn.calD = s.cvn.calD ++
        [signed 48 (unsigned 48 (((s.cis.hc * 65536 + s.cis.lu : Nat) : Int) - s.timeAt 0 f.bytes))]) ∧
      (p.val = 0 → s.cvn.calN = 1 → t.cvn.calN = 0 ∧ t.cvn.calD = [] ∧ t.evt (evCvn 9) = (s.evt (evCvn 9)).bump ∧
        t.cvn.calSt = (if t.cvn.calSpread ≤ 256 then 2 else 3)) ∧
      (p.val ≠ 0 → t.cvn.calN = s.cvn.calN))) ∧
  (∀ (s : State) (m : Master), s.admits m (aCvn 3 0x50) = true →
    (s.cvnOn = false → exec (.cvnTimeCal m) s = .next s) ∧
    (s.cvnOn = true → exec (.cvnTimeCal m) s = .next { s with cvn := { s.cvn with calN := 16, calD := [], calSt := 1 } })) ∧
  (∀ (s : State) (p : Fin 3) (f : CvnFrame), (s.cvnUp p.val = false → exec (.cvnSweepRx p f) s = .next s) ∧
    (s.frameOk p.val 3 f.bytes true = true → ∀ x fl u, x = sweepOf (fBody f.bytes) → fl = fFlags f.bytes → u = s.frameTaken p.val 3 f.bytes →
      (s.cvnRoot = false → s.cvn.addr ≠ 0 → fl.testBit 1 = false → fl.testBit 0 = false →
        s.rackAhead (Bytes.num f.bytes 0x10 4) (Bytes.num f.bytes 0x14 2) = true → ∃ t, exec (.cvnSweepRx p f) s = .next t ∧
        t.cvn.ownRec = s.nodeRec (fEpoch f.bytes) ∧ t.cvn.epoch = wd (fEpoch f.bytes) ∧ t = { s with cvn := t.cvn, outbox := t.outbox, regs := t.regs, freeCtr := t.freeCtr } ∧
        ∀ q ret y, s.walkNext (some p.val) false = some (q, ret) → q ≠ p.val → (s.link p.val).waiting = [] → s.linkIdle q 0 = true →
          y = (if fl.testBit 2 = true then (x, fl) else u.sweepCheck p.val (fEpoch f.bytes) x fl) →
          t.outbox.getLast? = some (.cvn q (s.nextFrame q { fwdOf p.val f.bytes with
            flags := setRet (flagOff y.2 2) ret,
            body := { y.1 with fold := sha384 (y.1.fold ++ s.nodeRec (fEpoch f.bytes)), count := y.1.count + 1,
                               last := s.nodeRec (fEpoch f.bytes) : SweepBody }.bytes }))) ∧
      (s.cvnRoot = false → (fl.testBit 1 = true ∨ s.cvn.addr = 0 ∨
          s.rackAhead (Bytes.num f.bytes 0x10 4) (Bytes.num f.bytes 0x14 2) = false) → ∃ t, exec (.cvnSweepRx p f) s = .next t ∧
        t.cvn.ownRec = s.cvn.ownRec ∧ t.cvn.epoch = s.cvn.epoch ∧ t = { s with cvn := t.cvn, outbox := t.outbox, regs := t.regs, freeCtr := t.freeCtr }) ∧
      (s.cvnRoot = true → s.walkNext (some p.val) (fl % 2 == 1) = none → ∃ t, exec (.cvnSweepRx p f) s = .next t ∧
        ((s.cvn.sweep ≠ 1 ∨ wd (fEpoch f.bytes) ≠ s.cvn.epoch) → t.cvn.sweep = s.cvn.sweep ∧ t.cvn.fold = s.cvn.fold) ∧
        (s.cvn.sweep = 1 → wd (fEpoch f.bytes) = s.cvn.epoch → t.cvn.sweep = 2 ∧ t.cvn.fold = x.fold ∧ t.cvn.count = x.count ∧
          t.evt (evCvn 4) = (s.evt (evCvn 4)).bump ∧
          t.cvn.sweepRes = (if fl.testBit 1 = false ∧ s.rackAhead (Bytes.num f.bytes 0x10 4) (Bytes.num f.bytes 0x14 2) = true ∧
            x.count = s.cvn.nodes then 0 else 1))))) ∧
  (∀ s : State, ((s.cvn.sweep ≠ 1 ∨ s.rackAhead ((s.cvn.sweepHc + s.deadlineHc) % 2 ^ 32) s.cvn.sweepLu = true) →
      exec .sweepLostTimeout s = .next s) ∧
    (s.cvn.sweep = 1 → s.rackAhead ((s.cvn.sweepHc + s.deadlineHc) % 2 ^ 32) s.cvn.sweepLu = false → ∃ t, exec .sweepLostTimeout s = .next t ∧
      t.evt (evCvn 4) = (s.evt (evCvn 4)).bump ∧ t = { s.routed t with cvn := { s.cvn with sweep := 2, sweepRes := 2 } })) ∧
  (∀ s : State, ((s.cvnOn = false ∨ s.cvn.missAt = []) → exec .sweepMissedCheck s = .next s) ∧
    (∀ hc lu later, s.cvn.missAt = (hc, lu) :: later → (s.rackAhead hc lu = true → exec .sweepMissedCheck s = .next s) ∧
      (s.cvnOn = true → s.rackAhead hc lu = false → ∃ t, exec .sweepMissedCheck s = .next t ∧
        t.evt (evCvn 5) = (s.evt (evCvn 5)).bump ∧ t = { s.routed t with cvn := { s.cvn with missAt := later } }))) ∧
  (∀ (s : State) (m : Master), s.arrives m 0x182 = true → s.fldOf (aCvn 2 0x54) 8 0 < s.cvn.exc.length → ∃ t, exec (.excDataRead m) s = .next t ∧
    t.reg (aCvn 2 0x54) = wd ((s.fldOf (aCvn 2 0x54) 8 0 + 1) % 512) ∧ t.cvn = s.cvn ∧
    t.outbox.getLast? = some (.readData m (aCvn 2 0x58) (leBytes 4 (s.cvn.exc.getD (s.fldOf (aCvn 2 0x54) 8 0) 0).toNat)))

/-- CVN_NOTICE_RX, CVN_RECOVER_RX, CVN_FORWARD, CVN_DROP, CVN_SEND_NOTICE, CVN_SEND_RECOVER, RECOVER_HOLD, RECOVER_SUBSTITUTE,
RECOVER_RESTORE and RECOVER_REPORT (R540, R541, R549 to R551, R555, R620): fragments delivered here fill the receive buffer once, others
go on along their route; FORWARD and DROP free it; objects leave in fragments; and a recovery request acts on the lines of its class.
It says that `exec` completes with a next state for each of: cvnNoticeRx, cvnRecoverRx, cvnForward, cvnDrop, cvnSendNotice, cvnSendRecover,
recoverHold, recoverSubstitute, recoverRestore, recoverReport. -/
def Obligations.NoticesAndRecoveriesPassTheReceiveBuffer : Prop :=
  (∀ (s : State) (p : Fin 3) (f : CvnFrame) (c : Instr) (want ev : Nat),
    ((c = .cvnNoticeRx p f ∧ want = 4 ∧ ev = 6) ∨ (c = .cvnRecoverRx p f ∧ want = 6 ∧ ev = 7)) →
    (s.cvnUp p.val = false → exec c s = .next s) ∧
    (s.frameOk p.val want f.bytes (s.nrOk p.val f.bytes) = true → ∃ t, exec c s = .next t ∧
      (s.nrAct p.val f.bytes = .consume → t.cvn.rxBuf = s.cvn.rxBuf ∧ t.cvn.rxFull = s.cvn.rxFull) ∧
      (s.nrAct p.val f.bytes = .deliver → s.cvn.rxFull = true → t.link p.val =
        { (s.frameTaken p.val want f.bytes).link p.val with held := (s.link p.val).held ++ [f.bytes] } ∧ t.cvn.rxBuf = s.cvn.rxBuf) ∧
      (s.nrAct p.val f.bytes = .deliver → s.cvn.rxFull = false → ∀ o, o = (if fIndex f.bytes = 0 then 0 else s.cvn.rxBuf.length) →
        t.cvn.rxBuf = s.cvn.rxBuf.take o ++ fBody f.bytes ∧ t.cvn.rxFull = (fIndex f.bytes == fLast f.bytes) ∧ t.cvn.rxFunc = want ∧
        t.cvn.rxSrc = fSrc f.bytes ∧ t.cvn.rxDst = fDst f.bytes ∧ t.cvn.rxPort = p.val ∧
        (bufInRam s.rxBase = true → t.bytes (s.rxBase + o) (fBody f.bytes).length = fBody f.bytes) ∧
        (bufInRam s.rxBase = false → t.ram = s.ram) ∧
        (fIndex f.bytes = fLast f.bytes → t.evt (evCvn ev) = (s.evt (evCvn ev)).bump)) ∧
      (∀ q, s.nrAct p.val f.bytes = .pass [q] → q ≠ p.val → (s.link p.val).waiting = [] → s.linkIdle q 4 = true →
          (want = 6 → 2 ≤ (s.link q).ver) →
        t.outbox.getLast? = some (.cvn q (s.nextFrame q (fwdOf p.val f.bytes)))))) ∧
  (∀ (s : State) (m : Master) (imgs : List ImageSeen), s.admits m (aCvn 0 0x48) = true →
    (s.cvn.rxFull = false → exec (.cvnForward m imgs) s = .next s ∧ exec (.cvnDrop m) s = .next s) ∧
    (s.cvn.rxFull = true → s.noneHeld = true →
      exec (.cvnDrop m) s = .next { s with cvn := { s.cvn with rxFull := false, rxBuf := [], rxFrag := 0 } } ∧
      ∃ t, exec (.cvnForward m imgs) s = .next t ∧ t.cvn.rxFull = false ∧ t.cvn.rxBuf = [] ∧
        (s.cvn.rxFunc = 4 → t.reg (aCvn 3 0x6C) = wd (Bytes.num s.rxObject 8 4)) ∧
        (s.cvn.rxFunc ≠ 4 → t = { s with cvn := t.cvn, outbox := t.outbox, regs := t.regs, freeCtr := t.freeCtr }) ∧
        (s.cvn.rxFunc = 6 → s.cvn.rxDst ≠ bcast → t = { s with cvn := { s.cvn with rxFull := false, rxBuf := [], rxFrag := 0 } }))) ∧
  (∀ (s : State) (m : Master) (o : Bytes) (n : Nat), s.admits m (aCvn 0 0x48) = true → o = s.bytes s.txBase 7488 → n = Bytes.num o 8 4 →
    ((s.cvnOn = false ∨ bufInRam s.txBase = false ∨ s.fldOf (aCvn 3 0x64) 12 0 ≠ 7488 ∨ n ≤ s.noticeSeq) →
      exec (.cvnSendNotice m) s = .next (s.refuse m (aCvn 0 0x48))) ∧
    (s.cvnOn = true → bufInRam s.txBase = true → s.fldOf (aCvn 3 0x64) 12 0 = 7488 → s.noticeSeq < n → ∃ t, exec (.cvnSendNotice m) s = .next t ∧
      t.reg (aCvn 3 0x6C) = wd n ∧ t = { s with regs := t.regs, cvn := t.cvn, outbox := t.outbox, freeCtr := t.freeCtr } ∧
      (s.cvnRoot = false → s.linkIdle 0 7 = true → t.outbox.length = s.outbox.length + 4 ∧ (t.link 0).waiting = [] ∧
        (t.link 0).tx = (s.link 0).tx - 4))) ∧
  (∀ (s : State) (m : Master) (len dst : Nat), s.admits m (aCvn 0 0x48) = true → len = s.fldOf (aCvn 3 0x64) 12 0 →
    dst = s.fldOf (aCvn 3 0x64) 27 16 →
    ((s.cvnOn = false ∨ bufInRam s.txBase = false ∨ len < 8 ∨ 7936 < len) → exec (.cvnSendRecover m) s = .next (s.refuse m (aCvn 0 0x48))) ∧
    (s.cvnOn = true → bufInRam s.txBase = true → 8 ≤ len → len ≤ 7936 → ∃ t, exec (.cvnSendRecover m) s = .next t ∧
      (dst ≠ bcast → dst = s.cvn.addr → s.cvn.rxFull = false → t.cvn = { s.cvn with
        rxBuf := s.bytes s.txBase len, rxFunc := 6, rxSrc := s.cvn.addr, rxDst := dst, rxPort := 3, rxFull := true, rxFrag := 0 } ∧
        t.evt (evCvn 7) = (s.evt (evCvn 7)).bump ∧ t = { s.routed t with cvn := t.cvn, ram := t.ram, flr := t.flr } ∧
        (bufInRam s.rxBase = true → t.bytes s.rxBase len = s.bytes s.txBase len) ∧ (bufInRam s.rxBase = false → t.ram = s.ram)) ∧
      (dst ≠ bcast → dst < s.cvn.addr → s.linkIdle 0 4 = true → 2 ≤ (s.link 0).ver → len ≤ 1984 →
        t.outbox = s.outbox ++ [.cvn 0 (s.nextFrame 0 (cvnOut 6 s.cvn.addr dst (s.bytes s.txBase len)))]))) ∧
  (∀ (s : State) (k : Fin 64),
    (s.recovers 1 (some k.val) = false → exec (.recoverHold k) s = .next s) ∧
    (s.recovers 1 (some k.val) = true → ∃ t, exec (.recoverHold k) s = .next t ∧
      t.prst.recoverHold = s.prst.recoverHold ||| lineBits (s.classLines k.val) ∧
      t.prst.holdReq = s.prst.holdReq ||| lineBits (s.classLines k.val)) ∧
    (s.recovers 2 (some k.val) = false → exec (.recoverSubstitute k) s = .next s) ∧
    (s.recovers 2 (some k.val) = true → ∃ t, exec (.recoverSubstitute k) s = .next t ∧
      t.prst.holdReq = s.prst.holdReq ||| lineBits (s.classLines k.val) ∧ t.prst.recoverHold = s.prst.recoverHold) ∧
    (∀ env, (s.recovers 3 (some k.val) = false ∨ s.rxObject.drop 8 ≠ env) → exec (.recoverRestore k env) s = .next s) ∧
    (∀ env, s.recovers 3 (some k.val) = true → s.rxObject.drop 8 = env → exec (.recoverRestore k env) s = .next (s.recoverRestore env)) ∧
    (s.recovers 4 none = false → exec .recoverReport s = .next s) ∧
    (s.recovers 4 none = true → s.cvn.addr ≠ 0 → s.cvn.addr ≠ 1 → s.linkIdle 0 4 = true → 2 ≤ (s.link 0).ver →
      ∃ t, exec .recoverReport s = .next t ∧ t = { s with cvn := t.cvn, outbox := t.outbox } ∧
      t.outbox = s.outbox ++ [.cvn 0 (s.nextFrame 0 (cvnOut 6 s.cvn.addr 1 (leBytes 4 4 ++ zeros 4 ++ s.nodeRec s.cvn.epoch.toNat)))]))

/-! ### Transaction key service -/

/-- TK_MAC_VERIFY, TK_MAC_GENERATE, TK_PIN_TRANSLATE, TK_IK_DERIVE, TK_STATE, TKS_JOB_START, TKS_JOB_DONE and TKS_PIPE_FAULT (R564 to R568, R573,
R577, R580, R581): a job that passes its checks joins the order and takes its uses, else it completes at once with its code; it starts in
the lowest free pipeline in its context's turn; one that ends OK leaves its counter state in the context, and a faulty pipeline leaves
service.
It says that `exec` completes with a next state for each of: tkMacVerify, tkMacGenerate, tkPinTranslate, tkIkDerive, tkState, tksJobStart,
tksJobDone, tksPipeFault. -/
def Obligations.TransactionJobsKeepTheOrderOfTheirContext : Prop :=
  (∀ (s : State) (src : JobSrc) (d : Desc) (io : JobIo) (opc : Nat) (c : Instr), tkCommand opc src d io c → s.takesJob src d opc = true →
    (s.tkFirst opc d ≠ stOk → s.tkFirst opc d ≠ stStaleHandle →
      exec c s = .next ((s.take src).tkFail ((s.take src).tkNew src opc d io) (s.tkFirst opc d) 0 false)) ∧
    (s.tkFirst opc d = stStaleHandle →
      exec c s = .next (((s.take src).count (evCel 14)).tkFail ((s.take src).tkNew src opc d io) stStaleHandle 0 false)) ∧
    (s.tkFirst opc d = stOk → s.tkStale (dw d 4) = true → tFault d = false → ∃ t, exec c s = .next t ∧
      t.tks = s.tks ∧ t.evt (evCel 14) = (s.evt (evCel 14)).bump) ∧
    (s.tkFirst opc d = stOk → s.tkStale (dw d 4) = false → (dw d 4 ≠ 0 ∨ tFault d = false) →
      s.tkCheck4 src.issuer opc d (dw d 4) = false →
      exec c s = .next ((s.take src).tkFail ((s.take src).tkNew src opc d io) stStateForbids 0 false)) ∧
    (s.tkFirst opc d = stOk → s.tkStale (dw d 4) = false → s.tkCheck4 src.issuer opc d (dw d 4) = true →
      s.tkCheck5 opc d (dw d 4) = false → exec c s = .next ((s.take src).tkFail ((s.take src).tkNew src opc d io) stAuthFail 0 false)) ∧
    (s.tkAccepts src.issuer opc d = true → ∃ t, exec c s = .next t ∧
      t.tks = { s.tks with waiting := s.tks.waiting ++ [(s.take src).tkNew src opc d io] } ∧
      (tkNeeds2 opc d = none → s.useTaken t (dw d 4) []) ∧
      t.reg (pg 0x192 0x6C) = wd (max (s.reg (pg 0x192 0x6C)).toNat (s.tkInflight + 1)) ∧
      t = { s.take src with cel := t.cel, tks := t.tks, regs := t.regs })) ∧
  (∀ (s : State) (ix : Nat),
    ((s.tks.waiting[ix]? = none ∨ s.freePipe = none ∨ s.tkPowered = false ∨
        ∃ j, s.tks.waiting[ix]? = some j ∧ (j.opc < 0x40 ∨ (j.hmac = true ∧ s.macRoom = false))) → exec (.tksJobStart ix) s = .next s) ∧
    (∀ j p u, s.tks.waiting[ix]? = some j → s.freePipe = some p → 0x40 ≤ j.opc → (j.hmac = true → s.macRoom = true) →
      u = { s with tks := { s.tks with waiting := s.tks.waiting.eraseIdx ix } } →
      (s.tkTurn ix j = false → exec (.tksJobStart ix) s = .next s) ∧
      (s.tkTurn ix j = true → s.tkPowered = true → s.liveH j.handle = true →
        (tkNeeds2 j.opc j.desc = none ∨ s.liveH (tHandle2 j.desc) = true) → exec (.tksJobStart ix) s = .next (u.tkGo p j).keyGo ∧
        (s.noKeyOps = true → ∃ t, exec (.tksJobStart ix) s = .next t ∧
          t.pipe p = some (s.tkRun j) ∧ (∀ q, q ≠ p → t.pipe q = s.pipe q) ∧ t.tks.waiting = s.tks.waiting.eraseIdx ix ∧
          t.tks.faulty = s.tks.faulty ∧ t.tks.tampered = s.tks.tampered ∧
          t.reg (pg 0x192 0x64) = (if (s.tkRun j).hit then s.reg (pg 0x192 0x64) else satInc (s.reg (pg 0x192 0x64))) ∧
          t.drbgCtr = (if j.opc = 0x42 then s.drbgCtr + 1 else s.drbgCtr) ∧
          (j.hmac = false → t = { s with tks := t.tks, regs := t.regs, drbgCtr := t.drbgCtr }))) ∧
      (s.tkTurn ix j = true → s.tkPowered = true → s.liveH j.handle = false → tFault j.desc = false →
        exec (.tksJobStart ix) s = .next (((u.count (evCel 14)).tkFail j stStaleHandle 0 false).keyGo) ∧
        (s.noKeyOps = true → ∃ t, exec (.tksJobStart ix) s = .next t ∧
          t.tks = u.tks ∧ t.evt (evCel 14) = (s.evt (evCel 14)).bump)))) ∧
  (∀ (s : State) (p : Fin 8), ((s.pipe p.val = none ∨ s.tkPowered = false ∨ s.macBusy p.val = true) → exec (.tksJobDone p) s = .next s) ∧
    (∀ j, s.pipe p.val = some j → s.tkPowered = true → s.macBusy p.val = false →
      (s.memOn j.src.issuer = false → exec (.tksJobDone p) s = .next s) ∧
      (s.memOn j.src.issuer = true →
        (∀ st, j.abort = some st → exec (.tksJobDone p) s = .next ((s.setPipe p.val none).tkFail j st 0 false).keyGo) ∧
        (j.abort = none → j.status ≠ stOk → exec (.tksJobDone p) s = .next ((s.setPipe p.val none).tkFail j j.status j.detail false).keyGo) ∧
        exec (.tksJobDone p) s = .next ((s.setPipe p.val none).tkEnd j).keyGo ∧
        (∀ m, s.noKeyOps = true → j.abort = none → j.status = stOk → j.io.writeFault = false → j.opc ≠ 0x43 → j.after = some m → s.liveH j.handle = true →
          (s.slot (hSlot j.handle)).ctx.uses ≠ 0 → ∃ t, exec (.tksJobDone p) s = .next t ∧ t.pipe p.val = none ∧
          (∀ q, q ≠ p.val → t.pipe q = s.pipe q) ∧ t.tks.waiting = s.tks.waiting ∧
          t.slot (hSlot j.handle) = { s.slot (hSlot j.handle) with ctx := { (s.slot (hSlot j.handle)).ctx with material := m } } ∧
          (∀ w, j.opc = 0x40 → w = (s.reg (pg 0x192 0x40)).toNat + 2 ^ 32 * (s.reg (pg 0x192 0x44)).toNat + 1 →
            t.reg (pg 0x192 0x40) = wd (w % 2 ^ 32) ∧ t.reg (pg 0x192 0x44) = wd (w / 2 ^ 32))) ∧
        (∀ i, s.noKeyOps = true → j.abort = none → j.status = stOk → j.io.writeFault = false → j.opc = 0x43 → tLocal j.desc = true →
          s.allocAt j.src.issuer = some i → ∃ t, exec (.tksJobDone p) s = .next t ∧ t.pipe p.val = none ∧ (t.slot i).st = .loaded ∧
          (t.slot i).gen = (s.slot i).gen ∧ (t.slot i).ctx = { ikCtx j with
            owner := j.src.issuer, domain := domainOf j.src.issuer, epoch := s.blobEpoch (domainOf j.src.issuer) } ∧
          t.evt (evTks 7) = (s.evt (evTks 7)).bump)))) ∧
  (∀ (s : State) (p : Fin 8), ∃ t, exec (.tksPipeFault p) s = .next t ∧ t.tks.faulty = s.tks.faulty ||| BitVec.ofNat 8 (2 ^ p.val) ∧
    t.pipeState p.val = .fault ∧ t.pipe p.val = none ∧ (s.noKeyOps = true → t.tks.waiting = s.tks.waiting) ∧ t.evt (evTks 6) = (s.evt (evTks 6)).bump ∧
    (s.pipe p.val = none → t = { s.routed t with tks := t.tks }))

/-! ### Tamper and the battery domain -/

/-- SENSOR_TRIP, THERM_CONTAIN_LIFT, VBAT_LOW, VBAT_MISSING, VBAT_RETURN, BATTERY_DOMAIN_START and LOOP_ARM_WRITE (R583 to R591, R602, R603, R664): a
sensed trip latches its cause with the time and the state of its moment and erases the secrets, and a running core forces every line,
wipes its keys and stops its services; an unarmed loop or an unsensed class does nothing; loops are only armed.
It says that `exec` completes with a next state for each of: sensorTrip, batteryDomainStart, thermContainLift, vbatLow, vbatMissing,
vbatReturn, loopArmWrite. -/
def Obligations.TripsLatchTheirCauseAndEraseTheSecrets : Prop :=
  (∀ (s : State) (c : Fin 13), c.val ≠ 11 → (c.val = 12 ∨ s.senses c.val = false ∨ s.armed c.val = false) → exec (.sensorTrip c) s = .next s) ∧
  (∀ (s : State) (c : Fin 13), c.val ≠ 11 → c.val ≠ 12 → s.senses c.val = true → s.armed c.val = true → (c.val = 9 → s.tamp.action ≠ 0 ∧ s.tamp.action ≠ 1) →
    ∃ t, exec (.sensorTrip c) s = .next t ∧ t.tamp.latch = true ∧ t.cel.bank0 = [] ∧ t.cel.bank1 = [] ∧ t.cel.active = none ∧
      t.tamp.live = s.tamp.live ||| causeBit c.val ∧
      (s.tamp.latch = true → t.tamp.cause = s.tamp.cause ||| causeBit c.val ∧ t.tamp.time = s.tamp.time ∧ t.tamp.record = s.tamp.record) ∧
      (s.tamp.latch = false → t.tamp.cause = causeBit c.val ∧ t.tamp.time = s.tamp.batTime ∧ t.tamp.record = s.trecState ∧
        t.tamp.rearmed = false) ∧
      (s.coreUp = true → t.tamp.responded = true ∧ (∀ i, i < 24 → t.prst.force.getLsbD i = true) ∧ (∀ i, (t.slot i).live = false) ∧
        t.cel.ops = [] ∧ t.cel.tampered = true ∧ t.tks = { s.tks with waiting := [], running := [], tampered := true } ∧
        t.cmd.running = s.cmd.running.filter s.cmdFlying ∧ t.cmd.waiting = [] ∧ t.cis.blocked = true ∧ (∀ p, p < 3 → (t.link p).st = .down) ∧
        (∀ k, classSrc c.val = some k → t.evt (evTamp k) = (s.evt (evTamp k)).bump) ∧ t.evt (evTamp 0) = (s.evt (evTamp 0)).bump ∧
        t.evt (evBoot 11) = (s.evt (evBoot 11)).bump ∧
        (s.boot.rtReleased = false → s.boot.wipePending = false → s.boot.halted = false → t.boot.halted = true ∧ t.fldOf aStage 7 0 = 0x0F ∧
          t.fldOf aStage 15 8 = 0x01 ∧ t.evt (evBoot 15) = (s.evt (evBoot 15)).bump)) ∧
      (s.coreUp = false → t.tamp.responded = s.tamp.responded ∧ (s.wakesBy 5 = true → t.pwr.coreEn = true ∧ t.pwr.wakeLast = some 5) ∧
        t = { s with tamp := t.tamp, cel := t.cel, pwr := t.pwr })) ∧
  (∀ s : State, s.senses 9 = true →
    (s.tamp.action = 0 → ∃ t, exec (.sensorTrip 9) s = .next t ∧ (s.coreUp = true → t.evt (evTamp 7) = (s.evt (evTamp 7)).bump) ∧
      t = { s.routed t with tamp := { s.tamp with live := s.tamp.live ||| causeBit 9 } }) ∧
    (s.tamp.action = 1 → s.coreUp = true → ∃ t, exec (.sensorTrip 9) s = .next t ∧ t.tamp.contained = true ∧ t.tamp.latch = s.tamp.latch ∧
      (∀ i, i < 24 → t.prst.force.getLsbD i = true) ∧ t.evt (evTamp 7) = (s.evt (evTamp 7)).bump ∧
      t.evt (evTamp 8) = (s.evt (evTamp 8)).bump ∧ t.cel = s.cel) ∧
    (s.tamp.action = 1 → s.coreUp = false → ∃ t, exec (.sensorTrip 9) s = .next t ∧ t.tamp.contained = true ∧ t.tamp.latch = s.tamp.latch ∧
      (∀ i, i < 24 → t.prst.force.getLsbD i = true) ∧ t.evt (evTamp 7) = s.evt (evTamp 7) ∧
      t.evt (evTamp 8) = (s.evt (evTamp 8)).bump ∧ t.cel = s.cel)) ∧
  (∀ s : State, (s.coreUp = true → exec (.sensorTrip 11) s = .next s ∧ exec .batteryDomainStart s = .next s) ∧
    (s.coreUp = false → ∀ c : Instr, (c = .sensorTrip 11 ∨ c = .batteryDomainStart) → ∃ t, exec c s = .next t ∧ t.tamp.latch = true ∧
      t.tamp.cause = causeBit 11 ∧ t.tamp.time = 0 ∧ t.tamp.batTime = 0 ∧ t.tamp.rearms = 0 ∧ t.tamp.loopArm = 0 ∧ t.tamp.action = 2 ∧
      t.tamp.record = s.trecState ∧ t.cel.bank0 = [] ∧ t.cel.bank1 = [] ∧ t = { s with tamp := t.tamp, cel := t.cel })) ∧
  (∀ s : State,
    exec .thermContainLift s = .next { s with tamp := { s.tamp with contained := false, live := s.tamp.live &&& ~~~(causeBit 9) } } ∧
    (s.coreUp = false → exec .vbatLow s = .next s) ∧
    (s.coreUp = true → ∃ t, exec .vbatLow s = .next t ∧ t.evt (evTamp 9) = (s.evt (evTamp 9)).bump ∧ t = s.routed t) ∧
    (s.pwr.aonValid = false → exec .vbatMissing s = .next s) ∧
    (s.pwr.aonValid = true → ∃ t, exec .vbatMissing s = .next t ∧ (s.coreUp = true → t.evt (evTamp 10) = (s.evt (evTamp 10)).bump) ∧
      t = { s.routed t with tamp := { s.tamp with onAon := true } }) ∧
    exec .vbatReturn s = .next { s with tamp := { s.tamp with onAon := false } }) ∧
  (∀ (s : State) (m : Master) (v : Word), s.admits m (pg 0x1D 0x48) = true →
    exec (.loopArmWrite m v) s = .next { s with tamp := { s.tamp with loopArm := s.tamp.loopArm ||| BitVec.ofNat 4 (v.toNat % 16) } })

/-! ### Power states, wakes and pins -/

/-- PWR_REQ_STANDBY, PWR_REQ_RETAIN, PWR_REQ_ACTIVE, STANDBY_ENTRY_DONE, ACTIVE_RETURN_DONE, RETAIN_ENTRY_DONE, WAKE_N_EDGE, GP_PIN_EDGE, PERST_ASSERT,
PERST_DEASSERT, WAKE_TIMEOUT and WATCHDOG_EXPIRE (R594 to R600, R616, R658, R666): a refused request leaves its code; an accepted one stops what
its target does not keep and shows as PENDING until it is done; an enabled wake source raises CORE_EN; an edge restarts the watchdogs of
its pin, and one that runs out forces its line.
It says that `exec` completes with a next state for each of: pwrReqStandby, pwrReqRetain, pwrReqActive, standbyEntryDone, activeReturnDone,
retainEntryDone, wakeNEdge, perstDeassert, perstAssert, wakeTimeout, gpPinEdge, watchdogExpire. -/
def Obligations.PowerRequestsWakesAndWatchdogs : Prop :=
  (∀ (s : State) (m : Master) (x : Power) (c : Instr),
    ((x = .standby ∧ c = .pwrReqStandby m) ∨ (x = .retain ∧ c = .pwrReqRetain m) ∨ (x = .active ∧ c = .pwrReqActive m)) →
    s.admits m (pg 0x1D 0x40) = true →
    (s.pwrCheck x ≠ stOk → ∃ t, exec c s = .next t ∧ t.evt (evTamp 12) = (s.evt (evTamp 12)).bump ∧
      t = { s.routed t with pwr := { s.pwr with refuse := s.pwrCheck x } }) ∧
    (s.pwrCheck x = stOk → ∃ t, exec c s = .next t ∧ t.pwr = { s.pwr with pending := some x } ∧
      t.reg (pg 0x1D 0x40) = wd x.num ∧
      (x = .active → t = { s with regs := t.regs, pwr := t.pwr }) ∧
      (x = .standby → t.hq.up = false ∧ ∀ p, p < 3 → (t.link p).st = .down) ∧
      (x = .retain → t.prst.holdReq = 0xFFFFFF ∧ t.prst.seq = .idle ∧ (∀ i, (t.slot i).live = false) ∧
        ∀ h, 1 ≤ h → h ≤ 4 → (t.hart h).st = .reset ∧ ∀ n, n < 64 → s.sem n = some (hartMaster h) → t.sem n = none))) ∧
  (∀ s : State, (s.pwr.pending ≠ some .standby → exec .standbyEntryDone s = .next s) ∧
    (s.pwr.pending = some .standby → ∃ t, exec .standbyEntryDone s = .next t ∧ t.pwr = { s.pwr with power := .standby, pending := none } ∧
      t.tks.waiting.all (fun j => decide (j.opc < 0x40)) = true ∧
      (s.noKeyOps = true → t.tks.waiting = [] ∧ t.tks.running = []) ∧ t.evt (evTamp 11) = (s.evt (evTamp 11)).bump) ∧
    (s.pwr.pending ≠ some .active → exec .activeReturnDone s = .next s) ∧
    (s.pwr.pending = some .active → ∃ t, exec .activeReturnDone s = .next t ∧ t.evt (evTamp 11) = (s.evt (evTamp 11)).bump ∧
      (∀ p, p < 3 → t.link p = if s.pwr.holdup = false ∧ s.bitOf (aCvn 0 0x40) 0 = true ∧ s.bitOf (aCvn 0 0x40) (4 + p) = true ∧ (s.link p).st = .down then
        { s.link p with st := .locking } else s.link p) ∧
      t = { s.routed t with pwr := { s.pwr with power := .active, pending := none }, cvn := t.cvn }) ∧
    (s.pwr.pending ≠ some .retain → exec .retainEntryDone s = .next s) ∧
    (s.pwr.pending = some .retain → ∃ t, exec .retainEntryDone s = .next t ∧
      t.pwr = { s.pwr with power := .retain, pending := none, coreEn := false, wakeSince := none } ∧ t.prst.gpWake = 0 ∧ t.ram = [] ∧ t.hq = State.reset.hq ∧ t.cvn = State.reset.cvn ∧
      t.boot.rtReleased = false ∧ t.coreUp = false ∧ (∀ a, aonPage (a / 4096) = true → t.reg a = s.reg a) ∧
      (∀ i, (t.slot i).live = false) ∧ t.evt (evTamp 11) = (s.evt (evTamp 11)).bump)) ∧
  (∀ (s : State) (n : Nat) (c : Instr), ((n = 0 ∧ c = .wakeNEdge) ∨ (n = 4 ∧ c = .perstDeassert)) →
    (s.wakesBy n = false → exec c s = .next s) ∧
    (s.wakesBy n = true → exec c s = .next { s with pwr := { s.pwr with
      coreEn := true, coreEnAt := s.clk, wakeSince := some s.clk, wakeLast := some n, wakeOwed := true } })) ∧
  (∀ s : State, exec .perstAssert s = exec .linkDown s ∧ (s.hq.up = false → exec .perstAssert s = .next s) ∧
    (s.hq.up = true → ∃ t, exec .perstAssert s = .next t ∧ t.hq.up = false ∧ t.hq.speed = 0 ∧ t.hq.width = 0 ∧ t.fn 0 = FnState.reset)) ∧
  (∀ s : State, (s.wakeLate = false → exec .wakeTimeout s = .next s) ∧
    (s.wakeLate = true → exec .wakeTimeout s = .next { s with pwr := { s.pwr with coreEn := false, wakeSince := none } })) ∧
  (∀ (s : State) (p : Fin 16) (rise : Bool), (s.prst.gpIn.getLsbD p.val = rise → exec (.gpPinEdge p rise) s = .next s) ∧
    (s.prst.gpIn.getLsbD p.val ≠ rise → ∃ t, exec (.gpPinEdge p rise) s = .next t ∧ t.prst.gpIn = putBit s.prst.gpIn p.val rise ∧
      (s.bitOf (pg 0x2D 0x44) p.val = true → t = { s with prst := { s.prst with gpIn := putBit s.prst.gpIn p.val rise } }) ∧
      (s.bitOf (pg 0x2D 0x44) p.val = false →
        (∀ w, w < 8 → Word.field (s.wdogCfg w) 11 8 = p.val → (t.wdog w) = { s.wdog w with since := s.clk }) ∧
        (∀ w, Word.field (s.wdogCfg w) 11 8 ≠ p.val → t.wdog w = s.wdog w) ∧
        (s.bitOf (pg 0x2D (if rise then 0x50 else 0x54)) p.val = true → s.wakesBy 1 = true → t.pwr.coreEn = true ∧ t.pwr.wakeLast = some 1 ∧
          t.prst.gpWake = putBit s.prst.gpWake p.val true) ∧
        (s.wakesBy 1 = false → t.pwr = s.pwr ∧ t.prst.gpWake = s.prst.gpWake)))) ∧
  (∀ (s : State) (w : Fin 8),
    ((s.wdogRuns w.val = false ∨ s.clk < (s.wdog w.val).since + 1000 * Word.field (s.wdogCfg w.val) 31 16) →
      exec (.watchdogExpire w) s = .next s) ∧
    (s.wdogRuns w.val = true → (s.wdog w.val).since + 1000 * Word.field (s.wdogCfg w.val) 31 16 ≤ s.clk → ∃ t,
      exec (.watchdogExpire w) s = .next t ∧ t.wdog w.val = { s.wdog w.val with
        expired := true, expiries := min 255 ((s.wdog w.val).expiries + 1), line := Word.field (s.wdogCfg w.val) 4 0 } ∧
      (∀ k, k ≠ w.val → t.wdog k = s.wdog k) ∧ t.prst.force.getLsbD (Word.field (s.wdogCfg w.val) 4 0) = true ∧
      t.prst.released.getLsbD (Word.field (s.wdogCfg w.val) 4 0) = false ∧ t.evt (evBoot 11) = (s.evt (evBoot 11)).bump))

/-! ### Flight recorder and board events -/

/-- DRBG_RESEED, CHECKPOINT_WRITE, EXPORT_START_DMA, EXPORT_START_WIN, EXPORT_ABORT, EXPORT_DATA_READ, EXPORT_DONE, REPLAY_ENTER, REPLAY_DIVERGE,
REPLAY_END, SRAM_CORRECTED_ERROR, PLL_UNLOCK, REFCLK_LOSS and FABRIC_TIMEOUT (R88, R404, R624 to R634): a permitted export seals what the recorder
holds and ends with its last byte; ENTER is for hart 0 in RETURN with its right, and resets the device into the replay; a replay that stops halts every hart; board events
are counted while the core runs.
It says that `exec` completes with a next state for each of: drbgReseed, checkpointWrite, exportStartWin, exportStartDma, exportAbort,
exportDataRead, exportDone, replayEnter, replayDiverge, replayEnd, sramCorrectedError, fabricTimeout, pllUnlock, refclkLoss. -/
def Obligations.ExportsReplaysAndBoardEvents : Prop :=
  (∀ s : State, (s.coreUp = false → exec .drbgReseed s = .next s) ∧
    (s.coreUp = true → ∃ t, exec .drbgReseed s = .next t ∧ t.cel = { s.cel with reseeds := min 65535 (s.cel.reseeds + 1), drbgHealthy := true } ∧
      t = { s.recorded t with cel := t.cel, freeCtr := s.freeCtr + 1 })) ∧
  (∀ (s : State) (m : Master) (v : Word),
    (s.flr.replay = .running → isHart m = true → exec (.checkpointWrite m v) s =
      .next { s with flr := { s.flr with checkpoints := min 65535 (s.flr.checkpoints + 1) } }) ∧
    (s.admits m (pg 0x29 0x44) = true → ∃ t, exec (.checkpointWrite m v) s = .next t ∧
      s.flr.records ≤ t.flr.records ∧ t = { s.recorded t with freeCtr := s.freeCtr + 1 })) ∧
  (∀ (s : State) (m : Master) (win : Bool) (c : Instr), c = (if win then .exportStartWin m else .exportStartDma m) →
    s.admits m (pg 0x29 0x4C) = true →
    ((s.expMay m = false ∨ s.flr.exp = .running) → exec c s = .next (s.refuse m (pg 0x29 0x4C))) ∧
    (s.expMay m = true → s.flr.exp ≠ .running → ∃ t e, exec c s = .next t ∧
      e = s.ebeth (Config.drbg s.drbgCtr 32) (Config.drbg (s.drbgCtr + 1) 32) (Config.drbg (s.drbgCtr + 2) 32) ∧
      t.flr = { s.flr with exp := .running, expCode := 0, expMaster := m, expWin := win, expLegs := e.2,
                           expData := e.1, expPos := 0, expTamper := s.flr.tamper.isSome } ∧
      t.reg (pg 0x29 0x5C) = wd e.1.length)) ∧
  (∀ (s : State) (m : Master), s.admits m (pg 0x29 0x4C) = true →
    (s.flr.exp ≠ .running → exec (.exportAbort m) s = .next s) ∧
    (s.flr.exp = .running → exec (.exportAbort m) s =
      .next { s with flr := { s.flr with exp := .failed, expCode := stAborted, expData := [] } })) ∧
  (∀ (s : State) (m : Master), s.arrives m 0x29 = true → ∃ t, exec (.exportDataRead m) s = .next t ∧
    t.outbox.getLast? = some (.readData m (pg 0x29 0x60) (leBytes 4 (s.expWord m).toNat)) ∧
    (s.expReads m = false → t.flr.expPos = s.flr.expPos ∧ t.flr.exp = s.flr.exp) ∧
    (s.expReads m = true → s.flr.expPos + 4 < s.flr.expData.length → t.flr.expPos = s.flr.expPos + 4 ∧ t.flr.exp = .running) ∧
    (s.expReads m = true → s.flr.expData.length ≤ s.flr.expPos + 4 → t.flr.exp = .done ∧ t.evt (evFlr 1) = (s.evt (evFlr 1)).bump ∧
      (s.flr.expTamper = true → t.tamp.exported = true))) ∧
  (∀ (s : State) (ok : Bool), ((s.flr.exp ≠ .running ∨ s.flr.expWin = true) → exec (.exportDone ok) s = .next s) ∧
    (s.flr.exp = .running → s.flr.expWin = false →
      (ok = false → exec (.exportDone ok) s = .next { s with flr := { s.flr with exp := .failed, expCode := stLengthShort, expData := [] } }) ∧
      (ok = true → ∃ t, exec (.exportDone ok) s = .next t ∧ t.flr = { s.flr with exp := .done, expData := [] } ∧
        .memWrite 0x10 s.expAddr s.flr.expData (s.fn 0).ctl.ero ∈ t.outbox ∧ t.evt (evFlr 1) = (s.evt (evFlr 1)).bump ∧
        t.tamp.exported = (s.tamp.exported || s.flr.expTamper)))) ∧
  (∀ (s : State) (m : Master), s.admits m (pg 0x29 0x64) = true →
    (s.replayMay m = false → exec (.replayEnter m) s = .next (s.refuse m (pg 0x29 0x64))) ∧
    (s.replayMay m = true → ∃ u : State, u = { s with flr := { s.flr with replay := .pending }, pwr := { s.pwr with replayReset := true } } ∧
      exec (.replayEnter m) s = .next u.resetGo ∧
      (s.cis.inflight = none → u.resetGo.flr.replay = .pending ∧ u.resetGo.boot.rtReleased = false ∧ u.resetGo.boot.wipePending = true) ∧
      (s.cis.inflight ≠ none → u.resetGo = { u with pwr := { u.pwr with resetOwed := true } }))) ∧
  (∀ s : State, ((s.flr.replay ≠ .running ∨ s.coreUp = false) → exec .replayDiverge s = .next s ∧ exec .replayEnd s = .next s) ∧
    (s.flr.replay = .running → s.coreUp = true →
      (∃ t, exec .replayDiverge s = .next t ∧ t.flr.replay = .diverged ∧ (∀ h, h < 5 → (t.hart h).st = .halted) ∧
        t.evt (evFlr 3) = (s.evt (evFlr 3)).bump ∧ t.freeCtr = s.freeCtr + 1) ∧
      (∃ t, exec .replayEnd s = .next t ∧ t.flr = { s.flr with replay := .done } ∧ (∀ h, h < 5 → (t.hart h).st = .halted) ∧
        t = { s with flr := t.flr, harts := t.harts }))) ∧
  (∀ (s : State) (c : Instr) (k : Nat), ((c = .sramCorrectedError false ∧ k = 6) ∨ (c = .sramCorrectedError true ∧ k = 7) ∨
      (c = .fabricTimeout ∧ k = 9) ∨ (c = .pllUnlock ∧ k = 10) ∨ (c = .refclkLoss ∧ k = 11)) →
    (s.coreUp = false → exec c s = .next s) ∧
    (s.coreUp = true → ∃ t, exec c s = .next t ∧ t.evt (evSys k) = (s.evt (evSys k)).bump ∧ (∀ j, j ≠ evSys k → t.evt j = s.evt j) ∧
      t = s.routed t))

/-! ### The whole block -/

/--A step runs the command at the front of the queue on the state with the rest of it. -/
def Obligations.AStepRunsTheFrontCommand : Prop :=
  ∀ (c : Instr) (rest : List Instr) (s : State), step { s with pending := c :: rest } = exec c { s with pending := rest }

/-- On an empty queue one microsecond passes: the clock counts it, the oscillator moves by its rate while the always-on rail is valid, and
nothing is refused (the model's own choice of what an empty queue does: assumption 2). -/
def Obligations.AnEmptyQueueLetsAMicrosecondPass : Prop :=
  ∀ s : State, s.pending = [] → ∃ t, step s = .next t ∧ t.clk = s.clk + 1 ∧ t.pending = [] ∧
    t.cis.ph = (if s.pwr.aonValid then s.cis.ph + s.cis.rate else s.cis.ph) ∧
    t.tamp.batTime = (if s.tamp.batUs = 999999 then satInc s.tamp.batTime else s.tamp.batTime)

/-- From every state a step answers a next state, which waits with exactly the rest of the queue: the block never stops, and no command
adds to the queue, drops from it or changes its order. -/
def Obligations.TheBlockNeverStopsAndKeepsItsQueueInOrder : Prop :=
  ∀ s : State, ∃ t, step s = .next t ∧ t.pending = s.pending.tail

/--No step, and so no command, no reset and no loss of power, clears a fuse bit that reads 1 (R345). -/
def Obligations.FusesOnlyGainOnes : Prop :=
  ∀ s t : State, step s = .next t → ∀ i, s.fuse i &&& t.fuse i = s.fuse i

/-- Every step keeps the canonical form of the register file, the core memory, the event records and the semaphores, so that equal contents are equal
data in every state that is reached from one that has it. -/
def Obligations.EveryStepKeepsTheStoresCanonical : Prop :=
  ∀ s t : State, s.canonical = true → step s = .next t → t.canonical = true

/-- The state after reset (R14, R27, R106, R138): the stores are canonical, every line is requested and none released, no runtime is released, the
device is ACTIVE, no semaphore is held and no command waits. -/
def Obligations.ResetHoldsEveryLineAndIsCanonical : Prop :=
  State.reset.canonical = true ∧ State.reset.prst.holdReq = 0xFFFFFF ∧ (∀ i, i < 24 → State.reset.lineHeld i = true) ∧
  State.reset.boot.rtReleased = false ∧ State.reset.pwr.power = .active ∧ (∀ n, n < 64 → State.reset.sem n = none) ∧
  (∀ i, (State.reset.slot i).live = false) ∧ (∀ a, State.reset.byte a = 0) ∧ State.reset.pending = []
end

