-- ==== Sys2Proof/Laws/SMap.lean ====
section
/-! SUPPORT. What reading and writing a sparse store does: a read after a write, and that a write keeps the canonical form. -/
namespace Sys2Proof

theorem SMap.get_erase {α : Type} (d : Nat → α) (m : SMap α) (k j : Nat) :
    SMap.get d (SMap.erase m k) j = if j = k then d j else SMap.get d m j := by
  induction m with
  | nil => simp [SMap.erase, SMap.get]
  | cons p t ih =>
    obtain ⟨i, v⟩ := p
    simp only [SMap.erase, List.filter_cons] at ih ⊢
    by_cases hik : i = k
    · subst hik
      simp only [bne_self_eq_false, Bool.false_eq_true, ↓reduceIte, ih, SMap.get]
      by_cases hj : j = i
      · simp [hj]
      · simp [hj, Ne.symm hj]
    · have : (i != k) = true := by simpa using hik
      simp only [this, ↓reduceIte, SMap.get, ih]
      by_cases hij : i = j
      · subst hij; simp [hik]
      · simp [hij]

theorem SMap.get_insert {α : Type} (d : Nat → α) (m : SMap α) (k j : Nat) (v : α)
    (h : SMap.get d m k = d k ∧ ∀ p ∈ m, p.1 ≠ k) :
    SMap.get d (SMap.insert m k v) j = if j = k then v else SMap.get d m j := by
  induction m with
  | nil =>
    by_cases hj : j = k
    · simp [SMap.insert, SMap.get, hj]
    · simp [SMap.insert, SMap.get, hj, Ne.symm hj]
  | cons p t ih =>
    obtain ⟨i, w⟩ := p
    have hik : i ≠ k := h.2 (i, w) (by simp)
    have ht : SMap.get d t k = d k ∧ ∀ p ∈ t, p.1 ≠ k :=
      ⟨by have := h.1; simpa [SMap.get, hik] using this, fun p hp => h.2 p (by simp [hp])⟩
    simp only [SMap.insert]
    by_cases hlt : k < i
    · simp only [hlt, ↓reduceIte, SMap.get]
      by_cases hj : j = k
      · simp [hj]
      · simp [hj, Ne.symm hj]
    · simp only [hlt, ↓reduceIte, SMap.get, ih ht]
      by_cases hij : i = j
      · subst hij; simp [hik]
      · simp [hij]

theorem SMap.not_mem_erase {α : Type} (m : SMap α) (k : Nat) : ∀ p ∈ SMap.erase m k, p.1 ≠ k := by
  intro p hp
  simp only [SMap.erase, List.mem_filter, bne_iff_ne, ne_eq] at hp
  exact hp.2

/-- A read after a write gives the value written at that key and the old value elsewhere, in any store. -/
@[simp] theorem SMap.get_set {α : Type} [DecidableEq α] (d : Nat → α) (m : SMap α) (k j : Nat) (v : α) :
    SMap.get d (SMap.set d m k v) j = if j = k then v else SMap.get d m j := by
  unfold SMap.set
  by_cases hv : v = d k
  · rw [if_pos hv, SMap.get_erase]
    by_cases hj : j = k
    · subst hj; simp [hv]
    · simp [hj]
  · rw [if_neg hv, SMap.get_insert]
    · rw [SMap.get_erase]
      by_cases hj : j = k <;> simp [hj]
    · exact ⟨by simp [SMap.get_erase], SMap.not_mem_erase m k⟩

theorem SMap.sorted_filter {α : Type} (q : Nat × α → Bool) (m : SMap α) (h : SMap.sorted m = true) :
    SMap.sorted (m.filter q) = true := by
  induction m with
  | nil => rfl
  | cons p t ih =>
    obtain ⟨i, v⟩ := p
    simp only [SMap.sorted, Bool.and_eq_true, List.all_eq_true, decide_eq_true_eq] at h
    rw [List.filter_cons]
    split
    · simp only [SMap.sorted, Bool.and_eq_true, List.all_eq_true, decide_eq_true_eq]
      exact ⟨fun x hx => h.1 x (List.mem_filter.mp hx).1, ih h.2⟩
    · exact ih h.2

theorem SMap.mem_insert {α : Type} (m : SMap α) (k : Nat) (v : α) (p : Nat × α) :
    p ∈ SMap.insert m k v ↔ p = (k, v) ∨ p ∈ m := by
  induction m with
  | nil => simp [SMap.insert]
  | cons q t ih =>
    simp only [SMap.insert]
    split
    · simp
    · simp only [List.mem_cons, ih]; tauto

theorem SMap.sorted_insert {α : Type} (m : SMap α) (k : Nat) (v : α) (h : SMap.sorted m = true)
    (hk : ∀ p ∈ m, p.1 ≠ k) : SMap.sorted (SMap.insert m k v) = true := by
  induction m with
  | nil => rfl
  | cons q t ih =>
    obtain ⟨i, w⟩ := q
    have hik : i ≠ k := hk (i, w) (by simp)
    simp only [SMap.sorted, Bool.and_eq_true, List.all_eq_true, decide_eq_true_eq] at h
    simp only [SMap.insert]
    split
    · rename_i hlt
      simp only [SMap.sorted, List.all_cons, Bool.and_eq_true, List.all_eq_true, decide_eq_true_eq]
      exact ⟨⟨hlt, fun x hx => Nat.lt_trans hlt (h.1 x hx)⟩, h.1, h.2⟩
    · rename_i hlt
      simp only [SMap.sorted, Bool.and_eq_true, List.all_eq_true, decide_eq_true_eq]
      refine ⟨fun x hx => ?_, ih h.2 (fun p hp => hk p (by simp [hp]))⟩
      rcases (SMap.mem_insert t k v x).mp hx with rfl | hx
      · show i < k
        omega
      · exact h.1 x hx

/-- A write keeps the canonical form. -/
theorem SMap.wf_set {α : Type} [DecidableEq α] (d : Nat → α) (m : SMap α) (k : Nat) (v : α)
    (h : SMap.wf d m = true) : SMap.wf d (SMap.set d m k v) = true := by
  simp only [SMap.wf, Bool.and_eq_true, List.all_eq_true, decide_eq_true_eq] at h ⊢
  unfold SMap.set
  have hs : SMap.sorted (SMap.erase m k) = true := SMap.sorted_filter _ m h.1
  have hd : ∀ x ∈ SMap.erase m k, x.2 ≠ d x.1 := fun x hx => h.2 x (List.mem_filter.mp hx).1
  by_cases hv : v = d k
  · rw [if_pos hv]; exact ⟨hs, hd⟩
  · rw [if_neg hv]
    refine ⟨SMap.sorted_insert _ k v hs (SMap.not_mem_erase m k), fun x hx => ?_⟩
    rcases (SMap.mem_insert _ k v x).mp hx with rfl | hx
    · exact hv
    · exact hd x hx

/-- The empty store is canonical. -/
@[simp] theorem SMap.wf_nil {α : Type} [DecidableEq α] (d : Nat → α) : SMap.wf d ([] : SMap α) = true := rfl
/-- The empty store reads as the default everywhere. -/
@[simp] theorem SMap.get_nil {α : Type} (d : Nat → α) (k : Nat) : SMap.get d ([] : SMap α) k = d k := rfl

/-- What a store reads as after the entries of some keys are dropped. -/
theorem SMap.get_filter {α : Type} (d : Nat → α) (l : SMap α) (q : Nat → Bool) (a : Nat) :
    SMap.get d (l.filter (fun e => q e.1)) a = if q a then SMap.get d l a else d a := by
  induction l with
  | nil => simp [SMap.get]
  | cons p t ih =>
    obtain ⟨i, v⟩ := p
    rw [List.filter_cons]
    by_cases hq : q i = true
    · simp only [hq, ↓reduceIte, SMap.get, ih]
      by_cases h : i = a
      · subst h; simp [hq]
      · simp [h]
    · simp only [hq, ↓reduceIte, SMap.get, ih, Bool.false_eq_true]
      by_cases h : i = a
      · subst h; simp [hq]
      · simp [h]

end Sys2Proof
end

