-- ==== Sys2Proof/Laws/State.lean ====
section
/-! SUPPORT. What each named operation over the state leaves alone, one equation per field that it does not touch, and what a
read gives after a write through the same accessor. -/
namespace Sys2Proof.Machine

@[simp] theorem State.setReg_frame (s : State) (a : Nat) (v : Word) :
    (s.setReg a v).clk = s.clk ∧ (s.setReg a v).buf = s.buf ∧ (s.setReg a v).posted = s.posted ∧
    (s.setReg a v).heldLow = s.heldLow ∧ (s.setReg a v).hiLatch = s.hiLatch ∧ (s.setReg a v).w1 = s.w1 ∧
    (s.setReg a v).events = s.events ∧ (s.setReg a v).msixPba = s.msixPba ∧ (s.setReg a v).sems = s.sems ∧
    (s.setReg a v).slowDue = s.slowDue ∧ (s.setReg a v).arm = s.arm ∧ (s.setReg a v).pwr = s.pwr ∧
    (s.setReg a v).tamp = s.tamp ∧ (s.setReg a v).boot = s.boot ∧ (s.setReg a v).prst = s.prst ∧
    (s.setReg a v).lcf = s.lcf ∧ (s.setReg a v).cel = s.cel ∧ (s.setReg a v).flr = s.flr ∧ (s.setReg a v).dgl = s.dgl ∧
    (s.setReg a v).hq = s.hq ∧ (s.setReg a v).harts = s.harts ∧ (s.setReg a v).mbx = s.mbx ∧ (s.setReg a v).cmd = s.cmd ∧
    (s.setReg a v).cis = s.cis ∧ (s.setReg a v).ports = s.ports ∧ (s.setReg a v).cache = s.cache ∧
    (s.setReg a v).frames = s.frames ∧ (s.setReg a v).meas = s.meas ∧ (s.setReg a v).spdm = s.spdm ∧
    (s.setReg a v).cvn = s.cvn ∧ (s.setReg a v).tks = s.tks ∧ (s.setReg a v).ram = s.ram ∧
    (s.setReg a v).outbox = s.outbox ∧ (s.setReg a v).freeCtr = s.freeCtr ∧ (s.setReg a v).drbgCtr = s.drbgCtr ∧
    (s.setReg a v).pending = s.pending := ⟨rfl, rfl, rfl, rfl, rfl, rfl, rfl, rfl, rfl, rfl, rfl, rfl, rfl, rfl, rfl, rfl, rfl, rfl, rfl, rfl, rfl, rfl, rfl, rfl, rfl, rfl, rfl, rfl, rfl, rfl, rfl, rfl, rfl, rfl, rfl, rfl⟩

@[simp] theorem State.setFld_frame (s : State) (a hi lo v : Nat) :
    (s.setFld a hi lo v).clk = s.clk ∧ (s.setFld a hi lo v).buf = s.buf ∧ (s.setFld a hi lo v).posted = s.posted ∧
    (s.setFld a hi lo v).heldLow = s.heldLow ∧ (s.setFld a hi lo v).hiLatch = s.hiLatch ∧ (s.setFld a hi lo v).w1 = s.w1 ∧
    (s.setFld a hi lo v).events = s.events ∧ (s.setFld a hi lo v).msixPba = s.msixPba ∧ (s.setFld a hi lo v).sems = s.sems ∧
    (s.setFld a hi lo v).slowDue = s.slowDue ∧ (s.setFld a hi lo v).arm = s.arm ∧ (s.setFld a hi lo v).pwr = s.pwr ∧
    (s.setFld a hi lo v).tamp = s.tamp ∧ (s.setFld a hi lo v).boot = s.boot ∧ (s.setFld a hi lo v).prst = s.prst ∧
    (s.setFld a hi lo v).lcf = s.lcf ∧ (s.setFld a hi lo v).cel = s.cel ∧ (s.setFld a hi lo v).flr = s.flr ∧
    (s.setFld a hi lo v).dgl = s.dgl ∧ (s.setFld a hi lo v).hq = s.hq ∧ (s.setFld a hi lo v).harts = s.harts ∧
    (s.setFld a hi lo v).mbx = s.mbx ∧ (s.setFld a hi lo v).cmd = s.cmd ∧ (s.setFld a hi lo v).cis = s.cis ∧
    (s.setFld a hi lo v).ports = s.ports ∧ (s.setFld a hi lo v).cache = s.cache ∧ (s.setFld a hi lo v).frames = s.frames ∧
    (s.setFld a hi lo v).meas = s.meas ∧ (s.setFld a hi lo v).spdm = s.spdm ∧ (s.setFld a hi lo v).cvn = s.cvn ∧
    (s.setFld a hi lo v).tks = s.tks ∧ (s.setFld a hi lo v).ram = s.ram ∧ (s.setFld a hi lo v).outbox = s.outbox ∧
    (s.setFld a hi lo v).freeCtr = s.freeCtr ∧ (s.setFld a hi lo v).drbgCtr = s.drbgCtr ∧
    (s.setFld a hi lo v).pending = s.pending := ⟨rfl, rfl, rfl, rfl, rfl, rfl, rfl, rfl, rfl, rfl, rfl, rfl, rfl, rfl, rfl, rfl, rfl, rfl, rfl, rfl, rfl, rfl, rfl, rfl, rfl, rfl, rfl, rfl, rfl, rfl, rfl, rfl, rfl, rfl, rfl, rfl⟩

@[simp] theorem State.incReg_frame (s : State) (a : Nat) :
    (s.incReg a).clk = s.clk ∧ (s.incReg a).buf = s.buf ∧ (s.incReg a).posted = s.posted ∧
    (s.incReg a).heldLow = s.heldLow ∧ (s.incReg a).hiLatch = s.hiLatch ∧ (s.incReg a).w1 = s.w1 ∧
    (s.incReg a).events = s.events ∧ (s.incReg a).msixPba = s.msixPba ∧ (s.incReg a).sems = s.sems ∧
    (s.incReg a).slowDue = s.slowDue ∧ (s.incReg a).arm = s.arm ∧ (s.incReg a).pwr = s.pwr ∧ (s.incReg a).tamp = s.tamp ∧
    (s.incReg a).boot = s.boot ∧ (s.incReg a).prst = s.prst ∧ (s.incReg a).lcf = s.lcf ∧ (s.incReg a).cel = s.cel ∧
    (s.incReg a).flr = s.flr ∧ (s.incReg a).dgl = s.dgl ∧ (s.incReg a).hq = s.hq ∧ (s.incReg a).harts = s.harts ∧
    (s.incReg a).mbx = s.mbx ∧ (s.incReg a).cmd = s.cmd ∧ (s.incReg a).cis = s.cis ∧ (s.incReg a).ports = s.ports ∧
    (s.incReg a).cache = s.cache ∧ (s.incReg a).frames = s.frames ∧ (s.incReg a).meas = s.meas ∧
    (s.incReg a).spdm = s.spdm ∧ (s.incReg a).cvn = s.cvn ∧ (s.incReg a).tks = s.tks ∧ (s.incReg a).ram = s.ram ∧
    (s.incReg a).outbox = s.outbox ∧ (s.incReg a).freeCtr = s.freeCtr ∧ (s.incReg a).drbgCtr = s.drbgCtr ∧
    (s.incReg a).pending = s.pending := ⟨rfl, rfl, rfl, rfl, rfl, rfl, rfl, rfl, rfl, rfl, rfl, rfl, rfl, rfl, rfl, rfl, rfl, rfl, rfl, rfl, rfl, rfl, rfl, rfl, rfl, rfl, rfl, rfl, rfl, rfl, rfl, rfl, rfl, rfl, rfl, rfl⟩

@[simp] theorem State.add64_frame (s : State) (a n : Nat) :
    (s.add64 a n).clk = s.clk ∧ (s.add64 a n).buf = s.buf ∧ (s.add64 a n).posted = s.posted ∧
    (s.add64 a n).heldLow = s.heldLow ∧ (s.add64 a n).hiLatch = s.hiLatch ∧ (s.add64 a n).w1 = s.w1 ∧
    (s.add64 a n).events = s.events ∧ (s.add64 a n).msixPba = s.msixPba ∧ (s.add64 a n).sems = s.sems ∧
    (s.add64 a n).slowDue = s.slowDue ∧ (s.add64 a n).arm = s.arm ∧ (s.add64 a n).pwr = s.pwr ∧
    (s.add64 a n).tamp = s.tamp ∧ (s.add64 a n).boot = s.boot ∧ (s.add64 a n).prst = s.prst ∧ (s.add64 a n).lcf = s.lcf ∧
    (s.add64 a n).cel = s.cel ∧ (s.add64 a n).flr = s.flr ∧ (s.add64 a n).dgl = s.dgl ∧ (s.add64 a n).hq = s.hq ∧
    (s.add64 a n).harts = s.harts ∧ (s.add64 a n).mbx = s.mbx ∧ (s.add64 a n).cmd = s.cmd ∧ (s.add64 a n).cis = s.cis ∧
    (s.add64 a n).ports = s.ports ∧ (s.add64 a n).cache = s.cache ∧ (s.add64 a n).frames = s.frames ∧
    (s.add64 a n).meas = s.meas ∧ (s.add64 a n).spdm = s.spdm ∧ (s.add64 a n).cvn = s.cvn ∧ (s.add64 a n).tks = s.tks ∧
    (s.add64 a n).ram = s.ram ∧ (s.add64 a n).outbox = s.outbox ∧ (s.add64 a n).freeCtr = s.freeCtr ∧
    (s.add64 a n).drbgCtr = s.drbgCtr ∧ (s.add64 a n).pending = s.pending := ⟨rfl, rfl, rfl, rfl, rfl, rfl, rfl, rfl, rfl, rfl, rfl, rfl, rfl, rfl, rfl, rfl, rfl, rfl, rfl, rfl, rfl, rfl, rfl, rfl, rfl, rfl, rfl, rfl, rfl, rfl, rfl, rfl, rfl, rfl, rfl, rfl⟩

@[simp] theorem State.setBuf_frame (s : State) (a : Nat) (v : Option Word) :
    (s.setBuf a v).clk = s.clk ∧ (s.setBuf a v).regs = s.regs ∧ (s.setBuf a v).posted = s.posted ∧
    (s.setBuf a v).heldLow = s.heldLow ∧ (s.setBuf a v).hiLatch = s.hiLatch ∧ (s.setBuf a v).w1 = s.w1 ∧
    (s.setBuf a v).events = s.events ∧ (s.setBuf a v).msixPba = s.msixPba ∧ (s.setBuf a v).sems = s.sems ∧
    (s.setBuf a v).slowDue = s.slowDue ∧ (s.setBuf a v).arm = s.arm ∧ (s.setBuf a v).pwr = s.pwr ∧
    (s.setBuf a v).tamp = s.tamp ∧ (s.setBuf a v).boot = s.boot ∧ (s.setBuf a v).prst = s.prst ∧
    (s.setBuf a v).lcf = s.lcf ∧ (s.setBuf a v).cel = s.cel ∧ (s.setBuf a v).flr = s.flr ∧ (s.setBuf a v).dgl = s.dgl ∧
    (s.setBuf a v).hq = s.hq ∧ (s.setBuf a v).harts = s.harts ∧ (s.setBuf a v).mbx = s.mbx ∧ (s.setBuf a v).cmd = s.cmd ∧
    (s.setBuf a v).cis = s.cis ∧ (s.setBuf a v).ports = s.ports ∧ (s.setBuf a v).cache = s.cache ∧
    (s.setBuf a v).frames = s.frames ∧ (s.setBuf a v).meas = s.meas ∧ (s.setBuf a v).spdm = s.spdm ∧
    (s.setBuf a v).cvn = s.cvn ∧ (s.setBuf a v).tks = s.tks ∧ (s.setBuf a v).ram = s.ram ∧
    (s.setBuf a v).outbox = s.outbox ∧ (s.setBuf a v).freeCtr = s.freeCtr ∧ (s.setBuf a v).drbgCtr = s.drbgCtr ∧
    (s.setBuf a v).pending = s.pending := ⟨rfl, rfl, rfl, rfl, rfl, rfl, rfl, rfl, rfl, rfl, rfl, rfl, rfl, rfl, rfl, rfl, rfl, rfl, rfl, rfl, rfl, rfl, rfl, rfl, rfl, rfl, rfl, rfl, rfl, rfl, rfl, rfl, rfl, rfl, rfl, rfl⟩

@[simp] theorem State.setPosted_frame (s : State) (page : Nat) (v : Option Posted) :
    (s.setPosted page v).clk = s.clk ∧ (s.setPosted page v).regs = s.regs ∧ (s.setPosted page v).buf = s.buf ∧
    (s.setPosted page v).heldLow = s.heldLow ∧ (s.setPosted page v).hiLatch = s.hiLatch ∧ (s.setPosted page v).w1 = s.w1 ∧
    (s.setPosted page v).events = s.events ∧ (s.setPosted page v).msixPba = s.msixPba ∧ (s.setPosted page v).sems = s.sems ∧
    (s.setPosted page v).slowDue = s.slowDue ∧ (s.setPosted page v).arm = s.arm ∧ (s.setPosted page v).pwr = s.pwr ∧
    (s.setPosted page v).tamp = s.tamp ∧ (s.setPosted page v).boot = s.boot ∧ (s.setPosted page v).prst = s.prst ∧
    (s.setPosted page v).lcf = s.lcf ∧ (s.setPosted page v).cel = s.cel ∧ (s.setPosted page v).flr = s.flr ∧
    (s.setPosted page v).dgl = s.dgl ∧ (s.setPosted page v).hq = s.hq ∧ (s.setPosted page v).harts = s.harts ∧
    (s.setPosted page v).mbx = s.mbx ∧ (s.setPosted page v).cmd = s.cmd ∧ (s.setPosted page v).cis = s.cis ∧
    (s.setPosted page v).ports = s.ports ∧ (s.setPosted page v).cache = s.cache ∧ (s.setPosted page v).frames = s.frames ∧
    (s.setPosted page v).meas = s.meas ∧ (s.setPosted page v).spdm = s.spdm ∧ (s.setPosted page v).cvn = s.cvn ∧
    (s.setPosted page v).tks = s.tks ∧ (s.setPosted page v).ram = s.ram ∧ (s.setPosted page v).outbox = s.outbox ∧
    (s.setPosted page v).freeCtr = s.freeCtr ∧ (s.setPosted page v).drbgCtr = s.drbgCtr ∧
    (s.setPosted page v).pending = s.pending := ⟨rfl, rfl, rfl, rfl, rfl, rfl, rfl, rfl, rfl, rfl, rfl, rfl, rfl, rfl, rfl, rfl, rfl, rfl, rfl, rfl, rfl, rfl, rfl, rfl, rfl, rfl, rfl, rfl, rfl, rfl, rfl, rfl, rfl, rfl, rfl, rfl⟩

@[simp] theorem State.out_frame (s : State) (o : Out) :
    (s.out o).clk = s.clk ∧ (s.out o).regs = s.regs ∧ (s.out o).buf = s.buf ∧ (s.out o).posted = s.posted ∧
    (s.out o).heldLow = s.heldLow ∧ (s.out o).hiLatch = s.hiLatch ∧ (s.out o).w1 = s.w1 ∧ (s.out o).events = s.events ∧
    (s.out o).msixPba = s.msixPba ∧ (s.out o).sems = s.sems ∧ (s.out o).slowDue = s.slowDue ∧ (s.out o).arm = s.arm ∧
    (s.out o).pwr = s.pwr ∧ (s.out o).tamp = s.tamp ∧ (s.out o).boot = s.boot ∧ (s.out o).prst = s.prst ∧
    (s.out o).lcf = s.lcf ∧ (s.out o).cel = s.cel ∧ (s.out o).flr = s.flr ∧ (s.out o).dgl = s.dgl ∧ (s.out o).hq = s.hq ∧
    (s.out o).harts = s.harts ∧ (s.out o).mbx = s.mbx ∧ (s.out o).cmd = s.cmd ∧ (s.out o).cis = s.cis ∧
    (s.out o).ports = s.ports ∧ (s.out o).cache = s.cache ∧ (s.out o).frames = s.frames ∧ (s.out o).meas = s.meas ∧
    (s.out o).spdm = s.spdm ∧ (s.out o).cvn = s.cvn ∧ (s.out o).tks = s.tks ∧ (s.out o).ram = s.ram ∧
    (s.out o).freeCtr = s.freeCtr ∧ (s.out o).drbgCtr = s.drbgCtr ∧ (s.out o).pending = s.pending := ⟨rfl, rfl, rfl, rfl, rfl, rfl, rfl, rfl, rfl, rfl, rfl, rfl, rfl, rfl, rfl, rfl, rfl, rfl, rfl, rfl, rfl, rfl, rfl, rfl, rfl, rfl, rfl, rfl, rfl, rfl, rfl, rfl, rfl, rfl, rfl, rfl⟩

@[simp] theorem State.setPort_frame (s : State) (p : Nat) (v : PortState) :
    (s.setPort p v).clk = s.clk ∧ (s.setPort p v).regs = s.regs ∧ (s.setPort p v).buf = s.buf ∧
    (s.setPort p v).posted = s.posted ∧ (s.setPort p v).heldLow = s.heldLow ∧ (s.setPort p v).hiLatch = s.hiLatch ∧
    (s.setPort p v).w1 = s.w1 ∧ (s.setPort p v).events = s.events ∧ (s.setPort p v).msixPba = s.msixPba ∧
    (s.setPort p v).sems = s.sems ∧ (s.setPort p v).slowDue = s.slowDue ∧ (s.setPort p v).arm = s.arm ∧
    (s.setPort p v).pwr = s.pwr ∧ (s.setPort p v).tamp = s.tamp ∧ (s.setPort p v).boot = s.boot ∧
    (s.setPort p v).prst = s.prst ∧ (s.setPort p v).lcf = s.lcf ∧ (s.setPort p v).cel = s.cel ∧
    (s.setPort p v).flr = s.flr ∧ (s.setPort p v).dgl = s.dgl ∧ (s.setPort p v).hq = s.hq ∧
    (s.setPort p v).harts = s.harts ∧ (s.setPort p v).mbx = s.mbx ∧ (s.setPort p v).cmd = s.cmd ∧
    (s.setPort p v).cis = s.cis ∧ (s.setPort p v).cache = s.cache ∧ (s.setPort p v).frames = s.frames ∧
    (s.setPort p v).meas = s.meas ∧ (s.setPort p v).spdm = s.spdm ∧ (s.setPort p v).cvn = s.cvn ∧
    (s.setPort p v).tks = s.tks ∧ (s.setPort p v).ram = s.ram ∧ (s.setPort p v).outbox = s.outbox ∧
    (s.setPort p v).freeCtr = s.freeCtr ∧ (s.setPort p v).drbgCtr = s.drbgCtr ∧ (s.setPort p v).pending = s.pending := ⟨rfl, rfl, rfl, rfl, rfl, rfl, rfl, rfl, rfl, rfl, rfl, rfl, rfl, rfl, rfl, rfl, rfl, rfl, rfl, rfl, rfl, rfl, rfl, rfl, rfl, rfl, rfl, rfl, rfl, rfl, rfl, rfl, rfl, rfl, rfl, rfl⟩

@[simp] theorem State.modPort_frame (s : State) (p : Nat) (f : PortState → PortState) :
    (s.modPort p f).clk = s.clk ∧ (s.modPort p f).regs = s.regs ∧ (s.modPort p f).buf = s.buf ∧
    (s.modPort p f).posted = s.posted ∧ (s.modPort p f).heldLow = s.heldLow ∧ (s.modPort p f).hiLatch = s.hiLatch ∧
    (s.modPort p f).w1 = s.w1 ∧ (s.modPort p f).events = s.events ∧ (s.modPort p f).msixPba = s.msixPba ∧
    (s.modPort p f).sems = s.sems ∧ (s.modPort p f).slowDue = s.slowDue ∧ (s.modPort p f).arm = s.arm ∧
    (s.modPort p f).pwr = s.pwr ∧ (s.modPort p f).tamp = s.tamp ∧ (s.modPort p f).boot = s.boot ∧
    (s.modPort p f).prst = s.prst ∧ (s.modPort p f).lcf = s.lcf ∧ (s.modPort p f).cel = s.cel ∧
    (s.modPort p f).flr = s.flr ∧ (s.modPort p f).dgl = s.dgl ∧ (s.modPort p f).hq = s.hq ∧
    (s.modPort p f).harts = s.harts ∧ (s.modPort p f).mbx = s.mbx ∧ (s.modPort p f).cmd = s.cmd ∧
    (s.modPort p f).cis = s.cis ∧ (s.modPort p f).cache = s.cache ∧ (s.modPort p f).frames = s.frames ∧
    (s.modPort p f).meas = s.meas ∧ (s.modPort p f).spdm = s.spdm ∧ (s.modPort p f).cvn = s.cvn ∧
    (s.modPort p f).tks = s.tks ∧ (s.modPort p f).ram = s.ram ∧ (s.modPort p f).outbox = s.outbox ∧
    (s.modPort p f).freeCtr = s.freeCtr ∧ (s.modPort p f).drbgCtr = s.drbgCtr ∧ (s.modPort p f).pending = s.pending := ⟨rfl, rfl, rfl, rfl, rfl, rfl, rfl, rfl, rfl, rfl, rfl, rfl, rfl, rfl, rfl, rfl, rfl, rfl, rfl, rfl, rfl, rfl, rfl, rfl, rfl, rfl, rfl, rfl, rfl, rfl, rfl, rfl, rfl, rfl, rfl, rfl⟩

@[simp] theorem State.setHart_frame (s : State) (h : Nat) (v : Hart) :
    (s.setHart h v).clk = s.clk ∧ (s.setHart h v).regs = s.regs ∧ (s.setHart h v).buf = s.buf ∧
    (s.setHart h v).posted = s.posted ∧ (s.setHart h v).heldLow = s.heldLow ∧ (s.setHart h v).hiLatch = s.hiLatch ∧
    (s.setHart h v).w1 = s.w1 ∧ (s.setHart h v).events = s.events ∧ (s.setHart h v).msixPba = s.msixPba ∧
    (s.setHart h v).sems = s.sems ∧ (s.setHart h v).slowDue = s.slowDue ∧ (s.setHart h v).arm = s.arm ∧
    (s.setHart h v).pwr = s.pwr ∧ (s.setHart h v).tamp = s.tamp ∧ (s.setHart h v).boot = s.boot ∧
    (s.setHart h v).prst = s.prst ∧ (s.setHart h v).lcf = s.lcf ∧ (s.setHart h v).cel = s.cel ∧
    (s.setHart h v).flr = s.flr ∧ (s.setHart h v).dgl = s.dgl ∧ (s.setHart h v).hq = s.hq ∧ (s.setHart h v).mbx = s.mbx ∧
    (s.setHart h v).cmd = s.cmd ∧ (s.setHart h v).cis = s.cis ∧ (s.setHart h v).ports = s.ports ∧
    (s.setHart h v).cache = s.cache ∧ (s.setHart h v).frames = s.frames ∧ (s.setHart h v).meas = s.meas ∧
    (s.setHart h v).spdm = s.spdm ∧ (s.setHart h v).cvn = s.cvn ∧ (s.setHart h v).tks = s.tks ∧
    (s.setHart h v).ram = s.ram ∧ (s.setHart h v).outbox = s.outbox ∧ (s.setHart h v).freeCtr = s.freeCtr ∧
    (s.setHart h v).drbgCtr = s.drbgCtr ∧ (s.setHart h v).pending = s.pending := ⟨rfl, rfl, rfl, rfl, rfl, rfl, rfl, rfl, rfl, rfl, rfl, rfl, rfl, rfl, rfl, rfl, rfl, rfl, rfl, rfl, rfl, rfl, rfl, rfl, rfl, rfl, rfl, rfl, rfl, rfl, rfl, rfl, rfl, rfl, rfl, rfl⟩

@[simp] theorem State.setChan_frame (s : State) (c : Nat) (v : Channel) :
    (s.setChan c v).clk = s.clk ∧ (s.setChan c v).regs = s.regs ∧ (s.setChan c v).buf = s.buf ∧
    (s.setChan c v).posted = s.posted ∧ (s.setChan c v).heldLow = s.heldLow ∧ (s.setChan c v).hiLatch = s.hiLatch ∧
    (s.setChan c v).w1 = s.w1 ∧ (s.setChan c v).events = s.events ∧ (s.setChan c v).msixPba = s.msixPba ∧
    (s.setChan c v).sems = s.sems ∧ (s.setChan c v).slowDue = s.slowDue ∧ (s.setChan c v).arm = s.arm ∧
    (s.setChan c v).pwr = s.pwr ∧ (s.setChan c v).tamp = s.tamp ∧ (s.setChan c v).boot = s.boot ∧
    (s.setChan c v).prst = s.prst ∧ (s.setChan c v).lcf = s.lcf ∧ (s.setChan c v).cel = s.cel ∧
    (s.setChan c v).flr = s.flr ∧ (s.setChan c v).dgl = s.dgl ∧ (s.setChan c v).hq = s.hq ∧
    (s.setChan c v).harts = s.harts ∧ (s.setChan c v).cmd = s.cmd ∧ (s.setChan c v).cis = s.cis ∧
    (s.setChan c v).ports = s.ports ∧ (s.setChan c v).cache = s.cache ∧ (s.setChan c v).frames = s.frames ∧
    (s.setChan c v).meas = s.meas ∧ (s.setChan c v).spdm = s.spdm ∧ (s.setChan c v).cvn = s.cvn ∧
    (s.setChan c v).tks = s.tks ∧ (s.setChan c v).ram = s.ram ∧ (s.setChan c v).outbox = s.outbox ∧
    (s.setChan c v).freeCtr = s.freeCtr ∧ (s.setChan c v).drbgCtr = s.drbgCtr ∧ (s.setChan c v).pending = s.pending := ⟨rfl, rfl, rfl, rfl, rfl, rfl, rfl, rfl, rfl, rfl, rfl, rfl, rfl, rfl, rfl, rfl, rfl, rfl, rfl, rfl, rfl, rfl, rfl, rfl, rfl, rfl, rfl, rfl, rfl, rfl, rfl, rfl, rfl, rfl, rfl, rfl⟩

@[simp] theorem State.setQueue_frame (s : State) (q : Nat) (v : Queue) :
    (s.setQueue q v).clk = s.clk ∧ (s.setQueue q v).regs = s.regs ∧ (s.setQueue q v).buf = s.buf ∧
    (s.setQueue q v).posted = s.posted ∧ (s.setQueue q v).heldLow = s.heldLow ∧ (s.setQueue q v).hiLatch = s.hiLatch ∧
    (s.setQueue q v).w1 = s.w1 ∧ (s.setQueue q v).events = s.events ∧ (s.setQueue q v).msixPba = s.msixPba ∧
    (s.setQueue q v).sems = s.sems ∧ (s.setQueue q v).slowDue = s.slowDue ∧ (s.setQueue q v).arm = s.arm ∧
    (s.setQueue q v).pwr = s.pwr ∧ (s.setQueue q v).tamp = s.tamp ∧ (s.setQueue q v).boot = s.boot ∧
    (s.setQueue q v).prst = s.prst ∧ (s.setQueue q v).lcf = s.lcf ∧ (s.setQueue q v).cel = s.cel ∧
    (s.setQueue q v).flr = s.flr ∧ (s.setQueue q v).dgl = s.dgl ∧ (s.setQueue q v).harts = s.harts ∧
    (s.setQueue q v).mbx = s.mbx ∧ (s.setQueue q v).cmd = s.cmd ∧ (s.setQueue q v).cis = s.cis ∧
    (s.setQueue q v).ports = s.ports ∧ (s.setQueue q v).cache = s.cache ∧ (s.setQueue q v).frames = s.frames ∧
    (s.setQueue q v).meas = s.meas ∧ (s.setQueue q v).spdm = s.spdm ∧ (s.setQueue q v).cvn = s.cvn ∧
    (s.setQueue q v).tks = s.tks ∧ (s.setQueue q v).ram = s.ram ∧ (s.setQueue q v).outbox = s.outbox ∧
    (s.setQueue q v).freeCtr = s.freeCtr ∧ (s.setQueue q v).drbgCtr = s.drbgCtr ∧ (s.setQueue q v).pending = s.pending := ⟨rfl, rfl, rfl, rfl, rfl, rfl, rfl, rfl, rfl, rfl, rfl, rfl, rfl, rfl, rfl, rfl, rfl, rfl, rfl, rfl, rfl, rfl, rfl, rfl, rfl, rfl, rfl, rfl, rfl, rfl, rfl, rfl, rfl, rfl, rfl, rfl⟩

@[simp] theorem State.setFn_frame (s : State) (f : Nat) (v : FnState) :
    (s.setFn f v).clk = s.clk ∧ (s.setFn f v).regs = s.regs ∧ (s.setFn f v).buf = s.buf ∧ (s.setFn f v).posted = s.posted ∧
    (s.setFn f v).heldLow = s.heldLow ∧ (s.setFn f v).hiLatch = s.hiLatch ∧ (s.setFn f v).w1 = s.w1 ∧
    (s.setFn f v).events = s.events ∧ (s.setFn f v).msixPba = s.msixPba ∧ (s.setFn f v).sems = s.sems ∧
    (s.setFn f v).slowDue = s.slowDue ∧ (s.setFn f v).arm = s.arm ∧ (s.setFn f v).pwr = s.pwr ∧
    (s.setFn f v).tamp = s.tamp ∧ (s.setFn f v).boot = s.boot ∧ (s.setFn f v).prst = s.prst ∧ (s.setFn f v).lcf = s.lcf ∧
    (s.setFn f v).cel = s.cel ∧ (s.setFn f v).flr = s.flr ∧ (s.setFn f v).dgl = s.dgl ∧ (s.setFn f v).harts = s.harts ∧
    (s.setFn f v).mbx = s.mbx ∧ (s.setFn f v).cmd = s.cmd ∧ (s.setFn f v).cis = s.cis ∧ (s.setFn f v).ports = s.ports ∧
    (s.setFn f v).cache = s.cache ∧ (s.setFn f v).frames = s.frames ∧ (s.setFn f v).meas = s.meas ∧
    (s.setFn f v).spdm = s.spdm ∧ (s.setFn f v).cvn = s.cvn ∧ (s.setFn f v).tks = s.tks ∧ (s.setFn f v).ram = s.ram ∧
    (s.setFn f v).outbox = s.outbox ∧ (s.setFn f v).freeCtr = s.freeCtr ∧ (s.setFn f v).drbgCtr = s.drbgCtr ∧
    (s.setFn f v).pending = s.pending := ⟨rfl, rfl, rfl, rfl, rfl, rfl, rfl, rfl, rfl, rfl, rfl, rfl, rfl, rfl, rfl, rfl, rfl, rfl, rfl, rfl, rfl, rfl, rfl, rfl, rfl, rfl, rfl, rfl, rfl, rfl, rfl, rfl, rfl, rfl, rfl, rfl⟩

@[simp] theorem State.setSlot_frame (s : State) (i : Nat) (v : Slot) :
    (s.setSlot i v).clk = s.clk ∧ (s.setSlot i v).regs = s.regs ∧ (s.setSlot i v).buf = s.buf ∧
    (s.setSlot i v).posted = s.posted ∧ (s.setSlot i v).heldLow = s.heldLow ∧ (s.setSlot i v).hiLatch = s.hiLatch ∧
    (s.setSlot i v).w1 = s.w1 ∧ (s.setSlot i v).events = s.events ∧ (s.setSlot i v).msixPba = s.msixPba ∧
    (s.setSlot i v).sems = s.sems ∧ (s.setSlot i v).slowDue = s.slowDue ∧ (s.setSlot i v).arm = s.arm ∧
    (s.setSlot i v).pwr = s.pwr ∧ (s.setSlot i v).tamp = s.tamp ∧ (s.setSlot i v).boot = s.boot ∧
    (s.setSlot i v).prst = s.prst ∧ (s.setSlot i v).lcf = s.lcf ∧ (s.setSlot i v).flr = s.flr ∧
    (s.setSlot i v).dgl = s.dgl ∧ (s.setSlot i v).hq = s.hq ∧ (s.setSlot i v).harts = s.harts ∧
    (s.setSlot i v).mbx = s.mbx ∧ (s.setSlot i v).cmd = s.cmd ∧ (s.setSlot i v).cis = s.cis ∧
    (s.setSlot i v).ports = s.ports ∧ (s.setSlot i v).cache = s.cache ∧ (s.setSlot i v).frames = s.frames ∧
    (s.setSlot i v).meas = s.meas ∧ (s.setSlot i v).spdm = s.spdm ∧ (s.setSlot i v).cvn = s.cvn ∧
    (s.setSlot i v).tks = s.tks ∧ (s.setSlot i v).ram = s.ram ∧ (s.setSlot i v).outbox = s.outbox ∧
    (s.setSlot i v).freeCtr = s.freeCtr ∧ (s.setSlot i v).drbgCtr = s.drbgCtr ∧ (s.setSlot i v).pending = s.pending := ⟨rfl, rfl, rfl, rfl, rfl, rfl, rfl, rfl, rfl, rfl, rfl, rfl, rfl, rfl, rfl, rfl, rfl, rfl, rfl, rfl, rfl, rfl, rfl, rfl, rfl, rfl, rfl, rfl, rfl, rfl, rfl, rfl, rfl, rfl, rfl, rfl⟩

@[simp] theorem State.setDctx_frame (s : State) (i : Nat) (v : DCtx) :
    (s.setDctx i v).clk = s.clk ∧ (s.setDctx i v).regs = s.regs ∧ (s.setDctx i v).buf = s.buf ∧
    (s.setDctx i v).posted = s.posted ∧ (s.setDctx i v).heldLow = s.heldLow ∧ (s.setDctx i v).hiLatch = s.hiLatch ∧
    (s.setDctx i v).w1 = s.w1 ∧ (s.setDctx i v).events = s.events ∧ (s.setDctx i v).msixPba = s.msixPba ∧
    (s.setDctx i v).sems = s.sems ∧ (s.setDctx i v).slowDue = s.slowDue ∧ (s.setDctx i v).arm = s.arm ∧
    (s.setDctx i v).pwr = s.pwr ∧ (s.setDctx i v).tamp = s.tamp ∧ (s.setDctx i v).boot = s.boot ∧
    (s.setDctx i v).prst = s.prst ∧ (s.setDctx i v).lcf = s.lcf ∧ (s.setDctx i v).cel = s.cel ∧
    (s.setDctx i v).flr = s.flr ∧ (s.setDctx i v).hq = s.hq ∧ (s.setDctx i v).harts = s.harts ∧
    (s.setDctx i v).mbx = s.mbx ∧ (s.setDctx i v).cmd = s.cmd ∧ (s.setDctx i v).cis = s.cis ∧
    (s.setDctx i v).ports = s.ports ∧ (s.setDctx i v).cache = s.cache ∧ (s.setDctx i v).frames = s.frames ∧
    (s.setDctx i v).meas = s.meas ∧ (s.setDctx i v).spdm = s.spdm ∧ (s.setDctx i v).cvn = s.cvn ∧
    (s.setDctx i v).tks = s.tks ∧ (s.setDctx i v).ram = s.ram ∧ (s.setDctx i v).outbox = s.outbox ∧
    (s.setDctx i v).freeCtr = s.freeCtr ∧ (s.setDctx i v).drbgCtr = s.drbgCtr ∧ (s.setDctx i v).pending = s.pending := ⟨rfl, rfl, rfl, rfl, rfl, rfl, rfl, rfl, rfl, rfl, rfl, rfl, rfl, rfl, rfl, rfl, rfl, rfl, rfl, rfl, rfl, rfl, rfl, rfl, rfl, rfl, rfl, rfl, rfl, rfl, rfl, rfl, rfl, rfl, rfl, rfl⟩

@[simp] theorem State.setLane_frame (s : State) (i : Nat) (v : Lane) :
    (s.setLane i v).clk = s.clk ∧ (s.setLane i v).regs = s.regs ∧ (s.setLane i v).buf = s.buf ∧
    (s.setLane i v).posted = s.posted ∧ (s.setLane i v).heldLow = s.heldLow ∧ (s.setLane i v).hiLatch = s.hiLatch ∧
    (s.setLane i v).w1 = s.w1 ∧ (s.setLane i v).events = s.events ∧ (s.setLane i v).msixPba = s.msixPba ∧
    (s.setLane i v).sems = s.sems ∧ (s.setLane i v).slowDue = s.slowDue ∧ (s.setLane i v).arm = s.arm ∧
    (s.setLane i v).pwr = s.pwr ∧ (s.setLane i v).tamp = s.tamp ∧ (s.setLane i v).boot = s.boot ∧
    (s.setLane i v).prst = s.prst ∧ (s.setLane i v).lcf = s.lcf ∧ (s.setLane i v).cel = s.cel ∧
    (s.setLane i v).flr = s.flr ∧ (s.setLane i v).hq = s.hq ∧ (s.setLane i v).harts = s.harts ∧
    (s.setLane i v).mbx = s.mbx ∧ (s.setLane i v).cmd = s.cmd ∧ (s.setLane i v).cis = s.cis ∧
    (s.setLane i v).ports = s.ports ∧ (s.setLane i v).cache = s.cache ∧ (s.setLane i v).frames = s.frames ∧
    (s.setLane i v).meas = s.meas ∧ (s.setLane i v).spdm = s.spdm ∧ (s.setLane i v).cvn = s.cvn ∧
    (s.setLane i v).tks = s.tks ∧ (s.setLane i v).ram = s.ram ∧ (s.setLane i v).outbox = s.outbox ∧
    (s.setLane i v).freeCtr = s.freeCtr ∧ (s.setLane i v).drbgCtr = s.drbgCtr ∧ (s.setLane i v).pending = s.pending := ⟨rfl, rfl, rfl, rfl, rfl, rfl, rfl, rfl, rfl, rfl, rfl, rfl, rfl, rfl, rfl, rfl, rfl, rfl, rfl, rfl, rfl, rfl, rfl, rfl, rfl, rfl, rfl, rfl, rfl, rfl, rfl, rfl, rfl, rfl, rfl, rfl⟩

@[simp] theorem State.setAdm_frame (s : State) (i : Nat) (v : AdmEntry) :
    (s.setAdm i v).clk = s.clk ∧ (s.setAdm i v).regs = s.regs ∧ (s.setAdm i v).buf = s.buf ∧
    (s.setAdm i v).posted = s.posted ∧ (s.setAdm i v).heldLow = s.heldLow ∧ (s.setAdm i v).hiLatch = s.hiLatch ∧
    (s.setAdm i v).w1 = s.w1 ∧ (s.setAdm i v).events = s.events ∧ (s.setAdm i v).msixPba = s.msixPba ∧
    (s.setAdm i v).sems = s.sems ∧ (s.setAdm i v).slowDue = s.slowDue ∧ (s.setAdm i v).arm = s.arm ∧
    (s.setAdm i v).pwr = s.pwr ∧ (s.setAdm i v).tamp = s.tamp ∧ (s.setAdm i v).boot = s.boot ∧
    (s.setAdm i v).prst = s.prst ∧ (s.setAdm i v).lcf = s.lcf ∧ (s.setAdm i v).cel = s.cel ∧ (s.setAdm i v).flr = s.flr ∧
    (s.setAdm i v).dgl = s.dgl ∧ (s.setAdm i v).hq = s.hq ∧ (s.setAdm i v).harts = s.harts ∧ (s.setAdm i v).mbx = s.mbx ∧
    (s.setAdm i v).cmd = s.cmd ∧ (s.setAdm i v).ports = s.ports ∧ (s.setAdm i v).cache = s.cache ∧
    (s.setAdm i v).frames = s.frames ∧ (s.setAdm i v).meas = s.meas ∧ (s.setAdm i v).spdm = s.spdm ∧
    (s.setAdm i v).cvn = s.cvn ∧ (s.setAdm i v).tks = s.tks ∧ (s.setAdm i v).ram = s.ram ∧
    (s.setAdm i v).outbox = s.outbox ∧ (s.setAdm i v).freeCtr = s.freeCtr ∧ (s.setAdm i v).drbgCtr = s.drbgCtr ∧
    (s.setAdm i v).pending = s.pending := ⟨rfl, rfl, rfl, rfl, rfl, rfl, rfl, rfl, rfl, rfl, rfl, rfl, rfl, rfl, rfl, rfl, rfl, rfl, rfl, rfl, rfl, rfl, rfl, rfl, rfl, rfl, rfl, rfl, rfl, rfl, rfl, rfl, rfl, rfl, rfl, rfl⟩

@[simp] theorem State.setTimer_frame (s : State) (i : Nat) (v : Timer) :
    (s.setTimer i v).clk = s.clk ∧ (s.setTimer i v).regs = s.regs ∧ (s.setTimer i v).buf = s.buf ∧
    (s.setTimer i v).posted = s.posted ∧ (s.setTimer i v).heldLow = s.heldLow ∧ (s.setTimer i v).hiLatch = s.hiLatch ∧
    (s.setTimer i v).w1 = s.w1 ∧ (s.setTimer i v).events = s.events ∧ (s.setTimer i v).msixPba = s.msixPba ∧
    (s.setTimer i v).sems = s.sems ∧ (s.setTimer i v).slowDue = s.slowDue ∧ (s.setTimer i v).arm = s.arm ∧
    (s.setTimer i v).pwr = s.pwr ∧ (s.setTimer i v).tamp = s.tamp ∧ (s.setTimer i v).boot = s.boot ∧
    (s.setTimer i v).prst = s.prst ∧ (s.setTimer i v).lcf = s.lcf ∧ (s.setTimer i v).cel = s.cel ∧
    (s.setTimer i v).flr = s.flr ∧ (s.setTimer i v).dgl = s.dgl ∧ (s.setTimer i v).hq = s.hq ∧
    (s.setTimer i v).harts = s.harts ∧ (s.setTimer i v).mbx = s.mbx ∧ (s.setTimer i v).cmd = s.cmd ∧
    (s.setTimer i v).ports = s.ports ∧ (s.setTimer i v).cache = s.cache ∧ (s.setTimer i v).frames = s.frames ∧
    (s.setTimer i v).meas = s.meas ∧ (s.setTimer i v).spdm = s.spdm ∧ (s.setTimer i v).cvn = s.cvn ∧
    (s.setTimer i v).tks = s.tks ∧ (s.setTimer i v).ram = s.ram ∧ (s.setTimer i v).outbox = s.outbox ∧
    (s.setTimer i v).freeCtr = s.freeCtr ∧ (s.setTimer i v).drbgCtr = s.drbgCtr ∧ (s.setTimer i v).pending = s.pending := ⟨rfl, rfl, rfl, rfl, rfl, rfl, rfl, rfl, rfl, rfl, rfl, rfl, rfl, rfl, rfl, rfl, rfl, rfl, rfl, rfl, rfl, rfl, rfl, rfl, rfl, rfl, rfl, rfl, rfl, rfl, rfl, rfl, rfl, rfl, rfl, rfl⟩

@[simp] theorem State.setMslot_frame (s : State) (i : Nat) (v : MSlot) :
    (s.setMslot i v).clk = s.clk ∧ (s.setMslot i v).regs = s.regs ∧ (s.setMslot i v).buf = s.buf ∧
    (s.setMslot i v).posted = s.posted ∧ (s.setMslot i v).heldLow = s.heldLow ∧ (s.setMslot i v).hiLatch = s.hiLatch ∧
    (s.setMslot i v).w1 = s.w1 ∧ (s.setMslot i v).events = s.events ∧ (s.setMslot i v).msixPba = s.msixPba ∧
    (s.setMslot i v).sems = s.sems ∧ (s.setMslot i v).slowDue = s.slowDue ∧ (s.setMslot i v).arm = s.arm ∧
    (s.setMslot i v).pwr = s.pwr ∧ (s.setMslot i v).tamp = s.tamp ∧ (s.setMslot i v).boot = s.boot ∧
    (s.setMslot i v).prst = s.prst ∧ (s.setMslot i v).lcf = s.lcf ∧ (s.setMslot i v).cel = s.cel ∧
    (s.setMslot i v).flr = s.flr ∧ (s.setMslot i v).dgl = s.dgl ∧ (s.setMslot i v).hq = s.hq ∧
    (s.setMslot i v).harts = s.harts ∧ (s.setMslot i v).mbx = s.mbx ∧ (s.setMslot i v).cmd = s.cmd ∧
    (s.setMslot i v).cis = s.cis ∧ (s.setMslot i v).ports = s.ports ∧ (s.setMslot i v).cache = s.cache ∧
    (s.setMslot i v).frames = s.frames ∧ (s.setMslot i v).spdm = s.spdm ∧ (s.setMslot i v).cvn = s.cvn ∧
    (s.setMslot i v).tks = s.tks ∧ (s.setMslot i v).ram = s.ram ∧ (s.setMslot i v).outbox = s.outbox ∧
    (s.setMslot i v).freeCtr = s.freeCtr ∧ (s.setMslot i v).drbgCtr = s.drbgCtr ∧ (s.setMslot i v).pending = s.pending := ⟨rfl, rfl, rfl, rfl, rfl, rfl, rfl, rfl, rfl, rfl, rfl, rfl, rfl, rfl, rfl, rfl, rfl, rfl, rfl, rfl, rfl, rfl, rfl, rfl, rfl, rfl, rfl, rfl, rfl, rfl, rfl, rfl, rfl, rfl, rfl, rfl⟩

@[simp] theorem State.setLink_frame (s : State) (i : Nat) (v : CvnPort) :
    (s.setLink i v).clk = s.clk ∧ (s.setLink i v).regs = s.regs ∧ (s.setLink i v).buf = s.buf ∧
    (s.setLink i v).posted = s.posted ∧ (s.setLink i v).heldLow = s.heldLow ∧ (s.setLink i v).hiLatch = s.hiLatch ∧
    (s.setLink i v).w1 = s.w1 ∧ (s.setLink i v).events = s.events ∧ (s.setLink i v).msixPba = s.msixPba ∧
    (s.setLink i v).sems = s.sems ∧ (s.setLink i v).slowDue = s.slowDue ∧ (s.setLink i v).arm = s.arm ∧
    (s.setLink i v).pwr = s.pwr ∧ (s.setLink i v).tamp = s.tamp ∧ (s.setLink i v).boot = s.boot ∧
    (s.setLink i v).prst = s.prst ∧ (s.setLink i v).lcf = s.lcf ∧ (s.setLink i v).cel = s.cel ∧
    (s.setLink i v).flr = s.flr ∧ (s.setLink i v).dgl = s.dgl ∧ (s.setLink i v).hq = s.hq ∧
    (s.setLink i v).harts = s.harts ∧ (s.setLink i v).mbx = s.mbx ∧ (s.setLink i v).cmd = s.cmd ∧
    (s.setLink i v).cis = s.cis ∧ (s.setLink i v).ports = s.ports ∧ (s.setLink i v).cache = s.cache ∧
    (s.setLink i v).frames = s.frames ∧ (s.setLink i v).meas = s.meas ∧ (s.setLink i v).spdm = s.spdm ∧
    (s.setLink i v).tks = s.tks ∧ (s.setLink i v).ram = s.ram ∧ (s.setLink i v).outbox = s.outbox ∧
    (s.setLink i v).freeCtr = s.freeCtr ∧ (s.setLink i v).drbgCtr = s.drbgCtr ∧ (s.setLink i v).pending = s.pending := ⟨rfl, rfl, rfl, rfl, rfl, rfl, rfl, rfl, rfl, rfl, rfl, rfl, rfl, rfl, rfl, rfl, rfl, rfl, rfl, rfl, rfl, rfl, rfl, rfl, rfl, rfl, rfl, rfl, rfl, rfl, rfl, rfl, rfl, rfl, rfl, rfl⟩

@[simp] theorem State.setWdog_frame (s : State) (i : Nat) (v : Wdog) :
    (s.setWdog i v).clk = s.clk ∧ (s.setWdog i v).regs = s.regs ∧ (s.setWdog i v).buf = s.buf ∧
    (s.setWdog i v).posted = s.posted ∧ (s.setWdog i v).heldLow = s.heldLow ∧ (s.setWdog i v).hiLatch = s.hiLatch ∧
    (s.setWdog i v).w1 = s.w1 ∧ (s.setWdog i v).events = s.events ∧ (s.setWdog i v).msixPba = s.msixPba ∧
    (s.setWdog i v).sems = s.sems ∧ (s.setWdog i v).slowDue = s.slowDue ∧ (s.setWdog i v).arm = s.arm ∧
    (s.setWdog i v).pwr = s.pwr ∧ (s.setWdog i v).tamp = s.tamp ∧ (s.setWdog i v).boot = s.boot ∧
    (s.setWdog i v).lcf = s.lcf ∧ (s.setWdog i v).cel = s.cel ∧ (s.setWdog i v).flr = s.flr ∧ (s.setWdog i v).dgl = s.dgl ∧
    (s.setWdog i v).hq = s.hq ∧ (s.setWdog i v).harts = s.harts ∧ (s.setWdog i v).mbx = s.mbx ∧
    (s.setWdog i v).cmd = s.cmd ∧ (s.setWdog i v).cis = s.cis ∧ (s.setWdog i v).ports = s.ports ∧
    (s.setWdog i v).cache = s.cache ∧ (s.setWdog i v).frames = s.frames ∧ (s.setWdog i v).meas = s.meas ∧
    (s.setWdog i v).spdm = s.spdm ∧ (s.setWdog i v).cvn = s.cvn ∧ (s.setWdog i v).tks = s.tks ∧
    (s.setWdog i v).ram = s.ram ∧ (s.setWdog i v).outbox = s.outbox ∧ (s.setWdog i v).freeCtr = s.freeCtr ∧
    (s.setWdog i v).drbgCtr = s.drbgCtr ∧ (s.setWdog i v).pending = s.pending := ⟨rfl, rfl, rfl, rfl, rfl, rfl, rfl, rfl, rfl, rfl, rfl, rfl, rfl, rfl, rfl, rfl, rfl, rfl, rfl, rfl, rfl, rfl, rfl, rfl, rfl, rfl, rfl, rfl, rfl, rfl, rfl, rfl, rfl, rfl, rfl, rfl⟩

@[simp] theorem State.setFuse_frame (s : State) (i : Nat) (v : Word) :
    (s.setFuse i v).clk = s.clk ∧ (s.setFuse i v).regs = s.regs ∧ (s.setFuse i v).buf = s.buf ∧
    (s.setFuse i v).posted = s.posted ∧ (s.setFuse i v).heldLow = s.heldLow ∧ (s.setFuse i v).hiLatch = s.hiLatch ∧
    (s.setFuse i v).w1 = s.w1 ∧ (s.setFuse i v).events = s.events ∧ (s.setFuse i v).msixPba = s.msixPba ∧
    (s.setFuse i v).sems = s.sems ∧ (s.setFuse i v).slowDue = s.slowDue ∧ (s.setFuse i v).arm = s.arm ∧
    (s.setFuse i v).pwr = s.pwr ∧ (s.setFuse i v).tamp = s.tamp ∧ (s.setFuse i v).boot = s.boot ∧
    (s.setFuse i v).prst = s.prst ∧ (s.setFuse i v).cel = s.cel ∧ (s.setFuse i v).flr = s.flr ∧
    (s.setFuse i v).dgl = s.dgl ∧ (s.setFuse i v).hq = s.hq ∧ (s.setFuse i v).harts = s.harts ∧
    (s.setFuse i v).mbx = s.mbx ∧ (s.setFuse i v).cmd = s.cmd ∧ (s.setFuse i v).cis = s.cis ∧
    (s.setFuse i v).ports = s.ports ∧ (s.setFuse i v).cache = s.cache ∧ (s.setFuse i v).frames = s.frames ∧
    (s.setFuse i v).meas = s.meas ∧ (s.setFuse i v).spdm = s.spdm ∧ (s.setFuse i v).cvn = s.cvn ∧
    (s.setFuse i v).tks = s.tks ∧ (s.setFuse i v).ram = s.ram ∧ (s.setFuse i v).outbox = s.outbox ∧
    (s.setFuse i v).freeCtr = s.freeCtr ∧ (s.setFuse i v).drbgCtr = s.drbgCtr ∧ (s.setFuse i v).pending = s.pending := ⟨rfl, rfl, rfl, rfl, rfl, rfl, rfl, rfl, rfl, rfl, rfl, rfl, rfl, rfl, rfl, rfl, rfl, rfl, rfl, rfl, rfl, rfl, rfl, rfl, rfl, rfl, rfl, rfl, rfl, rfl, rfl, rfl, rfl, rfl, rfl, rfl⟩

@[simp] theorem State.setByte_frame (s : State) (a : Nat) (v : Byte) :
    (s.setByte a v).clk = s.clk ∧ (s.setByte a v).regs = s.regs ∧ (s.setByte a v).buf = s.buf ∧
    (s.setByte a v).posted = s.posted ∧ (s.setByte a v).heldLow = s.heldLow ∧ (s.setByte a v).hiLatch = s.hiLatch ∧
    (s.setByte a v).w1 = s.w1 ∧ (s.setByte a v).events = s.events ∧ (s.setByte a v).msixPba = s.msixPba ∧
    (s.setByte a v).sems = s.sems ∧ (s.setByte a v).slowDue = s.slowDue ∧ (s.setByte a v).arm = s.arm ∧
    (s.setByte a v).pwr = s.pwr ∧ (s.setByte a v).tamp = s.tamp ∧ (s.setByte a v).boot = s.boot ∧
    (s.setByte a v).prst = s.prst ∧ (s.setByte a v).lcf = s.lcf ∧ (s.setByte a v).cel = s.cel ∧
    (s.setByte a v).flr = s.flr ∧ (s.setByte a v).dgl = s.dgl ∧ (s.setByte a v).hq = s.hq ∧
    (s.setByte a v).harts = s.harts ∧ (s.setByte a v).mbx = s.mbx ∧ (s.setByte a v).cmd = s.cmd ∧
    (s.setByte a v).cis = s.cis ∧ (s.setByte a v).ports = s.ports ∧ (s.setByte a v).cache = s.cache ∧
    (s.setByte a v).frames = s.frames ∧ (s.setByte a v).meas = s.meas ∧ (s.setByte a v).spdm = s.spdm ∧
    (s.setByte a v).cvn = s.cvn ∧ (s.setByte a v).tks = s.tks ∧ (s.setByte a v).outbox = s.outbox ∧
    (s.setByte a v).freeCtr = s.freeCtr ∧ (s.setByte a v).drbgCtr = s.drbgCtr ∧ (s.setByte a v).pending = s.pending := ⟨rfl, rfl, rfl, rfl, rfl, rfl, rfl, rfl, rfl, rfl, rfl, rfl, rfl, rfl, rfl, rfl, rfl, rfl, rfl, rfl, rfl, rfl, rfl, rfl, rfl, rfl, rfl, rfl, rfl, rfl, rfl, rfl, rfl, rfl, rfl, rfl⟩

@[simp] theorem State.drew_frame (s : State) :
    (s.drew).clk = s.clk ∧ (s.drew).regs = s.regs ∧ (s.drew).buf = s.buf ∧ (s.drew).posted = s.posted ∧
    (s.drew).heldLow = s.heldLow ∧ (s.drew).hiLatch = s.hiLatch ∧ (s.drew).w1 = s.w1 ∧ (s.drew).events = s.events ∧
    (s.drew).msixPba = s.msixPba ∧ (s.drew).sems = s.sems ∧ (s.drew).slowDue = s.slowDue ∧ (s.drew).arm = s.arm ∧
    (s.drew).pwr = s.pwr ∧ (s.drew).tamp = s.tamp ∧ (s.drew).boot = s.boot ∧ (s.drew).prst = s.prst ∧ (s.drew).lcf = s.lcf ∧
    (s.drew).cel = s.cel ∧ (s.drew).flr = s.flr ∧ (s.drew).dgl = s.dgl ∧ (s.drew).hq = s.hq ∧ (s.drew).harts = s.harts ∧
    (s.drew).mbx = s.mbx ∧ (s.drew).cmd = s.cmd ∧ (s.drew).cis = s.cis ∧ (s.drew).ports = s.ports ∧
    (s.drew).cache = s.cache ∧ (s.drew).frames = s.frames ∧ (s.drew).meas = s.meas ∧ (s.drew).spdm = s.spdm ∧
    (s.drew).cvn = s.cvn ∧ (s.drew).tks = s.tks ∧ (s.drew).ram = s.ram ∧ (s.drew).outbox = s.outbox ∧
    (s.drew).freeCtr = s.freeCtr ∧ (s.drew).pending = s.pending := ⟨rfl, rfl, rfl, rfl, rfl, rfl, rfl, rfl, rfl, rfl, rfl, rfl, rfl, rfl, rfl, rfl, rfl, rfl, rfl, rfl, rfl, rfl, rfl, rfl, rfl, rfl, rfl, rfl, rfl, rfl, rfl, rfl, rfl, rfl, rfl, rfl⟩

@[simp] theorem State.freed_frame (s : State) :
    (s.freed).clk = s.clk ∧ (s.freed).regs = s.regs ∧ (s.freed).buf = s.buf ∧ (s.freed).posted = s.posted ∧
    (s.freed).heldLow = s.heldLow ∧ (s.freed).hiLatch = s.hiLatch ∧ (s.freed).w1 = s.w1 ∧ (s.freed).events = s.events ∧
    (s.freed).msixPba = s.msixPba ∧ (s.freed).sems = s.sems ∧ (s.freed).slowDue = s.slowDue ∧ (s.freed).arm = s.arm ∧
    (s.freed).pwr = s.pwr ∧ (s.freed).tamp = s.tamp ∧ (s.freed).boot = s.boot ∧ (s.freed).prst = s.prst ∧
    (s.freed).lcf = s.lcf ∧ (s.freed).cel = s.cel ∧ (s.freed).flr = s.flr ∧ (s.freed).dgl = s.dgl ∧ (s.freed).hq = s.hq ∧
    (s.freed).harts = s.harts ∧ (s.freed).mbx = s.mbx ∧ (s.freed).cmd = s.cmd ∧ (s.freed).cis = s.cis ∧
    (s.freed).ports = s.ports ∧ (s.freed).cache = s.cache ∧ (s.freed).frames = s.frames ∧ (s.freed).meas = s.meas ∧
    (s.freed).spdm = s.spdm ∧ (s.freed).cvn = s.cvn ∧ (s.freed).tks = s.tks ∧ (s.freed).ram = s.ram ∧
    (s.freed).outbox = s.outbox ∧ (s.freed).drbgCtr = s.drbgCtr ∧ (s.freed).pending = s.pending := ⟨rfl, rfl, rfl, rfl, rfl, rfl, rfl, rfl, rfl, rfl, rfl, rfl, rfl, rfl, rfl, rfl, rfl, rfl, rfl, rfl, rfl, rfl, rfl, rfl, rfl, rfl, rfl, rfl, rfl, rfl, rfl, rfl, rfl, rfl, rfl, rfl⟩

@[simp] theorem State.setEvt_frame (s : State) (k : Nat) (v : EventRec) :
    (s.setEvt k v).clk = s.clk ∧ (s.setEvt k v).regs = s.regs ∧ (s.setEvt k v).buf = s.buf ∧
    (s.setEvt k v).posted = s.posted ∧ (s.setEvt k v).heldLow = s.heldLow ∧ (s.setEvt k v).hiLatch = s.hiLatch ∧
    (s.setEvt k v).w1 = s.w1 ∧ (s.setEvt k v).msixPba = s.msixPba ∧ (s.setEvt k v).sems = s.sems ∧
    (s.setEvt k v).slowDue = s.slowDue ∧ (s.setEvt k v).arm = s.arm ∧ (s.setEvt k v).pwr = s.pwr ∧
    (s.setEvt k v).tamp = s.tamp ∧ (s.setEvt k v).boot = s.boot ∧ (s.setEvt k v).prst = s.prst ∧
    (s.setEvt k v).lcf = s.lcf ∧ (s.setEvt k v).cel = s.cel ∧ (s.setEvt k v).flr = s.flr ∧ (s.setEvt k v).dgl = s.dgl ∧
    (s.setEvt k v).hq = s.hq ∧ (s.setEvt k v).harts = s.harts ∧ (s.setEvt k v).mbx = s.mbx ∧ (s.setEvt k v).cmd = s.cmd ∧
    (s.setEvt k v).cis = s.cis ∧ (s.setEvt k v).ports = s.ports ∧ (s.setEvt k v).cache = s.cache ∧
    (s.setEvt k v).frames = s.frames ∧ (s.setEvt k v).meas = s.meas ∧ (s.setEvt k v).spdm = s.spdm ∧
    (s.setEvt k v).cvn = s.cvn ∧ (s.setEvt k v).tks = s.tks ∧ (s.setEvt k v).ram = s.ram ∧
    (s.setEvt k v).outbox = s.outbox ∧ (s.setEvt k v).freeCtr = s.freeCtr ∧ (s.setEvt k v).drbgCtr = s.drbgCtr ∧
    (s.setEvt k v).pending = s.pending := ⟨rfl, rfl, rfl, rfl, rfl, rfl, rfl, rfl, rfl, rfl, rfl, rfl, rfl, rfl, rfl, rfl, rfl, rfl, rfl, rfl, rfl, rfl, rfl, rfl, rfl, rfl, rfl, rfl, rfl, rfl, rfl, rfl, rfl, rfl, rfl, rfl⟩

@[simp] theorem State.setPba_frame (s : State) (f v : Nat) (b : Bool) :
    (s.setPba f v b).clk = s.clk ∧ (s.setPba f v b).regs = s.regs ∧ (s.setPba f v b).buf = s.buf ∧
    (s.setPba f v b).posted = s.posted ∧ (s.setPba f v b).heldLow = s.heldLow ∧ (s.setPba f v b).hiLatch = s.hiLatch ∧
    (s.setPba f v b).w1 = s.w1 ∧ (s.setPba f v b).events = s.events ∧ (s.setPba f v b).sems = s.sems ∧
    (s.setPba f v b).slowDue = s.slowDue ∧ (s.setPba f v b).arm = s.arm ∧ (s.setPba f v b).pwr = s.pwr ∧
    (s.setPba f v b).tamp = s.tamp ∧ (s.setPba f v b).boot = s.boot ∧ (s.setPba f v b).prst = s.prst ∧
    (s.setPba f v b).lcf = s.lcf ∧ (s.setPba f v b).cel = s.cel ∧ (s.setPba f v b).flr = s.flr ∧
    (s.setPba f v b).dgl = s.dgl ∧ (s.setPba f v b).hq = s.hq ∧ (s.setPba f v b).harts = s.harts ∧
    (s.setPba f v b).mbx = s.mbx ∧ (s.setPba f v b).cmd = s.cmd ∧ (s.setPba f v b).cis = s.cis ∧
    (s.setPba f v b).ports = s.ports ∧ (s.setPba f v b).cache = s.cache ∧ (s.setPba f v b).frames = s.frames ∧
    (s.setPba f v b).meas = s.meas ∧ (s.setPba f v b).spdm = s.spdm ∧ (s.setPba f v b).cvn = s.cvn ∧
    (s.setPba f v b).tks = s.tks ∧ (s.setPba f v b).ram = s.ram ∧ (s.setPba f v b).outbox = s.outbox ∧
    (s.setPba f v b).freeCtr = s.freeCtr ∧ (s.setPba f v b).drbgCtr = s.drbgCtr ∧ (s.setPba f v b).pending = s.pending := ⟨rfl, rfl, rfl, rfl, rfl, rfl, rfl, rfl, rfl, rfl, rfl, rfl, rfl, rfl, rfl, rfl, rfl, rfl, rfl, rfl, rfl, rfl, rfl, rfl, rfl, rfl, rfl, rfl, rfl, rfl, rfl, rfl, rfl, rfl, rfl, rfl⟩

@[simp] theorem State.setSem_frame (s : State) (n : Nat) (o : Option Master) :
    (s.setSem n o).clk = s.clk ∧ (s.setSem n o).regs = s.regs ∧ (s.setSem n o).buf = s.buf ∧
    (s.setSem n o).posted = s.posted ∧ (s.setSem n o).heldLow = s.heldLow ∧ (s.setSem n o).hiLatch = s.hiLatch ∧
    (s.setSem n o).w1 = s.w1 ∧ (s.setSem n o).events = s.events ∧ (s.setSem n o).msixPba = s.msixPba ∧
    (s.setSem n o).slowDue = s.slowDue ∧ (s.setSem n o).arm = s.arm ∧ (s.setSem n o).pwr = s.pwr ∧
    (s.setSem n o).tamp = s.tamp ∧ (s.setSem n o).boot = s.boot ∧ (s.setSem n o).prst = s.prst ∧
    (s.setSem n o).lcf = s.lcf ∧ (s.setSem n o).cel = s.cel ∧ (s.setSem n o).flr = s.flr ∧ (s.setSem n o).dgl = s.dgl ∧
    (s.setSem n o).hq = s.hq ∧ (s.setSem n o).harts = s.harts ∧ (s.setSem n o).mbx = s.mbx ∧ (s.setSem n o).cmd = s.cmd ∧
    (s.setSem n o).cis = s.cis ∧ (s.setSem n o).ports = s.ports ∧ (s.setSem n o).cache = s.cache ∧
    (s.setSem n o).frames = s.frames ∧ (s.setSem n o).meas = s.meas ∧ (s.setSem n o).spdm = s.spdm ∧
    (s.setSem n o).cvn = s.cvn ∧ (s.setSem n o).tks = s.tks ∧ (s.setSem n o).ram = s.ram ∧
    (s.setSem n o).outbox = s.outbox ∧ (s.setSem n o).freeCtr = s.freeCtr ∧ (s.setSem n o).drbgCtr = s.drbgCtr ∧
    (s.setSem n o).pending = s.pending := ⟨rfl, rfl, rfl, rfl, rfl, rfl, rfl, rfl, rfl, rfl, rfl, rfl, rfl, rfl, rfl, rfl, rfl, rfl, rfl, rfl, rfl, rfl, rfl, rfl, rfl, rfl, rfl, rfl, rfl, rfl, rfl, rfl, rfl, rfl, rfl, rfl⟩

@[simp] theorem State.modBoot_frame (s : State) (f : BootState → BootState) :
    (s.modBoot f).clk = s.clk ∧ (s.modBoot f).regs = s.regs ∧ (s.modBoot f).buf = s.buf ∧ (s.modBoot f).posted = s.posted ∧
    (s.modBoot f).heldLow = s.heldLow ∧ (s.modBoot f).hiLatch = s.hiLatch ∧ (s.modBoot f).w1 = s.w1 ∧
    (s.modBoot f).events = s.events ∧ (s.modBoot f).msixPba = s.msixPba ∧ (s.modBoot f).sems = s.sems ∧
    (s.modBoot f).slowDue = s.slowDue ∧ (s.modBoot f).arm = s.arm ∧ (s.modBoot f).pwr = s.pwr ∧
    (s.modBoot f).tamp = s.tamp ∧ (s.modBoot f).prst = s.prst ∧ (s.modBoot f).lcf = s.lcf ∧ (s.modBoot f).cel = s.cel ∧
    (s.modBoot f).flr = s.flr ∧ (s.modBoot f).dgl = s.dgl ∧ (s.modBoot f).hq = s.hq ∧ (s.modBoot f).harts = s.harts ∧
    (s.modBoot f).mbx = s.mbx ∧ (s.modBoot f).cmd = s.cmd ∧ (s.modBoot f).cis = s.cis ∧ (s.modBoot f).ports = s.ports ∧
    (s.modBoot f).cache = s.cache ∧ (s.modBoot f).frames = s.frames ∧ (s.modBoot f).meas = s.meas ∧
    (s.modBoot f).spdm = s.spdm ∧ (s.modBoot f).cvn = s.cvn ∧ (s.modBoot f).tks = s.tks ∧ (s.modBoot f).ram = s.ram ∧
    (s.modBoot f).outbox = s.outbox ∧ (s.modBoot f).freeCtr = s.freeCtr ∧ (s.modBoot f).drbgCtr = s.drbgCtr ∧
    (s.modBoot f).pending = s.pending := ⟨rfl, rfl, rfl, rfl, rfl, rfl, rfl, rfl, rfl, rfl, rfl, rfl, rfl, rfl, rfl, rfl, rfl, rfl, rfl, rfl, rfl, rfl, rfl, rfl, rfl, rfl, rfl, rfl, rfl, rfl, rfl, rfl, rfl, rfl, rfl, rfl⟩

@[simp] theorem State.modCvn_frame (s : State) (f : CvnState → CvnState) :
    (s.modCvn f).clk = s.clk ∧ (s.modCvn f).regs = s.regs ∧ (s.modCvn f).buf = s.buf ∧ (s.modCvn f).posted = s.posted ∧
    (s.modCvn f).heldLow = s.heldLow ∧ (s.modCvn f).hiLatch = s.hiLatch ∧ (s.modCvn f).w1 = s.w1 ∧
    (s.modCvn f).events = s.events ∧ (s.modCvn f).msixPba = s.msixPba ∧ (s.modCvn f).sems = s.sems ∧
    (s.modCvn f).slowDue = s.slowDue ∧ (s.modCvn f).arm = s.arm ∧ (s.modCvn f).pwr = s.pwr ∧ (s.modCvn f).tamp = s.tamp ∧
    (s.modCvn f).boot = s.boot ∧ (s.modCvn f).prst = s.prst ∧ (s.modCvn f).lcf = s.lcf ∧ (s.modCvn f).cel = s.cel ∧
    (s.modCvn f).flr = s.flr ∧ (s.modCvn f).dgl = s.dgl ∧ (s.modCvn f).hq = s.hq ∧ (s.modCvn f).harts = s.harts ∧
    (s.modCvn f).mbx = s.mbx ∧ (s.modCvn f).cmd = s.cmd ∧ (s.modCvn f).cis = s.cis ∧ (s.modCvn f).ports = s.ports ∧
    (s.modCvn f).cache = s.cache ∧ (s.modCvn f).frames = s.frames ∧ (s.modCvn f).meas = s.meas ∧
    (s.modCvn f).spdm = s.spdm ∧ (s.modCvn f).tks = s.tks ∧ (s.modCvn f).ram = s.ram ∧ (s.modCvn f).outbox = s.outbox ∧
    (s.modCvn f).freeCtr = s.freeCtr ∧ (s.modCvn f).drbgCtr = s.drbgCtr ∧ (s.modCvn f).pending = s.pending := ⟨rfl, rfl, rfl, rfl, rfl, rfl, rfl, rfl, rfl, rfl, rfl, rfl, rfl, rfl, rfl, rfl, rfl, rfl, rfl, rfl, rfl, rfl, rfl, rfl, rfl, rfl, rfl, rfl, rfl, rfl, rfl, rfl, rfl, rfl, rfl, rfl⟩

@[simp] theorem State.modLink_frame (s : State) (p : Nat) (f : CvnPort → CvnPort) :
    (s.modLink p f).clk = s.clk ∧ (s.modLink p f).regs = s.regs ∧ (s.modLink p f).buf = s.buf ∧
    (s.modLink p f).posted = s.posted ∧ (s.modLink p f).heldLow = s.heldLow ∧ (s.modLink p f).hiLatch = s.hiLatch ∧
    (s.modLink p f).w1 = s.w1 ∧ (s.modLink p f).events = s.events ∧ (s.modLink p f).msixPba = s.msixPba ∧
    (s.modLink p f).sems = s.sems ∧ (s.modLink p f).slowDue = s.slowDue ∧ (s.modLink p f).arm = s.arm ∧
    (s.modLink p f).pwr = s.pwr ∧ (s.modLink p f).tamp = s.tamp ∧ (s.modLink p f).boot = s.boot ∧
    (s.modLink p f).prst = s.prst ∧ (s.modLink p f).lcf = s.lcf ∧ (s.modLink p f).cel = s.cel ∧
    (s.modLink p f).flr = s.flr ∧ (s.modLink p f).dgl = s.dgl ∧ (s.modLink p f).hq = s.hq ∧
    (s.modLink p f).harts = s.harts ∧ (s.modLink p f).mbx = s.mbx ∧ (s.modLink p f).cmd = s.cmd ∧
    (s.modLink p f).cis = s.cis ∧ (s.modLink p f).ports = s.ports ∧ (s.modLink p f).cache = s.cache ∧
    (s.modLink p f).frames = s.frames ∧ (s.modLink p f).meas = s.meas ∧ (s.modLink p f).spdm = s.spdm ∧
    (s.modLink p f).tks = s.tks ∧ (s.modLink p f).ram = s.ram ∧ (s.modLink p f).outbox = s.outbox ∧
    (s.modLink p f).freeCtr = s.freeCtr ∧ (s.modLink p f).drbgCtr = s.drbgCtr ∧ (s.modLink p f).pending = s.pending := ⟨rfl, rfl, rfl, rfl, rfl, rfl, rfl, rfl, rfl, rfl, rfl, rfl, rfl, rfl, rfl, rfl, rfl, rfl, rfl, rfl, rfl, rfl, rfl, rfl, rfl, rfl, rfl, rfl, rfl, rfl, rfl, rfl, rfl, rfl, rfl, rfl⟩

@[simp] theorem State.modCis_frame (s : State) (f : CisState → CisState) :
    (s.modCis f).clk = s.clk ∧ (s.modCis f).regs = s.regs ∧ (s.modCis f).buf = s.buf ∧ (s.modCis f).posted = s.posted ∧
    (s.modCis f).heldLow = s.heldLow ∧ (s.modCis f).hiLatch = s.hiLatch ∧ (s.modCis f).w1 = s.w1 ∧
    (s.modCis f).events = s.events ∧ (s.modCis f).msixPba = s.msixPba ∧ (s.modCis f).sems = s.sems ∧
    (s.modCis f).slowDue = s.slowDue ∧ (s.modCis f).arm = s.arm ∧ (s.modCis f).pwr = s.pwr ∧ (s.modCis f).tamp = s.tamp ∧
    (s.modCis f).boot = s.boot ∧ (s.modCis f).prst = s.prst ∧ (s.modCis f).lcf = s.lcf ∧ (s.modCis f).cel = s.cel ∧
    (s.modCis f).flr = s.flr ∧ (s.modCis f).dgl = s.dgl ∧ (s.modCis f).hq = s.hq ∧ (s.modCis f).harts = s.harts ∧
    (s.modCis f).mbx = s.mbx ∧ (s.modCis f).cmd = s.cmd ∧ (s.modCis f).ports = s.ports ∧ (s.modCis f).cache = s.cache ∧
    (s.modCis f).frames = s.frames ∧ (s.modCis f).meas = s.meas ∧ (s.modCis f).spdm = s.spdm ∧ (s.modCis f).cvn = s.cvn ∧
    (s.modCis f).tks = s.tks ∧ (s.modCis f).ram = s.ram ∧ (s.modCis f).outbox = s.outbox ∧
    (s.modCis f).freeCtr = s.freeCtr ∧ (s.modCis f).drbgCtr = s.drbgCtr ∧ (s.modCis f).pending = s.pending := ⟨rfl, rfl, rfl, rfl, rfl, rfl, rfl, rfl, rfl, rfl, rfl, rfl, rfl, rfl, rfl, rfl, rfl, rfl, rfl, rfl, rfl, rfl, rfl, rfl, rfl, rfl, rfl, rfl, rfl, rfl, rfl, rfl, rfl, rfl, rfl, rfl⟩

@[simp] theorem State.modHarts_frame (s : State) (f : HartsState → HartsState) :
    (s.modHarts f).clk = s.clk ∧ (s.modHarts f).regs = s.regs ∧ (s.modHarts f).buf = s.buf ∧
    (s.modHarts f).posted = s.posted ∧ (s.modHarts f).heldLow = s.heldLow ∧ (s.modHarts f).hiLatch = s.hiLatch ∧
    (s.modHarts f).w1 = s.w1 ∧ (s.modHarts f).events = s.events ∧ (s.modHarts f).msixPba = s.msixPba ∧
    (s.modHarts f).sems = s.sems ∧ (s.modHarts f).slowDue = s.slowDue ∧ (s.modHarts f).arm = s.arm ∧
    (s.modHarts f).pwr = s.pwr ∧ (s.modHarts f).tamp = s.tamp ∧ (s.modHarts f).boot = s.boot ∧
    (s.modHarts f).prst = s.prst ∧ (s.modHarts f).lcf = s.lcf ∧ (s.modHarts f).cel = s.cel ∧ (s.modHarts f).flr = s.flr ∧
    (s.modHarts f).dgl = s.dgl ∧ (s.modHarts f).hq = s.hq ∧ (s.modHarts f).mbx = s.mbx ∧ (s.modHarts f).cmd = s.cmd ∧
    (s.modHarts f).cis = s.cis ∧ (s.modHarts f).ports = s.ports ∧ (s.modHarts f).cache = s.cache ∧
    (s.modHarts f).frames = s.frames ∧ (s.modHarts f).meas = s.meas ∧ (s.modHarts f).spdm = s.spdm ∧
    (s.modHarts f).cvn = s.cvn ∧ (s.modHarts f).tks = s.tks ∧ (s.modHarts f).ram = s.ram ∧
    (s.modHarts f).outbox = s.outbox ∧ (s.modHarts f).freeCtr = s.freeCtr ∧ (s.modHarts f).drbgCtr = s.drbgCtr ∧
    (s.modHarts f).pending = s.pending := ⟨rfl, rfl, rfl, rfl, rfl, rfl, rfl, rfl, rfl, rfl, rfl, rfl, rfl, rfl, rfl, rfl, rfl, rfl, rfl, rfl, rfl, rfl, rfl, rfl, rfl, rfl, rfl, rfl, rfl, rfl, rfl, rfl, rfl, rfl, rfl, rfl⟩

@[simp] theorem State.modCmd_frame (s : State) (f : CmdState → CmdState) :
    (s.modCmd f).clk = s.clk ∧ (s.modCmd f).regs = s.regs ∧ (s.modCmd f).buf = s.buf ∧ (s.modCmd f).posted = s.posted ∧
    (s.modCmd f).heldLow = s.heldLow ∧ (s.modCmd f).hiLatch = s.hiLatch ∧ (s.modCmd f).w1 = s.w1 ∧
    (s.modCmd f).events = s.events ∧ (s.modCmd f).msixPba = s.msixPba ∧ (s.modCmd f).sems = s.sems ∧
    (s.modCmd f).slowDue = s.slowDue ∧ (s.modCmd f).arm = s.arm ∧ (s.modCmd f).pwr = s.pwr ∧ (s.modCmd f).tamp = s.tamp ∧
    (s.modCmd f).boot = s.boot ∧ (s.modCmd f).prst = s.prst ∧ (s.modCmd f).lcf = s.lcf ∧ (s.modCmd f).cel = s.cel ∧
    (s.modCmd f).flr = s.flr ∧ (s.modCmd f).dgl = s.dgl ∧ (s.modCmd f).hq = s.hq ∧ (s.modCmd f).harts = s.harts ∧
    (s.modCmd f).mbx = s.mbx ∧ (s.modCmd f).cis = s.cis ∧ (s.modCmd f).ports = s.ports ∧ (s.modCmd f).cache = s.cache ∧
    (s.modCmd f).frames = s.frames ∧ (s.modCmd f).meas = s.meas ∧ (s.modCmd f).spdm = s.spdm ∧ (s.modCmd f).cvn = s.cvn ∧
    (s.modCmd f).tks = s.tks ∧ (s.modCmd f).ram = s.ram ∧ (s.modCmd f).outbox = s.outbox ∧
    (s.modCmd f).freeCtr = s.freeCtr ∧ (s.modCmd f).drbgCtr = s.drbgCtr ∧ (s.modCmd f).pending = s.pending := ⟨rfl, rfl, rfl, rfl, rfl, rfl, rfl, rfl, rfl, rfl, rfl, rfl, rfl, rfl, rfl, rfl, rfl, rfl, rfl, rfl, rfl, rfl, rfl, rfl, rfl, rfl, rfl, rfl, rfl, rfl, rfl, rfl, rfl, rfl, rfl, rfl⟩

@[simp] theorem State.modHq_frame (s : State) (f : HqState → HqState) :
    (s.modHq f).clk = s.clk ∧ (s.modHq f).regs = s.regs ∧ (s.modHq f).buf = s.buf ∧ (s.modHq f).posted = s.posted ∧
    (s.modHq f).heldLow = s.heldLow ∧ (s.modHq f).hiLatch = s.hiLatch ∧ (s.modHq f).w1 = s.w1 ∧
    (s.modHq f).events = s.events ∧ (s.modHq f).msixPba = s.msixPba ∧ (s.modHq f).sems = s.sems ∧
    (s.modHq f).slowDue = s.slowDue ∧ (s.modHq f).arm = s.arm ∧ (s.modHq f).pwr = s.pwr ∧ (s.modHq f).tamp = s.tamp ∧
    (s.modHq f).boot = s.boot ∧ (s.modHq f).prst = s.prst ∧ (s.modHq f).lcf = s.lcf ∧ (s.modHq f).cel = s.cel ∧
    (s.modHq f).flr = s.flr ∧ (s.modHq f).dgl = s.dgl ∧ (s.modHq f).harts = s.harts ∧ (s.modHq f).mbx = s.mbx ∧
    (s.modHq f).cmd = s.cmd ∧ (s.modHq f).cis = s.cis ∧ (s.modHq f).ports = s.ports ∧ (s.modHq f).cache = s.cache ∧
    (s.modHq f).frames = s.frames ∧ (s.modHq f).meas = s.meas ∧ (s.modHq f).spdm = s.spdm ∧ (s.modHq f).cvn = s.cvn ∧
    (s.modHq f).tks = s.tks ∧ (s.modHq f).ram = s.ram ∧ (s.modHq f).outbox = s.outbox ∧ (s.modHq f).freeCtr = s.freeCtr ∧
    (s.modHq f).drbgCtr = s.drbgCtr ∧ (s.modHq f).pending = s.pending := ⟨rfl, rfl, rfl, rfl, rfl, rfl, rfl, rfl, rfl, rfl, rfl, rfl, rfl, rfl, rfl, rfl, rfl, rfl, rfl, rfl, rfl, rfl, rfl, rfl, rfl, rfl, rfl, rfl, rfl, rfl, rfl, rfl, rfl, rfl, rfl, rfl⟩

@[simp] theorem State.modDoe_frame (s : State) (f : DoeState → DoeState) :
    (s.modDoe f).clk = s.clk ∧ (s.modDoe f).regs = s.regs ∧ (s.modDoe f).buf = s.buf ∧ (s.modDoe f).posted = s.posted ∧
    (s.modDoe f).heldLow = s.heldLow ∧ (s.modDoe f).hiLatch = s.hiLatch ∧ (s.modDoe f).w1 = s.w1 ∧
    (s.modDoe f).events = s.events ∧ (s.modDoe f).msixPba = s.msixPba ∧ (s.modDoe f).sems = s.sems ∧
    (s.modDoe f).slowDue = s.slowDue ∧ (s.modDoe f).arm = s.arm ∧ (s.modDoe f).pwr = s.pwr ∧ (s.modDoe f).tamp = s.tamp ∧
    (s.modDoe f).boot = s.boot ∧ (s.modDoe f).prst = s.prst ∧ (s.modDoe f).lcf = s.lcf ∧ (s.modDoe f).cel = s.cel ∧
    (s.modDoe f).flr = s.flr ∧ (s.modDoe f).dgl = s.dgl ∧ (s.modDoe f).harts = s.harts ∧ (s.modDoe f).mbx = s.mbx ∧
    (s.modDoe f).cmd = s.cmd ∧ (s.modDoe f).cis = s.cis ∧ (s.modDoe f).ports = s.ports ∧ (s.modDoe f).cache = s.cache ∧
    (s.modDoe f).frames = s.frames ∧ (s.modDoe f).meas = s.meas ∧ (s.modDoe f).spdm = s.spdm ∧ (s.modDoe f).cvn = s.cvn ∧
    (s.modDoe f).tks = s.tks ∧ (s.modDoe f).ram = s.ram ∧ (s.modDoe f).outbox = s.outbox ∧
    (s.modDoe f).freeCtr = s.freeCtr ∧ (s.modDoe f).drbgCtr = s.drbgCtr ∧ (s.modDoe f).pending = s.pending := ⟨rfl, rfl, rfl, rfl, rfl, rfl, rfl, rfl, rfl, rfl, rfl, rfl, rfl, rfl, rfl, rfl, rfl, rfl, rfl, rfl, rfl, rfl, rfl, rfl, rfl, rfl, rfl, rfl, rfl, rfl, rfl, rfl, rfl, rfl, rfl, rfl⟩

@[simp] theorem State.modPrst_frame (s : State) (f : PrstState → PrstState) :
    (s.modPrst f).clk = s.clk ∧ (s.modPrst f).regs = s.regs ∧ (s.modPrst f).buf = s.buf ∧ (s.modPrst f).posted = s.posted ∧
    (s.modPrst f).heldLow = s.heldLow ∧ (s.modPrst f).hiLatch = s.hiLatch ∧ (s.modPrst f).w1 = s.w1 ∧
    (s.modPrst f).events = s.events ∧ (s.modPrst f).msixPba = s.msixPba ∧ (s.modPrst f).sems = s.sems ∧
    (s.modPrst f).slowDue = s.slowDue ∧ (s.modPrst f).arm = s.arm ∧ (s.modPrst f).pwr = s.pwr ∧
    (s.modPrst f).tamp = s.tamp ∧ (s.modPrst f).boot = s.boot ∧ (s.modPrst f).lcf = s.lcf ∧ (s.modPrst f).cel = s.cel ∧
    (s.modPrst f).flr = s.flr ∧ (s.modPrst f).dgl = s.dgl ∧ (s.modPrst f).hq = s.hq ∧ (s.modPrst f).harts = s.harts ∧
    (s.modPrst f).mbx = s.mbx ∧ (s.modPrst f).cmd = s.cmd ∧ (s.modPrst f).cis = s.cis ∧ (s.modPrst f).ports = s.ports ∧
    (s.modPrst f).cache = s.cache ∧ (s.modPrst f).frames = s.frames ∧ (s.modPrst f).meas = s.meas ∧
    (s.modPrst f).spdm = s.spdm ∧ (s.modPrst f).cvn = s.cvn ∧ (s.modPrst f).tks = s.tks ∧ (s.modPrst f).ram = s.ram ∧
    (s.modPrst f).outbox = s.outbox ∧ (s.modPrst f).freeCtr = s.freeCtr ∧ (s.modPrst f).drbgCtr = s.drbgCtr ∧
    (s.modPrst f).pending = s.pending := ⟨rfl, rfl, rfl, rfl, rfl, rfl, rfl, rfl, rfl, rfl, rfl, rfl, rfl, rfl, rfl, rfl, rfl, rfl, rfl, rfl, rfl, rfl, rfl, rfl, rfl, rfl, rfl, rfl, rfl, rfl, rfl, rfl, rfl, rfl, rfl, rfl⟩

@[simp] theorem State.modFlr_frame (s : State) (f : FlrState → FlrState) :
    (s.modFlr f).clk = s.clk ∧ (s.modFlr f).regs = s.regs ∧ (s.modFlr f).buf = s.buf ∧ (s.modFlr f).posted = s.posted ∧
    (s.modFlr f).heldLow = s.heldLow ∧ (s.modFlr f).hiLatch = s.hiLatch ∧ (s.modFlr f).w1 = s.w1 ∧
    (s.modFlr f).events = s.events ∧ (s.modFlr f).msixPba = s.msixPba ∧ (s.modFlr f).sems = s.sems ∧
    (s.modFlr f).slowDue = s.slowDue ∧ (s.modFlr f).arm = s.arm ∧ (s.modFlr f).pwr = s.pwr ∧ (s.modFlr f).tamp = s.tamp ∧
    (s.modFlr f).boot = s.boot ∧ (s.modFlr f).prst = s.prst ∧ (s.modFlr f).lcf = s.lcf ∧ (s.modFlr f).cel = s.cel ∧
    (s.modFlr f).dgl = s.dgl ∧ (s.modFlr f).hq = s.hq ∧ (s.modFlr f).harts = s.harts ∧ (s.modFlr f).mbx = s.mbx ∧
    (s.modFlr f).cmd = s.cmd ∧ (s.modFlr f).cis = s.cis ∧ (s.modFlr f).ports = s.ports ∧ (s.modFlr f).cache = s.cache ∧
    (s.modFlr f).frames = s.frames ∧ (s.modFlr f).meas = s.meas ∧ (s.modFlr f).spdm = s.spdm ∧ (s.modFlr f).cvn = s.cvn ∧
    (s.modFlr f).tks = s.tks ∧ (s.modFlr f).ram = s.ram ∧ (s.modFlr f).outbox = s.outbox ∧
    (s.modFlr f).freeCtr = s.freeCtr ∧ (s.modFlr f).drbgCtr = s.drbgCtr ∧ (s.modFlr f).pending = s.pending := ⟨rfl, rfl, rfl, rfl, rfl, rfl, rfl, rfl, rfl, rfl, rfl, rfl, rfl, rfl, rfl, rfl, rfl, rfl, rfl, rfl, rfl, rfl, rfl, rfl, rfl, rfl, rfl, rfl, rfl, rfl, rfl, rfl, rfl, rfl, rfl, rfl⟩

@[simp] theorem State.modTamp_frame (s : State) (f : TampState → TampState) :
    (s.modTamp f).clk = s.clk ∧ (s.modTamp f).regs = s.regs ∧ (s.modTamp f).buf = s.buf ∧ (s.modTamp f).posted = s.posted ∧
    (s.modTamp f).heldLow = s.heldLow ∧ (s.modTamp f).hiLatch = s.hiLatch ∧ (s.modTamp f).w1 = s.w1 ∧
    (s.modTamp f).events = s.events ∧ (s.modTamp f).msixPba = s.msixPba ∧ (s.modTamp f).sems = s.sems ∧
    (s.modTamp f).slowDue = s.slowDue ∧ (s.modTamp f).arm = s.arm ∧ (s.modTamp f).pwr = s.pwr ∧
    (s.modTamp f).boot = s.boot ∧ (s.modTamp f).prst = s.prst ∧ (s.modTamp f).lcf = s.lcf ∧ (s.modTamp f).cel = s.cel ∧
    (s.modTamp f).flr = s.flr ∧ (s.modTamp f).dgl = s.dgl ∧ (s.modTamp f).hq = s.hq ∧ (s.modTamp f).harts = s.harts ∧
    (s.modTamp f).mbx = s.mbx ∧ (s.modTamp f).cmd = s.cmd ∧ (s.modTamp f).cis = s.cis ∧ (s.modTamp f).ports = s.ports ∧
    (s.modTamp f).cache = s.cache ∧ (s.modTamp f).frames = s.frames ∧ (s.modTamp f).meas = s.meas ∧
    (s.modTamp f).spdm = s.spdm ∧ (s.modTamp f).cvn = s.cvn ∧ (s.modTamp f).tks = s.tks ∧ (s.modTamp f).ram = s.ram ∧
    (s.modTamp f).outbox = s.outbox ∧ (s.modTamp f).freeCtr = s.freeCtr ∧ (s.modTamp f).drbgCtr = s.drbgCtr ∧
    (s.modTamp f).pending = s.pending := ⟨rfl, rfl, rfl, rfl, rfl, rfl, rfl, rfl, rfl, rfl, rfl, rfl, rfl, rfl, rfl, rfl, rfl, rfl, rfl, rfl, rfl, rfl, rfl, rfl, rfl, rfl, rfl, rfl, rfl, rfl, rfl, rfl, rfl, rfl, rfl, rfl⟩

@[simp] theorem State.modPwr_frame (s : State) (f : PwrState → PwrState) :
    (s.modPwr f).clk = s.clk ∧ (s.modPwr f).regs = s.regs ∧ (s.modPwr f).buf = s.buf ∧ (s.modPwr f).posted = s.posted ∧
    (s.modPwr f).heldLow = s.heldLow ∧ (s.modPwr f).hiLatch = s.hiLatch ∧ (s.modPwr f).w1 = s.w1 ∧
    (s.modPwr f).events = s.events ∧ (s.modPwr f).msixPba = s.msixPba ∧ (s.modPwr f).sems = s.sems ∧
    (s.modPwr f).slowDue = s.slowDue ∧ (s.modPwr f).arm = s.arm ∧ (s.modPwr f).tamp = s.tamp ∧ (s.modPwr f).boot = s.boot ∧
    (s.modPwr f).prst = s.prst ∧ (s.modPwr f).lcf = s.lcf ∧ (s.modPwr f).cel = s.cel ∧ (s.modPwr f).flr = s.flr ∧
    (s.modPwr f).dgl = s.dgl ∧ (s.modPwr f).hq = s.hq ∧ (s.modPwr f).harts = s.harts ∧ (s.modPwr f).mbx = s.mbx ∧
    (s.modPwr f).cmd = s.cmd ∧ (s.modPwr f).cis = s.cis ∧ (s.modPwr f).ports = s.ports ∧ (s.modPwr f).cache = s.cache ∧
    (s.modPwr f).frames = s.frames ∧ (s.modPwr f).meas = s.meas ∧ (s.modPwr f).spdm = s.spdm ∧ (s.modPwr f).cvn = s.cvn ∧
    (s.modPwr f).tks = s.tks ∧ (s.modPwr f).ram = s.ram ∧ (s.modPwr f).outbox = s.outbox ∧
    (s.modPwr f).freeCtr = s.freeCtr ∧ (s.modPwr f).drbgCtr = s.drbgCtr ∧ (s.modPwr f).pending = s.pending := ⟨rfl, rfl, rfl, rfl, rfl, rfl, rfl, rfl, rfl, rfl, rfl, rfl, rfl, rfl, rfl, rfl, rfl, rfl, rfl, rfl, rfl, rfl, rfl, rfl, rfl, rfl, rfl, rfl, rfl, rfl, rfl, rfl, rfl, rfl, rfl, rfl⟩

@[simp] theorem State.setTransit_frame (s : State) (x : Option (LcState × LcStep)) :
    (s.setTransit x).clk = s.clk ∧ (s.setTransit x).regs = s.regs ∧ (s.setTransit x).buf = s.buf ∧
    (s.setTransit x).posted = s.posted ∧ (s.setTransit x).heldLow = s.heldLow ∧ (s.setTransit x).hiLatch = s.hiLatch ∧
    (s.setTransit x).w1 = s.w1 ∧ (s.setTransit x).events = s.events ∧ (s.setTransit x).msixPba = s.msixPba ∧
    (s.setTransit x).sems = s.sems ∧ (s.setTransit x).slowDue = s.slowDue ∧ (s.setTransit x).arm = s.arm ∧
    (s.setTransit x).pwr = s.pwr ∧ (s.setTransit x).tamp = s.tamp ∧ (s.setTransit x).boot = s.boot ∧
    (s.setTransit x).prst = s.prst ∧ (s.setTransit x).cel = s.cel ∧ (s.setTransit x).flr = s.flr ∧
    (s.setTransit x).dgl = s.dgl ∧ (s.setTransit x).hq = s.hq ∧ (s.setTransit x).harts = s.harts ∧
    (s.setTransit x).mbx = s.mbx ∧ (s.setTransit x).cmd = s.cmd ∧ (s.setTransit x).cis = s.cis ∧
    (s.setTransit x).ports = s.ports ∧ (s.setTransit x).cache = s.cache ∧ (s.setTransit x).frames = s.frames ∧
    (s.setTransit x).meas = s.meas ∧ (s.setTransit x).spdm = s.spdm ∧ (s.setTransit x).cvn = s.cvn ∧
    (s.setTransit x).tks = s.tks ∧ (s.setTransit x).ram = s.ram ∧ (s.setTransit x).outbox = s.outbox ∧
    (s.setTransit x).freeCtr = s.freeCtr ∧ (s.setTransit x).drbgCtr = s.drbgCtr ∧ (s.setTransit x).pending = s.pending := ⟨rfl, rfl, rfl, rfl, rfl, rfl, rfl, rfl, rfl, rfl, rfl, rfl, rfl, rfl, rfl, rfl, rfl, rfl, rfl, rfl, rfl, rfl, rfl, rfl, rfl, rfl, rfl, rfl, rfl, rfl, rfl, rfl, rfl, rfl, rfl, rfl⟩

@[simp] theorem State.setKdu_frame (s : State) (j : Option KduJob) :
    (s.setKdu j).clk = s.clk ∧ (s.setKdu j).regs = s.regs ∧ (s.setKdu j).buf = s.buf ∧ (s.setKdu j).posted = s.posted ∧
    (s.setKdu j).heldLow = s.heldLow ∧ (s.setKdu j).hiLatch = s.hiLatch ∧ (s.setKdu j).w1 = s.w1 ∧
    (s.setKdu j).events = s.events ∧ (s.setKdu j).msixPba = s.msixPba ∧ (s.setKdu j).sems = s.sems ∧
    (s.setKdu j).slowDue = s.slowDue ∧ (s.setKdu j).arm = s.arm ∧ (s.setKdu j).pwr = s.pwr ∧ (s.setKdu j).tamp = s.tamp ∧
    (s.setKdu j).boot = s.boot ∧ (s.setKdu j).prst = s.prst ∧ (s.setKdu j).lcf = s.lcf ∧ (s.setKdu j).flr = s.flr ∧
    (s.setKdu j).dgl = s.dgl ∧ (s.setKdu j).hq = s.hq ∧ (s.setKdu j).harts = s.harts ∧ (s.setKdu j).mbx = s.mbx ∧
    (s.setKdu j).cmd = s.cmd ∧ (s.setKdu j).cis = s.cis ∧ (s.setKdu j).ports = s.ports ∧ (s.setKdu j).cache = s.cache ∧
    (s.setKdu j).frames = s.frames ∧ (s.setKdu j).meas = s.meas ∧ (s.setKdu j).spdm = s.spdm ∧ (s.setKdu j).cvn = s.cvn ∧
    (s.setKdu j).tks = s.tks ∧ (s.setKdu j).ram = s.ram ∧ (s.setKdu j).outbox = s.outbox ∧
    (s.setKdu j).freeCtr = s.freeCtr ∧ (s.setKdu j).drbgCtr = s.drbgCtr ∧ (s.setKdu j).pending = s.pending := ⟨rfl, rfl, rfl, rfl, rfl, rfl, rfl, rfl, rfl, rfl, rfl, rfl, rfl, rfl, rfl, rfl, rfl, rfl, rfl, rfl, rfl, rfl, rfl, rfl, rfl, rfl, rfl, rfl, rfl, rfl, rfl, rfl, rfl, rfl, rfl, rfl⟩

@[simp] theorem State.setDue_frame (s : State) (a : Nat) (v : Option (Bool × Word)) :
    (s.setDue a v).clk = s.clk ∧ (s.setDue a v).regs = s.regs ∧ (s.setDue a v).buf = s.buf ∧
    (s.setDue a v).posted = s.posted ∧ (s.setDue a v).heldLow = s.heldLow ∧ (s.setDue a v).hiLatch = s.hiLatch ∧
    (s.setDue a v).w1 = s.w1 ∧ (s.setDue a v).events = s.events ∧ (s.setDue a v).msixPba = s.msixPba ∧
    (s.setDue a v).sems = s.sems ∧ (s.setDue a v).arm = s.arm ∧ (s.setDue a v).pwr = s.pwr ∧ (s.setDue a v).tamp = s.tamp ∧
    (s.setDue a v).boot = s.boot ∧ (s.setDue a v).prst = s.prst ∧ (s.setDue a v).lcf = s.lcf ∧ (s.setDue a v).cel = s.cel ∧
    (s.setDue a v).flr = s.flr ∧ (s.setDue a v).dgl = s.dgl ∧ (s.setDue a v).hq = s.hq ∧ (s.setDue a v).harts = s.harts ∧
    (s.setDue a v).mbx = s.mbx ∧ (s.setDue a v).cmd = s.cmd ∧ (s.setDue a v).cis = s.cis ∧ (s.setDue a v).ports = s.ports ∧
    (s.setDue a v).cache = s.cache ∧ (s.setDue a v).frames = s.frames ∧ (s.setDue a v).meas = s.meas ∧
    (s.setDue a v).spdm = s.spdm ∧ (s.setDue a v).cvn = s.cvn ∧ (s.setDue a v).tks = s.tks ∧ (s.setDue a v).ram = s.ram ∧
    (s.setDue a v).outbox = s.outbox ∧ (s.setDue a v).freeCtr = s.freeCtr ∧ (s.setDue a v).drbgCtr = s.drbgCtr ∧
    (s.setDue a v).pending = s.pending := ⟨rfl, rfl, rfl, rfl, rfl, rfl, rfl, rfl, rfl, rfl, rfl, rfl, rfl, rfl, rfl, rfl, rfl, rfl, rfl, rfl, rfl, rfl, rfl, rfl, rfl, rfl, rfl, rfl, rfl, rfl, rfl, rfl, rfl, rfl, rfl, rfl⟩

@[simp] theorem State.setFrame_frame (s : State) (f : Nat) (b : Bytes) :
    (s.setFrame f b).clk = s.clk ∧ (s.setFrame f b).regs = s.regs ∧ (s.setFrame f b).buf = s.buf ∧
    (s.setFrame f b).posted = s.posted ∧ (s.setFrame f b).heldLow = s.heldLow ∧ (s.setFrame f b).hiLatch = s.hiLatch ∧
    (s.setFrame f b).w1 = s.w1 ∧ (s.setFrame f b).events = s.events ∧ (s.setFrame f b).msixPba = s.msixPba ∧
    (s.setFrame f b).sems = s.sems ∧ (s.setFrame f b).slowDue = s.slowDue ∧ (s.setFrame f b).arm = s.arm ∧
    (s.setFrame f b).pwr = s.pwr ∧ (s.setFrame f b).tamp = s.tamp ∧ (s.setFrame f b).boot = s.boot ∧
    (s.setFrame f b).prst = s.prst ∧ (s.setFrame f b).lcf = s.lcf ∧ (s.setFrame f b).cel = s.cel ∧
    (s.setFrame f b).flr = s.flr ∧ (s.setFrame f b).dgl = s.dgl ∧ (s.setFrame f b).hq = s.hq ∧
    (s.setFrame f b).harts = s.harts ∧ (s.setFrame f b).mbx = s.mbx ∧ (s.setFrame f b).cmd = s.cmd ∧
    (s.setFrame f b).cis = s.cis ∧ (s.setFrame f b).ports = s.ports ∧ (s.setFrame f b).cache = s.cache ∧
    (s.setFrame f b).meas = s.meas ∧ (s.setFrame f b).spdm = s.spdm ∧ (s.setFrame f b).cvn = s.cvn ∧
    (s.setFrame f b).tks = s.tks ∧ (s.setFrame f b).ram = s.ram ∧ (s.setFrame f b).outbox = s.outbox ∧
    (s.setFrame f b).freeCtr = s.freeCtr ∧ (s.setFrame f b).drbgCtr = s.drbgCtr ∧ (s.setFrame f b).pending = s.pending := ⟨rfl, rfl, rfl, rfl, rfl, rfl, rfl, rfl, rfl, rfl, rfl, rfl, rfl, rfl, rfl, rfl, rfl, rfl, rfl, rfl, rfl, rfl, rfl, rfl, rfl, rfl, rfl, rfl, rfl, rfl, rfl, rfl, rfl, rfl, rfl, rfl⟩

@[simp] theorem State.setHeld_frame (s : State) (m : Master) (a : Nat) (v : Option Word) :
    (s.setHeld m a v).clk = s.clk ∧ (s.setHeld m a v).regs = s.regs ∧ (s.setHeld m a v).buf = s.buf ∧
    (s.setHeld m a v).posted = s.posted ∧ (s.setHeld m a v).hiLatch = s.hiLatch ∧ (s.setHeld m a v).w1 = s.w1 ∧
    (s.setHeld m a v).events = s.events ∧ (s.setHeld m a v).msixPba = s.msixPba ∧ (s.setHeld m a v).sems = s.sems ∧
    (s.setHeld m a v).slowDue = s.slowDue ∧ (s.setHeld m a v).arm = s.arm ∧ (s.setHeld m a v).pwr = s.pwr ∧
    (s.setHeld m a v).tamp = s.tamp ∧ (s.setHeld m a v).boot = s.boot ∧ (s.setHeld m a v).prst = s.prst ∧
    (s.setHeld m a v).lcf = s.lcf ∧ (s.setHeld m a v).cel = s.cel ∧ (s.setHeld m a v).flr = s.flr ∧
    (s.setHeld m a v).dgl = s.dgl ∧ (s.setHeld m a v).hq = s.hq ∧ (s.setHeld m a v).harts = s.harts ∧
    (s.setHeld m a v).mbx = s.mbx ∧ (s.setHeld m a v).cmd = s.cmd ∧ (s.setHeld m a v).cis = s.cis ∧
    (s.setHeld m a v).ports = s.ports ∧ (s.setHeld m a v).cache = s.cache ∧ (s.setHeld m a v).frames = s.frames ∧
    (s.setHeld m a v).meas = s.meas ∧ (s.setHeld m a v).spdm = s.spdm ∧ (s.setHeld m a v).cvn = s.cvn ∧
    (s.setHeld m a v).tks = s.tks ∧ (s.setHeld m a v).ram = s.ram ∧ (s.setHeld m a v).outbox = s.outbox ∧
    (s.setHeld m a v).freeCtr = s.freeCtr ∧ (s.setHeld m a v).drbgCtr = s.drbgCtr ∧ (s.setHeld m a v).pending = s.pending := ⟨rfl, rfl, rfl, rfl, rfl, rfl, rfl, rfl, rfl, rfl, rfl, rfl, rfl, rfl, rfl, rfl, rfl, rfl, rfl, rfl, rfl, rfl, rfl, rfl, rfl, rfl, rfl, rfl, rfl, rfl, rfl, rfl, rfl, rfl, rfl, rfl⟩

@[simp] theorem State.setLatch_frame (s : State) (m : Master) (a : Nat) (v : Word) :
    (s.setLatch m a v).clk = s.clk ∧ (s.setLatch m a v).regs = s.regs ∧ (s.setLatch m a v).buf = s.buf ∧
    (s.setLatch m a v).posted = s.posted ∧ (s.setLatch m a v).heldLow = s.heldLow ∧ (s.setLatch m a v).w1 = s.w1 ∧
    (s.setLatch m a v).events = s.events ∧ (s.setLatch m a v).msixPba = s.msixPba ∧ (s.setLatch m a v).sems = s.sems ∧
    (s.setLatch m a v).slowDue = s.slowDue ∧ (s.setLatch m a v).arm = s.arm ∧ (s.setLatch m a v).pwr = s.pwr ∧
    (s.setLatch m a v).tamp = s.tamp ∧ (s.setLatch m a v).boot = s.boot ∧ (s.setLatch m a v).prst = s.prst ∧
    (s.setLatch m a v).lcf = s.lcf ∧ (s.setLatch m a v).cel = s.cel ∧ (s.setLatch m a v).flr = s.flr ∧
    (s.setLatch m a v).dgl = s.dgl ∧ (s.setLatch m a v).hq = s.hq ∧ (s.setLatch m a v).harts = s.harts ∧
    (s.setLatch m a v).mbx = s.mbx ∧ (s.setLatch m a v).cmd = s.cmd ∧ (s.setLatch m a v).cis = s.cis ∧
    (s.setLatch m a v).ports = s.ports ∧ (s.setLatch m a v).cache = s.cache ∧ (s.setLatch m a v).frames = s.frames ∧
    (s.setLatch m a v).meas = s.meas ∧ (s.setLatch m a v).spdm = s.spdm ∧ (s.setLatch m a v).cvn = s.cvn ∧
    (s.setLatch m a v).tks = s.tks ∧ (s.setLatch m a v).ram = s.ram ∧ (s.setLatch m a v).outbox = s.outbox ∧
    (s.setLatch m a v).freeCtr = s.freeCtr ∧ (s.setLatch m a v).drbgCtr = s.drbgCtr ∧ (s.setLatch m a v).pending = s.pending := ⟨rfl, rfl, rfl, rfl, rfl, rfl, rfl, rfl, rfl, rfl, rfl, rfl, rfl, rfl, rfl, rfl, rfl, rfl, rfl, rfl, rfl, rfl, rfl, rfl, rfl, rfl, rfl, rfl, rfl, rfl, rfl, rfl, rfl, rfl, rfl, rfl⟩

@[simp] theorem State.setPipe_frame (s : State) (p : Nat) (j : Option TkJob) :
    (s.setPipe p j).clk = s.clk ∧ (s.setPipe p j).regs = s.regs ∧ (s.setPipe p j).buf = s.buf ∧
    (s.setPipe p j).posted = s.posted ∧ (s.setPipe p j).heldLow = s.heldLow ∧ (s.setPipe p j).hiLatch = s.hiLatch ∧
    (s.setPipe p j).w1 = s.w1 ∧ (s.setPipe p j).events = s.events ∧ (s.setPipe p j).msixPba = s.msixPba ∧
    (s.setPipe p j).sems = s.sems ∧ (s.setPipe p j).slowDue = s.slowDue ∧ (s.setPipe p j).arm = s.arm ∧
    (s.setPipe p j).pwr = s.pwr ∧ (s.setPipe p j).tamp = s.tamp ∧ (s.setPipe p j).boot = s.boot ∧
    (s.setPipe p j).prst = s.prst ∧ (s.setPipe p j).lcf = s.lcf ∧ (s.setPipe p j).cel = s.cel ∧
    (s.setPipe p j).flr = s.flr ∧ (s.setPipe p j).dgl = s.dgl ∧ (s.setPipe p j).hq = s.hq ∧
    (s.setPipe p j).harts = s.harts ∧ (s.setPipe p j).mbx = s.mbx ∧ (s.setPipe p j).cmd = s.cmd ∧
    (s.setPipe p j).cis = s.cis ∧ (s.setPipe p j).ports = s.ports ∧ (s.setPipe p j).cache = s.cache ∧
    (s.setPipe p j).frames = s.frames ∧ (s.setPipe p j).meas = s.meas ∧ (s.setPipe p j).spdm = s.spdm ∧
    (s.setPipe p j).cvn = s.cvn ∧ (s.setPipe p j).ram = s.ram ∧ (s.setPipe p j).outbox = s.outbox ∧
    (s.setPipe p j).freeCtr = s.freeCtr ∧ (s.setPipe p j).drbgCtr = s.drbgCtr ∧ (s.setPipe p j).pending = s.pending := ⟨rfl, rfl, rfl, rfl, rfl, rfl, rfl, rfl, rfl, rfl, rfl, rfl, rfl, rfl, rfl, rfl, rfl, rfl, rfl, rfl, rfl, rfl, rfl, rfl, rfl, rfl, rfl, rfl, rfl, rfl, rfl, rfl, rfl, rfl, rfl, rfl⟩

@[simp] theorem State.setBytes_frame (s : State) (a : Nat) (bs : Bytes) :
    (s.setBytes a bs).clk = s.clk ∧ (s.setBytes a bs).regs = s.regs ∧ (s.setBytes a bs).buf = s.buf ∧
    (s.setBytes a bs).posted = s.posted ∧ (s.setBytes a bs).heldLow = s.heldLow ∧ (s.setBytes a bs).hiLatch = s.hiLatch ∧
    (s.setBytes a bs).w1 = s.w1 ∧ (s.setBytes a bs).events = s.events ∧ (s.setBytes a bs).msixPba = s.msixPba ∧
    (s.setBytes a bs).sems = s.sems ∧ (s.setBytes a bs).slowDue = s.slowDue ∧ (s.setBytes a bs).arm = s.arm ∧
    (s.setBytes a bs).pwr = s.pwr ∧ (s.setBytes a bs).tamp = s.tamp ∧ (s.setBytes a bs).boot = s.boot ∧
    (s.setBytes a bs).prst = s.prst ∧ (s.setBytes a bs).lcf = s.lcf ∧ (s.setBytes a bs).cel = s.cel ∧
    (s.setBytes a bs).flr = s.flr ∧ (s.setBytes a bs).dgl = s.dgl ∧ (s.setBytes a bs).hq = s.hq ∧
    (s.setBytes a bs).harts = s.harts ∧ (s.setBytes a bs).mbx = s.mbx ∧ (s.setBytes a bs).cmd = s.cmd ∧
    (s.setBytes a bs).cis = s.cis ∧ (s.setBytes a bs).ports = s.ports ∧ (s.setBytes a bs).cache = s.cache ∧
    (s.setBytes a bs).frames = s.frames ∧ (s.setBytes a bs).meas = s.meas ∧ (s.setBytes a bs).spdm = s.spdm ∧
    (s.setBytes a bs).cvn = s.cvn ∧ (s.setBytes a bs).tks = s.tks ∧ (s.setBytes a bs).outbox = s.outbox ∧
    (s.setBytes a bs).freeCtr = s.freeCtr ∧ (s.setBytes a bs).drbgCtr = s.drbgCtr ∧ (s.setBytes a bs).pending = s.pending := by
  induction bs generalizing s a with
  | nil => simp [State.setBytes]
  | cons b t ih => rw [State.setBytes]; simpa using ih (s.setByte a b) (a + 1)

@[simp] theorem State.msixRequest_frame (s : State) (f v : Nat) :
    (s.msixRequest f v).clk = s.clk ∧ (s.msixRequest f v).regs = s.regs ∧ (s.msixRequest f v).buf = s.buf ∧
    (s.msixRequest f v).posted = s.posted ∧ (s.msixRequest f v).heldLow = s.heldLow ∧
    (s.msixRequest f v).hiLatch = s.hiLatch ∧ (s.msixRequest f v).w1 = s.w1 ∧ (s.msixRequest f v).events = s.events ∧
    (s.msixRequest f v).sems = s.sems ∧ (s.msixRequest f v).slowDue = s.slowDue ∧ (s.msixRequest f v).arm = s.arm ∧
    (s.msixRequest f v).pwr = s.pwr ∧ (s.msixRequest f v).tamp = s.tamp ∧ (s.msixRequest f v).boot = s.boot ∧
    (s.msixRequest f v).prst = s.prst ∧ (s.msixRequest f v).lcf = s.lcf ∧ (s.msixRequest f v).cel = s.cel ∧
    (s.msixRequest f v).flr = s.flr ∧ (s.msixRequest f v).dgl = s.dgl ∧ (s.msixRequest f v).hq = s.hq ∧
    (s.msixRequest f v).harts = s.harts ∧ (s.msixRequest f v).mbx = s.mbx ∧ (s.msixRequest f v).cmd = s.cmd ∧
    (s.msixRequest f v).cis = s.cis ∧ (s.msixRequest f v).ports = s.ports ∧ (s.msixRequest f v).cache = s.cache ∧
    (s.msixRequest f v).frames = s.frames ∧ (s.msixRequest f v).meas = s.meas ∧ (s.msixRequest f v).spdm = s.spdm ∧
    (s.msixRequest f v).cvn = s.cvn ∧ (s.msixRequest f v).tks = s.tks ∧ (s.msixRequest f v).ram = s.ram ∧
    (s.msixRequest f v).freeCtr = s.freeCtr ∧ (s.msixRequest f v).drbgCtr = s.drbgCtr ∧
    (s.msixRequest f v).pending = s.pending := by
  unfold State.msixRequest; split
  · simp
  · split <;> simp

@[simp] theorem State.resume_frame (s : State) (h cause : Nat) :
    (s.resume h cause).clk = s.clk ∧ (s.resume h cause).regs = s.regs ∧ (s.resume h cause).buf = s.buf ∧
    (s.resume h cause).posted = s.posted ∧ (s.resume h cause).heldLow = s.heldLow ∧ (s.resume h cause).hiLatch = s.hiLatch ∧
    (s.resume h cause).w1 = s.w1 ∧ (s.resume h cause).events = s.events ∧ (s.resume h cause).msixPba = s.msixPba ∧
    (s.resume h cause).sems = s.sems ∧ (s.resume h cause).slowDue = s.slowDue ∧ (s.resume h cause).arm = s.arm ∧
    (s.resume h cause).pwr = s.pwr ∧ (s.resume h cause).tamp = s.tamp ∧ (s.resume h cause).boot = s.boot ∧
    (s.resume h cause).prst = s.prst ∧ (s.resume h cause).lcf = s.lcf ∧ (s.resume h cause).cel = s.cel ∧
    (s.resume h cause).flr = s.flr ∧ (s.resume h cause).dgl = s.dgl ∧ (s.resume h cause).hq = s.hq ∧
    (s.resume h cause).mbx = s.mbx ∧ (s.resume h cause).cmd = s.cmd ∧ (s.resume h cause).cis = s.cis ∧
    (s.resume h cause).ports = s.ports ∧ (s.resume h cause).cache = s.cache ∧ (s.resume h cause).frames = s.frames ∧
    (s.resume h cause).meas = s.meas ∧ (s.resume h cause).spdm = s.spdm ∧ (s.resume h cause).cvn = s.cvn ∧
    (s.resume h cause).tks = s.tks ∧ (s.resume h cause).ram = s.ram ∧ (s.resume h cause).outbox = s.outbox ∧
    (s.resume h cause).freeCtr = s.freeCtr ∧ (s.resume h cause).drbgCtr = s.drbgCtr ∧ (s.resume h cause).pending = s.pending := by
  unfold State.resume; dsimp only; split <;> simp

@[simp] theorem State.hartIrq_frame (s : State) (h : Nat) :
    (s.hartIrq h).clk = s.clk ∧ (s.hartIrq h).regs = s.regs ∧ (s.hartIrq h).buf = s.buf ∧ (s.hartIrq h).posted = s.posted ∧
    (s.hartIrq h).heldLow = s.heldLow ∧ (s.hartIrq h).hiLatch = s.hiLatch ∧ (s.hartIrq h).w1 = s.w1 ∧
    (s.hartIrq h).events = s.events ∧ (s.hartIrq h).msixPba = s.msixPba ∧ (s.hartIrq h).sems = s.sems ∧
    (s.hartIrq h).slowDue = s.slowDue ∧ (s.hartIrq h).arm = s.arm ∧ (s.hartIrq h).pwr = s.pwr ∧
    (s.hartIrq h).tamp = s.tamp ∧ (s.hartIrq h).boot = s.boot ∧ (s.hartIrq h).prst = s.prst ∧ (s.hartIrq h).lcf = s.lcf ∧
    (s.hartIrq h).cel = s.cel ∧ (s.hartIrq h).flr = s.flr ∧ (s.hartIrq h).dgl = s.dgl ∧ (s.hartIrq h).hq = s.hq ∧
    (s.hartIrq h).mbx = s.mbx ∧ (s.hartIrq h).cmd = s.cmd ∧ (s.hartIrq h).cis = s.cis ∧ (s.hartIrq h).ports = s.ports ∧
    (s.hartIrq h).cache = s.cache ∧ (s.hartIrq h).frames = s.frames ∧ (s.hartIrq h).meas = s.meas ∧
    (s.hartIrq h).spdm = s.spdm ∧ (s.hartIrq h).cvn = s.cvn ∧ (s.hartIrq h).tks = s.tks ∧ (s.hartIrq h).ram = s.ram ∧
    (s.hartIrq h).outbox = s.outbox ∧ (s.hartIrq h).freeCtr = s.freeCtr ∧ (s.hartIrq h).drbgCtr = s.drbgCtr ∧
    (s.hartIrq h).pending = s.pending := by
  unfold State.hartIrq; split <;> simp

@[simp] theorem State.deliver_frame (s : State) (k : Nat) :
    (s.deliver k).clk = s.clk ∧ (s.deliver k).regs = s.regs ∧ (s.deliver k).buf = s.buf ∧ (s.deliver k).posted = s.posted ∧
    (s.deliver k).heldLow = s.heldLow ∧ (s.deliver k).hiLatch = s.hiLatch ∧ (s.deliver k).w1 = s.w1 ∧
    (s.deliver k).events = s.events ∧ (s.deliver k).sems = s.sems ∧ (s.deliver k).slowDue = s.slowDue ∧
    (s.deliver k).arm = s.arm ∧ (s.deliver k).pwr = s.pwr ∧ (s.deliver k).tamp = s.tamp ∧ (s.deliver k).boot = s.boot ∧
    (s.deliver k).prst = s.prst ∧ (s.deliver k).lcf = s.lcf ∧ (s.deliver k).cel = s.cel ∧ (s.deliver k).flr = s.flr ∧
    (s.deliver k).dgl = s.dgl ∧ (s.deliver k).hq = s.hq ∧ (s.deliver k).mbx = s.mbx ∧ (s.deliver k).cmd = s.cmd ∧
    (s.deliver k).cis = s.cis ∧ (s.deliver k).ports = s.ports ∧ (s.deliver k).cache = s.cache ∧
    (s.deliver k).frames = s.frames ∧ (s.deliver k).meas = s.meas ∧ (s.deliver k).spdm = s.spdm ∧
    (s.deliver k).cvn = s.cvn ∧ (s.deliver k).tks = s.tks ∧ (s.deliver k).ram = s.ram ∧ (s.deliver k).freeCtr = s.freeCtr ∧
    (s.deliver k).drbgCtr = s.drbgCtr ∧ (s.deliver k).pending = s.pending := by
  unfold State.deliver; dsimp only
  split
  · split <;> simp
  · split
    · simp
    · split <;> simp

@[simp] theorem State.deliverIfNew_frame (s : State) (was : Bool) (k : Nat) :
    (s.deliverIfNew was k).clk = s.clk ∧ (s.deliverIfNew was k).regs = s.regs ∧ (s.deliverIfNew was k).buf = s.buf ∧
    (s.deliverIfNew was k).posted = s.posted ∧ (s.deliverIfNew was k).heldLow = s.heldLow ∧
    (s.deliverIfNew was k).hiLatch = s.hiLatch ∧ (s.deliverIfNew was k).w1 = s.w1 ∧
    (s.deliverIfNew was k).events = s.events ∧ (s.deliverIfNew was k).sems = s.sems ∧
    (s.deliverIfNew was k).slowDue = s.slowDue ∧ (s.deliverIfNew was k).arm = s.arm ∧ (s.deliverIfNew was k).pwr = s.pwr ∧
    (s.deliverIfNew was k).tamp = s.tamp ∧ (s.deliverIfNew was k).boot = s.boot ∧ (s.deliverIfNew was k).prst = s.prst ∧
    (s.deliverIfNew was k).lcf = s.lcf ∧ (s.deliverIfNew was k).cel = s.cel ∧ (s.deliverIfNew was k).flr = s.flr ∧
    (s.deliverIfNew was k).dgl = s.dgl ∧ (s.deliverIfNew was k).hq = s.hq ∧ (s.deliverIfNew was k).mbx = s.mbx ∧
    (s.deliverIfNew was k).cmd = s.cmd ∧ (s.deliverIfNew was k).cis = s.cis ∧ (s.deliverIfNew was k).ports = s.ports ∧
    (s.deliverIfNew was k).cache = s.cache ∧ (s.deliverIfNew was k).frames = s.frames ∧
    (s.deliverIfNew was k).meas = s.meas ∧ (s.deliverIfNew was k).spdm = s.spdm ∧ (s.deliverIfNew was k).cvn = s.cvn ∧
    (s.deliverIfNew was k).tks = s.tks ∧ (s.deliverIfNew was k).ram = s.ram ∧ (s.deliverIfNew was k).freeCtr = s.freeCtr ∧
    (s.deliverIfNew was k).drbgCtr = s.drbgCtr ∧ (s.deliverIfNew was k).pending = s.pending := by
  unfold State.deliverIfNew; split <;> simp

@[simp] theorem State.count_frame (s : State) (k : Nat) :
    (s.count k).clk = s.clk ∧ (s.count k).regs = s.regs ∧ (s.count k).buf = s.buf ∧ (s.count k).posted = s.posted ∧
    (s.count k).heldLow = s.heldLow ∧ (s.count k).hiLatch = s.hiLatch ∧ (s.count k).w1 = s.w1 ∧ (s.count k).sems = s.sems ∧
    (s.count k).slowDue = s.slowDue ∧ (s.count k).arm = s.arm ∧ (s.count k).pwr = s.pwr ∧ (s.count k).tamp = s.tamp ∧
    (s.count k).boot = s.boot ∧ (s.count k).prst = s.prst ∧ (s.count k).lcf = s.lcf ∧ (s.count k).cel = s.cel ∧
    (s.count k).flr = s.flr ∧ (s.count k).dgl = s.dgl ∧ (s.count k).hq = s.hq ∧ (s.count k).mbx = s.mbx ∧
    (s.count k).cmd = s.cmd ∧ (s.count k).cis = s.cis ∧ (s.count k).ports = s.ports ∧ (s.count k).cache = s.cache ∧
    (s.count k).frames = s.frames ∧ (s.count k).meas = s.meas ∧ (s.count k).spdm = s.spdm ∧ (s.count k).cvn = s.cvn ∧
    (s.count k).tks = s.tks ∧ (s.count k).ram = s.ram ∧ (s.count k).freeCtr = s.freeCtr ∧ (s.count k).drbgCtr = s.drbgCtr ∧
    (s.count k).pending = s.pending := by
  unfold State.count; simp

@[simp] theorem State.counts_frame (s : State) (ks : List Nat) :
    (s.counts ks).clk = s.clk ∧ (s.counts ks).regs = s.regs ∧ (s.counts ks).buf = s.buf ∧ (s.counts ks).posted = s.posted ∧
    (s.counts ks).heldLow = s.heldLow ∧ (s.counts ks).hiLatch = s.hiLatch ∧ (s.counts ks).w1 = s.w1 ∧
    (s.counts ks).sems = s.sems ∧ (s.counts ks).slowDue = s.slowDue ∧ (s.counts ks).arm = s.arm ∧
    (s.counts ks).pwr = s.pwr ∧ (s.counts ks).tamp = s.tamp ∧ (s.counts ks).boot = s.boot ∧ (s.counts ks).prst = s.prst ∧
    (s.counts ks).lcf = s.lcf ∧ (s.counts ks).cel = s.cel ∧ (s.counts ks).flr = s.flr ∧ (s.counts ks).dgl = s.dgl ∧
    (s.counts ks).hq = s.hq ∧ (s.counts ks).mbx = s.mbx ∧ (s.counts ks).cmd = s.cmd ∧ (s.counts ks).cis = s.cis ∧
    (s.counts ks).ports = s.ports ∧ (s.counts ks).cache = s.cache ∧ (s.counts ks).frames = s.frames ∧
    (s.counts ks).meas = s.meas ∧ (s.counts ks).spdm = s.spdm ∧ (s.counts ks).cvn = s.cvn ∧ (s.counts ks).tks = s.tks ∧
    (s.counts ks).ram = s.ram ∧ (s.counts ks).freeCtr = s.freeCtr ∧ (s.counts ks).drbgCtr = s.drbgCtr ∧
    (s.counts ks).pending = s.pending := by
  unfold State.counts
  induction ks generalizing s with
  | nil => simp
  | cons k t ih => simpa using ih (s.count k)

@[simp] theorem State.err_frame (s : State) (page off : Nat) (k : ErrKind) (m : Master) :
    (s.err page off k m).clk = s.clk ∧ (s.err page off k m).buf = s.buf ∧ (s.err page off k m).posted = s.posted ∧
    (s.err page off k m).heldLow = s.heldLow ∧ (s.err page off k m).hiLatch = s.hiLatch ∧ (s.err page off k m).w1 = s.w1 ∧
    (s.err page off k m).sems = s.sems ∧ (s.err page off k m).slowDue = s.slowDue ∧ (s.err page off k m).arm = s.arm ∧
    (s.err page off k m).pwr = s.pwr ∧ (s.err page off k m).tamp = s.tamp ∧ (s.err page off k m).boot = s.boot ∧
    (s.err page off k m).prst = s.prst ∧ (s.err page off k m).lcf = s.lcf ∧ (s.err page off k m).cel = s.cel ∧
    (s.err page off k m).flr = s.flr ∧ (s.err page off k m).dgl = s.dgl ∧ (s.err page off k m).hq = s.hq ∧
    (s.err page off k m).mbx = s.mbx ∧ (s.err page off k m).cmd = s.cmd ∧ (s.err page off k m).cis = s.cis ∧
    (s.err page off k m).ports = s.ports ∧ (s.err page off k m).cache = s.cache ∧ (s.err page off k m).frames = s.frames ∧
    (s.err page off k m).meas = s.meas ∧ (s.err page off k m).spdm = s.spdm ∧ (s.err page off k m).cvn = s.cvn ∧
    (s.err page off k m).tks = s.tks ∧ (s.err page off k m).ram = s.ram ∧ (s.err page off k m).freeCtr = s.freeCtr ∧
    (s.err page off k m).drbgCtr = s.drbgCtr ∧ (s.err page off k m).pending = s.pending := by
  unfold State.err; dsimp only; split <;> simp

@[simp] theorem State.errAt_frame (s : State) (a : Nat) (k : ErrKind) (m : Master) :
    (s.errAt a k m).clk = s.clk ∧ (s.errAt a k m).buf = s.buf ∧ (s.errAt a k m).posted = s.posted ∧
    (s.errAt a k m).heldLow = s.heldLow ∧ (s.errAt a k m).hiLatch = s.hiLatch ∧ (s.errAt a k m).w1 = s.w1 ∧
    (s.errAt a k m).sems = s.sems ∧ (s.errAt a k m).slowDue = s.slowDue ∧ (s.errAt a k m).arm = s.arm ∧
    (s.errAt a k m).pwr = s.pwr ∧ (s.errAt a k m).tamp = s.tamp ∧ (s.errAt a k m).boot = s.boot ∧
    (s.errAt a k m).prst = s.prst ∧ (s.errAt a k m).lcf = s.lcf ∧ (s.errAt a k m).cel = s.cel ∧
    (s.errAt a k m).flr = s.flr ∧ (s.errAt a k m).dgl = s.dgl ∧ (s.errAt a k m).hq = s.hq ∧ (s.errAt a k m).mbx = s.mbx ∧
    (s.errAt a k m).cmd = s.cmd ∧ (s.errAt a k m).cis = s.cis ∧ (s.errAt a k m).ports = s.ports ∧
    (s.errAt a k m).cache = s.cache ∧ (s.errAt a k m).frames = s.frames ∧ (s.errAt a k m).meas = s.meas ∧
    (s.errAt a k m).spdm = s.spdm ∧ (s.errAt a k m).cvn = s.cvn ∧ (s.errAt a k m).tks = s.tks ∧
    (s.errAt a k m).ram = s.ram ∧ (s.errAt a k m).freeCtr = s.freeCtr ∧ (s.errAt a k m).drbgCtr = s.drbgCtr ∧
    (s.errAt a k m).pending = s.pending := by
  unfold State.errAt; simp

@[simp] theorem State.putRec_frame (s : State) (r : FlrRec) :
    (s.putRec r).clk = s.clk ∧ (s.putRec r).regs = s.regs ∧ (s.putRec r).buf = s.buf ∧ (s.putRec r).posted = s.posted ∧
    (s.putRec r).heldLow = s.heldLow ∧ (s.putRec r).hiLatch = s.hiLatch ∧ (s.putRec r).w1 = s.w1 ∧
    (s.putRec r).sems = s.sems ∧ (s.putRec r).slowDue = s.slowDue ∧ (s.putRec r).arm = s.arm ∧ (s.putRec r).pwr = s.pwr ∧
    (s.putRec r).tamp = s.tamp ∧ (s.putRec r).boot = s.boot ∧ (s.putRec r).prst = s.prst ∧ (s.putRec r).lcf = s.lcf ∧
    (s.putRec r).cel = s.cel ∧ (s.putRec r).dgl = s.dgl ∧ (s.putRec r).hq = s.hq ∧ (s.putRec r).mbx = s.mbx ∧
    (s.putRec r).cmd = s.cmd ∧ (s.putRec r).cis = s.cis ∧ (s.putRec r).ports = s.ports ∧ (s.putRec r).cache = s.cache ∧
    (s.putRec r).frames = s.frames ∧ (s.putRec r).meas = s.meas ∧ (s.putRec r).spdm = s.spdm ∧ (s.putRec r).cvn = s.cvn ∧
    (s.putRec r).tks = s.tks ∧ (s.putRec r).ram = s.ram ∧ (s.putRec r).freeCtr = s.freeCtr ∧
    (s.putRec r).drbgCtr = s.drbgCtr ∧ (s.putRec r).pending = s.pending := by
  unfold State.putRec; dsimp only
  split
  · simp
  · split
    · simp
    · split
      · simp
      · split <;> simp

@[simp] theorem State.flight_frame (s : State) (type : Nat) (src : Master) (body : Bytes) :
    (s.flight type src body).clk = s.clk ∧ (s.flight type src body).regs = s.regs ∧ (s.flight type src body).buf = s.buf ∧
    (s.flight type src body).posted = s.posted ∧ (s.flight type src body).heldLow = s.heldLow ∧
    (s.flight type src body).hiLatch = s.hiLatch ∧ (s.flight type src body).w1 = s.w1 ∧
    (s.flight type src body).sems = s.sems ∧ (s.flight type src body).slowDue = s.slowDue ∧
    (s.flight type src body).arm = s.arm ∧ (s.flight type src body).pwr = s.pwr ∧ (s.flight type src body).tamp = s.tamp ∧
    (s.flight type src body).boot = s.boot ∧ (s.flight type src body).prst = s.prst ∧ (s.flight type src body).lcf = s.lcf ∧
    (s.flight type src body).cel = s.cel ∧ (s.flight type src body).dgl = s.dgl ∧ (s.flight type src body).hq = s.hq ∧
    (s.flight type src body).mbx = s.mbx ∧ (s.flight type src body).cmd = s.cmd ∧ (s.flight type src body).cis = s.cis ∧
    (s.flight type src body).ports = s.ports ∧ (s.flight type src body).cache = s.cache ∧
    (s.flight type src body).frames = s.frames ∧ (s.flight type src body).meas = s.meas ∧
    (s.flight type src body).spdm = s.spdm ∧ (s.flight type src body).cvn = s.cvn ∧ (s.flight type src body).tks = s.tks ∧
    (s.flight type src body).ram = s.ram ∧ (s.flight type src body).freeCtr = s.freeCtr ∧
    (s.flight type src body).drbgCtr = s.drbgCtr ∧ (s.flight type src body).pending = s.pending := by
  unfold State.flight; dsimp only
  split
  · simp
  · split <;> simp

@[simp] theorem State.readOut_frame (s : State) (m : Master) (a : Nat) (data : Bytes) :
    (s.readOut m a data).clk = s.clk ∧ (s.readOut m a data).regs = s.regs ∧ (s.readOut m a data).buf = s.buf ∧
    (s.readOut m a data).posted = s.posted ∧ (s.readOut m a data).heldLow = s.heldLow ∧
    (s.readOut m a data).hiLatch = s.hiLatch ∧ (s.readOut m a data).w1 = s.w1 ∧ (s.readOut m a data).sems = s.sems ∧
    (s.readOut m a data).slowDue = s.slowDue ∧ (s.readOut m a data).arm = s.arm ∧ (s.readOut m a data).pwr = s.pwr ∧
    (s.readOut m a data).tamp = s.tamp ∧ (s.readOut m a data).boot = s.boot ∧ (s.readOut m a data).prst = s.prst ∧
    (s.readOut m a data).lcf = s.lcf ∧ (s.readOut m a data).cel = s.cel ∧ (s.readOut m a data).dgl = s.dgl ∧
    (s.readOut m a data).hq = s.hq ∧ (s.readOut m a data).mbx = s.mbx ∧ (s.readOut m a data).cmd = s.cmd ∧
    (s.readOut m a data).cis = s.cis ∧ (s.readOut m a data).ports = s.ports ∧ (s.readOut m a data).cache = s.cache ∧
    (s.readOut m a data).frames = s.frames ∧ (s.readOut m a data).meas = s.meas ∧ (s.readOut m a data).spdm = s.spdm ∧
    (s.readOut m a data).cvn = s.cvn ∧ (s.readOut m a data).tks = s.tks ∧ (s.readOut m a data).ram = s.ram ∧
    (s.readOut m a data).freeCtr = s.freeCtr ∧ (s.readOut m a data).drbgCtr = s.drbgCtr ∧
    (s.readOut m a data).pending = s.pending := by
  unfold State.readOut; dsimp only; split <;> simp

@[simp] theorem State.uartOut_frame (s : State) (v : Word) :
    (s.uartOut v).clk = s.clk ∧ (s.uartOut v).regs = s.regs ∧ (s.uartOut v).buf = s.buf ∧ (s.uartOut v).posted = s.posted ∧
    (s.uartOut v).heldLow = s.heldLow ∧ (s.uartOut v).hiLatch = s.hiLatch ∧ (s.uartOut v).w1 = s.w1 ∧
    (s.uartOut v).events = s.events ∧ (s.uartOut v).msixPba = s.msixPba ∧ (s.uartOut v).sems = s.sems ∧
    (s.uartOut v).slowDue = s.slowDue ∧ (s.uartOut v).arm = s.arm ∧ (s.uartOut v).pwr = s.pwr ∧
    (s.uartOut v).tamp = s.tamp ∧ (s.uartOut v).boot = s.boot ∧ (s.uartOut v).prst = s.prst ∧ (s.uartOut v).lcf = s.lcf ∧
    (s.uartOut v).cel = s.cel ∧ (s.uartOut v).flr = s.flr ∧ (s.uartOut v).dgl = s.dgl ∧ (s.uartOut v).hq = s.hq ∧
    (s.uartOut v).harts = s.harts ∧ (s.uartOut v).mbx = s.mbx ∧ (s.uartOut v).cmd = s.cmd ∧ (s.uartOut v).cis = s.cis ∧
    (s.uartOut v).ports = s.ports ∧ (s.uartOut v).cache = s.cache ∧ (s.uartOut v).frames = s.frames ∧
    (s.uartOut v).meas = s.meas ∧ (s.uartOut v).spdm = s.spdm ∧ (s.uartOut v).cvn = s.cvn ∧ (s.uartOut v).tks = s.tks ∧
    (s.uartOut v).ram = s.ram ∧ (s.uartOut v).freeCtr = s.freeCtr ∧ (s.uartOut v).drbgCtr = s.drbgCtr ∧
    (s.uartOut v).pending = s.pending := by
  unfold State.uartOut; split
  · simp
  · split <;> simp
  · split <;> simp
  · simp

@[simp] theorem State.setStage_frame (s : State) (v : Word) :
    (s.setStage v).clk = s.clk ∧ (s.setStage v).buf = s.buf ∧ (s.setStage v).posted = s.posted ∧
    (s.setStage v).heldLow = s.heldLow ∧ (s.setStage v).hiLatch = s.hiLatch ∧ (s.setStage v).w1 = s.w1 ∧
    (s.setStage v).sems = s.sems ∧ (s.setStage v).slowDue = s.slowDue ∧ (s.setStage v).arm = s.arm ∧
    (s.setStage v).pwr = s.pwr ∧ (s.setStage v).tamp = s.tamp ∧ (s.setStage v).boot = s.boot ∧
    (s.setStage v).prst = s.prst ∧ (s.setStage v).lcf = s.lcf ∧ (s.setStage v).cel = s.cel ∧ (s.setStage v).dgl = s.dgl ∧
    (s.setStage v).hq = s.hq ∧ (s.setStage v).mbx = s.mbx ∧ (s.setStage v).cmd = s.cmd ∧ (s.setStage v).cis = s.cis ∧
    (s.setStage v).ports = s.ports ∧ (s.setStage v).cache = s.cache ∧ (s.setStage v).frames = s.frames ∧
    (s.setStage v).meas = s.meas ∧ (s.setStage v).spdm = s.spdm ∧ (s.setStage v).cvn = s.cvn ∧ (s.setStage v).tks = s.tks ∧
    (s.setStage v).ram = s.ram ∧ (s.setStage v).freeCtr = s.freeCtr ∧ (s.setStage v).drbgCtr = s.drbgCtr ∧
    (s.setStage v).pending = s.pending := by
  unfold State.setStage; split <;> simp

@[simp] theorem State.refuse_frame (s : State) (m : Master) (a : Nat) :
    (s.refuse m a).clk = s.clk ∧ (s.refuse m a).buf = s.buf ∧ (s.refuse m a).posted = s.posted ∧
    (s.refuse m a).heldLow = s.heldLow ∧ (s.refuse m a).hiLatch = s.hiLatch ∧ (s.refuse m a).w1 = s.w1 ∧
    (s.refuse m a).sems = s.sems ∧ (s.refuse m a).slowDue = s.slowDue ∧ (s.refuse m a).arm = s.arm ∧
    (s.refuse m a).pwr = s.pwr ∧ (s.refuse m a).tamp = s.tamp ∧ (s.refuse m a).boot = s.boot ∧
    (s.refuse m a).prst = s.prst ∧ (s.refuse m a).lcf = s.lcf ∧ (s.refuse m a).cel = s.cel ∧ (s.refuse m a).flr = s.flr ∧
    (s.refuse m a).dgl = s.dgl ∧ (s.refuse m a).hq = s.hq ∧ (s.refuse m a).mbx = s.mbx ∧ (s.refuse m a).cmd = s.cmd ∧
    (s.refuse m a).cis = s.cis ∧ (s.refuse m a).ports = s.ports ∧ (s.refuse m a).cache = s.cache ∧
    (s.refuse m a).frames = s.frames ∧ (s.refuse m a).meas = s.meas ∧ (s.refuse m a).spdm = s.spdm ∧
    (s.refuse m a).cvn = s.cvn ∧ (s.refuse m a).tks = s.tks ∧ (s.refuse m a).ram = s.ram ∧
    (s.refuse m a).freeCtr = s.freeCtr ∧ (s.refuse m a).drbgCtr = s.drbgCtr ∧ (s.refuse m a).pending = s.pending := by
  unfold State.refuse; simp

@[simp] theorem State.wantLane_frame (s : State) (j : DJob) :
    (s.wantLane j).clk = s.clk ∧ (s.wantLane j).regs = s.regs ∧ (s.wantLane j).buf = s.buf ∧
    (s.wantLane j).posted = s.posted ∧ (s.wantLane j).heldLow = s.heldLow ∧ (s.wantLane j).hiLatch = s.hiLatch ∧
    (s.wantLane j).w1 = s.w1 ∧ (s.wantLane j).events = s.events ∧ (s.wantLane j).msixPba = s.msixPba ∧
    (s.wantLane j).sems = s.sems ∧ (s.wantLane j).slowDue = s.slowDue ∧ (s.wantLane j).arm = s.arm ∧
    (s.wantLane j).pwr = s.pwr ∧ (s.wantLane j).tamp = s.tamp ∧ (s.wantLane j).boot = s.boot ∧
    (s.wantLane j).prst = s.prst ∧ (s.wantLane j).lcf = s.lcf ∧ (s.wantLane j).cel = s.cel ∧ (s.wantLane j).flr = s.flr ∧
    (s.wantLane j).hq = s.hq ∧ (s.wantLane j).harts = s.harts ∧ (s.wantLane j).mbx = s.mbx ∧ (s.wantLane j).cmd = s.cmd ∧
    (s.wantLane j).cis = s.cis ∧ (s.wantLane j).ports = s.ports ∧ (s.wantLane j).cache = s.cache ∧
    (s.wantLane j).frames = s.frames ∧ (s.wantLane j).meas = s.meas ∧ (s.wantLane j).spdm = s.spdm ∧
    (s.wantLane j).cvn = s.cvn ∧ (s.wantLane j).tks = s.tks ∧ (s.wantLane j).ram = s.ram ∧
    (s.wantLane j).outbox = s.outbox ∧ (s.wantLane j).freeCtr = s.freeCtr ∧ (s.wantLane j).drbgCtr = s.drbgCtr ∧
    (s.wantLane j).pending = s.pending := by
  unfold State.wantLane; split
  · simp
  · split <;> simp

@[simp] theorem State.unmark_frame (s : State) (c : Nat) :
    (s.unmark c).clk = s.clk ∧ (s.unmark c).regs = s.regs ∧ (s.unmark c).buf = s.buf ∧ (s.unmark c).posted = s.posted ∧
    (s.unmark c).heldLow = s.heldLow ∧ (s.unmark c).hiLatch = s.hiLatch ∧ (s.unmark c).w1 = s.w1 ∧
    (s.unmark c).events = s.events ∧ (s.unmark c).msixPba = s.msixPba ∧ (s.unmark c).sems = s.sems ∧
    (s.unmark c).slowDue = s.slowDue ∧ (s.unmark c).arm = s.arm ∧ (s.unmark c).pwr = s.pwr ∧ (s.unmark c).tamp = s.tamp ∧
    (s.unmark c).boot = s.boot ∧ (s.unmark c).prst = s.prst ∧ (s.unmark c).lcf = s.lcf ∧ (s.unmark c).cel = s.cel ∧
    (s.unmark c).flr = s.flr ∧ (s.unmark c).hq = s.hq ∧ (s.unmark c).harts = s.harts ∧ (s.unmark c).mbx = s.mbx ∧
    (s.unmark c).cmd = s.cmd ∧ (s.unmark c).cis = s.cis ∧ (s.unmark c).ports = s.ports ∧ (s.unmark c).cache = s.cache ∧
    (s.unmark c).frames = s.frames ∧ (s.unmark c).meas = s.meas ∧ (s.unmark c).spdm = s.spdm ∧ (s.unmark c).cvn = s.cvn ∧
    (s.unmark c).tks = s.tks ∧ (s.unmark c).ram = s.ram ∧ (s.unmark c).outbox = s.outbox ∧
    (s.unmark c).freeCtr = s.freeCtr ∧ (s.unmark c).drbgCtr = s.drbgCtr ∧ (s.unmark c).pending = s.pending := by
  unfold State.unmark
  generalize List.range 16 = l
  induction l generalizing s with
  | nil => simp
  | cons k t ih =>
    rw [List.foldl_cons]
    split
    · simpa using ih (s.setLane k { s.lane k with marked := none })
    · simpa using ih s

@[simp] theorem State.readyJob_frame (s : State) (j : DJob) :
    (s.readyJob j).clk = s.clk ∧ (s.readyJob j).regs = s.regs ∧ (s.readyJob j).buf = s.buf ∧
    (s.readyJob j).posted = s.posted ∧ (s.readyJob j).heldLow = s.heldLow ∧ (s.readyJob j).hiLatch = s.hiLatch ∧
    (s.readyJob j).w1 = s.w1 ∧ (s.readyJob j).events = s.events ∧ (s.readyJob j).msixPba = s.msixPba ∧
    (s.readyJob j).sems = s.sems ∧ (s.readyJob j).slowDue = s.slowDue ∧ (s.readyJob j).arm = s.arm ∧
    (s.readyJob j).pwr = s.pwr ∧ (s.readyJob j).tamp = s.tamp ∧ (s.readyJob j).boot = s.boot ∧
    (s.readyJob j).prst = s.prst ∧ (s.readyJob j).lcf = s.lcf ∧ (s.readyJob j).cel = s.cel ∧ (s.readyJob j).flr = s.flr ∧
    (s.readyJob j).hq = s.hq ∧ (s.readyJob j).harts = s.harts ∧ (s.readyJob j).mbx = s.mbx ∧ (s.readyJob j).cmd = s.cmd ∧
    (s.readyJob j).cis = s.cis ∧ (s.readyJob j).ports = s.ports ∧ (s.readyJob j).cache = s.cache ∧
    (s.readyJob j).frames = s.frames ∧ (s.readyJob j).meas = s.meas ∧ (s.readyJob j).spdm = s.spdm ∧
    (s.readyJob j).cvn = s.cvn ∧ (s.readyJob j).tks = s.tks ∧ (s.readyJob j).ram = s.ram ∧
    (s.readyJob j).outbox = s.outbox ∧ (s.readyJob j).freeCtr = s.freeCtr ∧ (s.readyJob j).drbgCtr = s.drbgCtr ∧
    (s.readyJob j).pending = s.pending := by
  unfold State.readyJob; dsimp only; split <;> simp

@[simp] theorem State.permReady_frame (s : State) (c alg n : Nat) :
    (s.permReady c alg n).clk = s.clk ∧ (s.permReady c alg n).regs = s.regs ∧ (s.permReady c alg n).buf = s.buf ∧
    (s.permReady c alg n).posted = s.posted ∧ (s.permReady c alg n).heldLow = s.heldLow ∧
    (s.permReady c alg n).hiLatch = s.hiLatch ∧ (s.permReady c alg n).w1 = s.w1 ∧ (s.permReady c alg n).events = s.events ∧
    (s.permReady c alg n).msixPba = s.msixPba ∧ (s.permReady c alg n).sems = s.sems ∧
    (s.permReady c alg n).slowDue = s.slowDue ∧ (s.permReady c alg n).arm = s.arm ∧ (s.permReady c alg n).pwr = s.pwr ∧
    (s.permReady c alg n).tamp = s.tamp ∧ (s.permReady c alg n).boot = s.boot ∧ (s.permReady c alg n).prst = s.prst ∧
    (s.permReady c alg n).lcf = s.lcf ∧ (s.permReady c alg n).cel = s.cel ∧ (s.permReady c alg n).flr = s.flr ∧
    (s.permReady c alg n).hq = s.hq ∧ (s.permReady c alg n).harts = s.harts ∧ (s.permReady c alg n).mbx = s.mbx ∧
    (s.permReady c alg n).cmd = s.cmd ∧ (s.permReady c alg n).cis = s.cis ∧ (s.permReady c alg n).ports = s.ports ∧
    (s.permReady c alg n).cache = s.cache ∧ (s.permReady c alg n).frames = s.frames ∧ (s.permReady c alg n).meas = s.meas ∧
    (s.permReady c alg n).spdm = s.spdm ∧ (s.permReady c alg n).cvn = s.cvn ∧ (s.permReady c alg n).tks = s.tks ∧
    (s.permReady c alg n).ram = s.ram ∧ (s.permReady c alg n).outbox = s.outbox ∧
    (s.permReady c alg n).freeCtr = s.freeCtr ∧ (s.permReady c alg n).drbgCtr = s.drbgCtr ∧
    (s.permReady c alg n).pending = s.pending := by
  unfold State.permReady; simp

@[simp] theorem State.wipPoll_frame (s : State) (i : Nat) :
    (s.wipPoll i).clk = s.clk ∧ (s.wipPoll i).regs = s.regs ∧ (s.wipPoll i).buf = s.buf ∧ (s.wipPoll i).posted = s.posted ∧
    (s.wipPoll i).heldLow = s.heldLow ∧ (s.wipPoll i).hiLatch = s.hiLatch ∧ (s.wipPoll i).w1 = s.w1 ∧
    (s.wipPoll i).events = s.events ∧ (s.wipPoll i).msixPba = s.msixPba ∧ (s.wipPoll i).sems = s.sems ∧
    (s.wipPoll i).slowDue = s.slowDue ∧ (s.wipPoll i).arm = s.arm ∧ (s.wipPoll i).pwr = s.pwr ∧
    (s.wipPoll i).tamp = s.tamp ∧ (s.wipPoll i).boot = s.boot ∧ (s.wipPoll i).prst = s.prst ∧ (s.wipPoll i).lcf = s.lcf ∧
    (s.wipPoll i).cel = s.cel ∧ (s.wipPoll i).flr = s.flr ∧ (s.wipPoll i).dgl = s.dgl ∧ (s.wipPoll i).hq = s.hq ∧
    (s.wipPoll i).harts = s.harts ∧ (s.wipPoll i).mbx = s.mbx ∧ (s.wipPoll i).cmd = s.cmd ∧ (s.wipPoll i).cis = s.cis ∧
    (s.wipPoll i).cache = s.cache ∧ (s.wipPoll i).frames = s.frames ∧ (s.wipPoll i).meas = s.meas ∧
    (s.wipPoll i).spdm = s.spdm ∧ (s.wipPoll i).cvn = s.cvn ∧ (s.wipPoll i).tks = s.tks ∧ (s.wipPoll i).ram = s.ram ∧
    (s.wipPoll i).outbox = s.outbox ∧ (s.wipPoll i).drbgCtr = s.drbgCtr ∧ (s.wipPoll i).pending = s.pending := by
  unfold State.wipPoll; split
  · simp
  · dsimp only; split
    · simp
    · split
      · simp
      · split <;> simp

@[simp] theorem State.wipPolls_frame (s : State) :
    (s.wipPolls).clk = s.clk ∧ (s.wipPolls).regs = s.regs ∧ (s.wipPolls).buf = s.buf ∧ (s.wipPolls).posted = s.posted ∧
    (s.wipPolls).heldLow = s.heldLow ∧ (s.wipPolls).hiLatch = s.hiLatch ∧ (s.wipPolls).w1 = s.w1 ∧
    (s.wipPolls).events = s.events ∧ (s.wipPolls).msixPba = s.msixPba ∧ (s.wipPolls).sems = s.sems ∧
    (s.wipPolls).slowDue = s.slowDue ∧ (s.wipPolls).arm = s.arm ∧ (s.wipPolls).pwr = s.pwr ∧ (s.wipPolls).tamp = s.tamp ∧
    (s.wipPolls).boot = s.boot ∧ (s.wipPolls).prst = s.prst ∧ (s.wipPolls).lcf = s.lcf ∧ (s.wipPolls).cel = s.cel ∧
    (s.wipPolls).flr = s.flr ∧ (s.wipPolls).dgl = s.dgl ∧ (s.wipPolls).hq = s.hq ∧ (s.wipPolls).harts = s.harts ∧
    (s.wipPolls).mbx = s.mbx ∧ (s.wipPolls).cmd = s.cmd ∧ (s.wipPolls).cis = s.cis ∧ (s.wipPolls).cache = s.cache ∧
    (s.wipPolls).frames = s.frames ∧ (s.wipPolls).meas = s.meas ∧ (s.wipPolls).spdm = s.spdm ∧ (s.wipPolls).cvn = s.cvn ∧
    (s.wipPolls).tks = s.tks ∧ (s.wipPolls).ram = s.ram ∧ (s.wipPolls).outbox = s.outbox ∧
    (s.wipPolls).drbgCtr = s.drbgCtr ∧ (s.wipPolls).pending = s.pending := by
  unfold State.wipPolls
  generalize s.cis.queue = q
  induction q generalizing s with
  | nil => simp
  | cons k t ih => rw [List.foldl_cons]; simpa using ih (s.wipPoll k.1)

@[simp] theorem State.reg_setReg (s : State) (a b : Nat) (v : Word) : (s.setReg a v).reg b = if b = a then v else s.reg b := by
  simp only [State.reg, State.setReg, SMap.get_set]

@[simp] theorem State.evt_setEvt (s : State) (a b : Nat) (v : EventRec) : (s.setEvt a v).evt b = if b = a then v else s.evt b := by
  simp only [State.evt, State.setEvt, SMap.get_set]

@[simp] theorem State.port_setPort (s : State) (a b : Nat) (v : PortState) : (s.setPort a v).port b = if b = a then v else s.port b := by
  simp only [State.port, State.setPort, SMap.get_set]

@[simp] theorem State.hart_setHart (s : State) (a b : Nat) (v : Hart) : (s.setHart a v).hart b = if b = a then v else s.hart b := by
  simp only [State.hart, State.setHart, SMap.get_set]

@[simp] theorem State.chan_setChan (s : State) (a b : Nat) (v : Channel) : (s.setChan a v).chan b = if b = a then v else s.chan b := by
  simp only [State.chan, State.setChan, SMap.get_set]

@[simp] theorem State.queue_setQueue (s : State) (a b : Nat) (v : Queue) : (s.setQueue a v).queue b = if b = a then v else s.queue b := by
  simp only [State.queue, State.setQueue, SMap.get_set]

@[simp] theorem State.fn_setFn (s : State) (a b : Nat) (v : FnState) : (s.setFn a v).fn b = if b = a then v else s.fn b := by
  simp only [State.fn, State.setFn, SMap.get_set]

@[simp] theorem State.slot_setSlot (s : State) (a b : Nat) (v : Slot) : (s.setSlot a v).slot b = if b = a then v else s.slot b := by
  simp only [State.slot, State.setSlot, SMap.get_set]

@[simp] theorem State.dctx_setDctx (s : State) (a b : Nat) (v : DCtx) : (s.setDctx a v).dctx b = if b = a then v else s.dctx b := by
  simp only [State.dctx, State.setDctx, SMap.get_set]

@[simp] theorem State.lane_setLane (s : State) (a b : Nat) (v : Lane) : (s.setLane a v).lane b = if b = a then v else s.lane b := by
  simp only [State.lane, State.setLane, SMap.get_set]

@[simp] theorem State.adm_setAdm (s : State) (a b : Nat) (v : AdmEntry) : (s.setAdm a v).adm b = if b = a then v else s.adm b := by
  simp only [State.adm, State.setAdm, SMap.get_set]

@[simp] theorem State.timer_setTimer (s : State) (a b : Nat) (v : Timer) : (s.setTimer a v).timer b = if b = a then v else s.timer b := by
  simp only [State.timer, State.setTimer, SMap.get_set]

@[simp] theorem State.mslot_setMslot (s : State) (a b : Nat) (v : MSlot) : (s.setMslot a v).mslot b = if b = a then v else s.mslot b := by
  simp only [State.mslot, State.setMslot, SMap.get_set]

@[simp] theorem State.link_setLink (s : State) (a b : Nat) (v : CvnPort) : (s.setLink a v).link b = if b = a then v else s.link b := by
  simp only [State.link, State.setLink, SMap.get_set]

@[simp] theorem State.wdog_setWdog (s : State) (a b : Nat) (v : Wdog) : (s.setWdog a v).wdog b = if b = a then v else s.wdog b := by
  simp only [State.wdog, State.setWdog, SMap.get_set]

@[simp] theorem State.fuse_setFuse (s : State) (a b : Nat) (v : Word) : (s.setFuse a v).fuse b = if b = a then v else s.fuse b := by
  simp only [State.fuse, State.setFuse, SMap.get_set]

@[simp] theorem State.byte_setByte (s : State) (a b : Nat) (v : Byte) : (s.setByte a v).byte b = if b = a then v else s.byte b := by
  simp only [State.byte, State.setByte, SMap.get_set]

@[simp] theorem State.sem_setSem (s : State) (a b : Nat) (v : Option Master) : (s.setSem a v).sem b = if b = a then v else s.sem b := by
  simp only [State.sem, State.setSem, SMap.get_set]

@[simp] theorem State.bufAt_setBuf (s : State) (a b : Nat) (v : Option Word) : (s.setBuf a v).bufAt b = if b = a then v else s.bufAt b := by
  simp only [State.bufAt, State.setBuf, SMap.get_set]

@[simp] theorem State.postedAt_setPosted (s : State) (a b : Nat) (v : Option Posted) : (s.setPosted a v).postedAt b = if b = a then v else s.postedAt b := by
  simp only [State.postedAt, State.setPosted, SMap.get_set]

end Sys2Proof.Machine
end

