-- ==== Sys2Proof/Laws/Access.lean ====
section
/-! SUPPORT. A write that is admitted has its effect and nothing else; what events leave alone. -/
namespace Sys2Proof.Machine

/-- A write that is admitted has its effect. -/
theorem State.guarded_of_admits (s : State) (m : Master) (a : Nat) (eff : State → State) (h : s.admits m a = true) :
    s.guarded m a eff = eff s := by
  unfold State.admits at h
  unfold State.guarded
  split at h
  · simp at h
  · rename_i i hi
    simp only [Bool.and_eq_true, Bool.not_eq_true', Option.isNone_iff_eq_none] at h
    obtain ⟨⟨⟨h1, h2⟩, h3⟩, h4⟩ := h
    simp only [hi, h1, h3, h4, Bool.not_true, Bool.false_eq_true, ↓reduceIte]
    rw [if_neg]
    intro h
    simp [h.1, h.2] at h2

/-- A header write that is admitted has its effect. -/
theorem State.headGuard_of_admits (s : State) (m : Master) (page off : Nat) (eff : Nat → State → State)
    (h : s.headAdmits m page = true) : s.headGuard m page off eff = eff page s := by
  unfold State.headAdmits at h
  unfold State.headGuard
  split at h
  · simp at h
  · rename_i i hi
    simp only [Bool.and_eq_true, Bool.not_eq_true'] at h
    obtain ⟨⟨⟨h1, h2⟩, h3⟩, h4⟩ := h
    simp only [hi, h1, Bool.not_true, Bool.false_eq_true, ↓reduceIte, State.headOne, State.haltBars, h3, h4, Bool.false_and]
    rw [if_neg]
    rintro ⟨a, b⟩; simp [a, b] at h2

/-- What counting an event can change. -/
theorem State.count_routed (s : State) (k : Nat) : s.count k = s.routed (s.count k) := by
  apply State.ext <;> simp [State.routed]

/-- What counting several events can change. -/
theorem State.counts_routed (s : State) (ks : List Nat) : s.counts ks = s.routed (s.counts ks) := by
  apply State.ext <;> simp [State.routed]

/-- What writing a flight record can change. -/
theorem State.flight_recorded (s : State) (type : Nat) (src : Master) (body : Bytes) :
    s.flight type src body = s.recorded (s.flight type src body) := by
  apply State.ext <;> simp [State.recorded, State.routed]

/-! ### Registers and event records under the shared operations -/

@[simp] theorem State.reg_count (s : State) (k a : Nat) : (s.count k).reg a = s.reg a := by simp [State.reg]
@[simp] theorem State.reg_counts (s : State) (l : List Nat) (a : Nat) : (s.counts l).reg a = s.reg a := by simp [State.reg]
@[simp] theorem State.reg_flight (s : State) (ty : Nat) (m : Master) (b : Bytes) (a : Nat) : (s.flight ty m b).reg a = s.reg a := by
  simp [State.reg]
@[simp] theorem State.reg_out (s : State) (o : Out) (a : Nat) : (s.out o).reg a = s.reg a := rfl
@[simp] theorem State.evt_setReg (s : State) (a : Nat) (v : Word) (k : Nat) : (s.setReg a v).evt k = s.evt k := rfl
@[simp] theorem State.evt_deliver (s : State) (k j : Nat) : (s.deliver k).evt j = s.evt j := by simp [State.evt]

/-- Counting an event changes the record of its source only. -/
theorem State.evt_count (s : State) (k j : Nat) : (s.count k).evt j = if j = k then (s.evt k).bump else s.evt j := by
  unfold State.count
  rw [show ∀ (x : State) (w : Bool), (x.deliverIfNew w k).evt j = x.evt j from fun x w => by simp [State.evt]]
  simp

/-- A page error changes PAGE_ERR of its page and no other register. -/
theorem State.reg_err (s : State) (page off : Nat) (k : ErrKind) (m : Master) (a : Nat) :
    (s.err page off k m).reg a = if a = pg page 0x18 then pageErrAfter (s.reg (pg page 0x18)) off k m else s.reg a := by
  unfold State.err; dsimp only
  split <;> simp

/-- A page error other than LOCKED counts REG_ERR and nothing else (R42). -/
theorem State.evt_err (s : State) (page off : Nat) (k : ErrKind) (hk : k ≠ .locked) (m : Master) (j : Nat) :
    (s.err page off k m).evt j = if j = 0 then (s.evt 0).bump else s.evt j := by
  unfold State.err; dsimp only
  rw [if_neg hk, State.evt_count]; rfl

/-- What a page error can change. -/
theorem State.err_routed (s : State) (page off : Nat) (k : ErrKind) (m : Master) :
    s.err page off k m = { s.routed (s.err page off k m) with regs := (s.err page off k m).regs } := by
  apply State.ext <;> simp [State.routed]

/-- Counting several different sources counts each of them once. -/
theorem State.evt_counts (ks : List Nat) : ∀ s : State, ∀ j, ks.Nodup →
    (s.counts ks).evt j = if j ∈ ks then (s.evt j).bump else s.evt j := by
  induction ks with
  | nil => intros; simp [State.counts]
  | cons k t ih =>
    intro s j hn
    rw [List.nodup_cons] at hn
    show ((s.count k).counts t).evt j = _
    rw [ih _ _ hn.2, State.evt_count]
    by_cases hj : j = k
    · subst hj; simp [hn.1]
    · simp [hj]

/-- A master that reaches the block is not a hart whose reads a replay serves. -/
theorem State.takes_replay (s : State) (m : Master) (h : s.takes m = true) : (isHart m && s.flr.replay == .running) = false := by
  unfold State.takes at h
  simp only [Bool.and_eq_true, Bool.not_eq_true', Bool.and_eq_false_iff, Bool.or_eq_false_iff] at h ⊢
  rcases h.1.2 with h | h
  · exact .inl h
  · exact .inr h.1

/-- A master that reaches the block is no function whose reset is not over. -/
theorem State.takes_flrReads (s : State) (m : Master) (page : Nat) (h : s.takes m = true) : s.flrReads m page = false := by
  unfold State.takes at h
  simp only [Bool.and_eq_true, Bool.not_eq_true', Bool.and_eq_false_iff, Bool.or_eq_false_iff, Bool.not_eq_false'] at h
  unfold State.flrReads
  rcases h.2 with h | h
  · simp [h]
  · simp [h.2]

/-- A 32-bit read by a master that reaches the page. -/
theorem State.read32_of_arrives (s : State) (m : Master) (a : Nat) (h : s.arrives m (a / 4096) = true) :
    s.read32 m a = (s.readEff m a).answer m a (leBytes 4 (s.readWord m a).toNat) := by
  unfold State.read32
  have h' := h
  simp only [State.arrives, Bool.and_eq_true] at h'
  rw [State.takes_replay s m h'.1, State.takes_flrReads s m _ h'.1]
  simp [h]

end Sys2Proof.Machine
end

