-- ==== Sys2Proof/Laws/Fuses.lean ====
section
/-! SUPPORT. The wiring of the root secrets is a permutation, and sensing undoes it (R367, R368). -/
namespace Sys2Proof.Machine

/-- Putting a number into a list only adds it. -/
theorem insertAt_perm (l : List Nat) (i x : Nat) : (insertAt l i x).Perm (x :: l) := by
  unfold insertAt
  exact List.perm_middle.trans (by rw [List.take_append_drop])

/-- Whatever the places are, the wiring is a permutation of the positions. -/
theorem permList_perm (pick : Nat → Nat) (n : Nat) : (permList pick n).Perm (List.range n) := by
  induction n with
  | zero => exact .refl _
  | succ k ih =>
    rw [List.range_succ]
    exact (insertAt_perm _ _ _).trans ((ih.cons k).trans (List.perm_append_singleton k _).symm)

/-- Each position stands at one place. -/
theorem permList_nodup (pick : Nat → Nat) (n : Nat) : (permList pick n).Nodup :=
  (permList_perm pick n).nodup_iff.mpr List.nodup_range

/-- A selector gives all 256 positions. -/
theorem permBits_length (sel : Nat) : (permBits sel).length = 256 := by
  rw [permBits, (permList_perm _ _).length_eq, List.length_range]

/-- Bit `j` of a power of two. -/
theorem getLsbD_ofNat_two_pow (n i j : Nat) : (BitVec.ofNat n (2 ^ i)).getLsbD j = (decide (j < n) && decide (i = j)) := by
  rw [BitVec.getLsbD_ofNat, Nat.testBit_two_pow]
/-- What one bit put into a bit vector changes. -/
theorem getLsbD_putBit {n : Nat} (v : BitVec n) (i j : Nat) (b : Bool) :
    (putBit v i b).getLsbD j = if j = i then b && decide (j < n) else v.getLsbD j := by
  unfold putBit
  by_cases hn : j < n
  · by_cases h : j = i
    · subst h
      cases b
      · rw [if_neg (by simp), BitVec.getLsbD_and, BitVec.getLsbD_not, getLsbD_ofNat_two_pow]; simp
      · rw [if_pos rfl, BitVec.getLsbD_or, getLsbD_ofNat_two_pow]; simp [hn]
    · have h' : i ≠ j := fun e => h e.symm
      cases b
      · rw [if_neg (by simp), BitVec.getLsbD_and, BitVec.getLsbD_not, getLsbD_ofNat_two_pow]; simp [h, h', hn]
      · rw [if_pos rfl, BitVec.getLsbD_or, getLsbD_ofNat_two_pow]; simp [h, h']
  · rw [BitVec.getLsbD_of_ge _ _ (by omega), BitVec.getLsbD_of_ge v _ (by omega)]; simp [hn]

/-- A fold that sets the bits of a list of places leaves every other bit. -/
theorem getLsbD_fold_putBit (f : Nat → Bool) (l : List Nat) (hl : ∀ i ∈ l, i < 8) (b : Byte) (j : Nat) :
    (l.foldl (fun b i => putBit b i (f i)) b).getLsbD j = if j ∈ l then f j else b.getLsbD j := by
  induction l generalizing b with
  | nil => simp
  | cons k t ih =>
    rw [List.foldl_cons, ih (fun i hi => hl i (by simp [hi])), getLsbD_putBit]
    have hk := hl k (by simp)
    by_cases hj : j ∈ t
    · simp [hj]
    · by_cases h : j = k
      · subst h; simp [hj, hk]
      · simp [hj, h]

/-- A position of a list below its length. -/
theorem getD_of_lt {α : Type} (l : List α) (i : Nat) (d : α) (h : i < l.length) : l.getD i d = l[i] := by
  simp [List.getD_eq_getElem?_getD, h]

/-- The bits of the bytes that a function gives. -/
theorem bitAt_ofBits (f : Nat → Bool) (i : Nat) (h : i < 256) : bitAt (ofBits f) i = f i := by
  have hk : i / 8 < 32 := by omega
  have hj : i % 8 < 8 := by omega
  unfold bitAt ofBits Bytes.at
  rw [getD_of_lt _ _ _ (by simpa using hk), List.getElem_map, List.getElem_range,
    getLsbD_fold_putBit _ _ (fun k hk => by simpa using hk), if_pos (by simpa using hj)]
  congr 1; omega

/-- A string of 32 bytes is given by its bits. -/
theorem ofBits_bitAt (b : Bytes) (h : b.length = 32) : ofBits (bitAt b) = b := by
  unfold ofBits
  apply List.ext_getElem (by simp [h])
  intro i h1 h2
  rw [List.getElem_map, List.getElem_range]
  apply BitVec.eq_of_getLsbD_eq
  intro j hj
  rw [getLsbD_fold_putBit _ _ (fun k hk => by simpa using hk), if_pos (by simpa using hj)]
  unfold bitAt Bytes.at
  rw [show (8 * i + j) / 8 = i by omega, show (8 * i + j) % 8 = j by omega, getD_of_lt _ _ _ h2]

/-- Sensing gives back what was blown: the inverse permutation undoes the permutation (R367, R368). -/
theorem unpermute_permute (sel : Nat) (b : Bytes) (h : b.length = 32) :
    unpermute (permBits sel) (permute (permBits sel) b) = b := by
  have hp := permList_perm (Config.permPick sel) 256
  have hn := permList_nodup (Config.permPick sel) 256
  have hlen : (permBits sel).length = 256 := permBits_length sel
  refine Eq.trans ?_ (ofBits_bitAt b h)
  unfold unpermute
  have key : ∀ i, i < 256 → bitAt (permute (permBits sel) b) ((permBits sel).getD i 0) = bitAt b i := by
    intro i hi
    have hi' : i < (permBits sel).length := by omega
    rw [getD_of_lt _ _ _ hi', permute, bitAt_ofBits]
    · congr 1
      have := List.Nodup.idxOf_getElem (xs := permBits sel) hn i hi'
      simpa [List.idxOf] using this
    · have := hp.mem_iff.mp (show (permBits sel)[i] ∈ permList (Config.permPick sel) 256 from List.getElem_mem hi')
      simpa using this
  unfold ofBits
  apply List.map_congr_left
  intro k hk
  have hk' : k < 32 := by simpa using hk
  have : ∀ (l : List Nat) (x : Byte), (∀ j ∈ l, j < 8) →
      l.foldl (fun b' j => putBit b' j (bitAt (permute (permBits sel) b) ((permBits sel).getD (8 * k + j) 0))) x =
      l.foldl (fun b' j => putBit b' j (bitAt b (8 * k + j))) x := by
    intro l
    induction l with
    | nil => intros; rfl
    | cons j t ih =>
      intro x hj
      have h8 := hj j (by simp)
      rw [List.foldl_cons, List.foldl_cons, key _ (by omega)]
      exact ih _ (fun i hi => hj i (by simp [hi]))
  exact this _ _ (fun j hj => by simpa using hj)

end Sys2Proof.Machine
end

