-- ==== Sys2Proof/Laws/HartMem.lean ====
section
/-! SUPPORT. What an engine gets when it reads core memory for a hart (R285, R502). -/
namespace Sys2Proof.Machine

/-- A read for a hart gives as many bytes as it asks for. -/
theorem State.hartRead_length (s : State) (h a n : Nat) (b : Bytes) (hr : s.hartRead h a n = some b) : b.length = n := by
  unfold State.hartRead at hr
  split at hr
  · cases hr; simp_all
  · split at hr
    · split at hr
      · cases hr; simp
      · cases hr
    · cases hr

/-- It succeeds exactly where the hart may load: nothing asked, or a region that it may load from. -/
theorem State.hartRead_isSome (s : State) (h a n : Nat) :
    (s.hartRead h a n).isSome = (n == 0 || (match hartRegion a n with | some (r, _) => s.loadMay h r | none => false)) := by
  unfold State.hartRead
  by_cases hn : n = 0
  · simp [hn]
  · cases hr : hartRegion a n with
    | none => simp [hn]
    | some x => by_cases hm : s.loadMay h x.1 <;> simp [hn, hm]

end Sys2Proof.Machine
end

