-- ==== Sys2Proof/Laws/Spdm.lean ====
section
/-! SUPPORT. Records of an SPDM session (R434): what one side seals the other opens. -/
namespace Sys2Proof.Machine

@[simp] theorem leBytes_length (n v : Nat) : (leBytes n v).length = n := by simp [leBytes]

@[simp] theorem Config.take_length (n : Nat) (f : Nat → Byte) : (Config.take n f).length = n := by simp [Config.take]

/-- A stream added twice is gone. -/
theorem xorBytes_twice (a b : Bytes) (h : a.length = b.length) : xorBytes (xorBytes a b) b = a := by
  induction a generalizing b with
  | nil => simp [xorBytes]
  | cons x t ih =>
    cases b with
    | nil => simp at h
    | cons y u =>
      have := ih u (by simpa using h)
      simp only [xorBytes, List.zipWith_cons_cons] at this ⊢
      rw [this, BitVec.xor_assoc, BitVec.xor_self, BitVec.xor_zero]

@[simp] theorem gcmCrypt_length (k iv p : Bytes) : (gcmCrypt k iv p).length = p.length := by simp [gcmCrypt, xorBytes]

/-- Decryption undoes encryption. -/
theorem gcmCrypt_twice (k iv p : Bytes) : gcmCrypt k iv (gcmCrypt k iv p) = p := by
  have h : (gcmCrypt k iv p).length = p.length := by simp
  show xorBytes (gcmCrypt k iv p) (Config.take (gcmCrypt k iv p).length (Config.gcmStreamByte k iv)) = p
  rw [h]
  exact xorBytes_twice p _ (by simp)

/-- What is sealed opens. -/
theorem gcmOpen_gcmSeal (k iv h p : Bytes) : gcmOpen k iv h (gcmSeal k iv h p).1 (gcmSeal k iv h p).2 = some p := by
  simp [gcmOpen, gcmSeal, gcmCrypt_twice]

@[simp] theorem recHead_length (m : Bool) (id seq n : Nat) : (recHead m id seq n).length = if m then 8 else 6 := by
  cases m <;> simp [recHead]

/-- Two little-endian bytes of a number below 2^16 hold it. -/
theorem num_leBytes_two (n : Nat) (h : n < 65536) (b : Bytes) : Bytes.num (leBytes 2 n ++ b) 0 2 = n := by
  have e : leBytes 2 n = [BitVec.ofNat 8 n, BitVec.ofNat 8 (n >>> 8)] := rfl
  rw [e]
  simp [Bytes.num, Bytes.slice, leNat, Nat.shiftRight_eq_div_pow]
  omega

/-- The other side of a session opens the record that this side seals. -/
theorem recOpen_recSeal (m : Bool) (ver : Nat) (x y : SpdmSession) (a : Bytes) (ha : a.length < 65535)
    (hi : y.id = x.id) (hk : y.rsp = x.req) (hs : y.rspSeq = x.reqSeq) : recOpen m ver x (recSeal m ver y a) = some a := by
  have hl : ∀ k iv h p, (gcmSeal k iv h p).1.length = p.length := by simp [gcmSeal]
  have ht : ∀ k iv h p, (gcmSeal k iv h p).2.length = 16 := by simp [gcmSeal, gcmTag]
  simp only [recSeal, hi, hk, hs]
  generalize hp : leBytes 2 (((if m then [5] else []) ++ a : Bytes)).length ++ ((if m then [5] else []) ++ a) = p
  generalize hh : recHead m x.id x.reqSeq (p.length + 16) = h
  have hhl : h.length = if m then 8 else 6 := by rw [← hh]; simp
  generalize hr : gcmSeal (spdmExpand ver x.req "key" [] 32) (recNonce ver x.req x.reqSeq) h p = r
  have h1 : r.1.length = p.length := by rw [← hr]; exact hl _ _ _ _
  have h2 : r.2.length = 16 := by rw [← hr]; exact ht _ _ _ _
  have hbl : (h ++ r.1 ++ r.2).length = (if m then 8 else 6) + p.length + 16 := by simp [hhl, h1, h2]; omega
  have e1 : recHead m x.id x.reqSeq ((h ++ r.1 ++ r.2).length - if m then 8 else 6) = h := by
    rw [hbl, ← hh]; congr 1; omega
  have e2 : (h ++ r.1 ++ r.2).take (if m then 8 else 6) = h := by
    rw [List.append_assoc, ← hhl, List.take_left]
  have e3 : Bytes.slice (h ++ r.1 ++ r.2) (if m then 8 else 6) ((h ++ r.1 ++ r.2).length - (if m then 8 else 6) - 16) = r.1 := by
    rw [hbl, Bytes.slice, List.append_assoc, ← hhl, List.drop_left, show h.length + p.length + 16 - h.length - 16 = r.1.length by omega,
      List.take_left]
  have e4 : (h ++ r.1 ++ r.2).drop ((h ++ r.1 ++ r.2).length - 16) = r.2 := by
    rw [hbl, show (if m then 8 else 6) + p.length + 16 - 16 = (h ++ r.1).length by simp [hhl, h1], List.drop_left]
  unfold recOpen
  simp only [e1, e2, e3, e4]
  rw [if_neg (by rw [hbl]; simp), ← hr, gcmOpen_gcmSeal]
  simp only [Option.some.injEq]
  rw [← hp, num_leBytes_two _ (by cases m <;> simp <;> omega)]
  have e : ∀ n, leBytes 2 n = [BitVec.ofNat 8 n, BitVec.ofNat 8 (n >>> 8)] := fun n => rfl
  cases m <;> simp [Bytes.slice, e]

end Sys2Proof.Machine
end

