-- ==== Sys2Proof/Machine/Cfg.lean ====
section
/-! DEFINITION. The PCIe configuration space and the BARs as the host sees them (R443, R444). No row of the table reads configuration
space; FUNC_POWER_CHANGE brings what the host writes there. -/
namespace Sys2Proof.Machine

/-- Capabilities that a function presents (R443). -/
inductive CfgCap where
  | powerManagement | pciExpress | msix | aer | serialNumber | ari | srIov | doe | ide
  deriving DecidableEq, Repr
/-- The capabilities of PF0 and of a VF; any other is absent (R443). -/
def cfgCaps (f : Nat) : List CfgCap :=
  if f = 0 then [.powerManagement, .pciExpress, .msix, .aer, .serialNumber, .ari, .srIov, .doe, .ide]
  else [.pciExpress, .msix, .aer, .ari]
/-- Values that the capabilities present (R443). -/
inductive CfgItem where
  | noSoftReset | pme | d3hot | maxPayload | tenBitTags | relaxedOrdering | extendedSynch | functionReset
  | msixVectors | msixTable | msixPba | aerHeaderPrefix | serialNumber | ariNext
  | totalVfs | firstVfOffset | vfStride | vfDeviceId | vfPageSize | doeMailboxes | doeProtocols
  | ideLinkStreams | ideSelectiveStreams | ideAddressRanges
  deriving DecidableEq, Repr
/-- The value of an item of function `f` (R443); sizes in bytes, tables as offsets in the function's BAR0. -/
def State.cfgItem (s : State) (f : Nat) (i : CfgItem) : Nat :=
  match i with
  | .noSoftReset => 1 | .pme => 0 | .d3hot => 1 | .maxPayload => 512 | .tenBitTags => 1 | .relaxedOrdering => 1 | .extendedSynch => 0
  | .functionReset => 1
  | .msixVectors => if f = 0 then 64 else 4
  | .msixTable => if f = 0 then 0x143800 else 0x3800
  | .msixPba => if f = 0 then 0x143C00 else 0x3C00
  | .aerHeaderPrefix => 0
  | .serialNumber => (s.readWord 0x40 (pg 0 0x48)).toNat + 2 ^ 32 * (s.readWord 0x40 (pg 0 0x4C)).toNat
  | .ariNext => 0 | .totalVfs => 15 | .firstVfOffset => 1 | .vfStride => 1 | .vfDeviceId => 0x1625 | .vfPageSize => 4096
  | .doeMailboxes => if f = 0 then 1 else 0
  | .doeProtocols => if f = 0 then 3 else 0
  | .ideLinkStreams => if f = 0 then 1 else 0
  | .ideSelectiveStreams => if f = 0 then 4 else 0
  | .ideAddressRanges => if f = 0 then 2 else 0
/-- The standard header of PF0 (R443, R444): IDs, revision and class code, header type 0, and the BARs, 64-bit and non-prefetchable; BAR4/5
reads 0. PRESUMED (log 118): the offsets and the type bits are those of the PCI specification. -/
def State.cfgHeader (s : State) (off : Nat) : Word :=
  let c := (s.fn 0).ctl
  match off with
  | 0x00 => 0x16241F7A
  | 0x08 => 0x108000B0
  | 0x10 => wd (c.bar0.toNat % 2 ^ 32) ||| 4
  | 0x14 => wd (c.bar0.toNat / 2 ^ 32)
  | 0x18 => wd (c.bar2.toNat % 2 ^ 32) ||| 4
  | 0x1C => wd (c.bar2.toNat / 2 ^ 32)
  | _ => 0
/-- The sizes of the BARs (R444): PF0 BAR0 and BAR2, and BAR0 of a VF. -/
def barSize (x : Space) : Nat := match x with | .bar0 => 2 ^ 25 | .bar2 => 2 ^ 26 | .vfBar _ => 2 ^ 14 | .hart => 0
/-- The host address at which a BAR begins (R444): VF v at VF BAR0 base + (v − 1) × 16 KB. -/
def State.barBase (s : State) (x : Space) : Nat :=
  match x with
  | .bar0 => (s.fn 0).ctl.bar0.toNat
  | .bar2 => (s.fn 0).ctl.bar2.toNat
  | .vfBar v => (s.fn 0).ctl.vfBar.toNat + (v.val - 1) * 2 ^ 14
  | .hart => 0
/-- The BAR and the offset in it that a host address names, where some BAR holds it: BAR0, BAR2, then the VFs that exist. -/
def State.barOf (s : State) (a : Nat) : Option (Space × Nat) :=
  (([Space.bar0, .bar2] ++ ((List.finRange 16).filter (fun v => s.vfOn v.val)).map Space.vfBar).find? (fun x =>
    decide (s.barBase x ≤ a) && decide (a < s.barBase x + barSize x))).map (fun x => (x, a - s.barBase x))

end Sys2Proof.Machine
end

