-- ==== Sys2Proof/Machine/Debug.lean ====
section
/-! DEFINITION. What the state and the debug rights let a probe see besides registers (R339, R341, R359): the debug reads of core memory,
of the Cellar and of the battery-backed RAM, instruction trace, the mirroring of flash ports, and the UART. No row of the command
table carries one of these reads; a probe that makes one sees what these definitions give. -/
namespace Sys2Proof.Machine

/-- What the UART carries (R339). -/
inductive UartUse where
  | none | console | bootStatus | haltCode
  deriving DecidableEq, Repr
/-- The UART row of R339; the undecodable take the SCRAP column. -/
def State.uartUse (s : State) : UartUse :=
  match s.lcf.eff with
  | some .raw => .console
  | some .test => .console
  | some .provision => .bootStatus
  | some .owned => if s.right 5 then .console else .none
  | some .ret => .console
  | some .scrap => .haltCode
  | none => .haltCode
/-- A debug read of core memory (R359 MEM_READ): the hart address map, in which the Cellar does not stand. -/
def State.debugMem (s : State) (a n : Nat) : Option Bytes :=
  if s.right 2 then
    (hartRegion a n).map (fun x => (List.range n).map (fun j => s.regionByte x.1 (x.2 + j) j))
  else none
/-- A debug read of a Cellar context (R359 CELLAR). -/
def State.debugCellar (s : State) (i : Nat) : Option Bytes := if s.right 9 then some (s.slot i).ctx.image else none
/-- A debug read of a bank of the battery-backed RAM (R359 BBRAM). -/
def State.debugBbram (s : State) (b : Nat) : Option Bytes := if s.right 10 then some (Bytes.fit (s.bank b) 104) else none
/-- Instruction trace of a hart is allowed (R359 TRACE): harts 1 to 4. -/
def State.traceMay (s : State) (h : Nat) : Bool := s.right 1 && decide (1 ≤ h) && decide (h ≤ 4)
/-- Flash-port traffic may be mirrored to the debug port (R359 PORT_MIRROR). -/
def State.mirrorMay (s : State) : Bool := s.right 4

end Sys2Proof.Machine
end

