-- ==== Sys2Proof/WellFormed.lean ====
section
/-! DEFINITION. Well-formed commands: the sizes and ranges that the spec gives what arrives with a command. A word is 32 bits
and a number of a unit is held by its type; what a type does not hold is checked here. -/
namespace Sys2Proof

/-- A 64-byte descriptor: sixteen words (R460). -/
def Desc.wellFormed (d : Desc) : Bool := d.length == 16
/-- An access of a hart is 1, 2, 4 or 8 bytes long, one of another master up to the 4,096 bytes of a PCIe request; its address lies in 32
bits and a write brings as many bytes (R34). -/
def Access.wellFormed (a : Access) : Bool :=
  (if a.m.toNat < 5 then a.size == 1 || a.size == 2 || a.size == 4 || a.size == 8 else decide (1 ≤ a.size) && decide (a.size ≤ 4096)) &&
  decide (a.addr < 2 ^ 32) && (!a.write || a.data.length == a.size)
/-- A job source: a queue, a hart ring or another path (R455). -/
def JobSrc.wellFormed (j : JobSrc) : Bool := decide (j.ring < 256)
/-- A master command: a 32-bit address, frames of the Pantry (R160, R268). -/
def MCmd.wellFormed (c : MCmd) : Bool := decide (c.addr < 2 ^ 32) && c.ueFrames.all (fun f => decide (f < 1024))
/-- A Caravan frame is at least its header and its tag, 32 bytes each (R535). -/
def CvnFrame.wellFormed (f : CvnFrame) : Bool := decide (64 ≤ f.bytes.length)

/-- A command is well formed. -/
def Instr.wellFormed (i : Instr) : Bool :=
  match i with
  | .registerWrite a => a.wellFormed
  | .postedWriteApply page => decide (page < 8208)
  | .pageLockWrite _ page _ => decide (page < 8208)
  | .pageErrAck _ page _ => decide (page < 8208)
  | .counterLowRead _ addr => decide (addr < 2 ^ 32)
  | .wideRegLowWrite _ addr _ => decide (addr < 2 ^ 32)
  | .wideRegHighWrite _ addr _ => decide (addr < 2 ^ 32)
  | .updStrobe _ _ => true
  | .slowStrobeApply page => decide (page < 8208)
  | .updArm _ => true
  | .updCancel _ => true
  | .updArmFire => true
  | .orderFenceRead _ => true
  | .eventAck _ _ _ => true
  | .evtForce _ page _ => decide (page < 8208)
  | .semRead _ _ => true
  | .semWrite _ _ _ => true
  | .broadcastWrite _ addr _ => decide (addr < 2 ^ 32)
  | .bitAliasWrite _ baddr _ => decide (baddr < 2 ^ 26)
  | .routeWrite _ _ _ => true
  | .swEvt _ _ => true
  | .msixPendingSend _ _ => true
  | .aonValid => true
  | .aonLoss => true
  | .pwrOkRise _ => true
  | .pwrOkLoss => true
  | .deviceReset => true
  | .wipeComplete _ _ _ => true
  | .romFetchDone _ _ => true
  | .pushCtrlWrite _ _ => true
  | .bootStageWrite _ _ => true
  | .stageClaim _ _ => true
  | .stageDataAppend _ _ => true
  | .releaseGo _ => true
  | .releaseCheckDone => true
  | .releaseAbandon _ => true
  | .runtimeReleaseComplete => true
  | .holdReqWrite _ _ => true
  | .holdUnforce _ _ => true
  | .holdNDeassert _ => true
  | .holdNReassert _ => true
  | .seqGo _ => true
  | .seqSkip _ => true
  | .seqStop _ => true
  | .seqSlotComplete => true
  | .seqStall => true
  | .pgoodChange _ _ => true
  | .masterCommand _ mc => mc.wellFormed
  | .readJedecId _ _ _ => true
  | .readSfdp _ _ addr _ => decide (addr < 2 ^ 32)
  | .masterCsDeassert _ => true
  | .dqsTimeout _ => true
  | .leaseWrite _ _ _ => true
  | .leaseGrant _ _ => true
  | .leaseEnd _ _ => true
  | .mrstEdge _ => true
  | .mrstDeferredPulse _ => true
  | .discover _ _ _ => true
  | .discoveryDone _ _ _ => true
  | .sfdpWinRead _ _ => true
  | .phyCal _ _ => true
  | .phyCalDone _ _ => true
  | .portPendingApply _ => true
  | .bankFault _ _ => true
  | .ctWrite _ _ => true
  | .ctRead _ _ => true
  | .ctSwap _ _ => true
  | .ctClear _ _ => true
  | .rtWrite _ _ => true
  | .rtRead _ _ => true
  | .rtSwap _ _ => true
  | .rtSwapAll _ _ => true
  | .rtClear _ _ => true
  | .tableSwapApply _ => true
  | .wqApply _ _ => true
  | .wqDiscard _ _ => true
  | .wqRetire _ _ => true
  | .wqFence _ _ => true
  | .wqEntryStart _ _ => true
  | .wqEntryDone _ _ _ _ => true
  | .wqEntryTimeout _ _ => true
  | .fullcheck _ _ => true
  | .verResume _ _ => true
  | .scrubRestart _ _ => true
  | .substSetCmd _ _ _ => true
  | .substClearCmd _ _ _ => true
  | .bindWrite _ _ => true
  | .bindRead _ _ => true
  | .bindLoad _ _ => true
  | .bindConfirm _ _ => true
  | .bindUnbind _ _ => true
  | .treeNodeRead _ _ node => node.length == 1024
  | .demandNodeRead _ _ nodes => nodes.all (fun b => b.length == 1024)
  | .treeNodeUe _ _ _ _ => true
  | .stitchTimeout _ => true
  | .fetchCheckDone _ => true
  | .pwWrite _ _ => true
  | .pwRead _ _ => true
  | .pwLoad _ _ => true
  | .pwUnload _ _ => true
  | .windowBlockRead _ _ data => (data.all (fun b => b.length == 4096))
  | .windowStateApply _ _ => true
  | .scrubBlockRead _ data => (data.all (fun b => b.length == 4096))
  | .fullcheckBlockRead _ data => (data.all (fun b => b.length == 4096))
  | .covReset _ _ => true
  | .digestJob src d => src.wellFormed && d.wellFormed
  | .digestDiscard src d => src.wellFormed && d.wellFormed
  | .digestJobStart _ => true
  | .lanePreempt _ => true
  | .digestJobDone _ _ => true
  | .contextSramUe _ => true
  | .zcPulse _ => true
  | .zcBPulse _ => true
  | .halfCycleMissing => true
  | .lineLostTimeout => true
  | .dcFeedEntry => true
  | .pfWarnAssert => true
  | .pfWarnDeassert => true
  | .holdupModeExit => true
  | .eraWrap => true
  | .holdupEstimate _ => true
  | .posSeedWrite _ _ _ => true
  | .seedApply => true
  | .commitSubmit _ _ => true
  | .commitWithdraw _ _ => true
  | .commitAdmit => true
  | .commitEnd _ => true
  | .commitFlashTimeout => true
  | .commitTimeout _ => true
  | .timerArm _ _ => true
  | .timerCancel _ _ => true
  | .lineTimerFire _ => true
  | .lcReq _ _ => true
  | .lcCellarWipeDone => true
  | .dbgGrant _ _ => true
  | .nonceRefresh _ => true
  | .memtestEnter _ _ => true
  | .kduDerive _ => true
  | .kduDiscard _ => true
  | .kduRootGen _ => true
  | .kduRootClass _ v => v.getLsbD 3
  | .bbramErase _ => true
  | .kduCloseSecret _ => true
  | .kduLockCdi _ => true
  | .keyGenerate src d _ => src.wellFormed && d.wellFormed
  | .keyLoad src d _ => src.wellFormed && d.wellFormed
  | .keyWrap src d _ => src.wellFormed && d.wellFormed
  | .keyUnload src d _ => src.wellFormed && d.wellFormed
  | .keyQuery src d _ => src.wellFormed && d.wellFormed
  | .keyDerive src d _ => src.wellFormed && d.wellFormed
  | .keyReserve src d _ => src.wellFormed && d.wellFormed
  | .keyImport src d _ => src.wellFormed && d.wellFormed
  | .aesSeal src d _ => src.wellFormed && d.wellFormed
  | .aesOpen src d _ => src.wellFormed && d.wellFormed
  | .pkSign src d _ => src.wellFormed && d.wellFormed
  | .pkVerify src d _ => src.wellFormed && d.wellFormed
  | .keyExchange src d _ => src.wellFormed && d.wellFormed
  | .keyEncaps src d _ => src.wellFormed && d.wellFormed
  | .proof src d _ => src.wellFormed && d.wellFormed
  | .blobEpochAdvance src d _ => src.wellFormed && d.wellFormed
  | .cellarOpDone _ => true
  | .cellarSramUe _ => true
  | .measExtend src d _ => src.wellFormed && d.wellFormed
  | .measRead src d _ => src.wellFormed && d.wellFormed
  | .measScan src d _ => src.wellFormed && d.wellFormed
  | .measDefine src d _ => src.wellFormed && d.wellFormed
  | .extendApply => true
  | .scanStart => true
  | .scanComplete _ => true
  | .spdmGetVersion _ _ => true
  | .spdmGetCapabilities _ _ => true
  | .spdmNegotiateAlgorithms _ _ => true
  | .spdmGetDigests _ _ => true
  | .spdmGetCertificate _ _ => true
  | .spdmChallenge _ _ => true
  | .spdmGetMeasurements _ _ => true
  | .spdmKeyExchange _ _ => true
  | .spdmFinish _ _ => true
  | .spdmKeyUpdate _ _ => true
  | .spdmEndSession _ _ => true
  | .spdmHeartbeat _ _ => true
  | .spdmChunkSend _ _ => true
  | .spdmChunkGet _ _ => true
  | .spdmPqSig _ _ => true
  | .spdmPqChain _ _ => true
  | .spdmUnsupported _ _ => true
  | .linkUp _ _ => true
  | .linkDown => true
  | .linkRetrain _ => true
  | .vfFlr _ => true
  | .vfDisable _ => true
  | .pf0Flr => true
  | .flrComplete _ => true
  | .funcPowerChange _ _ _ _ => true
  | .ideKeyInstall _ => true
  | .ideIntegrityFail _ => true
  | .doeWrite _ => true
  | .doeGo => true
  | .doeAbort => true
  | .doeSend _ => true
  | .doeFail _ => true
  | .queueEnable _ _ => true
  | .queueDisable _ _ => true
  | .queueDrained q => decide (q < 69)
  | .sqDoorbell _ _ _ => true
  | .cqHeadWrite _ _ _ => true
  | .descriptorFetch q d => decide (q < 69) && (d.all Desc.wellFormed)
  | .descriptorStart q _ => decide (q < 69)
  | .nop src d => src.wellFormed && d.wellFormed
  | .mctpRequest _ d _ => d.wellFormed
  | .hostNegotiate src d => src.wellFormed && d.wellFormed
  | .getEpoch src d => src.wellFormed && d.wellFormed
  | .issuerList src d => src.wellFormed && d.wellFormed
  | .envelope src d _ => src.wellFormed && d.wellFormed
  | .envelopeEpochTimeout _ => true
  | .issuerBootstrap src d _ => src.wellFormed && d.wellFormed
  | .cmdLcTransition => true
  | .cmdDebugGrant => true
  | .cmdKeyImport => true
  | .cmdPolicySet => true
  | .cmdImageActivate _ => true
  | .cmdRevoke _ => true
  | .cmdBlobEpochAdvance => true
  | .cmdEpochAdvance => true
  | .cmdIssuerRegister => true
  | .cmdIssuerRemove => true
  | .hartReset _ _ => true
  | .hartWake _ _ => true
  | .hartWfi _ _ _ _ => true
  | .hartGate _ => true
  | .hartAccessFault _ addr _ => decide (addr < 2 ^ 32)
  | .lockstepMismatch => true
  | .ringEnable _ _ => true
  | .ringDisable _ _ => true
  | .ringDoorbell _ _ => true
  | .ringCqHead _ _ => true
  | .dbgHalt _ _ => true
  | .dbgResume _ _ => true
  | .jdcTxWrite _ _ => true
  | .jdcRxWrite _ _ => true
  | .jdcTxRead _ => true
  | .jdcRxRead _ => true
  | .btEntryWrite _ _ _ => true
  | .chSend _ _ => true
  | .chTake _ _ => true
  | .chTimeout _ => true
  | .i3cAgentReset => true
  | .jtagDisconnect => true
  | .cvnCfgWrite _ _ => true
  | .cvnBlockLock _ => true
  | .cvnHelloRx _ f => f.wellFormed
  | .cvnConfirmRx _ f => f.wellFormed
  | .cvnHandshakeTimeout _ => true
  | .cvnPortRestart _ _ => true
  | .cvnPortDown _ => true
  | .cvnTrain _ => true
  | .cvnTrainRx _ f => f.wellFormed
  | .cvnSweepRx _ f => f.wellFormed
  | .sweepLostTimeout => true
  | .sweepMissedCheck => true
  | .cvnNoticeRx _ f => f.wellFormed
  | .cvnRecoverRx _ f => f.wellFormed
  | .cvnForward _ _ => true
  | .cvnDrop _ => true
  | .cvnSendNotice _ => true
  | .cvnSendRecover _ => true
  | .cvnTimeSend => true
  | .cvnTimeRx _ f => f.wellFormed
  | .cvnTimeCal _ => true
  | .cvnCreditRx _ f => f.wellFormed
  | .cvnCreditSend _ => true
  | .excDataRead _ => true
  | .tkMacVerify src d _ => src.wellFormed && d.wellFormed
  | .tkMacGenerate src d _ => src.wellFormed && d.wellFormed
  | .tkPinTranslate src d _ => src.wellFormed && d.wellFormed
  | .tkIkDerive src d _ => src.wellFormed && d.wellFormed
  | .tkState src d _ => src.wellFormed && d.wellFormed
  | .tksJobStart _ => true
  | .tksJobDone _ => true
  | .tksPipeFault _ => true
  | .sensorTrip _ => true
  | .thermContainLift => true
  | .vbatLow => true
  | .vbatMissing => true
  | .batteryDomainStart => true
  | .loopArmWrite _ _ => true
  | .pwrReqStandby _ => true
  | .pwrReqRetain _ => true
  | .pwrReqActive _ => true
  | .standbyEntryDone => true
  | .activeReturnDone => true
  | .retainEntryDone => true
  | .wakeNEdge => true
  | .gpPinEdge _ _ => true
  | .perstAssert => true
  | .perstDeassert => true
  | .wakeTimeout => true
  | .watchdogExpire _ => true
  | .recoverHold _ => true
  | .recoverSubstitute _ => true
  | .recoverRestore _ _ => true
  | .recoverReport => true
  | .drbgReseed => true
  | .checkpointWrite _ _ => true
  | .exportStartDma _ => true
  | .exportStartWin _ => true
  | .exportAbort _ => true
  | .exportDataRead _ => true
  | .exportDone _ => true
  | .replayEnter _ => true
  | .replayDiverge => true
  | .replayEnd => true
  | .halfCycleBoundary => true
  | .bankVoltageReturn _ _ => true
  | .vbatReturn => true
  | .mainRoadStartAfterCoreEn => true
  | .jtagConnect => true
  | .sramCorrectedError _ => true
  | .pllUnlock => true
  | .refclkLoss => true
  | .fabricTimeout => true
  | .aerErr _ => true

end Sys2Proof
end

