-- ==== Sys2Proof/Tests/Slice0.lean ====
section
/-! SUPPORT. Own tests: well-formedness refuses one ill-formed term for each check; for each obligation with hypotheses a witness that
meets them, clause by clause, on small states that differ from `State.reset` in a few fields; and a few single commands whose
results the spec states. -/
namespace Sys2Proof.Tests
open Sys2Proof.Machine

set_option maxRecDepth 100000

/-! ### Small states -/

/-- After the wipe: the ROM runs. -/
def sRom : State := { State.reset with boot := { State.reset.boot with wipePending := false } }
/-- A released runtime in life-cycle state OWNED. -/
def sRt : State := { sRom with
  boot := { sRom.boot with rtReleased := true }, prst := { State.reset.prst with firstHold := true },
  lcf := { State.reset.lcf with eff := some .owned } }
/-- A job source: queue 0, function PF0, slot 0. -/
def src0 : JobSrc := { issuer := 0x10, ring := 0, slot := 0, tag := 5, cqFail := false }
/-- A descriptor of sixteen words with the operation code `opc`. -/
def descOp (opc : Nat) : Desc := BitVec.ofNat 32 opc :: List.replicate 15 0
/-- No input of an operation. -/
def ioNone : JobIo := { data := [], list := [], fault := false, aux := [], auxFault := false, writeFault := false }
/-- The state with one field of a page register changed. -/
def reg1 (a : Nat) (v : Word) (s : State) : State := { s with regs := SMap.set resetAt s.regs a v }

/-! ### Well-formed commands -/

theorem test_wf_refuses_access_size : (Instr.registerWrite { m := 0, space := .bar0, addr := 0x1040, size := 3, contiguous := true, write := false, data := [] }).wellFormed = false := by decide
theorem test_wf_refuses_access_addr : (Instr.registerWrite { m := 0, space := .bar0, addr := 2 ^ 32, size := 4, contiguous := true, write := false, data := [] }).wellFormed = false := by decide
theorem test_wf_refuses_access_data : (Instr.registerWrite { m := 0, space := .bar0, addr := 0x1040, size := 4, contiguous := true, write := true, data := [1, 2] }).wellFormed = false := by decide
theorem test_wf_accepts_access : (Instr.registerWrite { m := 0, space := .bar0, addr := 0x1040, size := 4, contiguous := true, write := true, data := [1, 2, 3, 4] }).wellFormed = true := by decide
theorem test_wf_refuses_page : (Instr.pageErrAck 0 8208 0).wellFormed = false := by decide
theorem test_wf_refuses_address : (Instr.counterLowRead 0 (2 ^ 32)).wellFormed = false := by decide
theorem test_wf_refuses_alias_address : (Instr.bitAliasWrite 0 (2 ^ 26) 0).wellFormed = false := by decide
theorem test_wf_refuses_master_address : (Instr.masterCommand 0 { cs := 0, opc := 3, opc2 := 0, addr := 2 ^ 32, addrDone := true, data := [], n := 1, flash := [0], mhz := 20, ueFrames := [] }).wellFormed = false := by decide
theorem test_wf_refuses_master_frames : (Instr.masterCommand 0 { cs := 0, opc := 3, opc2 := 0, addr := 0, addrDone := true, data := [], n := 1, flash := [0], mhz := 20, ueFrames := [1024] }).wellFormed = false := by decide
theorem test_wf_refuses_root_class_without_its_bit : (Instr.kduRootClass 0 1).wellFormed = false := by decide
theorem test_wf_refuses_sfdp_address : (Instr.readSfdp 0 0 (2 ^ 32) ⟨1, 20⟩).wellFormed = false := by decide
theorem test_wf_refuses_node : (Instr.treeNodeRead 0 0 [0]).wellFormed = false := by decide
theorem test_wf_refuses_nodes : (Instr.demandNodeRead 0 0 [[0]]).wellFormed = false := by decide
theorem test_wf_refuses_block : (Instr.scrubBlockRead 0 (some [0])).wellFormed = false := by decide
theorem test_wf_refuses_job_ring : (Instr.digestDiscard { src0 with ring := 256 } (descOp 0)).wellFormed = false := by decide
theorem test_wf_refuses_descriptor : (Instr.nop src0 [0]).wellFormed = false := by decide
theorem test_wf_accepts_job : (Instr.nop src0 (descOp 0)).wellFormed = true := by decide
theorem test_wf_refuses_queue : (Instr.queueDrained 69).wellFormed = false := by decide
theorem test_wf_refuses_fetched_descriptor : (Instr.descriptorFetch 0 (some [0])).wellFormed = false := by decide
theorem test_wf_refuses_hart_address : (Instr.hartAccessFault 0 (2 ^ 32) { kind := .ue, acc := .load }).wellFormed = false := by decide
theorem test_wf_refuses_short_frame : (Instr.cvnConfirmRx 0 { bytes := List.replicate 63 0, lat := 0 }).wellFormed = false := by decide
theorem test_wf_accepts_frame : (Instr.cvnConfirmRx 0 { bytes := List.replicate 64 0, lat := 0 }).wellFormed = true := by decide

/-! ### Registers, pages and events -/

theorem witness_SemaphoreReadTakesAndOwnerWriteFrees :
    sRom.arrives 0 2 = true ∧ sRom.admits 0 (pg 2 (0x40 + 4 * 63)) = true ∧ sRom.sem 63 ≠ some 0 ∧ sRom.sem 0 = none ∧
    (sRom.setSem 63 (some 0)).admits 0 (pg 2 (0x40 + 4 * 63)) = true ∧ (sRom.setSem 63 (some 0)).sem 63 = some 0 := by decide

/-- OWNED becomes another life-cycle state. -/
def inLc (x : LcState) (s : State) : State := { s with lcf := { s.lcf with eff := some x } }

theorem witness_PageHeadersLockAcknowledgeAndForce :
    sRom.headAdmits 0 1 = true ∧ sRt.headAdmits 0 0x40 = true ∧ sRt.lcf.eff ≠ some .test ∧ sRt.lcf.eff ≠ some .ret ∧
    (reg1 (pg 1 0x18) 3 sRom).headAdmits 0 1 = true ∧ ((reg1 (pg 1 0x18) 3 sRom).reg (pg 1 0x18)).toNat % 256 = 3 ∧
    (2 : Word).toNat % 256 ≠ ((reg1 (pg 1 0x18) 3 sRom).reg (pg 1 0x18)).toNat % 256 ∧
    (inLc .test sRt).headAdmits 0 3 = true ∧ (inLc .ret sRt).headAdmits 0 3 = true ∧
    (∃ i, pageAt 3 = some i ∧ 15 < i.nsrc ∧ i.src0 + i.nsrc ≤ 352) ∧
    pageAt 0x50 = none ∧ sRt.arrives 0 0x50 = true ∧ bcastMembers 0x50 = some ((List.range 16).map (0x40 + ·), none) ∧
    (∀ p ∈ (List.range 16).map (0x40 + ·), sRt.headAdmits 0 p = true) ∧
    pageAt 0xE0 = none ∧ sRt.arrives 0 0xE0 = true ∧ bcastMembers 0xE0 = none := by decide

/-- Source 351 has counted three events. -/
def sEvt : State := { sRt with events := [(351, { count := 3, ack := 0, ovf := false })] }

/-- PF0 sends MSI-X messages. -/
def sMsix : State := { sRt with msixPba := [(63, true)], hq := { sRt.hq with up := true, fns := [(0, { FnState.reset with bme := true, ctl := { FnState.reset.ctl with msix := true } })] } }
/-- JTAG is attached in TEST. -/
def sJtag : State := inLc .test { sRt with harts := { sRt.harts with attached := true } }

theorem witness_EventsAreAcknowledgedRoutedAndSent :
    (sEvt.admits 0 (ackAddr 351) = true ∧
      (BitVec.ofNat 16 (3 : Word).toNat - (sEvt.evt 351).ack).toNat ≤ ((sEvt.evt 351).count - (sEvt.evt 351).ack).toNat ∧
      ((sEvt.evt 351).count - (sEvt.evt 351).ack).toNat < (BitVec.ofNat 16 (4 : Word).toNat - (sEvt.evt 351).ack).toNat ∧
      sRt.admits 0 (ackAddr 0) = true ∧ sRt.admits 0 (pg 3 0xC0) = true) ∧
    (sRt.admits 0 (routeAddr 351) = true ∧ routeStored 351 0x1402 = some 0x1400 ∧ routeGuarded 351 = true ∧
      routeStored 351 0x1500 = none ∧ sRt.admits 0x20 (routeAddr 16) = true ∧ routeGuarded 16 = true ∧ routeGuarded 0 = false ∧
      sRt.admits 0x20 (routeAddr 0) = true ∧ routeStored 0 0x200A ≠ none) ∧
    (sJtag.admits jtag (routeAddr 351) = true ∧ sJtag.jtagAllows true = true) ∧
    (sMsix.coreUp = true ∧ sMsix.pba 0 63 = true ∧ (reg1 (msixAddr 0 63 + 12) 0 sMsix).msixReady 0 63 = true) := by decide

/-- An aligned 32-bit access at BAR0. -/
def acc (write : Bool) (addr : Nat) : Access :=
  { m := 0, space := .bar0, addr := addr, size := 4, contiguous := true, write := write, data := [3, 0, 0, 0] }

theorem witness_RegisterAccessesFollowTheirAccessCode :
    (sRt.arrives 0 16 = true ∧ sRt.arrives 0 0 = true ∧ sRt.arrives 0 0x4F = true) ∧ (acc true (pg 16 0x40)).addr % 4 = 0 ∧ (acc true (pg 16 0x40)).addr < 0x2000000 ∧
    (∃ i, pageAt 16 = some i ∧ (i.row 0x40).isSome = true ∧ i.slow = true ∧ sRt.postedAt 16 = none) ∧
    (∃ i, pageAt 0 = some i ∧ (i.row 0x40).isSome = true ∧ i.slow = false ∧ sRt.haltBars (pg 0 0x40) = false ∧ (sRt.writeGate 0 (pg 0 0x40)).isSome = true) ∧
    (∃ i, pageAt 0x4F = some i ∧ (i.row 0x40).any (fun r => r.code == .rb) = true ∧ i.slow = false ∧ sRt.haltBars (pg 0x4F 0x40) = false ∧
      sRt.writeGate 0 (pg 0x4F 0x40) = none) ∧
    { sRt with hq := { sRt.hq with up := true, flrPending := 1 } }.flrReads 0x10 16 = true := by decide

theorem witness_WideRegistersLatchHoldAndApplyTogether :
    (sRt.arrives 0 0x40 = true ∧ sRt.arrives 0 1 = true ∧ sRt.arrives 0 24 = true) ∧
    (∃ i, pageAt 0x40 = some i ∧ 72 < i.span ∧ (i.row 72).any (fun r => r.half == .ctrLo) = true) ∧
    (∃ i, pageAt 1 = some i ∧ (i.row 0x50).any (fun r => r.half == .wideLo && r.code == .rw) = true ∧ i.slow = false ∧
      sRt.admits 0 (pg 1 0x50) = true ∧ sRt.pairBars i 0x50 = false) ∧
    (∃ i, pageAt 1 = some i ∧ (i.row 0x54).any (fun r => r.half == .wideHi && r.code == .rw) = true ∧ i.slow = false ∧
      sRt.admits 0 (pg 1 0x54) = true ∧ sRt.pairBars i (0x54 - 4) = false) ∧
    (∃ i, pageAt 24 = some i ∧ (i.row 72).isSome = true ∧ i.slow = true ∧ sRt.postedAt 24 = none) := by decide

/-- A write waits at a page. -/
def sPosted (viaAlias : Bool) : State :=
  { sRt with posted := [(16, some { m := 0, off := 0x40, v := 1, viaAlias := viaAlias, bcast := false })] }

theorem witness_PostedWritesAndSlowEdges :
    (sPosted false).coreUp = true ∧ (∃ p, (sPosted false).postedAt 16 = some p ∧ p.viaAlias = false) ∧
    (sPosted true).coreUp = true ∧ (∃ p, (sPosted true).postedAt 16 = some p ∧ p.viaAlias = true) ∧ sRt.postedAt 16 = none ∧
    ({ sRt with pwr := { sRt.pwr with power := .retain } }).coreUp = false := by decide

theorem witness_BroadcastsReachTheirMembersAndAliasesOneBit :
    (sRt.arrives 0 0x50 = true ∧ ∀ n, n < 16 → sRt.admits 0 (pg (0x40 + n) 0x40) = true) ∧
    sRt.bufAt (pg 0x4F 0x40) = none ∧ sRt.dueAt (pg 0x4F 0x40) = none ∧
    { sRt with buf := [(pg 0x4F 0x40, some 1)] }.bufAt (pg 0x4F 0x40) = some 1 ∧
    { sRt with slowDue := [(pg 0x83 0x40, some (false, 1))] }.dueAt (pg 0x83 0x40) = some (false, 1) := by decide

/-- A buffered lane value, and an armed strobe at the line position itself. -/
def sArmed : State := { sRt with buf := [(pg 0x40 0x40, some 1)], arm := { st := .armed, mask := 1, hc := 0, lu := 0 } }

theorem witness_StrobesApplyGroupsAndArmedStrobesFire :
    sArmed.admits 0 (pg 1 0x40) = true ∧ SMap.wf (fun _ => none) sArmed.buf = true ∧ sArmed.bufAt (pg (0x40 + 0) 0x40) = some 1 ∧
    Word.bit 4 (sArmed.ugroup (0x40 + 0)) = true ∧ Word.bit 1 (sArmed.ugroup (0x40 + 15)) = false ∧
    sRt.admits 0 (pg 1 0x58) = true ∧ sRt.arm.st ≠ .armed ∧ sArmed.admits 0 (pg 1 0x58) = true ∧ sArmed.arm.st = .armed ∧
    sArmed.coreUp = true ∧ sArmed.ahead sArmed.arm.hc sArmed.arm.lu = false := by decide

/-- A released runtime with power rails as given. -/
def rails (aon ok en : Bool) : State := { sRt with pwr := { sRt.pwr with aonValid := aon, pwrOk := ok, coreEn := en } }

theorem witness_RailsComeAndGo :
    (rails false false false).pwr.aonValid = false ∧ (rails false false false).pfwOn = false ∧
    (reg1 (aCis0 0x40) 8 { rails false false false with cis := { sRt.cis with pfw := true } }).pfwOn = true ∧ sRt.pwr.aonValid = true ∧ sRt.cis.inflight = none ∧ sRt.pwr.pwrOk = true ∧
    sRt.coreUp = true ∧ (rails true true false).pwr.pwrOk = true ∧
    ({ sRt with pwr := { sRt.pwr with power := .retain } }).pwr.pwrOk = true ∧
    ({ sRt with pwr := { sRt.pwr with power := .retain } }).coreUp = false := by decide

/-- CORE_EN is up, 3 ms have passed and no rail is valid yet. -/
def sWaitRail (ok : Bool) : State := { sRt with clk := 3000, pwr := { sRt.pwr with pwrOk := ok, power := .retain } }

theorem witness_TheMainRoadStartsAtStepOne :
    (sRt.coreUp = true ∧ sRt.cis.inflight = none ∧ sRt.tamp.responded = false) ∧
    ((sWaitRail false).pwr.pwrOk = false ∧ (sWaitRail false).pwr.aonValid = true ∧ (sWaitRail false).pwr.coreEn = true ∧ (sWaitRail false).coreUp = false) ∧
    ((sWaitRail true).pwr.pwrOk = true ∧ (sWaitRail true).pwr.aonValid = true ∧ (sWaitRail true).pwr.coreEn = true ∧
      (sWaitRail true).coreUp = false ∧ (sWaitRail true).pwr.coreEnAt + 3000 ≤ (sWaitRail true).clk) := by decide

/-- A version 3 manifest of class 0 with SEQUENCE 1, valid in its header and commit word. -/
def manOne : Bytes := [0x56, 0x45, 0x42, 0x4C, 3, 0, 0, 0] ++ leBytes 4 8192 ++ zeros 4 ++ leBytes 4 1 ++ zeros 8164 ++ leBytes 4 1 ++ leBytes 4 0xA5C30F5A
/-- What the ROM reads: how FP0 answers, the manifest of slot A and the pages of one anti-rollback sector. -/
def scanOf (flash : FlashAnswer) (a : Bytes) (arb : List Bytes) : RomScan :=
  { flash := flash, slotA := a, slotB := [], arbA := arb, arbB := [], epochA := [], epochB := [] }
/-- A page with an anti-rollback record. -/
def arbOne : Bytes := arbRec 1 3 0 (zeros 128) []

theorem witness_TheWipeEndsInTheRom :
    State.reset.boot.wipePending = true ∧ State.reset.coreUp = true ∧ State.reset.tamp.latch = false ∧ State.reset.lcf.eff = some .raw ∧
    (inLc .scrap State.reset).boot.wipePending = true ∧ (inLc .scrap State.reset).coreUp = true ∧ (inLc .scrap State.reset).tamp.latch = false ∧
    ({ State.reset with tamp := { State.reset.tamp with latch := true } }).boot.wipePending = true ∧
    ({ State.reset with tamp := { State.reset.tamp with latch := true } }).coreUp = true ∧
    ((inLc .owned State.reset).boot.wipePending = true ∧ (inLc .owned State.reset).coreUp = true ∧ (inLc .owned State.reset).tamp.latch = false) ∧
    (scanOf .none [] []).flash = .none ∧ (scanOf .retry [] []).flash ≠ .fused ∧ (scanOf .retry [] []).flash ≠ .none ∧
    ({ State.reset with flr := { State.reset.flr with replay := .pending } }).flr.replay = .pending ∧ (inLc .owned State.reset).flr.replay = .off ∧
    arbPick ((scanOf .fused [] []).arbA ++ (scanOf .fused [] []).arbB) = [] := by decide
theorem witness_TheWipeEndsInTheRom_record : arbPick ((scanOf .fused [] [arbOne]).arbA ++ (scanOf .fused [] [arbOne]).arbB) ≠ [] := by decide
theorem witness_TheWipeEndsInTheRom_candidate :
    romOrder ((inLc .owned State.reset).candidate 1 []) ((inLc .owned State.reset).candidate 2 []) = [] ∧
    romOrder ((inLc .owned State.reset).candidate 1 manOne) ((inLc .owned State.reset).candidate 2 []) = [{ slot := 1, man := manOne }] := by decide

/-- The staging window is owned by a master with a manifest of 12 bytes and `n` zeros, whose length field says 4,096. -/
def sStage (m : Master) (rel : RelState) (n : Nat) : State :=
  { sRt with boot := { sRt.boot with owner := m, rel := rel, man := zeros 8 ++ [0, 0x10, 0, 0] ++ zeros n } }

theorem witness_StagingWindowCommandsServeTheirOwner :
    sRt.admits 0 (aBoot1 0x40) = true ∧ sRt.claimOk 0 = true ∧ (sStage 1 .owned 0).admits 0 (aBoot1 0x40) = true ∧
    (sStage 1 .owned 0).claimOk 0 = false ∧
    (sStage 0 .owned 4).admits 0 (aBoot1 0x80) = true ∧ (sStage 0 .owned 4).boot.owner = 0 ∧ (sStage 0 .owned 4).boot.rel = .owned ∧
    (sStage 0 .owned 4).boot.man.length < manLen (sStage 0 .owned 4).boot.man ∧
    manLen (sStage 0 .owned 4084).boot.man ≤ (sStage 0 .owned 4084).boot.man.length ∧
    (sStage 0 .owned 4084).boot.body.length < 2 ^ 21 ∧ (sStage 1 .owned 0).boot.owner ≠ 0 ∧
    (0 : Master) ≠ 0x40 ∧ (sStage 0 .owned 4).admits 0 (aBoot1 0x54) = true := by decide

/-- The checker runs on a window that master `m` filled; both locks are set. -/
def sCheck (m : Master) (rel : RelState) : State :=
  { sRom with boot := { sRom.boot with owner := m, rel := rel }, cel := { sRom.cel with closeSecret := true, lockCdi := true } }

/-- The clauses on a release that passes rest on signatures, which the model leaves open; the others are met. -/
theorem witness_ReleasesPassTheirChecksOrAreRefused :
    (sCheck 0x20 .checking).awake = true ∧ (sCheck 0x20 .checking).boot.rel = .checking ∧ (sCheck 0x20 .checking).boot.owner ≠ 0x40 ∧
    (sCheck 0x20 .checking).relCheckFail = some (1, stLengthShort) ∧
    (sCheck 0x20 .awaitLock).boot.rel = .awaitLock ∧ (sCheck 0x20 .awaitLock).cel.closeSecret = true ∧
    (sCheck 0x20 .awaitLock).cel.lockCdi = true ∧ (sCheck 0x20 .awaitLock).awake = true ∧ State.reset.awake = false ∧
    (sCheck 0x20 .checking).flr.replay = .off ∧
    (sStage 0x20 .awaitLock 0).boot.rel = .awaitLock ∧ (sStage 0x20 .awaitLock 0).cel.closeSecret = false := by decide
/-- The derivation unit's digest is that of the manifest in the window. -/
theorem witness_ReleasesPassTheirChecksOrAreRefused_cdi :
    ({ sCheck 0x20 .awaitLock with cel := { sRom.cel with cdiDigest := sha384 (manSigned []) } }).cdiMatches = true := by
  simp only [State.cdiMatches, Bool.or_eq_true, beq_iff_eq]
  exact .inr rfl

/-- The ROM tries a candidate. -/
def sTry : State := { sRom with boot := { sRom.boot with trying := some { slot := 1, man := [] } } }

theorem witness_RomStagesAndPushModeFollowTheirWrites :
    (sTry.boot.trying = some { slot := 1, man := [] } ∧ sTry.boot.rtReleased = false ∧ sTry.awake = true ∧ sTry.boot.cands = [] ∧
      sTry.boot.rel ≠ .checking ∧ sTry.boot.rel ≠ .awaitLock ∧ Candidate.bodyOk { slot := 1, man := [] } [] = true ∧ ([] : Bytes).length ≤ 2 ^ 21) ∧
    (sRt.admits 0 (aBoot1 0x60) = true ∧ (1 : Word).getLsbD 0 = true ∧ sRt.pushOn = false ∧ sRom.admits 0 (aBoot1 0x60) = true) ∧
    (sRom.admits 0 aStage = true ∧ sRom.boot.rtReleased = false ∧ sRt.admits 0 aStage = true ∧ sRt.boot.rtReleased = true) := by decide

/-- Line 23 is not asserted and `rel` says whether it is released; port 15 is mapped to it where `map` says so. -/
def sLine (released : Bool) : State :=
  { sRt with prst := { sRt.prst with holdReq := 0, ready := 0xFFFFFF, released := if released then 0xFFFFFF else 0 } }
/-- Port 15 is mapped to line 23, which HOLD_REQ asserts. -/
def sMapped : State :=
  reg1 (pg 0x2C 0x60) 0x97000000 { sRt with prst := { sRt.prst with holdReq := 0x800000, released := 0x800000 } }

theorem witness_HoldLinesFollowRequestsForcesAndGates :
    (sRt.admits 0 (aPrst0 0x44) = true ∧ (0x800000 : Word).getLsbD 23 = true) ∧
    ((sLine false).asserts 23 = false ∧ (sLine false).prst.released.getLsbD 23 = false ∧ (sLine false).flr.replay = .off ∧
      (sLine false).prst.firstHold = true) ∧
    (sRt.asserts 23 = true) ∧
    (sMapped.lineOf 15 = some 23 ∧ sMapped.prst.released.getLsbD 23 = true ∧ sMapped.asserts 23 = true) ∧
    (sRt.admits 0 (aPrst0 0x4C) = true ∧ sRt.tamp.responded = false ∧ sRt.harts.unforceLocked = false ∧
      ({ sRt with harts := { sRt.harts with unforceLocked := true } }).admits 0 (aPrst0 0x4C) = true) ∧ State.reset.prst.firstHold = false ∧
    sRt.prst.pgood.getLsbD 7 ≠ true ∧ sRt.coreUp = true ∧ { sRt with pwr := { sRt.pwr with power := .retain } }.coreUp = false := by decide

/-- The sequencer stands at slot `k`, whose register and the next one hold `v`. -/
def sSeq (st : SeqState) (k : Nat) (v : Word) : State :=
  reg1 (aPrst0 (0x80 + 4 * (k + 1))) v (reg1 (aPrst0 (0x80 + 4 * k)) v
    { sLine true with clk := 1000000, prst := { (sLine true).prst with seq := st, slot := k } })

/-- After a tamper response. -/
def responded (s : State) : State := { s with tamp := { s.tamp with responded := true } }

theorem witness_TheReleaseSequencerRunsItsSlots :
    ((responded (sSeq .running 0 0x80000017)).admits 0 (aPrst0 0x68) = true ∧ (responded (sSeq .running 0 0x80000017)).tamp.responded = true ∧
      (sSeq .idle 0 0x80000017).tamp.responded = false ∧ (sSeq .idle 0 0).prst.seq ≠ .running ∧ (sSeq .idle 0 0).prst.seq = .idle ∧
      (sSeq .running 0 0).prst.seq = .running ∧ (sSeq .running 0 0).admits 0 (aPrst0 0x68) = true) ∧
    ((sSeq .running 23 0x17).slotEnds = true ∧ (sSeq .running 22 0x80000017).slotEnds = false ∧ (sSeq .running 23 0x80000017).slotEnds = false ∧
      (sSeq .running 23 0x80000017).slotMet = true ∧ (sSeq .running 23 0x80000017).prst.slot = 23 ∧ (sSeq .running 23 0x80000017).refDue = false ∧ (sSeq .running 23 0x80000017).tamp.responded = false ∧
      { sSeq .running 22 0x80000017 with prst := { (sLine false).prst with refLine := some 23 } }.refDue = true) ∧
    ((reg1 (aPrst0 0xDC) 0x800F0117 { sSeq .running 23 0 with clk := 0, prst := { (sSeq .running 23 0).prst with released := 0 } }).slotEnds = false ∧
      (reg1 (aPrst0 0xDC) 0x800F0117 { sSeq .running 23 0 with clk := 0, prst := { (sSeq .running 23 0).prst with released := 0 } }).slotMet = false) ∧
    ((sSeq .stalled 0 0).admits 0 (aPrst0 0x68) = true ∧ (sSeq .stalled 0 0).prst.seq = .stalled) ∧
    ((sSeq .idle 0 0x80000017).admits 0 (aPrst0 0x68) = true ∧ (sSeq .idle 0 0x80000017).prst.seq = .idle ∧
      Word.bit ((sSeq .idle 0 0x80000017).seqSlot 0) 31 = true ∧ Word.field ((sSeq .idle 0 0x80000017).seqSlot 0) 4 0 < 24) ∧
    ((sSeq .running 22 0x80000017).admits 0 (aPrst0 0x68) = true ∧ 22 + 1 < 24 ∧
      Word.bit ((sSeq .running 22 0x80000017).seqSlot 23) 31 = true ∧ Word.field ((sSeq .running 22 0x80000017).seqSlot 23) 4 0 < 24) ∧
    ((sSeq .running 22 0x80000017).slotMet = true ∧ (sSeq .running 22 0x80000017).prst.slot < 23) ∧
    (sSeq .running 23 0x17).prst.waitAt + 1000 * Word.field ((sSeq .running 23 0x17).reg (aPrst0 0x70)) 15 0 < (sSeq .running 23 0x17).clk ∧
    sRt.prst.seq ≠ .running := by decide

/-! ### Flash ports -/

/-- Port `p` is enabled on a powered bank, with its master's reset followed, and is otherwise as `f` makes it. -/
def sPort (p : Nat) (f : PortState → PortState) : State :=
  (reg1 (fp p 0 0x40) 9 (sLine true)).modPort p (fun q => f { q with bank := 1 })
/-- A program command of the master. -/
def mcProg : MCmd := { cs := 0, opc := 2, opc2 := 0xFD, addr := 0x1000, addrDone := true, data := [1], n := 0, flash := [], mhz := 20, ueFrames := [] }

theorem witness_IdentificationIsServedFromTheShadow :
    ((sPort 15 id).hears 15 1 = true ∧ (sPort 15 id).csMap 15 1 = some 1 ∧ ((sPort 15 id).port 15).granted 1 = false ∧
      (reg1 (fp 15 0 0x90) 0 (sPort 15 id)).hears 15 0 = true ∧ (reg1 (fp 15 0 0x90) 0 (sPort 15 id)).bitOf (fp 15 0 0x90) 0 = false ∧
      (reg1 (fp 15 0 0x90) 0 (sPort 15 id)).csMap 15 0 = some 0) ∧
    ((sPort 15 (fun q => { q with grant1 := true })).hears 15 1 = true ∧ (sPort 15 (fun q => { q with grant1 := true })).csMap 15 1 = some 1 ∧
      ((sPort 15 (fun q => { q with grant1 := true })).port 15).granted 1 = true) ∧
    sRt.hears 15 1 = false ∧ sRt.arrives 0 (0x80 + 4 * 15) = true := by decide

/-- The command table holds a read, a program, an erase and a captured status write; block 0 forwards writes, block 1 mediates, block 2
refuses, block 3 serves windows, block 65535 forwards reads alone; no other block is governed. -/
def sProg : State := sPort 15 (fun q => { q with
  ctA := [(0, [0x80190003, 0x003C0040]), (1, [0x80151002, 0x003C0800]), (2, [0x80112020, 0x003C0C00]), (63, [0x80343001, 0x003C0000])],
  rtA := [(0, [0x80000000, 0, 8, 0, 0]), (1, [0x80000001, 1, 2, 0, 0]), (2, [0x80000002, 2, 3, 0, 0]), (3, [0x80000003, 3, 1, 0, 0]),
    (255, [0x8000FFFF, 0xFFFF, 0, 0, 0])] })
/-- A read command of the master. -/
def mcRead (a n : Nat) : MCmd := { mcProg with opc := 3, addr := a, data := [], n := n, flash := List.replicate n 7 }
/-- A command of the master with an address and data. -/
def mcWr (opc : Byte) (a : Nat) : MCmd := { mcProg with opc := opc, addr := a }
/-- `sProg` under a lease of chip select 0. -/
def sLeased : State := sProg.modPort 15 (fun q => { q with grant0 := true })
/-- A command is in progress. -/
def sBusy (c : ActiveCmd) (mode : Nat) : State := sPort 15 (fun q => { q with active := some c, mode0 := { code := mode, addr4 := false } })
/-- The command-table entries of `sProg`. -/
def entOf (i : Nat) : List Word := ctGet (sProg.port 15).ctA i
/-- Mode 0 with four-byte addresses. -/
def sProg4 : State := sProg.modPort 15 (fun q => { q with mode0 := { code := 0, addr4 := true } })
/-- An octal mode. -/
def sOct : State := sProg.modPort 15 (fun q => { q with mode0 := { code := 7, addr4 := true } })
/-- The master address that `sProg4` takes from an address, and the region that governs it. -/
def govAt (a : Nat) : Nat × Option Nat :=
  (sProg4.wrapAddr 15 0 (((sProg4.port 15).mode 0).addr (entOf 0) a), (sProg4.port 15).govern 0 (sProg4.wrapAddr 15 0 (((sProg4.port 15).mode 0).addr (entOf 0) a) / 4096))

theorem witness_MasterCommandsReachTheFlashAsTheirRegionsAllow :
    sRt.hears 15 0 = false ∧ (sProg.hears 15 0 = true ∧ sProg.csMap 15 0 = some 0 ∧ (sProg.port 15).granted 0 = false ∧
      ((sProg.port 15).mode 0).code ≤ 5 ∧ (sProg.port 15).ctMatch 0xFF ((sProg.port 15).mode 0).code = none ∧ ((sProg.port 15).mode 0).code ≠ 7) ∧
    (sOct.hears 15 0 = true ∧ sOct.csMap 15 0 = some 0 ∧ (sOct.port 15).granted 0 = false ∧ 5 < ((sOct.port 15).mode 0).code ∧
      (0 : Byte) ≠ ~~~(0x9F : Byte)) ∧
    (sProg.port 15).ctMatch 3 0 = some 0 ∧ (sProg.port 15).ctMatch 2 0 = some 1 ∧ (sProg.port 15).ctMatch 0x20 0 = some 2 ∧
    (sProg.port 15).ctMatch 1 0 = some 63 ∧
    (sProg.classFits 15 0 0 3 = true ∧ sProg.classFits 15 0 1 2 = true ∧ sProg.classFits 15 0 2 0x20 = true ∧ sProg.classFits 15 0 3 1 = true) := by decide
/-- The reads: at the last address of the last block, and in the window region where no window holds the block. -/
theorem witness_MasterCommandsReachTheFlashAsTheirRegionsAllow_reads :
    ctClass (entOf 0) = 0 ∧ ctAction (entOf 0) = 1 ∧ autoDummy 20 ≤ sProg4.addDummy 15 (sProg4.portMhz 15) ∧
    sProg4.hears 15 0 = true ∧ sProg4.csMap 15 0 = some 0 ∧ (sProg4.port 15).granted 0 = false ∧ ((sProg4.port 15).mode 0).code ≤ 5 ∧
    (sProg4.port 15).ctMatch 3 0 = some 0 ∧ ctGet (sProg4.port 15).ctA 0 = entOf 0 ∧ sProg4.classFits 15 0 (ctClass (entOf 0)) 3 = true ∧
    (govAt 0xFFFFFFE = (0xFFFFFFE, some 255) ∧ rgMode ((sProg4.port 15).rg 255) ≤ 2 ∧
      (sProg4.port 15).mapAddr 255 0 0 0xFFFFFFE = (0, 0xFFFFFFE) ∧
      ∀ k, k < 2 → govAt (0xFFFFFFE + k) = (0xFFFFFFE + k, some 255) ∧ (rgMode ((sProg4.port 15).rg 255) = 1 → (sProg4.port 15).winOf 0 ((0xFFFFFFE + k) / 4096) = none)) ∧
    (govAt 0x3000 = (0x3000, some 3) ∧ rgMode ((sProg4.port 15).rg 3) ≤ 2 ∧ (sProg4.port 15).mapAddr 3 0 0 0x3000 = (0, 0x3000) ∧
      ∀ k, k < 2 → govAt (0x3000 + k) = (0x3000 + k, some 3) ∧ (sProg4.port 15).winOf 0 ((0x3000 + k) / 4096) = none) := by decide
/-- The writes: forwarded, mediated with and without an address, denied in each of the ways, and under a lease. -/
theorem witness_MasterCommandsReachTheFlashAsTheirRegionsAllow_writes :
    (ctClass (entOf 1) = 1 ∧ ctAction (entOf 1) = 1 ∧ ctAddr (entOf 1) ≠ 0 ∧ ctClass (entOf 2) = 2 ∧ ctAction (entOf 2) = 1 ∧ ctAddr (entOf 2) ≠ 0 ∧
      ctClass (entOf 63) = 3 ∧ ctAction (entOf 63) = 3 ∧ ctAddr (entOf 63) = 0) ∧
    (govAt 0xFFF = (0xFFF, some 0) ∧ rgMode ((sProg4.port 15).rg 0) = 0 ∧ rgWr ((sProg4.port 15).rg 0) = true ∧
      sProg4.eraseSpan 15 { mcProg with opc := 0x20, addr := 0xFFF } (entOf 2) (some 0) 0xFFF = false) ∧
    (govAt 0x1000 = (0x1000, some 1) ∧ rgMode ((sProg4.port 15).rg 1) = 2 ∧
      sProg4.eraseSpan 15 { mcProg with opc := 0x20, addr := 0x1000 } (entOf 2) (some 1) 0x1000 = false) ∧
    (govAt 0x2000 = (0x2000, some 2) ∧ rgMode ((sProg4.port 15).rg 2) = 3) ∧ (govAt 0x3000 = (0x3000, some 3) ∧ rgMode ((sProg4.port 15).rg 3) = 1) ∧
    (govAt 0xFFFF000 = (0xFFFF000, some 255) ∧ rgMode ((sProg4.port 15).rg 255) = 0 ∧ rgWr ((sProg4.port 15).rg 255) = false) ∧
    (govAt 0x4000 = (0x4000, none)) ∧
    (sLeased.hears 15 0 = true ∧ sLeased.csMap 15 0 = some 0 ∧ (sLeased.port 15).granted 0 = true ∧ ctAction (entOf 1) ≠ 0 ∧ ctData (entOf 1) ≠ 2 ∧
      (sLeased.port 15).ctMatch 2 ((sLeased.port 15).mode 0).code = some 1) ∧
    ((sLeased.port 15).ctMatch 3 ((sLeased.port 15).mode 0).code = some 0 ∧ sLeased.classFits 15 0 0 3 = true ∧ ((sLeased.port 15).mode 0).code ≤ 5 ∧
      ctClass (entOf 0) = 0 ∧ ctAction (entOf 0) ≠ 0 ∧ { mcRead 0x3000 1 with addrDone := false }.addrDone = false) := by decide

/-- A read of one byte that mode 0x7 holds until its end. -/
def lateOne (k : LateKind) : LateRead := { mc := mcRead 0x3000 1, fcs := 0, kind := k, follow := false, short := false, addr := 0x3000 }
/-- The command of a captured program of one byte. -/
def capOne : ActiveCmd := { ActiveCmd.plain 0 false with capture := some { WqEntry.reset with st := .captured, data := [1] } }
/-- The command of a forwarded write. -/
def issueOne : ActiveCmd :=
  { ActiveCmd.forward 0 (entOf 1) with issue := some { cs := 0, opc := 2, addr := 0, mclk := 0, data := [1] }, view := .write true }

theorem witness_TheEndOfAMasterCommandForwardsCapturesAndSwitches :
    ((sPort 15 id).port 15).active = none ∧
    (((sBusy issueOne 0).port 15).active = some issueOne ∧ issueOne.late = none ∧ issueOne.capture = none ∧ issueOne.wrdi = false ∧
      issueOne.fwd = true ∧ { issueOne with sw := 7 }.sw < 8) ∧
    (((sBusy capOne 0).port 15).active = some capOne ∧ capOne.late = none ∧ capOne.issue = none ∧ capOne.view = .keep ∧ capOne.wrdi = false ∧
      capOne.capture = some { WqEntry.reset with st := .captured, data := [1] } ∧
      ¬(({ WqEntry.reset with st := .captured, data := [1] } : WqEntry).type = 0 ∧ ({ WqEntry.reset with st := .captured, data := [1] } : WqEntry).data = []) ∧
      (reg1 (fp 15 2 0x6C) 1 (sBusy capOne 0)).bitOf (fp 15 2 0x6C) 0 = true ∧ ((reg1 (fp 15 2 0x6C) 1 (sBusy capOne 0)).port 15).freeWqe = some 0 ∧
      ({ WqEntry.reset with st := .captured, data := [1] } : WqEntry).data.length ≤ 512 ∧
      (({ WqEntry.reset with st := .captured, data := [1] } : WqEntry).trunc && ({ WqEntry.reset with st := .captured, data := [1] } : WqEntry).type == 0) = false ∧
      (reg1 (fp 15 2 0x6C) 0 (sBusy capOne 0)).bitOf (fp 15 2 0x6C) 0 = false ∧ (((sBusy capOne 0).port 15).view 0).wrenFwd = false ∧
      (((sBusy capOne 0).modPort 15 (fun q => { q with view0 := { q.view0 with wrenFwd := true } })).port 15).active = some capOne ∧
      (((sBusy capOne 0).modPort 15 (fun q => { q with view0 := { q.view0 with wrenFwd := true } })).port 15).view0.wrenFwd = true ∧
      (reg1 (fp 15 2 0x6C) 0 ((sBusy capOne 0).modPort 15 (fun q => { q with view0 := { q.view0 with wrenFwd := true } }))).bitOf (fp 15 2 0x6C) 0 = false) ∧
    (((sBusy { ActiveCmd.forward 0 (entOf 0) with late := some (lateOne .other) } 7).port 15).active =
        some { ActiveCmd.forward 0 (entOf 0) with late := some (lateOne .other) } ∧ (lateOne .other).kind = .other ∧
      (ActiveCmd.forward 0 (entOf 0)).issue = none ∧ (ActiveCmd.forward 0 (entOf 0)).view = .keep ∧ (ActiveCmd.forward 0 (entOf 0)).capture = none ∧
      (ActiveCmd.forward 0 (entOf 0)).wrdi = false) ∧
    (((sBusy { ActiveCmd.plain 0 false with wrdi := true } 0).port 15).active = some { ActiveCmd.plain 0 false with wrdi := true } ∧
      (ActiveCmd.plain 0 false).late = none ∧ (ActiveCmd.plain 0 false).issue = none ∧ (ActiveCmd.plain 0 false).capture = none) ∧
    (((sBusy { ActiveCmd.forward 0 (entOf 0) with late := some (lateOne .read) } 7).port 15).active =
        some { ActiveCmd.forward 0 (entOf 0) with late := some (lateOne .read) } ∧
      ∀ k, k < 1 → ((sBusy { ActiveCmd.forward 0 (entOf 0) with late := some (lateOne .read) } 7).port 15).modeOf
        (((sBusy { ActiveCmd.forward 0 (entOf 0) with late := some (lateOne .read) } 7).port 15).govern 0
          ((sBusy { ActiveCmd.forward 0 (entOf 0) with late := some (lateOne .read) } 7).wrapAddr 15 0 (0x3000 + k) / 4096)) ≠ 4) := by decide

/-- A device operation of write-queue entry 63 runs on chip select 0. -/
def sDevOp : State := sPort 15 (fun q => { q with mrstOwed := true, wq := [(63, { WqEntry.reset with st := .running })] })

theorem witness_LeasesAndMasterResetsOfAPort :
    sRt.admits 0 (fp 15 0 0x70) = true ∧
    ((reg1 (fp 15 0 0x70) 2 (sPort 15 id)).bitOf (fp 15 0 0x70) 1 = true ∧ ((reg1 (fp 15 0 0x70) 2 (sPort 15 id)).port 15).active = none ∧
      (sPort 15 id).csMap 15 0 ≠ some 1 ∧ (sPort 15 id).csMap 15 1 = some 1 ∧
      ((sPort 15 (fun q => { q with active := some (ActiveCmd.plain 1 false) })).port 15).active = some (ActiveCmd.plain 1 false)) ∧
    ((sPort 15 id).bitOf (fp 15 0 0x70) 1 = false ∧ (sPort 15 id).devOp 15 ≠ some 1) ∧
    ((reg1 (fp 15 0 0x70) 1 sLeased).bitOf (fp 15 0 0x70) 0 = true ∧ ((reg1 (fp 15 0 0x70) 1 sLeased).port 15).granted 0 = true ∧
      ((reg1 (fp 15 0 0x70) 1 sLeased).port 15).active = none ∧ ((reg1 (fp 15 0 0x70) 2 (sPort 15 id)).port 15).granted 1 = false) ∧
    ((sPort 15 id).port 15).mrstOwed = false ∧
    ((sPort 15 id).bitOf (fp 15 0 0x40) 3 = true ∧ (sPort 15 id).portHeld 15 = false ∧ (sPort 15 id).devOp 15 = none) ∧
    (sDevOp.bitOf (fp 15 0 0x40) 3 = true ∧ sDevOp.portHeld 15 = false ∧ (sDevOp.devOp 15).isSome = true) ∧
    (((sPort 15 (fun q => { q with mrstOwed := true })).port 15).mrstOwed = true ∧
      (sPort 15 (fun q => { q with mrstOwed := true })).devOp 15 = none) := by decide

/-- What a device with an SFDP space of one header answers. -/
def discOne : DiscResult := { id := [0xC2, 0x20, 0x1A], sfdp := [0x53, 0x46, 0x44, 0x50, 6, 1, 0, 0xFF] ++ zeros 248 }
/-- A mode of port 15 waits for an idle moment. -/
def sModeDue (v : Word) : State := { sPort 15 id with slowDue := [(fp 15 0 0x48, some (true, v))] }

theorem witness_PortServicesDiscoverCalibrateAndFault :
    (sRt.admits 0 (fp 15 0 0x78) = true ∧ sRt.discOk 15 = true ∧ (sPort 15 id).admits 0 (fp 15 0 0x78) = true ∧ (sPort 15 id).discOk 15 = false) ∧
    (((sPort 15 (fun q => { q with discSt1 := 1 })).port 15).disc 1 = 1 ∧ discCode discOne = 2 ∧
      ((sPort 15 (fun q => { q with discSt1 := 1 })).port 15).modeRuns 1 = true ∧
      ((sPort 15 (fun q => { q with discSt1 := 1, bank := 2, mode1 := { code := 7, addr4 := true } })).port 15).modeRuns 1 = false ∧
      ((sPort 15 (fun q => { q with discSt1 := 1, bank := 2, mode1 := { code := 7, addr4 := true } })).port 15).disc 1 = 1 ∧
      ((sPort 15 id).port 15).disc 1 ≠ 1) ∧
    (sRt.admits 0 (fp 15 0 0xA0) = true ∧ sRt.bitOf (fp 15 0 0x9C) 16 = true) ∧
    (((sPort 15 (fun q => { q with calOwed := true })).port 15).calOwed = true ∧ (sPort 15 (fun q => { q with calOwed := true })).portIdle 15 = true) ∧
    (sDevOp.portIdle 15 = false ∧ (sModeDue 1).portIdle 15 = true ∧ SMap.wf (fun _ => none) (sModeDue 1).slowDue = true ∧
      (sModeDue 1).dueAt (fp 15 0 0x48) = some (true, 1) ∧ (∀ x, x ∈ [0x4C, 0x54, 0xA8, 0x40] → x ≠ 0x48) ∧ modeOk ((sModeDue 1).port 15).bank (Word.field 1 3 0) = true ∧ clkOk (Word.field 1 3 0) (Word.field 1 7 5) = true) ∧
    ((sModeDue 8).portIdle 15 = true ∧ (sModeDue 8).slowDue = [(fp 15 0 0x48, some (true, 8))] ∧ modeOk ((sModeDue 8).port 15).bank (Word.field 8 3 0) = false) ∧ (sPort 15 id).portEn 15 = true := by decide

/-! ### Tables, write queue and verification -/

/-- The windows of port 15 hold an entry that passes its checks. -/
def sTab : State := reg1 (fp 15 1 0x44) 0x8000209F (sPort 15 id)

theorem witness_TableWritesReachTheActiveBankOnlyBySwap :
    (sRt.admits 0 (aCt 15) = true ∧ (sRt.port 15).ctSwap = false ∧ (sRt.port 15).ctCheck (sRt.ctIdx 15) (sRt.ctWords 15) = 0 ∧
      SMap.wf (fun _ => ctZero) (sRt.port 15).ctS = true ∧ (sTab.port 15).ctSwap = false ∧ sTab.admits 0 (aCt 15) = true ∧
      (sTab.port 15).ctCheck (sTab.ctIdx 15) (sTab.ctWords 15) ≠ 0) ∧
    (sRt.bitOf (fp 15 1 0x40) 8 = false ∧ (reg1 (fp 15 1 0x40) 0x100 sRt).bitOf (fp 15 1 0x40) 8 = true ∧ (reg1 (fp 15 1 0x40) 0x100 sRt).admits 0 (aCt 15) = true) ∧
    (sRt.admits 0 (aRt 15) = true ∧ (sRt.port 15).rtSwap = false ∧ sRt.rtCheck 15 (sRt.rtWords 15) = 0 ∧
      (reg1 (fp 15 2 0x44) 0xFFFFFFFF sRt).rtCheck 15 ((reg1 (fp 15 2 0x44) 0xFFFFFFFF sRt).rtWords 15) ≠ 0) ∧
    ((sPort 15 (fun q => { q with ctSwap := true })).port 15).active = none ∧ ((sPort 15 (fun q => { q with ctSwap := true })).port 15).ctSwap = true ∧
    ((sPort 15 (fun q => { q with rtSwap := true })).port 15).rtSwap = true := by decide

/-- Write-queue entry 0 of port 15. -/
def sWq (e : WqEntry) : State := { sPort 15 (fun q => { q with wq := [(0, e)], rtA := [] }) with clk := 5000000 }
/-- Entry 63 is applied and the lease is granted. -/
def sWqReady : State := sPort 15 (fun q => { q with wq := [(63, { WqEntry.reset with st := .applied })], grant0 := true })
/-- Every entry of the write queue of port 15 is taken. -/
def sWqFull : State := sPort 15 (fun q => { q with wq := (List.range 64).map (fun i => (i, { WqEntry.reset with st := .done })) })

theorem witness_WriteQueueEntriesLiveByTheirStates :
    ((sWq { WqEntry.reset with st := .captured }).admits 0 (aWq 15) = true ∧ (sWq WqEntry.reset).wqIdx 15 = 0 ∧
      (((sWq { WqEntry.reset with st := .captured }).port 15).wqe 0).st = .captured ∧
      (((sWq { WqEntry.reset with st := .captured }).port 15).wqe 0).type ≠ 3 ∧ (((sWq { WqEntry.reset with st := .captured }).port 15).wqe 0).commit = false) ∧
    ((((sWq WqEntry.reset).port 15).wqe 0).st ≠ .captured ∧ (((sWq WqEntry.reset).port 15).wqe 0).st ≠ .applied) ∧
    ((((sWq { WqEntry.reset with st := .applied }).port 15).wqe 0).st = .applied) ∧
    ((((sWq { WqEntry.reset with st := .failed }).port 15).wqe 0).ended = true) ∧
    (sWqFull.admits 0 (aWq 15) = true ∧ (sWqFull.port 15).freeWqe = none) ∧ ((sWq WqEntry.reset).port 15).freeWqe = some 0 ∧
    (sWqReady.wqReady 15 63 = true ∧ ((sWqReady.port 15).wqe 63).commit = false) ∧
    ((((sWq { WqEntry.reset with st := .running }).port 15).wqe 0).st = .running ∧ (((sWq { WqEntry.reset with st := .running }).port 15).wqe 0).type ≠ 3 ∧
      (((sWq { WqEntry.reset with st := .running }).port 15).wqe 0).since + 2 ^ (((sWq { WqEntry.reset with st := .running }).port 15).wqe 0).timeoutLog ≤
        (sWq { WqEntry.reset with st := .running }).clk) := by decide

/-- A binding of class 1 over block 0, its lowest level pinned, in a full check. -/
def bOne (st : BindSt) (root : Bytes) : Binding := { Binding.reset with st := st, cfg := 0x20201, len := 1, tree := 4, root := root }
/-- Every digest lane OFFLINE. -/
def lanesOff (s : State) : State := { s with regs := (List.range 16).map (fun n => (pg (0x40 + n) 0x40, (2 : Word))) }
/-- Binding 0 of port 15, nodes in the cache. -/
def sBind (b : Binding) (cache : List CNode) : State := { sPort 15 (fun q => { q with binds := [(0, b)] }) with cache := cache }
/-- The binding registers of port 15 describe the binding `bOne`. -/
def sBindRegs : State := reg1 (fp 15 3 0x54) 0x20201 (reg1 (fp 15 3 0x5C) 1 (reg1 (fp 15 3 0x60) 4 (sPort 15 id)))
/-- A node of binding 0 of port 15. -/
def nOne (pinned : Bool) (bytes : Bytes) : CNode := { port := 15, bind := 0, level := 1, idx := 0, pinned := pinned, bytes := bytes }
/-- A fetched block 0 of class 1 in region 0, whose action is CONTAIN. -/
def cOne (data : Bytes) : Check := { Check.none with region := some 0, cls := 1, action := 1, data := data }

theorem witness_BindingsLoadOnlyNodesThatHashToTheirParents :
    (sBindRegs.admits 0 (aBind 15) = true ∧ (sBindRegs.curBind 15).st = .empty ∧ sBindRegs.bindCheck 15 (sBindRegs.bindRegs 15) = 0) ∧
    ((sBind (bOne .confirmed []) []).admits 0 (aBind 15) = true ∧ ((sBind (bOne .confirmed []) []).curBind 15).st = .confirmed) ∧
    (((sBind (bOne .bound []) []).curBind 15).st = .bound ∧ ((sBind (bOne .bound []) []).port 15).stopped = false ∧
      (sBind (bOne .bound []) []).pinnedNodes + (sBind (bOne .bound []) []).pinsDue + ((sBind (bOne .bound []) []).curBind 15).pinCount + 64 ≤ 4096) ∧
    ((sBind (bOne .loaded []) []).curBind 15).st = .loaded ∧
    ((((sBind (bOne .loading []) []).port 15).bind 0).st = .loading ∧ (((sBind (bOne .loading []) []).port 15).bind 0).reread = [] ∧
      (sBind (bOne .loading []) []).readable 15 (((sBind (bOne .loading []) []).port 15).bind 0).cs = true ∧
      ((sBind (bOne .loading []) []).port 15).dev = none ∧ (((sBind (bOne .loading []) []).port 15).full.run && ((sBind (bOne .loading []) []).port 15).full.binds.isEmpty) = false ∧
      (sBusy (ActiveCmd.plain 0 false) 0).readable 15 (((sBusy (ActiveCmd.plain 0 false) 0).port 15).bind 0).cs = false ∧
      (((sBind (bOne .loading []) []).port 15).bind 0).pinned[(((sBind (bOne .loading []) []).port 15).bind 0).nodes]? = some (1, 0)) ∧
    findNode (sBind (bOne .confirmed []) [nOne true []]).cache 15 0 1 0 = some (nOne true []) ∧ (nOne false []).pinned = false := by decide

/-- A check of block 0 waits for its node, whose hash is the root. -/
def sDemand : State :=
  { sPort 15 (fun q => { q with binds := [(0, bOne .confirmed (sha256 (zeros 1024)))], checks := [cOne []] }) with cache := [] }

theorem witness_BindingsLoadOnlyNodesThatHashToTheirParents_demand :
    (sDemand.port 15).checks = [cOne []] ∧ (sDemand.port 15).findBind 1 0 0 = some (some 0) ∧ sDemand.chkReady 15 (cOne []) = false ∧
    sDemand.readable 15 ((sDemand.port 15).bind 0).cs = true ∧
    sDemand.missing 15 0 (0 - ((sDemand.port 15).bind 0).fblock) = [(1, 0)] := by decide
theorem witness_BindingsLoadOnlyNodesThatHashToTheirParents_node : sDemand.nodeOk 15 0 1 0 (zeros 1024) = true := by
  have h : sDemand.nodeHash 15 0 1 0 = some (treeHash ((sDemand.port 15).bind 0).hash (zeros 1024)) := rfl
  simp [State.nodeOk, h]

/-- A stitch whose command ended 64 us ago. -/
def sStitch : State := { sPort 15 (fun q => { q with stitch := { Stitch.idle with isOpen := true, ended := some 0 } }) with clk := 64 }
/-- A check of block 0 whose leaf is the node's entry. -/
def sLeaf : State := { sDemand with cache := [nOne false (sha256 [] ++ zeros 992)] }

theorem witness_FetchedBlocksAreCheckedAndFailuresContained :
    ((sLeaf.port 15).checks.find? (sLeaf.chkReady 15) = some (cOne []) ∧ (cOne []).src = .fetch ∧ (cOne []).region.isSome = true ∧ (cOne []).action = 1) ∧
    ((sStitch.port 15).stitch.isOpen = true ∧ (sStitch.port 15).stitch.ended = some 0 ∧ 0 + 64 ≤ sStitch.clk) ∧
    (sRt.admits 0 (fp 15 3 0x48) = true ∧ sRt.lineOf 15 = none ∧ sMapped.admits 0 (fp 15 3 0x48) = true ∧ (sMapped.lineOf 15).isSome = true) ∧
    (((reg1 (fp 15 3 0x40) 0x101 sRt).port 15).stopped = false ∧ (reg1 (fp 15 3 0x40) 0x101 sRt).scrubOn 15 = true) ∧
    (Word.bit 0x3F 8 = false ∧ Word.bit 0x3F 9 = false ∧ sRt.admits 0 (fp 15 3 0x4C) = true ∧ sRt.portHeld 15 = true ∧ (sPort 15 id).admits 0 (fp 15 3 0x4C) = true ∧ (sPort 15 id).portHeld 15 = false) ∧
    sRt.admits 0 (fp 15 3 0x114) = true := by decide
theorem witness_FetchedBlocksAreCheckedAndFailuresContained_verdict : sLeaf.verdict 15 (cOne []) = some (0, true) := by
  have h : sLeaf.verdict 15 (cOne []) = some (0, treeHash ((sLeaf.port 15).bind 0).hash [] == treeHash ((sLeaf.port 15).bind 0).hash []) := rfl
  simp [h]

/-- Window 0 of port 15, over a confirmed binding. -/
def sWin (w : Window) : State := sPort 15 (fun q => { q with binds := [(0, bOne .confirmed [])], wins := [(0, w)] })
/-- The window registers describe one block. -/
def sWin0 : State := reg1 (fp 15 3 0x94) 0x10000 (sWin Window.reset)
/-- The node that holds the leaf of an empty block. -/
def nLeaf : CNode := nOne false (sha256 [] ++ zeros 992)
/-- A load of window 0 reads block 0. -/
def sLoad (retry : Bool) (cache : List CNode) : State := { sWin { Window.reset with st := .loading, w0 := 0x10000, retry := retry } with cache := cache }
/-- The check of what a load of window 0 reads. -/
def cLoad : Check := ((sLoad false []).port 15).devCheck .load (((sLoad false []).port 15).regionAt 1 0 0) 1 0 0 0 []

theorem witness_WindowsLoadOnlyBlocksThatEqualTheirLeaves :
    (sWin0.admits 0 (aPw 15) = true ∧ (sWin0.curWin 15).st = .empty ∧
      sWin0.winCheck 15 (sWin0.wIdx 15) { Window.reset with st := .written, w0 := sWin0.reg (fp 15 3 0x94), w1 := sWin0.reg (fp 15 3 0x98) } = 0 ∧
      (sWin Window.reset).winCheck 15 0 { Window.reset with st := .written, w0 := (sWin Window.reset).reg (fp 15 3 0x94), w1 := (sWin Window.reset).reg (fp 15 3 0x98) } ≠ 0) ∧
    (((sWin { Window.reset with st := .written }).curWin 15).st = .written ∧ ((sWin { Window.reset with st := .written }).port 15).stopped = false) ∧
    ((sWin { Window.reset with st := .loaded }).curWin 15).st = .loaded ∧ ((sWin { Window.reset with st := .failed }).curWin 15).st = .failed ∧
    ((((sLoad false []).port 15).win 0).st = .loading ∧ ((sLoad false []).port 15).dev = none ∧ (((sLoad false []).port 15).win 0).pend = none ∧
      (((sLoad false []).port 15).win 0).retry = false ∧ (((sLoad true []).port 15).win 0).retry = true ∧ (sLoad true []).readable 15 0 = true ∧
      ({ sLoad false [] with ports := [(15, { (sLoad false []).port 15 with active := some (ActiveCmd.plain 0 false) })] }).readable 15 0 = false) ∧
    ((sLoad false []).chkReady 15 cLoad = false ∧ (sLoad false [nLeaf]).chkReady 15 cLoad = true) ∧
    (((sWin { Window.reset with pend := some .loaded }).port 15).idle = true ∧ (((sWin { Window.reset with pend := some .loaded }).port 15).win 0).pend = some .loaded) ∧
    ((((sWin { Window.reset with pend := some .empty }).port 15).win 0).pend = some .empty) ∧
    ((sBusy (ActiveCmd.plain 0 false) 0).port 15).idle = false := by decide
/-- The block equals its leaf, whichever tree hash is taken. -/
theorem witness_WindowsLoadOnlyBlocksThatEqualTheirLeaves_verdict : (sLoad false [nLeaf]).verdict 15 cLoad = some (0, true) := by
  have h : (sLoad false [nLeaf]).verdict 15 cLoad =
    some (0, treeHash (((sLoad false [nLeaf]).port 15).bind 0).hash [] == treeHash (((sLoad false [nLeaf]).port 15).bind 0).hash []) := rfl
  simp [h]

/-- A region that the scrubber reads, and a full check of binding 0 of `n` blocks; what failed once is read again where `retry` says so. -/
def sScrub (retry : Bool) (n : Word) (cache : List CNode) : State := { reg1 (fp 15 3 0x40) 0x101 (sPort 15 (fun q => { q with
  binds := [(0, { bOne .confirmed [] with len := n })], rtA := [(0, [0x80000000, 1, 0x160, 0, 0])], scrub := { q.scrub with run := true, retry := retry },
  full := { q.full with run := true, binds := [0], all := [0], retry := retry } })) with cache := cache }
/-- The check of what the scrubber reads. -/
def cScrub : Check := ((sScrub false 2 []).port 15).devCheck .scrub (some 0) 1 0 0 0 []
/-- The check of what a full check reads. -/
def cFull : Check := ((sScrub false 2 []).port 15).devCheck .full (((sScrub false 2 []).port 15).regionAt 1 0 0) 1 0 0 0 []

theorem witness_ScrubsAndFullChecksReadBlocksTwice :
    ((sScrub false 2 []).scrubOn 15 = true ∧ ((sScrub false 2 []).port 15).scrub.run = true ∧ ((sScrub false 2 []).port 15).dev = none ∧
      (sScrub false 2 []).pwr.holdup = false ∧
      ((sScrub false 2 []).port 15).scrubNext ((sScrub false 2 []).port 15).scrub.region ((sScrub false 2 []).port 15).scrub.off = some (0, 0) ∧
      ((sScrub false 2 []).port 15).scrub.retry = false ∧ ((sScrub true 2 []).port 15).scrub.retry = true ∧
      ((sScrub false 2 []).port 15).mapBase 0 (rgCs (((sScrub false 2 []).port 15).rg 0)) (rgCs (((sScrub false 2 []).port 15).rg 0)) = (0, 0) ∧
      ((sScrub false 2 []).port 15).granted 0 = false ∧ (sScrub false 2 []).readable 15 0 = true ∧
      ((sScrub false 2 []).port 15).scrubNext 0 (0 + 1) = some (0, 1)) ∧
    ((sScrub false 2 []).chkReady 15 cScrub = false ∧ (sScrub false 2 [nLeaf]).chkReady 15 cScrub = true) ∧
    (∀ s, s = { sScrub false 2 [] with ports := [(15, { (sScrub false 2 []).port 15 with grant0 := true })] } → (s.port 15).granted 0 = true) ∧
    ((sWin Window.reset).admits 0 (fp 15 3 0x48) = true ∧ ((sWin Window.reset).port 15).full.run = false ∧ ((sWin Window.reset).port 15).stopped = false ∧
      (List.range 8).filter (fun b => (((sWin Window.reset).port 15).bind b).st == .confirmed && (((sWin Window.reset).port 15).bind b).full) ≠ []) ∧
    ((sScrub false 2 []).admits 0 (fp 15 3 0x48) = true ∧ ((sScrub false 2 []).port 15).full.run = true ∧ ((sScrub false 2 []).port 15).full.binds = [0] ∧
      ((sScrub false 2 []).port 15).bind 0 = { bOne .confirmed [] with len := 2 } ∧ ((sScrub false 2 []).port 15).granted (bOne .confirmed []).cs = false ∧
      (sScrub false 2 []).readable 15 (bOne .confirmed []).cs = true ∧ (sScrub false 2 []).permOn = true ∧ (lanesOff (sScrub false 2 [])).permOn = false ∧ ((sScrub false 2 []).port 15).full.retry = false ∧
      ((sScrub true 2 []).port 15).full.retry = true ∧ ((sScrub true 2 []).port 15).full.blk + 1 < ({ bOne .confirmed [] with len := 2 } : Binding).nblk ∧
      (sScrub false 2 [nLeaf]).chkReady 15 cFull = true ∧ ({ bOne .confirmed [] with len := 1 } : Binding).nblk ≤ ((sScrub false 1 []).port 15).full.blk + 1 ∧
      (bOne .confirmed []).st = .confirmed ∧ 0 ∈ ((sScrub false 1 []).port 15).full.all ∧ 0 ∉ ((sScrub false 1 []).port 15).full.failed) := by
  refine ⟨by decide, by decide, fun s h => h ▸ rfl, by decide, by decide⟩
theorem witness_ScrubsAndFullChecksReadBlocksTwice_verdict :
    (sScrub false 2 [nLeaf]).verdict 15 cScrub = some (0, true) ∧ (sScrub false 2 [nLeaf]).verdict 15 cFull = some (0, true) := by
  have h : (sScrub false 2 [nLeaf]).verdict 15 cScrub =
    some (0, treeHash (((sScrub false 2 [nLeaf]).port 15).bind 0).hash [] == treeHash (((sScrub false 2 [nLeaf]).port 15).bind 0).hash []) := rfl
  have h' : (sScrub false 2 [nLeaf]).verdict 15 cFull =
    some (0, treeHash (((sScrub false 2 [nLeaf]).port 15).bind 0).hash [] == treeHash (((sScrub false 2 [nLeaf]).port 15).bind 0).hash []) := rfl
  rw [h, h']; simp

/-! ### Digest contexts and lanes -/

/-- A source that has no ring: the I3C agent. -/
def srcI : JobSrc := { issuer := 0x20, ring := 255, slot := 0, tag := 0, cqFail := false }
/-- A digest descriptor: operation code 0x10, FLAGS and CTX as given, algorithm 1. -/
def dDig (flags ctx : Nat) : Desc := [0x10, 0, 0, 0, BitVec.ofNat 32 (1 + 256 * flags), BitVec.ofNat 32 ctx] ++ List.replicate 10 0
/-- Digest context 34 of the I3C agent. -/
def sCtx (st : DCtxSt) : State := { sRt with dgl := { sRt.dgl with ctxs := [(34, { DCtx.reset with st := st, alg := 1, owner := 0x20 })] } }
/-- The Cellar is tampered. -/
def tampCel (s : State) : State := { s with cel := { s.cel with tampered := true } }

theorem witness_DigestJobsAreCheckedAndQueued :
    (sRt.takesJob srcI (dDig 1 0) 0x10 = true ∧ dStart (dDig 1 0) = true ∧ dDiscard (dDig 1 0) = false ∧ sRt.cel.tampered = false ∧ digShape (dDig 1 0) = stOk ∧
      sRt.ctxAlloc 0x20 = some 34 ∧ sRt.digKey 0x20 (dDig 1 0) = stOk ∧ keyedAlg (dAlg (dDig 1 0)) = false) ∧
    ((tampCel sRt).takesJob srcI (dDig 1 0) 0x10 = true ∧ (tampCel sRt).takesJob srcI (dDig 8 0) 0x10 = true) ∧
    (sRt.takesJob srcI (dDig 9 0) 0x10 = true ∧ dStart (dDig 9 0) = true ∧ digShape (dDig 9 0) ≠ stOk) ∧
    (sRt.takesJob srcI (dDig 0 34) 0x10 = true ∧ dStart (dDig 0 34) = false ∧ digShape (dDig 0 34) = stOk ∧
      sRt.ctxCheck 0x20 (dCtx (dDig 0 34)) (some (dAlg (dDig 0 34))) ≠ stOk) ∧
    ((sCtx .idle).ctxCheck 0x20 (dCtx (dDig 0 34)) (some (dAlg (dDig 0 34))) = stOk ∧ (sCtx .idle).digKey 0x20 (dDig 0 34) = stOk ∧
      ((sCtx .idle).dctx (dCtx (dDig 0 34) % 256)).st ≠ .poisoned) ∧
    ((sCtx .poisoned).ctxCheck 0x20 (dCtx (dDig 0 34)) (some (dAlg (dDig 0 34))) = stOk ∧ ((sCtx .poisoned).dctx (dCtx (dDig 0 34) % 256)).st = .poisoned ∧
      (sCtx .poisoned).ctxRuns (dCtx (dDig 0 34) % 256) = false ∧ ∀ j ∈ (sCtx .poisoned).dgl.ready, j.ctx ≠ dCtx (dDig 0 34) % 256) ∧
    (dDiscard (dDig 8 34) = true ∧ dStart (dDig 8 34) = false ∧ sRt.ctxCheck 0x20 (dCtx (dDig 8 34)) none ≠ stOk ∧
      (sCtx .idle).ctxCheck 0x20 (dCtx (dDig 8 34)) none = stOk ∧ (sCtx .idle).ctxRuns (dCtx (dDig 8 34) % 256) = false) := by decide

/-- A digest job on context 34. -/
def jDig (final : Bool) (prio : Nat) : DJob :=
  { kind := .user, src := srcI, ctx := 34, alg := 1, start := true, final := final, discard := false, dest := 0, destArg := 0, dataLen := 1, dataAddr := 0,
    sgl := none, outAddr := 0, custAddr := 0, custLen := 0, prio := prio, suspended := false, abort := none, ranOn := none, absorbed := 0 }
/-- A piece of the permanent context 33. -/
def jPerm : DJob := { jDig false 4 with kind := .perm, ctx := 33 }
/-- Lane 15 as given, one job ready. -/
def sLane (l : Lane) (ready : List DJob) : State :=
  reg1 (pg 0x4F 0x40) 0 { sCtx .queued with dgl := { (sCtx .queued).dgl with lanes := [(15, l)], ready := ready } }

/-- The context of the lane's job runs. -/
def sRuns (l : Lane) (ready : List DJob) : State :=
  reg1 (pg 0x4F 0x40) 0 { sCtx .running with dgl := { (sCtx .running).dgl with lanes := [(15, l)], ready := ready } }
/-- Lane 15 runs `j`. -/
def lRun (j : DJob) : Lane := { Lane.reset with job := some j }

theorem witness_LanesRunTheReadyJobOfHighestPriority :
    (((sLane Lane.reset []).lane 15).job = none ∧ (sLane Lane.reset []).eligible = []) ∧
    ((sLane Lane.reset [jDig false 1]).mayRun 15 (jDig false 1) = true ∧ ((sLane Lane.reset [jDig false 1]).lane 15).job = none ∧
      jDig false 1 ∈ (sLane Lane.reset [jDig false 1]).eligible ∧ ((sLane Lane.reset [jDig false 1]).dctx 34).st ≠ .poisoned) ∧
    ((reg1 (pg 0x4F 0x40) 1 (sLane Lane.reset [jPerm])).mayRun 15 jPerm = true ∧ jPerm ∈ (reg1 (pg 0x4F 0x40) 1 (sLane Lane.reset [jPerm])).eligible ∧ jPerm.kind = .perm) ∧
    (((sRuns (lRun (jDig false 1)) []).lane 15).job = some (jDig false 1) ∧ ((sRuns (lRun (jDig false 1)) []).lane 15).marked = none ∧
      (sRuns (lRun (jDig false 1)) []).laneKeeps 15 (jDig false 1) = true ∧
      (reg1 (pg 0x4F 0x40) 2 (sRuns (lRun (jDig false 1)) [])).bitOf (pg 0x4F 0x40) 1 = true ∧
      ({ sRuns (lRun (jDig false 1)) [] with pwr := { sRt.pwr with holdup := true } }).laneOn 15 = false ∧
      34 ≤ (jDig false 1).ctx ∧ (jDig false 1).abort = none ∧ (jDig false 1).discard = false ∧ (jDig false 1).kind ≠ .perm ∧
      ((sRuns (lRun (jDig false 1)) []).dctx 34).st = .running ∧ ∀ k, k < 16 → k ≠ 15 → ((sRuns (lRun (jDig false 1)) []).lane k).job = none) ∧
    (((sRuns { lRun (jDig false 1) with marked := some 35 } [jDig false 1]).lane 15).marked.isSome = true ∧
      (sRuns { lRun (jDig false 1) with marked := some 35 } [jDig false 1]).laneKeeps 15 (jDig false 1) = true ∧
      ∀ x ∈ (sRuns { lRun (jDig false 1) with marked := some 35 } [jDig false 1]).dgl.ready,
        ((sRuns { lRun (jDig false 1) with marked := some 35 } [jDig false 1]).dctx x.ctx).st ≠ .poisoned) ∧
    ((sRuns (lRun jPerm) []).laneOn 15 = true ∧ ((sRuns (lRun jPerm) []).lane 15).job = some jPerm) ∧
    ((sRuns (lRun (jDig false 1)) []).laneOn 15 = true ∧ (jDig false 1).kind = .user ∧ (sRuns (lRun (jDig false 1)) []).memOn srcI.issuer = true ∧
      (∀ x ∈ (sRuns (lRun (jDig false 1)) []).dgl.ready, x.ctx ≠ (jDig false 1).ctx) ∧ (jDig false 1).final = false ∧
      ((sRuns (lRun (jDig false 1)) []).dctx 34).st ≠ .poisoned ∧ (sRuns (lRun (jDig false 1)) []).jobCust (jDig false 1) ioNone = some [] ∧
      ((sRuns (lRun (jDig false 1)) []).jobData (jDig false 1) ioNone).short = true ∧
      ((sRuns (lRun (jDig false 1)) []).jobData (jDig false 1) { ioNone with data := [7] }).short = false) ∧
    ((jDig true 1).final = true ∧ ((sRuns (lRun (jDig true 1)) []).dctx 34).st ≠ .free ∧ ((sRuns (lRun (jDig true 1)) []).dctx 34).last = false) ∧
    (((sCtx .idle).dctx 34).st ≠ .free ∧ (sRuns (lRun (jDig false 1)) []).ctxRuns 34 = true) ∧
    (31 < 32 ∧ sRt.boot.rel ≠ .checking ∧ (sCheck 0x20 .checking).boot.rel = .checking) := by decide
/-! ### Cistern -/

/-- The Cistern changed by `f`. -/
def cis (f : CisState → CisState) (s : State) : State := { s with cis := f s.cis }

theorem witness_TheLineCountStepsOncePerWrapAndCrossingsLockThePeriod :
    sRt.pwr.aonValid = true ∧ sRt.cis.ph < phFull ∧
    (phFull ≤ (cis (fun c => { c with ph := phFull, hc := 0xFFFFFFFF }) sRt).cis.ph ∧ (cis (fun c => { c with ph := phFull, hc := 0xFFFFFFFF }) sRt).cis.seed ≠ 1 ∧
      (cis (fun c => { c with ph := phFull, hc := 0xFFFFFFFF }) sRt).cis.hc = 0xFFFFFFFF) ∧
    ((cis (fun c => { c with ph := phFull, seed := 1 }) sRt).cis.seed = 1 ∧ (cis (fun c => { c with ph := phFull, seed := 1 }) sRt).cis.seedUsed = false ∧
      (cis (fun c => { c with ph := phFull, seed := 1 }) sRt).arm.st ≠ .armed ∧
      ∀ k, k < 8 → ((cis (fun c => { c with ph := phFull, seed := 1 }) sRt).timer k).st ≠ .armed) := by decide

/-- A pulse 10 ms after the reference, with the line as given. -/
def sZc (line : LineSt) (good : Nat) : State :=
  { cis (fun c => { c with acquired := true, ref := some 0, line := line, goodRun := good }) sRt with clk := 10050 }

/-- B may stand in, 2,048 LU after a wrap, with the B crossing given. -/
def sB (b : Option (Nat × Nat × Bool)) : State :=
  reg1 (aCis0 0x40) 4 { cis (fun c => { c with acquired := true, ph := 2048 * 2 ^ 20, period := 1000000, bCount := 16, bCross := b }) sRt with clk := 5000 }

theorem witness_TheLineCountStepsOncePerWrapAndCrossingsLockThePeriod_pulses :
    ((sZc .healthy 0).pwr.aonValid = true ∧ (sZc .healthy 0).cis.acquired = true ∧ (sZc .healthy 0).cis.ref = some 0 ∧
      (sZc .healthy 0).clk * 100 - 100 * 50 - 0 = 1000000 ∧ 758000 ≤ 1000000 ∧ 1000000 ≤ 1111000 ∧ 100 * 50 ≤ (sZc .healthy 0).clk * 100) ∧
    (sZc .healthy 0).crossFault 1000000 100 ((sZc .healthy 0).cis.place (100 * 50)).2 = 0 ∧
    (sZc .disturbed 3).crossFault 1000000 100 ((sZc .disturbed 3).cis.place (100 * 50)).2 = 0 ∧
    (reg1 (aCis0 0x58) 0x100 (sZc .healthy 0)).crossFault 1000000 100 ((sZc .healthy 0).cis.place (100 * 50)).2 = 1 ∧
    ((sZc .lost 0).cis.line = .lost ∧ (sZc .lost 0).pfwOn = false) ∧
    ((sZc .healthy 0).clk * 100 - 10000 * 50 - 0 < 758000 ∧ (2 : Nat) ≤ 10000 ∧ 1111000 < { sZc .healthy 0 with clk := 20000 }.clk * 100 - 2 * 50 - 0) ∧
    ((reg1 (aCis0 0x40) 4 sRt).bitOf (aCis0 0x40) 2 = true ∧ sRt.cis.aCross = none ∧ sRt.cis.acquired = false ∧ sRt.aMissing = false) ∧
    ((reg1 (aCis0 0x40) 8 (cis (fun c => { c with pfw := true }) (sZc .lost 0))).pfwOn = true) ∧
    ((sB none).bitOf (aCis0 0x40) 2 = true ∧ (sB none).aMissing = true ∧ ((sB none).zcBSeen 2).bStandIn = some (499900, 2)) := by decide

theorem witness_TheLineIsLostAndHoldUpModeHolds :
    ((cis (fun c => { c with acquired := true, ph := 2048 * 2 ^ 20 }) sRt).cis.acquired = true ∧ sRt.cis.judged = false ∧
      2048 * 2 ^ 20 ≤ (cis (fun c => { c with acquired := true, ph := 2048 * 2 ^ 20 }) sRt).cis.ph ∧ sRt.cis.line = .disturbed ∧ sRt.bStandIn = none ∧
      sRt.missLu * 2 ^ 20 ≤ (cis (fun c => { c with acquired := true, ph := 2048 * 2 ^ 20 }) sRt).cis.ph ∧ sRt.cis.acquired = false ∧
      (sZc .lost 0).cis.line = .lost ∧ (sB (some (500000, 2, true))).bStandIn = some (500000, 2)) ∧
    (sZc .healthy 0).cis.lastAcc + (if (sZc .healthy 0).fldOf (aCis0 0x40) 1 0 = 1 then 1250000 else 1500000) ≤ { sZc .healthy 0 with clk := 15000 }.clk * 100 ∧
    ((reg1 (aCis0 0x5C) 1 (sZc .lost 0)).cis.line = .lost ∧ (reg1 (aCis0 0x5C) 1 (sZc .lost 0)).pfwOn = false ∧
      (reg1 (aCis0 0x5C) 1 (sZc .lost 0)).bitOf (aCis0 0x5C) 0 = true ∧ (reg1 (aCis0 0x5C) 1 (sZc .lost 0)).dcHigh = true ∧
      (reg1 (aCis0 0x5C) 1 (sZc .lost 0)).cis.lastPulse + (reg1 (aCis0 0x5C) 1 (sZc .lost 0)).fldOf (aCis0 0x5C) 15 8 * (reg1 (aCis0 0x5C) 1 (sZc .lost 0)).nominal ≤
        (reg1 (aCis0 0x5C) 1 (sZc .lost 0)).clk * 100) ∧
    (sRt.cis.line ≠ .dcFeed ∧ sRt.cis.pfw = false ∧ (reg1 (aCis0 0x40) 0 sRt).pfwEn = false ∧ (reg1 (aCis0 0x40) 8 sRt).pfwEn = true ∧ sRt.coreUp = true) ∧
    (cis (fun c => { c with pfw := true }) sRt).cis.pfw = true ∧
    ({ sRt with clk := 10000, pwr := { sRt.pwr with holdup := true, pfwReleasedAt := some 0 } }.pwr.holdup = true ∧ sRt.pwr.pwrOk = true ∧ 0 + 10000 ≤ 10000 ∧ sRt.clk < 0 + 10000) := by decide

/-- A page descriptor of class 2 in slot 14: port 15, chip select 0, 4 bytes at address 0. -/
def sDesc : State := { sRt with ram := [(descAt 14, 2), (descAt 14 + 4, 15), (descAt 14 + 6, 4)] }
/-- A waiting page write of slot 14. -/
def aPage : AdmEntry := { AdmEntry.reset with st := .waiting, cls := 2, timeout := 10, what := .page 14 15 0 0 [1, 2, 3, 4] }
/-- Entry 31 of the admission queue as given. -/
def sAdm (e : AdmEntry) (s : State) : State := cis (fun c => { c with queue := [(31, e)] }) s
/-- The line is good, the declarations are made and the hold-up is long: admission is open. -/
def sOpen : State :=
  reg1 (aCis1 0x40) 0x10001 (reg1 (aCis1 0x44) 0x1000001 (reg1 (aCis1 0x48) 1 (reg1 (aCis1 0x4C) 1 (reg1 (aCis1 0x5C) 0xFFFF0000
    (sAdm aPage (cis (fun c => { c with line := .healthy, confirmed := true, estUs := 0xFFFFFF, estValid := true })
      (sPort 15 (fun q => { q with grant0 := true, wip0 := true, ctA := [(0, [0x80006006, 0]), (1, [0x80151002, 0x800])] }))))))))

theorem witness_CommitsWaitAndTheLongestWaiterIsAdmitted :
    (sDesc.admits 0 (aCis1 0x68) = true ∧ Word.field 0x10E 3 0 < 15 ∧ Word.bit 0x10E 8 = true ∧ Word.bit 0x10E 9 = false ∧
      sDesc.submitCheck 14 (sDesc.bytes (descAt 14) 320) = stOk ∧ sRt.submitCheck 14 (sRt.bytes (descAt 14) 320) ≠ stOk ∧ sRt.admits 0 (aCis1 0x68) = true) ∧
    (Word.bit 0x20E 8 = false ∧ Word.bit 0x20E 9 = true ∧ (sRt.adm (17 + 14)).st ≠ .waiting ∧ ((sAdm aPage sRt).adm (17 + 14)).st = .waiting ∧
      (sAdm aPage sRt).admits 0 (aCis1 0x68) = true) ∧
    sRt.admOpen = false ∧ (sOpen.admOpen = true ∧ sOpen.admissible 31 = true) ∧
    ((sAdm AdmEntry.reset sOpen).admOpen = true ∧ ∀ i, i < 32 → (sAdm AdmEntry.reset sOpen).admissible i = false) ∧
    (((sOpen.port 15).wrenOp 0).isSome = true ∧ ((sOpen.port 15).progOp 0).isSome = true) := by decide

/-- A commit of entry 31 is in flight. -/
def sFlight (what : CommitWhat) : State :=
  { cis (fun c => { c with inflight := some 31 }) (sAdm { aPage with st := .running, what := what } sRt) with clk := 5000 }

theorem witness_CommitsEndOnceWithTheirResult :
    (sRt.cmd.running = none ∧ sRt.cmd.blobJob = none ∧ sRt.pwr.resetOwed = false) ∧
    ((sFlight (.bank 14 1 [])).cis.inflight = some 31 ∧ ((sFlight (.bank 14 1 [])).adm 31).what = .bank 14 1 [] ∧ 1 < 2 ∧
      (sFlight (.bank 14 1 [])).cmd.epochSlot ≠ some 14) ∧
    (((sFlight (.page 14 15 0 0 [])).adm 31).what = .page 14 15 0 0 [] ∧ (sFlight (.page 14 15 0 0 [])).cis.ifSince + 5000 ≤ (sFlight (.page 14 15 0 0 [])).clk ∧
      { sFlight (.page 14 15 0 0 []) with clk := 4999 }.clk < (sFlight (.page 14 15 0 0 [])).cis.ifSince + 5000) ∧
    sRt.cis.inflight = none ∧ sRt.admLate 31 = false ∧
    ((cis (fun c => { c with hcRun := 10 }) (sAdm aPage sRt)).admLate 31 = true ∧
      ((cis (fun c => { c with hcRun := 10 }) (sAdm aPage sRt)).adm 31).what = .page 14 15 0 0 [1, 2, 3, 4]) := by decide

/-- Timer 7 as given. -/
def sTmr (t : Timer) : State := cis (fun c => { c with timers := [(7, t)] }) sRt

theorem witness_TimersArmOnlyAheadOfThePosition :
    (sRt.admits 0 (aCis0 0x64) = true ∧ sRt.arm.st ≠ .armed ∧ (∀ k, k < 8 → (sRt.timer k).st ≠ .armed) ∧ sRt.cis.seedUsed = false ∧
      posAhead (2 : Word).toNat 0 (sRt.cis.hc + 1) 0 = true ∧ posAhead (1 : Word).toNat 0 (sRt.cis.hc + 1) 0 = false) ∧
    (sRt.admits 0 (aCis1 0x100) = true ∧ Word.bit 0x80 (8 + 7) = false ∧ Word.bit 0x80 7 = true ∧ Word.bit 0x8000 (8 + 7) = true ∧ Word.bit 0 7 = false ∧
      ((sTmr { Timer.reset with st := .armed }).timer 7).st = .armed ∧ (sTmr { Timer.reset with st := .armed }).admits 0 (aCis1 0x100) = true) ∧
    ((sTmr { Timer.reset with st := .armed }).pwr.aonValid = true ∧ (sTmr { Timer.reset with st := .armed }).reached 0 0 = true ∧
      ((sTmr { Timer.reset with st := .armed }).timer 7).dest ≠ 1 ∧ (sTmr { Timer.reset with st := .armed, hc := 1 }).reached 1 0 = false) := by decide

/-! ### Life cycle and derivation unit -/

/-- A UNIT_ID is blown. -/
def sUnit (x : LcState) : State := inLc x { sRt with lcf := { sRt.lcf with fuses := [(6, 1)] } }
/-- A transition stands before the wipe of the Cellar. -/
def sTransit : State := { sRt with lcf := { sRt.lcf with transit := some (.ret, .cellarWipe) } }

theorem witness_LifeCycleRequestsAreCheckedAndCommitted :
    ((sUnit .raw).admits 0 (aLcf1 0x40) = true ∧ Word.bit 1 8 = false ∧ Word.bit 0x101 8 = true ∧ (sUnit .raw).lcCheck (Word.field 0x101 2 0) = stOk ∧
      lcOfCode (Word.field 0x101 2 0) = some .test ∧ (sUnit .raw).lcCopy 0 ≠ LcState.fuseCode .test ∧
      sRt.admits 0 (aLcf1 0x40) = true ∧ sRt.lcCheck (Word.field 0x101 2 0) ≠ stOk) ∧
    ((1 : Master) ≠ 0 ∧ sRt.arrives 1 0x11 = true ∧ sRt.postedAt 0x11 = none ∧ sRt.shut = false) ∧
    (sTransit.lcf.transit = some (.ret, .cellarWipe) ∧ bankValid sTransit.cel.bank0 = false ∧ bankValid sTransit.cel.bank1 = false ∧ sRt.lcf.transit = none ∧
      sTransit.tamp.responded = false ∧ sTransit.pwr.resetOwed = false ∧ sTransit.cis.inflight.isSome = false ∧ sTransit.coreUp = true ∧
      (cis (fun c => { c with inflight := some 31 }) sTransit).cis.inflight.isSome = true ∧ (responded sTransit).tamp.responded = true) ∧
    (bankValid (bankImage [] 1 (List.replicate 16 0)) = true) ∧
    (sRt.admits 0 (aLcf1 0x44) = true ∧ (inLc .raw sRt).admits 0 (aLcf1 0x44) = true ∧ sRt.lcf.eff ≠ some .raw ∧ sRt.lcf.eff ≠ some .test ∧
      bitsIn (Word.field 0x7F 15 0) sRt.ceiling = true ∧ Word.field 0x7F 15 0 &&& 0x0F00 = 0 ∧ bitsIn (Word.field 0x80 15 0) sRt.ceiling = false) ∧
    sRt.admits 0 (aLcf0 0x70) = true ∧
    (sRt.admits 0 (aLcf1 0x48) = true ∧ sRt.memtestOk = false ∧ (inLc .test sRt).admits 0 (aLcf1 0x48) = true ∧ (inLc .test sRt).memtestOk = true ∧
      (inLc .test sRt).lcf.memtest ||| BitVec.ofNat 3 (0 : Word).toNat = (inLc .test sRt).lcf.memtest ∧
      (inLc .test sRt).lcf.memtest ||| BitVec.ofNat 3 (4 : Word).toNat ≠ (inLc .test sRt).lcf.memtest) := by decide

/-- The derivation unit with its locks and its job as given. -/
def sKdu (close lock : Bool) (j : Option KduJob) : State := inLc .provision { sRt with cel := { sRt.cel with closeSecret := close, lockCdi := lock, kduJob := j } }

theorem witness_TheDerivationUnitWorksUntilItsLocks :
    ((sKdu true false none).admits 0 (pg 0x21 0x40) = true ∧ (sKdu true false none).cel.kduJob = none ∧ (sKdu true false none).cel.closeSecret = true) ∧
    ((sKdu false false none).admits 0 (pg 0x21 0x40) = true ∧ (sKdu false false none).cel.closeSecret = false ∧ (sKdu false false none).cel.lockCdi = false ∧
      (sKdu false false none).lcf.eff = some .provision ∧ allZero ((sKdu false false none).fuseBytes 96 32) = true ∧ (sKdu false false none).fuseCheck 96 32 = stOk ∧
      (sKdu false false none).classRecord.all (fun r => (sKdu false false none).classSecret r == none) = true ∧ allZero ((sKdu false false none).fuseBytes 128 32) = true ∧ (sKdu false false none).fuseCheck 128 32 = stOk) ∧
    sRt.lcf.eff ≠ some .provision ∧
    ((sKdu false false (some (.rootGen 1))).admits 0 (pg 0x21 0x40) = true ∧ (sKdu false false (some (.rootGen 1))).cel.kduJob = some (.rootGen 1)) ∧
    (sRt.admits 0 (pg 0x21 0x44) = true ∧ (sKdu true false none).admits 0 (pg 0x21 0x44) = true ∧ (sKdu false true none).cel.lockCdi = true) := by decide

/-! ### Cellar and measurements -/

/-- A Cellar descriptor: code, handle, input length, parameter, output length, type and uses. -/
def dCel (opc h inLen param outLen type uses : Nat) : Desc :=
  [BitVec.ofNat 32 opc, 0, 0, 0, BitVec.ofNat 32 h, 0, 0, 0, BitVec.ofNat 32 inLen, BitVec.ofNat 32 param, 0, 0, BitVec.ofNat 32 outLen,
   BitVec.ofNat 32 type, BitVec.ofNat 32 uses, 0]
/-- An input of `n` zero bytes. -/
def ioOf (n : Nat) : JobIo := { ioNone with data := zeros n }
/-- A context of a type with every operation allowed to the I3C agent. -/
def ctxOne (type uses : Nat) : KeyCtx := { KeyCtx.zero with type := type, ops := 0x7FF, owner := 0x20, mlen := 32, uses := uses, material := zeros 32 }
/-- Slot 0 holds such a context under handle 0x10000, and BBRAM bank 0 is active. -/
def sKey (type : Nat) : State := reg1 (pg 0x22 0x80) 2 { sRt with cel := { sRt.cel with
  slots := [(0, { st := .loaded, gen := 1, ctx := ctxOne type 1 })], active := some 0, bank0 := zeros 104, cdiSeal := some [] } }
/-- A blob for the I3C agent in header fields. -/
def blobOne : Bytes := [0x43, 0x4B, 1, 1] ++ zeros 12 ++ [0, 0, 0, 0, 0x20] ++ zeros 155

theorem witness_KeyOperationsFillAFreeSlot :
    isHart srcI.issuer = false ∧
    (sRt.takesJob srcI (dCel 0x20 0 0 0 0 1 1) 0x20 = true ∧ (sRt.celPre (dCel 0x20 0 0 0 0 1 1) ioNone).1 = stOk ∧ sRt.allocAt 0x20 = none ∧ (reg1 (pg 0x22 0x80) 1 sRt).takesJob srcI (dCel 0x20 0 0 0 0 1 1) 0x20 = true ∧
      ((reg1 (pg 0x22 0x80) 1 sRt).celPre (dCel 0x20 0 0 0 0 1 1) ioNone).1 = stOk ∧ (reg1 (pg 0x22 0x80) 1 sRt).allocAt 0x20 = some 0 ∧
      (sRt.celPre (dCel 0x20 0 0 0 0 1 0) ioNone).1 ≠ stOk ∧ sRt.takesJob srcI (dCel 0x20 0 0 0 0 1 0) 0x20 = true) ∧
    (sRt.takesJob srcI (dCel 0x26 0 0 0 0 1 1) 0x26 = true ∧ (sRt.celPre (dCel 0x26 0 0 0 0 1 1) ioNone).1 = stOk) ∧
    ((sKey 1).takesJob srcI (dCel 0x21 0 176 0 0 0 0) 0x21 = true ∧ ((sKey 1).celPre (dCel 0x21 0 176 0 0 0 0) { ioNone with data := blobOne }).1 = stOk ∧
      cInLen (dCel 0x21 0 176 0 0 0 0) = 176 ∧ (sKey 1).loadCheck 0x20 blobOne = stOk) ∧
    ((sKey 3).takesJob srcI (dCel 0x25 0x10000 4 0 0 1 1) 0x25 = true ∧ ((sKey 3).celPre (dCel 0x25 0x10000 4 0 0 1 1) (ioOf 4)).1 = stOk ∧
      (sKey 3).keyFor 0x20 0x10000 (some 5) = (stOk, ctxOne 3 1) ∧ (sKey 3).secretRight = false ∧ (sKey 3).allocAt 0x20 = some 1) ∧
    (69 ≤ srcI.ring ∧ (sKey 1).takesJob srcI (dCel 0x27 0x10000 176 0 0 0 0) 0x27 = true ∧
      ((sKey 1).celPre (dCel 0x27 0x10000 176 0 0 0 0) { ioNone with data := blobOne }).1 = stOk ∧ blobFieldsOk blobOne = true ∧ (sKey 1).lcf.transit = none ∧
      (sKey 1).ownerSecret ≠ none ∧ (sKey 1).keyFor 0x20 0x10000 (some 1) = (stOk, ctxOne 1 1)) ∧
    ((sKey 0xE).takesJob srcI (dCel 0x2C 0x10000 96 0 0 1 1) 0x2C = true ∧ ((sKey 0xE).celPre (dCel 0x2C 0x10000 96 0 0 1 1) (ioOf 96)).1 = stOk ∧
      (sKey 0xE).keyFor 0x20 0x10000 (some 8) = (stOk, ctxOne 0xE 1)) ∧
    (sRt.takesJob srcI (dCel 0x2D 0 1568 0 1568 1 1) 0x2D = true ∧ (sRt.celPre (dCel 0x2D 0 1568 0 1568 1 1) (ioOf 1568)).1 = stOk ∧
      1568 ≤ cOutLen (dCel 0x2D 0 1568 0 1568 1 1) ∧ (ioOf 1568).writeFault = false) := by decide

/-- A TKS job waits on the key of slot 0. -/
def tkWaits (s : State) : State := { s with tks := { s.tks with waiting := [{ src := srcI, opc := 0x44, desc := [], io := ioNone, handle := 0x10000, faulted := false, hit := true, status := stOk, detail := 0, abort := none, out := [], after := none }] } }
/-- A Cellar operation that waits for its end and destroys the key of slot 0. -/
def opOne : CelOp := { celOp srcI 0x2A 0 0 [] none with key := 0x10000, destroy := some 0x10000 }

theorem witness_KeyOperationsUseTheirKeyOnce :
    isHart srcI.issuer = false ∧
    (tkWaits (sKey 1)).tkBusy 0x10000 = true ∧
    ((sKey 1).tkBusy 0x10000 = false ∧ (sKey 1).takesJob srcI (dCel 0x22 0x10000 0 0 176 0 0) 0x22 = true ∧
      ((sKey 1).celPre (dCel 0x22 0x10000 0 0 176 0 0) ioNone).1 = stOk ∧ cOutLen (dCel 0x22 0x10000 0 0 176 0 0) = 176 ∧
      (sKey 1).keyFor 0x20 0x10000 (some 6) = (stOk, ctxOne 1 1) ∧ (sKey 1).wrapCheck = stOk ∧ ((sKey 1).wrapKey 0 ((sKey 1).blobEpoch 0)).isSome = true) ∧
    ((sKey 1).takesJob srcI (dCel 0x23 0x10000 0 0 0 0 0) 0x23 = true ∧ ((sKey 1).celPre (dCel 0x23 0x10000 0 0 0 0 0) ioNone).1 = stOk ∧
      (sKey 1).keyFor 0x20 0x10000 none = (stOk, ctxOne 1 1)) ∧
    ((sKey 1).takesJob srcI (dCel 0x24 0 0 0 0 0 0) 0x24 = true ∧ ((sKey 1).celPre (dCel 0x24 0 0 0 0 0 0) ioNone).1 = stOk ∧ hGen (cHandle (dCel 0x24 0 0 0 0 0 0)) = 0 ∧
      (sKey 1).takesJob srcI (dCel 0x24 0x10000 0 0 16 0 0) 0x24 = true ∧ ((sKey 1).celPre (dCel 0x24 0x10000 0 0 16 0 0) ioNone).1 = stOk ∧
      hGen (cHandle (dCel 0x24 0x10000 0 0 16 0 0)) ≠ 0 ∧ (queryOut (ctxOne 1 1)).length ≤ cOutLen (dCel 0x24 0x10000 0 0 16 0 0)) ∧
    ((sKey 1).takesJob srcI (dCel 0x28 0x10000 4 2 30 0 0) 0x28 = true ∧ ((sKey 1).celPre (dCel 0x28 0x10000 4 2 30 0 0) (ioOf 4)).1 = stOk ∧
      (sKey 1).keyFor 0x20 0x10000 (some 0) = (stOk, ctxOne 1 1) ∧ 4 - 2 + 28 ≤ 30) ∧
    ((sKey 1).takesJob srcI (dCel 0x29 0x10000 30 0 2 0 0) 0x29 = true ∧ ((sKey 1).celPre (dCel 0x29 0x10000 30 0 2 0 0) (ioOf 30)).1 = stOk ∧
      (sKey 1).keyFor 0x20 0x10000 (some 1) = (stOk, ctxOne 1 1)) ∧
    ((sKey 5).takesJob srcI (dCel 0x2A 0x10000 4 0 64 0 0) 0x2A = true ∧ ((sKey 5).celPre (dCel 0x2A 0x10000 4 0 64 0 0) (ioOf 4)).1 = stOk ∧
      (sKey 5).keyFor 0x20 0x10000 (some 4) = (stOk, ctxOne 5 1) ∧ sigLen 5 ≠ 0 ∧ sigLen 5 ≤ 64) ∧
    (sRt.takesJob srcI (dCel 0x2B 0 4 1 0 5 0) 0x2B = true ∧ (sRt.celPre (dCel 0x2B 0 4 1 0 5 0) (ioOf 4)).1 = stOk) ∧
    ((sKey 4).takesJob srcI (dCel 0x2E 0x10000 32 0 32 0 0) 0x2E = true ∧ ((sKey 4).celPre (dCel 0x2E 0x10000 32 0 32 0 0) (ioOf 32)).1 = stOk ∧
      (sKey 4).keyFor 0x20 0x10000 (some 9) = (stOk, ctxOne 4 1) ∧ (sKey 4).cmd.epochPending = false) ∧
    ((sKey 1).takesJob srcI (dCel 0x2F 0 0 15 0 0 0) 0x2F = true ∧ ((sKey 1).celPre (dCel 0x2F 0 0 15 0 0 0) ioNone).1 = stOk ∧ (sKey 1).advanceCheck 15 = stOk ∧
      (sKey 1).cmd.blobJob = none ∧ (sKey 1).cmdSlot = some 14) ∧
    (({ sKey 5 with cel := { (sKey 5).cel with ops := [opOne] } }).cel.ops[0]? = some opOne ∧ sRt.memOn opOne.src.issuer = true ∧ (sKey 5).liveH (wd 0x10000) = true) ∧
    ((sKey 1).slot 0).live = true ∧ ((sKey 1).slot 65535).live = false := by decide

/-- A measurement descriptor: code, slot, type, parameter, input and output lengths. -/
def dMeas (opc slot type param inLen outLen : Nat) : Desc :=
  [BitVec.ofNat 32 opc, 0, 0, 0, BitVec.ofNat 32 (slot + 256 * type), BitVec.ofNat 32 param, 0, 0, BitVec.ofNat 32 inLen, 0, 0, 0, BitVec.ofNat 32 outLen, 0, 0, 0]
/-- The ring of hart 0 with a started descriptor. -/
def src64 : JobSrc := { issuer := 0, ring := 64, slot := 0, tag := 0, cqFail := false }
def sRing (d : Desc) (s : State) : State :=
  { s with hq := { s.hq with queues := [(64, { Queue.reset with st := .enabled, fetched := [{ slot := 0, desc := d, started := true, taken := false }] })] } }
/-- Slot 63 is defined for the I3C agent, which may scan. -/
def sMeas : State := { sRt with meas := { sRt.meas with slots := [(63, { MSlot.reset with defined := true, extender := 0x20, allowScan := true })] } }
/-- A scan list of one range. -/
def scanOne : Bytes := [0x53, 0x43, 0x41, 0x4E, 1, 0, 1, 0, 2] ++ zeros 23 ++ zeros 8 ++ [1, 0, 0, 0, 0, 0, 0, 0]
/-- An extend that waits, and a scan of the list above into slot 63. -/
def eOne (job : Option JobSrc) : MEntry := { slot := 63, type := 0x80, source := 0x20, late := false, info := 0, data := zeros 48, job := job }
def jScan (type : Nat) : ScanJob := { src := srcI, desc := dMeas 0x32 63 type 0 48 0, list := scanOne, expect := [], expectFault := false, next := 0, ends := [] }
/-- The range of that scan has ended. -/
def jEnded (fault : Bool) : ScanJob := { jScan 2 with next := 1, ends := [(0, { digest := zeros 48, len := 0, st := if fault then stLengthShort else stOk })] }
/-- A scan is in progress. -/
def sScan (j : ScanJob) : State := { sMeas with meas := { sMeas.meas with scan := some j } }

theorem witness_ExtendsChainIntoTheirSlot :
    (sMeas.takesJob srcI (dMeas 0x30 63 0x80 0 48 0) 0x30 = true ∧ measFieldsOk (dMeas 0x30 63 0x80 0 48 0) = true ∧ extTypeOk 0x20 0x80 = true ∧
      mInLen (dMeas 0x30 63 0x80 0 48 0) = 48 ∧ sMeas.mayExtend 0x20 63 = true ∧ 32 ≤ mSlot (dMeas 0x30 63 0x80 0 48 0) ∧ sMeas.tamp.responded = false ∧
      sMeas.reqFull = false ∧ sRt.mayExtend 0x20 63 = false ∧ sRt.takesJob srcI (dMeas 0x30 63 0x80 0 48 0) 0x30 = true) ∧
    (sMeas.takesJob srcI (dMeas 0x31 0 0 0 0 4128) 0x31 = true ∧ measFieldsOk (dMeas 0x31 0 0 0 0 4128) = true ∧ mType (dMeas 0x31 0 0 0 0 4128) = 0 ∧
      4128 ≤ mOutLen (dMeas 0x31 0 0 0 0 4128)) ∧
    ((sRing (dMeas 0x33 63 0 0x120 0 0) sRt).takesJob src64 (dMeas 0x33 63 0 0x120 0 0) 0x33 = true ∧ measFieldsOk (dMeas 0x33 63 0 0x120 0 0) = true ∧
      mParam (dMeas 0x33 63 0 0x120 0 0) ≤ 511 ∧ (BitVec.ofNat 8 (mParam (dMeas 0x33 63 0 0x120 0 0)) : Master) = 0x20 ∧ src64.issuer = 0 ∧ (sRt.mslot 63).defined = false) ∧
    (sMeas.takesJob srcI (dMeas 0x32 63 2 0 48 0) 0x32 = true ∧ measFieldsOk (dMeas 0x32 63 2 0 48 0) = true ∧ sMeas.mayScan 0x20 (dMeas 0x32 63 2 0 48 0) = true ∧
      sMeas.meas.scans.length < 8 ∧ scanListOk scanOne = true ∧ mInLen (dMeas 0x32 63 2 0 48 0) = 32 + 16 * scanCount scanOne ∧ scanOne.length = 48 ∧
      mOutLen (dMeas 0x32 63 2 0 48 0) = 0) ∧
    (({ sMeas.meas with hwq := [eOne (some srcI)] }).hwq.head? = some (eOne (some srcI)) ∧ sMeas.meas.hwq = [] ∧
      ({ sMeas.meas with reqq := [eOne none] }).reqq.head? = some (eOne none) ∧ (eOne none).job = none ∧ sMeas.logCount < 8191 ∧ sMeas.meas.reqq = []) ∧
    (({ sMeas.meas with scans := [jScan 2] }).scans = jScan 2 :: [] ∧ sMeas.meas.scan = none) ∧
    ((sScan (jScan 2)).meas.scan = some (jScan 2) ∧ (∀ x ∈ (jScan 2).ends, x.2.st = stOk) ∧ (jScan 2).next < scanCount (jScan 2).list ∧
      (jScan 2).next - (jScan 2).ends.length < 32 ∧ (sScan (jScan 2)).ctxAlloc 0x44 ≠ none ∧
      scanCount (jEnded false).list ≤ (jEnded false).next ∧ ∀ x ∈ (jEnded false).ends, x.2.st = stOk) ∧
    ((sScan (jScan 2)).memOn (jScan 2).src.issuer = true ∧ (jScan 2).hashed = false ∧ (jScan 2).short = false ∧ (jEnded true).short = true ∧
      (jEnded false).short = false ∧ (jEnded false).hashed = true ∧ mType (jEnded false).desc = 2 ∧ (sScan (jEnded false)).reqFull = false) := by decide
/-! ### SPDM, the host link, queues and commands -/

/-- A connection of the MCTP transport. -/
def sSpdm (c : SpdmConn) : State := { sRt with spdm := { sRt.spdm with mctp := c } }
/-- A vendor-defined request of the responder's own standard. -/
def qPq (kind lenHi : Byte) : Bytes := [0x12, 0xFE, 0, 0, 3, 0, 2, 0x7A, 0x1F, 7, 0, kind, 0, 0, 0, 0, 1, lenHi]
/-- A session. -/
def sessOne (finished : Bool) : SpdmSession := { id := 1, finished := finished, keyUpdates := 0, hs := zeros 48, th := zeros 48, req := zeros 48, rsp := zeros 48, reqSeq := 0, rspSeq := 0 }

/-- A connection at a step of the negotiation, of version 1.2, with no session or one. -/
def sConn (step : Nat) (x : Option SpdmSession) : State := sSpdm { SpdmConn.reset with version := 0x12, step := step, session := x }
/-- FINISH with its right Verify Data. -/
def qFinish : Bytes := [0x12, 0xE5, 0, 0] ++ spdmVerify 0x12 (zeros 48) (zeros 48 ++ [0x12, 0xE5, 0, 0])

theorem witness_SpdmRequestsHaveOneAnswerOnTheirTransport :
    (sRt.boot.rtReleased = true ∧ sRt.coreUp = true ∧ (responded sRt).tamp.responded = true ∧ (responded sRt).coreUp = true ∧ sRt.tamp.responded = false) ∧
    (sRt.opened .mctpSecured [] = none ∧ tSecured .mctp = false ∧ tSecured .doeSecured = true ∧ tMctp .doe = false ∧ tMctp .mctp = true ∧ ([] : Bytes).length ≤ 4096) ∧
    ((sRt.conn .mctp).verOk [0x10, 0x84, 0, 0] = true ∧ ((sConn 3 none).conn .mctp).verOk [0x13, 0x81, 0, 0] = false ∧
      ((sConn 3 none).recTaken .mctp).conn .mctp = (sConn 3 none).conn .mctp) ∧
    (qCode [0x10, 0x84, 0, 0] = 0x84 ∧ qCode [0x12, 0xE1, 0, 0] = 0xE1 ∧ (sRt.conn .mctp).step ≠ 1 ∧ ((sSpdm { SpdmConn.reset with step := 1 }).conn .mctp).step = 1 ∧
      ((sSpdm { SpdmConn.reset with step := 1 }).conn .mctp).verOk [0x12, 0xE1, 0, 0] = true ∧ (sRt.conn .mctp).verOk [0x12, 0xE1, 0, 0] = true ∧
      Bytes.num [0x12, 0xE1, 0, 0] 0 1 = 0x12 ∧ ((sConn 2 none).conn .mctp).step = 2 ∧ ((sConn 2 none).conn .mctp).verOk [0x12, 0xE3, 0, 0] = true ∧
      ((sConn 3 none).conn .mctp).step = 3 ∧ ((sConn 3 none).conn .mctp).verOk [0x12, 0xE3, 0, 0] = true ∧
      ∀ c ∈ ([0x81, 0x82, 0x83, 0xE0, 0xE4, 0xE5, 0xE9, 0xEC, 0xE8] : List Byte), ((sConn 3 none).conn .mctp).verOk [0x12, c, 0, 0] = true) ∧
    (((sConn 3 none).conn .mctp).session = none ∧ ((sConn 3 (some (sessOne false))).conn .mctpSecured).session = some (sessOne false) ∧
      ((sConn 3 (some (sessOne true))).recTaken .mctpSecured).conn .mctpSecured = { (sConn 3 (some (sessOne true))).conn .mctpSecured with
        session := some { sessOne true with reqSeq := 1 } } ∧
      (sessOne true).finished = true ∧ (sessOne false).finished = false ∧ Bytes.slice [0x12, 0xE5, 0, 0] 4 48 = [] ∧
      qCode [0x12, 0xE9, 1, 0] = 0xE9 ∧ qP1 [0x12, 0xE9, 1, 0] = 1 ∧ qP1 [0x12, 0xE9, 3, 0] = 3 ∧ qCode [0x12, 0xEC, 0, 0] = 0xEC ∧ qCode [0x12, 0xE8, 0, 0] = 0xE8) ∧
    (qCode [0x12, 0x85, 0, 0, 1, 0] = 0x85 ∧ Bytes.num [0x12, 0x85, 0, 0, 1, 0] 4 2 ≠ (sRt.conn .mctp).chunkInSeq ∧ Bytes.num [0x12, 0x85, 0, 0, 0, 0] 4 2 = 0 ∧
      qP1 [0x12, 0x85, 0, 0, 0, 0] % 2 = 0 ∧ (sRt.conn .mctp).chunkOut = [] ∧ ((sSpdm { SpdmConn.reset with chunkOut := [1] }).conn .mctp).chunkOut ≠ [] ∧
      Bytes.num [0x12, 0x86, 0, 0, 0, 0] 4 2 = ((sSpdm { SpdmConn.reset with chunkOut := [1] }).conn .mctp).chunkOutSeq) ∧
    (isPq (qPq 1 0) 1 = true ∧ (sRt.conn .mctp).lastM = none ∧ ((sSpdm { SpdmConn.reset with lastM := some [] }).conn .mctp).lastM = some [] ∧
      isPq (qPq 2 0) 2 = true ∧ Bytes.num (qPayload (qPq 2 0)) 5 2 ≤ 4096 ∧ isPq (qPq 2 0x10) 2 = true ∧ 4096 < Bytes.num (qPayload (qPq 2 0x10)) 5 2) ∧
    (qCode [0x12, 0x87, 0, 0] ∉ spdmCodes ∧ isPq [0x12, 0x87, 0, 0] 1 = false ∧ isPq [0x12, 0x87, 0, 0] 2 = false) := by decide

theorem witness_SpdmRequestsHaveOneAnswerOnTheirTransport_plain : sRt.recTaken .mctp = sRt ∧ (sConn 3 none).recTaken .mctp = sConn 3 none := ⟨rfl, rfl⟩
/-- A record of the session opens on the secured transport, whatever the cipher is. -/
theorem witness_SpdmRequestsHaveOneAnswerOnTheirTransport_record (f : Bool) (a : Bytes) (h : a.length < 65535) :
    (sConn 3 (some (sessOne f))).opened .mctpSecured (recSeal true 0x12 (sessOne f) a) = some a := by
  have e : (sConn 3 (some (sessOne f))).opened .mctpSecured (recSeal true 0x12 (sessOne f) a) =
    recOpen true 0x12 (sessOne f) (recSeal true 0x12 (sessOne f) a) := rfl
  rw [e, recOpen_recSeal true 0x12 (sessOne f) (sessOne f) a h rfl rfl rfl]
/-- FINISH with the right Verify Data, and one that is too short. -/
theorem witness_SpdmRequestsHaveOneAnswerOnTheirTransport_finish :
    spdmVerify 0x12 (sessOne false).req ((sessOne false).th ++ qFinish.take 4) = Bytes.slice qFinish 4 48 ∧
    spdmVerify 0x12 (sessOne false).req ((sessOne false).th ++ [0x12, 0xE5, 0, 0]) ≠ [] := by
  refine ⟨rfl, fun h => ?_⟩
  have := congrArg List.length h
  simp [spdmVerify, hmac384] at this

/-- Slot 15 holds no chain, slot 0 one of some length. -/
theorem witness_SpdmRequestsHaveOneAnswerOnTheirTransport_chain :
    (sSpdm { SpdmConn.reset with step := 3 }).spdmChain 15 = none ∧
    ∃ c, (sSpdm { SpdmConn.reset with step := 3 }).spdmChain 0 = some c ∧ 0 < c.length := by
  refine ⟨by decide, _, rfl, ?_⟩
  simp [leBytes]

/-- The link is up with `n` VFs. -/
def sLink (n : Nat) : State := { sRt with hq := { sRt.hq with up := true, speed := 5, width := 16, numVfs := n, vfEnable := n != 0, ideSecure := 0x10 } }

theorem witness_LinkAndFunctionResetsClearTheirQueues :
    (sRt.linkMay = true ∧ sRt.hq.up = false ∧ ({ sRt with pwr := { sRt.pwr with holdup := true } }).linkMay = false ∧ (16 : Nat) ∈ [1, 2, 4, 8, 16]) ∧
    ((sLink 15).linkMay = true ∧ { (sLink 15).hq with training := true }.training = true ∧ (sLink 15).hq.up = true ∧ (sLink 15).hq.speed ≠ (sLink 15).linkSpeed 1) ∧
    (sRt.hq.trainCtl = none ∧ ({ sRt.hq with trainCtl := some 0 }).trainCtl = some 0 ∧ (sLink 15).hq.flrPending.getLsbD 15 = false ∧
      ({ (sLink 15).hq with flrPending := 0x8000 }).flrPending.getLsbD 15 = true ∧ (sLink 15).hq.stalled = [] ∧ (sRt.boot.halted = false)) ∧
    sRt.admits 0 (pg 0x140 0x48) = true ∧ sRt.vfOn 15 = false ∧ (sLink 15).vfOn 15 = true ∧
    ((sLink 15).hq.vfEnable = true ∧ 14 < (sLink 15).hq.numVfs ∧ sRt.hq.vfEnable = false ∧ (sLink 15).hq.numVfs ≤ 15) := by decide

/-- The DOE mailbox as given, on a link that is up. -/
def sDoe (f : DoeState → DoeState) : State := { sLink 0 with hq := { (sLink 0).hq with doe := f (sLink 0).hq.doe } }
/-- An object of three words for a protocol. -/
def doeObj (p : Byte) : Bytes := [1, 0, p, 0, 3, 0, 0, 0, 0, 0, 0, 0]

theorem witness_TheDoeMailboxCarriesOneObject :
    ((sLink 0).hq.up = true ∧ (sLink 0).doeTakes = true ∧ sRt.doeTakes = false ∧ (sLink 0).hq.doe.busy = false ∧ (sLink 0).hq.doe.req.length < 8 ∧ (sDoe (fun d => { d with busy := true })).hq.doe.busy = true ∧
      (sLink 0).hq.doe.req.length ≤ 65540) ∧
    (8 ≤ (sDoe (fun d => { d with req := doeObj 0 })).hq.doe.req.length ∧ doeLen (doeObj 0) = (doeObj 0).length ∧ Bytes.num (doeObj 0) 0 2 = 1 ∧
      Bytes.num (doeObj 0) 2 1 = 0 ∧ Bytes.num (doeObj 1) 2 1 = 1 ∧ Bytes.num (doeObj 2) 2 1 = 2 ∧ 2 < Bytes.num (doeObj 3) 2 1) ∧
    ({ sSpdm SpdmConn.reset with spdm := { sRt.spdm with doe := { SpdmConn.reset with session := some (sessOne true) } } }).doeSecured = true ∧
    (sRt.hq.ideSecure.getLsbD 4 = false ∧ (sLink 0).hq.ideSecure.getLsbD 4 = true) ∧
    ((reg1 (aDoe 0x48) 8 (sDoe (fun d => { d with ready := true }))).admits 0 (aDoe 0x4C) = true ∧
      (reg1 (aDoe 0x48) 8 (sDoe (fun d => { d with ready := true }))).hq.doe.ready = true ∧ 8 ≤ (reg1 (aDoe 0x48) 8 (sDoe (fun d => { d with ready := true }))).rspLen ∧
      (reg1 (aDoe 0x48) 8 (sDoe (fun d => { d with ready := true }))).rspLen ≤ 65544 ∧ sRt.admits 0 (aDoe 0x4C) = true ∧ sRt.hq.doe.ready = false) := by decide

/-- Queue 63 or ring 68 with 2 slots. -/
def sQ (q : Nat) (x : Queue) : State :=
  reg1 (pg (qPage q) 0x50) 2 (reg1 (pg (qPage q) 0x58) 2 { sLink 15 with
    hq := { (sLink 15).hq with queues := [(q, x)], fns := (List.range 16).map (fun f => (f, { FnState.reset with bme := true })) } })
/-- An entry of slot 0. -/
def qEntry (started : Bool) : QEntry := { slot := 0, seq := 0, prio := 0, desc := descOp 0, started := started, taken := false }

theorem witness_QueuesFollowTheirPointersAndStates :
    ((sQ 60 { Queue.reset with st := .enabled }).admits 0 (aQ 60 0x54) = true ∧ ((sQ 60 { Queue.reset with st := .enabled }).queue 60).st = .enabled ∧
      (sQ 60 Queue.reset).admits 0 (aQ 60 0x54) = true ∧ ((sQ 60 Queue.reset).queue 60).st = .disabled ∧ (sQ 60 Queue.reset).qSizeOk 60 = true ∧ (sLink 15).qSizeOk 60 = false) ∧
    ((sQ 60 { Queue.reset with st := .draining }).queue 60).st = .draining ∧ ((sQ 60 { Queue.reset with st := .draining }).queue 60).fetched = [] ∧
    ((sQ 60 { Queue.reset with st := .enabled }).admits 0 (aQ 60 0x5C) = true ∧ Word.field 1 11 0 < (sQ 60 { Queue.reset with st := .enabled }).qSize 60 ∧
      (sQ 60 { Queue.reset with st := .enabled }).qSize 60 ≤ Word.field 2 11 0 ∧ (sQ 60 { Queue.reset with st := .enabled }).admits 0 (aQ 60 0x64) = true) ∧
    ((ringDist 2 0 (Word.field 1 11 0) ≤ (sQ 60 { Queue.reset with cqTail := 1 }).cqUsed 60) ∧ (sQ 60 Queue.reset).cqUsed 60 < ringDist 2 0 (Word.field 1 11 0)) ∧
    (sQ 60 Queue.reset).mayFetch 60 = false ∧ (sQ 60 { Queue.reset with st := .enabled, sqTail := 1, phase := true }).mayFetch 60 = true ∧
    (((sQ 60 { Queue.reset with fetched := [qEntry false] }).queue 60).entry 0 0 = some (qEntry false) ∧ ((sQ 60 { Queue.reset with fetched := [qEntry false] }).queue 60).waiting 0 = some (qEntry false) ∧
      (sQ 60 Queue.reset).memOn (qSrc 60 (qEntry false)).issuer = true ∧ ({ sQ 60 Queue.reset with hq := { (sQ 60 Queue.reset).hq with fns := [] } }).memOn (qSrc 60 (qEntry false)).issuer = false ∧
      ((sQ 60 { Queue.reset with fetched := [qEntry false] }).queue 60).mayStart 60 (qEntry false) = true ∧
      ((sQ 60 { Queue.reset with fetched := [qEntry true] }).queue 60).mayStart 60 (qEntry true) = false ∧
      (sQ 60 Queue.reset).startFail 60 (descOp 0) = none ∧ (sQ 60 Queue.reset).startFail 60 (descOp 0xFF) ≠ none) ∧
    ((sQ 0 { Queue.reset with st := .enabled, fetched := [qEntry true] }).takesJob { src0 with tag := 0 } (descOp 0) 0 = true ∧
      ((sQ 0 { Queue.reset with st := .enabled, fetched := [qEntry true] }).queue 0).cqFault = false) := by decide

/-- The ring of hart 4, two entries long, in the memory that R513 allows. -/
def sRing4 (x : Queue) : State :=
  reg1 (pg (qPage 68) 0x50) 0x10400000 (reg1 (pg (qPage 68) 0x54) 0x10460000 (reg1 (pg (qPage 68) 0x58) 2 { sRt with hq := { sRt.hq with queues := [(68, x)] } }))

theorem witness_QueuesFollowTheirPointersAndStates_ring :
    (sRing4 Queue.reset).admits 0 (aHart 4 0x5C) = true ∧ ((sRing4 Queue.reset).queue 68).st = .disabled ∧ (sRing4 Queue.reset).ringOk 4 = true ∧
    (sRing4 { Queue.reset with st := .error }).admits 0 (aHart 4 0x5C) = true ∧ ((sRing4 { Queue.reset with st := .error }).queue 68).st = .error ∧
    (sRing4 { Queue.reset with st := .enabled }).runs 4 = true ∧ Word.field 1 11 0 < (sRing4 { Queue.reset with st := .enabled }).qSize 68 := by decide

/-- A host command descriptor: code, input length, output length, parameter. -/
def dHost (opc inLen outLen param : Nat) : Desc :=
  [BitVec.ofNat 32 opc, 0, 0, 0, 0, 0, BitVec.ofNat 32 inLen, 0, 0, 0, BitVec.ofNat 32 outLen, BitVec.ofNat 32 param, 0, 0, 0, 0]
/-- Version 2.1 is negotiated over MCTP, and issuer 1 is registered with every right and the key of slot 0. -/
def sIss (pending : Bool) : State := { sKey 9 with cmd := { sRt.cmd with
  i3cVersion := 0x201, epochPending := pending, issuers := [{ id := 1, rights := 0x3FF, lastSeq := 0, handle := 0x10000, serial := 1 }, { id := 2, rights := 0, lastSeq := 0, handle := 0, serial := 2 }] } }
/-- The first 32 bytes of an EPOCH_ADVANCE envelope of issuer 1. -/
def envHead : Bytes := [0x45, 0x4E, 0x56, 0x4C, 1, 2, 1, 0, 1, 0, 0, 0, 0, 0, 0, 0, 8, 0] ++ zeros 14
/-- The envelope with its tag. -/
def envTagged : Bytes := envHead ++ kmac256 (zeros 32) envHead 32 (ascii "MX-CMD")
/-- The same with a tag of zeros. -/
def envBad : Bytes := envHead ++ zeros 32
/-- The input of an envelope. -/
def ioEnv (b : Bytes) : JobIo := { ioNone with data := b }
/-- A job that waits at check 8. -/
def jEpoch : EnvJob := { envJob srcI (dHost 4 64 0 0) envBad with wait := .epoch, since := 0 }

theorem witness_EnvelopesUseTheirCounterOnce :
    (sRt.takesJob srcI (dHost 1 0 0 7) 1 = true ∧ hFieldsOk (dHost 1 0 0 7) false false true = true ∧ hParam (dHost 1 0 0 7) ≤ 7 ∧ pickVersion 7 = some 0x300 ∧
      sRt.takesJob srcI (dHost 1 0 0 0) 1 = true ∧ pickVersion (hParam (dHost 1 0 0 0)) = none) ∧
    (sRt.takesJob srcI (dHost 2 0 0 0) 2 = true ∧ hFieldsOk (dHost 2 0 0 0) false false false = true ∧ sRt.takesJob srcI (dHost 3 0 1024 0) 3 = true ∧
      hFieldsOk (dHost 3 0 1024 0) false true false = true ∧ 1024 ≤ hOutLen (dHost 3 0 1024 0)) ∧
    (sRom.boot.rtReleased = false ∧ sRt.boot.rtReleased = true ∧ 5 < dopc (descOp 6)) ∧
    (sRt.takesJob srcI (dHost 4 64 0 0) 4 = true ∧ (responded sRt).tamp.responded = true ∧ (responded sRt).takesJob srcI (dHost 4 64 0 0) 4 = true ∧
      hFieldsOk (dHost 4 64 0 0) true true false = true ∧ sRt.exhausted = false ∧ (sRt.envCheck1 true (dHost 4 64 0 0) (ioEnv envBad)).1 ≠ stOk) ∧
    ((sIss false).takesJob srcI (dHost 4 64 0 0) 4 = true ∧ viaMctp srcI = true ∧ ((sIss false).envCheck1 true (dHost 4 64 0 0) (ioEnv envBad)).1 = stOk ∧
      (sIss false).cmd.running = none ∧ (sIss false).cmd.waiting = [] ∧ (sIss false).cmd.epochPending = false ∧ (sIss true).cmd.epochPending = true ∧
      ((sIss true).envCheck1 true (dHost 4 64 0 0) (ioEnv envBad)).1 = stOk ∧ ((sRt.envCheck2 envBad)).1 ≠ stOk ∧ (sIss false).rightOk envTagged = true) ∧
    (({ (sIss true).cmd with waiting := [jEpoch] }).waiting[0]? = some jEpoch ∧ jEpoch.wait = .epoch ∧ (sIss true).epochWait = true ∧
      (sIss true).hcSince jEpoch.since < (reg1 (pg 0x19 0x58) 0x10000 (sIss true)).admTimeout ∧
      (reg1 (pg 0x19 0x58) 0 (sIss true)).admTimeout ≤ (sIss true).hcSince jEpoch.since) ∧
    (dw (descOf (dHost 1 0 0 7)) 4 = 0 ∧ dw (descOf (dHost 1 0 0 7)) 5 = 0 ∧ dw (descOf (dHost 1 0 0 7)) 8 = 0 ∧ dw (descOf (dHost 1 0 0 7)) 9 = 0 ∧
      dopc (descOf (dHost 1 0 0 7)) = 1 ∧ hFieldsOk (descOf (dHost 1 0 0 7)) false false true = true ∧ hFieldsOk (descOf (dHost 2 0 0 0)) false false false = true ∧
      hFieldsOk (descOf (dHost 3 0 1024 0)) false true false = true ∧ 1024 ≤ hOutLen (descOf (dHost 3 0 1024 0)) ∧
      hFieldsOk (descOf (dHost 4 64 0 0)) true true false = true ∧ (envBad ++ [0]).take (hInLen (descOf (dHost 4 64 0 0))) = envBad ∧
      hFieldsOk (descOf (dHost 5 9055 1568 0)) true true false = true ∧ hInLen (descOf (dHost 5 9055 1568 0)) ≠ 9056) ∧
    (sRt.takesJob srcI (dHost 5 9056 1568 0) 5 = true ∧ hFieldsOk (dHost 5 9056 1568 0) true true false = true ∧ hInLen (dHost 5 9056 1568 0) = 9056 ∧
      1568 ≤ hOutLen (dHost 5 9056 1568 0) ∧ sRt.bootCheck [] ≠ stOk) := by decide
/-- The tag of the envelope verifies, whatever the MAC is. -/
theorem witness_EnvelopesUseTheirCounterOnce_tag : (sIss false).envCheck2 envTagged = (stOk, 0) := by
  have h : (sIss false).tagOk { id := 1, rights := 0x3FF, lastSeq := 0, handle := 0x10000, serial := 1 } envTagged =
      (kmac256 (zeros 32) envHead 32 (ascii "MX-CMD") == kmac256 (zeros 32) envHead 32 (ascii "MX-CMD")) := rfl
  have hi : (sIss false).issuer (eIssuer envTagged) = some { id := 1, rights := 0x3FF, lastSeq := 0, handle := 0x10000, serial := 1 } := rfl
  have he : eEpoch envTagged = 0 := rfl
  have hs : eSeq envTagged = 1 := rfl
  have hc : (sIss false).cmd.epoch = 0 := rfl
  simp only [State.envCheck2, hi, h, he, hs, hc, beq_self_eq_true]
  rfl

/-- Issuer 1's command runs in state OWNED, with a UNIT_ID. -/
def sCmd (cmd : Nat) (payload : Bytes) : State := { sIss false with lcf := (sUnit .owned).lcf, cmd := { (sIss false).cmd with
  running := some { envJob srcI (dHost 4 64 0 0) envBad with cmd := cmd, payload := payload, accepted := true } } }
/-- A request for SCRAP, which needs no signer. -/
def reqScrap : Bytes := [0x54, 0x52, 0x41, 0x4E, 1, 0, 1, 0, 1, 0, 0, 0, 0, 0, 0, 0, BitVec.ofNat 8 (LcState.code .owned), BitVec.ofNat 8 (LcState.code .scrap)] ++ zeros 46
/-- The job of `sCmd`. -/
def jCmd (cmd : Nat) (payload : Bytes) : EnvJob := { envJob srcI (dHost 4 64 0 0) envBad with cmd := cmd, payload := payload, accepted := true }
/-- Class 1 is bound at port 15. -/
def sCmdBound (cmd : Nat) (payload : Bytes) (contained : Bool) : State :=
  { sCmd cmd payload with ports := (sPort 15 (fun q => { q with binds := [(0, bOne .confirmed [])], contained := contained })).ports }

/-- That a newer image passes, a blob opens or a signature verifies rests on what the model leaves open. -/
theorem witness_AcceptedCommandsSubmitTheirCommit :
    ((sCmd 1 []).cmd.running = some (jCmd 1 []) ∧ (jCmd 1 []).wait = .none ∧ (sCmd 1 []).reqCheck [] 1 ≠ stOk ∧ (sCmd 1 reqScrap).reqCheck reqScrap 1 = stOk ∧
      (sCmd 1 reqScrap).lcCheck (Bytes.num reqScrap 0x11 1) = stOk ∧ lcOfCode (Bytes.num reqScrap 0x11 1) = some .scrap ∧ (sCmd 1 reqScrap).lcCopy 0 ≠ LcState.fuseCode .scrap) ∧
    (sCmd 2 []).reqCheck [] 2 ≠ stOk ∧
    (dw (importDesc (jCmd 3 (zeros 16 ++ [176] ++ zeros 207))) 6 = 0 ∧ dw (importDesc (jCmd 3 (zeros 16 ++ [176] ++ zeros 207))) 7 = 0 ∧
      cInLen (importDesc (jCmd 3 (zeros 16 ++ [176] ++ zeros 207))) = 176) ∧
    (policyField [] = none ∧ policyField [1, 0, 0, 0] = some (1028, [1]) ∧ (sCmd 4 []).fuseCheck 1028 1 = stOk ∧ (tampCel (responded (sCmd 4 []))).fuseCheck 1028 1 ≠ stOk) ∧
    (allZero (Bytes.slice [1, 1, 0, 0] 1 3) = false ∧ allZero (Bytes.slice [1, 0, 0, 0] 1 3) = true ∧ (sCmd 5 []).portClass 15 1 = false ∧
      (sCmdBound 5 [1, 0, 0, 0] false).portClass 15 1 = true ∧ (sCmdBound 5 [1, 0, 0, 0] true).inRecovery 1 = true ∧ (sCmdBound 5 [1, 0, 0, 0] false).inRecovery 1 = false ∧
      (sCmdBound 5 [1, 0, 0, 0] false).classPorts 1 ≠ [] ∧ (sCmd 5 []).classPorts 1 = [] ∧
      (sCmdBound 5 [1, 0, 0, 0] false).newerPorts 1 { port := 15, manA := [], manB := [], nodes := [], blocks := [], others := [] } = []) ∧
    (Bytes.num [15, 0, 0, 0] 0 1 ≤ 15 ∧ (sCmd 6 []).revoked.testBit 15 = false ∧ (sCmd 6 []).revokeOk [] 15 = true ∧ (sCmd 6 []).fuseCheck 928 2 = stOk ∧
      ({ sCmd 6 [] with lcf := { (sCmd 6 []).lcf with fuses := [(232, 0x8000)] } }).revoked.testBit 15 = true) ∧
    ((sCmd 7 []).cmdSlot = some 14 ∧ (sCmd 7 []).advanceCheck 15 = stOk ∧ (sCmd 8 []).exhausted = false ∧ (sCmd 8 []).cmd.used < 256 ∧ 256 ≤ { (sCmd 8 []).cmd with used := 256 }.used ∧ (sCmd 10 []).opsOn 0x10000 = false ∧ (sCmd 10 []).issuer 1 = some { id := 1, rights := 0x3FF, lastSeq := 0, handle := 0x10000, serial := 1 } ∧
      (sCmd 9 []).issuer 3 = none ∧ (sCmd 9 []).wrapCheck = stOk ∧ ((sCmd 9 []).wrapKey 0 ((sCmd 9 []).blobEpoch 0)).isSome = true ∧ (sCmd 9 []).allocAt 0 = some 1) := by decide

/-! ### Harts, mailboxes and exports -/

/-- One hart as given. -/
def sHart (h : Nat) (st : HartSt) : State :=
  { sRt with clk := 100, harts := { sRt.harts with harts := [(h, { Hart.reset h with st := st, haltedFrom := .parked, mie := 0x20000, mxmbxtx := 1, parkedAt := 0 })] } }
/-- The debug side as given. -/
def sDbg (f : HartsState → HartsState) : State := { inLc .test sRt with harts := f sRt.harts }

theorem witness_HartsResetParkHaltAndResume :
    (sRt.admits 0 (aHart 4 0x44) = true ∧ sRt.boot.rtReleased = true ∧ sRom.admits 0 (aHart 4 0x44) = true ∧ sRom.boot.rtReleased = false ∧
      sRt.admits 0 (aHart 0 0x44) = true ∧ (inLc .test sRt).admits jtag (aHart 4 0x44) = true ∧
      (sHart 4 .parked).admits 0 (aHart 4 0x44) = true ∧ ((sHart 4 .parked).hart 4).st = .parked) ∧
    (sRt.runs 4 = true ∧ sRom.runs 0 = true ∧ (sHart 4 .parked).runs 4 = false ∧ sRt.hartPending 4 = false ∧
      (sHart 0 .run).runs 0 = true ∧ (sHart 0 .run).hartPending 0 = true) ∧
    ((reg1 (aHart 4 0x48) 1 (sHart 4 .parked)).bitOf (aHart 4 0x48) 0 = true ∧ ((sHart 4 .parked).hart 4).parkedAt + 100 ≤ (sHart 4 .parked).clk ∧
      { sHart 4 .parked with clk := 99 }.clk < ((sHart 4 .parked).hart 4).parkedAt + 100) ∧
    ((sRt.hart 0).st ≠ .stopped ∧ sRt.boot.halted = false ∧ sRt.coreUp = true ∧ sRt.harts.lsResets = 0 ∧
      { sRt.harts with lsResets := 1 }.lsResets ≠ 0 ∧ sRom.boot.rtReleased = false) ∧
    ((inLc .test (sHart 4 .halted)).admits jtag (aDbg 0x44) = true ∧ Word.bit 0x10 4 = true ∧ Word.bit 0x1000 (8 + 4) = true ∧ (inLc .test (sHart 4 .halted)).dbgMay 4 = true ∧
      ((inLc .test (sHart 4 .halted)).hart 4).st = .halted ∧ ((inLc .test (sHart 4 .halted)).hart 4).haltedFrom = .parked ∧
      (inLc .test sRt).admits jtag (aDbg 0x44) = true ∧ ((inLc .test sRt).hart 4).st = .run ∧ Word.bit 0x10 3 = false) ∧
    ((sDbg id).admits 0 (aDbg 0x48) = true ∧ (sDbg id).harts.txFull = false ∧ (sDbg (fun h => { h with txFull := true })).admits 0 (aDbg 0x48) = true ∧
      (sDbg id).admits jtag (aDbg 0x4C) = true ∧ (sDbg (fun h => { h with rxFull := true })).admits jtag (aDbg 0x4C) = true ∧ sRt.arrives jtag 0x35 = true ∧ sRt.arrives 0 0x35 = true) ∧
    ({ sRt.harts with attached := true }.attached = true ∧ sRt.harts.attached = false) := by decide

/-- The device is on its way to RETAIN. -/
def sRetainDue : State := { sRt with pwr := { sRt.pwr with pending := some .retain } }
/-- Channel 31 as given, from hart 1 to hart 2. -/
def sChan (full : Bool) (hdr : Word) : State :=
  { sRt with clk := 7, prst := { sRt.prst with firstHold := false }, mbx := [(31, { sRt.chan 31 with entry := 0x80000201, full := full, txHdr := hdr, sentAt := 0 })] }

theorem witness_MailboxesCarryOneMessageAtATime :
    (sRt.admits 1 (pg 0x170 (0x80 + 4 * 31)) = true ∧ sRt.admits 0 (pg 0x170 (0x80 + 4 * 31)) = true ∧ sRt.btReason = 0 ∧
      (sChan true 0).admits 0 (pg 0x170 (0x80 + 4 * 31)) = true ∧ (sChan true 0).btReason ≠ 0 ∧ Word.bit 0x80000202 31 = true ∧
      bindOk 31 (BitVec.ofNat 8 (Word.field 0x80000202 7 0)) (BitVec.ofNat 8 (Word.field 0x80000202 15 8)) = false ∧ Word.bit 0x202 31 = false ∧
      bindOk 31 (BitVec.ofNat 8 (Word.field 0x80000201 7 0)) (BitVec.ofNat 8 (Word.field 0x80000201 15 8)) = true ∧ ((sChan true 0).chan 31).full = true) ∧
    ((sChan false 0x400001).admits 1 (aMbx 31 0x4C) = true ∧ (sChan false 0x400001).sendOk 1 31 = true ∧ (sChan false 0).sendOk 1 31 = false) ∧
    ((sChan true 0).admits 2 (aMbx 31 0x54) = true ∧ ((sChan true 0).chan 31).valid = true ∧ ((sChan true 0).chan 31).receiver = 2 ∧ (sChan true 0).mbxOn = true ∧ sRetainDue.mbxOn = false ∧
      ((sChan false 0).chan 31).full = false) ∧
    ((reg1 (aMbx 31 0x58) 7 (sChan true 0)).chLate 31 = true ∧ (reg1 (aMbx 31 0x58) 8 (sChan true 0)).chLate 31 = false) := by decide

/-- A terminal's context of 128-bit AES in slot 0, with one use, and the pipelines as enabled. -/
def sTk : State := reg1 (pg 0x191 0x40) 0x80 { sKey 0xB with cel := { (sKey 0xB).cel with
  slots := [(0, { st := .loaded, gen := 1, ctx := { ctxOne 0xB 1 with material := ikMaterial (zeros 32) (zeros 8) 2 0 0 0 (zeros 32) } })] } }
/-- A TKS descriptor: code, handle, IK_ID word, word 9, and the lengths. -/
def dTk (opc h id w9 len : Nat) : Desc :=
  [BitVec.ofNat 32 opc, 0, 0, 0, BitVec.ofNat 32 h, 0, BitVec.ofNat 32 id, 0, 0, BitVec.ofNat 32 w9, 0, 0, BitVec.ofNat 32 len, 0, 0, 0]
/-- A descriptor of TK_PIN_TRANSLATE whose second handle names no context. -/
def dPin : Desc := (dTk 0x42 0x10000 1 0x203 0x100020).set 5 0x20000
/-- A job of TK_MAC_GENERATE as it waits, and as it ends. -/
def jTk (after : Option Bytes) (st : Status) : TkJob := { sTk.tkNew srcI 0x41 (dTk 0x41 0x10000 0 0x40200 0x40000) ioNone with after := after, status := st }
/-- The job in pipeline 7. -/
def sPipe (j : TkJob) : State := { sTk with tks := { sTk.tks with running := [(7, some j)] } }
/-- TK_IK_DERIVE with LOCAL as it ends. -/
def jIk : TkJob := sTk.tkNew srcI 0x43 (dTk 0x43 0x10000 0 0x2000000 0) ioNone

theorem witness_TransactionJobsKeepTheOrderOfTheirContext :
    (sTk.takesJob srcI (dTk 0x44 0x10000 0 0 0x180000) 0x44 = true ∧ sTk.tkFirst 0x44 (dTk 0x44 0x10000 0 0 0x180000) = stOk ∧
      sTk.tkAccepts 0x20 0x44 (dTk 0x44 0x10000 0 0 0x180000) = true ∧ tkNeeds2 0x44 (dTk 0x44 0x10000 0 0 0x180000) = none ∧
      sTk.tkAccepts 0x20 0x41 (dTk 0x41 0x10000 0 0x40200 0x40000) = true ∧ sTk.takesJob srcI (dTk 0x41 0x10000 0 0x40200 0x40000) 0x41 = true) ∧
    (sTk.takesJob srcI (dTk 0x44 0x20000 0 0 0x180000) 0x44 = true ∧ sTk.tkFirst 0x44 (dTk 0x44 0x20000 0 0 0x180000) = stOk ∧
      sTk.tkStale (dw (dTk 0x44 0x20000 0 0 0x180000) 4) = true ∧ tFault (dTk 0x44 0x20000 0 0 0x180000) = false ∧
      sTk.takesJob srcI dPin 0x42 = true ∧ sTk.tkFirst 0x42 dPin = stStaleHandle) ∧
    (sTk.takesJob srcI (dTk 0x44 0x10000 0 0 0) 0x44 = true ∧ sTk.tkFirst 0x44 (dTk 0x44 0x10000 0 0 0) ≠ stOk ∧
      sTk.tkFirst 0x44 (dTk 0x44 0x10000 0 0 0) ≠ stStaleHandle) ∧
    ((sKey 1).takesJob srcI (dTk 0x44 0x10000 0 0 0x180000) 0x44 = true ∧ (sKey 1).tkFirst 0x44 (dTk 0x44 0x10000 0 0 0x180000) = stOk ∧
      (sKey 1).tkStale 0x10000 = false ∧ dw (dTk 0x44 0x10000 0 0 0x180000) 4 ≠ 0 ∧ (sKey 1).tkCheck4 0x20 0x44 (dTk 0x44 0x10000 0 0 0x180000) 0x10000 = false) ∧
    (sTk.takesJob srcI (dTk 0x41 0x10000 1 0x40200 0x40000) 0x41 = true ∧ sTk.tkFirst 0x41 (dTk 0x41 0x10000 1 0x40200 0x40000) = stOk ∧
      sTk.tkCheck4 0x20 0x41 (dTk 0x41 0x10000 1 0x40200 0x40000) 0x10000 = true ∧ sTk.tkCheck5 0x41 (dTk 0x41 0x10000 1 0x40200 0x40000) 0x10000 = false) ∧
    (({ sTk.tks with waiting := [jTk none stOk] }).waiting[0]? = some (jTk none stOk) ∧ sTk.freePipe = some 7 ∧ sTk.tkPowered = true ∧
      sTk.tkTurn 0 (jTk none stOk) = true ∧ (sPipe (jTk none stOk)).tkTurn 0 (jTk none stOk) = false ∧ sTk.liveH (jTk none stOk).handle = true ∧ sRt.liveH 0x10000 = false ∧
      (reg1 (pg 0x191 0x40) 0x80 sRt).freePipe = some 7 ∧ sRt.tks.waiting[0]? = none ∧ 0x40 ≤ (jTk none stOk).opc ∧
      { jTk none stOk with opc := 3 }.opc < 0x40 ∧ sTk.noKeyOps = true ∧ (sTk.tkRun (jTk none stOk)).hit = false ∧ (jTk none stOk).hmac = false ∧ sTk.macRoom = true) ∧
    ((sPipe (jTk (some [1]) stOk)).pipe 7 = some (jTk (some [1]) stOk) ∧ (sPipe (jTk none stOk)).tkPowered = true ∧ (sPipe (jTk none stOk)).memOn 0x20 = true ∧
      (jTk none stAuthFail).status ≠ stOk ∧ { jTk none stOk with abort := some stAborted }.abort = some stAborted ∧
      (sPipe (jTk (some [1]) stOk)).liveH (jTk (some [1]) stOk).handle = true ∧ ((sPipe (jTk (some [1]) stOk)).slot 0).ctx.uses ≠ 0 ∧ (sPipe (jTk (some [1]) stOk)).macBusy 7 = false ∧
      (sPipe (jTk (some [1]) stOk)).noKeyOps = true) ∧
    ((sPipe jIk).pipe 7 = some jIk ∧ jIk.opc = 0x43 ∧ jIk.abort = none ∧ jIk.status = stOk ∧ tLocal jIk.desc = true ∧ (sPipe jIk).allocAt jIk.src.issuer = some 1) ∧
    (sRt.memOn 0x10 = false ∧ sRt.pipe 7 = none) := by decide

/-- The tamper state and the power state as given. -/
def sTamp (f : TampState → TampState) (p : Power) : State :=
  reg1 (pg 0x1D 0x44) 0x20 { sRt with tamp := f sRt.tamp, pwr := { sRt.pwr with power := p, coreEn := false } }

theorem witness_TripsLatchTheirCauseAndEraseTheSecrets :
    ((sTamp id .battery).senses 12 = false ∧ (sTamp (fun t => { t with loopArm := 7 }) .active).armed 4 = false ∧
      (sTamp (fun t => { t with loopArm := 8 }) .active).armed 4 = true ∧ (sTamp id .battery).senses 4 = true) ∧
    ((sTamp id .active).senses 10 = true ∧ (sTamp id .active).armed 10 = true ∧ (sTamp id .active).senses 0 = true ∧ (sTamp id .active).armed 0 = true ∧ (sTamp id .active).coreUp = true ∧ (sTamp id .retain).coreUp = false ∧
      (sTamp (fun t => { t with latch := true }) .active).tamp.latch = true ∧ (sTamp (fun t => { t with latch := false }) .active).tamp.latch = false ∧
      classSrc 0 = some 1 ∧ (sTamp id .retain).wakesBy 5 = true ∧ sRom.senses 10 = true ∧ sRom.armed 10 = true ∧ sRom.coreUp = true ∧
      sRom.boot.rtReleased = false ∧ sRom.boot.wipePending = false ∧ sRom.boot.halted = false) ∧
    ((sTamp (fun t => { t with action := 2 }) .active).tamp.action ≠ 0 ∧ (sTamp (fun t => { t with action := 2 }) .active).tamp.action ≠ 1 ∧
      (sTamp (fun t => { t with action := 0 }) .active).senses 9 = true ∧ (sTamp (fun t => { t with action := 0 }) .active).tamp.action = 0 ∧
      (sTamp (fun t => { t with action := 1 }) .active).tamp.action = 1 ∧
      (sTamp (fun t => { t with action := 1 }) .retain).senses 9 = true ∧ (sTamp (fun t => { t with action := 1 }) .retain).coreUp = false) ∧
    ((rails false true true).pwr.aonValid = false ∧ sRt.pwr.aonValid = true) ∧ sRt.admits 0 (pg 0x1D 0x48) = true := by decide

/-- A request or a power state. -/
def sPwr (p : Power) (pend : Option Power) : State := { sRt with pwr := { sRt.pwr with power := p, pending := pend } }
/-- RETAIN with the core rail requested, or not, and every wake source enabled. -/
def sWake (en ok : Bool) : State :=
  reg1 (pg 0x1D 0x44) 0x3F { sRt with clk := 500000, pwr := { sRt.pwr with power := .retain, coreEn := en, pwrOk := ok, wakeSince := some 0 } }
/-- Watchdog 7 on pin 15 and line 23, which runs. -/
def sDog : State := reg1 (aPrst1 (0xC0 + 8 * 7)) 0x18F17 { sLine true with clk := 1000, prst := { (sLine true).prst with wdogs := [(7, Wdog.reset)] } }

theorem witness_PowerRequestsWakesAndWatchdogs :
    ((sPwr .active none).admits 0 (pg 0x1D 0x40) = true ∧ (sPwr .active none).pwrCheck .standby = stOk ∧ (sPwr .active none).pwrCheck .retain = stOk ∧
      (sPwr .standby none).admits 0 (pg 0x1D 0x40) = true ∧ (sPwr .standby none).pwrCheck .active = stOk ∧ (sPwr .active none).pwrCheck .active ≠ stOk) ∧
    ((sPwr .active (some .standby)).pwr.pending = some .standby ∧ (sPwr .standby (some .active)).pwr.pending = some .active ∧
      (sPwr .active (some .retain)).pwr.pending = some .retain ∧ sRt.pwr.pending = none) ∧
    ((sWake false false).wakesBy 0 = true ∧ (sWake false false).wakesBy 4 = true ∧ sRt.wakesBy 0 = false ∧ (sLink 0).hq.up = true ∧ sRt.hq.up = false ∧
      (sWake true false).wakeLate = true ∧ (sWake false false).wakeLate = false) ∧
    (sRt.prst.gpIn.getLsbD 15 = false ∧ (reg1 (pg 0x2D 0x44) 0x8000 sRt).bitOf (pg 0x2D 0x44) 15 = true ∧ sRt.wakesBy 1 = false ∧
      (reg1 (pg 0x2D 0x50) 0x8000 (reg1 (pg 0x2D 0x44) 0 (sWake false false))).bitOf (pg 0x2D 0x50) 15 = true ∧
      (reg1 (pg 0x2D 0x50) 0x8000 (reg1 (pg 0x2D 0x44) 0 (sWake false false))).bitOf (pg 0x2D 0x44) 15 = false ∧ (sWake false false).wakesBy 1 = true ∧
      Word.field (sDog.wdogCfg 7) 11 8 = 15 ∧ Word.field (sDog.wdogCfg 0) 11 8 ≠ 15) ∧
    (sDog.wdogRuns 7 = true ∧ (sDog.wdog 7).since + 1000 * Word.field (sDog.wdogCfg 7) 31 16 ≤ sDog.clk ∧
      { sDog with clk := 999 }.clk < (sDog.wdog 7).since + 1000 * Word.field (sDog.wdogCfg 7) 31 16 ∧ sRt.wdogRuns 7 = false) := by decide

/-- The recorder as given. -/
def sFlr (f : FlrState → FlrState) : State := { sRt with flr := f sRt.flr }
/-- State RETURN with its rights granted and a replay image named. -/
def sRet : State := reg1 (pg 0x29 0x70) 1 { inLc .ret sRt with lcf := { (inLc .ret sRt).lcf with granted := 0x1FFF } }

theorem witness_ExportsReplaysAndBoardEvents :
    (sRt.coreUp = true ∧ (sTamp id .retain).coreUp = false ∧ (sFlr (fun f => { f with replay := .running })).flr.replay = .running ∧
      (sFlr (fun f => { f with replay := .running })).coreUp = true ∧ isHart 4 = true ∧ sRt.admits 0 (pg 0x29 0x44) = true) ∧
    (sRt.admits 0 (pg 0x29 0x4C) = true ∧ sRt.expMay 0 = true ∧ sRt.flr.exp ≠ .running ∧ sRt.admits 1 (pg 0x29 0x4C) = true ∧ sRt.expMay 1 = false ∧
      (sFlr (fun f => { f with exp := .running })).admits 0 (pg 0x29 0x4C) = true ∧ (sFlr (fun f => { f with exp := .running })).flr.exp = .running) ∧
    ((sFlr (fun f => { f with exp := .running, expWin := true, expMaster := 0, expData := zeros 8 })).arrives 0 0x29 = true ∧
      (sFlr (fun f => { f with exp := .running, expWin := true, expMaster := 0, expData := zeros 8 })).expReads 0 = true ∧
      (sFlr (fun f => { f with expPos := 0, expData := zeros 5 })).flr.expPos + 4 < (sFlr (fun f => { f with expPos := 0, expData := zeros 5 })).flr.expData.length ∧
      (sFlr (fun f => { f with expPos := 4, expData := zeros 8 })).flr.expData.length ≤ (sFlr (fun f => { f with expPos := 4 })).flr.expPos + 4 ∧
      sRt.expReads 0 = false ∧ (sFlr (fun f => { f with expTamper := true })).flr.expTamper = true) ∧
    ((sFlr (fun f => { f with exp := .running, expWin := false })).flr.expWin = false) ∧
    (sRt.admits 0 (pg 0x29 0x64) = true ∧ sRt.replayMay 0 = false ∧ sRet.admits 0 (pg 0x29 0x64) = true ∧ sRet.replayMay 0 = true ∧ sRet.cis.inflight = none ∧
      (cis (fun c => { c with inflight := some 31 }) sRet).replayMay 0 = true ∧ (cis (fun c => { c with inflight := some 31 }) sRet).cis.inflight ≠ none ∧ sRt.flr.replay ≠ .running) := by decide

/-! ### The whole block -/

theorem witness_AnEmptyQueueLetsAMicrosecondPass : State.reset.pending = [] ∧ State.reset.canonical = true := by decide
/-! ### Caravan -/

theorem fHead_append (x k : Bytes) (h : k.length = 32) : fHead (x ++ k) = x := by
  simp [fHead, h]
theorem tag_append (x k : Bytes) (h : k.length = 32) : (x ++ k).drop ((x ++ k).length - 32) = k := by
  simp [h]
/-- A frame made with the receiving key has a good tag. -/
theorem tagGood_frameOf (s : State) (p ver credits seq : Nat) (e : CvnOut) :
    s.tagGood p (frameOf (s.recvKey p) ver e credits seq) = true := by
  unfold State.tagGood frameOf
  rw [fHead_append _ _ (by simp [kmac256, Config.take]), tag_append _ _ (by simp [kmac256, Config.take])]
  simp

/-- A port that is UP, of version 2, and one in the handshake that has derived its keys or not. -/
def pUp : CvnPort := { CvnPort.reset with st := .up, lock := true, ver := 2, tx := 16, rxFree := 16, rxSeq := 1, txSeq := 1 }
def pHs (t : Bytes) : CvnPort := { CvnPort.reset with st := .handshake, lock := true, ver := 2, t := t }
/-- Caravan with its configuration, its ports and its address as given; the rack key is in slot 0. -/
def sCvn (cfg : Word) (addr : Nat) (ps : List (Nat × CvnPort)) : State :=
  reg1 (aCvn 0 0x40) cfg { sRt with cvn := { sRt.cvn with ports := ps, addr := addr } }
def ups : List (Nat × CvnPort) := [(0, pUp), (1, pUp), (2, pUp)]
def sRack (cfg : Word) (ps : List (Nat × CvnPort)) : State :=
  reg1 (aCvn 0 0x58) 0x10000 { sCvn cfg 0 ps with cel := { sRt.cel with slots := [(0, { st := .loaded, gen := 1, ctx := { ctxOne 3 2 with owner := 0 } })] } }
/-- A frame of version 2 that port `p` of `s` receives as the second of its link. -/
def fr (s : State) (p : Nat) (e : CvnOut) : CvnFrame := { bytes := frameOf (s.recvKey p) 2 e 1 2, lat := 0 }
/-- A HELLO of version bits and role. -/
def fHello (vers role : Nat) : HelloFrame := { bytes := helloFrame 2 1 (sRt.helloBody vers role (zeros 96) (zeros 1568)), lat := 0 }

theorem witness_LinkPortsComeUpByHandshakeAndFailByCause :
    ((sCvn 0x271 0 ups).admits 0 (aCvn 0 0x40) = true ∧ Word.bit 0x270 0 = false ∧ Word.bit 0x271 0 = true ∧ sRt.pwr.power = .active ∧ sRt.pwr.pending = none ∧
      sRt.pwr.holdup = false ∧ Word.bit 0x231 (4 + 2) = false ∧ (sRt.link 2).st = .down ∧ ((sCvn 0x271 0 ups).link 2).st ≠ .down) ∧
    (sRt.linkOn 2 = false ∧ (sCvn 0x271 0 ups).linkOn 2 = true ∧ (sRt.link 2).st ≠ .up ∧ (sRt.link 2).st ≠ .handshake) ∧
    ((sRack 0x271 [(2, pHs [])]).helloTaken 2 (fHello 3 0).bytes = true ∧ versionOf (Bytes.num (fBody (fHello 3 0).bytes) 0 1) (sRack 0x271 []).maxVer = 2 ∧
      (sRack 0x271 [(2, pHs [])]).helloTaken 2 (fHello 0 0).bytes = true ∧ versionOf (Bytes.num (fBody (fHello 0 0).bytes) 0 1) (sRack 0x271 []).maxVer = 0 ∧
      versionOf (Bytes.num (fBody (fHello 3 0).bytes) 0 1) (sRack 0x171 []).maxVer = 1 ∧ (sRack 0x271 [(1, pHs [])]).helloTaken 1 (fHello 3 1).bytes = true ∧
      Bytes.num (fBody (fHello 3 1).bytes) 1 1 ≠ 0 ∧ Bytes.num (fBody (fHello 3 0).bytes) 1 1 = 0) ∧
    (sRt.rackKey = none ∧ (sRack 0x271 []).secretRight = false ∧ { sRack 0x271 [(2, pHs [])] with lcf := sRet.lcf }.secretRight = true ∧ { sRack 0x271 [(2, pHs [])] with lcf := sRet.lcf }.helloTaken 2 (fHello 3 0).bytes = true ∧ (sRack 0x271 [(2, pHs [])]).rackKey = some (zeros 32) ∧ (sRack 0x271 [(2, pHs [])]).allocAt 0x45 = some 1) ∧
    ((sRack 0x271 [(0, pHs [])]).helloTaken 0 (fHello 2 1).bytes = true ∧ Bytes.num (fBody (fHello 2 1).bytes) 0 1 = 2 ∧ 2 ≤ (sRack 0x271 []).maxVer ∧
      Bytes.num (fBody (fHello 2 1).bytes) 1 1 = 1 ∧ (sRack 0x271 [(0, pHs [])]).helloTaken 0 (fHello 2 0).bytes = true ∧ Bytes.num (fBody (fHello 2 0).bytes) 1 1 ≠ 1 ∧
      (sRack 0x271 [(0, pHs [])]).helloTaken 0 (fHello 3 1).bytes = true ∧ Bytes.num (fBody (fHello 3 1).bytes) 0 1 = 3) ∧
    (((sCvn 0x271 0 [(2, pHs [])]).link 2).st = .handshake ∧ ((sCvn 0x271 0 [(2, pHs [])]).link 2).lockAt + 10000 ≤ { sRt with clk := 10000 }.clk ∧ sRt.clk < 0 + 10000) ∧
    ({ sCvn 0x271 0 [(2, { pUp with key := 0x10000 })] with cel := (sKey 0xA).cel }.liveH { pUp with key := 0x10000 }.key = true) ∧
    (sRt.admits 0 (aCvn 1 0x70) = true ∧ Word.bit 4 2 = true ∧ (sCvn 0x271 0 [(2, pHs [])]).admits 0 (aCvn 1 0x70) = true ∧ (sCvn 0x271 0 [(2, pHs [])]).linkOn 2 = true ∧ ((sCvn 0x271 0 [(2, pHs [])]).link 2).lock = true ∧
      ((sCvn 0x271 0 [(2, { CvnPort.reset with st := .failed })]).link 2).lock = false ∧ ((sCvn 0x271 0 [(2, { CvnPort.reset with st := .failed })]).link 2).st = .failed) ∧
    ((CvnPort.reset).st ≠ .failed ∧ { CvnPort.reset with st := .failed }.st = .failed) ∧
    (fFunc (fr (sCvn 0x271 0 ups) 2 (cvnOut 7 1 0 [])).bytes = 7 ∧ lenOk (fr (sCvn 0x271 0 ups) 2 (cvnOut 7 1 0 [])).bytes = true ∧
      fFunc ((fr (sCvn 0x271 0 ups) 2 (cvnOut 7 1 0 [])).bytes ++ [0]) = 7 ∧ lenOk ((fr (sCvn 0x271 0 ups) 2 (cvnOut 7 1 0 [])).bytes ++ [0]) = false ∧
      ((sCvn 0x271 0 ups).link 2).tagFails < 7 ∧ 7 ≤ { pUp with tagFails := 7 }.tagFails) ∧
    (sRt.cvnUp 2 = false ∧ (sCvn 0x271 0 [(2, { pUp with owed := 1 })]).cvnUp 2 = true ∧ 0 < ((sCvn 0x271 0 [(2, { pUp with owed := 1 })]).link 2).owed ∧
      ((sCvn 0x271 0 [(2, { pUp with owed := 1 })]).link 2).waiting.any (mayXmit 16) = false ∧
      [cvnOut 7 1 0 []].any (mayXmit 16) = true) := by decide

/-- The CONFIRM that port 2 expects, one with a wrong MAC, and a frame with a wrong tag. -/
def cfBody : Bytes := kmac256 ((sCvn 0x271 0 [(2, pHs [1])]).recvKey 2) [1] 32 (ascii "MX-CVNC")
def fCf (body : Bytes) : CvnFrame := { bytes := frameOf ((sCvn 0x271 0 [(2, pHs [1])]).recvKey 2) 2 (cvnOut 1 1 0 body) 0 1, lat := 0 }
theorem witness_LinkPortsComeUpByHandshakeAndFailByCause_confirm :
    (sCvn 0x271 0 [(2, pHs [1])]).confirmTaken 2 (fCf cfBody).bytes = true ∧ fBody (fCf cfBody).bytes = cfBody := by
  refine ⟨?_, rfl⟩
  simp only [State.confirmTaken, fCf, tagGood_frameOf]
  decide
theorem map_succ_ne (x : Byte) (l : Bytes) : (x :: l).map (· + 1) ≠ x :: l := by
  intro h
  have : x + 1 = x := by simpa using congrArg (·.headD 0) h
  clear h; revert this; revert x; decide
theorem witness_LinkPortsComeUpByHandshakeAndFailByCause_wrong :
    (sCvn 0x271 0 [(2, pHs [1])]).confirmTaken 2 (fCf (cfBody.map (· + 1))).bytes = true ∧ fBody (fCf (cfBody.map (· + 1))).bytes ≠ cfBody := by
  refine ⟨?_, ?_⟩
  · simp only [State.confirmTaken, fCf, tagGood_frameOf]
    decide
  · have h : fBody (fCf (cfBody.map (· + 1))).bytes = cfBody.map (· + 1) := rfl
    have hc : ∃ x l, cfBody = x :: l := ⟨_, _, rfl⟩
    obtain ⟨x, l, e⟩ := hc
    rw [h, e]
    exact map_succ_ne x l
/-- A CREDIT frame is accepted, and one whose tag is another one is not. -/
theorem witness_LinkPortsComeUpByHandshakeAndFailByCause_credit :
    (sCvn 0x271 0 ups).frameOk 2 7 (fr (sCvn 0x271 0 ups) 2 (cvnOut 7 1 0 [])).bytes true = true := by
  simp only [State.frameOk, fr, tagGood_frameOf]
  decide
theorem witness_LinkPortsComeUpByHandshakeAndFailByCause_tag (x k : Bytes) (hk : kmac256 ((sCvn 0x271 0 ups).recvKey 2) x 32 (ascii "MX-CVN") = k) :
    (sCvn 0x271 0 ups).tagGood 2 (x ++ k.map (· + 1)) = false := by
  have hl : (k.map (· + 1)).length = 32 := by rw [List.length_map, ← hk]; simp [kmac256, Config.take]
  unfold State.tagGood
  rw [fHead_append _ _ hl, tag_append _ _ hl, hk]
  cases k with
  | nil => simp at hl
  | cons y l => exact beq_eq_false_iff_ne.2 (fun h => map_succ_ne y l h.symm)

/-- A SWEEP body, and a frame that carries it ahead of its deadline. -/
def bSweep : SweepBody := { count := 1, policy := 0, floor := 0, fold := zeros 48, last := zeros 64, exc := [] }
def eSweep (flags : Nat) (hc : Byte) : CvnOut := { cvnOut 3 1 0 bSweep.bytes with flags := flags, epoch := 5, pos := [hc, 0, 0, 0, 0, 0, 0, 0] }
/-- The root or a node with the ports UP, and a sweep as given. -/
def sWalk (cfg : Word) (f : CvnState → CvnState) : State := { sCvn cfg 3 ups with cvn := f (sCvn cfg 3 ups).cvn }

theorem witness_WalksTrainTimeAndCountersignTheRack :
    ((sWalk 0x273 id).admits 0 (aCvn 0 0x48) = true ∧ (sWalk 0x273 id).cvnRoot = true ∧ (sWalk 0x273 id).cvn.sweep ≠ 1 ∧ (sWalk 0x273 id).linkIdle (sWalk 0x273 id).rootPort 0 = true ∧
      (sCvn 0x273 1 []).cvnUp 1 = false ∧ (sCvn 0x273 1 []).admits 0 (aCvn 0 0x48) = true ∧ (sWalk 0x271 id).cvnRoot = false ∧ (sWalk 0x271 id).admits 0 (aCvn 0 0x48) = true) ∧
    (Bytes.num (fBody (fr (sWalk 0x271 id) 0 (cvnOut 2 1 0 (trainBody 0xFFF 0 1))).bytes) 0 2 ≤ 0xFFF ∧
      0xFFF < Bytes.num (fBody (fr (sWalk 0x271 id) 0 (cvnOut 2 1 0 (trainBody 0x1000 0 1))).bytes) 0 2 ∧ (sWalk 0x273 id).walkNext (some 0) false = none) ∧
    ((sWalk 0x277 id).cvnOn = true ∧ (sWalk 0x277 id).bitOf (aCvn 0 0x40) 2 = true ∧ (sWalk 0x277 id).linkIdle (sWalk 0x277 id).rootPort 0 = true ∧ sRt.cvnOn = false ∧ (sWalk 0x277 id).cvnRoot = true ∧
      (sWalk 0x277 id).timeDue = true ∧ (sWalk 0x277 (fun c => { c with timeHc := some sRt.cis.hc })).timeDue = false) ∧
    (((sWalk 0x271 (fun c => { c with calN := 0 + 2 })).cvn.calN = 0 + 2) ∧ (sWalk 0x271 (fun c => { c with calN := 1 })).cvn.calN = 1 ∧ sRt.admits 0 (aCvn 3 0x50) = true) ∧
    ((sWalk 0x271 id).cvn.addr ≠ 0 ∧ fFlags (fr (sWalk 0x271 id) 0 (eSweep 0 1)).bytes = 0 ∧
      (sWalk 0x271 id).rackAhead (Bytes.num (fr (sWalk 0x271 id) 0 (eSweep 0 1)).bytes 0x10 4) (Bytes.num (fr (sWalk 0x271 id) 0 (eSweep 0 1)).bytes 0x14 2) = true ∧
      (sWalk 0x271 id).walkNext (some 0) false = some (2, false) ∧ ((sWalk 0x271 id).link 0).waiting = [] ∧ (sWalk 0x271 id).linkIdle 2 0 = true ∧
      (fFlags (fr (sWalk 0x271 id) 0 (eSweep 2 1)).bytes).testBit 1 = true ∧ (fFlags (fr (sWalk 0x271 id) 0 (eSweep 4 1)).bytes).testBit 2 = true) ∧
    ((sWalk 0x273 (fun c => { c with sweep := 1, epoch := 5 })).cvn.sweep = 1 ∧ wd (fEpoch (fr (sWalk 0x273 id) 0 (eSweep 0 1)).bytes) = (5 : Word) ∧
      (sWalk 0x273 (fun c => { c with sweep := 1, epoch := 5 })).rackAhead 1 0 = true ∧ (sWalk 0x273 (fun c => { c with sweep := 1, epoch := 5 })).walkNext (some 0) (0 % 2 == 1) = none ∧
      (sWalk 0x273 id).cvn.sweep ≠ 1) ∧
    ((reg1 (aCvn 2 0x40) 0 (sWalk 0x273 (fun c => { c with sweep := 1, sweepHc := 0 }))).rackAhead ((0 + (reg1 (aCvn 2 0x40) 0 (sWalk 0x273 id)).deadlineHc) % 2 ^ 32) 0 = false ∧
      (reg1 (aCvn 2 0x40) 1 (sWalk 0x273 id)).rackAhead ((0 + (reg1 (aCvn 2 0x40) 1 (sWalk 0x273 id)).deadlineHc) % 2 ^ 32) 0 = true) ∧
    ((sWalk 0x271 (fun c => { c with missAt := [(0, 0)] })).cvn.missAt = [(0, 0)] ∧ (sWalk 0x271 (fun c => { c with missAt := [(0, 0)] })).cvnOn = true ∧ (sWalk 0x271 id).rackAhead 0 0 = false ∧ (sWalk 0x271 id).rackAhead 1 0 = true ∧ sRt.cvn.missAt = []) ∧
    ((sWalk 0x271 (fun c => { c with exc := [7] })).arrives 0 0x182 = true ∧ (sWalk 0x271 id).fldOf (aCvn 2 0x54) 8 0 < (sWalk 0x271 (fun c => { c with exc := [7] })).cvn.exc.length) := by decide
/-- The frames named above are accepted. -/
theorem witness_WalksTrainTimeAndCountersignTheRack_frames :
    (sWalk 0x271 id).frameOk 0 2 (fr (sWalk 0x271 id) 0 (cvnOut 2 1 0 (trainBody 0xFFF 0 1))).bytes true = true ∧
    (sWalk 0x271 id).frameOk 0 2 (fr (sWalk 0x271 id) 0 (cvnOut 2 1 0 (trainBody 0x1000 0 1))).bytes true = true ∧
    (sWalk 0x273 id).frameOk 0 2 (fr (sWalk 0x273 id) 0 (cvnOut 2 1 0 (trainBody 3 0 1))).bytes true = true ∧
    (sWalk 0x271 id).frameOk 2 2 (fr (sWalk 0x271 id) 2 (cvnOut 2 1 0 (trainBody 3 0 1))).bytes true = true ∧
    (sWalk 0x271 (fun c => { c with calN := 1 })).frameOk 0 5 (fr (sWalk 0x271 (fun c => { c with calN := 1 })) 0 (cvnOut 5 1 0 [])).bytes true = true ∧
    (sWalk 0x271 (fun c => { c with calN := 2 })).frameOk 0 5 (fr (sWalk 0x271 (fun c => { c with calN := 2 })) 0 (cvnOut 5 1 0 [])).bytes true = true ∧
    (sWalk 0x271 id).frameOk 2 5 (fr (sWalk 0x271 id) 2 (cvnOut 5 1 0 [])).bytes true = true ∧
    (sWalk 0x271 id).frameOk 0 3 (fr (sWalk 0x271 id) 0 (eSweep 0 1)).bytes true = true ∧
    (sWalk 0x271 id).frameOk 0 3 (fr (sWalk 0x271 id) 0 (eSweep 2 1)).bytes true = true ∧
    (sWalk 0x273 (fun c => { c with sweep := 1, epoch := 5 })).frameOk 0 3 (fr (sWalk 0x273 (fun c => { c with sweep := 1, epoch := 5 })) 0 (eSweep 0 1)).bytes true = true := by
  simp only [State.frameOk, fr, tagGood_frameOf]
  decide

/-- A RECOVER frame to an address, one fragment of 8 bytes; and the last fragment of a NOTICE. -/
def eRec (src dst : Nat) : CvnOut := cvnOut 6 src dst (zeros 8)
def eNote (dst : Nat) : CvnOut := { cvnOut 4 1 dst (zeros 1536) with epoch := 1, frag := 0x33 }
/-- The receive buffer with the object given. -/
def sBuf (cfg : Word) (o : Bytes) : State := sWalk cfg (fun c => { c with rxFull := true, rxFunc := 6, rxSrc := 1, rxBuf := o })
/-- A TX buffer at the start of data RAM, with LENGTH and DST as given; a sequence number of 1 stands in it. -/
def sSend (w : Word) : State := reg1 (aCvn 3 0x60) 0x10400000 (reg1 (aCvn 3 0x64) w { sWalk 0x271 id with ram := [(0x10400008, 1)] })

theorem witness_NoticesAndRecoveriesPassTheReceiveBuffer :
    ((sWalk 0x273 id).nrAct 0 (fr (sWalk 0x273 id) 0 (eRec 3 0xFFF)).bytes = .consume ∧ (sWalk 0x271 id).nrAct 0 (fr (sWalk 0x271 id) 0 (eRec 1 3)).bytes = .deliver ∧
      (sWalk 0x271 id).nrAct 1 (fr (sWalk 0x271 id) 1 (eRec 1 1)).bytes = .pass [0] ∧ ((sWalk 0x271 id).link 1).waiting = [] ∧ (sWalk 0x271 id).linkIdle 0 4 = true ∧
      2 ≤ ((sWalk 0x271 id).link 0).ver ∧ (sBuf 0x271 []).nrAct 0 (fr (sBuf 0x271 []) 0 (eRec 1 3)).bytes = .deliver ∧ (sBuf 0x271 []).cvn.rxFull = true ∧
      fIndex (fr (sWalk 0x271 id) 0 (eRec 1 3)).bytes = fLast (fr (sWalk 0x271 id) 0 (eRec 1 3)).bytes ∧ (sWalk 0x271 id).cvn.rxFull = false ∧
      bufInRam (reg1 (aCvn 3 0x5C) 0x1046E000 (sWalk 0x271 id)).rxBase = true ∧ bufInRam (sWalk 0x271 id).rxBase = false) ∧
    ((sBuf 0x271 []).admits 0 (aCvn 0 0x48) = true ∧ (sBuf 0x271 []).noneHeld = true ∧ (sBuf 0x271 []).cvn.rxFunc = 6 ∧ (sBuf 0x271 []).cvn.rxDst ≠ bcast ∧
      (sWalk 0x271 (fun c => { c with rxFull := true, rxFunc := 4 })).cvn.rxFunc = 4 ∧ (sWalk 0x271 id).admits 0 (aCvn 0 0x48) = true) ∧
    ((sSend 7488).admits 0 (aCvn 0 0x48) = true ∧ bufInRam (sSend 7488).txBase = true ∧ (sSend 7488).fldOf (aCvn 3 0x64) 12 0 = 7488 ∧ Bytes.num ((sSend 7488).bytes (sSend 7488).txBase 12) 8 4 = 1 ∧
      (sSend 7488).noticeSeq < 1 ∧ (sSend 7488).cvnRoot = false ∧ (sSend 7488).linkIdle 0 7 = true ∧ bufInRam (sWalk 0x271 id).txBase = false) ∧
    ((sSend 0x30008).fldOf (aCvn 3 0x64) 12 0 = 8 ∧ (sSend 0x30008).fldOf (aCvn 3 0x64) 27 16 = (sSend 0x30008).cvn.addr ∧ (sSend 0x30008).fldOf (aCvn 3 0x64) 27 16 ≠ bcast ∧ (sSend 0x30008).admits 0 (aCvn 0 0x48) = true ∧
      (sSend 0x30008).cvn.rxFull = false ∧ (sSend 0x27C0).fldOf (aCvn 3 0x64) 12 0 = 1984 ∧ (sSend 0x27C0).fldOf (aCvn 3 0x64) 27 16 < (sSend 0x27C0).cvn.addr ∧
      (sSend 0x27C0).linkIdle 0 4 = true ∧ 2 ≤ ((sSend 0x27C0).link 0).ver ∧ (sSend 7).fldOf (aCvn 3 0x64) 12 0 < 8 ∧ (sSend 0x27C0).admits 0 (aCvn 0 0x48) = true) ∧
    ((sBuf 0x271 [1, 63, 0, 0, 0, 0, 0, 0]).recovers 1 (some 63) = true ∧ (sBuf 0x271 [2, 63, 0, 0, 0, 0, 0, 0]).recovers 2 (some 63) = true ∧
      (sBuf 0x271 [3, 63, 0, 0, 0, 0, 0, 0]).recovers 3 (some 63) = true ∧ (sBuf 0x271 [3, 63, 0, 0, 0, 0, 0, 0]).rxObject.drop 8 = [] ∧
      (sBuf 0x271 [4, 0, 0, 0, 0, 0, 0, 0]).recovers 4 none = true ∧ (sBuf 0x271 []).cvn.addr ≠ 0 ∧ (sBuf 0x271 []).cvn.addr ≠ 1 ∧ (sBuf 0x271 []).linkIdle 0 4 = true ∧
      (sRt.recovers 1 (some 63) = false ∧ sRt.recovers 2 (some 63) = false ∧ sRt.recovers 3 (some 63) = false ∧ sRt.recovers 4 none = false)) := by decide
/-- The frames named above are accepted, and one of a NOTICE, whose last fragment follows the ones before it. -/
theorem witness_NoticesAndRecoveriesPassTheReceiveBuffer_frames :
    (sWalk 0x273 id).frameOk 0 6 (fr (sWalk 0x273 id) 0 (eRec 3 0xFFF)).bytes ((sWalk 0x273 id).nrOk 0 (fr (sWalk 0x273 id) 0 (eRec 3 0xFFF)).bytes) = true ∧
    (sWalk 0x271 id).frameOk 0 6 (fr (sWalk 0x271 id) 0 (eRec 1 3)).bytes ((sWalk 0x271 id).nrOk 0 (fr (sWalk 0x271 id) 0 (eRec 1 3)).bytes) = true ∧
    (sWalk 0x271 id).frameOk 1 6 (fr (sWalk 0x271 id) 1 (eRec 1 1)).bytes ((sWalk 0x271 id).nrOk 1 (fr (sWalk 0x271 id) 1 (eRec 1 1)).bytes) = true ∧
    (sBuf 0x271 []).frameOk 0 6 (fr (sBuf 0x271 []) 0 (eRec 1 3)).bytes ((sBuf 0x271 []).nrOk 0 (fr (sBuf 0x271 []) 0 (eRec 1 3)).bytes) = true ∧
    (sBuf 0x271 []).frameOk 0 4 (fr (sBuf 0x271 []) 0 (eNote 3)).bytes ((sBuf 0x271 []).nrOk 0 (fr (sBuf 0x271 []) 0 (eNote 3)).bytes) = true := by
  simp only [State.frameOk, fr, tagGood_frameOf]
  decide

/-! ### Single commands -/

/-- The state after one command that waits alone. -/
def after (c : Instr) (s : State) : State := match step { s with pending := [c] } with | .next t => t | .fault _ => s | .refused _ => s

/-- R71: a read of a free semaphore takes it for the reading master; R72: only its owner frees it. -/
theorem test_semaphore_taken_once : (after (.semRead 1 63) sRt).sem 63 = some 1 ∧ (after (.semRead 2 63) (after (.semRead 1 63) sRt)).sem 63 = some 1 := by decide
theorem test_semaphore_freed_by_its_owner : (after (.semWrite 2 63 0) (after (.semRead 1 63) sRt)).sem 63 = some 1 ∧
    (after (.semWrite 1 63 0) (after (.semRead 1 63) sRt)).sem 63 = none := by decide
/-- R106: a device reset requests every line. -/
theorem test_device_reset_holds : (after .deviceReset (sLine true)).prst.holdReq = 0xFFFFFF ∧ (after .deviceReset (sLine true)).prst.ready = 0 := by decide
/-- R616: an expired watchdog forces its line. -/
theorem test_watchdog_forces : (after (.watchdogExpire 7) sDog).prst.force = 0x800000 := by decide
/-- R520: a message moves to the receiver's side; R521: a take empties it. -/
theorem test_message_moves : ((after (.chSend 1 31) (sChan false 0x400001)).chan 31).full = true ∧
    ((after (.chSend 1 31) (sChan false 0x400001)).chan 31).rxHdr = 0x400001 := by decide
theorem test_take_empties : ((after (.chTake 2 31) (after (.chSend 1 31) (sChan false 0x400001))).chan 31).full = false := by decide
/-- R584: loops are only armed. -/
theorem test_loops_only_armed : (after (.loopArmWrite 0 1) (after (.loopArmWrite 0 4) sRt)).tamp.loopArm = 5 := by decide

end Sys2Proof.Tests
end

section
/-! PROOFS. Register addresses, and the semaphores of SYS page 2 (R70 to R72, R624): what a 32-bit read of one does and what a write does. -/
namespace Sys2Proof.Machine

/-! ### Register addresses -/

theorem pg_div (page off : Nat) (h : off < 4096) : pg page off / 4096 = page := by
  simp only [pg]; omega

theorem pg_mod (page off : Nat) (h : off < 4096) : pg page off % 4096 = off := by
  simp only [pg]; omega

@[simp] theorem pg_inj (p q off : Nat) : pg p off = pg q off ↔ p = q := by
  simp only [pg]; omega

/-! ### Semaphore registers -/

/-- SYS page 2 (R78). -/
def semPage : PageInfo := { kind := .sysSem, type := 1, inst := 0, page := 2, dw := 7 }

/-- The row of the 64 semaphore registers (R70). -/
def semRow : RegRow := reg 0x40 .rw (cnt := 64) (readEffect := true)

/-- The address of semaphore `n` (R70). -/
abbrev semAddr (n : Fin 64) : Nat := pg 2 (0x40 + 4 * n.val)

theorem pageAt_two : pageAt 2 = some semPage := rfl

theorem semAddr_page (n : Fin 64) : semAddr n / 4096 = 2 := pg_div _ _ (by omega)

theorem semAddr_off (n : Fin 64) : semAddr n % 4096 = 0x40 + 4 * n.val := pg_mod _ _ (by omega)

/-- The page decodes 512 bytes, more than its semaphores take (R31). -/
theorem semOff_mod_span (n : Fin 64) : (0x40 + 4 * n.val) % semPage.span = 0x40 + 4 * n.val :=
  Nat.mod_eq_of_lt (by simp only [PageInfo.span, semPage]; omega)

theorem row_semOff (n : Fin 64) : semPage.row (0x40 + 4 * n.val) = some semRow := by
  have hrow : findRow (rowsOf .sysSem) (0x40 + 4 * n.val) = some semRow :=
    List.find?_cons_of_pos (by simp [reg])
  simp [PageInfo.row, semPage, hrow]

theorem readsBack_sem (n : Fin 64) : readsBack (semAddr n) = true := by
  simp only [readsBack, rowAt, semAddr_page, semAddr_off, pageAt_two, semOff_mod_span, row_semOff]
  rfl

theorem rdBlock_sem (s : State) (m : Master) (n : Fin 64) :
    s.rdBlock m 2 semPage (0x40 + 4 * n.val) = semValue (s.sem n.val) := by
  have h140 : 0x40 + 4 * n.val ≠ 0x140 := by omega
  have h144 : 0x40 + 4 * n.val ≠ 0x144 := by omega
  simp [State.rdBlock, State.rdSys, semPage, h140, h144]

theorem readWord_sem (s : State) (m : Master) (n : Fin 64) : s.readWord m (semAddr n) = semValue (s.sem n.val) := by
  have hblock : ¬ 0x40 + 4 * n.val < 0x40 := by omega
  have hevt : semPage.isEvt (0x40 + 4 * n.val) = false := by simp [PageInfo.isEvt, semPage]
  simp only [State.readWord, semAddr_page, semAddr_off, pageAt_two, semOff_mod_span, row_semOff, rdBlock_sem, hblock, hevt]
  rfl

theorem readEff_sem (s : State) (m : Master) (n : Fin 64) : s.readEff m (semAddr n) = s.semTake m n.val := by
  have hblock : ¬ 0x40 + 4 * n.val < 0x40 := by omega
  have hidx : (0x40 + 4 * n.val - 0x40) / 4 = n.val := by omega
  simp only [State.readEff, semAddr_page, semAddr_off, pageAt_two, semOff_mod_span, row_semOff, hblock, hidx]
  rfl

/-- A 32-bit read of a semaphore takes it and answers its master, with no LOAD record (R71, R624). -/
theorem read32_sem (s : State) (m : Master) (n : Fin 64) (h : s.arrives m 2 = true) :
    s.read32 m (semAddr n) = (s.semTake m n.val).out (.readData m (semAddr n) (leBytes 4 (semValue (s.sem n.val)).toNat)) := by
  rw [State.read32_of_arrives _ _ _ (by rwa [semAddr_page]), readEff_sem, readWord_sem, State.answer,
    if_pos ⟨semAddr_page n, readsBack_sem n⟩]

/-! ### What taking a semaphore does -/

/-- Bit 31 and the owner's ID do not overlap (R71). -/
theorem semValue_some_toNat (m : Master) : (semValue (some m)).toNat = 0x80000000 + m.toNat := by
  have hm : m.toNat < 2 ^ 31 := by have := m.isLt; omega
  simp only [semValue, wd, BitVec.toNat_or, BitVec.toNat_ofNat]
  rw [Nat.mod_eq_of_lt (a := m.toNat) (by omega)]
  simpa using (Nat.two_pow_add_eq_or_of_lt hm 1).symm

@[simp] theorem State.sem_flight (s : State) (ty : Nat) (m : Master) (b : Bytes) (k : Nat) : (s.flight ty m b).sem k = s.sem k := by
  simp [State.sem]

@[simp] theorem State.sem_out (s : State) (o : Out) (k : Nat) : (s.out o).sem k = s.sem k := rfl

/-- A read leaves the semaphore with its owner, or with the reader where it was free, and no other one changes (R71). -/
theorem sem_semTake (s : State) (m : Master) (n k : Nat) :
    (s.semTake m n).sem k = if k = n then some ((s.sem n).getD m) else s.sem k := by
  unfold State.semTake
  cases hs : s.sem n with
  | none => by_cases hm : isHart m <;> simp [hm]
  | some o => by_cases hm : isHart m <;> by_cases hk : k = n <;> simp [hm, hk, hs]

/-- Only a hart's read of a semaphore writes a flight record (R624). -/
theorem flr_semTake (s : State) (m : Master) (n : Nat) (hm : isHart m = false) : (s.semTake m n).flr = s.flr := by
  unfold State.semTake
  by_cases hs : s.sem n = none <;> simp [hm, hs]

/-- What taking a semaphore can change: the semaphores, and what a flight record changes. -/
theorem semTake_recorded (s : State) (m : Master) (n : Nat) :
    s.semTake m n = { s.recorded (s.semTake m n) with sems := (s.semTake m n).sems } := by
  unfold State.semTake
  by_cases hs : s.sem n = none <;> by_cases hm : isHart m <;>
    apply State.ext <;> simp [hs, hm, State.recorded, State.routed]

/-! ### The two commands -/

theorem exec_semRead (s : State) (m : Master) (n : Fin 64) (h : s.arrives m 2 = true) :
    exec (.semRead m n) s =
      .next ((s.semTake m n.val).out (.readData m (semAddr n) (leBytes 4 (semValue (s.sem n.val)).toNat))) :=
  congrArg _ (read32_sem s m n h)

theorem exec_semWrite (s : State) (m : Master) (n : Fin 64) (v : Word) (h : s.admits m (semAddr n) = true) :
    exec (.semWrite m n v) s = .next (s.semWrite m n.val v) :=
  congrArg _ (State.guarded_of_admits s m _ _ h)

/-- A write of a semaphore that does not free it is a page error and nothing else (R72). -/
theorem semWrite_of_not_free (s : State) (m : Master) (n : Fin 64) (v : Word) (h : ¬(s.sem n.val = some m ∧ v = 0)) :
    s.semWrite m n.val v = s.err 2 (0x40 + 4 * n.val) .semOwner m := by
  rw [State.semWrite, if_neg h, State.errAt, semAddr_page, semAddr_off]

/-- Settles O1. A read that arrives takes the semaphore and answers (`exec_semRead`); an admitted write frees it or is a page error
(`semWrite_of_not_free`). -/
theorem semaphoreReadTakesAndOwnerWriteFrees : Obligations.SemaphoreReadTakesAndOwnerWriteFrees := by
  unfold Obligations.SemaphoreReadTakesAndOwnerWriteFrees
  intro s m n
  refine ⟨fun h => ⟨_, exec_semRead s m n h, ?taken, ?others, ?answer, fun hm => ?noRecord, ?frame⟩,
    fun v h => ⟨_, exec_semWrite s m n v h, fun hfree => ?freed, fun hfree => ?refused⟩⟩
  case taken => simp [sem_semTake]
  case others => exact fun k hk => by simp [sem_semTake, hk]
  case answer =>
    cases s.sem n.val with
    | none => simp [State.out, semValue]
    | some o => simp [State.out, semValue_some_toNat]
  case noRecord => simpa using flr_semTake s m n.val hm
  case frame => exact congrArg (State.out · _) (semTake_recorded s m n.val)
  case freed => rw [State.semWrite, if_pos hfree]
  case refused =>
    rw [semWrite_of_not_free s m n v hfree]
    refine ⟨by simp, by simp [State.reg_err], fun a ha => by simp [State.reg_err, ha], ?_, State.err_routed ..⟩
    simp [State.evt_err, evSys]

end Sys2Proof.Machine
end

section
/-! PROOFS. Page headers (R22 to R28, R33, R38 to R42, R51, R69, R75, R76): what PAGE_LOCK, PAGE_ERR_ACK and EVT_FORCE do in one page, in the
members of a broadcast or group page, and in unmapped space. -/
namespace Sys2Proof.Machine

/-! ### What each header write does in its page -/

theorem reg_setLock (s : State) (page : Nat) (v : Word) (a : Nat) :
    (s.setLock page v).reg a = if a = pg page 0xC then s.reg a ||| (v &&& 0xF) else s.reg a := by
  show (s.setReg (pg page 0xC) _).reg a = _
  by_cases ha : a = pg page 0xC <;> simp [ha]

/-- Setting lock bits discards the buffered values of exactly the registers that are frozen then (R26, R51). -/
theorem bufAt_setLock (s : State) (page : Nat) (v : Word) (a : Nat) :
    (s.setLock page v).bufAt a =
      if a / 4096 = page ∧ (s.setLock page v).frozen page (lockOf a) = true then none else s.bufAt a := by
  have hkeep : (s.setLock page v).bufAt a =
      if !(a / 4096 == page && (s.setLock page v).frozen page (lockOf a)) then s.bufAt a else none :=
    SMap.get_filter (fun _ => none) s.buf (fun a => !(a / 4096 == page && (s.setLock page v).frozen page (lockOf a))) a
  rw [hkeep]
  by_cases hp : a / 4096 = page <;> cases (s.setLock page v).frozen page (lockOf a) <;> simp [hp]

/-- PAGE_ERR.COUNT, and what an acknowledge is compared with (R38, R41). -/
theorem field_count (v : Word) : Word.field v 7 0 = v.toNat % 256 := by
  simp [Word.field]

theorem ackErr_of_count (s : State) (page : Nat) (v : Word) (h : v.toNat % 256 = (s.reg (pg page 0x18)).toNat % 256) :
    s.ackErr page v = (s.setReg (pg page 0x18) 0).setReg (pg page 0x1C) (v &&& 0xFF) := by
  rw [State.ackErr, field_count, field_count, if_pos h]

theorem ackErr_of_not_count (s : State) (page : Nat) (v : Word) (h : v.toNat % 256 ≠ (s.reg (pg page 0x18)).toNat % 256) :
    s.ackErr page v = s := by
  rw [State.ackErr, field_count, field_count, if_neg h]

/-- The sources of a page that a word written to EVT_FORCE names (R69). -/
def forcedSources (i : PageInfo) (v : Word) : List Nat :=
  ((Word.ones v).filter (fun n => decide (n < i.nsrc))).map (fun n => i.src0 + n)

theorem force_in_test_or_return (s : State) (m : Master) (page : Nat) (v : Word) (i : PageInfo)
    (h : s.lcf.eff = some .test ∨ s.lcf.eff = some .ret) (hi : pageAt page = some i) :
    s.force m page v = s.counts (forcedSources i v) := by
  simp only [State.force, if_pos h, hi]; rfl

theorem force_elsewhere (s : State) (m : Master) (page : Nat) (v : Word)
    (htest : s.lcf.eff ≠ some .test) (hret : s.lcf.eff ≠ some .ret) : s.force m page v = s.err page 0x28 .state m := by
  rw [State.force, if_neg (by simp [htest, hret])]

theorem forcedSources_nodup (i : PageInfo) (v : Word) : (forcedSources i v).Nodup :=
  ((List.nodup_range.filter _).filter _).map (fun _ _ h => Nat.add_left_cancel h)

theorem mem_forcedSources (i : PageInfo) (v : Word) (n : Nat) (h32 : n < 32) (hn : n < i.nsrc) :
    i.src0 + n ∈ forcedSources i v ↔ v.getLsbD n = true := by
  simp [forcedSources, Word.ones, h32, hn]

/-! ### What a header write can change -/

/-- `t` differs from `s` in what a page error changes, if at all: registers and event delivery (R38, R40, R42). -/
def State.errFrame (s t : State) : Prop := t = { s.routed t with regs := t.regs }

/-- `t` differs from `s` in what a lock changes, if at all: registers and the values that have not applied (R26, R51). -/
def State.lockFrame (s t : State) : Prop := t = { s with regs := t.regs, buf := t.buf, slowDue := t.slowDue }

theorem State.errFrame_refl (s : State) : s.errFrame s := rfl

theorem State.errFrame_trans {s t u : State} (hst : s.errFrame t) (htu : t.errFrame u) : s.errFrame u :=
  Eq.trans htu (congrArg (fun x : State => { x.routed u with regs := u.regs }) hst)

theorem State.lockFrame_refl (s : State) : s.lockFrame s := rfl

theorem State.lockFrame_trans {s t u : State} (hst : s.lockFrame t) (htu : t.lockFrame u) : s.lockFrame u :=
  Eq.trans htu (congrArg (fun x : State => { x with regs := u.regs, buf := u.buf, slowDue := u.slowDue }) hst)

theorem errFrame_err (s : State) (page off : Nat) (k : ErrKind) (m : Master) : s.errFrame (s.err page off k m) :=
  State.err_routed ..

theorem lockFrame_setLock (s : State) (page : Nat) (v : Word) : s.lockFrame (s.setLock page v) := rfl

/-! ### Which members of a broadcast or group page take a header write -/

/-- A header write that has arrived is not refused at a page: the page is not busy, the device is not shut and the master may write its
headers (R44, R81, R141, R339, R454). -/
def State.headOpen (s : State) (m : Master) (page : Nat) : Bool :=
  match pageAt page with
  | none => false
  | some i => !(i.slow && (s.postedAt page).isSome) && !s.shut && s.headMay m i

theorem headAdmits_eq (s : State) (m : Master) (page : Nat) :
    s.headAdmits m page = (s.arrives m page && s.headOpen m page) := by
  unfold State.headAdmits State.headOpen
  cases pageAt page with
  | none => simp
  | some i => simp [Bool.and_assoc]

theorem headOpen_of_headAdmits (s : State) (m : Master) (page : Nat) (h : s.headAdmits m page = true) :
    s.headOpen m page = true := by
  rw [headAdmits_eq, Bool.and_eq_true] at h
  exact h.2

/-- Neither a page error nor a lock changes which pages take a header write. -/
theorem headOpen_congr (s t : State) (m : Master) (page : Nat) (hposted : t.posted = s.posted) (hboot : t.boot = s.boot)
    (htamp : t.tamp = s.tamp) (hlcf : t.lcf = s.lcf) : t.headOpen m page = s.headOpen m page := by
  simp only [State.headOpen, State.postedAt, State.shut, State.headMay, State.jtagMay, State.jtagAllows, State.right, State.rights,
    hposted, hboot, htamp, hlcf]

theorem headMember_of_headOpen (s : State) (m : Master) (page off : Nat) (eff : State → State) (h : s.headOpen m page = true) :
    s.headMember m page off eff = if off = 0xC then eff s else s.err page off .state m := by
  unfold State.headOpen at h
  unfold State.headMember
  cases hi : pageAt page with
  | none => simp [hi] at h
  | some i =>
    simp only [hi, Bool.and_eq_true, Bool.not_eq_true', Bool.and_eq_false_iff] at h
    obtain ⟨⟨hbusy, hshut⟩, hmay⟩ := h
    have hfree : ¬(i.slow = true ∧ (s.postedAt page).isSome = true) := by
      rintro ⟨hslow, hposted⟩; simp [hslow, hposted] at hbusy
    simp only [State.headOne, if_neg hfree, State.haltBars, hshut, hmay]
    by_cases hoff : off = 0xC <;> simp [hoff]

/-- Members that are all open to the write take the lock, or record STATE, one after the other. -/
theorem foldl_headMember (m : Master) (off : Nat) (eff : Nat → State → State) (act : State → Nat → State)
    (hact : ∀ s p, act s p = if off = 0xC then eff p s else s.err p off .state m)
    (hopen : ∀ s p q, (act s p).headOpen m q = s.headOpen m q) (l : List Nat) :
    ∀ s : State, (∀ p, p ∈ l → s.headOpen m p = true) →
      l.foldl (fun s p => s.headMember m p off (eff p)) s = l.foldl act s := by
  induction l with
  | nil => intro s _; rfl
  | cons p t ih =>
    intro s h
    have hp : s.headMember m p off (eff p) = act s p := by
      rw [headMember_of_headOpen _ _ _ _ _ (h p List.mem_cons_self), hact]
    rw [List.foldl_cons, List.foldl_cons, hp]
    exact ih _ fun q hq => by rw [hopen]; exact h q (List.mem_cons_of_mem _ hq)

/-- What a row of steps does that each change one register, that at offset `o` of the page named, by `f`. -/
theorem reg_foldl (act : State → Nat → State) (o : Nat) (f : Word → Word)
    (hreg : ∀ s p a, (act s p).reg a = if a = pg p o then f (s.reg a) else s.reg a) (l : List Nat) (a : Nat) :
    ∀ s : State, l.Nodup → (l.foldl act s).reg a = if ∃ p ∈ l, a = pg p o then f (s.reg a) else s.reg a := by
  induction l with
  | nil => intro s _; simp
  | cons p t ih =>
    intro s hn
    obtain ⟨hpt, ht⟩ := List.nodup_cons.mp hn
    rw [List.foldl_cons, ih _ ht, hreg]
    by_cases ha : a = pg p o
    · subst ha
      simp [hpt]
    · simp [ha]

/-! ### Header writes to broadcast, group and unmapped pages -/

theorem bcastMembers_nodup (page : Nat) (ms : List Nat × Option Nat) (h : bcastMembers page = some ms) : ms.1.Nodup := by
  unfold bcastMembers at h
  split_ifs at h <;> cases h <;> exact List.nodup_range.map fun _ _ e => by simpa using e

theorem membersOf_nodup (s : State) (page : Nat) (ms : List Nat × Option Nat) (h : bcastMembers page = some ms) :
    (s.membersOf ms).Nodup := by
  unfold State.membersOf
  split
  · exact bcastMembers_nodup page ms h
  · exact (bcastMembers_nodup page ms h).filter _

theorem headGuard_of_bcast (s : State) (m : Master) (page off : Nat) (eff : Nat → State → State) (ms : List Nat × Option Nat)
    (hpage : pageAt page = none) (harr : s.arrives m page = true) (hms : bcastMembers page = some ms) :
    s.headGuard m page off eff = (s.membersOf ms).foldl (fun s p => s.headMember m p off (eff p)) s := by
  simp [State.headGuard, harr, hpage, hms]

theorem headGuard_of_unmapped (s : State) (m : Master) (page off : Nat) (eff : Nat → State → State)
    (hpage : pageAt page = none) (harr : s.arrives m page = true) (hms : bcastMembers page = none) :
    s.headGuard m page off eff = s.err 0 off .unmapped m := by
  simp [State.headGuard, harr, hpage, hms]

/-- PAGE_LOCK of every member in turn (R75, R76). -/
def State.lockPages (s : State) (l : List Nat) (v : Word) : State := l.foldl (fun s p => s.setLock p v) s

/-- A STATE error in every member in turn (R76). -/
def State.refusePages (s : State) (l : List Nat) (off : Nat) (m : Master) : State := l.foldl (fun s p => s.err p off .state m) s

theorem headGuard_lock_members (s : State) (m : Master) (page : Nat) (v : Word) (ms : List Nat × Option Nat)
    (hpage : pageAt page = none) (harr : s.arrives m page = true) (hms : bcastMembers page = some ms)
    (hopen : ∀ p, p ∈ s.membersOf ms → s.headAdmits m p = true) :
    s.headGuard m page 0xC (fun p s => s.setLock p v) = s.lockPages (s.membersOf ms) v := by
  rw [headGuard_of_bcast s m page _ _ ms hpage harr hms]
  exact foldl_headMember m _ _ _ (fun _ _ => rfl) (fun s p q => headOpen_congr _ _ m q rfl rfl rfl rfl) _ s
    fun p hp => headOpen_of_headAdmits s m p (hopen p hp)

theorem headGuard_refuse_members (s : State) (m : Master) (page off : Nat) (eff : Nat → State → State) (ms : List Nat × Option Nat)
    (hpage : pageAt page = none) (harr : s.arrives m page = true) (hms : bcastMembers page = some ms) (hoff : off ≠ 0xC)
    (hopen : ∀ p, p ∈ s.membersOf ms → s.headAdmits m p = true) :
    s.headGuard m page off eff = s.refusePages (s.membersOf ms) off m := by
  rw [headGuard_of_bcast s m page _ _ ms hpage harr hms]
  exact foldl_headMember m _ _ _ (fun _ _ => (if_neg hoff).symm)
    (fun s p q => headOpen_congr _ _ m q (by simp) (by simp) (by simp) (by simp)) _ s
    fun p hp => headOpen_of_headAdmits s m p (hopen p hp)

theorem reg_lockPages (s : State) (l : List Nat) (v : Word) (hl : l.Nodup) (a : Nat) :
    (s.lockPages l v).reg a = if ∃ p ∈ l, a = pg p 0xC then s.reg a ||| (v &&& 0xF) else s.reg a :=
  reg_foldl _ 0xC (· ||| (v &&& 0xF)) (fun s p a => reg_setLock s p v a) l a s hl

theorem reg_refusePages (s : State) (l : List Nat) (off : Nat) (m : Master) (hl : l.Nodup) (a : Nat) :
    (s.refusePages l off m).reg a = if ∃ p ∈ l, a = pg p 0x18 then pageErrAfter (s.reg a) off .state m else s.reg a :=
  reg_foldl _ 0x18 (pageErrAfter · off .state m)
    (fun s p a => by rw [State.reg_err]; by_cases ha : a = pg p 0x18 <;> simp [ha]) l a s hl

theorem lockFrame_lockPages (s : State) (l : List Nat) (v : Word) : s.lockFrame (s.lockPages l v) :=
  List.foldlRecOn l _ s.lockFrame_refl fun t ht p _ => State.lockFrame_trans ht (lockFrame_setLock t p v)

theorem errFrame_refusePages (s : State) (l : List Nat) (off : Nat) (m : Master) : s.errFrame (s.refusePages l off m) :=
  List.foldlRecOn l _ s.errFrame_refl fun t ht p _ => State.errFrame_trans ht (errFrame_err t p off .state m)

/-! ### The three commands -/

theorem exec_pageLockWrite (s : State) (m : Master) (page : Nat) (v : Word) :
    exec (.pageLockWrite m page v) s = .next (s.headGuard m page 0xC (fun p s => s.setLock p v)) := rfl

theorem exec_pageErrAck (s : State) (m : Master) (page : Nat) (v : Word) :
    exec (.pageErrAck m page v) s = .next (s.headGuard m page 0x1C (fun p s => s.ackErr p v)) := rfl

theorem exec_evtForce (s : State) (m : Master) (page : Nat) (v : Word) :
    exec (.evtForce m page v) s = .next (s.headGuard m page 0x28 (fun p s => s.force m p v)) := rfl

/-- Settles O2, page by page kind: an open page takes the write itself, a broadcast or group page hands it to its members in turn
(`headGuard_lock_members`, `headGuard_refuse_members`), unmapped space records it in SYS page 0. -/
theorem pageHeadersLockAcknowledgeAndForce : Obligations.PageHeadersLockAcknowledgeAndForce := by
  unfold Obligations.PageHeadersLockAcknowledgeAndForce
  refine ⟨fun s m page v h => ?listed, fun s m page v hpage harr => ⟨fun ms l hms hl hopen => ?members, fun hms c off hc => ?unmapped⟩⟩
  case listed =>
    rw [exec_pageLockWrite, exec_pageErrAck, exec_evtForce]
    simp only [State.headGuard_of_admits s m page _ _ h]
    refine ⟨⟨_, rfl, by simp [reg_setLock], fun a ha => by simp [reg_setLock, ha], bufAt_setLock s page v, lockFrame_setLock s page v⟩,
      ⟨_, rfl, fun hcount => ?acknowledged, ackErr_of_not_count s page v⟩,
      ⟨_, rfl, fun htest hret => ?notForced, fun hlc i hi => ?forced⟩⟩
    case acknowledged =>
      rw [ackErr_of_count s page v hcount]
      exact ⟨by simp [pg], fun a herr hack => by simp [herr, hack], rfl⟩
    case notForced =>
      rw [force_elsewhere s m page v htest hret]
      exact ⟨by simp [State.reg_err], fun a ha => by simp [State.reg_err, ha], errFrame_err ..⟩
    case forced =>
      rw [force_in_test_or_return s m page v i hlc hi]
      refine ⟨State.counts_routed .., fun n h32 hn _ => ?_⟩
      rw [State.evt_counts _ s _ (forcedSources_nodup i v)]
      simp only [mem_forcedSources i v n h32 hn]
  case members =>
    subst hl
    have hnodup := membersOf_nodup s page ms hms
    refine ⟨?lock, fun c off hc => ?refused⟩
    case lock =>
      rw [exec_pageLockWrite, headGuard_lock_members s m page v ms hpage harr hms hopen]
      refine ⟨_, rfl, fun p hp => ?_, fun a ha => ?_, lockFrame_lockPages ..⟩
      · rw [reg_lockPages _ _ _ hnodup, if_pos ⟨p, hp, rfl⟩]
      · rw [reg_lockPages _ _ _ hnodup, if_neg fun ⟨p, hp, e⟩ => ha p hp e]
    case refused =>
      have hexec : exec c s = .next (s.refusePages (s.membersOf ms) off m) := by
        rcases hc with ⟨rfl, rfl⟩ | ⟨rfl, rfl⟩
        · rw [exec_pageErrAck, headGuard_refuse_members s m page _ _ ms hpage harr hms (by decide) hopen]
        · rw [exec_evtForce, headGuard_refuse_members s m page _ _ ms hpage harr hms (by decide) hopen]
      refine ⟨_, hexec, fun p hp => ?_, fun a ha => ?_, errFrame_refusePages ..⟩
      · rw [reg_refusePages _ _ _ _ hnodup, if_pos ⟨p, hp, rfl⟩]
      · rw [reg_refusePages _ _ _ _ hnodup, if_neg fun ⟨p, hp, e⟩ => ha p hp e]
  case unmapped =>
    have hexec : exec c s = .next (s.err 0 off .unmapped m) := by
      rcases hc with ⟨rfl, rfl⟩ | ⟨rfl, rfl⟩ | ⟨rfl, rfl⟩
      · rw [exec_pageLockWrite, headGuard_of_unmapped s m page _ _ hpage harr hms]
      · rw [exec_pageErrAck, headGuard_of_unmapped s m page _ _ hpage harr hms]
      · rw [exec_evtForce, headGuard_of_unmapped s m page _ _ hpage harr hms]
    exact ⟨_, hexec, by simp [State.reg_err], fun a ha => by simp [State.reg_err, ha], errFrame_err ..⟩

end Sys2Proof.Machine
end

section
/-! PROOFS. The start of the main road (R14, R105, R106, R308, R600, R647): what a reset leaves, that neither the self-test nor a tamper
response to it moves the road from step 1, and the three commands that start it. -/
namespace Sys2Proof.Machine

/-! ### Step 1 of the main road -/

/-- `t` is at step 1 of the main road, with what the always-on and the battery domain of `r` held (R14, R106, R308). -/
def State.atStepOne (r t : State) : Prop :=
  t.pwr.power = .active ∧ t.pwr.resetOwed = false ∧ t.pwr.pwrOk = true ∧ t.boot.wipePending = true ∧ t.boot.rtReleased = false ∧
  t.prst.holdReq = 0xFFFFFF ∧ t.prst.released = 0 ∧ t.prst.ready = 0 ∧ t.prst.seq = .idle ∧
  t.cis.hc = r.cis.hc ∧ t.cis.era = r.cis.era ∧ t.cis.line = r.cis.line ∧ (∀ a, cisKept a = true → t.reg a = r.reg a) ∧
  t.lcf.fuses = r.lcf.fuses ∧ t.ram = [] ∧ t.sems = [] ∧ t.clk = r.clk ∧ t.pending = r.pending

/-- No job, operation, commit, message or release is under way, so that a tamper response has nothing to end. -/
def State.nothingRuns (s : State) : Prop :=
  s.boot.rel = .idle ∧ s.mbx = [] ∧ s.cis.queue = [] ∧ s.cel.ops = [] ∧ s.dgl.lanes = [] ∧ s.dgl.ready = [] ∧
  s.tks.waiting = [] ∧ s.tks.running = [] ∧ s.meas.scan = none ∧ s.meas.scans = [] ∧ s.meas.reqq = [] ∧
  s.cmd.running = none ∧ s.cmd.waiting = []

/-- A reset of `r` has led to `s`, and the road has not yet set out. -/
def State.booting (r s : State) : Prop := r.atStepOne s ∧ s.nothingRuns

variable {r s : State}

theorem booting_afterReset (s : State) : s.booting s.afterReset := by
  have hreg : ∀ a, cisKept a = true → s.afterReset.reg a = s.reg a := fun a ha => by
    show SMap.get resetAt (s.regs.filter fun x => cisKept x.1 || (s.pwr.replayReset && replayRegs.contains x.1)) a = s.reg a
    rw [SMap.get_filter _ _ (fun k => cisKept k || (s.pwr.replayReset && replayRegs.contains k)), ha]
    rfl
  refine ⟨⟨rfl, rfl, rfl, rfl, rfl, rfl, rfl, rfl, rfl, rfl, rfl, rfl, hreg, rfl, rfl, rfl, rfl, rfl⟩, ?_⟩
  exact ⟨rfl, rfl, rfl, rfl, rfl, rfl, rfl, rfl, rfl, rfl, rfl, rfl, rfl⟩

/-! ### Operations that the road does not feel -/

theorem booting_count (h : r.booting s) (k : Nat) : r.booting (s.count k) := by
  simpa [State.booting, State.atStepOne, State.nothingRuns] using h

theorem booting_counts (h : r.booting s) (l : List Nat) : r.booting (s.counts l) := by
  simpa [State.booting, State.atStepOne, State.nothingRuns] using h

theorem booting_flight (h : r.booting s) (ty : Nat) (m : Master) (b : Bytes) : r.booting (s.flight ty m b) := by
  simpa [State.booting, State.atStepOne, State.nothingRuns] using h

theorem booting_modTamp (h : r.booting s) (f : TampState → TampState) : r.booting (s.modTamp f) := h

theorem booting_setPort (h : r.booting s) (p : Nat) (q : PortState) : r.booting (s.setPort p q) := h

theorem booting_modPort (h : r.booting s) (p : Nat) (f : PortState → PortState) : r.booting (s.modPort p f) := h

theorem booting_modCvn (h : r.booting s) (f : CvnState → CvnState) : r.booting (s.modCvn f) := h

theorem booting_modLink (h : r.booting s) (p : Nat) (f : CvnPort → CvnPort) : r.booting (s.modLink p f) := h

theorem booting_setLink (h : r.booting s) (p : Nat) (x : CvnPort) : r.booting (s.setLink p x) := h

theorem booting_setSlot (h : r.booting s) (i : Nat) (x : Slot) : r.booting (s.setSlot i x) := h

theorem booting_freeNodes (h : r.booting s) (p b : Nat) : r.booting (s.freeNodes p b) := h

theorem booting_failView (h : r.booting s) (p : Nat) (e : WqEntry) : r.booting (s.failView p e) := h

theorem booting_doomed (h : r.booting s) (l : List Word) : r.booting { s with cel := { s.cel with doomed := l } } := h

/-- The life-cycle controller may change all that it holds but the fuses. -/
theorem booting_lcf (h : r.booting s) (l : LcfState) (hl : l.fuses = s.lcf.fuses) : r.booting { s with lcf := l } := by
  unfold State.booting State.atStepOne at h ⊢
  dsimp only
  rw [hl]
  exact h

/-- A row of steps that each keep the road at step 1 keeps it there. -/
theorem booting_foldl {α : Type} (h : r.booting s) (l : List α) (f : State → α → State)
    (hf : ∀ t, r.booting t → ∀ x, r.booting (f t x)) : r.booting (l.foldl f s) :=
  List.foldlRecOn l f h fun t ht x _ => hf t ht x

/-! ### Ports and hold lines -/

theorem booting_stitchBreak (h : r.booting s) (p : Nat) : r.booting (s.stitchBreak p) := by
  unfold State.stitchBreak
  dsimp only
  split_ifs
  · exact h
  · exact booting_flight (booting_modPort (booting_modPort h _ _) _ _) _ _ _
  · exact booting_flight (booting_modPort h _ _) _ _ _

theorem booting_silence (h : r.booting s) (p : Nat) : r.booting (s.silence p) := by
  unfold State.silence
  split_ifs
  · exact booting_modPort (booting_stitchBreak h p) _ _
  · exact h

theorem booting_portStop (h : r.booting s) (p : Nat) : r.booting (s.portStop p) := by
  unfold State.portStop
  refine booting_foldl (booting_foldl (booting_setPort h p _) _ _ fun t ht b => booting_freeNodes ht p b) _ _ fun t ht i => ?_
  dsimp only
  split_ifs
  · exact booting_failView (booting_modPort ht p _) p _
  · exact booting_modPort ht p _
  · exact ht

theorem putBit_zero_false {n : Nat} (i : Nat) : putBit (0 : BitVec n) i false = 0 := by simp [putBit]

/-- Forcing a line or taking it low leaves a road on which no line has been released yet where it is. -/
theorem booting_lowerLine (h : r.booting s) (i : Nat) (force : BitVec 24) :
    r.booting { s with prst := { s.prst with force, released := putBit s.prst.released i false } } := by
  obtain ⟨⟨hpower, howed, hok, hwipe, hrt, hreq, hrel, hrest⟩, hidle⟩ := h
  exact ⟨⟨hpower, howed, hok, hwipe, hrt, hreq, by rw [hrel, putBit_zero_false], hrest⟩, hidle⟩

theorem booting_forceLine (h : r.booting s) (i : Nat) : r.booting (s.forceLine i) := booting_lowerLine h i _

theorem booting_holdAssert (h : r.booting s) (i : Nat) : r.booting (s.holdAssert i) :=
  booting_foldl (booting_lowerLine h i s.prst.force) _ _ fun _ ht p => booting_silence ht p

theorem booting_refHeld (h : r.booting s) : r.booting s.refHeld := by
  unfold State.refHeld
  split
  · split_ifs <;> exact h
  · exact h

theorem booting_forceAll (h : r.booting s) : r.booting s.forceAll :=
  booting_foldl h _ _ fun _ ht i => booting_refHeld (booting_holdAssert (booting_forceLine ht i) i)

theorem booting_thermHold (h : r.booting s) : r.booting s.thermHold := booting_modTamp (booting_forceAll h) _

/-! ### Key contexts and Caravan ports -/

theorem booting_poisonKey (h : r.booting s) (k : Word) (why : Status) : r.booting (s.poisonKey k why) := by
  obtain ⟨hroad, hrel, hmbx, hqueue, hops, hlanes, hrest⟩ := h
  exact ⟨hroad, hrel, hmbx, hqueue, hops, by rw [State.poisonKey, hlanes, List.map_nil], hrest⟩

theorem booting_destroyFor (h : r.booting s) (i : Nat) (why : Status) : r.booting (s.destroyFor i why) := by
  have hp := booting_poisonKey h (handleOf i (s.slot i).gen) why
  unfold State.destroyFor
  dsimp only
  split_ifs
  · exact h
  · exact booting_count (booting_setSlot (booting_doomed hp _) i _) _
  · exact booting_setSlot (booting_doomed hp _) i _

theorem booting_destroy (h : r.booting s) (i : Nat) : r.booting (s.destroy i) := by
  unfold State.destroy
  dsimp only
  split_ifs
  · exact booting_doomed (booting_poisonKey h _ _) _
  · exact h
  · exact booting_destroyFor h i _

theorem booting_slotFree (h : r.booting s) (o : Option Nat) : r.booting (s.slotFree o) := by
  cases o with
  | none => exact h
  | some q =>
    unfold State.slotFree
    dsimp only
    split_ifs <;> exact h

theorem booting_copyGone (h : r.booting s) (e : CvnOut) : r.booting (s.copyGone e) := by
  unfold State.copyGone
  split_ifs
  · exact h
  · exact booting_slotFree h _

theorem booting_linkLost (h : r.booting s) (p : Nat) : r.booting (s.linkLost p) :=
  booting_foldl (booting_foldl (booting_modLink h p _) _ _ fun _ ht e => booting_copyGone ht e) _ _ fun _ ht q => booting_modLink ht q _

theorem booting_linkLeave (h : r.booting s) (p : Nat) (st : CvnPSt) (cause : Nat) : r.booting (s.linkLeave p st cause) := by
  have hlost := booting_linkLost h p
  unfold State.linkLeave
  dsimp only
  split_ifs
  · exact booting_count (booting_setLink (booting_destroy hlost _) p _) _
  · exact booting_count (booting_setLink hlost p _) _
  · exact booting_setLink (booting_destroy hlost _) p _
  · exact booting_setLink hlost p _

/-! ### A tamper response while nothing runs -/

theorem booting_celTamper (h : r.booting s) : r.booting s.celTamper := by
  obtain ⟨hroad, hrel, hmbx, hqueue, hops, hrest⟩ := h
  have hmarked : r.booting { s with cel := { s.cel with ops := [], tampered := true } } := ⟨hroad, hrel, hmbx, hqueue, rfl, hrest⟩
  unfold State.celTamper
  rw [hops]
  exact booting_count (booting_foldl hmarked _ _ fun _ ht x => booting_destroyFor ht x.1 _) _

theorem booting_digTamper (h : r.booting s) : r.booting s.digTamper := by
  obtain ⟨hroad, hrel, hmbx, hqueue, hops, hlanes, hready, hrest⟩ := h
  have hjob : ∀ n, (s.lane n).job = none := fun n => by rw [State.lane, hlanes]; rfl
  have hstop : s.lanesStop (fun _ => true) = s := List.foldl_fixed' (fun n => by rw [hjob]) _
  have hend : s.endJobs (fun _ => true) stTampered = { s with dgl := { s.dgl with ready := [] } } := by
    simp [State.endJobs, State.digJobs, hjob, hstop, hready]
  unfold State.digTamper
  rw [hend]
  exact ⟨hroad, hrel, hmbx, hqueue, hops, rfl, rfl, hrest⟩

theorem booting_tkTamper (h : r.booting s) : r.booting s.tkTamper := by
  obtain ⟨hroad, hrel, hmbx, hqueue, hops, hlanes, hready, hwait, hrun, hrest⟩ := h
  have hpipe : ∀ p, s.pipe p = none := fun p => by rw [State.pipe, hrun]; rfl
  have hstop : s.tkStop (fun _ => true) stTampered = { s with tks := { s.tks with waiting := [], running := [] } } := by
    simp [State.tkStop, State.tkJobs, hwait, hrun, hpipe]
  unfold State.tkTamper
  rw [hstop]
  exact ⟨hroad, hrel, hmbx, hqueue, hops, hlanes, hready, rfl, rfl, hrest⟩

theorem booting_measTamper (h : r.booting s) : r.booting s.measTamper := by
  obtain ⟨hroad, hrel, hmbx, hqueue, hops, hlanes, hready, hwait, hrun, hscan, hscans, hreqq, hrest⟩ := h
  unfold State.measTamper
  rw [hscan, hscans, hreqq]
  exact ⟨hroad, hrel, hmbx, hqueue, hops, hlanes, hready, hwait, hrun, rfl, rfl, rfl, hrest⟩

theorem booting_cmdTamper (h : r.booting s) : r.booting s.cmdTamper := by
  obtain ⟨hroad, hrel, hmbx, hqueue, hops, hlanes, hready, hwait, hrun, hscan, hscans, hreqq, hcmd, hcmds⟩ := h
  unfold State.cmdTamper
  rw [hcmd, hcmds]
  refine ⟨hroad, hrel, hmbx, hqueue, hops, hlanes, hready, hwait, hrun, hscan, hscans, hreqq, ?_, rfl⟩
  rw [State.modCmd, hcmd]; rfl

theorem booting_admTamper (h : r.booting s) : r.booting s.admTamper := by
  have hblocked : r.booting (s.modCis fun c => { c with blocked := true }) := h
  refine booting_foldl hblocked _ _ fun t ht i => ?_
  have ⟨_, _, _, hqueue, _⟩ := ht
  have hadm : t.adm i = AdmEntry.reset := by rw [State.adm, hqueue]; rfl
  rw [if_neg (by rw [hadm]; decide)]
  exact ht

theorem booting_cvnTamper (h : r.booting s) : r.booting s.cvnTamper := by
  have hdown : r.booting s.cvnDown :=
    booting_modCvn (booting_foldl h _ _ fun _ ht p => booting_modLink (booting_linkLeave ht p _ _) p _) _
  exact booting_modCvn hdown _

theorem booting_mbxTamper (h : r.booting s) : r.booting s.mbxTamper := by
  refine booting_foldl h _ _ fun t ht c => ?_
  have ⟨_, _, hmbx, _⟩ := ht
  have hfull : (t.chan c).full = false := by rw [State.chan, hmbx]; rfl
  rw [if_neg (by rw [hfull]; decide)]
  exact ht

theorem booting_stageTamper (h : r.booting s) : r.booting s.stageTamper := by
  have ⟨_, hrel, _⟩ := h
  rwa [State.stageTamper, if_pos hrel]

theorem booting_expTamper (h : r.booting s) : r.booting s.expTamper := by
  unfold State.expTamper
  split_ifs <;> exact h

theorem booting_pwrDrop (h : r.booting s) : r.booting s.pwrDrop := by
  unfold State.pwrDrop
  split_ifs
  · exact booting_count (s := s.modPwr _) h _
  · exact h

theorem booting_romTrip (h : r.booting s) : r.booting s.romTrip := by
  have ⟨⟨_, _, _, hwipe, _⟩, _⟩ := h
  rwa [State.romTrip, if_pos (by simp [hwipe])]

theorem booting_coreTrip (h : r.booting s) : r.booting s.coreTrip := by
  have hcounted := booting_count (booting_modTamp h fun t => { t with responded := true }) (evTamp 0)
  have hports := booting_foldl hcounted (List.range 16) State.portStop fun _ ht p => booting_portStop ht p
  have hlines := booting_count (booting_forceAll hports) (evBoot 11)
  have hkeys := booting_measTamper (booting_tkTamper (booting_digTamper (booting_celTamper hlines)))
  have hwaits := booting_mbxTamper (booting_cvnTamper (booting_admTamper (booting_cmdTamper hkeys)))
  exact booting_romTrip (booting_pwrDrop (booting_expTamper (booting_flight (booting_stageTamper hwaits) _ _ _)))

theorem booting_respond (h : r.booting s) (v : BitVec 13) : r.booting (s.respond v) := by
  have hlatch : r.booting (s.latchTrip v) := h
  have ⟨⟨hpower, _⟩, _⟩ := hlatch
  unfold State.respond
  dsimp only
  rw [if_pos (by rw [State.coreUp, hpower]; rfl)]
  exact booting_coreTrip (booting_counts hlatch _)

/-! ### From PWR_OK to the road -/

theorem booting_selfTest (h : r.booting s) (fails : Bool) : r.booting (s.selfTest fails) := by
  unfold State.selfTest
  split_ifs
  · exact booting_respond (booting_count (booting_modTamp h _) _) _
  · exact h

theorem booting_rearm (h : r.booting s) (held : Bool) : r.booting (s.rearm held) := by
  unfold State.rearm
  split_ifs
  · exact booting_count (booting_modTamp h _) _
  · exact h

theorem booting_countMissed (h : r.booting s) : r.booting s.countMissed := by
  unfold State.countMissed
  dsimp only
  split_ifs
  · exact h
  · exact booting_modTamp (booting_count (booting_counts h _) _) _

theorem booting_countWake (h : r.booting s) : r.booting s.countWake := by
  unfold State.countWake
  split_ifs
  · exact booting_count (s := s.modPwr _) h _
  · exact h

theorem booting_thermStill (h : r.booting s) : r.booting s.thermStill := by
  unfold State.thermStill
  split_ifs
  · exact booting_thermHold h
  · exact h

/-! ### The road sets out -/

theorem atStepOne_lcKick (h : r.atStepOne s) : r.atStepOne s.lcKick := by
  unfold State.lcKick
  split_ifs
  · exact h
  · split
    · exact h
    · split <;> exact h

theorem atStepOne_lcBoot (h : r.booting s) : r.atStepOne s.lcBoot := by
  unfold State.lcBoot
  extract_lets d scrap x s1 s2
  have h1 : r.booting s1 := booting_lcf h _ rfl
  have h2 : r.booting s2 := by
    unfold s2
    clear_value s1
    split_ifs
    · exact booting_count h1 _
    · exact h1
  clear_value s2
  split_ifs
  · exact h2.1
  · exact atStepOne_lcKick (booting_count h2 _).1
  · exact atStepOne_lcKick h2.1

theorem atStepOne_fp0Mode (h : r.atStepOne s) : r.atStepOne s.fp0Mode := by
  obtain ⟨hpower, howed, hok, hwipe, hrt, hreq, hrel, hready, hseq, hhc, hera, hline, hreg, hrest⟩ := h
  refine ⟨hpower, howed, hok, hwipe, hrt, hreq, hrel, hready, hseq, hhc, hera, hline, fun a ha => ?_, hrest⟩
  have hne : a ≠ fp 0 0 0x48 := by rintro rfl; exact absurd ha (by decide)
  show (s.setReg (fp 0 0 0x48) _).reg a = r.reg a
  rw [State.reg_setReg, if_neg hne, hreg a ha]

theorem atStepOne_bootDraws (h : r.atStepOne s) : r.atStepOne s.bootDraws := by
  unfold State.bootDraws
  dsimp only
  split_ifs <;> exact h

theorem atStepOne_roadStart (h : r.booting s) : r.atStepOne s.roadStart :=
  atStepOne_bootDraws (atStepOne_fp0Mode (atStepOne_lcBoot h))

theorem atStepOne_powerUpEnv (s : State) (e : PowerUpEnv) : s.atStepOne (s.powerUpEnv e) := by
  have hreset := booting_modTamp (booting_afterReset s) fun t => { t with live := e.live, rearmPin := e.rearmHeld }
  unfold State.powerUpEnv State.powerUp
  exact atStepOne_roadStart (booting_thermStill (booting_countWake (booting_countMissed (booting_rearm (booting_selfTest hreset _) _))))

/-! ### The three commands -/

theorem exec_deviceReset (s : State) (hup : s.coreUp = true) (hidle : s.cis.inflight = none)
    (hcut : ¬(s.tamp.responded = true ∧ s.lcf.transit.isSome = true)) : exec .deviceReset s = .next s.afterReset.roadStart := by
  show Host.Outcome.next _ = _
  rw [if_neg (by simpa [hup] using hcut), State.resetGo, if_pos (by rw [hidle]; rfl)]

theorem exec_pwrOkRise (s : State) (env : PowerUpEnv) (hok : s.pwr.pwrOk = false) (haon : s.pwr.aonValid = true)
    (hen : s.pwr.coreEn = true) (hdown : s.coreUp = false) : exec (.pwrOkRise env) s = .next (s.powerUpEnv env) := by
  show Host.Outcome.next _ = _
  rw [if_neg (by simp [hok]), if_pos (by simp [haon, hen, hdown])]

theorem exec_mainRoadStartAfterCoreEn (s : State) (hok : s.pwr.pwrOk = true) (haon : s.pwr.aonValid = true)
    (hen : s.pwr.coreEn = true) (hdown : s.coreUp = false) (hlate : s.pwr.coreEnAt + 3000 ≤ s.clk) :
    exec .mainRoadStartAfterCoreEn s = .next (s.freed.powerUpEnv s.roadEnv) := by
  show Host.Outcome.next _ = _
  rw [if_pos (by simp [hok, haon, hen, hdown, hlate])]

/-- Settles O10. A reset leaves step 1 of the road with nothing running (`booting_afterReset`), and from there neither the self-test with the
tamper response that it may cause nor the setting out of the road leaves that step (`atStepOne_powerUpEnv`, `atStepOne_roadStart`). -/
theorem theMainRoadStartsAtStepOne : Obligations.TheMainRoadStartsAtStepOne := by
  unfold Obligations.TheMainRoadStartsAtStepOne
  rintro s i (⟨rfl, hup, hidle, hcut⟩ | ⟨env, rfl, hok, haon, hen, hdown⟩ | ⟨rfl, hok, haon, hen, hdown, hlate⟩)
  case inl => exact ⟨_, exec_deviceReset s hup hidle hcut, atStepOne_roadStart (booting_afterReset s)⟩
  case inr.inl => exact ⟨_, exec_pwrOkRise s env hok haon hen hdown, atStepOne_powerUpEnv s env⟩
  case inr.inr => exact ⟨_, exec_mainRoadStartAfterCoreEn s hok haon hen hdown hlate, atStepOne_powerUpEnv s.freed s.roadEnv⟩

end Sys2Proof.Machine
end

section
/-! PROOFS. Mailboxes (R514 to R524): what each step of a message does to its channel, and what an entry write, a send, a take and a timeout
make of those steps. -/
namespace Sys2Proof.Machine

/-! ### What wakes a hart changes the harts only -/

/-- `t` differs from `s` in the harts, if at all. -/
def State.onlyHarts (s t : State) : Prop := t = { s with harts := t.harts }

theorem onlyHarts_resume (s : State) (hart cause : Nat) : s.onlyHarts (s.resume hart cause) := by
  unfold State.onlyHarts State.resume
  dsimp only
  split_ifs <;> rfl

theorem onlyHarts_mbxIrq (s : State) (hart : Nat) : s.onlyHarts (s.mbxIrq hart) := by
  unfold State.mbxIrq
  split_ifs
  · exact onlyHarts_resume s hart 1
  · rfl

theorem onlyHarts_mbxIrqs (s : State) : s.onlyHarts s.mbxIrqs := by
  refine List.foldlRecOn (motive := s.onlyHarts) _ State.mbxIrq rfl fun t ht hart _ => ?_
  exact (onlyHarts_mbxIrq t hart).trans (congrArg (fun r : State => { r with harts := (t.mbxIrq hart).harts }) ht)

/-! ### The steps of a message, and what they move -/

/-- From `s` to `t` channel `c` has become `x` and its event record `e`, and besides only event delivery and the flight recorder have moved
(R518, R522, R624). -/
def State.movesChan (s t : State) (c : Fin 32) (x : Channel) (e : EventRec) : Prop :=
  t.chan c.val = x ∧ (∀ k, k ≠ c.val → t.chan k = s.chan k) ∧ t.evt (evMbx c.val) = e ∧ t = { s.recorded t with mbx := t.mbx }

theorem movesChan_self (s : State) (c : Fin 32) : s.movesChan s c (s.chan c.val) (s.evt (evMbx c.val)) :=
  ⟨rfl, fun _ _ => rfl, rfl, rfl⟩

section
variable {s t u : State} {c : Fin 32} {x : Channel} {e : EventRec}

theorem movesChan_setChan (h : s.movesChan t c x e) (y : Channel) : s.movesChan (t.setChan c.val y) c y e := by
  obtain ⟨_, hother, hevt, hframe⟩ := h
  refine ⟨by simp, fun k hk => ?_, hevt, congrArg (State.setChan · c.val y) hframe⟩
  rw [State.chan_setChan, if_neg hk, hother k hk]

/-- A step that changes no channel changes of `c` its event record at most. -/
theorem movesChan_of_recorded (h : s.movesChan t c x e) (hu : u = t.recorded u) {e' : EventRec} (he : u.evt (evMbx c.val) = e') :
    s.movesChan u c x e' := by
  obtain ⟨hself, hother, _, hframe⟩ := h
  have hmbx : u.mbx = t.mbx := by rw [hu]; rfl
  have hchan : ∀ k, u.chan k = t.chan k := fun k => congrArg (SMap.get Channel.reset · k) hmbx
  refine ⟨(hchan _).trans hself, fun k hk => (hchan k).trans (hother k hk), he, ?_⟩
  rw [hmbx]
  exact hu.trans (congrArg (State.recorded · u) hframe)

theorem movesChan_count (h : s.movesChan t c x e) : s.movesChan (t.count (evMbx c.val)) c x e.bump := by
  have ⟨_, _, hevt, _⟩ := h
  refine movesChan_of_recorded h ?_ (by rw [State.evt_count, if_pos rfl, hevt])
  apply State.ext <;> simp [State.recorded, State.routed]

theorem movesChan_of_onlyHarts (h : s.movesChan t c x e) (hu : t.onlyHarts u) : s.movesChan u c x e := by
  have ⟨_, _, hevt, _⟩ := h
  exact movesChan_of_recorded h (by rw [hu]; rfl) (by rw [hu]; exact hevt)

/-- A notice leaves its kind in LAST and is one event of the channel (R522). -/
theorem movesChan_notice (h : s.movesChan t c x e) (n : Notice) :
    s.movesChan (t.notice c.val n) c { x with last := n } e.bump := by
  have ⟨hself, _⟩ := h
  rw [State.notice, hself]
  exact movesChan_of_onlyHarts (movesChan_count (movesChan_setChan h _)) (onlyHarts_mbxIrqs _)

/-- A flight record counts events of the recorder only (R622, R626). -/
theorem evt_putRec (s : State) (r : FlrRec) (c : Fin 32) : (s.putRec r).evt (evMbx c.val) = s.evt (evMbx c.val) := by
  have hsource : ∀ k, evMbx c.val ≠ evFlr k := fun k => by have := c.isLt; simp only [evMbx, evFlr]; omega
  unfold State.putRec
  dsimp only
  split_ifs
  · rfl
  · rfl
  · simp [State.evt_count, hsource]; rfl
  · simp [State.evt_count, hsource]; rfl
  · rfl

theorem evt_flight (s : State) (type : Nat) (src : Master) (body : Bytes) (c : Fin 32) :
    (s.flight type src body).evt (evMbx c.val) = s.evt (evMbx c.val) := by
  unfold State.flight
  dsimp only
  split_ifs
  · rfl
  · rw [evt_putRec]
  · rw [evt_putRec, evt_putRec]; rfl

theorem movesChan_mbxRecord (h : s.movesChan t c x e) (op : Nat) (m : Master) (y : Channel) :
    s.movesChan (t.mbxRecord c.val op m y) c x e := by
  unfold State.mbxRecord
  split_ifs
  · have ⟨_, _, hevt, _⟩ := h
    exact movesChan_of_recorded h (State.flight_recorded ..) ((evt_flight ..).trans hevt)
  · exact h

end

/-! ### Entry writes -/

/-- A channel once an entry write has been accepted: a message in it is aborted (R517). -/
def Channel.rebound (x : Channel) (v : Word) : Channel :=
  { x with entry := v &&& 0x8000FFFF, full := false, timedOut := false, txHdr := 0, tx := zeroWords, rxHdr := 0, rx := zeroWords,
           aborts := if x.full then min 255 (x.aborts + 1) else x.aborts, last := if x.full then .aborted else x.last }

theorem movesChan_btSet (s : State) (m : Master) (c : Fin 32) (v : Word) :
    s.movesChan (s.btSet m c.val v) c ((s.chan c.val).rebound v)
      (if (s.chan c.val).full then (s.evt (evMbx c.val)).bump else s.evt (evMbx c.val)) := by
  unfold State.btSet
  cases hfull : (s.chan c.val).full with
  | true =>
    have hrecorded := movesChan_mbxRecord (movesChan_self s c) 3 m (s.chan c.val)
    have hcleared := movesChan_setChan hrecorded { (s.chan c.val).rebound v with last := (s.chan c.val).last }
    simpa [Channel.rebound, hfull] using movesChan_notice hcleared .aborted
  | false =>
    have hcleared := movesChan_setChan (movesChan_self s c) ((s.chan c.val).rebound v)
    simpa [Channel.rebound, hfull] using movesChan_of_onlyHarts hcleared (onlyHarts_mbxIrqs _)

/-- Only hart 0 and, in some states, JTAG write entries (R515). -/
theorem btWrite_of_other_master (s : State) (m : Master) (c : Nat) (v : Word) (hm : m ≠ 0) (hj : m ≠ jtag) :
    s.btWrite m c v = s.refuse m (pg 0x170 (0x80 + 4 * c)) := by
  unfold State.btWrite
  rw [if_pos (by simpa [hj] using hm)]

theorem btWrite_of_closed (s : State) (c : Nat) (v : Word) (hclosed : s.btReason = 0) :
    s.btWrite 0 c v = s.errAt (pg 0x170 (0x80 + 4 * c)) .locked 0 := by
  simp [State.btWrite, hclosed]

theorem btWrite_of_open (s : State) (c : Nat) (v : Word) (hopen : s.btReason ≠ 0) :
    s.btWrite 0 c v =
      if Word.bit v 31 && !bindOk c (BitVec.ofNat 8 (Word.field v 7 0)) (BitVec.ofNat 8 (Word.field v 15 8))
      then s.refuse 0 (pg 0x170 (0x80 + 4 * c)) else s.btSet 0 c v := by
  simp [State.btWrite, hopen]

theorem exec_btEntryWrite (s : State) (m : Master) (c : Fin 32) (v : Word)
    (h : s.admits m (pg 0x170 (0x80 + 4 * c.val)) = true) : exec (.btEntryWrite m c v) s = .next (s.btWrite m c.val v) :=
  congrArg _ (State.guarded_of_admits s m _ _ h)

/-! ### Sends, takes and timeouts -/

theorem movesChan_send (s : State) (m : Master) (c : Fin 32) :
    s.movesChan (s.send m c.val) c { s.chan c.val with
      rxHdr := (s.chan c.val).txHdr, rx := msgWords (s.chan c.val).tx (Word.field (s.chan c.val).txHdr 22 16), full := true,
      timedOut := false, sentAt := s.clk, sent := min 65535 ((s.chan c.val).sent + 1), last := .message } (s.evt (evMbx c.val)).bump := by
  have hmoved := fun y => movesChan_mbxRecord (movesChan_setChan (movesChan_self s c) y) 1 m y
  unfold State.send
  dsimp only
  split_ifs
  · exact movesChan_notice (movesChan_of_onlyHarts (hmoved _) (onlyHarts_resume ..)) .message
  · exact movesChan_notice (hmoved _) .message

theorem movesChan_takeMsg (s : State) (m : Master) (c : Fin 32) :
    s.movesChan (s.takeMsg m c.val) c
      { s.chan c.val with rxHdr := 0, rx := zeroWords, full := false, timedOut := false, last := .empty } (s.evt (evMbx c.val)).bump :=
  movesChan_notice (movesChan_setChan (movesChan_mbxRecord (movesChan_self s c) 2 m _) _) .empty

/-- A notice writes no flight record (R624). -/
theorem notice_routed (s : State) (c : Nat) (n : Notice) :
    s.notice c n = { s.routed (s.notice c n) with mbx := (s.notice c n).mbx } := by
  have hirqs := onlyHarts_mbxIrqs ((s.setChan c { s.chan c with last := n }).count (evMbx c))
  rw [State.notice, hirqs]
  apply State.ext <;> simp [State.routed]

theorem exec_chSend (s : State) (m : Master) (c : Fin 32) (h : s.admits m (aMbx c.val 0x4C) = true) :
    exec (.chSend m c) s = .next (if s.sendOk m c.val then s.send m c.val else s.refuse m (aMbx c.val 0x4C)) :=
  congrArg _ (State.guarded_of_admits s m _ _ h)

/-- A take reaches a FULL channel of its receiver while mailboxes work (R521, R598). -/
theorem exec_chTake (s : State) (m : Master) (c : Fin 32) (h : s.admits m (aMbx c.val 0x54) = true) :
    exec (.chTake m c) s = .next (if (s.chan c.val).valid && (s.chan c.val).receiver == m && (s.chan c.val).full && s.mbxOn
      then s.takeMsg m c.val else s.refuse m (aMbx c.val 0x54)) :=
  congrArg _ (State.guarded_of_admits s m _ _ h)

theorem exec_chTimeout (s : State) (c : Fin 32) :
    exec (.chTimeout c) s = .next (if s.chLate c.val then
      (s.setChan c.val { s.chan c.val with timedOut := true, timeouts := min 255 ((s.chan c.val).timeouts + 1) }).notice c.val .timeout
      else s) := rfl

/-- Settles O47. Each accepted command is a row of steps that move one channel (`State.movesChan`): entry writes, sends, takes and timeouts
differ in what the channel becomes, and end in the same notice (`movesChan_notice`). -/
theorem mailboxesCarryOneMessageAtATime : Obligations.MailboxesCarryOneMessageAtATime := by
  unfold Obligations.MailboxesCarryOneMessageAtATime
  refine ⟨fun s m c v h => ?entry, fun s m c h => ?send, fun s m c h => ?take, fun s c => ?timeout⟩
  case entry =>
    rw [exec_btEntryWrite s m c v h]
    refine ⟨fun hm hj => ?_, ?_, ?_, ?_⟩
    · rw [btWrite_of_other_master s m c v hm hj]
    · rintro rfl hclosed
      rw [btWrite_of_closed s c v hclosed]
    · rintro rfl hopen hvalid hpair
      rw [btWrite_of_open s c v hopen, if_pos (by simp [hvalid, hpair])]
    · rintro rfl hopen hpair
      rw [btWrite_of_open s c v hopen, if_neg (by rcases hpair with hp | hp <;> simp [hp])]
      obtain ⟨hself, hother, hevt, hframe⟩ := movesChan_btSet s 0 c v
      refine ⟨_, rfl, ?_⟩
      rw [hself, hevt]
      exact ⟨rfl, rfl, rfl, rfl, hother, fun hfull => by simp [Channel.rebound, hfull], hframe⟩
  case send =>
    rw [exec_chSend s m c h]
    refine ⟨fun hrefused => ?_, fun hok => ?_⟩
    · rw [if_neg (by simp [hrefused])]
    · rw [if_pos hok]
      exact ⟨_, rfl, movesChan_send s m c⟩
  case take =>
    rw [exec_chTake s m c h]
    refine ⟨fun hrefused => ?_, fun hvalid hreceiver hfull hon => ?_⟩
    · rw [if_neg (by rcases hrefused with hr | hr | hr | hr <;> simp [hr])]
    · rw [if_pos (by simp [hvalid, hreceiver, hfull, hon])]
      exact ⟨_, rfl, movesChan_takeMsg s m c⟩
  case timeout =>
    rw [exec_chTimeout]
    refine ⟨fun hearly => ?_, fun hlate => ?_⟩
    · rw [if_neg (by simp [hearly])]
    · rw [if_pos hlate]
      obtain ⟨hself, hother, hevt, _⟩ := movesChan_notice (movesChan_setChan (movesChan_self s c) _) .timeout
      exact ⟨_, rfl, hself, hother, hevt, notice_routed ..⟩

end Sys2Proof.Machine
end


section
/-! PROOFS. What every step keeps (R345): the commands that wait, the fuse bits that read 1 and the canonical form of the stores. Each
operation of the state has one lemma, whose proof is the chain of the operations that it is made of; a command has the chain of its arm. -/
namespace Sys2Proof.Machine

/-- What every part of a step keeps: the commands that wait, every fuse bit that reads 1, and the canonical form of the stores. -/
structure Keeps (r s : State) : Prop where
  pending : s.pending = r.pending
  fuses : ∀ i, r.fuse i &&& s.fuse i = r.fuse i
  canonical : r.canonical = true → s.canonical = true

variable {r s : State}

theorem canonical_iff : s.canonical = true ↔ SMap.wf resetAt s.regs = true ∧ SMap.wf (fun _ => 0) s.ram = true ∧
    SMap.wf (fun _ => EventRec.reset) s.events = true ∧ SMap.wf (fun _ => none) s.sems = true := by
  simp only [State.canonical, Bool.and_eq_true, and_assoc]

/-- Dropping entries keeps the canonical form. -/
theorem wf_filter {α : Type} [DecidableEq α] (d : Nat → α) (m : SMap α) (q : Nat × α → Bool) (h : SMap.wf d m = true) :
    SMap.wf d (m.filter q) = true := by
  simp only [SMap.wf, Bool.and_eq_true, List.all_eq_true] at h ⊢
  exact ⟨SMap.sorted_filter q m h.1, fun x hx => h.2 x (List.mem_filter.mp hx).1⟩

/-- A state whose queue is the same, that gains fuse bits only, and whose stores are canonical where they were. -/
theorem Keeps.of_stores {t : State} (h : Keeps r s) (hpending : t.pending = s.pending) (hfuses : ∀ i, s.fuse i &&& t.fuse i = s.fuse i)
    (hregs : SMap.wf resetAt s.regs = true → SMap.wf resetAt t.regs = true)
    (hram : SMap.wf (fun _ => 0) s.ram = true → SMap.wf (fun _ => 0) t.ram = true)
    (hevents : SMap.wf (fun _ => EventRec.reset) s.events = true → SMap.wf (fun _ => EventRec.reset) t.events = true)
    (hsems : SMap.wf (fun _ => none) s.sems = true → SMap.wf (fun _ => none) t.sems = true) : Keeps r t where
  pending := hpending.trans h.pending
  fuses i := by rw [← h.fuses i, BitVec.and_assoc, hfuses i]
  canonical hr := by
    obtain ⟨hr1, hr2, hr3, hr4⟩ := canonical_iff.mp (h.canonical hr)
    exact canonical_iff.mpr ⟨hregs hr1, hram hr2, hevents hr3, hsems hr4⟩

/-- A state that differs in none of the canonical stores, in no life-cycle state and not in the queue. -/
theorem Keeps.update {clk buf posted heldLow hiLatch w1 msixPba slowDue arm pwr tamp boot prst cel flr dgl hq harts mbx cmd cis
    ports cache frames meas spdm cvn tks outbox freeCtr drbgCtr} (h : Keeps r s) :
    Keeps r {
      regs := s.regs, events := s.events, sems := s.sems, ram := s.ram, pending := s.pending, lcf := s.lcf
      clk, buf, posted, heldLow, hiLatch, w1, msixPba, slowDue, arm, pwr, tamp, boot, prst, cel, flr, dgl, hq, harts, mbx, cmd, cis,
      ports, cache, frames, meas, spdm, cvn, tks, outbox, freeCtr, drbgCtr } :=
  h.of_stores rfl (fun _ => BitVec.and_self) id id id id

/-- A state that differs in what the life-cycle controller holds besides the fuses. -/
theorem Keeps.modLcf {eff rule copyFault owed scrapOwed transit dbgHalted granted nonce memtest} (h : Keeps r s) : Keeps r { s with
    lcf := { fuses := s.lcf.fuses, eff, rule, copyFault, owed, scrapOwed, transit, dbgHalted, granted, nonce, memtest } } :=
  h.of_stores rfl (fun _ => BitVec.and_self) id id id id

theorem Keeps.refl (s : State) : Keeps s s := ⟨rfl, fun _ => BitVec.and_self, id⟩

theorem Keeps.ite {a b : State} {c : Prop} [Decidable c] (ha : Keeps r a) (hb : Keeps r b) : Keeps r (if c then a else b) := by
  split
  · exact ha
  · exact hb

/-- Doing to the state, one after the other, what each element of a list says. -/
theorem Keeps.foldl {α : Type} {f : State → α → State} {l : List α} (h : Keeps r s)
    (hf : ∀ {t x}, Keeps r t → Keeps r (f t x)) : Keeps r (l.foldl f s) := by
  induction l generalizing s with
  | nil => exact h
  | cons x l ih => exact ih (hf h)

/-- The same for a state that an operation answers beside a value. -/
theorem Keeps.ite_fst {α : Type} {a b : State × α} {c : Prop} [Decidable c] (ha : Keeps r a.1) (hb : Keeps r b.1) :
    Keeps r (if c then a else b).1 := by
  split
  · exact ha
  · exact hb

theorem Keeps.pair {α : Type} {x : α} (h : Keeps r s) : Keeps r (s, x).1 := h

theorem Keeps.foldl_fst {α β : Type} {f : State × β → α → State × β} {l : List α} {a : State × β} (h : Keeps r a.1)
    (hf : ∀ {t x}, Keeps r t.1 → Keeps r (f t x).1) : Keeps r (l.foldl f a).1 := by
  induction l generalizing a with
  | nil => exact h
  | cons x l ih => exact ih (hf h)

theorem Keeps.setReg (h : Keeps r s) {a v} : Keeps r (s.setReg a v) :=
  h.of_stores rfl (fun _ => BitVec.and_self) (SMap.wf_set _ _ _ _) id id id
theorem Keeps.setByte (h : Keeps r s) {a v} : Keeps r (s.setByte a v) :=
  h.of_stores rfl (fun _ => BitVec.and_self) id (SMap.wf_set _ _ _ _) id id
theorem Keeps.setEvt (h : Keeps r s) {k v} : Keeps r (s.setEvt k v) :=
  h.of_stores rfl (fun _ => BitVec.and_self) id id (SMap.wf_set _ _ _ _) id
theorem Keeps.setSem (h : Keeps r s) {n o} : Keeps r (s.setSem n o) :=
  h.of_stores rfl (fun _ => BitVec.and_self) id id id (SMap.wf_set _ _ _ _)
/-- Blowing fuse bits keeps those that read 1 (R345). -/
theorem Keeps.setFuse_or (h : Keeps r s) {i v} : Keeps r (s.setFuse i (s.fuse i ||| v)) := by
  refine h.of_stores rfl (fun j => ?_) id id id id
  rw [State.fuse_setFuse]
  split
  · next hj => grind
  · exact BitVec.and_self

/-- Each action of a list keeps what a step keeps. -/
@[reducible] def ActsKeep (r : State) : List (State → State) → Prop
  | [] => True
  | f :: l => (∀ {t}, Keeps r t → Keeps r (f t)) ∧ ActsKeep r l

/-! ### State, events and page errors -/

theorem Keeps.setFld (h : Keeps r s) {a hi lo v} : Keeps r (s.setFld a hi lo v) := h.setReg
theorem Keeps.incReg (h : Keeps r s) {a} : Keeps r (s.incReg a) := h.setReg
theorem Keeps.add64 (h : Keeps r s) {a n} : Keeps r (s.add64 a n) := h.setReg.setReg
theorem Keeps.setBuf (h : Keeps r s) {a v} : Keeps r (s.setBuf a v) := h.update
theorem Keeps.setPosted (h : Keeps r s) {page v} : Keeps r (s.setPosted page v) := h.update
theorem Keeps.out (h : Keeps r s) {o} : Keeps r (s.out o) := h.update
theorem Keeps.setPort (h : Keeps r s) {p v} : Keeps r (s.setPort p v) := h.update
theorem Keeps.modPort (h : Keeps r s) {p f} : Keeps r (s.modPort p f) := h.setPort
theorem Keeps.setHart (h : Keeps r s) {k v} : Keeps r (s.setHart k v) := h.update
theorem Keeps.setChan (h : Keeps r s) {c v} : Keeps r (s.setChan c v) := h.update
theorem Keeps.setQueue (h : Keeps r s) {q v} : Keeps r (s.setQueue q v) := h.update
theorem Keeps.setFn (h : Keeps r s) {f v} : Keeps r (s.setFn f v) := h.update
theorem Keeps.setSlot (h : Keeps r s) {i v} : Keeps r (s.setSlot i v) := h.update
theorem Keeps.setDctx (h : Keeps r s) {i v} : Keeps r (s.setDctx i v) := h.update
theorem Keeps.setLane (h : Keeps r s) {n v} : Keeps r (s.setLane n v) := h.update
theorem Keeps.setAdm (h : Keeps r s) {i v} : Keeps r (s.setAdm i v) := h.update
theorem Keeps.setTimer (h : Keeps r s) {t v} : Keeps r (s.setTimer t v) := h.update
theorem Keeps.setMslot (h : Keeps r s) {i v} : Keeps r (s.setMslot i v) := h.update
theorem Keeps.setLink (h : Keeps r s) {p v} : Keeps r (s.setLink p v) := h.update
theorem Keeps.setWdog (h : Keeps r s) {w v} : Keeps r (s.setWdog w v) := h.update
theorem Keeps.setBytes (h : Keeps r s) {a bs} : Keeps r (s.setBytes a bs) := by
  induction bs generalizing s a with
  | nil => exact h
  | cons b t ih => exact ih h.setByte
theorem Keeps.drew (h : Keeps r s) : Keeps r s.drew := h.update
theorem Keeps.freed (h : Keeps r s) : Keeps r s.freed := h.update
theorem Keeps.setPba (h : Keeps r s) {f v b} : Keeps r (s.setPba f v b) := h.update
theorem Keeps.msixRequest (h : Keeps r s) {f v} : Keeps r (s.msixRequest f v) := .ite h (.ite h.out h.setPba)
theorem Keeps.resume (h : Keeps r s) {k cause} : Keeps r (s.resume k cause) := .ite h.setHart h
theorem Keeps.hartIrq (h : Keeps r s) {k} : Keeps r (s.hartIrq k) := .ite h.resume h
theorem Keeps.deliver (h : Keeps r s) {k} : Keeps r (s.deliver k) := .ite (.ite h.resume h) (.ite h.msixRequest (.ite h.msixRequest h))
theorem Keeps.deliverIfNew (h : Keeps r s) {was k} : Keeps r (s.deliverIfNew was k) := .ite h.deliver h
theorem Keeps.count (h : Keeps r s) {k} : Keeps r (s.count k) := h.setEvt.deliverIfNew
theorem Keeps.counts (h : Keeps r s) {ks} : Keeps r (s.counts ks) := h.foldl (fun h => h.count)
theorem Keeps.err (h : Keeps r s) {page off k m} : Keeps r (s.err page off k m) := .ite h.setReg.count.count h.setReg.count
theorem Keeps.errAt (h : Keeps r s) {a k m} : Keeps r (s.errAt a k m) := h.err

/-! ### Flight records -/

theorem Keeps.putRec (h : Keeps r s) {x} : Keeps r (s.putRec x) := by
  unfold State.putRec
  exact .ite h.update (.ite h.update (.ite h.update.count (.ite h.update.count h.update)))
theorem Keeps.flight (h : Keeps r s) {type src body} : Keeps r (s.flight type src body) := by
  unfold State.flight
  exact .ite h (Keeps.putRec (.ite h h.update.putRec))
theorem Keeps.dmaRecords (h : Keeps r s) {m addr data} : Keeps r (s.dmaRecords m addr data) := .ite h (h.foldl (fun h => h.flight))
theorem Keeps.readOut (h : Keeps r s) {m a data} : Keeps r (s.readOut m a data) := Keeps.out (.ite h.flight h)
theorem Keeps.uartOut (h : Keeps r s) {v} : Keeps r (s.uartOut v) := by
  unfold State.uartOut
  split
  · exact h.out
  · exact .ite h.out h
  · exact .ite h.out h
  · exact h
theorem Keeps.setStage (h : Keeps r s) {v} : Keeps r (s.setStage v) := .ite h h.setReg.uartOut.flight.count

/-! ### Page headers, events, semaphores, routes -/

theorem Keeps.guarded (h : Keeps r s) {m a eff} (heff : ∀ {t}, Keeps r t → Keeps r (eff t)) : Keeps r (s.guarded m a eff) := by
  unfold State.guarded
  split
  · exact .ite h.err h
  · exact .ite h (.ite h.errAt (.ite h.errAt (by split; exacts [h.errAt, heff h])))
theorem Keeps.refuse (h : Keeps r s) {m a} : Keeps r (s.refuse m a) := h.errAt
theorem Keeps.when (h : Keeps r s) {m a c eff} (heff : ∀ {t}, Keeps r t → Keeps r (eff t)) : Keeps r (s.when m a c eff) :=
  .ite (heff h) h.refuse
theorem Keeps.headOne (h : Keeps r s) {m i page off eff} (heff : ∀ {t}, Keeps r t → Keeps r (eff t)) :
    Keeps r (s.headOne m i page off eff) :=
  .ite h.err (.ite h.err (.ite h.err (heff h)))
theorem Keeps.headMember (h : Keeps r s) {m page off eff} (heff : ∀ {t}, Keeps r t → Keeps r (eff t)) :
    Keeps r (s.headMember m page off eff) := by
  unfold State.headMember
  split
  · exact h
  · refine h.headOne fun h => ?_
    split
    · exact heff h
    · exact h.err
theorem Keeps.headGuard (h : Keeps r s) {m page off eff} (heff : ∀ {x0 t}, Keeps r t → Keeps r (eff x0 t)) :
    Keeps r (s.headGuard m page off eff) :=
  .ite h (by split; exacts [h.headOne (fun h => heff h), (by split; exacts [h.foldl (fun h => h.headMember (fun h => heff h)), h.err])])
theorem Keeps.setLock (h : Keeps r s) {page v} : Keeps r (s.setLock page v) := h.setReg.update
theorem Keeps.ackErr (h : Keeps r s) {page v} : Keeps r (s.ackErr page v) := .ite h.setReg.setReg h
theorem Keeps.force (h : Keeps r s) {m page v} : Keeps r (s.force m page v) := .ite (by split; exacts [h, h.counts]) h.err
theorem Keeps.reassert (h : Keeps r s) {k} : Keeps r (s.reassert k) := .ite h.deliver h
theorem Keeps.ackEvt (h : Keeps r s) {m k v} : Keeps r (s.ackEvt m k v) := .ite h.setEvt.reassert h.errAt
theorem Keeps.swEvt (h : Keeps r s) {v} : Keeps r (s.swEvt v) := h.counts
theorem Keeps.semTake (h : Keeps r s) {m n} : Keeps r (s.semTake m n) := .ite (Keeps.flight (.ite h.setSem h)) (.ite h.setSem h)
theorem Keeps.semWrite (h : Keeps r s) {m n v} : Keeps r (s.semWrite m n v) := .ite h.setSem h.errAt
theorem Keeps.semReclaim (h : Keeps r s) {m} : Keeps r (s.semReclaim m) := h.foldl (fun h => h.setSem.count)
theorem Keeps.routeWrite (h : Keeps r s) {m src v} : Keeps r (s.routeWrite m src v) := by
  unfold State.routeWrite
  split
  · exact h.errAt.count
  · exact .ite (.ite h.setReg.deliver h.setReg) (.ite h.setReg.hartIrq h.setReg)
theorem Keeps.msixPending (h : Keeps r s) {f v} : Keeps r (s.msixPending f v) := .ite h.setPba.out h

/-! ### Hold lines and the hardware extends -/

theorem Keeps.forceLine (h : Keeps r s) {i} : Keeps r (s.forceLine i) := h.update
theorem Keeps.recovLine (h : Keeps r s) {i} : Keeps r (s.recovLine i) := h.update
theorem Keeps.forcePort (h : Keeps r s) {p} : Keeps r (s.forcePort p) := by
  unfold State.forcePort
  split
  · exact h.forceLine
  · exact h
theorem Keeps.measHw (h : Keeps r s) {slot type src info data} : Keeps r (s.measHw slot type src info data) := by
  unfold State.measHw
  exact .ite h.update h.update

/-! ### Lanes as they are shared -/

theorem Keeps.wantLane (h : Keeps r s) {j} : Keeps r (s.wantLane j) := .ite h (by split; exacts [h.setLane, h])
theorem Keeps.wantLanes (h : Keeps r s) : Keeps r s.wantLanes := h.foldl (fun h => h.wantLane)
theorem Keeps.unmark (h : Keeps r s) {ctx} : Keeps r (s.unmark ctx) := h.foldl (fun h => .ite h.setLane h)
theorem Keeps.readyJob (h : Keeps r s) {j} : Keeps r (s.readyJob j) := by
  unfold State.readyJob
  exact .ite h.update.wantLane h.update
theorem Keeps.laneAbsorb (h : Keeps r s) {n k} : Keeps r (s.laneAbsorb n k) := h.add64
theorem Keeps.lanesStop (h : Keeps r s) {p} : Keeps r (s.lanesStop p) :=
  h.foldl (fun h => (by split; exacts [.ite h.setLane.laneAbsorb.freed h, h]))
theorem Keeps.permReady (h : Keeps r s) {ctx alg n} : Keeps r (s.permReady ctx alg n) := h.readyJob
theorem Keeps.permEnd (h : Keeps r s) {ctx} : Keeps r (s.permEnd ctx) := by
  unfold State.permEnd
  split
  · split
    · exact h.setLane.laneAbsorb
    · exact h
  · exact h.update.unmark.laneAbsorb
  · exact h
theorem Keeps.permDrop (h : Keeps r s) {i} : Keeps r (s.permDrop i) := h.lanesStop.update

/-! ### Flash ports -/

theorem Keeps.portErr (h : Keeps r s) {p cause cs} : Keeps r (s.portErr p cause cs) := h.setReg.count
theorem Keeps.policyHit (h : Keeps r s) {p cause cs opc region addr} : Keeps r (s.policyHit p cause cs opc region addr) :=
  h.setReg.setReg.count
theorem Keeps.useNode (h : Keeps r s) {p b l j} : Keeps r (s.useNode p b l j) := by
  unfold State.useNode
  split
  · exact h.update
  · exact h
theorem Keeps.addNode (h : Keeps r s) {n} : Keeps r (s.addNode n) := h.useNode.update
theorem Keeps.freeNodes (h : Keeps r s) {p b} : Keeps r (s.freeNodes p b) := h.update
theorem Keeps.setFrame (h : Keeps r s) {f b} : Keeps r (s.setFrame f b) := h.update
theorem Keeps.newPass (h : Keeps r s) {p} : Keeps r (s.newPass p) := by
  unfold State.newPass
  dsimp only
  split <;> exact h.setPort
theorem Keeps.wakeScrub (h : Keeps r s) {p} : Keeps r (s.wakeScrub p) := .ite h.newPass h
theorem Keeps.stitchBreak (h : Keeps r s) {p} : Keeps r (s.stitchBreak p) := .ite h ((Keeps.modPort (.ite h.modPort h)).flight)
theorem Keeps.pushCheck (h : Keeps r s) {p c} : Keeps r (s.pushCheck p c) := .ite h.modPort h.permReady.modPort
theorem Keeps.stitchStart (h : Keeps r s) {p region cs fa mcmd} : Keeps r (s.stitchStart p region cs fa mcmd) := h.modPort
theorem Keeps.stitchByte (h : Keeps r s) {p region cs fa b mcmd} : Keeps r (s.stitchByte p region cs fa b mcmd) :=
  .ite (Keeps.modPort (.ite h.modPort h)) (.ite ((Keeps.modPort (.ite h.modPort h)).pushCheck) (Keeps.modPort (.ite (Keeps.modPort
    (.ite h.modPort h)) (.ite h.modPort h))))
theorem Keeps.setSubst (h : Keeps r s) {p cls l on} : Keeps r (s.setSubst p cls l on) := h.modPort.measHw.wakeScrub
theorem Keeps.silence (h : Keeps r s) {p} : Keeps r (s.silence p) := .ite h.stitchBreak.modPort h
theorem Keeps.contain (h : Keeps r s) {p} : Keeps r (s.contain p) := by
  unfold State.contain
  extract_lets was s1 s2 ports s3
  have h2 : Keeps r s2 := by
    unfold s2
    split
    · exact h.modPort.forcePort.recovLine
    · exact h.modPort.forcePort
  have h3 : Keeps r s3 := h2.foldl (fun h => h.silence)
  exact .ite h3 h3.count
theorem Keeps.recFail (h : Keeps r s) {p vf0 addr cs mcmd leaf} : Keeps r (s.recFail p vf0 addr cs mcmd leaf) :=
  .ite h.setReg.setReg.setReg.count h.setReg.setReg.setReg.count.measHw.modPort
theorem Keeps.goodEnd (h : Keeps r s) {cls} : Keeps r (s.goodEnd cls) := h.update
theorem Keeps.autoSubst (h : Keeps r s) {p cls} : Keeps r (s.autoSubst p cls) := .ite h h.setSubst
theorem Keeps.verifyFail (h : Keeps r s) {p c cause bind leaf} : Keeps r (s.verifyFail p c cause bind leaf) :=
  .ite h.modPort.recFail.goodEnd.contain (.ite (.ite h.modPort.recFail.goodEnd.contain h.modPort.recFail.goodEnd.contain.autoSubst)
    h.modPort.recFail.goodEnd)
theorem Keeps.verifyPass (h : Keeps r s) {p c} : Keeps r (s.verifyPass p c) := h.modPort
theorem Keeps.judge (h : Keeps r s) {p c} : Keeps r (s.judge p c).1 := by
  unfold State.judge
  split
  · exact h
  · split
    · exact h.verifyFail
    · exact h.useNode.verifyPass
    · exact h.useNode.verifyFail

/-! ### Commands of a flash master -/

theorem Keeps.issue (h : Keeps r s) {p c} : Keeps r (s.issue p c) := h.out
theorem Keeps.toFlash (h : Keeps r s) {p cs opc a d} : Keeps r (s.toFlash p cs opc a d) := h.issue
theorem Keeps.begin (h : Keeps r s) {p c} : Keeps r (s.begin p c) := h.modPort
theorem Keeps.denyView (h : Keeps r s) {p cs kind} : Keeps r (s.denyView p cs kind) := h.modPort
theorem Keeps.doneView (h : Keeps r s) {p cs pe} : Keeps r (s.doneView p cs pe) := h.modPort
theorem Keeps.holdLine (h : Keeps r s) {p} : Keeps r (s.holdLine p) := by
  unfold State.holdLine
  split
  · exact h.forceLine.foldl (fun h => h.silence)
  · exact h
/-- The same for a byte of a master's read. -/
theorem Keeps.ite_read {a b : RdAcc} {c : Prop} [Decidable c] (ha : Keeps r a.s) (hb : Keeps r b.s) : Keeps r (if c then a else b).s := by
  split
  · exact ha
  · exact hb
theorem Keeps.foldl_read {α : Type} {f : RdAcc → α → RdAcc} {l : List α} {a : RdAcc} (h : Keeps r a.s)
    (hf : ∀ {t x}, Keeps r t.s → Keeps r (f t x).s) : Keeps r (l.foldl f a).s := by
  induction l generalizing a with
  | nil => exact h
  | cons x l ih => exact ih (hf h)
theorem Keeps.rdByte {x : RdAcc} (h : Keeps r x.s) {p mc fcs deny lease short i} : Keeps r (rdByte p mc fcs deny lease short x i).s := by
  unfold Machine.rdByte
  refine .ite_read h ?_
  extract_lets +onlyGivenNames s q a wrapped g mode stop
  have hstop {t} (ht : Keeps r t) : Keeps r (stop t) := .ite ht.stitchBreak ht
  refine .ite_read (hstop h).policyHit.holdLine (.ite_read (.ite (hstop h) (hstop h).policyHit) ?_)
  clear_value g
  cases g with
  | none => exact h
  | some j =>
    refine .ite_read (.ite (hstop h) (hstop h).policyHit) ?_
    extract_lets +onlyGivenNames nxt s2 f w fr ue s3
    have h2 : Keeps r s2 := .ite h.stitchBreak h
    have h3 : Keeps r s3 := by
      refine .ite ?_ h2
      clear_value w
      cases w with
      | none => exact h2
      | some k => exact h2.modPort.count
    exact .ite_read (.ite h3.stitchByte h3) (.ite_read (hstop h3) (.ite h3.stitchByte h3))
theorem Keeps.readData (h : Keeps r s) {p mc fcs deny lease short x} : Keeps r (s.readData p mc fcs deny lease short x).s := by
  unfold State.readData
  extract_lets y t u
  have hy : Keeps r y.s := .foldl_read h (fun h => h.rdByte)
  have ht : Keeps r t := .ite hy.portErr hy
  exact Keeps.out (.ite ht.portErr ht)
theorem Keeps.stitchCmd (h : Keeps r s) {p region cs fa} : Keeps r (s.stitchCmd p region cs fa) := .ite h.modPort h.stitchBreak.stitchStart
theorem Keeps.masterHold (h : Keeps r s) {p mc g a} : Keeps r (s.masterHold p mc g a) := h.policyHit.holdLine.begin
theorem Keeps.masterRead (h : Keeps r s) {p mc fcs e} : Keeps r (s.masterRead p mc fcs e) := by
  unfold State.masterRead
  extract_lets q cs lease short a g mode deny no fa follow t
  have ht : Keeps r t := .ite h.stitchCmd h.stitchBreak
  exact .ite ht.readData.begin (.ite ht.masterHold (.ite ht.policyHit.readData.begin (.ite ht.issue.begin ht.issue.readData.begin)))
theorem Keeps.masterDeny (h : Keeps r s) {p mc cls cause g a} : Keeps r (s.masterDeny p mc cls cause g a) := h.policyHit.denyView.begin
theorem Keeps.masterWrite (h : Keeps r s) {p mc fcs ei e} : Keeps r (s.masterWrite p mc fcs ei e) :=
  .ite h.begin (.ite h.masterHold (.ite h.masterDeny (.ite h.masterDeny (.ite h.begin (.ite h.begin h.masterDeny)))))
theorem Keeps.masterFwd (h : Keeps r s) {p mc fcs e a v} : Keeps r (s.masterFwd p mc fcs e a v) :=
  .ite h.begin (.ite h.issue.begin h.issue.out.begin)
theorem Keeps.masterAddr (h : Keeps r s) {p mc fcs e} : Keeps r (s.masterAddr p mc fcs e) :=
  .ite h.begin (.ite h.masterHold (.ite (.ite h.policyHit.out.begin h.policyHit.begin) h.masterFwd))
theorem Keeps.statusSeen (h : Keeps r s) {p mc fcs} : Keeps r (s.statusSeen p mc fcs) := .ite h h.modPort
theorem Keeps.masterStatus (h : Keeps r s) {p mc fcs e} : Keeps r (s.masterStatus p mc fcs e) :=
  .ite h.issue.begin h.issue.out.statusSeen.begin
theorem Keeps.masterWren (h : Keeps r s) {p mc fcs e} : Keeps r (s.masterWren p mc fcs e) := .ite h.masterFwd h.begin
theorem Keeps.masterOther (h : Keeps r s) {p mc fcs e} : Keeps r (s.masterOther p mc fcs e) :=
  .ite h.masterAddr (.ite h.masterStatus (.ite h.masterWren h.masterFwd))
theorem Keeps.masterLeased (h : Keeps r s) {p mc fcs cls rd} : Keeps r (s.masterLeased p mc fcs cls rd) :=
  .ite h.out.begin ((Keeps.portErr (.ite h.out h)).begin)
theorem Keeps.masterForbid (h : Keeps r s) {p mc} : Keeps r (s.masterForbid p mc) := h.policyHit.begin
theorem Keeps.accept (h : Keeps r s) {p mhz} : Keeps r (s.accept p mhz) := h.add64.setReg.modPort
theorem Keeps.shadowRead (h : Keeps r s) {p cs fcs d} : Keeps r (s.shadowRead p cs fcs d) :=
  Keeps.begin (.ite h.stitchBreak.out.portErr h.stitchBreak.out)
theorem Keeps.readId (h : Keeps r s) {p cs fcs n} : Keeps r (s.readId p cs fcs n) := h.shadowRead
theorem Keeps.readSfdp (h : Keeps r s) {p cs fcs addr n} : Keeps r (s.readSfdp p cs fcs addr n) := h.shadowRead
theorem Keeps.masterCmd (h : Keeps r s) {p mc fcs} : Keeps r (s.masterCmd p mc fcs) := by
  unfold State.masterCmd
  extract_lets s1 q code forbid
  have h1 : Keeps r s1 := h.accept
  have hforbid : Keeps r (forbid s1) := .ite h1.stitchBreak.masterLeased h1.stitchBreak.masterForbid
  refine .ite hforbid (.ite h1.readId (.ite h1.readSfdp ?_))
  split
  · exact hforbid
  · exact .ite hforbid (.ite (.ite h1.masterRead (.ite h1.stitchBreak.masterLeased h1.stitchBreak.begin))
      (.ite h1.stitchBreak.masterLeased (.ite h1.stitchBreak.masterWrite h1.stitchBreak.masterOther)))
theorem Keeps.assertCs (h : Keeps r s) {p cs} : Keeps r (s.assertCs p cs) := .ite h h.modPort
theorem Keeps.onCs (h : Keeps r s) {p cs eff} (heff : ∀ {x0 t}, Keeps r t → Keeps r (eff x0 t)) : Keeps r (s.onCs p cs eff) :=
  .ite (heff h.assertCs) h.assertCs
theorem Keeps.capture (h : Keeps r s) {p cs maddr e} : Keeps r (s.capture p cs maddr e) := by
  refine .ite h.policyHit ?_
  split
  · exact .ite h.policyHit.denyView.toFlash.modPort h.policyHit.denyView
  · exact Keeps.count (.ite h.modPort.setBytes.doneView.policyHit h.modPort.setBytes.doneView)
theorem Keeps.lateData (h : Keeps r s) {p d dead} : Keeps r (s.lateData p d dead).1 := by
  unfold State.lateData
  split
  · refine .ite_fst ?_ h.readData
    have hread : Keeps r ((List.range d.mc.n).foldl (Machine.rdByte p d.mc d.fcs false false true) (RdAcc.start s (some d.addr) d.follow
      false false)).s :=
      .foldl_read h (fun h => h.rdByte)
    exact .pair hread.stitchBreak.out
  · exact .ite h.out h.out.statusSeen
  · exact h.out
theorem Keeps.csEnd (h : Keeps r s) {p c} : Keeps r (s.csEnd p c) := by
  unfold State.csEnd
  extract_lets cs d s1 s2 s3 s4 s5
  have hd : Keeps r d.1 := by
    unfold d
    split
    · exact h.lateData
    · exact h
  have h1 : Keeps r s1 := by
    unfold s1
    split
    · exact hd.issue
    · exact hd
  have h3 : Keeps r s3 := by
    unfold s3
    split
    · exact h1.modPort.modPort
    · exact h1.modPort
  have h5 : Keeps r s5 := by
    unfold s5
    split
    · exact h3.modPort.capture
    · exact h3.modPort
  exact .ite h5.toFlash.modPort h5

/-! ### Entry into the admission queue -/

theorem Keeps.enqueue (h : Keeps r s) {i cls timeout what} : Keeps r (s.enqueue i cls timeout what) := h.setAdm.update
theorem Keeps.withdraw (h : Keeps r s) {i} : Keeps r (s.withdraw i) := .ite h.setAdm.count h
theorem Keeps.failView (h : Keeps r s) {p e} : Keeps r (s.failView p e) := h.modPort
theorem Keeps.wqEnd (h : Keeps r s) {p i st x} : Keeps r (s.wqEnd p i st x) :=
  .ite ((Keeps.modPort (.ite h.modPort.failView h.modPort)).count) (Keeps.modPort (.ite h.modPort.failView h.modPort))
theorem Keeps.wqAsk (h : Keeps r s) {p} : Keeps r (s.wqAsk p) := .ite h (by split; exacts [h.enqueue, h])
theorem Keeps.admDone (h : Keeps r s) {i x} : Keeps r (s.admDone i x) := h.setAdm.update.setReg.incReg.count

/-! ### Tables of a port -/

theorem Keeps.setReject (h : Keeps r s) {a code} : Keeps r (s.setReject a code) := h.setFld
theorem Keeps.ctTrig (h : Keeps r s) {m p eff} (heff : ∀ {t}, Keeps r t → Keeps r (eff t)) : Keeps r (s.ctTrig m p eff) := h.when heff
theorem Keeps.rtTrig (h : Keeps r s) {m p eff} (heff : ∀ {t}, Keeps r t → Keeps r (eff t)) : Keeps r (s.rtTrig m p eff) := h.when heff
theorem Keeps.ctWrite (h : Keeps r s) {m p} : Keeps r (s.ctWrite m p) := h.ctTrig (fun h => .ite h.setReject.modPort h.setReject.refuse)
theorem Keeps.ctRead (h : Keeps r s) {p} : Keeps r (s.ctRead p) := h.setReg.setReg
theorem Keeps.ctClear (h : Keeps r s) {m p} : Keeps r (s.ctClear m p) := h.ctTrig (fun h => h.modPort)
theorem Keeps.ctSwapReq (h : Keeps r s) {m p} : Keeps r (s.ctSwapReq m p) := h.ctTrig (fun h => h.modPort)
theorem Keeps.rtWrite (h : Keeps r s) {m p} : Keeps r (s.rtWrite m p) := h.rtTrig (fun h => .ite h.setReject.modPort h.setReject.refuse)
theorem Keeps.rtRead (h : Keeps r s) {p} : Keeps r (s.rtRead p) := h.foldl (fun h => h.setReg)
theorem Keeps.rtClear (h : Keeps r s) {m p} : Keeps r (s.rtClear m p) := h.rtTrig (fun h => h.modPort)
theorem Keeps.rtSwapReq (h : Keeps r s) {m p} : Keeps r (s.rtSwapReq m p) := h.rtTrig (fun h => h.modPort)
theorem Keeps.swapAllReq (h : Keeps r s) {m p} : Keeps r (s.swapAllReq m p) := by
  unfold State.swapAllReq
  exact Keeps.modPort (.ite h.refuse h)

/-! ### The write queue -/

theorem Keeps.wqResult (h : Keeps r s) {p x} : Keeps r (s.wqResult p x) := h.setFld
theorem Keeps.wqApply (h : Keeps r s) {p} : Keeps r (s.wqApply p) := .ite (.ite h.wqResult h.modPort.wqResult.wqAsk) h.wqResult
theorem Keeps.wqDiscard (h : Keeps r s) {p} : Keeps r (s.wqDiscard p) :=
  .ite (((Keeps.wqEnd (.ite h.withdraw h)).wqResult).wqAsk) h.wqResult
theorem Keeps.wqRetire (h : Keeps r s) {p} : Keeps r (s.wqRetire p) := .ite h.modPort.wqResult h.wqResult
theorem Keeps.wqFence (h : Keeps r s) {p} : Keeps r (s.wqFence p) := by
  unfold State.wqFence
  split
  · exact h.wqResult
  · exact h.modPort.wqResult
theorem Keeps.wqStart (h : Keeps r s) {p i} : Keeps r (s.wqStart p i) := h.modPort.toFlash.toFlash
theorem Keeps.wqFinish (h : Keeps r s) {p i ok} : Keeps r (s.wqFinish p i ok) := by
  unfold State.wqFinish
  exact Keeps.wqAsk (.ite h.modPort.wqEnd.admDone h.modPort.wqEnd)
theorem Keeps.sendFailClr (h : Keeps r s) {p cs} : Keeps r (s.sendFailClr p cs) := h.toFlash

/-! ### Leases, discovery, calibration and banks -/

theorem Keeps.leaseWrite (h : Keeps r s) {p v} : Keeps r (s.leaseWrite p v) := h.setReg
theorem Keeps.eraseAt (h : Keeps r s) {p cs a} : Keeps r (s.eraseAt p cs a) := by
  unfold State.eraseAt
  exact .ite h.toFlash h.update
theorem Keeps.eraseRun (h : Keeps r s) {p cs} : Keeps r (s.eraseRun p cs) := h.update.foldl (fun h => h.toFlash)
theorem Keeps.resetModes (h : Keeps r s) {p} : Keeps r (s.resetModes p) := h.modPort
theorem Keeps.mrst (h : Keeps r s) {p} : Keeps r (s.mrst p) := by
  unfold State.mrst
  dsimp only
  split
  · exact h.silence.resetModes.modPort.modPort.portErr
  · exact h.silence.resetModes.modPort.out
theorem Keeps.devCmds (h : Keeps r s) {p cs l} : Keeps r (s.devCmds p cs l) := .ite (h.foldl (fun h => h.toFlash)) h
theorem Keeps.discStart (h : Keeps r s) {p cs} : Keeps r (s.discStart p cs) := h.out.modPort.devCmds
theorem Keeps.discover (h : Keeps r s) {m p v} : Keeps r (s.discover m p v) :=
  h.when (fun h => .ite (Keeps.discStart (.ite h.discStart h)) (.ite h.discStart h))
theorem Keeps.discDone (h : Keeps r s) {p cs x} : Keeps r (s.discDone p cs x) :=
  .ite (.ite h.modPort.setFld (.ite h.modPort.setFld h.modPort)) (Keeps.portErr (.ite h.modPort.setFld (.ite h.modPort.setFld h.modPort)))
theorem Keeps.sfdpStep (h : Keeps r s) {p} : Keeps r (s.sfdpStep p) := h.setFld
theorem Keeps.phyCal (h : Keeps r s) {p} : Keeps r (s.phyCal p) := .ite h.modPort h
theorem Keeps.calDone (h : Keeps r s) {p best} : Keeps r (s.calDone p best) := by
  unfold State.calDone
  split
  · exact h.modPort.setReg
  · exact h.modPort.setFld
theorem Keeps.setDue (h : Keeps r s) {a v} : Keeps r (s.setDue a v) := h.update
theorem Keeps.faultEntry (h : Keeps r s) {p was} : Keeps r (s.faultEntry p was) := .ite h.portErr.silence h
theorem Keeps.portApply (h : Keeps r s) {p a v} : Keeps r (s.portApply p a v) :=
  .ite (.ite (.ite h.setReg.modPort h.setReg) h.portErr) (.ite h.setReg h.setReg.faultEntry)
theorem Keeps.portPending (h : Keeps r s) {p} : Keeps r (s.portPending p) := h.foldl (fun h => (by split; exacts [h.setDue.portApply, h]))
theorem Keeps.bankTo (h : Keeps r s) {p code} : Keeps r (s.bankTo p code) := h.modPort.faultEntry

/-! ### Bindings, windows, scrub and full checks -/

theorem Keeps.bReject (h : Keeps r s) {p code} : Keeps r (s.bReject p code) := h.setFld
theorem Keeps.putBind (h : Keeps r s) {p b x} : Keeps r (s.putBind p b x) := h.modPort
theorem Keeps.bindWrite (h : Keeps r s) {m p} : Keeps r (s.bindWrite m p) := h.when (fun h => .ite h.putBind.bReject h.bReject)
theorem Keeps.bindRead (h : Keeps r s) {p} : Keeps r (s.bindRead p) := h.setReg.setReg.setReg.setReg.foldl (fun h => h.setReg)
theorem Keeps.bindLoad (h : Keeps r s) {m p} : Keeps r (s.bindLoad m p) := h.when (fun h => .ite h.bReject h.putBind)
theorem Keeps.bindFail (h : Keeps r s) {p b} : Keeps r (s.bindFail p b) := h.modPort.freeNodes
theorem Keeps.loadFail (h : Keeps r s) {p b l j node} : Keeps r (s.loadFail p b l j node) := h.bindFail.recFail
theorem Keeps.treeNode (h : Keeps r s) {p b node} : Keeps r (s.treeNode p b node) := by
  unfold State.treeNode
  dsimp only
  split
  · exact .ite h.addNode.putBind h.bindFail
  · exact .ite h (by split; exacts [h, .ite h.addNode.putBind h.loadFail])
theorem Keeps.nodeUe (h : Keeps r s) {p b l j} : Keeps r (s.nodeUe p b l j) := by
  unfold State.nodeUe
  split
  · exact h
  · exact .ite h.update.count.putBind h.update.count
theorem Keeps.demand (h : Keeps r s) {p b want nodes} : Keeps r (s.demand p b want nodes).1 := by
  fun_induction State.demand s p b want nodes with
  | case1 s l j ws n ns hok ih => exact ih h.addNode
  | case2 => exact h
  | case3 => exact h
theorem Keeps.scrubStep (h : Keeps r s) {p} : Keeps r (s.scrubStep p) := by
  unfold State.scrubStep
  dsimp only
  split
  · exact h.modPort
  · exact h.incReg.count.newPass
theorem Keeps.fullEnd (h : Keeps r s) {p} : Keeps r (s.fullEnd p) := h.modPort.count
theorem Keeps.fullStep (h : Keeps r s) {p ok} : Keeps r (s.fullStep p ok) := by
  unfold State.fullStep
  dsimp only
  split
  · exact h
  · exact .ite h.modPort (.ite h.modPort.fullEnd h.modPort)
theorem Keeps.winStep (h : Keeps r s) {p w data ok} : Keeps r (s.winStep p w data ok) := .ite h (.ite h.setFrame.modPort h.modPort)
theorem Keeps.devAfter (h : Keeps r s) {p c ok} : Keeps r (s.devAfter p c ok) := by
  unfold State.devAfter
  split
  · exact h
  · exact h.scrubStep
  · exact h.winStep
  · exact h.fullStep
theorem Keeps.devJudge (h : Keeps r s) {p c} : Keeps r (s.devJudge p c) := h.permEnd.judge.devAfter
theorem Keeps.devRead (h : Keeps r s) {p c} : Keeps r (s.devRead p c) := .ite h.permReady.devJudge h.permReady.modPort
theorem Keeps.devSettle (h : Keeps r s) {p} : Keeps r (s.devSettle p) := by
  unfold State.devSettle
  dsimp only
  split
  · exact .ite ((Keeps.modPort (.ite h.fullEnd h)).devJudge) (.ite h.fullEnd h)
  · exact .ite h.fullEnd h
theorem Keeps.bindConfirm (h : Keeps r s) {m p} : Keeps r (s.bindConfirm m p) := h.when (fun h => h.modPort.measHw.wakeScrub.devSettle)
theorem Keeps.bindUnbind (h : Keeps r s) {p} : Keeps r (s.bindUnbind p) :=
  (Keeps.wakeScrub (.ite ((Keeps.modPort (.ite h.stitchBreak h)).freeNodes) (((Keeps.modPort
    (.ite h.stitchBreak h)).freeNodes).measHw))).devSettle
theorem Keeps.devFault (h : Keeps r s) {p c} : Keeps r (s.devFault p c) := h.verifyFail.devAfter
theorem Keeps.demandRead (h : Keeps r s) {p b nodes} : Keeps r (s.demandRead p b nodes) := by
  unfold State.demandRead
  dsimp only
  split
  · split
    · exact h.demand.devSettle
    · exact h.demand.modPort.verifyFail
  · split
    · exact h
    · exact .ite h (by split; exacts [h.demand.devSettle, h.demand.modPort.verifyFail.devAfter])
theorem Keeps.checkDone (h : Keeps r s) {p} : Keeps r (s.checkDone p) := by
  unfold State.checkDone
  split
  · exact h
  · exact h.permEnd.modPort.judge
theorem Keeps.pwWrite (h : Keeps r s) {m p} : Keeps r (s.pwWrite m p) := h.when (fun h => h.modPort)
theorem Keeps.pwRead (h : Keeps r s) {p} : Keeps r (s.pwRead p) := h.setReg.setReg
theorem Keeps.pwLoad (h : Keeps r s) {m p} : Keeps r (s.pwLoad m p) := h.when (fun h => h.modPort)
theorem Keeps.pwUnload (h : Keeps r s) {m p} : Keeps r (s.pwUnload m p) := h.when (fun h => h.modPort)
theorem Keeps.winRead (h : Keeps r s) {p w data} : Keeps r (s.winRead p w data) :=
  .ite h (by split; exacts [h.devRead, .ite h.devFault h.modPort])
theorem Keeps.winApply (h : Keeps r s) {p w} : Keeps r (s.winApply p w) := by
  unfold State.winApply
  dsimp only
  split
  · exact h.modPort.count
  · exact h.modPort
  · exact h
theorem Keeps.scrubRead (h : Keeps r s) {p data} : Keeps r (s.scrubRead p data) := by
  refine .ite h ?_
  split
  · exact .ite h.scrubStep h.modPort
  · exact .ite h (by split; exacts [h.modPort.devRead, .ite h.modPort.devFault h.modPort.modPort])
theorem Keeps.fullStart (h : Keeps r s) {m p} : Keeps r (s.fullStart m p) := h.when (fun h => .ite h.modPort.fullEnd h.modPort)
theorem Keeps.fullRead (h : Keeps r s) {p data} : Keeps r (s.fullRead p data) := by
  unfold State.fullRead
  dsimp only
  split
  · exact h
  · exact .ite h (by split; exacts [h.devRead, .ite h.devFault h.modPort])
theorem Keeps.scrubRestart (h : Keeps r s) {m p} : Keeps r (s.scrubRestart m p) := h.when (fun h => .ite h.newPass h)
theorem Keeps.verResume (h : Keeps r s) {m p} : Keeps r (s.verResume m p) := h.when (fun h => h.modPort)
theorem Keeps.substCtrl (h : Keeps r s) {m p v} : Keeps r (s.substCtrl m p v) := h.when (fun h => .ite h.setSubst (.ite h.setSubst h))
theorem Keeps.covReset (h : Keeps r s) {p} : Keeps r (s.covReset p) := h.modPort
theorem Keeps.portStop (h : Keeps r s) {p} : Keeps r (s.portStop p) :=
  (h.setPort.foldl (fun h => h.freeNodes)).foldl (fun h => .ite (.ite h.modPort.failView h.modPort) h)

/-! ### Queues and rings as operations use them -/

theorem Keeps.take (h : Keeps r s) {src} : Keeps r (s.take src) := .ite h.setQueue h
theorem Keeps.job (h : Keeps r s) {src d opc eff} (heff : ∀ {t}, Keeps r t → Keeps r (eff t)) : Keeps r (s.job src d opc eff) :=
  .ite (heff h.take) h
theorem Keeps.ringIrq (h : Keeps r s) {k} : Keeps r (s.ringIrq k) := .ite h.resume h
theorem Keeps.qError (h : Keeps r s) {q cause slot} : Keeps r (s.qError q cause slot) := .ite h.setQueue.count h.setQueue
theorem Keeps.cqWrite (h : Keeps r s) {src opc st result detail} : Keeps r (s.cqWrite src opc st result detail) :=
  .ite h.out.setQueue.count h.flight.setBytes.setQueue.ringIrq
theorem Keeps.entryDone (h : Keeps r s) {src opc st result detail} : Keeps r (s.entryDone src opc st result detail) :=
  .ite h.setQueue (.ite h.setQueue.setQueue.qError h.setQueue.cqWrite)
theorem Keeps.stall (h : Keeps r s) {w} : Keeps r (s.stall w) := h.update
theorem Keeps.complete (h : Keeps r s) {src opc st result detail} : Keeps r (s.complete src opc st result detail) :=
  .ite h.out (.ite h (.ite h.entryDone h.take.stall))
theorem Keeps.hostWrite (h : Keeps r s) {m addr data} : Keeps r (s.hostWrite m addr data) := h.out
theorem Keeps.putOut (h : Keeps r s) {eng src addr data} : Keeps r (s.putOut eng src addr data) :=
  .ite h (.ite h.dmaRecords.setBytes (.ite h.hostWrite h.stall))
theorem Keeps.unstall (h : Keeps r s) {w} : Keeps r (s.unstall w) := by
  unfold State.unstall
  split
  · exact h.hostWrite
  · exact h.entryDone
theorem Keeps.stallDrop (h : Keeps r s) {m} : Keeps r (s.stallDrop m) := h.update
theorem Keeps.stallGo (h : Keeps r s) {m} : Keeps r (s.stallGo m) := .ite (h.stallDrop.foldl (fun h => h.unstall)) h

/-! ### Fuses -/

theorem Keeps.blow (h : Keeps r s) {i bs} : Keeps r (s.blow i bs) := by
  induction bs generalizing s i with
  | nil => exact h
  | cons b t ih => exact ih h.setFuse_or
theorem Keeps.fuseKey (h : Keeps r s) {i val timeout} : Keeps r (s.fuseKey i val timeout) := h.enqueue

/-! ### The Cellar -/

theorem Keeps.setBank (h : Keeps r s) {b v} : Keeps r (s.setBank b v) := by
  unfold State.setBank
  exact .ite h.update h.update
theorem Keeps.poisonKey (h : Keeps r s) {k why} : Keeps r (s.poisonKey k why) := h.update
theorem Keeps.destroyFor (h : Keeps r s) {i why} : Keeps r (s.destroyFor i why) := by
  unfold State.destroyFor
  exact .ite h (.ite h.poisonKey.update.setSlot.count h.poisonKey.update.setSlot)
theorem Keeps.destroy (h : Keeps r s) {i} : Keeps r (s.destroy i) := by
  unfold State.destroy
  exact .ite h.poisonKey.update (.ite h h.destroyFor)
theorem Keeps.reap (h : Keeps r s) : Keeps r s.reap := h.foldl (fun h => .ite h h.destroyFor)
theorem Keeps.destroyAll (h : Keeps r s) {f} : Keeps r (s.destroyAll f) := h.foldl (fun h => h.destroy)
theorem Keeps.destroyOwner (h : Keeps r s) {m} : Keeps r (s.destroyOwner m) := h.destroyAll.count
theorem Keeps.noSlot (h : Keeps r s) {m} : Keeps r (s.noSlot m) := by
  unfold State.noSlot
  exact .ite h.update.count.count h.update.count
theorem Keeps.putCtx (h : Keeps r s) {i st c} : Keeps r (s.putCtx i st c) := h.setSlot.update
theorem Keeps.takeUse (h : Keeps r s) {k} : Keeps r (s.takeUse k).1 := .ite_fst h h.setSlot
theorem Keeps.lastUse (h : Keeps r s) {k} : Keeps r (s.lastUse k) := .ite h.destroy.count h
theorem Keeps.celFail (h : Keeps r s) {src opc st detail} : Keeps r (s.celFail src opc st detail) :=
  Keeps.complete (.ite (Keeps.count (.ite h.count h)) (.ite h.count h))
theorem Keeps.celRun (h : Keeps r s) {o} : Keeps r (s.celRun o) := h.update
theorem Keeps.celJob (h : Keeps r s) {src d io eff} (heff : ∀ {t x1}, Keeps r t → Keeps r (eff t x1)) : Keeps r (s.celJob src d io eff) :=
  .ite h.celFail (heff h)
theorem Keeps.withKey (h : Keeps r s) {src opc k bit eff} (heff : ∀ {t x1}, Keeps r t → Keeps r (eff t x1)) :
    Keeps r (s.withKey src opc k bit eff) :=
  .ite h.celFail (heff h)
theorem Keeps.withSlot (h : Keeps r s) {src opc st c eff} (heff : ∀ {t x1}, Keeps r t → Keeps r (eff t x1)) :
    Keeps r (s.withSlot src opc st c eff) := by
  unfold State.withSlot
  split
  · exact h.noSlot.celFail
  · exact heff h.putCtx
theorem Keeps.celUseRun (h : Keeps r s) {k o} : Keeps r (s.celUseRun k o) := h.takeUse.celRun
theorem Keeps.keyGenerate (h : Keeps r s) {src d} : Keeps r (s.keyGenerate src d) := by
  unfold State.keyGenerate
  exact h.withSlot (fun h => h.drew.celRun)
theorem Keeps.keyReserve (h : Keeps r s) {src d} : Keeps r (s.keyReserve src d) := by
  unfold State.keyReserve
  exact h.withSlot (fun h => h.celRun)
theorem Keeps.wrapped (h : Keeps r s) : Keeps r s.wrapped := h.update
theorem Keeps.keyWrap (h : Keeps r s) {src d io} : Keeps r (s.keyWrap src d io) :=
  .ite h.celFail (h.withKey (fun h => .ite h.celFail (by split; exacts [h.celFail, .ite h.celFail h.wrapped.celUseRun])))
theorem Keeps.loadBlob (h : Keeps r s) {m b} : Keeps r (s.loadBlob m b).1 := by
  unfold State.loadBlob
  refine .ite_fst h.noSlot (.ite_fst h.update.count (.ite_fst h ?_))
  split
  · exact h.putCtx.update
  · exact h.update.count
theorem Keeps.keyLoad (h : Keeps r s) {src d io} : Keeps r (s.keyLoad src d io) := .ite h.loadBlob.celRun h.loadBlob.celFail
theorem Keeps.keyUnload (h : Keeps r s) {src d} : Keeps r (s.keyUnload src d) := h.withKey (fun h => h.destroy.celRun)
theorem Keeps.keyQuery (h : Keeps r s) {src d io} : Keeps r (s.keyQuery src d io) := by
  refine .ite ?_ (h.withKey (fun h => .ite h.celFail (.ite h.celFail h.celRun)))
  split
  · exact .ite (.ite h.celFail (.ite h.celFail h.celRun)) h.celFail
  · exact h.celFail
theorem Keeps.keyDerive (h : Keeps r s) {src d io} : Keeps r (s.keyDerive src d io) :=
  h.withKey (fun h => .ite h.celFail (h.withSlot (fun h => h.celUseRun)))
theorem Keeps.keyImport (h : Keeps r s) {src d io} : Keeps r (s.keyImport src d io) := by
  refine .ite h.celFail (.ite h.celFail (h.withKey (fun h => .ite h.celFail (.ite h.noSlot.celFail ?_))))
  split
  · exact h.count.celFail
  · exact h.withSlot (fun h => h.celUseRun)
theorem Keeps.aesSeal (h : Keeps r s) {src d io} : Keeps r (s.aesSeal src d io) :=
  h.withKey (fun h => .ite h.celFail (.ite h.celFail (.ite h.celFail h.drew.celUseRun)))
theorem Keeps.aesOpen (h : Keeps r s) {src d io} : Keeps r (s.aesOpen src d io) := by
  unfold State.aesOpen
  dsimp only
  exact h.withKey (fun h => .ite h.celFail (.ite h.celFail (.ite h.celFail (by split <;> exact h.celUseRun))))
theorem Keeps.signWith (h : Keeps r s) {src d io t material k} : Keeps r (s.signWith src d io t material k) :=
  .ite h.celFail (.ite h.celFail (.ite h.celFail (.ite h.celFail (by split; exacts [h.drew.celUseRun, h.drew.celRun]))))
theorem Keeps.pkSign (h : Keeps r s) {src d io} : Keeps r (s.pkSign src d io) :=
  .ite (by split; exacts [.ite h.signWith h.celFail, h.celFail]) (h.withKey (fun h => h.signWith))
theorem Keeps.pkVerify (h : Keeps r s) {src d io} : Keeps r (s.pkVerify src d io) := .ite h.celFail (.ite h.celRun h.celRun)
theorem Keeps.keyExchange (h : Keeps r s) {src d io} : Keeps r (s.keyExchange src d io) :=
  h.withKey (fun h => .ite h.celFail (.ite h.celFail (h.withSlot (fun h => h.celUseRun))))
theorem Keeps.keyEncaps (h : Keeps r s) {src d io} : Keeps r (s.keyEncaps src d io) :=
  .ite h.celFail (.ite h.celFail (h.withSlot (fun h => h.drew.celRun)))
theorem Keeps.proof (h : Keeps r s) {src d io} : Keeps r (s.proof src d io) :=
  .ite h.celFail (h.withKey (fun h => .ite h.celFail (.ite h.celFail (.ite h.celFail h.celUseRun))))
theorem Keeps.celEnd (h : Keeps r s) {o} : Keeps r (s.celEnd o) := by
  unfold State.celEnd
  extract_lets s1 s2 _ s3 s4
  have h2 : Keeps r s2 := Keeps.complete (.ite h.putOut h)
  have h3 : Keeps r s3 := .ite h2.update h2
  have h4 : Keeps r s4 := .ite h3.count h3
  refine Keeps.reap ?_
  split
  · exact h4.lastUse
  · exact h4
theorem Keeps.celUe (h : Keeps r s) {i} : Keeps r (s.celUe i) := by
  unfold State.celUe
  exact .ite h h.update.destroyFor.count.count
theorem Keeps.celWipe (h : Keeps r s) : Keeps r s.celWipe := h.foldl (fun h => h.destroyFor)
theorem Keeps.celTamper (h : Keeps r s) : Keeps r s.celTamper := ((h.update.foldl (fun h => h.complete)).celWipe).count
theorem Keeps.celIssuerReset (h : Keeps r s) {m} : Keeps r (s.celIssuerReset m) :=
  (h.update.foldl (fun h => (by split; exacts [h.lastUse, h]))).reap

/-! ### Measurement -/

theorem Keeps.appendLog (h : Keeps r s) {b} : Keeps r (s.appendLog b) := h.update
theorem Keeps.applyExtend (h : Keeps r s) {e} : Keeps r (s.applyExtend e) :=
  .ite h.setMslot.appendLog (.ite h.setMslot.appendLog h.setMslot)
theorem Keeps.extendNext (h : Keeps r s) : Keeps r s.extendNext := by
  unfold State.extendNext
  split
  · exact h.update.applyExtend
  · split
    · exact h
    · split
      · exact h.update.applyExtend.complete
      · exact h.update.applyExtend
theorem Keeps.extendAll (h : Keeps r s) : Keeps r s.extendAll := h.foldl (fun h => h.extendNext)
theorem Keeps.askExtend (h : Keeps r s) {e} : Keeps r (s.askExtend e) := h.update
theorem Keeps.measExtend (h : Keeps r s) {src d io} : Keeps r (s.measExtend src d io) :=
  .ite h.complete (.ite h.complete (.ite h.complete (.ite h.complete (.ite h.complete (.ite h.complete h.askExtend)))))
theorem Keeps.measRead (h : Keeps r s) {src d io} : Keeps r (s.measRead src d io) :=
  .ite h.complete (.ite h.complete (.ite h.complete (.ite h.complete h.putOut.complete)))
theorem Keeps.measDefine (h : Keeps r s) {src d} : Keeps r (s.measDefine src d) :=
  .ite h.complete (.ite h.complete (.ite h.complete h.setMslot.complete))
theorem Keeps.measScan (h : Keeps r s) {src d io} : Keeps r (s.measScan src d io) := by
  unfold State.measScan
  exact .ite h.complete (.ite h.complete (.ite h.complete (.ite h.complete (.ite h.complete (.ite h.complete (.ite h.complete h.update))))))

/-! ### Digest contexts, jobs and lanes -/

theorem Keeps.ctxFree (h : Keeps r s) {i} : Keeps r (s.ctxFree i) := .ite h (.ite h.setDctx.lastUse h.setDctx)
theorem Keeps.enqueueJob (h : Keeps r s) {j} : Keeps r (s.enqueueJob j) := Keeps.readyJob (.ite h.setDctx h)
theorem Keeps.laneEnd (h : Keeps r s) {j st} : Keeps r (s.laneEnd j st) := by
  unfold State.laneEnd
  split
  · exact h
  · exact h
  · exact .ite h.incReg.count h.incReg.count.setReg.count
theorem Keeps.macOver (h : Keeps r s) {p st} : Keeps r (s.macOver p st) := by
  unfold State.macOver
  exact .ite h h.update
theorem Keeps.rangeFault (h : Keeps r s) {i st} : Keeps r (s.rangeFault i st) := by
  unfold State.rangeFault
  split
  · exact h
  · exact .ite h h.update
theorem Keeps.jobOver (h : Keeps r s) {j st res det} : Keeps r (s.jobOver j st res det) := by
  unfold State.jobOver
  split
  · exact h.laneEnd.unmark.complete
  · exact h.laneEnd.unmark.macOver
  · exact h.laneEnd.unmark
  · exact .ite h.laneEnd.unmark h.laneEnd.unmark.rangeFault
theorem Keeps.settle (h : Keeps r s) {i fuel} : Keeps r (s.settle i fuel) := by
  induction fuel generalizing s with
  | zero => exact h
  | succ k ih =>
    unfold State.settle
    refine .ite h ?_
    split
    · exact h
    · exact .ite (ih h.update.jobOver) (.ite (ih h.update.ctxFree.jobOver)
        (.ite (ih (Keeps.jobOver (.ite h.update.ctxFree h.update))) (.ite h h.setDctx.wantLane)))
theorem Keeps.settleAll (h : Keeps r s) {i} : Keeps r (s.settleAll i) := h.settle
theorem Keeps.laneTake (h : Keeps r s) {n j} : Keeps r (s.laneTake n j) := by
  unfold State.laneTake
  exact .ite h.unmark.setLane.update h.unmark.setLane.update.setDctx
theorem Keeps.laneStart (h : Keeps r s) {n} : Keeps r (s.laneStart n) := .ite (by split; exacts [.ite h.settleAll h.laneTake, h]) h
theorem Keeps.laneSuspend (h : Keeps r s) {n j} : Keeps r (s.laneSuspend n j) := by
  unfold State.laneSuspend
  exact Keeps.incReg (.ite h.setLane.laneAbsorb.freed.update h.setLane.laneAbsorb.freed.update.setDctx)
theorem Keeps.lanePreempt (h : Keeps r s) {n} : Keeps r (s.lanePreempt n) := by
  unfold State.lanePreempt
  split
  · exact h
  · exact .ite h.laneSuspend.settleAll.laneStart.wantLanes h
theorem Keeps.digAccept (h : Keeps r s) {src d} : Keeps r (s.digAccept src d) := by
  have key {c : Prop} [Decidable c] {opc st a b} : Keeps r ((if c then s.count (evCel 14) else s).complete src opc st a b) :=
    Keeps.complete (.ite h.count h)
  refine .ite h.complete (.ite h.complete (.ite ?_ (.ite h.complete (.ite key (.ite (.ite h.ctxFree.complete h.complete) h.enqueueJob)))))
  split
  · exact h.complete
  · exact .ite key (Keeps.enqueueJob (Keeps.setDctx (.ite_fst h.takeUse h)))
theorem Keeps.digDiscard (h : Keeps r s) {src d} : Keeps r (s.digDiscard src d) := by
  unfold State.digDiscard
  exact .ite h.complete (.ite h.complete h.update.settleAll)
theorem Keeps.fillSlot (h : Keeps r s) {m k x} : Keeps r (s.fillSlot m k x).1 :=
  .ite_fst h (.ite_fst h.count (.ite_fst h (.ite_fst h h.setSlot)))
theorem Keeps.deliverDigest (h : Keeps r s) {j c io} : Keeps r (s.deliverDigest j c io).1 := by
  unfold State.deliverDigest
  dsimp only
  split
  · exact .ite_fst h h.putOut
  · split <;> exact h
  · exact .ite_fst h (.ite_fst h (.ite_fst h h.askExtend))
  · exact h.fillSlot
theorem Keeps.jobEnd (h : Keeps r s) {n j io} : Keeps r (s.jobEnd n j io) := by
  unfold State.jobEnd
  extract_lets c s1 fin freeIf d
  have h1 : Keeps r s1 := h.setLane
  have hfin {t st x y} (ht : Keeps r t) : Keeps r (fin t st x y) := ht.jobOver.settleAll
  refine .ite (hfin (.ite h1.laneAbsorb.freed.ctxFree h1.laneAbsorb.freed)) ?_
  split
  · exact hfin (.ite h1.ctxFree h1.setDctx)
  · exact hfin (.ite h1.laneAbsorb.ctxFree h1.laneAbsorb.setDctx)
  · exact .ite (hfin h1.laneAbsorb.deliverDigest.ctxFree) (hfin h1.laneAbsorb.setDctx)
theorem Keeps.scanFill (h : Keeps r s) {fuel} : Keeps r (s.scanFill fuel) := by
  fun_induction State.scanFill s fuel with
  | case1 => exact h
  | case2 => exact h
  | case3 s k x hx hne i hi c t ih => exact ih h.setDctx.enqueueJob.update
  | case4 => exact h
theorem Keeps.rangeEnd (h : Keeps r s) {n i j io} : Keeps r (s.rangeEnd n i j io) := by
  unfold State.rangeEnd
  split
  · exact h
  · exact h.setLane.laneAbsorb.ctxFree.update.jobOver.scanFill
theorem Keeps.macStart (h : Keeps r s) {p n} : Keeps r (s.macStart p n) := by
  unfold State.macStart
  split
  · exact h
  · exact h.setDctx.enqueueJob
theorem Keeps.macEnd (h : Keeps r s) {n j} : Keeps r (s.macEnd n j) := h.setLane.laneAbsorb.ctxFree.jobOver.settleAll
theorem Keeps.abortCtx (h : Keeps r s) {i st} : Keeps r (s.abortCtx i st) := h.update
theorem Keeps.ctxUe (h : Keeps r s) {i} : Keeps r (s.ctxUe i) :=
  .ite (.ite h.count.permDrop.stitchBreak h.count.permDrop.modPort) (.ite h.count.permDrop
    (.ite h.count h.count.setDctx.abortCtx.settleAll))
theorem Keeps.endJobs (h : Keeps r s) {p st} : Keeps r (s.endJobs p st) := h.lanesStop.update.foldl (fun h => h.jobOver)
theorem Keeps.freeCtxs (h : Keeps r s) {m} : Keeps r (s.freeCtxs m) := h.foldl (fun h => h.ctxFree)
theorem Keeps.macDrop (h : Keeps r s) {p} : Keeps r (s.macDrop p) := h.endJobs.foldl (fun h => h.ctxFree)
theorem Keeps.digIssuerReset (h : Keeps r s) {m} : Keeps r (s.digIssuerReset m) := h.endJobs.freeCtxs
theorem Keeps.digTamper (h : Keeps r s) : Keeps r s.digTamper := h.endJobs.update

/-! ### Scans -/

theorem Keeps.scanStart (h : Keeps r s) : Keeps r s.scanStart := by
  unfold State.scanStart
  split
  · exact h.update.scanFill
  · exact h.scanFill
theorem Keeps.scanDrop (h : Keeps r s) : Keeps r s.scanDrop := h.endJobs.freeCtxs
theorem Keeps.scanDone (h : Keeps r s) {j} : Keeps r (s.scanDone j) :=
  .ite h.scanDrop.complete (.ite h.complete (Keeps.complete (.ite (Keeps.askExtend (.ite h h.putOut)) (.ite h h.putOut))))
theorem Keeps.measTamper (h : Keeps r s) : Keeps r s.measTamper := (h.update.foldl (fun h => h.complete)).foldl (fun h => h.complete)
theorem Keeps.measIssuerReset (h : Keeps r s) {m} : Keeps r (s.measIssuerReset m) := by
  unfold State.measIssuerReset
  exact (Keeps.update (.ite h.scanDrop h)).foldl (fun h => h.complete)

/-! ### Life cycle and fuses -/

theorem Keeps.newNonce (h : Keeps r s) : Keeps r s.newNonce := h.modLcf.drew
theorem Keeps.lcKick (h : Keeps r s) : Keeps r s.lcKick := .ite h (by split; exacts [h.enqueue, (by split; exacts [h.fuseKey, h])])
theorem Keeps.setTransit (h : Keeps r s) {x} : Keeps r (s.setTransit x) := h.modLcf
theorem Keeps.lcReset (h : Keeps r s) {t} : Keeps r (s.lcReset t) := h.setTransit.update
theorem Keeps.lcGo (h : Keeps r s) {t st fuel} : Keeps r (s.lcGo t st fuel) := by
  induction fuel generalizing s st with
  | zero => exact h
  | succ n ih =>
    unfold State.lcGo
    split
    · exact .ite (ih h) h.setTransit.enqueue
    · exact .ite (ih h) h.setTransit.enqueue
    · exact .ite (ih h) h.setTransit.enqueue
    · refine .ite (ih h) ?_
      dsimp only
      split
      · exact ih (.ite h.update h)
      · exact Keeps.fuseKey (Keeps.setTransit (.ite h.update h))
    · exact h.setTransit
    · split
      · exact h.lcReset
      · exact h.setTransit.enqueue
    · exact h.lcReset
theorem Keeps.lcAfter (h : Keeps r s) : Keeps r s.lcAfter := .ite h (by split; exacts [h.lcGo, h.lcGo, h.lcGo, h.lcGo, h.lcGo, h.lcKick])
theorem Keeps.bankWritten (h : Keeps r s) {b img} : Keeps r (s.bankWritten b img) :=
  h.setBank.update.count.foldl (fun h => h.destroyAll.count)
theorem Keeps.kduErr (h : Keeps r s) {st} : Keeps r (s.kduErr st) := h.update
theorem Keeps.setKdu (h : Keeps r s) {j} : Keeps r (s.setKdu j) := h.update
theorem Keeps.kduBlow (h : Keeps r s) {j i val} : Keeps r (s.kduBlow j i val) := .ite h.setKdu.kduErr h.setKdu.fuseKey
theorem Keeps.kduNext (h : Keeps r s) {j fuel} : Keeps r (s.kduNext j fuel) := by
  induction fuel generalizing s j with
  | zero => exact h
  | succ n ih =>
    unfold State.kduNext
    refine .ite (.ite h.drew.kduBlow (ih h)) (.ite (.ite ?_ h.setKdu.kduErr) h.setKdu.kduErr)
    split
    · exact h.drew.kduBlow
    · exact h.kduBlow
theorem Keeps.kduStepDone (h : Keeps r s) : Keeps r s.kduStepDone := by
  unfold State.kduStepDone
  split
  · exact h
  · exact h.count.kduNext
theorem Keeps.kduFree (h : Keeps r s) {m eff} (heff : ∀ {t}, Keeps r t → Keeps r (eff t)) : Keeps r (s.kduFree m eff) := by
  unfold State.kduFree
  exact .ite h.update.refuse (heff h)
theorem Keeps.kduTrig (h : Keeps r s) {m eff} (heff : ∀ {t}, Keeps r t → Keeps r (eff t)) : Keeps r (s.kduTrig m eff) :=
  h.guarded (fun h => h.kduFree heff)
theorem Keeps.derive (h : Keeps r s) {md keySlot} : Keeps r (s.derive md keySlot) := h.update
theorem Keeps.kduDerive (h : Keeps r s) : Keeps r s.kduDerive := .ite h.kduErr h.derive.kduErr
theorem Keeps.kduZero (h : Keeps r s) : Keeps r s.kduZero := h.update
theorem Keeps.kduDiscard (h : Keeps r s) : Keeps r s.kduDiscard := .ite h.kduErr h.kduZero.kduErr
theorem Keeps.rootGen (h : Keeps r s) : Keeps r s.rootGen := .ite h.kduErr h.kduNext
theorem Keeps.rootClass (h : Keeps r s) : Keeps r s.rootClass := .ite h.kduErr (by split; exacts [h.kduErr, h.kduNext])
theorem Keeps.bbramErase (h : Keeps r s) : Keeps r s.bbramErase := h.update.kduErr
theorem Keeps.lcResult (h : Keeps r s) {st target} : Keeps r (s.lcResult st target) := h.setReg
theorem Keeps.lcReq (h : Keeps r s) {v} : Keeps r (s.lcReq v) :=
  .ite h.setReg (by split; exacts [h.setReg.newNonce.count.lcGo, h.setReg.newNonce.lcResult.count])
theorem Keeps.lcWiped (h : Keeps r s) : Keeps r s.lcWiped := .ite h (by split; exacts [h.celWipe.count.lcGo, h])
theorem Keeps.dbgGrant (h : Keeps r s) {m v} : Keeps r (s.dbgGrant m v) := by
  unfold State.dbgGrant
  exact .ite h.refuse (.ite h.newNonce.modLcf.count.measHw h.newNonce.refuse.count)
theorem Keeps.sramWipe (h : Keeps r s) : Keeps r s.sramWipe := h.celWipe.of_stores rfl (fun _ => BitVec.and_self) id (fun _ => rfl) id id
theorem Keeps.memtest (h : Keeps r s) {m v} : Keeps r (s.memtest m v) := by
  unfold State.memtest
  exact h.when (fun h => .ite h h.sramWipe.modLcf)
theorem Keeps.lcBoot (h : Keeps r s) : Keeps r s.lcBoot := by
  unfold State.lcBoot
  exact .ite (.ite h.modLcf.count h.modLcf) (Keeps.lcKick (.ite (Keeps.count (.ite h.modLcf.count h.modLcf))
    (.ite h.modLcf.count h.modLcf)))

/-! ### Cistern -/

theorem Keeps.modCis (h : Keeps r s) {f} : Keeps r (s.modCis f) := h.update
theorem Keeps.wake (h : Keeps r s) {src} : Keeps r (s.wake src) := by
  unfold State.wake
  exact .ite h.update h
theorem Keeps.lineTo (h : Keeps r s) {l} : Keeps r (s.lineTo l) := .ite h (.ite h.modCis.count.flight.wake h.modCis.count.flight)
theorem Keeps.lineFault (h : Keeps r s) {code} : Keeps r (s.lineFault code) := .ite h.modCis.count.lineTo h.modCis.count
theorem Keeps.pfwLost (h : Keeps r s) : Keeps r s.pfwLost := .ite h.modCis.lineTo h
theorem Keeps.accepted (h : Keeps r s) {tc width iv next err} : Keeps r (s.accepted tc width iv next err) := by
  unfold State.accepted
  exact Keeps.modCis (.ite (Keeps.lineFault (.ite h.modCis.lineTo h.modCis)) (.ite ((Keeps.modCis
    (.ite h.modCis.lineTo h.modCis)).lineTo) (Keeps.modCis (.ite h.modCis.lineTo h.modCis))))
theorem Keeps.rejected (h : Keeps r s) {next err} : Keeps r (s.rejected next err) := h.incReg.lineFault.modCis
theorem Keeps.crossing (h : Keeps r s) {tc width onB} : Keeps r (s.crossing tc width onB) := by
  unfold State.crossing
  dsimp only
  split
  · exact h.modCis.incReg.modCis
  · exact .ite (Keeps.accepted (.ite h.modCis h.modCis.modCis)) (Keeps.rejected (.ite h.modCis h.modCis.modCis))
theorem Keeps.rackSeed (h : Keeps r s) {oldHc} : Keeps r (s.rackSeed oldHc) := .ite h h.setReg
theorem Keeps.hcStep (h : Keeps r s) : Keeps r s.hcStep :=
  .ite h.modCis.modCis.modCis.rackSeed.count (.ite ((Keeps.modCis (.ite h.modCis.modCis.modCis h.modCis.modCis)).count) (Keeps.modCis
    (.ite h.modCis.modCis.modCis h.modCis.modCis)))
theorem Keeps.hcWrap (h : Keeps r s) : Keeps r s.hcWrap := .ite h.modCis.hcStep h
theorem Keeps.acquire (h : Keeps r s) {width} : Keeps r (s.acquire width) := by
  unfold State.acquire
  exact h.hcStep.modCis
theorem Keeps.bPair (h : Keeps r s) {ta tb} : Keeps r (s.bPair ta tb) := .ite h h.modCis
theorem Keeps.aPair (h : Keeps r s) {ta} : Keeps r (s.aPair ta) := by
  unfold State.aPair
  split
  · exact .ite h.bPair h.modCis
  · exact h.modCis
theorem Keeps.zcPulse (h : Keeps r s) {width} : Keeps r (s.zcPulse width) :=
  .ite ((Keeps.crossing (.ite h h.acquire)).aPair) (Keeps.crossing (.ite h h.acquire))
theorem Keeps.zcBSeen (h : Keeps r s) {width} : Keeps r (s.zcBSeen width) := by
  unfold State.zcBSeen
  dsimp only
  split
  · exact .ite (Keeps.bPair (.ite h h.modCis)) (Keeps.modCis (.ite h h.modCis))
  · exact Keeps.modCis (.ite h h.modCis)
theorem Keeps.halfMissing (h : Keeps r s) : Keeps r s.halfMissing := by
  unfold State.halfMissing
  split
  · exact h.modCis.crossing.count.modCis
  · exact .ite h.modCis.lineFault h
theorem Keeps.zcBPulse (h : Keeps r s) {width} : Keeps r (s.zcBPulse width) := .ite h.zcBSeen.halfMissing h.zcBSeen
theorem Keeps.holdUpEvent (h : Keeps r s) : Keeps r s.holdUpEvent := .ite h.modCis.count h.modCis
theorem Keeps.estimate (h : Keeps r s) : Keeps r s.estimate :=
  .ite (((Keeps.modCis (.ite h.freed h)).holdUpEvent).lineTo) ((Keeps.modCis (.ite h.freed h)).holdUpEvent)
theorem Keeps.sample (h : Keeps r s) {code} : Keeps r (s.sample code) := Keeps.estimate (.ite h.modCis.count h.modCis)
theorem Keeps.posSeed (h : Keeps r s) {m lo hi} : Keeps r (s.posSeed m lo hi) := .ite h.setReg.setReg.modCis.refuse h.setReg.setReg.modCis
theorem Keeps.descEnd (h : Keeps r s) {slot x} : Keeps r (s.descEnd slot x) := h.setByte.setByte
theorem Keeps.commitSubmit (h : Keeps r s) {m v} : Keeps r (s.commitSubmit m v) :=
  .ite h.refuse (.ite h (.ite h.descEnd.count h.setByte.enqueue))
theorem Keeps.commitWithdraw (h : Keeps r s) {m v} : Keeps r (s.commitWithdraw m v) :=
  .ite h.refuse (.ite h (.ite h.withdraw.descEnd h.refuse))
theorem Keeps.armTimer (h : Keeps r s) {t} : Keeps r (s.armTimer t) := .ite h.setTimer h.setTimer.count
theorem Keeps.cancelTimer (h : Keeps r s) {t} : Keeps r (s.cancelTimer t) := .ite h.setTimer h
theorem Keeps.timersArm (h : Keeps r s) {m v} : Keeps r (s.timersArm m v) :=
  .ite ((h.foldl (fun h => h.armTimer)).refuse) (h.foldl (fun h => h.armTimer))
theorem Keeps.timersCancel (h : Keeps r s) {v} : Keeps r (s.timersCancel v) := h.foldl (fun h => .ite h.cancelTimer h)
theorem Keeps.tmrCtrl (h : Keeps r s) {m v} : Keeps r (s.tmrCtrl m v) := h.timersArm.timersCancel
theorem Keeps.updArm (h : Keeps r s) {m} : Keeps r (s.updArm m) := by
  unfold State.updArm
  exact .ite h.refuse (.ite h.update h.update.count)
theorem Keeps.updCancel (h : Keeps r s) : Keeps r s.updCancel := by
  unfold State.updCancel
  exact .ite h.update h

/-! ### Boot -/

theorem Keeps.modBoot (h : Keeps r s) {f} : Keeps r (s.modBoot f) := h.update
theorem Keeps.stage (h : Keeps r s) {st} : Keeps r (s.stage st) := h.setStage
theorem Keeps.stageAll (h : Keeps r s) {st fail slot} : Keeps r (s.stageAll st fail slot) := h.setStage
theorem Keeps.stageFail (h : Keeps r s) {st fail} : Keeps r (s.stageFail st fail) := h.stageAll
theorem Keeps.haltRom (h : Keeps r s) {code} : Keeps r (s.haltRom code) := h.modBoot.stageFail.count
theorem Keeps.setPush (h : Keeps r s) {on} : Keeps r (s.setPush on) := .ite h.setReg.count h.setReg
theorem Keeps.openPush (h : Keeps r s) {code} : Keeps r (s.openPush code) := .ite h.setPush.stageFail.count h.setPush.stageFail
theorem Keeps.slotResult (h : Keeps r s) {slot st} : Keeps r (s.slotResult slot st) := h.setFld
theorem Keeps.romDerive (h : Keeps r s) {m} : Keeps r (s.romDerive m) := Keeps.kduDerive (.ite h ((h.foldl (fun h => h.setReg)).setReg))
theorem Keeps.romTry (h : Keeps r s) {cs} : Keeps r (s.romTry cs) := by
  induction cs generalizing s with
  | nil => exact h.modBoot.openPush
  | cons c rest ih =>
    exact .ite (ih h.slotResult) (.ite (ih h.slotResult.modBoot) (.ite (ih h.slotResult.modBoot) h.modBoot.stageAll.romDerive.stage))
theorem Keeps.romFallback (h : Keeps r s) {code st} : Keeps r (s.romFallback code st) := by
  unfold State.romFallback
  split
  · exact h
  · exact h.kduDiscard.slotResult.count.modBoot.romTry
theorem Keeps.stageWipe (h : Keeps r s) {rel owner} : Keeps r (s.stageWipe rel owner) := h.modBoot
theorem Keeps.relRefuse (h : Keeps r s) {code check} : Keeps r (s.relRefuse code check) :=
  .ite h.permDrop.stageWipe.modBoot.count.romFallback h.permDrop.stageWipe.modBoot.count
theorem Keeps.stageOpen (h : Keeps r s) {m} : Keeps r (s.stageOpen m) := h.stageWipe.count
theorem Keeps.claim (h : Keeps r s) {m v} : Keeps r (s.claim m v) := .ite h (h.when (fun h => h.stageOpen))
theorem Keeps.stageAppend (h : Keeps r s) {w} : Keeps r (s.stageAppend w) :=
  .ite h.modBoot (.ite h.modBoot (.ite h.modBoot h.modBoot.count))
theorem Keeps.stageData (h : Keeps r s) {m v} : Keeps r (s.stageData m v) := h.when (fun h => h.stageAppend)
theorem Keeps.relGo (h : Keeps r s) {m} : Keeps r (s.relGo m) := h.when (fun h => h.modBoot.permReady)
theorem Keeps.relAbandon (h : Keeps r s) {m} : Keeps r (s.relAbandon m) := .ite h.refuse (.ite h.relRefuse (.ite h.stageWipe h.refuse))
theorem Keeps.stageReset (h : Keeps r s) {m} : Keeps r (s.stageReset m) := .ite h.relRefuse h
theorem Keeps.stageTamper (h : Keeps r s) : Keeps r s.stageTamper := .ite h h.relRefuse
theorem Keeps.relPass (h : Keeps r s) : Keeps r s.relPass :=
  .ite h.modBoot.count ((Keeps.modBoot (.ite (.ite h h.stageAll) (Keeps.romDerive (.ite h h.stageAll)))).count)
theorem Keeps.relCheckEnd (h : Keeps r s) : Keeps r s.relCheckEnd := by
  unfold State.relCheckEnd
  split
  · exact h.relRefuse
  · exact .ite (.ite h.freed.relPass h.freed.update.relRefuse) h.relPass
theorem Keeps.romPush (h : Keeps r s) {man body} : Keeps r (s.romPush man body) :=
  .ite h.stageOpen.setReg.modBoot.permReady.count h.stageOpen.setReg.modBoot.permReady
theorem Keeps.pushCtrl (h : Keeps r s) {v} : Keeps r (s.pushCtrl v) := .ite h.setPush.modBoot h.setPush
theorem Keeps.bootStage (h : Keeps r s) {m v} : Keeps r (s.bootStage m v) := h.when (fun h => h.setStage)
theorem Keeps.locked (h : Keeps r s) {before} : Keeps r (s.locked before) := .ite h.count h
theorem Keeps.closeSecret (h : Keeps r s) : Keeps r s.closeSecret := h.update.locked
theorem Keeps.lockCdi (h : Keeps r s) : Keeps r s.lockCdi := h.update.locked

/-! ### Hold requests, the sequencer and pins -/

theorem Keeps.modPrst (h : Keeps r s) {f} : Keeps r (s.modPrst f) := h.update
theorem Keeps.holdAssert (h : Keeps r s) {i} : Keeps r (s.holdAssert i) := h.modPrst.foldl (fun h => h.silence)
theorem Keeps.refHeld (h : Keeps r s) : Keeps r s.refHeld := by
  unfold State.refHeld
  split
  · exact .ite h.modPrst h
  · exact h
theorem Keeps.holdCheck (h : Keeps r s) : Keeps r s.holdCheck := h.refHeld.foldl (fun h => .ite h.holdAssert h)
theorem Keeps.force1 (h : Keeps r s) {i} : Keeps r (s.force1 i) := h.forceLine.holdAssert.refHeld
theorem Keeps.forceAll (h : Keeps r s) : Keeps r s.forceAll := h.foldl (fun h => h.force1)
theorem Keeps.holdReq (h : Keeps r s) {v} : Keeps r (s.holdReq v) := h.modPrst.holdCheck
theorem Keeps.unforce1 (h : Keeps r s) {i} : Keeps r (s.unforce1 i) :=
  (h.modPrst.foldl (fun h => h.modPort)).foldl (fun h => .ite h.setWdog h)
theorem Keeps.unforce (h : Keeps r s) {m v} : Keeps r (s.unforce m v) := h.when (fun h => h.foldl (fun h => .ite h.unforce1 h))
theorem Keeps.wdogStart (h : Keeps r s) {i} : Keeps r (s.wdogStart i) := h.foldl (fun h => .ite h.setWdog h)
theorem Keeps.deassert (h : Keeps r s) {i} : Keeps r (s.deassert i) :=
  (Keeps.wdogStart (.ite ((Keeps.modPrst (.ite h h.setReg)).modPrst) (Keeps.modPrst (.ite h h.setReg)))).count
theorem Keeps.seqAt (h : Keeps r s) {k} : Keeps r (s.seqAt k) := by
  unfold State.seqAt
  exact .ite h.modPrst h.modPrst.stage.count.update
theorem Keeps.seqGo (h : Keeps r s) {m} : Keeps r (s.seqGo m) := .ite h.refuse (by split; exacts [h.refuse, h.modPrst, h.seqAt])
theorem Keeps.seqSkip (h : Keeps r s) {m} : Keeps r (s.seqSkip m) := h.when (fun h => h.seqAt)
theorem Keeps.seqIdle (h : Keeps r s) : Keeps r s.seqIdle := h.modPrst
theorem Keeps.slotDone (h : Keeps r s) : Keeps r s.slotDone := by
  unfold State.slotDone
  exact h.modPrst.stage.seqAt.modPrst
theorem Keeps.wdogExpire (h : Keeps r s) {w} : Keeps r (s.wdogExpire w) := h.setWdog.force1.recovLine.count
theorem Keeps.wdogEdge (h : Keeps r s) {p} : Keeps r (s.wdogEdge p) := h.foldl (fun h => .ite h.setWdog h)
theorem Keeps.gpWake (h : Keeps r s) {p rise} : Keeps r (s.gpWake p rise) := .ite h.wake.modPrst h

/-! ### Mailboxes -/

theorem Keeps.mbxIrq (h : Keeps r s) {k} : Keeps r (s.mbxIrq k) := .ite h.resume h
theorem Keeps.mbxIrqs (h : Keeps r s) : Keeps r s.mbxIrqs := h.foldl (fun h => h.mbxIrq)
theorem Keeps.notice (h : Keeps r s) {c n} : Keeps r (s.notice c n) := h.setChan.count.mbxIrqs
theorem Keeps.mbxRecord (h : Keeps r s) {c op m x} : Keeps r (s.mbxRecord c op m x) := .ite h.flight h
theorem Keeps.btSet (h : Keeps r s) {m c v} : Keeps r (s.btSet m c v) :=
  .ite ((Keeps.setChan (.ite h.mbxRecord h)).notice) ((Keeps.setChan (.ite h.mbxRecord h)).mbxIrqs)
theorem Keeps.btWrite (h : Keeps r s) {m c v} : Keeps r (s.btWrite m c v) := .ite h.refuse (.ite h.errAt (.ite h.refuse h.btSet))
theorem Keeps.send (h : Keeps r s) {m c} : Keeps r (s.send m c) := Keeps.notice (.ite h.setChan.mbxRecord.resume h.setChan.mbxRecord)
theorem Keeps.chSend (h : Keeps r s) {m c} : Keeps r (s.chSend m c) := h.when (fun h => h.send)
theorem Keeps.takeMsg (h : Keeps r s) {m c} : Keeps r (s.takeMsg m c) := h.mbxRecord.setChan.notice
theorem Keeps.chTake (h : Keeps r s) {m c} : Keeps r (s.chTake m c) := h.when (fun h => h.takeMsg)
theorem Keeps.chAbort (h : Keeps r s) {m c} : Keeps r (s.chAbort m c) := (Keeps.setChan (.ite h.mbxRecord h)).notice
theorem Keeps.mbxReset (h : Keeps r s) {m} : Keeps r (s.mbxReset m) := h.foldl (fun h => .ite h (.ite h.chAbort (.ite h.setChan h)))
theorem Keeps.mbxTamper (h : Keeps r s) : Keeps r s.mbxTamper := h.foldl (fun h => .ite h.chAbort h)

/-! ### Transaction keys -/

theorem Keeps.tkErrLast (h : Keeps r s) {st opc m} : Keeps r (s.tkErrLast st opc m) := h.setReg
theorem Keeps.tkBad (h : Keeps r s) {j st fault} : Keeps r (s.tkBad j st fault) :=
  .ite ((Keeps.count (.ite (Keeps.incReg (.ite h.tkErrLast h.tkErrLast.count)) h.tkErrLast)).incReg) (.ite (Keeps.incReg
    (.ite h.tkErrLast h.tkErrLast.count)) h.tkErrLast)
theorem Keeps.tkUsed (h : Keeps r s) {k} : Keeps r (s.tkUsed k) := .ite h.lastUse h
theorem Keeps.tkFinish (h : Keeps r s) {j st detail result} : Keeps r (s.tkFinish j st detail result) := h.complete.tkUsed.tkUsed.reap
theorem Keeps.tkFail (h : Keeps r s) {j st detail fault} : Keeps r (s.tkFail j st detail fault) := h.tkBad.tkFinish
theorem Keeps.tkQueue (h : Keeps r s) {j} : Keeps r (s.tkQueue j) := by
  unfold State.tkQueue
  exact (Keeps.update (.ite h.takeUse.takeUse h.takeUse)).setReg
theorem Keeps.tkAdmit (h : Keeps r s) {j} : Keeps r (s.tkAdmit j) := .ite h.tkFail (.ite h.tkFail h.tkQueue)
theorem Keeps.tkFaultIn (h : Keeps r s) {j eff} (heff : ∀ {t x1}, Keeps r t → Keeps r (eff t x1)) : Keeps r (s.tkFaultIn j eff) :=
  .ite h.count.tkFail (.ite (heff h.loadBlob.count.incReg) h.loadBlob.count.tkFail)
theorem Keeps.tkReceive (h : Keeps r s) {j} : Keeps r (s.tkReceive j) :=
  .ite h.tkFail (.ite h.tkFail (.ite h.tkFail (.ite h.tkFail (.ite h.count.tkFail (.ite (h.tkFaultIn (fun h => h.tkAdmit))
    (.ite h.count.tkFail h.tkAdmit))))))
theorem Keeps.setPipe (h : Keeps r s) {p j} : Keeps r (s.setPipe p j) := h.update
theorem Keeps.tkGo (h : Keeps r s) {p j} : Keeps r (s.tkGo p j) :=
  .ite ((Keeps.setPipe (.ite (Keeps.incReg (.ite h.drew h)) (.ite h.drew h))).macStart) (Keeps.setPipe (.ite (Keeps.incReg
    (.ite h.drew h)) (.ite h.drew h)))
theorem Keeps.tkStart (h : Keeps r s) {ix p j} : Keeps r (s.tkStart ix p j) := by
  unfold State.tkStart
  exact .ite h.update.tkGo (.ite (h.update.tkFaultIn (fun h => .ite h.tkFail (.ite h.tkFail h.takeUse.tkGo))) h.update.count.tkFail)
theorem Keeps.keyOp (h : Keeps r s) {src d opc io} : Keeps r (s.keyOp src d opc io) :=
  h.celJob (fun h => .ite h.keyWrap (.ite h.keyUnload h.keyQuery))
theorem Keeps.keyJoin (h : Keeps r s) {src d opc io} : Keeps r (s.keyJoin src d opc io) := by
  unfold State.keyJoin
  exact .ite h.update h.keyOp
theorem Keeps.keyPump (h : Keeps r s) {fuel} : Keeps r (s.keyPump fuel) := by
  induction fuel generalizing s with
  | zero => exact h
  | succ k ih =>
    unfold State.keyPump
    split
    · exact h
    · split
      · exact h
      · exact ih h.update.keyOp
theorem Keeps.keyGo (h : Keeps r s) : Keeps r s.keyGo := h.keyPump
theorem Keeps.tkJobStart (h : Keeps r s) {ix} : Keeps r (s.tkJobStart ix) := by
  unfold State.tkJobStart
  split
  · exact .ite h.tkStart.keyGo h
  · exact h
theorem Keeps.tkGood (h : Keeps r s) {j} : Keeps r (s.tkGood j) := by
  unfold State.tkGood
  split
  · exact h.add64
  · exact h.add64
  · exact h.add64
  · exact h.count.incReg
  · exact h
theorem Keeps.tkMoved (h : Keeps r s) {old new} : Keeps r (s.tkMoved old new) := .ite (Keeps.count (.ite h.count h)) (.ite h.count h)
theorem Keeps.tkStore (h : Keeps r s) {j} : Keeps r (s.tkStore j) := by
  unfold State.tkStore
  split
  · exact h
  · exact .ite h.setSlot.tkMoved h
theorem Keeps.tkOk (h : Keeps r s) {j} : Keeps r (s.tkOk j) := h.putOut.tkStore.tkGood.tkFinish
theorem Keeps.tkIkEnd (h : Keeps r s) {j} : Keeps r (s.tkIkEnd j) := by
  unfold State.tkIkEnd
  dsimp only
  exact .ite (by split; exacts [h.noSlot.tkFail, h.putCtx.tkGood.tkFinish]) (.ite h.tkFail h.wrapped.tkOk)
theorem Keeps.tkEnd (h : Keeps r s) {j} : Keeps r (s.tkEnd j) := by
  unfold State.tkEnd
  split
  · exact h.tkFail
  · exact .ite h.tkFail (.ite h.tkFail (.ite h.tkIkEnd h.tkOk))
theorem Keeps.tkJobDone (h : Keeps r s) {p} : Keeps r (s.tkJobDone p) := by
  unfold State.tkJobDone
  split
  · exact h
  · exact .ite h.setPipe.tkEnd.keyGo h
theorem Keeps.tkPipeFault (h : Keeps r s) {p} : Keeps r (s.tkPipeFault p) := by
  unfold State.tkPipeFault
  dsimp only
  split
  · exact h.update.setPipe.macDrop.count.tkFail.keyGo
  · exact h.update.setPipe.macDrop.count
theorem Keeps.tkCut (h : Keeps r s) {j st} : Keeps r (s.tkCut j st) := .ite h.complete h.tkFail
theorem Keeps.tkStop (h : Keeps r s) {p st} : Keeps r (s.tkStop p st) := (h.update.foldl (fun h => h.macDrop)).foldl (fun h => h.tkCut)
theorem Keeps.tkTamper (h : Keeps r s) : Keeps r s.tkTamper := h.tkStop.update
theorem Keeps.tkIssuerReset (h : Keeps r s) {m} : Keeps r (s.tkIssuerReset m) := h.tkStop.keyGo
theorem Keeps.tkStandby (h : Keeps r s) : Keeps r s.tkStandby := h.tkStop.keyGo

/-! ### Queue pairs and rings -/

theorem Keeps.qNote (h : Keeps r s) {q cause} : Keeps r (s.qNote q cause) := h.setQueue.freed
theorem Keeps.qEnable (h : Keeps r s) {m a q ok} : Keeps r (s.qEnable m a q ok) := .ite h.refuse (.ite h.setQueue h.qNote)
theorem Keeps.qDisable (h : Keeps r s) {m a q} : Keeps r (s.qDisable m a q) := h.when (fun h => h.setQueue)
theorem Keeps.qTail (h : Keeps r s) {m a q v} : Keeps r (s.qTail m a q v) := .ite h.refuse (.ite h.refuse.qNote h.setQueue)
theorem Keeps.qHead (h : Keeps r s) {m a q v} : Keeps r (s.qHead m a q v) := .ite h.refuse.qNote h.setQueue
theorem Keeps.fetched (h : Keeps r s) {q d} : Keeps r (s.fetched q d) := h.setQueue
theorem Keeps.qStart (h : Keeps r s) {q e} : Keeps r (s.qStart q e) := by
  unfold State.qStart
  dsimp only
  split
  · exact Keeps.complete (.ite h.setQueue.tkErrLast h.setQueue)
  · exact h.setQueue

/-! ### Host commands -/

theorem Keeps.hDone (h : Keeps r s) {src opc st result detail outAddr out} : Keeps r (s.hDone src opc st result detail outAddr out) :=
  .ite h.out h.putOut.complete
theorem Keeps.setVersion (h : Keeps r s) {mctp v} : Keeps r (s.setVersion mctp v) := by
  unfold State.setVersion
  exact .ite h.update h.update
theorem Keeps.negotiate (h : Keeps r s) {src d} : Keeps r (s.negotiate src d) :=
  .ite h.hDone (by split; exacts [h.hDone, h.setVersion.hDone])
theorem Keeps.getEpoch (h : Keeps r s) {src d} : Keeps r (s.getEpoch src d) := .ite h.hDone h.hDone
theorem Keeps.listIssuers (h : Keeps r s) {src d} : Keeps r (s.listIssuers src d) := .ite h.hDone (.ite h.hDone h.freed.hDone)
theorem Keeps.modCmd (h : Keeps r s) {f} : Keeps r (s.modCmd f) := h.update
theorem Keeps.eraseBlocks (h : Keeps r s) {p cs a n} : Keeps r (s.eraseBlocks p cs a n) := h.foldl (fun h => h.eraseAt)
theorem Keeps.homeErase (h : Keeps r s) {off n} : Keeps r (s.homeErase off n) := h.eraseBlocks
theorem Keeps.recPut (h : Keeps r s) {slot timeout x} : Keeps r (s.recPut slot timeout x) := h.enqueue.modCmd
theorem Keeps.halfSwitch (h : Keeps r s) : Keeps r s.halfSwitch := by
  unfold State.halfSwitch
  exact h.homeErase.modCmd
theorem Keeps.recCommit (h : Keeps r s) {slot timeout x} : Keeps r (s.recCommit slot timeout x) :=
  .ite h.recPut (by split; exacts [h, h.halfSwitch.recPut.modCmd])
theorem Keeps.copyNext (h : Keeps r s) {slot} : Keeps r (s.copyNext slot) := by
  unfold State.copyNext
  split
  · exact h.modCmd.recPut
  · exact h
theorem Keeps.copyFail (h : Keeps r s) {slot} : Keeps r (s.copyFail slot) := h.modCmd
theorem Keeps.loadIssuer (h : Keeps r s) {x} : Keeps r (s.loadIssuer x) := .ite h.loadBlob.modCmd h.loadBlob
theorem Keeps.epochBoot (h : Keeps r s) : Keeps r s.epochBoot :=
  .ite (.ite (h.modCmd.foldl (fun h => h.loadIssuer)) h.modCmd) ((Keeps.modCmd
    (.ite (h.modCmd.foldl (fun h => h.loadIssuer)) h.modCmd)).recCommit)
theorem Keeps.modIssuers (h : Keeps r s) {f} : Keeps r (s.modIssuers f) := h.modCmd
theorem Keeps.cmdRecord (h : Keeps r s) {j} : Keeps r (s.cmdRecord j) := h.flight
theorem Keeps.envReply (h : Keeps r s) {j st result detail out} : Keeps r (s.envReply j st result detail out) := .ite h h.hDone
theorem Keeps.markWait (h : Keeps r s) : Keeps r s.markWait := .ite h.modCmd h
theorem Keeps.envTake (h : Keeps r s) {j} : Keeps r (s.envTake j) :=
  .ite h.envReply (.ite h.modIssuers.cmdRecord.modCmd h.modIssuers.cmdRecord.envReply)
theorem Keeps.establish (h : Keeps r s) {j id rights pub fin} (hfin : ∀ {t x1}, Keeps r t → Keeps r (fin t x1)) :
    Keeps r (s.establish j id rights pub fin) :=
  .ite (hfin h) (.ite (hfin h) (by split; exacts [hfin h, hfin h.noSlot, hfin h, h.putCtx.wrapped.drew.recCommit.modCmd]))
theorem Keeps.bootTake (h : Keeps r s) {j} : Keeps r (s.bootTake j) :=
  .ite h.envReply (.ite h.newNonce.envReply (h.newNonce.cmdRecord.establish (fun h => h.envReply)))
theorem Keeps.envPump (h : Keeps r s) {fuel} : Keeps r (s.envPump fuel) := by
  induction fuel generalizing s with
  | zero => exact h
  | succ n ih =>
    unfold State.envPump
    split
    · exact .ite h.markWait (ih (.ite h.modCmd.bootTake h.modCmd.envTake))
    · exact h.markWait
theorem Keeps.envRun (h : Keeps r s) : Keeps r s.envRun := h.envPump
theorem Keeps.envJoin (h : Keeps r s) {j} : Keeps r (s.envJoin j) := h.modCmd.envRun
theorem Keeps.envEnd (h : Keeps r s) {j st result out} : Keeps r (s.envEnd j st result out) := h.modCmd.envReply.envRun
theorem Keeps.envelope (h : Keeps r s) {src d io} : Keeps r (s.envelope src d io) :=
  .ite h.hDone (.ite h.hDone (.ite h.hDone (.ite h.hDone h.envJoin)))
theorem Keeps.bootstrap (h : Keeps r s) {src d io} : Keeps r (s.bootstrap src d io) :=
  .ite h.hDone (.ite h.hDone (.ite h.hDone (.ite h.hDone h.envJoin)))
theorem Keeps.mctp (h : Keeps r s) {tag d inp} : Keeps r (s.mctp tag d inp) :=
  .ite h.hDone (by split; exacts [h.negotiate, h.getEpoch, h.listIssuers, h.envelope, h.bootstrap, h.hDone])
theorem Keeps.command (h : Keeps r s) {code eff} (heff : ∀ {t x1}, Keeps r t → Keeps r (eff t x1)) : Keeps r (s.command code eff) := by
  unfold State.command
  split
  · exact .ite (heff h) h
  · exact h
theorem Keeps.cmdEnd (h : Keeps r s) {j st} : Keeps r (s.cmdEnd j st) := h.envEnd
theorem Keeps.cmdWait (h : Keeps r s) {j w slot} : Keeps r (s.cmdWait j w slot) := h.modCmd
theorem Keeps.cmdLc (h : Keeps r s) {j} : Keeps r (s.cmdLc j) :=
  .ite h.cmdEnd (.ite h.lcReq.cmdEnd (by split; exacts [h.lcReq.cmdWait, h.lcReq.cmdEnd]))
theorem Keeps.cmdDbg (h : Keeps r s) {j} : Keeps r (s.cmdDbg j) := .ite h.cmdEnd h.dbgGrant.cmdEnd
theorem Keeps.unwrapFail (h : Keeps r s) : Keeps r s.unwrapFail := h.count
theorem Keeps.cmdImport (h : Keeps r s) {j} : Keeps r (s.cmdImport j) := by
  refine .ite h.cmdEnd (.ite h.cmdEnd (.ite h.noSlot.cmdEnd (.ite (Keeps.cmdEnd (.ite h.count h)) ?_)))
  split
  · exact Keeps.envEnd (.ite h.putCtx.takeUse.lastUse h.putCtx.takeUse)
  · exact h.unwrapFail.cmdEnd
theorem Keeps.cmdFuse (h : Keeps r s) {j i v} : Keeps r (s.cmdFuse j i v) := .ite h.cmdEnd h.fuseKey.cmdWait
theorem Keeps.cmdPolicy (h : Keeps r s) {j} : Keeps r (s.cmdPolicy j) := by
  unfold State.cmdPolicy
  split
  · exact h.cmdEnd
  · exact h.cmdFuse
theorem Keeps.cmdRevoke (h : Keeps r s) {imgs j} : Keeps r (s.cmdRevoke imgs j) := .ite h.cmdEnd (.ite h.cmdEnd (.ite h.cmdEnd h.cmdFuse))
theorem Keeps.advance (h : Keeps r s) {dom slot} : Keeps r (s.advance dom slot) := h.enqueue
theorem Keeps.blobAdvance (h : Keeps r s) {src d} : Keeps r (s.blobAdvance src d) :=
  .ite h.celFail (by split; exacts [h.celFail, h.advance.modCmd])
theorem Keeps.cmdBlob (h : Keeps r s) {j} : Keeps r (s.cmdBlob j) := .ite h.cmdEnd (by split; exacts [h.cmdEnd, h.advance.cmdWait])
theorem Keeps.cmdEpoch (h : Keeps r s) {j} : Keeps r (s.cmdEpoch j) :=
  .ite h.cmdEnd (by split; exacts [h.cmdEnd, h.recCommit.cmdWait.markWait])
theorem Keeps.cmdRegister (h : Keeps r s) {j} : Keeps r (s.cmdRegister j) :=
  .ite h.cmdEnd (.ite h.cmdEnd (.ite h.cmdEnd (h.establish (fun h => h.cmdEnd))))
theorem Keeps.cmdRemove (h : Keeps r s) {j} : Keeps r (s.cmdRemove j) :=
  .ite h.cmdEnd (by split; exacts [h.cmdEnd, h.cmdEnd, .ite h.cmdEnd h.destroy.modCmd.recCommit.cmdWait])
theorem Keeps.cmdFuseEnd (h : Keeps r s) {st} : Keeps r (s.cmdFuseEnd st) := by
  unfold State.cmdFuseEnd
  split
  · exact .ite h.cmdEnd h
  · exact h
theorem Keeps.cmdLcEnd (h : Keeps r s) {st} : Keeps r (s.cmdLcEnd st) := by
  unfold State.cmdLcEnd
  split
  · exact .ite h.cmdEnd h
  · exact h
theorem Keeps.epochDone (h : Keeps r s) : Keeps r s.epochDone := h.modCmd.envRun
theorem Keeps.cmdSlotDone (h : Keeps r s) {j st} : Keeps r (s.cmdSlotDone j st) := by
  unfold State.cmdSlotDone
  split
  · exact .ite h.modCmd.modIssuers.envEnd h.cmdEnd
  · exact .ite h.modCmd.envEnd (Keeps.cmdEnd (.ite h.destroy h))
  · exact h.cmdEnd
  · exact h.cmdEnd
  · exact h
theorem Keeps.cmdSlotLast (h : Keeps r s) {slot st} : Keeps r (s.cmdSlotLast slot st) := by
  unfold State.cmdSlotLast
  extract_lets s1 s2
  have h1 : Keeps r s1 := .ite h (.ite h.epochDone h.modCmd)
  have h2 : Keeps r s2 := by
    unfold s2
    split
    · exact .ite h1.modCmd.complete h1
    · exact h1
  split
  · exact .ite h2.cmdSlotDone h2
  · exact h2
theorem Keeps.cmdSlotEnd (h : Keeps r s) {slot st} : Keeps r (s.cmdSlotEnd slot st) :=
  .ite h.cmdSlotLast (.ite h.copyNext h.copyFail.cmdSlotLast)
theorem Keeps.cmdReset (h : Keeps r s) {mctp} : Keeps r (s.cmdReset mctp) := (h.setVersion.modCmd.foldl (fun h => h.envReply)).envRun
theorem Keeps.cmdTamper (h : Keeps r s) : Keeps r s.cmdTamper := h.modCmd.foldl (fun h => h.envReply)

/-! ### The PCIe link -/

theorem Keeps.modHq (h : Keeps r s) {f} : Keeps r (s.modHq f) := h.update
theorem Keeps.expFail (h : Keeps r s) {st} : Keeps r (s.expFail st) := h.update
theorem Keeps.expReset (h : Keeps r s) {m} : Keeps r (s.expReset m) := .ite h.expFail h
theorem Keeps.masterReset (h : Keeps r s) {m} : Keeps r (s.masterReset m) :=
  h.digIssuerReset.measIssuerReset.celIssuerReset.tkIssuerReset.semReclaim.mbxReset.expReset
theorem Keeps.queueReset (h : Keeps r s) {q} : Keeps r (s.queueReset q) := h.setQueue.foldl (fun h => h.setReg)
theorem Keeps.msixReset (h : Keeps r s) {f} : Keeps r (s.msixReset f) := h.foldl (fun h => h.setPba.foldl (fun h => h.setReg))
theorem Keeps.vfReset (h : Keeps r s) {v} : Keeps r (s.vfReset v) :=
  h.queueReset.queueReset.queueReset.msixReset.setFn.stallDrop.masterReset.destroyOwner
theorem Keeps.vfsGone (h : Keeps r s) {n} : Keeps r (s.vfsGone n) := by
  unfold State.vfsGone
  exact (h.foldl (fun h => h.vfReset)).modHq
theorem Keeps.pfReset (h : Keeps r s) : Keeps r s.pfReset :=
  (((((((h.foldl (fun h => h.queueReset)).msixReset).setFn).stallDrop).vfsGone).masterReset).cmdReset).stageReset
theorem Keeps.pfFlr (h : Keeps r s) : Keeps r s.pfFlr := .ite h.pfReset.modHq.count.count h.pfReset.modHq.count
theorem Keeps.linkDown (h : Keeps r s) : Keeps r s.linkDown := .ite h (((h.pfReset.foldl (fun h => h.semReclaim)).modHq).count)
theorem Keeps.linkUp (h : Keeps r s) {speed width} : Keeps r (s.linkUp speed width) := .ite h.modHq.count (.ite h.modHq.count h.modHq)
theorem Keeps.retrain (h : Keeps r s) : Keeps r s.retrain := .ite h.modHq h
theorem Keeps.modDoe (h : Keeps r s) {f} : Keeps r (s.modDoe f) := h.modHq
theorem Keeps.doeObject (h : Keeps r s) {b} : Keeps r (s.doeObject b) :=
  .ite h.modHq.modDoe (.ite h.modHq.modDoe.dmaRecords.count h.modHq.modDoe)
theorem Keeps.doeSend (h : Keeps r s) {m} : Keeps r (s.doeSend m) := h.when (fun h => h.modDoe)
theorem Keeps.doeFail (h : Keeps r s) {m} : Keeps r (s.doeFail m) := h.when (fun h => h.modDoe)

/-! ### The anti-rollback record -/

theorem Keeps.arbMakeRoom (h : Keeps r s) : Keeps r s.arbMakeRoom := .ite h h.homeErase.modBoot
theorem Keeps.arbCommit (h : Keeps r s) {timeout x} : Keeps r (s.arbCommit timeout x) := by
  unfold State.arbCommit
  split
  · exact h.arbMakeRoom.enqueue
  · exact h
theorem Keeps.arbRaise (h : Keeps r s) {cls v} : Keeps r (s.arbRaise cls v) := .ite h (.ite h.arbCommit h.modBoot)
theorem Keeps.arbNext (h : Keeps r s) : Keeps r s.arbNext := by
  unfold State.arbNext
  split
  · exact h
  · exact .ite h.modBoot.arbRaise h
theorem Keeps.arbRebuild (h : Keeps r s) {running} : Keeps r (s.arbRebuild running) := .ite h.modBoot.homeErase.arbCommit h
theorem Keeps.arbWritten (h : Keeps r s) {port cs addr data} : Keeps r (s.arbWritten port cs addr data) :=
  .ite (Keeps.modBoot (.ite h.modBoot h)) (.ite h.modBoot h)

/-! ### Caravan ports and walks -/

theorem Keeps.modCvn (h : Keeps r s) {f} : Keeps r (s.modCvn f) := h.update
theorem Keeps.modLink (h : Keeps r s) {p f} : Keeps r (s.modLink p f) := h.setLink
theorem Keeps.slotFree (h : Keeps r s) {o} : Keeps r (s.slotFree o) := by
  unfold State.slotFree
  split
  · exact .ite h.modLink h
  · exact h
theorem Keeps.copyGone (h : Keeps r s) {e} : Keeps r (s.copyGone e) := .ite h h.slotFree
theorem Keeps.hopSeen (h : Keeps r s) {o} : Keeps r (s.hopSeen o) := by
  unfold State.hopSeen
  split
  · exact h.modLink.freed
  · exact h
theorem Keeps.xmit (h : Keeps r s) {p e} : Keeps r (s.xmit p e) := h.setLink.out.hopSeen.copyGone
theorem Keeps.drainGo (h : Keeps r s) {p fuel} : Keeps r (s.drainGo p fuel) := by
  induction fuel generalizing s with
  | zero => exact h
  | succ k ih =>
    unfold State.drainGo
    split
    · exact ih h.modLink.xmit
    · exact h
theorem Keeps.drain (h : Keeps r s) {p} : Keeps r (s.drain p) := .ite h.drainGo h
theorem Keeps.dropOnly (h : Keeps r s) {k} : Keeps r (s.dropOnly k) := h.setReg
theorem Keeps.dropFrame (h : Keeps r s) {k} : Keeps r (s.dropFrame k) := h.dropOnly.count
theorem Keeps.put (h : Keeps r s) {p e} : Keeps r (s.put p e) := .ite h (.ite h.dropOnly h.modLink)
theorem Keeps.giveAll (h : Keeps r s) {ps e} : Keeps r (s.giveAll ps e) := ((h.foldl (fun h => h.put)).copyGone).foldl (fun h => h.drain)
theorem Keeps.give (h : Keeps r s) {p e} : Keeps r (s.give p e) := h.giveAll
theorem Keeps.linkLost (h : Keeps r s) {p} : Keeps r (s.linkLost p) := (h.modLink.foldl (fun h => h.copyGone)).foldl (fun h => h.modLink)
theorem Keeps.linkLeave (h : Keeps r s) {p st cause} : Keeps r (s.linkLeave p st cause) :=
  .ite ((Keeps.setLink (.ite h.linkLost.destroy h.linkLost)).count) (Keeps.setLink (.ite h.linkLost.destroy h.linkLost))
theorem Keeps.cvnDown (h : Keeps r s) : Keeps r s.cvnDown := (h.foldl (fun h => h.linkLeave.modLink)).modCvn
theorem Keeps.cvnTamper (h : Keeps r s) : Keeps r s.cvnTamper := h.cvnDown.modCvn
theorem Keeps.handshake (h : Keeps r s) {p} : Keeps r (s.handshake p) := .ite h.drew.setLink h.drew.freed.setLink.out
theorem Keeps.cvnCfg (h : Keeps r s) {v} : Keeps r (s.cvnCfg v) :=
  .ite h.setReg.cvnDown (h.setReg.foldl (fun h => .ite h.linkLeave.modLink (.ite h.modLink h)))
theorem Keeps.linkFail (h : Keeps r s) {p cause} : Keeps r (s.linkFail p cause) := h.linkLeave
theorem Keeps.rackUsed (h : Keeps r s) : Keeps r s.rackUsed := .ite h.takeUse.lastUse h.takeUse
theorem Keeps.linkDerive (h : Keeps r s) {p ver z t} : Keeps r (s.linkDerive p ver z t) := by
  unfold State.linkDerive
  split
  · exact h.linkFail
  · exact .ite h.linkFail (by split; exacts [h.noSlot.linkFail, h.rackUsed.putCtx.modLink.out])
theorem Keeps.helloParent (h : Keeps r s) {p b} : Keeps r (s.helloParent p b) := .ite h.linkFail (.ite h.linkFail h.out.linkDerive)
theorem Keeps.helloChild (h : Keeps r s) {p b} : Keeps r (s.helloChild p b) := .ite h.linkFail (.ite h.linkFail h.linkDerive)
theorem Keeps.tagFail (h : Keeps r s) {p} : Keeps r (s.tagFail p) := .ite h.dropFrame.modLink.linkFail h.dropFrame.modLink
theorem Keeps.cvnIn (h : Keeps r s) {p want b fmt eff} (heff : ∀ {t}, Keeps r t → Keeps r (eff t)) : Keeps r (s.cvnIn p want b fmt eff) :=
  .ite h (.ite h.dropFrame (.ite h.tagFail (.ite h.modLink.dropFrame (.ite h.modLink.dropFrame
    (.ite h.modLink.dropFrame (heff h.modLink.modLink.drain))))))
theorem Keeps.helloRx (h : Keeps r s) {p b} : Keeps r (s.helloRx p b) :=
  .ite (h.cvnIn (fun h => h)) (.ite h (.ite h.dropFrame (.ite h.dropFrame (.ite h.tagFail (.ite h.helloChild h.helloParent)))))
theorem Keeps.confirmed1 (h : Keeps r s) {p lat b} : Keeps r (s.confirmed1 p lat b) := .ite h.linkFail h.modLink.count
theorem Keeps.confirmRx (h : Keeps r s) {p lat b} : Keeps r (s.confirmRx p lat b) :=
  .ite (h.cvnIn (fun h => h)) (.ite h (.ite h.dropFrame (.ite h.tagFail (.ite h.dropFrame (.ite h.dropFrame h.confirmed1)))))
theorem Keeps.linkRestart (h : Keeps r s) {p} : Keeps r (s.linkRestart p) := .ite h (.ite h.linkLeave.handshake (.ite h.linkLeave h))
theorem Keeps.cvnBound (h : Keeps r s) : Keeps r s.cvnBound := by
  unfold State.cvnBound
  exact h.modCvn
theorem Keeps.trainEnd (h : Keeps r s) {next unaddr hops ring} : Keeps r (s.trainEnd next unaddr hops ring) := h.modCvn.cvnBound
theorem Keeps.peerOut (h : Keeps r s) {q next} : Keeps r (s.peerOut q next) := .ite h (.ite h.modLink.freed h.modLink)
theorem Keeps.peerBack (h : Keeps r s) : Keeps r s.peerBack := by
  unfold State.peerBack
  exact h.modLink
theorem Keeps.trainSend (h : Keeps r s) {pin src next unaddr hops flags held} :
    Keeps r (s.trainSend pin src next unaddr hops flags held) := by
  unfold State.trainSend
  split
  · exact h.trainEnd.slotFree
  · exact h.peerOut.give
theorem Keeps.train (h : Keeps r s) {m} : Keeps r (s.train m) := h.when (fun h => h.modCvn.cvnBound.trainSend)
theorem Keeps.trainPeer (h : Keeps r s) {next hops} : Keeps r (s.trainPeer next hops) := .ite h.modLink h.modLink.freed
theorem Keeps.trainTake (h : Keeps r s) {next unaddr} : Keeps r (s.trainTake next unaddr).1 :=
  .ite_fst h.modCvn.modCvn.count h.modCvn.modCvn.count
theorem Keeps.trainRx (h : Keeps r s) {p b} : Keeps r (s.trainRx p b) := by
  unfold State.trainRx
  extract_lets x t u v
  have ht : Keeps r t := .ite h.trainPeer (.ite h.peerBack h)
  have hu : Keeps r u := .ite ht.modCvn ht
  have hv : Keeps r v.1 := .ite_fst hu.trainTake hu
  exact hv.trainSend
theorem Keeps.timeSend (h : Keeps r s) : Keeps r s.timeSend := by
  unfold State.timeSend
  split
  · exact h.give
  · exact h
theorem Keeps.timeCheck (h : Keeps r s) {p b} : Keeps r (s.timeCheck p b) := .ite h.modCvn.modCvn.count h.modCvn
theorem Keeps.calEnd (h : Keeps r s) : Keeps r s.calEnd := h.modCvn.count
theorem Keeps.calStep (h : Keeps r s) {b} : Keeps r (s.calStep b) := .ite h (.ite h.modCvn.calEnd h.modCvn)
theorem Keeps.walkOn (h : Keeps r s) {p e} : Keeps r (s.walkOn p e) := by
  unfold State.walkOn
  split
  · exact h.give
  · exact h.slotFree
theorem Keeps.timeRx (h : Keeps r s) {p b} : Keeps r (s.timeRx p b) := Keeps.walkOn (.ite h.timeCheck.calStep h.timeCheck)
theorem Keeps.timeCal (h : Keeps r s) : Keeps r s.timeCal := .ite h.modCvn h

/-! ### Harts -/

theorem Keeps.hartReset (h : Keeps r s) {k why} : Keeps r (s.hartReset k why) := h.setQueue.masterReset.setHart
theorem Keeps.hartCtrlReset (h : Keeps r s) {m k} : Keeps r (s.hartCtrlReset m k) := h.when (fun h => h.hartReset)
theorem Keeps.hartWake (h : Keeps r s) {m k} : Keeps r (s.hartWake m k) := .ite h.resume h
theorem Keeps.modHarts (h : Keeps r s) {f} : Keeps r (s.modHarts f) := h.update
theorem Keeps.busFault (h : Keeps r s) {k' addr k a} : Keeps r (s.busFault k' addr k a) :=
  ((Keeps.flight (.ite h.modHarts.count.count h.modHarts.count)).freed).out
theorem Keeps.lockstep (h : Keeps r s) : Keeps r s.lockstep :=
  .ite h.modHarts.haltRom (.ite h.modHarts.count.hartReset.modHarts h.modHarts.setHart.forceAll.modHarts)
theorem Keeps.ringTail (h : Keeps r s) {q v} : Keeps r (s.ringTail q v) := .ite h.qNote h.setQueue
theorem Keeps.ringHead (h : Keeps r s) {q v} : Keeps r (s.ringHead q v) := .ite h.qNote h.setQueue
theorem Keeps.dbgHalt1 (h : Keeps r s) {k} : Keeps r (s.dbgHalt1 k) := by
  unfold State.dbgHalt1
  exact .ite h (Keeps.count (.ite h.setHart.modLcf h.setHart))
theorem Keeps.dbgCtrl (h : Keeps r s) {m v lo f} (hf : ∀ {t x1}, Keeps r t → Keeps r (f t x1)) : Keeps r (s.dbgCtrl m v lo f) :=
  .ite ((h.foldl (fun h => hf h)).refuse) (h.foldl (fun h => hf h))
theorem Keeps.dbgResume1 (h : Keeps r s) {k} : Keeps r (s.dbgResume1 k) := .ite h (.ite h.setHart h.setHart)
theorem Keeps.jdcTxWrite (h : Keeps r s) {m v} : Keeps r (s.jdcTxWrite m v) := h.when (fun h => h.modHarts)
theorem Keeps.jdcRxWrite (h : Keeps r s) {m v} : Keeps r (s.jdcRxWrite m v) := h.when (fun h => h.modHarts)
theorem Keeps.jdcTxStep (h : Keeps r s) {m} : Keeps r (s.jdcTxStep m) := .ite h.modHarts h
theorem Keeps.jdcRxStep (h : Keeps r s) {m} : Keeps r (s.jdcRxStep m) := .ite h.modHarts h

/-! ### Sweeps, notices and recoveries -/

theorem Keeps.countersign (h : Keeps r s) {epoch x} : Keeps r (s.countersign epoch x).1 := by
  unfold State.countersign
  dsimp only
  exact h.modCvn
theorem Keeps.sweepEnd (h : Keeps r s) {res} : Keeps r (s.sweepEnd res) := h.modCvn.count
theorem Keeps.sweepHome (h : Keeps r s) {p epoch x flags} : Keeps r (s.sweepHome p epoch x flags) := .ite h h.modCvn.sweepEnd
theorem Keeps.sweepPass (h : Keeps r s) {epoch} : Keeps r (s.sweepPass epoch) := .ite h.modCvn h
theorem Keeps.sweepNode (h : Keeps r s) {p b} : Keeps r (s.sweepNode p b).1 := by
  refine .ite_fst h (.ite_fst h (.ite_fst (.pair ?_) (.ite_fst h h)))
  exact h.countersign
theorem Keeps.sweepRx (h : Keeps r s) {p b} : Keeps r (s.sweepRx p b) := .ite h.sweepPass.sweepHome.slotFree h.sweepPass.sweepNode.walkOn
theorem Keeps.sweepStart (h : Keeps r s) : Keeps r s.sweepStart := by
  unfold State.sweepStart
  dsimp only
  split
  · exact h.cvnBound.modCvn.timeSend.countersign.give
  · exact h.cvnBound.modCvn.timeSend.countersign.sweepHome
theorem Keeps.cvnFire (h : Keeps r s) : Keeps r s.cvnFire :=
  .ite h (.ite (.ite h.cvnBound.count (.ite h.sweepStart h.cvnBound)) h.cvnBound.modCvn)
theorem Keeps.excStep (h : Keeps r s) : Keeps r s.excStep := h.freed.setReg
theorem Keeps.rxStore (h : Keeps r s) {p b} : Keeps r (s.rxStore p b) :=
  .ite ((Keeps.modCvn (.ite h.dmaRecords.setBytes h)).count) (Keeps.modCvn (.ite h.dmaRecords.setBytes h))
theorem Keeps.nrRx (h : Keeps r s) {p b} : Keeps r (s.nrRx p b) := by
  unfold State.nrRx
  split
  · exact h.slotFree
  · exact h.slotFree
  · exact h.giveAll
  · exact .ite h.modLink h.rxStore.slotFree
theorem Keeps.heldGo (h : Keeps r s) {p fuel} : Keeps r (s.heldGo p fuel) := by
  induction fuel generalizing s with
  | zero => exact h
  | succ k ih =>
    unfold State.heldGo
    split
    · exact h
    · exact .ite h (ih (.ite h.modLink.nrRx h.modLink.dropFrame.slotFree))
theorem Keeps.rxClear (h : Keeps r s) : Keeps r s.rxClear := h.modCvn.foldl (fun h => h.heldGo)
theorem Keeps.sendObject (h : Keeps r s) {qs es} : Keeps r (s.sendObject qs es) := h.foldl (fun h => h.giveAll)
theorem Keeps.noticeApply (h : Keeps r s) {imgs o} : Keeps r (s.noticeApply imgs o) :=
  .ite h (.ite (.ite h.modCvn (.ite h (.ite h.modCvn (.ite h.fuseKey h.modCvn)))) (.ite (.ite h.arbRaise h.modCvn) h.modCvn))
theorem Keeps.forward (h : Keeps r s) {imgs} : Keeps r (s.forward imgs) := .ite h ((Keeps.sendObject (.ite h.setReg.noticeApply h)).rxClear)
theorem Keeps.rxDrop (h : Keeps r s) : Keeps r s.rxDrop := .ite h.rxClear h
theorem Keeps.sendNotice (h : Keeps r s) {m} : Keeps r (s.sendNotice m) := by
  unfold State.sendNotice
  exact h.when (fun h => h.setReg.sendObject)
theorem Keeps.rxOwn (h : Keeps r s) {dst o} : Keeps r (s.rxOwn dst o) := (Keeps.modCvn (.ite h.dmaRecords.setBytes h)).count
theorem Keeps.sendRecover1 (h : Keeps r s) {dst o} : Keeps r (s.sendRecover1 dst o) :=
  .ite h.sendObject (by split; exacts [.ite h.sendObject h.dropFrame, .ite h h.rxOwn])
theorem Keeps.sendRecover (h : Keeps r s) {m} : Keeps r (s.sendRecover m) := h.when (fun h => h.sendRecover1)

/-! ### SPDM -/

theorem Keeps.setConn (h : Keeps r s) {t c} : Keeps r (s.setConn t c) := by
  unfold State.setConn
  exact .ite h.update h.update
theorem Keeps.modConn (h : Keeps r s) {t f} : Keeps r (s.modConn t f) := h.setConn
theorem Keeps.logged (h : Keeps r s) {t q x} : Keeps r (s.logged t q x).1 := by
  unfold State.logged
  dsimp only
  exact h.modConn
theorem Keeps.signed (h : Keeps r s) {t q x} : Keeps r (s.signed t q x).1 := by
  unfold State.signed
  dsimp only
  exact h.drew.modConn
theorem Keeps.aVersion (h : Keeps r s) {t q} : Keeps r (s.aVersion t q).1 := h.setConn
theorem Keeps.aCaps (h : Keeps r s) {t q} : Keeps r (s.aCaps t q).1 := .ite_fst h (.ite_fst h h.modConn.logged)
theorem Keeps.aAlgs (h : Keeps r s) {t q} : Keeps r (s.aAlgs t q).1 := .ite_fst h h.modConn.logged
theorem Keeps.ready3 (h : Keeps r s) {t f} (hf : Keeps r f.1) : Keeps r (s.ready3 t f).1 := .ite_fst hf h
theorem Keeps.aDigests (h : Keeps r s) {t q} : Keeps r (s.aDigests t q).1 := h.ready3 h.logged
theorem Keeps.aCert (h : Keeps r s) {t q} : Keeps r (s.aCert t q).1 := by
  refine h.ready3 ?_
  split
  · exact h
  · exact .ite_fst h h.logged
theorem Keeps.aChallenge (h : Keeps r s) {t q} : Keeps r (s.aChallenge t q).1 := h.ready3 h.drew.signed
theorem Keeps.aMeas (h : Keeps r s) {t q} : Keeps r (s.aMeas t q).1 := h.ready3 (.ite_fst h.drew.signed h.drew.logged)
theorem Keeps.aKeyEx (h : Keeps r s) {t q} : Keeps r (s.aKeyEx t q).1 := h.ready3 (.ite_fst h (.pair h.drew.drew.drew.signed.modConn))
theorem Keeps.inSession (h : Keeps r s) {t f} (hf : ∀ {x}, Keeps r (f x).1) : Keeps r (s.inSession t f).1 := by
  unfold State.inSession
  split
  · exact hf
  · exact h
theorem Keeps.aFinish (h : Keeps r s) {t q} : Keeps r (s.aFinish t q).1 := h.inSession (.ite_fst h (.ite_fst h (.pair h.modConn)))
theorem Keeps.secured (h : Keeps r s) {t f} (hf : ∀ {x}, Keeps r (f x).1) : Keeps r (s.secured t f).1 := h.inSession (.ite_fst hf h)
theorem Keeps.aKeyUpdate (h : Keeps r s) {t q} : Keeps r (s.aKeyUpdate t q).1 := h.secured (.ite_fst h (.pair h.modConn))
theorem Keeps.aEnd (h : Keeps r s) {t q} : Keeps r (s.aEnd t q).1 := h.secured (.pair h.modConn)
theorem Keeps.aHeartbeat (h : Keeps r s) {t q} : Keeps r (s.aHeartbeat t q).1 := h.secured h
theorem Keeps.aPqSig (h : Keeps r s) {t _q} : Keeps r (s.aPqSig t _q).1 := by
  unfold State.aPqSig
  split
  · exact h
  · exact h.drew
theorem Keeps.aPqChain (h : Keeps r s) {t q} : Keeps r (s.aPqChain t q).1 := .ite_fst h h
theorem Keeps.aUnsupported (h : Keeps r s) {t _q} : Keeps r (s.aUnsupported t _q).1 := h
theorem Keeps.aWhole (h : Keeps r s) {t q} : Keeps r (s.aWhole t q).1 := by
  unfold State.aWhole
  split
  · exact h.aVersion
  · exact h.aCaps
  · exact h.aAlgs
  · exact h.aDigests
  · exact h.aCert
  · exact h.aChallenge
  · exact h.aMeas
  · exact h.aKeyEx
  · exact h.aFinish
  · exact h.aKeyUpdate
  · exact h.aEnd
  · exact h.aHeartbeat
  · exact .ite_fst h.aPqSig (.ite_fst h.aPqChain h)
  · exact h
theorem Keeps.aChunkSend (h : Keeps r s) {t q} : Keeps r (s.aChunkSend t q).1 :=
  .ite_fst h (.ite_fst (.pair h.modConn.aWhole) (.pair h.modConn))
theorem Keeps.aChunkGet (h : Keeps r s) {t q} : Keeps r (s.aChunkGet t q).1 := .ite_fst h (.pair h.modConn)
theorem Keeps.spdmSend (h : Keeps r s) {t was a} : Keeps r (s.spdmSend t was a) :=
  .ite h.out (by split; exacts [.ite h.modConn.out h.out, h.out, h])
theorem Keeps.spdmOut (h : Keeps r s) {t was a} : Keeps r (s.spdmOut t was a) := .ite h.modConn.spdmSend h.spdmSend
theorem Keeps.recTaken (h : Keeps r s) {t} : Keeps r (s.recTaken t) := .ite h.modConn h
theorem Keeps.spdm1 (h : Keeps r s) {t q ok f} (hf : ∀ {x p}, Keeps r x → Keeps r (f x p).1) : Keeps r (s.spdm1 t q ok f) := by
  unfold State.spdm1
  split
  · exact h
  · exact .ite h (.ite h.recTaken.spdmOut (.ite h.recTaken.spdmOut (hf h.recTaken).spdmOut))

/-! ### Commits -/

theorem Keeps.wipPoll (h : Keeps r s) {i} : Keeps r (s.wipPoll i) := by
  unfold State.wipPoll
  split
  · exact h
  · exact .ite h (.ite h.modPort (.ite h.freed h.freed.modPort))
theorem Keeps.wipPolls (h : Keeps r s) : Keeps r s.wipPolls := h.foldl (fun h => h.wipPoll)
theorem Keeps.epochWritten (h : Keeps r s) {port cs addr data} : Keeps r (s.epochWritten port cs addr data) :=
  .ite h (.ite h.modCmd.epochDone h.modCmd)
theorem Keeps.slotEnd (h : Keeps r s) {slot x} : Keeps r (s.slotEnd slot x) := h.descEnd.cmdSlotEnd
theorem Keeps.fieldEnd (h : Keeps r s) {i v} : Keeps r (s.fieldEnd i v) := by
  unfold State.fieldEnd
  exact .ite h.blow.count.modLcf.kduStepDone h.blow.count.modLcf.lcAfter.cmdFuseEnd
theorem Keeps.copyEnd (h : Keeps r s) {k t} : Keeps r (s.copyEnd k t) := h.blow.count.modLcf.lcAfter.cmdLcEnd
theorem Keeps.commitWrote (h : Keeps r s) {w x} : Keeps r (s.commitWrote w x) := by
  unfold State.commitWrote
  split
  · exact h.copyEnd
  · exact h.fieldEnd
  · exact h.bankWritten.lcAfter
  · exact .ite h.arbWritten.epochWritten.slotEnd h.slotEnd
  · exact (Keeps.bankWritten (.ite h.drew h)).slotEnd
  · exact h
theorem Keeps.commitEnds (h : Keeps r s) {i x} : Keeps r (s.commitEnds i x) := by
  unfold State.commitEnds
  dsimp only
  split
  · exact h.wqFinish
  · exact h.admDone.commitWrote
theorem Keeps.commitStart (h : Keeps r s) {i} : Keeps r (s.commitStart i) := by
  unfold State.commitStart
  split
  · exact h.wqStart
  · split
    · exact h.toFlash.toFlash.setByte
    · exact h.commitEnds.count
  · exact h.setByte
  · exact h
theorem Keeps.admitSlot (h : Keeps r s) {i} : Keeps r (s.admitSlot i) := h.setAdm.modCis.count.commitStart
theorem Keeps.commitFails (h : Keeps r s) {i} : Keeps r (s.commitFails i) := by
  unfold State.commitFails
  split
  · exact h.sendFailClr.commitEnds.count
  · exact h.sendFailClr.commitEnds.count
  · exact h.commitEnds
theorem Keeps.commitLate (h : Keeps r s) {i} : Keeps r (s.commitLate i) := by
  unfold State.commitLate
  split
  · exact .ite h.commitEnds.count.portErr h
  · exact h
theorem Keeps.commitLost (h : Keeps r s) {w x} : Keeps r (s.commitLost w x) := by
  unfold State.commitLost
  split
  · exact h.wqEnd
  · split
    · exact h.setTransit.lcResult.cmdLcEnd
    · exact h
  · exact Keeps.cmdFuseEnd (.ite h.setKdu.kduErr h)
  · exact h.slotEnd
  · exact h.slotEnd
  · exact h
theorem Keeps.defer (h : Keeps r s) {i} : Keeps r (s.defer i) := by
  unfold State.defer
  dsimp only
  split
  · exact h.setAdm.incReg.count.commitLost.wqAsk
  · exact h.setAdm.incReg.count.commitLost
theorem Keeps.admTamper (h : Keeps r s) : Keeps r s.admTamper := h.modCis.foldl (fun h => .ite h.withdraw.commitLost h)

/-! ### The tamper response -/

theorem Keeps.modTamp (h : Keeps r s) {f} : Keeps r (s.modTamp f) := h.update
theorem Keeps.modPwr (h : Keeps r s) {f} : Keeps r (s.modPwr f) := h.update
theorem Keeps.countCauses (h : Keeps r s) {v} : Keeps r (s.countCauses v) := h.counts
theorem Keeps.bbramWipe (h : Keeps r s) : Keeps r s.bbramWipe := h.update
theorem Keeps.latchTrip (h : Keeps r s) {v} : Keeps r (s.latchTrip v) := h.modTamp.bbramWipe
theorem Keeps.tamperRecord (h : Keeps r s) : Keeps r s.tamperRecord := h.flight
theorem Keeps.expTamper (h : Keeps r s) : Keeps r s.expTamper := .ite h.expFail h
theorem Keeps.pwrDrop (h : Keeps r s) : Keeps r s.pwrDrop := .ite h.modPwr.count h
theorem Keeps.romTrip (h : Keeps r s) : Keeps r s.romTrip := .ite h h.haltRom
theorem Keeps.coreTrip (h : Keeps r s) : Keeps r s.coreTrip := by
  unfold State.coreTrip
  have hports : Keeps r ((List.range 16).foldl State.portStop ((s.modTamp (fun t => { t with responded := true })).count (evTamp 0))) :=
    h.modTamp.count.foldl (fun h => h.portStop)
  exact hports.forceAll.count.celTamper.digTamper.tkTamper.measTamper.cmdTamper.admTamper.cvnTamper.mbxTamper.stageTamper
    |>.tamperRecord.expTamper.pwrDrop.romTrip
theorem Keeps.respond (h : Keeps r s) {v} : Keeps r (s.respond v) := by
  unfold State.respond
  exact .ite h.latchTrip.countCauses.coreTrip h.latchTrip.wake
theorem Keeps.thermHold (h : Keeps r s) : Keeps r s.thermHold := h.forceAll.modTamp
theorem Keeps.thermLimit (h : Keeps r s) : Keeps r s.thermLimit := by
  unfold State.thermLimit
  split
  · exact .ite h.count h
  · exact Keeps.thermHold (.ite h.counts h.count)
  · exact h.respond
theorem Keeps.thermNow (h : Keeps r s) : Keeps r s.thermNow := by
  unfold State.thermNow
  split
  · exact h
  · exact h.count.thermHold
  · exact .ite h.latchTrip.coreTrip h.latchTrip.wake
theorem Keeps.thermCfg (h : Keeps r s) {v} : Keeps r (s.thermCfg v) := .ite h.modTamp.thermNow h.modTamp
theorem Keeps.trip (h : Keeps r s) {c} : Keeps r (s.trip c) := .ite h.modTamp.thermLimit h.modTamp.respond
theorem Keeps.batteryStart (h : Keeps r s) : Keeps r s.batteryStart := h.modTamp.bbramWipe
theorem Keeps.loopArm (h : Keeps r s) {v} : Keeps r (s.loopArm v) := h.modTamp

/-! ### Power states -/

theorem Keeps.pwrRefuse (h : Keeps r s) {st} : Keeps r (s.pwrRefuse st) := h.modPwr.count
theorem Keeps.hostStop (h : Keeps r s) : Keeps r s.hostStop := h.linkDown.cvnDown
theorem Keeps.retainStop (h : Keeps r s) : Keeps r s.retainStop :=
  (h.seqIdle.holdReq.celWipe.count.foldl (fun h => h.portStop)).foldl (fun h => h.setHart.masterReset)
theorem Keeps.pwrReq (h : Keeps r s) {t} : Keeps r (s.pwrReq t) := by
  refine .ite h.pwrRefuse ?_
  split
  · exact h.setReg.modPwr.hostStop
  · exact Keeps.retainStop (.ite h.setReg.modPwr.hostStop h.setReg.modPwr)
  · exact h.setReg.modPwr
theorem Keeps.pwrDone (h : Keeps r s) {t} : Keeps r (s.pwrDone t) := h.modPwr.count
theorem Keeps.linkSeek (h : Keeps r s) : Keeps r s.linkSeek := h.foldl (fun h => .ite h.modLink h)
theorem Keeps.coreLost (h : Keeps r s) : Keeps r s.coreLost :=
  h.of_stores rfl (fun _ => BitVec.and_self) (wf_filter _ _ _) (fun _ => rfl) (wf_filter _ _ _) (fun _ => rfl)
theorem Keeps.coreOff (h : Keeps r s) : Keeps r s.coreOff := h.pwrDone.modPwr.update.coreLost
theorem Keeps.pfWarn (h : Keeps r s) : Keeps r s.pfWarn :=
  .ite h (.ite h.modCis.count (.ite h.modCis.count.pfwLost.modPwr.hostStop h.modCis.count.pfwLost))

/-! ### The main road -/

theorem Keeps.commitStored (h : Keeps r s) : Keeps r s.commitStored := by
  unfold State.commitStored
  split
  · exact h
  · split
    · exact h.blow
    · exact h.blow
    · exact h.setBank
    · exact Keeps.setBank (.ite h.drew h)
    · exact h
theorem Keeps.copyCut (h : Keeps r s) : Keeps r s.copyCut := by
  unfold State.copyCut
  split
  · exact h
  · split
    · exact .ite h h.freed.freed.blow.update
    · exact h
theorem Keeps.afterReset (h : Keeps r s) : Keeps r s.afterReset :=
  h.of_stores rfl (fun _ => BitVec.and_self) (wf_filter _ _ _) (fun _ => rfl) (fun _ => rfl) (fun _ => rfl)
theorem Keeps.fp0Mode (h : Keeps r s) : Keeps r s.fp0Mode := by
  unfold State.fp0Mode
  exact h.setReg.modPort
theorem Keeps.fp0Retry (h : Keeps r s) : Keeps r s.fp0Retry := h.setReg.modPort
theorem Keeps.bootDraws (h : Keeps r s) : Keeps r s.bootDraws := by
  unfold State.bootDraws
  exact .ite h.newNonce.update.drew.update.drew h.newNonce.update.drew
theorem Keeps.roadStart (h : Keeps r s) : Keeps r s.roadStart := h.lcBoot.fp0Mode.bootDraws
theorem Keeps.selfTest (h : Keeps r s) {fails} : Keeps r (s.selfTest fails) := .ite h.modTamp.count.respond h
theorem Keeps.rearm (h : Keeps r s) {held} : Keeps r (s.rearm held) := .ite h.modTamp.count h
theorem Keeps.countMissed (h : Keeps r s) : Keeps r s.countMissed := .ite h h.countCauses.count.modTamp
theorem Keeps.countWake (h : Keeps r s) : Keeps r s.countWake := .ite h.modPwr.count h
theorem Keeps.thermStill (h : Keeps r s) : Keeps r s.thermStill := .ite h.thermHold h
theorem Keeps.powerUp (h : Keeps r s) {fails held live} : Keeps r (s.powerUp fails held live) :=
  h.afterReset.modTamp.selfTest.rearm.countMissed.countWake.thermStill.roadStart
theorem Keeps.powerUpEnv (h : Keeps r s) {e} : Keeps r (s.powerUpEnv e) := h.powerUp
theorem Keeps.commitsLost (h : Keeps r s) : Keeps r s.commitsLost := h.commitStored.modCis
theorem Keeps.powerLoss (h : Keeps r s) : Keeps r s.powerLoss := h.commitsLost.seqIdle.modPwr.update.holdCheck.coreLost
theorem Keeps.aonLoss (h : Keeps r s) : Keeps r s.aonLoss :=
  h.copyCut.commitsLost.of_stores rfl (fun _ => BitVec.and_self) (fun _ => rfl) (fun _ => rfl) (fun _ => rfl) (fun _ => rfl)
theorem Keeps.resetGo (h : Keeps r s) : Keeps r s.resetGo := .ite h.afterReset.roadStart h.modPwr
theorem Keeps.resetDue (h : Keeps r s) : Keeps r s.resetDue := .ite h.afterReset.roadStart h
theorem Keeps.romExtends (h : Keeps r s) : Keeps r s.romExtends := h.measHw.measHw
theorem Keeps.bankRead (h : Keeps r s) : Keeps r s.bankRead := by
  unfold State.bankRead
  exact .ite (Keeps.count (.ite h.update.count h.update)) (.ite h.update.count h.update)
theorem Keeps.slotSeen (h : Keeps r s) {slot m} : Keeps r (s.slotSeen slot m) := h.setReg
theorem Keeps.epochScan (h : Keeps r s) {scan} : Keeps r (s.epochScan scan) := by
  unfold State.epochScan
  exact h.modCmd
theorem Keeps.romStep4 (h : Keeps r s) {scan} : Keeps r (s.romStep4 scan) := by
  unfold State.romStep4
  extract_lets s1 s2 s3 s4 s5 s6
  have h2 : Keeps r s2 := h.bankRead.stage.modBoot
  have h3 : Keeps r s3 := .ite h2 h2.fp0Retry
  have h6 : Keeps r s6 := h3.modBoot.epochScan.slotSeen.slotSeen
  exact .ite h3.openPush (.ite h6.openPush (.ite h6.modBoot.openPush h6.modBoot.romTry))
theorem Keeps.romStep3 (h : Keeps r s) {scan} : Keeps r (s.romStep3 scan) :=
  .ite h.stage.tamperRecord.haltRom (.ite h.stage.haltRom (.ite h.stage.romExtends.openPush h.stage.romExtends.romStep4))
theorem Keeps.hartsRom (h : Keeps r s) : Keeps r s.hartsRom := h.foldl (fun h => h.setHart)
theorem Keeps.wiped (h : Keeps r s) {fault us scan} : Keeps r (s.wiped fault us scan) :=
  .ite h.modBoot.setReg.count.hartsRom.stage.haltRom h.modBoot.setReg.count.hartsRom.stage.romStep3
theorem Keeps.hartsRuntime (h : Keeps r s) {entry} : Keeps r (s.hartsRuntime entry) := h.foldl (fun h => h.setHart)
theorem Keeps.arbRenew (h : Keeps r s) : Keeps r s.arbRenew := .ite h.modBoot.homeErase.arbCommit h
theorem Keeps.homeRenew (h : Keeps r s) : Keeps r s.homeRenew := .ite h ((Keeps.foldl (.ite h.homeErase.modCmd h)) (fun h => h.eraseBlocks))
theorem Keeps.tamperExtend (h : Keeps r s) : Keeps r s.tamperExtend := h.askExtend
theorem Keeps.rtStart (h : Keeps r s) {version} : Keeps r (s.rtStart version) :=
  .ite h.tamperExtend.epochBoot.homeRenew.arbRebuild h.tamperExtend.epochBoot.homeRenew.arbRenew
theorem Keeps.aliasSign (h : Keeps r s) : Keeps r s.aliasSign := h.update.drew
theorem Keeps.rtRelease (h : Keeps r s) : Keeps r s.rtRelease := by
  unfold State.rtRelease
  exact .ite h.modBoot.stageWipe.setReg.stage.setPush.count.flight.measHw.measHw.hartsRuntime.aliasSign.update
    h.modBoot.stageWipe.setReg.stage.setPush.count.flight.measHw.measHw.hartsRuntime.aliasSign.rtStart

/-! ### Recovery, export and replay -/

theorem Keeps.holdLines (h : Keeps r s) {l} : Keeps r (s.holdLines l) := h.modPrst.holdCheck
theorem Keeps.freeLines (h : Keeps r s) {l} : Keeps r (s.freeLines l) := h.modPrst
theorem Keeps.exchange (h : Keeps r s) {p k} : Keeps r (s.exchange p k) := h.modPort
theorem Keeps.bindImage (h : Keeps r s) {p b k old base cs m} : Keeps r (s.bindImage p b k old base cs m) :=
  h.setReg.setReg.setReg.setReg.setReg.foldl (fun h => h.setReg)
theorem Keeps.loadBlock (h : Keeps r s) {p b w data nodes} : Keeps r (s.loadBlock p b w data nodes).1 := by
  unfold State.loadBlock
  dsimp only
  split
  · exact .pair h.winRead
  · exact .pair h.winRead.demandRead
theorem Keeps.loadWindow (h : Keeps r s) {p b w off len blocks nodes} : Keeps r (s.loadWindow p b w off len blocks nodes).1 := by
  unfold State.loadWindow
  dsimp only
  split
  · exact h
  · exact Keeps.winApply (.foldl_fst (.pair h.setReg.setReg.setReg.pwWrite.pwLoad) (fun h => h.loadBlock))
theorem Keeps.extendManifest (h : Keeps r s) {p k m} : Keeps r (s.extendManifest p k m) := h.askExtend.extendAll
theorem Keeps.activate (h : Keeps r s) {p k m nodes blocks} : Keeps r (s.activate p k m nodes blocks).1 := by
  unfold State.activate
  extract_lets at0 s1 b old s2 s3 s4 s5 n s6 s7 s8 x
  have h3 : Keeps r s3 := h.freed.setReg.bindUnbind.foldl (fun h => h.winApply)
  have h6 : Keeps r s6 := h3.exchange.setSubst.bindImage.bindWrite.bindLoad.foldl (fun h => h.treeNode)
  have h7 : Keeps r s7 := .ite h6.extendManifest h6
  exact .foldl_fst (.pair h7.bindConfirm) (fun h => h.loadWindow)
theorem Keeps.serves (h : Keeps r s) {k v} : Keeps r (s.serves k v) := h.modBoot
theorem Keeps.activateAll (h : Keeps r s) {k l} : Keeps r (s.activateAll k l).1 := .foldl_fst (.pair h) (fun h => .pair h.activate)
theorem Keeps.activateRun (h : Keeps r s) {k l version j} : Keeps r (s.activateRun k l version j) := by
  unfold State.activateRun
  exact .ite h.holdLines.activateAll.freeLines.serves.cmdEnd h.update.cmdEnd
theorem Keeps.cmdActivate (h : Keeps r s) {scan j} : Keeps r (s.cmdActivate scan j) :=
  .ite h.cmdEnd (.ite h.cmdEnd (.ite h.cmdEnd (by split; exacts [h.cmdEnd, h.activateRun])))
theorem Keeps.recoverHold (h : Keeps r s) {k} : Keeps r (s.recoverHold k) := h.modPrst.holdLines
theorem Keeps.recoverSubst (h : Keeps r s) {k} : Keeps r (s.recoverSubst k) :=
  (h.holdLines.foldl (fun h => h.recovLine)).foldl (fun h => h.setSubst)
theorem Keeps.recoverRestore (h : Keeps r s) {env} : Keeps r (s.recoverRestore env) := .ite h h.envJoin
theorem Keeps.modFlr (h : Keeps r s) {f} : Keeps r (s.modFlr f) := h.update
theorem Keeps.reseed (h : Keeps r s) : Keeps r s.reseed := h.update.flight.freed
theorem Keeps.checkpoint (h : Keeps r s) {m v} : Keeps r (s.checkpoint m v) := h.flight.freed
theorem Keeps.recUse (h : Keeps r s) : Keeps r s.recUse := .ite (.ite h.takeUse.lastUse h.takeUse) h
theorem Keeps.expStart (h : Keeps r s) {m win} : Keeps r (s.expStart m win) :=
  ((Keeps.recUse (.ite h.drew.drew.drew h.drew.drew)).modFlr).setReg
theorem Keeps.expGo (h : Keeps r s) {m win} : Keeps r (s.expGo m win) := h.when (fun h => h.expStart)
theorem Keeps.expAbort (h : Keeps r s) : Keeps r s.expAbort := .ite h.expFail h
theorem Keeps.expDone (h : Keeps r s) : Keeps r s.expDone := .ite h.modFlr.count.modTamp h.modFlr.count
theorem Keeps.expStep (h : Keeps r s) {m} : Keeps r (s.expStep m) := .ite (.ite h.modFlr.expDone h.modFlr) h
theorem Keeps.expDma (h : Keeps r s) {ok} : Keeps r (s.expDma ok) := .ite h.hostWrite.expDone h.expFail
theorem Keeps.replayGo (h : Keeps r s) {m} : Keeps r (s.replayGo m) := h.when (fun h => h.modFlr.modPwr.resetGo)
theorem Keeps.haltHarts (h : Keeps r s) : Keeps r s.haltHarts := h.foldl (fun h => .ite h h.setHart)
theorem Keeps.replayStop (h : Keeps r s) {x} : Keeps r (s.replayStop x) := h.modFlr.haltHarts
theorem Keeps.timerDest (h : Keeps r s) {t x} : Keeps r (s.timerDest t x) := .ite (.ite h.cvnFire h) (.ite h.flight h)
theorem Keeps.timerFire (h : Keeps r s) {t} : Keeps r (s.timerFire t) := h.setTimer.setReg.count.timerDest.wake
theorem Keeps.sysEvent (h : Keeps r s) {k} : Keeps r (s.sysEvent k) := .ite h.count h

/-! ### Reads of registers -/

theorem Keeps.setLatch (h : Keeps r s) {m a v} : Keeps r (s.setLatch m a v) := h.update
theorem Keeps.readEff (h : Keeps r s) {m a} : Keeps r (s.readEff m a) := by
  unfold State.readEff
  dsimp only
  split
  · exact h
  · split
    · exact h
    · refine .ite h.freed (.ite h (.ite h.setLatch ?_))
      split
      · exact h.semTake
      · exact h.sfdpStep
      · exact h.excStep
      · exact h.expStep
      · exact .ite h.jdcTxStep h.jdcRxStep
      · exact h
theorem Keeps.answer (h : Keeps r s) {m a d} : Keeps r (s.answer m a d) := .ite h.out h.readOut
theorem Keeps.read32 (h : Keeps r s) {m a} : Keeps r (s.read32 m a) := .ite h.out.freed (.ite h.out (.ite h h.readEff.answer))

/-! ### Effects of register writes -/

theorem Keeps.actsFrom (h : Keeps r s) {v i l} (hl : ActsKeep r l) : Keeps r (actsFrom s v i l) := by
  induction l generalizing s i with
  | nil => exact h
  | cons f l ih => exact ih (.ite (hl.1 h) h) hl.2
theorem Keeps.acts (h : Keeps r s) {v l} (hl : ActsKeep r l) : Keeps r (s.acts v l) := h.actsFrom hl
theorem Keeps.oneAct (h : Keeps r s) {m a v l} (hl : ActsKeep r l) : Keeps r (s.oneAct m a v l) := h.when (fun h => h.acts hl)
theorem Keeps.bufApply (h : Keeps r s) {i a v} : Keeps r (s.bufApply i a v) :=
  .ite h.setBuf.setDue (by split; exacts [.ite h.setBuf.setReg.setWdog h.setBuf.setReg, h.setBuf.setReg.wakeScrub, h.setBuf.setReg])
theorem Keeps.bufApplyAll (h : Keeps r s) {page} : Keeps r (s.bufApplyAll page) := by
  unfold State.bufApplyAll
  split
  · exact h
  · exact h.foldl (fun h => (by split; exacts [h.bufApply, h]))
theorem Keeps.silenceHeld (h : Keeps r s) : Keeps r s.silenceHeld := h.foldl (fun h => .ite h.silence h)
theorem Keeps.strobe (h : Keeps r s) {v} : Keeps r (s.strobe v) := ((h.foldl (fun h => h.bufApplyAll)).holdCheck).silenceHeld
theorem Keeps.rbWrite (h : Keeps r s) {m i a v} : Keeps r (s.rbWrite m i a v) := h.when (fun h => h.setBuf)
theorem Keeps.armCtrl (h : Keeps r s) {m v} : Keeps r (s.armCtrl m v) := .ite h.updCancel (.ite h.updArm h)
theorem Keeps.effStrobe (h : Keeps r s) {m off v} : Keeps r (s.effStrobe m off v) := by
  unfold State.effStrobe
  split
  · exact h.strobe
  · exact h.when (fun h => h.setReg)
  · exact h.armCtrl
  · exact h
theorem Keeps.effHthresh (h : Keeps r s) {k v} : Keeps r (s.effHthresh k v) := h.setReg.hartIrq
theorem Keeps.effLcf1 (h : Keeps r s) {m off v} : Keeps r (s.effLcf1 m off v) := by
  unfold State.effLcf1
  split
  · exact h.lcReq
  · exact h.dbgGrant
  · exact h.memtest
  · exact h.setReg
theorem Keeps.effBoot1 (h : Keeps r s) {m off v} : Keeps r (s.effBoot1 m off v) := by
  unfold State.effBoot1
  split
  · exact h.claim
  · exact h.when (fun h => h.setReg)
  · exact .ite h.relAbandon (.ite h.relGo h)
  · exact h.pushCtrl
  · exact h.stageData
theorem Keeps.lineCfg (h : Keeps r s) {v} : Keeps r (s.lineCfg v) :=
  .ite (Keeps.pfwLost (.ite h.setReg.modCis h.setReg)) (.ite h.setReg.modCis h.setReg)
theorem Keeps.effCis0 (h : Keeps r s) {off v} : Keeps r (s.effCis0 off v) := by
  unfold State.effCis0
  split
  · exact h.lineCfg
  · exact h.setReg.estimate
  · exact h.setReg
theorem Keeps.submitCtrl (h : Keeps r s) {m v} : Keeps r (s.submitCtrl m v) := .ite h.refuse (.ite h.commitSubmit (.ite h.commitWithdraw h))
theorem Keeps.effCis1 (h : Keeps r s) {m off v} : Keeps r (s.effCis1 m off v) := by
  refine .ite (h.when (fun h => h.setReg)) ?_
  split
  · exact h.setReg.estimate
  · exact h.when (fun h => h.setReg)
  · exact h.submitCtrl
  · exact h.setReg
  · exact h.tmrCtrl
  · exact h.setReg.estimate
theorem Keeps.effPwrReq (h : Keeps r s) {v} : Keeps r (s.effPwrReq v) := by
  unfold State.effPwrReq
  split
  · exact h.pwrReq
  · exact h.pwrReq
  · exact h.pwrReq
  · exact h.pwrRefuse
theorem Keeps.effTamp1 (h : Keeps r s) {off v} : Keeps r (s.effTamp1 off v) := by
  unfold State.effTamp1
  split
  · exact h.effPwrReq
  · exact h.loopArm
  · exact h.thermCfg
  · exact h.setReg
theorem Keeps.effCel1 (h : Keeps r s) {m off v} : Keeps r (s.effCel1 m off v) := by
  unfold State.effCel1
  split
  · exact .ite h (h.kduFree (fun h => h.oneAct ⟨fun h => h.kduDerive, fun h => h.kduDiscard, fun h => h.rootGen, fun h => h.rootClass,
    fun h => h.bbramErase, trivial⟩))
  · exact h.acts ⟨fun h => h.closeSecret, fun h => h.lockCdi, trivial⟩
  · exact h.when (fun h => h.setReg)
theorem Keeps.effFlr1 (h : Keeps r s) {m off v} : Keeps r (s.effFlr1 m off v) := by
  unfold State.effFlr1
  split
  · exact h.checkpoint
  · exact h.acts ⟨fun h => h.expGo, fun h => h.expGo, fun h => h.expAbort, trivial⟩
  · exact h.acts ⟨fun h => h.replayGo, trivial⟩
  · exact h.setReg
theorem Keeps.effPrst0 (h : Keeps r s) {m off v} : Keeps r (s.effPrst0 m off v) := by
  unfold State.effPrst0
  split
  · exact h.holdReq
  · exact h.unforce
  · exact h.modPrst.holdCheck
  · exact h.oneAct ⟨fun h => h.seqGo, fun h => h.seqSkip, fun h => h.seqIdle, trivial⟩
theorem Keeps.gpStore (h : Keeps r s) {off v} : Keeps r (s.gpStore off v) := h.setReg.foldl (fun h => h.wdogEdge)
theorem Keeps.effPrst1 (h : Keeps r s) {off v} : Keeps r (s.effPrst1 off v) := by
  unfold State.effPrst1
  split
  · exact h.gpStore
  · exact h.gpStore
  · exact h.setReg
  · exact h.setReg
theorem Keeps.qCtrl (h : Keeps r s) {m a q ok v} :
    Keeps r (s.qCtrl m a q ok v) := h.oneAct ⟨fun h => h.qEnable, fun h => h.qDisable, trivial⟩
theorem Keeps.effHart (h : Keeps r s) {m k off v} : Keeps r (s.effHart m k off v) := by
  unfold State.effHart
  split
  · exact h.acts ⟨fun h => h.hartCtrlReset, fun h => h.hartWake, trivial⟩
  · exact .ite h h.setReg
  · exact h.qCtrl
  · exact h.when (fun h => h.setReg)
theorem Keeps.dbgBoth (h : Keeps r s) {m v} : Keeps r (s.dbgBoth m v) := (h.foldl (fun h => h.dbgHalt1)).dbgCtrl (fun h => h.dbgResume1)
theorem Keeps.effDbg (h : Keeps r s) {m off v} : Keeps r (s.effDbg m off v) := by
  unfold State.effDbg
  split
  · exact h.dbgBoth
  · exact h.jdcTxWrite
  · exact h.jdcRxWrite
theorem Keeps.effPhy (h : Keeps r s) {m p off v} : Keeps r (s.effPhy m p off v) := by
  unfold State.effPhy
  split
  · exact h.leaseWrite
  · exact .ite h h.discover
  · exact h.acts ⟨fun h => h.phyCal, trivial⟩
  · exact h.setReg
theorem Keeps.effCt (h : Keeps r s) {m p off v} : Keeps r (s.effCt m p off v) := by
  unfold State.effCt
  split
  · exact h.oneAct ⟨fun h => h.ctWrite, fun h => h.ctRead, fun h => h.ctSwapReq, fun h => h.ctClear, trivial⟩
  · exact h.setReg
theorem Keeps.wqCtrl (h : Keeps r s) {m p v} :
    Keeps r (s.wqCtrl m p v) := h.oneAct ⟨fun h => h.wqApply, fun h => h.wqDiscard, fun h => h.wqRetire, fun h => h.wqFence, trivial⟩
theorem Keeps.effRt (h : Keeps r s) {m p off v} : Keeps r (s.effRt m p off v) := by
  unfold State.effRt
  split
  · exact h.oneAct ⟨fun h => h.rtWrite, fun h => h.rtRead, fun h => h.rtSwapReq, fun h => h.swapAllReq, fun h => h.rtClear, trivial⟩
  · exact h.wqCtrl
  · exact h.setReg
theorem Keeps.effVer (h : Keeps r s) {m p off v} : Keeps r (s.effVer m p off v) := by
  unfold State.effVer
  split
  · exact h.acts ⟨fun h => h.fullStart, fun h => h.verResume, fun h => h.scrubRestart, trivial⟩
  · exact .ite h h.substCtrl
  · exact h.oneAct ⟨fun h => h.bindWrite, fun h => h.bindRead, fun h => h.bindLoad, fun h => h.bindConfirm, fun h => h.bindUnbind, trivial⟩
  · exact h.oneAct ⟨fun h => h.pwWrite, fun h => h.pwRead, fun h => h.pwLoad, fun h => h.pwUnload, trivial⟩
  · exact h.acts ⟨fun h => h.covReset, trivial⟩
  · exact h.setReg
theorem Keeps.effHq (h : Keeps r s) {m q off v} : Keeps r (s.effHq m q off v) := by
  unfold State.effHq
  split
  · exact h.when (fun h => h.setReg)
  · exact h.qCtrl
  · exact h.qTail
  · exact h.qHead
  · exact h.when (fun h => h.setReg)
theorem Keeps.effLink (h : Keeps r s) {off v} : Keeps r (s.effLink off v) := by
  unfold State.effLink
  split
  · exact h.setReg
  · exact h.acts ⟨fun h => h.retrain, trivial⟩
theorem Keeps.effDoe (h : Keeps r s) {m off v} : Keeps r (s.effDoe m off v) := by
  unfold State.effDoe
  split
  · exact h.acts ⟨fun h => h.doeSend, fun h => h.doeFail, trivial⟩
  · exact h.setReg
theorem Keeps.effMbx (h : Keeps r s) {m c off v} : Keeps r (s.effMbx m c off v) := by
  unfold State.effMbx
  dsimp only
  split
  · exact h.when (fun h => h.setChan)
  · exact .ite h.chSend (h.when id)
  · exact .ite h.chTake (h.when id)
  · exact h.setReg
  · exact h.when (fun h => h.setChan)
theorem Keeps.effCvn0 (h : Keeps r s) {m off v} : Keeps r (s.effCvn0 m off v) := by
  unfold State.effCvn0
  split
  · exact h.cvnCfg
  · exact h.acts ⟨fun h => h.train, fun h => h.sendNotice, fun h => h.sendRecover, fun h => h.forward, fun h => h.rxDrop, trivial⟩
  · exact h.setReg
theorem Keeps.effCvn2 (h : Keeps r s) {off v} : Keeps r (s.effCvn2 off v) := by
  unfold State.effCvn2
  split
  · exact h.setReg.cvnBound
  · exact h.setReg
theorem Keeps.effCvn3 (h : Keeps r s) {m off v} : Keeps r (s.effCvn3 m off v) := by
  unfold State.effCvn3
  split
  · exact h.acts ⟨fun h => h.timeCal, trivial⟩
  · exact h.when (fun h => h.setReg)
  · exact h.when (fun h => h.setReg)
  · exact h.when (fun h => h.setReg)
  · exact h.setReg
theorem Keeps.pageEffect (h : Keeps r s) {m page i off v} : Keeps r (s.pageEffect m page i off v) := by
  unfold State.pageEffect
  split
  · exact h.effStrobe
  · exact h.semWrite
  · exact h.swEvt
  · exact h.routeWrite
  · exact h.effHthresh
  · exact h.acts ⟨fun h => h.newNonce, trivial⟩
  · exact h.effLcf1
  · exact h.bootStage
  · exact h.effBoot1
  · exact h.effCis0
  · exact h.effCis1
  · exact h.effTamp1
  · exact h.effCel1
  · exact h.effFlr1
  · exact h.effPrst0
  · exact h.effPrst1
  · exact h.effHart
  · exact h.effDbg
  · exact h.effPhy
  · exact h.effCt
  · exact h.effRt
  · exact h.effVer
  · exact h.effHq
  · exact h.effLink
  · exact h.effDoe
  · exact h.effMbx
  · exact h.btWrite
  · exact h.effCvn0
  · exact h.acts (show ActsKeep r [fun s => s.linkRestart 0, fun s => s.linkRestart 1, fun s => s.linkRestart 2] from
      ⟨fun h => h.linkRestart, fun h => h.linkRestart, fun h => h.linkRestart, trivial⟩)
  · exact h.effCvn2
  · exact h.effCvn3
  · exact h.setReg
  · exact h.setReg
  · exact h.setReg
  · exact h.setReg
  · exact h.setReg
  · exact h.setReg
  · exact h.setReg
  · exact Keeps.setReg (.ite h.update h)
  · exact h.setReg
  · exact h.setReg
  · exact h.setReg
  · exact h.setReg
  · exact h.setReg
  · exact h.setReg
  · exact h.setReg
theorem Keeps.pairApply (h : Keeps r s) {m i a lo hi} : Keeps r (s.pairApply m i a lo hi) := by
  unfold State.pairApply
  split
  · exact h.posSeed
  · exact h.setReg.setReg
theorem Keeps.setHeld (h : Keeps r s) {m a v} : Keeps r (s.setHeld m a v) := h.update
theorem Keeps.lowWrite (h : Keeps r s) {m i a v} : Keeps r (s.lowWrite m i a v) := h.when (fun h => h.setHeld)
theorem Keeps.highWrite (h : Keeps r s) {m i a v} : Keeps r (s.highWrite m i a v) := h.when (fun h => h.setHeld.pairApply)
theorem Keeps.regEffect (h : Keeps r s) {m page i off x v} : Keeps r (s.regEffect m page i off x v) := by
  unfold State.regEffect
  split
  · exact h.ackEvt
  · exact .ite h.errAt h.update.setReg
  · exact h.rbWrite
  · split
    · exact h.lowWrite
    · exact h.highWrite
    · exact h.pageEffect

/-! ### Accesses -/

theorem Keeps.enableWrite (h : Keeps r s) {page i v} : Keeps r (s.enableWrite page i v) := h.setReg.foldl (fun h => h.deliverIfNew)
theorem Keeps.headEffect (h : Keeps r s) {m page i off v} : Keeps r (s.headEffect m page i off v) :=
  .ite h.setLock (.ite (.ite h.err h.setReg) (.ite h.ackErr (.ite (.ite h.err h.enableWrite) (.ite h.force (.ite h.err h.err)))))
theorem Keeps.errOffset (h : Keeps r s) {before page off} : Keeps r (s.errOffset before page off) := .ite h.setFld h
theorem Keeps.applyWrite (h : Keeps r s) {m a v bcast} : Keeps r (s.applyWrite m a v bcast) := by
  unfold State.applyWrite
  split
  · exact h
  · exact Keeps.errOffset (.ite h.err (.ite (.ite h.err h.headEffect) (by split; exacts [h.err, h.regEffect, h])))
theorem Keeps.pageWrite (h : Keeps r s) {m a v viaAlias bcast now} (hnow : ∀ {t}, Keeps r t → Keeps r (now t)) :
    Keeps r (s.pageWrite m a v viaAlias bcast now) := by
  unfold State.pageWrite
  split
  · exact h.err
  · exact .ite (hnow h) (.ite h.errAt h.setPosted)
theorem Keeps.replayStore (h : Keeps r s) {a} : Keeps r (s.replayStore a) := .ite h.modFlr h
theorem Keeps.write32 (h : Keeps r s) {m a v} : Keeps r (s.write32 m a v) := by
  refine .ite h.replayStore (.ite h ?_)
  split
  · exact h.foldl (fun h => h.pageWrite (fun h => h.applyWrite))
  · exact h.pageWrite (fun h => h.applyWrite)
theorem Keeps.aliasEffect (h : Keeps r s) {m page i off x bit b} : Keeps r (s.aliasEffect m page i off x bit b) := by
  unfold State.aliasEffect
  split
  · exact .ite h.pageEffect h
  · exact .ite h.pageEffect h
  · exact h.rbWrite
  · split
    · exact h.when (fun h => h.pairApply)
    · exact h.when (fun h => h.pairApply)
    · exact h.pageEffect
theorem Keeps.aliasHead (h : Keeps r s) {m page i off bit b} : Keeps r (s.aliasHead m page i off bit b) :=
  .ite (.ite h.setLock h) (.ite h.headEffect (.ite h.force (.ite h.err h.err)))
theorem Keeps.aliasApply (h : Keeps r s) {m a bit b} : Keeps r (s.aliasApply m a bit b) := by
  unfold State.aliasApply
  split
  · exact h
  · exact Keeps.errOffset (.ite h.err (.ite (.ite h.err h.aliasHead) (by split; exacts [h.err, h.err, .ite h.err h.aliasEffect, h])))
theorem Keeps.aliasWrite (h : Keeps r s) {m b v} : Keeps r (s.aliasWrite m b v) :=
  .ite h (.ite h (.ite h.err (h.pageWrite (fun h => h.aliasApply))))
theorem Keeps.aliasReadEff (h : Keeps r s) {m b} : Keeps r (s.aliasReadEff m b) := .ite h.errAt h
theorem Keeps.postedApply (h : Keeps r s) {page} : Keeps r (s.postedApply page) := by
  unfold State.postedApply
  split
  · exact h
  · exact .ite h.setPosted.aliasApply h.setPosted.applyWrite
theorem Keeps.narrowWrite (h : Keeps r s) {m a} : Keeps r (s.narrowWrite m a) := .ite h (h.foldl (fun h => (by split <;> exact h.err)))
theorem Keeps.narrowRead (h : Keeps r s) {m a n ws} : Keeps r (s.narrowRead m a n ws) :=
  Keeps.readOut (.ite ((h.foldl (fun h => h.errAt)).freed) (h.foldl (fun h => h.errAt)))
theorem Keeps.readWords (h : Keeps r s) {m a ws d} : Keeps r (s.readWords m a ws d) := by
  induction ws generalizing s d with
  | nil => exact h.answer
  | cons w t ih => exact ih h.readEff
theorem Keeps.regRead (h : Keeps r s) {c at_ a} : Keeps r (s.regRead c at_ a) :=
  .ite h.read32 (.ite h.out.freed (.ite h.out (.ite h (.ite h.readWords h.narrowRead))))
theorem Keeps.regWrite (h : Keeps r s) {c at_ a} : Keeps r (s.regWrite c at_ a) := .ite h.narrowWrite (h.foldl (fun h => h.write32))
theorem Keeps.regAccess (h : Keeps r s) {c at_ a} : Keeps r (s.regAccess c at_ a) := .ite h.regWrite h.regRead
theorem Keeps.loadOut (h : Keeps r s) {m hartAddr a data} : Keeps r (s.loadOut m hartAddr a data) := Keeps.out (.ite h.flight h)
theorem Keeps.aliasRead (h : Keeps r s) {m a n} : Keeps r (s.aliasRead m a n) :=
  .ite h.out.freed (.ite h.out (.ite h ((h.foldl (fun h => h.aliasReadEff)).loadOut)))
theorem Keeps.aliasAccess (h : Keeps r s) {c a} : Keeps r (s.aliasAccess c a) :=
  .ite h.aliasRead (.ite (h.foldl (fun h => h.aliasWrite)) (.ite h (.ite h.errAt h.err)))
theorem Keeps.hartLoad (h : Keeps r s) {m x a o n} : Keeps r (s.hartLoad m x a o n) := .ite h.out.freed (Keeps.freed (.ite h.loadOut h.out))
theorem Keeps.coreAccess (h : Keeps r s) {k c} : Keeps r (s.coreAccess k c) := by
  unfold State.coreAccess
  split
  · exact h.busFault
  · exact .ite (.ite h.setBytes h.busFault) (.ite h.hartLoad h.busFault)
theorem Keeps.hartAccess (h : Keeps r s) {c} : Keeps r (s.hartAccess c) :=
  .ite h (.ite h.busFault (.ite h.regAccess (.ite h.aliasAccess h.coreAccess)))
theorem Keeps.access (h : Keeps r s) {c} : Keeps r (s.access c) := by
  unfold State.access
  split
  · exact .ite h.regAccess h
  · exact .ite h.aliasAccess h
  · exact .ite h.regAccess h
  · exact h.hartAccess
theorem Keeps.barWrite (h : Keeps r s) {m addr v} : Keeps r (s.barWrite m addr v) := .ite h.write32 h
theorem Keeps.slowEdge (h : Keeps r s) {page} : Keeps r (s.slowEdge page) := by
  unfold State.slowEdge
  exact .ite h h.update

/-! ### The clock -/

theorem Keeps.goodStep (h : Keeps r s) {k} : Keeps r (s.goodStep k) := .ite h h.modBoot
theorem Keeps.arbCount (h : Keeps r s) {k v i} : Keeps r (s.arbCount k v i) := h.arbCommit
theorem Keeps.arbGood (h : Keeps r s) {k} : Keeps r (s.arbGood k) := by
  unfold State.arbGood
  split
  · exact .ite h (by split; exacts [h.modBoot.arbCount, h])
  · exact h
theorem Keeps.goodBoots (h : Keeps r s) : Keeps r s.goodBoots := .ite h (h.arbNext.foldl (fun h => h.goodStep.arbGood))
theorem Keeps.romRequest (h : Keeps r s) : Keeps r s.romRequest :=
  .ite h (.ite h.modHarts.modBoot (Keeps.jdcTxWrite (.ite h.modHarts.modBoot.modBoot.lcReq h.modHarts.modBoot.modBoot)))
theorem Keeps.oscStep (h : Keeps r s) : Keeps r s.oscStep := .ite h.modCis h
theorem Keeps.tick (h : Keeps r s) : Keeps r s.tick := h.oscStep.update.wipPolls.romRequest.goodBoots

/-! ### Commands and steps -/

/-- Every command answers a next state, and keeps what a step keeps. -/
theorem exec_keeps (c : Instr) (s : State) : ∃ t, exec c s = .next t ∧ Keeps s t := by
  have h := Keeps.refl s
  cases c with
  | registerWrite => exact ⟨_, rfl, h.access⟩
  | postedWriteApply => exact ⟨_, rfl, .ite h.postedApply h⟩
  | pageLockWrite => exact ⟨_, rfl, h.headGuard (fun h => h.setLock)⟩
  | pageErrAck => exact ⟨_, rfl, h.headGuard (fun h => h.ackErr)⟩
  | counterLowRead => exact ⟨_, rfl, .ite h.read32 h⟩
  | wideRegLowWrite => exact ⟨_, rfl, h.barWrite⟩
  | wideRegHighWrite => exact ⟨_, rfl, h.barWrite⟩
  | updStrobe => exact ⟨_, rfl, h.guarded (fun h => h.strobe)⟩
  | slowStrobeApply => exact ⟨_, rfl, h.slowEdge⟩
  | updArm => exact ⟨_, rfl, h.guarded (fun h => h.updArm)⟩
  | updCancel => exact ⟨_, rfl, h.guarded (fun h => h.updCancel)⟩
  | updArmFire => exact ⟨_, rfl, .ite h.strobe.count.update h⟩
  | orderFenceRead => exact ⟨_, rfl, h.read32⟩
  | eventAck => exact ⟨_, rfl, h.guarded (fun h => h.ackEvt)⟩
  | evtForce => exact ⟨_, rfl, h.headGuard (fun h => h.force)⟩
  | semRead => exact ⟨_, rfl, h.read32⟩
  | semWrite => exact ⟨_, rfl, h.guarded (fun h => h.semWrite)⟩
  | broadcastWrite => exact ⟨_, rfl, h.barWrite⟩
  | bitAliasWrite => exact ⟨_, rfl, h.aliasWrite⟩
  | routeWrite => exact ⟨_, rfl, h.guarded (fun h => h.routeWrite)⟩
  | swEvt => exact ⟨_, rfl, h.guarded (fun h => h.swEvt)⟩
  | msixPendingSend => exact ⟨_, rfl, h.msixPending⟩
  | aonValid => exact ⟨_, rfl, .ite h h.modPwr.modCis.pfwLost⟩
  | aonLoss => exact ⟨_, rfl, .ite h.aonLoss h⟩
  | pwrOkRise => exact ⟨_, rfl, .ite h (.ite h.powerUpEnv h.modPwr)⟩
  | pwrOkLoss => exact ⟨_, rfl, .ite h (.ite h.powerLoss h.modPwr)⟩
  | deviceReset => exact ⟨_, rfl, .ite h h.resetGo⟩
  | wipeComplete => exact ⟨_, rfl, .ite h.wiped h⟩
  | romFetchDone =>
    refine ⟨_, rfl, ?_⟩
    split
    · exact h
    · exact .ite h (.ite h.romFallback h.romPush)
  | pushCtrlWrite => exact ⟨_, rfl, h.guarded (fun h => h.pushCtrl)⟩
  | bootStageWrite => exact ⟨_, rfl, h.guarded (fun h => h.bootStage)⟩
  | stageClaim => exact ⟨_, rfl, h.guarded (fun h => h.claim)⟩
  | stageDataAppend => exact ⟨_, rfl, h.guarded (fun h => h.stageData)⟩
  | releaseGo => exact ⟨_, rfl, h.guarded (fun h => h.relGo)⟩
  | releaseCheckDone => exact ⟨_, rfl, .ite h.permEnd.relCheckEnd h⟩
  | releaseAbandon => exact ⟨_, rfl, h.guarded (fun h => h.relAbandon)⟩
  | runtimeReleaseComplete => exact ⟨_, rfl, .ite (.ite h.rtRelease h.relRefuse) h⟩
  | holdReqWrite => exact ⟨_, rfl, h.guarded (fun h => h.holdReq)⟩
  | holdUnforce => exact ⟨_, rfl, h.guarded (fun h => h.unforce)⟩
  | holdNDeassert => exact ⟨_, rfl, .ite h.deassert h⟩
  | holdNReassert =>
    refine ⟨_, rfl, ?_⟩
    split
    · exact .ite h.holdAssert h
    · exact h
  | seqGo => exact ⟨_, rfl, h.guarded (fun h => h.seqGo)⟩
  | seqSkip => exact ⟨_, rfl, h.guarded (fun h => h.seqSkip)⟩
  | seqStop => exact ⟨_, rfl, h.guarded (fun h => h.seqIdle)⟩
  | seqSlotComplete => exact ⟨_, rfl, .ite h (.ite h.seqAt (.ite h.slotDone h))⟩
  | seqStall => exact ⟨_, rfl, .ite h.modPrst.count h⟩
  | pgoodChange => exact ⟨_, rfl, .ite h (.ite h.modPrst.count h.modPrst)⟩
  | masterCommand => exact ⟨_, rfl, h.onCs (fun h => h.masterCmd)⟩
  | readJedecId => exact ⟨_, rfl, h.onCs (fun h => h.accept.readId)⟩
  | readSfdp => exact ⟨_, rfl, h.onCs (fun h => h.accept.readSfdp)⟩
  | masterCsDeassert =>
    refine ⟨_, rfl, ?_⟩
    split
    · exact h.modPort.csEnd
    · exact h.modPort
  | dqsTimeout =>
    refine ⟨_, rfl, ?_⟩
    split
    · split
      · exact ((Keeps.portErr (.ite h.portErr h)).lateData).modPort
      · exact h
    · exact h
  | leaseWrite => exact ⟨_, rfl, h.guarded (fun h => h.leaseWrite)⟩
  | leaseGrant => exact ⟨_, rfl, .ite h.modPort.eraseRun h⟩
  | leaseEnd => exact ⟨_, rfl, .ite h.modPort h⟩
  | mrstEdge => exact ⟨_, rfl, .ite h.mrst h⟩
  | mrstDeferredPulse => exact ⟨_, rfl, .ite h.modPort.out.devCmds.devCmds h⟩
  | discover => exact ⟨_, rfl, h.guarded (fun h => h.discover)⟩
  | discoveryDone => exact ⟨_, rfl, .ite h.discDone h⟩
  | sfdpWinRead => exact ⟨_, rfl, h.read32⟩
  | phyCal => exact ⟨_, rfl, h.guarded (fun h => h.phyCal)⟩
  | phyCalDone => exact ⟨_, rfl, .ite h.calDone h⟩
  | portPendingApply => exact ⟨_, rfl, .ite h.portPending h⟩
  | bankFault => exact ⟨_, rfl, .ite h.bankTo h⟩
  | ctWrite => exact ⟨_, rfl, h.guarded (fun h => h.ctWrite)⟩
  | ctRead => exact ⟨_, rfl, h.guarded (fun h => h.ctRead)⟩
  | ctSwap => exact ⟨_, rfl, h.guarded (fun h => h.ctSwapReq)⟩
  | ctClear => exact ⟨_, rfl, h.guarded (fun h => h.ctClear)⟩
  | rtWrite => exact ⟨_, rfl, h.guarded (fun h => h.rtWrite)⟩
  | rtRead => exact ⟨_, rfl, h.guarded (fun h => h.rtRead)⟩
  | rtSwap => exact ⟨_, rfl, h.guarded (fun h => h.rtSwapReq)⟩
  | rtSwapAll => exact ⟨_, rfl, h.guarded (fun h => h.swapAllReq)⟩
  | rtClear => exact ⟨_, rfl, h.guarded (fun h => h.rtClear)⟩
  | tableSwapApply => exact ⟨_, rfl, .ite (.ite h.modPort.wakeScrub h.modPort) h⟩
  | wqApply => exact ⟨_, rfl, h.guarded (fun h => h.wqApply)⟩
  | wqDiscard => exact ⟨_, rfl, h.guarded (fun h => h.wqDiscard)⟩
  | wqRetire => exact ⟨_, rfl, h.guarded (fun h => h.wqRetire)⟩
  | wqFence => exact ⟨_, rfl, h.guarded (fun h => h.wqFence)⟩
  | wqEntryStart => exact ⟨_, rfl, .ite h.wqStart h⟩
  | wqEntryDone => exact ⟨_, rfl, .ite (Keeps.resetDue (.ite h.sendFailClr.wqFinish h.wqFinish)) h⟩
  | wqEntryTimeout => exact ⟨_, rfl, .ite h.wqFinish.portErr.resetDue h⟩
  | fullcheck => exact ⟨_, rfl, h.guarded (fun h => h.fullStart)⟩
  | verResume => exact ⟨_, rfl, h.guarded (fun h => h.verResume)⟩
  | scrubRestart => exact ⟨_, rfl, h.guarded (fun h => h.scrubRestart)⟩
  | substSetCmd => exact ⟨_, rfl, h.guarded (fun h => h.substCtrl)⟩
  | substClearCmd => exact ⟨_, rfl, h.guarded (fun h => h.substCtrl)⟩
  | bindWrite => exact ⟨_, rfl, h.guarded (fun h => h.bindWrite)⟩
  | bindRead => exact ⟨_, rfl, h.guarded (fun h => h.bindRead)⟩
  | bindLoad => exact ⟨_, rfl, h.guarded (fun h => h.bindLoad)⟩
  | bindConfirm => exact ⟨_, rfl, h.guarded (fun h => h.bindConfirm)⟩
  | bindUnbind => exact ⟨_, rfl, h.guarded (fun h => h.bindUnbind)⟩
  | treeNodeRead => exact ⟨_, rfl, .ite h.treeNode.devSettle h⟩
  | demandNodeRead => exact ⟨_, rfl, .ite h.demandRead h⟩
  | treeNodeUe => exact ⟨_, rfl, h.nodeUe⟩
  | stitchTimeout =>
    refine ⟨_, rfl, ?_⟩
    split
    · exact .ite h.stitchBreak h
    · exact h
  | fetchCheckDone => exact ⟨_, rfl, h.checkDone⟩
  | pwWrite => exact ⟨_, rfl, h.guarded (fun h => h.pwWrite)⟩
  | pwRead => exact ⟨_, rfl, h.guarded (fun h => h.pwRead)⟩
  | pwLoad => exact ⟨_, rfl, h.guarded (fun h => h.pwLoad)⟩
  | pwUnload => exact ⟨_, rfl, h.guarded (fun h => h.pwUnload)⟩
  | windowBlockRead => exact ⟨_, rfl, h.winRead⟩
  | windowStateApply => exact ⟨_, rfl, .ite h.winApply h⟩
  | scrubBlockRead => exact ⟨_, rfl, h.scrubRead⟩
  | fullcheckBlockRead => exact ⟨_, rfl, h.fullRead⟩
  | covReset => exact ⟨_, rfl, h.guarded (fun h => h.covReset)⟩
  | digestJob => exact ⟨_, rfl, .ite h (h.job (fun h => h.digAccept))⟩
  | digestDiscard => exact ⟨_, rfl, .ite (h.job (fun h => h.digDiscard)) h⟩
  | digestJobStart => exact ⟨_, rfl, h.laneStart⟩
  | lanePreempt => exact ⟨_, rfl, h.lanePreempt⟩
  | digestJobDone =>
    refine ⟨_, rfl, ?_⟩
    split
    · exact h
    · split
      · exact h.setLane.laneAbsorb
      · exact h.macEnd
      · exact .ite h.rangeEnd h
      · exact .ite h.jobEnd h
  | contextSramUe => exact ⟨_, rfl, .ite h.ctxUe.relRefuse h.ctxUe⟩
  | zcPulse => exact ⟨_, rfl, .ite h.zcPulse h⟩
  | zcBPulse => exact ⟨_, rfl, .ite h.zcBPulse h⟩
  | halfCycleMissing => exact ⟨_, rfl, .ite h.halfMissing h⟩
  | lineLostTimeout => exact ⟨_, rfl, .ite h.modCis.lineTo h⟩
  | dcFeedEntry => exact ⟨_, rfl, .ite h.lineTo h⟩
  | pfWarnAssert => exact ⟨_, rfl, .ite h.pfWarn h.modCis⟩
  | pfWarnDeassert => exact ⟨_, rfl, .ite h.modCis.modPwr h⟩
  | holdupModeExit => exact ⟨_, rfl, .ite h.modPwr.linkSeek h⟩
  | eraWrap => exact ⟨_, rfl, .ite h.hcWrap h⟩
  | holdupEstimate => exact ⟨_, rfl, .ite h.sample h⟩
  | posSeedWrite => exact ⟨_, rfl, h.guarded (fun h => h.posSeed)⟩
  | seedApply => exact ⟨_, rfl, .ite h.hcWrap h⟩
  | commitSubmit => exact ⟨_, rfl, h.guarded (fun h => h.commitSubmit)⟩
  | commitWithdraw => exact ⟨_, rfl, h.guarded (fun h => h.commitWithdraw)⟩
  | commitAdmit => exact ⟨_, rfl, .ite (by split; exacts [h.admitSlot, h]) h⟩
  | commitEnd =>
    refine ⟨_, rfl, ?_⟩
    split
    · exact h
    · exact Keeps.resetDue (by split; exacts [h.commitEnds, h.commitFails])
  | commitFlashTimeout =>
    refine ⟨_, rfl, ?_⟩
    split
    · exact h
    · exact h.commitLate.resetDue
  | commitTimeout => exact ⟨_, rfl, .ite h.defer h⟩
  | timerArm => exact ⟨_, rfl, h.guarded (fun h => h.tmrCtrl)⟩
  | timerCancel => exact ⟨_, rfl, h.guarded (fun h => h.timersCancel)⟩
  | lineTimerFire => exact ⟨_, rfl, .ite h.timerFire h⟩
  | lcReq => exact ⟨_, rfl, h.guarded (fun h => h.when (fun h => h.lcReq))⟩
  | lcCellarWipeDone => exact ⟨_, rfl, h.lcWiped.resetDue⟩
  | dbgGrant => exact ⟨_, rfl, h.guarded (fun h => h.when (fun h => h.dbgGrant))⟩
  | nonceRefresh => exact ⟨_, rfl, h.guarded (fun h => h.newNonce)⟩
  | memtestEnter => exact ⟨_, rfl, h.guarded (fun h => h.memtest)⟩
  | kduDerive => exact ⟨_, rfl, h.kduTrig (fun h => h.kduDerive)⟩
  | kduDiscard => exact ⟨_, rfl, h.kduTrig (fun h => h.kduDiscard)⟩
  | kduRootGen => exact ⟨_, rfl, h.kduTrig (fun h => h.rootGen)⟩
  | kduRootClass => exact ⟨_, rfl, h.kduTrig (fun h => .ite h.rootClass h.refuse)⟩
  | bbramErase => exact ⟨_, rfl, h.kduTrig (fun h => h.bbramErase)⟩
  | kduCloseSecret => exact ⟨_, rfl, h.guarded (fun h => h.closeSecret)⟩
  | kduLockCdi => exact ⟨_, rfl, h.guarded (fun h => h.lockCdi)⟩
  | keyGenerate => exact ⟨_, rfl, h.job (fun h => h.celJob (fun h => h.keyGenerate))⟩
  | keyLoad => exact ⟨_, rfl, h.job (fun h => h.celJob (fun h => h.keyLoad))⟩
  | keyWrap => exact ⟨_, rfl, h.job (fun h => h.keyJoin)⟩
  | keyUnload => exact ⟨_, rfl, h.job (fun h => h.keyJoin)⟩
  | keyQuery => exact ⟨_, rfl, h.job (fun h => h.keyJoin)⟩
  | keyDerive => exact ⟨_, rfl, h.job (fun h => h.celJob (fun h => h.keyDerive))⟩
  | keyReserve => exact ⟨_, rfl, h.job (fun h => h.celJob (fun h => h.keyReserve))⟩
  | keyImport => exact ⟨_, rfl, .ite h (h.job (fun h => h.celJob (fun h => h.keyImport)))⟩
  | aesSeal => exact ⟨_, rfl, h.job (fun h => h.celJob (fun h => h.aesSeal))⟩
  | aesOpen => exact ⟨_, rfl, h.job (fun h => h.celJob (fun h => h.aesOpen))⟩
  | pkSign => exact ⟨_, rfl, h.job (fun h => h.celJob (fun h => h.pkSign))⟩
  | pkVerify => exact ⟨_, rfl, h.job (fun h => h.celJob (fun h => h.pkVerify))⟩
  | keyExchange => exact ⟨_, rfl, h.job (fun h => h.celJob (fun h => h.keyExchange))⟩
  | keyEncaps => exact ⟨_, rfl, h.job (fun h => h.celJob (fun h => h.keyEncaps))⟩
  | proof => exact ⟨_, rfl, h.job (fun h => h.celJob (fun h => h.proof))⟩
  | blobEpochAdvance => exact ⟨_, rfl, .ite h (h.job (fun h => h.celJob (fun h => h.blobAdvance)))⟩
  | cellarOpDone =>
    refine ⟨_, rfl, ?_⟩
    split
    · exact h
    · exact .ite h.update.celEnd.keyGo h
  | cellarSramUe => exact ⟨_, rfl, h.celUe⟩
  | measExtend => exact ⟨_, rfl, h.job (fun h => h.measExtend)⟩
  | measRead => exact ⟨_, rfl, h.job (fun h => h.measRead)⟩
  | measScan => exact ⟨_, rfl, h.job (fun h => h.measScan)⟩
  | measDefine => exact ⟨_, rfl, h.job (fun h => h.measDefine)⟩
  | extendApply => exact ⟨_, rfl, h.extendNext⟩
  | scanStart => exact ⟨_, rfl, h.scanStart⟩
  | scanComplete =>
    refine ⟨_, rfl, ?_⟩
    split
    · exact h
    · exact .ite h h.update.scanDone
  | spdmGetVersion => exact ⟨_, rfl, h.spdm1 (fun h => h.aVersion)⟩
  | spdmGetCapabilities => exact ⟨_, rfl, h.spdm1 (fun h => h.aCaps)⟩
  | spdmNegotiateAlgorithms => exact ⟨_, rfl, h.spdm1 (fun h => h.aAlgs)⟩
  | spdmGetDigests => exact ⟨_, rfl, h.spdm1 (fun h => h.aDigests)⟩
  | spdmGetCertificate => exact ⟨_, rfl, h.spdm1 (fun h => h.aCert)⟩
  | spdmChallenge => exact ⟨_, rfl, h.spdm1 (fun h => h.aChallenge)⟩
  | spdmGetMeasurements => exact ⟨_, rfl, h.spdm1 (fun h => h.aMeas)⟩
  | spdmKeyExchange => exact ⟨_, rfl, h.spdm1 (fun h => h.aKeyEx)⟩
  | spdmFinish => exact ⟨_, rfl, h.spdm1 (fun h => h.aFinish)⟩
  | spdmKeyUpdate => exact ⟨_, rfl, h.spdm1 (fun h => h.aKeyUpdate)⟩
  | spdmEndSession => exact ⟨_, rfl, h.spdm1 (fun h => h.aEnd)⟩
  | spdmHeartbeat => exact ⟨_, rfl, h.spdm1 (fun h => h.aHeartbeat)⟩
  | spdmChunkSend => exact ⟨_, rfl, h.spdm1 (fun h => h.aChunkSend)⟩
  | spdmChunkGet => exact ⟨_, rfl, h.spdm1 (fun h => h.aChunkGet)⟩
  | spdmPqSig => exact ⟨_, rfl, h.spdm1 (fun h => h.aPqSig)⟩
  | spdmPqChain => exact ⟨_, rfl, h.spdm1 (fun h => h.aPqChain)⟩
  | spdmUnsupported => exact ⟨_, rfl, h.spdm1 (fun h => h.aUnsupported)⟩
  | linkUp => exact ⟨_, rfl, .ite h.linkUp h⟩
  | linkDown => exact ⟨_, rfl, h.linkDown⟩
  | linkRetrain => exact ⟨_, rfl, h.guarded (fun h => h.retrain)⟩
  | vfFlr => exact ⟨_, rfl, .ite h.vfReset.modHq.count h⟩
  | vfDisable => exact ⟨_, rfl, .ite h.vfsGone.count h⟩
  | pf0Flr => exact ⟨_, rfl, .ite h.pfFlr h⟩
  | flrComplete => exact ⟨_, rfl, h.modHq⟩
  | funcPowerChange => exact ⟨_, rfl, .ite h (Keeps.stallGo (.ite h.setFn h.setFn.modHq))⟩
  | ideKeyInstall => exact ⟨_, rfl, .ite h.modHq h⟩
  | ideIntegrityFail => exact ⟨_, rfl, .ite h.modHq.count h⟩
  | doeWrite => exact ⟨_, rfl, .ite h (.ite h.modDoe h.setBytes.modDoe)⟩
  | doeGo => exact ⟨_, rfl, .ite h (.ite h.modDoe h.doeObject)⟩
  | doeAbort => exact ⟨_, rfl, .ite h h.modDoe⟩
  | doeSend => exact ⟨_, rfl, h.guarded (fun h => h.doeSend)⟩
  | doeFail => exact ⟨_, rfl, h.guarded (fun h => h.doeFail)⟩
  | queueEnable => exact ⟨_, rfl, h.guarded (fun h => h.qEnable)⟩
  | queueDisable => exact ⟨_, rfl, h.guarded (fun h => h.qDisable)⟩
  | queueDrained => exact ⟨_, rfl, .ite h.setQueue h⟩
  | sqDoorbell => exact ⟨_, rfl, h.guarded (fun h => h.qTail)⟩
  | cqHeadWrite => exact ⟨_, rfl, h.guarded (fun h => h.qHead)⟩
  | descriptorFetch => exact ⟨_, rfl, .ite h (by split; exacts [h.fetched, h.qError])⟩
  | descriptorStart =>
    refine ⟨_, rfl, ?_⟩
    split
    · exact .ite h.qStart h
    · exact h
  | nop => exact ⟨_, rfl, h.job (fun h => h.complete)⟩
  | mctpRequest => exact ⟨_, rfl, .ite h.mctp h⟩
  | hostNegotiate => exact ⟨_, rfl, h.job (fun h => h.negotiate)⟩
  | getEpoch => exact ⟨_, rfl, h.job (fun h => h.getEpoch)⟩
  | issuerList => exact ⟨_, rfl, h.job (fun h => h.listIssuers)⟩
  | envelope => exact ⟨_, rfl, h.job (fun h => h.envelope)⟩
  | envelopeEpochTimeout =>
    refine ⟨_, rfl, ?_⟩
    split
    · exact .ite h.modCmd.envReply.envRun h
    · exact h
  | issuerBootstrap => exact ⟨_, rfl, h.job (fun h => h.bootstrap)⟩
  | cmdLcTransition => exact ⟨_, rfl, h.command (fun h => h.cmdLc)⟩
  | cmdDebugGrant => exact ⟨_, rfl, h.command (fun h => h.cmdDbg)⟩
  | cmdKeyImport => exact ⟨_, rfl, h.command (fun h => h.cmdImport)⟩
  | cmdPolicySet => exact ⟨_, rfl, h.command (fun h => h.cmdPolicy)⟩
  | cmdImageActivate => exact ⟨_, rfl, h.command (fun h => h.cmdActivate)⟩
  | cmdRevoke => exact ⟨_, rfl, h.command (fun h => h.cmdRevoke)⟩
  | cmdBlobEpochAdvance => exact ⟨_, rfl, h.command (fun h => h.cmdBlob)⟩
  | cmdEpochAdvance => exact ⟨_, rfl, h.command (fun h => h.cmdEpoch)⟩
  | cmdIssuerRegister => exact ⟨_, rfl, h.command (fun h => h.cmdRegister)⟩
  | cmdIssuerRemove => exact ⟨_, rfl, h.command (fun h => h.cmdRemove)⟩
  | hartReset => exact ⟨_, rfl, h.guarded (fun h => h.hartCtrlReset)⟩
  | hartWake => exact ⟨_, rfl, h.guarded (fun h => h.hartWake)⟩
  | hartWfi => exact ⟨_, rfl, .ite h (.ite h.setHart h.setHart.setHart)⟩
  | hartGate => exact ⟨_, rfl, .ite h.setHart h⟩
  | hartAccessFault => exact ⟨_, rfl, .ite h.busFault h⟩
  | lockstepMismatch => exact ⟨_, rfl, .ite h h.lockstep⟩
  | ringEnable => exact ⟨_, rfl, h.guarded (fun h => h.qEnable)⟩
  | ringDisable => exact ⟨_, rfl, h.guarded (fun h => h.qDisable)⟩
  | ringDoorbell => exact ⟨_, rfl, .ite h.ringTail h⟩
  | ringCqHead => exact ⟨_, rfl, .ite h.ringHead h⟩
  | dbgHalt => exact ⟨_, rfl, h.guarded (fun h => h.dbgCtrl (fun h => h.dbgHalt1))⟩
  | dbgResume => exact ⟨_, rfl, h.guarded (fun h => h.dbgCtrl (fun h => h.dbgResume1))⟩
  | jdcTxWrite => exact ⟨_, rfl, h.guarded (fun h => h.jdcTxWrite)⟩
  | jdcRxWrite => exact ⟨_, rfl, h.guarded (fun h => h.jdcRxWrite)⟩
  | jdcTxRead => exact ⟨_, rfl, h.read32⟩
  | jdcRxRead => exact ⟨_, rfl, h.read32⟩
  | btEntryWrite => exact ⟨_, rfl, h.guarded (fun h => h.btWrite)⟩
  | chSend => exact ⟨_, rfl, h.guarded (fun h => h.chSend)⟩
  | chTake => exact ⟨_, rfl, h.guarded (fun h => h.chTake)⟩
  | chTimeout => exact ⟨_, rfl, .ite h.setChan.notice h⟩
  | i3cAgentReset => exact ⟨_, rfl, h.masterReset.cmdReset.stageReset⟩
  | jtagDisconnect => exact ⟨_, rfl, h.modHarts.masterReset.stageReset⟩
  | cvnCfgWrite => exact ⟨_, rfl, h.guarded (fun h => h.cvnCfg)⟩
  | cvnBlockLock => exact ⟨_, rfl, .ite h.linkLeave.modLink.handshake h⟩
  | cvnHelloRx => exact ⟨_, rfl, h.helloRx⟩
  | cvnConfirmRx => exact ⟨_, rfl, h.confirmRx⟩
  | cvnHandshakeTimeout => exact ⟨_, rfl, .ite h.linkFail h⟩
  | cvnPortRestart => exact ⟨_, rfl, h.guarded (fun h => h.foldl (fun h => .ite h.linkRestart h))⟩
  | cvnPortDown => exact ⟨_, rfl, .ite h.modLink h.modLink.linkLeave⟩
  | cvnTrain => exact ⟨_, rfl, h.guarded (fun h => h.train)⟩
  | cvnTrainRx => exact ⟨_, rfl, .ite (h.cvnIn (fun h => h.trainRx)) h⟩
  | cvnSweepRx => exact ⟨_, rfl, .ite (h.cvnIn (fun h => h.sweepRx)) h⟩
  | sweepLostTimeout => exact ⟨_, rfl, .ite h.sweepEnd h⟩
  | sweepMissedCheck =>
    refine ⟨_, rfl, ?_⟩
    split
    · exact .ite h h.modCvn.count
    · exact h
  | cvnNoticeRx => exact ⟨_, rfl, .ite (h.cvnIn (fun h => h.nrRx)) h⟩
  | cvnRecoverRx => exact ⟨_, rfl, .ite (h.cvnIn (fun h => h.nrRx)) h⟩
  | cvnForward => exact ⟨_, rfl, h.guarded (fun h => h.forward)⟩
  | cvnDrop => exact ⟨_, rfl, h.guarded (fun h => h.rxDrop)⟩
  | cvnSendNotice => exact ⟨_, rfl, h.guarded (fun h => h.sendNotice)⟩
  | cvnSendRecover => exact ⟨_, rfl, h.guarded (fun h => h.sendRecover)⟩
  | cvnTimeSend => exact ⟨_, rfl, .ite h.modCvn.timeSend h⟩
  | cvnTimeRx => exact ⟨_, rfl, .ite (h.cvnIn (fun h => h.timeRx)) h⟩
  | cvnTimeCal => exact ⟨_, rfl, h.guarded (fun h => h.timeCal)⟩
  | cvnCreditRx => exact ⟨_, rfl, .ite (h.cvnIn (fun h => h)) h⟩
  | cvnCreditSend => exact ⟨_, rfl, .ite h.xmit h⟩
  | excDataRead => exact ⟨_, rfl, h.read32⟩
  | tkMacVerify => exact ⟨_, rfl, h.job (fun h => h.tkReceive)⟩
  | tkMacGenerate => exact ⟨_, rfl, h.job (fun h => h.tkReceive)⟩
  | tkPinTranslate => exact ⟨_, rfl, h.job (fun h => h.tkReceive)⟩
  | tkIkDerive => exact ⟨_, rfl, h.job (fun h => h.tkReceive)⟩
  | tkState => exact ⟨_, rfl, h.job (fun h => h.tkReceive)⟩
  | tksJobStart => exact ⟨_, rfl, h.tkJobStart⟩
  | tksJobDone => exact ⟨_, rfl, h.tkJobDone⟩
  | tksPipeFault => exact ⟨_, rfl, h.tkPipeFault⟩
  | sensorTrip => exact ⟨_, rfl, .ite (.ite h h.batteryStart) (.ite h.trip h)⟩
  | thermContainLift => exact ⟨_, rfl, h.modTamp⟩
  | vbatLow => exact ⟨_, rfl, .ite h.count h⟩
  | vbatMissing => exact ⟨_, rfl, .ite (Keeps.modTamp (.ite h.count h)) h⟩
  | batteryDomainStart => exact ⟨_, rfl, .ite h h.batteryStart⟩
  | loopArmWrite => exact ⟨_, rfl, h.guarded (fun h => h.loopArm)⟩
  | pwrReqStandby => exact ⟨_, rfl, h.guarded (fun h => h.pwrReq)⟩
  | pwrReqRetain => exact ⟨_, rfl, h.guarded (fun h => h.pwrReq)⟩
  | pwrReqActive => exact ⟨_, rfl, h.guarded (fun h => h.pwrReq)⟩
  | standbyEntryDone => exact ⟨_, rfl, .ite h.tkStandby.pwrDone h⟩
  | activeReturnDone => exact ⟨_, rfl, .ite h.pwrDone.linkSeek h⟩
  | retainEntryDone => exact ⟨_, rfl, .ite h.tkStandby.coreOff h⟩
  | wakeNEdge => exact ⟨_, rfl, h.wake⟩
  | gpPinEdge => exact ⟨_, rfl, .ite h (.ite h.modPrst h.modPrst.wdogEdge.gpWake)⟩
  | perstAssert => exact ⟨_, rfl, h.linkDown⟩
  | perstDeassert => exact ⟨_, rfl, h.wake⟩
  | wakeTimeout => exact ⟨_, rfl, .ite h.modPwr h⟩
  | watchdogExpire => exact ⟨_, rfl, .ite h.wdogExpire h⟩
  | recoverHold => exact ⟨_, rfl, .ite h.recoverHold h⟩
  | recoverSubstitute => exact ⟨_, rfl, .ite h.recoverSubst h⟩
  | recoverRestore => exact ⟨_, rfl, .ite h.recoverRestore h⟩
  | recoverReport => exact ⟨_, rfl, .ite h.sendRecover1 h⟩
  | drbgReseed => exact ⟨_, rfl, .ite h.reseed h⟩
  | checkpointWrite => exact ⟨_, rfl, .ite h.modFlr (h.guarded (fun h => h.checkpoint))⟩
  | exportStartDma => exact ⟨_, rfl, h.guarded (fun h => h.expGo)⟩
  | exportStartWin => exact ⟨_, rfl, h.guarded (fun h => h.expGo)⟩
  | exportAbort => exact ⟨_, rfl, h.guarded (fun h => h.expAbort)⟩
  | exportDataRead => exact ⟨_, rfl, h.read32⟩
  | exportDone => exact ⟨_, rfl, .ite h.expDma h⟩
  | replayEnter => exact ⟨_, rfl, h.guarded (fun h => h.replayGo)⟩
  | replayDiverge => exact ⟨_, rfl, .ite h.replayStop.modFlr.freed.count h⟩
  | replayEnd => exact ⟨_, rfl, .ite h.replayStop h⟩
  | halfCycleBoundary => exact ⟨_, rfl, .ite h.hcWrap h⟩
  | bankVoltageReturn => exact ⟨_, rfl, .ite h.bankTo h⟩
  | vbatReturn => exact ⟨_, rfl, h.modTamp⟩
  | mainRoadStartAfterCoreEn => exact ⟨_, rfl, .ite h.freed.powerUpEnv h⟩
  | jtagConnect => exact ⟨_, rfl, h.modHarts⟩
  | sramCorrectedError => exact ⟨_, rfl, h.sysEvent⟩
  | pllUnlock => exact ⟨_, rfl, h.sysEvent⟩
  | refclkLoss => exact ⟨_, rfl, h.sysEvent⟩
  | fabricTimeout => exact ⟨_, rfl, h.sysEvent⟩
  | aerErr =>
    refine ⟨_, rfl, ?_⟩
    split
    · exact h.modHq
    · exact h.modHq
    · exact h.count

/-- A step answers a next state with the tail of the queue, and keeps the fuse bits that read 1 and the canonical form of the stores. -/
theorem step_keeps (s : State) : ∃ t, step s = .next t ∧ Keeps { s with pending := s.pending.tail } t := by
  unfold step
  split
  · next hp =>
    rw [hp]
    exact ⟨_, rfl, .tick (s := s) ⟨hp, fun _ => BitVec.and_self, id⟩⟩
  · next c rest hp =>
    rw [hp]
    exact exec_keeps c _

/-- Settles O57, by `step_keeps`: every command answers a next state (`exec_keeps`) and none touches the queue. -/
theorem theBlockNeverStopsAndKeepsItsQueueInOrder : Obligations.TheBlockNeverStopsAndKeepsItsQueueInOrder := fun s =>
  (step_keeps s).imp fun _ h => ⟨h.1, h.2.pending⟩

/-- Settles O58, by `step_keeps`: the one operation that writes fuses ORs bits in (`Keeps.setFuse_or`). -/
theorem fusesOnlyGainOnes : Obligations.FusesOnlyGainOnes := fun s t h i => by
  obtain ⟨u, hu, hk⟩ := step_keeps s
  obtain rfl : u = t := Host.Outcome.next.inj (hu.symm.trans h)
  exact hk.fuses i

/-- Settles O59, by `step_keeps`: every write of the four stores is a canonical one (`SMap.wf_set`) or drops entries (`wf_filter`). -/
theorem everyStepKeepsTheStoresCanonical : Obligations.EveryStepKeepsTheStoresCanonical := fun s t hc h => by
  obtain ⟨u, hu, hk⟩ := step_keeps s
  obtain rfl : u = t := Host.Outcome.next.inj (hu.symm.trans h)
  exact hk.canonical hc

end Sys2Proof.Machine
end

section
/-! PROOFS. The queue, the passing of time and the state after reset: what a step runs, what an empty queue does (R304, R602), and the state that
reset leaves (R14, R27, R106, R138). -/
namespace Sys2Proof.Machine

/-- Settles O55: it is what `step` does on a queue that is not empty. -/
theorem aStepRunsTheFrontCommand : Obligations.AStepRunsTheFrontCommand :=
  fun _ _ _ => rfl

/-! ### What the block does by itself leaves the clocks alone -/

/-- The clocks of `s` and `t` show the same: the block's own, the oscillator's phase and BAT_TIME (R304, R602). -/
def State.sameTimes (s t : State) : Prop := t.clk = s.clk ∧ t.cis.ph = s.cis.ph ∧ t.tamp.batTime = s.tamp.batTime

theorem sameTimes_refl (s : State) : s.sameTimes s := ⟨rfl, rfl, rfl⟩

section
variable {r s : State}

theorem sameTimes_trans {t : State} (hrs : r.sameTimes s) (hst : s.sameTimes t) : r.sameTimes t := by
  obtain ⟨hclk, hph, hbat⟩ := hst
  obtain ⟨hclk', hph', hbat'⟩ := hrs
  exact ⟨hclk.trans hclk', hph.trans hph', hbat.trans hbat'⟩

/-- An operation that changes neither the Cistern nor the tamper block nor the clock keeps the clocks. -/
theorem sameTimes_of_frame {t : State} (h : r.sameTimes s) (hclk : t.clk = s.clk) (hcis : t.cis = s.cis) (htamp : t.tamp = s.tamp) :
    r.sameTimes t :=
  sameTimes_trans h ⟨hclk, congrArg CisState.ph hcis, congrArg TampState.batTime htamp⟩

theorem sameTimes_setReg (h : r.sameTimes s) (a : Nat) (v : Word) : r.sameTimes (s.setReg a v) := sameTimes_of_frame h rfl rfl rfl
theorem sameTimes_setTransit (h : r.sameTimes s) (x : Option (LcState × LcStep)) : r.sameTimes (s.setTransit x) :=
  sameTimes_of_frame h rfl rfl rfl
theorem sameTimes_modBoot (h : r.sameTimes s) (f : BootState → BootState) : r.sameTimes (s.modBoot f) := sameTimes_of_frame h rfl rfl rfl
theorem sameTimes_modHarts (h : r.sameTimes s) (f : HartsState → HartsState) : r.sameTimes (s.modHarts f) := sameTimes_of_frame h rfl rfl rfl
theorem sameTimes_newNonce (h : r.sameTimes s) : r.sameTimes s.newNonce := sameTimes_of_frame h rfl rfl rfl
theorem sameTimes_lcReset (h : r.sameTimes s) (t : LcState) : r.sameTimes (s.lcReset t) := sameTimes_of_frame h rfl rfl rfl
theorem sameTimes_lcResult (h : r.sameTimes s) (st : Status) (t : Nat) : r.sameTimes (s.lcResult st t) := sameTimes_of_frame h rfl rfl rfl
theorem sameTimes_count (h : r.sameTimes s) (k : Nat) : r.sameTimes (s.count k) := sameTimes_of_frame h (by simp) (by simp) (by simp)
theorem sameTimes_refuse (h : r.sameTimes s) (m : Master) (a : Nat) : r.sameTimes (s.refuse m a) :=
  sameTimes_of_frame h (by simp) (by simp) (by simp)
theorem sameTimes_wipPolls (h : r.sameTimes s) : r.sameTimes s.wipPolls := sameTimes_of_frame h (by simp) (by simp) (by simp)

/-- An entry of the Cistern's queue takes its order from it and leaves the phase (R320). -/
theorem sameTimes_enqueue (h : r.sameTimes s) (i cls timeout : Nat) (what : CommitWhat) : r.sameTimes (s.enqueue i cls timeout what) :=
  sameTimes_trans h (sameTimes_refl s)

theorem sameTimes_foldl {α : Type} (f : State → α → State) (hf : ∀ (s : State) (x : α), s.sameTimes (f s x)) (l : List α) (h : r.sameTimes s) :
    r.sameTimes (l.foldl f s) :=
  List.foldlRecOn (motive := r.sameTimes) l f h fun t ht x _ => sameTimes_trans ht (hf t x)

/-! ### Requests through the JTAG data channel -/

/-- A transition goes as far as its first commit or its reset (R352). -/
theorem sameTimes_lcGo (t : LcState) (n : Nat) : ∀ (st : LcStep) (s : State), r.sameTimes s → r.sameTimes (s.lcGo t st n) := by
  induction n with
  | zero => exact fun _ _ h => h
  | succ n ih =>
    intro st s h
    have hcopy : ∀ (st next : LcStep) (k timeout : Nat), r.sameTimes (if s.lcCopy k = t.fuseCode then s.lcGo t next n
        else (s.setTransit (some (t, st))).enqueue 16 0 timeout (.lcf (.lcCopy k t))) := by
      intro st next k timeout
      split_ifs
      · exact ih _ _ h
      · exact sameTimes_enqueue (sameTimes_setTransit h _) _ _ _ _
    cases st with
    | copyA => rw [State.lcGo]; exact hcopy _ _ 0 0
    | copyB => rw [State.lcGo]; exact hcopy _ _ 1 0xFFFF
    | copyC => rw [State.lcGo]; exact hcopy _ _ 2 0xFFFF
    | scrapFields k =>
      rw [State.lcGo]
      by_cases hscrap : t ≠ .scrap
      · rw [if_pos hscrap]
        exact ih _ _ h
      · rw [if_neg hscrap]
        have hbanks : r.sameTimes (if k = 0 then { s with cel := { s.cel with bank0 := [], bank1 := [], active := none } } else s) := by
          split_ifs <;> exact h
        revert hbanks
        generalize (if k = 0 then _ else s) = cleared
        intro hbanks
        dsimp only
        split
        · exact ih _ _ hbanks
        · exact sameTimes_enqueue (sameTimes_setTransit hbanks _) _ _ _ _
    | cellarWipe => exact sameTimes_setTransit h _
    | epochs banks =>
      cases banks with
      | nil => exact sameTimes_lcReset h t
      | cons b rest => exact sameTimes_enqueue (sameTimes_setTransit h _) _ _ _ _
    | resetDue => exact sameTimes_lcReset h t

theorem sameTimes_lcReq (h : r.sameTimes s) (v : Word) : r.sameTimes (s.lcReq v) := by
  unfold State.lcReq
  dsimp only
  split_ifs
  · exact sameTimes_setReg h _ _
  all_goals
    split
    · exact sameTimes_lcGo _ _ _ _ (sameTimes_count (sameTimes_newNonce (sameTimes_setReg h _ _)) _)
    · exact sameTimes_count (sameTimes_lcResult (sameTimes_newNonce (sameTimes_setReg h _ _)) _ _) _

theorem sameTimes_jdcTxWrite (h : r.sameTimes s) (m : Master) (v : Word) : r.sameTimes (s.jdcTxWrite m v) := by
  unfold State.jdcTxWrite State.when
  split_ifs
  · exact sameTimes_modHarts h _
  · exact sameTimes_refuse h _ _

theorem sameTimes_romRequest (h : r.sameTimes s) : r.sameTimes s.romRequest := by
  unfold State.romRequest
  dsimp only
  have hread : ∀ f g, r.sameTimes ((s.modHarts f).modBoot g) := fun f g => sameTimes_modBoot (sameTimes_modHarts h f) g
  split_ifs
  · exact h
  · exact hread _ _
  · exact sameTimes_jdcTxWrite (sameTimes_lcReq (sameTimes_modBoot (hread _ _) _) _) _ _
  · exact sameTimes_jdcTxWrite (sameTimes_modBoot (hread _ _) _) _ _

/-! ### Records of successful boots -/

theorem sameTimes_eraseAt (h : r.sameTimes s) (p cs a : Nat) : r.sameTimes (s.eraseAt p cs a) := by
  unfold State.eraseAt State.toFlash
  split_ifs
  · exact sameTimes_of_frame h rfl rfl rfl
  · exact sameTimes_of_frame h rfl rfl rfl

theorem sameTimes_arbMakeRoom (h : r.sameTimes s) : r.sameTimes s.arbMakeRoom := by
  unfold State.arbMakeRoom State.homeErase State.eraseBlocks
  split_ifs
  · exact h
  · exact sameTimes_modBoot (sameTimes_foldl _ (fun t k => sameTimes_eraseAt (sameTimes_refl t) _ _ _) _ h) _

theorem sameTimes_arbCommit (h : r.sameTimes s) (timeout : Nat) (rec : Bytes) : r.sameTimes (s.arbCommit timeout rec) := by
  unfold State.arbCommit
  split
  · exact sameTimes_enqueue (sameTimes_arbMakeRoom h) _ _ _ _
  · exact h

theorem sameTimes_arbNext (h : r.sameTimes s) : r.sameTimes s.arbNext := by
  unfold State.arbNext State.arbRaise
  split
  · exact h
  · have hdue : ∀ f, r.sameTimes (s.modBoot f) := sameTimes_modBoot h
    split_ifs
    · exact hdue _
    · exact sameTimes_arbCommit (hdue _) _ _
    · exact sameTimes_modBoot (hdue _) _
    · exact h

theorem sameTimes_goodStep (h : r.sameTimes s) (k : Nat) : r.sameTimes (s.goodStep k) := by
  unfold State.goodStep
  dsimp only
  split_ifs
  · exact h
  · exact sameTimes_modBoot h _
  · exact h
  · exact sameTimes_modBoot h _

theorem sameTimes_arbGood (h : r.sameTimes s) (k : Nat) : r.sameTimes (s.arbGood k) := by
  unfold State.arbGood
  split
  · split_ifs
    · exact h
    · split
      · exact sameTimes_arbCommit (sameTimes_modBoot h _) _ _
      · exact h
  · exact h

theorem sameTimes_goodBoots (h : r.sameTimes s) : r.sameTimes s.goodBoots := by
  unfold State.goodBoots
  split_ifs
  · exact h
  · exact sameTimes_foldl _ (fun t k => sameTimes_arbGood (sameTimes_goodStep (sameTimes_refl t) k) k) _ (sameTimes_arbNext h)

end

/-! ### One microsecond -/

/-- The clock itself: what the oscillator and BAT_TIME make of one microsecond (R304, R602). -/
def State.clockRun (s : State) : State := { s.oscStep with clk := s.clk + 1, tamp := s.tamp.second }

theorem sameTimes_tick (s : State) : s.clockRun.sameTimes s.tick :=
  sameTimes_goodBoots (sameTimes_romRequest (sameTimes_wipPolls (sameTimes_refl s.clockRun)))

theorem ph_clockRun (s : State) : s.clockRun.cis.ph = if s.pwr.aonValid then s.cis.ph + s.cis.rate else s.cis.ph := by
  unfold State.clockRun State.oscStep
  split_ifs <;> rfl

theorem batTime_clockRun (s : State) : s.clockRun.tamp.batTime = if s.tamp.batUs = 999999 then satInc s.tamp.batTime else s.tamp.batTime := by
  show s.tamp.second.batTime = _
  unfold TampState.second
  split_ifs <;> rfl

/-- Settles O56. The clocks move as they move in `State.clockRun`, and what the block does by itself in that microsecond leaves them
(`sameTimes_tick`). -/
theorem anEmptyQueueLetsAMicrosecondPass : Obligations.AnEmptyQueueLetsAMicrosecondPass := by
  unfold Obligations.AnEmptyQueueLetsAMicrosecondPass
  intro s hempty
  have hstep : step s = .next s.tick := by rw [step, hempty]
  obtain ⟨hclk, hph, hbat⟩ := sameTimes_tick s
  obtain ⟨t, ht, hqueue⟩ := theBlockNeverStopsAndKeepsItsQueueInOrder s
  obtain rfl : s.tick = t := by simpa [hstep] using ht
  exact ⟨_, hstep, hclk, by rw [hqueue, hempty]; rfl, hph.trans (ph_clockRun s), hbat.trans (batTime_clockRun s)⟩

/-! ### The state after reset -/

/-- Settles O60, field by field. -/
theorem resetHoldsEveryLineAndIsCanonical : Obligations.ResetHoldsEveryLineAndIsCanonical := by
  unfold Obligations.ResetHoldsEveryLineAndIsCanonical
  refine ⟨?stores, ?requested, ?held, ?runtime, ?power, ?sems, ?slots, ?memory, ?queue⟩
  case stores => decide
  case requested => rfl
  case held => decide
  case runtime => rfl
  case power => rfl
  case sems => exact fun _ _ => rfl
  case slots => exact fun _ => rfl
  case memory => exact fun _ => rfl
  case queue => rfl

end Sys2Proof.Machine
end

section
/-! PROOFS. Event records, software events, routes and pending messages (R67, R81, R89, R93 to R95, R100, R101). -/
namespace Sys2Proof.Machine

/-! ### Pages that carry event sources -/

/-- The page of digest lane `n` (R78). -/
def lanePage (n : Nat) : PageInfo :=
  { kind := .dgl, type := 0x0A, inst := n, page := 0, dw := 6, buffered := true, groupable := true,
    src0 := 72 + 2 * n, nsrc := 2, evtOff := 0x60, ugroup := 2 }

/-- The VERIFY/STATS page of flash port `n` (R78). -/
def verPage (n : Nat) : PageInfo :=
  { kind := .fpVer, type := 0x0B, inst := n, page := 3, dw := 7, buffered := true, groupable := true,
    src0 := 104 + 6 * n, nsrc := 6, evtOff := 0xC0 }

/-- The page of queue `q` (R78). -/
def queuePage (q : Nat) : PageInfo :=
  { kind := .hq, type := 0x0C, inst := q, page := 0, dw := 5, src0 := 200 + q, nsrc := 1, evtOff := 0x78 }

/-- The page of channel `c` (R78). -/
def mbxPage (c : Nat) : PageInfo :=
  { kind := .mbx, type := 0x0D, inst := c, page := 0, dw := 6, src0 := 272 + c, nsrc := 1, evtOff := 0x60 }

theorem pageAt_lane (n : Nat) (h : n < 16) : pageAt (0x40 + n) = some (lanePage n) := by
  unfold pageAt lanePage
  rw [if_neg (by omega), if_neg (by omega), if_pos (by omega), if_pos (by omega), Nat.add_sub_cancel_left]

theorem pageAt_ver (n : Nat) (h : n < 16) : pageAt (0x83 + 4 * n) = some (verPage n) := by
  have hn : (0x83 + 4 * n - 0x80) / 4 = n := by omega
  unfold pageAt verPage
  rw [if_neg (by omega), if_neg (by omega), if_neg (by omega), if_pos (by omega)]
  dsimp only
  rw [if_neg (by omega), if_neg (by omega), if_neg (by omega), hn]

theorem pageAt_queue (q : Nat) (h : q < 64) : pageAt (0x100 + q) = some (queuePage q) := by
  unfold pageAt queuePage
  rw [if_neg (by omega), if_neg (by omega), if_neg (by omega), if_neg (by omega), if_pos (by omega), if_pos (by omega),
    Nat.add_sub_cancel_left]

theorem pageAt_mbx (c : Nat) (h : c < 32) : pageAt (0x150 + c) = some (mbxPage c) := by
  have hn : 0x150 + c - 0x150 = c := by omega
  generalize hp : 0x150 + c = p at hn ⊢
  unfold pageAt mbxPage
  rw [if_neg (by omega), if_neg (by omega), if_neg (by omega), if_neg (by omega), if_neg (by omega), if_neg (by omega),
    if_neg (by omega), if_neg (by omega), if_neg (by omega), if_pos (by omega), hn]

/-- A page is listed, and its event words, where it has any, begin at 0xC0 at the latest (R64, R78). -/
def eventsEarly (page : Nat) : Prop := ∃ i, pageAt page = some i ∧ i.evtOff ≤ 0xC0

theorem eventsEarly_srcPage (k : Nat) (h : k < 352) : eventsEarly (srcPage k) := by
  unfold srcPage
  refine iteInduction (motive := eventsEarly) (fun _ => ⟨_, rfl, by decide⟩) fun _ => ?_
  refine iteInduction (motive := eventsEarly) (fun _ => ⟨_, rfl, by decide⟩) fun _ => ?_
  refine iteInduction (motive := eventsEarly) (fun _ => ⟨_, rfl, by decide⟩) fun _ => ?_
  refine iteInduction (motive := eventsEarly) (fun _ => ⟨_, rfl, by decide⟩) fun _ => ?_
  refine iteInduction (motive := eventsEarly) (fun _ => ⟨_, rfl, by decide⟩) fun _ => ?_
  refine iteInduction (motive := eventsEarly) (fun _ => ⟨_, pageAt_lane _ (by omega), (by decide : 0x60 ≤ 0xC0)⟩) fun _ => ?_
  refine iteInduction (motive := eventsEarly) (fun _ => ⟨_, pageAt_ver _ (by omega), le_refl _⟩) fun _ => ?_
  refine iteInduction (motive := eventsEarly) (fun _ => ⟨_, pageAt_queue _ (by omega), (by decide : 0x78 ≤ 0xC0)⟩) fun _ => ?_
  refine iteInduction (motive := eventsEarly) (fun _ => ⟨_, rfl, by decide⟩) fun _ => ?_
  refine iteInduction (motive := eventsEarly) (fun _ => ⟨_, pageAt_mbx _ (by omega), (by decide : 0x60 ≤ 0xC0)⟩) fun _ => ?_
  refine iteInduction (motive := eventsEarly) (fun _ => ⟨_, rfl, by decide⟩) fun _ => ?_
  refine iteInduction (motive := eventsEarly) (fun _ => ⟨_, rfl, by decide⟩) fun _ => ?_
  refine iteInduction (motive := eventsEarly) (fun _ => ⟨_, rfl, by decide⟩) fun _ => ?_
  refine iteInduction (motive := eventsEarly) (fun _ => ⟨_, rfl, by decide⟩) fun _ => ?_
  exact ⟨_, rfl, by decide⟩

theorem srcIndex_lt (k : Nat) (h : k < 352) : srcIndex k < 16 := by
  unfold srcIndex
  iterate 14 refine iteInduction (motive := (· < 16)) (fun _ => by omega) fun _ => ?_
  omega

theorem ackAddr_page (k : Nat) (h : k < 352) : ackAddr k / 4096 = srcPage k := by
  obtain ⟨i, hi, hoff⟩ := eventsEarly_srcPage k h
  have hindex := srcIndex_lt k h
  simp only [ackAddr, hi]
  exact pg_div _ _ (by omega)

/-! ### Acknowledges -/

theorem pageErrAfter_mod (v : Word) (off : Nat) (k : ErrKind) (m : Master) :
    pageErrAfter v (off % 4096) k m = pageErrAfter v off k m := by
  simp only [pageErrAfter, Nat.mod_mod]

/-- More events leave ACK where it is (R66). -/
theorem bump_ack (e : EventRec) : e.bump.ack = e.ack := by
  unfold EventRec.bump
  split_ifs <;> rfl

theorem deliver_routed (s : State) (k : Nat) : s.deliver k = s.routed (s.deliver k) := by
  apply State.ext <;> simp [State.routed]

theorem reassert_routed (s : State) (k : Nat) : s.reassert k = s.routed (s.reassert k) := by
  unfold State.reassert
  split_ifs
  · exact deliver_routed s k
  · rfl

theorem evt_reassert (s : State) (k j : Nat) : (s.reassert k).evt j = s.evt j := by
  unfold State.reassert
  split_ifs
  · exact State.evt_deliver s k j
  · rfl

theorem ackEvt_of_not_ahead (s : State) (m : Master) (k : Nat) (v : Word)
    (h : (BitVec.ofNat 16 v.toNat - (s.evt k).ack).toNat ≤ ((s.evt k).count - (s.evt k).ack).toNat) :
    s.ackEvt m k v = (s.setEvt k { s.evt k with ack := BitVec.ofNat 16 v.toNat, ovf := false }).reassert k :=
  if_pos (decide_eq_true h)

theorem ackEvt_of_ahead (s : State) (m : Master) (k : Fin 352) (v : Word)
    (h : ((s.evt k.val).count - (s.evt k.val).ack).toNat < (BitVec.ofNat 16 v.toNat - (s.evt k.val).ack).toNat) :
    s.ackEvt m k.val v = s.err (srcPage k.val) (ackAddr k.val % 4096) .ackRange m := by
  have hahead : (s.evt k.val).ackOk (BitVec.ofNat 16 v.toNat) ≠ true := by
    simpa [EventRec.ackOk] using h
  rw [State.ackEvt, if_neg hahead, State.errAt, ackAddr_page _ k.isLt]

theorem exec_eventAck (s : State) (m : Master) (k : Fin 352) (v : Word) (h : s.admits m (ackAddr k.val) = true) :
    exec (.eventAck m k v) s = .next (s.ackEvt m k.val v) :=
  congrArg _ (State.guarded_of_admits s m _ _ h)

/-! ### Software events -/

/-- The sources that a word written to SW_EVT counts (R89). -/
def swSources (v : Word) : List Nat := ((Word.ones v).filter (fun j => decide (j < 4))).map (fun j => evSys (12 + j))

theorem swSources_nodup (v : Word) : (swSources v).Nodup :=
  ((List.nodup_range.filter _).filter _).map (fun _ _ h => Nat.add_left_cancel h)

theorem mem_swSources (v : Word) (k : Nat) : k ∈ swSources v ↔ ∃ j, j < 4 ∧ v.getLsbD j = true ∧ k = 12 + j := by
  simp only [swSources, Word.ones, evSys, List.mem_map, List.mem_filter, List.mem_range, decide_eq_true_eq]
  constructor
  · rintro ⟨j, ⟨⟨_, hbit⟩, hj⟩, rfl⟩
    exact ⟨j, hj, hbit, rfl⟩
  · rintro ⟨j, hj, hbit, rfl⟩
    exact ⟨j, ⟨⟨by omega, hbit⟩, hj⟩, rfl⟩

theorem exec_swEvt (s : State) (m : Master) (v : Word) (h : s.admits m (pg 3 0xC0) = true) :
    exec (.swEvt m v) s = .next (s.counts (swSources v)) :=
  congrArg _ (State.guarded_of_admits s m _ _ h)

/-! ### Routes -/

/-- JTAG or hart 0 may route the source, or it is not guarded (R81, R94). -/
def State.mayRoute (s : State) (m : Master) (k : Nat) : Bool := !(routeGuarded k && m != 0 && !(m == jtag && s.jtagAllows true))

theorem routeWrite_stored (s : State) (m : Master) (k : Nat) (v r : Word) (hmay : s.mayRoute m k = true) (hr : routeStored k v = some r) :
    ∃ t : State, s.routeWrite m k v = t ∧ t.regs = (s.setReg (routeAddr k) r).regs ∧ t.events = s.events ∧
      t = { s.routed t with regs := t.regs } := by
  rw [State.mayRoute, Bool.not_eq_true'] at hmay
  have hdelivered : ∀ t : State, t = (s.setReg (routeAddr k) r).routed t → t = { s.routed t with regs := t.regs } := by
    intro t ht
    rw [ht]
    rfl
  simp only [State.routeWrite, hmay, hr, Bool.false_eq_true, ↓reduceIte]
  split_ifs
  · exact ⟨_, rfl, by simp, by simp, hdelivered _ (deliver_routed ..)⟩
  · exact ⟨_, rfl, rfl, rfl, rfl⟩
  · exact ⟨_, rfl, by simp, by simp, hdelivered _ (by apply State.ext <;> simp [State.routed])⟩
  · exact ⟨_, rfl, rfl, rfl, rfl⟩

theorem routeWrite_refused (s : State) (m : Master) (k : Nat) (v : Word) (h : routeStored k v = none ∨ s.mayRoute m k = false) :
    s.routeWrite m k v = (s.errAt (routeAddr k) .state m).count (evSys 5) := by
  have hnone : (if routeGuarded k && m != 0 && !(m == jtag && s.jtagAllows true) then none else routeStored k v) = none := by
    rcases h with h | h
    · simp [h]
    · rw [State.mayRoute, Bool.not_eq_false'] at h
      rw [if_pos h]
  simp only [State.routeWrite, hnone]

theorem exec_routeWrite (s : State) (m : Master) (k : Fin 352) (v : Word) (h : s.admits m (routeAddr k.val) = true) :
    exec (.routeWrite m k v) s = .next (s.routeWrite m k.val v) :=
  congrArg _ (State.guarded_of_admits s m _ _ h)

/-- A route is no PAGE_ERR. -/
theorem routeAddr_ne_pageErr (k page : Nat) : routeAddr k ≠ pg page 0x18 := by
  simp only [routeAddr, pg]
  omega

/-! ### The four commands -/

/-- Settles O3. An acknowledge stores ACK or is a page error (`ackEvt_of_not_ahead`, `ackEvt_of_ahead`), a route write stores or is refused
(`routeWrite_stored`, `routeWrite_refused`), and SW_EVT counts different sources (`swSources_nodup`). -/
theorem eventsAreAcknowledgedRoutedAndSent : Obligations.EventsAreAcknowledgedRoutedAndSent := by
  unfold Obligations.EventsAreAcknowledgedRoutedAndSent
  refine fun s => ⟨fun m v k h => ⟨_, exec_eventAck s m k v h, fun hback => ?stored, fun hahead => ?ackRange⟩,
    fun m v h => ⟨_, exec_swEvt s m v h, State.counts_routed .., fun j hj => ?counted, fun k hk => ?others⟩,
    fun m k v h => ⟨_, exec_routeWrite s m k v h, fun r hr hmay => ?accepted, fun hno => ?refused⟩, fun f vec hup hpba hready => ?sent⟩
  case stored =>
    rw [ackEvt_of_not_ahead s m k.val v hback]
    refine ⟨by simp [evt_reassert], by simp [evt_reassert], by simp [evt_reassert], fun j hj => by simp [evt_reassert, hj], ?_⟩
    rw [reassert_routed]
    rfl
  case ackRange =>
    rw [ackEvt_of_ahead s m k v hahead]
    refine ⟨?_, by simp [State.reg_err, pageErrAfter_mod], fun a ha => by simp [State.reg_err, ha], State.err_routed ..⟩
    rw [State.evt_err _ _ _ _ (by decide)]
    split_ifs with hk
    · rw [hk, bump_ack]
    · rfl
  case counted =>
    have hmem : 12 + j ∈ swSources v ↔ v.getLsbD j = true := by
      rw [mem_swSources]
      constructor
      · rintro ⟨i, _, hbit, hij⟩
        rwa [Nat.add_left_cancel hij]
      · exact fun hbit => ⟨j, hj, hbit, rfl⟩
    rw [State.evt_counts _ _ _ (swSources_nodup v)]
    simp only [hmem]
  case others =>
    rw [State.evt_counts _ _ _ (swSources_nodup v), if_neg]
    rw [mem_swSources]
    rintro ⟨j, hj, _, rfl⟩
    omega
  case accepted =>
    have hmay' : s.mayRoute m k.val = true := by
      by_cases hg : routeGuarded k.val = true
      · rcases hmay hg with rfl | ⟨rfl, hallows⟩
        · simp [State.mayRoute]
        · simp [State.mayRoute, hallows]
      · simp [State.mayRoute, hg]
    obtain ⟨t, ht, hregs, hevents, hframe⟩ := routeWrite_stored s m k.val v r hmay' hr
    have hreg : ∀ a, t.reg a = (s.setReg (routeAddr k.val) r).reg a := fun a => congrArg (SMap.get resetAt · a) hregs
    rw [ht]
    refine ⟨by rw [State.route, hreg]; simp, fun a ha => by rw [hreg]; simp [ha], hevents, hframe⟩
  case refused =>
    rw [routeWrite_refused s m k.val v]
    · have hne : routeAddr k.val ≠ pg (routeAddr k.val / 4096) 0x18 := routeAddr_ne_pageErr _ _
      refine ⟨?_, ?_, ?_, ?_⟩
      · simp [State.route, State.errAt, State.reg_err, hne]
      · simp [State.evt_count, State.errAt, State.evt_err, evSys]
      · simp [State.evt_count, State.errAt, State.evt_err, evSys]
      · rw [State.count_routed]
        apply State.ext <;> simp [State.routed]
    · rcases hno with hnone | ⟨hguard, hm0, hj⟩
      · exact .inl hnone
      · refine .inr ?_
        have hj' : (m == jtag && s.jtagAllows true) = false := by
          simpa [imp_iff_not_or] using hj
        simpa [State.mayRoute, hguard, hj'] using hm0
  case sent =>
    show Host.Outcome.next (s.msixPending f.val vec.val) = _
    rw [State.msixPending, if_pos (by simp [hup, hpba, hready])]
    rfl

end Sys2Proof.Machine
end

section
/-! PROOFS. Accesses of the registers (R29, R31 to R38, R43, R44, R47, R49, R56, R59, R62, R75): what an aligned 32-bit access of a listed page does. -/
namespace Sys2Proof.Machine

/-! ### The page directory and the register tables -/

/-- What every listed page satisfies: it decodes at most 4,096 bytes, and a PHY page and the first page of
Cistern are slow (R31, R78). -/
def PageInfo.regular (i : PageInfo) : Bool := decide (i.dw ≤ 10) && (i.slow || (decide (i.kind ≠ .fpPhy) && decide (i.kind ≠ .cis0)))

theorem pageAt_regular (page : Nat) : (pageAt page).all PageInfo.regular = true := by
  simp only [pageAt, apply_ite (Option.all PageInfo.regular), Option.all_some, Option.all_none, PageInfo.regular, Nat.reduceLeDiff,
    decide_true, Bool.true_and, Bool.and_self, Bool.false_or, Bool.true_or, ne_eq, reduceCtorEq, not_false_eq_true, ite_self]

/-- A broadcast or group page is no listed page (R75, R78). -/
theorem pageAt_of_bcast (page : Nat) (h : (bcastMembers page).isSome = true) : pageAt page = none := by
  have hrange : (0x50 ≤ page ∧ page < 0x80) ∨ (0xC0 ≤ page ∧ page < 0x100) := by
    unfold bcastMembers at h
    split_ifs at h
    · omega
    · omega
    · omega
    · omega
    · exact absurd h (by decide)
  unfold pageAt
  rcases hrange with ⟨hlo, hhi⟩ | ⟨hlo, hhi⟩
  · rw [if_neg (by omega), if_neg (by omega), if_pos (by omega), if_neg (by omega)]
  · rw [if_neg (by omega), if_neg (by omega), if_neg (by omega), if_neg (by omega), if_pos (by omega), if_neg (by omega)]

section
variable {page off : Nat} {i : PageInfo} {r : RegRow}

theorem regular_of_pageAt (h : pageAt page = some i) : i.regular = true := by
  have hall := pageAt_regular page
  rwa [h] at hall

theorem span_le (h : pageAt page = some i) : i.span ≤ 4096 := by
  have hreg := regular_of_pageAt h
  simp only [PageInfo.regular, Bool.and_eq_true, decide_eq_true_eq] at hreg
  calc i.span = 4 * 2 ^ i.dw := rfl
    _ ≤ 4 * 2 ^ 10 := Nat.mul_le_mul_left 4 (Nat.pow_le_pow_right (by omega) hreg.1)

theorem kind_ne_fpPhy (h : pageAt page = some i) (hfast : i.slow = false) : i.kind ≠ .fpPhy := by
  have hreg := regular_of_pageAt h
  simp only [PageInfo.regular, hfast, Bool.false_or, Bool.and_eq_true, decide_eq_true_eq] at hreg
  exact hreg.2.1

theorem kind_ne_cis0 (h : pageAt page = some i) (hfast : i.slow = false) : i.kind ≠ .cis0 := by
  have hreg := regular_of_pageAt h
  simp only [PageInfo.regular, hfast, Bool.false_or, Bool.and_eq_true, decide_eq_true_eq] at hreg
  exact hreg.2.2

theorem bcastMembers_of_pageAt (h : pageAt page = some i) : bcastMembers page = none := by
  rw [← Option.not_isSome_iff_eq_none]
  intro hsome
  rw [pageAt_of_bcast page hsome] at h
  cases h

theorem mem_rowsOf (h : i.row off = some r) : r ∈ rowsOf i.kind := by
  unfold PageInfo.row at h
  split_ifs at h
  exact List.mem_of_find?_eq_some h

/-- The low word of a counter is read with effect (R35, R36). -/
theorem readEffect_of_ctrLo (k : PageKind) : ∀ r ∈ rowsOf k, r.half = .ctrLo → r.readEffect = true := by
  cases k <;> decide

theorem freeRead_of_ctrLo (h : i.row off = some r) (hlo : r.half = .ctrLo) : freeRead i off = false := by
  by_contra hfree
  have hrow : findRow (rowsOf i.kind) off = some r := by
    unfold PageInfo.row at h
    split_ifs at h
    exact h
  simp only [freeRead, Bool.not_eq_false, Bool.or_eq_true, Bool.and_eq_true, beq_iff_eq] at hfree
  rcases hfree with ⟨hk, rfl | rfl⟩ | ⟨hk, rfl⟩ <;> rw [hk] at hrow <;> cases hrow <;> cases hlo

end

/-! ### Page errors and their offset -/

/-- A step that leaves PAGE_ERR as it was leaves its OFFSET (R31, R38). -/
theorem errOffset_of_reg_eq (s t : State) (page off : Nat) (h : t.reg (pg page 0x18) = s.reg (pg page 0x18)) :
    t.errOffset s page off = t := by
  rw [State.errOffset, if_neg]
  rintro ⟨hbefore, hafter⟩
  exact hafter (by rwa [State.fldOf, h])

theorem errOffset_setBuf (s : State) (a : Nat) (v : Option Word) (page off : Nat) :
    (s.setBuf a v).errOffset s page off = s.setBuf a v :=
  errOffset_of_reg_eq _ _ _ _ rfl

/-- The first error's code, master and count, below its offset (R38). -/
theorem errWord_toNat (off : Nat) (k : ErrKind) (m : Master) :
    (fld (off % 4096) 20 ||| fld k.code 16 ||| fld m.toNat 8 ||| 1 : Word).toNat =
      off % 4096 * 2 ^ 20 + k.code * 2 ^ 16 + m.toNat * 2 ^ 8 + 1 := by
  have hcode : k.code < 16 := by cases k <;> decide
  have hm : m.toNat < 256 := m.isLt
  have hoff : off % 4096 < 4096 := Nat.mod_lt _ (by omega)
  generalize off % 4096 = o at hoff
  have hbits : ∀ hi lo n : Nat, lo < 2 ^ n → 2 ^ n * hi ||| lo = 2 ^ n * hi + lo := fun hi lo n h => (Nat.two_pow_add_eq_or_of_lt h hi).symm
  have hcodes : o * 2 ^ 20 ||| k.code * 2 ^ 16 = 2 ^ 16 * (o * 2 ^ 4 + k.code) := by
    have h := hbits o (k.code * 2 ^ 16) 20 (by omega)
    rw [Nat.mul_comm] at h
    omega
  have hmasters : 2 ^ 16 * (o * 2 ^ 4 + k.code) ||| m.toNat * 2 ^ 8 = 2 ^ 8 * (o * 2 ^ 12 + k.code * 2 ^ 8 + m.toNat) := by
    have h := hbits (o * 2 ^ 4 + k.code) (m.toNat * 2 ^ 8) 16 (by omega)
    omega
  have hcount := hbits (o * 2 ^ 12 + k.code * 2 ^ 8 + m.toNat) 1 8 (by omega)
  simp only [fld, BitVec.toNat_or, BitVec.toNat_ofNat]
  rw [Nat.mod_eq_of_lt (by omega : o * 2 ^ 20 < 2 ^ 32), Nat.mod_eq_of_lt (by omega : k.code * 2 ^ 16 < 2 ^ 32),
    Nat.mod_eq_of_lt (by omega : m.toNat * 2 ^ 8 < 2 ^ 32), hcodes, hmasters]
  exact hcount.trans (by omega)

theorem pageErrAfter_first (v : Word) (off : Nat) (k : ErrKind) (m : Master) (h : Word.field v 7 0 = 0) :
    (pageErrAfter v off k m).toNat = off % 4096 * 2 ^ 20 + k.code * 2 ^ 16 + m.toNat * 2 ^ 8 + 1 := by
  rw [pageErrAfter, if_pos h, errWord_toNat]

/-- The offset of a first error replaced is that error at the other offset (R38). -/
theorem setField_pageErrAfter (v : Word) (off off' : Nat) (k : ErrKind) (m : Master) (h : Word.field v 7 0 = 0) :
    Word.setField (pageErrAfter v off k m) 31 20 off' = pageErrAfter v off' k m := by
  have hcode : k.code < 16 := by cases k <;> decide
  have hm : m.toNat < 256 := m.isLt
  apply BitVec.eq_of_toNat_eq
  rw [pageErrAfter_first v off' k m h]
  simp only [Word.setField, Word.field, pageErrAfter_first v off k m h, BitVec.toNat_ofNat, Nat.shiftRight_eq_div_pow]
  omega

theorem field_pageErrAfter_ne_zero (v : Word) (off : Nat) (k : ErrKind) (m : Master) (h : Word.field v 7 0 = 0) :
    Word.field (pageErrAfter v off k m) 7 0 ≠ 0 := by
  have hcode : k.code < 16 := by cases k <;> decide
  have hm : m.toNat < 256 := m.isLt
  simp only [Word.field, pageErrAfter_first v off k m h, Nat.shiftRight_eq_div_pow]
  omega

/-- An error of a page whose offset is then that of the access (R31, R38): PAGE_ERR and event delivery, nothing else. -/
theorem errOffset_err (s : State) (page off off' : Nat) (k : ErrKind) (m : Master) :
    let t := (s.err page off k m).errOffset s page off'
    t.reg (pg page 0x18) = pageErrAfter (s.reg (pg page 0x18)) (if Word.field (s.reg (pg page 0x18)) 7 0 = 0 then off' else off) k m ∧
      (∀ x, x ≠ pg page 0x18 → t.reg x = s.reg x) ∧ t = { s.routed t with regs := t.regs } := by
  have herr := State.err_routed s page off k m
  by_cases hzero : Word.field (s.reg (pg page 0x18)) 7 0 = 0
  · have hcond : s.fldOf (pg page 0x18) 7 0 = 0 ∧ (s.err page off k m).fldOf (pg page 0x18) 7 0 ≠ 0 := by
      refine ⟨hzero, ?_⟩
      rw [State.fldOf, State.reg_err, if_pos rfl]
      exact field_pageErrAfter_ne_zero _ _ _ _ hzero
    dsimp only
    rw [State.errOffset, if_pos hcond, State.setFld]
    refine ⟨?_, fun x hx => ?_, ?_⟩
    · rw [State.reg_setReg, if_pos rfl, State.reg_err, if_pos rfl, setField_pageErrAfter _ _ _ _ _ hzero, if_pos hzero]
    · rw [State.reg_setReg, if_neg hx, State.reg_err, if_neg hx]
    · exact congrArg (State.setReg · _ _) herr
  · dsimp only
    rw [State.errOffset, if_neg (fun hcond => hzero hcond.1), if_neg hzero]
    exact ⟨by rw [State.reg_err, if_pos rfl], fun x hx => by rw [State.reg_err, if_neg hx], herr⟩

/-- Beyond the first error PAGE_ERR only counts (R38, R40). -/
theorem pageErrAfter_counting (v : Word) (off off' : Nat) (k : ErrKind) (m : Master) :
    pageErrAfter v (if Word.field v 7 0 = 0 then off' else off) k m = pageErrAfter v off' k m := by
  split_ifs with h
  · rfl
  · rw [pageErrAfter, pageErrAfter, if_neg h, if_neg h]

/-! ### One 32-bit write -/

section
variable {s : State} {m : Master} {page off : Nat} {i : PageInfo} {r : RegRow}

/-- A write that arrives at a page reaches that page alone, and no replay serves it (R29, R633). -/
theorem write32_of_arrives (v : Word) (a : Nat) (hpage : pageAt (a / 4096) = some i) (harr : s.arrives m (a / 4096) = true) :
    s.write32 m a v = s.pageWrite m a v false false (fun s => s.applyWrite m a v false) := by
  have htakes : s.takes m = true := by
    simp only [State.arrives, Bool.and_eq_true] at harr
    exact harr.1
  have hlive : (s.coreUp && isHart m && s.flr.replay == .running) = false := by
    rw [Bool.and_assoc, State.takes_replay s m htakes, Bool.and_false]
  rw [State.write32, hlive, harr, bcastMembers_of_pageAt hpage]
  rfl

theorem pageWrite_fast (a : Nat) (v : Word) (viaAlias bcast : Bool) (now : State → State) (hpage : pageAt (a / 4096) = some i)
    (hfast : i.slow = false) : s.pageWrite m a v viaAlias bcast now = now s := by
  simp only [State.pageWrite, hpage, hfast]
  rfl

theorem pageWrite_slow (a : Nat) (v : Word) (viaAlias bcast : Bool) (now : State → State) (hpage : pageAt (a / 4096) = some i)
    (hslow : i.slow = true) (hfree : s.postedAt (a / 4096) = none) :
    s.pageWrite m a v viaAlias bcast now =
      s.setPosted (a / 4096) (some { m := m, off := a % 4096, v := v, viaAlias := viaAlias, bcast := bcast }) := by
  simp only [State.pageWrite, hpage, hslow, hfree]
  rfl

/-- A write to a block register that the gate refuses (R29, R59). -/
theorem applyWrite_refused {a : Nat} {k : ErrKind} (v : Word) (bcast : Bool) (hpage : pageAt (a / 4096) = some i)
    (hoff : 0x40 ≤ a % 4096 % i.span)
    (hopen : s.haltBars (pg (a / 4096) (a % 4096 % i.span)) = false) (hgate : s.writeGate m (pg (a / 4096) (a % 4096 % i.span)) = some k) :
    s.applyWrite m a v bcast =
      (s.err (a / 4096) (a % 4096 % i.span) k m).errOffset s (a / 4096) (a % 4096) := by
  simp only [State.applyWrite, hpage, hopen, hgate, if_neg (not_lt.mpr hoff)]
  rfl

/-- A write to a block register that the gate admits has its effect by access code (R29). -/
theorem applyWrite_taken {a : Nat} (v : Word) (bcast : Bool) (hpage : pageAt (a / 4096) = some i) (hoff : 0x40 ≤ a % 4096 % i.span)
    (hrow : i.row (a % 4096 % i.span) = some r) (hopen : s.haltBars (pg (a / 4096) (a % 4096 % i.span)) = false)
    (hgate : s.writeGate m (pg (a / 4096) (a % 4096 % i.span)) = none) :
    s.applyWrite m a v bcast =
      (s.regEffect m (a / 4096) i (a % 4096 % i.span) r v).errOffset s (a / 4096) (a % 4096) := by
  simp only [State.applyWrite, hpage, hopen, hgate, hrow, if_neg (not_lt.mpr hoff)]
  rfl

/-- An RB register of a fast page buffers what it takes (R47). -/
theorem rbWrite_fast (a : Nat) (v : Word) (hkind : i.kind ≠ .fpPhy) :
    s.rbWrite m i a v = s.setBuf a (some (rbStored i.kind (a % 4096) v)) := by
  have hno : (i.kind == .fpPhy) = false := by simpa using hkind
  rw [State.rbWrite, State.when, hno]
  rfl

theorem regEffect_rb (v : Word) (hcode : r.code = .rb) (hkind : i.kind ≠ .fpPhy) :
    s.regEffect m page i off r v = s.setBuf (pg page off) (some (rbStored i.kind (pg page off % 4096) (v &&& r.mask))) := by
  rw [State.regEffect, hcode]
  exact rbWrite_fast _ _ hkind

end

/-! ### One 32-bit read -/

/-- A read's bytes are the last that leave the block (R29). -/
theorem answer_getLast (s : State) (m : Master) (a : Nat) (d : Bytes) : (s.answer m a d).outbox.getLast? = some (.readData m a d) := by
  unfold State.answer
  split_ifs
  · simp [State.out]
  · unfold State.readOut
    simp [State.out]

theorem read32_getLast (s : State) (m : Master) (a : Nat) (h : s.arrives m (a / 4096) = true) :
    (s.read32 m a).outbox.getLast? = some (.readData m a (leBytes 4 (s.readWord m a).toNat)) := by
  rw [State.read32_of_arrives s m a h, answer_getLast]

/-- What answering a read changes: the outbox, and what a flight record changes. -/
theorem answer_recorded (s : State) (m : Master) (a : Nat) (d : Bytes) : s.answer m a d = s.recorded (s.answer m a d) := by
  unfold State.answer
  split_ifs
  · rfl
  · unfold State.readOut
    split_ifs
    · exact congrArg (State.out · _) (State.flight_recorded ..)
    · rfl

/-! ### An aligned access of PF0 BAR0 -/

/-- An aligned 32-bit access of PF0 BAR0 (R29, R78). -/
structure AlignedAccess (a : Access) : Prop where
  space : a.space = .bar0
  size : a.size = 4
  contiguous : a.contiguous = true
  word : a.addr % 4 = 0
  inside : a.addr < 0x2000000

theorem accWords_aligned {a : Access} (h : AlignedAccess a) : accWords a = 1 := by
  simp [accWords, h.size, h.contiguous, h.word]

theorem exec_registerWrite_read {s : State} {a : Access} (h : AlignedAccess a) (hread : a.write = false) :
    exec (.registerWrite a) s = .next (s.read32 a.m a.addr) := by
  have hfit : a.addr + a.size ≤ 0x2000000 := by
    have hword := h.word
    have hinside := h.inside
    rw [h.size]
    omega
  show Host.Outcome.next (s.access a) = _
  rw [State.access, h.space]
  simp only [if_pos hfit, State.regAccess, hread, State.regRead, accWords_aligned h]
  rfl

theorem exec_registerWrite_write {s : State} {a : Access} (h : AlignedAccess a) (hwrite : a.write = true) :
    exec (.registerWrite a) s = .next (s.write32 a.m a.addr (Bytes.word a.data 0)) := by
  have hfit : a.addr + a.size ≤ 0x2000000 := by
    have hword := h.word
    have hinside := h.inside
    rw [h.size]
    omega
  show Host.Outcome.next (s.access a) = _
  rw [State.access, h.space]
  simp only [if_pos hfit, State.regAccess, hwrite, State.regWrite, accWords_aligned h]
  rfl

theorem read32_of_flrReads (s : State) (m : Master) (a : Nat) (h : s.flrReads m (a / 4096) = true) :
    s.read32 m a = s.out (.readData m a (zeros 4)) := by
  have hhart : isHart m = false := by
    simp only [State.flrReads, isPcie, Bool.and_eq_true, decide_eq_true_eq] at h
    obtain ⟨⟨⟨⟨-, hpcie⟩, -⟩, -⟩, -⟩ := h
    simp only [isHart, decide_eq_false_iff_not]
    omega
  rw [State.read32, hhart, if_neg (by simp), if_pos h]

/-- Settles O4. Each access is one 32-bit read or write of its page (`exec_registerWrite_read`, `exec_registerWrite_write`), and a write is
posted, refused or taken there (`pageWrite_slow`, `applyWrite_refused`, `applyWrite_taken`). -/
theorem registerAccessesFollowTheirAccessCode : Obligations.RegisterAccessesFollowTheirAccessCode := by
  unfold Obligations.RegisterAccessesFollowTheirAccessCode
  refine ⟨fun s a hspace hsize hcont hword hin hread hflr => ?reset, fun s a i r off hspace hsize hcont hword hin hpage hoff hblock hrow harr =>
    ⟨fun hw hslow hfree => ?posted, fun k hw hfast hopen hgate => ?refused, fun hw hfast hopen hgate hrb => ?buffered, fun hread => ?read⟩⟩
  case reset =>
    rw [exec_registerWrite_read ⟨hspace, hsize, hcont, hword, hin⟩ hread, read32_of_flrReads _ _ _ hflr]
  case posted =>
    rw [exec_registerWrite_write ⟨hspace, hsize, hcont, hword, hin⟩ hw, write32_of_arrives _ _ hpage harr,
      pageWrite_slow _ _ _ _ _ hpage hslow hfree]
    exact ⟨_, rfl, by simp, rfl⟩
  case refused =>
    subst hoff
    rw [exec_registerWrite_write ⟨hspace, hsize, hcont, hword, hin⟩ hw, write32_of_arrives _ _ hpage harr,
      pageWrite_fast _ _ _ _ _ hpage hfast, applyWrite_refused _ _ hpage hblock hopen hgate]
    obtain ⟨herr, hothers, hframe⟩ := errOffset_err s (a.addr / 4096) (a.addr % 4096 % i.span) (a.addr % 4096) k a.m
    exact ⟨_, rfl, herr.trans (pageErrAfter_counting ..), hothers, hframe⟩
  case buffered =>
    subst hoff
    rw [exec_registerWrite_write ⟨hspace, hsize, hcont, hword, hin⟩ hw, write32_of_arrives _ _ hpage harr,
      pageWrite_fast _ _ _ _ _ hpage hfast, applyWrite_taken _ _ hpage hblock hrow hopen hgate,
      regEffect_rb _ hrb (kind_ne_fpPhy hpage hfast), errOffset_setBuf]
    exact ⟨_, rfl, by simp, fun x hx => by simp [hx], rfl⟩
  case read =>
    rw [exec_registerWrite_read ⟨hspace, hsize, hcont, hword, hin⟩ hread]
    exact ⟨_, rfl, read32_getLast s a.m a.addr harr⟩

end Sys2Proof.Machine
end

section
/-! PROOFS. 64-bit registers, posted writes, broadcasts and bit aliases (R36, R37, R43, R49, R56, R62, R75). -/
namespace Sys2Proof.Machine

/-! ### Counters and fences -/

section
variable {s : State} {m : Master} {page off : Nat} {i : PageInfo} {r : RegRow}

theorem word_align (h : off % 4 = 0) : pg page off / 4 * 4 = pg page off := by
  simp only [pg]
  omega

theorem pg_lt (hpage : page < 0x2000) (hoff : off < 4096) : pg page off < 0x2000000 := by
  simp only [pg]
  omega

/-- Reading the low word of a counter latches the live high word for its reader (R36). -/
theorem readEff_ctrLo (hpage : pageAt page = some i) (hoff : off < i.span) (hblock : 0x40 ≤ off) (hrow : i.row off = some r)
    (hlo : r.half = .ctrLo) : s.readEff m (pg page off) = s.setLatch m (pg page (off + 4)) (s.rdBlock m page i (off + 4)) := by
  have h4096 := lt_of_lt_of_le hoff (span_le hpage)
  have hdiv := pg_div page off h4096
  have hmod := pg_mod page off h4096
  unfold State.readEff
  simp only [hdiv, hmod, hpage, Nat.mod_eq_of_lt hoff, if_neg (not_lt.mpr hblock), hrow, freeRead_of_ctrLo hrow hlo,
    readEffect_of_ctrLo _ r (mem_rowsOf hrow) hlo, hlo]
  rfl

theorem latched_setLatch (s : State) (m x : Master) (a h : Nat) (v : Word) :
    (s.setLatch m a v).latched x h = if x.toNat * 2 ^ 32 + h = m.toNat * 2 ^ 32 + a then some v else s.latched x h := by
  simp only [State.latched, State.setLatch, SMap.get_set]

/-- A latch is of one master and one address: their numbers do not run into each other (R36). -/
theorem latch_key_inj (m x : Master) (a h : Nat) (ha : a < 2 ^ 32) (hh : h < 2 ^ 32)
    (hkey : x.toNat * 2 ^ 32 + h = m.toNat * 2 ^ 32 + a) : (x, h) = (m, a) := by
  have hm : x.toNat = m.toNat := by omega
  have haddr : h = a := by omega
  rw [BitVec.eq_of_toNat_eq hm, haddr]

theorem exec_counterLowRead (hpage : page < 0x2000) (hoff : off < 4096) (hword : off % 4 = 0) :
    exec (.counterLowRead m (pg page off)) s = .next (s.read32 m (pg page off)) := by
  show Host.Outcome.next _ = _
  rw [if_pos (pg_lt hpage hoff), word_align hword]

/-! ### Halves of a writable pair -/

theorem barWrite_word (v : Word) (hpage : page < 0x2000) (hoff : off < 4096) (hword : off % 4 = 0) :
    s.barWrite m (pg page off) v = s.write32 m (pg page off) v := by
  rw [State.barWrite, if_pos (pg_lt hpage hoff), word_align hword]

/-- An admitted write of a block register of a fast page has its effect by access code, at once (R29). -/
theorem write32_of_admits (v : Word) (hpage : pageAt page = some i) (hoff : off < i.span) (hblock : 0x40 ≤ off) (hrow : i.row off = some r)
    (hfast : i.slow = false) (h : s.admits m (pg page off) = true) :
    s.write32 m (pg page off) v = (s.regEffect m page i off r v).errOffset s page off := by
  have h4096 := lt_of_lt_of_le hoff (span_le hpage)
  have hdiv := pg_div page off h4096
  have hmod : pg page off % 4096 % i.span = off := by rw [pg_mod page off h4096, Nat.mod_eq_of_lt hoff]
  have hpage' : pageAt (pg page off / 4096) = some i := by rw [hdiv, hpage]
  simp only [State.admits, hpage', Bool.and_eq_true, Bool.not_eq_true', Option.isNone_iff_eq_none] at h
  obtain ⟨⟨⟨harr, -⟩, hopen⟩, hgate⟩ := h
  have htaken := applyWrite_taken (a := pg page off) v false hpage' (by rw [hmod]; exact hblock) (by rw [hmod]; exact hrow)
    (by rw [hmod, hdiv]; exact hopen) (by rw [hmod, hdiv]; exact hgate)
  rw [write32_of_arrives _ _ hpage' harr, pageWrite_fast _ _ _ _ _ hpage' hfast, htaken, hmod, hdiv, pg_mod page off h4096]

theorem regEffect_wideLo (v : Word) (hcode : r.code = .rw) (hhalf : r.half = .wideLo) (hoff : off < 4096) (hopen : s.pairBars i off = false) :
    s.regEffect m page i off r v = s.setHeld m (pg page off) (some (v &&& r.mask)) := by
  rw [State.regEffect, hcode]
  dsimp only
  rw [hhalf]
  dsimp only
  rw [State.lowWrite, pg_mod page off hoff, hopen]
  rfl

theorem regEffect_wideHi (v : Word) (hcode : r.code = .rw) (hhalf : r.half = .wideHi) (hoff : off < 4096) (h4 : 4 ≤ off)
    (hopen : s.pairBars i (off - 4) = false) (hkind : i.kind ≠ .cis0) :
    s.regEffect m page i off r v =
      ((s.setHeld m (pg page (off - 4)) none).setReg (pg page (off - 4))
        ((s.heldLo m (pg page (off - 4))).getD (s.reg (pg page (off - 4))))).setReg (pg page off) (v &&& r.mask) := by
  have hhigh : pg page (off - 4) + 4 = pg page off := by
    simp only [pg]
    omega
  rw [State.regEffect, hcode]
  dsimp only
  rw [hhalf]
  dsimp only
  rw [State.highWrite, pg_mod page (off - 4) (by omega), hopen]
  simp only [State.when, Bool.not_false, if_true, State.pairApply, hhigh]

theorem heldLo_setHeld (s : State) (m : Master) (a : Nat) (v : Option Word) : (s.setHeld m a v).heldLo m a = v := by
  simp only [State.heldLo, State.setHeld, SMap.get_set, if_true]

theorem exec_orderFenceRead (s : State) (m : Master) (h : s.arrives m 1 = true) :
    exec (.orderFenceRead m) s = .next (s.answer m (pg 1 0x60) (leBytes 4 (s.reg (pg 1 0x60)).toNat)) :=
  congrArg _ (State.read32_of_arrives s m (pg 1 0x60) h)

end

/-- Settles O5. Reads and writes of a half are accesses of its word (`exec_counterLowRead`, `barWrite_word`) with the effect of that half
(`readEff_ctrLo`, `regEffect_wideLo`, `regEffect_wideHi`). -/
theorem wideRegistersLatchHoldAndApplyTogether : Obligations.WideRegistersLatchHoldAndApplyTogether := by
  unfold Obligations.WideRegistersLatchHoldAndApplyTogether
  intro s m page i off r harr hpage hbar hoff hword hblock hrow
  have h4096 := lt_of_lt_of_le hoff (span_le hpage)
  have hdiv := pg_div page off h4096
  have hpage' : pageAt (pg page off / 4096) = some i := by rw [hdiv, hpage]
  have harr' : s.arrives m (pg page off / 4096) = true := by rw [hdiv, harr]
  refine ⟨fun hlo => ?latch, fun v hlo hrw hfast hadm hopen => ?hold, fun v hhi hrw hfast hadm hopen => ?apply, fun v hslow hfree => ?post,
    fun hsys => ⟨_, exec_orderFenceRead s m hsys, answer_getLast .., answer_recorded ..⟩⟩
  case latch =>
    refine ⟨_, exec_counterLowRead hbar h4096 hword, read32_getLast s m _ harr', ?_⟩
    rw [State.read32_of_arrives s m _ harr', readEff_ctrLo hpage hoff hblock hrow hlo]
    generalize leBytes 4 (s.readWord m (pg page off)).toNat = d
    have hrec := answer_recorded (s.setLatch m (pg page (off + 4)) (s.rdBlock m page i (off + 4))) m (pg page off) d
    generalize (s.setLatch m (pg page (off + 4)) (s.rdBlock m page i (off + 4))).answer m (pg page off) d = t at hrec
    have hlatch : ∀ x h, t.latched x h = (s.setLatch m (pg page (off + 4)) (s.rdBlock m page i (off + 4))).latched x h := fun x h => by
      rw [hrec]; rfl
    refine ⟨by rw [hlatch, latched_setLatch, if_pos rfl], fun x h hne hh => ?_, by rw [hrec]; rfl⟩
    rw [hlatch, latched_setLatch, if_neg]
    exact fun hkey => hne (latch_key_inj m x _ h (by simp only [pg]; omega) hh hkey)
  case hold =>
    show ∃ t, Host.Outcome.next (s.barWrite m (pg page off) v) = _ ∧ _
    rw [barWrite_word v hbar h4096 hword, write32_of_admits v hpage hoff hblock hrow hfast hadm, regEffect_wideLo v hrw hlo h4096 hopen,
      errOffset_of_reg_eq _ _ _ _ (by rfl)]
    exact ⟨_, rfl, heldLo_setHeld .., rfl⟩
  case apply =>
    show ∃ t, Host.Outcome.next (s.barWrite m (pg page off) v) = _ ∧ _
    have hne : pg page (off - 4) ≠ pg page off := by simp only [pg]; omega
    have herr : ∀ o, 0x3C ≤ o → pg page 0x18 ≠ pg page o := fun o ho => by simp only [pg]; omega
    rw [barWrite_word v hbar h4096 hword, write32_of_admits v hpage hoff hblock hrow hfast hadm,
      regEffect_wideHi v hrw hhi h4096 (by omega) hopen (kind_ne_cis0 hpage hfast),
      errOffset_of_reg_eq _ _ _ _ (by rw [State.reg_setReg, if_neg (herr _ (by omega)), State.reg_setReg, if_neg (herr _ (by omega))]; rfl)]
    refine ⟨_, rfl, by simp, by simp [hne], fun x hx hx' => by simp [hx, hx']; rfl, ?_, rfl⟩
    exact heldLo_setHeld s m _ none
  case post =>
    have hpost := pageWrite_slow (s := s) (m := m) (pg page off) v false false (fun s => s.applyWrite m (pg page off) v false) hpage' hslow
      (by rw [hdiv]; exact hfree)
    rw [← write32_of_arrives v _ hpage' harr', ← barWrite_word v hbar h4096 hword, hdiv, pg_mod page off h4096] at hpost
    exact ⟨_, congrArg Host.Outcome.next hpost, congrArg Host.Outcome.next hpost, by simp, rfl⟩

/-! ### Posted writes and slow-domain edges -/

/-- What a store reads as after one function has changed the values of some keys. -/
theorem get_map_some {α : Type} (m : SMap (Option α)) (q : Nat → Bool) (f : α → α) (a : Nat) :
    SMap.get (fun _ => none) (m.map (fun e => if q e.1 then (e.1, e.2.map f) else e)) a =
      if q a then (SMap.get (fun _ => none) m a).map f else SMap.get (fun _ => none) m a := by
  induction m with
  | nil => simp [SMap.get]
  | cons e t ih =>
    obtain ⟨i, v⟩ := e
    have hkey : (if q i then (i, v.map f) else (i, v)).1 = i := by split_ifs <;> rfl
    rw [List.map_cons, SMap.get, hkey, ih, SMap.get]
    by_cases hi : i = a
    · subst hi
      by_cases hq : q i = true <;> simp [hq]
    · simp [hi]

theorem dueAt_slowEdge (s : State) (page a : Nat) (hup : s.coreUp = true) :
    (s.slowEdge page).dueAt a = if a / 4096 = page then (s.dueAt a).map (fun x => (true, x.2)) else s.dueAt a := by
  rw [State.slowEdge, if_neg (by simp [hup])]
  refine (get_map_some s.slowDue (fun k => k / 4096 == page) (fun x => (true, x.2)) a).trans ?_
  simp only [beq_iff_eq]
  rfl

/-- Settles O6. Both commands are one case split of the model; what an edge leaves of the strobed values is `dueAt_slowEdge`. -/
theorem postedWritesAndSlowEdges : Obligations.PostedWritesAndSlowEdges := by
  unfold Obligations.PostedWritesAndSlowEdges
  intro s page
  have hposted : exec (.postedWriteApply page) s = .next (if s.coreUp then s.postedApply page else s) := rfl
  have hedge : exec (.slowStrobeApply page) s = .next (s.slowEdge page) := rfl
  rw [hposted, hedge]
  refine ⟨fun p hup hp halias => ?plain, fun p hup hp halias => ?aliased, fun hnone => ?nothing, fun hdown => ?down, fun hup =>
    ⟨_, rfl, ?frame, fun a ha => ?others, fun a ha => ?strobed⟩⟩
  case plain => simp only [hup, State.postedApply, hp, halias]; rfl
  case aliased => simp only [hup, State.postedApply, hp, halias]; rfl
  case nothing =>
    rcases hnone with hdown | hnone
    · rw [hdown]; rfl
    · rw [State.postedApply, hnone, ite_self]
  case down => rw [State.slowEdge, hdown]; rfl
  case frame => rw [State.slowEdge, if_neg (by simp [hup])]
  case others => rw [dueAt_slowEdge s page a hup, if_neg ha]
  case strobed => rw [dueAt_slowEdge s page a hup, if_pos ha]

/-! ### Broadcasts to the digest lanes and bit aliases of their configuration -/

/-- LANE_CFG of digest lane `n` (R297). -/
abbrev laneCfg (n : Nat) : Nat := pg (0x40 + n) 0x40

/-- The row of LANE_CFG (R297). -/
def laneCfgRow : RegRow := reg 0x40 .rb 0 .c 0x3 .hart0

theorem row_laneCfg (n : Nat) : (lanePage n).row 0x40 = some laneCfgRow := rfl

theorem laneCfg_page (n : Nat) : laneCfg n / 4096 = 0x40 + n := pg_div _ _ (by omega)

theorem laneCfg_off (n : Nat) : laneCfg n % 4096 = 0x40 := pg_mod _ _ (by omega)

section
variable {s : State} {m : Master} {n : Nat}

/-- What an admitted write of LANE_CFG rests on: the lane is open to it. -/
theorem laneCfg_open (hn : n < 16) (h : s.admits m (laneCfg n) = true) :
    s.arrives m (0x40 + n) = true ∧ s.haltBars (laneCfg n) = false ∧ s.writeGate m (laneCfg n) = none := by
  simp only [State.admits, laneCfg_page, pageAt_lane n hn, Bool.and_eq_true, Bool.not_eq_true', Option.isNone_iff_eq_none] at h
  obtain ⟨⟨⟨harr, -⟩, hopen⟩, hgate⟩ := h
  exact ⟨harr, hopen, hgate⟩

theorem rbWrite_laneCfg (v : Word) : s.rbWrite m (lanePage n) (laneCfg n) v = s.setBuf (laneCfg n) (some v) :=
  rbWrite_fast _ _ (by simp [lanePage])

/-- A write of LANE_CFG that is admitted buffers the value (R47), in a broadcast as by itself. -/
theorem applyWrite_laneCfg (v : Word) (bcast : Bool) (hn : n < 16) (h : s.admits m (laneCfg n) = true) :
    s.applyWrite m (laneCfg n) v bcast = s.setBuf (laneCfg n) (some (v &&& 0x3)) := by
  obtain ⟨-, hopen, hgate⟩ := laneCfg_open hn h
  have hmod : laneCfg n % 4096 % (lanePage n).span = 0x40 := by rw [laneCfg_off]; rfl
  rw [applyWrite_taken (i := lanePage n) v bcast (by rw [laneCfg_page, pageAt_lane n hn]) (by rw [hmod]) (by rw [hmod, row_laneCfg])
    (by rw [hmod, laneCfg_page]; exact hopen) (by rw [hmod, laneCfg_page]; exact hgate), hmod, laneCfg_page,
    regEffect_rb v rfl (by simp [lanePage]), errOffset_setBuf]
  rfl

/-- A broadcast of LANE_CFG to the lanes of a list buffers its value in each, and in no other register. -/
theorem bufAt_foldl_laneCfg (v : Word) (l : List Nat) (a : Nat) : ∀ s : State,
    (l.foldl (fun (s : State) n => s.setBuf (laneCfg n) (some v)) s).bufAt a = if ∃ n ∈ l, a = laneCfg n then some v else s.bufAt a := by
  induction l with
  | nil => intro s; simp
  | cons n t ih =>
    intro s
    rw [List.foldl_cons, ih, State.bufAt_setBuf]
    by_cases ha : a = laneCfg n
    · simp [ha]
    · by_cases ht : ∃ k ∈ t, a = laneCfg k
      · simp [ha, ht]
      · simp [ha, ht]

/-- A broadcast reaches the lanes of a list one after the other, and each is as open as before (R75). -/
theorem foldl_pageWrite_laneCfg (v : Word) (l : List Nat) : ∀ s : State, (∀ n ∈ l, n < 16 ∧ s.admits m (laneCfg n) = true) →
    (l.map (0x40 + ·)).foldl (fun s p => s.pageWrite m (pg p 0x40) v false true (fun s => s.applyWrite m (pg p 0x40) v true)) s =
      l.foldl (fun (s : State) n => s.setBuf (laneCfg n) (some (v &&& 0x3))) s := by
  induction l with
  | nil => intro s _; rfl
  | cons n t ih =>
    intro s h
    obtain ⟨hn, hadm⟩ := h n List.mem_cons_self
    rw [List.map_cons, List.foldl_cons, List.foldl_cons,
      pageWrite_fast (i := lanePage n) _ _ _ _ _ (by rw [laneCfg_page, pageAt_lane n hn]) rfl, applyWrite_laneCfg v true hn hadm]
    exact ih _ fun k hk => h k (List.mem_cons_of_mem _ hk)

/-- A broadcast or group write of LANE_CFG that reaches the lanes `l` (R75). -/
theorem exec_broadcastWrite_lanes (v : Word) (page : Nat) (l : List Nat) (ms : List Nat × Option Nat) (harr : s.arrives m page = true)
    (hpage : page < 0x2000) (hms : bcastMembers page = some ms) (hl : s.membersOf ms = l.map (0x40 + ·))
    (hopen : ∀ n ∈ l, n < 16 ∧ s.admits m (laneCfg n) = true) :
    exec (.broadcastWrite m (pg page 0x40) v) s = .next (l.foldl (fun (s : State) n => s.setBuf (laneCfg n) (some (v &&& 0x3))) s) := by
  have hdiv := pg_div page 0x40 (by omega)
  have hmod := pg_mod page 0x40 (by omega)
  have htakes : s.takes m = true := by
    simp only [State.arrives, Bool.and_eq_true] at harr
    exact harr.1
  have hlive : (s.coreUp && isHart m && s.flr.replay == .running) = false := by
    rw [Bool.and_assoc, State.takes_replay s m htakes, Bool.and_false]
  show Host.Outcome.next (s.barWrite m (pg page 0x40) v) = _
  rw [barWrite_word v hpage (by omega) (by omega), State.write32, hlive, hdiv, harr, hms, hmod]
  dsimp only [Bool.not_true]
  rw [if_neg (by decide), if_neg (by decide), hl, foldl_pageWrite_laneCfg v l s hopen]

/-- The lanes that a write reaches leave every store but the buffered values. -/
theorem foldl_setBuf_frame (v : Word) (l : List Nat) (s : State) :
    l.foldl (fun (s : State) n => s.setBuf (laneCfg n) (some v)) s =
      { s with buf := (l.foldl (fun (s : State) n => s.setBuf (laneCfg n) (some v)) s).buf } := by
  refine List.foldlRecOn (motive := fun t : State => t = { s with buf := t.buf }) l _ rfl fun t ht n _ => ?_
  rw [ht]
  rfl

/-- Below the queue pages a page is reached by every master but a VF (R84, R85). -/
theorem reaches_low (m : Master) (page : Nat) (hpage : page < 0x100) : reaches m page = (!isPcie m || m.toNat - 0x10 == 0) := by
  have hlow : ¬vfPageBase < page := by simp only [vfPageBase]; omega
  have hqueues : ∀ v, decide (0x110 + 3 * (v - 1) ≤ page) = false := fun v => by simp only [decide_eq_false_iff_not]; omega
  simp only [reaches, if_neg hlow, hqueues, Bool.false_and, Bool.or_false]

theorem arrives_bcast (page : Nat) (h : s.arrives m 0x50 = true) (hpage : page < 0x100) : s.arrives m page = true := by
  simp only [State.arrives, Bool.and_eq_true] at h ⊢
  exact ⟨h.1, by rw [reaches_low m page hpage, ← reaches_low m 0x50 (by omega)]; exact h.2⟩

/-! ### Bit aliases -/

/-- An alias write of LANE_CFG changes one bit of the value that waits (R29, R56). -/
theorem aliasApply_laneCfg (b : Nat) (x : Bool) (hn : n < 16) (h : s.admits m (laneCfg n) = true) :
    s.aliasApply m (laneCfg n) b x = s.setBuf (laneCfg n) (some (Word.setBit (s.rbWaiting (laneCfg n)) b x &&& 0x3)) := by
  obtain ⟨-, hopen, hgate⟩ := laneCfg_open hn h
  have hmod : 0x40 % (lanePage n).span = 0x40 := rfl
  have heff : s.aliasEffect m (0x40 + n) (lanePage n) 0x40 laneCfgRow b x =
      s.setBuf (laneCfg n) (some (Word.setBit (s.rbWaiting (laneCfg n)) b x &&& 0x3)) :=
    rbWrite_laneCfg _
  have hnot : ¬(laneCfgRow.code = .ea ∨ laneCfgRow.code = .w1 ∨ ((lanePage n).kind = .boot1 ∧ 0x80 ≤ 0x40)) := by simp [laneCfgRow, reg, lanePage]
  simp only [State.aliasApply, laneCfg_page, laneCfg_off, pageAt_lane n hn, hmod, hopen, hgate, row_laneCfg, if_neg hnot, heff]
  exact errOffset_setBuf ..

theorem exec_bitAliasWrite_laneCfg (b : Nat) (v : Word) (hn : n < 16) (hb : b < 2) (harr : s.arrives m 0 = true)
    (h : s.admits m (laneCfg n) = true) :
    exec (.bitAliasWrite m (laneCfg n * 32 + 4 * b) v) s =
      .next (s.setBuf (laneCfg n) (some (Word.setBit (s.rbWaiting (laneCfg n)) b (v.getLsbD 0) &&& 0x3))) := by
  have htakes : s.takes m = true := by
    simp only [State.arrives, Bool.and_eq_true] at harr
    exact harr.1
  have hlive : (s.coreUp && isHart m && s.flr.replay == .running) = false := by
    rw [Bool.and_assoc, State.takes_replay s m htakes, Bool.and_false]
  have hword : (laneCfg n * 32 + 4 * b) / 4 * 4 = laneCfg n * 32 + 4 * b := by omega
  have hof : aliasOf (laneCfg n * 32 + 4 * b) = (laneCfg n, b) := by
    simp only [aliasOf, laneCfg, pg, Prod.mk.injEq]
    omega
  have hcan : aliasable (laneCfg n * 32 + 4 * b) = true := by
    have hin : laneCfg n * 32 + 4 * b < 2 ^ 26 := by simp only [laneCfg, pg]; omega
    simp only [aliasable, hof, laneCfg_page, pageAt_lane n hn, lanePage, Bool.true_and, decide_eq_true hin]
  show Host.Outcome.next (s.aliasWrite m ((laneCfg n * 32 + 4 * b) / 4 * 4) v) = _
  rw [hword, State.aliasWrite, hlive, harr, hcan]
  dsimp only [Bool.not_true]
  rw [hof, if_neg (by decide), if_neg (by decide), if_neg (by decide),
    pageWrite_fast (i := lanePage n) _ _ _ _ _ (by rw [laneCfg_page, pageAt_lane n hn]) rfl, aliasApply_laneCfg b _ hn h]
  rfl

end

/-- Settles O7. A broadcast is a row of writes of LANE_CFG (`exec_broadcastWrite_lanes`), each of which buffers its value
(`applyWrite_laneCfg`); an alias write buffers the waiting value with one bit changed (`aliasApply_laneCfg`). -/
theorem broadcastsReachTheirMembersAndAliasesOneBit : Obligations.BroadcastsReachTheirMembersAndAliasesOneBit := by
  unfold Obligations.BroadcastsReachTheirMembersAndAliasesOneBit
  intro s m v harr hopen
  refine ⟨?all, fun g hg => ?group, fun n b hn hb => ?aliased, fun a w => ⟨fun hw => ?buffered, fun e hb hd => ?strobed, fun hb hd => ?active⟩⟩
  case all =>
    have hl : s.membersOf ((List.range 16).map (0x40 + ·), none) = (List.range 16).map (0x40 + ·) := rfl
    rw [exec_broadcastWrite_lanes v 0x50 (List.range 16) _ harr (by omega) rfl hl
      fun n hn => ⟨List.mem_range.mp hn, hopen n (List.mem_range.mp hn)⟩]
    refine ⟨_, rfl, foldl_setBuf_frame _ _ s, fun n hn => ?_, fun a ha => ?_⟩
    · rw [bufAt_foldl_laneCfg, if_pos ⟨n, List.mem_range.mpr hn, rfl⟩]
    · rw [bufAt_foldl_laneCfg, if_neg]
      rintro ⟨n, hn, rfl⟩
      exact ha n (List.mem_range.mp hn) rfl
  case group =>
    have hms : bcastMembers (0x51 + g) = some ((List.range 16).map (0x40 + ·), some g) := by
      have hg' : 0x51 + g - 0x51 = g := by omega
      rw [bcastMembers, if_neg (by omega), if_pos (by omega), hg']
    have hl : s.membersOf ((List.range 16).map (0x40 + ·), some g) =
        ((List.range 16).filter (fun n => s.bitOf (pg (0x40 + n) 0x14) g)).map (0x40 + ·) :=
      List.filter_map
    rw [exec_broadcastWrite_lanes v (0x51 + g) _ _ (arrives_bcast _ harr (by omega)) (by omega) hms hl fun n hn =>
      ⟨List.mem_range.mp (List.mem_filter.mp hn).1, hopen n (List.mem_range.mp (List.mem_filter.mp hn).1)⟩]
    refine ⟨_, rfl, foldl_setBuf_frame _ _ s, fun n hn => ?_⟩
    rw [bufAt_foldl_laneCfg]
    simp [hn]
  case aliased =>
    rw [exec_bitAliasWrite_laneCfg b v hn hb (arrives_bcast 0 harr (by omega)) (hopen n hn)]
    exact ⟨_, rfl, rfl, by simp, fun a ha => by rw [State.bufAt_setBuf, if_neg ha]⟩
  case buffered => rw [State.rbWaiting, hw]
  case strobed => rw [State.rbWaiting, hb, hd]
  case active => rw [State.rbWaiting, hb, hd]

end Sys2Proof.Machine
end

section
/-! PROOFS. Update strobes and the armed strobe (R47, R49, R52 to R54), and what the levels of the hold lines move when they are looked at anew
(R104, R177). -/
namespace Sys2Proof.Machine

/-! ### What a look at the hold lines changes -/

/-- `t` differs from `s` at most in the ports, event delivery and the flight recorder (R177, R251, R624). -/
def State.portsFrame (s t : State) : Prop := t = { s.recorded t with ports := t.ports }

theorem portsFrame_refl (s : State) : s.portsFrame s := rfl

section
variable {r s : State}

theorem portsFrame_trans {t : State} (hrs : r.portsFrame s) (hst : s.portsFrame t) : r.portsFrame t :=
  Eq.trans hst (congrArg (fun x : State => { x.recorded t with ports := t.ports }) hrs)

theorem portsFrame_modPort (h : r.portsFrame s) (p : Nat) (f : PortState → PortState) : r.portsFrame (s.modPort p f) :=
  portsFrame_trans h rfl

theorem portsFrame_setPort (h : r.portsFrame s) (p : Nat) (q : PortState) : r.portsFrame (s.setPort p q) := portsFrame_trans h rfl

theorem portsFrame_flight (h : r.portsFrame s) (type : Nat) (src : Master) (body : Bytes) : r.portsFrame (s.flight type src body) :=
  portsFrame_trans h (by apply State.ext <;> simp [State.recorded, State.routed])

theorem portsFrame_count (h : r.portsFrame s) (k : Nat) : r.portsFrame (s.count k) :=
  portsFrame_trans h (by apply State.ext <;> simp [State.recorded, State.routed])

theorem portsFrame_foldl {α : Type} (f : State → α → State) (hf : ∀ (s : State) (x : α), s.portsFrame (f s x)) (l : List α)
    (h : r.portsFrame s) : r.portsFrame (l.foldl f s) :=
  List.foldlRecOn (motive := r.portsFrame) l f h fun t ht x _ => portsFrame_trans ht (hf t x)

theorem portsFrame_stitchBreak (h : r.portsFrame s) (p : Nat) : r.portsFrame (s.stitchBreak p) := by
  unfold State.stitchBreak
  dsimp only
  have hpart : ∀ c : Bool, r.portsFrame (if c then s.modPort p (fun q => q.partCov (s.port p).stitch.blk.region) else s) := fun c => by
    split_ifs
    · exact portsFrame_modPort h _ _
    · exact h
  by_cases hopen : (s.port p).stitch.isOpen = true
  · rw [if_neg (by simp [hopen])]
    exact portsFrame_flight (portsFrame_modPort (hpart _) _ _) _ _ _
  · rw [if_pos (by simpa using hopen)]
    exact h

theorem portsFrame_silence (h : r.portsFrame s) (p : Nat) : r.portsFrame (s.silence p) := by
  unfold State.silence
  split_ifs
  · exact portsFrame_modPort (portsFrame_stitchBreak h p) _ _
  · exact h

theorem portsFrame_silences (h : r.portsFrame s) (l : List Nat) : r.portsFrame (l.foldl State.silence s) :=
  portsFrame_foldl State.silence (fun t p => portsFrame_silence (portsFrame_refl t) p) l h

theorem portsFrame_silenceHeld (h : r.portsFrame s) : r.portsFrame s.silenceHeld := by
  refine portsFrame_foldl _ (fun t p => ?_) _ h
  split_ifs
  · exact portsFrame_silence (portsFrame_refl t) p
  · exact portsFrame_refl t

theorem portsFrame_wakeScrub (h : r.portsFrame s) (p : Nat) : r.portsFrame (s.wakeScrub p) := by
  unfold State.wakeScrub State.newPass
  split_ifs
  · dsimp only
    split <;> exact portsFrame_setPort h _ _
  · exact h

end

theorem prst_of_portsFrame {s t : State} (h : s.portsFrame t) : t.prst = s.prst := by rw [h]; rfl

/-- `t` differs from `s` at most in the ports, the lines' releases, event delivery and the flight recorder (R104, R177, R251, R624). -/
def State.holdFrame (s t : State) : Prop :=
  t = { s.recorded t with
        ports := t.ports, prst := { s.prst with released := t.prst.released, refLine := t.prst.refLine } }

theorem holdFrame_refl (s : State) : s.holdFrame s := rfl

theorem holdFrame_of_portsFrame {s t : State} (h : s.portsFrame t) : s.holdFrame t :=
  h.trans (by rw [prst_of_portsFrame h]; rfl)

section
variable {r s : State}

theorem holdFrame_trans {t : State} (hrs : r.holdFrame s) (hst : s.holdFrame t) : r.holdFrame t :=
  Eq.trans hst (congrArg (fun x : State => { x.recorded t with
    ports := t.ports, prst := { x.prst with released := t.prst.released, refLine := t.prst.refLine } }) hrs)

theorem holdFrame_foldl {α : Type} (f : State → α → State) (hf : ∀ (s : State) (x : α), s.holdFrame (f s x)) (l : List α) (h : r.holdFrame s) :
    r.holdFrame (l.foldl f s) :=
  List.foldlRecOn (motive := r.holdFrame) l f h fun t ht x _ => holdFrame_trans ht (hf t x)

theorem holdFrame_holdAssert (h : r.holdFrame s) (i : Nat) : r.holdFrame (s.holdAssert i) := by
  have hlow : r.holdFrame (s.modPrst (fun p => { p with released := putBit p.released i false })) := holdFrame_trans h rfl
  exact holdFrame_trans hlow (holdFrame_of_portsFrame (portsFrame_silences (portsFrame_refl _) _))

theorem holdFrame_refHeld (h : r.holdFrame s) : r.holdFrame s.refHeld := by
  unfold State.refHeld
  split
  · split_ifs
    · exact holdFrame_trans h rfl
    · exact h
  · exact h

theorem holdFrame_holdCheck (h : r.holdFrame s) : r.holdFrame s.holdCheck := by
  refine holdFrame_foldl _ (fun t i => ?_) _ (holdFrame_refHeld h)
  split_ifs
  · exact holdFrame_holdAssert (holdFrame_refl t) i
  · exact holdFrame_refl t

theorem holdFrame_silenceHeld (h : r.holdFrame s) : r.holdFrame s.silenceHeld :=
  holdFrame_trans h (holdFrame_of_portsFrame (portsFrame_silenceHeld (portsFrame_refl s)))

theorem holdFrame_wakeScrub (h : r.holdFrame s) (p : Nat) : r.holdFrame (s.wakeScrub p) :=
  holdFrame_trans h (holdFrame_of_portsFrame (portsFrame_wakeScrub (portsFrame_refl s) p))

end

theorem regs_of_holdFrame {s t : State} (h : s.holdFrame t) : t.regs = s.regs := by rw [h]; rfl
theorem buf_of_holdFrame {s t : State} (h : s.holdFrame t) : t.buf = s.buf := by rw [h]; rfl
theorem arm_of_holdFrame {s t : State} (h : s.holdFrame t) : t.arm = s.arm := by rw [h]; rfl

/-! ### Buffered values become active -/

/-- A value that applies leaves the buffer; in a fast page it is the active one then, and nothing but that register and the armed strobe's
state concerns us of the rest (R49). -/
theorem bufApply_spec (s : State) (i : PageInfo) (a : Nat) (v : Word) :
    (s.bufApply i a v).buf = (s.setBuf a none).buf ∧ (s.bufApply i a v).regs = (if i.slow then s.regs else (s.setReg a v).regs) ∧
      (s.bufApply i a v).arm = s.arm := by
  have hscrub : ∀ p, ((s.setBuf a none).setReg a v).holdFrame (((s.setBuf a none).setReg a v).wakeScrub p) :=
    fun p => holdFrame_wakeScrub (holdFrame_refl _) p
  unfold State.bufApply
  dsimp only
  by_cases hslow : i.slow = true
  · simp only [if_pos hslow]
    exact ⟨rfl, rfl, rfl⟩
  · simp only [if_neg hslow]
    split
    · split_ifs <;> exact ⟨rfl, rfl, rfl⟩
    · exact ⟨(buf_of_holdFrame (hscrub _)).trans rfl, (regs_of_holdFrame (hscrub _)).trans rfl, (arm_of_holdFrame (hscrub _)).trans rfl⟩
    · exact ⟨rfl, rfl, rfl⟩

/-- A buffered value, if the entry holds one, applies. -/
def State.bufApplyEntry (i : PageInfo) (s : State) (e : Nat × Option Word) : State :=
  match e.2 with
  | some v => s.bufApply i e.1 v
  | none => s

theorem bufApplyAll_of_pageAt {s : State} {page : Nat} {i : PageInfo} (h : pageAt page = some i) :
    s.bufApplyAll page = (s.buf.filter (fun e => e.1 / 4096 == page)).foldl (State.bufApplyEntry i) s := by
  simp only [State.bufApplyAll, h]
  rfl

theorem get_of_lt_keys (l : SMap (Option Word)) (b : Nat) (h : ∀ e ∈ l, b < e.1) : SMap.get (fun _ => none) l b = none := by
  induction l with
  | nil => rfl
  | cons e t ih =>
    have hne : e.1 ≠ b := fun heq => absurd (h e List.mem_cons_self) (by omega)
    rw [SMap.get, if_neg hne]
    exact ih fun x hx => h x (List.mem_cons_of_mem _ hx)

/-- Entries of different registers apply one after the other: each register takes its own value, and its buffer empties (R49). -/
theorem foldl_bufApplyEntry (i : PageInfo) (l : SMap (Option Word)) : ∀ s : State, SMap.sorted l = true → ∀ b,
    (l.foldl (State.bufApplyEntry i) s).reg b =
        (if i.slow then s.reg b else (SMap.get (fun _ => none) l b).getD (s.reg b)) ∧
      (l.foldl (State.bufApplyEntry i) s).bufAt b = (if (SMap.get (fun _ => none) l b).isSome then none else s.bufAt b) := by
  induction l with
  | nil => intro s _ b; simp [SMap.get]
  | cons e t ih =>
    obtain ⟨a, v⟩ := e
    intro s hsorted b
    simp only [SMap.sorted, Bool.and_eq_true, List.all_eq_true, decide_eq_true_eq] at hsorted
    obtain ⟨hfirst, hrest⟩ := hsorted
    rw [List.foldl_cons, (ih _ hrest b).1, (ih _ hrest b).2, SMap.get]
    cases v with
    | none =>
      by_cases hab : a = b
      · subst hab
        simp [get_of_lt_keys t a hfirst, State.bufApplyEntry]
      · simp [hab, State.bufApplyEntry]
    | some v =>
      obtain ⟨hbuf, hregs, -⟩ := bufApply_spec s i a v
      have hreg : (State.bufApplyEntry i s (a, some v)).reg b = if i.slow then s.reg b else (s.setReg a v).reg b := by
        rw [State.reg, State.bufApplyEntry, hregs]
        split_ifs <;> rfl
      have hbufAt : (State.bufApplyEntry i s (a, some v)).bufAt b = if b = a then none else s.bufAt b := by
        rw [State.bufAt, State.bufApplyEntry, hbuf, ← State.bufAt_setBuf]
        rfl
      rw [hreg, hbufAt]
      by_cases hab : a = b
      · subst hab
        simp [get_of_lt_keys t a hfirst]
      · have hba : b ≠ a := fun h => hab h.symm
        by_cases hslow : i.slow = true <;> simp [hab, hba, hslow]

theorem sorted_buf_foldl (i : PageInfo) (l : SMap (Option Word)) (s : State) (h : SMap.wf (fun _ => none) s.buf = true) :
    SMap.wf (fun _ => none) (l.foldl (State.bufApplyEntry i) s).buf = true := by
  refine List.foldlRecOn (motive := fun t : State => SMap.wf (fun _ => none) t.buf = true) l _ h fun t ht e _ => ?_
  unfold State.bufApplyEntry
  split
  · rw [(bufApply_spec t i _ _).1]
    exact SMap.wf_set (fun _ => none) t.buf _ none ht
  · exact ht

/-- All buffered values of a page become active (R49). -/
theorem bufApplyAll_spec (s : State) (page : Nat) (i : PageInfo) (hpage : pageAt page = some i) (hfast : i.slow = false)
    (hwf : SMap.wf (fun _ => none) s.buf = true) (b : Nat) :
    (s.bufApplyAll page).reg b = (if b / 4096 = page then (s.bufAt b).getD (s.reg b) else s.reg b) ∧
      (s.bufApplyAll page).bufAt b = (if b / 4096 = page then none else s.bufAt b) := by
  have hsorted : SMap.sorted s.buf = true := by
    simp only [SMap.wf, Bool.and_eq_true] at hwf
    exact hwf.1
  have hget := SMap.get_filter (fun _ => none) s.buf (fun a => a / 4096 == page) b
  have hfold := foldl_bufApplyEntry i _ s (SMap.sorted_filter (fun e : Nat × Option Word => e.1 / 4096 == page) s.buf hsorted) b
  rw [bufApplyAll_of_pageAt hpage, hfold.1, hfold.2, hget, hfast]
  by_cases hb : b / 4096 = page
  · cases hv : s.bufAt b <;> simp_all [State.bufAt]
  · simp [hb]

theorem bufApplyAll_others (s : State) (page : Nat) (hwf : SMap.wf (fun _ => none) s.buf = true) (b : Nat) (hb : b / 4096 ≠ page) :
    (s.bufApplyAll page).reg b = s.reg b ∧ (s.bufApplyAll page).bufAt b = s.bufAt b := by
  cases hpage : pageAt page with
  | none => simp [State.bufApplyAll, hpage]
  | some i =>
    have hsorted : SMap.sorted s.buf = true := by
      simp only [SMap.wf, Bool.and_eq_true] at hwf
      exact hwf.1
    have hget := SMap.get_filter (fun _ => none) s.buf (fun a => a / 4096 == page) b
    have hfold := foldl_bufApplyEntry i _ s (SMap.sorted_filter (fun e : Nat × Option Word => e.1 / 4096 == page) s.buf hsorted) b
    rw [bufApplyAll_of_pageAt hpage, hfold.1, hfold.2, hget]
    simp [hb]

theorem wf_buf_bufApplyAll (s : State) (page : Nat) (hwf : SMap.wf (fun _ => none) s.buf = true) :
    SMap.wf (fun _ => none) (s.bufApplyAll page).buf = true := by
  cases hpage : pageAt page with
  | none => simpa [State.bufApplyAll, hpage] using hwf
  | some i => rw [bufApplyAll_of_pageAt hpage]; exact sorted_buf_foldl i _ s hwf

/-- What strobed pages do to the registers of one fast page (R49). -/
theorem foldl_bufApplyAll (i : PageInfo) (b : Nat) (hpage : pageAt (b / 4096) = some i) (hfast : i.slow = false) (l : List Nat) :
    ∀ s : State, SMap.wf (fun _ => none) s.buf = true →
      (l.foldl State.bufApplyAll s).reg b = (if b / 4096 ∈ l then (s.bufAt b).getD (s.reg b) else s.reg b) ∧
        (l.foldl State.bufApplyAll s).bufAt b = (if b / 4096 ∈ l then none else s.bufAt b) := by
  induction l with
  | nil => intro s _; simp
  | cons p t ih =>
    intro s hwf
    rw [List.foldl_cons, (ih _ (wf_buf_bufApplyAll s p hwf)).1, (ih _ (wf_buf_bufApplyAll s p hwf)).2]
    by_cases hb : b / 4096 = p
    · obtain ⟨hreg, hbuf⟩ := bufApplyAll_spec s p i (hb ▸ hpage) hfast hwf b
      rw [hreg, hbuf]
      simp [hb]
    · obtain ⟨hreg, hbuf⟩ := bufApplyAll_others s p hwf b hb
      rw [hreg, hbuf]
      simp [hb]

/-! ### A strobe -/

theorem mem_bufferedPages_lane (n : Nat) (h : n < 16) : 0x40 + n ∈ bufferedPages := by
  simp only [bufferedPages, List.mem_append, List.mem_map, List.mem_range]
  exact .inl (.inr ⟨n, h, rfl⟩)

/-- What a strobe does to a register of a digest lane: in a strobed group its buffered value applies, in another nothing changes (R49). -/
theorem strobe_lane (s : State) (v : Word) (hwf : SMap.wf (fun _ => none) s.buf = true) (n off : Nat) (hn : n < 16) (hoff : off < 4096) :
    (s.strobe v).reg (pg (0x40 + n) off) =
        (if Word.bit v (s.ugroup (0x40 + n)) then (s.bufAt (pg (0x40 + n) off)).getD (s.reg (pg (0x40 + n) off)) else s.reg (pg (0x40 + n) off)) ∧
      (s.strobe v).bufAt (pg (0x40 + n) off) = (if Word.bit v (s.ugroup (0x40 + n)) then none else s.bufAt (pg (0x40 + n) off)) := by
  have hpage := pg_div (0x40 + n) off hoff
  have hmem : 0x40 + n ∈ bufferedPages.filter (fun p => Word.bit v (s.ugroup p)) ↔ Word.bit v (s.ugroup (0x40 + n)) = true := by
    simp [List.mem_filter, mem_bufferedPages_lane n hn]
  have hfold := foldl_bufApplyAll (lanePage n) (pg (0x40 + n) off) (by rw [hpage, pageAt_lane n hn]) rfl
    (bufferedPages.filter (fun p => Word.bit v (s.ugroup p))) s hwf
  have hheld := holdFrame_silenceHeld (holdFrame_holdCheck (holdFrame_refl
    ((bufferedPages.filter (fun p => Word.bit v (s.ugroup p))).foldl State.bufApplyAll s)))
  simp only [hpage, hmem] at hfold
  rw [← hfold.1, ← hfold.2]
  exact ⟨congrArg (SMap.get resetAt · _) (regs_of_holdFrame hheld), congrArg (SMap.get (fun _ => none) · _) (buf_of_holdFrame hheld)⟩

theorem arm_bufApplyAll (s : State) (page : Nat) : (s.bufApplyAll page).arm = s.arm := by
  cases hpage : pageAt page with
  | none => simp [State.bufApplyAll, hpage]
  | some i =>
    rw [bufApplyAll_of_pageAt hpage]
    refine List.foldlRecOn (motive := fun t : State => t.arm = s.arm) _ _ rfl fun t ht e _ => ?_
    unfold State.bufApplyEntry
    split
    · exact (bufApply_spec t i _ _).2.2.trans ht
    · exact ht

/-- A strobe leaves the armed strobe's state (R49, R53). -/
theorem arm_strobe (s : State) (v : Word) : (s.strobe v).arm = s.arm := by
  refine (arm_of_holdFrame (holdFrame_silenceHeld (holdFrame_holdCheck (holdFrame_refl _)))).trans ?_
  exact List.foldlRecOn (motive := fun t : State => t.arm = s.arm) _ _ rfl fun t ht p _ => (arm_bufApplyAll t p).trans ht

/-! ### The armed strobe -/

/-- The armed strobe that ARM makes of mask and position (R52). -/
def State.armCopy (s : State) : ArmState :=
  { st := if posAhead (s.reg (pg 1 0x50)).toNat ((s.reg (pg 1 0x54)).toNat % 65536) s.cis.hc s.cis.lu then .armed else .refused,
    mask := s.reg (pg 1 0x48), hc := (s.reg (pg 1 0x50)).toNat, lu := (s.reg (pg 1 0x54)).toNat % 65536 }

theorem updArm_of_free (s : State) (m : Master) (h : s.arm.st ≠ .armed) :
    s.updArm m = if s.armCopy.st = .armed then { s with arm := s.armCopy } else ({ s with arm := s.armCopy }).count (evSys 4) := by
  have hlu : s.fldOf (pg 1 0x54) 15 0 = (s.reg (pg 1 0x54)).toNat % 65536 := by simp [State.fldOf, Word.field]
  rw [State.updArm, if_neg h]
  simp only [hlu, State.ahead, State.armCopy]
  split_ifs with hahead hst hst
  · rfl
  · exact absurd rfl hst
  · exact absurd hst (by decide)
  · rfl

theorem arm_updArm (s : State) (m : Master) (h : s.arm.st ≠ .armed) : (s.updArm m).arm = s.armCopy := by
  rw [updArm_of_free s m h]
  split_ifs
  · rfl
  · simp

theorem exec_updStrobe (s : State) (m : Master) (v : Word) (h : s.admits m (pg 1 0x40) = true) :
    exec (.updStrobe m v) s = .next (s.strobe v) :=
  congrArg _ (State.guarded_of_admits s m _ _ h)

theorem exec_updArm (s : State) (m : Master) (h : s.admits m (pg 1 0x58) = true) : exec (.updArm m) s = .next (s.updArm m) :=
  congrArg _ (State.guarded_of_admits s m _ _ h)

theorem exec_updCancel (s : State) (m : Master) (h : s.admits m (pg 1 0x58) = true) : exec (.updCancel m) s = .next s.updCancel :=
  congrArg _ (State.guarded_of_admits s m _ _ h)

/-- Settles O8. A strobe applies the pages of its groups one after the other (`strobe_lane`), and the hold lines that it moves touch no register
(`holdFrame_holdCheck`). -/
theorem strobesApplyGroupsAndArmedStrobesFire : Obligations.StrobesApplyGroupsAndArmedStrobesFire := by
  unfold Obligations.StrobesApplyGroupsAndArmedStrobesFire
  refine ⟨fun s m v h hwf => ⟨_, exec_updStrobe s m v h, fun n off w hn hoff hw hgroup => ?strobed, fun n off hn hoff hgroup => ?others⟩,
    fun s m h hfree => ⟨_, exec_updArm s m h, ?copied, ?frame, fun harmed => ?armed⟩, fun s m h harmed => ?cancelled,
    fun s hup harmed hreached => ?fired⟩
  case strobed =>
    obtain ⟨hreg, hbuf⟩ := strobe_lane s v hwf n off hn hoff
    rw [hreg, hbuf, if_pos hgroup, if_pos hgroup, hw]
    exact ⟨rfl, rfl⟩
  case others =>
    obtain ⟨hreg, hbuf⟩ := strobe_lane s v hwf n off hn hoff
    rw [hreg, hbuf, hgroup]
    exact ⟨rfl, rfl⟩
  case copied =>
    exact arm_updArm s m hfree
  case frame =>
    rw [updArm_of_free s m hfree]
    split_ifs
    · rfl
    · rw [State.count_routed]
      rfl
  case armed =>
    rw [updArm_of_free s m hfree] at harmed ⊢
    split_ifs at harmed ⊢ with hst
    · rfl
    · exact absurd (by simpa using harmed) hst
  case cancelled => rw [exec_updCancel s m h, State.updCancel, if_pos harmed]
  case fired =>
    have hcount : ((s.strobe s.arm.mask).count (evSys 2)).arm = s.arm := by simp [arm_strobe]
    show Host.Outcome.next _ = _
    rw [if_pos (by simp [hup, harmed, State.reached, hreached])]
    simp only [hcount]

end Sys2Proof.Machine
end

section
/-! PROOFS. The loss of PWR_OK with the core down (R594, R647): what came with its rise is forgotten. -/
namespace Sys2Proof.Machine

/-- What a rise of PWR_OK has brought with it while the core is down. -/
def calmRise : PowerUpEnv := { selfTestFails := false, photodiodeFails := false, rearmHeld := false, live := 0 }

/-- The device waits for CORE_EN in RETAIN, PWR_OK has risen, and what came with it stands (R647). -/
def sRisen : State := { State.reset with pwr := { State.reset.pwr with pwrOk := true, power := .retain, riseEnv := some calmRise } }

theorem exec_pwrOkLoss_coreDown (s : State) (hok : s.pwr.pwrOk = true) (hdown : s.coreUp = false) :
    exec .pwrOkLoss s = .next (s.modPwr (fun p => { p with pwrOk := false, riseEnv := none })) := by
  show Host.Outcome.next _ = _
  rw [if_neg (by simp [hok]), if_neg (by simp [hdown])]

/-- Refutes O9: with the core down the fall of PWR_OK also drops what its rise had brought (`riseEnv`), and the last clause says that it
changes PWR_OK only. In `sRisen` something stands to be dropped. -/
theorem not_railsComeAndGo : ¬ Obligations.RailsComeAndGo := by
  unfold Obligations.RailsComeAndGo
  rintro ⟨-, -, -, hclause⟩
  have hnext := hclause sRisen rfl rfl
  rw [exec_pwrOkLoss_coreDown sRisen rfl rfl] at hnext
  have hdropped : (none : Option PowerUpEnv) = some calmRise := congrArg (fun s : State => s.pwr.riseEnv) (Host.Outcome.next.inj hnext)
  cases hdropped

end Sys2Proof.Machine
end

section
/-! PROOFS. Releases that meet the digest lanes (R133, R139, R279, R291, R301): an abandoned release drops the checker's job, and a release whose
body no lane may hash waits. -/
namespace Sys2Proof.Machine

/-- The ROM runs, with the wipe behind it. -/
def sInRom : State := { State.reset with boot := { State.reset.boot with wipePending := false } }

/-- A released runtime in life-cycle state OWNED. -/
def sRuntime : State :=
  { sInRom with boot := { sInRom.boot with rtReleased := true }, lcf := { State.reset.lcf with eff := some .owned } }

/-- Hart 0 owns a window, and a job of the checker's context waits in the ready list. -/
def sStageJob : State :=
  { sRuntime with
    boot := { sRuntime.boot with owner := 0, rel := .owned }
    dgl := { sRuntime.dgl with ready := [permJob 32 1 0] } }

theorem exec_releaseAbandon (s : State) (m : Master) (h : s.admits m (aBoot1 0x54) = true) :
    exec (.releaseAbandon m) s = .next (s.relAbandon m) :=
  congrArg _ (State.guarded_of_admits s m _ _ h)

theorem ready_relAbandon_sStageJob : (sStageJob.relAbandon 0).dgl.ready = [] := by decide

/-- Refutes O12: ABANDON also takes the checker's job off the ready list, and its clause says that nothing but the window and event delivery
changes. In `sStageJob` such a job waits. -/
theorem not_stagingWindowCommandsServeTheirOwner : ¬ Obligations.StagingWindowCommandsServeTheirOwner := by
  unfold Obligations.StagingWindowCommandsServeTheirOwner
  intro h
  have hadm : sStageJob.admits 0 (aBoot1 0x54) = true := by decide
  obtain ⟨-, -, hclause⟩ := h sStageJob 0
  obtain ⟨-, t, ht, -, -, -, -, -, -, hframe⟩ := hclause (by decide) hadm rfl rfl
  obtain rfl : sStageJob.relAbandon 0 = t := Host.Outcome.next.inj ((exec_releaseAbandon sStageJob 0 hadm).symm.trans ht)
  have hready : (sStageJob.relAbandon 0).dgl.ready = sStageJob.dgl.ready :=
    (congrArg (fun s : State => s.dgl.ready) hframe).trans rfl
  rw [ready_relAbandon_sStageJob] at hready
  exact absurd hready (by decide)

/-- The checker runs on a window of an agent whose manifest is short, while the lanes run down to RETAIN (R598). -/
def sCheckNoLane : State :=
  { sInRom with
    boot := { sInRom.boot with owner := 0x20, rel := .checking }
    pwr := { sInRom.pwr with pending := some .retain } }

/-- With no lane for permanent contexts a release stays where it is (R291). -/
theorem exec_releaseCheckDone_noLane (s : State) (h : s.permOn = false) : exec .releaseCheckDone s = .next s := by
  show Host.Outcome.next _ = _
  rw [if_neg (by simp [h])]

/-- Refutes O13: while no lane may hash the body the release goes on checking, and the first clause has every check that fails refuse it. In
`sCheckNoLane` the first check would fail. -/
theorem not_releasesPassTheirChecksOrAreRefused : ¬ Obligations.ReleasesPassTheirChecksOrAreRefused := by
  unfold Obligations.ReleasesPassTheirChecksOrAreRefused
  intro h
  obtain ⟨t, ht, hrefused, -⟩ := (h sCheckNoLane).1 (by decide) rfl (by decide)
  obtain rfl : sCheckNoLane = t := Host.Outcome.next.inj ((exec_releaseCheckDone_noLane sCheckNoLane (by decide)).symm.trans ht)
  have hrel : sCheckNoLane.boot.rel = .refused := (hrefused 1 stLengthShort (by decide)).1
  exact absurd hrel (by decide)

end Sys2Proof.Machine
end

section
/-! PROOFS. BOOT_STAGE, push mode and the ROM's fetch of a body (R123, R128, R131, R140, R141, R152). -/
namespace Sys2Proof.Machine

/-! ### Fields of a word -/

theorem field_or (a b : Word) (hi lo : Nat) : Word.field (a ||| b) hi lo = Word.field a hi lo ||| Word.field b hi lo := by
  simp only [Word.field, BitVec.toNat_or, Nat.shiftRight_or_distrib, Nat.or_mod_two_pow]

/-- What stands in the high half does not show in the low one. -/
theorem field_low_of_high (n : Nat) : Word.field (fld n 16) 15 0 = 0 := by
  simp only [Word.field, fld, BitVec.toNat_ofNat, Nat.shiftRight_zero]
  omega

/-- STAGE and FAIL of a BOOT_STAGE word (R140). -/
theorem field_stageWord (code slot : Nat) (h : code < 256) :
    Word.field (wd 0x0E ||| fld code 8 ||| fld slot 16) 15 0 = code * 256 + 0x0E := by
  have hcode : Word.field (fld code 8) 15 0 = code * 256 := by
    simp only [Word.field, fld, BitVec.toNat_ofNat, Nat.shiftRight_zero]
    omega
  have hbits : code * 256 + 0x0E = 0x0E ||| code * 256 := by
    have hor := Nat.two_pow_add_eq_or_of_lt (i := 8) (b := 0x0E) (by omega) code
    rw [Nat.or_comm, Nat.mul_comm]
    exact hor
  rw [field_or, field_or, field_low_of_high, hcode, Nat.or_zero, hbits]
  rfl

theorem field_setField_low (w : Word) (v : Nat) (h : v < 256) : Word.field (Word.setField w 7 0 v) 7 0 = v := by
  simp only [Word.setField, Word.field, BitVec.toNat_ofNat, Nat.shiftRight_zero]
  omega

/-! ### Flight records count no event but the recorder's -/

theorem evt_putRec_other (s : State) (r : FlrRec) (k : Nat) (h0 : k ≠ evFlr 0) (h2 : k ≠ evFlr 2) : (s.putRec r).evt k = s.evt k := by
  unfold State.putRec
  dsimp only
  split_ifs
  · rfl
  · rfl
  · rw [State.evt_count, if_neg h2]; rfl
  · rw [State.evt_count, if_neg h0]; rfl
  · rfl

theorem evt_flight_other (s : State) (type : Nat) (src : Master) (body : Bytes) (k : Nat) (h0 : k ≠ evFlr 0) (h2 : k ≠ evFlr 2) :
    (s.flight type src body).evt k = s.evt k := by
  unfold State.flight
  dsimp only
  split_ifs
  · rfl
  · rw [evt_putRec_other _ _ _ h0 h2]
  · rw [evt_putRec_other _ _ _ h0 h2, evt_putRec_other _ _ _ h0 h2]; rfl

theorem evt_flight_boot (s : State) (type : Nat) (src : Master) (body : Bytes) (k : Nat) (hk : k < 16) :
    (s.flight type src body).evt (evBoot k) = s.evt (evBoot k) :=
  evt_flight_other s type src body _ (by simp only [evBoot, evFlr]; omega) (by simp only [evBoot, evFlr]; omega)

/-! ### BOOT_STAGE -/

theorem reg_uartOut (s : State) (v : Word) (a : Nat) : (s.uartOut v).reg a = s.reg a := by simp [State.reg]

theorem reg_setStage (s : State) (v : Word) (a : Nat) : (s.setStage v).reg a = if a = aStage then v else s.reg a := by
  unfold State.setStage
  split_ifs with hv ha ha
  · rw [ha, hv]
  · rfl
  · rw [ha, State.reg_count, State.reg_flight, reg_uartOut, State.reg_setReg, if_pos rfl]
  · rw [State.reg_count, State.reg_flight, reg_uartOut, State.reg_setReg, if_neg ha]

/-- A change of BOOT_STAGE moves its register, event delivery and the recorder, and the UART may tell it (R140, R339, R624). -/
theorem setStage_frame (s : State) (v : Word) : s.setStage v = { s.recorded (s.setStage v) with regs := (s.setStage v).regs } := by
  apply State.ext <;> simp [State.recorded, State.routed]

theorem evt_setStage (s : State) (v : Word) (k : Nat) (hk : k < 16) (h1 : k ≠ 1) : (s.setStage v).evt (evBoot k) = s.evt (evBoot k) := by
  have hne : evBoot k ≠ evBoot 1 := by simp only [evBoot]; omega
  unfold State.setStage
  split_ifs
  · rfl
  · rw [State.evt_count, if_neg hne, evt_flight_boot _ _ _ _ _ hk]
    simp [State.evt]

theorem bootStage_of_open (s : State) (m : Master) (v : Word) (h : s.boot.rtReleased = false) :
    s.bootStage m v = s.setStage (v &&& 0x3FFFF) := by
  rw [State.bootStage, State.when, h]
  rfl

theorem bootStage_of_released (s : State) (m : Master) (v : Word) (h : s.boot.rtReleased = true) :
    s.bootStage m v = s.err 0x14 0x40 .state m := by
  rw [State.bootStage, State.when, h]
  rfl

theorem exec_bootStageWrite (s : State) (m : Master) (v : Word) (h : s.admits m aStage = true) :
    exec (.bootStageWrite m v) s = .next (s.bootStage m v) :=
  congrArg _ (State.guarded_of_admits s m _ _ h)

/-! ### Push mode -/

theorem pushOn_of_reg (s t : State) (h : t.reg (aBoot1 0x60) = s.reg (aBoot1 0x60)) : t.pushOn = s.pushOn := by
  rw [State.pushOn, State.bitOf, h]
  rfl

theorem reg_setPush (s : State) (on : Bool) (a : Nat) : (s.setPush on).reg a = if a = aBoot1 0x60 then flg on 0 else s.reg a := by
  unfold State.setPush
  dsimp only
  split_ifs with hon ha ha <;> simp [ha]

theorem pushOn_setPush (s : State) (on : Bool) : (s.setPush on).pushOn = on := by
  rw [State.pushOn, State.bitOf, reg_setPush, if_pos rfl]
  cases on <;> rfl

theorem evt_setPush (s : State) (on : Bool) (k : Nat) :
    (s.setPush on).evt k = if (on && !s.pushOn) = true ∧ k = evBoot 2 then (s.evt k).bump else s.evt k := by
  unfold State.setPush
  dsimp only
  split_ifs with hopen hk hk
  · rw [State.evt_count, hk.2, if_pos rfl]; rfl
  · rw [State.evt_count, if_neg (fun h => hk ⟨hopen, h⟩)]; rfl
  · exact absurd hk.1 hopen
  · rfl

theorem setPush_frame (s : State) (on : Bool) : s.setPush on = { s.routed (s.setPush on) with regs := (s.setPush on).regs } := by
  unfold State.setPush
  dsimp only
  split_ifs
  · apply State.ext <;> simp [State.routed]
  · rfl

/-- What a PUSH_CTRL write leaves: PUSH_CTRL, and after the runtime release that push mode was open once (R128). -/
theorem pushCtrl_eq (s : State) (v : Word) :
    s.pushCtrl v = { s.setPush (v.getLsbD 0) with
      boot := { s.boot with pushOpen := s.boot.pushOpen || (v.getLsbD 0 && s.boot.rtReleased) } } := by
  have hboot : (s.setPush (v.getLsbD 0)).boot = s.boot := by rw [setPush_frame]; rfl
  have hcases : s.pushCtrl v = if v.getLsbD 0 && s.boot.rtReleased then
      { s.setPush (v.getLsbD 0) with boot := { s.boot with pushOpen := true } } else { s.setPush (v.getLsbD 0) with boot := s.boot } := by
    rw [← hboot]
    rfl
  rw [hcases]
  cases v.getLsbD 0 && s.boot.rtReleased
  · rw [Bool.or_false]
    rfl
  · rw [Bool.or_true]
    rfl

theorem exec_pushCtrlWrite (s : State) (m : Master) (v : Word) (h : s.admits m (aBoot1 0x60) = true) :
    exec (.pushCtrlWrite m v) s = .next (s.pushCtrl v) :=
  congrArg _ (State.guarded_of_admits s m _ _ h)

/-- Push mode opens with a failure code other than that of revoked candidates (R141). -/
theorem openPush_spec (s : State) (code : Nat) (hcode : code < 256) (h7 : code ≠ 7) :
    (s.openPush code).pushOn = true ∧ Word.field ((s.openPush code).reg aStage) 15 0 = code * 256 + 0x0E ∧
      (∀ a, a ≠ aStage → a ≠ aBoot1 0x60 → (s.openPush code).reg a = s.reg a) ∧ (s.openPush code).boot = s.boot ∧
      (∀ k, k < 16 → 2 < k → (s.openPush code).evt (evBoot k) = s.evt (evBoot k)) := by
  have heq : s.openPush code = (s.setPush true).setStage (wd 0x0E ||| fld code 8 ||| fld (Word.field ((s.setPush true).reg aStage) 17 16) 16) := by
    rw [State.openPush, if_neg h7]
    rfl
  rw [heq]
  generalize hslot : Word.field ((s.setPush true).reg aStage) 17 16 = slot
  have hpush : aBoot1 0x60 ≠ aStage := by decide
  refine ⟨?_, ?_, fun a ha ha' => ?_, ?_, fun k hk h2 => ?_⟩
  · rw [pushOn_of_reg (s.setPush true) _ (by rw [reg_setStage, if_neg hpush]), pushOn_setPush]
  · rw [reg_setStage, if_pos rfl, field_stageWord code slot hcode]
  · rw [reg_setStage, if_neg ha, reg_setPush, if_neg ha']
  · rw [setStage_frame, setPush_frame]
    rfl
  · have hne : evBoot k ≠ evBoot 2 := by simp only [evBoot]; omega
    rw [evt_setStage _ _ k hk (by omega), evt_setPush, if_neg (fun h => hne h.2)]

/-! ### The ROM's fetch -/

theorem exec_romFetchDone (s : State) (c : Candidate) (body : Bytes) (bad : Bool) (htrying : s.boot.trying = some c)
    (hrt : s.boot.rtReleased = false) (hawake : s.awake = true) (hchecking : s.boot.rel ≠ .checking) (hlock : s.boot.rel ≠ .awaitLock) :
    exec (.romFetchDone body bad) s =
      .next (if bad || !c.bodyOk body then s.romFallback 0x06 stAuthFail else s.romPush c.man body) := by
  show Host.Outcome.next _ = _
  rw [htrying]
  dsimp only
  rw [if_neg (by simp [hrt, hawake, hchecking, hlock])]

/-- The window as the FETCH agent fills it (R123, R131). -/
def BootState.fetched (b : BootState) (man body : Bytes) : BootState :=
  { b with man := man, body := body, bodyCount := body.length, overrun := false, rel := .checking, owner := 0x40 }

theorem romPush_spec (s : State) (man body : Bytes) (hlen : body.length ≤ 2 ^ 21) :
    (s.romPush man body).boot = s.boot.fetched man body ∧ (s.romPush man body).regs = (s.setReg (aBoot1 0x48) 0).regs ∧
      s.romPush man body =
        { s.routed (s.romPush man body) with
          regs := (s.romPush man body).regs, boot := (s.romPush man body).boot, dgl := (s.romPush man body).dgl } := by
  have hshort : ¬2 ^ 21 < body.length := by omega
  have htake : body.take (2 ^ 21) = body := List.take_of_length_le hlen
  unfold State.romPush
  dsimp only
  rw [if_neg hshort, htake, decide_eq_false hshort]
  refine ⟨?_, ?_, ?_⟩
  · simp [State.stageOpen, State.stageWipe, State.modBoot, BootState.fetched]
  · simp [State.stageOpen, State.stageWipe, State.modBoot, State.setReg]
  · apply State.ext <;> simp [State.routed, State.stageOpen, State.stageWipe]

theorem kduDiscard_frame (s : State) : s.kduDiscard = { s with cel := s.kduDiscard.cel } := by
  unfold State.kduDiscard
  split_ifs <;> rfl

theorem romFallback_of_last (s : State) (c : Candidate) (code : Nat) (st : Status) (htrying : s.boot.trying = some c)
    (hcands : s.boot.cands = []) :
    s.romFallback code st =
      (((s.kduDiscard.slotResult c.slot st).count (evBoot 8)).modBoot
        (fun b => { b with romCode := code, trying := none, cands := [] })).openPush code := by
  have hleft : ((s.kduDiscard.slotResult c.slot st).count (evBoot 8)).boot.cands = [] := by
    simp only [State.slotResult, State.setFld, State.count_frame, State.setReg]
    rw [kduDiscard_frame]
    exact hcands
  rw [State.romFallback, htrying]
  dsimp only
  simp only [State.modBoot, hleft, State.romTry]

/-- The last candidate falls back: its slot shows why, SLOT_FALLBACK is counted, and push mode opens (R123, R141). -/
theorem romFallback_last (s : State) (c : Candidate) (st : Status) (htrying : s.boot.trying = some c) (hcands : s.boot.cands = []) :
    (s.romFallback 0x06 st).boot.trying = none ∧ (s.romFallback 0x06 st).pushOn = true ∧
      Word.field ((s.romFallback 0x06 st).reg aStage) 15 0 = 0x060E ∧
      (c.slot = 1 → Word.field ((s.romFallback 0x06 st).reg (aBoot0 0x50)) 7 0 = st.toNat) ∧
      (s.romFallback 0x06 st).evt (evBoot 8) = (s.evt (evBoot 8)).bump := by
  rw [romFallback_of_last s c _ st htrying hcands]
  generalize hu : ((s.kduDiscard.slotResult c.slot st).count (evBoot 8)).modBoot _ = u
  obtain ⟨hpush, hstage, hregs, hboot, hevt⟩ := openPush_spec u 6 (by decide) (by decide)
  refine ⟨?_, hpush, hstage, fun hslot => ?_, ?_⟩
  · rw [hboot, ← hu]
    rfl
  · rw [hregs _ (by decide) (by decide), ← hu]
    show Word.field (((s.kduDiscard.slotResult c.slot st).count (evBoot 8)).reg (aBoot0 0x50)) 7 0 = _
    rw [State.reg_count, hslot, State.slotResult, State.setFld, State.reg_setReg, if_pos rfl, field_setField_low _ _ (BitVec.isLt _)]
  · rw [hevt 8 (by decide) (by decide), ← hu]
    show ((s.kduDiscard.slotResult c.slot st).count (evBoot 8)).evt (evBoot 8) = _
    rw [State.evt_count, if_pos rfl, kduDiscard_frame]
    rfl

/-- Settles O14. A body that matches fills the window (`romPush_spec`), the last candidate's fall-back opens push mode (`romFallback_last`), and
both register writes store what they are given (`pushCtrl_eq`, `reg_setStage`). -/
theorem romStagesAndPushModeFollowTheirWrites : Obligations.RomStagesAndPushModeFollowTheirWrites := by
  unfold Obligations.RomStagesAndPushModeFollowTheirWrites
  refine ⟨fun s c body htrying hrt hawake hchecking hlock hok hlen => ?fetched,
    fun s c body bad htrying hrt hawake hchecking hlock hbad hcands => ?fallback, fun s m v h => ?push, fun s m v h => ?stage⟩
  case fetched =>
    rw [exec_romFetchDone s c body false htrying hrt hawake hchecking hlock, if_neg (by simp [hok])]
    obtain ⟨hboot, hregs, hframe⟩ := romPush_spec s c.man body hlen
    have hreg : ∀ a, (s.romPush c.man body).reg a = if a = aBoot1 0x48 then 0 else s.reg a := fun a => by
      rw [State.reg, hregs, ← State.reg_setReg]
      rfl
    exact ⟨_, rfl, hboot, by rw [hreg, if_pos rfl], fun a ha => by rw [hreg, if_neg ha], hframe⟩
  case fallback =>
    rw [exec_romFetchDone s c body bad htrying hrt hawake hchecking hlock, if_pos (by simpa using hbad)]
    obtain ⟨hnone, hpush, hstage, hslot, hevt⟩ := romFallback_last s c stAuthFail htrying hcands
    exact ⟨_, rfl, hnone, hpush, hstage, hslot, hevt⟩
  case push =>
    refine ⟨_, exec_pushCtrlWrite s m v h, ?_⟩
    rw [pushCtrl_eq]
    refine ⟨pushOn_setPush s _, fun a ha => (reg_setPush s _ a).trans (if_neg ha), rfl, fun hv hoff => ?_, ?_⟩
    · exact (evt_setPush s _ _).trans (if_pos ⟨by rw [hv, hoff]; rfl, rfl⟩)
    · conv_lhs => rw [setPush_frame]
      rfl
  case stage =>
    refine ⟨_, exec_bootStageWrite s m v h, fun hrt => ?_, fun hrt => ?_⟩
    · rw [bootStage_of_open s m v hrt]
      exact ⟨by rw [reg_setStage, if_pos rfl], fun a ha => by rw [reg_setStage, if_neg ha], setStage_frame ..⟩
    · rw [bootStage_of_released s m v hrt]
      exact ⟨by rw [State.reg_err, if_neg (by decide)], State.err_routed ..⟩

end Sys2Proof.Machine
end

section
/-! PROOFS. Hold lines: requests, releases, forces and power-good inputs (R104, R143, R148, R149, R152, R239). -/
namespace Sys2Proof.Machine

/-! ### A line goes low -/

theorem released_holdAssert (s : State) (i j : Nat) :
    (s.holdAssert i).prst.released.getLsbD j = (s.prst.released.getLsbD j && decide (j ≠ i)) := by
  have hports : (s.holdAssert i).prst = _ := prst_of_portsFrame (portsFrame_silences (portsFrame_refl _) _)
  rw [hports]
  show (putBit s.prst.released i false).getLsbD j = _
  rw [getLsbD_putBit]
  by_cases hj : j = i <;> simp [hj]

theorem asserts_of_holdReq {s : State} {i : Nat} (h : s.prst.holdReq.getLsbD i = true) : s.asserts i = true := by
  simp [State.asserts, h]

theorem lineHeld_of_low {s : State} {i : Nat} (h : s.prst.released.getLsbD i = false) : s.lineHeld i = true := by
  simp [State.lineHeld, h]

/-- Requested lines of those looked at go low, and none rises (R104). -/
theorem released_foldl_holdAssert (i : Nat) (l : List Nat) :
    ∀ s : State, s.prst.holdReq.getLsbD i = true → (s.prst.released.getLsbD i = false ∨ i ∈ l) →
      (l.foldl (fun s i => if s.prst.released.getLsbD i && s.asserts i then s.holdAssert i else s) s).prst.released.getLsbD i = false := by
  induction l with
  | nil => intro s _ hlow; simpa using hlow
  | cons k t ih =>
    intro s hreq hlow
    rw [List.foldl_cons]
    by_cases hk : (s.prst.released.getLsbD k && s.asserts k) = true
    · rw [if_pos hk]
      have hkeep : (s.holdAssert k).prst.holdReq = s.prst.holdReq := by rw [holdFrame_holdAssert (holdFrame_refl s) k]
      refine ih _ (by rwa [hkeep]) (hlow.elim (fun h => .inl ?_) fun h => ?_)
      · rw [released_holdAssert, h, Bool.false_and]
      · obtain rfl | h := List.mem_cons.mp h
        · exact .inl (by simp [released_holdAssert])
        · exact .inr h
    · rw [if_neg hk]
      refine ih s hreq (hlow.elim .inl fun h => ?_)
      obtain rfl | h := List.mem_cons.mp h
      · exact .inl (by simpa [asserts_of_holdReq hreq] using hk)
      · exact .inr h

theorem released_holdCheck (s : State) (i : Nat) (hi : i < 24) (hreq : s.prst.holdReq.getLsbD i = true) :
    s.holdCheck.prst.released.getLsbD i = false := by
  have hkeep : s.refHeld.prst.holdReq = s.prst.holdReq := by rw [holdFrame_refHeld (holdFrame_refl s)]
  exact released_foldl_holdAssert i _ _ (by rwa [hkeep]) (.inr (List.mem_range.mpr hi))

theorem exec_holdReqWrite (s : State) (m : Master) (v : Word) (h : s.admits m (aPrst0 0x44) = true) :
    exec (.holdReqWrite m v) s = .next (s.holdReq v) :=
  congrArg _ (State.guarded_of_admits s m _ _ h)

/-! ### A line deasserts -/

/-- The watchdogs replaced, which are a part of PRST of their own (R616). -/
def State.withWdogs (s : State) (w : SMap Wdog) : State := { s with prst := { s.prst with wdogs := w } }

theorem withWdogs_foldl {α : Type} (f : State → α → State) (hf : ∀ (s : State) (x : α), ∃ w, f s x = s.withWdogs w) (l : List α) (s : State) :
    ∃ w, l.foldl f s = s.withWdogs w :=
  List.foldlRecOn (motive := fun t => ∃ w, t = s.withWdogs w) l f ⟨s.prst.wdogs, rfl⟩ fun t ht x _ => by
    obtain ⟨w, rfl⟩ := ht
    obtain ⟨w', hw'⟩ := hf (s.withWdogs w) x
    exact ⟨w', hw'⟩

theorem withWdogs_ite_setWdog (s : State) (c : Prop) [Decidable c] (n : Nat) (x : Wdog) :
    ∃ w, (if c then s.setWdog n x else s) = s.withWdogs w := by
  split_ifs
  · exact ⟨_, rfl⟩
  · exact ⟨s.prst.wdogs, rfl⟩

/-- The state as a deassertion of line `i` leaves it, but for the watchdogs and the event: the first one since reset sets T_FIRST_HOLD
(R146, R148, R611, R617). -/
def State.deasserted (s : State) (i : Nat) : State :=
  { s with
    regs := if s.prst.firstHold then s.regs else (s.setReg (aBoot0 0x58) (wd (s.clk - s.pwr.pwrOkAt))).regs
    prst := { s.prst with
      released := putBit s.prst.released i true, firstHold := true, recov := putBit s.prst.recov i false,
      relAt := SMap.set (fun _ => 0) s.prst.relAt i s.posRun,
      refAt := if s.prst.refLine = some i then s.clk else s.prst.refAt,
      refLine := if s.prst.refLine = some i then none else s.prst.refLine } }

theorem regs_deasserted (s : State) (i : Nat) :
    (s.deasserted i).regs = if s.prst.firstHold then s.regs else (s.setReg (aBoot0 0x58) (wd (s.clk - s.pwr.pwrOkAt))).regs := rfl

theorem reg_deasserted (s : State) (i a : Nat) (ha : a ≠ aBoot0 0x58) : (s.deasserted i).reg a = s.reg a := by
  rw [State.reg, regs_deasserted]
  split_ifs
  · rfl
  · exact (State.reg_setReg ..).trans (if_neg ha)

theorem deassert_eq (s : State) (i : Nat) : s.deassert i = ((s.deasserted i).wdogStart i).count (evBoot 10) := by
  have hline : ∀ u : State, (if u.prst.refLine = some i then u.modPrst (fun p => { p with refAt := u.clk, refLine := none }) else u) =
      { u with prst := { u.prst with
        refAt := if u.prst.refLine = some i then u.clk else u.prst.refAt,
        refLine := if u.prst.refLine = some i then none else u.prst.refLine } } := fun u => by
    split_ifs <;> rfl
  unfold State.deassert State.deasserted
  dsimp only
  rw [hline]
  cases s.prst.firstHold <;> rfl

theorem deassert_spec (s : State) (i : Nat) : ∃ w, s.deassert i = ((s.deasserted i).withWdogs w).count (evBoot 10) := by
  obtain ⟨w, hw⟩ : ∃ w, (s.deasserted i).wdogStart i = (s.deasserted i).withWdogs w :=
    withWdogs_foldl _ (fun t n => withWdogs_ite_setWdog t _ n _) _ _
  exact ⟨w, by rw [deassert_eq, hw]⟩

/-- What asserts a line is read from HOLD_REQ, the forces, the gate's inputs and the rails (R104, R145, R239). -/
theorem asserts_congr {s t : State} (hports : t.ports = s.ports) (hboot : t.boot = s.boot) (hpwr : t.pwr = s.pwr)
    (hreq : t.prst.holdReq = s.prst.holdReq) (hrecover : t.prst.recoverHold = s.prst.recoverHold) (hforce : t.prst.force = s.prst.force)
    (hready : t.prst.ready = s.prst.ready) (hreg : ∀ a, a ≠ aBoot0 0x58 → t.reg a = s.reg a) (i : Nat) : t.asserts i = s.asserts i := by
  have hline : t.lineOf = s.lineOf := funext fun p => by
    rw [State.lineOf, hreg _ (by simp only [pg, aBoot0]; omega)]
    rfl
  have hver : t.verEn = s.verEn := funext fun p => by
    rw [State.verEn, State.bitOf, hreg _ (by simp only [fp, pg, aBoot0]; omega)]
    rfl
  have hport : t.port = s.port := funext fun p => by rw [State.port, hports]; rfl
  simp only [State.asserts, State.gate, State.portsOf, State.manOk, State.pantryOk, State.fullOk, State.coreUp, hline, hver, hport, hboot, hpwr, hreq,
    hrecover, hforce, hready]

theorem asserts_deassert (s : State) (i j : Nat) : (s.deassert i).asserts j = s.asserts j := by
  obtain ⟨w, hspec⟩ := deassert_spec s i
  rw [hspec]
  have hframe := State.count_routed ((s.deasserted i).withWdogs w) (evBoot 10)
  generalize State.count ((s.deasserted i).withWdogs w) (evBoot 10) = t at hframe ⊢
  rw [hframe]
  refine asserts_congr (s := s) (t := ((s.deasserted i).withWdogs w).routed t) rfl rfl rfl rfl rfl rfl rfl (fun a ha => ?_) j
  rw [State.reg, ← reg_deasserted s i a ha]
  rfl

/-! ### Forces end -/

theorem prst_uncontain (l : List Nat) (s : State) :
    (l.foldl (fun s p => s.modPort p (fun q => { q with contained := false })) s).prst = s.prst :=
  prst_of_portsFrame (portsFrame_foldl _ (fun t p => portsFrame_modPort (portsFrame_refl t) p _) l (portsFrame_refl s))

theorem force_unforce1 (s : State) (i j : Nat) :
    (s.unforce1 i).prst.force.getLsbD j = (s.prst.force.getLsbD j && decide (j ≠ i)) := by
  have hsplit : ∃ u : State, (∃ w, s.unforce1 i = u.withWdogs w) ∧ u.prst = { s.prst with force := putBit s.prst.force i false } :=
    ⟨_, withWdogs_foldl _ (fun t n => withWdogs_ite_setWdog t _ n _) _ _, prst_uncontain _ _⟩
  obtain ⟨u, ⟨w, hw⟩, hu⟩ := hsplit
  have hforce : (s.unforce1 i).prst.force = putBit s.prst.force i false := by
    rw [hw]
    exact congrArg PrstState.force hu
  rw [hforce, getLsbD_putBit]
  by_cases hj : j = i <;> simp [hj]

/-- Every force that the word names ends, and no other (R143, R149). -/
theorem force_foldl_unforce1 (v : Word) (j : Nat) (l : List Nat) :
    ∀ s : State, (l.foldl (fun s i => if Word.bit v i then s.unforce1 i else s) s).prst.force.getLsbD j =
      (s.prst.force.getLsbD j && !(decide (j ∈ l) && Word.bit v j)) := by
  induction l with
  | nil => simp
  | cons k t ih =>
    intro s
    rw [List.foldl_cons, ih]
    by_cases hk : Word.bit v k = true
    · rw [if_pos hk, force_unforce1]
      by_cases hj : j = k
      · simp [hj, hk]
      · simp [hj]
    · rw [if_neg hk]
      by_cases hj : j = k
      · simp [hj, hk]
      · simp [hj]

theorem unforce_frame (s : State) (m : Master) (v : Word) (h : s.tamp.responded = true ∨ s.harts.unforceLocked = true) :
    s.unforce m v = s.err (aPrst0 0x4C / 4096) (aPrst0 0x4C % 4096) .state m := by
  rw [State.unforce, State.when, if_neg (by rcases h with h | h <;> simp [h])]
  rfl

theorem exec_holdUnforce (s : State) (m : Master) (v : Word) (h : s.admits m (aPrst0 0x4C) = true) :
    exec (.holdUnforce m v) s = .next (s.unforce m v) :=
  congrArg _ (State.guarded_of_admits s m _ _ h)

/-! ### Power-good inputs -/

theorem exec_pgoodChange_of_ne (s : State) (ix : Fin 8) (lvl : Bool) (h : s.prst.pgood.getLsbD ix.val ≠ lvl) :
    ∃ t, exec (.pgoodChange ix lvl) s = .next t ∧
      t = if s.coreUp then State.count { s with prst := { s.prst with pgood := putBit s.prst.pgood ix.val lvl } } (evBoot 14)
        else { s with prst := { s.prst with pgood := putBit s.prst.pgood ix.val lvl } } :=
  ⟨_, rfl, (if_neg h).trans rfl⟩

/-- Settles O15. Requested lines go low one after the other (`released_foldl_holdAssert`), a deassertion moves nothing that asserts a line
(`asserts_deassert`), and the forces that a word names end (`force_foldl_unforce1`). -/
theorem holdLinesFollowRequestsForcesAndGates : Obligations.HoldLinesFollowRequestsForcesAndGates := by
  unfold Obligations.HoldLinesFollowRequestsForcesAndGates
  refine ⟨fun s m v h => ?requests, fun s ln hfree hheld hreplay => ?deasserts, fun s ln hheld => ?stays, fun s p i hline hrel hheld => ?reasserts,
    fun s m v h => ?unforces, fun s ix lvl hne => ?changes, fun s ix => ?same⟩
  case requests =>
    have hreq : ∀ i, i < 24 → v.getLsbD i = true → (s.holdReq v).prst.released.getLsbD i = false := fun i hi hv =>
      released_holdCheck _ i hi (by simp only [State.modPrst, BitVec.getLsbD_ofNat, hi, decide_true, Bool.true_and]; exact hv)
    refine ⟨_, exec_holdReqWrite s m v h, ?_, fun i hi hv => ⟨lineHeld_of_low (hreq i hi hv), hreq i hi hv⟩⟩
    rw [State.holdReq, holdFrame_holdCheck (holdFrame_refl _)]
    rfl
  case deasserts =>
    obtain ⟨w, hspec⟩ := deassert_spec s ln.val
    have hprst : (s.deassert ln.val).prst = ((s.deasserted ln.val).withWdogs w).prst := by rw [hspec]; simp
    have hregs : (s.deassert ln.val).regs = (s.deasserted ln.val).regs := by rw [hspec]; simp [State.withWdogs]
    have hrel : ∀ i, (s.deassert ln.val).prst.released.getLsbD i = if i = ln.val then decide (i < 24) else s.prst.released.getLsbD i := fun i => by
      rw [hprst]
      exact (getLsbD_putBit ..).trans (by simp)
    have hself : (s.deassert ln.val).prst.released.getLsbD ln.val = true := by rw [hrel, if_pos rfl, decide_eq_true ln.isLt]
    refine ⟨_, (congrArg Host.Outcome.next (if_pos (by rw [State.mayDeassert, hfree, hheld, hreplay]; rfl))), hself,
      by simp [State.lineHeld, hself, asserts_deassert, hfree], fun i _ hne => by rw [hrel, if_neg hne], ?_, fun hfirst => ?_, fun hfirst => ?_, ?_, ?_, ?_⟩
    · rw [hspec, State.evt_count, if_pos rfl]
      rfl
    · rw [hregs, State.deasserted, if_pos hfirst]
    · rw [State.reg, hregs, regs_deasserted, if_neg (by simp [hfirst])]
      exact (State.reg_setReg ..).trans (if_pos rfl)
    · rw [hprst]
      exact (getLsbD_putBit ..).trans (by simp)
    · rw [hprst]
      exact (SMap.get_set ..).trans (if_pos rfl)
    · have hframe := State.count_routed ((s.deasserted ln.val).withWdogs w) (evBoot 10)
      rw [← hspec] at hframe
      generalize s.deassert ln.val = t at hframe hprst hregs
      rw [hregs, hprst]
      exact hframe
  case stays =>
    show Host.Outcome.next _ = _
    rw [if_neg (by simp [State.mayDeassert, hheld])]
  case reasserts =>
    refine ⟨_, rfl, ?_⟩
    rw [hline]
    dsimp only
    rw [if_pos (by simp [hrel, hheld])]
    have hlow : (s.holdAssert i).prst.released.getLsbD i = false := by simp [released_holdAssert]
    exact ⟨hlow, lineHeld_of_low hlow⟩
  case unforces =>
    refine ⟨_, exec_holdUnforce s m v h, fun hresp hlock i hi => ?_, fun hbar => ?_⟩
    · rw [State.unforce, State.when, if_pos (by simp [hresp, hlock]), force_foldl_unforce1]
      simp [hi, Word.bit]
    · rw [unforce_frame s m v hbar]
      exact ⟨by simp, State.err_routed ..⟩
  case changes =>
    obtain ⟨t, hexec, rfl⟩ := exec_pgoodChange_of_ne s ix lvl hne
    have hpgood : ∀ j, (putBit s.prst.pgood ix.val lvl).getLsbD j = if j = ix.val then lvl else s.prst.pgood.getLsbD j := fun j => by
      rw [getLsbD_putBit]
      by_cases hj : j = ix.val <;> simp [hj]
    have hself := (hpgood ix.val).trans (if_pos rfl)
    have hothers := fun j (_ : j < 8) (hj : j ≠ ix.val) => (hpgood j).trans (if_neg hj)
    refine ⟨_, hexec, ?_⟩
    by_cases hup : s.coreUp = true
    · rw [if_pos hup]
      simp only [State.count_frame]
      refine ⟨hself, hothers, fun _ => ⟨?_, ?_⟩, fun h => absurd hup (by simp [h])⟩
      · rw [State.evt_count, if_pos rfl]
        rfl
      · apply State.ext <;> simp [State.routed]
    · rw [if_neg hup]
      exact ⟨hself, hothers, fun h => absurd h hup, fun _ => rfl⟩
  case same =>
    show Host.Outcome.next _ = _
    rw [if_pos rfl]

end Sys2Proof.Machine
end

section
/-! PROOFS. The release sequencer (R144, R146, R147, R150). -/
namespace Sys2Proof.Machine

theorem exec_seqGo (s : State) (m : Master) (h : s.admits m (aPrst0 0x68) = true) : exec (.seqGo m) s = .next (s.seqGo m) :=
  congrArg _ (State.guarded_of_admits s m _ _ h)

theorem exec_seqSkip (s : State) (m : Master) (h : s.admits m (aPrst0 0x68) = true) : exec (.seqSkip m) s = .next (s.seqSkip m) :=
  congrArg _ (State.guarded_of_admits s m _ _ h)

theorem exec_seqStop (s : State) (m : Master) (h : s.admits m (aPrst0 0x68) = true) : exec (.seqStop m) s = .next s.seqIdle :=
  congrArg _ (State.guarded_of_admits s m _ _ h)

/-! ### STAGE -/

theorem field_stage (s : State) (st : Nat) (h : st < 256) : Word.field ((s.stage st).reg aStage) 7 0 = st := by
  rw [State.stage, reg_setStage, if_pos rfl, field_setField_low _ _ h]

theorem stage_spec (s : State) (st : Nat) : (s.stage st).prst = s.prst ∧ (s.stage st).clk = s.clk ∧ (s.stage st).tamp = s.tamp := by
  rw [State.stage, setStage_frame]
  exact ⟨rfl, rfl, rfl⟩

theorem seqSlot_stage (s : State) (st k : Nat) : (s.stage st).seqSlot k = s.seqSlot k := by
  rw [State.seqSlot, State.stage, reg_setStage, if_neg (by simp only [aPrst0, aStage, pg]; omega)]
  rfl

/-! ### The slot that the sequence goes on at -/

/-- Slot `k` is one that the sequencer runs (R144). -/
def State.slotValid (s : State) (k : Nat) : Prop := k < 24 ∧ Word.bit (s.seqSlot k) 31 ∧ Word.field (s.seqSlot k) 4 0 < 24

theorem seqAt_of_valid {s : State} {k : Nat} (h : s.slotValid k) :
    s.seqAt k = { s with prst := { s.prst with seq := .running, slot := k, refAt := s.clk, refLine := none, waitAt := s.clk } } :=
  if_pos h

theorem seqAt_of_not_valid {s : State} {k : Nat} (h : ¬s.slotValid k) :
    (s.seqAt k).prst = { s.prst with seq := .done } ∧ Word.field ((s.seqAt k).reg aStage) 7 0 = 9 ∧ (s.seqAt k).flr.bootOpen = false := by
  obtain ⟨u, hu, hat⟩ : ∃ u : State, u = s.modPrst (fun p => { p with seq := .done }) ∧
      s.seqAt k = { (u.stage 0x09).count (evBoot 13) with flr := { ((u.stage 0x09).count (evBoot 13)).flr with bootOpen := false } } :=
    ⟨_, rfl, if_neg h⟩
  rw [hat]
  refine ⟨?_, ?_, rfl⟩
  · show ((u.stage 0x09).count (evBoot 13)).prst = _
    simp only [State.count_frame]
    rw [(stage_spec u 0x09).1, hu]
    rfl
  · show Word.field (((u.stage 0x09).count (evBoot 13)).reg aStage) 7 0 = 9
    rw [State.reg_count, field_stage u 9 (by decide)]

theorem not_slotValid_of_slotEnds {s : State} (h : s.slotEnds = true) : ¬s.slotValid s.prst.slot := by
  rintro ⟨-, hbit, hline⟩
  simp [State.slotEnds, hbit] at h
  omega

/-! ### A slot completes -/

theorem seqSlotComplete_of_running {s : State} (hrun : s.prst.seq = .running) (hresp : s.tamp.responded = false) :
    exec .seqSlotComplete s =
      .next (if s.slotEnds then s.seqAt s.prst.slot else if s.slotMet && !s.refDue then s.slotDone else s) := by
  show Host.Outcome.next _ = _
  rw [if_neg (by simp [hrun, hresp])]

/-- The state of which the sequencer asks whether the completed slot's line deasserts next (R146, R148). -/
def State.slotCleared (s : State) : State :=
  { s with prst := { s.prst with holdReq := putBit s.prst.holdReq (Word.field (s.seqSlot s.prst.slot) 4 0) false } }

/-- The line of the completed slot, where it deasserts next (R146). -/
def State.nextRef (s : State) : Option Nat :=
  if s.slotCleared.mayDeassert (Word.field (s.seqSlot s.prst.slot) 4 0) then some (Word.field (s.seqSlot s.prst.slot) 4 0) else none

theorem slotDone_eq (s : State) :
    s.slotDone = ((s.slotCleared.stage 0x08).seqAt (s.prst.slot + 1)).modPrst (fun p => { p with refLine := s.nextRef }) := rfl

theorem slotValid_slotCleared_stage (s : State) (k : Nat) : (s.slotCleared.stage 0x08).slotValid k ↔ s.slotValid k := by
  simp only [State.slotValid, seqSlot_stage]
  rfl

theorem slotDone_of_valid {s : State} (h : s.slotValid (s.prst.slot + 1)) :
    s.slotDone.prst = { s.slotCleared.prst with
        seq := .running, slot := s.prst.slot + 1, refAt := s.clk, refLine := s.nextRef, waitAt := s.clk } ∧
      Word.field (s.slotDone.reg aStage) 7 0 = 8 := by
  obtain ⟨hprst, hclk, -⟩ := stage_spec s.slotCleared 0x08
  rw [slotDone_eq, seqAt_of_valid ((slotValid_slotCleared_stage s _).mpr h)]
  refine ⟨?_, ?_⟩
  · simp only [State.modPrst, hprst, hclk]
    rfl
  · exact field_stage s.slotCleared 8 (by decide)

theorem slotDone_of_not_valid {s : State} (h : ¬s.slotValid (s.prst.slot + 1)) :
    s.slotDone.prst = { s.slotCleared.prst with seq := .done, refLine := s.nextRef } ∧
      Word.field (s.slotDone.reg aStage) 7 0 = 9 ∧ s.slotDone.flr.bootOpen = false := by
  obtain ⟨hprst, hstage, hflr⟩ := seqAt_of_not_valid (fun hv => h ((slotValid_slotCleared_stage s _).mp hv))
  rw [slotDone_eq]
  refine ⟨?_, hstage, hflr⟩
  simp only [State.modPrst, hprst, (stage_spec s.slotCleared 0x08).1]

/-- Settles O16. The sequencer goes on at a slot (`seqAt_of_valid`) or ends (`seqAt_of_not_valid`), and a completed slot leaves its line's request
cleared (`slotDone_eq`). -/
theorem theReleaseSequencerRunsItsSlots : Obligations.TheReleaseSequencerRunsItsSlots := by
  unfold Obligations.TheReleaseSequencerRunsItsSlots
  refine ⟨fun s m h => ?registers, fun s hstop => ?stopped, fun s hrun hresp hends => ?ends, fun s hrun hresp hends hwait => ?waits,
    fun s hrun hresp hends hslot hmet hdue => ?completes, fun s hrun hlate => ?stalls, fun s hwait => ?patient⟩
  case registers =>
    rw [exec_seqGo s m h, exec_seqSkip s m h, exec_seqStop s m h]
    refine ⟨fun hresp => ⟨?_, ?_⟩, fun hrun => ?_, fun hrest => ?_, fun hresp hstall => ?_, fun hresp hrest hbit hline => ?_,
      fun hresp hwait hslot hbit hline => ?_, rfl⟩
    · rw [State.seqGo, if_pos hresp]
    · rw [State.seqSkip, State.when, if_neg (by simp [hresp])]
    · rw [State.seqGo, hrun]
      split_ifs <;> rfl
    · rw [State.seqSkip, State.when, if_neg (by rcases hrest with h | h <;> simp [PrstState.waiting, h])]
    · rw [State.seqGo, if_neg (by simp [hresp]), hstall]
      rfl
    · have hat : s.seqGo m = s.seqAt 0 := by
        rw [State.seqGo, if_neg (by simp [hresp])]
        rcases hrest with h | h <;> rw [h]
      rw [hat, seqAt_of_valid ⟨by decide, hbit, hline⟩]
    · rw [State.seqSkip, State.when, if_pos (by rcases hwait with h | h <;> simp [PrstState.waiting, h, hresp]), seqAt_of_valid ⟨hslot, hbit, hline⟩]
  case stopped =>
    show Host.Outcome.next _ = _
    rw [if_pos (by rcases hstop with h | h <;> simp [h])]
  case ends =>
    obtain ⟨hprst, hstage, -⟩ := seqAt_of_not_valid (not_slotValid_of_slotEnds hends)
    refine ⟨_, (seqSlotComplete_of_running hrun hresp).trans (congrArg _ (if_pos hends)), by rw [hprst], fun _ => ⟨by rw [hprst], hstage⟩⟩
  case waits =>
    rw [seqSlotComplete_of_running hrun hresp, if_neg (by simp [hends]), if_neg (by rcases hwait with h | h <;> simp [h])]
  case completes =>
    refine ⟨s.slotDone, ?_, ?_, fun hlast => ?_, fun hlt hbit hline => ?_⟩
    · rw [seqSlotComplete_of_running hrun hresp, if_neg (by simp [hends]), if_pos (by simp [hmet, hdue])]
    · by_cases hv : s.slotValid (s.prst.slot + 1)
      · rw [(slotDone_of_valid hv).1]
        rfl
      · rw [(slotDone_of_not_valid hv).1]
        rfl
    · have hv : ¬s.slotValid (s.prst.slot + 1) := by
        rintro ⟨hlt, hbit, -⟩
        rcases hlast with h | h
        · omega
        · simp [h] at hbit
      obtain ⟨hprst, hstage, hflr⟩ := slotDone_of_not_valid hv
      exact ⟨by rw [hprst], hstage, hflr⟩
    · obtain ⟨hprst, hstage⟩ := slotDone_of_valid (s := s) ⟨by omega, hbit, hline⟩
      exact ⟨by rw [hprst], by rw [hprst], by rw [hprst], by rw [hprst]; rfl, hstage⟩
  case stalls =>
    show Host.Outcome.next _ = _
    rw [if_pos (by simp [hrun, State.fldOf, hlate])]
    rfl
  case patient =>
    show Host.Outcome.next _ = _
    rw [if_neg ?_]
    rcases hwait with h | h
    · simp [h]
    · intro hlate
      simp only [State.fldOf, Bool.and_eq_true] at hlate
      exact absurd (of_decide_eq_true hlate.2) (Nat.not_lt.mpr h)

end Sys2Proof.Machine
end

section
/-! PROOFS. Flash ports: what an operation of a port tells the outside, and the stitch tracker (R177, R247 to R252). -/
namespace Sys2Proof.Machine

/-! ### What is told -/

/-- An MSI-X message of the router (R101). -/
def Out.isMsix : Out → Bool
  | .msix .. => true
  | _ => false

/-- From `s` to `t` nothing was told but interrupt messages. -/
def State.told (s t : State) : Prop := ∃ l, t.outbox = s.outbox ++ l ∧ ∀ o ∈ l, Out.isMsix o = true

theorem told_of_outbox_eq {s t : State} (h : t.outbox = s.outbox) : s.told t := ⟨[], by simp [h], by simp⟩

theorem told_refl (s : State) : s.told s := told_of_outbox_eq rfl

theorem told_trans {r s t : State} (hrs : r.told s) (hst : s.told t) : r.told t := by
  obtain ⟨l, hl, hmsix⟩ := hrs
  obtain ⟨l', hl', hmsix'⟩ := hst
  exact ⟨l ++ l', by rw [hl', hl, List.append_assoc], fun o ho => (List.mem_append.mp ho).elim (hmsix o) (hmsix' o)⟩

theorem told_msixRequest (s : State) (f v : Nat) : s.told (s.msixRequest f v) := by
  unfold State.msixRequest
  split_ifs
  · exact told_refl s
  · exact ⟨[s.msixMsg f v], rfl, by simp [State.msixMsg, Out.isMsix]⟩
  · exact told_of_outbox_eq rfl

theorem told_deliver (s : State) (k : Nat) : s.told (s.deliver k) := by
  unfold State.deliver
  dsimp only
  split_ifs
  · exact told_of_outbox_eq (by simp)
  · exact told_refl s
  · exact told_msixRequest ..
  · exact told_msixRequest ..
  · exact told_refl s

theorem told_count (s : State) (k : Nat) : s.told (s.count k) := by
  have hset : s.told (s.setEvt k (s.evt k).bump) := told_of_outbox_eq rfl
  unfold State.count State.deliverIfNew
  split_ifs
  · exact told_trans hset (told_deliver ..)
  · exact hset

theorem told_putRec (s : State) (r : FlrRec) : s.told (s.putRec r) := by
  unfold State.putRec
  dsimp only
  split_ifs
  · exact told_of_outbox_eq rfl
  · exact told_of_outbox_eq rfl
  · exact told_count ..
  · exact told_count ..
  · exact told_of_outbox_eq rfl

theorem told_flight (s : State) (type : Nat) (src : Master) (body : Bytes) : s.told (s.flight type src body) := by
  unfold State.flight
  dsimp only
  split_ifs
  · exact told_refl s
  · exact told_putRec ..
  · have hgap : s.told { s with flr := { s.flr with gap := 0 } } := told_of_outbox_eq rfl
    exact told_trans (told_trans hgap (told_putRec ..)) (told_putRec ..)

/-- Where nothing but interrupts was told, what else stands in the outbox stood there before. -/
theorem mem_of_told {s t : State} (h : s.told t) {o : Out} (hmsix : Out.isMsix o = false) (ho : o ∈ t.outbox) : o ∈ s.outbox := by
  obtain ⟨l, hl, hall⟩ := h
  rw [hl, List.mem_append] at ho
  exact ho.elim id fun hol => absurd (hall o hol) (by simp [hmsix])

theorem mem_told {s t : State} (h : s.told t) {o : Out} (ho : o ∈ s.outbox) : o ∈ t.outbox := by
  obtain ⟨l, hl, -⟩ := h
  rw [hl]
  exact List.mem_append_left _ ho

/-! ### Ports -/

theorem port_modPort (s : State) (p q : Nat) (f : PortState → PortState) : (s.modPort p f).port q = if q = p then f (s.port p) else s.port q :=
  State.port_setPort ..

theorem port_modPort_self (s : State) (p : Nat) (f : PortState → PortState) : (s.modPort p f).port p = f (s.port p) :=
  (port_modPort ..).trans (if_pos rfl)

theorem port_modPort_other (s : State) {p q : Nat} (h : q ≠ p) (f : PortState → PortState) : (s.modPort p f).port q = s.port q :=
  (port_modPort ..).trans (if_neg h)

theorem port_count (s : State) (k q : Nat) : (s.count k).port q = s.port q := by simp [State.port]
theorem port_flight (s : State) (type : Nat) (src : Master) (body : Bytes) (q : Nat) : (s.flight type src body).port q = s.port q := by simp [State.port]

theorem evt_flight_low (s : State) (type : Nat) (src : Master) (body : Bytes) (k : Nat) (hk : k < 340) :
    (s.flight type src body).evt k = s.evt k :=
  evt_flight_other s type src body k (by simp only [evFlr]; omega) (by simp only [evFlr]; omega)

/-! ### The stitch tracker -/

/-- `t` differs from `s`, as far as a reader of port `p` can tell, at most in what the tracker of `p` keeps (R247 to R252): its stitch, its
coverage and the checks that wait. -/
structure State.Tracked (p : Nat) (s t : State) : Prop where
  regs : t.regs = s.regs
  told : s.told t
  others : ∀ q, q ≠ p → t.port q = s.port q
  port : t.port p = { s.port p with stitch := (t.port p).stitch, cov := (t.port p).cov, checks := (t.port p).checks }
  events : ∀ k, k < 340 → t.evt k = s.evt k

theorem tracked_refl (p : Nat) (s : State) : s.Tracked p s := ⟨rfl, told_refl s, fun _ _ => rfl, rfl, fun _ _ => rfl⟩

theorem tracked_trans {p : Nat} {r s t : State} (hrs : r.Tracked p s) (hst : s.Tracked p t) : r.Tracked p t where
  regs := hst.regs.trans hrs.regs
  told := told_trans hrs.told hst.told
  others q hq := (hst.others q hq).trans (hrs.others q hq)
  port := hst.port.trans (congrArg (fun q : PortState =>
    { q with stitch := (t.port p).stitch, cov := (t.port p).cov, checks := (t.port p).checks }) hrs.port)
  events k hk := (hst.events k hk).trans (hrs.events k hk)

section
variable {p : Nat} {r s : State}

/-- A change of the port that keeps to the tracker's fields. -/
theorem tracked_modPort (h : r.Tracked p s) (f : PortState → PortState)
    (hf : f (s.port p) = { s.port p with stitch := (f (s.port p)).stitch, cov := (f (s.port p)).cov, checks := (f (s.port p)).checks }) :
    r.Tracked p (s.modPort p f) :=
  tracked_trans h ⟨rfl, told_of_outbox_eq rfl, fun _ hq => port_modPort_other s hq f, by rw [port_modPort_self]; exact hf, fun _ _ => rfl⟩

theorem tracked_flight (h : r.Tracked p s) (type : Nat) (src : Master) (body : Bytes) : r.Tracked p (s.flight type src body) :=
  tracked_trans h ⟨by simp, told_flight .., fun _ _ => port_flight .., by rw [port_flight], fun k hk => evt_flight_low s _ _ _ k hk⟩

theorem tracked_permReady (h : r.Tracked p s) (c alg n : Nat) : r.Tracked p (s.permReady c alg n) := by
  have hport : ∀ q, (s.permReady c alg n).port q = s.port q := fun q => by simp [State.port]
  exact tracked_trans h ⟨by simp, told_of_outbox_eq (by simp), fun q _ => hport q, by rw [hport], fun k _ => by simp [State.evt]⟩

theorem tracked_partCov (h : r.Tracked p s) (c : Bool) (x : Option Nat) : r.Tracked p (if c then s.modPort p (fun q => q.partCov x) else s) := by
  split_ifs
  · refine tracked_modPort h _ ?_
    cases x <;> rfl
  · exact h

theorem tracked_stitchBreak (h : r.Tracked p s) : r.Tracked p (s.stitchBreak p) := by
  unfold State.stitchBreak
  dsimp only
  by_cases hopen : (s.port p).stitch.isOpen = true
  · rw [if_neg (by simp [hopen])]
    exact tracked_flight (tracked_modPort (tracked_partCov h _ _) _ rfl) _ _ _
  · rw [if_pos (by simpa using hopen)]
    exact h

theorem isOpen_stitchBreak (s : State) (p : Nat) : ((s.stitchBreak p).port p).stitch.isOpen = false := by
  unfold State.stitchBreak
  dsimp only
  by_cases hopen : (s.port p).stitch.isOpen = true
  · rw [if_neg (by simp [hopen]), port_flight, port_modPort_self]
    rfl
  · rw [if_pos (by simpa using hopen)]
    simpa using hopen

theorem tracked_stitchStart (h : r.Tracked p s) (g : Option Nat) (cs fa : Nat) (mcmd : Word) : r.Tracked p (s.stitchStart p g cs fa mcmd) :=
  tracked_modPort h _ rfl

theorem tracked_stitchCmd (h : r.Tracked p s) (g : Option Nat) (cs fa : Nat) : r.Tracked p (s.stitchCmd p g cs fa) := by
  unfold State.stitchCmd
  dsimp only
  split_ifs
  · exact tracked_modPort h _ rfl
  · exact tracked_stitchStart (tracked_stitchBreak h) _ _ _ _

theorem tracked_pushCheck (h : r.Tracked p s) (c : Check) : r.Tracked p (s.pushCheck p c) := by
  unfold State.pushCheck
  dsimp only
  split_ifs
  · simpa using tracked_partCov h true c.region
  · exact tracked_modPort (tracked_permReady h _ _ _) _ rfl

theorem tracked_stitchByte (h : r.Tracked p s) (g : Option Nat) (cs fa : Nat) (b : Option Byte) (mcmd : Word) :
    r.Tracked p (s.stitchByte p g cs fa b mcmd) := by
  have hopened : r.Tracked p (if fa % 4096 = 0 ∧ (s.port p).stitch.total ≠ 0 then s.modPort p (fun q => q.openBlk g cs fa mcmd) else s) := by
    split_ifs
    · exact tracked_modPort h _ rfl
    · exact h
  unfold State.stitchByte
  dsimp only
  generalize (if fa % 4096 = 0 ∧ (s.port p).stitch.total ≠ 0 then s.modPort p (fun q => q.openBlk g cs fa mcmd) else s) = u at hopened ⊢
  refine iteInduction (motive := r.Tracked p) (fun _ => ?passes) fun _ => iteInduction (motive := r.Tracked p) (fun _ => ?complete) fun _ => ?ends
  case passes => exact tracked_modPort hopened _ rfl
  case complete => exact tracked_pushCheck (tracked_modPort hopened _ rfl) _
  case ends => exact tracked_modPort (tracked_partCov hopened _ _) _ rfl

end

end Sys2Proof.Machine
end

section
/-! PROOFS. Identification of the flash for a master (R168, R170, R172, R181, R185, R188). -/
namespace Sys2Proof.Machine

/-- `t` differs from `s` at most in the ports, the registers, event delivery and the flight recorder. -/
def State.portRegs (s t : State) : Prop := t = { s.recorded t with regs := t.regs, ports := t.ports }

section
variable {r s : State}

theorem portRegs_refl (s : State) : s.portRegs s := rfl

theorem portRegs_trans {t : State} (hrs : r.portRegs s) (hst : s.portRegs t) : r.portRegs t :=
  Eq.trans hst (congrArg (fun x : State => { x.recorded t with regs := t.regs, ports := t.ports }) hrs)

theorem portRegs_of_portsFrame {t : State} (h : r.portRegs s) (hst : s.portsFrame t) : r.portRegs t :=
  portRegs_trans h (by
    have hregs : t.regs = s.regs := by rw [hst]; rfl
    rw [State.portRegs, hregs]
    exact hst)

theorem portRegs_setReg (h : r.portRegs s) (a : Nat) (v : Word) : r.portRegs (s.setReg a v) := portRegs_trans h rfl

theorem portRegs_count (h : r.portRegs s) (k : Nat) : r.portRegs (s.count k) :=
  portRegs_of_portsFrame h (portsFrame_count (portsFrame_refl s) k)

theorem portRegs_modPort (h : r.portRegs s) (p : Nat) (f : PortState → PortState) : r.portRegs (s.modPort p f) :=
  portRegs_of_portsFrame h (portsFrame_modPort (portsFrame_refl s) p f)

theorem portRegs_begin (h : r.portRegs s) (p : Nat) (c : ActiveCmd) : r.portRegs (s.begin p c) := portRegs_modPort h _ _

theorem portRegs_out (h : r.portRegs s) (o : Out) : r.portRegs (s.out o) := portRegs_trans h rfl

theorem portRegs_portErr (h : r.portRegs s) (p cause cs : Nat) : r.portRegs (s.portErr p cause cs) :=
  portRegs_count (portRegs_setReg h _ _) _

theorem portRegs_policyHit (h : r.portRegs s) (p cause cs : Nat) (opc : Byte) (g : Option Nat) (a : Nat) :
    r.portRegs (s.policyHit p cause cs opc g a) :=
  portRegs_count (portRegs_setReg (portRegs_setReg h _ _) _ _) _

theorem portRegs_stitchBreak (h : r.portRegs s) (p : Nat) : r.portRegs (s.stitchBreak p) :=
  portRegs_of_portsFrame h (portsFrame_stitchBreak (portsFrame_refl s) p)

end

/-! ### A command that the port hears -/

theorem idle_of_hears {s : State} {p cs : Nat} (h : s.hears p cs = true) : (s.port p).mcs = none ∧ (s.port p).active = none := by
  simp only [State.hears, PortState.idle, Bool.and_eq_true, Option.isNone_iff_eq_none] at h
  exact h.1.2

/-- The state as a command that the port hears begins: its chip select asserted, the command counted, its clock measured (R168, R188). -/
def State.heard (s : State) (p cs mhz : Nat) : State := (s.assertCs p cs).accept p mhz

theorem onCs_of_hears {s : State} {p cs f : Nat} (h : s.hears p cs = true) (hf : s.csMap p cs = some f) (eff : Nat → State → State) :
    s.onCs p cs eff = eff f (s.assertCs p cs) := by
  rw [State.onCs, h, hf]
  rfl

theorem onCs_of_not_hears {s : State} {p cs : Nat} (h : s.hears p cs = false) (eff : Nat → State → State) :
    s.onCs p cs eff = s.assertCs p cs := by
  rw [State.onCs, h]
  rfl

theorem assertCs_frame (s : State) (p cs : Nat) :
    (s.assertCs p cs).port p = { s.port p with mcs := some ((s.port p).mcs.getD cs) } ∧
      s.assertCs p cs = { s with ports := (s.assertCs p cs).ports } := by
  unfold State.assertCs
  split_ifs with hmcs
  · obtain ⟨c, hc⟩ := Option.isSome_iff_exists.mp hmcs
    refine ⟨?_, rfl⟩
    rw [hc, Option.getD_some, ← hc]
  · rw [Option.not_isSome_iff_eq_none] at hmcs
    exact ⟨by rw [port_modPort_self, hmcs]; rfl, rfl⟩

section
variable {s : State} {p cs : Nat} (mhz : Nat)

theorem port_heard (h : s.hears p cs = true) :
    (s.heard p cs mhz).port p = { s.port p with mcs := some cs, needed := autoDummy mhz } := by
  have hassert : (s.assertCs p cs).port p = { s.port p with mcs := some cs } := by
    rw [(assertCs_frame s p cs).1, (idle_of_hears h).1]
    rfl
  have haccept : ∀ t : State, (t.accept p mhz).port p = { t.port p with needed := autoDummy mhz } := fun t => port_modPort_self ..
  rw [State.heard, haccept, hassert]

theorem port_heard_other (cs : Nat) {q : Nat} (hq : q ≠ p) : (s.heard p cs mhz).port q = s.port q := by
  rw [State.heard, State.accept, port_modPort_other _ hq]
  show (s.assertCs p cs).port q = _
  unfold State.assertCs
  split_ifs
  · rfl
  · exact port_modPort_other s hq _

theorem heard_frame (s : State) (p cs mhz : Nat) :
    s.heard p cs mhz = { s with regs := (s.heard p cs mhz).regs, ports := (s.heard p cs mhz).ports } := by
  unfold State.heard State.assertCs
  split_ifs <;> rfl

theorem portRegs_heard (s : State) (p cs mhz : Nat) : s.portRegs (s.heard p cs mhz) := by
  unfold State.heard State.assertCs
  split_ifs <;> rfl

theorem reg_assertCs (s : State) (p cs a : Nat) : (s.assertCs p cs).reg a = s.reg a := by rw [(assertCs_frame s p cs).2]; rfl

theorem reg_heard (s : State) (p cs mhz a : Nat) :
    (s.heard p cs mhz).reg a =
      if a = fp p 0 0x5C then wd mhz
      else if a = fp p 0 0xB4 then wd (((s.reg (fp p 0 0xB0)).toNat + 2 ^ 32 * (s.reg (fp p 0 0xB4)).toNat + 1) / 2 ^ 32)
      else if a = fp p 0 0xB0 then wd (((s.reg (fp p 0 0xB0)).toNat + 2 ^ 32 * (s.reg (fp p 0 0xB4)).toNat + 1) % 2 ^ 32)
      else s.reg a := by
  have hadd : ∀ (t : State), (t.accept p mhz).reg a = ((t.add64 (fp p 0 0xB0) 1).setReg (fp p 0 0x5C) (wd mhz)).reg a := fun t => rfl
  rw [State.heard, hadd, State.reg_setReg]
  unfold State.add64
  simp only [State.reg_setReg, reg_assertCs]
  rfl

theorem reg_heard_other {a : Nat} (h5C : a ≠ fp p 0 0x5C) (hB4 : a ≠ fp p 0 0xB4) (hB0 : a ≠ fp p 0 0xB0) (cs : Nat) :
    (s.heard p cs mhz).reg a = s.reg a := by
  rw [reg_heard, if_neg h5C, if_neg hB4, if_neg hB0]

end

/-! ### Bytes from the shadow -/

theorem shadowRead_free {u : State} {p cs f : Nat} (d : Bytes) (h : (u.port p).granted f = false) :
    u.shadowRead p cs f d = ((u.stitchBreak p).out (.master p d)).begin p (ActiveCmd.plain cs false) := by
  have hgrant : ((u.stitchBreak p).port p).granted f = false := by
    rw [(tracked_stitchBreak (tracked_refl p u)).port]
    exact h
  rw [State.shadowRead, if_neg (by simp [hgrant])]

theorem shadowRead_leased {u : State} {p cs f : Nat} (d : Bytes) (h : (u.port p).granted f = true) :
    u.shadowRead p cs f d =
      (((u.stitchBreak p).out (.master p (List.replicate d.length 0xFF))).portErr p 2 f).begin p (ActiveCmd.plain cs false) := by
  have hgrant : ((u.stitchBreak p).port p).granted f = true := by
    rw [(tracked_stitchBreak (tracked_refl p u)).port]
    exact h
  rw [State.shadowRead, if_pos hgrant]

/-- A command that is answered from the shadow, as the statement of R170 and R181 has it. -/
theorem shadowRead_of_hears {s : State} {p cs f : Nat} (mhz : Nat) (d : Bytes) (h : s.hears p cs = true)
    (hfree : (s.port p).granted f = false) :
    let t := (s.heard p cs mhz).shadowRead p cs f d
    t.outbox.getLast? = some (.master p d) ∧
      (∀ q c o a mo d, Out.flash q c o a mo d ∈ t.outbox → Out.flash q c o a mo d ∈ s.outbox) ∧
      (t.port p).active = some (ActiveCmd.plain cs false) ∧ (t.port p).mcs = some cs ∧ (t.port p).stitch.isOpen = false ∧
      (t.port p).needed = autoDummy mhz ∧ t.regs = (s.heard p cs mhz).regs ∧ (∀ q, q ≠ p → t.port q = s.port q) ∧
      t = { s.recorded t with regs := t.regs, ports := t.ports } := by
  have hheard := port_heard mhz h
  have htrack := tracked_stitchBreak (tracked_refl p (s.heard p cs mhz))
  have hframe := portsFrame_stitchBreak (portsFrame_refl (s.heard p cs mhz)) p
  have hclosed := isOpen_stitchBreak (s.heard p cs mhz) p
  have hgrant : ((s.heard p cs mhz).port p).granted f = false := by rw [hheard]; exact hfree
  intro t
  have ht : t = (((s.heard p cs mhz).stitchBreak p).out (.master p d)).begin p (ActiveCmd.plain cs false) := shadowRead_free d hgrant
  generalize hu : (s.heard p cs mhz).stitchBreak p = u at *
  have hport : t.port p = { u.port p with active := some (ActiveCmd.plain cs false) } := by rw [ht]; exact port_modPort_self ..
  have hout : t.outbox = u.outbox ++ [.master p d] := by rw [ht]; rfl
  have hbox : (s.heard p cs mhz).outbox = s.outbox := by rw [heard_frame]
  refine ⟨by simp [hout], fun q c o a mo d' hmem => ?_, by rw [hport], ?_, ?_, ?_, ?_, fun q hq => ?_, ?_⟩
  · rw [hout, List.mem_append] at hmem
    rw [← hbox]
    exact mem_of_told htrack.told rfl (hmem.elim id (by simp))
  · rw [hport]
    show (u.port p).mcs = _
    rw [htrack.port, hheard]
  · rw [hport]
    exact hclosed
  · rw [hport]
    show (u.port p).needed = _
    rw [htrack.port, hheard]
  · rw [ht]
    exact htrack.regs
  · have hother : t.port q = u.port q := by rw [ht]; exact port_modPort_other _ hq _
    rw [hother, htrack.others q hq, port_heard_other mhz cs hq]
  · rw [ht]
    exact portRegs_begin (portRegs_out (hu ▸ portRegs_stitchBreak (portRegs_heard s p cs mhz) p) _) _ _

/-- Under a lease the master reads ones, and the collision is recorded (R181). -/
theorem shadowRead_under_lease {s : State} {p cs f : Nat} (mhz : Nat) (d : Bytes) (hp : p < 16) (h : s.hears p cs = true)
    (hlease : (s.port p).granted f = true) :
    let t := (s.heard p cs mhz).shadowRead p cs f d
    t.outbox.contains (.master p (List.replicate d.length 0xFF)) = true ∧ t.reg (fp p 0 0xA8) = fld 2 0 ||| fld f 4 ∧
      t.evt (evPort p 5) = (s.evt (evPort p 5)).bump := by
  have hgrant : ((s.heard p cs mhz).port p).granted f = true := by rw [port_heard mhz h]; exact hlease
  have htrack := tracked_stitchBreak (tracked_refl p (s.heard p cs mhz))
  have hevt : (s.heard p cs mhz).evt (evPort p 5) = s.evt (evPort p 5) := by rw [heard_frame]; rfl
  intro t
  have ht : t = _ := shadowRead_leased d hgrant
  generalize (s.heard p cs mhz).stitchBreak p = u at htrack ht
  have htold := told_count ((u.out (.master p (List.replicate d.length 0xFF))).setReg (fp p 0 0xA8) (fld 2 0 ||| fld f 4)) (evPort p 5)
  rw [ht]
  refine ⟨?_, ?_, ?_⟩
  · rw [List.contains_iff_mem]
    exact mem_told htold (List.mem_append_right _ (List.mem_singleton_self _))
  · show (State.portErr _ p 2 f).reg _ = _
    rw [State.portErr, State.reg_count, State.reg_setReg, if_pos rfl]
  · show (State.portErr _ p 2 f).evt _ = _
    rw [State.portErr, State.evt_count, if_pos rfl, ← hevt, ← htrack.events _ (by simp only [evPort]; omega)]
    rfl

theorem exec_readJedecId_of_hears {s : State} {p : Fin 16} {c : Fin 2} {f : Nat} (n mhz : Nat) (h : s.hears p.val c.val = true)
    (hf : s.csMap p.val c.val = some f) :
    exec (.readJedecId p c ⟨n, mhz⟩) s =
      .next ((s.heard p.val c.val mhz).shadowRead p.val c.val f ((List.range n).map (fun k => ((s.port p.val).jedec c.val).getD k 0xFF))) := by
  have hjedec : ((s.heard p.val c.val mhz).port p.val).jedec c.val = (s.port p.val).jedec c.val := by rw [port_heard mhz h]; rfl
  refine congrArg _ ((onCs_of_hears h hf _).trans ?_)
  show (s.heard p.val c.val mhz).readId p.val c.val f n = _
  rw [State.readId, hjedec]
  rfl

theorem exec_readSfdp_of_hears {s : State} {p : Fin 16} {c : Fin 2} {f : Nat} (addr n mhz : Nat) (h : s.hears p.val c.val = true)
    (hf : s.csMap p.val c.val = some f) :
    exec (.readSfdp p c addr ⟨n, mhz⟩) s =
      .next ((s.heard p.val c.val mhz).shadowRead p.val c.val f
        ((List.range n).map (fun k => shadowByte ((s.heard p.val c.val mhz).sfdpServed p.val c.val) (addr + k)))) :=
  congrArg _ (onCs_of_hears h hf _)

/-- Without a rewrite the SFDP bytes are those that discovery read (R172). -/
theorem sfdpServed_heard_of_raw {s : State} {p cs : Nat} (mhz : Nat) (h : s.hears p cs = true) (hraw : s.bitOf (fp p 0 0x90) 0 = false) :
    (s.heard p cs mhz).sfdpServed p cs = (s.port p).sfdp cs := by
  have hreg : (s.heard p cs mhz).reg (fp p 0 0x90) = s.reg (fp p 0 0x90) :=
    reg_heard_other mhz (by simp only [fp, pg]; omega) (by simp only [fp, pg]; omega) (by simp only [fp, pg]; omega) cs
  rw [State.sfdpServed]
  dsimp only
  rw [if_pos (.inl (by simpa [State.bitOf, hreg] using hraw)), port_heard mhz h]
  rfl

/-! ### The SFDP window -/

/-- Page 0 of a flash port (R78). -/
def phyPage (p : Nat) : PageInfo :=
  { kind := .fpPhy, type := 0x0B, inst := p, page := 0, dw := 7, slow := true, buffered := true, groupable := true }

theorem pageAt_phy : ∀ p : Fin 16, pageAt (0x80 + 4 * p.val) = some (phyPage p.val) := by decide

theorem read_sfdpWin (s : State) (m : Master) (p : Fin 16) :
    s.readWord m (fp p.val 0 0x98) = s.sfdpWord p.val ∧ s.readEff m (fp p.val 0 0x98) = s.sfdpStep p.val := by
  have hdiv : fp p.val 0 0x98 / 4096 = 0x80 + 4 * p.val := by simp only [fp, pg]; omega
  have hmod : fp p.val 0 0x98 % 4096 % (phyPage p.val).span = 0x98 := by
    have hspan : (phyPage p.val).span = 512 := rfl
    rw [hspan]
    simp only [fp, pg]
    omega
  obtain ⟨r, hrow, hcode, hhalf, heff⟩ : ∃ r, (phyPage p.val).row 0x98 = some r ∧ r.code = .ro ∧ r.half = .one ∧ r.readEffect = true :=
    ⟨_, rfl, rfl, rfl, rfl⟩
  have hevt : (phyPage p.val).isEvt 0x98 = false := rfl
  constructor
  · simp [State.readWord, hdiv, pageAt_phy, hmod, hevt, hrow, hcode, hhalf]
    rfl
  · simp [State.readEff, hdiv, pageAt_phy, hmod, hrow, heff, hhalf, freeRead]
    rfl

/-- SFDP_WIN_ADDR after a read of the window (R185). -/
theorem field_sfdpStep (s : State) (p : Nat) :
    ((s.sfdpStep p).reg (fp p 0 0x94)).toNat % 2048 = ((s.reg (fp p 0 0x94)).toNat + 4) % 2048 := by
  simp only [State.sfdpStep, State.setFld, State.reg_setReg, State.fldOf, if_pos]
  simp only [Word.setField, Word.field, BitVec.toNat_ofNat, Nat.shiftRight_zero]
  omega

/-- Settles O17. The command is heard (`port_heard`, `reg_heard`), its stitch breaks, and its bytes come from the shadow
(`shadowRead_of_hears`) or are ones (`shadowRead_under_lease`); the window's read is an ordinary one with its step (`read_sfdpWin`). -/
theorem identificationIsServedFromTheShadow : Obligations.IdentificationIsServedFromTheShadow := by
  unfold Obligations.IdentificationIsServedFromTheShadow
  intro s p
  refine ⟨fun c n mhz f h hf hfree => ?jedec, fun c addr n mhz f h hf hfree => ?sfdp, fun c addr n mhz f h hf hlease => ⟨?jedecLeased, ?sfdpLeased⟩,
    fun c addr n mhz h => ⟨congrArg _ (onCs_of_not_hears h _), congrArg _ (onCs_of_not_hears h _)⟩, fun c => assertCs_frame s p.val c,
    fun m h => ?window⟩
  case jedec =>
    obtain ⟨hout, hflash, hactive, hmcs, hstitch, hneeded, hregs, hothers, hframe⟩ :=
      shadowRead_of_hears mhz ((List.range n).map (fun k => ((s.port p.val).jedec c.val).getD k 0xFF)) h hfree
    refine ⟨_, exec_readJedecId_of_hears n mhz h hf, hout, hflash, hactive, hmcs, hstitch, hneeded, ?_, ?_, hothers, fun a hB0 hB4 h5C => ?_, hframe⟩
    · rw [State.reg, hregs]
      exact (reg_heard ..).trans (if_pos rfl)
    · rw [State.reg, hregs]
      have hcount := reg_heard s p.val c.val mhz (fp p.val 0 0xB0)
      rw [if_neg (by simp only [fp, pg]; omega), if_neg (by simp only [fp, pg]; omega), if_pos rfl] at hcount
      refine (congrArg BitVec.toNat hcount).trans ?_
      simp only [wd, BitVec.toNat_ofNat]
      omega
    · rw [State.reg, hregs]
      exact reg_heard_other mhz h5C hB4 hB0 c.val
  case sfdp =>
    obtain ⟨hout, hflash, hactive, hmcs, -, hneeded, -, hothers, hframe⟩ := shadowRead_of_hears mhz
      ((List.range n).map (fun k => shadowByte ((s.heard p.val c.val mhz).sfdpServed p.val c.val) (addr + k))) h hfree
    refine ⟨_, exec_readSfdp_of_hears addr n mhz h hf, fun hraw => ?_, hflash, hactive, hmcs, hneeded, hothers, hframe⟩
    rw [hout, sfdpServed_heard_of_raw mhz h hraw]
    rfl
  case jedecLeased =>
    have hlen := shadowRead_under_lease mhz ((List.range n).map (fun k => ((s.port p.val).jedec c.val).getD k 0xFF)) p.isLt h hlease
    rw [List.length_map, List.length_range] at hlen
    exact ⟨_, exec_readJedecId_of_hears n mhz h hf, hlen⟩
  case sfdpLeased =>
    have hlen := shadowRead_under_lease mhz
      ((List.range n).map (fun k => shadowByte ((s.heard p.val c.val mhz).sfdpServed p.val c.val) (addr + k))) p.isLt h hlease
    rw [List.length_map, List.length_range] at hlen
    exact ⟨_, exec_readSfdp_of_hears addr n mhz h hf, hlen⟩
  case window =>
    have hdiv : fp p.val 0 0x98 / 4096 = 0x80 + 4 * p.val := by simp only [fp, pg]; omega
    have harr : s.arrives m (fp p.val 0 0x98 / 4096) = true := by rw [hdiv]; exact h
    obtain ⟨hword, heff⟩ := read_sfdpWin s m p
    have hans := answer_recorded (s.sfdpStep p.val) m (fp p.val 0 0x98) (leBytes 4 (s.sfdpWord p.val).toNat)
    refine ⟨_, rfl, ?_, ?_⟩
    · rw [read32_getLast s m _ harr, hword]
    · rw [State.read32_of_arrives s m _ harr, heff, hword]
      generalize (s.sfdpStep p.val).answer m (fp p.val 0 0x98) (leBytes 4 (s.sfdpWord p.val).toNat) = t at hans
      have hreg : ∀ a, t.reg a = (s.sfdpStep p.val).reg a := fun a => by rw [hans]; rfl
      refine ⟨by rw [hreg]; exact field_sfdpStep s p.val, fun a ha => ?_, by rw [hans]; rfl⟩
      rw [hreg]
      exact (State.reg_setReg ..).trans (if_neg ha)

end Sys2Proof.Machine
end

section
/-! PROOFS. Commands of a flash master: what each reaches and what is recorded of it (R174, R176, R181, R195 to R209). -/
namespace Sys2Proof.Machine

/-! ### Records of a port -/

theorem field_fld_above (n k hi : Nat) (hk : hi < k) (h32 : hi < 32) : Word.field (fld n k) hi 0 = 0 := by
  simp only [Word.field, fld, BitVec.toNat_ofNat, Nat.shiftRight_zero, Nat.sub_zero]
  have hdvd : 2 ^ (hi + 1) ∣ 2 ^ 32 := Nat.pow_dvd_pow 2 (by omega)
  rw [Nat.mod_mod_of_dvd _ hdvd]
  exact Nat.mod_eq_zero_of_dvd (Dvd.dvd.mul_left (Nat.pow_dvd_pow 2 (by omega)) n)

theorem field_fld_zero (n : Nat) (h : n < 16) : Word.field (fld n 0) 3 0 = n := by
  simp only [Word.field, fld, BitVec.toNat_ofNat, Nat.shiftRight_zero]
  omega

section
variable (s : State) (p cause cs : Nat) (opc : Byte) (g : Option Nat) (a : Nat)

theorem port_policyHit (q : Nat) : (s.policyHit p cause cs opc g a).port q = s.port q := by
  unfold State.policyHit
  rw [port_count]
  rfl

theorem evt_policyHit (k : Nat) :
    (s.policyHit p cause cs opc g a).evt k = if k = evPort p 3 then (s.evt (evPort p 3)).bump else s.evt k := by
  unfold State.policyHit
  rw [State.evt_count]
  rfl

theorem reg_policyHit_addr : (s.policyHit p cause cs opc g a).reg (fp p 2 0x68) = wd a := by
  unfold State.policyHit
  rw [State.reg_count, State.reg_setReg, if_pos rfl]

theorem field_policyHit_cause (hcause : cause < 16) : Word.field ((s.policyHit p cause cs opc g a).reg (fp p 2 0x64)) 3 0 = cause := by
  unfold State.policyHit
  rw [State.reg_count, State.reg_setReg, if_neg (by simp only [fp, pg]; omega), State.reg_setReg, if_pos rfl]
  rw [field_or, field_or, field_or, field_fld_above _ 4 3 (by decide) (by decide), field_fld_above _ 8 3 (by decide) (by decide),
    field_fld_zero cause hcause, Nat.or_zero, Nat.or_zero]
  cases g with
  | none => exact Nat.or_zero cause
  | some i => exact (congrArg (cause ||| ·) (field_fld_above i 16 3 (by decide) (by decide))).trans (Nat.or_zero cause)

theorem reg_policyHit_other {b : Nat} (h64 : b ≠ fp p 2 0x64) (h68 : b ≠ fp p 2 0x68) :
    (s.policyHit p cause cs opc g a).reg b = s.reg b := by
  unfold State.policyHit
  rw [State.reg_count, State.reg_setReg, if_neg h68, State.reg_setReg, if_neg h64]

theorem port_portErr (q : Nat) : (s.portErr p cause cs).port q = s.port q := by
  rw [State.portErr, port_count]
  rfl

theorem evt_portErr (k : Nat) : (s.portErr p cause cs).evt k = if k = evPort p 5 then (s.evt (evPort p 5)).bump else s.evt k := by
  rw [State.portErr, State.evt_count]
  rfl

theorem reg_portErr (b : Nat) : (s.portErr p cause cs).reg b = if b = fp p 0 0xA8 then fld cause 0 ||| fld cs 4 else s.reg b := by
  rw [State.portErr, State.reg_count, State.reg_setReg]

end

/-! ### What a command does that reaches nothing -/

/-- From `s` to `t` port `p` told nothing but interrupts and left the other ports; besides them registers, event delivery and the flight
recorder moved. -/
structure State.Quiet (p : Nat) (s t : State) : Prop where
  told : s.told t
  others : ∀ q, q ≠ p → t.port q = s.port q
  frame : s.portRegs t

section
variable {p : Nat} {r s : State}

theorem quiet_refl (p : Nat) (s : State) : s.Quiet p s := ⟨told_refl s, fun _ _ => rfl, portRegs_refl s⟩

theorem quiet_trans {t : State} (hrs : r.Quiet p s) (hst : s.Quiet p t) : r.Quiet p t :=
  ⟨told_trans hrs.told hst.told, fun q hq => (hst.others q hq).trans (hrs.others q hq), portRegs_trans hrs.frame hst.frame⟩

theorem quiet_modPort (h : r.Quiet p s) (f : PortState → PortState) : r.Quiet p (s.modPort p f) :=
  quiet_trans h ⟨told_of_outbox_eq rfl, fun _ hq => port_modPort_other s hq f, portRegs_modPort (portRegs_refl s) p f⟩

theorem quiet_begin (h : r.Quiet p s) (c : ActiveCmd) : r.Quiet p (s.begin p c) := quiet_modPort h _

theorem quiet_policyHit (h : r.Quiet p s) (cause cs : Nat) (opc : Byte) (g : Option Nat) (a : Nat) :
    r.Quiet p (s.policyHit p cause cs opc g a) :=
  quiet_trans h ⟨told_trans (told_of_outbox_eq rfl) (told_count _ _), fun _ _ => port_policyHit .., portRegs_policyHit (portRegs_refl s) ..⟩

theorem quiet_portErr (h : r.Quiet p s) (cause cs : Nat) : r.Quiet p (s.portErr p cause cs) :=
  quiet_trans h ⟨told_trans (told_of_outbox_eq rfl) (told_count _ _), fun _ _ => port_portErr .., portRegs_portErr (portRegs_refl s) ..⟩

theorem quiet_stitchBreak (h : r.Quiet p s) : r.Quiet p (s.stitchBreak p) :=
  have htrack := tracked_stitchBreak (tracked_refl p s)
  quiet_trans h ⟨htrack.told, htrack.others, portRegs_stitchBreak (portRegs_refl s) p⟩

theorem quiet_heard (s : State) (p cs mhz : Nat) : s.Quiet p (s.heard p cs mhz) :=
  ⟨told_of_outbox_eq (by rw [heard_frame]), fun _ hq => port_heard_other mhz cs hq, portRegs_heard s p cs mhz⟩

theorem no_flash_of_quiet {t : State} (h : s.Quiet p t) (q c o a : Nat) (mo d : Bytes) (hmem : Out.flash q c o a mo d ∈ t.outbox) :
    Out.flash q c o a mo d ∈ s.outbox :=
  mem_of_told h.told rfl hmem

end

/-- A command that the port hears, with the stitch broken: what it did up to here (R177, R251). -/
def State.broken (s : State) (p cs mhz : Nat) : State := (s.heard p cs mhz).stitchBreak p

section
variable {s : State} {p cs : Nat} (mhz : Nat)

theorem quiet_broken (s : State) (p cs mhz : Nat) : s.Quiet p (s.broken p cs mhz) := quiet_stitchBreak (quiet_heard s p cs mhz)

theorem port_broken (h : s.hears p cs = true) :
    ∃ st cov checks, (s.broken p cs mhz).port p =
      { s.port p with mcs := some cs, needed := autoDummy mhz, stitch := st, cov := cov, checks := checks } :=
  ⟨_, _, _, by
    have htrack := (tracked_stitchBreak (tracked_refl p (s.heard p cs mhz))).port
    rw [port_heard mhz h] at htrack
    exact htrack⟩

theorem evt_broken (s : State) (p cs mhz k : Nat) (hk : k < 340) : (s.broken p cs mhz).evt k = s.evt k := by
  rw [State.broken, (tracked_stitchBreak (tracked_refl p (s.heard p cs mhz))).events k hk, heard_frame]
  rfl

theorem reg_broken (s : State) (p cs mhz a : Nat) : (s.broken p cs mhz).reg a = (s.heard p cs mhz).reg a :=
  congrArg (SMap.get resetAt · a) (tracked_stitchBreak (tracked_refl p (s.heard p cs mhz))).regs

end

/-! ### Which way a command goes -/

theorem modeRuns_of_hears {s : State} {p cs f : Nat} (h : s.hears p cs = true) (hf : s.csMap p cs = some f) :
    ((s.port p).mode f).code ≤ 7 := by
  simp only [State.hears, hf, PortState.modeRuns, modeOk, Bool.and_eq_true, Bool.or_eq_true, decide_eq_true_eq] at h
  omega

theorem reg_stat_heard (s : State) (p cs mhz off : Nat) (h : off < 0x5C ∨ 0x5C < off ∧ off < 0xB0) :
    (s.heard p cs mhz).reg (fp p 0 off) = s.reg (fp p 0 off) :=
  reg_heard_other mhz (by simp only [fp, pg]; omega) (by simp only [fp, pg]; omega) (by simp only [fp, pg]; omega) cs

section
variable {s : State} {p f : Nat} {mc : MCmd}

/-- Whether a class fits an opcode is read from registers that a command leaves (R200). -/
theorem classFits_heard (s : State) (p cs mhz c cls : Nat) (opc : Byte) (hc : c < 2) :
    (s.heard p cs mhz).classFits p c cls opc = s.classFits p c cls opc := by
  have hstat : (s.heard p cs mhz).reg (fp p 0 (0x60 + 4 * c)) = s.reg (fp p 0 (0x60 + 4 * c)) :=
    reg_stat_heard s p cs mhz _ (.inr ⟨by omega, by omega⟩)
  have hclr : (s.heard p cs mhz).reg (fp p 0 0x68) = s.reg (fp p 0 0x68) := reg_stat_heard s p cs mhz 0x68 (.inr ⟨by omega, by omega⟩)
  simp only [State.classFits, State.statOpc, State.isFailClr, State.fldOf, hstat, hclr]

/-- A command that the command table forbids (R174, R195). -/
theorem masterCmd_forbidden (h : s.hears p mc.cs.val = true) (hfree : (s.port p).granted f = false)
    (hforbid : 5 < ((s.port p).mode f).code ∧ ((s.port p).mode f).code ≤ 7 ∧ mc.opc2 ≠ ~~~mc.opc ∨
      (((s.port p).mode f).code ≤ 5 ∨ mc.opc2 = ~~~mc.opc) ∧ mc.opc ≠ 0x9F ∧ mc.opc ≠ 0x5A ∧
        (s.port p).ctMatch mc.opc.toNat ((s.port p).mode f).code = none) :
    (s.assertCs p mc.cs.val).masterCmd p mc f = (s.broken p mc.cs.val mc.mhz).masterForbid p mc := by
  have hport := port_heard mc.mhz h
  have hgrant : ((s.heard p mc.cs.val mc.mhz).port p).granted f = false := by rw [hport]; exact hfree
  have hmode : ((s.heard p mc.cs.val mc.mhz).port p).mode f = (s.port p).mode f := by rw [hport]; rfl
  have hmatch : ∀ o c, ((s.heard p mc.cs.val mc.mhz).port p).ctMatch o c = (s.port p).ctMatch o c := fun o c => by rw [hport]; rfl
  have hheard : (s.assertCs p mc.cs.val).accept p mc.mhz = s.heard p mc.cs.val mc.mhz := rfl
  unfold State.masterCmd
  simp only [hheard, hmode, hmatch, hgrant]
  rcases hforbid with ⟨h5, h7, hne⟩ | ⟨hcompl, h9F, h5A, hnone⟩
  · rw [if_pos ⟨by omega, hne⟩, if_neg (by decide)]
    rfl
  · rw [if_neg (by rintro ⟨hcode, hne⟩; exact hcompl.elim (fun h5 => by omega) hne), if_neg h9F, if_neg h5A, hnone]
    exact if_neg (by decide)

/-- A command whose entry allows it, by its class (R174, R181, R200). -/
theorem masterCmd_of_entry (h : s.hears p mc.cs.val = true) {i : Nat} {e : List Word} (h9F : mc.opc ≠ 0x9F) (h5A : mc.opc ≠ 0x5A)
    (hcompl : ((s.port p).mode f).code ≤ 5 ∨ mc.opc2 = ~~~mc.opc)
    (hentry : (s.port p).ctMatch mc.opc.toNat ((s.port p).mode f).code = some i) (he : ctGet (s.port p).ctA i = e)
    (hfits : s.classFits p mc.cs.val (ctClass e) mc.opc = true) (hact : ctAction e ≠ 0) :
    (s.assertCs p mc.cs.val).masterCmd p mc f =
      if ctClass e = 0 then
        if mc.addrDone then (s.heard p mc.cs.val mc.mhz).masterRead p { mc with addr := ((s.port p).mode f).addr e mc.addr } f e
        else if (s.port p).granted f then
          (s.broken p mc.cs.val mc.mhz).masterLeased p { mc with addr := ((s.port p).mode f).addr e mc.addr, n := 0 } f (ctClass e) true
        else (s.broken p mc.cs.val mc.mhz).begin p (ActiveCmd.plain mc.cs.val false)
      else if (s.port p).granted f then
        (s.broken p mc.cs.val mc.mhz).masterLeased p { mc with addr := ((s.port p).mode f).addr e mc.addr } f (ctClass e) (ctData e == 2)
      else if ctClass e = 1 ∨ ctClass e = 2 ∨ ctClass e = 3 ∨ ctClass e = 5 then
        (s.broken p mc.cs.val mc.mhz).masterWrite p { mc with addr := ((s.port p).mode f).addr e mc.addr } f i e
      else (s.broken p mc.cs.val mc.mhz).masterOther p { mc with addr := ((s.port p).mode f).addr e mc.addr } f e := by
  have hport := port_heard mc.mhz h
  have hgrant : ((s.heard p mc.cs.val mc.mhz).port p).granted f = (s.port p).granted f := by rw [hport]; rfl
  have hmode : ((s.heard p mc.cs.val mc.mhz).port p).mode f = (s.port p).mode f := by rw [hport]; rfl
  have hmatch : ∀ o c, ((s.heard p mc.cs.val mc.mhz).port p).ctMatch o c = (s.port p).ctMatch o c := fun o c => by rw [hport]; rfl
  have hct : ctGet ((s.heard p mc.cs.val mc.mhz).port p).ctA i = e := by rw [hport]; exact he
  have hheard : (s.assertCs p mc.cs.val).accept p mc.mhz = s.heard p mc.cs.val mc.mhz := rfl
  unfold State.masterCmd
  simp only [hheard, hmode, hmatch, hgrant]
  rw [if_neg (by rintro ⟨hcode, hne⟩; exact hcompl.elim (fun h5 => by omega) hne), if_neg h9F, if_neg h5A, hentry]
  simp only [hct]
  rw [if_neg (by simp [hact, classFits_heard s p mc.cs.val mc.mhz mc.cs.val (ctClass e) mc.opc mc.cs.isLt, hfits])]
  rfl

end

theorem exec_masterCommand_of_hears {s : State} {p : Fin 16} {mc : MCmd} {f : Nat} (h : s.hears p.val mc.cs.val = true)
    (hf : s.csMap p.val mc.cs.val = some f) :
    exec (.masterCommand p mc) s = .next ((s.assertCs p.val mc.cs.val).masterCmd p.val mc f) :=
  congrArg _ (onCs_of_hears h hf _)

/-! ### Its outcomes -/

section
variable {s : State} {p : Nat} {mc : MCmd}

theorem active_begin (s : State) (p : Nat) (c : ActiveCmd) : ((s.begin p c).port p).active = some c := by
  rw [State.begin, port_modPort_self]

theorem reg_begin (s : State) (p : Nat) (c : ActiveCmd) (a : Nat) : (s.begin p c).reg a = s.reg a := rfl
theorem evt_begin (s : State) (p : Nat) (c : ActiveCmd) (k : Nat) : (s.begin p c).evt k = s.evt k := rfl
theorem reg_denyView (s : State) (p cs kind a : Nat) : (s.denyView p cs kind).reg a = s.reg a := rfl
theorem evt_denyView (s : State) (p cs kind k : Nat) : (s.denyView p cs kind).evt k = s.evt k := rfl

theorem masterForbid_spec (u : State) (p : Nat) (mc : MCmd) :
    u.Quiet p (u.masterForbid p mc) ∧ ((u.masterForbid p mc).port p).active = some (ActiveCmd.plain mc.cs.val false) ∧
      Word.field ((u.masterForbid p mc).reg (fp p 2 0x64)) 3 0 = 1 ∧
      (u.masterForbid p mc).evt (evPort p 3) = (u.evt (evPort p 3)).bump := by
  unfold State.masterForbid
  rw [reg_begin, evt_begin, evt_policyHit, if_pos rfl]
  exact ⟨quiet_begin (quiet_policyHit (quiet_refl p u) ..) _, active_begin .., field_policyHit_cause u p 1 _ _ _ _ (by decide), rfl⟩

theorem view_modView (q : PortState) (cs : Nat) (f : MView → MView) : (q.modView cs f).view cs = f (q.view cs) := by
  unfold PortState.modView PortState.view
  split_ifs <;> rfl

theorem wel_denyView (s : State) (p cs kind : Nat) : (((s.denyView p cs kind).port p).view cs).wel = false := by
  rw [State.denyView, port_modPort_self, view_modView]

theorem view_begin (s : State) (p : Nat) (c : ActiveCmd) (cs : Nat) : ((s.begin p c).port p).view cs = (s.port p).view cs := by
  rw [State.begin, port_modPort_self]
  rfl

theorem masterDeny_spec (u : State) (p : Nat) (mc : MCmd) (cls cause : Nat) (g : Option Nat) (a : Nat) (hcause : cause < 16) :
    u.Quiet p (u.masterDeny p mc cls cause g a) ∧ (((u.masterDeny p mc cls cause g a).port p).view mc.cs.val).wel = false ∧
      ((u.masterDeny p mc cls cause g a).port p).active = some (u.deniedCmd p mc.cs.val) ∧
      Word.field ((u.masterDeny p mc cls cause g a).reg (fp p 2 0x64)) 3 0 = cause ∧
      (u.masterDeny p mc cls cause g a).reg (fp p 2 0x68) = wd a ∧
      (u.masterDeny p mc cls cause g a).evt (evPort p 3) = (u.evt (evPort p 3)).bump := by
  have hdenied : (u.policyHit p cause mc.cs.val mc.opc g a).deniedCmd p mc.cs.val = u.deniedCmd p mc.cs.val := by
    rw [State.deniedCmd, State.deniedCmd, port_policyHit]
  unfold State.masterDeny
  dsimp only
  rw [hdenied, view_begin, wel_denyView, active_begin, reg_begin, reg_begin, evt_begin, reg_denyView, reg_denyView, evt_denyView,
    field_policyHit_cause u p cause _ _ _ _ hcause, reg_policyHit_addr, evt_policyHit, if_pos rfl]
  exact ⟨quiet_begin (quiet_modPort (quiet_policyHit (quiet_refl p u) ..) _) _, rfl, rfl, rfl, rfl, rfl⟩

/-- The answer of a leased chip select to a write or to a read outside the data path (R181). -/
theorem masterLeased_spec (u : State) (p : Nat) (mc : MCmd) (f cls : Nat) (rd : Bool) (hcls : cls ≠ 4) :
    let t := u.masterLeased p mc f cls rd
    (∀ q c o a mo d, Out.flash q c o a mo d ∈ t.outbox → Out.flash q c o a mo d ∈ u.outbox) ∧ (∀ q, q ≠ p → t.port q = u.port q) ∧
      t.reg (fp p 0 0xA8) = fld 2 0 ||| fld f 4 ∧ t.evt (evPort p 5) = (u.evt (evPort p 5)).bump ∧
      t.port p = { u.port p with active := some (ActiveCmd.plain mc.cs.val false) } := by
  have hstatus : u.isStatus p mc.cs.val cls mc.opc = false := by simp [State.isStatus, hcls]
  intro t
  have ht : t = ((if rd then u.out (.master p (List.replicate mc.n 0xFF)) else u).portErr p 2 f).begin p (ActiveCmd.plain mc.cs.val false) := by
    show u.masterLeased p mc f cls rd = _
    rw [State.masterLeased, if_neg (by simp [hstatus])]
  have hanswer : ∀ w : State, w = (if rd then u.out (.master p (List.replicate mc.n 0xFF)) else u) →
      (∀ q c o a mo d, Out.flash q c o a mo d ∈ w.outbox → Out.flash q c o a mo d ∈ u.outbox) ∧ (∀ q, w.port q = u.port q) ∧
        (∀ k, w.evt k = u.evt k) := by
    rintro w rfl
    split_ifs
    · refine ⟨fun q c o a mo d hmem => ?_, fun _ => rfl, fun _ => rfl⟩
      exact (List.mem_append.mp hmem).elim id (by simp)
    · exact ⟨fun _ _ _ _ _ _ hmem => hmem, fun _ => rfl, fun _ => rfl⟩
  generalize (if rd then u.out (.master p (List.replicate mc.n 0xFF)) else u) = w at ht hanswer
  obtain ⟨hflash, hport, hevt⟩ := hanswer w rfl
  have hquiet : w.Quiet p t := by
    rw [ht]
    exact quiet_begin (quiet_portErr (quiet_refl p w) _ _) _
  refine ⟨fun q c o a mo d hmem => hflash q c o a mo d (no_flash_of_quiet hquiet q c o a mo d hmem),
    fun q hq => (hquiet.others q hq).trans (hport q), ?_, ?_, ?_⟩
  · rw [ht, reg_begin, reg_portErr, if_pos rfl]
  · rw [ht, evt_begin, evt_portErr, if_pos rfl, hevt]
  · rw [ht, State.begin, port_modPort_self, port_portErr, hport]

/-! ### Writes -/

section
variable {u : State} {f i : Nat} {e : List Word} {g : Option Nat}

/-- The region of a write-class command: that of its address, none where its class has no address (R207). -/
def State.writeRegion (u : State) (p : Nat) (mc : MCmd) (f : Nat) (e : List Word) : Option Nat :=
  if ctAddr e ≠ 0 then (u.port p).govern mc.cs.val (u.wrapAddr p f mc.addr / 4096) else none

theorem masterWrite_eq (u : State) (p : Nat) (mc : MCmd) (f i : Nat) (e : List Word) (hg : u.writeRegion p mc f e = g) (hdone : ctAddr e ≠ 0 → mc.addrDone = true)
    (hspan : ctClass e = 2 → u.eraseSpan p mc e g (u.wrapAddr p f mc.addr) = false) (hhold : ctAddr e ≠ 0 → (u.port p).modeOf g ≠ 4) :
    u.masterWrite p mc f i e =
      if ctAction e = 2 then u.masterDeny p mc (ctClass e) 3 g (u.wrapAddr p f mc.addr)
      else if ctAction e = 3 ∨ (decide (ctAddr e ≠ 0) && (u.port p).modeOf g == 2) then
        u.begin p { ActiveCmd.plain mc.cs.val false with
          capture := some (u.captureOf p mc f i e g (u.wrapAddr p f mc.addr)), maddr := if decide (ctAddr e ≠ 0) then u.wrapAddr p f mc.addr else 0 }
      else if decide (ctAddr e ≠ 0) && (u.port p).modeOf g == 0 && g.any (fun j => rgWr ((u.port p).rg j)) then
        u.begin p { ActiveCmd.forward mc.cs.val e with
          issue := some { cs := ((u.port p).mapOf g mc.cs.val f (u.wrapAddr p f mc.addr)).1, opc := mc.opc,
                          addr := ((u.port p).mapOf g mc.cs.val f (u.wrapAddr p f mc.addr)).2, mclk := ctMclk e, data := mc.data },
          view := .write true }
      else u.masterDeny p mc (ctClass e) 3 g (u.wrapAddr p f mc.addr) := by
  have hregion : (if decide (ctAddr e ≠ 0) = true then (u.port p).govern mc.cs.val (u.wrapAddr p f mc.addr / 4096) else none) = g := by
    rw [← hg, State.writeRegion]
    simp only [decide_eq_true_eq]
  unfold State.masterWrite
  dsimp only
  rw [hregion]
  rw [if_neg (by simpa using hdone), if_neg (by simpa using hhold), if_neg (by rintro ⟨hcls, h⟩; simp [hspan hcls] at h)]
  cases g <;> rfl

end

end

/-! ### A read that passes -/

theorem wrapAddr_of_reg {s t : State} {p : Nat} (h : t.reg (fp p 0 0x88) = s.reg (fp p 0 0x88)) (cs a : Nat) : t.wrapAddr p cs a = s.wrapAddr p cs a := by
  have hdens : t.dens p cs = s.dens p cs := by rw [State.dens, State.fldOf, h]; rfl
  rw [State.wrapAddr, hdens]
  rfl

theorem wrapAddr_of_tracked {p : Nat} {s t : State} (h : s.Tracked p t) (cs a : Nat) : t.wrapAddr p cs a = s.wrapAddr p cs a :=
  wrapAddr_of_reg (congrArg (SMap.get resetAt · _) h.regs) cs a

theorem govern_start {q : PortState} {cs blk j : Nat} (h : q.govern cs blk = some j) : rgStart (q.rg j) ≤ blk := by
  have hfound := List.find?_some h
  simp only [Bool.and_eq_true, decide_eq_true_eq] at hfound
  exact hfound.1.2

/-- Addresses of one region map in order (R205). -/
theorem mapAddr_add {q : PortState} {j mcs fcs a k : Nat} (h : rgStart (q.rg j) ≤ a / 4096) :
    q.mapAddr j mcs fcs (a + k) = ((q.mapAddr j mcs fcs a).1, (q.mapAddr j mcs fcs a).2 + k) := by
  simp only [PortState.mapAddr]
  rw [Prod.mk.injEq]
  refine ⟨rfl, ?_⟩
  generalize rgStart (q.rg j) = st at h ⊢
  generalize (q.mapBase j mcs fcs).2 = b
  omega

/-- What a data phase has done after `k` bytes that all pass from the flash (R174, R247). -/
structure ReadPasses (p : Nat) (s : State) (flash : Bytes) (fa : Nat × Nat) (n k : Nat) (r : RdAcc) : Prop where
  out : r.out = (List.range k).map (Bytes.at flash)
  flashAt : k < n → r.flashAt = some (fa.1, fa.2 + k)
  broken : r.broken = false
  held : r.held = false
  collide : r.collide = false
  tracked : s.Tracked p r.s

/-- One byte more passes (R174). -/
theorem rdByte_passes {p : Nat} {s : State} {mc : MCmd} {f : Nat} {fa : Nat × Nat} {a n k j : Nat} {r : RdAcc}
    (hr : ReadPasses p s mc.flash fa n k r) (hk : k < n) (hwrap : s.wrapAddr p f (mc.addr + k) = a + k) (hflash : k + 1 < n → s.wrapAddr p fa.1 (fa.2 + (k + 1)) = fa.2 + (k + 1))
    (hgov : (s.port p).govern mc.cs.val ((a + k) / 4096) = some j) (hmode : rgMode ((s.port p).rg j) ≤ 2)
    (hmap : (s.port p).mapAddr j mc.cs.val f (a + k) = (fa.1, fa.2 + k))
    (hwin : rgMode ((s.port p).rg j) = 1 → (s.port p).winOf fa.1 ((fa.2 + k) / 4096) = none) :
    ReadPasses p s mc.flash fa n (k + 1) (rdByte p mc f false false false r k) := by
  obtain ⟨hout, hat, hbroken, hheld, hcollide, htrack⟩ := hr
  have hport := htrack.port
  have hwrap' : r.s.wrapAddr p f (mc.addr + k) = a + k := by rw [wrapAddr_of_tracked htrack, hwrap]
  have hgov' : (r.s.port p).govern mc.cs.val ((a + k) / 4096) = some j := by rw [hport]; exact hgov
  have hmode' : (r.s.port p).modeOf (some j) = rgMode ((s.port p).rg j) := by rw [hport]; rfl
  have hmap' : (r.s.port p).mapAddr j mc.cs.val f (a + k) = (fa.1, fa.2 + k) := by rw [hport]; exact hmap
  have hwin' : (if rgMode ((s.port p).rg j) = 1 then (r.s.port p).winOf fa.1 ((fa.2 + k) / 4096) else none) = none := by
    split_ifs with h1
    · rw [hport]; exact hwin h1
    · rfl
  have hzero : (decide (0 < k) && decide (a + k = 0)) = false := by
    by_cases h0 : 0 < k
    · simp; omega
    · simp [h0]
  unfold rdByte
  rw [hheld]
  simp only [hwrap', hgov', hmode', hmap', hwin', hzero, hbroken, hat hk]
  have h3 : (rgMode ((s.port p).rg j) == 3) = false := by simp; omega
  have h4 : (rgMode ((s.port p).rg j) == 4) = false := by simp; omega
  rw [if_neg (by decide), if_neg (by rintro ⟨h, -⟩; omega), if_neg (by simp [h3, h4]), if_neg (by simp)]
  simp only [Option.isSome_none, Bool.false_and, Bool.false_eq_true, if_false, Bool.not_false, Bool.and_true, Bool.or_self]
  have hnext : s.Tracked p (if r.follow then r.s.stitchByte p (some j) fa.1 (fa.2 + k) (some (Bytes.at mc.flash k)) (r.s.reg (fp p 0 0xB0)) else r.s) := by
    split_ifs
    · exact tracked_stitchByte htrack _ _ _ _ _
    · exact htrack
  refine ⟨?_, fun hlast => ?_, rfl, rfl, hcollide, hnext⟩
  · rw [hout, List.range_succ, List.map_append]
    rfl
  · rw [Nat.add_assoc, wrapAddr_of_tracked htrack, hflash hlast]

/-- Where every byte of a read lies in one region that passes it: the read's address, its region and the flash address it maps to (R174,
R203, R205). -/
structure ReadPlain (s : State) (p : Nat) (mc : MCmd) (f a j : Nat) (fa : Nat × Nat) : Prop where
  addr : s.wrapAddr p f mc.addr = a
  region : (s.port p).govern mc.cs.val (a / 4096) = some j
  mode : rgMode ((s.port p).rg j) ≤ 2
  maps : (s.port p).mapAddr j mc.cs.val f a = fa
  wraps : ∀ k, k < mc.n → s.wrapAddr p f (mc.addr + k) = a + k
  flash : ∀ k, k < mc.n → s.wrapAddr p fa.1 (fa.2 + k) = fa.2 + k
  govern : ∀ k, k < mc.n → (s.port p).govern mc.cs.val ((a + k) / 4096) = some j
  noWindow : ∀ k, k < mc.n → rgMode ((s.port p).rg j) = 1 → (s.port p).winOf fa.1 ((fa.2 + k) / 4096) = none

theorem readPlain_of_tracked {s t : State} {p : Nat} {mc : MCmd} {f a j : Nat} {fa : Nat × Nat} (h : ReadPlain s p mc f a j fa)
    (htrack : s.Tracked p t) : ReadPlain t p mc f a j fa := by
  have hport := htrack.port
  refine ⟨?_, ?_, ?_, ?_, fun k hk => ?_, fun k hk => ?_, fun k hk => ?_, fun k hk h1 => ?_⟩
  · rw [wrapAddr_of_tracked htrack, h.addr]
  · rw [hport]; exact h.region
  · rw [hport]; exact h.mode
  · rw [hport]; exact h.maps
  · rw [wrapAddr_of_tracked htrack, h.wraps k hk]
  · rw [wrapAddr_of_tracked htrack, h.flash k hk]
  · rw [hport]; exact h.govern k hk
  · rw [hport] at h1 ⊢
    exact h.noWindow k hk h1

theorem foldl_rdByte_passes {s : State} {p : Nat} {mc : MCmd} {f a j : Nat} {fa : Nat × Nat} (h : ReadPlain s p mc f a j fa) (r : RdAcc)
    (hr : ReadPasses p s mc.flash fa mc.n 0 r) (k : Nat) (hk : k ≤ mc.n) :
    ReadPasses p s mc.flash fa mc.n k ((List.range k).foldl (rdByte p mc f false false false) r) := by
  induction k with
  | zero => exact hr
  | succ k ih =>
    rw [List.range_succ, List.foldl_append]
    refine rdByte_passes (ih (by omega)) (by omega) (h.wraps k (by omega)) (fun hlast => h.flash (k + 1) hlast) (h.govern k (by omega)) h.mode ?_
      (h.noWindow k (by omega))
    rw [mapAddr_add (govern_start h.region), h.maps]

/-- A read in a region that passes it (R174, R207, R208). -/
theorem masterRead_passes {u : State} {p : Nat} {mc : MCmd} {f a j : Nat} {fa : Nat × Nat} {e : List Word} (h : ReadPlain u p mc f a j fa)
    (hfree : (u.port p).granted f = false) (hcode : ((u.port p).mode f).code ≠ 7) (haction : ctAction e = 1)
    (hdummy : autoDummy mc.mhz ≤ u.addDummy p (u.portMhz p)) :
    let t := u.masterRead p mc f e
    t.outbox.getLast? = some (.master p ((List.range mc.n).map (Bytes.at mc.flash))) ∧
      Out.flash p fa.1 mc.opc.toNat fa.2 (List.replicate (ctMclk e) 0xFF) [] ∈ t.outbox ∧
      (t.port p).active = some (ActiveCmd.forward mc.cs.val e) ∧ (t.port p).mcs = (u.port p).mcs ∧ (∀ q, q ≠ p → t.port q = u.port q) := by
  have hmode := h.mode
  have hmodeOf : (u.port p).modeOf (some j) = rgMode ((u.port p).rg j) := rfl
  have hmapOf : (u.port p).mapOf (some j) mc.cs.val f a = fa := h.maps
  have h3 : (rgMode ((u.port p).rg j) == 3) = false := by simp; omega
  have h4 : (rgMode ((u.port p).rg j) == 4) = false := by simp; omega
  have hact : (ctAction e == 2) = false := by simp [haction]
  have hshort : decide (u.addDummy p (u.portMhz p) < autoDummy mc.mhz) = false := by simp; omega
  intro t
  have htrack := tracked_stitchCmd (tracked_refl p u) (some j) fa.1 fa.2
  have ht : t = u.masterRead p mc f e := rfl
  unfold State.masterRead at ht
  simp only [h.addr, h.region, hmodeOf, hmapOf, h3, h4, hact, hshort, hfree] at ht
  rw [if_neg (by decide), if_neg (by omega), if_neg (by decide), if_neg hcode] at ht
  simp only [Bool.or_self, Bool.not_false, Bool.and_self, if_true] at ht
  have hissue : ∀ w : State, w = u.stitchCmd p (some j) fa.1 fa.2 →
      u.Tracked p w := fun w hw => hw ▸ htrack
  generalize u.stitchCmd p (some j) fa.1 fa.2 = w at ht hissue
  have hw := hissue w rfl
  have hplain : ReadPlain (w.issue p { cs := fa.1, opc := mc.opc, addr := fa.2, mclk := ctMclk e, data := [] }) p mc f a j fa :=
    let hpl := readPlain_of_tracked h hw
    ⟨hpl.addr, hpl.region, hpl.mode, hpl.maps, hpl.wraps, hpl.flash, hpl.govern, hpl.noWindow⟩
  have hsent : Out.flash p fa.1 mc.opc.toNat fa.2 (List.replicate (ctMclk e) 0xFF) [] ∈
      (w.issue p { cs := fa.1, opc := mc.opc, addr := fa.2, mclk := ctMclk e, data := [] }).outbox :=
    List.mem_append_right _ (List.mem_singleton_self _)
  have hothers : ∀ q, (w.issue p { cs := fa.1, opc := mc.opc, addr := fa.2, mclk := ctMclk e, data := [] }).port q = w.port q := fun _ => rfl
  generalize w.issue p { cs := fa.1, opc := mc.opc, addr := fa.2, mclk := ctMclk e, data := [] } = v at ht hplain hsent hothers
  obtain ⟨hout, -, -, hheld, hcollide, hread⟩ :=
    foldl_rdByte_passes hplain (RdAcc.start v (some fa) true false false) ⟨rfl, fun _ => rfl, rfl, rfl, rfl, tracked_refl p v⟩ mc.n le_rfl
  have hdata : v.readData p mc f false false false (RdAcc.start v (some fa) true false false) =
      { (List.range mc.n).foldl (rdByte p mc f false false false) (RdAcc.start v (some fa) true false false) with
        s := ((List.range mc.n).foldl (rdByte p mc f false false false) (RdAcc.start v (some fa) true false false)).s.out
          (.master p ((List.range mc.n).map (Bytes.at mc.flash))) } := by
    rw [← hout]
    unfold State.readData
    dsimp only
    have hsame : { RdAcc.start v (some fa) true false false with s := v } = RdAcc.start v (some fa) true false false := rfl
    rw [hsame, if_neg (by simp [hcollide])]
    rfl
  rw [hdata] at ht
  dsimp only at ht
  generalize (List.range mc.n).foldl (rdByte p mc f false false false) (RdAcc.start v (some fa) true false false) = r at ht hheld hread
  rw [hheld, if_neg (by decide)] at ht
  have hport : t.port p = { r.s.port p with active := some (ActiveCmd.forward mc.cs.val e) } := by rw [ht]; exact port_modPort_self ..
  have hbox : t.outbox = r.s.outbox ++ [.master p ((List.range mc.n).map (Bytes.at mc.flash))] := by rw [ht]; rfl
  refine ⟨by simp [hbox], ?_, by rw [hport], ?_, fun q hq => ?_⟩
  · rw [hbox]
    exact List.mem_append_left _ (mem_told hread.told hsent)
  · rw [hport, hread.port, hothers, hw.port]
  · have hother : t.port q = r.s.port q := by rw [ht]; exact port_modPort_other _ hq _
    rw [hother, hread.others q hq, hothers, hw.others q hq]

end Sys2Proof.Machine
end

section
/-! PROOFS. MASTER_COMMAND as a whole (R174, R177, R181, R195, R207 to R209). -/
namespace Sys2Proof.Machine

section
variable {s : State} {p f : Nat} {mc : MCmd}

/-- What a write-class command consults does not change as it is heard. -/
theorem writeRegion_broken (h : s.hears p mc.cs.val = true) (a f : Nat) (e : List Word) :
    (s.broken p mc.cs.val mc.mhz).writeRegion p { mc with addr := a } f e = s.writeRegion p { mc with addr := a } f e := by
  obtain ⟨st, cov, checks, hport⟩ := port_broken mc.mhz h
  have hwrap : ∀ b, (s.broken p mc.cs.val mc.mhz).wrapAddr p f b = s.wrapAddr p f b := fun b =>
    wrapAddr_of_reg ((reg_broken ..).trans (reg_stat_heard s p mc.cs.val mc.mhz 0x88 (.inr ⟨by omega, by omega⟩))) f b
  simp only [State.writeRegion, hwrap, hport]
  rfl

theorem wrapAddr_broken (s : State) (p cs mhz f a : Nat) : (s.broken p cs mhz).wrapAddr p f a = s.wrapAddr p f a :=
  wrapAddr_of_reg ((reg_broken ..).trans (reg_stat_heard s p cs mhz 0x88 (.inr ⟨by omega, by omega⟩))) f a

theorem eraseSpan_broken (h : s.hears p mc.cs.val = true) (c : MCmd) (e : List Word) (g : Option Nat) (a : Nat) :
    (s.broken p mc.cs.val mc.mhz).eraseSpan p c e g a = s.eraseSpan p c e g a := by
  obtain ⟨st, cov, checks, hport⟩ := port_broken mc.mhz h
  rw [State.eraseSpan, hport]
  rfl

theorem captureOf_broken (h : s.hears p mc.cs.val = true) (c : MCmd) (f i : Nat) (e : List Word) (g : Option Nat) (a : Nat) :
    (s.broken p mc.cs.val mc.mhz).captureOf p c f i e g a = s.captureOf p c f i e g a := by
  obtain ⟨st, cov, checks, hport⟩ := port_broken mc.mhz h
  unfold State.captureOf
  rw [hport]
  rfl

theorem deniedCmd_broken (h : s.hears p mc.cs.val = true) (cs : Nat) :
    (s.broken p mc.cs.val mc.mhz).deniedCmd p cs = s.deniedCmd p cs := by
  obtain ⟨st, cov, checks, hport⟩ := port_broken mc.mhz h
  rw [State.deniedCmd, hport]
  rfl

/-- A write-class command that no lease stops, in the terms of the state before it (R207 to R209). -/
theorem masterWrite_broken (h : s.hears p mc.cs.val = true) {a : Nat} {g : Option Nat} {e : List Word} (f i : Nat)
    (hg : s.writeRegion p { mc with addr := a } f e = g) (hdone : ctAddr e ≠ 0 → mc.addrDone = true)
    (hspan : ctClass e = 2 → s.eraseSpan p { mc with addr := a } e g (s.wrapAddr p f a) = false) (hhold : ctAddr e ≠ 0 → (s.port p).modeOf g ≠ 4) :
    (s.broken p mc.cs.val mc.mhz).masterWrite p { mc with addr := a } f i e =
      if ctAction e = 2 then (s.broken p mc.cs.val mc.mhz).masterDeny p { mc with addr := a } (ctClass e) 3 g (s.wrapAddr p f a)
      else if ctAction e = 3 ∨ (decide (ctAddr e ≠ 0) && (s.port p).modeOf g == 2) then
        (s.broken p mc.cs.val mc.mhz).begin p { ActiveCmd.plain mc.cs.val false with
          capture := some (s.captureOf p { mc with addr := a } f i e g (s.wrapAddr p f a)),
          maddr := if decide (ctAddr e ≠ 0) then s.wrapAddr p f a else 0 }
      else if decide (ctAddr e ≠ 0) && (s.port p).modeOf g == 0 && g.any (fun j => rgWr ((s.port p).rg j)) then
        (s.broken p mc.cs.val mc.mhz).begin p { ActiveCmd.forward mc.cs.val e with
          issue := some { cs := ((s.port p).mapOf g mc.cs.val f (s.wrapAddr p f a)).1, opc := mc.opc,
                          addr := ((s.port p).mapOf g mc.cs.val f (s.wrapAddr p f a)).2, mclk := ctMclk e, data := mc.data },
          view := .write true }
      else (s.broken p mc.cs.val mc.mhz).masterDeny p { mc with addr := a } (ctClass e) 3 g (s.wrapAddr p f a) := by
  obtain ⟨st, cov, checks, hport⟩ := port_broken mc.mhz h
  have hmode : ((s.broken p mc.cs.val mc.mhz).port p).modeOf g = (s.port p).modeOf g := by rw [hport]; rfl
  have hmap : ∀ b, ((s.broken p mc.cs.val mc.mhz).port p).mapOf g mc.cs.val f b = (s.port p).mapOf g mc.cs.val f b := fun b => by rw [hport]; rfl
  have hrg : ∀ j, ((s.broken p mc.cs.val mc.mhz).port p).rg j = (s.port p).rg j := fun j => by rw [hport]; rfl
  have hwrap := wrapAddr_broken s p mc.cs.val mc.mhz f a
  rw [masterWrite_eq (s.broken p mc.cs.val mc.mhz) p { mc with addr := a } f i e ((writeRegion_broken h a f e).trans hg) hdone
    (fun hcls => by rw [hwrap, eraseSpan_broken h, hspan hcls]) (fun haddr => by rw [hmode]; exact hhold haddr)]
  simp only [hwrap, hmode, hmap, hrg, captureOf_broken h]

/-- A command under way on the port, of which the outside has heard nothing yet. -/
theorem begin_broken (s : State) (p cs mhz : Nat) (c : ActiveCmd) :
    s.Quiet p ((s.broken p cs mhz).begin p c) ∧ (((s.broken p cs mhz).begin p c).port p).active = some c :=
  ⟨quiet_begin (quiet_broken s p cs mhz) c, active_begin ..⟩

theorem readPlain_heard {a j : Nat} {fa : Nat × Nat} (h : s.hears p mc.cs.val = true) (c : MCmd) (hc : ReadPlain s p c f a j fa) :
    ReadPlain (s.heard p mc.cs.val mc.mhz) p c f a j fa := by
  have hport := port_heard mc.mhz h
  have hwrap : ∀ cs b, (s.heard p mc.cs.val mc.mhz).wrapAddr p cs b = s.wrapAddr p cs b := fun cs b =>
    wrapAddr_of_reg (reg_stat_heard s p mc.cs.val mc.mhz 0x88 (.inr ⟨by omega, by omega⟩)) cs b
  refine ⟨?_, ?_, ?_, ?_, fun k hk => ?_, fun k hk => ?_, fun k hk => ?_, fun k hk h1 => ?_⟩
  · rw [hwrap, hc.addr]
  · rw [hport]; exact hc.region
  · rw [hport]; exact hc.mode
  · rw [hport]; exact hc.maps
  · rw [hwrap, hc.wraps k hk]
  · rw [hwrap, hc.flash k hk]
  · rw [hport]; exact hc.govern k hk
  · rw [hport] at h1 ⊢
    exact hc.noWindow k hk h1

theorem addDummy_heard (s : State) (p cs mhz : Nat) :
    (s.heard p cs mhz).addDummy p ((s.heard p cs mhz).portMhz p) = s.addDummy p (s.portMhz p) := by
  have h54 := reg_stat_heard s p cs mhz 0x54 (.inl (by decide))
  have h48 := reg_stat_heard s p cs mhz 0x48 (.inl (by decide))
  simp only [State.addDummy, State.portMhz, State.bitOf, State.fldOf, h54, h48]
  rfl

end

/-- Settles O18. Which way a command goes is read from its entry (`masterCmd_forbidden`, `masterCmd_of_entry`) and, for a write, its region
(`masterWrite_broken`); each byte of a read that passes comes from the flash (`rdByte_passes`). -/
theorem masterCommandsReachTheFlashAsTheirRegionsAllow : Obligations.MasterCommandsReachTheFlashAsTheirRegionsAllow := by
  unfold Obligations.MasterCommandsReachTheFlashAsTheirRegionsAllow
  intro s p mc
  refine ⟨fun h => congrArg _ (onCs_of_not_hears h _), fun f h hf => ⟨fun hfree hforbid => ?forbidden,
    fun i e h9F h5A hcompl hentry he hfits => ⟨fun hcls hact hearly => ?early,
      fun j fa hcls hact hdone hfree hcode hdummy hregion hmode hmap hbytes => ?reads, fun hcls a g ha hg hdone hspan j hfree => ⟨
        fun hact haddr hj hmode hwr => ?forwards, fun hcapture => ?captures, fun hact hdeny => ?denies⟩,
      fun hlease hact hcls hdata => ?leased⟩⟩⟩
  case forbidden =>
    have hexec := (exec_masterCommand_of_hears h hf).trans (congrArg _ (masterCmd_forbidden h hfree
      (hforbid.imp_left fun ⟨h5, hne⟩ => ⟨h5, modeRuns_of_hears h hf, hne⟩)))
    obtain ⟨hquiet, hactive, hcause, hevt⟩ := masterForbid_spec (s.broken p.val mc.cs.val mc.mhz) p.val mc
    have hq := quiet_trans (quiet_broken s p.val mc.cs.val mc.mhz) hquiet
    refine ⟨_, hexec, no_flash_of_quiet hq, hactive, hcause, ?_, hq.others, hq.frame⟩
    rw [hevt, evt_broken _ _ _ _ _ (by simp only [evPort]; omega)]
  case early =>
    have hexec := (exec_masterCommand_of_hears h hf).trans (congrArg _ (masterCmd_of_entry h h9F h5A hcompl hentry he hfits hact))
    rw [if_pos hcls, if_neg (by simp [hearly])] at hexec
    obtain ⟨st, cov, checks, hport⟩ := port_broken mc.mhz h
    have hevt := evt_broken s p.val mc.cs.val mc.mhz (evPort p.val 5) (by simp only [evPort]; omega)
    by_cases hlease : (s.port p.val).granted f = true
    · rw [if_pos hlease] at hexec
      obtain ⟨hflash, hothers, hreg, hbump, hportT⟩ := masterLeased_spec (s.broken p.val mc.cs.val mc.mhz) p.val
        { mc with addr := ((s.port p.val).mode f).addr e mc.addr, n := 0 } f (ctClass e) true (by omega)
      refine ⟨_, hexec, by rw [hportT], by rw [hportT, hport], fun q c o a mo d hmem => ?_, fun _ => ⟨hreg, by rw [hbump, hevt]⟩,
        fun hfree => absurd hlease (by simp [hfree])⟩
      exact no_flash_of_quiet (quiet_broken s p.val mc.cs.val mc.mhz) q c o a mo d (hflash q c o a mo d hmem)
    · rw [if_neg hlease] at hexec
      obtain ⟨hquiet, hactive⟩ := begin_broken s p.val mc.cs.val mc.mhz (ActiveCmd.plain mc.cs.val false)
      refine ⟨_, hexec, hactive, ?_, no_flash_of_quiet hquiet, fun h => absurd h hlease, fun _ => ⟨?_, fun q d => mem_of_told hquiet.told rfl⟩⟩
      · rw [State.begin, port_modPort_self, hport]
      · rw [reg_begin, reg_broken, reg_stat_heard s p.val mc.cs.val mc.mhz 0xA8 (.inr ⟨by omega, by omega⟩)]
  case reads =>
    have hexec := (exec_masterCommand_of_hears h hf).trans (congrArg _ (masterCmd_of_entry h h9F h5A hcompl hentry he hfits (by omega)))
    rw [if_pos hcls, if_pos hdone] at hexec
    have hport := port_heard mc.mhz h
    have hplain : ReadPlain s p.val { mc with addr := ((s.port p.val).mode f).addr e mc.addr } f _ j fa :=
      ⟨rfl, hregion, hmode, hmap, fun k hk => (hbytes k hk).1, fun k hk => (hbytes k hk).2.1, fun k hk => (hbytes k hk).2.2.1,
        fun k hk => (hbytes k hk).2.2.2⟩
    obtain ⟨hout, hsent, hactive, hmcs, hothers⟩ := masterRead_passes (e := e) (readPlain_heard h _ hplain) (by rw [hport]; exact hfree)
      (by rw [hport]; exact hcode) hact (by rw [addDummy_heard]; exact hdummy)
    refine ⟨_, hexec, hout, hsent, hactive, by rw [hmcs, hport], fun q hq => ?_⟩
    rw [hothers q hq, port_heard_other mc.mhz mc.cs.val hq]
  case forwards =>
    have hregion : s.writeRegion p.val { mc with addr := a } f e = g := hg
    have hexec := (exec_masterCommand_of_hears h hf).trans (congrArg _ (masterCmd_of_entry h h9F h5A hcompl hentry he hfits (by omega)))
    rw [if_neg (by omega), if_neg (by simp [hfree]), if_pos hcls, ha, masterWrite_broken h f i hregion hdone hspan (by simp [hj, PortState.modeOf, hmode]),
      if_neg (by omega), if_neg (by simp [hact, hj, PortState.modeOf, hmode]), if_pos (by simp [haddr, hj, PortState.modeOf, hmode, hwr])] at hexec
    obtain ⟨hquiet, hactive⟩ := begin_broken s p.val mc.cs.val mc.mhz _
    refine ⟨_, hexec, no_flash_of_quiet hquiet, ?_, hquiet.others, hquiet.frame⟩
    rw [hactive, hj]
    rfl
  case captures =>
    have hregion : s.writeRegion p.val { mc with addr := a } f e = g := hg
    have hact : ctAction e ≠ 0 ∧ ctAction e ≠ 2 := by
      rcases hcapture with ⟨h3, -⟩ | ⟨-, -, -, h0, h2⟩
      · omega
      · exact ⟨h0, h2⟩
    have hexec := (exec_masterCommand_of_hears h hf).trans (congrArg _ (masterCmd_of_entry h h9F h5A hcompl hentry he hfits hact.1))
    have hhold : ctAddr e ≠ 0 → (s.port p.val).modeOf g ≠ 4 := by
      rcases hcapture with ⟨-, h0⟩ | ⟨-, hj, hmode, -⟩
      · exact fun h => absurd h0 h
      · simp [hj, PortState.modeOf, hmode]
    have hmode : ctAction e = 3 ∨ (decide (ctAddr e ≠ 0) && (s.port p.val).modeOf g == 2) = true := by
      rcases hcapture with ⟨h3, -⟩ | ⟨haddr, hj, hmode, -⟩
      · exact .inl h3
      · exact .inr (by simp [haddr, hj, PortState.modeOf, hmode])
    rw [if_neg (by omega), if_neg (by simp [hfree]), if_pos hcls, ha, masterWrite_broken h f i hregion hdone hspan hhold, if_neg hact.2,
      if_pos hmode] at hexec
    obtain ⟨hquiet, hactive⟩ := begin_broken s p.val mc.cs.val mc.mhz _
    refine ⟨_, hexec, no_flash_of_quiet hquiet, ?_, hquiet.others, hquiet.frame⟩
    rw [hactive]
    simp only [decide_eq_true_eq]
  case denies =>
    have hregion : s.writeRegion p.val { mc with addr := a } f e = g := hg
    have hexec := (exec_masterCommand_of_hears h hf).trans (congrArg _ (masterCmd_of_entry h h9F h5A hcompl hentry he hfits (by omega)))
    have hmode : ctAddr e ≠ 0 → (s.port p.val).modeOf g ≠ 4 ∧ (s.port p.val).modeOf g ≠ 2 ∧
        ((s.port p.val).modeOf g = 0 → g.any (fun j => rgWr ((s.port p.val).rg j)) = false) := fun haddr => by
      rcases hdeny with h0 | rfl | ⟨rfl, h1 | h3 | ⟨h0, hwr⟩⟩
      · exact absurd h0 haddr
      · simp [PortState.modeOf]
      · simp [PortState.modeOf, h1]
      · simp [PortState.modeOf, h3]
      · simp [PortState.modeOf, h0, hwr]
    rw [if_neg (by omega), if_neg (by simp [hfree]), if_pos hcls, ha, masterWrite_broken h f i hregion hdone hspan (fun haddr => (hmode haddr).1),
      if_neg (by omega), if_neg ?notCaptured, if_neg ?notForwarded] at hexec
    case notCaptured =>
      simp only [Bool.and_eq_true, decide_eq_true_eq, beq_iff_eq]
      exact fun hc => hc.elim (by omega) fun ⟨haddr, h2⟩ => (hmode haddr).2.1 h2
    case notForwarded =>
      simp only [Bool.and_eq_true, decide_eq_true_eq, beq_iff_eq]
      rintro ⟨⟨haddr, h0⟩, hwr⟩
      simp [(hmode haddr).2.2 h0] at hwr
    obtain ⟨hquiet, hwel, hactive, hcause, haddr, hevt⟩ := masterDeny_spec (s.broken p.val mc.cs.val mc.mhz) p.val { mc with addr := a } (ctClass e) 3 g
      (s.wrapAddr p.val f a) (by decide)
    have hq := quiet_trans (quiet_broken s p.val mc.cs.val mc.mhz) hquiet
    refine ⟨_, hexec, no_flash_of_quiet hq, hwel, by rw [hactive, deniedCmd_broken h], hcause, haddr, ?_, hq.others, hq.frame⟩
    rw [hevt, evt_broken _ _ _ _ _ (by simp only [evPort]; omega)]
  case leased =>
    have hexec := (exec_masterCommand_of_hears h hf).trans (congrArg _ (masterCmd_of_entry h h9F h5A hcompl hentry he hfits hact))
    rw [if_neg (by omega), if_pos hlease] at hexec
    obtain ⟨st, cov, checks, hport⟩ := port_broken mc.mhz h
    obtain ⟨hflash, -, hreg, -, hportT⟩ := masterLeased_spec (s.broken p.val mc.cs.val mc.mhz) p.val
      { mc with addr := ((s.port p.val).mode f).addr e mc.addr } f (ctClass e) (ctData e == 2) (by omega)
    refine ⟨_, hexec, fun q c o a mo d hmem => ?_, hreg, by rw [hportT], by rw [hportT, hport]; rfl⟩
    exact no_flash_of_quiet (quiet_broken s p.val mc.cs.val mc.mhz) q c o a mo d (hflash q c o a mo d hmem)

end Sys2Proof.Machine
end

section
/-! PROOFS. The end of a master command (R160, R161, R174, R176, R199, R216, R217). -/
namespace Sys2Proof.Machine

/-! ### What the end of a command does before its capture -/

/-- The flash command of a forwarded write goes out (R216). -/
def ActiveCmd.issued (c : ActiveCmd) (p : Nat) (s : State) : State :=
  match c.issue with
  | some f => s.issue p f
  | none => s

/-- The master view changes as the command says, and a write is on its way (R176, R318). -/
def ActiveCmd.viewed (c : ActiveCmd) (p : Nat) (s : State) : State :=
  match c.issue, c.view with
  | some f, .write _ => (s.modPort p (fun q => q.modView c.cs (fun v => v.apply c.view))).modPort p (fun q => q.writeSent f.cs)
  | _, _ => s.modPort p (fun q => q.modView c.cs (fun v => v.apply c.view))

/-- The mode switches, unless a HOLD region ended the command, and the port is free (R160, R199, R248). -/
def ActiveCmd.ended (c : ActiveCmd) (held : Bool) (reg : FMode) (clk : Nat) (q : PortState) : PortState :=
  let q := if c.fwd && !held then q.setMode c.cs ((q.mode c.cs).switch reg c) else q
  { q with active := none, stitch := if q.stitch.isOpen then { q.stitch with ended := some clk } else q.stitch }

/-- The state in which a command has ended, but for its capture and the WRDI after a denial: `d` holds what its data phase left and whether a HOLD
region ended it. -/
def ActiveCmd.closed (c : ActiveCmd) (p : Nat) (d : State × Bool) : State :=
  (c.viewed p (c.issued p d.1)).modPort p
    (c.ended d.2 ((c.viewed p (c.issued p d.1)).modeReg p c.cs) (c.viewed p (c.issued p d.1)).clk)

theorem csEnd_eq (s : State) (p : Nat) (c : ActiveCmd) :
    s.csEnd p c =
      let w := c.closed p (match c.late with | some l => s.lateData p l false | none => (s, false))
      let w := match c.capture with | some e => w.capture p c.cs c.maddr e | none => w
      if c.wrdi then (w.toFlash p c.cs 0x04 0 []).modPort p (fun q => q.modView c.cs (fun v => { v with wrenFwd := false })) else w := by
  unfold State.csEnd ActiveCmd.closed ActiveCmd.viewed ActiveCmd.issued
  cases c.issue <;> cases c.view <;> rfl

/-- `t` differs from `s` at most in the ports and the outbox. -/
def State.portsBox (s t : State) : Prop := t = { s with ports := t.ports, outbox := t.outbox }

theorem portsBox_trans {r s t : State} (hrs : r.portsBox s) (hst : s.portsBox t) : r.portsBox t :=
  Eq.trans hst (congrArg (fun x : State => { x with ports := t.ports, outbox := t.outbox }) hrs)

theorem portsBox_of_ports {s t : State} (h : t = { s with ports := t.ports }) : s.portsBox t := by
  have hbox : t.outbox = s.outbox := by rw [h]
  rw [State.portsBox, hbox]
  exact h

theorem portsBox_of_outbox {s t : State} (h : t = { s with outbox := t.outbox }) : s.portsBox t := by
  have hports : t.ports = s.ports := by rw [h]
  rw [State.portsBox, hports]
  exact h

/-- What tells the end of a command on its port (R160, R176, R199, R217). -/
structure PortState.agrees (cs : Nat) (q q' : PortState) : Prop where
  mcs : q'.mcs = q.mcs
  view : q'.view cs = q.view cs
  mode : q'.mode cs = q.mode cs
  wq : q'.wq = q.wq
  wqSeq : q'.wqSeq = q.wqSeq

theorem mode_setMode (q : PortState) (cs : Nat) (m : FMode) : (q.setMode cs m).mode cs = m := by
  unfold PortState.setMode PortState.mode
  split_ifs <;> rfl

theorem view_setMode (q : PortState) (cs : Nat) (m : FMode) (c : Nat) : (q.setMode cs m).view c = q.view c := by
  unfold PortState.setMode
  split_ifs <;> rfl

theorem setMode_keeps (q : PortState) (cs : Nat) (m : FMode) :
    (q.setMode cs m).mcs = q.mcs ∧ (q.setMode cs m).wq = q.wq ∧ (q.setMode cs m).wqSeq = q.wqSeq := by
  unfold PortState.setMode
  split_ifs <;> exact ⟨rfl, rfl, rfl⟩

theorem modView_keeps (q : PortState) (cs : Nat) (f : MView → MView) (c : Nat) :
    (q.modView cs f).mcs = q.mcs ∧ (q.modView cs f).wq = q.wq ∧ (q.modView cs f).wqSeq = q.wqSeq ∧ (q.modView cs f).mode c = q.mode c ∧
      (q.modView cs f).active = q.active := by
  unfold PortState.modView
  split_ifs <;> exact ⟨rfl, rfl, rfl, rfl, rfl⟩

theorem agrees_writeSent (q : PortState) (cs f : Nat) : q.agrees cs (q.writeSent f) := by
  unfold PortState.writeSent
  split_ifs <;> exact ⟨rfl, rfl, rfl, rfl, rfl⟩

/-- The end of a command on its port, but for its capture and the WRDI. -/
structure Closes (c : ActiveCmd) (p : Nat) (d : State × Bool) (t : State) : Prop where
  active : (t.port p).active = none
  mcs : (t.port p).mcs = (d.1.port p).mcs
  view : (t.port p).view c.cs = ((d.1.port p).view c.cs).apply c.view
  mode : (t.port p).mode c.cs =
    if c.fwd && !d.2 then ((d.1.port p).mode c.cs).switch (d.1.modeReg p c.cs) c else (d.1.port p).mode c.cs
  wq : (t.port p).wq = (d.1.port p).wq
  wqSeq : (t.port p).wqSeq = (d.1.port p).wqSeq
  others : ∀ q, q ≠ p → t.port q = d.1.port q
  outbox : t.outbox = d.1.outbox ++ (match c.issue with
    | some f => [.flash p f.cs f.opc.toNat f.addr (List.replicate f.mclk 0xFF) f.data]
    | none => [])
  frame : d.1.portsBox t

theorem viewed_spec (s : State) (p : Nat) (c : ActiveCmd) :
    ((s.port p).modView c.cs (fun v => v.apply c.view)).agrees c.cs ((c.viewed p s).port p) ∧ (∀ q, q ≠ p → (c.viewed p s).port q = s.port q) ∧
      c.viewed p s = { s with ports := (c.viewed p s).ports } := by
  have hviewed : c.viewed p s = s.modPort p (fun q => q.modView c.cs (fun v => v.apply c.view)) ∨
      ∃ f, c.viewed p s = (s.modPort p (fun q => q.modView c.cs (fun v => v.apply c.view))).modPort p (fun q => q.writeSent f) := by
    unfold ActiveCmd.viewed
    split
    · exact .inr ⟨_, rfl⟩
    · exact .inl rfl
  rcases hviewed with h | ⟨f, h⟩ <;> rw [h]
  · rw [port_modPort_self]
    exact ⟨⟨rfl, rfl, rfl, rfl, rfl⟩, fun q hq => port_modPort_other s hq _, rfl⟩
  · rw [port_modPort_self, port_modPort_self]
    exact ⟨agrees_writeSent _ _ _, fun q hq => by rw [port_modPort_other _ hq, port_modPort_other _ hq], rfl⟩

theorem ended_spec (c : ActiveCmd) (held : Bool) (reg : FMode) (clk : Nat) (q : PortState) :
    (c.ended held reg clk q).active = none ∧ (c.ended held reg clk q).mcs = q.mcs ∧ (c.ended held reg clk q).view c.cs = q.view c.cs ∧
      (c.ended held reg clk q).mode c.cs = (if c.fwd && !held then (q.mode c.cs).switch reg c else q.mode c.cs) ∧
      (c.ended held reg clk q).wq = q.wq ∧ (c.ended held reg clk q).wqSeq = q.wqSeq := by
  obtain ⟨hmcs, hwq, hseq⟩ := setMode_keeps q c.cs ((q.mode c.cs).switch reg c)
  have hview := view_setMode q c.cs ((q.mode c.cs).switch reg c) c.cs
  have hmode := mode_setMode q c.cs ((q.mode c.cs).switch reg c)
  unfold ActiveCmd.ended
  by_cases hsw : (c.fwd && !held) = true
  · rw [if_pos hsw, if_pos hsw]
    exact ⟨rfl, hmcs, hview, hmode, hwq, hseq⟩
  · rw [if_neg hsw, if_neg hsw]
    exact ⟨rfl, rfl, rfl, rfl, rfl, rfl⟩

theorem issued_spec (s : State) (p : Nat) (c : ActiveCmd) :
    (c.issued p s).outbox = s.outbox ++ (match c.issue with
      | some f => [.flash p f.cs f.opc.toNat f.addr (List.replicate f.mclk 0xFF) f.data]
      | none => []) ∧ c.issued p s = { s with outbox := (c.issued p s).outbox } := by
  unfold ActiveCmd.issued
  cases c.issue with
  | none => exact ⟨(List.append_nil _).symm, rfl⟩
  | some f => exact ⟨rfl, rfl⟩

theorem closed_spec (c : ActiveCmd) (p : Nat) (d : State × Bool) : Closes c p d (c.closed p d) := by
  obtain ⟨hbox, hissued⟩ := issued_spec d.1 p c
  obtain ⟨hagree, hothers, hframe⟩ := viewed_spec (c.issued p d.1) p c
  have hport : ∀ q, (c.issued p d.1).port q = d.1.port q := fun q => by rw [hissued]; rfl
  have hreg : (c.viewed p (c.issued p d.1)).modeReg p c.cs = d.1.modeReg p c.cs := by rw [hframe, hissued]; rfl
  obtain ⟨hactive, hmcs, hview, hmode, hwq, hseq⟩ :=
    ended_spec c d.2 (d.1.modeReg p c.cs) (c.viewed p (c.issued p d.1)).clk ((c.viewed p (c.issued p d.1)).port p)
  obtain ⟨hmcs', hwq', hseq', hmode', -⟩ := modView_keeps (d.1.port p) c.cs (fun v => v.apply c.view) c.cs
  rw [hport] at hagree
  have hself : (c.closed p d).port p = _ := port_modPort_self ..
  rw [hreg] at hself
  refine ⟨?_, ?_, ?_, ?_, ?_, ?_, fun q hq => ?_, ?_, ?_⟩
  · rw [hself, hactive]
  · rw [hself, hmcs, hagree.mcs, hmcs']
  · rw [hself, hview, hagree.view, view_modView]
  · rw [hself, hmode, hagree.mode, hmode']
  · rw [hself, hwq, hagree.wq, hwq']
  · rw [hself, hseq, hagree.wqSeq, hseq']
  · rw [ActiveCmd.closed, port_modPort_other _ hq, hothers q hq, hport]
  · show (c.viewed p (c.issued p d.1)).outbox = _
    rw [hframe, ← hbox]
  · exact portsBox_trans (portsBox_of_outbox hissued) (portsBox_trans (portsBox_of_ports hframe) rfl)

end Sys2Proof.Machine
end

section
/-! PROOFS. Captures, and data phases that wait for the end of their command (R161, R216 to R219). -/
namespace Sys2Proof.Machine

theorem byte_setBytes (bs : Bytes) : ∀ (s : State) (a x : Nat),
    (s.setBytes a bs).byte x = if a ≤ x ∧ x < a + bs.length then bs.getD (x - a) 0 else s.byte x := by
  induction bs with
  | nil => intro s a x; rw [if_neg (by simp)]; rfl
  | cons b t ih =>
    intro s a x
    have hcons : s.setBytes a (b :: t) = (s.setByte a b).setBytes (a + 1) t := rfl
    rw [hcons, ih, State.byte_setByte, List.length_cons]
    by_cases hx : x = a
    · subst hx
      simp
    · by_cases hin : a + 1 ≤ x ∧ x < a + 1 + t.length
      · have hsub : x - a = (x - (a + 1)) + 1 := by omega
        rw [if_pos hin, if_pos (by omega), hsub, List.getD_cons_succ]
      · rw [if_neg hin, if_neg hx, if_neg (by omega)]

/-- A port whose entry `i` holds a capture, the next one numbered `n` (R217, R218). -/
def PortState.filled (q : PortState) (i : Nat) (x : WqEntry) (n : Nat) : PortState := { q.setWqe i x with wqSeq := n }

/-- The master view after a capture (R176). -/
def MView.done (v : MView) (pe : Bool) : MView := { v with wel := false, pFail := v.pFail && !pe, eFail := v.eFail && !pe }

/-- A capture takes the lowest free entry of a queue that is on (R216, R217). -/
theorem capture_taken {w : State} {p maddr i : Nat} (cs : Nat) {e : WqEntry} (hdata : ¬(e.type = 0 ∧ e.data = []))
    (hon : w.bitOf (fp p 2 0x6C) 0 = true) (hfree : (w.port p).freeWqe = some i) (htrunc : (e.trunc && e.type == 0) = false) :
    w.capture p cs maddr e =
      (((w.modPort p (PortState.filled · i { e with seq := (w.port p).wqSeq, mcmd := w.reg (fp p 0 0xB0), since := w.clk }
        ((w.port p).wqSeq + 1))).setBytes (wqDataAt p i) e.data).doneView p cs (decide (e.cls ≠ 5))).count (evPort p 2) := by
  unfold State.capture
  rw [if_neg hdata, if_pos hon, hfree]
  dsimp only
  rw [if_neg (by simp [htrunc])]
  rfl

theorem capture_denied {w : State} {p : Nat} (cs maddr : Nat) {e : WqEntry} (hdata : ¬(e.type = 0 ∧ e.data = []))
    (hno : w.bitOf (fp p 2 0x6C) 0 = false ∨ (w.port p).freeWqe = none) :
    w.capture p cs maddr e =
      if ((w.port p).view cs).wrenFwd then
        (((w.policyHit p 5 cs e.opcode e.region maddr).denyView p cs (wrKind e.cls)).toFlash p cs 0x04 0 []).modPort p
          (fun q => q.modView cs (fun v => { v with wrenFwd := false }))
      else (w.policyHit p 5 cs e.opcode e.region maddr).denyView p cs (wrKind e.cls) := by
  have hnone : (if w.bitOf (fp p 2 0x6C) 0 = true then (w.port p).freeWqe else none) = none := by
    rcases hno with h | h
    · rw [if_neg (by simp [h])]
    · rw [h, ite_self]
  unfold State.capture
  rw [if_neg hdata, hnone]

theorem wqe_setWqe (q : PortState) (i j : Nat) (e : WqEntry) : (q.setWqe i e).wqe j = if j = i then e else q.wqe j :=
  SMap.get_set ..

theorem port_doneView (s : State) (p cs : Nat) (pe : Bool) : (s.doneView p cs pe).port p = (s.port p).modView cs (MView.done · pe) :=
  port_modPort_self ..

/-- A capture with its data as the statement of R216 to R219 has it. -/
theorem captured_spec (w : State) (p cs i : Nat) (e x : WqEntry) (n : Nat) :
    let t := (((w.modPort p (PortState.filled · i x n)).setBytes (wqDataAt p i) e.data).doneView p cs
      (decide (e.cls ≠ 5))).count (evPort p 2)
    (t.port p).active = (w.port p).active ∧ (t.port p).mcs = (w.port p).mcs ∧ (t.port p).wqe i = x ∧
      (∀ j, j ≠ i → (t.port p).wqe j = (w.port p).wqe j) ∧
      (∀ a, t.byte a = if wqDataAt p i ≤ a ∧ a < wqDataAt p i + e.data.length then e.data.getD (a - wqDataAt p i) 0 else w.byte a) ∧
      ((t.port p).view cs).wel = false ∧ ((t.port p).view cs).wrenFwd = ((w.port p).view cs).wrenFwd ∧
      t.evt (evPort p 2) = (w.evt (evPort p 2)).bump ∧ (∀ q, q ≠ p → t.port q = w.port q) ∧
      t = { w.routed t with ram := t.ram, ports := t.ports } := by
  have hport₂ : ∀ (u : State) (a q : Nat), (u.setBytes a e.data).port q = u.port q := fun u a q => by simp [State.port]
  have hevt₂ : ∀ (u : State) (a k : Nat), (u.setBytes a e.data).evt k = u.evt k := fun u a k => by simp [State.evt]
  have hevt₃ : ∀ (u : State) (k : Nat), (u.doneView p cs (decide (e.cls ≠ 5))).evt k = u.evt k := fun _ _ => rfl
  intro t
  have hself : t.port p = ((w.port p).filled i x n).modView cs
      (MView.done · (decide (e.cls ≠ 5))) := by
    rw [port_count, port_doneView, hport₂, port_modPort_self]
  obtain ⟨hmcs, hwq, -, -, hactive⟩ := modView_keeps ((w.port p).filled i x n) cs
    (MView.done · (decide (e.cls ≠ 5))) cs
  have hview := view_modView ((w.port p).filled i x n) cs
    (MView.done · (decide (e.cls ≠ 5)))
  rw [← hself] at hmcs hwq hactive hview
  have hwqe : ∀ j, (t.port p).wqe j = if j = i then x else (w.port p).wqe j := fun j => by
    rw [PortState.wqe, hwq]
    exact wqe_setWqe (w.port p) i j x
  refine ⟨hactive, hmcs, (hwqe i).trans (if_pos rfl), fun j hj => (hwqe j).trans (if_neg hj), fun a => ?_, by rw [hview]; rfl, by rw [hview]; rfl, ?_,
    fun q hq => ?_, ?_⟩
  · have hram : t.ram = ((w.modPort p (PortState.filled · i x n)).setBytes (wqDataAt p i) e.data).ram := by simp [t, State.doneView]
    exact (congrArg (SMap.get (fun _ => 0) · a) hram).trans (byte_setBytes ..)
  · rw [State.evt_count, if_pos rfl, hevt₃, hevt₂]
    rfl
  · rw [port_count, State.doneView, port_modPort_other _ hq, hport₂, port_modPort_other _ hq]
  · apply State.ext <;> simp [t, State.routed, State.doneView]

/-! ### A read whose strobe does not toggle -/

/-- From `s` to `t` the data phase of a dead read of port `p` has moved the tracker and the windows of the port, the record of a policy hit,
and what an event and a flight record move (R161, R174). -/
structure State.Dead (p : Nat) (s t : State) : Prop where
  regs : ∀ a, a ≠ fp p 2 0x64 → a ≠ fp p 2 0x68 → t.reg a = s.reg a
  events : t.evt (evPort p 5) = s.evt (evPort p 5)
  others : ∀ q, q ≠ p → t.port q = s.port q
  port : t.port p = { s.port p with stitch := (t.port p).stitch, cov := (t.port p).cov, checks := (t.port p).checks, wins := (t.port p).wins }
  frame : s.portRegs t

theorem dead_refl (p : Nat) (s : State) : s.Dead p s := ⟨fun _ _ _ => rfl, rfl, fun _ _ => rfl, rfl, portRegs_refl s⟩

section
variable {p : Nat} {r s : State}

theorem dead_trans {t : State} (hrs : r.Dead p s) (hst : s.Dead p t) : r.Dead p t where
  regs a h64 h68 := (hst.regs a h64 h68).trans (hrs.regs a h64 h68)
  events := hst.events.trans hrs.events
  others q hq := (hst.others q hq).trans (hrs.others q hq)
  port := hst.port.trans (congrArg (fun q : PortState =>
    { q with stitch := (t.port p).stitch, cov := (t.port p).cov, checks := (t.port p).checks, wins := (t.port p).wins }) hrs.port)
  frame := portRegs_trans hrs.frame hst.frame

theorem dead_stitchBreak (h : r.Dead p s) (hp : p < 16) : r.Dead p (s.stitchBreak p) := by
  have htrack := tracked_stitchBreak (tracked_refl p s)
  refine dead_trans h ⟨fun a _ _ => congrArg (SMap.get resetAt · a) htrack.regs, htrack.events _ (by simp only [evPort]; omega), htrack.others, ?_,
    portRegs_stitchBreak (portRegs_refl s) p⟩
  have hwins : ((s.stitchBreak p).port p).wins = (s.port p).wins := by rw [htrack.port]
  rw [hwins]
  exact htrack.port

theorem dead_ite_stitchBreak (h : r.Dead p s) (hp : p < 16) (c : Bool) : r.Dead p (if c then s.stitchBreak p else s) := by
  split_ifs
  · exact dead_stitchBreak h hp
  · exact h

theorem dead_policyHit (h : r.Dead p s) (cause cs : Nat) (opc : Byte) (g : Option Nat) (a : Nat) : r.Dead p (s.policyHit p cause cs opc g a) :=
  dead_trans h ⟨fun b h64 h68 => reg_policyHit_other s p cause cs opc g a h64 h68,
    (evt_policyHit ..).trans (if_neg (by simp only [evPort]; omega)), fun _ _ => port_policyHit .., by rw [port_policyHit],
    portRegs_policyHit (portRegs_refl s) ..⟩

theorem dead_ite_policyHit (h : r.Dead p s) (c : Bool) (cause cs : Nat) (opc : Byte) (g : Option Nat) (a : Nat) :
    r.Dead p (if c then s else s.policyHit p cause cs opc g a) := by
  split_ifs
  · exact h
  · exact dead_policyHit h ..

theorem dead_setWin (h : r.Dead p s) (f : PortState → Window) (k : Nat) :
    r.Dead p ((s.modPort p (fun q => q.setWin k (f q))).count (evSys 8)) := by
  refine dead_trans h ⟨fun b _ _ => by rw [State.reg_count]; rfl, ?_, fun q hq => by rw [port_count, port_modPort_other _ hq],
    by rw [port_count, port_modPort_self]; rfl, portRegs_count (portRegs_modPort (portRegs_refl s) _ _) _⟩
  rw [State.evt_count, if_neg (by simp only [evPort, evSys]; omega)]
  rfl

end

/-- After `k` bytes of a dead read that no HOLD region ended, `k` bytes of ones are to go to the master (R161). -/
structure DeadBytes (p : Nat) (s : State) (k : Nat) (r : RdAcc) : Prop where
  out : r.out = List.replicate k 0xFF
  held : r.held = false
  dead : s.Dead p r.s

theorem replicate_append_one (k : Nat) (b : Byte) : List.replicate k b ++ [b] = List.replicate (k + 1) b :=
  (List.replicate_append_replicate (n := k) (m := 1)).symm ▸ rfl

theorem rdByte_dead {p : Nat} {s : State} {mc : MCmd} {f k : Nat} {r : RdAcc} (hp : p < 16) (hr : DeadBytes p s k r)
    (hmode : (s.port p).modeOf ((s.port p).govern mc.cs.val (s.wrapAddr p f (mc.addr + k) / 4096)) ≠ 4) :
    DeadBytes p s (k + 1) (rdByte p mc f false false true r k) := by
  obtain ⟨hout, hheld, hdead⟩ := hr
  have hport := hdead.port
  have hwrap : r.s.wrapAddr p f (mc.addr + k) = s.wrapAddr p f (mc.addr + k) :=
    wrapAddr_of_reg (hdead.regs _ (by simp only [fp, pg]; omega) (by simp only [fp, pg]; omega)) _ _
  have hgov : ∀ b, (r.s.port p).govern mc.cs.val b = (s.port p).govern mc.cs.val b := fun b => by rw [hport]; rfl
  have hmodeOf : ∀ g, (r.s.port p).modeOf g = (s.port p).modeOf g := fun g => by rw [hport]; rfl
  have hmore : r.out ++ [0xFF] = List.replicate (k + 1) 0xFF := by rw [hout, replicate_append_one]
  unfold rdByte
  rw [hheld]
  simp only [hwrap, hgov, hmodeOf]
  generalize hg : (s.port p).govern mc.cs.val (s.wrapAddr p f (mc.addr + k) / 4096) = g at hmode ⊢
  generalize s.wrapAddr p f (mc.addr + k) = a
  rw [if_neg (by decide), if_neg (by rintro ⟨h, -⟩; exact hmode h)]
  by_cases hdeny : (false || (s.port p).modeOf g == 3 || (s.port p).modeOf g == 4) = true
  · rw [if_pos hdeny]
    exact ⟨hmore, rfl, dead_ite_policyHit (dead_ite_stitchBreak hdead hp _) ..⟩
  · rw [if_neg hdeny]
    cases g with
    | none => exact absurd rfl hdeny
    | some j =>
      refine iteInduction (motive := DeadBytes p s (k + 1)) (fun _ => ?breaks) fun _ => ?served
      case breaks => exact ⟨hmore, rfl, dead_ite_policyHit (dead_ite_stitchBreak hdead hp _) ..⟩
      case served =>
        generalize (if (s.port p).modeOf (some j) = 1 then
          (r.s.port p).winOf ((r.s.port p).mapAddr j mc.cs.val f a).1 (((r.s.port p).mapAddr j mc.cs.val f a).2 / 4096) else none) = w
        have hwrapped := dead_ite_stitchBreak hdead hp (decide (0 < k) && decide (a = 0) && r.follow)
        generalize (if (decide (0 < k) && decide (a = 0) && r.follow) = true then r.s.stitchBreak p else r.s) = v at hwrapped
        rw [if_neg (by simp), if_pos (by decide)]
        refine ⟨hmore, rfl, dead_ite_stitchBreak ?_ hp _⟩
        refine iteInduction (motive := s.Dead p) (fun _ => ?_) fun _ => hwrapped
        cases w with
        | none => exact hwrapped
        | some k => exact dead_setWin hwrapped _ _

end Sys2Proof.Machine
end

section
/-! PROOFS. The end of a master command and the strobe that does not toggle, as statements (R160, R161, R174, R216, R217). -/
namespace Sys2Proof.Machine

theorem dead_out {p : Nat} {r s : State} (h : r.Dead p s) (o : Out) : r.Dead p (s.out o) :=
  dead_trans h ⟨fun _ _ _ => rfl, rfl, fun _ _ => rfl, rfl, portRegs_out (portRegs_refl s) o⟩

theorem foldl_rdByte_dead {p : Nat} {s : State} {mc : MCmd} {f : Nat} {r : RdAcc} (hp : p < 16) (hr : DeadBytes p s 0 r) (n : Nat)
    (hmode : ∀ k, k < n → (s.port p).modeOf ((s.port p).govern mc.cs.val (s.wrapAddr p f (mc.addr + k) / 4096)) ≠ 4) :
    DeadBytes p s n ((List.range n).foldl (rdByte p mc f false false true) r) := by
  induction n with
  | zero => exact hr
  | succ n ih =>
    rw [List.range_succ, List.foldl_append]
    exact rdByte_dead hp (ih fun k hk => hmode k (by omega)) (hmode n (by omega))

/-- Every byte of a dead read is ones (R161). -/
theorem lateData_dead {u : State} {p : Nat} {l : LateRead} (hp : p < 16) (hmode : l.kind = .read → ∀ k, k < l.mc.n →
      (u.port p).modeOf ((u.port p).govern l.mc.cs.val (u.wrapAddr p l.fcs (l.mc.addr + k) / 4096)) ≠ 4) :
    (u.lateData p l true).2 = false ∧ u.Dead p (u.lateData p l true).1 ∧
      Out.master p (List.replicate l.mc.n 0xFF) ∈ (u.lateData p l true).1.outbox ∧
      (l.kind = .read → ((u.lateData p l true).1.port p).stitch.isOpen = false) := by
  have hplain : ∀ t : State, t = u.out (.master p (List.replicate l.mc.n 0xFF)) → u.Dead p t ∧ Out.master p (List.replicate l.mc.n 0xFF) ∈ t.outbox := by
    rintro t rfl
    exact ⟨dead_out (dead_refl p u) _, List.mem_append_right _ (List.mem_singleton_self _)⟩
  unfold State.lateData
  cases hkind : l.kind with
  | read =>
    obtain ⟨hout, hheld, hdead⟩ := foldl_rdByte_dead (mc := l.mc) (f := l.fcs) hp
      (show DeadBytes p u 0 (RdAcc.start u (some l.addr) l.follow false false) from ⟨rfl, rfl, dead_refl p u⟩) l.mc.n (hmode hkind)
    dsimp only
    rw [if_pos rfl, hout]
    exact ⟨hheld, dead_out (dead_stitchBreak hdead hp) _, List.mem_append_right _ (List.mem_singleton_self _), fun _ => isOpen_stitchBreak _ _⟩
  | status => exact ⟨rfl, (hplain _ rfl).1, (hplain _ rfl).2, fun h => absurd h (by decide)⟩
  | other => exact ⟨rfl, (hplain _ rfl).1, (hplain _ rfl).2, fun h => absurd h (by decide)⟩

/-! ### The end of a command -/

theorem exec_masterCsDeassert {s : State} {p : Fin 16} {c : ActiveCmd} (h : (s.port p.val).active = some c) :
    exec (.masterCsDeassert p) s = .next ((s.modPort p.val (fun q => { q with mcs := none })).csEnd p.val c) := by
  show Host.Outcome.next _ = _
  rw [h]

theorem port_release (s : State) (p : Nat) :
    (s.modPort p (fun q => { q with mcs := none })).port p = { s.port p with mcs := none } := port_modPort_self ..

theorem csEnd_plain {s : State} {p : Nat} {c : ActiveCmd} (hlate : c.late = none) (hcapture : c.capture = none) (hwrdi : c.wrdi = false) :
    s.csEnd p c = c.closed p (s, false) := by
  rw [csEnd_eq, hlate, hcapture, hwrdi]
  rfl

theorem csEnd_capture {s : State} {p : Nat} {c : ActiveCmd} {e : WqEntry} (hlate : c.late = none) (hcapture : c.capture = some e)
    (hwrdi : c.wrdi = false) : s.csEnd p c = (c.closed p (s, false)).capture p c.cs c.maddr e := by
  rw [csEnd_eq, hlate, hcapture, hwrdi]
  rfl

theorem csEnd_wrdi {s : State} {p : Nat} {c : ActiveCmd} (hlate : c.late = none) (hcapture : c.capture = none) (hwrdi : c.wrdi = true) :
    s.csEnd p c = ((c.closed p (s, false)).toFlash p c.cs 0x04 0 []).modPort p (fun q => q.modView c.cs (fun v => { v with wrenFwd := false })) := by
  rw [csEnd_eq, hlate, hcapture, hwrdi]
  rfl

theorem csEnd_late {s : State} {p : Nat} {c : ActiveCmd} {l : LateRead} (hlate : c.late = some l) (hcapture : c.capture = none) (hwrdi : c.wrdi = false) :
    s.csEnd p c = c.closed p (s.lateData p l false) := by
  rw [csEnd_eq, hlate, hcapture, hwrdi]
  rfl

theorem code_switch (m d : FMode) (c : ActiveCmd) (h : c.sw < 8) : (m.switch d c).code = c.sw := by
  show (if c.sw = 0xF then m.code else if c.sw = 0xE then d.code else c.sw) = c.sw
  rw [if_neg (by omega), if_neg (by omega)]

/-- A capture that the queue does not take (R217, R226). -/
theorem denied_spec (w : State) (p cs k : Nat) (opc : Byte) (g : Option Nat) (a : Nat) :
    let t := (w.policyHit p 5 cs opc g a).denyView p cs k
    (t.port p).active = (w.port p).active ∧ (t.port p).mcs = (w.port p).mcs ∧ (t.port p).wq = (w.port p).wq ∧
      Word.field (t.reg (fp p 2 0x64)) 3 0 = 5 ∧ t.reg (fp p 2 0x68) = wd a ∧ ((t.port p).view cs).wel = false ∧
      (∀ q, q ≠ p → t.port q = w.port q) ∧ t = { w.routed t with regs := t.regs, ports := t.ports } := by
  intro t
  have hself : t.port p = (w.port p).modView cs (fun v => { v with wel := false, pFail := v.pFail || k == 1, eFail := v.eFail || k == 2 }) := by
    show ((w.policyHit p 5 cs opc g a).denyView p cs k).port p = _
    rw [State.denyView, port_modPort_self, port_policyHit]
  obtain ⟨hmcs, hwq, -, -, hactive⟩ := modView_keeps (w.port p) cs
    (fun v => { v with wel := false, pFail := v.pFail || k == 1, eFail := v.eFail || k == 2 }) cs
  refine ⟨by rw [hself, hactive], by rw [hself, hmcs], by rw [hself, hwq], ?_, ?_, wel_denyView .., fun q hq => ?_, ?_⟩
  · rw [reg_denyView, field_policyHit_cause w p 5 cs opc g a (by decide)]
  · rw [reg_denyView, reg_policyHit_addr]
  · exact (port_modPort_other _ hq _).trans (port_policyHit ..)
  · have hhit : w.policyHit p 5 cs opc g a = { w.routed (w.policyHit p 5 cs opc g a) with regs := (w.policyHit p 5 cs opc g a).regs } := by
      unfold State.policyHit
      apply State.ext <;> simp [State.routed]
    exact congrArg (fun x : State => { x with ports := t.ports }) hhit

/-- A command without a flash command of its own, without a data phase at its end, that leaves the master view, has closed (R216). -/
structure Shut (c : ActiveCmd) (p : Nat) (s w : State) : Prop where
  active : (w.port p).active = none
  mcs : (w.port p).mcs = none
  wq : (w.port p).wq = (s.port p).wq
  wqSeq : (w.port p).wqSeq = (s.port p).wqSeq
  view : (w.port p).view c.cs = (s.port p).view c.cs
  others : ∀ q, q ≠ p → w.port q = s.port q
  frame : s.portsBox w

theorem shut_closed {s : State} {p : Nat} {c : ActiveCmd} (hview : c.view = .keep) :
    Shut c p s (c.closed p (s.modPort p (fun q => { q with mcs := none }), false)) := by
  have hc := closed_spec c p (s.modPort p (fun q => { q with mcs := none }), false)
  have hrelease := port_release s p
  refine ⟨hc.active, by rw [hc.mcs, hrelease], by rw [hc.wq, hrelease], by rw [hc.wqSeq, hrelease], by rw [hc.view, hrelease, hview]; rfl,
    fun q hq => (hc.others q hq).trans (port_modPort_other s hq _), portsBox_trans (portsBox_of_ports rfl) hc.frame⟩

theorem wqOff_of_shut {c : ActiveCmd} {p : Nat} {s w : State} (h : Shut c p s w)
    (hno : s.bitOf (fp p 2 0x6C) 0 = false ∨ (s.port p).freeWqe = none) : w.bitOf (fp p 2 0x6C) 0 = false ∨ (w.port p).freeWqe = none := by
  rcases hno with hoff | hfull
  · rw [h.frame]
    exact .inl hoff
  · refine .inr ?_
    rw [PortState.freeWqe]
    simp only [PortState.wqe, h.wq]
    exact hfull

/-- The state in which the data phase of a dead read begins: its errors are recorded (R161, R168). -/
def State.strobeLost (s : State) (p f : Nat) (short : Bool) : State := (if short then s.portErr p 1 f else s).portErr p 5 f

theorem strobeLost_spec (s : State) (p f : Nat) (short : Bool) :
    (∀ q, (s.strobeLost p f short).port q = s.port q) ∧
      (∀ a, (s.strobeLost p f short).reg a = if a = fp p 0 0xA8 then fld 5 0 ||| fld f 4 else s.reg a) ∧
      (s.strobeLost p f short).evt (evPort p 5) = (if short = true then (s.evt (evPort p 5)).bump.bump else (s.evt (evPort p 5)).bump) ∧
      s.portRegs (s.strobeLost p f short) := by
  unfold State.strobeLost
  cases short with
  | false =>
    refine ⟨fun q => by rw [port_portErr]; rfl, fun a => by rw [reg_portErr]; rfl, by rw [evt_portErr, if_pos rfl]; rfl, ?_⟩
    exact portRegs_portErr (portRegs_refl s) ..
  | true =>
    refine ⟨fun q => by rw [port_portErr, if_pos rfl, port_portErr], fun a => ?_, by rw [evt_portErr, if_pos rfl, if_pos rfl, evt_portErr, if_pos rfl]; rfl, ?_⟩
    · rw [reg_portErr, if_pos rfl, reg_portErr]
      split_ifs <;> rfl
    · exact portRegs_portErr (portRegs_portErr (portRegs_refl s) ..) ..

theorem exec_dqsTimeout {s : State} {p : Fin 16} {c : ActiveCmd} {l : LateRead} (h : (s.port p.val).active = some c) (hlate : c.late = some l) :
    exec (.dqsTimeout p) s = .next (((s.strobeLost p.val l.fcs l.short).lateData p.val l true).1.modPort p.val (fun q => { q with
      active := q.active.map (fun a => if ((s.strobeLost p.val l.fcs l.short).lateData p.val l true).2 then ActiveCmd.plain a.cs false
        else { a with late := none }) })) := by
  show Host.Outcome.next _ = _
  rw [h]
  dsimp only
  rw [hlate]
  rfl

theorem contains_of_mem {o : Out} {l : List Out} (h : o ∈ l) : l.contains o = true := List.contains_iff_mem.mpr h

/-- Settles O19. A command closes (`closed_spec`), a capture takes its entry or is denied (`captured_spec`, `capture_denied`), and each byte of a
read whose strobe does not toggle is ones (`rdByte_dead`). -/
theorem theEndOfAMasterCommandForwardsCapturesAndSwitches : Obligations.TheEndOfAMasterCommandForwardsCapturesAndSwitches := by
  unfold Obligations.TheEndOfAMasterCommandForwardsCapturesAndSwitches
  intro s p
  have hrelease := port_release s p.val
  have hothers : ∀ q, q ≠ p.val → (s.modPort p.val (fun q => { q with mcs := none })).port q = s.port q := fun q hq => port_modPort_other s hq _
  have hframe : s.modPort p.val (fun q => { q with mcs := none }) = { s with ports := (s.modPort p.val (fun q => { q with mcs := none })).ports } := rfl
  generalize hr : s.modPort p.val (fun q => { q with mcs := none }) = r at hrelease hothers hframe
  refine ⟨fun hidle => ?idle, fun c hactive hlate hcapture hwrdi => ?plain, fun c e hactive hlate hissue hview hwrdi hcapture hdata => ⟨
      fun i hon hfree hlen htrunc => ?captured, fun hno hfwd => ?denied, fun hno hfwd => ?deniedWrdi⟩,
    fun c l hactive hlate hkind hissue hview hcapture hwrdi => ?late, fun c hactive hwrdi hlate hissue hcapture => ?wrdi,
    fun c l hactive hlate hmode => ?dead, fun hnone => ?noRead⟩
  case idle =>
    show Host.Outcome.next _ = _
    rw [hidle, ← hr]
  case plain =>
    have hexec := exec_masterCsDeassert hactive
    rw [hr, csEnd_plain hlate hcapture hwrdi] at hexec
    have hc := closed_spec c p.val (r, false)
    have hbox := hc.outbox
    have hmode := hc.mode
    rw [hrelease] at hmode
    refine ⟨_, hexec, hc.active, by rw [hc.mcs, hrelease], ?_, by rw [hc.view, hrelease]; rfl, ?_, fun hfwd hsw => ?_, by rw [hc.wq, hrelease],
      fun q hq => (hc.others q hq).trans (hothers q hq), portsBox_trans (portsBox_of_ports hframe) hc.frame⟩
    · rw [hbox, hframe] <;> rfl
    · rw [hmode, hframe]
      cases c.fwd <;> rfl
    · rw [hmode, hfwd]
      exact code_switch _ _ c hsw
  case captured =>
    have hexec := exec_masterCsDeassert hactive
    rw [csEnd_capture hlate hcapture hwrdi] at hexec
    have hc := shut_closed (s := s) (p := p.val) hview
    generalize c.closed p.val (s.modPort p.val (fun q => { q with mcs := none }), false) = w at hexec hc
    have hbox := hc.frame
    have hon' : w.bitOf (fp p.val 2 0x6C) 0 = true := by rw [hbox]; exact hon
    have hfree' : (w.port p.val).freeWqe = some i := by rw [PortState.freeWqe]; simp only [PortState.wqe, hc.wq]; exact hfree
    have hmcmd : w.reg (fp p.val 0 0xB0) = s.reg (fp p.val 0 0xB0) := by rw [hbox]; rfl
    have hclk : w.clk = s.clk := by rw [hbox]
    rw [capture_taken c.cs hdata hon' hfree' htrunc, hc.wqSeq, hmcmd, hclk] at hexec
    have hspec := captured_spec w p.val c.cs i e
      { e with seq := (s.port p.val).wqSeq, mcmd := s.reg (fp p.val 0 0xB0), since := s.clk } ((s.port p.val).wqSeq + 1)
    dsimp only at hspec
    generalize State.count _ _ = t at hexec hspec
    obtain ⟨ha, hm, hi, hj, hb, hwel, hfwd, hevt, ho, hf⟩ := hspec
    refine ⟨t, hexec, ha.trans hc.active, hm.trans hc.mcs, hi, fun j hji => (hj j hji).trans ?_, fun a => (hb a).trans ?_, hwel,
      by rw [hfwd, hc.view], hevt.trans ?_, fun q hq => (ho q hq).trans (hc.others q hq),
      hf.trans (congrArg (fun x : State => { x.routed t with ram := t.ram, ports := t.ports }) hbox)⟩
    · rw [PortState.wqe, hc.wq]
      rfl
    · rw [hbox]
      rfl
    · rw [hbox]
      rfl
  case denied =>
    have hexec := exec_masterCsDeassert hactive
    rw [csEnd_capture hlate hcapture hwrdi] at hexec
    have hc := shut_closed (s := s) (p := p.val) hview
    generalize c.closed p.val (s.modPort p.val (fun q => { q with mcs := none }), false) = w at hexec hc
    rw [capture_denied c.cs c.maddr hdata (wqOff_of_shut hc hno), hc.view, hfwd, if_neg (by decide)] at hexec
    have hspec := denied_spec w p.val c.cs (wrKind e.cls) e.opcode e.region c.maddr
    dsimp only at hspec
    generalize State.denyView _ _ _ _ = t at hexec hspec
    obtain ⟨ha, hm, hq, hcause, haddr, hwel, ho, hf⟩ := hspec
    exact ⟨t, hexec, ha.trans hc.active, hm.trans hc.mcs, hq.trans hc.wq, hcause, haddr, hwel, fun q hqp => (ho q hqp).trans (hc.others q hqp),
      hf.trans (congrArg (fun x : State => { x.routed t with regs := t.regs, ports := t.ports }) hc.frame)⟩
  case deniedWrdi =>
    have hexec := exec_masterCsDeassert hactive
    rw [csEnd_capture hlate hcapture hwrdi] at hexec
    have hc := shut_closed (s := s) (p := p.val) hview
    generalize c.closed p.val (s.modPort p.val (fun q => { q with mcs := none }), false) = w at hexec hc
    rw [capture_denied c.cs c.maddr hdata (wqOff_of_shut hc hno), hc.view, hfwd, if_pos rfl] at hexec
    have hspec := denied_spec w p.val c.cs (wrKind e.cls) e.opcode e.region c.maddr
    dsimp only at hspec
    generalize State.denyView _ _ _ _ = d at hexec hspec
    obtain ⟨ha, -, hq, -, -, hwel, -, -⟩ := hspec
    have hself := port_modPort_self (d.toFlash p.val c.cs 0x04 0 []) p.val (fun q => q.modView c.cs (fun v => { v with wrenFwd := false }))
    obtain ⟨-, hwq, -, -, hact⟩ := modView_keeps ((d.toFlash p.val c.cs 0x04 0 []).port p.val) c.cs (fun v => { v with wrenFwd := false }) c.cs
    refine ⟨_, hexec, ?_, List.getLast?_concat, ?_, ?_, ?_⟩
    · rw [hself, hact]
      exact ha.trans hc.active
    · rw [hself, hwq]
      exact hq.trans hc.wq
    · rw [hself, view_modView]
      exact hwel
    · rw [hself, view_modView]
  case late =>
    have hexec := exec_masterCsDeassert hactive
    rw [hr, csEnd_late hlate hcapture hwrdi] at hexec
    have hc := closed_spec c p.val (r.lateData p.val l false)
    have hdata : r.lateData p.val l false = (r.out (.master p.val (l.mc.flash.take l.mc.n)), false) := by rw [State.lateData, hkind]; rfl
    rw [hdata] at hc hexec
    refine ⟨_, hexec, hc.active, ?_, fun q hq => (hc.others q hq).trans (hothers q hq)⟩
    rw [hc.outbox, hissue, hframe]
    exact List.append_nil _
  case wrdi =>
    have hexec := exec_masterCsDeassert hactive
    rw [hr, csEnd_wrdi hlate hcapture hwrdi] at hexec
    have hc := closed_spec c p.val (r, false)
    have hbox : (c.closed p.val (r, false)).outbox = s.outbox := by
      rw [hc.outbox, hissue, hframe]
      exact List.append_nil _
    have hself := port_modPort_self ((c.closed p.val (r, false)).toFlash p.val c.cs 0x04 0 []) p.val
      (fun q => q.modView c.cs (fun v => { v with wrenFwd := false }))
    refine ⟨_, hexec, ?_, ?_, ?_⟩
    · rw [hself, (modView_keeps _ _ _ c.cs).2.2.2.2]
      exact hc.active
    · rw [← hbox]
      rfl
    · rw [hself, view_modView]
  case dead =>
    have hexec := exec_dqsTimeout hactive hlate
    obtain ⟨hport, hreg, hevt, hframe'⟩ := strobeLost_spec s p.val l.fcs l.short
    generalize s.strobeLost p.val l.fcs l.short = u at hexec hport hreg hevt hframe'
    have hwrap : ∀ a, u.wrapAddr p.val l.fcs a = s.wrapAddr p.val l.fcs a := fun a =>
      wrapAddr_of_reg ((hreg _).trans (if_neg (by simp only [fp, pg]; omega))) _ _
    obtain ⟨hheld, hdead, hmem, hopen⟩ := lateData_dead (u := u) (l := l) p.isLt fun hread k hk => by
      rw [hport, hwrap]
      exact hmode hread k hk
    rw [hheld] at hexec
    generalize (u.lateData p.val l true).1 = d at hexec hdead hmem hopen
    have hself := port_modPort_self d p.val (fun q => { q with active := q.active.map (fun a => if false = true then ActiveCmd.plain a.cs false
      else { a with late := none }) })
    have hact : (d.port p.val).active = some c := by rw [hdead.port, hport, hactive]
    refine ⟨_, hexec, contains_of_mem hmem, ?_, hdead.events.trans hevt, ?_, fun hread => ?_, fun a hA8 h64 h68 => ?_, fun q hq => ?_, ?_⟩
    · refine (hdead.regs _ ?_ ?_).trans ((hreg _).trans (if_pos rfl)) <;> simp only [fp, pg] <;> omega
    · rw [hself]
      dsimp only
      rw [hact]
      rfl
    · rw [hself]
      exact hopen hread
    · exact (hdead.regs a h64 h68).trans ((hreg a).trans (if_neg hA8))
    · rw [port_modPort_other _ hq, hdead.others q hq, hport]
    · exact portRegs_modPort (portRegs_trans hframe' hdead.frame) _ _
  case noRead =>
    show Host.Outcome.next _ = _
    cases hactive : (s.port p.val).active with
    | none => rfl
    | some c =>
      rw [hactive] at hnone
      have hlate := hnone c rfl
      dsimp only
      rw [hlate]

end Sys2Proof.Machine
end

section
/-! PROOFS. Four statements that say less happens than the model does: a binding confirmed beside a full check that is settled (R267), a DISCARD
that withdraws a mark (R301), lanes beyond the sixteen, and a timeout of the slot that the epoch waits for (R483). -/
namespace Sys2Proof.Machine

/-! ### A full check without bindings ends as a binding is confirmed -/

/-- Binding 0 of port 0 is loaded, and a full check of it has no binding left to read. -/
def sFullEnds : State :=
  sRuntime.modPort 0 (fun q =>
    { q.setBind 0 { Binding.reset with st := .loaded } with
      full := { run := true, binds := [], blk := 0, failed := [], all := [0], retry := false } })

theorem exec_bindConfirm (s : State) (m : Master) (p : Fin 16) (h : s.admits m (aBind p.val) = true) :
    exec (.bindConfirm m p) s = .next (s.bindConfirm m p.val) :=
  congrArg _ (State.guarded_of_admits s m _ _ h)

theorem fullOk_bindConfirm_sFullEnds : ((sFullEnds.bindConfirm 0 0).curBind 0).fullOk = true := by decide

/-- Refutes O24: CONFIRM settles the full check of its port, which marks the binding that it confirmed; the clause has the mark clear whatever
full check runs. In `sFullEnds` a full check of the binding has nothing left to read. -/
theorem not_bindingsLoadOnlyNodesThatHashToTheirParents : ¬ Obligations.BindingsLoadOnlyNodesThatHashToTheirParents := by
  unfold Obligations.BindingsLoadOnlyNodesThatHashToTheirParents
  intro h
  have hadm : sFullEnds.admits 0 (aBind 0) = true := by decide
  obtain ⟨hcmd, -⟩ := h sFullEnds 0 0
  obtain ⟨-, -, -, -, hconfirm, -⟩ := hcmd hadm
  obtain ⟨t, ht, -, -, hfull, -⟩ := hconfirm (by decide)
  obtain rfl : sFullEnds.bindConfirm 0 0 = t := Host.Outcome.next.inj ((exec_bindConfirm sFullEnds 0 0 hadm).symm.trans ht)
  exact absurd (hfull.symm.trans fullOk_bindConfirm_sFullEnds) (by decide)

/-! ### A mark for a context that a DISCARD frees -/

/-- A DISCARD of the SMBus agent on context 34. -/
def dDiscard34 : Desc := [0x10, 0, 0, 0, 0x801, 34, 0, 0, 0, 0, 0, 0, 0, 0, 0, 0]

/-- The SMBus agent's submission. -/
def srcAgent : JobSrc := { issuer := 0x20, ring := 255, slot := 0, tag := 0, cqFail := false }

/-- Context 34 of the SMBus agent is idle, and idle lane 0 still bears a mark for it. -/
def sMarked : State :=
  (sRuntime.setDctx 34 { DCtx.reset with st := .idle, alg := 1, owner := 0x20 }).setLane 0 { Lane.reset with marked := some 34 }

/-- What the statement has a DISCARD of `sMarked` leave. -/
def sMarkedFreed : State := ((sMarked.take srcAgent).ctxFree 34).complete srcAgent 0x10 stOk 0 0

theorem exec_digestDiscard_sMarked :
    exec (.digestDiscard srcAgent dDiscard34) sMarked = .next ((sMarked.take srcAgent).digDiscard srcAgent dDiscard34) := by
  show Host.Outcome.next _ = _
  rw [if_pos (by decide), State.job, if_pos (by decide)]

/-- Refutes O28: the DISCARD withdraws every mark for its context, and the clause gives a state that keeps the marks. In `sMarked` a lane
is marked. -/
theorem not_digestJobsAreCheckedAndQueued : ¬ Obligations.DigestJobsAreCheckedAndQueued := by
  unfold Obligations.DigestJobsAreCheckedAndQueued
  intro h
  obtain ⟨-, hdiscard⟩ := h sMarked srcAgent dDiscard34 (by decide)
  obtain ⟨-, -, hfree⟩ := hdiscard (by decide) (by decide)
  have hexec := hfree (by decide) (by decide) (by decide) (by decide)
  have hmark : ((sMarked.take srcAgent).digDiscard srcAgent dDiscard34).lane 0 = sMarkedFreed.lane 0 :=
    congrArg (fun s : State => s.lane 0) (Host.Outcome.next.inj (exec_digestDiscard_sMarked.symm.trans hexec))
  exact absurd hmark (by decide)

/-! ### A lane entry that is no lane -/

/-- The lane table has an entry 16, which is no lane, with a job of the verifier context 0. -/
def sNoLane : State := sRuntime.setLane 16 { Lane.reset with job := some (permJob 0 1 0) }

theorem lane_ctxUe_sNoLane : ((sNoLane.ctxUe 0).lane 16).job = some (permJob 0 1 0) := by decide

theorem exec_contextSramUe_low (s : State) (i : Fin 256) (h : i.val < 32) : exec (.contextSramUe i) s = .next (s.ctxUe i.val) := by
  show Host.Outcome.next _ = _
  rw [if_neg (by omega)]

/-- Refutes O29: an uncorrectable error in a verifier context takes its jobs off the sixteen lanes, and the clause has every entry of the lane
table without one. In `sNoLane` the table has a seventeenth. -/
theorem not_lanesRunTheReadyJobOfHighestPriority : ¬ Obligations.LanesRunTheReadyJobOfHighestPriority := by
  unfold Obligations.LanesRunTheReadyJobOfHighestPriority
  intro h
  obtain ⟨-, -, -, -, -, hue, -⟩ := h sNoLane 0
  obtain ⟨t, ht, hgone, -⟩ := hue 0 (by decide) (Or.inl (by decide))
  obtain rfl : sNoLane.ctxUe 0 = t := Host.Outcome.next.inj ((exec_contextSramUe_low sNoLane 0 (by decide)).symm.trans ht)
  exact hgone 16 _ lane_ctxUe_sNoLane rfl

/-! ### A timeout of the slot that the epoch waits for -/

/-- A page commit of slot 0 has waited a half-cycle, its timeout, and the epoch waits for that slot. -/
def sEpochLate : State :=
  { (sRuntime.setAdm 17 { AdmEntry.reset with st := .waiting, timeout := 1, what := .page 0 0 0 0 [] }) with
    cmd := { sRuntime.cmd with epochSlot := some 0 }
    cis := { (sRuntime.setAdm 17 { AdmEntry.reset with st := .waiting, timeout := 1, what := .page 0 0 0 0 [] }).cis with hcRun := 1 } }

theorem exec_commitTimeout (s : State) (e : Fin 32) (h : s.admLate e.val = true) : exec (.commitTimeout e) s = .next (s.defer e.val) := by
  show Host.Outcome.next _ = _
  rw [if_pos h]

theorem epochSlot_defer_sEpochLate : (sEpochLate.defer 17).cmd.epochSlot = none := by decide

/-- Refutes O33: a page commit whose timeout passes tells the epoch that waits for its slot (R483), and the clause has nothing change but
registers, core memory, the admission queue and event delivery. In `sEpochLate` the epoch waits. -/
theorem not_commitsEndOnceWithTheirResult : ¬ Obligations.CommitsEndOnceWithTheirResult := by
  unfold Obligations.CommitsEndOnceWithTheirResult
  intro h
  have hlate : sEpochLate.admLate 17 = true := by decide
  obtain ⟨-, -, -, htimeout⟩ := h sEpochLate rfl rfl rfl
  obtain ⟨t, ht, -, -, -, -, -, -, hframe⟩ := (htimeout 17).2 0 0 0 0 [] hlate (by decide)
  obtain rfl : sEpochLate.defer 17 = t := Host.Outcome.next.inj ((exec_commitTimeout sEpochLate 17 hlate).symm.trans ht)
  have hepoch : (sEpochLate.defer 17).cmd.epochSlot = sEpochLate.cmd.epochSlot :=
    (congrArg (fun s : State => s.cmd.epochSlot) hframe).trans rfl
  exact absurd (epochSlot_defer_sEpochLate.symm.trans hepoch) (by decide)

end Sys2Proof.Machine
end

section
/-! PROOFS. A handle that waits for its destruction meets the new context that takes it (R390, R573). -/
namespace Sys2Proof.Machine

/-- A local TK_IK_DERIVE of the runtime that has ended OK. -/
def jIkLocal : TkJob :=
  { src := { issuer := 0x44, ring := 255, slot := 0, tag := 0, cqFail := false }, opc := 0x43,
    desc := [0x43, 0, 0, 0, 0, 0, 0, 0, 0, 0x02000000, 0, 0, 0, 0, 0, 0],
    io := { data := [], list := [], fault := false, aux := [], auxFault := false, writeFault := false },
    handle := 0, faulted := false, hit := false, status := stOk, detail := 0, abort := none, out := [], after := none }

/-- Pipeline 0 holds that job, and the handle that its context will take is on the list of those to be destroyed. -/
def sDoomedHandle : State :=
  ({ sRuntime with cel := { sRuntime.cel with doomed := [handleOf 0 1] } }).setPipe 0 (some jIkLocal)

theorem slot_tksJobDone_sDoomedHandle :
    ((((sDoomedHandle.setPipe 0 none).tkEnd jIkLocal).keyGo).slot 0).st = .free := by decide

/-- Refutes O51: the end of a job destroys what waits for its destruction, and the clause has the new context of TK_IK_DERIVE loaded. In
`sDoomedHandle` the new context takes a handle that waits there. -/
theorem not_transactionJobsKeepTheOrderOfTheirContext : ¬ Obligations.TransactionJobsKeepTheOrderOfTheirContext := by
  unfold Obligations.TransactionJobsKeepTheOrderOfTheirContext
  intro h
  obtain ⟨-, -, hdone, -⟩ := h
  obtain ⟨-, hpipe⟩ := hdone sDoomedHandle 0
  obtain ⟨-, hon⟩ := hpipe jIkLocal (by decide) (by decide) (by decide)
  obtain ⟨-, -, hexec, -, hlocal⟩ := hon (by decide)
  obtain ⟨t, ht, -, hloaded, -⟩ := hlocal 0 (by decide) rfl rfl rfl rfl (by decide) (by decide)
  obtain rfl : ((sDoomedHandle.setPipe 0 none).tkEnd jIkLocal).keyGo = t := Host.Outcome.next.inj (hexec.symm.trans ht)
  exact absurd (slot_tksJobDone_sDoomedHandle.symm.trans hloaded) (by decide)

end Sys2Proof.Machine
end

section
/-! PROOFS. O42: the DOE mailbox and the IDE streams. -/
namespace Sys2Proof.Machine

/-! ### DMA_IN records -/

theorem recorded_flight_of {s u : State} (hu : u = s.recorded u) (type : Nat) (src : Master) (body : Bytes) :
    u.flight type src body = s.recorded (u.flight type src body) :=
  have hsrc : u.recorded (u.flight type src body) = (s.recorded u).recorded (u.flight type src body) :=
    congrArg (fun x : State => x.recorded (u.flight type src body)) hu
  (State.flight_recorded u type src body).trans hsrc

/-- What writing DMA_IN records can change. -/
theorem dmaRecords_recorded (s : State) (m : Master) (addr : Nat) (data : Bytes) :
    s.dmaRecords m addr data = s.recorded (s.dmaRecords m addr data) := by
  unfold State.dmaRecords
  split_ifs
  · rfl
  · refine List.foldlRecOn (motive := fun u : State => u = s.recorded u) _ _ rfl fun u hu k _ => ?_
    exact recorded_flight_of hu ..

theorem evt_dmaRecords_low (s : State) (m : Master) (addr : Nat) (data : Bytes) (k : Nat) (hk : k < 340) :
    (s.dmaRecords m addr data).evt k = s.evt k := by
  unfold State.dmaRecords
  split_ifs
  · rfl
  · refine List.foldlRecOn (motive := fun u : State => u.evt k = s.evt k) _ _ rfl fun u hu j _ => ?_
    exact (evt_flight_low u _ _ _ k hk).trans hu

/-! ### Dwords, Go and Abort -/

theorem exec_doe_of_deaf (s : State) (h : s.doeTakes = false) :
    (∀ w : Word, exec (.doeWrite w) s = .next s) ∧ exec .doeGo s = .next s ∧ exec .doeAbort s = .next s := by
  refine ⟨fun w => ?_, ?_, ?_⟩ <;> show Host.Outcome.next _ = _ <;> simp [h]

theorem exec_doeWrite (s : State) (w : Word) (h : s.doeTakes = true) :
    exec (.doeWrite w) s = .next (if s.hq.doe.busy ∨ 65540 < s.hq.doe.req.length then s.modDoe DoeState.fail
      else (s.setBytes (0x10480000 + s.hq.doe.req.length) (leBytes 4 w.toNat)).modDoe (fun d => { d with
        req := d.req ++ leBytes 4 w.toNat })) := by
  show Host.Outcome.next _ = _
  simp [h]

theorem exec_doeGo (s : State) (h : s.doeTakes = true) (hbusy : s.hq.doe.busy = false) :
    exec .doeGo s = .next (if s.hq.doe.req.length < 8 ∨ doeLen s.hq.doe.req ≠ s.hq.doe.req.length then s.modDoe DoeState.fail
      else s.doeObject s.hq.doe.req) := by
  show Host.Outcome.next _ = _
  simp [h, hbusy]

theorem exec_doeAbort (s : State) (h : s.doeTakes = true) :
    exec .doeAbort s = .next (s.modDoe (fun d =>
      { d with req := [], rsp := [], ready := false, busy := false, error := false, aborted := true, dataReady := false })) := by
  show Host.Outcome.next _ = _
  simp [h]

/-- A write appends to the request buffer as the core memory's bytes do, so the buffer read before it is the one extended. -/
theorem modDoe_append (s : State) (a : Nat) (d : Bytes) :
    (s.setBytes a d).modDoe (fun e => { e with req := e.req ++ d }) =
      (s.setBytes a d).modDoe (fun e => { e with req := s.hq.doe.req ++ d }) := by
  have hhq : (s.setBytes a d).hq = s.hq := by simp
  unfold State.modDoe State.modHq
  rw [hhq]

/-! ### A complete object -/

/-- `s` with one more object counted. -/
def State.objectCounted (s : State) : State := s.modHq (fun h => { h with doeObjects := satInc h.doeObjects })

theorem doeObject_discovery (s : State) (b : Bytes) (hv : Bytes.num b 0 2 = 1) (hp : Bytes.num b 2 1 = 0) :
    s.doeObject b = s.objectCounted.modDoe (fun d => { d with rsp := doeDiscovery (Bytes.num b 8 1), dataReady := true, req := [] }) := by
  unfold State.doeObject
  exact if_pos ⟨hv, hp⟩

/-- The object of a protocol that the runtime serves, before its event. -/
def State.objectStored (s : State) (b : Bytes) : State :=
  (s.objectCounted.modDoe (fun d => { d with
    busy := true, ready := true, aborted := false, dataReady := false, protocol := Bytes.num b 2 1 })).dmaRecords 0x10 0x10480000 b

theorem doeObject_served (s : State) (b : Bytes) (hv : Bytes.num b 0 2 = 1) (hp : Bytes.num b 2 1 = 1 ∨ Bytes.num b 2 1 = 2) :
    s.doeObject b = (s.objectStored b).count (evLink 5) := by
  unfold State.doeObject
  exact (if_neg (by omega)).trans (if_pos ⟨hv, hp⟩)

theorem doeObject_other (s : State) (b : Bytes) (h : Bytes.num b 0 2 ≠ 1 ∨ 2 < Bytes.num b 2 1) :
    s.doeObject b = s.objectCounted.modDoe DoeState.fail := by
  unfold State.doeObject
  exact (if_neg (by omega)).trans (if_neg (by omega))

theorem hq_objectStored (s : State) (b : Bytes) :
    (s.objectStored b).hq = { s.objectCounted.hq with doe := { s.hq.doe with
      busy := true, ready := true, aborted := false, dataReady := false, protocol := Bytes.num b 2 1 } } := by
  unfold State.objectStored
  exact (congrArg State.hq (dmaRecords_recorded ..)).trans rfl

theorem objectStored_recorded (s : State) (b : Bytes) :
    s.objectStored b = { s.recorded (s.objectStored b) with hq := (s.objectStored b).hq } := by
  have hrec : s.objectStored b = _ := dmaRecords_recorded ..
  generalize s.objectStored b = t at hrec ⊢
  rw [hrec]
  rfl

/-- An object of a protocol that the runtime serves waits for it, with its event. -/
theorem served_spec (s : State) (b : Bytes) :
    let t := (s.objectStored b).count (evLink 5)
    t.hq.doeObjects = satInc s.hq.doeObjects ∧
    t.hq.doe = { s.hq.doe with busy := true, ready := true, aborted := false, dataReady := false, protocol := Bytes.num b 2 1 } ∧
    t.evt (evLink 5) = (s.evt (evLink 5)).bump ∧ t = { s.recorded t with hq := t.hq } := by
  have hhq : ((s.objectStored b).count (evLink 5)).hq = (s.objectStored b).hq := by simp
  have hevt : (s.objectStored b).evt (evLink 5) = s.evt (evLink 5) := evt_dmaRecords_low _ _ _ _ _ (by decide)
  refine ⟨?_, ?_, ?_, ?_⟩
  · rw [hhq, hq_objectStored]
    rfl
  · rw [hhq, hq_objectStored]
  · rw [State.evt_count, if_pos rfl, hevt]
  · have hstored := objectStored_recorded s b
    have hcount := State.count_routed (s.objectStored b) (evLink 5)
    generalize (s.objectStored b).count (evLink 5) = t at hcount ⊢
    generalize s.objectStored b = u at hstored hcount
    rw [hcount, hstored]
    rfl

theorem exec_doeGo_object (s : State) (h : s.doeTakes = true) (hbusy : s.hq.doe.busy = false) (h8 : 8 ≤ s.hq.doe.req.length)
    (hlen : doeLen s.hq.doe.req = s.hq.doe.req.length) : exec .doeGo s = .next (s.doeObject s.hq.doe.req) :=
  (exec_doeGo s h hbusy).trans (congrArg _ (if_neg (by omega)))

theorem doeGo_takes_object (s : State) (h : s.doeTakes = true) (hbusy : s.hq.doe.busy = false) (h8 : 8 ≤ s.hq.doe.req.length)
    (hlen : doeLen s.hq.doe.req = s.hq.doe.req.length) :
    ∃ t, exec .doeGo s = .next t ∧ t.hq.doeObjects = satInc s.hq.doeObjects ∧
      (Bytes.num s.hq.doe.req 0 2 = 1 → Bytes.num s.hq.doe.req 2 1 = 0 → t.hq.doe.dataReady = true ∧
        t.hq.doe.req = [] ∧ t.hq.doe.rsp = doeDiscovery (Bytes.num s.hq.doe.req 8 1) ∧ t = { s with hq := t.hq }) ∧
      (Bytes.num s.hq.doe.req 0 2 = 1 → (Bytes.num s.hq.doe.req 2 1 = 1 ∨ Bytes.num s.hq.doe.req 2 1 = 2) →
        t.hq.doe = { s.hq.doe with busy := true, ready := true, aborted := false, dataReady := false,
                                   protocol := Bytes.num s.hq.doe.req 2 1 } ∧
        t.evt (evLink 5) = (s.evt (evLink 5)).bump ∧ t = { s.recorded t with hq := t.hq }) ∧
      ((Bytes.num s.hq.doe.req 0 2 ≠ 1 ∨ 2 < Bytes.num s.hq.doe.req 2 1) → t.hq.doe.error = true ∧ t = { s with hq := t.hq }) := by
  refine ⟨_, exec_doeGo_object s h hbusy h8 hlen, ?_⟩
  by_cases hother : Bytes.num s.hq.doe.req 0 2 ≠ 1 ∨ 2 < Bytes.num s.hq.doe.req 2 1
  · rw [doeObject_other s _ hother]
    exact ⟨rfl, fun _ _ => by omega, fun _ _ => by omega, fun _ => ⟨rfl, rfl⟩⟩
  · obtain ⟨hv, hle⟩ : Bytes.num s.hq.doe.req 0 2 = 1 ∧ Bytes.num s.hq.doe.req 2 1 ≤ 2 := by omega
    by_cases hp : Bytes.num s.hq.doe.req 2 1 = 0
    · rw [doeObject_discovery s _ hv hp]
      exact ⟨rfl, fun _ _ => ⟨rfl, rfl, rfl, rfl⟩, fun _ _ => by omega, fun hn => absurd hn hother⟩
    · rw [doeObject_served s _ hv (by omega)]
      obtain ⟨hcount, hdoe, hevt, hframe⟩ := served_spec s s.hq.doe.req
      exact ⟨hcount, fun _ h0 => absurd h0 hp, fun _ _ => ⟨hdoe, hevt, hframe⟩, fun hn => absurd hn hother⟩

/-! ### The IDE streams -/

theorem ideKeyInstall_spec (s : State) (k : IdeKey) :
    ((s.hq.up = false ∨ s.doeSecured = false) → exec (.ideKeyInstall k) s = .next s) ∧
    (s.hq.up = true → s.doeSecured = true → ∃ t, exec (.ideKeyInstall k) s = .next t ∧ t.hq.ideSecure.getLsbD k.stream.val = true ∧
      SMap.get (fun _ => []) t.hq.ideKeys k.stream.val = k.key ∧
      (∀ j, j < 5 → j ≠ k.stream.val → t.hq.ideSecure.getLsbD j = s.hq.ideSecure.getLsbD j ∧
        SMap.get (fun _ => []) t.hq.ideKeys j = SMap.get (fun _ => []) s.hq.ideKeys j) ∧
      t = { s with hq := { s.hq with ideSecure := t.hq.ideSecure, ideKeys := t.hq.ideKeys } }) := by
  have hexec : exec (.ideKeyInstall k) s = .next (if s.hq.up && s.doeSecured then
    s.modHq (fun h => { h with ideSecure := putBit h.ideSecure k.stream.val true,
                               ideKeys := SMap.set (fun _ => []) h.ideKeys k.stream.val k.key }) else s) := rfl
  constructor
  · intro h
    rw [hexec, if_neg (by rcases h with h | h <;> simp [h])]
  · intro hup hsec
    refine ⟨_, hexec.trans (congrArg _ (if_pos (by simp [hup, hsec]))), ?_, ?_, fun j _ hne => ⟨?_, ?_⟩, rfl⟩
    · show (putBit s.hq.ideSecure k.stream.val true).getLsbD k.stream.val = true
      rw [getLsbD_putBit, if_pos rfl]
      simp
    · show SMap.get (fun _ => []) (SMap.set (fun _ => []) s.hq.ideKeys k.stream.val k.key) k.stream.val = k.key
      rw [SMap.get_set, if_pos rfl]
    · show (putBit s.hq.ideSecure k.stream.val true).getLsbD j = _
      rw [getLsbD_putBit, if_neg hne]
    · show SMap.get (fun _ => []) (SMap.set (fun _ => []) s.hq.ideKeys k.stream.val k.key) j = _
      rw [SMap.get_set, if_neg hne]

theorem hq_count (s : State) (k : Nat) : (s.count k).hq = s.hq := by simp

/-- Counting an event of `u`, which is `s` but for the host link's state. -/
theorem count_hq_framed (s u : State) (k : Nat) (hu : u = { s with hq := u.hq }) :
    u.count k = { s.routed (u.count k) with hq := (u.count k).hq } := by
  have hcount := State.count_routed u k
  have hq := hq_count u k
  generalize u.count k = t at hcount hq ⊢
  rw [hcount, hu]
  rfl

theorem ideIntegrityFail_spec (s : State) (k : Fin 5) :
    (s.hq.ideSecure.getLsbD k.val = false → exec (.ideIntegrityFail k) s = .next s) ∧
    (s.hq.ideSecure.getLsbD k.val = true → ∃ t, exec (.ideIntegrityFail k) s = .next t ∧ t.hq.ideSecure.getLsbD k.val = false ∧
      t.hq.ideErrs = satInc s.hq.ideErrs ∧ t.evt (evLink 6) = (s.evt (evLink 6)).bump ∧ t = { s.routed t with hq := t.hq }) := by
  have hexec : exec (.ideIntegrityFail k) s = .next (if s.hq.ideSecure.getLsbD k.val then
    (s.modHq (fun h => { h with ideSecure := putBit h.ideSecure k.val false, ideErrs := satInc h.ideErrs })).count (evLink 6)
    else s) := rfl
  constructor
  · intro h
    rw [hexec, if_neg (Bool.not_eq_true _ ▸ h)]
  · intro h
    refine ⟨_, hexec.trans (congrArg _ (if_pos h)), ?_, ?_, ?_, ?_⟩
    · refine (congrArg (fun h : HqState => h.ideSecure.getLsbD k.val) (hq_count ..)).trans ?_
      show (putBit s.hq.ideSecure k.val false).getLsbD k.val = false
      rw [getLsbD_putBit, if_pos rfl]
      rfl
    · exact congrArg HqState.ideErrs (hq_count ..)
    · rw [State.evt_count, if_pos rfl]
      rfl
    · exact count_hq_framed s _ _ rfl

/-! ### The runtime's answers -/

theorem exec_doeSend (s : State) (m : Master) (h : s.admits m (aDoe 0x4C) = true) : exec (.doeSend m) s = .next (s.doeSend m) :=
  congrArg _ (State.guarded_of_admits s m _ _ h)

theorem exec_doeFail (s : State) (m : Master) (h : s.admits m (aDoe 0x4C) = true) : exec (.doeFail m) s = .next (s.doeFail m) :=
  congrArg _ (State.guarded_of_admits s m _ _ h)

/-- Settles O42. -/
theorem theDoeMailboxCarriesOneObject : Obligations.TheDoeMailboxCarriesOneObject := by
  unfold Obligations.TheDoeMailboxCarriesOneObject
  refine ⟨exec_doe_of_deaf, fun s h => ⟨fun w hbusy hlen => ?_, fun w hno => ?_, fun hbusy => ?_, fun hbusy hbad => ?_,
    doeGo_takes_object s h, _, exec_doeAbort s h, rfl, rfl⟩, ideKeyInstall_spec, ideIntegrityFail_spec,
    fun s m hadm => ⟨fun hready h8 hmax => ?_, fun hready => ?_, fun hready => ⟨?_, ?_⟩⟩⟩
  · rw [exec_doeWrite s w h, if_neg (by simp [hbusy, hlen]), modDoe_append]
  · rw [exec_doeWrite s w h, if_pos hno]
    rfl
  · show Host.Outcome.next _ = _
    simp [hbusy]
  · rw [exec_doeGo s h hbusy, if_pos hbad]
    rfl
  · refine ⟨_, (exec_doeSend s m hadm).trans (congrArg _ (if_pos (by simp [hready, h8, hmax]))), rfl, rfl⟩
  · exact (exec_doeFail s m hadm).trans (congrArg _ (if_pos hready))
  · exact (exec_doeSend s m hadm).trans (congrArg _ (if_neg (by simp [hready])))
  · exact (exec_doeFail s m hadm).trans (congrArg _ (if_neg (by simp [hready])))

end Sys2Proof.Machine
end

section
/-! PROOFS. O36: the key derivation unit. -/
namespace Sys2Proof.Machine

/-! ### Refused writes -/

theorem reg_refuse (s : State) (m : Master) (a : Nat) :
    (s.refuse m a).reg (pg (a / 4096) 0x18) = pageErrAfter (s.reg (pg (a / 4096) 0x18)) (a % 4096) .state m := by
  unfold State.refuse State.errAt
  rw [State.reg_err, if_pos rfl]

theorem refuse_routed (s : State) (m : Master) (a : Nat) :
    s.refuse m a = { s.routed (s.refuse m a) with regs := (s.refuse m a).regs } := by
  unfold State.refuse State.errAt
  exact State.err_routed ..

/-! ### Triggers of KDU_CTRL -/

/-- A trigger that is admitted acts while the unit is free, and else is refused and counted. -/
theorem kduTrig_of_admits (s : State) (m : Master) (eff : State → State) (h : s.admits m (pg 0x21 0x40) = true) :
    s.kduTrig m eff = s.kduFree m eff := State.guarded_of_admits s m _ _ h

theorem kduTrig_idle (s : State) (m : Master) (eff : State → State) (h : s.admits m (pg 0x21 0x40) = true) (hidle : s.cel.kduJob = none) :
    s.kduTrig m eff = eff s := by
  rw [kduTrig_of_admits s m eff h, State.kduFree, if_neg (by simp [hidle])]

/-- `s` with one more refused trigger counted. -/
def State.triggerCounted (s : State) : State := { s with cel := { s.cel with kduBusy := satInc s.cel.kduBusy } }

theorem kduTrig_busy (s : State) (m : Master) (eff : State → State) (j : KduJob) (h : s.admits m (pg 0x21 0x40) = true)
    (hbusy : s.cel.kduJob = some j) : s.kduTrig m eff = s.triggerCounted.refuse m (pg 0x21 0x40) := by
  rw [kduTrig_of_admits s m eff h, State.kduFree, if_pos (by simp [hbusy])]
  rfl

theorem kdu_busy_spec (s : State) (m : Master) (j : KduJob) (v : Word) (h : s.admits m (pg 0x21 0x40) = true)
    (hbusy : s.cel.kduJob = some j) :
    ∃ t, exec (.kduDerive m) s = .next t ∧ exec (.kduDiscard m) s = .next t ∧ exec (.kduRootGen m) s = .next t ∧
      exec (.bbramErase m) s = .next t ∧ exec (.kduRootClass m v) s = .next t ∧
      t.reg (pg 0x21 0x18) = pageErrAfter (s.reg (pg 0x21 0x18)) 0x40 .state m ∧
      t = { s.routed t with regs := t.regs, cel := { s.cel with kduBusy := satInc s.cel.kduBusy } } := by
  have hall : ∀ eff, Host.Outcome.next (s.kduTrig m eff) = (.next (s.triggerCounted.refuse m (pg 0x21 0x40)) : Res) :=
    fun eff => congrArg _ (kduTrig_busy s m eff j h hbusy)
  refine ⟨_, hall _, hall _, hall _, hall _, hall _, reg_refuse s.triggerCounted m (pg 0x21 0x40), ?_⟩
  exact refuse_routed s.triggerCounted m (pg 0x21 0x40)

/-! ### Derivation and discard -/

theorem kduDerive_locked (s : State) (h : s.cel.closeSecret = true ∨ s.cel.lockCdi = true) :
    s.kduDerive = { s with cel := { s.cel with kduErr := stStateForbids } } := if_pos h

theorem kduDiscard_locked (s : State) (h : s.cel.closeSecret = true ∨ s.cel.lockCdi = true) :
    s.kduDiscard = { s with cel := { s.cel with kduErr := stStateForbids } } := if_pos h

theorem kduDerive_open (s : State) (hc : s.cel.closeSecret = false) (hl : s.cel.lockCdi = false) :
    s.kduDerive = (s.derive s.mdigest (s.fldOf (pg 0x21 0x7C) 3 0)).kduErr stOk := if_neg (by simp [hc, hl])

theorem kduDiscard_open (s : State) (hc : s.cel.closeSecret = false) (hl : s.cel.lockCdi = false) :
    s.kduDiscard = s.kduZero.kduErr stOk := if_neg (by simp [hc, hl])

/-! ### Roots -/

/-- What the first step of a root leaves: its mask waits in entry 16, and one draw is taken. -/
def State.maskWaits (s : State) (j : KduJob) (i : Nat) : State := (s.drew.setKdu (some j)).fuseKey i (s.draw 32) 0

theorem maskWaits_spec (s : State) (j : KduJob) (i : Nat) :
    let t := s.maskWaits j i
    t.cel.kduJob = some j ∧ (t.adm 16).st = .waiting ∧ (t.adm 16).cls = 1 ∧ (t.adm 16).what = .lcf (.field i (s.draw 32)) ∧
    t = { s with cel := t.cel, cis := t.cis, drbgCtr := s.drbgCtr + 1 } := by
  have hadm : (s.maskWaits j i).adm 16 =
      ⟨.waiting, 1, s.cis.order, s.posRun, 0, .lcf (.field i (s.draw 32)), 0⟩ := by
    show ((s.drew.setKdu (some j)).setAdm 16 ⟨.waiting, 1, s.cis.order, s.posRun, 0, .lcf (.field i (s.draw 32)), 0⟩).adm 16 = _
    rw [State.adm_setAdm, if_pos rfl]
  dsimp only
  rw [hadm]
  exact ⟨rfl, rfl, rfl, rfl, rfl⟩

theorem kduBlow_ok (s : State) (j : KduJob) (i : Nat) (val : Bytes) (h : s.fuseCheck i 32 = stOk) :
    s.kduBlow j i val = (s.setKdu (some j)).fuseKey i val 0 := if_neg (not_not.mpr h)

/-- A root whose mask is blank begins with its mask (R370, R371). -/
theorem kduNext_rootGen (s : State) (n : Nat) (hz : allZero (s.fuseBytes 96 32) = true) (hok : s.fuseCheck 96 32 = stOk) :
    s.kduNext (.rootGen 0) (n + 1) = s.maskWaits (.rootGen 1) 96 :=
  (if_pos hz).trans (kduBlow_ok s.drew _ _ _ hok)

theorem kduNext_rootClass (s : State) (sec : Bytes) (n : Nat) (hz : allZero (s.fuseBytes 128 32) = true) (hok : s.fuseCheck 128 32 = stOk) :
    s.kduNext (.rootClass 0 sec) (n + 1) = s.maskWaits (.rootClass 1 sec) 128 :=
  (if_pos hz).trans (kduBlow_ok s.drew _ _ _ hok)

theorem rootGen_forbidden (s : State) (h : s.cel.closeSecret = true ∨ s.lcf.eff ≠ some .provision) :
    s.rootGen = { s with cel := { s.cel with kduErr := stStateForbids } } := if_pos h

theorem rootGen_allowed (s : State) (hc : s.cel.closeSecret = false) (hp : s.lcf.eff = some .provision) :
    s.rootGen = s.kduNext (.rootGen 0) 4 := if_neg (by simp [hc, hp])

theorem rootClass_forbidden (s : State) (h : s.cel.closeSecret = true ∨ s.lcf.eff ≠ some .provision) :
    s.rootClass = { s with cel := { s.cel with kduErr := stStateForbids } } := if_pos h

theorem rootClass_unopened (s : State) (hc : s.cel.closeSecret = false) (hp : s.lcf.eff = some .provision)
    (h : s.classRecord.bind s.classSecret = none) : s.rootClass = { s with cel := { s.cel with kduErr := stAuthFail } } := by
  unfold State.rootClass
  rw [if_neg (by simp [hc, hp]), h]
  rfl

theorem rootClass_opened (s : State) (sec : Bytes) (hc : s.cel.closeSecret = false) (hp : s.lcf.eff = some .provision)
    (h : s.classRecord.bind s.classSecret = some sec) : s.rootClass = s.kduNext (.rootClass 0 sec) 4 := by
  unfold State.rootClass
  rw [if_neg (by simp [hc, hp]), h]

/-! ### The locks -/

/-- Setting locks counts LOCKED where both are set for the first time (R405). -/
theorem locked_spec (s u : State) (hu : u = { s with cel := u.cel }) :
    u.locked s = { s.routed (u.locked s) with cel := u.cel } ∧
    (u.locked s).evt (evCel 8) = if (u.cel.closeSecret && u.cel.lockCdi && !(s.cel.closeSecret && s.cel.lockCdi)) = true
      then (s.evt (evCel 8)).bump else s.evt (evCel 8) := by
  have hevt : u.evt (evCel 8) = s.evt (evCel 8) := by
    rw [hu]
    rfl
  unfold State.locked
  split_ifs
  · refine ⟨?_, by rw [State.evt_count, if_pos rfl, hevt]⟩
    have hcount := State.count_routed u (evCel 8)
    generalize u.count (evCel 8) = t at hcount ⊢
    refine hcount.trans ?_
    rw [hu]
    rfl
  · refine ⟨?_, hevt⟩
    rw [hu]
    rfl

theorem locks_spec (s : State) (m : Master) (h : s.admits m (pg 0x21 0x44) = true) :
    (∃ t, exec (.kduCloseSecret m) s = .next t ∧ t = { s.routed t with cel := { s.cel with closeSecret := true } } ∧
      t.evt (evCel 8) = if s.cel.lockCdi = true ∧ s.cel.closeSecret = false then (s.evt (evCel 8)).bump else s.evt (evCel 8)) ∧
    (∃ t, exec (.kduLockCdi m) s = .next t ∧ t = { s.routed t with cel := { s.cel with lockCdi := true, cdi0 := none } } ∧
      t.evt (evCel 8) = if s.cel.closeSecret = true ∧ s.cel.lockCdi = false then (s.evt (evCel 8)).bump else s.evt (evCel 8)) := by
  have hclose : exec (.kduCloseSecret m) s = .next s.closeSecret := congrArg _ (State.guarded_of_admits s m _ _ h)
  have hlock : exec (.kduLockCdi m) s = .next s.lockCdi := congrArg _ (State.guarded_of_admits s m _ _ h)
  obtain ⟨hframe, hevt⟩ := locked_spec s { s with cel := { s.cel with closeSecret := true } } rfl
  obtain ⟨hframe', hevt'⟩ := locked_spec s { s with cel := { s.cel with lockCdi := true, cdi0 := none } } rfl
  refine ⟨⟨_, hclose, hframe, hevt.trans ?_⟩, ⟨_, hlock, hframe', hevt'.trans ?_⟩⟩
  · cases hc : s.cel.closeSecret <;> cases hl : s.cel.lockCdi <;> simp
  · cases hc : s.cel.closeSecret <;> cases hl : s.cel.lockCdi <;> simp

/-! ### The commands -/

theorem exec_kduRootClass_idle (s : State) (m : Master) (v : Word) (h : s.admits m (pg 0x21 0x40) = true) (hidle : s.cel.kduJob = none) :
    exec (.kduRootClass m v) s = .next (if v &&& 0x1F = 8 then s.rootClass else s.refuse m (pg 0x21 0x40)) :=
  congrArg _ (kduTrig_idle s m _ h hidle)

/-- Settles O36. -/
theorem theDerivationUnitWorksUntilItsLocks : Obligations.TheDerivationUnitWorksUntilItsLocks := by
  unfold Obligations.TheDerivationUnitWorksUntilItsLocks
  refine ⟨fun s m h hidle => ?_, fun s m j v h hbusy => kdu_busy_spec s m j v h hbusy, locks_spec⟩
  have hderive : exec (.kduDerive m) s = .next s.kduDerive := congrArg _ (kduTrig_idle s m _ h hidle)
  have hdiscard : exec (.kduDiscard m) s = .next s.kduDiscard := congrArg _ (kduTrig_idle s m _ h hidle)
  have hroot : exec (.kduRootGen m) s = .next s.rootGen := congrArg _ (kduTrig_idle s m _ h hidle)
  have hclass : ∀ v : Word, v &&& 0x1F = 8 → exec (.kduRootClass m v) s = .next s.rootClass := fun v hv =>
    (exec_kduRootClass_idle s m v h hidle).trans (congrArg _ (if_pos hv))
  refine ⟨fun hl => ⟨?_, ?_⟩, fun hc hl => ⟨⟨_, hderive, ?_⟩, ?_⟩, fun hno => ⟨?_, fun v hv => ?_⟩, fun v hv => ?_,
    fun hc hp hz hok => ?_, fun v hv hc hp => ⟨fun hno => ?_, fun r sec hr hsec hz hok => ?_⟩, congrArg _ (kduTrig_idle s m _ h hidle)⟩
  · rw [hderive, kduDerive_locked s hl]
  · rw [hdiscard, kduDiscard_locked s hl]
  · rw [kduDerive_open s hc hl]
    exact ⟨rfl, rfl, rfl, rfl, rfl, rfl, rfl, rfl, rfl⟩
  · rw [hdiscard, kduDiscard_open s hc hl]
    rfl
  · rw [hroot, rootGen_forbidden s hno]
  · rw [hclass v hv, rootClass_forbidden s hno]
  · exact ⟨_, (exec_kduRootClass_idle s m v h hidle).trans (congrArg _ (if_neg hv)), reg_refuse s m (pg 0x21 0x40),
      refuse_routed s m (pg 0x21 0x40)⟩
  · rw [hroot, rootGen_allowed s hc hp, kduNext_rootGen s 3 hz hok]
    exact ⟨_, rfl, maskWaits_spec s _ _⟩
  · rw [hclass v hv, rootClass_unopened s hc hp]
    obtain hnone | ⟨r, hr, hsec⟩ := hno
    · rw [hnone, Option.bind_none]
    · rw [hr, Option.bind_some, hsec]
  · rw [hclass v hv, rootClass_opened s sec hc hp (by rw [hr, Option.bind_some, hsec]), kduNext_rootClass s sec 3 hz hok]
    obtain ⟨hjob, hst, -, hwhat, hframe⟩ := maskWaits_spec s (.rootClass 1 sec) 128
    exact ⟨_, rfl, hjob, hst, hwhat, hframe⟩

end Sys2Proof.Machine
end

section
/-! PROOFS. O22: the command and region tables of a port. -/
namespace Sys2Proof.Machine

/-! ### Fields of a word -/

theorem field_setField_reject (w : Word) (v : Nat) (h : v < 16) : Word.field (Word.setField w 7 4 v) 7 4 = v := by
  simp only [Word.setField, Word.field, BitVec.toNat_ofNat, Nat.shiftRight_eq_div_pow]
  omega

theorem bit_setBit_top (w : Word) : Word.bit (Word.setBit w 31 false) 31 = false := by
  have hw := w.isLt
  simp only [Word.bit, Word.setBit, Word.setField, Word.field, BitVec.getLsbD, BitVec.toNat_ofNat, Nat.testBit_eq_decide_div_mod_eq,
    Nat.shiftRight_eq_div_pow, Bool.toNat_false]
  rw [decide_eq_false_iff_not]
  omega

/-! ### Registers and ports of what a trigger writes -/

theorem reg_modPort (s : State) (p : Nat) (f : PortState → PortState) (a : Nat) : (s.modPort p f).reg a = s.reg a := rfl

theorem port_setReg (s : State) (a : Nat) (v : Word) (q : Nat) : (s.setReg a v).port q = s.port q := rfl

theorem ports_refuse (s : State) (m : Master) (a : Nat) : (s.refuse m a).ports = s.ports := by simp

theorem ports_setReject (s : State) (a c : Nat) : (s.setReject a c).ports = s.ports := rfl

theorem reject_setReject (s : State) (a c : Nat) (h : c < 16) : Word.field ((s.setReject a c).reg a) 7 4 = c := by
  unfold State.setReject State.setFld
  rw [State.reg_setReg, if_pos rfl, field_setField_reject _ _ h]

theorem reg_refuse_other (s : State) (m : Master) (a b : Nat) (h : b ≠ pg (a / 4096) 0x18) : (s.refuse m a).reg b = s.reg b := by
  unfold State.refuse State.errAt
  rw [State.reg_err, if_neg h]

/-- A trigger that checks its entry: with code 0 the port takes it, and else the write is refused; the code shows either way. -/
def State.entryWrite (s : State) (m : Master) (p a status code : Nat) (f : PortState → PortState) : State :=
  if code = 0 then (s.setReject status code).modPort p f else (s.setReject status code).refuse m a

theorem entryWrite_spec (s : State) (m : Master) (p a status code : Nat) (f : PortState → PortState) (hcode : code < 16)
    (hst : status ≠ pg (a / 4096) 0x18) :
    Word.field ((s.entryWrite m p a status code f).reg status) 7 4 = code ∧
    (code = 0 → (s.entryWrite m p a status code f).port p = f (s.port p) ∧
      s.entryWrite m p a status code f = { s with regs := (s.entryWrite m p a status code f).regs
                                                  ports := (s.entryWrite m p a status code f).ports }) ∧
    (code ≠ 0 → (s.entryWrite m p a status code f).ports = s.ports) := by
  unfold State.entryWrite
  split_ifs with h
  · refine ⟨by rw [reg_modPort, reject_setReject _ _ _ hcode], fun _ => ⟨port_modPort_self (s.setReject status code) p f, rfl⟩,
      fun hne => absurd h hne⟩
  · refine ⟨by rw [reg_refuse_other _ _ _ _ hst, reject_setReject _ _ _ hcode], fun h0 => absurd h0 h, fun _ => ?_⟩
    rw [ports_refuse, ports_setReject]

/-! ### The command table -/

theorem ctCheck_lt (q : PortState) (i : Nat) (e : List Word) : q.ctCheck i e < 16 := by
  unfold PortState.ctCheck
  dsimp only
  split_ifs <;> omega

theorem ctTrig_free (s : State) (m : Master) (p : Nat) (eff : State → State) (h : (s.port p).ctSwap = false) :
    s.ctTrig m p eff = eff s := if_pos (by simp [h])

/-- Storing an entry in the shadow bank of the command table. -/
def PortState.ctStore (i : Nat) (e : List Word) (q : PortState) : PortState := { q with ctS := ctSet q.ctS i e }

theorem ctWrite_free (s : State) (m : Master) (p : Nat) (h : (s.port p).ctSwap = false) :
    s.ctWrite m p = s.entryWrite m p (aCt p) (fp p 1 0x50) ((s.port p).ctCheck (s.ctIdx p) (s.ctWords p))
      (PortState.ctStore (s.ctIdx p) (s.ctWords p)) := ctTrig_free s m p _ h

theorem ctGet_ctSet (m : SMap (List Word)) (i j : Nat) (e : List Word) : ctGet (ctSet m i e) j = if j = i then e else ctGet m j :=
  SMap.get_set ..

theorem ctWrite_spec (s : State) (m : Master) (p : Nat) (h : (s.port p).ctSwap = false) :
    let t := s.ctWrite m p
    (t.port p).ctA = (s.port p).ctA ∧
    Word.field (t.reg (fp p 1 0x50)) 7 4 = (s.port p).ctCheck (s.ctIdx p) (s.ctWords p) ∧
    ((s.port p).ctCheck (s.ctIdx p) (s.ctWords p) = 0 →
      (∀ i, ctGet (t.port p).ctS i = if i = s.ctIdx p then s.ctWords p else ctGet (s.port p).ctS i) ∧
      t = { s with regs := t.regs, ports := t.ports }) ∧
    ((s.port p).ctCheck (s.ctIdx p) (s.ctWords p) ≠ 0 → t.ports = s.ports) := by
  dsimp only
  obtain ⟨hcode, hok, hbad⟩ := entryWrite_spec s m p (aCt p) (fp p 1 0x50) ((s.port p).ctCheck (s.ctIdx p) (s.ctWords p))
    (PortState.ctStore (s.ctIdx p) (s.ctWords p)) (ctCheck_lt ..) (by simp only [aCt, fp, pg]; omega)
  rw [← ctWrite_free s m p h] at hcode hok hbad
  refine ⟨?_, hcode, fun h0 => ⟨fun i => ?_, (hok h0).2⟩, hbad⟩
  · by_cases h0 : (s.port p).ctCheck (s.ctIdx p) (s.ctWords p) = 0
    · rw [(hok h0).1]
      rfl
    · rw [State.port, hbad h0]
      rfl
  · rw [(hok h0).1]
    exact ctGet_ctSet ..

/-- Clearing VALID leaves no valid entry. -/
theorem eValid_clearValid (d : List Word) (m : SMap (List Word)) (hd : eValid d = false) (i : Nat) :
    eValid (SMap.get (fun _ => d) (clearValid d m) i) = false := by
  have hstep : ∀ (a : SMap (List Word)) (x : Nat × List Word), (∀ j, eValid (SMap.get (fun _ => d) a j) = false) →
      ∀ j, eValid (SMap.get (fun _ => d) (SMap.set (fun _ => d) a x.1 (Word.setBit (ew x.2 0) 31 false :: x.2.drop 1)) j) = false := by
    intro a x ha j
    rw [SMap.get_set]
    split_ifs
    · exact bit_setBit_top _
    · exact ha j
  unfold clearValid
  induction m using List.reverseRecOn generalizing i with
  | nil => exact hd
  | append_singleton xs x ih =>
    rw [List.foldl_append, List.foldl_cons, List.foldl_nil]
    exact hstep _ x ih i

theorem ctRead_spec (s : State) (p : Nat) (bank : SMap (List Word))
    (hbank : (if s.bitOf (fp p 1 0x40) 8 then (s.port p).ctA else (s.port p).ctS) = bank) :
    (s.ctRead p).ctWords p = [ew (ctGet bank (s.ctIdx p)) 0, ew (ctGet bank (s.ctIdx p)) 1] := by
  have hne : fp p 1 0x44 ≠ fp p 1 0x48 := by simp only [fp, pg]; omega
  unfold State.ctRead State.ctWords
  rw [hbank]
  simp only [State.reg_setReg, if_pos, if_neg hne]

/-! ### The region table -/

theorem rtCheck_lt (s : State) (p : Nat) (e : List Word) : s.rtCheck p e < 16 := by
  unfold State.rtCheck
  dsimp only
  split_ifs <;> omega

theorem rtTrig_free (s : State) (m : Master) (p : Nat) (eff : State → State) (h : (s.port p).rtSwap = false) :
    s.rtTrig m p eff = eff s := if_pos (by simp [h])

/-- Storing an entry in the shadow bank of the region table. -/
def PortState.rtStore (i : Nat) (e : List Word) (q : PortState) : PortState := { q with rtS := rtSet q.rtS i e }

theorem rtWrite_free (s : State) (m : Master) (p : Nat) (h : (s.port p).rtSwap = false) :
    s.rtWrite m p = s.entryWrite m p (aRt p) (fp p 2 0x5C) (s.rtCheck p (s.rtWords p)) (PortState.rtStore (s.rtIdx p) (s.rtWords p)) :=
  rtTrig_free s m p _ h

theorem rtGet_rtSet (m : SMap (List Word)) (i j : Nat) (e : List Word) : rtGet (rtSet m i e) j = if j = i then e else rtGet m j :=
  SMap.get_set ..

theorem rtWrite_spec (s : State) (m : Master) (p : Nat) (h : (s.port p).rtSwap = false) :
    let t := s.rtWrite m p
    (t.port p).rtA = (s.port p).rtA ∧
    Word.field (t.reg (fp p 2 0x5C)) 7 4 = s.rtCheck p (s.rtWords p) ∧
    (s.rtCheck p (s.rtWords p) = 0 →
      (∀ i, rtGet (t.port p).rtS i = if i = s.rtIdx p then s.rtWords p else rtGet (s.port p).rtS i) ∧
      t = { s with regs := t.regs, ports := t.ports }) ∧
    (s.rtCheck p (s.rtWords p) ≠ 0 → t.ports = s.ports) := by
  dsimp only
  obtain ⟨hcode, hok, hbad⟩ := entryWrite_spec s m p (aRt p) (fp p 2 0x5C) (s.rtCheck p (s.rtWords p))
    (PortState.rtStore (s.rtIdx p) (s.rtWords p)) (rtCheck_lt ..) (by simp only [aRt, fp, pg]; omega)
  rw [← rtWrite_free s m p h] at hcode hok hbad
  refine ⟨?_, hcode, fun h0 => ⟨fun i => ?_, (hok h0).2⟩, hbad⟩
  · by_cases h0 : s.rtCheck p (s.rtWords p) = 0
    · rw [(hok h0).1]
      rfl
    · rw [State.port, hbad h0]
      rfl
  · rw [(hok h0).1]
    exact rtGet_rtSet ..

theorem setReg_regs {s u : State} (hu : u = { s with regs := u.regs }) (a : Nat) (v : Word) :
    u.setReg a v = { s with regs := (u.setReg a v).regs } := by
  have hset : u.setReg a v = { u with regs := (u.setReg a v).regs } := rfl
  generalize u.setReg a v = t at hset ⊢
  rw [hset, hu]

theorem rtRead_regs (s : State) (p : Nat) : s.rtRead p = { s with regs := (s.rtRead p).regs } := by
  unfold State.rtRead
  exact List.foldlRecOn (motive := fun u : State => u = { s with regs := u.regs }) _ _ rfl fun u hu w _ => setReg_regs hu ..

theorem fp_word_inj (p w x : Nat) : (fp p 2 (0x44 + 4 * w) = fp p 2 (0x44 + 4 * x)) ↔ w = x := by
  simp only [fp, pg]; omega

/-- Writing the words of a window one after the other: each register holds its own word. -/
theorem reg_writeWords (p : Nat) (v : Nat → Word) (w : Nat) : ∀ (ws : List Nat) (s : State), w ∈ ws →
    (ws.foldl (fun t x => t.setReg (fp p 2 (0x44 + 4 * x)) (v x)) s).reg (fp p 2 (0x44 + 4 * w)) = v w := by
  intro ws
  induction ws using List.reverseRecOn with
  | nil => intro s h; cases h
  | append_singleton xs x ih =>
    intro s hmem
    rw [List.foldl_append, List.foldl_cons, List.foldl_nil, State.reg_setReg]
    split_ifs with heq
    · rw [(fp_word_inj p w x).mp heq]
    · have hx : w ≠ x := fun e => heq (by rw [e])
      exact ih s (by simpa [hx] using hmem)

theorem rtRead_spec (s : State) (p w : Nat) (hw : w < 5) :
    (s.rtRead p).reg (fp p 2 (0x44 + 4 * w)) =
      (let v := ew (rtGet (if s.bitOf (fp p 2 0x40) 8 then (s.port p).rtA else (s.port p).rtS) (s.rtIdx p)) w
       if w = 2 then Word.setBit v 15 ((s.port p).sub (s.rtIdx p)) else v) := by
  unfold State.rtRead
  dsimp only
  rw [reg_writeWords p _ w (List.range 5) s (List.mem_range.mpr hw)]
  by_cases h2 : w = 2
  · rw [if_pos h2, if_pos h2, h2]
  · rw [if_neg h2, if_neg h2]

/-! ### Swaps -/

theorem swapAll_spec (s : State) (m : Master) (p : Nat) :
    let t := s.swapAllReq m p
    t.port p = { s.port p with rtSwap := true, ctSwap := true } ∧ (∀ q, q ≠ p → t.port q = s.port q) ∧
    ((s.port p).rtSwap = false → (s.port p).ctSwap = false → t.regs = s.regs) ∧
    ((s.port p).rtSwap = true ∨ (s.port p).ctSwap = true → t.reg (fp p 2 0x18) = pageErrAfter (s.reg (fp p 2 0x18)) 0x58 .state m) ∧
    t = { s.routed t with regs := t.regs, ports := t.ports } := by
  have hport : ∀ q, (s.refuse m (aRt p)).port q = s.port q := fun q => by
    rw [State.port, ports_refuse]
    rfl
  unfold State.swapAllReq
  dsimp only
  by_cases hpend : ((s.port p).rtSwap || (s.port p).ctSwap) = true
  · rw [if_pos hpend]
    refine ⟨(port_modPort_self ..).trans (by rw [hport]), fun q hq => (port_modPort_other _ hq _).trans (hport q), fun hr hc => ?_,
      fun _ => ?_, ?_⟩
    · simp [hr, hc] at hpend
    · have hreg := reg_refuse s m (aRt p)
      rw [show aRt p / 4096 = 0x80 + 4 * p + 2 by simp only [aRt, fp, pg]; omega,
        show aRt p % 4096 = 0x58 by simp only [aRt, fp, pg]; omega] at hreg
      exact hreg
    · have href := refuse_routed s m (aRt p)
      generalize s.refuse m (aRt p) = u at href ⊢
      unfold State.modPort State.setPort
      rw [href]
      rfl
  · rw [if_neg hpend]
    refine ⟨port_modPort_self .., fun q hq => port_modPort_other _ hq _, fun _ _ => rfl, fun hor => ?_, rfl⟩
    exact absurd (by simpa using hor) hpend

/-- A scrub pass that begins changes the scrubber and the blocks that wait for a node, of its port only. -/
theorem wakeScrub_spec (s : State) (p : Nat) :
    (∃ x d, (s.wakeScrub p).port p = { s.port p with scrub := x, dev := d }) ∧ (∀ q, q ≠ p → (s.wakeScrub p).port q = s.port q) ∧
    s.wakeScrub p = { s with ports := (s.wakeScrub p).ports } := by
  unfold State.wakeScrub
  split_ifs
  · unfold State.newPass
    dsimp only
    split
    · exact ⟨⟨_, _, (State.port_setPort ..).trans (if_pos rfl)⟩, fun q hq => (State.port_setPort ..).trans (if_neg hq), rfl⟩
    · exact ⟨⟨_, _, (State.port_setPort ..).trans (if_pos rfl)⟩, fun q hq => (State.port_setPort ..).trans (if_neg hq), rfl⟩
  · exact ⟨⟨_, _, rfl⟩, fun _ _ => rfl, rfl⟩

/-- The state after the pending copies of a port. -/
def State.tablesSwapped (s : State) (p : Nat) : State :=
  if (s.port p).rtSwap then (s.modPort p PortState.swapTables).wakeScrub p else s.modPort p PortState.swapTables

theorem exec_tableSwapApply (s : State) (p : Fin 16) : exec (.tableSwapApply p) s =
    .next (if (s.port p.val).idle && ((s.port p.val).ctSwap || (s.port p.val).rtSwap) then s.tablesSwapped p.val else s) := rfl

theorem tablesSwapped_spec (s : State) (p : Nat) :
    (∃ x d, (s.tablesSwapped p).port p = { (s.port p).swapTables with scrub := x, dev := d }) ∧
    (∀ q, q ≠ p → (s.tablesSwapped p).port q = s.port q) ∧ s.tablesSwapped p = { s with ports := (s.tablesSwapped p).ports } := by
  unfold State.tablesSwapped
  split_ifs
  · obtain ⟨⟨x, d, hself⟩, hother, hframe⟩ := wakeScrub_spec (s.modPort p PortState.swapTables) p
    refine ⟨⟨x, d, ?_⟩, fun q hq => (hother q hq).trans (port_modPort_other s hq _), hframe.trans rfl⟩
    rw [hself, port_modPort_self]
  · exact ⟨⟨_, _, port_modPort_self ..⟩, fun q hq => port_modPort_other s hq _, rfl⟩

theorem tableSwapApply_spec (s : State) (p : Fin 16) (hidle : (s.port p.val).idle = true)
    (hpend : (s.port p.val).ctSwap = true ∨ (s.port p.val).rtSwap = true) :
    ∃ t, exec (.tableSwapApply p) s = .next t ∧ (t.port p.val).ctSwap = false ∧ (t.port p.val).rtSwap = false ∧
      (t.port p.val).ctA = (if (s.port p.val).ctSwap then (s.port p.val).ctS else (s.port p.val).ctA) ∧
      (t.port p.val).rtA = (if (s.port p.val).rtSwap then (s.port p.val).rtS else (s.port p.val).rtA) ∧
      (∀ q, q ≠ p.val → t.port q = s.port q) ∧ t = { s with ports := t.ports } := by
  obtain ⟨⟨x, d, hself⟩, hother, hframe⟩ := tablesSwapped_spec s p.val
  refine ⟨_, (exec_tableSwapApply s p).trans (congrArg _ (if_pos (by simp [hidle, hpend]))), ?_⟩
  rw [hself]
  exact ⟨rfl, rfl, rfl, rfl, hother, hframe⟩

/-- Settles O22. -/
theorem tableWritesReachTheActiveBankOnlyBySwap : Obligations.TableWritesReachTheActiveBankOnlyBySwap := by
  unfold Obligations.TableWritesReachTheActiveBankOnlyBySwap
  intro s m p
  have hct : ∀ eff : State → State, s.admits m (aCt p.val) = true → Host.Outcome.next (s.guarded m (aCt p.val) eff) = (.next (eff s) : Res) :=
    fun eff h => congrArg _ (State.guarded_of_admits s m _ _ h)
  have hrt : ∀ eff : State → State, s.admits m (aRt p.val) = true → Host.Outcome.next (s.guarded m (aRt p.val) eff) = (.next (eff s) : Res) :=
    fun eff h => congrArg _ (State.guarded_of_admits s m _ _ h)
  refine ⟨fun h hfree => ⟨⟨_, hct _ h, ctWrite_spec s m p.val hfree⟩, ?_, ?_⟩, fun h => ⟨_, hct _ h, rfl, fun hbit => ?_, fun hbit => ?_⟩,
    fun h hfree => ⟨⟨_, hrt _ h, rtWrite_spec s m p.val hfree⟩, ?_, ?_⟩,
    fun h => ⟨_, hrt _ h, rtRead_regs .., fun w hw => rtRead_spec s p.val w hw⟩, fun h => ⟨_, hrt _ h, swapAll_spec s m p.val⟩,
    fun hbusy => ?_, fun hidle hpend => tableSwapApply_spec s p hidle hpend⟩
  · exact (hct _ h).trans (congrArg _ (ctTrig_free s m p.val _ hfree))
  · refine ⟨_, (hct _ h).trans (congrArg _ (ctTrig_free s m p.val _ hfree)), ?_, fun _ i => ?_, rfl⟩
    · rw [port_modPort_self]
    · rw [port_modPort_self]
      exact eValid_clearValid ctZero _ (by decide) i
  · exact ctRead_spec s p.val _ (if_pos hbit)
  · exact ctRead_spec s p.val _ (if_neg (by simp [hbit]))
  · exact (hrt _ h).trans (congrArg _ (rtTrig_free s m p.val _ hfree))
  · refine ⟨_, (hrt _ h).trans (congrArg _ (rtTrig_free s m p.val _ hfree)), ?_, rfl⟩
    rw [port_modPort_self]
  · rw [exec_tableSwapApply, if_neg (by simp [hbusy])]

end Sys2Proof.Machine
end

section
/-! PROOFS. O23: the entries of the mediated write queue. -/
namespace Sys2Proof.Machine

/-! ### Fences -/

/-- `b` is `a` but for FENCE entries that have ended. -/
structure PortState.Fenced (a b : PortState) : Prop where
  seq : b.wqSeq = a.wqSeq
  kept : ∀ i, (a.wqe i).type ≠ 3 → b.wqe i = a.wqe i
  fence : ∀ i, (a.wqe i).type = 3 → (a.wqe i).st = .captured ∨ (a.wqe i).st = .done →
    (b.wqe i).type = 3 ∧ ((b.wqe i).st = .captured ∨ (b.wqe i).st = .done)

theorem fenced_refl (q : PortState) : q.Fenced q := ⟨rfl, fun _ _ => rfl, fun _ ht hs => ⟨ht, hs⟩⟩

theorem fenced_trans {a b c : PortState} (hab : a.Fenced b) (hbc : b.Fenced c) : a.Fenced c where
  seq := hbc.seq.trans hab.seq
  kept i hi := (hbc.kept i (by rw [hab.kept i hi]; exact hi)).trans (hab.kept i hi)
  fence i ht hs := hbc.fence i (hab.fence i ht hs).1 (hab.fence i ht hs).2

theorem wqe_of_mem_wqAll (q : PortState) (x : Nat × WqEntry) (h : x ∈ q.wqAll) : x.2 = q.wqe x.1 := by
  unfold PortState.wqAll at h
  obtain ⟨i, -, rfl⟩ := List.mem_map.mp (List.mem_filter.mp h).1
  rfl

/-- Ending a fence changes that fence. -/
theorem fenced_end (q : PortState) (i : Nat) (h3 : (q.wqe i).type = 3) (e : WqEntry) (ht : e.type = 3) (hs : e.st = .done) :
    q.Fenced (q.setWqe i e) where
  seq := rfl
  kept j hj := by rw [wqe_setWqe, if_neg (fun heq => hj (by rw [heq]; exact h3))]
  fence j htj hsj := by
    rw [wqe_setWqe]
    split_ifs
    · exact ⟨ht, Or.inr hs⟩
    · exact ⟨htj, hsj⟩

theorem fenced_fences (q : PortState) : q.Fenced q.fences := by
  unfold PortState.fences
  refine List.foldlRecOn (motive := fun u : PortState => q.Fenced u) _ _ (fenced_refl q) fun u hu k _ => fenced_trans hu ?_
  split
  · rename_i x hfind
    have hpred := List.find?_some hfind
    have hx := wqe_of_mem_wqAll u x (List.mem_of_find?_eq_some hfind)
    simp only [Bool.and_eq_true, beq_iff_eq] at hpred
    obtain ⟨⟨h3, -⟩, -⟩ := hpred
    exact fenced_end u x.1 (hx ▸ h3) _ h3 rfl
  · exact fenced_refl u

/-! ### What the queue's operations change -/

/-- `t` differs from `s` in port `p`, registers, Cistern's queue and the delivery of events only. -/
structure State.WqFrame (p : Nat) (s t : State) : Prop where
  frame : t = { s.routed t with regs := t.regs, ports := t.ports, cis := t.cis }
  others : ∀ q, q ≠ p → t.port q = s.port q

section
variable {r s t : State} {p : Nat}

theorem wqFrame_refl (s : State) : s.WqFrame p s := ⟨rfl, fun _ _ => rfl⟩

theorem wqFrame_trans (hrs : r.WqFrame p s) (hst : s.WqFrame p t) : r.WqFrame p t where
  frame := Eq.trans hst.frame (congrArg (fun x : State => { x.routed t with regs := t.regs, ports := t.ports, cis := t.cis }) hrs.frame)
  others q hq := (hst.others q hq).trans (hrs.others q hq)

theorem wqFrame_modPort (s : State) (f : PortState → PortState) : s.WqFrame p (s.modPort p f) :=
  ⟨rfl, fun _ hq => port_modPort_other s hq f⟩

theorem wqFrame_count (s : State) (k : Nat) : s.WqFrame p (s.count k) where
  frame := by apply State.ext <;> simp [State.routed]
  others q _ := port_count ..

theorem wqFrame_setReg (s : State) (a : Nat) (v : Word) : s.WqFrame p (s.setReg a v) := ⟨rfl, fun _ _ => rfl⟩

theorem wqFrame_setCis (s : State) (c : CisState) : s.WqFrame p { s with cis := c } := ⟨rfl, fun _ _ => rfl⟩

theorem wqFrame_withdraw (s : State) (i : Nat) : s.WqFrame p (s.withdraw i) := by
  unfold State.withdraw
  split_ifs
  · exact wqFrame_trans (wqFrame_setCis s _) (wqFrame_count _ _)
  · exact wqFrame_refl s

theorem wqFrame_admDone (s : State) (i : Nat) (r : Status) : s.WqFrame p (s.admDone i r) := by
  unfold State.admDone State.incReg
  dsimp only
  refine wqFrame_trans (wqFrame_trans (wqFrame_trans ?_ (wqFrame_setReg _ _ _)) (wqFrame_setReg _ _ _)) (wqFrame_count _ _)
  exact wqFrame_trans (wqFrame_setCis s _) (wqFrame_setCis _ _)

theorem wqFrame_failView (s : State) (e : WqEntry) : s.WqFrame p (s.failView p e) := wqFrame_modPort s _

theorem wqFrame_wqEnd (s : State) (i : Nat) (st : WqSt) (r : Status) : s.WqFrame p (s.wqEnd p i st r) := by
  have hview : ∀ (u : State) (c : Prop) [Decidable c] (e : WqEntry), u.WqFrame p (if c then u.failView p e else u) := by
    intro u c _ e
    split_ifs
    · exact wqFrame_failView u e
    · exact wqFrame_refl u
  have hcount : ∀ (u : State) (c : Prop) [Decidable c] (k : Nat), u.WqFrame p (if c then u.count k else u) := by
    intro u c _ k
    split_ifs
    · exact wqFrame_count u k
    · exact wqFrame_refl u
  unfold State.wqEnd
  exact wqFrame_trans (wqFrame_trans (wqFrame_trans (wqFrame_modPort s _) (hview _ _ _)) (wqFrame_modPort _ _)) (hcount _ _ _)

/-- Asking for admission changes Cistern's queue only. -/
theorem wqAsk_frame (s : State) (p : Nat) : s.wqAsk p = { s with cis := (s.wqAsk p).cis } := by
  unfold State.wqAsk
  split_ifs
  · rfl
  · split <;> rfl

end

theorem port_wqAsk (s : State) (p q : Nat) : (s.wqAsk p).port q = s.port q := by rw [wqAsk_frame]; rfl

theorem wqFrame_wqAsk (s : State) (p : Nat) : s.WqFrame p (s.wqAsk p) := by
  rw [wqAsk_frame]
  exact wqFrame_setCis s _

theorem port_withdraw (s : State) (i q : Nat) : (s.withdraw i).port q = s.port q := by
  unfold State.withdraw
  split_ifs
  · rw [port_count]
    rfl
  · rfl

theorem port_admDone (s : State) (i : Nat) (r : Status) (q : Nat) : (s.admDone i r).port q = s.port q := by
  unfold State.admDone
  dsimp only
  rw [port_count]
  rfl

/-- An entry that ends has its end state and result. -/
theorem wqe_wqEnd (s : State) (p i : Nat) (st : WqSt) (r : Status) (h3 : ((s.port p).wqe i).type ≠ 3) :
    ((s.wqEnd p i st r).port p).wqe i = { (s.port p).wqe i with st := st, result := r } := by
  have hset : ((s.modPort p (fun q => q.setWqe i { (s.port p).wqe i with st := st, result := r })).port p).wqe i =
      { (s.port p).wqe i with st := st, result := r } := by
    rw [port_modPort_self, wqe_setWqe, if_pos rfl]
  have hview : ∀ (u : State) (c : Prop) [Decidable c] (e : WqEntry),
      ((if c then u.failView p e else u).port p).wqe i = (u.port p).wqe i := by
    intro u c _ e
    split_ifs
    · rw [State.failView, port_modPort_self, PortState.wqe, (modView_keeps ..).2.1]
      · rfl
      · exact 0
    · rfl
  have hcount : ∀ (u : State) (c : Prop) [Decidable c] (k : Nat), (if c then u.count k else u).port p = u.port p := by
    intro u c _ k
    split_ifs
    · exact port_count ..
    · rfl
  have hfence : ∀ u : State, ((u.port p).wqe i).type ≠ 3 → ((u.modPort p PortState.fences).port p).wqe i = (u.port p).wqe i := by
    intro u hu
    rw [port_modPort_self]
    exact (fenced_fences (u.port p)).kept i hu
  unfold State.wqEnd
  dsimp only
  rw [hcount, hfence _ (by rw [hview, hset]; exact h3), hview, hset]

/-! ### WQ_RESULT -/

theorem field_setField_top (w : Word) (v : Nat) (h : v < 256) : Word.field (Word.setField w 31 24 v) 31 24 = v := by
  have hw := w.isLt
  simp only [Word.setField, Word.field, BitVec.toNat_ofNat, Nat.shiftRight_eq_div_pow]
  omega

theorem result_wqResult (s : State) (p : Nat) (r : Status) : Word.field ((s.wqResult p r).reg (fp p 2 0x70)) 31 24 = r.toNat := by
  unfold State.wqResult State.setFld
  rw [State.reg_setReg, if_pos rfl, field_setField_top _ _ r.isLt]

theorem wqResult_modPort (s : State) (p : Nat) (f : PortState → PortState) (r : Status) :
    (s.modPort p f).wqResult p r = { s with regs := ((s.modPort p f).wqResult p r).regs, ports := ((s.modPort p f).wqResult p r).ports } := rfl

theorem wqResult_regs (s : State) (p : Nat) (r : Status) : s.wqResult p r = { s with regs := (s.wqResult p r).regs } := rfl

theorem reg_wqAsk (s : State) (p a : Nat) : (s.wqAsk p).reg a = s.reg a := by rw [wqAsk_frame]; rfl

theorem wqFrame_wqResult (s : State) (p : Nat) (r : Status) : s.WqFrame p (s.wqResult p r) := wqFrame_setReg s _ _

/-! ### The runtime's commands -/

theorem wqApply_captured (s : State) (p : Nat) (hst : ((s.port p).wqe (s.wqIdx p)).st = .captured) (h3 : ((s.port p).wqe (s.wqIdx p)).type ≠ 3)
    (hplain : ((s.port p).wqe (s.wqIdx p)).commit = false) :
    s.wqApply p = ((s.modPort p (fun q => q.setWqe (s.wqIdx p) { (s.port p).wqe (s.wqIdx p) with st := .applied })).wqResult p stOk).wqAsk p := by
  unfold State.wqApply
  exact (if_pos ⟨hst, h3⟩).trans (if_neg (by simp [hplain]))

theorem wqApply_spec (s : State) (p : Nat) (hst : ((s.port p).wqe (s.wqIdx p)).st = .captured) (h3 : ((s.port p).wqe (s.wqIdx p)).type ≠ 3)
    (hplain : ((s.port p).wqe (s.wqIdx p)).commit = false) :
    let t := s.wqApply p
    ((t.port p).wqe (s.wqIdx p)).st = .applied ∧ Word.field (t.reg (fp p 2 0x70)) 31 24 = 0 ∧
    (∀ i, i ≠ s.wqIdx p → (t.port p).wqe i = (s.port p).wqe i) ∧ t = { s with regs := t.regs, ports := t.ports, cis := t.cis } := by
  have hwqe : ∀ i, ((s.wqApply p).port p).wqe i =
      if i = s.wqIdx p then { (s.port p).wqe (s.wqIdx p) with st := .applied } else (s.port p).wqe i := fun i => by
    rw [wqApply_captured s p hst h3 hplain, port_wqAsk, State.wqResult, State.setFld, port_setReg, port_modPort_self, wqe_setWqe]
  refine ⟨by rw [hwqe, if_pos rfl], ?_, fun i hi => by rw [hwqe, if_neg hi], ?_⟩
  · rw [wqApply_captured s p hst h3 hplain, reg_wqAsk, result_wqResult]
    rfl
  · rw [wqApply_captured s p hst h3 hplain]
    have hres := wqResult_modPort s p (fun q => q.setWqe (s.wqIdx p) { (s.port p).wqe (s.wqIdx p) with st := .applied }) stOk
    generalize (s.modPort p (fun q => q.setWqe (s.wqIdx p) { (s.port p).wqe (s.wqIdx p) with st := .applied })).wqResult p stOk = u at hres ⊢
    have hask := wqAsk_frame u p
    generalize u.wqAsk p = t at hask ⊢
    rw [hask, hres]

theorem wqApply_ended (s : State) (p : Nat) (hst : ((s.port p).wqe (s.wqIdx p)).st ≠ .captured) :
    s.wqApply p = s.wqResult p stStateForbids := if_neg (fun h => hst h.1)

theorem wqDiscard_ended (s : State) (p : Nat) (hc : ((s.port p).wqe (s.wqIdx p)).st ≠ .captured)
    (ha : ((s.port p).wqe (s.wqIdx p)).st ≠ .applied) : s.wqDiscard p = s.wqResult p stStateForbids := if_neg (by simp [hc, ha])

/-- `s` without the waiting commit of an entry. -/
def State.unasked (s : State) (p i : Nat) : State := if (s.adm p).what = .wq p i then s.withdraw p else s

theorem wqDiscard_live (s : State) (p : Nat)
    (h : ((s.port p).wqe (s.wqIdx p)).st = .captured ∨ ((s.port p).wqe (s.wqIdx p)).st = .applied) :
    s.wqDiscard p = (((s.unasked p (s.wqIdx p)).wqEnd p (s.wqIdx p) .discarded stAborted).wqResult p stOk).wqAsk p := if_pos h

theorem port_unasked (s : State) (p i q : Nat) : (s.unasked p i).port q = s.port q := by
  unfold State.unasked
  split_ifs
  · exact port_withdraw ..
  · rfl

theorem wqFrame_unasked (s : State) (p i : Nat) : s.WqFrame p (s.unasked p i) := by
  unfold State.unasked
  split_ifs
  · exact wqFrame_withdraw ..
  · exact wqFrame_refl s

theorem wqDiscard_spec (s : State) (p : Nat)
    (h : ((s.port p).wqe (s.wqIdx p)).st = .captured ∨ ((s.port p).wqe (s.wqIdx p)).st = .applied)
    (h3 : ((s.port p).wqe (s.wqIdx p)).type ≠ 3) :
    let t := s.wqDiscard p
    ((t.port p).wqe (s.wqIdx p)).st = .discarded ∧ ((t.port p).wqe (s.wqIdx p)).result = stAborted ∧
    Word.field (t.reg (fp p 2 0x70)) 31 24 = 0 ∧ (∀ q, q ≠ p → t.port q = s.port q) := by
  have hwqe : ((s.wqDiscard p).port p).wqe (s.wqIdx p) =
      { (s.port p).wqe (s.wqIdx p) with st := .discarded, result := stAborted } := by
    rw [wqDiscard_live s p h, port_wqAsk, State.wqResult, State.setFld, port_setReg, wqe_wqEnd _ _ _ _ _ (by rw [port_unasked]; exact h3),
      port_unasked]
  dsimp only
  rw [hwqe]
  refine ⟨rfl, rfl, ?_, fun q hq => ?_⟩
  · rw [wqDiscard_live s p h, reg_wqAsk, result_wqResult]
    rfl
  · rw [wqDiscard_live s p h]
    exact (wqFrame_trans (wqFrame_trans (wqFrame_trans (wqFrame_unasked s p _) (wqFrame_wqEnd _ _ _ _)) (wqFrame_wqResult _ _ _))
      (wqFrame_wqAsk _ p)).others q hq

theorem wqRetire_spec (s : State) (p : Nat) (h : ((s.port p).wqe (s.wqIdx p)).ended = true) :
    let t := s.wqRetire p
    (t.port p).wqe (s.wqIdx p) = WqEntry.reset ∧ Word.field (t.reg (fp p 2 0x70)) 31 24 = 0 ∧
    (∀ i, i ≠ s.wqIdx p → (t.port p).wqe i = (s.port p).wqe i) ∧ t = { s with regs := t.regs, ports := t.ports } := by
  have heq : s.wqRetire p = (s.modPort p (fun q => q.setWqe (s.wqIdx p) WqEntry.reset)).wqResult p stOk := if_pos h
  have hwqe : ∀ i, ((s.wqRetire p).port p).wqe i = if i = s.wqIdx p then WqEntry.reset else (s.port p).wqe i := fun i => by
    rw [heq, State.wqResult, State.setFld, port_setReg, port_modPort_self, wqe_setWqe]
  refine ⟨by rw [hwqe, if_pos rfl], ?_, fun i hi => by rw [hwqe, if_neg hi], ?_⟩
  · rw [heq, result_wqResult]
    rfl
  · rw [heq]
    exact wqResult_modPort ..

/-- A new fence in the queue of a port, and the fences that end with it. -/
def PortState.withFence (q : PortState) (i : Nat) (mcmd : Word) : PortState :=
  ({ (q.setWqe i { WqEntry.reset with st := .captured, type := 3, seq := q.wqSeq, mcmd := mcmd }) with wqSeq := q.wqSeq + 1 }).fences

theorem wqFence_full (s : State) (p : Nat) (h : (s.port p).freeWqe = none) : s.wqFence p = s.wqResult p stNoSlot := by
  unfold State.wqFence
  rw [h]

theorem wqFence_room (s : State) (p i : Nat) (h : (s.port p).freeWqe = some i) :
    s.wqFence p = (s.modPort p (fun q => q.withFence i (s.reg (fp p 0 0xB0)))).wqResult p stOk := by
  unfold State.wqFence
  rw [h]
  rfl

theorem withFence_spec (q : PortState) (i : Nat) (mcmd : Word) :
    ((q.withFence i mcmd).wqe i).type = 3 ∧ (((q.withFence i mcmd).wqe i).st = .captured ∨ ((q.withFence i mcmd).wqe i).st = .done) ∧
      (q.withFence i mcmd).wqSeq = q.wqSeq + 1 := by
  have hf := fenced_fences
    { (q.setWqe i { WqEntry.reset with st := .captured, type := 3, seq := q.wqSeq, mcmd := mcmd }) with wqSeq := q.wqSeq + 1 }
  have hwqe := wqe_setWqe q i i { WqEntry.reset with st := .captured, type := 3, seq := q.wqSeq, mcmd := mcmd }
  rw [if_pos rfl] at hwqe
  obtain ⟨htype, hst⟩ := hf.fence i (congrArg WqEntry.type hwqe) (Or.inl (congrArg WqEntry.st hwqe))
  exact ⟨htype, hst, hf.seq⟩

theorem wqFence_spec (s : State) (p i : Nat) (h : (s.port p).freeWqe = some i) :
    let t := s.wqFence p
    Word.field (t.reg (fp p 2 0x70)) 31 24 = 0 ∧
    ((t.port p).wqe i).type = 3 ∧ (((t.port p).wqe i).st = .captured ∨ ((t.port p).wqe i).st = .done) ∧
    (t.port p).wqSeq = (s.port p).wqSeq + 1 ∧ t = { s with regs := t.regs, ports := t.ports } := by
  have hport : (s.wqFence p).port p = (s.port p).withFence i (s.reg (fp p 0 0xB0)) := by
    rw [wqFence_room s p i h, State.wqResult, State.setFld, port_setReg, port_modPort_self]
  obtain ⟨htype, hst, hseq⟩ := withFence_spec (s.port p) i (s.reg (fp p 0 0xB0))
  dsimp only
  rw [hport]
  refine ⟨?_, htype, hst, hseq, ?_⟩
  · rw [wqFence_room s p i h, result_wqResult]
    rfl
  · rw [wqFence_room s p i h]
    exact wqResult_modPort ..

/-! ### Entries that run on the flash -/

theorem exec_wqEntryStart (s : State) (p : Fin 16) (i : Fin 64) (hready : s.wqReady p.val i.val = true)
    (hplain : ((s.port p.val).wqe i.val).commit = false) : exec (.wqEntryStart p i) s = .next (s.wqStart p.val i.val) := by
  show Host.Outcome.next _ = _
  rw [if_pos (by simp [hready, hplain])]

/-- `s` with an entry of a port RUNNING. -/
def State.entryRunning (s : State) (p i : Nat) : State :=
  s.modPort p (fun q => q.setWqe i { (s.port p).wqe i with st := .running, since := s.clk })

theorem wqStart_eq (s : State) (p i : Nat) : s.wqStart p i =
    ((s.entryRunning p i).toFlash p ((s.port p).wqe i).cs (((s.port p).wrenOp ((s.port p).wqe i).cs).getD 0x06) 0 []).toFlash p
      ((s.port p).wqe i).cs ((s.port p).wqe i).opcode ((s.port p).wqe i).addr ((s.port p).wqe i).data := rfl

theorem port_toFlash (s : State) (p cs : Nat) (opc : Byte) (a : Nat) (d : Bytes) (q : Nat) : (s.toFlash p cs opc a d).port q = s.port q := rfl

theorem wqStart_spec (s : State) (p i : Nat) :
    let t := s.wqStart p i
    ((t.port p).wqe i).st = .running ∧
    t.outbox = s.outbox ++ [.flash p ((s.port p).wqe i).cs (((s.port p).wrenOp ((s.port p).wqe i).cs).getD 6).toNat 0 [] [],
      .flash p ((s.port p).wqe i).cs ((s.port p).wqe i).opcode.toNat ((s.port p).wqe i).addr [] ((s.port p).wqe i).data] ∧
    (∀ j, j ≠ i → (t.port p).wqe j = (s.port p).wqe j) ∧ t = { s with ports := t.ports, outbox := t.outbox } := by
  have hwqe : ∀ j, ((s.wqStart p i).port p).wqe j = if j = i then { (s.port p).wqe i with st := .running, since := s.clk }
      else (s.port p).wqe j := fun j => by
    rw [wqStart_eq, port_toFlash, port_toFlash, State.entryRunning, port_modPort_self, wqe_setWqe]
  refine ⟨by rw [hwqe, if_pos rfl], ?_, fun j hj => by rw [hwqe, if_neg hj], rfl⟩
  exact List.append_assoc s.outbox _ _

/-- `s` with the commit of an ended entry done. -/
def State.entryAdmDone (s : State) (p i : Nat) (r : Status) : State :=
  if s.cis.inflight = some p ∧ (s.adm p).what = .wq p i then s.admDone p r else s

theorem wqFinish_eq (s : State) (p i : Nat) (ok : Bool) : s.wqFinish p i ok =
    (((s.modPort p (fun q => q.wqClear ((s.port p).wqe i))).wqEnd p i (if ok then .done else .failed)
      (if ok then stOk else stInternal)).entryAdmDone p i (if ok then stOk else stInternal)).wqAsk p := rfl

theorem wqe_wqClear (q : PortState) (e : WqEntry) (i : Nat) : (q.wqClear e).wqe i = q.wqe i := by
  unfold PortState.wqClear
  split_ifs <;> rfl

theorem port_entryAdmDone (s : State) (p i : Nat) (r : Status) (q : Nat) : (s.entryAdmDone p i r).port q = s.port q := by
  unfold State.entryAdmDone
  split_ifs
  · exact port_admDone ..
  · rfl

theorem wqFrame_entryAdmDone (s : State) (p i : Nat) (r : Status) : s.WqFrame p (s.entryAdmDone p i r) := by
  unfold State.entryAdmDone
  split_ifs
  · exact wqFrame_admDone ..
  · exact wqFrame_refl s

theorem wqFinish_spec (s : State) (p i : Nat) (ok : Bool) (h3 : ((s.port p).wqe i).type ≠ 3) :
    ((s.wqFinish p i ok).port p).wqe i =
      { (s.port p).wqe i with st := if ok then .done else .failed, result := if ok then stOk else stInternal } ∧
    s.WqFrame p (s.wqFinish p i ok) := by
  have hclear : ((s.modPort p (fun q => q.wqClear ((s.port p).wqe i))).port p).wqe i = (s.port p).wqe i := by
    rw [port_modPort_self, wqe_wqClear]
  rw [wqFinish_eq]
  constructor
  · rw [port_wqAsk, port_entryAdmDone, wqe_wqEnd _ _ _ _ _ (by rw [hclear]; exact h3), hclear]
  · exact wqFrame_trans (wqFrame_trans (wqFrame_trans (wqFrame_modPort s _) (wqFrame_wqEnd _ _ _ _)) (wqFrame_entryAdmDone _ _ _ _))
      (wqFrame_wqAsk _ p)

theorem resetDue_of_not_owed (s : State) (h : s.pwr.resetOwed = false) : s.resetDue = s := if_neg (by simp [h])

theorem resetOwed_of_wqFrame {s t : State} {p : Nat} (h : s.WqFrame p t) : t.pwr = s.pwr := (congrArg State.pwr h.frame).trans rfl

/-- `s` with FAIL_CLR on the flash where a fail bit was read. -/
def State.failCleared (s : State) (p cs : Nat) (fail : Bool) : State := if fail then s.sendFailClr p cs else s

theorem exec_wqEntryDone (s : State) (p : Fin 16) (i : Fin 64) (pf ef : Bool) (hrun : ((s.port p.val).wqe i.val).st = .running) :
    exec (.wqEntryDone p i pf ef) s =
      .next ((s.failCleared p.val ((s.port p.val).wqe i.val).cs (pf || ef)).wqFinish p.val i.val (!(pf || ef))).resetDue := by
  have hdone : exec (.wqEntryDone p i pf ef) s = .next (if pf || ef then
      (s.sendFailClr p.val ((s.port p.val).wqe i.val).cs).wqFinish p.val i.val false else s.wqFinish p.val i.val true).resetDue := by
    show Host.Outcome.next _ = _
    rw [if_pos hrun]
  rw [hdone, State.failCleared]
  by_cases hfail : (pf || ef) = true
  · rw [if_pos hfail, if_pos hfail, hfail, Bool.not_true]
  · rw [if_neg hfail, if_neg hfail, Bool.not_eq_true _ |>.mp hfail, Bool.not_false]

theorem wqEntryDone_spec (s : State) (p : Fin 16) (i : Fin 64) (pf ef : Bool) (howed : s.pwr.resetOwed = false)
    (hrun : ((s.port p.val).wqe i.val).st = .running) (h3 : ((s.port p.val).wqe i.val).type ≠ 3) :
    ∃ t, exec (.wqEntryDone p i pf ef) s = .next t ∧
      ((t.port p.val).wqe i.val).st = (if pf || ef then WqSt.failed else WqSt.done) ∧
      ((t.port p.val).wqe i.val).result = (if pf || ef then stInternal else stOk) ∧ (∀ q, q ≠ p.val → t.port q = s.port q) := by
  have hport : ∀ q, (s.failCleared p.val ((s.port p.val).wqe i.val).cs (pf || ef)).port q = s.port q := fun q => by
    unfold State.failCleared
    split_ifs <;> rfl
  have hpwr : (s.failCleared p.val ((s.port p.val).wqe i.val).cs (pf || ef)).pwr = s.pwr := by
    unfold State.failCleared
    split_ifs <;> rfl
  have hexec := exec_wqEntryDone s p i pf ef hrun
  generalize s.failCleared p.val ((s.port p.val).wqe i.val).cs (pf || ef) = u at hport hpwr hexec
  obtain ⟨hend, hframe⟩ := wqFinish_spec u p.val i.val (!(pf || ef)) (by rw [hport]; exact h3)
  rw [resetDue_of_not_owed _ (by rw [resetOwed_of_wqFrame hframe, hpwr]; exact howed)] at hexec
  refine ⟨_, hexec, ?_, ?_, fun q hq => (hframe.others q hq).trans (hport q)⟩
  · rw [hend]
    cases (pf || ef) <;> rfl
  · rw [hend]
    cases (pf || ef) <;> rfl

theorem field_portErr (s : State) (p cause cs : Nat) (h : cause < 16) : Word.field ((s.portErr p cause cs).reg (fp p 0 0xA8)) 3 0 = cause := by
  rw [reg_portErr, if_pos rfl, field_or, field_fld_above _ 4 3 (by decide) (by decide), field_fld_zero cause h, Nat.or_zero]

theorem wqEntryTimeout_spec (s : State) (p : Fin 16) (i : Fin 64) (howed : s.pwr.resetOwed = false)
    (hrun : ((s.port p.val).wqe i.val).st = .running) (h3 : ((s.port p.val).wqe i.val).type ≠ 3)
    (hlate : ((s.port p.val).wqe i.val).since + 2 ^ ((s.port p.val).wqe i.val).timeoutLog ≤ s.clk) :
    ∃ t, exec (.wqEntryTimeout p i) s = .next t ∧ ((t.port p.val).wqe i.val).st = .failed ∧ Word.field (t.reg (fp p.val 0 0xA8)) 3 0 = 6 ∧
      (∀ q, q ≠ p.val → t.port q = s.port q) := by
  obtain ⟨hend, hframe⟩ := wqFinish_spec s p.val i.val false h3
  have hexec : exec (.wqEntryTimeout p i) s =
      .next ((s.wqFinish p.val i.val false).portErr p.val 6 ((s.port p.val).wqe i.val).cs).resetDue := by
    show Host.Outcome.next _ = _
    rw [if_pos ⟨hrun, hlate⟩]
  have hpwr := resetOwed_of_wqFrame hframe
  generalize s.wqFinish p.val i.val false = u at *
  have herr : (u.portErr p.val 6 ((s.port p.val).wqe i.val).cs).pwr = u.pwr := by unfold State.portErr; simp
  rw [resetDue_of_not_owed _ (by rw [herr, hpwr]; exact howed)] at hexec
  refine ⟨_, hexec, ?_, field_portErr u p.val 6 _ (by decide), fun q hq => by rw [port_portErr]; exact hframe.others q hq⟩
  rw [port_portErr, hend]
  rfl

/-- Settles O23. -/
theorem writeQueueEntriesLiveByTheirStates : Obligations.WriteQueueEntriesLiveByTheirStates := by
  unfold Obligations.WriteQueueEntriesLiveByTheirStates
  refine fun s p => ⟨fun m h => ?_, fun i hready hplain => ⟨_, exec_wqEntryStart s p i hready hplain, wqStart_spec s p.val i.val⟩,
    fun i pf ef howed hrun h3 => wqEntryDone_spec s p i pf ef howed hrun h3,
    fun i howed hrun h3 hlate => wqEntryTimeout_spec s p i howed hrun h3 hlate⟩
  have happly : exec (.wqApply m p) s = .next (s.wqApply p.val) := congrArg _ (State.guarded_of_admits s m _ _ h)
  have hdiscard : exec (.wqDiscard m p) s = .next (s.wqDiscard p.val) := congrArg _ (State.guarded_of_admits s m _ _ h)
  have hretire : exec (.wqRetire m p) s = .next (s.wqRetire p.val) := congrArg _ (State.guarded_of_admits s m _ _ h)
  have hfence : exec (.wqFence m p) s = .next (s.wqFence p.val) := congrArg _ (State.guarded_of_admits s m _ _ h)
  refine ⟨fun hst h3 hplain => ⟨_, happly, wqApply_spec s p.val hst h3 hplain⟩, fun hc ha => ?_,
    fun hlive h3 => ⟨_, hdiscard, wqDiscard_spec s p.val hlive h3⟩, fun hended => ⟨_, hretire, wqRetire_spec s p.val hended⟩,
    fun hfull => ?_, fun i hroom => ⟨_, hfence, wqFence_spec s p.val i hroom⟩⟩
  · rw [wqApply_ended s p.val hc] at happly
    rw [wqDiscard_ended s p.val hc ha] at hdiscard
    exact ⟨_, happly, hdiscard, result_wqResult .., wqResult_regs ..⟩
  · rw [wqFence_full s p.val hfull] at hfence
    exact ⟨_, hfence, result_wqResult .., wqResult_regs ..⟩

end Sys2Proof.Machine
end

section
/-! PROOFS. What sending frames on the Caravan ports changes. -/
namespace Sys2Proof.Machine

/-- `b` is port `a` after frames were sent or put before it: its queue, its credits and its counters differ at most. -/
def CvnPort.Sent (a b : CvnPort) : Prop :=
  b = { a with tx := b.tx, rxFree := b.rxFree, owed := b.owed, txSeq := b.txSeq, hopMax := b.hopMax, waiting := b.waiting }

/-- `t` is `s` after frames were sent or put before ports: their queues, DROPS, free values and the outbox differ at most. -/
structure State.Sent (s t : State) : Prop where
  frame : t = { s with regs := t.regs, cvn := { s.cvn with ports := t.cvn.ports }, freeCtr := t.freeCtr, outbox := t.outbox }
  regs : ∀ a, a ≠ aCvn 0 0x5C → t.reg a = s.reg a
  links : ∀ q, (s.link q).Sent (t.link q)

theorem portSent_refl (a : CvnPort) : a.Sent a := rfl

theorem portSent_trans {a b c : CvnPort} (hab : a.Sent b) (hbc : b.Sent c) : a.Sent c :=
  Eq.trans hbc (congrArg (fun x : CvnPort => { x with
    tx := c.tx, rxFree := c.rxFree, owed := c.owed, txSeq := c.txSeq, hopMax := c.hopMax, waiting := c.waiting }) hab)

section
variable {r s t : State}

theorem sent_refl (s : State) : s.Sent s := ⟨rfl, fun _ _ => rfl, fun _ => rfl⟩

theorem sent_trans (hrs : r.Sent s) (hst : s.Sent t) : r.Sent t where
  frame := Eq.trans hst.frame (congrArg (fun x : State => { x with
    regs := t.regs, cvn := { x.cvn with ports := t.cvn.ports }, freeCtr := t.freeCtr, outbox := t.outbox }) hrs.frame)
  regs a ha := (hst.regs a ha).trans (hrs.regs a ha)
  links q := portSent_trans (hrs.links q) (hst.links q)

theorem sent_foldl {α : Type} (l : List α) (f : State → α → State) (hf : ∀ (u : State) (x : α), u.Sent (f u x)) (s : State) :
    s.Sent (l.foldl f s) :=
  List.foldlRecOn (motive := fun u : State => s.Sent u) l f (sent_refl s) fun u hu x _ => sent_trans hu (hf u x)

theorem link_setLink (s : State) (p q : Nat) (v : CvnPort) : (s.setLink p v).link q = if q = p then v else s.link q := by
  rw [State.link_setLink]

theorem sent_setLink (s : State) (p : Nat) (v : CvnPort) (h : (s.link p).Sent v) : s.Sent (s.setLink p v) where
  frame := rfl
  regs _ _ := rfl
  links q := by
    rw [link_setLink]
    split_ifs with hq
    · rw [hq]; exact h
    · exact portSent_refl _

theorem sent_modLink (s : State) (p : Nat) (f : CvnPort → CvnPort) (h : (s.link p).Sent (f (s.link p))) : s.Sent (s.modLink p f) :=
  sent_setLink s p _ h

theorem sent_freed (s : State) : s.Sent s.freed := ⟨rfl, fun _ _ => rfl, fun _ => rfl⟩

theorem sent_out (s : State) (o : Out) : s.Sent (s.out o) := ⟨rfl, fun _ _ => rfl, fun _ => rfl⟩

theorem sent_slotFree (s : State) (o : Option Nat) : s.Sent (s.slotFree o) := by
  unfold State.slotFree
  split
  · split_ifs
    · exact sent_modLink s _ _ (by rfl)
    · exact sent_refl s
  · exact sent_refl s

theorem sent_copyGone (s : State) (e : CvnOut) : s.Sent (s.copyGone e) := by
  unfold State.copyGone
  split_ifs
  · exact sent_refl s
  · exact sent_slotFree s _

theorem sent_hopSeen (s : State) (o : Option Nat) : s.Sent (s.hopSeen o) := by
  unfold State.hopSeen
  split
  · exact sent_trans (sent_modLink s _ _ (by rfl)) (sent_freed _)
  · exact sent_refl s

theorem sent_xmit (s : State) (p : Nat) (e : CvnOut) : s.Sent (s.xmit p e) := by
  unfold State.xmit
  dsimp only
  exact sent_trans (sent_trans (sent_trans (sent_setLink s p _ (by rfl)) (sent_out _ _)) (sent_hopSeen _ _)) (sent_copyGone _ _)

theorem sent_drainGo (p n : Nat) : ∀ s : State, s.Sent (s.drainGo p n) := by
  induction n with
  | zero => exact fun s => sent_refl s
  | succ n ih =>
    intro s
    unfold State.drainGo
    split
    · exact sent_trans (sent_trans (sent_modLink s p _ (by rfl)) (sent_xmit _ _ _)) (ih _)
    · exact sent_refl s

theorem sent_drain (s : State) (p : Nat) : s.Sent (s.drain p) := by
  unfold State.drain
  split_ifs
  · exact sent_drainGo p _ s
  · exact sent_refl s

theorem sent_dropOnly (s : State) (k : Nat) : s.Sent (s.dropOnly k) where
  frame := rfl
  regs a ha := by rw [State.dropOnly, State.reg_setReg, if_neg ha]
  links _ := rfl

theorem sent_put (s : State) (p : Nat) (e : CvnOut) : s.Sent (s.put p e) := by
  unfold State.put
  split_ifs
  · exact sent_refl s
  · exact sent_dropOnly s _
  · exact sent_modLink s p _ (by rfl)

theorem sent_giveAll (s : State) (ps : List Nat) (e : CvnOut) : s.Sent (s.giveAll ps e) := by
  unfold State.giveAll
  refine sent_trans (sent_trans (sent_foldl ps _ (fun u p => sent_put u p e) s) (sent_copyGone _ e)) ?_
  exact sent_foldl ps State.drain sent_drain _

theorem sent_give (s : State) (p : Nat) (e : CvnOut) : s.Sent (s.give p e) := sent_giveAll s [p] e

theorem sent_walkOn (s : State) (p : Nat) (e : CvnOut) : s.Sent (s.walkOn p e) := by
  unfold State.walkOn
  split
  · exact sent_give s _ _
  · exact sent_slotFree s _

theorem sent_timeSend (s : State) : s.Sent s.timeSend := by
  unfold State.timeSend
  split
  · exact sent_give s _ _
  · exact sent_refl s

end

/-! ### The Caravan box -/

/-- `t` is `s` but for Caravan's own state, DROPS, free values and the delivery of events. -/
structure State.CvnBox (s t : State) : Prop where
  frame : t = { s.routed t with regs := t.regs, cvn := t.cvn, freeCtr := t.freeCtr }
  regs : ∀ a, a ≠ aCvn 0 0x5C → t.reg a = s.reg a

section
variable {r s t : State}

theorem cvnBox_refl (s : State) : s.CvnBox s := ⟨rfl, fun _ _ => rfl⟩

theorem cvnBox_trans (hrs : r.CvnBox s) (hst : s.CvnBox t) : r.CvnBox t where
  frame := Eq.trans hst.frame (congrArg (fun x : State => { x.routed t with regs := t.regs, cvn := t.cvn, freeCtr := t.freeCtr }) hrs.frame)
  regs a ha := (hst.regs a ha).trans (hrs.regs a ha)

theorem cvnBox_of_sent (h : s.Sent t) : s.CvnBox t where
  frame := by
    have hframe := h.frame
    rw [hframe]
    rfl
  regs := h.regs

theorem cvnBox_modCvn (s : State) (f : CvnState → CvnState) : s.CvnBox (s.modCvn f) := ⟨rfl, fun _ _ => rfl⟩

theorem cvnBox_count (s : State) (k : Nat) : s.CvnBox (s.count k) where
  frame := by apply State.ext <;> simp [State.routed]
  regs _ _ := State.reg_count ..

theorem cvnBox_cvnBound (s : State) : s.CvnBox s.cvnBound := ⟨rfl, fun _ _ => rfl⟩

theorem cvnBox_sweepEnd (s : State) (res : Nat) : s.CvnBox (s.sweepEnd res) := cvnBox_trans (cvnBox_modCvn s _) (cvnBox_count _ _)

theorem cvnBox_sweepHome (s : State) (p epoch : Nat) (x : SweepBody) (flags : Nat) : s.CvnBox (s.sweepHome p epoch x flags) := by
  unfold State.sweepHome
  split_ifs
  · exact cvnBox_refl s
  all_goals exact cvnBox_trans (cvnBox_modCvn s _) (cvnBox_sweepEnd _ _)

/-- The root's state once its TIME frame of a new epoch is on its way. -/
def State.epochOpened (s : State) : State :=
  (s.cvnBound.modCvn (fun c => { c with
    epoch := c.epoch + 1, sweep := 1, overflow := false, sweepHc := (s.cvnBound.rackPos / 65536 + s.cvnBound.deadlineHc) % 2 ^ 32,
    sweepLu := s.cvnBound.rackPos % 65536 })).timeSend

theorem cvnBox_epochOpened (s : State) : s.CvnBox s.epochOpened :=
  cvnBox_trans (cvnBox_trans (cvnBox_cvnBound s) (cvnBox_modCvn _ _)) (cvnBox_of_sent (sent_timeSend _))

theorem cvnBox_countersign (s : State) (epoch : Nat) (x : SweepBody) : s.CvnBox (s.countersign epoch x).1 :=
  ⟨rfl, fun _ _ => rfl⟩

theorem cvnBox_sweepStart (s : State) : s.CvnBox s.sweepStart := by
  have hopen := cvnBox_epochOpened s
  unfold State.sweepStart
  change s.CvnBox (match (s.epochOpened.countersign s.epochOpened.cvn.epoch.toNat _).1.walkNext none false with | some (q, ret) => _ | none => _)
  have hsign := fun x => cvnBox_trans hopen (cvnBox_countersign s.epochOpened s.epochOpened.cvn.epoch.toNat x)
  split
  · exact cvnBox_trans (hsign _) (cvnBox_of_sent (sent_give _ _ _))
  · exact cvnBox_trans (hsign _) (cvnBox_sweepHome _ _ _ _ _)

theorem cvnBox_cvnFire (s : State) : s.CvnBox s.cvnFire := by
  unfold State.cvnFire
  split_ifs
  · exact cvnBox_refl s
  · exact cvnBox_trans (cvnBox_cvnBound s) (cvnBox_count _ _)
  · exact cvnBox_sweepStart s
  · exact cvnBox_cvnBound s
  · exact cvnBox_trans (cvnBox_cvnBound s) (cvnBox_modCvn _ _)

end

end Sys2Proof.Machine
end

section
/-! PROOFS. O34: the line position's seed and the line timers. -/
namespace Sys2Proof.Machine

/-- A write of a register that is admitted has its effect. -/
theorem guarded_next (s : State) (m : Master) (a : Nat) (eff : State → State) (h : s.admits m a = true) :
    (.next (s.guarded m a eff) : Res) = .next (eff s) := congrArg _ (State.guarded_of_admits s m a eff h)

/-! ### The seed -/

theorem any_armed_iff (s : State) : ((List.range 8).any (fun t => (s.timer t).st == .armed)) = true ↔ ∃ k, k < 8 ∧ (s.timer k).st = .armed := by
  simp [List.any_eq_true]

/-- A seed cannot be taken now. -/
def State.seedBarred (s : State) (lo : Word) : Bool :=
  (List.range 8).any (fun t => (s.timer t).st == .armed) || s.arm.st == .armed || s.cis.seedUsed || !posAhead lo.toNat 0 (s.cis.hc + 1) 0

/-- `s` with POS_SEED written. -/
def State.seedWritten (s : State) (lo hi : Word) : State := (s.setReg (aCis0 0x60) lo).setReg (aCis0 0x64) (hi &&& 0xFFFF0000)

theorem posSeed_eq (s : State) (m : Master) (lo hi : Word) : s.posSeed m lo hi =
    if s.seedBarred lo then ((s.seedWritten lo hi).modCis (fun c => { c with seed := 3 })).refuse m (aCis0 0x64)
    else (s.seedWritten lo hi).modCis (fun c => { c with seed := 1, seedHc := lo.toNat, seedEra := Word.field hi 31 16 }) := rfl

theorem pageErr_seedWritten (s : State) (lo hi : Word) : (s.seedWritten lo hi).reg (aCis0 0x18) = s.reg (aCis0 0x18) := by
  unfold State.seedWritten
  rw [State.reg_setReg, if_neg (by decide), State.reg_setReg, if_neg (by decide)]

theorem posSeed_spec (s : State) (m : Master) (lo hi : Word) :
    let t := s.posSeed m lo hi
    (s.arm.st ≠ .armed → (∀ k, k < 8 → (s.timer k).st ≠ .armed) → s.cis.seedUsed = false → posAhead lo.toNat 0 (s.cis.hc + 1) 0 = true →
      t = { s with regs := t.regs, cis := { s.cis with seed := 1, seedHc := lo.toNat, seedEra := Word.field hi 31 16 } }) ∧
    ((s.arm.st = .armed ∨ s.cis.seedUsed = true ∨ posAhead lo.toNat 0 (s.cis.hc + 1) 0 = false ∨ ∃ k, k < 8 ∧ (s.timer k).st = .armed) →
      t.reg (aCis0 0x18) = pageErrAfter (s.reg (aCis0 0x18)) 0x64 .state m ∧
      t = { s.routed t with regs := t.regs, cis := { s.cis with seed := 3 } }) := by
  dsimp only
  constructor
  · intro harm htimers hused hahead
    have hnone : ¬ s.seedBarred lo = true := by
      have hany : (List.range 8).any (fun t => (s.timer t).st == .armed) = false := by
        rw [Bool.eq_false_iff, Ne, any_armed_iff]
        exact fun ⟨k, hk, hst⟩ => htimers k hk hst
      simp [State.seedBarred, hany, harm, hused, hahead]
    rw [posSeed_eq, if_neg hnone]
    rfl
  · intro hbar
    have hbarred : s.seedBarred lo = true := by
      unfold State.seedBarred
      rcases hbar with h | h | h | h
      · simp [h]
      · simp [h]
      · simp [h]
      · rw [(any_armed_iff s).mpr h]; rfl
    rw [posSeed_eq, if_pos hbarred]
    constructor
    · exact (reg_refuse _ m (aCis0 0x64)).trans (congrArg (pageErrAfter · 0x64 .state m) (pageErr_seedWritten s lo hi))
    · have href := refuse_routed ((s.seedWritten lo hi).modCis (fun c => { c with seed := 3 })) m (aCis0 0x64)
      generalize State.refuse _ m (aCis0 0x64) = t at href ⊢
      exact href

/-! ### Arming and cancelling -/

/-- `t` is `s` but for the line timers and the delivery of events. -/
def State.TimersOnly (s t : State) : Prop := t = { s.routed t with cis := { s.cis with timers := t.cis.timers } }

theorem timersOnly_refl (s : State) : s.TimersOnly s := rfl

theorem timersOnly_trans {r s t : State} (hrs : r.TimersOnly s) (hst : s.TimersOnly t) : r.TimersOnly t :=
  Eq.trans hst (congrArg (fun x : State => { x.routed t with cis := { x.cis with timers := t.cis.timers } }) hrs)

theorem timersOnly_setTimer (s : State) (k : Nat) (x : Timer) : s.TimersOnly (s.setTimer k x) := rfl

theorem timersOnly_count (s : State) (k : Nat) : s.TimersOnly (s.count k) := by
  unfold State.TimersOnly
  apply State.ext <;> simp [State.routed]

theorem timer_count (s : State) (k j : Nat) : (s.count k).timer j = s.timer j := by simp [State.timer]

/-- What ARM makes of timer `k` (R327). -/
def State.timerArmed (s : State) (k : Nat) : Timer :=
  { st := if s.ahead (s.reg (aCis1 (0x80 + 16 * k))).toNat (s.fldOf (aCis1 (0x84 + 16 * k)) 15 0) then .armed else .refused,
    hc := (s.reg (aCis1 (0x80 + 16 * k))).toNat, lu := s.fldOf (aCis1 (0x84 + 16 * k)) 15 0,
    period := s.fldOf (aCis1 (0x88 + 16 * k)) 15 0, dest := s.fldOf (aCis1 (0x88 + 16 * k)) 17 16,
    mark := s.fldOf (aCis1 (0x88 + 16 * k)) 31 24 }

theorem timerArmed_of_timersOnly {s t : State} (h : s.TimersOnly t) (k : Nat) : t.timerArmed k = s.timerArmed k :=
  (congrArg (fun x : State => x.timerArmed k) h).trans rfl

theorem armTimer_spec (s : State) (k : Nat) :
    s.TimersOnly (s.armTimer k) ∧ ∀ j, (s.armTimer k).timer j = if j = k then s.timerArmed k else s.timer j := by
  unfold State.armTimer State.timerArmed
  dsimp only
  split_ifs with hahead
  · exact ⟨timersOnly_setTimer s k _, fun j => by rw [State.timer_setTimer]; rfl⟩
  · refine ⟨timersOnly_trans (timersOnly_setTimer s k _) (timersOnly_count _ _), fun j => ?_⟩
    rw [timer_count, State.timer_setTimer]
    rfl

/-- Arming several timers. -/
theorem armTimers_spec (ks : List Nat) : ∀ s : State,
    s.TimersOnly (ks.foldl State.armTimer s) ∧
    ∀ j, (ks.foldl State.armTimer s).timer j = if j ∈ ks then s.timerArmed j else s.timer j := by
  induction ks with
  | nil => exact fun s => ⟨timersOnly_refl s, fun j => (if_neg (List.not_mem_nil)).symm⟩
  | cons k ks ih =>
    intro s
    obtain ⟨hframe, htimer⟩ := armTimer_spec s k
    obtain ⟨hrest, hall⟩ := ih (s.armTimer k)
    refine ⟨timersOnly_trans hframe hrest, fun j => ?_⟩
    rw [List.foldl_cons, hall, htimer, timerArmed_of_timersOnly hframe]
    by_cases hmem : j ∈ ks
    · rw [if_pos hmem, if_pos (List.mem_cons_of_mem k hmem)]
    · rw [if_neg hmem]
      by_cases hj : j = k
      · rw [if_pos hj, if_pos (by simp [hj]), hj]
      · rw [if_neg hj, if_neg (by simp [hj, hmem])]

theorem cancelTimer_spec (s : State) (k : Nat) :
    s.cancelTimer k = { s with cis := { s.cis with timers := (s.cancelTimer k).cis.timers } } ∧
    ∀ j, (s.cancelTimer k).timer j = if j = k ∧ (s.timer k).st = .armed then { s.timer k with st := .idle } else s.timer j := by
  unfold State.cancelTimer
  split_ifs with h
  · refine ⟨rfl, fun j => ?_⟩
    rw [State.timer_setTimer]
    by_cases hj : j = k
    · rw [if_pos hj, if_pos ⟨hj, h⟩]
    · rw [if_neg hj, if_neg (fun hc => hj hc.1)]
  · exact ⟨rfl, fun j => (if_neg (fun hc => h hc.2)).symm⟩

/-- CANCEL of timer `k` where its bit is set. -/
def cancelIf (v : Word) (s : State) (k : Nat) : State := if Word.bit v (8 + k) then s.cancelTimer k else s

theorem timersCancel_eq (s : State) (v : Word) : s.timersCancel v = (List.range 8).foldl (cancelIf v) s := rfl

/-- `t` is `s` but for the line timers. -/
def State.OnlyTimers (s t : State) : Prop := t = { s with cis := { s.cis with timers := t.cis.timers } }

theorem onlyTimers_trans {r s t : State} (hrs : r.OnlyTimers s) (hst : s.OnlyTimers t) : r.OnlyTimers t :=
  Eq.trans hst (congrArg (fun x : State => { x with cis := { x.cis with timers := t.cis.timers } }) hrs)

theorem cancelIf_spec (v : Word) (s : State) (k : Nat) :
    s.OnlyTimers (cancelIf v s k) ∧ ∀ j, (cancelIf v s k).timer j =
      if j = k ∧ Word.bit v (8 + j) = true ∧ (s.timer j).st = .armed then { s.timer j with st := .idle } else s.timer j := by
  unfold cancelIf
  split_ifs with h
  · obtain ⟨hframe, htimer⟩ := cancelTimer_spec s k
    refine ⟨hframe, fun j => (htimer j).trans ?_⟩
    by_cases hj : j = k
    · subst hj
      simp [h]
    · rw [if_neg (fun hc => hj hc.1), if_neg (fun hc => hj hc.1)]
  · refine ⟨rfl, fun j => (if_neg fun hc => h ?_).symm⟩
    rw [← hc.1]
    exact hc.2.1

theorem cancelAll_spec (v : Word) (ks : List Nat) : ∀ s : State,
    s.OnlyTimers (ks.foldl (cancelIf v) s) ∧ ∀ j, (ks.foldl (cancelIf v) s).timer j =
      if j ∈ ks ∧ Word.bit v (8 + j) = true ∧ (s.timer j).st = .armed then { s.timer j with st := .idle } else s.timer j := by
  induction ks with
  | nil => exact fun s => ⟨rfl, fun j => (if_neg (fun h => List.not_mem_nil h.1)).symm⟩
  | cons k ks ih =>
    intro s
    obtain ⟨hframe, htimer⟩ := cancelIf_spec v s k
    obtain ⟨hrest, hall⟩ := ih (cancelIf v s k)
    refine ⟨onlyTimers_trans hframe hrest, fun j => ?_⟩
    rw [List.foldl_cons, hall, htimer]
    by_cases hk : j = k ∧ Word.bit v (8 + j) = true ∧ (s.timer j).st = .armed
    · rw [if_pos hk, if_neg (by simp), if_pos ⟨by simp [hk.1], hk.2⟩]
    · rw [if_neg hk]
      by_cases hmem : j ∈ ks ∧ Word.bit v (8 + j) = true ∧ (s.timer j).st = .armed
      · rw [if_pos hmem, if_pos ⟨List.mem_cons_of_mem k hmem.1, hmem.2⟩]
      · rw [if_neg hmem, if_neg]
        rintro ⟨hin, hbit⟩
        rcases List.mem_cons.mp hin with h | h
        · exact hk ⟨h, hbit⟩
        · exact hmem ⟨h, hbit⟩

theorem timersCancel_spec (s : State) (v : Word) :
    s.OnlyTimers (s.timersCancel v) ∧ ∀ k, k < 8 →
      (s.timersCancel v).timer k = if Word.bit v (8 + k) = true ∧ (s.timer k).st = .armed then { s.timer k with st := .idle } else s.timer k := by
  obtain ⟨hframe, htimer⟩ := cancelAll_spec v (List.range 8) s
  rw [← timersCancel_eq] at hframe htimer
  refine ⟨hframe, fun k hk => (htimer k).trans ?_⟩
  simp only [List.mem_range, hk, true_and]

theorem mem_armBits (v : Word) (k : Nat) : k ∈ armBits v ↔ k < 8 ∧ Word.bit v k = true ∧ Word.bit v (8 + k) = false := by
  simp [armBits]

theorem timersArm_spec (s : State) (m : Master) (v : Word) :
    s.timersArm m v = { s.routed (s.timersArm m v) with
      regs := (s.timersArm m v).regs, cis := { s.cis with timers := (s.timersArm m v).cis.timers } } ∧
    ∀ k, (s.timersArm m v).timer k = if k ∈ armBits v then s.timerArmed k else s.timer k := by
  obtain ⟨hframe, htimer⟩ := armTimers_spec (armBits v) s
  unfold State.timersArm
  dsimp only
  generalize (armBits v).foldl State.armTimer s = u at hframe htimer ⊢
  split_ifs
  · have href := refuse_routed u m (aCis1 0x100)
    have hkeep : (u.refuse m (aCis1 0x100)).cis = u.cis := by simp
    refine ⟨?_, fun k => by rw [State.timer, hkeep]; exact htimer k⟩
    generalize u.refuse m (aCis1 0x100) = t at href hkeep ⊢
    rw [href]
    unfold State.TimersOnly at hframe
    rw [hframe]
    rfl
  · refine ⟨?_, htimer⟩
    unfold State.TimersOnly at hframe
    rw [hframe]
    rfl

theorem timerArm_spec (s : State) (m : Master) (v : Word) :
    let t := s.tmrCtrl m v
    t = { s.routed t with regs := t.regs, cis := { s.cis with timers := t.cis.timers } } ∧
    ∀ k, k < 8 → Word.bit v (8 + k) = false →
      (Word.bit v k = false → t.timer k = s.timer k) ∧ (Word.bit v k = true → t.timer k = s.timerArmed k) := by
  obtain ⟨harm, htimer⟩ := timersArm_spec s m v
  unfold State.tmrCtrl
  dsimp only
  generalize s.timersArm m v = u at harm htimer ⊢
  obtain ⟨hcancel, hkept⟩ := timersCancel_spec u v
  refine ⟨?_, fun k hk hbit => ?_⟩
  · generalize u.timersCancel v = t at hcancel ⊢
    unfold State.OnlyTimers at hcancel
    rw [hcancel, harm]
    rfl
  · rw [hkept k hk, if_neg (by simp [hbit]), htimer]
    exact ⟨fun h => if_neg (by simp [mem_armBits, h]), fun h => if_pos (by simp [mem_armBits, hk, h, hbit])⟩

/-! ### Firing -/

theorem wake_pwr (s : State) (k : Nat) : s.wake k = { s with pwr := (s.wake k).pwr } := by
  unfold State.wake
  split_ifs <;> rfl

theorem cis_timerDest (s : State) (k : Nat) (x : Timer) : (s.timerDest k x).cis = s.cis := by
  unfold State.timerDest
  split_ifs
  · exact (congrArg State.cis (cvnBox_cvnFire s).frame).trans rfl
  · rfl
  · exact (congrArg State.cis (State.flight_recorded ..)).trans rfl
  · rfl

theorem timerDest_kept (s : State) (k : Nat) (x : Timer) (h : x.dest ≠ 1) :
    (∀ a, (s.timerDest k x).reg a = s.reg a) ∧ ∀ j, j < 340 → (s.timerDest k x).evt j = s.evt j := by
  unfold State.timerDest
  rw [if_neg h]
  split_ifs
  · exact ⟨fun a => State.reg_flight .., fun j hj => evt_flight_low _ _ _ _ j hj⟩
  · exact ⟨fun _ => rfl, fun _ _ => rfl⟩

/-- What firing makes of a timer (R328). -/
def Timer.fired (x : Timer) : Timer := if x.period = 0 then { x with st := .fired } else { x with hc := (x.hc + x.period) % 2 ^ 32 }

/-- `s` with a timer fired and its event counted. -/
def State.timerCounted (s : State) (k : Nat) : State :=
  ((s.setTimer k (s.timer k).fired).setReg (aCis1 (0x8C + 16 * k)) (wd s.cis.hc)).count (evCis 9)

theorem timerFire_eq (s : State) (k : Nat) : s.timerFire k = ((s.timerCounted k).timerDest k (s.timer k)).wake 2 := rfl

theorem timerFire_spec (s : State) (k : Nat) :
    let t := s.timerFire k
    t.timer k = (if (s.timer k).period = 0 then { s.timer k with st := .fired }
      else { s.timer k with hc := ((s.timer k).hc + (s.timer k).period) % 2 ^ 32 }) ∧
    (∀ j, j ≠ k → t.timer j = s.timer j) ∧
    ((s.timer k).dest ≠ 1 → t.reg (aCis1 (0x8C + 16 * k)) = wd s.cis.hc ∧ t.evt (evCis 9) = (s.evt (evCis 9)).bump) := by
  have hcis : (s.timerFire k).cis = (s.timerCounted k).cis := by
    rw [timerFire_eq, wake_pwr]
    exact cis_timerDest ..
  have htimer : ∀ j, (s.timerFire k).timer j = if j = k then (s.timer k).fired else s.timer j := fun j => by
    rw [State.timer, hcis]
    refine (timer_count _ _ j).trans ?_
    exact State.timer_setTimer ..
  refine ⟨by rw [htimer, if_pos rfl]; rfl, fun j hj => by rw [htimer, if_neg hj], fun hdest => ?_⟩
  obtain ⟨hreg, hevt⟩ := timerDest_kept (s.timerCounted k) k (s.timer k) hdest
  rw [timerFire_eq, wake_pwr]
  constructor
  · refine (hreg _).trans ?_
    rw [State.timerCounted, State.reg_count, State.reg_setReg, if_pos rfl]
  · refine (hevt _ (by decide)).trans ?_
    rw [State.timerCounted, State.evt_count, if_pos rfl]
    rfl

theorem exec_lineTimerFire (s : State) (k : Fin 8) (haon : s.pwr.aonValid = true) (harm : (s.timer k.val).st = .armed) :
    exec (.lineTimerFire k) s = .next (if s.reached (s.timer k.val).hc (s.timer k.val).lu then s.timerFire k.val else s) := by
  show Host.Outcome.next _ = _
  simp [haon, harm]

/-- Settles O34. -/
theorem timersArmOnlyAheadOfThePosition : Obligations.TimersArmOnlyAheadOfThePosition := by
  unfold Obligations.TimersArmOnlyAheadOfThePosition
  refine ⟨fun s m lo hi h => ⟨_, guarded_next s m _ _ h, posSeed_spec s m lo hi⟩,
    fun s m v h => ⟨⟨_, guarded_next s m _ _ h, timerArm_spec s m v⟩,
      ⟨_, guarded_next s m _ _ h, timersCancel_spec s v⟩⟩,
    fun s k haon harm => ⟨fun hnot => ?_, fun hreached => ?_⟩⟩
  · rw [exec_lineTimerFire s k haon harm, if_neg (by simp [hnot])]
  · exact ⟨_, (exec_lineTimerFire s k haon harm).trans (congrArg _ (if_pos hreached)), timerFire_spec s k.val⟩

end Sys2Proof.Machine
end

section
/-! PROOFS. O32: submission, withdrawal and admission of commits. -/
namespace Sys2Proof.Machine

/-! ### Submission -/

theorem num_bytes_first (s : State) (a n : Nat) : Bytes.num (s.bytes a (n + 1)) 0 1 = (s.byte a).toNat := by
  have hbytes : s.bytes a (n + 1) = s.byte a :: (List.range n).map (fun i => s.byte (a + (i + 1))) := by
    unfold State.bytes
    rw [List.range_succ_eq_map, List.map_cons, List.map_map]
    rfl
  rw [hbytes]
  rfl

/-- The commit that a descriptor asks for (R326). -/
def State.submitted (s : State) (slot : Nat) : CommitWhat :=
  let h := s.bytes (descAt slot) 320
  let data := Bytes.slice h 64 (Bytes.num h 6 2)
  if Bytes.num h 0 1 = 2 then .page slot (Bytes.num h 4 1) (Bytes.num h 5 1) (Bytes.num h 8 4) data else .bank slot (Bytes.num h 4 1) data

/-- `s` with the commit of a descriptor waiting. -/
def State.submitWaits (s : State) (slot : Nat) : State :=
  (s.setByte (descAt slot + 17) 1).enqueue (17 + slot) (Bytes.num (s.bytes (descAt slot) 320) 0 1)
    (Bytes.num (s.bytes (descAt slot) 320) 2 2) (s.submitted slot)

theorem commitSubmit_eq (s : State) (m : Master) (v : Word) (hslot : Word.field v 3 0 < 15) (h8 : Word.bit v 8 = true)
    (h9 : Word.bit v 9 = false) : s.commitSubmit m v =
      if s.submitCheck (Word.field v 3 0) (s.bytes (descAt (Word.field v 3 0)) 320) ≠ stOk then
        (s.descEnd (Word.field v 3 0) (s.submitCheck (Word.field v 3 0) (s.bytes (descAt (Word.field v 3 0)) 320))).count (evCis 15)
      else s.submitWaits (Word.field v 3 0) := by
  unfold State.commitSubmit
  exact (if_neg (by simp only [h9, Bool.false_eq_true, and_false, or_false]; omega)).trans (if_neg (by simp [h8]))

theorem adm_setByte (s : State) (a : Nat) (v : Byte) (i : Nat) : (s.setByte a v).adm i = s.adm i := rfl

theorem adm_enqueue (s : State) (i cls timeout : Nat) (what : CommitWhat) (j : Nat) : (s.enqueue i cls timeout what).adm j =
    if j = i then { st := .waiting, cls, order := s.cis.order, since := s.posRun, timeout, what, startHc := 0 } else s.adm j := by
  have hadm : (s.enqueue i cls timeout what).adm j = (s.setAdm i ⟨.waiting, cls, s.cis.order, s.posRun, timeout, what, 0⟩).adm j := rfl
  rw [hadm, State.adm_setAdm]

theorem submitWaits_spec (s : State) (slot : Nat) :
    let t := s.submitWaits slot
    (t.adm (17 + slot)).st = .waiting ∧ (t.adm (17 + slot)).cls = (s.byte (descAt slot)).toNat ∧
    (t.adm (17 + slot)).order = s.cis.order ∧ (t.adm (17 + slot)).since = s.posRun ∧ (∀ i, i ≠ 17 + slot → t.adm i = s.adm i) ∧
    (∀ a, t.byte a = if a = descAt slot + 17 then 1 else s.byte a) ∧ t = { s with ram := t.ram, cis := t.cis } := by
  unfold State.submitWaits
  dsimp only
  rw [adm_enqueue, if_pos rfl]
  refine ⟨rfl, num_bytes_first s _ 319, rfl, rfl, fun i hi => ?_, fun a => State.byte_setByte s (descAt slot + 17) a 1, rfl⟩
  rw [adm_enqueue, if_neg hi, adm_setByte]

/-! ### Withdrawal -/

theorem commitWithdraw_eq (s : State) (m : Master) (v : Word) (hslot : Word.field v 3 0 < 15) (h8 : Word.bit v 8 = false)
    (h9 : Word.bit v 9 = true) : s.commitWithdraw m v =
      if (s.adm (17 + Word.field v 3 0)).st = .waiting then (s.withdraw (17 + Word.field v 3 0)).descEnd (Word.field v 3 0) stAborted
      else s.refuse m (aCis1 0x68) := by
  unfold State.commitWithdraw
  exact (if_neg (by simp only [h8, Bool.false_eq_true, false_and, or_false]; omega)).trans (if_neg (by simp [h9]))

theorem byte_descEnd (s : State) (slot : Nat) (r : Status) :
    (s.descEnd slot r).byte (descAt slot + 16) = r ∧ (s.descEnd slot r).byte (descAt slot + 17) = 3 := by
  unfold State.descEnd
  constructor
  · rw [State.byte_setByte, if_neg (by omega), State.byte_setByte, if_pos rfl]
  · rw [State.byte_setByte, if_pos rfl]

theorem withdraw_waiting (s : State) (i : Nat) (h : (s.adm i).st = .waiting) :
    s.withdraw i = (s.setAdm i AdmEntry.reset).count (evCis 6) := if_pos h

theorem adm_count (s : State) (k i : Nat) : (s.count k).adm i = s.adm i := by simp [State.adm]

theorem withdrawn_spec (s : State) (slot : Nat) (h : (s.adm (17 + slot)).st = .waiting) :
    let t := (s.withdraw (17 + slot)).descEnd slot stAborted
    (t.adm (17 + slot)).st = .empty ∧ (∀ i, i ≠ 17 + slot → t.adm i = s.adm i) ∧ t.byte (descAt slot + 16) = stAborted ∧
    t.byte (descAt slot + 17) = 3 ∧ t.evt (evCis 6) = (s.evt (evCis 6)).bump ∧ t = { s.routed t with ram := t.ram, cis := t.cis } := by
  have hadm : ∀ i, ((s.withdraw (17 + slot)).descEnd slot stAborted).adm i = if i = 17 + slot then AdmEntry.reset else s.adm i := fun i => by
    rw [State.descEnd, adm_setByte, adm_setByte, withdraw_waiting s _ h, adm_count, State.adm_setAdm]
  obtain ⟨hresult, hstate⟩ := byte_descEnd (s.withdraw (17 + slot)) slot stAborted
  refine ⟨by rw [hadm, if_pos rfl]; rfl, fun i hi => by rw [hadm, if_neg hi], hresult, hstate, ?_, ?_⟩
  · show (s.withdraw (17 + slot)).evt (evCis 6) = _
    rw [withdraw_waiting s _ h, State.evt_count, if_pos rfl]
    rfl
  · have hcount := State.count_routed (s.setAdm (17 + slot) AdmEntry.reset) (evCis 6)
    rw [← withdraw_waiting s _ h] at hcount
    generalize s.withdraw (17 + slot) = u at hcount ⊢
    unfold State.descEnd State.setByte
    rw [hcount]
    rfl

/-! ### Admission -/

/-- One comparison of the arbiter: the entry that has waited longer. -/
def State.longer (s : State) (m : Option Nat) (i : Nat) : Option Nat :=
  match m with
  | none => some i
  | some j => if (s.adm i).order < (s.adm j).order then some i else some j

theorem admPick_eq (s : State) : s.admPick = ((List.range 32).filter s.admissible).foldl s.longer none := rfl

/-- Among an entry and a list, the arbiter finds one that none precedes. -/
theorem foldl_longer (s : State) (l : List Nat) : ∀ j, ∃ i, l.foldl s.longer (some j) = some i ∧ (i = j ∨ i ∈ l) ∧
    (s.adm i).order ≤ (s.adm j).order ∧ ∀ k ∈ l, (s.adm i).order ≤ (s.adm k).order := by
  induction l with
  | nil => exact fun j => ⟨j, rfl, Or.inl rfl, Nat.le_refl _, fun k hk => absurd hk List.not_mem_nil⟩
  | cons x l ih =>
    intro j
    by_cases hx : (s.adm x).order < (s.adm j).order
    · obtain ⟨i, hfold, hmem, hle, hall⟩ := ih x
      refine ⟨i, ?_, Or.inr (List.mem_cons.mpr hmem), by omega, fun k hk => ?_⟩
      · rw [List.foldl_cons, State.longer, if_pos hx, hfold]
      · rcases List.mem_cons.mp hk with h | h
        · rw [h]; exact hle
        · exact hall k h
    · obtain ⟨i, hfold, hmem, hle, hall⟩ := ih j
      refine ⟨i, ?_, hmem.imp_right (List.mem_cons_of_mem x), hle, fun k hk => ?_⟩
      · rw [List.foldl_cons, State.longer, if_neg hx, hfold]
      · rcases List.mem_cons.mp hk with h | h
        · rw [h]; omega
        · exact hall k h

theorem mem_admissible (s : State) (k : Nat) : k ∈ (List.range 32).filter s.admissible ↔ k < 32 ∧ s.admissible k = true := by
  rw [List.mem_filter, List.mem_range]

theorem admPick_none (s : State) (h : ∀ i, i < 32 → s.admissible i = false) : s.admPick = none := by
  have hnil : (List.range 32).filter s.admissible = [] :=
    List.filter_eq_nil_iff.mpr fun i hi => by simp [h i (List.mem_range.mp hi)]
  rw [admPick_eq, hnil]
  rfl

/-- Of the admissible entries the one that has waited longest is picked (R320). -/
theorem admPick_spec (s : State) (j : Nat) (hj : j < 32) (hadm : s.admissible j = true) :
    ∃ i, s.admPick = some i ∧ i < 32 ∧ s.admissible i = true ∧ ∀ k, k < 32 → s.admissible k = true → (s.adm i).order ≤ (s.adm k).order := by
  have hmem := (mem_admissible s j).mpr ⟨hj, hadm⟩
  rw [admPick_eq]
  generalize hl : (List.range 32).filter s.admissible = l at hmem
  have hiff : ∀ k, k ∈ l ↔ k < 32 ∧ s.admissible k = true := fun k => hl ▸ mem_admissible s k
  cases l with
  | nil => exact absurd hmem List.not_mem_nil
  | cons x l =>
    obtain ⟨i, hfold, hin, hle, hall⟩ := foldl_longer s l x
    obtain ⟨hi, hiadm⟩ := (hiff i).mp (List.mem_cons.mpr hin)
    refine ⟨i, hfold, hi, hiadm, fun k hk hkadm => ?_⟩
    rcases List.mem_cons.mp ((hiff k).mpr ⟨hk, hkadm⟩) with h | h
    · rw [h]; exact hle
    · exact hall k h

/-- `s` with an entry running. -/
def State.admitted (s : State) (i : Nat) : State :=
  ((s.setAdm i { s.adm i with st := .running, startHc := s.cis.hc }).modCis (fun c => { c with inflight := some i, ifSince := s.clk })).count (evCis 3)

theorem admitSlot_eq (s : State) (i : Nat) : s.admitSlot i = (s.admitted i).commitStart i := rfl

theorem cis_admitted (s : State) (i : Nat) : (s.admitted i).cis =
    { (s.setAdm i { s.adm i with st := .running, startHc := s.cis.hc }).cis with inflight := some i, ifSince := s.clk } := by
  unfold State.admitted
  rw [show ∀ (u : State) (k : Nat), (u.count k).cis = u.cis from fun u k => by simp]
  rfl

theorem adm_admitted (s : State) (i k : Nat) :
    (s.admitted i).adm k = if k = i then { s.adm i with st := .running, startHc := s.cis.hc } else s.adm k := by
  rw [State.adm, cis_admitted]
  exact State.adm_setAdm s i k { s.adm i with st := .running, startHc := s.cis.hc }

theorem port_admitted (s : State) (i p : Nat) : (s.admitted i).port p = s.port p := by
  unfold State.admitted
  rw [port_count]
  rfl

/-- Starting what was admitted changes neither the queue nor an event count, where a page commit has its opcodes. -/
theorem commitStart_kept (s : State) (i : Nat)
    (h : ∀ slot p cs a d, (s.adm i).what = .page slot p cs a d → ((s.port p).wrenOp cs).isSome = true ∧ ((s.port p).progOp cs).isSome = true) :
    (s.commitStart i).cis = s.cis ∧ ∀ k, (s.commitStart i).evt k = s.evt k := by
  unfold State.commitStart
  split
  · rename_i p j hwhat
    obtain ⟨-, -, -, hframe⟩ := wqStart_spec s p j
    generalize s.wqStart p j = t at hframe ⊢
    rw [hframe]
    exact ⟨rfl, fun _ => rfl⟩
  · rename_i slot p cs a d hwhat
    obtain ⟨hwren, hprog⟩ := h slot p cs a d hwhat
    obtain ⟨w, hw⟩ := Option.isSome_iff_exists.mp hwren
    obtain ⟨g, hg⟩ := Option.isSome_iff_exists.mp hprog
    rw [hw, hg]
    exact ⟨rfl, fun _ => rfl⟩
  · exact ⟨rfl, fun _ => rfl⟩
  · exact ⟨rfl, fun _ => rfl⟩

theorem admitSlot_spec (s : State) (i : Nat)
    (h : ∀ slot p cs a d, (s.adm i).what = .page slot p cs a d → ((s.port p).wrenOp cs).isSome = true ∧ ((s.port p).progOp cs).isSome = true) :
    let t := s.admitSlot i
    t.cis.inflight = some i ∧ t.cis.ifSince = s.clk ∧ (t.adm i).st = .running ∧ (t.adm i).startHc = s.cis.hc ∧
    (∀ k, k ≠ i → t.adm k = s.adm k) ∧ t.evt (evCis 3) = (s.evt (evCis 3)).bump := by
  have hwhat : ((s.admitted i).adm i).what = (s.adm i).what := by rw [adm_admitted, if_pos rfl]
  obtain ⟨hcis, hevt⟩ := commitStart_kept (s.admitted i) i (fun slot p cs a d hw => by
    rw [port_admitted]
    exact h slot p cs a d (hwhat.symm.trans hw))
  have hadm : ∀ k, (s.admitSlot i).adm k = if k = i then { s.adm i with st := .running, startHc := s.cis.hc } else s.adm k := fun k => by
    rw [← adm_admitted, admitSlot_eq, State.adm, hcis]
    rfl
  refine ⟨?_, ?_, by rw [hadm, if_pos rfl], by rw [hadm, if_pos rfl], fun k hk => by rw [hadm, if_neg hk], ?_⟩
  · rw [admitSlot_eq, hcis, cis_admitted]
  · rw [admitSlot_eq, hcis, cis_admitted]
  · rw [admitSlot_eq, hevt, State.admitted, State.evt_count, if_pos rfl]
    rfl

theorem exec_commitAdmit (s : State) : exec .commitAdmit s =
    .next (if s.admOpen then (match s.admPick with | some i => s.admitSlot i | none => s) else s) := rfl

/-- Settles O32. -/
theorem commitsWaitAndTheLongestWaiterIsAdmitted : Obligations.CommitsWaitAndTheLongestWaiterIsAdmitted := by
  unfold Obligations.CommitsWaitAndTheLongestWaiterIsAdmitted
  refine ⟨fun s m v h hslot h8 h9 => ?_, fun s m v h hslot h8 h9 => ?_, fun s => ⟨fun hshut => ?_, fun hopen hnone => ?_, fun hopen j hj hadm => ?_⟩⟩
  · have hexec : exec (.commitSubmit m v) s = .next (s.commitSubmit m v) := guarded_next s m _ _ h
    rw [commitSubmit_eq s m v hslot h8 h9] at hexec
    refine ⟨fun hbad => hexec.trans (congrArg _ (if_pos hbad)), fun hok => ⟨_, hexec.trans (congrArg _ (if_neg (not_not.mpr hok))), ?_⟩⟩
    exact submitWaits_spec s _
  · have hexec : exec (.commitWithdraw m v) s = .next (s.commitWithdraw m v) := guarded_next s m _ _ h
    rw [commitWithdraw_eq s m v hslot h8 h9] at hexec
    exact ⟨fun hno => hexec.trans (congrArg _ (if_neg hno)), fun hw => ⟨_, hexec.trans (congrArg _ (if_pos hw)), withdrawn_spec s _ hw⟩⟩
  · rw [exec_commitAdmit, if_neg (by simp [hshut])]
  · rw [exec_commitAdmit, if_pos hopen, admPick_none s hnone]
  · obtain ⟨i, hpick, hi, hiadm, hmin⟩ := admPick_spec s j hj hadm
    refine ⟨i, s.admitSlot i, hi, hiadm, hmin, ?_, fun hops => admitSlot_spec s i hops⟩
    rw [exec_commitAdmit, if_pos hopen, hpick]

end Sys2Proof.Machine
end

section
/-! PROOFS. What destroying Cellar contexts changes (R389 to R391, R353, R403). -/
namespace Sys2Proof.Machine

/-- The sources that destroying contexts may count: last use, retired slot, raised epoch, issuer destroyed (R405). -/
def destroySources : List Nat := [evCel 2, evCel 3, evCel 5, evCel 13]

/-- `b` is digest context `a`, poisoned at most. -/
def DCtx.PoisonedAtMost (a b : DCtx) : Prop := b = a ∨ b = { a with st := .poisoned }

/-- `t` is `s` after Cellar contexts were destroyed or marked to be: slots only die, and digest contexts are poisoned at most. -/
structure State.Destroyed (s t : State) : Prop where
  frame : t = { s.routed t with
    cel := { s.cel with slots := t.cel.slots, doomed := t.cel.doomed }, dgl := { s.dgl with ctxs := t.dgl.ctxs, lanes := t.dgl.lanes } }
  slots : ∀ j, t.slot j = s.slot j ∨ (t.slot j).live = false
  events : ∀ k, k ∉ destroySources → t.evt k = s.evt k
  contexts : ∀ i, (s.dctx i).PoisonedAtMost (t.dctx i)

theorem poisonedAtMost_refl (a : DCtx) : a.PoisonedAtMost a := Or.inl rfl

theorem poisonedAtMost_trans {a b c : DCtx} (hab : a.PoisonedAtMost b) (hbc : b.PoisonedAtMost c) : a.PoisonedAtMost c := by
  rcases hab with rfl | rfl
  · exact hbc
  · rcases hbc with rfl | rfl <;> exact Or.inr rfl

section
variable {r s t : State}

theorem destroyed_refl (s : State) : s.Destroyed s := ⟨rfl, fun _ => Or.inl rfl, fun _ _ => rfl, fun _ => poisonedAtMost_refl _⟩

theorem destroyed_trans (hrs : r.Destroyed s) (hst : s.Destroyed t) : r.Destroyed t where
  frame := Eq.trans hst.frame (congrArg (fun x : State => { x.routed t with
    cel := { x.cel with slots := t.cel.slots, doomed := t.cel.doomed }, dgl := { x.dgl with ctxs := t.dgl.ctxs, lanes := t.dgl.lanes } })
    hrs.frame)
  slots j := by
    rcases hst.slots j with h | h
    · rw [h]; exact hrs.slots j
    · exact Or.inr h
  events k hk := (hst.events k hk).trans (hrs.events k hk)
  contexts i := poisonedAtMost_trans (hrs.contexts i) (hst.contexts i)

theorem destroyed_foldl {α : Type} (l : List α) (f : State → α → State) (hf : ∀ (u : State) (x : α), u.Destroyed (f u x)) (s : State) :
    s.Destroyed (l.foldl f s) :=
  List.foldlRecOn (motive := fun u : State => s.Destroyed u) l f (destroyed_refl s) fun u hu x _ => destroyed_trans hu (hf u x)

theorem get_map_keyed {α : Type} (d : Nat → α) (f : Nat → α → α) (m : SMap α) (k : Nat) :
    SMap.get d (m.map (fun x => (x.1, f x.1 x.2))) k = SMap.get d m k ∨ SMap.get d (m.map (fun x => (x.1, f x.1 x.2))) k = f k (SMap.get d m k) := by
  induction m with
  | nil => exact Or.inl rfl
  | cons x m ih =>
    obtain ⟨j, v⟩ := x
    by_cases h : j = k
    · subst h
      exact Or.inr (by simp [SMap.get])
    · simpa [SMap.get, h] using ih

/-- The contexts of the store, poisoned where their key is the one destroyed. -/
def State.poisonAt (s : State) (h : Word) (i : Nat) (c : DCtx) : DCtx :=
  if (s.dctx i).key == h && h != 0 && (s.dctx i).st != .free then { c with st := .poisoned } else c

theorem ctxs_poisonKey (s : State) (h : Word) (why : Status) :
    (s.poisonKey h why).dgl.ctxs = s.dgl.ctxs.map (fun x => (x.1, s.poisonAt h x.1 x.2)) := by
  unfold State.poisonKey State.poisonAt
  refine List.map_congr_left fun x _ => ?_
  dsimp only
  split_ifs <;> rfl

theorem destroyed_poisonKey (s : State) (h : Word) (why : Status) : s.Destroyed (s.poisonKey h why) where
  frame := rfl
  slots _ := Or.inl rfl
  events _ _ := rfl
  contexts i := by
    have hkeep : ∀ c : DCtx, c.PoisonedAtMost (s.poisonAt h i c) := fun c => by
      unfold State.poisonAt
      split_ifs
      · exact Or.inr rfl
      · exact Or.inl rfl
    have hctx : (s.poisonKey h why).dctx i = SMap.get (fun _ => DCtx.reset) (s.dgl.ctxs.map (fun x => (x.1, s.poisonAt h x.1 x.2))) i := by
      rw [State.dctx, ctxs_poisonKey]
    rw [hctx]
    rcases get_map_keyed (fun _ => DCtx.reset) (s.poisonAt h) s.dgl.ctxs i with hget | hget
    · rw [hget]; exact Or.inl rfl
    · rw [hget]; exact hkeep _

theorem destroyed_setDoomed (s : State) (l : List Word) : s.Destroyed { s with cel := { s.cel with doomed := l } } :=
  ⟨rfl, fun _ => Or.inl rfl, fun _ _ => rfl, fun _ => poisonedAtMost_refl _⟩

theorem destroyed_count (s : State) (k : Nat) (hk : k ∈ destroySources) : s.Destroyed (s.count k) where
  frame := by apply State.ext <;> simp [State.routed]
  slots j := Or.inl (by simp [State.slot])
  events j hj := by rw [State.evt_count, if_neg (fun e : j = k => hj (by rw [e]; exact hk))]
  contexts i := Or.inl (by simp [State.dctx])

theorem destroyed_setSlot (s : State) (i : Nat) (v : Slot) (h : v.live = false) : s.Destroyed (s.setSlot i v) where
  frame := rfl
  slots j := by
    rw [State.slot_setSlot]
    split_ifs
    · exact Or.inr h
    · exact Or.inl rfl
  events _ _ := rfl
  contexts _ := poisonedAtMost_refl _

/-- `s` once the digest job on a slot's context is poisoned and its destruction no longer waits. -/
def State.undoomed (s : State) (i : Nat) (why : Status) : State :=
  { s.poisonKey (handleOf i (s.slot i).gen) why with
    cel := { (s.poisonKey (handleOf i (s.slot i).gen) why).cel with
      doomed := (s.poisonKey (handleOf i (s.slot i).gen) why).cel.doomed.filter (fun h => h != handleOf i (s.slot i).gen) } }

theorem destroyed_undoomed (s : State) (i : Nat) (why : Status) : s.Destroyed (s.undoomed i why) :=
  destroyed_trans (destroyed_poisonKey s _ why) (destroyed_setDoomed _ _)

theorem destroyFor_eq (s : State) (i : Nat) (why : Status) : s.destroyFor i why =
    if !(s.slot i).live then s
    else if (s.slot i).gen + 1 = 0xFFFF then
      ((s.undoomed i why).setSlot i { st := .retired, gen := (s.slot i).gen + 1, ctx := KeyCtx.zero }).count (evCel 3)
    else (s.undoomed i why).setSlot i { st := .free, gen := (s.slot i).gen + 1, ctx := KeyCtx.zero } := rfl

theorem destroyed_destroyFor (s : State) (i : Nat) (why : Status) : s.Destroyed (s.destroyFor i why) := by
  rw [destroyFor_eq]
  split_ifs
  · exact destroyed_refl s
  · exact destroyed_trans (destroyed_trans (destroyed_undoomed s i why) (destroyed_setSlot _ i _ rfl)) (destroyed_count _ _ (by decide))
  · exact destroyed_trans (destroyed_undoomed s i why) (destroyed_setSlot _ i _ rfl)

/-- A slot whose context is destroyed at once is not live. -/
theorem live_destroyFor (s : State) (i : Nat) (why : Status) : ((s.destroyFor i why).slot i).live = false := by
  rw [destroyFor_eq]
  split_ifs with h
  · simpa using h
  · rw [State.slot, show ∀ (u : State) (k : Nat), (u.count k).cel = u.cel from fun u k => by simp]
    exact (congrArg Slot.live (State.slot_setSlot (s.undoomed i why) i i _)).trans (by rw [if_pos rfl]; rfl)
  · rw [State.slot_setSlot, if_pos rfl]
    rfl

theorem destroyed_destroy (s : State) (i : Nat) : s.Destroyed (s.destroy i) := by
  unfold State.destroy
  dsimp only
  split_ifs
  · exact destroyed_trans (destroyed_poisonKey s _ _) (destroyed_setDoomed _ _)
  · exact destroyed_refl s
  · exact destroyed_destroyFor s i _

theorem destroyed_reap (s : State) : s.Destroyed s.reap := by
  refine destroyed_foldl _ _ (fun u h => ?_) s
  split_ifs
  · exact destroyed_refl u
  · exact destroyed_destroyFor u _ _

theorem destroyed_lastUse (s : State) (h : Word) : s.Destroyed (s.lastUse h) := by
  unfold State.lastUse
  split_ifs
  · exact destroyed_trans (destroyed_destroy s _) (destroyed_count _ _ (by decide))
  · exact destroyed_refl s

theorem dead_of_destroyed (h : s.Destroyed t) (i : Nat) (hdead : (s.slot i).live = false) : (t.slot i).live = false := by
  rcases h.slots i with he | he
  · rw [he]; exact hdead
  · exact he

/-! ### The wipe -/

theorem destroyed_celWipe (s : State) : s.Destroyed s.celWipe :=
  destroyed_foldl _ (fun (u : State) (x : Nat × Slot) => u.destroyFor x.1 stAborted) (fun u x => destroyed_destroyFor u x.1 _) s

theorem mem_of_get_ne {α : Type} (d : Nat → α) (m : SMap α) (k : Nat) (h : SMap.get d m k ≠ d k) : (k, SMap.get d m k) ∈ m := by
  induction m with
  | nil => exact absurd rfl h
  | cons x m ih =>
    obtain ⟨j, v⟩ := x
    by_cases hj : j = k
    · subst hj
      simp [SMap.get]
    · have hget : SMap.get d ((j, v) :: m) k = SMap.get d m k := by simp [SMap.get, hj]
      rw [hget] at h ⊢
      exact List.mem_cons_of_mem _ (ih h)

theorem mem_liveSlots (s : State) (i : Nat) (h : (s.slot i).live = true) : (i, s.slot i) ∈ s.liveSlots := by
  refine List.mem_filter.mpr ⟨mem_of_get_ne _ _ _ fun he => ?_, h⟩
  have hdef : (s.slot i).live = false := (congrArg Slot.live he).trans rfl
  exact absurd (h.symm.trans hdef) (by decide)

/-- Destroying the slots of a list leaves those of the list dead. -/
theorem live_foldl_destroyFor (why : Status) (l : List (Nat × Slot)) : ∀ s : State, ∀ i, i ∈ l.map Prod.fst →
    ((l.foldl (fun u x => u.destroyFor x.1 why) s).slot i).live = false := by
  induction l with
  | nil => exact fun s i hi => absurd hi List.not_mem_nil
  | cons x l ih =>
    intro s i hi
    rw [List.foldl_cons]
    rcases List.mem_cons.mp hi with h | h
    · refine dead_of_destroyed (destroyed_foldl l _ (fun u y => destroyed_destroyFor u y.1 why) _) i ?_
      rw [h]
      exact live_destroyFor s x.1 why
    · exact ih _ i h

/-- A wipe of the Cellar leaves no live context. -/
theorem live_celWipe (s : State) (i : Nat) : (s.celWipe.slot i).live = false := by
  by_cases h : (s.slot i).live = true
  · exact live_foldl_destroyFor stAborted s.liveSlots s i (List.mem_map.mpr ⟨_, mem_liveSlots s i h, rfl⟩)
  · exact dead_of_destroyed (destroyed_celWipe s) i (by simpa using h)

end

end Sys2Proof.Machine
end

section
/-! PROOFS. O35: life-cycle requests, debug grants and memory test modes. -/
namespace Sys2Proof.Machine

/-! ### Requests of other masters than hart 0 -/

/-- The page of the life-cycle requests. -/
def lcf1Page : PageInfo := { kind := .lcf1, type := 2, inst := 0, page := 1, dw := 6, slow := true, secure := true }

/-- LC_REQ and DBG_GRANT take no write of a master other than hart 0 (R342). -/
theorem writeGate_lcf1 (s : State) (m : Master) (a : Nat) (hm : m ≠ 0) (ha : a = aLcf1 0x40 ∨ a = aLcf1 0x44) :
    s.writeGate m a = some .state := by
  have hpage : pageAt (a / 4096) = some lcf1Page := by rcases ha with rfl | rfl <;> rfl
  obtain ⟨r, hrow, hro, hlv, hec, hwho⟩ : ∃ r, lcf1Page.row (a % 4096 % lcf1Page.span) = some r ∧
      r.code ≠ .ro ∧ r.code ≠ .lv ∧ r.code ≠ .ec ∧ r.who = .hart0 := by
    rcases ha with rfl | rfl
    · exact ⟨_, rfl, by decide, by decide, by decide, rfl⟩
    · exact ⟨_, rfl, by decide, by decide, by decide, rfl⟩
  have hwriter : writerOk lcf1Page r.who m = false := by rw [hwho]; simpa [writerOk] using hm
  unfold State.writeGate
  rw [hpage]
  dsimp only
  rw [hrow]
  dsimp only
  split_ifs with h1 h2 h3 h4
  · rfl
  · rfl
  · exact absurd h3 (by simp [hro, hlv, hec])
  · rfl
  · exact absurd (Or.inl (by simp [hwriter])) h4
  · exact absurd (Or.inl (by simp [hwriter])) h4

theorem guarded_lcf1_other (s : State) (m : Master) (a : Nat) (eff : State → State) (hm : m ≠ 0) (ha : a = aLcf1 0x40 ∨ a = aLcf1 0x44)
    (harr : s.arrives m 0x11 = true) (hpost : s.postedAt 0x11 = none) (hshut : s.shut = false) : s.guarded m a eff = s.refuse m a := by
  have hdiv : a / 4096 = 0x11 := by rcases ha with rfl | rfl <;> rfl
  have hgate := writeGate_lcf1 s m a hm ha
  unfold State.guarded
  rw [hdiv, show pageAt 0x11 = some lcf1Page from rfl]
  dsimp only
  rw [harr, hpost, hgate, if_neg (by simp), if_neg (by simp), if_neg (by simp [State.haltBars, hshut])]
  rfl

/-! ### Transitions -/

/-- `t` is `s` but for the step of the transition, the admission queue, the owner secret's banks and the reset that is owed. -/
def State.LcStepOf (s t : State) : Prop :=
  t = { s with
    lcf := { s.lcf with transit := t.lcf.transit }, cis := t.cis, cel := { s.cel with bank0 := t.cel.bank0, bank1 := t.cel.bank1, active := t.cel.active },
    pwr := { s.pwr with resetOwed := t.pwr.resetOwed } }

theorem lcStepOf_trans {r s t : State} (hrs : r.LcStepOf s) (hst : s.LcStepOf t) : r.LcStepOf t :=
  Eq.trans hst (congrArg (fun x : State => { x with
    lcf := { x.lcf with transit := t.lcf.transit }, cis := t.cis, cel := { x.cel with bank0 := t.cel.bank0, bank1 := t.cel.bank1, active := t.cel.active },
    pwr := { x.pwr with resetOwed := t.pwr.resetOwed } }) hrs)

theorem lcStepOf_setTransit (s : State) (x : Option (LcState × LcStep)) : s.LcStepOf (s.setTransit x) := rfl

theorem lcStepOf_enqueue (s : State) (i cls timeout : Nat) (w : CommitWhat) : s.LcStepOf (s.enqueue i cls timeout w) := rfl

theorem lcStepOf_transit_enqueue (s : State) (x : Option (LcState × LcStep)) (i cls timeout : Nat) (w : CommitWhat) :
    s.LcStepOf ((s.setTransit x).enqueue i cls timeout w) := lcStepOf_trans (lcStepOf_setTransit s x) (lcStepOf_enqueue _ ..)

theorem lcStepOf_fuseKey (s : State) (x : Option (LcState × LcStep)) (i : Nat) (v : Bytes) (n : Nat) :
    s.LcStepOf ((s.setTransit x).fuseKey i v n) := lcStepOf_transit_enqueue s x 16 1 n _

theorem lcStepOf_lcReset (s : State) (t : LcState) : s.LcStepOf (s.lcReset t) := rfl

/-- `s` with the owner secret erased as the fields of SCRAP begin. -/
def State.scrapErased (s : State) (k : Nat) : State :=
  if k = 0 then { s with cel := { s.cel with bank0 := [], bank1 := [], active := none } } else s

theorem lcStepOf_scrapErased (s : State) (k : Nat) : s.LcStepOf (s.scrapErased k) := by
  unfold State.scrapErased
  split_ifs <;> rfl

theorem lcStepOf_lcGo (t : LcState) (n : Nat) : ∀ (st : LcStep) (s : State), s.LcStepOf (s.lcGo t st n) := by
  induction n with
  | zero => exact fun _ s => lcStepOf_setTransit s _
  | succ n ih =>
    intro st s
    cases st with
    | copyA | copyB | copyC =>
      unfold State.lcGo
      dsimp only
      split_ifs
      · exact ih _ s
      · exact lcStepOf_transit_enqueue s ..
    | scrapFields k =>
      show s.LcStepOf (if t ≠ .scrap then s.lcGo t .cellarWipe n
        else match (s.scrapErased k).trimLeft with
          | [] => (s.scrapErased k).lcGo t .cellarWipe n
          | i :: _ => ((s.scrapErased k).setTransit (some (t, .scrapFields (k + 1)))).fuseKey i (List.replicate 32 0xFF) 0xFFFF)
      split_ifs
      · exact ih _ s
      · split
        · exact lcStepOf_trans (lcStepOf_scrapErased s k) (ih _ _)
        · exact lcStepOf_trans (lcStepOf_scrapErased s k) (lcStepOf_fuseKey _ ..)
    | cellarWipe => exact lcStepOf_setTransit s _
    | epochs banks =>
      cases banks with
      | nil => exact lcStepOf_lcReset s t
      | cons b rest => exact lcStepOf_transit_enqueue s ..
    | resetDue => exact lcStepOf_lcReset s t

theorem evt_of_lcStepOf {s t : State} (h : s.LcStepOf t) (k : Nat) : t.evt k = s.evt k := by
  unfold State.LcStepOf at h
  rw [h]
  rfl

/-- A transition begins with copy A where that is not written yet. -/
theorem lcGo_copyA (s : State) (x : LcState) (n : Nat) (h : s.lcCopy 0 ≠ x.fuseCode) :
    s.lcGo x .copyA (n + 1) = (s.setTransit (some (x, .copyA))).enqueue 16 0 0 (.lcf (.lcCopy 0 x)) := by
  unfold State.lcGo
  exact if_neg h

theorem lcOfCode_of_lcCheck (s : State) (c : Nat) (h : s.lcCheck c = stOk) : ∃ x, lcOfCode c = some x := by
  unfold State.lcCheck at h
  split_ifs at h
  · exact absurd h (by decide)
  · exact absurd h (by decide)
  · split at h
    · exact ⟨_, by assumption⟩
    · exact absurd h (by decide)

/-- `s` with LC_REQ written and a new nonce. -/
def State.lcAsked (s : State) (v : Word) : State := (s.setReg (aLcf1 0x40) (v &&& 0x107)).newNonce

theorem lcReq_bad (s : State) (v : Word) (h8 : Word.bit v 8 = true) (hbad : s.lcCheck (Word.field v 2 0) ≠ stOk) :
    s.lcReq v = ((s.lcAsked v).lcResult (s.lcCheck (Word.field v 2 0)) (Word.field v 2 0)).count (evLcf 1) := by
  have hcheck : (s.setReg (aLcf1 0x40) (v &&& 0x107)).lcCheck (Word.field v 2 0) = s.lcCheck (Word.field v 2 0) := rfl
  unfold State.lcReq
  dsimp only
  rw [if_neg (by simp [h8]), hcheck, if_neg hbad]
  rfl

theorem lcReq_ok (s : State) (v : Word) (x : LcState) (h8 : Word.bit v 8 = true) (hok : s.lcCheck (Word.field v 2 0) = stOk)
    (hx : lcOfCode (Word.field v 2 0) = some x) : s.lcReq v = ((s.lcAsked v).count (evLcf 0)).lcGo x .copyA 8 := by
  have hcheck : (s.setReg (aLcf1 0x40) (v &&& 0x107)).lcCheck (Word.field v 2 0) = s.lcCheck (Word.field v 2 0) := rfl
  unfold State.lcReq
  dsimp only
  rw [if_neg (by simp [h8]), hcheck, if_pos hok, hx]
  rfl

theorem lcReq_refused (s : State) (v : Word) (h8 : Word.bit v 8 = true) (hbad : s.lcCheck (Word.field v 2 0) ≠ stOk) :
    let t := s.lcReq v
    t.reg (aLcf0 0x48) = (fld (s.lcCheck (Word.field v 2 0)).toNat 0 ||| fld (Word.field v 2 0) 8) ∧
    t.evt (evLcf 1) = (s.evt (evLcf 1)).bump ∧ t.drbgCtr = s.drbgCtr + 1 ∧
    t = { s.routed t with regs := t.regs, drbgCtr := t.drbgCtr, lcf := { s.lcf with nonce := s.draw 32 } } := by
  rw [lcReq_bad s v h8 hbad]
  refine ⟨?_, ?_, ?_, ?_⟩
  · rw [State.reg_count, State.lcResult, State.reg_setReg, if_pos rfl]
  · rw [State.evt_count, if_pos rfl]
    rfl
  · rw [show ∀ (u : State) (k : Nat), (u.count k).drbgCtr = u.drbgCtr from fun u k => by simp]
    rfl
  · have hcount := State.count_routed ((s.lcAsked v).lcResult (s.lcCheck (Word.field v 2 0)) (Word.field v 2 0)) (evLcf 1)
    generalize State.count _ (evLcf 1) = t at hcount ⊢
    rw [hcount]
    rfl

theorem lcReq_accepted (s : State) (v : Word) (h8 : Word.bit v 8 = true) (hok : s.lcCheck (Word.field v 2 0) = stOk) :
    ∃ x, lcOfCode (Word.field v 2 0) = some x ∧ (s.lcReq v).evt (evLcf 0) = (s.evt (evLcf 0)).bump ∧ (s.lcReq v).lcf.nonce = s.draw 32 ∧
      (s.lcReq v).drbgCtr = s.drbgCtr + 1 ∧
      (s.lcCopy 0 ≠ x.fuseCode → (s.lcReq v).lcf.transit = some (x, .copyA) ∧ ((s.lcReq v).adm 16).st = .waiting ∧ ((s.lcReq v).adm 16).cls = 0 ∧
        ((s.lcReq v).adm 16).what = .lcf (.lcCopy 0 x) ∧ (∀ i, i ≠ 16 → (s.lcReq v).adm i = s.adm i)) := by
  obtain ⟨x, hx⟩ := lcOfCode_of_lcCheck s _ hok
  have hbump : ((s.lcAsked v).count (evLcf 0)).evt (evLcf 0) = (s.evt (evLcf 0)).bump := by
    rw [State.evt_count, if_pos rfl]
    rfl
  have hcount := State.count_routed (s.lcAsked v) (evLcf 0)
  rw [lcReq_ok s v x h8 hok hx]
  generalize (s.lcAsked v).count (evLcf 0) = u at hbump hcount ⊢
  have hlcf : u.lcf = { s.lcf with nonce := s.draw 32 } := (congrArg State.lcf hcount).trans rfl
  have hcopy : u.lcCopy 0 = s.lcCopy 0 := (congrArg (fun w : State => w.lcCopy 0) hcount).trans rfl
  have hadm : ∀ i, u.adm i = s.adm i := fun i => (congrArg (fun w : State => w.adm i) hcount).trans rfl
  have hdraws : u.drbgCtr = s.drbgCtr + 1 := (congrArg State.drbgCtr hcount).trans rfl
  have hstep := lcStepOf_lcGo x 8 .copyA u
  refine ⟨x, hx, (evt_of_lcStepOf hstep _).trans hbump, ?_, ?_, fun hne => ?_⟩
  · refine (congrArg (fun w : State => w.lcf.nonce) hstep).trans ?_
    exact (congrArg LcfState.nonce hlcf).trans rfl
  · exact (congrArg State.drbgCtr hstep).trans hdraws
  · rw [lcGo_copyA u x 7 (by rw [hcopy]; exact hne)]
    refine ⟨rfl, ?_, ?_, ?_, fun i hi => ?_⟩
    · rw [adm_enqueue, if_pos rfl]
    · rw [adm_enqueue, if_pos rfl]
    · rw [adm_enqueue, if_pos rfl]
    · rw [adm_enqueue, if_neg hi]
      exact hadm i

/-! ### The wipe of a transition -/

/-- `s` with the Cellar wiped and the wipe counted. -/
def State.cellarWiped (s : State) : State := s.celWipe.count (evCel 0)

/-- Banks whose epochs follow the wipe, the inactive one first (R376). -/
def State.bankOrder (s : State) : List Nat :=
  (match s.cel.active with | some 0 => [1, 0] | _ => [0, 1]).filter (fun b => bankValid (s.bank b))

theorem lcWiped_eq (s : State) (x : LcState) (h : s.lcf.transit = some (x, .cellarWipe)) (hresp : s.tamp.responded = false) :
    s.lcWiped = s.cellarWiped.lcGo x (.epochs s.bankOrder) 8 := by
  unfold State.lcWiped
  rw [if_neg (by simp [hresp]), h]
  rfl

theorem lcWiped_none (s : State) (h : s.tamp.responded = true ∨ ∀ x, s.lcf.transit ≠ some (x, .cellarWipe)) : s.lcWiped = s := by
  unfold State.lcWiped
  split_ifs with hresp
  · rfl
  · have hno := h.resolve_left hresp
    split
    · rename_i t heq
      exact absurd heq (hno t)
    · rfl

theorem bankOrder_nil (s : State) (h0 : bankValid s.cel.bank0 = false) (h1 : bankValid s.cel.bank1 = false) : s.bankOrder = [] := by
  have hbank : ∀ b, bankValid (s.bank b) = false := fun b => by unfold State.bank; split_ifs <;> assumption
  exact List.filter_eq_nil_iff.mpr fun b _ => by simp [hbank b]

theorem bankOrder_cons (s : State) (h : bankValid s.cel.bank0 = true ∨ bankValid s.cel.bank1 = true) : ∃ b l, s.bankOrder = b :: l := by
  obtain ⟨b, hb, hv⟩ : ∃ b, (b = 0 ∨ b = 1) ∧ bankValid (s.bank b) = true := by
    rcases h with h | h
    · exact ⟨0, Or.inl rfl, h⟩
    · exact ⟨1, Or.inr rfl, h⟩
  have hmem : b ∈ s.bankOrder := by
    refine List.mem_filter.mpr ⟨?_, hv⟩
    rcases hb with rfl | rfl <;> split <;> decide
  cases hl : s.bankOrder with
  | nil => rw [hl] at hmem; exact absurd hmem List.not_mem_nil
  | cons b' l => exact ⟨b', l, rfl⟩

theorem live_wiped (s : State) (i : Nat) : (s.cellarWiped.slot i).live = false := by
  unfold State.cellarWiped
  rw [State.slot, show ∀ (u : State) (k : Nat), (u.count k).cel = u.cel from fun u k => by simp]
  exact live_celWipe s i

theorem evt_wiped (s : State) : s.cellarWiped.evt (evCel 0) = (s.evt (evCel 0)).bump := by
  unfold State.cellarWiped
  rw [State.evt_count, if_pos rfl, (destroyed_celWipe s).events _ (by decide)]

theorem wiped_frame (s : State) : s.cellarWiped = { s.routed s.cellarWiped with
    cel := { s.cel with slots := s.cellarWiped.cel.slots, doomed := s.cellarWiped.cel.doomed },
    dgl := { s.dgl with ctxs := s.cellarWiped.dgl.ctxs, lanes := s.cellarWiped.dgl.lanes } } := by
  have hwipe := (destroyed_celWipe s).frame
  have hcount := State.count_routed s.celWipe (evCel 0)
  unfold State.cellarWiped
  generalize s.celWipe.count (evCel 0) = t at hcount ⊢
  rw [hcount, hwipe]
  rfl

theorem lcKick_keeps (s : State) : s.lcKick.lcf = s.lcf ∧ s.lcKick.cel = s.cel := by
  unfold State.lcKick
  split_ifs
  · exact ⟨rfl, rfl⟩
  · split
    · exact ⟨rfl, rfl⟩
    · split <;> exact ⟨rfl, rfl⟩

theorem lcBoot_keeps (s : State) : s.lcBoot.lcf.transit = none ∧ s.lcBoot.lcf.fuses = s.lcf.fuses ∧ s.lcBoot.cel = s.cel := by
  have hcount : ∀ (u : State) (k : Nat), (u.count k).lcf = u.lcf ∧ (u.count k).cel = u.cel := fun u k => ⟨by simp, by simp⟩
  unfold State.lcBoot
  dsimp only
  split_ifs <;> simp only [lcKick_keeps, hcount] <;> exact ⟨trivial, trivial, trivial⟩

theorem bootDraws_keeps (s : State) : s.bootDraws.lcf = { s.lcf with nonce := s.bootDraws.lcf.nonce } ∧
    s.bootDraws.cel = { s.cel with bootNonce := s.bootDraws.cel.bootNonce, ephemeral := s.bootDraws.cel.ephemeral } := by
  unfold State.bootDraws
  dsimp only
  split_ifs <;> exact ⟨rfl, rfl⟩

theorem fp0Mode_keeps (s : State) : s.fp0Mode.lcf = s.lcf ∧ s.fp0Mode.cel = s.cel := ⟨rfl, rfl⟩

/-- What the road keeps of the Cellar and the fuses as it starts. -/
theorem roadStart_keeps (s : State) : s.roadStart.lcf.transit = none ∧ s.roadStart.lcf.fuses = s.lcf.fuses ∧
    s.roadStart.cel.slots = s.cel.slots ∧ s.roadStart.cel.bank0 = s.cel.bank0 ∧ s.roadStart.cel.bank1 = s.cel.bank1 := by
  obtain ⟨htransit, hfuses, hcel⟩ := lcBoot_keeps s
  unfold State.roadStart
  generalize s.lcBoot = u at htransit hfuses hcel ⊢
  obtain ⟨hlcf, hcel'⟩ := fp0Mode_keeps u
  generalize u.fp0Mode = w at hlcf hcel' ⊢
  obtain ⟨hlcf'', hcel''⟩ := bootDraws_keeps w
  generalize w.bootDraws = t at hlcf'' hcel'' ⊢
  rw [hlcf'', hcel'', hlcf, hcel', hcel]
  exact ⟨htransit, hfuses, rfl, rfl, rfl⟩

/-- A reset (R106, R353) keeps the fuses and the banks; the Cellar is empty. -/
theorem roadStart_afterReset (s : State) :
    let t := s.afterReset.roadStart
    t.lcf.transit = none ∧ t.lcf.fuses = s.lcf.fuses ∧ (∀ i, (t.slot i).live = false) ∧ t.cel.bank0 = s.cel.bank0 ∧ t.cel.bank1 = s.cel.bank1 := by
  obtain ⟨htransit, hfuses, hslots, hbank0, hbank1⟩ := roadStart_keeps s.afterReset
  refine ⟨htransit, hfuses, fun i => ?_, hbank0, hbank1⟩
  rw [State.slot, hslots]
  rfl

theorem exec_lcCellarWipeDone (s : State) : exec .lcCellarWipeDone s = .next s.lcWiped.resetDue := rfl

/-- With no bank to follow, the wipe ends in a reset that is owed. -/
theorem wipeDone_last (s : State) (x : LcState) (h : s.lcf.transit = some (x, .cellarWipe)) (hresp : s.tamp.responded = false)
    (h0 : bankValid s.cel.bank0 = false) (h1 : bankValid s.cel.bank1 = false) : s.lcWiped = s.cellarWiped.lcReset x := by
  rw [lcWiped_eq s x h hresp, bankOrder_nil s h0 h1]
  rfl

theorem wipe_waits_for_commit (s : State) (x : LcState) (h : s.lcf.transit = some (x, .cellarWipe)) (hresp : s.tamp.responded = false)
    (h0 : bankValid s.cel.bank0 = false) (h1 : bankValid s.cel.bank1 = false) (hfly : s.cis.inflight.isSome = true) :
    ∃ t, exec .lcCellarWipeDone s = .next t ∧ (∀ i, (t.slot i).live = false) ∧ t.evt (evCel 0) = (s.evt (evCel 0)).bump ∧
      t.lcf.transit = some (x, .resetDue) ∧ t.pwr.resetOwed = true ∧ t.cis = s.cis := by
  have hcis : s.cellarWiped.cis = s.cis := (congrArg State.cis (wiped_frame s)).trans rfl
  have hexec := exec_lcCellarWipeDone s
  rw [wipeDone_last s x h hresp h0 h1] at hexec
  have hlive := live_wiped s
  have hevt := evt_wiped s
  generalize s.cellarWiped = w at hcis hexec hlive hevt
  have hdue : (w.lcReset x).resetDue = w.lcReset x := by
    have hnone : (w.lcReset x).cis.inflight.isNone = false := (congrArg (fun c : CisState => c.inflight.isNone) hcis).trans (by simpa using hfly)
    exact if_neg (by simp [hnone])
  rw [hdue] at hexec
  exact ⟨_, hexec, hlive, hevt, rfl, rfl, hcis⟩

theorem wipe_resets (s : State) (x : LcState) (h : s.lcf.transit = some (x, .cellarWipe)) (hresp : s.tamp.responded = false)
    (h0 : bankValid s.cel.bank0 = false) (h1 : bankValid s.cel.bank1 = false) (hfly : s.cis.inflight.isSome = false) (hup : s.coreUp = true) :
    ∃ t, exec .lcCellarWipeDone s = .next t ∧ t.lcf.transit = none ∧ t.boot.wipePending = true ∧ t.lcf.fuses = s.lcf.fuses ∧
      (∀ i, (t.slot i).live = false) ∧ t.cel.bank0 = s.cel.bank0 ∧ t.cel.bank1 = s.cel.bank1 := by
  have hframe := wiped_frame s
  have hexec : exec .lcCellarWipeDone s = .next (s.cellarWiped.lcReset x).resetDue :=
    (exec_lcCellarWipeDone s).trans (by rw [wipeDone_last s x h hresp h0 h1])
  generalize s.cellarWiped = w at hframe hexec
  have hdue : (w.lcReset x).resetDue = (w.lcReset x).afterReset.roadStart := by
    have hpower : (w.lcReset x).coreUp = true := (congrArg State.coreUp hframe).trans hup
    have hnone : (w.lcReset x).cis.inflight.isNone = true := by
      rw [show (w.lcReset x).cis = s.cis from (congrArg State.cis hframe).trans rfl]; simpa using hfly
    have htamp : (w.lcReset x).tamp.responded = false := (congrArg (fun u : State => u.tamp.responded) hframe).trans hresp
    exact if_pos (by simp only [hpower, hnone, htamp, Bool.and_true, Bool.false_and, Bool.not_false]; rfl)
  rw [hdue] at hexec
  obtain ⟨htransit, hfuses, hslots, hbank0, hbank1⟩ := roadStart_afterReset (w.lcReset x)
  have hstart := atStepOne_roadStart (booting_afterReset (w.lcReset x))
  obtain ⟨-, -, -, hwipe, -⟩ := hstart
  exact ⟨_, hexec, htransit, hwipe, hfuses.trans ((congrArg (fun u : State => u.lcf.fuses) hframe).trans rfl), hslots,
    hbank0.trans ((congrArg (fun u : State => u.cel.bank0) hframe).trans rfl),
    hbank1.trans ((congrArg (fun u : State => u.cel.bank1) hframe).trans rfl)⟩

theorem wipe_raises_epochs (s : State) (x : LcState) (h : s.lcf.transit = some (x, .cellarWipe)) (hresp : s.tamp.responded = false)
    (howed : s.pwr.resetOwed = false) (hbank : bankValid s.cel.bank0 = true ∨ bankValid s.cel.bank1 = true) :
    ∃ t, exec .lcCellarWipeDone s = .next t ∧ (∀ i, (t.slot i).live = false) ∧ t.evt (evCel 0) = (s.evt (evCel 0)).bump ∧
      (t.adm 16).st = .waiting ∧ (t.adm 16).cls = 3 := by
  obtain ⟨b, l, hl⟩ := bankOrder_cons s hbank
  have hexec := exec_lcCellarWipeDone s
  rw [lcWiped_eq s x h hresp, hl] at hexec
  have hframe := wiped_frame s
  have hlive := live_wiped s
  have hevt := evt_wiped s
  generalize s.cellarWiped = w at *
  have hpwr : (w.lcGo x (.epochs (b :: l)) 8).pwr = s.pwr := (congrArg State.pwr hframe).trans rfl
  rw [resetDue_of_not_owed _ (by rw [hpwr]; exact howed)] at hexec
  refine ⟨_, hexec, hlive, hevt, ?_, ?_⟩
  · exact (congrArg AdmEntry.st (adm_enqueue _ 16 3 _ _ 16)).trans (by rw [if_pos rfl])
  · exact (congrArg AdmEntry.cls (adm_enqueue _ 16 3 _ _ 16)).trans (by rw [if_pos rfl])

/-! ### Debug grants -/

theorem dbgGrant_barred (s : State) (m : Master) (v : Word) (h : s.lcf.eff = some .raw ∨ s.lcf.eff = some .test) :
    s.dbgGrant m v = s.refuse m (aLcf1 0x44) := if_pos h

/-- A grant lies within what may be granted now (R360, R361). -/
def State.grantOk (s : State) (r : Nat) : Prop := s.lcf.transit.isNone ∧ bitsIn r s.ceiling ∧ (r &&& 0x0F00 = 0 ∨ s.lcPrecond = 7)

/-- `s` with the rights of a grant. -/
def State.withGrant (s : State) (r : Nat) : State :=
  { s.newNonce with lcf := { s.newNonce.lcf with granted := s.newNonce.lcf.granted ||| BitVec.ofNat 16 r } }

theorem dbgGrant_granted (s : State) (m : Master) (v : Word) (h : ¬(s.lcf.eff = some .raw ∨ s.lcf.eff = some .test))
    (hok : s.grantOk (Word.field v 15 0)) : s.dbgGrant m v =
      ((s.withGrant (Word.field v 15 0)).count (evLcf 5)).measHw 1 0x05 0 0
        (leBytes 2 (Word.field v 15 0) ++ leBytes 2 ((s.withGrant (Word.field v 15 0)).count (evLcf 5)).rights) := by
  unfold State.dbgGrant
  exact (if_neg h).trans (if_pos hok)

theorem dbgGrant_refused (s : State) (m : Master) (v : Word) (h : ¬(s.lcf.eff = some .raw ∨ s.lcf.eff = some .test))
    (hbad : ¬ s.grantOk (Word.field v 15 0)) : s.dbgGrant m v = (s.newNonce.refuse m (aLcf1 0x44)).count (evLcf 6) := by
  unfold State.dbgGrant
  exact (if_neg h).trans (if_neg hbad)

theorem measHw_meas (s : State) (slot type : Nat) (src : Master) (info : Nat) (data : Bytes) :
    s.measHw slot type src info data = { s with meas := (s.measHw slot type src info data).meas } := by
  unfold State.measHw
  dsimp only
  split_ifs <;> rfl

theorem granted_spec (s : State) (r : Nat) (b : Bytes) :
    let t := ((s.withGrant r).count (evLcf 5)).measHw 1 0x05 0 0 b
    t.lcf.nonce = s.draw 32 ∧ t.lcf.granted = s.lcf.granted ||| BitVec.ofNat 16 r ∧ t.evt (evLcf 5) = (s.evt (evLcf 5)).bump ∧
    t = { s.routed t with lcf := t.lcf, drbgCtr := s.drbgCtr + 1, meas := t.meas } := by
  have hcount := State.count_routed (s.withGrant r) (evLcf 5)
  have hevt : ((s.withGrant r).count (evLcf 5)).evt (evLcf 5) = (s.evt (evLcf 5)).bump := by
    rw [State.evt_count, if_pos rfl]
    rfl
  dsimp only
  generalize (s.withGrant r).count (evLcf 5) = u at hcount hevt ⊢
  have hmeas := measHw_meas u 1 0x05 0 0 b
  generalize u.measHw 1 0x05 0 0 b = t at hmeas ⊢
  refine ⟨?_, ?_, ?_, ?_⟩
  · rw [hmeas, hcount]
    rfl
  · rw [hmeas, hcount]
    rfl
  · rw [hmeas]
    exact hevt
  · rw [hmeas, hcount]
    rfl

theorem refusedGrant_spec (s : State) (m : Master) :
    let t := (s.newNonce.refuse m (aLcf1 0x44)).count (evLcf 6)
    t.lcf = { s.lcf with nonce := s.draw 32 } ∧ t.evt (evLcf 6) = (s.evt (evLcf 6)).bump ∧
    t = { s.routed t with lcf := t.lcf, drbgCtr := s.drbgCtr + 1, regs := t.regs } := by
  have href := refuse_routed s.newNonce m (aLcf1 0x44)
  have hevt : (s.newNonce.refuse m (aLcf1 0x44)).evt (evLcf 6) = s.evt (evLcf 6) := by
    unfold State.refuse State.errAt
    rw [State.evt_err _ _ _ _ (by decide), if_neg (by decide)]
    rfl
  dsimp only
  generalize s.newNonce.refuse m (aLcf1 0x44) = u at href hevt ⊢
  have hcount := State.count_routed u (evLcf 6)
  have hbump : (u.count (evLcf 6)).evt (evLcf 6) = (s.evt (evLcf 6)).bump := by rw [State.evt_count, if_pos rfl, hevt]
  generalize u.count (evLcf 6) = t at hcount hbump ⊢
  refine ⟨?_, hbump, ?_⟩
  · rw [hcount, href]
    rfl
  · rw [hcount, href]
    rfl

theorem dbgGrant_spec (s : State) (m : Master) (v : Word) (hraw : s.lcf.eff ≠ some .raw) (htest : s.lcf.eff ≠ some .test) :
    let t := s.dbgGrant m v
    t.lcf.nonce = s.draw 32 ∧
    (s.lcf.transit = none → bitsIn (Word.field v 15 0) s.ceiling = true → (Word.field v 15 0 &&& 0x0F00 = 0 ∨ s.lcPrecond = 7) →
      t.lcf.granted = s.lcf.granted ||| BitVec.ofNat 16 (Word.field v 15 0) ∧ t.evt (evLcf 5) = (s.evt (evLcf 5)).bump ∧
      t = { s.routed t with lcf := t.lcf, drbgCtr := s.drbgCtr + 1, meas := t.meas }) ∧
    ((s.lcf.transit ≠ none ∨ bitsIn (Word.field v 15 0) s.ceiling = false ∨ (Word.field v 15 0 &&& 0x0F00 ≠ 0 ∧ s.lcPrecond ≠ 7)) →
      t.lcf = { s.lcf with nonce := s.draw 32 } ∧ t.evt (evLcf 6) = (s.evt (evLcf 6)).bump ∧
      t = { s.routed t with lcf := t.lcf, drbgCtr := s.drbgCtr + 1, regs := t.regs }) := by
  have hstate : ¬(s.lcf.eff = some .raw ∨ s.lcf.eff = some .test) := by simp [hraw, htest]
  dsimp only
  by_cases hok : s.grantOk (Word.field v 15 0)
  · rw [dbgGrant_granted s m v hstate hok]
    obtain ⟨hnonce, hgrant, hevt, hframe⟩ := granted_spec s (Word.field v 15 0)
      (leBytes 2 (Word.field v 15 0) ++ leBytes 2 ((s.withGrant (Word.field v 15 0)).count (evLcf 5)).rights)
    refine ⟨hnonce, fun _ _ _ => ⟨hgrant, hevt, hframe⟩, fun hbad => ?_⟩
    obtain ⟨htransit, hbits, hsecret⟩ := hok
    rcases hbad with h | h | h
    · exact absurd (Option.isNone_iff_eq_none.mp htransit) h
    · rw [h] at hbits; exact absurd hbits (by decide)
    · exact absurd hsecret (by simp [h.1, h.2])
  · rw [dbgGrant_refused s m v hstate hok]
    obtain ⟨hlcf, hevt, hframe⟩ := refusedGrant_spec s m
    exact ⟨congrArg LcfState.nonce hlcf, fun ht hb hs => absurd ⟨by simp [ht], hb, hs⟩ hok, fun _ => ⟨hlcf, hevt, hframe⟩⟩

/-! ### Memory test modes -/

/-- `s` with further memory test modes. -/
def State.testing (s : State) (v : Word) : State :=
  { s.sramWipe with lcf := { s.sramWipe.lcf with memtest := s.lcf.memtest ||| BitVec.ofNat 3 v.toNat } }

theorem sramWipe_lcf (s : State) : s.sramWipe.lcf = s.lcf ∧ s.sramWipe.regs = s.regs := by
  have hframe := (destroyed_celWipe s).frame
  exact ⟨(congrArg State.lcf hframe).trans rfl, (congrArg State.regs hframe).trans rfl⟩

theorem memtest_enters (s : State) (m : Master) (v : Word) (hok : s.memtestOk = true)
    (hnew : s.lcf.memtest ||| BitVec.ofNat 3 v.toNat ≠ s.lcf.memtest) : s.memtest m v = s.testing v := by
  unfold State.memtest State.testing
  refine (if_pos hok).trans ((if_neg hnew).trans ?_)
  dsimp only
  rw [(sramWipe_lcf s).1]

/-- A queue after the wipe: a descriptor that has not started is zeroed. -/
def wipedQueue (q : Nat) (x : Queue) : Queue :=
  if q < 64 then { x with fetched := x.fetched.map (fun e => if e.started then e else { e with desc := List.replicate 16 0 }) } else x

theorem get_map_keyed_default {α : Type} (d : Nat → α) (f : Nat → α → α) (m : SMap α) (k : Nat) :
    SMap.get d (m.map (fun x => (x.1, f x.1 x.2))) k = d k ∨ SMap.get d (m.map (fun x => (x.1, f x.1 x.2))) k = f k (SMap.get d m k) := by
  induction m with
  | nil => exact Or.inl rfl
  | cons x m ih =>
    obtain ⟨j, v⟩ := x
    by_cases h : j = k
    · subst h
      exact Or.inr (by simp [SMap.get])
    · simpa [SMap.get, h] using ih

theorem queues_sramWipe (s : State) : s.sramWipe.hq.queues = s.hq.queues.map (fun x => (x.1, wipedQueue x.1 x.2)) := by
  have hhq : s.celWipe.hq = s.hq := (congrArg State.hq (destroyed_celWipe s).frame).trans rfl
  show s.celWipe.hq.queues.map (fun x => (x.1, wipedQueue x.1 x.2)) = _
  rw [hhq]

/-- Of the first 64 queues no descriptor that has not started keeps its words (R340). -/
theorem desc_of_queue_sramWipe (s : State) (q : Nat) (e : QEntry) (hq : q < 64) (he : e ∈ (s.sramWipe.queue q).fetched)
    (hst : e.started = false) : e.desc = List.replicate 16 0 := by
  rw [State.queue, queues_sramWipe] at he
  rcases get_map_keyed_default (fun _ => Queue.reset) wipedQueue s.hq.queues q with h | h
  · rw [h] at he
    exact absurd he List.not_mem_nil
  · rw [h, wipedQueue, if_pos hq] at he
    obtain ⟨x, -, hx⟩ := List.mem_map.mp he
    split_ifs at hx with hxs
    · rw [← hx, hxs] at hst
      exact absurd hst (by decide)
    · rw [← hx]

theorem memtest_spec (s : State) (v : Word) :
    let t := s.testing v
    t.lcf.memtest = s.lcf.memtest ||| BitVec.ofNat 3 v.toNat ∧
    (∀ a, t.byte a = 0) ∧ (∀ i, (t.slot i).live = false) ∧ (∀ i, t.dctx i = DCtx.reset) ∧
    (∀ q e, q < 64 → e ∈ (t.queue q).fetched → e.started = false → e.desc = List.replicate 16 0) ∧ t.regs = s.regs ∧ t.lcf.fuses = s.lcf.fuses :=
  ⟨rfl, fun _ => rfl, live_celWipe s, fun _ => rfl, fun q e hq he hst => desc_of_queue_sramWipe s q e hq he hst, (sramWipe_lcf s).2,
    show s.sramWipe.lcf.fuses = s.lcf.fuses from congrArg LcfState.fuses (sramWipe_lcf s).1⟩

/-- Settles O35. -/
theorem lifeCycleRequestsAreCheckedAndCommitted : Obligations.LifeCycleRequestsAreCheckedAndCommitted := by
  unfold Obligations.LifeCycleRequestsAreCheckedAndCommitted
  refine ⟨fun s v h => ?_, fun s m v hm harr hpost hshut => ⟨?_, ?_⟩, fun s x hx hresp howed => ⟨fun h0 h1 hfly => ?_, fun h0 h1 hfly hup => ?_,
    fun hbank => wipe_raises_epochs s x hx hresp howed hbank⟩, fun s hno howed => ?_, fun s m v h => ?_, fun s m h => ?_, fun s m v h => ?_⟩
  · have hexec : exec (.lcReq 0 v) s = .next (s.lcReq v) := guarded_next s 0 _ _ h
    refine ⟨fun h8 => hexec.trans (congrArg _ (if_pos (by simp [h8]))), fun h8 hbad => ⟨_, hexec, lcReq_refused s v h8 hbad⟩, fun h8 hok => ?_⟩
    obtain ⟨x, hx, hspec⟩ := lcReq_accepted s v h8 hok
    exact ⟨x, _, hx, hexec, hspec⟩
  · exact congrArg _ (guarded_lcf1_other s m _ _ hm (Or.inl rfl) harr hpost hshut)
  · exact congrArg _ (guarded_lcf1_other s m _ _ hm (Or.inr rfl) harr hpost hshut)
  · exact wipe_waits_for_commit s x hx hresp h0 h1 hfly
  · exact wipe_resets s x hx hresp h0 h1 hfly hup
  · rw [exec_lcCellarWipeDone, lcWiped_none s hno, resetDue_of_not_owed s howed]
  · have hexec : exec (.dbgGrant m v) s = .next (s.when m (aLcf1 0x44) (m == 0) (fun s => s.dbgGrant m v)) := guarded_next s m _ _ h
    refine ⟨fun hbar => hexec.trans (congrArg _ ?_), fun hm hraw htest => ⟨_, hexec.trans (congrArg _ (if_pos (by simp [hm]))), dbgGrant_spec s m v hraw htest⟩⟩
    unfold State.when
    split_ifs
    · exact dbgGrant_barred s m v hbar
    · rfl
  · exact guarded_next s m _ _ h
  · have hexec : exec (.memtestEnter m v) s = .next (s.memtest m v) := guarded_next s m _ _ h
    refine ⟨fun hno => hexec.trans (congrArg _ (if_neg (by simp [hno]))), fun hok hsame => hexec.trans (congrArg _ ((if_pos hok).trans (if_pos hsame))),
      fun hok hnew => ⟨s.testing v, hexec.trans (congrArg _ (memtest_enters s m v hok hnew)), memtest_spec s v⟩⟩

end Sys2Proof.Machine
end

section
/-! PROOFS. What completing an operation and writing its output change (R445, R459, R462, R463). -/
namespace Sys2Proof.Machine

/-- Sources that a completion counts: a queue's, and the flight recorder's. -/
def completionSource (k : Nat) : Prop := 200 ≤ k ∧ k < 264 ∨ 340 ≤ k

/-- `t` is `s` after completions and output of operations: queues and what waits for a function, core memory, and what events and flight
records reach. -/
structure State.Completed (s t : State) : Prop where
  frame : t = { s.recorded t with hq := { s.hq with queues := t.hq.queues, stalled := t.hq.stalled }, ram := t.ram }
  events : ∀ k, ¬ completionSource k → t.evt k = s.evt k

section
variable {r s t : State}

theorem completed_refl (s : State) : s.Completed s := ⟨rfl, fun _ _ => rfl⟩

theorem completed_trans (hrs : r.Completed s) (hst : s.Completed t) : r.Completed t where
  frame := Eq.trans hst.frame (congrArg (fun x : State => { x.recorded t with
    hq := { x.hq with queues := t.hq.queues, stalled := t.hq.stalled }, ram := t.ram }) hrs.frame)
  events k hk := (hst.events k hk).trans (hrs.events k hk)

theorem completed_foldl {α : Type} (l : List α) (f : State → α → State) (hf : ∀ (u : State) (x : α), u.Completed (f u x)) (s : State) :
    s.Completed (l.foldl f s) :=
  List.foldlRecOn (motive := fun u : State => s.Completed u) l f (completed_refl s) fun u hu x _ => completed_trans hu (hf u x)

theorem completed_setQueue (s : State) (q : Nat) (x : Queue) : s.Completed (s.setQueue q x) := ⟨rfl, fun _ _ => rfl⟩

theorem completed_out (s : State) (o : Out) : s.Completed (s.out o) := ⟨rfl, fun _ _ => rfl⟩

theorem completed_stall (s : State) (w : Stalled) : s.Completed (s.stall w) := ⟨rfl, fun _ _ => rfl⟩

theorem completed_setBytes (s : State) (a : Nat) (b : Bytes) : s.Completed (s.setBytes a b) where
  frame := by apply State.ext <;> simp [State.recorded, State.routed]
  events k _ := by simp [State.evt]

theorem completed_count (s : State) (k : Nat) (hk : completionSource k) : s.Completed (s.count k) where
  frame := by apply State.ext <;> simp [State.recorded, State.routed]
  events j hj := by rw [State.evt_count, if_neg (fun e : j = k => hj (by rw [e]; exact hk))]

theorem completed_flight (s : State) (type : Nat) (src : Master) (body : Bytes) : s.Completed (s.flight type src body) where
  frame := by apply State.ext <;> simp [State.recorded, State.routed]
  events k hk := evt_flight_other s type src body k (fun e => hk (Or.inr (by simp only [evFlr] at e; omega)))
    (fun e => hk (Or.inr (by simp only [evFlr] at e; omega)))

theorem completed_resume (s : State) (h cause : Nat) : s.Completed (s.resume h cause) where
  frame := by apply State.ext <;> simp [State.recorded, State.routed]
  events k _ := by simp [State.evt]

theorem completed_ringIrq (s : State) (h : Nat) : s.Completed (s.ringIrq h) := by
  unfold State.ringIrq
  split_ifs
  · exact completed_resume s h 1
  · exact completed_refl s

theorem completed_take (s : State) (src : JobSrc) : s.Completed (s.take src) := by
  unfold State.take
  split_ifs
  · exact completed_setQueue s _ _
  · exact completed_refl s

theorem completed_qError (s : State) (q cause slot : Nat) : s.Completed (s.qError q cause slot) := by
  unfold State.qError
  dsimp only
  split_ifs with h
  · exact completed_trans (completed_setQueue s q _) (completed_count _ _ (Or.inl (by simp only [evQueue]; omega)))
  · exact completed_setQueue s q _

theorem completed_cqWrite (s : State) (src : JobSrc) (opc : Nat) (st : Status) (result detail : Nat) :
    s.Completed (s.cqWrite src opc st result detail) := by
  unfold State.cqWrite
  dsimp only
  by_cases h : src.ring < 64
  · rw [if_pos h]
    exact completed_trans (completed_trans (completed_out s _) (completed_setQueue _ _ _))
      (completed_count _ _ (Or.inl (by simp only [evQueue]; omega)))
  · rw [if_neg h]
    exact completed_trans (completed_trans (completed_trans (completed_flight s _ _ _) (completed_setBytes _ _ _))
      (completed_setQueue _ _ _)) (completed_ringIrq _ _)

theorem completed_entryDone (s : State) (src : JobSrc) (opc : Nat) (st : Status) (result detail : Nat) :
    s.Completed (s.entryDone src opc st result detail) := by
  unfold State.entryDone
  dsimp only
  split_ifs
  · exact completed_setQueue s _ _
  · exact completed_trans (completed_trans (completed_setQueue s _ _) (completed_setQueue _ _ _)) (completed_qError _ _ _ _)
  · exact completed_trans (completed_setQueue s _ _) (completed_cqWrite _ _ _ _ _ _)

theorem completed_complete (s : State) (src : JobSrc) (opc : Nat) (st : Status) (result detail : Nat) :
    s.Completed (s.complete src opc st result detail) := by
  unfold State.complete
  split_ifs
  · exact completed_out s _
  · exact completed_refl s
  · exact completed_entryDone s ..
  · exact completed_trans (completed_take s src) (completed_stall _ _)

theorem completed_dmaRecords (s : State) (m : Master) (addr : Nat) (data : Bytes) : s.Completed (s.dmaRecords m addr data) := by
  unfold State.dmaRecords
  split_ifs
  · exact completed_refl s
  · exact completed_foldl _ _ (fun u k => completed_flight u _ _ _) s

theorem completed_putOut (s : State) (eng : Master) (src : JobSrc) (addr : Nat) (data : Bytes) : s.Completed (s.putOut eng src addr data) := by
  unfold State.putOut
  split_ifs
  · exact completed_refl s
  · exact completed_trans (completed_dmaRecords s _ _ _) (completed_setBytes _ _ _)
  · exact completed_out s _
  · exact completed_stall s _

theorem cel_of_completed (h : s.Completed t) : t.cel = s.cel := (congrArg State.cel h.frame).trans rfl

end

/-! ### Operations that take their descriptor -/

/-- Taking a descriptor changes the queues only. -/
theorem take_hq (s : State) (src : JobSrc) : s.take src = { s with hq := (s.take src).hq } := by
  unfold State.take
  split_ifs <;> rfl

theorem take_eq_with (s : State) (src : JobSrc) : ∃ q, s.take src = { s with hq := q } := ⟨_, take_hq s src⟩

/-- An operation that takes its descriptor has its effect. -/
theorem job_of_takes (s : State) (src : JobSrc) (d : Desc) (opc : Nat) (eff : State → State) (h : s.takesJob src d opc = true) :
    s.job src d opc eff = eff (s.take src) := if_pos h

theorem dopc_of_takes (s : State) (src : JobSrc) (d : Desc) (opc : Nat) (h : s.takesJob src d opc = true) : dopc d = opc := by
  simp only [State.takesJob, Bool.and_eq_true, beq_iff_eq] at h
  exact h.1.2

end Sys2Proof.Machine
end

section
/-! PROOFS. Cellar operations: uses, slots and the list of operations; O37. -/
namespace Sys2Proof.Machine

/-! ### Uses -/

/-- A slot after one use of its key (R389). -/
def Slot.used (x : Slot) : Slot := if x.ctx.uses = 0xFFFFFFFF then x else { x with ctx := { x.ctx with uses := x.ctx.uses - 1 } }

/-- The next use of the key is its last. -/
def Slot.lastLeft (x : Slot) : Bool := x.ctx.uses != 0xFFFFFFFF && x.ctx.uses == 1

theorem slot_takeUse (s : State) (h : Word) (j : Nat) :
    (s.takeUse h).1.slot j = if j = hSlot h then (s.slot (hSlot h)).used else s.slot j := by
  unfold State.takeUse Slot.used
  dsimp only
  split_ifs with hinf hj hj
  · rw [hj]
  · rfl
  · exact (State.slot_setSlot ..).trans (if_pos hj)
  · exact (State.slot_setSlot ..).trans (if_neg hj)

theorem last_takeUse (s : State) (h : Word) : (s.takeUse h).2 = (s.slot (hSlot h)).lastLeft := by
  unfold State.takeUse Slot.lastLeft
  dsimp only
  split_ifs with hinf <;> simp [hinf]

theorem takeUse_frame (s : State) (h : Word) : (s.takeUse h).1 = { s with cel := { s.cel with slots := (s.takeUse h).1.cel.slots } } := by
  unfold State.takeUse
  dsimp only
  split_ifs <;> rfl

/-- The operation `o` as it remembers its key. -/
def CelOp.keyedBy (o : CelOp) (h : Word) (x : Slot) : CelOp := { o with key := h, destroy := if x.lastLeft then some h.toNat else none }

theorem keyed_eq (s : State) (h : Word) (o : CelOp) : s.keyed h o = o.keyedBy h (s.slot (hSlot h)) := by
  unfold State.keyed CelOp.keyedBy
  rw [last_takeUse]

theorem useTaken_of (s t : State) (h : Word) (but : List Nat) (hused : t.slot (hSlot h) = (s.slot (hSlot h)).used)
    (hothers : ∀ j, j ≠ hSlot h → j ∉ but → t.slot j = s.slot j) : s.useTaken t h but :=
  ⟨hused.trans (by rw [slot_takeUse, if_pos rfl]), hothers⟩

/-- What running an operation with a use of a key changes. -/
theorem celUseRun_spec (s : State) (h : Word) (o : CelOp) :
    let t := s.celUseRun h o
    t.cel.ops = s.cel.ops ++ [o.keyedBy h (s.slot (hSlot h))] ∧
    (∀ j, t.slot j = if j = hSlot h then (s.slot (hSlot h)).used else s.slot j) ∧
    t = { s with cel := { s.cel with slots := t.cel.slots, ops := t.cel.ops } } := by
  have hslot := slot_takeUse s h
  have hframe := takeUse_frame s h
  have hlast := last_takeUse s h
  unfold State.celUseRun State.celRun CelOp.keyedBy
  dsimp only
  rw [← hlast]
  generalize s.takeUse h = u at hslot hframe ⊢
  refine ⟨?_, hslot, ?_⟩
  · rw [hframe]
  · rw [hframe]

/-! ### New contexts -/

theorem slot_putCtx (s : State) (i : Nat) (st : SlotSt) (c : KeyCtx) (j : Nat) :
    (s.putCtx i st c).slot j = if j = i then { st := st, gen := (s.slot i).gen, ctx := c } else s.slot j :=
  (State.slot_setSlot s i j { s.slot i with st := st, ctx := c })

theorem putCtx_frame (s : State) (i : Nat) (st : SlotSt) (c : KeyCtx) :
    s.putCtx i st c = { s with cel := { s.cel with slots := (s.putCtx i st c).cel.slots, ptr := (s.putCtx i st c).cel.ptr } } := rfl

/-- Taking a descriptor leaves what an allocation finds as it was. -/
theorem findFree_withHq (s : State) (q : HqState) (n : Nat) : ∀ i, ({ s with hq := q } : State).findFree i n = s.findFree i n := by
  induction n with
  | zero => exact fun i => rfl
  | succ n ih =>
    intro i
    unfold State.findFree
    rw [ih]
    rfl

theorem allocAt_withHq (s : State) (q : HqState) (m : Master) : ({ s with hq := q } : State).allocAt m = s.allocAt m := by
  unfold State.allocAt
  rw [findFree_withHq]
  rfl

theorem loadCheck_withHq (s : State) (q : HqState) (m : Master) (b : Bytes) :
    ({ s with hq := q } : State).loadCheck m b = s.loadCheck m b := by
  unfold State.loadCheck
  dsimp only
  rw [allocAt_withHq]
  rfl

theorem keyFor_withHq (s : State) (q : HqState) (m : Master) (h : Word) (b : Option Nat) :
    ({ s with hq := q } : State).keyFor m h b = s.keyFor m h b := by
  unfold State.keyFor
  rfl

theorem free_of_findFree (s : State) (n : Nat) : ∀ i j, s.findFree i n = some j → (s.slot j).st = .free := by
  induction n with
  | zero => exact fun i j h => absurd h (by simp [State.findFree])
  | succ n ih =>
    intro i j h
    unfold State.findFree at h
    split_ifs at h with hfree
    · rw [← Option.some.inj h]
      exact hfree
    · exact ih _ j h

theorem free_of_allocAt (s : State) (m : Master) (i : Nat) (h : s.allocAt m = some i) : (s.slot i).st = .free := by
  unfold State.allocAt at h
  split_ifs at h
  exact free_of_findFree s _ _ i h

theorem live_of_keyFor (s : State) (m : Master) (h : Word) (b : Option Nat) (c : KeyCtx) (hk : s.keyFor m h b = (stOk, c)) :
    s.liveH h = true := by
  unfold State.keyFor at hk
  split_ifs at hk with h0 hlive
  · exact (ne_of_beq_false rfl (congrArg Prod.fst hk : stStateForbids = stOk)).elim
  · exact (ne_of_beq_false rfl (congrArg Prod.fst hk : stStaleHandle = stOk)).elim
  · simpa using hlive

theorem slot_live_of_liveH (s : State) (h : Word) (hl : s.liveH h = true) : (s.slot (hSlot h)).live = true := by
  simp only [State.liveH, State.heldH, Bool.and_eq_true] at hl
  exact hl.1.2

/-- The slot of a key that may be used is not the one that an allocation finds. -/
theorem alloc_ne_key (s : State) (m m' : Master) (h : Word) (b : Option Nat) (c : KeyCtx) (i : Nat) (hk : s.keyFor m h b = (stOk, c))
    (hi : s.allocAt m' = some i) : hSlot h ≠ i := by
  intro he
  have hlive := slot_live_of_liveH s h (live_of_keyFor s m h b c hk)
  have hfree := free_of_allocAt s m' i hi
  rw [he] at hlive
  simp [Slot.live, hfree] at hlive

/-- A new context, on the state that has taken the descriptor. -/
theorem newContext_spec (s : State) (src : JobSrc) (q : HqState) (hq : s.take src = { s with hq := q }) (i : Nat) (st : SlotSt)
    (c : KeyCtx) (o : CelOp) :
    let t := (({ s with hq := q } : State).putCtx i st c).celRun o
    t.slot i = { st := st, gen := (s.slot i).gen, ctx := c } ∧ (∀ j, j ≠ i → t.slot j = s.slot j) ∧ t.drbgCtr = s.drbgCtr ∧
    s.startsOp t src o := by
  refine ⟨(slot_putCtx s i st c i).trans (if_pos rfl), fun j hj => (slot_putCtx s i st c j).trans (if_neg hj), rfl, rfl, ?_⟩
  rw [hq]
  rfl

/-- The same with a draw. -/
theorem newDrawnContext_spec (s : State) (src : JobSrc) (q : HqState) (hq : s.take src = { s with hq := q }) (i : Nat) (st : SlotSt)
    (c : KeyCtx) (o : CelOp) :
    let t := (({ s with hq := q } : State).putCtx i st c).drew.celRun o
    t.slot i = { st := st, gen := (s.slot i).gen, ctx := c } ∧ (∀ j, j ≠ i → t.slot j = s.slot j) ∧ t.drbgCtr = s.drbgCtr + 1 ∧
    s.startsOp t src o := by
  refine ⟨(slot_putCtx s i st c i).trans (if_pos rfl), fun j hj => (slot_putCtx s i st c j).trans (if_neg hj), rfl, rfl, ?_⟩
  rw [hq]
  rfl

theorem newCtx_withHq (s : State) (q : HqState) (m : Master) (d : Desc) (b : Bytes) :
    ({ s with hq := q } : State).newCtx m d b = s.newCtx m d b := rfl

/-- A new context, with a use of another key. -/
theorem newUnderKey_spec (s : State) (i : Nat) (st : SlotSt) (c : KeyCtx) (h : Word) (o : CelOp) (hne : hSlot h ≠ i) :
    let t := (s.putCtx i st c).celUseRun h o
    t.slot i = { st := st, gen := (s.slot i).gen, ctx := c } ∧ t.slot (hSlot h) = (s.slot (hSlot h)).used ∧
    (∀ j, j ≠ hSlot h → j ∉ [i] → t.slot j = s.slot j) ∧ t.cel.ops = s.cel.ops ++ [o.keyedBy h (s.slot (hSlot h))] ∧
    t = { s with cel := t.cel } := by
  obtain ⟨hops, hslot, hframe⟩ := celUseRun_spec (s.putCtx i st c) h o
  have hput := slot_putCtx s i st c
  have hkey : (s.putCtx i st c).slot (hSlot h) = s.slot (hSlot h) := (hput _).trans (if_neg hne)
  rw [hkey] at hops hslot
  dsimp only
  refine ⟨?_, ?_, fun j hj hji => ?_, hops, ?_⟩
  · rw [hslot, if_neg (fun e => hne e.symm), hput, if_pos rfl]
  · rw [hslot, if_pos rfl]
  · rw [hslot, if_neg hj, hput, if_neg (by simpa using hji)]
  · generalize (s.putCtx i st c).celUseRun h o = t at hframe ⊢
    rw [hframe]
    rfl

/-- `t` is `u`, which has taken the descriptor, with `o` last among the operations. -/
theorem startsOp_of (s t : State) (src : JobSrc) (o : CelOp) (hops : t.cel.ops = s.cel.ops ++ [o])
    (hframe : t = { s.take src with cel := t.cel, drbgCtr := t.drbgCtr }) : s.startsOp t src o := ⟨hops, hframe⟩

/-! ### The operation of a descriptor -/

theorem celJob_ok (s : State) (src : JobSrc) (d : Desc) (raw io : JobIo) (opc : Nat) (eff : State → JobIo → State)
    (hio : io = s.jobIo src raw (dnum d 24 8) (cInLen d) (cOutAddr d) (cOutLen d)) (h : s.takesJob src d opc = true)
    (hpre : (s.celPre d io).1 = stOk) : s.job src d opc (fun u => u.celJob src d raw eff) = eff (s.take src) io := by
  rw [job_of_takes s src d opc _ h]
  obtain ⟨q, hq⟩ := take_eq_with s src
  have hio' : ({ s with hq := q } : State).jobIo src raw (dnum d 24 8) (cInLen d) (cOutAddr d) (cOutLen d) = io := hio.symm
  have hpre' : (({ s with hq := q } : State).celPre d io).1 = stOk := hpre
  rw [hq]
  unfold State.celJob
  dsimp only
  rw [hio', if_neg (not_not.mpr hpre')]

theorem celJob_bad (s : State) (src : JobSrc) (d : Desc) (raw io : JobIo) (opc : Nat) (eff : State → JobIo → State)
    (hio : io = s.jobIo src raw (dnum d 24 8) (cInLen d) (cOutAddr d) (cOutLen d)) (h : s.takesJob src d opc = true)
    (hpre : (s.celPre d io).1 ≠ stOk) :
    s.job src d opc (fun u => u.celJob src d raw eff) = (s.take src).celFail src opc (s.celPre d io).1 (s.celPre d io).2 := by
  rw [job_of_takes s src d opc _ h]
  obtain ⟨q, hq⟩ := take_eq_with s src
  have hio' : ({ s with hq := q } : State).jobIo src raw (dnum d 24 8) (cInLen d) (cOutAddr d) (cOutLen d) = io := hio.symm
  have hpre' : ({ s with hq := q } : State).celPre d io = s.celPre d io := rfl
  rw [hq]
  unfold State.celJob
  dsimp only
  rw [hio', hpre', if_pos hpre, dopc_of_takes s src d opc h]

theorem withKey_ok (s : State) (src : JobSrc) (opc : Nat) (h : Word) (b : Option Nat) (eff : State → KeyCtx → State) (c : KeyCtx)
    (hk : s.keyFor src.issuer h b = (stOk, c)) : s.withKey src opc h b eff = eff s c := by
  unfold State.withKey
  dsimp only
  rw [hk]
  exact if_neg (not_not.mpr rfl)

theorem withSlot_some (s : State) (src : JobSrc) (opc : Nat) (st : SlotSt) (c : KeyCtx) (eff : State → Word → State) (i : Nat)
    (h : s.allocAt src.issuer = some i) : s.withSlot src opc st c eff = eff (s.putCtx i st c) (handleOf i (s.slot i).gen) := by
  unfold State.withSlot
  rw [h]

theorem withSlot_none (s : State) (src : JobSrc) (opc : Nat) (st : SlotSt) (c : KeyCtx) (eff : State → Word → State)
    (h : s.allocAt src.issuer = none) : s.withSlot src opc st c eff = (s.noSlot src.issuer).celFail src opc stNoSlot 0 := by
  unfold State.withSlot
  rw [h]

section
variable (s : State) (src : JobSrc) (d : Desc) (raw io : JobIo)
variable (hio : io = s.jobIo src raw (dnum d 24 8) (cInLen d) (cOutAddr d) (cOutLen d))
include hio

/-! ### KEY_GENERATE and KEY_RESERVE -/

theorem keyGenerate_spec (htakes : s.takesJob src d 0x20 = true) (hpre : (s.celPre d io).1 = stOk) :
    (s.allocAt src.issuer = none → exec (.keyGenerate src d raw) s =
      .next (((s.take src).noSlot src.issuer).celFail src 0x20 stNoSlot 0)) ∧
    (∀ i, s.allocAt src.issuer = some i → ∃ t, exec (.keyGenerate src d raw) s = .next t ∧
      t.slot i = { st := .loaded, gen := (s.slot i).gen, ctx := s.newCtx src.issuer d (s.draw (typeLen (cType d))) } ∧
      (∀ j, j ≠ i → t.slot j = s.slot j) ∧ t.drbgCtr = s.drbgCtr + 1 ∧
      s.startsOp t src (celOp src 0x20 (handleOf i (s.slot i).gen).toNat 0 [] none)) := by
  have hexec : exec (.keyGenerate src d raw) s = .next ((s.take src).keyGenerate src d) :=
    congrArg _ (celJob_ok s src d raw io 0x20 _ hio htakes hpre)
  obtain ⟨q, hq⟩ := take_eq_with s src
  rw [hq] at hexec
  unfold State.keyGenerate at hexec
  dsimp only at hexec
  constructor
  · intro hnone
    rw [hexec, hq, withSlot_none { s with hq := q } src 0x20 .loaded _ _ ((allocAt_withHq s q _).trans hnone)]
  · intro i hi
    rw [withSlot_some { s with hq := q } src 0x20 .loaded _ _ i ((allocAt_withHq s q _).trans hi)] at hexec
    exact ⟨_, hexec, newDrawnContext_spec s src q hq i .loaded _ _⟩

theorem keyReserve_spec (htakes : s.takesJob src d 0x26 = true) (hpre : (s.celPre d io).1 = stOk) (i : Nat)
    (hi : s.allocAt src.issuer = some i) :
    ∃ t, exec (.keyReserve src d raw) s = .next t ∧ (t.slot i).st = .reserved ∧ (t.slot i).gen = (s.slot i).gen ∧
      (t.slot i).ctx = { s.newCtx src.issuer d [] with mlen := typeLen (cType d) } ∧ (∀ j, j ≠ i → t.slot j = s.slot j) ∧
      t.drbgCtr = s.drbgCtr ∧ s.startsOp t src (celOp src 0x26 (handleOf i (s.slot i).gen).toNat 0 [] none) := by
  have hexec : exec (.keyReserve src d raw) s = .next ((s.take src).keyReserve src d) :=
    congrArg _ (celJob_ok s src d raw io 0x26 _ hio htakes hpre)
  obtain ⟨q, hq⟩ := take_eq_with s src
  rw [hq] at hexec
  unfold State.keyReserve at hexec
  dsimp only at hexec
  rw [withSlot_some { s with hq := q } src 0x26 .reserved _ _ i ((allocAt_withHq s q _).trans hi)] at hexec
  obtain ⟨t, hexec', hself, hrest⟩ : ∃ t, exec (.keyReserve src d raw) s = .next t ∧
      t.slot i = ⟨.reserved, (s.slot i).gen, { s.newCtx src.issuer d [] with mlen := typeLen (cType d) }⟩ ∧
      (∀ j, j ≠ i → t.slot j = s.slot j) ∧ t.drbgCtr = s.drbgCtr ∧
      s.startsOp t src (celOp src 0x26 (handleOf i (s.slot i).gen).toNat 0 [] none) :=
    ⟨_, hexec, newContext_spec s src q hq i .reserved _ _⟩
  refine ⟨t, hexec', ?_, ?_, ?_, hrest⟩
  all_goals rw [hself]

/-! ### KEY_LOAD -/

omit hio in
/-- A blob that does not open counts a failed unwrap. -/
def State.unwrapFailed (s : State) : State := ({ s with cel := { s.cel with unwrapBad := satInc s.cel.unwrapBad } }).count (evCel 1)

omit hio in
theorem loadBlob_opens (m : Master) (b : Bytes) (c : KeyCtx) (i : Nat) (hcheck : s.loadCheck m b = stOk) (hopen : s.loadOpen b = some c)
    (hi : s.allocAt (Bytes.at b 0x14) = some i) : s.loadBlob m b =
      ({ s.putCtx i .loaded c with cel := { (s.putCtx i .loaded c).cel with unwrapOk := satInc s.cel.unwrapOk } }, stOk,
        handleOf i (s.slot i).gen) := by
  unfold State.loadBlob
  dsimp only
  rw [hcheck, if_neg (by decide), if_neg (by decide), if_neg (by decide), hopen, hi]
  rfl

omit hio in
theorem loadBlob_fails (m : Master) (b : Bytes) (hcheck : s.loadCheck m b = stOk) (hopen : s.loadOpen b = none) :
    s.loadBlob m b = (s.unwrapFailed, stAuthFail, 0) := by
  unfold State.loadBlob
  dsimp only
  rw [hcheck, if_neg (by decide), if_neg (by decide), if_neg (by decide), hopen]
  rfl

omit hio in
/-- An operation of the Cellar proper that fails other than on a stale handle only completes. -/
theorem celFail_plain (opc : Nat) (st : Status) (detail : Nat) (hst : st ≠ stStaleHandle)
    (hopc : opc ≠ 0x2A ∧ opc ≠ 0x2B ∧ opc ≠ 0x2C ∧ opc ≠ 0x2D) : s.celFail src opc st detail = s.complete src opc st 0 detail := by
  unfold State.celFail
  dsimp only
  rw [if_neg hst, if_neg (by omega)]

theorem keyLoad_spec (htakes : s.takesJob src d 0x21 = true) (hpre : (s.celPre d io).1 = stOk) (hcheck : s.loadCheck src.issuer io.data = stOk) :
    (∀ c i, s.loadOpen io.data = some c → s.allocAt (Bytes.at io.data 0x14) = some i → ∃ t, exec (.keyLoad src d raw) s = .next t ∧
      t.slot i = { st := .loaded, gen := (s.slot i).gen, ctx := c } ∧ (∀ j, j ≠ i → t.slot j = s.slot j) ∧
      t.cel.unwrapOk = satInc s.cel.unwrapOk ∧ s.startsOp t src (celOp src 0x21 (handleOf i (s.slot i).gen).toNat 0 [] none)) ∧
    (s.loadOpen io.data = none → ∃ t, exec (.keyLoad src d raw) s = .next t ∧ t.cel.slots = s.cel.slots ∧ t.cel.ops = s.cel.ops ∧
      t.cel.unwrapBad = satInc s.cel.unwrapBad ∧ t.evt (evCel 1) = (s.evt (evCel 1)).bump) := by
  have hexec : exec (.keyLoad src d raw) s = .next ((s.take src).keyLoad src d io) :=
    congrArg _ (celJob_ok s src d raw io 0x21 _ hio htakes hpre)
  obtain ⟨q, hq⟩ := take_eq_with s src
  rw [hq] at hexec
  constructor
  · intro c i hopen hi
    have hload := loadBlob_opens { s with hq := q } src.issuer io.data c i ((loadCheck_withHq s q _ _).trans hcheck) hopen
      ((allocAt_withHq s q _).trans hi)
    unfold State.keyLoad at hexec
    dsimp only at hexec
    rw [hload, if_pos rfl] at hexec
    refine ⟨_, hexec, (slot_putCtx s i .loaded c i).trans (if_pos rfl), fun j hj => (slot_putCtx s i .loaded c j).trans (if_neg hj), rfl,
      startsOp_of _ _ _ _ rfl ?_⟩
    rw [hq]
    rfl
  · intro hopen
    have hload := loadBlob_fails { s with hq := q } src.issuer io.data ((loadCheck_withHq s q _ _).trans hcheck) hopen
    unfold State.keyLoad at hexec
    dsimp only at hexec
    rw [hload, if_neg (show ¬stAuthFail = stOk by decide), celFail_plain _ src _ stAuthFail _ (by decide) (by decide)] at hexec
    have hdone := completed_complete (State.unwrapFailed { s with hq := q }) src 0x21 stAuthFail 0 0
    have hcel : (State.unwrapFailed { s with hq := q }).cel = { s.cel with unwrapBad := satInc s.cel.unwrapBad } := by
      simp [State.unwrapFailed]
    have hevt : (State.unwrapFailed { s with hq := q }).evt (evCel 1) = (s.evt (evCel 1)).bump := by
      rw [State.unwrapFailed, State.evt_count, if_pos rfl]
      rfl
    refine ⟨_, hexec, ?_, ?_, ?_, (hdone.events _ (by simp [completionSource, evCel])).trans hevt⟩
    all_goals rw [cel_of_completed hdone, hcel]

/-! ### Keys from other keys -/

omit hio in
/-- A new context under a key that the operation uses, on the state that has taken the descriptor. -/
theorem underKey_spec (q : HqState) (hq : s.take src = { s with hq := q }) (h : Word) (b : Option Nat) (k c : KeyCtx) (i opc : Nat)
    (hk : s.keyFor src.issuer h b = (stOk, k)) (hi : s.allocAt src.issuer = some i) :
    let t := (({ s with hq := q } : State).putCtx i .loaded c).celUseRun h (celOp src opc (handleOf i (s.slot i).gen).toNat 0 [] none)
    (t.slot i).st = .loaded ∧ (t.slot i).ctx = c ∧ s.useTaken t h [i] ∧
    s.startsOp t src (s.keyed h (celOp src opc (handleOf i (s.slot i).gen).toNat 0 [] none)) := by
  obtain ⟨hself, hkey, hothers, hops, hframe⟩ := newUnderKey_spec { s with hq := q } i .loaded c h
    (celOp src opc (handleOf i (s.slot i).gen).toNat 0 [] none) (alloc_ne_key s _ _ h b k i hk hi)
  dsimp only
  generalize (State.putCtx { s with hq := q } i .loaded c).celUseRun h (celOp src opc (handleOf i (s.slot i).gen).toNat 0 [] none) = t at *
  refine ⟨congrArg Slot.st hself, congrArg Slot.ctx hself, useTaken_of s t h [i] hkey hothers, startsOp_of _ _ _ _ ?_ ?_⟩
  · rw [keyed_eq]
    exact hops
  · rw [hq]
    rw [hframe]

theorem keyDerive_spec (c : KeyCtx) (i : Nat) (htakes : s.takesJob src d 0x25 = true) (hpre : (s.celPre d io).1 = stOk)
    (hk : s.keyFor src.issuer (cHandle d) (some 5) = (stOk, c)) (hright : s.secretRight = false) (htype : c.type = 3 ∨ c.type = 0xC)
    (hi : s.allocAt src.issuer = some i) : ∃ t, exec (.keyDerive src d raw) s = .next t ∧ (t.slot i).st = .loaded ∧ (t.slot i).ctx =
        s.newCtx src.issuer d (kmac256 c.material (io.data.take (cInLen d)) (typeLen (cType d)) (ascii "MX-KDRV")) ∧
      s.useTaken t (cHandle d) [i] ∧ s.startsOp t src (s.keyed (cHandle d) (celOp src 0x25 (handleOf i (s.slot i).gen).toNat 0 [] none)) := by
  have hexec : exec (.keyDerive src d raw) s = .next ((s.take src).keyDerive src d io) :=
    congrArg _ (celJob_ok s src d raw io 0x25 _ hio htakes hpre)
  obtain ⟨q, hq⟩ := take_eq_with s src
  have hright' : ({ s with hq := q } : State).secretRight = false := hright
  have hno : ¬(({ s with hq := q } : State).secretRight || (c.type != 3 && c.type != 0xC)) = true := by
    rw [hright']
    rcases htype with h | h <;> simp [h]
  rw [hq] at hexec
  unfold State.keyDerive at hexec
  rw [withKey_ok { s with hq := q } src 0x25 _ _ _ c ((keyFor_withHq s q _ _ _).trans hk)] at hexec
  dsimp only at hexec
  rw [if_neg hno, withSlot_some { s with hq := q } src 0x25 .loaded _ _ i ((allocAt_withHq s q _).trans hi)] at hexec
  exact ⟨_, hexec, underKey_spec s src q hq (cHandle d) _ c _ i 0x25 hk hi⟩

theorem keyImport_spec (k c : KeyCtx) (i : Nat) (hring : 69 ≤ src.ring) (htakes : s.takesJob src d 0x27 = true) (hpre : (s.celPre d io).1 = stOk)
    (hfields : blobFieldsOk io.data = true) (htransit : s.lcf.transit = none) (hright : s.secretRight = false) (howner : s.ownerSecret ≠ none)
    (hk : s.keyFor src.issuer (cHandle d) (some 1) = (stOk, k)) (htype : k.type = 1) (hi : s.allocAt src.issuer = some i)
    (hopen : openBlob k.material s.cel.bootNonce io.data = some c) : ∃ t, exec (.keyImport src d raw) s = .next t ∧ (t.slot i).st = .loaded ∧
      (t.slot i).ctx = { c with owner := src.issuer, domain := domainOf src.issuer, epoch := s.blobEpoch (domainOf src.issuer) } ∧
      s.useTaken t (cHandle d) [i] ∧ s.startsOp t src (s.keyed (cHandle d) (celOp src 0x27 (handleOf i (s.slot i).gen).toNat 0 [] none)) := by
  have hexec : exec (.keyImport src d raw) s = .next ((s.take src).keyImport src d io) :=
    congrArg _ ((if_neg (by omega)).trans (celJob_ok s src d raw io 0x27 _ hio htakes hpre))
  obtain ⟨q, hq⟩ := take_eq_with s src
  have hsecret : s.ownerSecret.isNone = false := by cases ho : s.ownerSecret <;> simp_all
  have hno : ¬(({ s with hq := q } : State).lcf.transit.isSome || ({ s with hq := q } : State).secretRight ||
      ({ s with hq := q } : State).ownerSecret.isNone) = true := by
    have hall : (s.lcf.transit.isSome || s.secretRight || s.ownerSecret.isNone) = false := by rw [htransit, hright, hsecret]; rfl
    exact fun he => absurd (hall.symm.trans he) (by decide)
  have halloc : ¬(({ s with hq := q } : State).allocAt src.issuer).isNone = true := by
    rw [allocAt_withHq, hi]
    simp
  have hopen' : openBlob k.material ({ s with hq := q } : State).cel.bootNonce io.data = some c := hopen
  have himport : ({ s with hq := q } : State).keyImport src d io =
      (({ s with hq := q } : State).putCtx i .loaded
        { c with owner := src.issuer, domain := domainOf src.issuer, epoch := s.blobEpoch (domainOf src.issuer) }).celUseRun (cHandle d)
        (celOp src 0x27 (handleOf i (s.slot i).gen).toNat 0 [] none) := by
    unfold State.keyImport
    rw [if_neg (by simp [hfields]), if_neg hno, withKey_ok { s with hq := q } src 0x27 _ _ _ k ((keyFor_withHq s q _ _ _).trans hk)]
    dsimp only
    rw [if_neg (not_not.mpr htype), if_neg halloc, hopen']
    exact withSlot_some { s with hq := q } src 0x27 .loaded _ _ i ((allocAt_withHq s q _).trans hi)
  rw [hq, himport] at hexec
  exact ⟨_, hexec, underKey_spec s src q hq (cHandle d) _ k _ i 0x27 hk hi⟩

theorem keyExchange_spec (c : KeyCtx) (i : Nat) (htakes : s.takesJob src d 0x2C = true) (hpre : (s.celPre d io).1 = stOk)
    (hk : s.keyFor src.issuer (cHandle d) (some 8) = (stOk, c)) (htype : c.type = 0xE ∨ c.type = 0xF)
    (hpeer : Config.kexPeerOk c.type (io.data.take (cInLen d)) = true) (hi : s.allocAt src.issuer = some i) :
    ∃ t, exec (.keyExchange src d raw) s = .next t ∧ (t.slot i).st = .loaded ∧ (t.slot i).ctx = s.newCtx src.issuer d
        (Config.take (typeLen (cType d)) (Config.kexSecretByte c.type c.material (io.data.take (cInLen d)))) ∧
      s.useTaken t (cHandle d) [i] ∧ s.startsOp t src (s.keyed (cHandle d) (celOp src 0x2C (handleOf i (s.slot i).gen).toNat 0 [] none)) := by
  have hexec : exec (.keyExchange src d raw) s = .next ((s.take src).keyExchange src d io) :=
    congrArg _ (celJob_ok s src d raw io 0x2C _ hio htakes hpre)
  obtain ⟨q, hq⟩ := take_eq_with s src
  rw [hq] at hexec
  unfold State.keyExchange at hexec
  rw [withKey_ok { s with hq := q } src 0x2C _ _ _ c ((keyFor_withHq s q _ _ _).trans hk)] at hexec
  dsimp only at hexec
  rw [if_neg (by omega), if_neg (by simp [hpeer]),
    withSlot_some { s with hq := q } src 0x2C .loaded _ _ i ((allocAt_withHq s q _).trans hi)] at hexec
  exact ⟨_, hexec, underKey_spec s src q hq (cHandle d) _ c _ i 0x2C hk hi⟩

theorem keyEncaps_spec (i : Nat) (htakes : s.takesJob src d 0x2D = true) (hpre : (s.celPre d io).1 = stOk) (hin : cInLen d = 1568)
    (hout : 1568 ≤ cOutLen d) (hfault : io.writeFault = false) (hi : s.allocAt src.issuer = some i) :
    ∃ t, exec (.keyEncaps src d raw) s = .next t ∧ (t.slot i).st = .loaded ∧
      (t.slot i).ctx = s.newCtx src.issuer d (Config.take (typeLen (cType d)) (Config.kemSecretByte (io.data.take 1568) (s.draw 32))) ∧
      (∀ j, j ≠ i → t.slot j = s.slot j) ∧ t.drbgCtr = s.drbgCtr + 1 ∧ s.startsOp t src (celOp src 0x2D (handleOf i (s.slot i).gen).toNat
        (cOutAddr d) (Config.take 1568 (Config.kemCtByte (io.data.take 1568) (s.draw 32))) none) := by
  have hexec : exec (.keyEncaps src d raw) s = .next ((s.take src).keyEncaps src d io) :=
    congrArg _ (celJob_ok s src d raw io 0x2D _ hio htakes hpre)
  obtain ⟨q, hq⟩ := take_eq_with s src
  rw [hq] at hexec
  unfold State.keyEncaps at hexec
  dsimp only at hexec
  rw [if_neg (by omega), if_neg (by simp [hfault]),
    withSlot_some { s with hq := q } src 0x2D .loaded _ _ i ((allocAt_withHq s q _).trans hi), newCtx_withHq] at hexec
  obtain ⟨hself, hrest⟩ := newDrawnContext_spec s src q hq i .loaded
    (s.newCtx src.issuer d (Config.take (typeLen (cType d)) (Config.kemSecretByte (io.data.take 1568) (s.draw 32))))
    (celOp src 0x2D (handleOf i (s.slot i).gen).toNat (cOutAddr d)
      (Config.take 1568 (Config.kemCtByte (io.data.take 1568) (s.draw 32))) none)
  exact ⟨_, hexec, congrArg Slot.st hself, congrArg Slot.ctx hself, hrest⟩

end

/-- Settles O37. -/
theorem keyOperationsFillAFreeSlot : Obligations.KeyOperationsFillAFreeSlot := by
  unfold Obligations.KeyOperationsFillAFreeSlot
  intro s src d raw io hio
  exact ⟨fun htakes hbad => congrArg _ (celJob_bad s src d raw io 0x20 _ hio htakes hbad),
    fun htakes hpre => keyGenerate_spec s src d raw io hio htakes hpre,
    fun htakes hpre i hi => keyReserve_spec s src d raw io hio htakes hpre i hi,
    fun htakes hpre _ hcheck => keyLoad_spec s src d raw io hio htakes hpre hcheck,
    fun c i htakes hpre hk hright htype hi => keyDerive_spec s src d raw io hio c i htakes hpre hk hright htype hi,
    fun k c i hring htakes hpre _ hfields htransit hright howner hk htype hi hopen =>
      keyImport_spec s src d raw io hio k c i hring htakes hpre hfields htransit hright howner hk htype hi hopen,
    fun c i htakes hpre hk htype hpeer hi => keyExchange_spec s src d raw io hio c i htakes hpre hk htype hpeer hi,
    fun i htakes hpre hin hout hfault hi => keyEncaps_spec s src d raw io hio i htakes hpre hin hout hfault hi⟩

end Sys2Proof.Machine
end

section
/-! PROOFS. Key operations, their ends and errors in contexts; O38. -/
namespace Sys2Proof.Machine

/-! ### Operations that use a key -/

/-- An operation that runs with a use of its key, from a state that has taken the descriptor. -/
theorem useRun_spec (s u : State) (src : JobSrc) (h : Word) (o : CelOp)
    (hframe : u = { s.take src with cel := u.cel, drbgCtr := u.drbgCtr }) (hslots : u.cel.slots = s.cel.slots)
    (hops : u.cel.ops = s.cel.ops) :
    let t := u.celUseRun h o
    t.drbgCtr = u.drbgCtr ∧ t.cel.wrapSeq = u.cel.wrapSeq ∧ s.useTaken t h [] ∧ s.startsOp t src (s.keyed h o) := by
  have hslot : ∀ j, u.slot j = s.slot j := fun j => congrArg (fun m => SMap.get (fun _ => Slot.reset) m j) hslots
  obtain ⟨hrun, hafter, hrest⟩ := celUseRun_spec u h o
  rw [hslot, hops] at hrun
  dsimp only
  generalize u.celUseRun h o = t at hrun hafter hrest
  refine ⟨(congrArg State.drbgCtr hrest).trans rfl, (congrArg (fun x : State => x.cel.wrapSeq) hrest).trans rfl,
    useTaken_of s t h [] ?_ fun j hj _ => ?_, startsOp_of _ _ _ _ ?_ ?_⟩
  · rw [hafter, if_pos rfl, hslot]
  · rw [hafter, if_neg hj, hslot]
  · rw [keyed_eq]
    exact hrun
  · rw [hrest, hframe]

theorem keyWrap_eq (s : State) (src : JobSrc) (d : Desc) (io : JobIo) (c : KeyCtx) (k : Bytes) (hout : cOutLen d = 176)
    (hk : s.keyFor src.issuer (cHandle d) (some 6) = (stOk, c)) (hcheck : s.wrapCheck = stOk)
    (hwrap : s.wrapKey c.domain (s.blobEpoch c.domain) = some k) (hfault : io.writeFault = false) :
    s.keyWrap src d io = s.wrapped.celUseRun (cHandle d) (celOp src 0x22 0 (cOutAddr d) (blobOf k s.cel.bootNonce
      { c with uses := if c.uses = 0xFFFFFFFF then c.uses else c.uses - 1, epoch := s.blobEpoch c.domain } s.wrapCtr) none) := by
  unfold State.keyWrap
  rw [if_neg (not_not.mpr hout), withKey_ok s src 0x22 _ _ _ c hk]
  dsimp only
  rw [if_neg (not_not.mpr hcheck), hwrap, hfault]
  rfl

theorem aesSeal_eq (s : State) (src : JobSrc) (d : Desc) (io : JobIo) (c : KeyCtx)
    (hk : s.keyFor src.issuer (cHandle d) (some 0) = (stOk, c)) (htype : c.type = 1) (hin : cParam d ≤ cInLen d)
    (hout : cInLen d - cParam d + 28 ≤ cOutLen d) (hfault : io.writeFault = false) :
    s.aesSeal src d io = s.drew.celUseRun (cHandle d) (celOp src 0x28 0 (cOutAddr d) (s.draw 12 ++
      (gcmSeal c.material (s.draw 12) ((io.data.take (cInLen d)).take (cParam d)) ((io.data.take (cInLen d)).drop (cParam d))).1 ++
      (gcmSeal c.material (s.draw 12) ((io.data.take (cInLen d)).take (cParam d)) ((io.data.take (cInLen d)).drop (cParam d))).2) none) := by
  unfold State.aesSeal
  rw [withKey_ok s src 0x28 _ _ _ c hk]
  dsimp only
  rw [if_neg (not_not.mpr htype), if_neg (by omega), hfault]
  rfl

/-- The record that AES_OPEN opens, of the input `x`. -/
def aesOpened (key : Bytes) (d : Desc) (x : Bytes) : Option Bytes :=
  gcmOpen key (Bytes.slice x (cParam d) 12) (x.take (cParam d)) (Bytes.slice x (cParam d + 12) (cInLen d - cParam d - 28))
    (Bytes.slice x (cParam d + 12 + (cInLen d - cParam d - 28)) 16)

/-- What AES_OPEN runs as. -/
def aesOpenOp (src : JobSrc) (d : Desc) (r : Option Bytes) : CelOp :=
  match r with
  | some p => celOp src 0x29 0 (cOutAddr d) p none
  | none => { celOp src 0x29 0 0 [] none with status := stAuthFail }

theorem aesOpen_eq (s : State) (src : JobSrc) (d : Desc) (io : JobIo) (c : KeyCtx)
    (hk : s.keyFor src.issuer (cHandle d) (some 1) = (stOk, c)) (htype : c.type = 1) (hin : cParam d + 28 ≤ cInLen d)
    (hout : cInLen d - cParam d - 28 ≤ cOutLen d) (hfault : io.writeFault = false) :
    s.aesOpen src d io = s.celUseRun (cHandle d) (aesOpenOp src d (aesOpened c.material d (io.data.take (cInLen d)))) := by
  unfold State.aesOpen
  rw [withKey_ok s src 0x29 _ _ _ c hk]
  dsimp only
  rw [if_neg (not_not.mpr htype), if_neg (by omega), hfault, if_neg Bool.false_ne_true]
  cases hopen : aesOpened c.material d (io.data.take (cInLen d)) with
  | none =>
    unfold aesOpened at hopen
    simp only [hopen, aesOpenOp]
  | some p =>
    unfold aesOpened at hopen
    simp only [hopen, aesOpenOp]

theorem pkSign_eq (s : State) (src : JobSrc) (d : Desc) (io : JobIo) (c : KeyCtx) (hgen : hGen (cHandle d) ≠ 0)
    (hk : s.keyFor src.issuer (cHandle d) (some 4) = (stOk, c)) (hparam : cParam d = 0) (hsig : sigLen c.type ≠ 0)
    (hout : sigLen c.type ≤ cOutLen d) (hfault : io.writeFault = false) :
    s.pkSign src d io = s.drew.celUseRun (cHandle d) (celOp src 0x2A 0 (cOutAddr d)
      (signOf c.type c.material (io.data.take (cInLen d)) (s.draw 32) false) none) := by
  unfold State.pkSign
  rw [if_neg hgen, withKey_ok s src 0x2A _ _ _ c hk]
  unfold State.signWith
  rw [hparam]
  dsimp only
  have hdig : (0 % 2 == 1) = false := rfl
  rw [hdig, if_neg (by simp), if_neg hsig, if_neg (by simp; omega), hfault]
  rfl

theorem proof_eq (s : State) (src : JobSrc) (d : Desc) (io : JobIo) (c : KeyCtx) (hin : cInLen d = 32) (hout : 32 ≤ cOutLen d)
    (hk : s.keyFor src.issuer (cHandle d) (some 9) = (stOk, c)) (htype : c.type = 4) (hpending : s.cmd.epochPending = false)
    (hfault : io.writeFault = false) :
    s.proof src d io = s.celUseRun (cHandle d) (celOp src 0x2E 0 (cOutAddr d)
      (kmac256 c.material (io.data.take 32 ++ s.unitId ++ s.lc ++ leBytes 4 s.cmd.epoch) 32 (ascii "MX-PROOF")) none) := by
  unfold State.proof
  rw [if_neg (by omega), withKey_ok s src 0x2E _ _ _ c hk]
  dsimp only
  rw [if_neg (not_not.mpr htype), hpending, hfault]
  rfl

theorem pkVerify_eq (s : State) (src : JobSrc) (d : Desc) (io : JobIo) (hparam : cParam d ≤ 1)
    (htype : cParam d = 1 → cType d ≠ 7 ∧ cType d ≠ 8) :
    s.pkVerify src d io = s.celRun { celOp src 0x2B 0 0 [] none with
      status := if Config.pkInputOk (cType d) (cParam d) (io.data.take (cInLen d)) then stOk else stAuthFail } := by
  unfold State.pkVerify
  rw [if_neg (by omega)]
  split_ifs <;> rfl

theorem keyQuery_eq (s : State) (src : JobSrc) (d : Desc) (io : JobIo) (c : KeyCtx) (hgen : hGen (cHandle d) ≠ 0)
    (hk : s.keyFor src.issuer (cHandle d) none = (stOk, c)) (hout : (queryOut c).length ≤ cOutLen d) (hfault : io.writeFault = false) :
    s.keyQuery src d io = s.celRun { celOp src 0x24 0 (cOutAddr d) (queryOut c) none with key := cHandle d } := by
  unfold State.keyQuery
  rw [if_neg hgen, withKey_ok s src 0x24 _ _ _ c hk]
  dsimp only
  rw [if_neg (by omega), hfault]
  rfl

/-- Only hart 0 may query a protected handle (R379). -/
theorem keyQuery_protected (s : State) (src : JobSrc) (d : Desc) (io : JobIo) (hgen : hGen (cHandle d) = 0) (hsrc : src.issuer ≠ 0) :
    s.keyQuery src d io = s.celFail src 0x24 stStateForbids 0 := by
  unfold State.keyQuery
  rw [if_pos hgen]
  split
  · exact if_neg hsrc
  · rfl

theorem keyUnload_eq (s : State) (src : JobSrc) (d : Desc) (c : KeyCtx) (hk : s.keyFor src.issuer (cHandle d) none = (stOk, c)) :
    s.keyUnload src d = (s.destroy (hSlot (cHandle d))).celRun (celOp src 0x23 0 0 [] none) := by
  unfold State.keyUnload
  exact withKey_ok s src 0x23 _ _ _ c hk

theorem startsOp_celRun (s : State) (src : JobSrc) (q : HqState) (hq : s.take src = { s with hq := q }) (o : CelOp) :
    s.startsOp (({ s with hq := q } : State).celRun o) src o := by
  refine startsOp_of _ _ _ _ rfl ?_
  rw [hq]
  rfl

/-! ### Key operations that join an order -/

theorem keyJoin_free (s : State) (src : JobSrc) (d : Desc) (opc : Nat) (raw : JobIo) (h : s.tkBusy (cHandle d) = false) :
    s.keyJoin src d opc raw = s.keyOp src d opc raw := by
  unfold State.keyJoin
  rw [h]
  rfl

/-- The waiting entry of a key operation. -/
def keyWaiter (src : JobSrc) (d : Desc) (opc : Nat) (raw : JobIo) : TkJob :=
  { src, opc, desc := d, io := raw, handle := cHandle d, faulted := false, hit := false, status := stOk, detail := 0, abort := none,
    out := [], after := none }

theorem keyJoin_busy (s : State) (src : JobSrc) (d : Desc) (opc : Nat) (raw : JobIo) (hbusy : s.tkBusy (cHandle d) = true)
    (hpre : (s.celPre d (s.jobIo src raw (dnum d 24 8) (cInLen d) (cOutAddr d) (cOutLen d))).1 = stOk)
    (hk : (s.keyFor src.issuer (cHandle d) (if opc = 0x22 then some 6 else none)).1 = stOk) :
    s.keyJoin src d opc raw = { s with tks := { s.tks with waiting := s.tks.waiting ++ [keyWaiter src d opc raw] } } := by
  unfold State.keyJoin
  dsimp only
  rw [hbusy, hpre, hk]
  rfl

/-! ### Destroying one context -/

/-- A handle names its slot and generation. -/
theorem handleOf_parts (h : Word) : handleOf (hSlot h) (hGen h) = h := by
  have hs : hSlot h = h.toNat % 65536 := by simp [hSlot, Word.field]
  have hg : hGen h = h.toNat / 65536 % 65536 := by simp [hGen, Word.field, Nat.shiftRight_eq_div_pow]
  have hlt := h.isLt
  apply BitVec.eq_of_toNat_eq
  rw [handleOf, wd, BitVec.toNat_ofNat, hs, hg]
  omega

theorem handleOf_held (s : State) (h : Word) (hh : s.heldH h = true) : handleOf (hSlot h) (s.slot (hSlot h)).gen = h := by
  simp only [State.heldH, Bool.and_eq_true, beq_iff_eq] at hh
  rw [hh.1.2, handleOf_parts]

theorem slot_destroyFor_other (s : State) (i : Nat) (why : Status) (j : Nat) (hj : j ≠ i) : (s.destroyFor i why).slot j = s.slot j := by
  rw [destroyFor_eq]
  split_ifs
  · rfl
  · rw [State.slot, show ∀ (u : State) (k : Nat), (u.count k).cel = u.cel from fun u k => by simp]
    exact (State.slot_setSlot (s.undoomed i why) i j _).trans (if_neg hj)
  · exact (State.slot_setSlot (s.undoomed i why) i j _).trans (if_neg hj)

/-- What is left in the slot of a context that is destroyed. -/
theorem slot_destroyFor_live (s : State) (i : Nat) (why : Status) (h : (s.slot i).live = true) :
    ((s.destroyFor i why).slot i).gen = (s.slot i).gen + 1 ∧ ((s.destroyFor i why).slot i).ctx = KeyCtx.zero := by
  rw [destroyFor_eq, if_neg (by simp [h])]
  split_ifs
  · rw [State.slot, show ∀ (u : State) (k : Nat), (u.count k).cel = u.cel from fun u k => by simp]
    have hset := (State.slot_setSlot (s.undoomed i why) i i ⟨.retired, (s.slot i).gen + 1, KeyCtx.zero⟩).trans (if_pos rfl)
    exact ⟨congrArg Slot.gen hset, congrArg Slot.ctx hset⟩
  · rw [State.slot_setSlot, if_pos rfl]
    exact ⟨rfl, rfl⟩

theorem doomed_destroyFor (s : State) (i : Nat) (why : Status) (h : s.cel.doomed = []) : (s.destroyFor i why).cel.doomed = [] := by
  have hun : (s.undoomed i why).cel.doomed = [] := by
    unfold State.undoomed
    rw [show (s.poisonKey (handleOf i (s.slot i).gen) why).cel = s.cel from rfl, h]
    rfl
  rw [destroyFor_eq]
  split_ifs
  · exact h
  · rw [show ∀ (u : State) (k : Nat), (u.count k).cel = u.cel from fun u k => by simp]
    exact hun
  · exact hun

theorem destroy_idle (s : State) (h : Word) (hheld : s.heldH h = true) (hops : s.opsOn h = false) :
    s.destroy (hSlot h) = s.destroyFor (hSlot h) stAborted := by
  unfold State.destroy
  dsimp only
  rw [handleOf_held s h hheld, hops, if_neg (by simp), if_neg (by simp)]

theorem destroy_used (s : State) (h : Word) (hlive : s.liveH h = true) (hops : s.opsOn h = true) :
    s.destroy (hSlot h) = { s.poisonKey h stAborted with
      cel := { (s.poisonKey h stAborted).cel with doomed := (s.poisonKey h stAborted).cel.doomed ++ [h] } } := by
  have hheld : s.heldH h = true := (Bool.and_eq_true_iff.mp hlive).1
  unfold State.destroy
  dsimp only
  rw [handleOf_held s h hheld, hops, hlive]
  rfl

section
variable {s t : State}

theorem tks_of_destroyed (h : s.Destroyed t) : t.tks = s.tks := (congrArg State.tks h.frame).trans rfl

theorem ops_of_destroyed (h : s.Destroyed t) : t.cel.ops = s.cel.ops := (congrArg (fun x : State => x.cel.ops) h.frame).trans rfl

theorem opsOn_congr (h : Word) (hops : t.cel.ops = s.cel.ops) (htks : t.tks = s.tks) : t.opsOn h = s.opsOn h := by
  unfold State.opsOn
  rw [hops, htks]

theorem heldH_congr (h : Word) (hslots : t.cel.slots = s.cel.slots) : t.heldH h = s.heldH h := by
  unfold State.heldH State.slot
  rw [hslots]

theorem liveH_congr (h : Word) (hslots : t.cel.slots = s.cel.slots) (hdoomed : t.cel.doomed = s.cel.doomed) :
    t.liveH h = s.liveH h := by
  unfold State.liveH
  rw [heldH_congr h hslots, hdoomed]

theorem slot_congr (j : Nat) (hslots : t.cel.slots = s.cel.slots) : t.slot j = s.slot j :=
  congrArg (fun m => SMap.get (fun _ => Slot.reset) m j) hslots

end

/-- Where every waiting job is one of the TKS, no key operation runs. -/
theorem keyGo_idle (s : State) (h : ∀ k ∈ s.tks.waiting, 0x40 ≤ k.opc) : s.keyGo = s := by
  have hturn : ∀ ix, s.keyTurn ix = none := by
    intro ix
    unfold State.keyTurn
    split
    · next j hj =>
      have hopc : decide (j.opc < 0x40) = false := decide_eq_false (by have := h j (List.mem_of_getElem? hj); omega)
      rw [hopc]
      rfl
    · rfl
  unfold State.keyGo
  cases s.tks.waiting.length with
  | zero => rfl
  | succ n =>
    unfold State.keyPump
    rw [List.find?_eq_none.mpr fun ix _ => by rw [hturn]; decide]

/-! ### The end of an operation -/

/-- An operation ends, before the destructions that waited for it. -/
def State.opEnded (s : State) (o : CelOp) : State :=
  let s := if o.status = stOk then s.putOut 0x42 o.src o.outAddr o.out else s
  let s := s.complete o.src o.opc o.status o.result o.detail
  let s := if o.pk then { s with cel := { s.cel with pkeDone := s.cel.pkeDone + 1 } } else s
  if o.pk && o.status != stOk then s.count (evCel 10) else s

theorem celEnd_eq (s : State) (o : CelOp) :
    s.celEnd o = (o.destroy.elim (s.opEnded o) fun h => (s.opEnded o).lastUse (wd h)).reap := by
  unfold State.celEnd State.opEnded
  cases o.destroy <;> rfl

theorem opEnded_keeps (s : State) (o : CelOp) :
    let t := s.opEnded o
    t.cel.slots = s.cel.slots ∧ t.cel.ops = s.cel.ops ∧ t.cel.doomed = s.cel.doomed ∧ t.tks = s.tks := by
  have hput : s.Completed (if o.status = stOk then s.putOut 0x42 o.src o.outAddr o.out else s) := by
    split_ifs
    · exact completed_putOut ..
    · exact completed_refl s
  unfold State.opEnded
  dsimp only
  generalize (if o.status = stOk then s.putOut 0x42 o.src o.outAddr o.out else s) = u at hput
  have hdone := completed_trans hput (completed_complete u o.src o.opc o.status o.result o.detail)
  generalize u.complete o.src o.opc o.status o.result o.detail = v at hdone
  have hcel : v.cel = s.cel := cel_of_completed hdone
  have htks : v.tks = s.tks := (congrArg State.tks hdone.frame).trans rfl
  have hcount : ∀ (x : State) (k : Nat), (x.count k).cel = x.cel ∧ (x.count k).tks = x.tks := fun x k => by simp
  split_ifs
  all_goals simp only [hcount, hcel, htks, and_self]

/-- Nothing is left to destroy. -/
theorem reap_nil (s : State) (h : s.cel.doomed = []) : s.reap = s := by
  unfold State.reap
  rw [h]
  rfl

theorem reap_one (s : State) (h : Word) (hdoomed : s.cel.doomed = [h]) (hheld : s.heldH h = true) (hops : s.opsOn h = false) :
    s.reap = s.destroyFor (hSlot h) stAborted := by
  unfold State.reap
  rw [hdoomed, List.foldl_cons, List.foldl_nil, hheld, hops]
  rfl

theorem lastUse_live (s : State) (h : Word) (hlive : s.liveH h = true) (hops : s.opsOn h = false) :
    s.lastUse h = (s.destroyFor (hSlot h) stAborted).count (evCel 2) := by
  unfold State.lastUse
  rw [if_pos hlive, destroy_idle s h (Bool.and_eq_true_iff.mp hlive).1 hops]

theorem destroyed_celEnd (s : State) (o : CelOp) : (s.opEnded o).Destroyed (s.celEnd o) := by
  rw [celEnd_eq]
  cases o.destroy with
  | none => exact destroyed_reap _
  | some h => exact destroyed_trans (destroyed_lastUse _ _) (destroyed_reap _)

/-- An operation that ends and destroys nothing. -/
theorem celEnd_plain (s : State) (o : CelOp) (hdestroy : o.destroy = none) (hdoomed : s.cel.doomed = []) :
    (s.celEnd o).cel.slots = s.cel.slots := by
  obtain ⟨hslots, -, hdoom, -⟩ := opEnded_keeps s o
  rw [celEnd_eq, hdestroy]
  exact (congrArg (fun x : State => x.cel.slots) (reap_nil _ (hdoom.trans hdoomed))).trans hslots

/-- A last use destroys its key at its end. -/
theorem celEnd_lastUse (s : State) (o : CelOp) (h : Nat) (hdestroy : o.destroy = some h) (hlive : s.liveH (wd h) = true)
    (hops : s.opsOn (wd h) = false) (hdoomed : s.cel.doomed = []) :
    ((s.celEnd o).slot (hSlot (wd h))).live = false ∧ ∀ j, j ≠ hSlot (wd h) → (s.celEnd o).slot j = s.slot j := by
  obtain ⟨hslots, hops', hdoom, htks⟩ := opEnded_keeps s o
  rw [celEnd_eq, hdestroy, Option.elim_some, lastUse_live (s.opEnded o) (wd h) ((liveH_congr _ hslots hdoom).trans hlive)
    ((opsOn_congr _ hops' htks).trans hops)]
  generalize s.opEnded o = u at hslots hdoom
  have hcount : ((u.destroyFor (hSlot (wd h)) stAborted).count (evCel 2)).cel = (u.destroyFor (hSlot (wd h)) stAborted).cel := by simp
  rw [reap_nil _ ((congrArg CelState.doomed hcount).trans (doomed_destroyFor u _ _ (hdoom.trans hdoomed)))]
  have hslot : ∀ j, ((u.destroyFor (hSlot (wd h)) stAborted).count (evCel 2)).slot j = (u.destroyFor (hSlot (wd h)) stAborted).slot j :=
    fun j => slot_congr j (congrArg CelState.slots hcount)
  refine ⟨?_, fun j hj => ?_⟩
  · rw [hslot]
    exact live_destroyFor u _ _
  · rw [hslot, slot_destroyFor_other u _ _ j hj]
    exact slot_congr j hslots

/-- A destruction that waited takes place at the end of the last operation. -/
theorem celEnd_reaps (s : State) (o : CelOp) (h : Word) (hdestroy : o.destroy = none) (hdoomed : s.cel.doomed = [h])
    (hheld : s.heldH h = true) (hops : s.opsOn h = false) :
    ((s.celEnd o).slot (hSlot h)).live = false ∧ ∀ j, j ≠ hSlot h → (s.celEnd o).slot j = s.slot j := by
  obtain ⟨hslots, hops', hdoom, htks⟩ := opEnded_keeps s o
  rw [celEnd_eq, hdestroy, Option.elim_none, reap_one (s.opEnded o) h (hdoom.trans hdoomed) ((heldH_congr h hslots).trans hheld)
    ((opsOn_congr h hops' htks).trans hops)]
  refine ⟨live_destroyFor _ _ _, fun j hj => ?_⟩
  rw [slot_destroyFor_other _ _ _ j hj]
  exact slot_congr j hslots

/-- `s` with the operation `ix` taken off the list. -/
def State.opOff (s : State) (ix : Nat) : State := { s with cel := { s.cel with ops := s.cel.ops.eraseIdx ix } }

theorem cellarOpDone_spec (s : State) (ix : Nat) (o : CelOp) (ho : s.cel.ops[ix]? = some o) (hmem : s.memOn o.src.issuer = true)
    (hwaiting : ∀ k ∈ s.tks.waiting, 0x40 ≤ k.opc) :
    exec (.cellarOpDone ix) s = .next ((s.opOff ix).celEnd o) ∧ ((s.opOff ix).celEnd o).cel.ops = s.cel.ops.eraseIdx ix := by
  have hdes := destroyed_celEnd (s.opOff ix) o
  obtain ⟨-, hops, -, htks⟩ := opEnded_keeps (s.opOff ix) o
  have hidle : ((s.opOff ix).celEnd o).keyGo = (s.opOff ix).celEnd o :=
    keyGo_idle _ (by rw [(tks_of_destroyed hdes).trans htks]; exact hwaiting)
  refine ⟨?_, (ops_of_destroyed hdes).trans hops⟩
  have hexec : exec (.cellarOpDone ix) s = .next ((s.opOff ix).celEnd o).keyGo := by
    show execCellarOpDone ix s = _
    unfold execCellarOpDone
    rw [ho]
    exact congrArg _ (if_pos hmem)
  rw [hexec, hidle]

/-! ### Errors in contexts -/

/-- `s` with what runs on the context `h` ending INTERNAL (R391). -/
def State.ueMarked (s : State) (h : Word) : State :=
  { s with
    cel := { s.cel with
      ops := s.cel.ops.map (fun o => if o.key = h ∨ o.result = h.toNat then { o with status := stInternal, out := [] } else o) },
    tks := { s.tks with running := s.tks.running.map (fun x => (x.1, x.2.map (fun j =>
      if j.handle = h ∨ j.desc.getD 5 0 = h then { j with abort := some stInternal } else j))) } }

theorem celUe_live (s : State) (i : Nat) (h : (s.slot i).live = true) : s.celUe i =
    (((s.ueMarked (handleOf i (s.slot i).gen)).destroyFor i stInternal).count (evCel 15)).count (evSys 8) := by
  unfold State.celUe
  rw [h]
  rfl

theorem celUe_spec (s : State) (i : Nat) (h : (s.slot i).live = true) :
    let t := s.celUe i
    (t.slot i).live = false ∧ (t.slot i).ctx = KeyCtx.zero ∧ (∀ j, j ≠ i → t.slot j = s.slot j) ∧
    t.evt (evCel 15) = (s.evt (evCel 15)).bump ∧ t.evt (evSys 8) = (s.evt (evSys 8)).bump ∧
    ∀ o ∈ t.cel.ops, o.key = handleOf i (s.slot i).gen → o.status = stInternal ∧ o.out = [] := by
  dsimp only
  rw [celUe_live s i h]
  have hdes := destroyed_destroyFor (s.ueMarked (handleOf i (s.slot i).gen)) i stInternal
  have hdead := live_destroyFor (s.ueMarked (handleOf i (s.slot i).gen)) i stInternal
  have hzero := (slot_destroyFor_live (s.ueMarked (handleOf i (s.slot i).gen)) i stInternal h).2
  have hother := slot_destroyFor_other (s.ueMarked (handleOf i (s.slot i).gen)) i stInternal
  have hmarked : (s.ueMarked (handleOf i (s.slot i).gen)).cel.ops = s.cel.ops.map (fun o =>
      if o.key = handleOf i (s.slot i).gen ∨ o.result = (handleOf i (s.slot i).gen).toNat then { o with status := stInternal, out := [] }
      else o) := rfl
  have hevt : ∀ k, (s.ueMarked (handleOf i (s.slot i).gen)).evt k = s.evt k := fun k => rfl
  have hslot : ∀ j, (s.ueMarked (handleOf i (s.slot i).gen)).slot j = s.slot j := fun j => rfl
  generalize handleOf i (s.slot i).gen = k at *
  generalize hv : (s.ueMarked k).destroyFor i stInternal = v at *
  have hcel : ((v.count (evCel 15)).count (evSys 8)).cel = v.cel := by simp
  have hslots : ∀ j, ((v.count (evCel 15)).count (evSys 8)).slot j = v.slot j := fun j => slot_congr j (congrArg CelState.slots hcel)
  refine ⟨by rw [hslots]; exact hdead, by rw [hslots]; exact hzero, fun j hj => by rw [hslots, hother j hj, hslot], ?_, ?_, ?_⟩
  · rw [State.evt_count, if_neg (by decide), State.evt_count, if_pos rfl, hdes.events _ (by decide), hevt]
  · rw [State.evt_count, if_pos rfl, State.evt_count, if_neg (by decide), hdes.events _ (by decide), hevt]
  · rw [hcel, ops_of_destroyed hdes, hmarked]
    intro o ho hkey
    obtain ⟨o', -, rfl⟩ := List.mem_map.mp ho
    split_ifs at hkey ⊢ with hhit
    · exact ⟨rfl, rfl⟩
    · exact absurd (Or.inl hkey) hhit

/-! ### KEY_UNLOAD -/

theorem keyUnload_spec (s : State) (h : Word) (o : CelOp) (hlive : s.liveH h = true) :
    let t := (s.destroy (hSlot h)).celRun o
    (s.opsOn h = false → (t.slot (hSlot h)).live = false ∧ (t.slot (hSlot h)).gen = (s.slot (hSlot h)).gen + 1 ∧
      (t.slot (hSlot h)).ctx = KeyCtx.zero) ∧
    (s.opsOn h = true → t.slot (hSlot h) = s.slot (hSlot h) ∧ t.cel.doomed = s.cel.doomed ++ [h]) ∧
    t.liveH h = false ∧ (∀ j, j ≠ hSlot h → t.slot j = s.slot j) ∧ t.cel.ops = s.cel.ops ++ [o] := by
  have hheld : s.heldH h = true := (Bool.and_eq_true_iff.mp hlive).1
  have hslotLive := slot_live_of_liveH s h hlive
  have hslot : ∀ (u : State) (j : Nat), (u.celRun o).slot j = u.slot j := fun u j => rfl
  have hliveH : ∀ u : State, (u.celRun o).liveH h = u.liveH h := fun u => rfl
  have hdoomed : ∀ u : State, (u.celRun o).cel.doomed = u.cel.doomed := fun u => rfl
  have hops : ∀ u : State, (u.celRun o).cel.ops = u.cel.ops ++ [o] := fun u => rfl
  dsimp only
  simp only [hslot, hliveH, hdoomed, hops]
  rw [ops_of_destroyed (destroyed_destroy s (hSlot h))]
  cases hon : s.opsOn h with
  | false =>
    rw [destroy_idle s h hheld hon]
    have hdead := live_destroyFor s (hSlot h) stAborted
    obtain ⟨hgen, hctx⟩ := slot_destroyFor_live s (hSlot h) stAborted hslotLive
    refine ⟨fun _ => ⟨hdead, hgen, hctx⟩, fun he => absurd he Bool.false_ne_true, ?_, slot_destroyFor_other s _ _, rfl⟩
    unfold State.liveH State.heldH
    rw [hdead, Bool.and_false, Bool.false_and]
  | true =>
    rw [destroy_used s h hlive hon]
    refine ⟨fun he => absurd he.symm Bool.false_ne_true, fun _ => ⟨rfl, rfl⟩, ?_, fun _ _ => rfl, rfl⟩
    unfold State.liveH
    dsimp only
    have hin : ((s.poisonKey h stAborted).cel.doomed ++ [h]).contains h = true := by simp
    rw [hin, Bool.not_true, Bool.and_false]

/-! ### BLOB_EPOCH_ADVANCE -/

theorem blobAdvance_eq (s : State) (src : JobSrc) (d : Desc) (k : Nat) (hcheck : s.advanceCheck (cParam d) = stOk)
    (hjob : s.cmd.blobJob = none) (hslot : s.cmdSlot = some k) :
    s.blobAdvance src d = (s.advance (cParam d) k).modCmd (fun c => { c with blobJob := some (src, k) }) := by
  unfold State.blobAdvance
  dsimp only
  rw [hcheck, if_neg (not_not.mpr rfl), hjob, hslot]
  rfl

/-! ### The commands -/

theorem take_celJob (s : State) (src : JobSrc) (d : Desc) (raw io : JobIo) (opc : Nat) (eff : State → JobIo → State)
    (hio : io = s.jobIo src raw (dnum d 24 8) (cInLen d) (cOutAddr d) (cOutLen d)) (h : s.takesJob src d opc = true)
    (hpre : (s.celPre d io).1 = stOk) : (s.take src).celJob src d raw eff = eff (s.take src) io :=
  (job_of_takes s src d opc (fun u => u.celJob src d raw eff) h).symm.trans (celJob_ok s src d raw io opc eff hio h hpre)

section
variable (s : State) (src : JobSrc) (d : Desc) (raw io : JobIo)
variable (hio : io = s.jobIo src raw (dnum d 24 8) (cInLen d) (cOutAddr d) (cOutLen d))
include hio

/-- What a key operation does on a context without jobs before it. -/
theorem keyOp_of (opc : Nat) (hbusy : s.tkBusy (cHandle d) = false) (htakes : s.takesJob src d opc = true) (hpre : (s.celPre d io).1 = stOk) :
    s.job src d opc (fun u => u.keyJoin src d opc raw) =
      if opc = 0x22 then (s.take src).keyWrap src d io else if opc = 0x23 then (s.take src).keyUnload src d
      else (s.take src).keyQuery src d io := by
  have hbusy' : (s.take src).tkBusy (cHandle d) = false := by
    rw [take_hq]
    exact hbusy
  rw [job_of_takes s src d opc _ htakes, keyJoin_free _ _ _ _ _ hbusy']
  exact take_celJob s src d raw io opc _ hio htakes hpre

theorem keyOp_joins (opc : Nat) (c : KeyCtx) (hbusy : s.tkBusy (cHandle d) = true) (htakes : s.takesJob src d opc = true)
    (hpre : (s.celPre d io).1 = stOk) (hk : s.keyFor src.issuer (cHandle d) (if opc = 0x22 then some 6 else none) = (stOk, c)) :
    s.job src d opc (fun u => u.keyJoin src d opc raw) =
      { s.take src with tks := { (s.take src).tks with waiting := (s.take src).tks.waiting ++ [keyWaiter src d opc raw] } } := by
  rw [job_of_takes s src d opc _ htakes]
  obtain ⟨q, hq⟩ := take_eq_with s src
  rw [hq]
  refine keyJoin_busy { s with hq := q } src d opc raw hbusy ?_ ?_
  · exact (congrArg (fun x => (s.celPre d x).1) hio.symm).trans hpre
  · rw [keyFor_withHq, hk]

theorem keyOperation_joins (opc : Nat) (c : KeyCtx) (x : Instr)
    (hx : opc = 0x22 ∧ x = .keyWrap src d raw ∨ opc = 0x23 ∧ x = .keyUnload src d raw ∨ opc = 0x24 ∧ x = .keyQuery src d raw)
    (hbusy : s.tkBusy (cHandle d) = true) (htakes : s.takesJob src d opc = true) (hpre : (s.celPre d io).1 = stOk)
    (hk : s.keyFor src.issuer (cHandle d) (if opc = 0x22 then some 6 else none) = (stOk, c)) : ∃ t j, exec x s = .next t ∧
      t.tks.waiting = s.tks.waiting ++ [j] ∧ j.src = src ∧ j.opc = opc ∧ j.desc = d ∧ j.io = raw ∧ j.handle = cHandle d ∧
      t = { s.take src with tks := t.tks } := by
  have hjoin := keyOp_joins s src d raw io hio opc c hbusy htakes hpre hk
  have hexec : exec x s = .next (s.job src d opc (fun u => u.keyJoin src d opc raw)) := by
    rcases hx with ⟨rfl, rfl⟩ | ⟨rfl, rfl⟩ | ⟨rfl, rfl⟩ <;> rfl
  rw [hjoin] at hexec
  obtain ⟨q, hq⟩ := take_eq_with s src
  refine ⟨_, keyWaiter src d opc raw, hexec, ?_, rfl, rfl, rfl, rfl, rfl, rfl⟩
  rw [hq]

theorem keyWrap_spec (c : KeyCtx) (k : Bytes) (hbusy : s.tkBusy (cHandle d) = false) (htakes : s.takesJob src d 0x22 = true)
    (hpre : (s.celPre d io).1 = stOk) (hout : cOutLen d = 176) (hk : s.keyFor src.issuer (cHandle d) (some 6) = (stOk, c))
    (hcheck : s.wrapCheck = stOk) (hwrap : s.wrapKey c.domain (s.blobEpoch c.domain) = some k) (hfault : io.writeFault = false) :
    ∃ t, exec (.keyWrap src d raw) s = .next t ∧ t.cel.wrapSeq = s.cel.wrapSeq + 1 ∧ s.useTaken t (cHandle d) [] ∧
      s.startsOp t src (s.keyed (cHandle d) (celOp src 0x22 0 (cOutAddr d) (blobOf k s.cel.bootNonce
        { c with uses := if c.uses = 0xFFFFFFFF then c.uses else c.uses - 1, epoch := s.blobEpoch c.domain } s.wrapCtr) none)) := by
  have hexec : exec (.keyWrap src d raw) s = .next ((s.take src).keyWrap src d io) :=
    congrArg _ (keyOp_of s src d raw io hio 0x22 hbusy htakes hpre)
  obtain ⟨q, hq⟩ := take_eq_with s src
  rw [hq, keyWrap_eq { s with hq := q } src d io c k hout ((keyFor_withHq s q _ _ _).trans hk) hcheck hwrap hfault] at hexec
  have hrun := useRun_spec s (({ s with hq := q } : State).wrapped) src (cHandle d) (celOp src 0x22 0 (cOutAddr d) (blobOf k s.cel.bootNonce
    { c with uses := if c.uses = 0xFFFFFFFF then c.uses else c.uses - 1, epoch := s.blobEpoch c.domain } s.wrapCtr) none)
    (by rw [hq]; rfl) rfl rfl
  exact ⟨_, hexec, hrun.2⟩

theorem keyUnload_done (c : KeyCtx) (hbusy : s.tkBusy (cHandle d) = false) (htakes : s.takesJob src d 0x23 = true)
    (hpre : (s.celPre d io).1 = stOk) (hk : s.keyFor src.issuer (cHandle d) none = (stOk, c)) : ∃ t, exec (.keyUnload src d raw) s = .next t ∧
      (s.opsOn (cHandle d) = false → (t.slot (hSlot (cHandle d))).live = false ∧
        (t.slot (hSlot (cHandle d))).gen = (s.slot (hSlot (cHandle d))).gen + 1 ∧ (t.slot (hSlot (cHandle d))).ctx = KeyCtx.zero) ∧
      (s.opsOn (cHandle d) = true → t.slot (hSlot (cHandle d)) = s.slot (hSlot (cHandle d)) ∧ t.cel.doomed = s.cel.doomed ++ [cHandle d]) ∧
      t.liveH (cHandle d) = false ∧ (∀ j, j ≠ hSlot (cHandle d) → t.slot j = s.slot j) ∧
      t.cel.ops = s.cel.ops ++ [celOp src 0x23 0 0 [] none] := by
  have hexec : exec (.keyUnload src d raw) s = .next ((s.take src).keyUnload src d) :=
    congrArg _ (keyOp_of s src d raw io hio 0x23 hbusy htakes hpre)
  obtain ⟨q, hq⟩ := take_eq_with s src
  rw [hq, keyUnload_eq { s with hq := q } src d c ((keyFor_withHq s q _ _ _).trans hk)] at hexec
  exact ⟨_, hexec, keyUnload_spec { s with hq := q } (cHandle d) _ (live_of_keyFor s _ _ _ c hk)⟩

theorem keyQuery_spec (hbusy : s.tkBusy (cHandle d) = false) (htakes : s.takesJob src d 0x24 = true) (hpre : (s.celPre d io).1 = stOk) :
    (hGen (cHandle d) = 0 → src.issuer ≠ 0 → exec (.keyQuery src d raw) s = .next ((s.take src).celFail src 0x24 stStateForbids 0)) ∧
    (∀ c, hGen (cHandle d) ≠ 0 → s.keyFor src.issuer (cHandle d) none = (stOk, c) → (queryOut c).length ≤ cOutLen d → io.writeFault = false →
      ∃ t, exec (.keyQuery src d raw) s = .next t ∧ t.cel.slots = s.cel.slots ∧
        s.startsOp t src { celOp src 0x24 0 (cOutAddr d) (queryOut c) none with key := cHandle d }) := by
  have hexec : exec (.keyQuery src d raw) s = .next ((s.take src).keyQuery src d io) :=
    congrArg _ (keyOp_of s src d raw io hio 0x24 hbusy htakes hpre)
  refine ⟨fun hgen hsrc => by rw [hexec, keyQuery_protected _ src d io hgen hsrc], fun c hgen hk hout hfault => ?_⟩
  obtain ⟨q, hq⟩ := take_eq_with s src
  rw [hq, keyQuery_eq { s with hq := q } src d io c hgen ((keyFor_withHq s q _ _ _).trans hk) hout hfault] at hexec
  exact ⟨_, hexec, rfl, startsOp_celRun s src q hq _⟩

theorem aesSeal_spec (c : KeyCtx) (htakes : s.takesJob src d 0x28 = true) (hpre : (s.celPre d io).1 = stOk)
    (hk : s.keyFor src.issuer (cHandle d) (some 0) = (stOk, c)) (htype : c.type = 1) (hin : cParam d ≤ cInLen d)
    (hout : cInLen d - cParam d + 28 ≤ cOutLen d) (hfault : io.writeFault = false) : ∃ t x, exec (.aesSeal src d raw) s = .next t ∧
      x = gcmSeal c.material (s.draw 12) ((io.data.take (cInLen d)).take (cParam d)) ((io.data.take (cInLen d)).drop (cParam d)) ∧
      t.drbgCtr = s.drbgCtr + 1 ∧ s.useTaken t (cHandle d) [] ∧
      s.startsOp t src (s.keyed (cHandle d) (celOp src 0x28 0 (cOutAddr d) (s.draw 12 ++ x.1 ++ x.2) none)) := by
  have hexec : exec (.aesSeal src d raw) s = .next ((s.take src).aesSeal src d io) :=
    congrArg _ (celJob_ok s src d raw io 0x28 _ hio htakes hpre)
  obtain ⟨q, hq⟩ := take_eq_with s src
  rw [hq, aesSeal_eq { s with hq := q } src d io c ((keyFor_withHq s q _ _ _).trans hk) htype hin hout hfault] at hexec
  obtain ⟨hctr, -, hrun⟩ := useRun_spec s (({ s with hq := q } : State).drew) src (cHandle d) (celOp src 0x28 0 (cOutAddr d) (s.draw 12 ++
      (gcmSeal c.material (s.draw 12) ((io.data.take (cInLen d)).take (cParam d)) ((io.data.take (cInLen d)).drop (cParam d))).1 ++
      (gcmSeal c.material (s.draw 12) ((io.data.take (cInLen d)).take (cParam d)) ((io.data.take (cInLen d)).drop (cParam d))).2) none)
    (by rw [hq]; rfl) rfl rfl
  exact ⟨_, _, hexec, rfl, hctr, hrun⟩

theorem aesOpen_spec (c : KeyCtx) (htakes : s.takesJob src d 0x29 = true) (hpre : (s.celPre d io).1 = stOk)
    (hk : s.keyFor src.issuer (cHandle d) (some 1) = (stOk, c)) (htype : c.type = 1) (hin : cParam d + 28 ≤ cInLen d)
    (hout : cInLen d - cParam d - 28 ≤ cOutLen d) (hfault : io.writeFault = false) : ∃ t, exec (.aesOpen src d raw) s = .next t ∧
      s.useTaken t (cHandle d) [] ∧
      s.startsOp t src (s.keyed (cHandle d) (aesOpenOp src d (aesOpened c.material d (io.data.take (cInLen d))))) := by
  have hexec : exec (.aesOpen src d raw) s = .next ((s.take src).aesOpen src d io) :=
    congrArg _ (celJob_ok s src d raw io 0x29 _ hio htakes hpre)
  obtain ⟨q, hq⟩ := take_eq_with s src
  rw [hq, aesOpen_eq { s with hq := q } src d io c ((keyFor_withHq s q _ _ _).trans hk) htype hin hout hfault] at hexec
  obtain ⟨-, -, hrun⟩ := useRun_spec s { s with hq := q } src (cHandle d)
    (aesOpenOp src d (aesOpened c.material d (io.data.take (cInLen d)))) (by rw [hq]) rfl rfl
  exact ⟨_, hexec, hrun⟩

theorem pkSign_spec (c : KeyCtx) (htakes : s.takesJob src d 0x2A = true) (hpre : (s.celPre d io).1 = stOk) (hgen : hGen (cHandle d) ≠ 0)
    (hk : s.keyFor src.issuer (cHandle d) (some 4) = (stOk, c)) (hparam : cParam d = 0) (hsig : sigLen c.type ≠ 0)
    (hout : sigLen c.type ≤ cOutLen d) (hfault : io.writeFault = false) : ∃ t, exec (.pkSign src d raw) s = .next t ∧
      t.drbgCtr = s.drbgCtr + 1 ∧ s.useTaken t (cHandle d) [] ∧ s.startsOp t src (s.keyed (cHandle d) (celOp src 0x2A 0 (cOutAddr d)
        (signOf c.type c.material (io.data.take (cInLen d)) (s.draw 32) false) none)) := by
  have hexec : exec (.pkSign src d raw) s = .next ((s.take src).pkSign src d io) :=
    congrArg _ (celJob_ok s src d raw io 0x2A _ hio htakes hpre)
  obtain ⟨q, hq⟩ := take_eq_with s src
  rw [hq, pkSign_eq { s with hq := q } src d io c hgen ((keyFor_withHq s q _ _ _).trans hk) hparam hsig hout hfault] at hexec
  obtain ⟨hctr, -, hrun⟩ := useRun_spec s (({ s with hq := q } : State).drew) src (cHandle d) (celOp src 0x2A 0 (cOutAddr d)
    (signOf c.type c.material (io.data.take (cInLen d)) (s.draw 32) false) none) (by rw [hq]; rfl) rfl rfl
  exact ⟨_, hexec, hctr, hrun⟩

theorem pkVerify_spec (htakes : s.takesJob src d 0x2B = true) (hpre : (s.celPre d io).1 = stOk) (hparam : cParam d ≤ 1)
    (htype : cParam d = 1 → cType d ≠ 7 ∧ cType d ≠ 8) : ∃ t, exec (.pkVerify src d raw) s = .next t ∧ t.cel.slots = s.cel.slots ∧
      s.startsOp t src { celOp src 0x2B 0 0 [] none with
        status := if Config.pkInputOk (cType d) (cParam d) (io.data.take (cInLen d)) then stOk else stAuthFail } := by
  have hexec : exec (.pkVerify src d raw) s = .next ((s.take src).pkVerify src d io) :=
    congrArg _ (celJob_ok s src d raw io 0x2B _ hio htakes hpre)
  obtain ⟨q, hq⟩ := take_eq_with s src
  rw [hq, pkVerify_eq { s with hq := q } src d io hparam htype] at hexec
  exact ⟨_, hexec, rfl, startsOp_celRun s src q hq _⟩

theorem proof_spec (c : KeyCtx) (htakes : s.takesJob src d 0x2E = true) (hpre : (s.celPre d io).1 = stOk) (hin : cInLen d = 32)
    (hout : 32 ≤ cOutLen d) (hk : s.keyFor src.issuer (cHandle d) (some 9) = (stOk, c)) (htype : c.type = 4)
    (hpending : s.cmd.epochPending = false) (hfault : io.writeFault = false) : ∃ t, exec (.proof src d raw) s = .next t ∧
      s.useTaken t (cHandle d) [] ∧ s.startsOp t src (s.keyed (cHandle d) (celOp src 0x2E 0 (cOutAddr d)
        (kmac256 c.material (io.data.take 32 ++ s.unitId ++ s.lc ++ leBytes 4 s.cmd.epoch) 32 (ascii "MX-PROOF")) none)) := by
  have hexec : exec (.proof src d raw) s = .next ((s.take src).proof src d io) :=
    congrArg _ (celJob_ok s src d raw io 0x2E _ hio htakes hpre)
  obtain ⟨q, hq⟩ := take_eq_with s src
  rw [hq, proof_eq { s with hq := q } src d io c hin hout ((keyFor_withHq s q _ _ _).trans hk) htype hpending hfault] at hexec
  obtain ⟨-, -, hrun⟩ := useRun_spec s { s with hq := q } src (cHandle d) (celOp src 0x2E 0 (cOutAddr d)
    (kmac256 c.material (io.data.take 32 ++ s.unitId ++ s.lc ++ leBytes 4 s.cmd.epoch) 32 (ascii "MX-PROOF")) none) (by rw [hq]) rfl rfl
  exact ⟨_, hexec, hrun⟩

theorem blobEpochAdvance_spec (k : Nat) (hring : 69 ≤ src.ring) (htakes : s.takesJob src d 0x2F = true) (hpre : (s.celPre d io).1 = stOk)
    (hcheck : s.advanceCheck (cParam d) = stOk) (hjob : s.cmd.blobJob = none) (hslot : s.cmdSlot = some k) :
    ∃ t, exec (.blobEpochAdvance src d raw) s = .next t ∧ t.cmd.blobJob = some (src, k) ∧
      (t.adm (17 + k)).st = .waiting ∧ (t.adm (17 + k)).cls = 3 ∧ (t.adm (17 + k)).what = .bank k s.idleBank (s.epochImage (cParam d)) ∧
      (∀ i, i ≠ 17 + k → t.adm i = s.adm i) ∧ t = { s.take src with cmd := t.cmd, cis := t.cis } := by
  have hexec : exec (.blobEpochAdvance src d raw) s = .next ((s.take src).blobAdvance src d) :=
    congrArg _ ((if_neg (by omega)).trans (celJob_ok s src d raw io 0x2F _ hio htakes hpre))
  obtain ⟨q, hq⟩ := take_eq_with s src
  rw [hq, blobAdvance_eq { s with hq := q } src d k hcheck hjob hslot] at hexec
  have hadm := adm_enqueue s (17 + k) 3 0 (.bank k s.idleBank (s.epochImage (cParam d)))
  have hself := (hadm (17 + k)).trans (if_pos rfl)
  refine ⟨_, hexec, rfl, congrArg AdmEntry.st hself, congrArg AdmEntry.cls hself, congrArg AdmEntry.what hself,
    fun i hi => (hadm i).trans (if_neg hi), ?_⟩
  rw [hq]
  rfl

end

/-- Settles O38. -/
theorem keyOperationsUseTheirKeyOnce : Obligations.KeyOperationsUseTheirKeyOnce := by
  unfold Obligations.KeyOperationsUseTheirKeyOnce
  intro s src d raw io hio
  refine ⟨fun opc c x hx hbusy htakes hpre hk => keyOperation_joins s src d raw io hio opc c x hx hbusy htakes hpre hk,
    fun c k hbusy htakes hpre hout hk hcheck hwrap hfault => keyWrap_spec s src d raw io hio c k hbusy htakes hpre hout hk hcheck hwrap hfault,
    fun c hbusy htakes hpre hk => keyUnload_done s src d raw io hio c hbusy htakes hpre hk,
    fun hbusy htakes hpre => keyQuery_spec s src d raw io hio hbusy htakes hpre,
    fun c htakes hpre hk htype hin hout hfault => aesSeal_spec s src d raw io hio c htakes hpre hk htype hin hout hfault,
    fun c htakes hpre hk htype hin hout hfault => ?_,
    fun c htakes hpre hgen hk hparam hsig hout hfault => pkSign_spec s src d raw io hio c htakes hpre hgen hk hparam hsig hout hfault,
    fun htakes hpre hparam htype => pkVerify_spec s src d raw io hio htakes hpre hparam htype,
    fun c htakes hpre hin hout hk htype hpending hfault =>
      proof_spec s src d raw io hio c htakes hpre hin hout hk htype hpending hfault,
    fun k hring htakes hpre hcheck hjob hslot => blobEpochAdvance_spec s src d raw io hio k hring htakes hpre hcheck hjob hslot,
    fun ix o r ho hmem hwaiting hr => ?_, fun i hi => ⟨fun hdead => ?_, fun hlive => ?_⟩⟩
  · obtain ⟨t, hexec, hused, hstarts⟩ := aesOpen_spec s src d raw io hio c htakes hpre hk htype hin hout hfault
    refine ⟨t, _, _, hexec, rfl, hused, hstarts, fun hnone => ?_, fun p hsome => ?_⟩
    · have hopened : aesOpened c.material d (io.data.take (cInLen d)) = none := hnone
      rw [hopened]
      exact ⟨rfl, rfl⟩
    · have hopened : aesOpened c.material d (io.data.take (cInLen d)) = some p := hsome
      rw [hopened]
      rfl
  · obtain ⟨hexec, hops⟩ := cellarOpDone_spec s ix o ho hmem hwaiting
    subst hr
    exact ⟨_, hexec, hops, fun hdestroy hdoomed => celEnd_plain (s.opOff ix) o hdestroy hdoomed,
      fun h hdestroy hlive hon hdoomed => celEnd_lastUse (s.opOff ix) o h hdestroy hlive hon hdoomed,
      fun h hdestroy hdoomed hheld hon => celEnd_reaps (s.opOff ix) o h hdestroy hdoomed hheld hon⟩
  · have hexec : exec (.cellarSramUe i) s = .next (s.celUe (i % 65536)) := rfl
    rw [hexec, Nat.mod_eq_of_lt hi]
    unfold State.celUe
    rw [hdead]
    rfl
  · have hexec : exec (.cellarSramUe i) s = .next (s.celUe (i % 65536)) := rfl
    rw [Nat.mod_eq_of_lt hi] at hexec
    exact ⟨_, hexec, celUe_spec s i hlive⟩

end Sys2Proof.Machine
end

section
/-! PROOFS. The envelope commands and the commits that they submit; O45. -/
namespace Sys2Proof.Machine

/-! ### The record area -/

/-- `c` where the command epoch area stands as in `d`. -/
def CmdState.areaOf (c d : CmdState) : CmdState := { c with half := d.half, used := d.used, recs := d.recs, copy := d.copy }

/-- `t` is `s` after the runtime wrote to the command epoch area: the admission queue, erasures, and where the area stands. -/
def State.AreaWritten (s t : State) : Prop :=
  t = { s with cis := t.cis, outbox := t.outbox, boot := t.boot, cmd := s.cmd.areaOf t.cmd }

theorem areaWritten_trans {r s t : State} (hrs : r.AreaWritten s) (hst : s.AreaWritten t) : r.AreaWritten t :=
  Eq.trans hst (congrArg (fun x : State =>
    { x with cis := t.cis, outbox := t.outbox, boot := t.boot, cmd := x.cmd.areaOf t.cmd }) hrs)

section
variable {s t : State}

theorem cel_of_areaWritten (h : s.AreaWritten t) : t.cel = s.cel := (congrArg State.cel h).trans rfl

theorem lcf_of_areaWritten (h : s.AreaWritten t) : t.lcf = s.lcf := (congrArg State.lcf h).trans rfl

theorem issuers_of_areaWritten (h : s.AreaWritten t) : t.cmd.issuers = s.cmd.issuers :=
  (congrArg (fun x : State => x.cmd.issuers) h).trans rfl

theorem epoch_of_areaWritten (h : s.AreaWritten t) : t.cmd.epoch = s.cmd.epoch := (congrArg (fun x : State => x.cmd.epoch) h).trans rfl

end

/-- An erasure of the home area, now or once its lease is granted, is all that `t` adds to `s`. -/
def State.Erased (s t : State) : Prop := t = { s with outbox := t.outbox, boot := t.boot }

theorem erased_eraseAt (s : State) (p cs a : Nat) : s.Erased (s.eraseAt p cs a) := by
  unfold State.eraseAt
  split_ifs <;> rfl

theorem erased_homeErase (s : State) (off n : Nat) : s.Erased (s.homeErase off n) := by
  unfold State.homeErase State.eraseBlocks
  refine List.foldlRecOn (motive := fun t : State => s.Erased t) _ _ rfl fun u hu k _ => ?_
  have hk := erased_eraseAt u 0 0 (s.homeBase * 2 ^ 24 + off + 0x10000 * k)
  generalize u.eraseAt 0 0 (s.homeBase * 2 ^ 24 + off + 0x10000 * k) = t at hk
  exact Eq.trans hk (congrArg (fun x : State => { x with outbox := t.outbox, boot := t.boot }) hu)

theorem areaWritten_recPut (s : State) (slot timeout : Nat) (r : Bytes) : s.AreaWritten (s.recPut slot timeout r) := rfl

theorem adm_recPut (s : State) (slot timeout : Nat) (r : Bytes) :
    (s.recPut slot timeout r).adm (17 + slot) =
      { st := .waiting, cls := 2, order := s.cis.order, since := s.posRun, timeout, what := .page slot 0 0 s.epochPage r, startHc := 0 } :=
  (adm_enqueue s (17 + slot) 2 timeout _ (17 + slot)).trans (if_pos rfl)

/-- What switching the halves leaves. -/
theorem halfSwitch_spec (s : State) : s.AreaWritten s.halfSwitch ∧ s.halfSwitch.cmd.half = 1 - s.cmd.half ∧ s.halfSwitch.cmd.used = 0 := by
  have h := erased_homeErase s (0x820000 + 0x10000 * (1 - s.cmd.half)) 1
  unfold State.halfSwitch
  dsimp only
  generalize s.homeErase (0x820000 + 0x10000 * (1 - s.cmd.half)) 1 = u at h
  refine ⟨?_, rfl, rfl⟩
  unfold State.AreaWritten
  rw [show u = { s with outbox := u.outbox, boot := u.boot } from h]
  rfl

theorem recCommit_room (s : State) (slot timeout : Nat) (r : Bytes) (h : s.cmd.used < 256) :
    s.recCommit slot timeout r = s.recPut slot timeout r := if_pos h

/-- A record whose half is full goes behind the compacted copy in the other half. -/
theorem recCommit_full (s : State) (slot timeout : Nat) (r : Bytes) (h : 256 ≤ s.cmd.used) : ∃ (x : Bytes) (l : List Bytes),
    s.recCommit slot timeout r =
    (s.halfSwitch.recPut slot timeout x).modCmd (fun c => { c with copy := c.copy ++ l.map (fun y => (slot, timeout, y)) }) := by
  unfold State.recCommit
  rw [if_neg (by omega)]
  cases hl : s.compacted ++ [r] with
  | nil => simp at hl
  | cons x l => exact ⟨x, l, rfl⟩

/-- A record is submitted in its slot. -/
theorem recCommit_spec (s : State) (slot timeout : Nat) (r : Bytes) :
    let t := s.recCommit slot timeout r
    s.AreaWritten t ∧ (t.adm (17 + slot)).st = .waiting ∧
    (s.cmd.used < 256 → (t.adm (17 + slot)).what = .page slot 0 0 s.epochPage r ∧ t.cmd.half = s.cmd.half ∧ t.cmd.used = s.cmd.used + 1) ∧
    (256 ≤ s.cmd.used → t.cmd.half = 1 - s.cmd.half ∧ t.cmd.used = 1) := by
  rcases Nat.lt_or_ge s.cmd.used 256 with hroom | hfull
  · rw [recCommit_room s slot timeout r hroom]
    have hadm := adm_recPut s slot timeout r
    exact ⟨rfl, congrArg AdmEntry.st hadm, fun _ => ⟨congrArg AdmEntry.what hadm, rfl, rfl⟩, fun h => absurd h (by omega)⟩
  · obtain ⟨x, l, heq⟩ := recCommit_full s slot timeout r hfull
    obtain ⟨hwritten, hhalf, hused⟩ := halfSwitch_spec s
    rw [heq]
    have hadm := adm_recPut s.halfSwitch slot timeout x
    generalize s.halfSwitch = u at *
    refine ⟨areaWritten_trans hwritten (areaWritten_trans (areaWritten_recPut u slot timeout x) rfl), congrArg AdmEntry.st hadm,
      fun h => absurd h (by omega), fun _ => ⟨hhalf, congrArg (· + 1) hused⟩⟩

/-! ### The running command -/

/-- The command that runs is carried out. -/
theorem command_runs (s : State) (j : EnvJob) (code : Nat) (eff : State → EnvJob → State) (hrun : s.cmd.running = some j)
    (hwait : j.wait = .none) (hcode : j.cmd = code) : s.command code eff = eff s j := by
  unfold State.command
  rw [hrun]
  exact if_pos ⟨hcode, hwait⟩

theorem cmdLc_bad (s : State) (j : EnvJob) (h : s.reqCheck j.payload 1 ≠ stOk) : s.cmdLc j = s.cmdEnd j (s.reqCheck j.payload 1) := if_pos h

/-- A state code is one of a byte's low three bits. -/
theorem lt_of_lcOfCode (c : Nat) (x : LcState) (h : lcOfCode c = some x) : c < 8 := by
  have hcode : x.code = c := by simpa using List.find?_some h
  rw [← hcode]
  cases x <;> decide

theorem cmdLc_ok (s : State) (j : EnvJob) (x : LcState) (hreq : s.reqCheck j.payload 1 = stOk)
    (hlc : s.lcCheck (Bytes.num j.payload 0x11 1) = stOk) (hx : lcOfCode (Bytes.num j.payload 0x11 1) = some x)
    (hcopy : s.lcCopy 0 ≠ x.fuseCode) : (s.cmdLc j).lcf.transit = some (x, .copyA) ∧
      (s.cmdLc j).cmd = { s.cmd with running := some { j with wait := .lcTransition, slot := 0 } } ∧
      ((s.cmdLc j).adm 16).st = .waiting ∧ ((s.cmdLc j).adm 16).what = .lcf (.lcCopy 0 x) := by
  have hlt := lt_of_lcOfCode _ x hx
  generalize hcode : Bytes.num j.payload 0x11 1 = c at hlc hx hlt
  have hfield : Word.field (wd (0x100 + c)) 2 0 = c := by
    simp only [Word.field, wd, BitVec.toNat_ofNat, Nat.shiftRight_zero]
    omega
  have hbit : Word.bit (wd (0x100 + c)) 8 = true := by
    interval_cases c <;> rfl
  obtain ⟨x', hx', -, -, -, hnext⟩ := lcReq_accepted s (wd (0x100 + c)) hbit (by rw [hfield]; exact hlc)
  rw [hfield, hx] at hx'
  obtain rfl := Option.some.inj hx'
  obtain ⟨htransit, hst, -, hwhat, -⟩ := hnext hcopy
  have hcmd : (s.lcReq (wd (0x100 + c))).cmd = s.cmd := by
    rw [lcReq_ok s _ x hbit (by rw [hfield]; exact hlc) (by rw [hfield]; exact hx)]
    exact ((congrArg State.cmd (lcStepOf_lcGo x 8 .copyA _)).trans rfl).trans (by simp [State.lcAsked, State.newNonce])
  have heq : s.cmdLc j = (s.lcReq (wd (0x100 + c))).cmdWait j .lcTransition 0 := by
    unfold State.cmdLc
    dsimp only
    rw [if_neg (not_not.mpr hreq), hcode, if_neg (not_not.mpr hlc), htransit]
  rw [heq]
  generalize s.lcReq (wd (0x100 + c)) = u at *
  exact ⟨htransit, congrArg (fun c : CmdState => { c with running := some { j with wait := .lcTransition, slot := 0 } }) hcmd, hst, hwhat⟩

theorem cmdDbg_eq (s : State) (j : EnvJob) : s.cmdDbg j = if s.reqCheck j.payload 2 ≠ stOk then s.cmdEnd j (s.reqCheck j.payload 2)
    else (s.dbgGrant 0 (wd (Bytes.num j.payload 0x12 2))).cmdEnd j (if s.dbgOk (Bytes.num j.payload 0x12 2) then stOk else stStateForbids) := rfl

/-! ### KEY_IMPORT -/

theorem importCheck_ok (s : State) (m : Master) (d : Desc) (b : Bytes) (h : s.importCheck m d b = stOk) :
    (s.keyFor m (cHandle d) (some 1)).1 = stOk := by
  unfold State.importCheck at h
  dsimp only at h
  split_ifs at h with h1 h2 h3 h4 h5
  · exact (ne_of_beq_false rfl h).elim
  · exact (ne_of_beq_false rfl h).elim
  · exact absurd h h3
  · exact (ne_of_beq_false rfl h).elim
  · exact (ne_of_beq_false rfl h).elim
  · exact not_not.mp h3

/-- What an imported key leaves of the key that it was sealed under. -/
def State.importUse (s : State) (h : Word) : State := if (s.takeUse h).2 then (s.takeUse h).1.lastUse h else (s.takeUse h).1

theorem slot_lastUse_other (s : State) (h : Word) (j : Nat) (hj : j ≠ hSlot h) : (s.lastUse h).slot j = s.slot j := by
  unfold State.lastUse
  split_ifs
  · have hcount : ((s.destroy (hSlot h)).count (evCel 2)).cel = (s.destroy (hSlot h)).cel := by simp
    refine (slot_congr j (congrArg CelState.slots hcount)).trans ?_
    unfold State.destroy
    dsimp only
    split_ifs
    · rfl
    · rfl
    · exact slot_destroyFor_other s _ _ j hj
  · rfl

theorem slot_importUse_other (s : State) (h : Word) (j : Nat) (hj : j ≠ hSlot h) : (s.importUse h).slot j = s.slot j := by
  have htake : (s.takeUse h).1.slot j = s.slot j := (slot_takeUse s h j).trans (if_neg hj)
  unfold State.importUse
  split_ifs
  · exact (slot_lastUse_other _ h j hj).trans htake
  · exact htake

/-- A record that opens, imported for an issuer. -/
def State.imported (s : State) (m : Master) (i : Nat) (c : KeyCtx) : State :=
  s.putCtx i .loaded { c with owner := m, domain := domainOf m, epoch := s.blobEpoch (domainOf m) }

theorem cmdImport_ok (s : State) (j : EnvJob) (c : KeyCtx) (i : Nat) (io : JobIo)
    (hio : io = { data := j.payload.drop 48, list := [], fault := false, aux := [], auxFault := false, writeFault := false })
    (h6 : dw (importDesc j) 6 = 0) (h7 : dw (importDesc j) 7 = 0) (hpre : (s.celPre (importDesc j) io).1 = stOk)
    (hcheck : s.importCheck j.src.issuer (importDesc j) io.data = stOk)
    (hopen : openBlob (s.slot (hSlot (cHandle (importDesc j)))).ctx.material s.cel.bootNonce io.data = some c)
    (hi : s.allocAt j.src.issuer = some i) : s.cmdImport j =
      ((s.imported j.src.issuer i c).importUse (cHandle (importDesc j))).envEnd j stOk (handleOf i (s.slot i).gen).toNat [] := by
  subst hio
  unfold State.cmdImport
  dsimp only at hcheck hopen ⊢
  rw [if_neg (by simp [h6, h7]), if_neg (not_not.mpr hpre), hcheck, if_neg (by decide), if_neg (not_not.mpr rfl), hopen, hi]
  rfl

theorem cmdImport_bad (s : State) (j : EnvJob) (io : JobIo)
    (hio : io = { data := j.payload.drop 48, list := [], fault := false, aux := [], auxFault := false, writeFault := false })
    (h6 : dw (importDesc j) 6 = 0) (h7 : dw (importDesc j) 7 = 0) (hpre : (s.celPre (importDesc j) io).1 ≠ stOk) :
    s.cmdImport j = s.cmdEnd j (s.celPre (importDesc j) io).1 := by
  subst hio
  unfold State.cmdImport
  dsimp only
  rw [if_neg (by simp [h6, h7]), if_pos hpre]

theorem slot_imported (s : State) (j : EnvJob) (c : KeyCtx) (i : Nat) (b : Bytes)
    (hcheck : s.importCheck j.src.issuer (importDesc j) b = stOk) (hi : s.allocAt j.src.issuer = some i) :
    ((s.imported j.src.issuer i c).importUse (cHandle (importDesc j))).slot i = { st := .loaded, gen := (s.slot i).gen, ctx := { c with
      owner := j.src.issuer, domain := domainOf j.src.issuer, epoch := s.blobEpoch (domainOf j.src.issuer) } } := by
  have hk := importCheck_ok s _ _ _ hcheck
  have hne : hSlot (cHandle (importDesc j)) ≠ i :=
    alloc_ne_key s j.src.issuer _ _ (some 1) (s.keyFor j.src.issuer (cHandle (importDesc j)) (some 1)).2 i (Prod.ext hk rfl) hi
  rw [slot_importUse_other _ _ i (fun e => hne e.symm)]
  exact (slot_putCtx s i .loaded _ i).trans (if_pos rfl)

/-! ### Fuse commits -/

theorem cmdFuse_ok (s : State) (j : EnvJob) (i : Nat) (v : Bytes) (h : s.fuseCheck i v.length = stOk) :
    let t := s.cmdFuse j i v
    (t.adm 16).st = .waiting ∧ (t.adm 16).cls = 1 ∧ (t.adm 16).what = .lcf (.field i v) ∧
    t = { s with cis := t.cis, cmd := { s.cmd with running := some { j with wait := .fuse, slot := 0 } } } := by
  have heq : s.cmdFuse j i v = (s.fuseKey i v 0).cmdWait j .fuse 0 := by
    unfold State.cmdFuse
    exact if_neg (not_not.mpr h)
  have hadm : (s.cmdFuse j i v).adm 16 = ⟨.waiting, 1, s.cis.order, s.posRun, 0, .lcf (.field i v), 0⟩ := by
    rw [heq]
    exact (adm_enqueue s 16 1 0 _ 16).trans (if_pos rfl)
  refine ⟨congrArg AdmEntry.st hadm, congrArg AdmEntry.cls hadm, congrArg AdmEntry.what hadm, ?_⟩
  rw [heq]
  rfl

theorem cmdFuse_bad (s : State) (j : EnvJob) (i : Nat) (v : Bytes) (h : s.fuseCheck i v.length ≠ stOk) :
    s.cmdFuse j i v = s.cmdEnd j (s.fuseCheck i v.length) := if_pos h

theorem cmdPolicy_none (s : State) (j : EnvJob) (h : policyField j.payload = none) : s.cmdPolicy j = s.cmdEnd j stBadOpcode := by
  unfold State.cmdPolicy
  rw [h]

theorem cmdPolicy_some (s : State) (j : EnvJob) (i : Nat) (v : Bytes) (h : policyField j.payload = some (i, v)) :
    s.cmdPolicy j = s.cmdFuse j i v := by
  unfold State.cmdPolicy
  rw [h]

/-! ### IMAGE_ACTIVATE and REVOKE -/

theorem cmdActivate_reserved (s : State) (scan : ClassScan) (j : EnvJob) (h : allZero (Bytes.slice j.payload 1 3) = false) :
    s.cmdActivate scan j = s.cmdEnd j stBadOpcode := by
  unfold State.cmdActivate
  exact if_pos (by simp [h])

/-- What a class that IMAGE_ACTIVATE cannot name means (R606). -/
def State.noClass (s : State) (k : Nat) : Prop := k = 0 ∨ 64 ≤ k ∨ s.classPorts k = []

theorem cmdActivate_noClass (s : State) (scan : ClassScan) (j : EnvJob) (h : allZero (Bytes.slice j.payload 1 3) = true)
    (hk : s.noClass (Bytes.num j.payload 0 1)) : s.cmdActivate scan j = s.cmdEnd j stStateForbids := by
  unfold State.cmdActivate
  exact (if_neg (by simp [h])).trans (if_pos hk)

theorem cmdActivate_class (s : State) (scan : ClassScan) (j : EnvJob) (h : allZero (Bytes.slice j.payload 1 3) = true)
    (hk : ¬ s.noClass (Bytes.num j.payload 0 1)) :
    (s.inRecovery (Bytes.num j.payload 0 1) = true → s.cmdActivate scan j = s.cmdEnd j stBusy) ∧
    (s.inRecovery (Bytes.num j.payload 0 1) = false →
      (s.newerPorts (Bytes.num j.payload 0 1) scan = [] → s.cmdActivate scan j = s.cmdEnd j stStateForbids) ∧
      (∀ x l, s.newerPorts (Bytes.num j.payload 0 1) scan = x :: l →
        s.cmdActivate scan j = s.activateRun (Bytes.num j.payload 0 1) (x :: l) (manSecVersion x.2) j)) := by
  have hclass : s.cmdActivate scan j = if s.inRecovery (Bytes.num j.payload 0 1) then s.cmdEnd j stBusy
      else match s.newerPorts (Bytes.num j.payload 0 1) scan with
        | [] => s.cmdEnd j stStateForbids
        | x :: t => s.activateRun (Bytes.num j.payload 0 1) (x :: t) (manSecVersion x.2) j := by
    unfold State.cmdActivate
    exact (if_neg (by simp [h])).trans (if_neg hk)
  rw [hclass]
  refine ⟨fun hrec => if_pos hrec, fun hrec => ⟨fun hnil => ?_, fun x l hcons => ?_⟩⟩
  · rw [hrec, hnil]
    rfl
  · rw [hrec, hcons]
    rfl

theorem activateRun_eq (s : State) (k : Nat) (l : List (PortScan × Bytes)) (version : Nat) (j : EnvJob) :
    s.activateRun k l version j = if ((s.holdLines (s.classLines k)).activateAll k l).2
      then ((((s.holdLines (s.classLines k)).activateAll k l).1.freeLines (s.classLines k)).serves k version).cmdEnd j stOk
      else ({ s with freeCtr := ((s.holdLines (s.classLines k)).activateAll k l).1.freeCtr }).cmdEnd j stStateForbids := rfl

theorem cmdRevoke_spec (s : State) (imgs : List ImageSeen) (j : EnvJob) (hk : Bytes.num j.payload 0 1 ≤ 15)
    (hz : allZero (Bytes.slice j.payload 1 3) = true) :
    (s.revoked.testBit (Bytes.num j.payload 0 1) = true → s.cmdRevoke imgs j = s.cmdEnd j stOk) ∧
    (s.revoked.testBit (Bytes.num j.payload 0 1) = false → s.revokeOk imgs (Bytes.num j.payload 0 1) = false →
      s.cmdRevoke imgs j = s.cmdEnd j stStateForbids) ∧
    (s.revoked.testBit (Bytes.num j.payload 0 1) = false → s.revokeOk imgs (Bytes.num j.payload 0 1) = true →
      s.cmdRevoke imgs j = s.cmdFuse j 928 (leBytes 2 (2 ^ Bytes.num j.payload 0 1))) := by
  have hopen : ¬(15 < Bytes.num j.payload 0 1 ∨ (!allZero (Bytes.slice j.payload 1 3)) = true) := by
    rw [hz]
    simp only [Bool.not_true, Bool.false_eq_true, or_false]
    omega
  refine ⟨fun hbit => ?_, fun hbit hok => ?_, fun hbit hok => ?_⟩
  · exact (if_neg hopen).trans (if_pos hbit)
  · exact (if_neg hopen).trans ((if_neg (by rw [hbit]; decide)).trans (if_pos (by rw [hok]; rfl)))
  · exact (if_neg hopen).trans ((if_neg (by rw [hbit]; decide)).trans (if_neg (by rw [hok]; decide)))

/-! ### Commands that submit in a hart slot -/

theorem cmdBlob_ok (s : State) (j : EnvJob) (k : Nat) (hslot : s.cmdSlot = some k) (hz : allZero (Bytes.slice j.payload 1 3) = true)
    (hcheck : s.advanceCheck (Bytes.num j.payload 0 1) = stOk) :
    let t := s.cmdBlob j
    (t.adm (17 + k)).st = .waiting ∧ (t.adm (17 + k)).what = .bank k s.idleBank (s.epochImage (Bytes.num j.payload 0 1)) ∧
    t = { s with cis := t.cis, cmd := { s.cmd with running := some { j with wait := .blobEpoch, slot := k } } } := by
  have heq : s.cmdBlob j = (s.advance (Bytes.num j.payload 0 1) k).cmdWait j .blobEpoch k := by
    unfold State.cmdBlob
    dsimp only
    rw [hz, if_pos rfl, if_neg (not_not.mpr hcheck), hslot]
  have hadm : (s.cmdBlob j).adm (17 + k) =
      ⟨.waiting, 3, s.cis.order, s.posRun, 0, .bank k s.idleBank (s.epochImage (Bytes.num j.payload 0 1)), 0⟩ := by
    rw [heq]
    exact (adm_enqueue s (17 + k) 3 0 _ (17 + k)).trans (if_pos rfl)
  refine ⟨congrArg AdmEntry.st hadm, congrArg AdmEntry.what hadm, ?_⟩
  rw [heq]
  rfl

/-- Marking the entries that wait at check 8 changes them alone. -/
theorem markWait_frame (s : State) : s.markWait = { s with cmd := { s.cmd with waiting := s.markWait.cmd.waiting } } := by
  unfold State.markWait
  split_ifs <;> rfl

theorem cmdEpoch_ok (s : State) (j : EnvJob) (k : Nat) (hslot : s.cmdSlot = some k) (hex : s.exhausted = false) :
    let t := s.cmdEpoch j
    (t.adm (17 + k)).st = .waiting ∧
    (s.cmd.used < 256 → (t.adm (17 + k)).what = .page k 0 0 s.epochPage (epochRec (s.cmd.epoch + 1)) ∧ t.cmd.half = s.cmd.half ∧
      t.cmd.used = s.cmd.used + 1) ∧
    (256 ≤ s.cmd.used → t.cmd.half = 1 - s.cmd.half ∧ t.cmd.used = 1) ∧
    t.cmd.running = some { j with wait := .epochAdvance (s.cmd.epoch + 1), slot := k } ∧ t.cmd.epoch = s.cmd.epoch := by
  have heq : s.cmdEpoch j =
      ((s.recCommit k 0 (epochRec (s.cmd.epoch + 1))).cmdWait j (.epochAdvance (s.cmd.epoch + 1)) k).markWait := by
    unfold State.cmdEpoch
    rw [hex, hslot]
    rfl
  obtain ⟨hwritten, hst, hroom, hfull⟩ := recCommit_spec s k 0 (epochRec (s.cmd.epoch + 1))
  dsimp only
  rw [heq]
  generalize s.recCommit k 0 (epochRec (s.cmd.epoch + 1)) = u at *
  have hmark := markWait_frame (u.cmdWait j (.epochAdvance (s.cmd.epoch + 1)) k)
  generalize (u.cmdWait j (.epochAdvance (s.cmd.epoch + 1)) k).markWait = t at hmark
  have hepoch : u.cmd.epoch = s.cmd.epoch := epoch_of_areaWritten hwritten
  rw [hmark]
  exact ⟨hst, hroom, hfull, rfl, hepoch⟩

/-- The context of a new command key (R489). -/
def cmdKeyCtx (key : Bytes) (epoch : Nat) : KeyCtx :=
  { type := 9, flags := 0, ops := 0x400, owner := 0, domain := 0, mlen := 32, uses := 0xFFFFFFFF, epoch := epoch, material := key }

/-- The key that an establishment derives of a draw. -/
def State.newCmdKey (s : State) (id : Nat) (pub : Bytes) : Bytes :=
  kdf (Config.take 32 (Config.kemSecretByte pub (s.draw 32))) (leBytes 2 id ++ s.unitId) "MX-CMDK"

/-- The state of an establishment before its record is submitted. -/
def State.keyMade (s : State) (i id : Nat) (pub : Bytes) : State :=
  ((s.putCtx i .loaded (cmdKeyCtx (s.newCmdKey id pub) (s.blobEpoch 0))).wrapped).drew

/-- What an establishment waits as. -/
def State.registerWait (s : State) (i id rights : Nat) (pub : Bytes) : CmdWait :=
  .register { id := id, rights := rights, lastSeq := 0, handle := handleOf i (s.slot i).gen, serial := s.nextSerial }
    (Config.take 1568 (Config.kemCtByte pub (s.draw 32)))

theorem establish_ok (s : State) (j : EnvJob) (id rights : Nat) (pub : Bytes) (fin : State → Status → State) (key : Bytes) (i k : Nat)
    (hpub : Config.kexPeerOk 0 pub = true) (hcheck : s.wrapCheck = stOk) (hkey : s.wrapKey 0 (s.blobEpoch 0) = some key)
    (hi : s.allocAt 0 = some i) (hslot : s.cmdSlot = some k) : s.establish j id rights pub fin =
      ((s.keyMade i id pub).recCommit k 0 (issuerRec 1 id rights s.nextSerial (blobOf key s.cel.bootNonce
        (cmdKeyCtx (s.newCmdKey id pub) (s.blobEpoch 0)) s.wrapCtr))).modCmd
          (fun c => { c with running := some { j with accepted := true, wait := s.registerWait i id rights pub, slot := k } }) := by
  unfold State.establish
  rw [hpub, if_neg (by decide), if_neg (not_not.mpr hcheck), hkey, hi, hslot]
  rfl

/-- A command that submits a record and then waits. -/
theorem recCommit_wait (s : State) (k : Nat) (r : Bytes) (j : EnvJob) :
    let t := (s.recCommit k 0 r).modCmd (fun c => { c with running := some j })
    (t.adm (17 + k)).st = .waiting ∧ t.cel = s.cel ∧ t.lcf = s.lcf ∧ t.cmd.issuers = s.cmd.issuers ∧ t.cmd.running = some j := by
  obtain ⟨hwritten, hst, -, -⟩ := recCommit_spec s k 0 r
  dsimp only
  generalize s.recCommit k 0 r = t at *
  have hcel := cel_of_areaWritten hwritten
  have hlcf := lcf_of_areaWritten hwritten
  have hissuers := issuers_of_areaWritten hwritten
  exact ⟨hst, hcel, hlcf, hissuers, rfl⟩

theorem putKey_keeps (s : State) (i : Nat) (c : KeyCtx) :
    let t := ((s.putCtx i .loaded c).wrapped).drew
    t.slot i = { st := .loaded, gen := (s.slot i).gen, ctx := c } ∧ t.cmd = s.cmd ∧ t.lcf = s.lcf := by
  have hput := (slot_putCtx s i .loaded c i).trans (if_pos rfl)
  have hframe := putCtx_frame s i .loaded c
  generalize s.putCtx i .loaded c = u at hput hframe
  exact ⟨hput, (congrArg State.cmd hframe).trans rfl, (congrArg State.lcf hframe).trans rfl⟩

/-- What an establishment that goes through leaves: the new key, the record waiting, and the command waiting for its commit. -/
theorem establish_spec (s : State) (j : EnvJob) (id rights : Nat) (pub : Bytes) (fin : State → Status → State) (key : Bytes) (i k : Nat)
    (hpub : Config.kexPeerOk 0 pub = true) (hcheck : s.wrapCheck = stOk) (hkey : s.wrapKey 0 (s.blobEpoch 0) = some key)
    (hi : s.allocAt 0 = some i) (hslot : s.cmdSlot = some k) :
    let t := s.establish j id rights pub fin
    (t.adm (17 + k)).st = .waiting ∧ t.slot i = { st := .loaded, gen := (s.slot i).gen, ctx := cmdKeyCtx (s.newCmdKey id pub) (s.blobEpoch 0) } ∧
    t.cmd.issuers = s.cmd.issuers ∧ t.lcf = s.lcf ∧
    t.cmd.running = some { j with accepted := true, wait := s.registerWait i id rights pub, slot := k } := by
  obtain ⟨hmade, hcmd, hlcf⟩ := putKey_keeps s i (cmdKeyCtx (s.newCmdKey id pub) (s.blobEpoch 0))
  dsimp only
  rw [establish_ok s j id rights pub fin key i k hpub hcheck hkey hi hslot]
  unfold State.keyMade
  generalize cmdKeyCtx (s.newCmdKey id pub) (s.blobEpoch 0) = c at *
  obtain ⟨hst, hcel, hlcf', hissuers, hrunning⟩ := recCommit_wait (((s.putCtx i .loaded c).wrapped).drew) k
    (issuerRec 1 id rights s.nextSerial (blobOf key s.cel.bootNonce c s.wrapCtr))
    { j with accepted := true, wait := s.registerWait i id rights pub, slot := k }
  exact ⟨hst, (slot_congr i (congrArg CelState.slots hcel)).trans hmade, hissuers.trans (congrArg CmdState.issuers hcmd),
    hlcf'.trans hlcf, hrunning⟩

theorem cmdRegister_ok (s : State) (j : EnvJob) (hz : allZero (Bytes.slice j.payload 4 4) = true) (h0 : Bytes.num j.payload 0 2 ≠ 0)
    (hmax : Bytes.num j.payload 0 2 ≠ 0xFFFF) (hnew : s.issuer (Bytes.num j.payload 0 2) = none) (hrights : Bytes.num j.payload 2 2 < 256)
    (hroom : s.cmd.issuers.length < 64) : s.cmdRegister j =
      s.establish j (Bytes.num j.payload 0 2) (Bytes.num j.payload 2 2) (Bytes.slice j.payload 8 1568) (fun s st => s.cmdEnd j st) := by
  unfold State.cmdRegister
  dsimp only
  rw [hz, hnew, if_neg (by decide), if_neg (by simp [h0, hmax, rightsOk, hrights]), if_neg (by omega)]

theorem slot_dead_liveH (s : State) (h : Word) (hdead : (s.slot (hSlot h)).live = false) : s.liveH h = false := by
  unfold State.liveH State.heldH
  rw [hdead, Bool.and_false, Bool.false_and]

/-- The issuer's key is gone, or will be once what runs on it has ended. -/
theorem destroy_issuer (s : State) (h : Word) : (s.destroy (hSlot h)).liveH h = false ∧
    (s.opsOn (handleOf (hSlot h) (s.slot (hSlot h)).gen) = false → ((s.destroy (hSlot h)).slot (hSlot h)).live = false) := by
  have hdestroyed : (s.opsOn (handleOf (hSlot h) (s.slot (hSlot h)).gen) = false →
      ((s.destroy (hSlot h)).slot (hSlot h)).live = false) := by
    intro hops
    unfold State.destroy
    dsimp only
    rw [hops, if_neg (by simp), if_neg (by simp)]
    exact live_destroyFor s _ _
  refine ⟨?_, hdestroyed⟩
  by_cases hheld : s.heldH h = true
  · have hname := handleOf_held s h hheld
    rw [hname] at hdestroyed
    cases hops : s.opsOn h with
    | false => exact slot_dead_liveH _ h (hdestroyed hops)
    | true =>
      cases hlive : s.liveH h with
      | true => exact (keyUnload_spec s h (celOp ⟨0, 0, 0, 0, false, 0⟩ 0 0 0 [] none) hlive).2.2.1
      | false =>
        have hstays : s.destroy (hSlot h) = s := by
          unfold State.destroy
          dsimp only
          rw [hname, hops, hlive]
          rfl
        rw [hstays, hlive]
  · have hgone : s.heldH h = false := by simpa using hheld
    have hnot : (s.destroy (hSlot h)).heldH h = false := by
      rcases (destroyed_destroy s (hSlot h)).slots (hSlot h) with he | hdead
      · unfold State.heldH at hgone ⊢
        rw [he]
        exact hgone
      · unfold State.heldH
        rw [hdead, Bool.and_false]
    unfold State.liveH
    rw [hnot, Bool.false_and]

theorem cmdRemove_ok (s : State) (j : EnvJob) (i : Issuer) (k : Nat) (hz : Bytes.num j.payload 2 2 = 0)
    (hi : s.issuer (Bytes.num j.payload 0 2) = some i) (hslot : s.cmdSlot = some k)
    (hlast : Bytes.num j.payload 0 2 ≠ 0 ∨ s.cmd.issuers.length ≤ 1) : s.cmdRemove j =
      ((((s.destroy (hSlot i.handle)).modCmd (fun c => { c with
        issuers := c.issuers.filter (fun x => x.id != Bytes.num j.payload 0 2) })).recCommit k 0
          (issuerRec 2 (Bytes.num j.payload 0 2) 0 s.nextSerial [])).cmdWait j .remove k) := by
  unfold State.cmdRemove
  dsimp only
  rw [if_neg (not_not.mpr hz), hi, hslot]
  exact if_neg (by omega)

theorem cmdRemove_spec (s : State) (j : EnvJob) (i : Issuer) (k : Nat) (hz : Bytes.num j.payload 2 2 = 0)
    (hi : s.issuer (Bytes.num j.payload 0 2) = some i) (hslot : s.cmdSlot = some k)
    (hlast : Bytes.num j.payload 0 2 ≠ 0 ∨ s.cmd.issuers.length ≤ 1) :
    let t := s.cmdRemove j
    t.liveH i.handle = false ∧ (s.opsOn (handleOf (hSlot i.handle) (s.slot (hSlot i.handle)).gen) = false →
      (t.slot (hSlot i.handle)).live = false) ∧ t.cmd.issuers = s.cmd.issuers.filter (fun x => x.id != Bytes.num j.payload 0 2) ∧
    (t.adm (17 + k)).st = .waiting ∧ t.cmd.running = some { j with wait := .remove, slot := k } := by
  obtain ⟨hlive, hdead⟩ := destroy_issuer s i.handle
  have hcmd : (s.destroy (hSlot i.handle)).cmd = s.cmd := (congrArg State.cmd (destroyed_destroy s (hSlot i.handle)).frame).trans rfl
  dsimp only
  rw [cmdRemove_ok s j i k hz hi hslot hlast]
  generalize s.destroy (hSlot i.handle) = u at *
  obtain ⟨hst, hcel, -, hissuers, hrunning⟩ := recCommit_wait
    (u.modCmd (fun c => { c with issuers := c.issuers.filter (fun x => x.id != Bytes.num j.payload 0 2) })) k
    (issuerRec 2 (Bytes.num j.payload 0 2) 0 s.nextSerial []) { j with wait := .remove, slot := k }
  refine ⟨?_, fun hops => ?_, ?_, hst, hrunning⟩
  · exact (liveH_congr _ (congrArg CelState.slots hcel) (congrArg CelState.doomed hcel)).trans hlive
  · exact (congrArg Slot.live (slot_congr _ (congrArg CelState.slots hcel))).trans (hdead hops)
  · have hfilter : u.cmd.issuers.filter (fun x => x.id != Bytes.num j.payload 0 2) =
        s.cmd.issuers.filter (fun x => x.id != Bytes.num j.payload 0 2) := by rw [hcmd]
    exact hissuers.trans hfilter

/-! ### The commands -/

section
variable (s : State) (j : EnvJob) (hrun : s.cmd.running = some j) (hwait : j.wait = .none)
include hrun hwait

theorem lcTransition_spec (hcode : j.cmd = 1) :
    (s.reqCheck j.payload 1 ≠ stOk → exec .cmdLcTransition s = .next (s.cmdEnd j (s.reqCheck j.payload 1))) ∧
    (∀ x, s.reqCheck j.payload 1 = stOk → s.lcCheck (Bytes.num j.payload 0x11 1) = stOk → lcOfCode (Bytes.num j.payload 0x11 1) = some x →
      s.lcCopy 0 ≠ x.fuseCode → ∃ t, exec .cmdLcTransition s = .next t ∧ t.lcf.transit = some (x, .copyA) ∧
        t.cmd = { s.cmd with running := some { j with wait := .lcTransition, slot := 0 } } ∧ (t.adm 16).st = .waiting ∧
        (t.adm 16).what = .lcf (.lcCopy 0 x)) := by
  have hexec : exec .cmdLcTransition s = .next (s.cmdLc j) := congrArg _ (command_runs s j 1 State.cmdLc hrun hwait hcode)
  exact ⟨fun hbad => hexec.trans (congrArg _ (cmdLc_bad s j hbad)),
    fun x hreq hlc hx hcopy => ⟨_, hexec, cmdLc_ok s j x hreq hlc hx hcopy⟩⟩

theorem debugGrant_spec (hcode : j.cmd = 2) :
    (s.reqCheck j.payload 2 ≠ stOk → exec .cmdDebugGrant s = .next (s.cmdEnd j (s.reqCheck j.payload 2))) ∧
    (s.reqCheck j.payload 2 = stOk → exec .cmdDebugGrant s =
      .next ((s.dbgGrant 0 (wd (Bytes.num j.payload 0x12 2))).cmdEnd j (if s.dbgOk (Bytes.num j.payload 0x12 2) then stOk else stStateForbids))) := by
  have hexec : exec .cmdDebugGrant s = .next (s.cmdDbg j) := congrArg _ (command_runs s j 2 State.cmdDbg hrun hwait hcode)
  rw [hexec, cmdDbg_eq]
  exact ⟨fun hbad => congrArg _ (if_pos hbad), fun hok => congrArg _ (if_neg (not_not.mpr hok))⟩

theorem policySet_spec (hcode : j.cmd = 4) : (policyField j.payload = none → exec .cmdPolicySet s = .next (s.cmdEnd j stBadOpcode)) ∧
    (∀ i v, policyField j.payload = some (i, v) →
      (s.fuseCheck i v.length ≠ stOk → exec .cmdPolicySet s = .next (s.cmdEnd j (s.fuseCheck i v.length))) ∧
      (s.fuseCheck i v.length = stOk → ∃ t, exec .cmdPolicySet s = .next t ∧ (t.adm 16).st = .waiting ∧ (t.adm 16).cls = 1 ∧
        (t.adm 16).what = .lcf (.field i v) ∧
        t = { s with cis := t.cis, cmd := { s.cmd with running := some { j with wait := .fuse, slot := 0 } } })) := by
  have hexec : exec .cmdPolicySet s = .next (s.cmdPolicy j) := congrArg _ (command_runs s j 4 State.cmdPolicy hrun hwait hcode)
  refine ⟨fun hnone => hexec.trans (congrArg _ (cmdPolicy_none s j hnone)), fun i v hsome => ?_⟩
  rw [cmdPolicy_some s j i v hsome] at hexec
  exact ⟨fun hbad => hexec.trans (congrArg _ (cmdFuse_bad s j i v hbad)), fun hok => ⟨_, hexec, cmdFuse_ok s j i v hok⟩⟩

theorem revoke_spec (hcode : j.cmd = 6) (imgs : List ImageSeen) (hk : Bytes.num j.payload 0 1 ≤ 15)
    (hz : allZero (Bytes.slice j.payload 1 3) = true) :
    (s.revoked.testBit (Bytes.num j.payload 0 1) = true → exec (.cmdRevoke imgs) s = .next (s.cmdEnd j stOk)) ∧
    (s.revoked.testBit (Bytes.num j.payload 0 1) = false → s.revokeOk imgs (Bytes.num j.payload 0 1) = false →
      exec (.cmdRevoke imgs) s = .next (s.cmdEnd j stStateForbids)) ∧
    (s.revoked.testBit (Bytes.num j.payload 0 1) = false → s.revokeOk imgs (Bytes.num j.payload 0 1) = true → s.fuseCheck 928 2 = stOk →
      ∃ t, exec (.cmdRevoke imgs) s = .next t ∧ (t.adm 16).what = .lcf (.field 928 (leBytes 2 (2 ^ Bytes.num j.payload 0 1))) ∧
        (t.adm 16).st = .waiting ∧ t = { s with cis := t.cis, cmd := { s.cmd with running := some { j with wait := .fuse, slot := 0 } } }) := by
  have hexec : exec (.cmdRevoke imgs) s = .next (s.cmdRevoke imgs j) := congrArg _ (command_runs s j 6 _ hrun hwait hcode)
  obtain ⟨hdone, hforbid, hgo⟩ := cmdRevoke_spec s imgs j hk hz
  refine ⟨fun hbit => hexec.trans (congrArg _ (hdone hbit)), fun hbit hok => hexec.trans (congrArg _ (hforbid hbit hok)),
    fun hbit hok hcheck => ?_⟩
  rw [hgo hbit hok] at hexec
  obtain ⟨hst, -, hwhat, hframe⟩ := cmdFuse_ok s j 928 (leBytes 2 (2 ^ Bytes.num j.payload 0 1)) (by rw [leBytes_length]; exact hcheck)
  exact ⟨_, hexec, hwhat, hst, hframe⟩

theorem imageActivate_spec (hcode : j.cmd = 5) (scan : ClassScan) :
    (allZero (Bytes.slice j.payload 1 3) = false → exec (.cmdImageActivate scan) s = .next (s.cmdEnd j stBadOpcode)) ∧
    (allZero (Bytes.slice j.payload 1 3) = true →
      ((Bytes.num j.payload 0 1 = 0 ∨ 64 ≤ Bytes.num j.payload 0 1 ∨ s.classPorts (Bytes.num j.payload 0 1) = []) →
        exec (.cmdImageActivate scan) s = .next (s.cmdEnd j stStateForbids)) ∧
      (∀ k, k = Bytes.num j.payload 0 1 → 0 < k → k < 64 → s.classPorts k ≠ [] →
        (s.inRecovery k = true → exec (.cmdImageActivate scan) s = .next (s.cmdEnd j stBusy)) ∧
        (s.inRecovery k = false →
          (s.newerPorts k scan = [] → exec (.cmdImageActivate scan) s = .next (s.cmdEnd j stStateForbids)) ∧
          (∀ x l, s.newerPorts k scan = x :: l → ∃ r : State × Bool, r = (s.holdLines (s.classLines k)).activateAll k (x :: l) ∧
            exec (.cmdImageActivate scan) s = .next (if r.2 then ((r.1.freeLines (s.classLines k)).serves k (manSecVersion x.2)).cmdEnd j stOk
              else ({ s with freeCtr := r.1.freeCtr }).cmdEnd j stStateForbids))))) := by
  have hexec : exec (.cmdImageActivate scan) s = .next (s.cmdActivate scan j) := congrArg _ (command_runs s j 5 _ hrun hwait hcode)
  refine ⟨fun hz => hexec.trans (congrArg _ (cmdActivate_reserved s scan j hz)), fun hz =>
    ⟨fun hno => hexec.trans (congrArg _ (cmdActivate_noClass s scan j hz hno)), fun k hk hpos hlt hports => ?_⟩⟩
  subst hk
  have hclass : ¬ s.noClass (Bytes.num j.payload 0 1) := by
    unfold State.noClass
    simp only [hports, or_false]
    omega
  obtain ⟨hbusy, hgo⟩ := cmdActivate_class s scan j hz hclass
  refine ⟨fun hrec => hexec.trans (congrArg _ (hbusy hrec)), fun hrec => ⟨fun hnil => hexec.trans (congrArg _ ((hgo hrec).1 hnil)),
    fun x l hcons => ⟨_, rfl, hexec.trans (congrArg _ (((hgo hrec).2 x l hcons).trans (activateRun_eq s _ _ _ j)))⟩⟩⟩

theorem keyImportCmd_spec (hcode : j.cmd = 3) (h6 : dw (importDesc j) 6 = 0) (h7 : dw (importDesc j) 7 = 0) (io : JobIo)
    (hio : io = { data := j.payload.drop 48, list := [], fault := false, aux := [], auxFault := false, writeFault := false }) :
    ((s.celPre (importDesc j) io).1 ≠ stOk → exec .cmdKeyImport s = .next (s.cmdEnd j (s.celPre (importDesc j) io).1)) ∧
    (∀ c i, (s.celPre (importDesc j) io).1 = stOk → s.importCheck j.src.issuer (importDesc j) io.data = stOk →
      openBlob (s.slot (hSlot (cHandle (importDesc j)))).ctx.material s.cel.bootNonce io.data = some c →
      s.allocAt j.src.issuer = some i → ∃ u : State, exec .cmdKeyImport s = .next (u.envEnd j stOk (handleOf i (s.slot i).gen).toNat []) ∧
        u.slot i = { st := .loaded, gen := (s.slot i).gen, ctx := { c with
          owner := j.src.issuer, domain := domainOf j.src.issuer, epoch := s.blobEpoch (domainOf j.src.issuer) } }) := by
  have hexec : exec .cmdKeyImport s = .next (s.cmdImport j) := congrArg _ (command_runs s j 3 State.cmdImport hrun hwait hcode)
  exact ⟨fun hbad => hexec.trans (congrArg _ (cmdImport_bad s j io hio h6 h7 hbad)), fun c i hpre hcheck hopen hi =>
    ⟨_, hexec.trans (congrArg _ (cmdImport_ok s j c i io hio h6 h7 hpre hcheck hopen hi)), slot_imported s j c i io.data hcheck hi⟩⟩

theorem issuerRegister_spec (k : Nat) (hslot : s.cmdSlot = some k) (hcode : j.cmd = 9) (hz : allZero (Bytes.slice j.payload 4 4) = true)
    (h0 : Bytes.num j.payload 0 2 ≠ 0) (hmax : Bytes.num j.payload 0 2 ≠ 0xFFFF) (hnew : s.issuer (Bytes.num j.payload 0 2) = none)
    (hrights : Bytes.num j.payload 2 2 < 256) (hroom : s.cmd.issuers.length < 64)
    (hpub : Config.kexPeerOk 0 (Bytes.slice j.payload 8 1568) = true) (hcheck : s.wrapCheck = stOk) (key : Bytes) (i : Nat)
    (hkey : s.wrapKey 0 (s.blobEpoch 0) = some key) (hi : s.allocAt 0 = some i) : ∃ t, exec .cmdIssuerRegister s = .next t ∧
      (t.adm (17 + k)).st = .waiting ∧ (t.slot i).ctx.type = 9 ∧ (t.slot i).st = .loaded ∧ t.cmd.issuers = s.cmd.issuers ∧
      ∃ iss ct x, t.cmd.running = some x ∧ x.wait = .register iss ct ∧
        iss.id = Bytes.num j.payload 0 2 ∧ iss.rights = Bytes.num j.payload 2 2 ∧ iss.serial = s.nextSerial := by
  have hexec : exec .cmdIssuerRegister s = .next (s.cmdRegister j) := congrArg _ (command_runs s j 9 State.cmdRegister hrun hwait hcode)
  rw [cmdRegister_ok s j hz h0 hmax hnew hrights hroom] at hexec
  obtain ⟨hst, hmade, hissuers, -, hrunning⟩ := establish_spec s j (Bytes.num j.payload 0 2) (Bytes.num j.payload 2 2)
    (Bytes.slice j.payload 8 1568) (fun s st => s.cmdEnd j st) key i k hpub hcheck hkey hi hslot
  generalize s.establish j _ _ _ _ = t at *
  refine ⟨t, hexec, hst, ?_, ?_, hissuers, _, _, _, hrunning, rfl, rfl, rfl, rfl⟩
  · rw [hmade]
    rfl
  · rw [hmade]

end

/-- Settles O45. -/
theorem acceptedCommandsSubmitTheirCommit : Obligations.AcceptedCommandsSubmitTheirCommit := by
  unfold Obligations.AcceptedCommandsSubmitTheirCommit
  intro s j hrun hwait
  refine ⟨lcTransition_spec s j hrun hwait, debugGrant_spec s j hrun hwait,
    fun hcode h6 h7 _ io hio => keyImportCmd_spec s j hrun hwait hcode h6 h7 io hio, policySet_spec s j hrun hwait,
    fun hcode scan => imageActivate_spec s j hrun hwait hcode scan,
    fun hcode imgs hk hz => revoke_spec s j hrun hwait hcode imgs hk hz,
    fun k hslot => ⟨fun hcode hz hcheck => ?_, fun hcode hex => ?_, fun hcode hz h0 hmax hnew hrights hroom hpub hcheck key i hkey hi =>
      issuerRegister_spec s j hrun hwait k hslot hcode hz h0 hmax hnew hrights hroom hpub hcheck key i hkey hi,
      fun hcode hz i hi hlast => ?_⟩⟩
  · exact ⟨_, congrArg Host.Outcome.next (command_runs s j 7 State.cmdBlob hrun hwait hcode), cmdBlob_ok s j k hslot hz hcheck⟩
  · exact ⟨_, congrArg Host.Outcome.next (command_runs s j 8 State.cmdEpoch hrun hwait hcode), cmdEpoch_ok s j k hslot hex⟩
  · exact ⟨_, congrArg Host.Outcome.next (command_runs s j 10 State.cmdRemove hrun hwait hcode), cmdRemove_spec s j i k hz hi hslot hlast⟩

end Sys2Proof.Machine
end

section
/-! PROOFS. Queues and rings: pointers, states, fetch, start and completion; O43. -/
namespace Sys2Proof.Machine

/-! ### What operations leave of a queue -/

section
variable {s t : State}

theorem queue_congr (q : Nat) (h : t.hq = s.hq) : t.queue q = s.queue q := by
  unfold State.queue
  rw [h]

theorem memOn_congr (m : Master) (hfns : t.hq.fns = s.hq.fns) (hflr : t.hq.flrPending = s.hq.flrPending) : t.memOn m = s.memOn m := by
  unfold State.memOn State.fn
  rw [hfns, hflr]

end

theorem queue_count (s : State) (k q : Nat) : (s.count k).queue q = s.queue q := queue_congr q (by simp)

theorem queue_refuse (s : State) (m : Master) (a q : Nat) : (s.refuse m a).queue q = s.queue q :=
  queue_congr q ((congrArg State.hq (refuse_routed s m a)).trans rfl)

theorem queue_qError (s : State) (q cause slot k : Nat) : (s.qError q cause slot).queue k =
    if k = q then { s.queue q with st := .error, cause := cause, errSlot := slot } else s.queue k := by
  unfold State.qError
  dsimp only
  split_ifs with hcount hk hk
  · rw [queue_count, State.queue_setQueue, if_pos hk]
  · rw [queue_count, State.queue_setQueue, if_neg hk]
  · rw [State.queue_setQueue, if_pos hk]
  · rw [State.queue_setQueue, if_neg hk]

theorem queue_qNote (s : State) (q cause k : Nat) : (s.qNote q cause).queue k =
    if k = q then { s.queue q with cause := cause, errSlot := (Config.freeWord s.freeCtr).toNat % 4096 } else s.queue k :=
  (queue_congr k rfl : (s.qNote q cause).queue k = _).trans (State.queue_setQueue ..)

/-- A queue with one more completion entry. -/
def Queue.pushed (x : Queue) (size : Nat) : Queue :=
  { x with cqTail := if size ≤ x.cqTail + 1 then 0 else x.cqTail + 1,
           phase := if (if size ≤ x.cqTail + 1 then 0 else x.cqTail + 1) = 0 then !x.phase else x.phase, done := satInc x.done }

/-- The completion entry of a descriptor. -/
def State.cqImage (s : State) (src : JobSrc) (opc : Nat) (st : Status) (result detail : Nat) : Bytes :=
  cqEntry src.tag st opc (s.queue src.ring).sqHead src.slot result detail (s.queue src.ring).phase

theorem cqWrite_host (s : State) (src : JobSrc) (opc : Nat) (st : Status) (result detail : Nat) (h : src.ring < 64) :
    s.cqWrite src opc st result detail = ((s.out (.completion src.ring (s.cqBase src.ring + 32 * (s.queue src.ring).cqTail)
      (s.cqImage src opc st result detail))).setQueue src.ring ((s.queue src.ring).pushed (s.qSize src.ring))).count (evQueue src.ring) := by
  unfold State.cqWrite
  exact if_pos h

theorem cqWrite_ring (s : State) (src : JobSrc) (opc : Nat) (st : Status) (result detail : Nat) (h : ¬ src.ring < 64) :
    s.cqWrite src opc st result detail = (((s.flight 0x04 (BitVec.ofNat 8 (src.ring - 64)) (s.cqImage src opc st result detail)).setBytes
      ((s.flight 0x04 (BitVec.ofNat 8 (src.ring - 64)) (s.cqImage src opc st result detail)).cqBase src.ring +
        32 * (s.queue src.ring).cqTail) (s.cqImage src opc st result detail)).setQueue src.ring
      ((s.queue src.ring).pushed (s.qSize src.ring))).ringIrq (src.ring - 64) := by
  unfold State.cqWrite
  exact if_neg h

theorem queue_ringIrq (s : State) (h k : Nat) : (s.ringIrq h).queue k = s.queue k := by
  unfold State.ringIrq
  split_ifs
  · exact queue_congr k (by simp)
  · rfl

theorem queue_cqWrite (s : State) (src : JobSrc) (opc : Nat) (st : Status) (result detail k : Nat) :
    (s.cqWrite src opc st result detail).queue k =
      if k = src.ring then (s.queue src.ring).pushed (s.qSize src.ring) else s.queue k := by
  by_cases h : src.ring < 64
  · rw [cqWrite_host s src opc st result detail h, queue_count, State.queue_setQueue]
    rfl
  · rw [cqWrite_ring s src opc st result detail h, queue_ringIrq, State.queue_setQueue]
    split_ifs
    · rfl
    · exact queue_congr k (by simp)

/-- A queue without a descriptor. -/
def Queue.without (x : Queue) (slot seq : Nat) : Queue := { x with fetched := x.fetched.filter (fun e => !e.named slot seq) }

theorem entry_without (x : Queue) (slot seq : Nat) : (x.without slot seq).entry slot seq = none := by
  refine List.find?_eq_none.mpr fun e he => ?_
  have hne := (List.mem_filter.mp he).2
  simpa using hne

theorem entryDone_eq (s : State) (src : JobSrc) (opc : Nat) (st : Status) (result detail : Nat) :
    s.entryDone src opc st result detail =
      if (s.queue src.ring).cqFault then s.setQueue src.ring ((s.queue src.ring).without src.slot src.seq)
      else if src.cqFail then
        ((s.setQueue src.ring ((s.queue src.ring).without src.slot src.seq)).setQueue src.ring
          { (s.setQueue src.ring ((s.queue src.ring).without src.slot src.seq)).queue src.ring with cqFault := true }).qError src.ring 4 src.slot
      else (s.setQueue src.ring ((s.queue src.ring).without src.slot src.seq)).cqWrite src opc st result detail := rfl

/-- What a completion leaves of its queue. -/
theorem queue_entryDone (s : State) (src : JobSrc) (opc : Nat) (st : Status) (result detail : Nat) :
    (s.entryDone src opc st result detail).queue src.ring =
      if (s.queue src.ring).cqFault then (s.queue src.ring).without src.slot src.seq
      else if src.cqFail then
        { (s.queue src.ring).without src.slot src.seq with cqFault := true, st := .error, cause := 4, errSlot := src.slot }
      else ((s.queue src.ring).without src.slot src.seq).pushed (s.qSize src.ring) := by
  rw [entryDone_eq]
  split_ifs
  · rw [State.queue_setQueue, if_pos rfl]
  · rw [queue_qError, if_pos rfl, State.queue_setQueue, if_pos rfl, State.queue_setQueue, if_pos rfl]
  · rw [queue_cqWrite, if_pos rfl, State.queue_setQueue, if_pos rfl]
    rfl

theorem entry_entryDone (s : State) (src : JobSrc) (opc : Nat) (st : Status) (result detail : Nat) :
    ((s.entryDone src opc st result detail).queue src.ring).entry src.slot src.seq = none := by
  rw [queue_entryDone]
  split_ifs <;> exact entry_without _ _ _

/-- An entry keeps its name when it is changed otherwise. -/
theorem entry_modEntry (x : Queue) (slot seq : Nat) (f : QEntry → QEntry) (hf : ∀ e, (f e).slot = e.slot ∧ (f e).seq = e.seq)
    (h : (x.entry slot seq).isSome) : ((x.modEntry slot seq f).entry slot seq).isSome := by
  unfold Queue.entry Queue.modEntry at *
  rw [List.find?_isSome] at *
  obtain ⟨e, he, hname⟩ := h
  refine ⟨f e, List.mem_map.mpr ⟨e, he, if_pos hname⟩, ?_⟩
  simpa [QEntry.named, hf] using hname

theorem entry_of_srcOk (s : State) (src : JobSrc) (d : Desc) (hring : src.ring < 69) (h : s.srcOk src d = true) :
    ((s.queue src.ring).entry src.slot src.seq).isSome := by
  unfold State.srcOk at h
  rw [if_pos hring] at h
  cases he : (s.queue src.ring).entry src.slot src.seq with
  | none => rw [he] at h; simp at h
  | some e => rfl

theorem complete_entry (s : State) (src : JobSrc) (opc : Nat) (st : Status) (result detail : Nat) (hring : src.ring < 69)
    (h : ((s.queue src.ring).entry src.slot src.seq).isSome) : s.complete src opc st result detail =
      if s.memOn src.issuer then s.entryDone src opc st result detail else (s.take src).stall (.entry src opc st result detail) := by
  unfold State.complete
  rw [if_neg (by omega), if_neg]
  simpa [Option.isSome_iff_ne_none] using h

/-! ### Enable, disable and pointers -/

theorem qEnable_open (s : State) (m : Master) (a q : Nat) (ok : Bool) (h : (s.queue q).st ≠ .disabled) :
    s.qEnable m a q ok = s.refuse m a := if_pos h

theorem qEnable_ok (s : State) (m : Master) (a q : Nat) (h : (s.queue q).st = .disabled) :
    s.qEnable m a q true = s.setQueue q (s.queue q).opened := (if_neg (not_not.mpr h)).trans (if_pos rfl)

theorem qEnable_bad (s : State) (m : Master) (a q : Nat) (h : (s.queue q).st = .disabled) : s.qEnable m a q false = s.qNote q 5 :=
  (if_neg (not_not.mpr h)).trans (if_neg Bool.false_ne_true)

theorem qDisable_open (s : State) (m : Master) (a q : Nat) (h : (s.queue q).st = .enabled ∨ (s.queue q).st = .error) :
    s.qDisable m a q = s.setQueue q { s.queue q with st := .draining } := by
  unfold State.qDisable State.when
  exact if_pos (by rcases h with h | h <;> rw [h] <;> rfl)

theorem qDisable_closed (s : State) (m : Master) (a q : Nat) (h : (s.queue q).st = .disabled ∨ (s.queue q).st = .draining) :
    s.qDisable m a q = s.refuse m a := by
  unfold State.qDisable State.when
  exact if_neg (by rcases h with h | h <;> rw [h] <;> decide)

/-- What recording an error in a queue that stays in its state changes. -/
theorem qNote_spec (s : State) (q cause : Nat) :
    let t := s.qNote q cause
    (t.queue q).cause = cause ∧ (t.queue q).st = (s.queue q).st ∧ (t.queue q).sqTail = (s.queue q).sqTail ∧
    (t.queue q).cqHead = (s.queue q).cqHead ∧ (∀ k, k ≠ q → t.queue k = s.queue k) ∧
    t = { s with hq := t.hq, freeCtr := s.freeCtr + 1 } := by
  dsimp only
  have hself := (queue_qNote s q cause q).trans (if_pos rfl)
  rw [hself]
  exact ⟨rfl, rfl, rfl, rfl, fun k hk => (queue_qNote s q cause k).trans (if_neg hk), rfl⟩

theorem qTail_closed (s : State) (m : Master) (a q : Nat) (v : Word) (h : (s.queue q).st ≠ .enabled) : s.qTail m a q v = s.refuse m a :=
  if_pos h

theorem qTail_ok (s : State) (m : Master) (a q : Nat) (v : Word) (h : (s.queue q).st = .enabled) (hv : Word.field v 11 0 < s.qSize q) :
    s.qTail m a q v = s.setQueue q { s.queue q with sqTail := Word.field v 11 0 } :=
  (if_neg (not_not.mpr h)).trans (if_neg (Nat.not_le.mpr hv))

theorem qTail_beyond (s : State) (m : Master) (a q : Nat) (v : Word) (h : (s.queue q).st = .enabled) (hv : s.qSize q ≤ Word.field v 11 0) :
    s.qTail m a q v = (s.refuse m a).qNote q 1 := (if_neg (not_not.mpr h)).trans (if_pos hv)

theorem qHead_ok (s : State) (m : Master) (a q : Nat) (v : Word) (hv : Word.field v 11 0 < s.qSize q)
    (hused : ringDist (s.qSize q) (s.queue q).cqHead (Word.field v 11 0) ≤ s.cqUsed q) :
    s.qHead m a q v = s.setQueue q { s.queue q with cqHead := Word.field v 11 0 } := if_neg (by omega)

theorem qHead_beyond (s : State) (m : Master) (a q : Nat) (v : Word)
    (h : s.qSize q ≤ Word.field v 11 0 ∨ s.cqUsed q < ringDist (s.qSize q) (s.queue q).cqHead (Word.field v 11 0)) :
    s.qHead m a q v = (s.refuse m a).qNote q 2 := if_pos h

theorem ringTail_ok (s : State) (q : Nat) (v : Word) (h : (s.queue q).st = .enabled) (hv : Word.field v 11 0 < s.qSize q) :
    s.ringTail q v = s.setQueue q { s.queue q with sqTail := Word.field v 11 0 } :=
  if_neg (not_or.mpr ⟨not_not.mpr h, Nat.not_le.mpr hv⟩)

theorem ringHead_ok (s : State) (q : Nat) (v : Word) (hv : Word.field v 11 0 < s.qSize q)
    (hused : ringDist (s.qSize q) (s.queue q).cqHead (Word.field v 11 0) ≤ s.cqUsed q) :
    s.ringHead q v = s.setQueue q { s.queue q with cqHead := Word.field v 11 0 } := if_neg (by omega)

/-- An access that is refused and noted in the queue. -/
theorem refused_qNote_spec (s : State) (m : Master) (a q cause : Nat) :
    let t := (s.refuse m a).qNote q cause
    (t.queue q).cause = cause ∧ (t.queue q).st = (s.queue q).st ∧ (t.queue q).sqTail = (s.queue q).sqTail ∧
    (t.queue q).cqHead = (s.queue q).cqHead := by
  obtain ⟨hcause, hst, htail, hhead, -, -⟩ := qNote_spec (s.refuse m a) q cause
  rw [queue_refuse] at hst htail hhead
  exact ⟨hcause, hst, htail, hhead⟩

theorem queueDrained_eq (s : State) (q : Nat) (hq : q < 69) (h : (s.queue q).st = .draining) :
    ((s.queue q).fetched = [] → exec (.queueDrained q) s = .next (s.setQueue q { s.queue q with st := .disabled })) ∧
    ((s.queue q).fetched ≠ [] → exec (.queueDrained q) s = .next s) :=
  ⟨fun hnil => congrArg _ (if_pos ⟨hq, h, hnil⟩), fun hne => congrArg _ (if_neg fun hc => hne hc.2.2)⟩

/-! ### Fetch -/

theorem fetch_closed (s : State) (q : Nat) (od : Option Desc) (h : s.mayFetch q = false) : exec (.descriptorFetch q od) s = .next s :=
  congrArg _ (if_pos (Or.inr (by rw [h]; rfl)))

theorem fetch_none (s : State) (q : Nat) (hq : q < 69) (h : s.mayFetch q = true) :
    exec (.descriptorFetch q none) s = .next (s.qError q 3 (s.queue q).sqHead) :=
  congrArg _ (if_neg (by rw [h]; simp only [Bool.not_true, Bool.false_eq_true, or_false]; omega))

theorem fetch_some (s : State) (q : Nat) (d : Desc) (hq : q < 69) (h : s.mayFetch q = true) :
    exec (.descriptorFetch q (some d)) s = .next (s.fetched q (if 64 ≤ q then s.ringDesc q else descOf d)) :=
  congrArg _ (if_neg (by rw [h]; simp only [Bool.not_true, Bool.false_eq_true, or_false]; omega))

theorem descriptorFetch_spec (s : State) (q : Nat) (od : Option Desc) (hq : q < 69) (h : s.mayFetch q = true) :
    ∃ t, exec (.descriptorFetch q od) s = .next t ∧
      (od = none → (t.queue q).st = .error ∧ (t.queue q).cause = 3 ∧ (t.queue q).fetched = (s.queue q).fetched) ∧
      (∀ x d, od = some x → d = (if 64 ≤ q then s.ringDesc q else descOf x) → t = s.fetched q d) := by
  cases od with
  | none =>
    have hself := (queue_qError s q 3 (s.queue q).sqHead q).trans (if_pos rfl)
    refine ⟨_, fetch_none s q hq h, fun _ => ?_, fun x d hx => absurd hx (by simp)⟩
    rw [hself]
    exact ⟨rfl, rfl, rfl⟩
  | some x =>
    refine ⟨_, fetch_some s q x hq h, fun hx => absurd hx (by simp), fun y d hy hd => ?_⟩
    rw [hd, Option.some.inj hy]

/-! ### Start -/

theorem start_none (s : State) (q slot : Nat) (h : (s.queue q).waiting slot = none) : exec (.descriptorStart q slot) s = .next s := by
  show execDescriptorStart q slot s = _
  unfold execDescriptorStart
  rw [h]
  split_ifs <;> rfl

theorem start_some (s : State) (q slot : Nat) (e : QEntry) (hq : q < 69) (h : (s.queue q).waiting slot = some e) :
    exec (.descriptorStart q slot) s = .next (if (s.queue q).mayStart q e then s.qStart q e else s) := by
  show execDescriptorStart q slot s = _
  unfold execDescriptorStart
  rw [if_pos hq, h]

/-- The state of a descriptor that has started. -/
def State.started (s : State) (q : Nat) (e : QEntry) : State :=
  s.setQueue q ((s.queue q).modEntry e.slot e.seq (fun x => { x with started := true, prio := s.eprio q }))

/-- A TKS job that ends as it starts is noted. -/
def State.startNoted (s : State) (q : Nat) (e : QEntry) (st : Status) : State :=
  if isTkJob q e.desc then s.tkErrLast st (dopc e.desc) (qSrc q e).issuer else s

theorem started_eq (s : State) (q : Nat) (e : QEntry) :
    s.setQueue q ((s.queue q).modEntry e.slot e.seq (fun x => { x with started := true, prio := s.eprio q })) = s.started q e := rfl

theorem startFail_started (s : State) (q : Nat) (e : QEntry) : (s.started q e).startFail q e.desc = s.startFail q e.desc := rfl

theorem qStart_runs (s : State) (q : Nat) (e : QEntry) (h : s.startFail q e.desc = none) : s.qStart q e = s.started q e := by
  unfold State.qStart
  dsimp only
  rw [started_eq, startFail_started, h]

theorem qStart_ends (s : State) (q : Nat) (e : QEntry) (st : Status) (h : s.startFail q e.desc = some st) :
    s.qStart q e = ((s.started q e).startNoted q e st).complete (qSrc q e) (dopc e.desc) st 0 0 := by
  unfold State.qStart
  dsimp only
  rw [started_eq, startFail_started, h]
  rfl

theorem hq_startNoted (s : State) (q : Nat) (e : QEntry) (st : Status) : (s.startNoted q e st).hq = s.hq := by
  unfold State.startNoted
  split_ifs <;> rfl

/-- A descriptor that waits to start is one of the fetched ones. -/
theorem entry_of_waiting (x : Queue) (slot : Nat) (e : QEntry) (h : x.waiting slot = some e) : (x.entry e.slot e.seq).isSome := by
  unfold Queue.entry
  rw [List.find?_isSome]
  exact ⟨e, List.mem_of_find?_eq_some h, by simp [QEntry.named]⟩

theorem qStart_ended_spec (s : State) (q slot : Nat) (e : QEntry) (st : Status) (hq : q < 69) (hw : (s.queue q).waiting slot = some e)
    (h : s.startFail q e.desc = some st) :
    (s.memOn (qSrc q e).issuer = true → ((s.qStart q e).queue q).entry e.slot e.seq = none) ∧
    (s.memOn (qSrc q e).issuer = false → (s.qStart q e).hq.stalled = s.hq.stalled ++ [.entry (qSrc q e) (dopc e.desc) st 0 0]) := by
  rw [qStart_ends s q e st h]
  have hhq := hq_startNoted (s.started q e) q e st
  generalize (s.started q e).startNoted q e st = u at hhq
  have hqueue : u.queue q = (s.queue q).modEntry e.slot e.seq (fun x => { x with started := true, prio := s.eprio q }) :=
    (queue_congr q hhq).trans ((State.queue_setQueue ..).trans (if_pos rfl))
  have hentry : ((u.queue q).entry e.slot e.seq).isSome := by
    rw [hqueue]
    exact entry_modEntry _ _ _ _ (fun _ => ⟨rfl, rfl⟩) (entry_of_waiting _ slot e hw)
  have hmem : u.memOn (qSrc q e).issuer = s.memOn (qSrc q e).issuer :=
    memOn_congr _ ((congrArg HqState.fns hhq).trans rfl) ((congrArg HqState.flrPending hhq).trans rfl)
  rw [complete_entry u (qSrc q e) (dopc e.desc) st 0 0 hq hentry, hmem]
  refine ⟨fun hon => ?_, fun hoff => ?_⟩
  · rw [if_pos hon]
    exact entry_entryDone u (qSrc q e) (dopc e.desc) st 0 0
  · rw [hoff, if_neg Bool.false_ne_true]
    obtain ⟨x, hx⟩ : ∃ x, u.take (qSrc q e) = u.setQueue q x := ⟨_, if_pos hq⟩
    rw [hx]
    show u.hq.stalled ++ [Stalled.entry (qSrc q e) (dopc e.desc) st 0 0] = _
    rw [hhq]
    rfl

/-! ### Completion -/

theorem entryDone_ok (s : State) (src : JobSrc) (opc : Nat) (st : Status) (result detail : Nat)
    (hfault : (s.queue src.ring).cqFault = false) (hfail : src.cqFail = false) : s.entryDone src opc st result detail =
      (s.setQueue src.ring ((s.queue src.ring).without src.slot src.seq)).cqWrite src opc st result detail := by
  rw [entryDone_eq, hfault, hfail]
  rfl

/-- What a completion entry of a queue says and counts. -/
theorem cqWrite_host_spec (s : State) (src : JobSrc) (opc : Nat) (st : Status) (result detail : Nat) (h : src.ring < 64) :
    let t := s.cqWrite src opc st result detail
    (∃ r, t.outbox = s.outbox ++ .completion src.ring (s.cqBase src.ring + 32 * (s.queue src.ring).cqTail)
      (s.cqImage src opc st result detail) :: r) ∧
    t.evt (evQueue src.ring) = (s.evt (evQueue src.ring)).bump := by
  dsimp only
  rw [cqWrite_host s src opc st result detail h]
  refine ⟨?_, (State.evt_count ..).trans (if_pos rfl)⟩
  obtain ⟨l, hl, -⟩ := told_count ((s.out (.completion src.ring (s.cqBase src.ring + 32 * (s.queue src.ring).cqTail)
    (s.cqImage src opc st result detail))).setQueue src.ring ((s.queue src.ring).pushed (s.qSize src.ring))) (evQueue src.ring)
  refine ⟨l, hl.trans ?_⟩
  exact List.append_assoc s.outbox [_] l

section
variable (x : Queue) (size slot seq : Nat)

theorem cqTail_pushed : (x.pushed size).cqTail = if size ≤ x.cqTail + 1 then 0 else x.cqTail + 1 := rfl

theorem done_pushed : (x.pushed size).done = satInc x.done := rfl

theorem cqTail_without : (x.without slot seq).cqTail = x.cqTail := rfl

theorem phase_without : (x.without slot seq).phase = x.phase := rfl

theorem sqHead_without : (x.without slot seq).sqHead = x.sqHead := rfl

theorem done_without : (x.without slot seq).done = x.done := rfl

end

theorem phase_pushed (x : Queue) (size : Nat) : (x.pushed size).phase = (x.phase != ((x.pushed size).cqTail == 0)) := by
  unfold Queue.pushed
  dsimp only
  generalize (if size ≤ x.cqTail + 1 then 0 else x.cqTail + 1) = n
  cases n <;> cases x.phase <;> rfl

/-- A NOP that its queue takes. -/
theorem nop_spec (s : State) (src : JobSrc) (d : Desc) (htakes : s.takesJob src d 0 = true) (hring : src.ring < 64)
    (hfault : (s.queue src.ring).cqFault = false) :
    ∃ t, exec (.nop src d) s = .next t ∧ (t.queue src.ring).entry src.slot src.seq = none ∧
      (src.cqFail = false → (∃ r, t.outbox = s.outbox ++ .completion src.ring (s.cqBase src.ring + 32 * (s.queue src.ring).cqTail)
          (cqEntry src.tag stOk 0 (s.queue src.ring).sqHead src.slot 0 0 (s.queue src.ring).phase) :: r) ∧
        (t.queue src.ring).cqTail = (if s.qSize src.ring ≤ (s.queue src.ring).cqTail + 1 then 0 else (s.queue src.ring).cqTail + 1) ∧
        (t.queue src.ring).phase = ((s.queue src.ring).phase != ((t.queue src.ring).cqTail == 0)) ∧
        (t.queue src.ring).done = satInc (s.queue src.ring).done ∧
        t.evt (evQueue src.ring) = (s.evt (evQueue src.ring)).bump) ∧
      (src.cqFail = true → (t.queue src.ring).st = .error ∧ (t.queue src.ring).cause = 4 ∧ (t.queue src.ring).errSlot = src.slot) := by
  have hok := htakes
  simp only [State.takesJob, Bool.and_eq_true] at hok
  obtain ⟨⟨⟨-, hsrc⟩, -⟩, hmem⟩ := hok
  obtain ⟨x, hx, hentry, htail, hphase, hdone, hhead, hxfault⟩ : ∃ x, s.take src = s.setQueue src.ring x ∧
      (x.entry src.slot src.seq).isSome ∧ x.cqTail = (s.queue src.ring).cqTail ∧ x.phase = (s.queue src.ring).phase ∧
      x.done = (s.queue src.ring).done ∧ x.sqHead = (s.queue src.ring).sqHead ∧ x.cqFault = false :=
    ⟨_, if_pos (by omega), entry_modEntry _ _ _ _ (fun _ => ⟨rfl, rfl⟩) (entry_of_srcOk s src d (by omega) hsrc), rfl, rfl, rfl, rfl,
      hfault⟩
  have hqueue : (s.setQueue src.ring x).queue src.ring = x := (State.queue_setQueue ..).trans (if_pos rfl)
  have hexec : exec (.nop src d) s = .next ((s.setQueue src.ring x).entryDone src 0 stOk 0 0) := by
    refine congrArg Host.Outcome.next ((job_of_takes s src d 0 _ htakes).trans ?_)
    rw [hx, complete_entry _ src 0 stOk 0 0 (by omega) (by rw [hqueue]; exact hentry)]
    exact if_pos ((memOn_congr _ rfl rfl).trans hmem)
  have hafter := queue_entryDone (s.setQueue src.ring x) src 0 stOk 0 0
  rw [hqueue, hxfault, if_neg Bool.false_ne_true] at hafter
  refine ⟨_, hexec, entry_entryDone _ _ _ _ _ _, fun hok => ?_, fun hfail => ?_⟩
  · rw [hok, if_neg Bool.false_ne_true] at hafter
    rw [hafter, entryDone_ok _ src 0 stOk 0 0 ((congrArg Queue.cqFault hqueue).trans hxfault) hok, hqueue]
    obtain ⟨hout, hevt⟩ := cqWrite_host_spec ((s.setQueue src.ring x).setQueue src.ring (x.without src.slot src.seq)) src 0 stOk 0 0 hring
    have himage : ((s.setQueue src.ring x).setQueue src.ring (x.without src.slot src.seq)).queue src.ring = x.without src.slot src.seq :=
      (State.queue_setQueue ..).trans (if_pos rfl)
    unfold State.cqImage at hout
    rw [himage, sqHead_without, phase_without, cqTail_without, hhead, hphase, htail] at hout
    refine ⟨hout, ?_, ?_, ?_, hevt⟩
    · rw [cqTail_pushed, cqTail_without, htail]
      rfl
    · rw [phase_pushed, phase_without, hphase]
    · rw [done_pushed, done_without, hdone]
  · rw [hfail, if_pos rfl] at hafter
    rw [hafter]
    exact ⟨rfl, rfl, rfl⟩

/-- Settles O43. -/
theorem queuesFollowTheirPointersAndStates : Obligations.QueuesFollowTheirPointersAndStates := by
  unfold Obligations.QueuesFollowTheirPointersAndStates
  refine ⟨fun s m q h => ?_, fun s m hart h => ?_, fun s q hq h => queueDrained_eq s q hq h, fun s m q v h => ?_, fun s m q v h => ?_,
    fun s hart v h => ?_, fun s q od hq => ⟨fetch_closed s q od, fun hmay => descriptorFetch_spec s q od hq hmay⟩,
    fun s q slot h => start_none s q slot h, fun s q slot e hq hw => ?_,
    fun s src d htakes hring hfault => nop_spec s src d htakes hring hfault⟩
  · have hen : exec (.queueEnable m q) s = .next (s.qEnable m (aQ q.val 0x54) q.val (s.qSizeOk q.val)) := guarded_next s m _ _ h
    have hdis : exec (.queueDisable m q) s = .next (s.qDisable m (aQ q.val 0x54) q.val) := guarded_next s m _ _ h
    refine ⟨fun hst => ?_, fun hst hsize => ?_, fun hst hsize => ?_, fun hst => ?_, fun hst => ?_⟩
    · rw [hen, qEnable_open s m _ _ _ hst]
    · rw [hen, hsize, qEnable_ok s m _ _ hst]
    · rw [hsize, qEnable_bad s m _ _ hst] at hen
      obtain ⟨hcause, hstays, -, -, hothers, hframe⟩ := qNote_spec s q.val 5
      exact ⟨_, hen, hstays.trans hst, hcause, hothers, hframe⟩
    · rw [hdis, qDisable_open s m _ _ hst]
    · rw [hdis, qDisable_closed s m _ _ hst]
  · have hen : exec (.ringEnable m hart) s = .next (s.qEnable m (aHart hart.val 0x5C) (64 + hart.val) (s.ringOk hart.val)) :=
      guarded_next s m _ _ h
    have hdis : exec (.ringDisable m hart) s = .next (s.qDisable m (aHart hart.val 0x5C) (64 + hart.val)) := guarded_next s m _ _ h
    refine ⟨fun hst hok => ?_, fun hst => ?_⟩
    · rw [hen, hok, qEnable_ok s m _ _ hst]
    · rw [hdis, qDisable_open s m _ _ hst]
  · have hexec : exec (.sqDoorbell m q v) s = .next (s.qTail m (aQ q.val 0x5C) q.val v) := guarded_next s m _ _ h
    refine ⟨fun hst => ?_, fun hst hv => ?_, fun hst hv => ?_⟩
    · rw [hexec, qTail_closed s m _ _ v hst]
    · rw [hexec, qTail_ok s m _ _ v hst hv]
    · rw [qTail_beyond s m _ _ v hst hv] at hexec
      obtain ⟨hcause, hstays, htail, -⟩ := refused_qNote_spec s m (aQ q.val 0x5C) q.val 1
      exact ⟨_, hexec, hcause, htail, hstays.trans hst⟩
  · have hexec : exec (.cqHeadWrite m q v) s = .next (s.qHead m (aQ q.val 0x64) q.val v) := guarded_next s m _ _ h
    refine ⟨fun hv hused => ?_, fun hbad => ?_⟩
    · rw [hexec, qHead_ok s m _ _ v hv hused]
    · rw [qHead_beyond s m _ _ v hbad] at hexec
      obtain ⟨hcause, -, -, hhead⟩ := refused_qNote_spec s m (aQ q.val 0x64) q.val 2
      exact ⟨_, hexec, hcause, hhead⟩
  · have hbell : exec (.ringDoorbell hart v) s = .next (s.ringTail (64 + hart.val) v) := congrArg _ (if_pos h)
    have hhead : exec (.ringCqHead hart v) s = .next (s.ringHead (64 + hart.val) v) := congrArg _ (if_pos h)
    refine ⟨fun hst hv => ?_, fun hv hused => ?_⟩
    · rw [hbell, ringTail_ok s _ v hst hv]
    · rw [hhead, ringHead_ok s _ v hv hused]
  · rw [start_some s q slot e hq hw]
    refine ⟨fun hno => by rw [hno]; rfl, fun hmay => ?_⟩
    rw [hmay, if_pos rfl]
    exact ⟨fun hnone => congrArg _ (qStart_runs s q e hnone), fun st hst => ⟨_, rfl, qStart_ended_spec s q slot e st hq hw hst⟩⟩

end Sys2Proof.Machine
end

section
/-! PROOFS. The flight recorder's exports, replays and board events; O54. -/
namespace Sys2Proof.Machine

/-! ### What a record changes -/

/-- `g` is the recorder `f` after records: only what holds and counts records differs, and none is uncounted. -/
structure FlrState.Logged (f g : FlrState) : Prop where
  frame : g = { f with boot := g.boot, ring := g.ring, tamper := g.tamper, nextSeq := g.nextSeq, records := g.records, wrPtr := g.wrPtr,
                       bootOpen := g.bootOpen, lost := g.lost, gap := g.gap }
  counted : f.records ≤ g.records

theorem logged_refl (f : FlrState) : f.Logged f := ⟨rfl, Nat.le_refl _⟩

theorem logged_trans {f g h : FlrState} (hfg : f.Logged g) (hgh : g.Logged h) : f.Logged h where
  frame := Eq.trans hgh.frame (congrArg (fun x : FlrState =>
    { x with boot := h.boot, ring := h.ring, tamper := h.tamper, nextSeq := h.nextSeq, records := h.records, wrPtr := h.wrPtr,
             bootOpen := h.bootOpen, lost := h.lost, gap := h.gap }) hfg.frame)
  counted := Nat.le_trans hfg.counted hgh.counted

theorem logged_putRec (s : State) (r : FlrRec) : s.flr.Logged (s.putRec r).flr := by
  have hcount : ∀ (u : State) (k : Nat), (u.count k).flr = u.flr := fun u k => by simp
  unfold State.putRec
  dsimp only
  split_ifs
  · exact ⟨rfl, Nat.le_succ _⟩
  · exact ⟨rfl, Nat.le_succ _⟩
  · rw [hcount]
    exact ⟨rfl, Nat.le_refl _⟩
  · rw [hcount]
    exact ⟨rfl, Nat.le_succ _⟩
  · exact ⟨rfl, Nat.le_succ _⟩

theorem logged_flight (s : State) (type : Nat) (src : Master) (body : Bytes) : s.flr.Logged (s.flight type src body).flr := by
  unfold State.flight
  dsimp only
  split_ifs
  · exact logged_refl _
  · exact logged_putRec s _
  · have hgap : s.flr.Logged ({ s with flr := { s.flr with gap := 0 } } : State).flr := ⟨rfl, Nat.le_refl _⟩
    exact logged_trans (logged_trans hgap (logged_putRec _ _)) (logged_putRec _ _)

theorem logged_answer (s : State) (m : Master) (a : Nat) (d : Bytes) : s.flr.Logged (s.answer m a d).flr := by
  unfold State.answer State.readOut
  split_ifs
  · exact logged_refl _
  · exact logged_flight s _ _ _
  · exact logged_refl _

theorem evt_answer (s : State) (m : Master) (a : Nat) (d : Bytes) (k : Nat) (h0 : k ≠ evFlr 0) (h2 : k ≠ evFlr 2) :
    (s.answer m a d).evt k = s.evt k := by
  unfold State.answer State.readOut
  split_ifs
  · rfl
  · exact evt_flight_other s _ _ _ k h0 h2
  · rfl

/-! ### The DRBG and CHECKPOINT -/

/-- `s` with a seed taken and not yet recorded. -/
def State.seeded (s : State) : State := { s with cel := { s.cel with reseeds := min 65535 (s.cel.reseeds + 1), drbgHealthy := true } }

theorem reseed_spec (s : State) : s.reseed.cel = { s.cel with reseeds := min 65535 (s.cel.reseeds + 1), drbgHealthy := true } ∧
    s.reseed = { s.recorded s.reseed with cel := s.reseed.cel, freeCtr := s.freeCtr + 1 } := by
  have hrec := State.flight_recorded s.seeded 0x0A 0x42 (leBytes 4 s.seeded.cel.reseeds ++ zeros 4 ++ Config.freeBytes s.seeded.freeCtr 16)
  have heq : s.reseed = (s.seeded.flight 0x0A 0x42 (leBytes 4 s.seeded.cel.reseeds ++ zeros 4 ++ Config.freeBytes s.seeded.freeCtr 16)).freed := rfl
  rw [heq]
  generalize State.flight _ _ _ _ = t at hrec ⊢
  rw [hrec]
  exact ⟨rfl, rfl⟩

theorem checkpoint_spec (s : State) (m : Master) (v : Word) : s.flr.records ≤ (s.checkpoint m v).flr.records ∧
    s.checkpoint m v = { s.recorded (s.checkpoint m v) with freeCtr := s.freeCtr + 1 } := by
  have hlog := logged_flight s 0x0F m (leBytes 4 v.toNat ++ zeros 4 ++ Config.freeBytes s.freeCtr 16)
  have hrec := State.flight_recorded s 0x0F m (leBytes 4 v.toNat ++ zeros 4 ++ Config.freeBytes s.freeCtr 16)
  unfold State.checkpoint
  generalize s.flight 0x0F m (leBytes 4 v.toNat ++ zeros 4 ++ Config.freeBytes s.freeCtr 16) = t at hlog hrec ⊢
  refine ⟨hlog.counted, ?_⟩
  rw [hrec]
  rfl

/-- No store of a hart reaches a register in a replay (R633). -/
theorem not_replaying_of_admits (s : State) (m : Master) (a : Nat) (h : s.admits m a = true) :
    ¬(s.flr.replay = .running ∧ isHart m = true) := by
  rintro ⟨hrun, hhart⟩
  have htakes : s.takes m = true := by
    unfold State.admits at h
    split at h
    · exact absurd h (by decide)
    · simp only [State.arrives, Bool.and_eq_true] at h
      exact h.1.1.1.1
  have hno := State.takes_replay s m htakes
  rw [hrun, hhart] at hno
  exact absurd hno (by decide)

/-! ### Exports -/

/-- The keys and draws of an export that starts. -/
def State.expKeyed (s : State) : State :=
  (if s.drew.drew.cel.flrvSeed = none then s.drew.drew.drew else s.drew.drew).recUse

theorem destroyed_recUse_flr (s : State) : s.recUse.flr = s.flr := by
  unfold State.recUse
  dsimp only
  split_ifs
  · exact ((congrArg State.flr (destroyed_lastUse _ _).frame).trans rfl).trans ((congrArg State.flr (takeUse_frame s _)).trans rfl)
  · exact (congrArg State.flr (takeUse_frame s _)).trans rfl
  · rfl

theorem flr_expKeyed (s : State) : s.expKeyed.flr = s.flr := by
  unfold State.expKeyed
  rw [destroyed_recUse_flr]
  split_ifs <;> rfl

/-- The record that an export seals. -/
def State.expRecord (s : State) : Bytes × Nat :=
  s.ebeth (Config.drbg s.drbgCtr 32) (Config.drbg (s.drbgCtr + 1) 32) (Config.drbg (s.drbgCtr + 2) 32)

/-- The recorder with an export under way. -/
def FlrState.exporting (f : FlrState) (m : Master) (win : Bool) (e : Bytes × Nat) : FlrState :=
  { f with exp := .running, expCode := 0, expMaster := m, expWin := win, expLegs := e.2, expData := e.1, expPos := 0,
           expTamper := f.tamper.isSome }

theorem ebeth_drew (s : State) (nonce dk r : Bytes) : s.drew.ebeth nonce dk r = s.ebeth nonce dk r := by
  unfold State.ebeth
  rfl

theorem expStart_eq (s : State) (m : Master) (win : Bool) : s.expStart m win =
    (s.expKeyed.modFlr (fun f => f.exporting m win s.expRecord)).setReg (aFlr1 0x5C) (wd s.expRecord.1.length) := by
  have hrec : s.drew.drew.ebeth (s.draw 32) (s.drew.draw 32) (s.drew.drew.draw 32) = s.expRecord := by
    rw [ebeth_drew, ebeth_drew]
    rfl
  unfold State.expStart State.expKeyed
  dsimp only
  rw [hrec]
  generalize s.expRecord = e
  generalize (if s.drew.drew.cel.flrvSeed = none then s.drew.drew.drew else s.drew.drew).recUse = u
  rfl

theorem expStart_spec (s : State) (m : Master) (win : Bool) : (s.expStart m win).flr = s.flr.exporting m win s.expRecord ∧
    (s.expStart m win).reg (aFlr1 0x5C) = wd s.expRecord.1.length := by
  have hflr := flr_expKeyed s
  rw [expStart_eq]
  generalize s.expRecord = e
  generalize s.expKeyed = u at hflr ⊢
  exact ⟨congrArg (fun f : FlrState => f.exporting m win e) hflr, (State.reg_setReg ..).trans (if_pos rfl)⟩

theorem expGo_refused (s : State) (m : Master) (win : Bool) (h : s.expMay m = false ∨ s.flr.exp = .running) :
    s.expGo m win = s.refuse m (aFlr1 0x4C) := by
  unfold State.expGo State.when
  exact if_neg (by rcases h with h | h <;> simp [h])

theorem expGo_starts (s : State) (m : Master) (win : Bool) (hmay : s.expMay m = true) (hidle : s.flr.exp ≠ .running) :
    s.expGo m win = s.expStart m win := by
  unfold State.expGo State.when
  exact if_pos (by simp [hmay, hidle])

/-- What the last byte of an export leaves. -/
theorem expDone_spec (s : State) :
    let t := s.expDone
    t.flr = { s.flr with exp := .done, expData := [] } ∧ t.evt (evFlr 1) = (s.evt (evFlr 1)).bump ∧
    t.tamp.exported = (s.tamp.exported || s.flr.expTamper) ∧ s.told t := by
  have hflr : ((s.modFlr (fun f => { f with exp := .done, expData := [] })).count (evFlr 1)).flr = { s.flr with exp := .done, expData := [] } := by
    simp [State.modFlr]
  have htamp : ((s.modFlr (fun f => { f with exp := .done, expData := [] })).count (evFlr 1)).tamp = s.tamp := by simp [State.modFlr]
  have hevt : ((s.modFlr (fun f => { f with exp := .done, expData := [] })).count (evFlr 1)).evt (evFlr 1) = (s.evt (evFlr 1)).bump :=
    (State.evt_count ..).trans (if_pos rfl)
  have htold := told_count (s.modFlr (fun f => { f with exp := .done, expData := [] })) (evFlr 1)
  unfold State.expDone
  dsimp only
  generalize (s.modFlr (fun f => { f with exp := .done, expData := [] })).count (evFlr 1) = u at *
  have hpinned : u.flr.expTamper = s.flr.expTamper := by rw [hflr]
  rw [hpinned]
  split_ifs with hp
  · exact ⟨hflr, hevt, by rw [hp, Bool.or_true]; rfl, htold⟩
  · refine ⟨hflr, hevt, ?_, htold⟩
    rw [htamp, Bool.eq_false_iff.mpr hp, Bool.or_false]

/-- `s` with EXP_DATA moved on by a word. -/
def State.expMoved (s : State) : State := s.modFlr (fun f => { f with expPos := f.expPos + 4 })

theorem expStep_idle (s : State) (m : Master) (h : s.expReads m = false) : s.expStep m = s := if_neg (by rw [h]; exact Bool.false_ne_true)

theorem expStep_more (s : State) (m : Master) (h : s.expReads m = true) (hmore : s.flr.expPos + 4 < s.flr.expData.length) :
    s.expStep m = s.expMoved := by
  unfold State.expStep
  dsimp only
  rw [if_pos h, decide_eq_false (by omega)]
  rfl

theorem expStep_last (s : State) (m : Master) (h : s.expReads m = true) (hlast : s.flr.expData.length ≤ s.flr.expPos + 4) :
    s.expStep m = s.expMoved.expDone := by
  unfold State.expStep
  dsimp only
  rw [if_pos h, decide_eq_true hlast]
  rfl

/-! ### EXP_DATA -/

/-- The page of the export and replay registers. -/
theorem read_expData (s : State) (m : Master) :
    s.readWord m (aFlr1 0x60) = s.expWord m ∧ s.readEff m (aFlr1 0x60) = s.expStep m := by
  constructor <;> rfl

theorem exportDataRead_eq (s : State) (m : Master) (h : s.arrives m 0x29 = true) : exec (.exportDataRead m) s =
    .next ((s.expStep m).answer m (aFlr1 0x60) (leBytes 4 (s.expWord m).toNat)) := by
  obtain ⟨hword, heff⟩ := read_expData s m
  have harr : s.arrives m (aFlr1 0x60 / 4096) = true := h
  have hexec : exec (.exportDataRead m) s = .next (s.read32 m (aFlr1 0x60)) := rfl
  rw [hexec, State.read32_of_arrives s m _ harr, heff, hword]

theorem exportDataRead_spec (s : State) (m : Master) (h : s.arrives m 0x29 = true) : ∃ t, exec (.exportDataRead m) s = .next t ∧
    t.outbox.getLast? = some (.readData m (pg 0x29 0x60) (leBytes 4 (s.expWord m).toNat)) ∧
    (s.expReads m = false → t.flr.expPos = s.flr.expPos ∧ t.flr.exp = s.flr.exp) ∧
    (s.expReads m = true → s.flr.expPos + 4 < s.flr.expData.length → t.flr.expPos = s.flr.expPos + 4 ∧ t.flr.exp = .running) ∧
    (s.expReads m = true → s.flr.expData.length ≤ s.flr.expPos + 4 → t.flr.exp = .done ∧ t.evt (evFlr 1) = (s.evt (evFlr 1)).bump ∧
      (s.flr.expTamper = true → t.tamp.exported = true)) := by
  have hlog := logged_answer (s.expStep m) m (aFlr1 0x60) (leBytes 4 (s.expWord m).toNat)
  have hrec := answer_recorded (s.expStep m) m (aFlr1 0x60) (leBytes 4 (s.expWord m).toNat)
  have hevt := evt_answer (s.expStep m) m (aFlr1 0x60) (leBytes 4 (s.expWord m).toNat) (evFlr 1) (by decide) (by decide)
  have hlast := answer_getLast (s.expStep m) m (aFlr1 0x60) (leBytes 4 (s.expWord m).toNat)
  refine ⟨_, exportDataRead_eq s m h, hlast, ?_⟩
  generalize (s.expStep m).answer m (aFlr1 0x60) (leBytes 4 (s.expWord m).toNat) = t at *
  have hpos : t.flr.expPos = (s.expStep m).flr.expPos := by rw [hlog.frame]
  have hexp : t.flr.exp = (s.expStep m).flr.exp := by rw [hlog.frame]
  have htamp : t.tamp = (s.expStep m).tamp := (congrArg State.tamp hrec).trans rfl
  rw [hpos, hexp, hevt, htamp]
  refine ⟨fun hno => ?_, fun hreads hmore => ?_, fun hreads hend => ?_⟩
  · rw [expStep_idle s m hno]
    exact ⟨rfl, rfl⟩
  · rw [expStep_more s m hreads hmore]
    simp only [State.expReads, Bool.and_eq_true, beq_iff_eq] at hreads
    exact ⟨rfl, hreads.1.1⟩
  · rw [expStep_last s m hreads hend]
    obtain ⟨hflr, hcount, htamper, -⟩ := expDone_spec s.expMoved
    refine ⟨by rw [hflr], hcount, fun hpinned => ?_⟩
    rw [htamper, show s.expMoved.flr.expTamper = true from hpinned, Bool.or_true]

theorem exportDone_spec (s : State) (ok : Bool) : ((s.flr.exp ≠ .running ∨ s.flr.expWin = true) → exec (.exportDone ok) s = .next s) ∧
    (s.flr.exp = .running → s.flr.expWin = false →
      (ok = false → exec (.exportDone ok) s = .next { s with flr := { s.flr with exp := .failed, expCode := stLengthShort, expData := [] } }) ∧
      (ok = true → ∃ t, exec (.exportDone ok) s = .next t ∧ t.flr = { s.flr with exp := .done, expData := [] } ∧
        .memWrite 0x10 s.expAddr s.flr.expData (s.fn 0).ctl.ero ∈ t.outbox ∧ t.evt (evFlr 1) = (s.evt (evFlr 1)).bump ∧
        t.tamp.exported = (s.tamp.exported || s.flr.expTamper))) := by
  refine ⟨fun hno => congrArg _ (if_neg ?_), fun hrun hwin => ?_⟩
  · rintro ⟨hrun, hwin⟩
    rcases hno with hno | hno
    · exact hno hrun
    · rw [hno] at hwin
      exact absurd hwin (by decide)
  · have hexec : exec (.exportDone ok) s = .next (s.expDma ok) := congrArg _ (if_pos ⟨hrun, by rw [hwin]; rfl⟩)
    refine ⟨fun hok => by rw [hexec, hok]; rfl, fun hok => ?_⟩
    have hdma : s.expDma true = (s.hostWrite 0x10 s.expAddr s.flr.expData).expDone := rfl
    rw [hok, hdma] at hexec
    rw [hok]
    obtain ⟨hflr, hevt, htamp, htold⟩ := expDone_spec (s.hostWrite 0x10 s.expAddr s.flr.expData)
    refine ⟨_, hexec, hflr, mem_told htold ?_, hevt, htamp⟩
    exact List.mem_append_right _ (List.mem_singleton.mpr rfl)

/-! ### Replays -/

theorem flr_roadStart (s : State) : s.roadStart.flr = s.flr := by
  have hcount : ∀ (u : State) (k : Nat), (u.count k).flr = u.flr := fun u k => by simp
  have hkick : ∀ u : State, u.lcKick.flr = u.flr := fun u => by
    unfold State.lcKick
    split_ifs
    · rfl
    · split
      · rfl
      · split <;> rfl
  have hboot : s.lcBoot.flr = s.flr := by
    unfold State.lcBoot
    dsimp only
    split_ifs <;> simp only [hkick, hcount]
  have hdraws : ∀ u : State, u.bootDraws.flr = u.flr := fun u => by
    unfold State.bootDraws
    dsimp only
    split_ifs <;> rfl
  have hmode : ∀ u : State, u.fp0Mode.flr = u.flr := fun u => rfl
  unfold State.roadStart
  rw [hdraws, hmode, hboot]

/-- A replay that is entered resets the device, which then is in the replay (R632). -/
theorem resetGo_replay (s : State) (hreset : s.pwr.replayReset = true) :
    (s.cis.inflight = none → s.resetGo.flr.replay = .pending ∧ s.resetGo.boot.rtReleased = false ∧ s.resetGo.boot.wipePending = true) ∧
    (s.cis.inflight ≠ none → s.resetGo = { s with pwr := { s.pwr with resetOwed := true } }) := by
  refine ⟨fun hidle => ?_, fun hbusy => ?_⟩
  · have hgo : s.resetGo = s.afterReset.roadStart := if_pos (by rw [hidle]; rfl)
    obtain ⟨-, -, -, hwipe, hrel, -⟩ := atStepOne_roadStart (booting_afterReset s)
    have hflr : s.afterReset.flr.replay = .pending := if_pos hreset
    rw [hgo]
    exact ⟨(congrArg FlrState.replay (flr_roadStart s.afterReset)).trans hflr, hrel, hwipe⟩
  · exact if_neg (by cases h : s.cis.inflight <;> simp_all)

theorem replayGo_refused (s : State) (m : Master) (h : s.replayMay m = false) : s.replayGo m = s.refuse m (aFlr1 0x64) := by
  unfold State.replayGo State.when
  exact if_neg (by rw [h]; exact Bool.false_ne_true)

/-- `s` entering a replay. -/
def State.enteringReplay (s : State) : State :=
  { s with flr := { s.flr with replay := .pending }, pwr := { s.pwr with replayReset := true } }

theorem replayGo_enters (s : State) (m : Master) (h : s.replayMay m = true) : s.replayGo m = s.enteringReplay.resetGo := by
  unfold State.replayGo State.when
  exact if_pos h

/-- Halting the harts below `n` one by one. -/
def State.haltBelow (s : State) (n : Nat) : State :=
  (List.range n).foldl (fun s h => if (s.hart h).st = .halted then s else s.setHart h { s.hart h with st := .halted, haltedFrom := (s.hart h).st }) s

theorem haltBelow_succ (s : State) (n : Nat) : s.haltBelow (n + 1) =
    if ((s.haltBelow n).hart n).st = .halted then s.haltBelow n
    else (s.haltBelow n).setHart n { (s.haltBelow n).hart n with st := .halted, haltedFrom := ((s.haltBelow n).hart n).st } := by
  unfold State.haltBelow
  rw [List.range_succ, List.foldl_append]
  rfl

theorem haltBelow_spec (s : State) (n : Nat) : (∀ h, h < n → ((s.haltBelow n).hart h).st = .halted) ∧
    s.haltBelow n = { s with harts := (s.haltBelow n).harts } := by
  induction n with
  | zero => exact ⟨fun h hh => absurd hh (by omega), rfl⟩
  | succ n ih =>
    obtain ⟨hhalted, hframe⟩ := ih
    rw [haltBelow_succ]
    generalize s.haltBelow n = u at hhalted hframe
    split_ifs with hn
    · refine ⟨fun h hh => ?_, hframe⟩
      rcases Nat.lt_succ_iff_lt_or_eq.mp hh with hlt | rfl
      · exact hhalted h hlt
      · exact hn
    · refine ⟨fun h hh => ?_, ?_⟩
      · rw [State.hart_setHart]
        split_ifs with heq
        · rfl
        · exact hhalted h (by omega)
      · rw [hframe]
        rfl

/-- A halted hart is not resumed. -/
theorem halted_resume (s : State) (k cause h : Nat) (hh : (s.hart h).st = .halted) : ((s.resume k cause).hart h).st = .halted := by
  unfold State.resume
  dsimp only
  split_ifs with hgo
  · rw [State.hart_setHart]
    split_ifs with heq
    · rw [← heq, hh] at hgo
      simp at hgo
    · exact hh
  · exact hh

theorem halted_deliver (s : State) (k h : Nat) (hh : (s.hart h).st = .halted) : ((s.deliver k).hart h).st = .halted := by
  have hmsix : ∀ f v, ((s.msixRequest f v).hart h).st = .halted := fun f v => by
    unfold State.msixRequest
    split_ifs <;> exact hh
  unfold State.deliver
  dsimp only
  split_ifs
  · exact halted_resume s _ _ h hh
  · exact hh
  · exact hmsix _ _
  · exact hmsix _ _
  · exact hh

theorem halted_count (s : State) (k h : Nat) (hh : (s.hart h).st = .halted) : ((s.count k).hart h).st = .halted := by
  unfold State.count State.deliverIfNew
  split_ifs
  · exact halted_deliver _ k h hh
  · exact hh

theorem replayStop_spec (s : State) (r : ReplayState) : (s.replayStop r).flr = { s.flr with replay := r } ∧
    (∀ h, h < 5 → ((s.replayStop r).hart h).st = .halted) ∧
    s.replayStop r = { s with flr := (s.replayStop r).flr, harts := (s.replayStop r).harts } := by
  have heq : s.replayStop r = (s.modFlr (fun f => { f with replay := r })).haltBelow 5 := rfl
  obtain ⟨hhalted, hframe⟩ := haltBelow_spec (s.modFlr (fun f => { f with replay := r })) 5
  rw [heq]
  generalize (s.modFlr (fun f => { f with replay := r })).haltBelow 5 = t at *
  refine ⟨(congrArg State.flr hframe).trans rfl, hhalted, ?_⟩
  rw [hframe]
  rfl

theorem replayEnds_spec (s : State) : ((s.flr.replay ≠ .running ∨ s.coreUp = false) → exec .replayDiverge s = .next s ∧
      exec .replayEnd s = .next s) ∧
    (s.flr.replay = .running → s.coreUp = true →
      (∃ t, exec .replayDiverge s = .next t ∧ t.flr.replay = .diverged ∧ (∀ h, h < 5 → (t.hart h).st = .halted) ∧
        t.evt (evFlr 3) = (s.evt (evFlr 3)).bump ∧ t.freeCtr = s.freeCtr + 1) ∧
      (∃ t, exec .replayEnd s = .next t ∧ t.flr = { s.flr with replay := .done } ∧ (∀ h, h < 5 → (t.hart h).st = .halted) ∧
        t = { s with flr := t.flr, harts := t.harts })) := by
  refine ⟨fun hno => ?_, fun hrun hup => ⟨?_, ?_⟩⟩
  · have hnot : ¬(s.flr.replay = .running ∧ s.coreUp = true) := by
      rintro ⟨hrun, hup⟩
      rcases hno with hno | hno
      · exact hno hrun
      · rw [hup] at hno
        exact absurd hno (by decide)
    exact ⟨congrArg _ (if_neg hnot), congrArg _ (if_neg hnot)⟩
  · obtain ⟨hflr, hhalted, hframe⟩ := replayStop_spec s .diverged
    refine ⟨_, congrArg Host.Outcome.next (if_pos ⟨hrun, hup⟩), ?_⟩
    generalize s.replayStop .diverged = u at *
    have hcount : ∀ (x : State) (k : Nat), (x.count k).flr = x.flr ∧ (x.count k).freeCtr = x.freeCtr := fun x k => by simp
    refine ⟨?_, fun h hh => halted_count _ _ h (hhalted h hh), (State.evt_count ..).trans ((if_pos rfl).trans ?_), ?_⟩
    · rw [(hcount _ _).1]
      exact congrArg FlrState.replay hflr
    · rw [hframe]
      rfl
    · rw [(hcount _ _).2, hframe]
      rfl
  · obtain ⟨hflr, hhalted, hframe⟩ := replayStop_spec s .done
    exact ⟨_, congrArg Host.Outcome.next (if_pos ⟨hrun, hup⟩), hflr, hhalted, hframe⟩

/-! ### Board events -/

/-- The number of a board event among those of SYS (R88). -/
theorem boardEvent_spec (s : State) (c : Instr) (k : Nat)
    (hc : (c = .sramCorrectedError false ∧ k = 6) ∨ (c = .sramCorrectedError true ∧ k = 7) ∨
      (c = .fabricTimeout ∧ k = 9) ∨ (c = .pllUnlock ∧ k = 10) ∨ (c = .refclkLoss ∧ k = 11)) :
    (s.coreUp = false → exec c s = .next s) ∧
    (s.coreUp = true → ∃ t, exec c s = .next t ∧ t.evt (evSys k) = (s.evt (evSys k)).bump ∧ (∀ j, j ≠ evSys k → t.evt j = s.evt j) ∧
      t = s.routed t) := by
  have hexec : exec c s = .next (if s.coreUp then s.count (evSys k) else s) := by
    rcases hc with ⟨rfl, rfl⟩ | ⟨rfl, rfl⟩ | ⟨rfl, rfl⟩ | ⟨rfl, rfl⟩ | ⟨rfl, rfl⟩ <;> rfl
  rw [hexec]
  refine ⟨fun hdown => by rw [hdown]; rfl, fun hup => ⟨_, congrArg _ (if_pos hup), ?_, fun j hj => ?_, State.count_routed s _⟩⟩
  · rw [State.evt_count, if_pos rfl]
  · rw [State.evt_count, if_neg hj]

/-- Settles O54. -/
theorem exportsReplaysAndBoardEvents : Obligations.ExportsReplaysAndBoardEvents := by
  unfold Obligations.ExportsReplaysAndBoardEvents
  refine ⟨fun s => ⟨fun hdown => congrArg _ (if_neg (by rw [hdown]; exact Bool.false_ne_true)), fun hup => ?_⟩,
    fun s m v => ⟨fun hrun hhart => ?_, fun h => ?_⟩,
    fun s m win c hc h => ?_, fun s m h => ?_, fun s m h => exportDataRead_spec s m h, fun s ok => exportDone_spec s ok, fun s m h => ?_,
    fun s => replayEnds_spec s, fun s c k hc => boardEvent_spec s c k hc⟩
  · exact ⟨_, congrArg Host.Outcome.next (if_pos hup), reseed_spec s⟩
  · exact congrArg _ (if_pos ⟨hrun, hhart⟩)
  · have hexec : exec (.checkpointWrite m v) s = .next (s.checkpoint m v) :=
      (congrArg _ (if_neg (not_replaying_of_admits s m _ h))).trans (guarded_next s m _ _ h)
    exact ⟨_, hexec, checkpoint_spec s m v⟩
  · have hexec : exec c s = .next (s.expGo m win) := by
      rw [hc]
      cases win <;> exact guarded_next s m _ _ h
    refine ⟨fun hno => hexec.trans (congrArg Host.Outcome.next (expGo_refused s m win hno)), fun hmay hidle => ?_⟩
    rw [expGo_starts s m win hmay hidle] at hexec
    exact ⟨_, s.expRecord, hexec, rfl, expStart_spec s m win⟩
  · have hexec : exec (.exportAbort m) s = .next s.expAbort := guarded_next s m _ _ h
    exact ⟨fun hno => hexec.trans (congrArg _ (if_neg hno)), fun hrun => hexec.trans (congrArg _ (if_pos hrun))⟩
  · have hexec : exec (.replayEnter m) s = .next (s.replayGo m) := guarded_next s m _ _ h
    refine ⟨fun hno => hexec.trans (congrArg Host.Outcome.next (replayGo_refused s m hno)), fun hmay => ⟨s.enteringReplay, rfl, ?_, ?_⟩⟩
    · rw [hexec, replayGo_enters s m hmay]
    · exact resetGo_replay s.enteringReplay rfl

end Sys2Proof.Machine
end

section
/-! PROOFS. Link ports: what leaves with a port, the handshake and the link keys (R531 to R538). -/
namespace Sys2Proof.Machine

/-! ### The slots of lost frames -/

/-- `t` is `s` after frames were lost: the ports keep all but the frames that wait in them and the slots that those free. -/
structure State.SlotsFreed (s t : State) : Prop where
  frame : t = { s with cvn := { s.cvn with ports := t.cvn.ports } }
  links : ∀ q, (t.link q).kept = (s.link q).kept

section
variable {r s t : State}

theorem slotsFreed_refl (s : State) : s.SlotsFreed s := ⟨rfl, fun _ => rfl⟩

theorem slotsFreed_trans (hrs : r.SlotsFreed s) (hst : s.SlotsFreed t) : r.SlotsFreed t where
  frame := Eq.trans hst.frame (congrArg (fun x : State => { x with cvn := { x.cvn with ports := t.cvn.ports } }) hrs.frame)
  links q := (hst.links q).trans (hrs.links q)

theorem slotsFreed_foldl {α : Type} (l : List α) (f : State → α → State) (hf : ∀ (u : State) (x : α), u.SlotsFreed (f u x)) (s : State) :
    s.SlotsFreed (l.foldl f s) :=
  List.foldlRecOn (motive := fun u : State => s.SlotsFreed u) l f (slotsFreed_refl s) fun u hu x _ => slotsFreed_trans hu (hf u x)

theorem slotsFreed_modLink (s : State) (p : Nat) (f : CvnPort → CvnPort) (h : (f (s.link p)).kept = (s.link p).kept) :
    s.SlotsFreed (s.modLink p f) where
  frame := rfl
  links q := by
    rw [State.modLink, link_setLink]
    split_ifs with hq
    · rw [hq, h]
    · rfl

theorem slotsFreed_slotFree (s : State) (o : Option Nat) : s.SlotsFreed (s.slotFree o) := by
  cases o with
  | none => exact slotsFreed_refl s
  | some q =>
    unfold State.slotFree
    dsimp only
    split_ifs
    · exact slotsFreed_modLink s q _ rfl
    · exact slotsFreed_refl s

theorem slotsFreed_copyGone (s : State) (e : CvnOut) : s.SlotsFreed (s.copyGone e) := by
  unfold State.copyGone
  split_ifs
  · exact slotsFreed_refl s
  · exact slotsFreed_slotFree s _

theorem slotsFreed_linkLost (s : State) (p : Nat) : s.SlotsFreed (s.linkLost p) :=
  slotsFreed_trans (slotsFreed_trans (slotsFreed_modLink s p _ rfl) (slotsFreed_foldl _ _ slotsFreed_copyGone _))
    (slotsFreed_foldl _ _ (fun u q => slotsFreed_modLink u q _ rfl) _)

end

/-! ### The key of a lost port -/

theorem doomed_destroyFor_live (s : State) (i : Nat) (why : Status) (h : (s.slot i).live = true) :
    (s.destroyFor i why).cel.doomed = s.cel.doomed.filter (fun x => x != handleOf i (s.slot i).gen) := by
  rw [destroyFor_eq, h, if_neg (by simp)]
  split_ifs
  · rw [show ∀ (u : State) (k : Nat), (u.count k).cel = u.cel from fun u k => by simp]
    rfl
  · rfl

/-- `s` once the context that a handle names, if any, is destroyed. -/
def State.dropKey (s : State) (h : Word) : State := if s.liveH h then s.destroy (hSlot h) else s

theorem dropKey_dead (s : State) (h : Word) (hdead : s.liveH h = false) : s.dropKey h = s := by
  rw [State.dropKey, hdead, if_neg (by simp)]

theorem dropKey_live (s : State) (h : Word) (hlive : s.liveH h = true) : s.dropKey h = s.destroy (hSlot h) := by
  rw [State.dropKey, if_pos hlive]

theorem destroyed_dropKey (s : State) (h : Word) : s.Destroyed (s.dropKey h) := by
  unfold State.dropKey
  split_ifs
  · exact destroyed_destroy s _
  · exact destroyed_refl s

theorem liveH_of_slot_dead (s : State) (h : Word) (hdead : (s.slot (hSlot h)).live = false) : s.liveH h = false := by
  simp [State.liveH, State.heldH, hdead]

/-- What a handle that names a live context loses with it: the handle at once, the slot once nothing runs on it. -/
theorem gone_dropKey (s : State) (h : Word) (hlive : s.liveH h = true) :
    (s.dropKey h).liveH h = false ∧ (s.opsOn h = false → ((s.dropKey h).slot (hSlot h)).live = false) := by
  rw [dropKey_live s h hlive]
  have hheld : s.heldH h = true := (Bool.and_eq_true_iff.mp hlive).1
  cases hops : s.opsOn h with
  | true =>
    rw [destroy_used s h hlive hops]
    exact ⟨by simp [State.liveH], fun hno => Bool.noConfusion hno⟩
  | false =>
    rw [destroy_idle s h hheld hops]
    have hdead := live_destroyFor s (hSlot h) stAborted
    exact ⟨liveH_of_slot_dead _ _ hdead, fun _ => hdead⟩

/-- No handle names a live context again. -/
theorem dead_dropKey (s : State) (h k : Word) (hdead : s.liveH k = false) : (s.dropKey h).liveH k = false := by
  cases hlive : s.liveH h with
  | false => rw [dropKey_dead s h hlive]; exact hdead
  | true =>
    have hheld : s.heldH h = true := (Bool.and_eq_true_iff.mp hlive).1
    rw [dropKey_live s h hlive]
    cases hops : s.opsOn h with
    | true =>
      rw [destroy_used s h hlive hops]
      show (s.heldH k && !(s.cel.doomed ++ [h]).contains k) = false
      have hk : (s.heldH k && !s.cel.doomed.contains k) = false := hdead
      cases hh : s.heldH k with
      | false => rfl
      | true =>
        rw [hh] at hk
        simp only [Bool.true_and, Bool.not_eq_false', List.contains_eq_mem, decide_eq_true_eq] at hk ⊢
        exact List.mem_append_left _ hk
    | false =>
      rw [destroy_idle s h hheld hops]
      by_cases hslot : hSlot k = hSlot h
      · exact liveH_of_slot_dead _ _ (by rw [hslot]; exact live_destroyFor s (hSlot h) stAborted)
      · have hne : k ≠ h := fun e => hslot (by rw [e])
        unfold State.liveH State.heldH at hdead ⊢
        rw [slot_destroyFor_other s _ _ _ hslot, doomed_destroyFor_live s _ _ (slot_live_of_liveH s h hlive), handleOf_held s h hheld]
        simpa [List.mem_filter, hne] using hdead

/-- A handle that names a live context names it still, unless it was the one dropped, or its slot's. -/
theorem kept_dropKey (s : State) (h k : Word) (hk : s.liveH k = true) :
    (s.dropKey h).liveH k = true ∨ ((s.dropKey h).slot (hSlot k)).live = false ∨ s.opsOn k = true := by
  cases hlive : s.liveH h with
  | false => rw [dropKey_dead s h hlive]; exact Or.inl hk
  | true =>
    have hheld : s.heldH h = true := (Bool.and_eq_true_iff.mp hlive).1
    obtain ⟨hkheld, hkdoomed⟩ := Bool.and_eq_true_iff.mp hk
    rw [dropKey_live s h hlive]
    cases hops : s.opsOn h with
    | true =>
      by_cases hkh : k = h
      · exact Or.inr (Or.inr (by rw [hkh, hops]))
      · rw [destroy_used s h hlive hops]
        refine Or.inl ?_
        show (s.heldH k && !(s.cel.doomed ++ [h]).contains k) = true
        simp_all
    | false =>
      rw [destroy_idle s h hheld hops]
      by_cases hslot : hSlot k = hSlot h
      · exact Or.inr (Or.inl (by rw [hslot]; exact live_destroyFor s (hSlot h) stAborted))
      · refine Or.inl ?_
        unfold State.liveH State.heldH at hk ⊢
        rw [slot_destroyFor_other s _ _ _ hslot, doomed_destroyFor_live s _ _ (slot_live_of_liveH s h hlive), handleOf_held s h hheld]
        simp_all

/-! ### A port that leaves its state -/

/-- A port that has left its state for another (R531, R532, R534). -/
def CvnPort.left (l : CvnPort) (st : CvnPSt) (cause : Nat) : CvnPort :=
  { l with st := st, cause := cause, ver := 0, tx := 0, rxFree := 0, owed := 0, eph := [], hello := [], key := 0, t := [], txSeq := 0, rxSeq := 0,
           tagFails := 0, waiting := [], held := [] }

/-- `t` is `s` after ports left their states: beside the ports, Cellar contexts are destroyed at most. -/
structure State.Left (s t : State) : Prop where
  frame : t = { s.routed t with
    cvn := t.cvn, cel := { s.cel with slots := t.cel.slots, doomed := t.cel.doomed }, dgl := { s.dgl with ctxs := t.dgl.ctxs, lanes := t.dgl.lanes } }
  addr : t.cvn.addr = s.cvn.addr
  slots : ∀ j, t.slot j = s.slot j ∨ (t.slot j).live = false
  dead : ∀ h, s.liveH h = false → t.liveH h = false
  gone : ∀ h, s.liveH h = true → t.liveH h = true ∨ (t.slot (hSlot h)).live = false ∨ s.opsOn h = true
  events : ∀ k, k ∉ destroySources → k ≠ evCvn 1 → t.evt k = s.evt k

section
variable {r s t : State}

theorem left_refl (s : State) : s.Left s := ⟨rfl, rfl, fun _ => Or.inl rfl, fun _ h => h, fun _ h => Or.inl h, fun _ _ _ => rfl⟩

theorem left_trans (hrs : r.Left s) (hst : s.Left t) : r.Left t where
  frame := Eq.trans hst.frame (congrArg (fun x : State => { x.routed t with
    cvn := t.cvn, cel := { x.cel with slots := t.cel.slots, doomed := t.cel.doomed },
    dgl := { x.dgl with ctxs := t.dgl.ctxs, lanes := t.dgl.lanes } })
    hrs.frame)
  addr := hst.addr.trans hrs.addr
  slots j := by
    rcases hst.slots j with h | h
    · rw [h]; exact hrs.slots j
    · exact Or.inr h
  dead h hh := hst.dead h (hrs.dead h hh)
  gone h hh := by
    have hops : s.opsOn h = r.opsOn h := by rw [hrs.frame]; rfl
    have hdies : (s.slot (hSlot h)).live = false → (t.slot (hSlot h)).live = false := fun hd => by
      rcases hst.slots (hSlot h) with h' | h'
      · rw [h', hd]
      · exact h'
    rcases hrs.gone h hh with hl | hd | ho
    · have hnext := hst.gone h hl
      rwa [hops] at hnext
    · exact Or.inr (Or.inl (hdies hd))
    · exact Or.inr (Or.inr ho)
  events k hk hl := (hst.events k hk hl).trans (hrs.events k hk hl)

theorem left_foldl {α : Type} (l : List α) (f : State → α → State) (hf : ∀ (u : State) (x : α), u.Left (f u x)) (s : State) :
    s.Left (l.foldl f s) :=
  List.foldlRecOn (motive := fun u : State => s.Left u) l f (left_refl s) fun u hu x _ => left_trans hu (hf u x)

/-- A change of Caravan's own state, its address apart. -/
theorem left_of_cvn (h : t = { s with cvn := t.cvn }) (haddr : t.cvn.addr = s.cvn.addr) : s.Left t := by
  refine ⟨?_, haddr, fun j => Or.inl ?_, fun k hk => ?_, fun k hk => Or.inl ?_, fun k _ _ => ?_⟩ <;> rw [h]
  · rfl
  · rfl
  · exact hk
  · exact hk
  · rfl

theorem left_modLink (s : State) (p : Nat) (f : CvnPort → CvnPort) : s.Left (s.modLink p f) := left_of_cvn rfl rfl

theorem left_dropKey (s : State) (h : Word) : s.Left (s.dropKey h) := by
  have hdes := destroyed_dropKey s h
  have hcvn : (s.dropKey h).cvn = s.cvn := (congrArg State.cvn hdes.frame).trans rfl
  refine ⟨?_, by rw [hcvn], hdes.slots, fun k => dead_dropKey s h k, fun k => kept_dropKey s h k, fun k hk _ => hdes.events k hk⟩
  have hframe := hdes.frame
  rw [hcvn]
  exact hframe

theorem left_count (s : State) : s.Left (s.count (evCvn 1)) where
  frame := by apply State.ext <;> simp [State.routed]
  addr := by simp
  slots j := Or.inl (by simp [State.slot])
  dead h hh := by
    rw [liveH_congr (s := s) h (by simp) (by simp)]
    exact hh
  gone h hh := Or.inl (by rw [liveH_congr (s := s) h (by simp) (by simp)]; exact hh)
  events k _ hk := by rw [State.evt_count, if_neg hk]

/-- What a port leaves behind, before LINK_DOWN is counted. -/
def State.portLeft (s : State) (p : Nat) (st : CvnPSt) (cause : Nat) : State :=
  ((s.linkLost p).dropKey (s.link p).key).setLink p ((s.link p).left st cause)

theorem linkLeave_eq (s : State) (p : Nat) (st : CvnPSt) (cause : Nat) :
    s.linkLeave p st cause = if (s.link p).st = .up then (s.portLeft p st cause).count (evCvn 1) else s.portLeft p st cause := rfl

theorem left_linkLost (s : State) (p : Nat) : s.Left (s.linkLost p) := by
  have hfreed := (slotsFreed_linkLost s p).frame
  generalize s.linkLost p = u at hfreed
  exact left_of_cvn (by rw [hfreed]) (by rw [hfreed])

theorem left_portLeft (s : State) (p : Nat) (st : CvnPSt) (cause : Nat) : s.Left (s.portLeft p st cause) :=
  left_trans (left_trans (left_linkLost s p) (left_dropKey _ _)) (left_of_cvn rfl rfl)

theorem left_linkLeave (s : State) (p : Nat) (st : CvnPSt) (cause : Nat) : s.Left (s.linkLeave p st cause) := by
  rw [linkLeave_eq]
  split_ifs
  · exact left_trans (left_portLeft s p st cause) (left_count _)
  · exact left_portLeft s p st cause

theorem links_portLeft (s : State) (p : Nat) (st : CvnPSt) (cause : Nat) (q : Nat) :
    (s.linkLeave p st cause).link q = (s.portLeft p st cause).link q := by
  rw [linkLeave_eq]
  split_ifs
  · simp [State.link]
  · rfl

theorem link_linkLeave (s : State) (p : Nat) (st : CvnPSt) (cause : Nat) : (s.linkLeave p st cause).link p = (s.link p).left st cause := by
  rw [links_portLeft, State.portLeft, link_setLink, if_pos rfl]

theorem link_linkLeave_other (s : State) (p : Nat) (st : CvnPSt) (cause : Nat) (q : Nat) (hq : q ≠ p) :
    ((s.linkLeave p st cause).link q).kept = (s.link q).kept := by
  have hcvn : ((s.linkLost p).dropKey (s.link p).key).cvn = (s.linkLost p).cvn := (congrArg State.cvn (destroyed_dropKey _ _).frame).trans rfl
  rw [links_portLeft, State.portLeft, link_setLink, if_neg hq, State.link, hcvn]
  exact (slotsFreed_linkLost s p).links q

/-- A LINK_DOWN is counted for a port that was UP. -/
theorem evt_linkLeave (s : State) (p : Nat) (st : CvnPSt) (cause : Nat) (hup : (s.link p).st = .up) :
    (s.linkLeave p st cause).evt (evCvn 1) = (s.evt (evCvn 1)).bump := by
  have hleft : (s.portLeft p st cause).evt (evCvn 1) = s.evt (evCvn 1) := by
    have hlost := (slotsFreed_linkLost s p).frame
    unfold State.portLeft
    generalize s.linkLost p = u at hlost ⊢
    have hdes := (destroyed_dropKey u (s.link p).key).events (evCvn 1) (by decide)
    generalize u.dropKey (s.link p).key = v at hdes ⊢
    exact Eq.trans (show _ = v.evt (evCvn 1) from rfl) (hdes.trans (by rw [hlost]; rfl))
  rw [linkLeave_eq, if_pos hup, State.evt_count, if_pos rfl, hleft]

/-- The key of a port is gone (R531): its handle names nothing, and its slot is not live once nothing runs on it. -/
def State.keyGone (s t : State) (h : Word) : Prop := t.liveH h = false ∧ (s.opsOn h = false → (t.slot (hSlot h)).live = false)

theorem keyGone_linkLeave (s : State) (p : Nat) (st : CvnPSt) (cause : Nat) (hlive : s.liveH (s.link p).key = true) :
    s.keyGone (s.linkLeave p st cause) (s.link p).key := by
  have hgone : s.keyGone ((s.linkLost p).dropKey (s.link p).key) (s.link p).key := by
    have hlost := (slotsFreed_linkLost s p).frame
    generalize s.linkLost p = u at hlost ⊢
    have hgone := gone_dropKey u (s.link p).key (by rw [hlost]; exact hlive)
    have hops : u.opsOn (s.link p).key = s.opsOn (s.link p).key := by rw [hlost]; rfl
    rwa [hops] at hgone
  have hcel : (s.linkLeave p st cause).cel = ((s.linkLost p).dropKey (s.link p).key).cel := by
    rw [linkLeave_eq]
    split_ifs
    · simp [State.portLeft]
    · rfl
  obtain ⟨hdead, hslot⟩ := hgone
  exact ⟨by rw [← hdead]; exact liveH_congr _ (by rw [hcel]) (by rw [hcel]),
    fun h => by rw [← hslot h]; exact congrArg Slot.live (slot_congr _ (by rw [hcel]))⟩

theorem dead_of_left (h : s.Left t) (i : Nat) (hdead : (s.slot i).live = false) : (t.slot i).live = false := by
  rcases h.slots i with hs | hs
  · rw [hs, hdead]
  · exact hs

theorem opsOn_of_left (h : s.Left t) (k : Word) : t.opsOn k = s.opsOn k := by
  rw [h.frame]
  rfl

theorem regs_of_left (h : s.Left t) : t.regs = s.regs := by
  rw [h.frame]
  rfl

theorem pwr_of_left (h : s.Left t) : t.pwr = s.pwr := by
  rw [h.frame]
  rfl

/-- What was gone before stays gone. -/
theorem keyGone_left {k : Word} (hrs : r.keyGone s k) (hst : s.Left t) : r.keyGone t k :=
  ⟨hst.dead k hrs.1, fun h => dead_of_left hst _ (hrs.2 h)⟩

end

end Sys2Proof.Machine
end

section
/-! PROOFS. The handshake of a link port, its frames and its configuration (R531 to R538, R556). -/
namespace Sys2Proof.Machine

/-! ### The configuration -/

/-- The stored form of a CVN_CFG write (R556). -/
def cvnStored (v : Word) : Word := Word.setField (v &&& 0x377) 9 8 (if Word.field v 9 8 = 1 then 1 else 2)

theorem bit_setField_above (w : Word) (v i : Nat) (hi : i < 8) : Word.bit (Word.setField w 9 8 v) i = Word.bit w i := by
  have hmod : (Word.setField w 9 8 v).toNat % 2 ^ 8 = w.toNat % 2 ^ 8 := by
    simp only [Word.setField, Word.field, BitVec.toNat_ofNat, Nat.shiftRight_eq_div_pow]
    omega
  have hbit : ∀ x : Word, Word.bit x i = (x.toNat % 2 ^ 8).testBit i := fun x => by
    rw [Nat.testBit_mod_two_pow, Word.bit, BitVec.getLsbD]
    simp [hi]
  rw [hbit, hbit, hmod]

theorem bit_cvnStored (v : Word) (i : Nat) (hi : i < 8) (hmask : (0x377 : Word).getLsbD i = true) : Word.bit (cvnStored v) i = Word.bit v i := by
  rw [cvnStored, bit_setField_above _ _ _ hi, Word.bit, BitVec.getLsbD_and, hmask, Bool.and_true, Word.bit]

/-- A port without its enable goes DOWN, and its lock is lost (R531). -/
def State.portOff (s : State) (p : Nat) : State := (s.linkLeave p .down 0).modLink p (fun l => { l with lock := false })

/-- What a CVN_CFG write with ENABLE does to one port (R531). -/
def State.portCfg (s : State) (p : Nat) : State :=
  if !s.linkOn p then s.portOff p else if (s.link p).st = .down then s.modLink p (fun l => { l with st := .locking }) else s

theorem cvnCfg_eq (s : State) (v : Word) : s.cvnCfg v =
    if !Word.bit v 0 then ((List.range 3).foldl State.portOff (s.setReg (aCvn 0 0x40) (cvnStored v))).modCvn (fun c => { c with missAt := [] })
    else (List.range 3).foldl State.portCfg (s.setReg (aCvn 0 0x40) (cvnStored v)) := rfl

theorem link_modLink (s : State) (p q : Nat) (f : CvnPort → CvnPort) : (s.modLink p f).link q = if q = p then f (s.link p) else s.link q :=
  link_setLink s p q _

theorem left_portOff (s : State) (p : Nat) : s.Left (s.portOff p) := left_trans (left_linkLeave s p _ _) (left_modLink _ p _)

theorem link_portOff (s : State) (p : Nat) : (s.portOff p).link p = { (s.link p).left .down 0 with lock := false } := by
  rw [State.portOff, link_modLink, if_pos rfl, link_linkLeave]

theorem link_portOff_other (s : State) (p q : Nat) (hq : q ≠ p) : ((s.portOff p).link q).kept = (s.link q).kept := by
  rw [State.portOff, link_modLink, if_neg hq, link_linkLeave_other s p _ _ q hq]

theorem left_portCfg (s : State) (p : Nat) : s.Left (s.portCfg p) := by
  unfold State.portCfg
  split_ifs
  · exact left_portOff s p
  · exact left_modLink s p _
  · exact left_refl s

theorem link_portCfg_other (s : State) (p q : Nat) (hq : q ≠ p) : ((s.portCfg p).link q).kept = (s.link q).kept := by
  unfold State.portCfg
  split_ifs
  · exact link_portOff_other s p q hq
  · rw [link_modLink, if_neg hq]
  · rfl

/-- A pass over the three ports, each step of which leaves the other ports but for lost frames: what one port comes to is what its own step
makes of it. -/
theorem ports_foldl (R : State → State → Prop) (hrefl : ∀ u, R u u) (htrans : ∀ {a b c}, R a b → R b c → R a c)
    (f : State → Nat → State)
    (hstep : ∀ u p, R u (f u p)) (hother : ∀ u p q, q ≠ p → ((f u p).link q).kept = (u.link q).kept) (s : State) (p : Nat) (hp : p < 3) :
    ∃ u, R s u ∧ (u.link p).kept = (s.link p).kept ∧ R (f u p) ((List.range 3).foldl f s) ∧
      (((List.range 3).foldl f s).link p).kept = ((f u p).link p).kept := by
  have hall : (List.range 3).foldl f s = f (f (f s 0) 1) 2 := rfl
  rw [hall]
  have h0 : p = 0 ∨ p = 1 ∨ p = 2 := by omega
  rcases h0 with rfl | rfl | rfl
  · exact ⟨s, hrefl s, rfl, htrans (hstep _ 1) (hstep _ 2), by rw [hother _ 2 0 (by decide), hother _ 1 0 (by decide)]⟩
  · exact ⟨f s 0, hstep s 0, hother s 0 1 (by decide), hstep _ 2, hother _ 2 1 (by decide)⟩
  · exact ⟨f (f s 0) 1, htrans (hstep s 0) (hstep _ 1), by rw [hother _ 1 2 (by decide), hother _ 0 2 (by decide)], hrefl _, rfl⟩

theorem linkOn_congr (s t : State) (p : Nat) (hreg : t.reg (aCvn 0 0x40) = s.reg (aCvn 0 0x40)) (hpwr : t.pwr = s.pwr) : t.linkOn p = s.linkOn p := by
  unfold State.linkOn State.cvnOn State.bitOf
  rw [hreg, hpwr]

theorem reg_of_left {s t : State} (h : s.Left t) (a : Nat) : t.reg a = s.reg a := by
  unfold State.reg
  rw [regs_of_left h]

/-- The key of a port that some pass takes DOWN is gone after it. -/
theorem keyGone_pass {s u t : State} (p : Nat) (hsu : s.Left u) (hkey : (u.link p).key = (s.link p).key) (hut : (u.portOff p).Left t)
    (hlive : s.liveH (s.link p).key = true) : s.keyGone t (s.link p).key := by
  have hops : u.opsOn (s.link p).key = s.opsOn (s.link p).key := opsOn_of_left hsu _
  have hlate : u.Left t := left_trans (left_portOff u p) hut
  cases hu : u.liveH (s.link p).key with
  | true =>
    rw [← hkey] at hu
    have hgone := keyGone_left (keyGone_linkLeave u p .down 0 hu) (left_trans (left_modLink _ p _) hut)
    rw [hkey] at hgone
    exact ⟨hgone.1, fun h => hgone.2 (by rw [hops, h])⟩
  | false =>
    refine ⟨hlate.dead _ hu, fun hno => dead_of_left hlate _ ?_⟩
    rcases hsu.gone _ hlive with h | h | h
    · exact absurd (h.symm.trans hu) (by decide)
    · exact h
    · exact absurd (h.symm.trans hno) (by decide)

/-- ENABLE 0 (R531): every port is DOWN without a key. -/
theorem cvnCfg_off (s : State) (v : Word) (hoff : Word.bit v 0 = false) (p : Nat) (hp : p < 3) :
    ((s.cvnCfg v).link p).st = .down ∧ ((s.cvnCfg v).link p).key = 0 ∧
    (s.liveH (s.link p).key = true → s.keyGone (s.cvnCfg v) (s.link p).key) := by
  obtain ⟨u, hsu, hkept, hut, hlast⟩ := ports_foldl State.Left left_refl left_trans State.portOff left_portOff link_portOff_other
    (s.setReg (aCvn 0 0x40) (cvnStored v)) p hp
  rw [cvnCfg_eq, hoff, if_pos (by rfl)]
  generalize (List.range 3).foldl State.portOff (s.setReg (aCvn 0 0x40) (cvnStored v)) = w at hut hlast ⊢
  rw [link_portOff] at hlast
  have hst : (w.link p).st = .down := congrArg CvnPort.st hlast
  have hkey : (w.link p).key = 0 := congrArg CvnPort.key hlast
  refine ⟨hst, hkey, fun hlive => ?_⟩
  have hsame : (u.link p).kept.key = (s.link p).kept.key := congrArg CvnPort.key hkept
  exact keyGone_pass (s := s.setReg (aCvn 0 0x40) (cvnStored v)) (t := w.modCvn (fun c => { c with missAt := [] })) p hsu
    hsame (left_trans hut (left_of_cvn rfl rfl)) hlive

theorem linkOn_stored (s : State) (v : Word) (p : Nat) (hp : p < 3) (hon : Word.bit v 0 = true) (hact : s.pwr.power = .active)
    (hpend : s.pwr.pending = none) (hup : s.pwr.holdup = false) :
    (s.setReg (aCvn 0 0x40) (cvnStored v)).linkOn p = Word.bit v (4 + p) := by
  have hbit : ∀ i, i < 8 → (0x377 : Word).getLsbD i = true → (s.setReg (aCvn 0 0x40) (cvnStored v)).bitOf (aCvn 0 0x40) i = Word.bit v i :=
    fun i hi hmask => by rw [State.bitOf, State.reg_setReg, if_pos rfl, bit_cvnStored v i hi hmask]
  have hpwr : (s.setReg (aCvn 0 0x40) (cvnStored v)).pwr = s.pwr := rfl
  have hmask : (0x377 : Word).getLsbD (4 + p) = true := by interval_cases p <;> decide
  rw [State.linkOn, State.cvnOn, hbit 0 (by decide) (by decide), hbit (4 + p) (by omega) hmask, hpwr, hon, hact, hpend, hup]
  rfl

/-- ENABLE 1 where CVN works (R531): a port without its bit is DOWN, one that was DOWN seeks block lock, any other stays. -/
theorem cvnCfg_on (s : State) (v : Word) (hon : Word.bit v 0 = true) (hact : s.pwr.power = .active) (hpend : s.pwr.pending = none)
    (hup : s.pwr.holdup = false) (p : Nat) (hp : p < 3) :
    (Word.bit v (4 + p) = false → ((s.cvnCfg v).link p).st = .down ∧ ((s.cvnCfg v).link p).key = 0) ∧
    (Word.bit v (4 + p) = true → (s.link p).st = .down → ((s.cvnCfg v).link p).kept = { (s.link p).kept with st := .locking }) ∧
    (Word.bit v (4 + p) = true → (s.link p).st ≠ .down → ((s.cvnCfg v).link p).kept = (s.link p).kept) := by
  obtain ⟨u, hsu, hkept, -, hlast⟩ := ports_foldl State.Left left_refl left_trans State.portCfg left_portCfg link_portCfg_other
    (s.setReg (aCvn 0 0x40) (cvnStored v)) p hp
  have hlink : u.linkOn p = Word.bit v (4 + p) := by
    rw [linkOn_congr _ u p (reg_of_left hsu _) (pwr_of_left hsu), linkOn_stored s v p hp hon hact hpend hup]
  change (u.link p).kept = (s.link p).kept at hkept
  have hst : (u.link p).kept.st = (s.link p).kept.st := congrArg CvnPort.st hkept
  change (u.link p).st = (s.link p).st at hst
  rw [cvnCfg_eq, hon, if_neg (by decide)]
  generalize (List.range 3).foldl State.portCfg (s.setReg (aCvn 0 0x40) (cvnStored v)) = w at hlast ⊢
  refine ⟨fun hbit => ?_, fun hbit hdown => ?_, fun hbit hdown => ?_⟩
  · rw [State.portCfg, hlink, hbit, if_pos (by rfl), link_portOff] at hlast
    exact ⟨congrArg CvnPort.st hlast, congrArg CvnPort.key hlast⟩
  · rw [State.portCfg, hlink, hbit, if_neg (by decide), hst, if_pos hdown, link_modLink, if_pos rfl] at hlast
    exact hlast.trans (congrArg (fun l : CvnPort => { l with st := CvnPSt.locking }) hkept)
  · rw [State.portCfg, hlink, hbit, if_neg (by decide), hst, if_neg hdown] at hlast
    exact hlast.trans hkept

theorem reg_cvnCfg (s : State) (v : Word) (a : Nat) : (s.cvnCfg v).reg a = (s.setReg (aCvn 0 0x40) (cvnStored v)).reg a := by
  rw [cvnCfg_eq]
  generalize s.setReg (aCvn 0 0x40) (cvnStored v) = u
  have hoff := reg_of_left (left_foldl (List.range 3) State.portOff left_portOff u) a
  split_ifs
  · generalize (List.range 3).foldl State.portOff u = w at hoff ⊢
    exact hoff
  · exact reg_of_left (left_foldl (List.range 3) State.portCfg left_portCfg u) a

/-! ### The handshake begins -/

/-- The HELLO of a child (R532). -/
def State.childHello (s : State) : Bytes :=
  helloFrame ((Config.freeWord s.freeCtr).toNat % 256) s.cvn.addr
    (s.helloBody (if s.maxVer = 1 then 1 else 3) 0 (pubKey 0xE ((s.draw 112).take 48)) (pubKey 0xF ((s.draw 112).drop 48)))

/-- A port whose handshake begins (R532). -/
def CvnPort.begun (l : CvnPort) (clk : Nat) (eph hello : Bytes) : CvnPort :=
  { l with st := .handshake, cause := 0, lockAt := clk, eph := eph, hello := hello }

theorem handshake_eq (s : State) (p : Nat) : s.handshake p =
    if p ≠ 0 then s.drew.setLink p ((s.link p).begun s.clk (s.draw 112) (s.link p).hello)
    else (s.drew.freed.setLink p ((s.link p).begun s.clk (s.draw 112) s.childHello)).out (.cvn p s.childHello) := rfl

theorem handshake_spec (s : State) (p : Nat) :
    let t := s.handshake p
    t.link p = (s.link p).begun s.clk (s.draw 112) (if p = 0 then s.childHello else (s.link p).hello) ∧
    (∀ q, q ≠ p → t.link q = s.link q) ∧ (p = 0 → t.outbox.getLast? = some (.cvn 0 s.childHello)) ∧
    t = { s with cvn := t.cvn, drbgCtr := s.drbgCtr + 1, freeCtr := t.freeCtr, outbox := t.outbox } := by
  have hself : ∀ (u : State) (l : CvnPort), (u.setLink p l).link p = l := fun u l => by rw [link_setLink, if_pos rfl]
  have hother : ∀ (u : State) (l : CvnPort) (q : Nat), q ≠ p → (u.setLink p l).link q = u.link q := fun u l q hq => by
    rw [link_setLink, if_neg hq]
  rw [handshake_eq]
  generalize s.childHello = hello
  by_cases hp : p = 0
  · rw [if_neg (not_not.mpr hp), if_pos hp]
    subst hp
    generalize (s.link 0).begun s.clk (s.draw 112) hello = l
    refine ⟨hself s.drew.freed l, fun q hq => hother s.drew.freed l q hq, fun _ => List.getLast?_concat, ?_⟩
    rfl
  · rw [if_pos hp, if_neg hp]
    generalize (s.link p).begun s.clk (s.draw 112) (s.link p).hello = l
    refine ⟨hself s.drew l, fun q hq => hother s.drew l q hq, fun h => absurd h hp, ?_⟩
    rfl

/-- CVN_BLOCK_LOCK on an enabled port (R532). -/
theorem blockLock_spec (s : State) (p : Nat) :
    let t := ((s.linkLeave p .locking 0).modLink p (fun l => { l with lock := true })).handshake p
    (t.link p).st = .handshake ∧ (t.link p).lock = true ∧ (t.link p).lockAt = s.clk ∧ (t.link p).eph = s.draw 112 ∧ (t.link p).key = 0 ∧
    (t.link p).cause = 0 ∧ (∀ q, q ≠ p → (t.link q).kept = (s.link q).kept) ∧ t.drbgCtr = s.drbgCtr + 1 ∧ t.regs = s.regs ∧
    (p = 0 → t.outbox.getLast? = some (.cvn 0 s.childHello)) := by
  have hleft := left_trans (left_linkLeave s p .locking 0) (left_modLink _ p (fun l => { l with lock := true }))
  have hself : ((s.linkLeave p .locking 0).modLink p (fun l => { l with lock := true })).link p =
      { (s.link p).left .locking 0 with lock := true } := by
    rw [link_modLink, if_pos rfl, link_linkLeave]
  have hothers : ∀ q, q ≠ p → (((s.linkLeave p .locking 0).modLink p (fun l => { l with lock := true })).link q).kept = (s.link q).kept :=
    fun q hq => by rw [link_modLink, if_neg hq, link_linkLeave_other s p _ _ q hq]
  generalize (s.linkLeave p .locking 0).modLink p (fun l => { l with lock := true }) = u at hleft hself hothers ⊢
  obtain ⟨hport, hports, hhello, hframe⟩ := handshake_spec u p
  have hclk : u.clk = s.clk := (congrArg State.clk hleft.frame).trans rfl
  have hctr : u.drbgCtr = s.drbgCtr := (congrArg State.drbgCtr hleft.frame).trans rfl
  have hdraw : u.draw 112 = s.draw 112 := by rw [State.draw, hctr, State.draw]
  have hchild : u.childHello = s.childHello := by
    have haddr := hleft.addr
    have hrest := hleft.frame
    have hunit : u.unitId = s.unitId := by rw [hrest]; rfl
    have hmax : u.maxVer = s.maxVer := by rw [State.maxVer, State.fldOf, reg_of_left hleft]; rfl
    have hfree : u.freeCtr = s.freeCtr := (congrArg State.freeCtr hrest).trans rfl
    rw [State.childHello, State.helloBody, hunit, hmax, hfree, haddr, hdraw]
    rfl
  generalize u.handshake p = t at hport hports hhello hframe ⊢
  dsimp only
  rw [hport, hself, hclk, hdraw]
  refine ⟨rfl, rfl, rfl, rfl, rfl, rfl, fun q hq => ?_, ?_, ?_, fun h => ?_⟩
  · rw [hports q hq, hothers q hq]
  · exact ((congrArg State.drbgCtr hframe).trans rfl).trans (congrArg (· + 1) hctr)
  · exact ((congrArg State.regs hframe).trans (show _ = u.regs from rfl)).trans (regs_of_left hleft)
  · rw [hhello h, hchild]

end Sys2Proof.Machine
end

section
/-! PROOFS. The keys of a link, the frames of the handshake, restarts and credits (R532 to R538). -/
namespace Sys2Proof.Machine

/-! ### The link keys -/

theorem told_destroyFor (s : State) (i : Nat) (why : Status) : s.told (s.destroyFor i why) := by
  rw [destroyFor_eq]
  split_ifs
  · exact told_refl s
  · generalize hset : (s.undoomed i why).setSlot i { st := .retired, gen := (s.slot i).gen + 1, ctx := KeyCtx.zero } = u
    exact told_trans (told_of_outbox_eq (by rw [← hset]; rfl)) (told_count u _)
  · exact told_of_outbox_eq rfl

theorem told_destroy (s : State) (i : Nat) : s.told (s.destroy i) := by
  unfold State.destroy
  dsimp only
  split_ifs
  · exact told_of_outbox_eq rfl
  · exact told_refl s
  · exact told_destroyFor s i _

theorem told_lastUse (s : State) (h : Word) : s.told (s.lastUse h) := by
  unfold State.lastUse
  split_ifs
  · exact told_trans (told_destroy s _) (told_count _ _)
  · exact told_refl s

/-- A use of the rack key tells interrupts at most and leaves Caravan as it was. -/
theorem rackUsed_keeps (s : State) : s.told s.rackUsed ∧ s.rackUsed.cvn = s.cvn := by
  have hframe := takeUse_frame s (s.reg (aCvn 0 0x58))
  unfold State.rackUsed
  dsimp only
  generalize s.takeUse (s.reg (aCvn 0 0x58)) = u at hframe ⊢
  have htold : s.told u.1 := told_of_outbox_eq (by rw [hframe])
  have hcvn : u.1.cvn = s.cvn := by rw [hframe]
  split_ifs
  · exact ⟨told_trans htold (told_lastUse _ _), (congrArg State.cvn (destroyed_lastUse u.1 _).frame).trans hcvn⟩
  · exact ⟨htold, hcvn⟩

/-- The Cellar context of a link (R532). -/
def linkCtx (k z tr : Bytes) : KeyCtx :=
  { type := 0xA, flags := 0, ops := 0, owner := 0x45, domain := 0, mlen := 64, uses := 0xFFFFFFFF, epoch := 0,
    material := kdf k (z ++ tr) "MX-CVNU" ++ kdf k (z ++ tr) "MX-CVND" }

/-- `s` once a link's context stands in slot `i` and its port names it. -/
def State.linkKeyed (s : State) (p ver i : Nat) (c : KeyCtx) (tr : Bytes) : State :=
  (s.rackUsed.putCtx i .loaded c).modLink p
    (fun l => { l with ver := ver, key := handleOf i ((s.rackUsed.putCtx i .loaded c).slot i).gen, t := tr, txSeq := 1 })

/-- The CONFIRM of a port (R532). -/
def State.confirmFrame (s : State) (p ver : Nat) (tr : Bytes) : Bytes :=
  frameOf (s.sendKey p) ver (cvnOut 1 s.cvn.addr 0 (kmac256 (s.sendKey p) tr 32 (ascii "MX-CVNC"))) 0 1

theorem linkDerive_some (s : State) (p ver : Nat) (z tr k : Bytes) (i : Nat) (hkey : s.rackKey = some k) (hright : s.secretRight = false)
    (halloc : s.allocAt 0x45 = some i) : s.linkDerive p ver z tr =
      (s.linkKeyed p ver i (linkCtx k z tr) tr).out (.cvn p ((s.linkKeyed p ver i (linkCtx k z tr) tr).confirmFrame p ver tr)) := by
  unfold State.linkDerive
  simp only [hkey, hright, halloc]
  rfl

theorem linkDerive_fails (s : State) (p ver : Nat) (z tr : Bytes) (h : s.rackKey = none ∨ s.secretRight = true) :
    s.linkDerive p ver z tr = s.linkFail p 4 := by
  unfold State.linkDerive
  cases hkey : s.rackKey with
  | none => rfl
  | some k =>
    rw [hkey] at h
    exact if_pos (h.resolve_left (by simp))

theorem confirmFrame_out (s : State) (o : Out) (p ver : Nat) (tr : Bytes) : (s.out o).confirmFrame p ver tr = s.confirmFrame p ver tr := by
  have hkey : (s.out o).sendKey p = s.sendKey p := rfl
  unfold State.confirmFrame
  rw [hkey]
  rfl

theorem outbox_linkKeyed (s : State) (p ver i : Nat) (c : KeyCtx) (tr : Bytes) : (s.linkKeyed p ver i c tr).outbox = s.rackUsed.outbox := by
  unfold State.linkKeyed
  generalize s.rackUsed = u
  rfl

theorem slot_linkKeyed (s : State) (p ver i : Nat) (c : KeyCtx) (tr : Bytes) :
    (s.linkKeyed p ver i c tr).slot i = { st := .loaded, gen := (s.rackUsed.slot i).gen, ctx := c } := by
  unfold State.linkKeyed
  generalize s.rackUsed = u
  show (u.putCtx i .loaded c).slot i = _
  rw [slot_putCtx, if_pos rfl]

theorem cvn_linkKeyed (s : State) (p ver i : Nat) (c : KeyCtx) (tr : Bytes) :
    (s.linkKeyed p ver i c tr).cvn.addr = s.cvn.addr ∧ (s.linkKeyed p ver i c tr).link p = { s.link p with
      ver := ver, key := ((s.linkKeyed p ver i c tr).link p).key, t := tr, txSeq := 1 } := by
  have hcvn := (rackUsed_keeps s).2
  have hold : s.link p = s.rackUsed.link p := by rw [State.link, State.link, hcvn]
  rw [hold, ← hcvn]
  unfold State.linkKeyed
  generalize s.rackUsed = u
  refine ⟨rfl, ?_⟩
  rw [link_modLink, if_pos rfl]
  rfl

/-- What deriving the keys of a link leaves (R532). -/
theorem linkDerive_spec (s : State) (p ver : Nat) (z tr k : Bytes) (i : Nat) (hkey : s.rackKey = some k) (hright : s.secretRight = false)
    (halloc : s.allocAt 0x45 = some i) :
    let t := s.linkDerive p ver z tr
    (∀ o ∈ s.outbox, o ∈ t.outbox) ∧ (t.link p).st = (s.link p).st ∧ (t.link p).ver = ver ∧ (t.link p).t = tr ∧ (t.link p).txSeq = 1 ∧
    (t.slot i).st = .loaded ∧ (t.slot i).ctx = linkCtx k z tr ∧ t.outbox.getLast? = some (.cvn p (t.confirmFrame p ver tr)) ∧
    t.cvn.addr = s.cvn.addr := by
  rw [linkDerive_some s p ver z tr k i hkey hright halloc]
  have htold := (rackUsed_keeps s).1
  obtain ⟨haddr, hlink⟩ := cvn_linkKeyed s p ver i (linkCtx k z tr) tr
  have hslot := slot_linkKeyed s p ver i (linkCtx k z tr) tr
  have hbox := outbox_linkKeyed s p ver i (linkCtx k z tr) tr
  generalize linkCtx k z tr = c at haddr hlink hslot hbox ⊢
  generalize s.linkKeyed p ver i c tr = u at haddr hlink hslot hbox ⊢
  have hsame := confirmFrame_out u (.cvn p (u.confirmFrame p ver tr)) p ver tr
  generalize u.confirmFrame p ver tr = f at hsame ⊢
  dsimp only
  rw [hsame]
  have hport : (u.out (.cvn p f)).link p = u.link p := rfl
  have hown : (u.out (.cvn p f)).slot i = u.slot i := rfl
  rw [hport, hlink, hown, hslot]
  refine ⟨fun o ho => ?_, rfl, rfl, rfl, rfl, rfl, rfl, List.getLast?_concat, haddr⟩
  exact List.mem_append_left _ (by rw [hbox]; exact mem_told htold ho)

theorem findFree_out (s : State) (o : Out) (n : Nat) : ∀ i, (s.out o).findFree i n = s.findFree i n := by
  induction n with
  | zero => exact fun i => rfl
  | succ n ih =>
    intro i
    unfold State.findFree
    rw [ih]
    rfl

theorem allocAt_out (s : State) (o : Out) (m : Master) : (s.out o).allocAt m = s.allocAt m := by
  unfold State.allocAt
  rw [findFree_out]
  rfl

/-! ### The frames of the handshake -/

theorem helloRx_taken (s : State) (p : Nat) (b : Bytes) (h : s.helloTaken p b = true) :
    s.helloRx p b = if p = 0 then s.helloChild p b else s.helloParent p b := by
  unfold State.helloTaken at h
  simp only [Bool.and_eq_true, beq_iff_eq, List.isEmpty_iff] at h
  obtain ⟨⟨⟨⟨⟨⟨⟨hst, ht⟩, hlen⟩, hfunc⟩, hresv⟩, hbody⟩, htag⟩, hseq⟩ := h
  unfold State.helloRx
  simp [hst, ht, hlen, hfunc, hresv, hbody, htag, hseq]

theorem link_linkFail (s : State) (p cause : Nat) : ((s.linkFail p cause).link p).st = .failed ∧ ((s.linkFail p cause).link p).cause = cause ∧
    ((s.linkFail p cause).link p).key = 0 := by
  rw [State.linkFail, link_linkLeave]
  exact ⟨rfl, rfl, rfl⟩

/-- HELLO at a parent that answers it (R532, R533). -/
theorem helloParent_answers (s : State) (p ver : Nat) (b : Bytes) (hver : versionOf (Bytes.num (fBody b) 0 1) s.maxVer = ver)
    (hrole : Bytes.num (fBody b) 1 1 = 0) (h0 : ver ≠ 0) (hbranch : ¬(p = 2 ∧ ver = 1)) (ek eph r g z tr : Bytes)
    (hek : ek = Bytes.slice (fBody b) 108 1568) (heph : eph = (s.link p).eph) (hr : r = eph.drop 80)
    (hg : g = helloFrame ver s.cvn.addr (s.helloBody ver 1 (pubKey 0xE (eph.take 48)) (Config.take 1568 (Config.kemCtByte ek r))))
    (hz : z = Config.take 48 (Config.kexSecretByte 0xE (eph.take 48) (Bytes.slice (fBody b) 12 96)) ++ Config.take 32 (Config.kemSecretByte ek r))
    (htr : tr = sha384 (fHead b ++ fHead g)) : s.helloParent p b = (s.out (.cvn p g)).linkDerive p ver z tr := by
  subst hek heph hr hg hz htr
  unfold State.helloParent
  dsimp only
  rw [hver, if_neg (by rw [hrole]; decide), if_neg (by rintro (h | h); exacts [h0 h, hbranch h])]

theorem helloParent_fails (s : State) (p ver : Nat) (b : Bytes) (hver : versionOf (Bytes.num (fBody b) 0 1) s.maxVer = ver) :
    (Bytes.num (fBody b) 1 1 ≠ 0 → s.helloParent p b = s.linkFail p 2) ∧
    (Bytes.num (fBody b) 1 1 = 0 → (ver = 0 ∨ (p = 2 ∧ ver = 1)) → s.helloParent p b = s.linkFail p 1) := by
  unfold State.helloParent
  dsimp only
  rw [hver]
  exact ⟨fun hrole => if_pos hrole, fun hrole hbad => by rw [if_neg (by rw [hrole]; decide), if_pos hbad]⟩

/-- The version that a child takes from a HELLO (R533). -/
def childVersion (vm mine : Nat) : Nat := if vm = 2 ∧ 2 ≤ mine then 2 else if vm = 1 then 1 else 0

theorem helloChild_fails (s : State) (b : Bytes) :
    (Bytes.num (fBody b) 1 1 ≠ 1 → s.helloChild 0 b = s.linkFail 0 2) ∧
    (Bytes.num (fBody b) 1 1 = 1 → childVersion (Bytes.num (fBody b) 0 1) s.maxVer = 0 → s.helloChild 0 b = s.linkFail 0 1) := by
  unfold State.helloChild
  dsimp only
  exact ⟨fun hrole => if_pos hrole, fun hrole hver => (if_neg (not_not.mpr hrole)).trans (if_pos hver)⟩

theorem helloChild_derives (s : State) (b : Bytes) (hrole : Bytes.num (fBody b) 1 1 = 1)
    (hver : childVersion (Bytes.num (fBody b) 0 1) s.maxVer ≠ 0) :
    ∃ z, s.helloChild 0 b = s.linkDerive 0 (childVersion (Bytes.num (fBody b) 0 1) s.maxVer) z (sha384 (fHead (s.link 0).hello ++ fHead b)) := by
  unfold State.helloChild
  dsimp only
  exact ⟨_, (if_neg (not_not.mpr hrole)).trans (if_neg hver)⟩

theorem confirmRx_taken (s : State) (p lat : Nat) (b : Bytes) (h : s.confirmTaken p b = true) : s.confirmRx p lat b = s.confirmed1 p lat b := by
  unfold State.confirmTaken at h
  simp only [Bool.and_eq_true, beq_iff_eq, Bool.not_eq_true', List.isEmpty_eq_false_iff] at h
  obtain ⟨⟨⟨⟨⟨⟨⟨hst, ht⟩, hlen⟩, htag⟩, hseq⟩, hhead⟩, hfunc⟩, hbody⟩ := h
  unfold State.confirmRx
  simp [hst, ht, hlen, htag, hseq, hhead, hfunc, hbody]

/-! ### Restarts -/

/-- What a restart of ports leaves to the others: the clock, the registers and the power state. -/
def State.sameControl (s t : State) : Prop := t.clk = s.clk ∧ t.regs = s.regs ∧ t.pwr = s.pwr

theorem sameControl_refl (s : State) : s.sameControl s := ⟨rfl, rfl, rfl⟩

theorem sameControl_trans {r s t : State} (hrs : r.sameControl s) (hst : s.sameControl t) : r.sameControl t :=
  ⟨hst.1.trans hrs.1, hst.2.1.trans hrs.2.1, hst.2.2.trans hrs.2.2⟩

theorem sameControl_of_left {s t : State} (h : s.Left t) : s.sameControl t :=
  ⟨(congrArg State.clk h.frame).trans rfl, regs_of_left h, pwr_of_left h⟩

theorem sameControl_handshake (s : State) (p : Nat) : s.sameControl (s.handshake p) := by
  obtain ⟨-, -, -, hframe⟩ := handshake_spec s p
  generalize s.handshake p = t at hframe ⊢
  exact ⟨(congrArg State.clk hframe).trans rfl, (congrArg State.regs hframe).trans rfl, (congrArg State.pwr hframe).trans rfl⟩

theorem sameControl_linkRestart (s : State) (p : Nat) : s.sameControl (s.linkRestart p) := by
  unfold State.linkRestart
  split_ifs
  · exact sameControl_refl s
  · exact sameControl_trans (sameControl_of_left (left_linkLeave s p _ _)) (sameControl_handshake _ p)
  · exact sameControl_of_left (left_linkLeave s p _ _)
  · exact sameControl_refl s

theorem link_linkRestart_other (s : State) (p q : Nat) (hq : q ≠ p) : ((s.linkRestart p).link q).kept = (s.link q).kept := by
  have hother := link_linkLeave_other s p .locking 0 q hq
  unfold State.linkRestart
  split_ifs
  · rfl
  · rw [(handshake_spec _ p).2.1 q hq, hother]
  · exact hother
  · rfl

/-- What a restart makes of its own port (R534). -/
theorem link_linkRestart (s : State) (p : Nat) (hon : s.linkOn p = true) :
    ((s.link p).lock = true → ((s.linkRestart p).link p).st = .handshake ∧ ((s.linkRestart p).link p).lockAt = s.clk ∧
      ((s.linkRestart p).link p).key = 0 ∧ ((s.linkRestart p).link p).cause = 0) ∧
    ((s.link p).lock = false → (s.link p).st = .failed → ((s.linkRestart p).link p).st = .locking ∧ ((s.linkRestart p).link p).cause = 0) ∧
    ((s.link p).lock = false → (s.link p).st ≠ .failed → s.linkRestart p = s) := by
  unfold State.linkRestart
  rw [hon, if_neg (by decide)]
  refine ⟨fun hlock => ?_, fun hlock hst => ?_, fun hlock hst => ?_⟩
  · rw [if_pos hlock]
    have hclk : (s.linkLeave p .locking 0).clk = s.clk := (sameControl_of_left (left_linkLeave s p _ _)).1
    have hself := link_linkLeave s p .locking 0
    generalize s.linkLeave p .locking 0 = u at hclk hself ⊢
    rw [(handshake_spec u p).1, hself, hclk]
    exact ⟨rfl, rfl, rfl, rfl⟩
  · rw [if_neg (by simp [hlock]), if_pos hst, link_linkLeave]
    exact ⟨rfl, rfl⟩
  · rw [if_neg (by simp [hlock]), if_neg hst]

/-- One port under CVN_PORT_RESTART. -/
def State.portRestart (v : Word) (s : State) (p : Nat) : State := if Word.bit v p then s.linkRestart p else s

theorem portRestart_spec (s : State) (v : Word) (p : Nat) (hp : p < 3) :
    let t := (List.range 3).foldl (State.portRestart v) s
    (Word.bit v p = true → s.linkOn p = true → (s.link p).lock = true → (t.link p).st = .handshake ∧ (t.link p).lockAt = s.clk ∧
      (t.link p).key = 0 ∧ (t.link p).cause = 0) ∧
    (Word.bit v p = true → s.linkOn p = true → (s.link p).lock = false → (s.link p).st = .failed → (t.link p).st = .locking ∧
      (t.link p).cause = 0) ∧
    ((Word.bit v p = false ∨ s.linkOn p = false ∨ ((s.link p).lock = false ∧ (s.link p).st ≠ .failed)) →
      (t.link p).kept = (s.link p).kept) := by
  have hstep : ∀ (u : State) (q : Nat), u.sameControl (State.portRestart v u q) := fun u q => by
    unfold State.portRestart
    split_ifs
    · exact sameControl_linkRestart u q
    · exact sameControl_refl u
  have hother : ∀ (u : State) (q q' : Nat), q' ≠ q → ((State.portRestart v u q).link q').kept = (u.link q').kept := fun u q q' hq => by
    unfold State.portRestart
    split_ifs
    · exact link_linkRestart_other u q q' hq
    · rfl
  obtain ⟨u, ⟨hclk, hregs, hpwr⟩, hkept, -, hlast⟩ :=
    ports_foldl State.sameControl sameControl_refl sameControl_trans (State.portRestart v) hstep hother s p hp
  generalize (List.range 3).foldl (State.portRestart v) s = t at hlast
  have hon : u.linkOn p = s.linkOn p := linkOn_congr s u p (by rw [State.reg, hregs, State.reg]) hpwr
  have hlock : (u.link p).kept.lock = (s.link p).kept.lock := congrArg CvnPort.lock hkept
  have hst : (u.link p).kept.st = (s.link p).kept.st := congrArg CvnPort.st hkept
  change (u.link p).lock = (s.link p).lock at hlock
  change (u.link p).st = (s.link p).st at hst
  dsimp only
  rw [← hlock, ← hst, ← hon, ← hclk]
  refine ⟨fun hbit hu hl => ?_, fun hbit hu hl hf => ?_, fun h => ?_⟩
  · rw [State.portRestart, if_pos hbit] at hlast
    obtain ⟨h1, h2, h3, h4⟩ := (link_linkRestart u p hu).1 hl
    exact ⟨(congrArg CvnPort.st hlast).trans h1, (congrArg CvnPort.lockAt hlast).trans h2, (congrArg CvnPort.key hlast).trans h3,
      (congrArg CvnPort.cause hlast).trans h4⟩
  · rw [State.portRestart, if_pos hbit] at hlast
    obtain ⟨h1, h2⟩ := (link_linkRestart u p hu).2.1 hl hf
    exact ⟨(congrArg CvnPort.st hlast).trans h1, (congrArg CvnPort.cause hlast).trans h2⟩
  · refine hlast.trans (Eq.trans ?_ hkept)
    have hidle : State.portRestart v u p = u := by
      unfold State.portRestart
      split_ifs with hbit
      · rcases h with h | h | ⟨hl, hf⟩
        · exact absurd (h.symm.trans hbit) (by decide)
        · rw [State.linkRestart, h, if_pos (by rfl)]
        · cases hu : u.linkOn p with
          | false => rw [State.linkRestart, hu, if_pos (by rfl)]
          | true => exact (link_linkRestart u p hu).2.2 hl hf
      · rfl
    rw [hidle]

/-! ### Credits -/

theorem bulkIn_congr (s t : State) (p : Nat) (hheld : (t.link p).held = (s.link p).held) (hwait : ∀ q, (t.link q).waiting = (s.link q).waiting) :
    t.bulkIn p = s.bulkIn p := by
  unfold State.bulkIn
  simp only [hheld, hwait]

theorem bulkIn_tagged (s : State) (p : Nat) : (s.modLink p (fun l => { l with tagFails := 0 })).bulkIn p = s.bulkIn p :=
  bulkIn_congr s _ p (by rw [link_modLink, if_pos rfl]) fun q => by
    rw [link_modLink]
    split_ifs with hq
    · rw [hq]
    · rfl

/-- An accepted frame is taken, and has its effect (R536 to R538). -/
theorem cvnIn_ok (s : State) (p want : Nat) (b : Bytes) (fmt : Bool) (eff : State → State) (h : s.frameOk p want b fmt = true) :
    s.cvnIn p want b fmt eff = eff (s.frameTaken p want b) := by
  unfold State.frameOk at h
  simp only [Bool.and_eq_true, beq_iff_eq, decide_eq_true_eq] at h
  obtain ⟨⟨⟨⟨⟨⟨⟨⟨hup, hfunc⟩, hlen⟩, htag⟩, hseq⟩, hhead⟩, hbody⟩, hfmt⟩, hroom⟩ := h
  have hslot : ¬(want ≠ 7 ∧ ((s.link p).rxFree ≤ (s.link p).owed ∨ (bulky want = true ∧ 12 ≤ s.bulkIn p))) := by
    rintro ⟨h7, hfull⟩
    simp only [h7, Bool.or_eq_true, beq_iff_eq, Bool.and_eq_true, decide_eq_true_eq, Bool.not_eq_true',
      Bool.and_eq_false_iff, decide_eq_false_iff_not, false_or] at hroom
    obtain ⟨howed, hbulk⟩ := hroom
    rcases hfull with hf | ⟨hf, hmany⟩
    · omega
    · rcases hbulk with hb | hb
      · exact absurd (hf.symm.trans hb) (by decide)
      · exact hb hmany
  unfold State.cvnIn
  dsimp only
  rw [if_neg (by simp [hfunc]), hlen, htag, if_neg (by decide), if_neg (by decide), if_neg (by omega), hhead, hbody, hfmt, hfunc, bulkIn_tagged,
    if_neg (by simp), if_neg hslot]
  rfl

theorem cvnIn_short (s : State) (p want : Nat) (b : Bytes) (fmt : Bool) (eff : State → State) (hfunc : fFunc b = want) (hlen : lenOk b = false) :
    s.cvnIn p want b fmt eff = s.dropFrame 0 := by
  unfold State.cvnIn
  dsimp only
  rw [if_neg (by simp [hfunc]), hlen, if_pos (by rfl)]

theorem cvnIn_tag (s : State) (p want : Nat) (b : Bytes) (fmt : Bool) (eff : State → State) (hfunc : fFunc b = want) (hlen : lenOk b = true)
    (htag : s.tagGood p b = false) : s.cvnIn p want b fmt eff = s.tagFail p := by
  unfold State.cvnIn
  dsimp only
  rw [if_neg (by simp [hfunc]), hlen, if_neg (by decide), htag, if_pos (by rfl)]

theorem dropFrame_spec (s : State) (k : Nat) :
    (s.dropFrame k).reg (aCvn 0 0x5C) = Word.satField (s.reg (aCvn 0 0x5C)) (8 * k + 7) (8 * k) ∧
    (s.dropFrame k).evt (evCvn (if k = 1 then 11 else 10)) = (s.evt (evCvn (if k = 1 then 11 else 10))).bump ∧
    s.dropFrame k = { s.routed (s.dropFrame k) with regs := (s.dropFrame k).regs } := by
  unfold State.dropFrame
  refine ⟨?_, ?_, ?_⟩
  · rw [State.reg_count, State.dropOnly, State.reg_setReg, if_pos rfl]
  · rw [State.evt_count, if_pos rfl]
    rfl
  · apply State.ext <;> simp [State.routed, State.dropOnly]

/-- A frame with a wrong tag (R534, R537). -/
theorem tagFail_spec (s : State) (p : Nat) :
    (s.tagFail p).evt (evCvn 11) = (s.evt (evCvn 11)).bump ∧
    ((s.link p).tagFails < 7 → (s.tagFail p).link p = { s.link p with tagFails := (s.link p).tagFails + 1 }) ∧
    (7 ≤ (s.link p).tagFails → ((s.tagFail p).link p).st = .failed ∧ ((s.tagFail p).link p).cause = 6) := by
  obtain ⟨-, hevt, hframe⟩ := dropFrame_spec s 1
  unfold State.tagFail
  dsimp only
  generalize s.dropFrame 1 = u at hevt hframe ⊢
  have hold : u.link p = s.link p := by rw [hframe]; rfl
  have hself : (u.modLink p (fun l => { l with tagFails := l.tagFails + 1 })).link p = { s.link p with tagFails := (s.link p).tagFails + 1 } := by
    rw [link_modLink, if_pos rfl, hold]
  have hbump : (u.modLink p (fun l => { l with tagFails := l.tagFails + 1 })).evt (evCvn 11) = (s.evt (evCvn 11)).bump := hevt
  generalize u.modLink p (fun l => { l with tagFails := l.tagFails + 1 }) = w at hself hbump ⊢
  rw [hself]
  refine ⟨?_, fun hfew => ?_, fun hmany => ?_⟩
  · split_ifs
    · rw [State.linkFail, (left_linkLeave w p _ _).events _ (by decide) (by decide), hbump]
    · exact hbump
  · rw [if_neg (by simp only; omega)]
    exact hself
  · rw [if_pos (by simp only; omega)]
    exact ⟨(link_linkFail w p 6).1, (link_linkFail w p 6).2.1⟩

/-- A CREDIT frame leaves at once (R538). -/
theorem xmit_credit (s : State) (p : Nat) :
    let e := cvnOut 7 s.cvn.addr 0 []
    s.xmit p e = (s.setLink p { s.link p with owed := 0, txSeq := (s.link p).txSeq + 1 }).out (.cvn p (s.nextFrame p e)) := rfl

/-! ### The commands -/

/-- CVN_HELLO_RX at a parent (R532 to R534). -/
theorem helloRx_parent (s : State) (p : Fin 3) (f : HelloFrame) (h : s.helloTaken p.val f.bytes = true) (hp : p.val ≠ 0) :
    exec (.cvnHelloRx p f) s = .next (s.helloParent p.val f.bytes) :=
  congrArg Host.Outcome.next ((helloRx_taken s p.val f.bytes h).trans (if_neg hp))

theorem helloRx_child (s : State) (f : HelloFrame) (h : s.helloTaken 0 f.bytes = true) :
    exec (.cvnHelloRx 0 f) s = .next (s.helloChild 0 f.bytes) :=
  congrArg Host.Outcome.next ((helloRx_taken s 0 f.bytes h).trans (if_pos rfl))

theorem handshake_of_helloTaken (s : State) (p : Nat) (b : Bytes) (h : s.helloTaken p b = true) : (s.link p).st = .handshake := by
  unfold State.helloTaken at h
  simp only [Bool.and_eq_true, beq_iff_eq] at h
  obtain ⟨⟨⟨⟨⟨⟨⟨hst, -⟩, -⟩, -⟩, -⟩, -⟩, -⟩, -⟩ := h
  exact hst

/-- CVN_PORT_DOWN (R531, R534). -/
theorem portDown_spec (s : State) (p : Nat) :
    let u := s.modLink p (fun l => { l with lock := false })
    let t := if (u.link p).st == .failed then u else u.linkLeave p .down 0
    (t.link p).lock = false ∧ (∀ q, q ≠ p → (t.link q).kept = (s.link q).kept) ∧
    ((s.link p).st = .failed → t.link p = { s.link p with lock := false }) ∧
    ((s.link p).st ≠ .failed → (t.link p).st = .down ∧ (t.link p).key = 0 ∧
      (s.liveH (s.link p).key = true → s.keyGone t (s.link p).key)) ∧
    ((s.link p).st = .up → t.evt (evCvn 1) = (s.evt (evCvn 1)).bump) := by
  have hself : (s.modLink p (fun l => { l with lock := false })).link p = { s.link p with lock := false } := by rw [link_modLink, if_pos rfl]
  have hothers : ∀ q, q ≠ p → (s.modLink p (fun l => { l with lock := false })).link q = s.link q := fun q hq => by
    rw [link_modLink, if_neg hq]
  have hsame : ∀ h, (s.modLink p (fun l => { l with lock := false })).liveH h = s.liveH h ∧
      (s.modLink p (fun l => { l with lock := false })).opsOn h = s.opsOn h := fun h => ⟨rfl, rfl⟩
  have hevt : (s.modLink p (fun l => { l with lock := false })).evt (evCvn 1) = s.evt (evCvn 1) := rfl
  dsimp only
  generalize s.modLink p (fun l => { l with lock := false }) = u at hself hothers hsame hevt ⊢
  have hst : (u.link p).st = (s.link p).st := by rw [hself]
  have hkey : (u.link p).key = (s.link p).key := by rw [hself]
  rw [hst]
  by_cases hfailed : (s.link p).st = .failed
  · rw [if_pos (by simp [hfailed])]
    exact ⟨by rw [hself], fun q hq => by rw [hothers q hq], fun _ => hself, fun h => absurd hfailed h,
      fun h => CvnPSt.noConfusion (hfailed.symm.trans h)⟩
  · rw [if_neg (by simpa using hfailed)]
    refine ⟨?_, fun q hq => ?_, fun h => absurd h hfailed, fun _ => ⟨?_, ?_, fun hlive => ?_⟩, fun hup => ?_⟩
    · rw [link_linkLeave, hself]
      rfl
    · rw [link_linkLeave_other u p _ _ q hq, hothers q hq]
    · rw [link_linkLeave]
      rfl
    · rw [link_linkLeave]
      rfl
    · have hgone := keyGone_linkLeave u p .down 0 (by rw [hkey, (hsame _).1, hlive])
      rw [hkey] at hgone
      exact ⟨hgone.1, fun hno => hgone.2 (by rw [(hsame _).2, hno])⟩
    · rw [evt_linkLeave u p _ _ (by rw [hst, hup]), hevt]

/-- Settles O48. -/
theorem linkPortsComeUpByHandshakeAndFailByCause : Obligations.LinkPortsComeUpByHandshakeAndFailByCause := by
  unfold Obligations.LinkPortsComeUpByHandshakeAndFailByCause
  refine ⟨fun s m v h => ?cfg, fun s p => ?lock, fun s p f hup hhand => ?early, fun s p f h hp ver hver => ?parent, fun s f h => ?child,
    fun s p f h => ?confirm, fun s p => ?timeout, fun s p cause => ?fail, fun s m v h => ?restart,
    fun s p => ⟨_, rfl, portDown_spec s p.val⟩, fun s p f => ?creditRx, fun s p => ?creditSend⟩
  case cfg =>
    have hexec : exec (.cvnCfgWrite m v) s = .next (s.cvnCfg v) := guarded_next s m _ _ h
    refine ⟨_, hexec, ?_, fun a ha => ?_, fun hoff p hp => cvnCfg_off s v hoff p hp,
      fun hon hact hpend hup p hp => cvnCfg_on s v hon hact hpend hup p hp⟩
    · rw [reg_cvnCfg, State.reg_setReg, if_pos rfl]
      rfl
    · rw [reg_cvnCfg, State.reg_setReg, if_neg ha]
  case lock =>
    exact ⟨fun hoff => congrArg Host.Outcome.next (if_neg (by rw [hoff]; decide)),
      fun hon => ⟨_, congrArg Host.Outcome.next (if_pos hon), blockLock_spec s p.val⟩⟩
  case early =>
    refine congrArg Host.Outcome.next ?_
    unfold State.helloRx
    dsimp only
    rw [if_neg hup, if_pos hhand]
  case parent =>
    have hexec := helloRx_parent s p f h hp
    obtain ⟨hrole, hversion⟩ := helloParent_fails s p.val ver f.bytes hver.symm
    refine ⟨fun h1 => hexec.trans (congrArg Host.Outcome.next (hrole h1)),
      fun h1 h2 => hexec.trans (congrArg Host.Outcome.next (hversion h1 h2)),
      fun h0 hbranch h1 ek eph r g z tr hek heph hr hg hz htr => ?_⟩
    rw [hexec, helloParent_answers s p.val ver f.bytes hver.symm h1 h0 hbranch ek eph r g z tr hek heph hr hg hz htr]
    have hhand : ((s.out (.cvn p.val g)).link p.val).st = .handshake := handshake_of_helloTaken s _ _ h
    have haddr : (s.out (.cvn p.val g)).cvn.addr = s.cvn.addr := rfl
    refine ⟨fun hno => ⟨_, rfl, ?_⟩, fun k i hkey hright halloc => ⟨_, rfl, ?_⟩⟩
    · rw [linkDerive_fails (s.out (.cvn p.val g)) p.val ver z tr hno]
      obtain ⟨hst, hcause, -⟩ := link_linkFail (s.out (.cvn p.val g)) p.val 4
      exact ⟨hst, hcause⟩
    · obtain ⟨hbox, hst, hv, ht, hseq, hslot, hctx, hlast, hown⟩ :=
        linkDerive_spec (s.out (.cvn p.val g)) p.val ver z tr k i hkey hright
          ((allocAt_out s _ 0x45).trans halloc)
      generalize (s.out (.cvn p.val g)).linkDerive p.val ver z tr = t at hbox hst hv ht hseq hslot hctx hlast hown ⊢
      rw [State.confirmFrame, hown, haddr] at hlast
      rw [hctx]
      exact ⟨hbox _ (List.mem_append_right _ (List.mem_singleton.mpr rfl)), hst.trans hhand, hv, ht, hseq, hslot, rfl, rfl, rfl, hlast⟩
  case child =>
    have hexec := helloRx_child s f h
    obtain ⟨hrole, hversion⟩ := helloChild_fails s f.bytes
    refine ⟨fun h1 => hexec.trans (congrArg Host.Outcome.next (hrole h1)), fun h1 h2 h3 => ?_, fun ver hver hcan h1 k i hkey hright halloc => ?_⟩
    · exact hexec.trans (congrArg Host.Outcome.next (hversion h1 (by rw [childVersion, if_neg h2, if_neg h3])))
    · have hchosen : childVersion (Bytes.num (fBody f.bytes) 0 1) s.maxVer = ver := by
        rw [← hver, childVersion]
        rcases hcan with ⟨rfl, hmax⟩ | rfl
        · rw [if_pos ⟨rfl, hmax⟩]
        · rfl
      have hsome : ver ≠ 0 := by rcases hcan with ⟨rfl, -⟩ | rfl <;> decide
      obtain ⟨z, hz⟩ := helloChild_derives s f.bytes h1 (by rw [hchosen]; exact hsome)
      rw [hexec, hz, hchosen]
      obtain ⟨-, hst, hv, ht, hseq, -, hctx, -⟩ :=
        linkDerive_spec s 0 ver z (sha384 (fHead (s.link 0).hello ++ fHead f.bytes)) k i hkey hright halloc
      refine ⟨_, rfl, hst.trans (handshake_of_helloTaken s 0 _ h), hv, ht, hseq, ?_⟩
      rw [hctx]
      exact ⟨rfl, rfl⟩
  case confirm =>
    have hexec : exec (.cvnConfirmRx p f) s = .next (s.confirmed1 p.val f.lat f.bytes) :=
      congrArg Host.Outcome.next (confirmRx_taken s p.val f.lat f.bytes h)
    refine ⟨fun hbad => hexec.trans (congrArg Host.Outcome.next (if_pos hbad)),
      fun hgood => ⟨_, hexec.trans (congrArg Host.Outcome.next (if_neg (not_not.mpr hgood))), ?_, fun q hq => ?_, ?_, ?_⟩⟩
    · rw [show ∀ (u : State) (k q : Nat), (u.count k).link q = u.link q from fun u k q => by simp [State.link], link_modLink, if_pos rfl]
    · rw [show ∀ (u : State) (k q : Nat), (u.count k).link q = u.link q from fun u k q => by simp [State.link], link_modLink, if_neg hq]
    · rw [State.evt_count, if_pos rfl]
      rfl
    · apply State.ext <;> simp [State.routed]
  case timeout =>
    refine ⟨fun hst hlate => congrArg Host.Outcome.next (if_pos (by simp [hst, hlate])), fun hno => congrArg Host.Outcome.next (if_neg ?_)⟩
    simp only [Bool.and_eq_true, beq_iff_eq, decide_eq_true_eq]
    rintro ⟨hst, hlate⟩
    rcases hno with h | h
    · exact h hst
    · omega
  case fail =>
    obtain ⟨hst, hcause, hkey⟩ := link_linkFail s p cause
    exact ⟨hst, hcause, hkey, fun hlive => keyGone_linkLeave s p .failed cause hlive, fun q hq => link_linkLeave_other s p _ _ q hq⟩
  case restart =>
    have hexec : exec (.cvnPortRestart m v) s = .next ((List.range 3).foldl (State.portRestart v) s) := guarded_next s m _ _ h
    exact ⟨_, hexec, fun p hp => portRestart_spec s v p hp⟩
  case creditRx =>
    have hexec : s.cvnUp p.val = true → exec (.cvnCreditRx p f) s = .next (s.cvnIn p.val 7 f.bytes true (fun s => s)) :=
      fun hup => congrArg Host.Outcome.next (if_pos hup)
    refine ⟨fun hdown => congrArg Host.Outcome.next (if_neg (by rw [hdown]; decide)), fun hok => ?_, fun hup hfunc hlen => ?_,
      fun hup hfunc hlen htag => ?_⟩
    · have hup : s.cvnUp p.val = true := by
        unfold State.frameOk at hok
        simp only [Bool.and_eq_true] at hok
        obtain ⟨⟨⟨⟨⟨⟨⟨⟨hup, -⟩, -⟩, -⟩, -⟩, -⟩, -⟩, -⟩, -⟩ := hok
        exact hup
      exact (hexec hup).trans (congrArg Host.Outcome.next (cvnIn_ok s p.val 7 f.bytes true _ hok))
    · exact ⟨_, (hexec hup).trans (congrArg Host.Outcome.next (cvnIn_short s p.val 7 f.bytes true _ hfunc hlen)), dropFrame_spec s 0⟩
    · exact ⟨_, (hexec hup).trans (congrArg Host.Outcome.next (cvnIn_tag s p.val 7 f.bytes true _ hfunc hlen htag)), tagFail_spec s p.val⟩
  case creditSend =>
    refine ⟨fun hno => congrArg Host.Outcome.next (if_neg ?_), fun hup howed hnone => ?_⟩
    · simp only [Bool.and_eq_true, decide_eq_true_eq, Bool.not_eq_true']
      rintro ⟨⟨hup, howed⟩, hnone⟩
      rcases hno with h | h | h
      · exact absurd (h.symm.trans hup) (by decide)
      · omega
      · exact absurd (h.symm.trans hnone) (by decide)
    · refine ⟨_, congrArg Host.Outcome.next ((if_pos (by simp [hup, howed, hnone])).trans (xmit_credit s p.val)), rfl, ?_, fun q hq => ?_, rfl⟩
      · exact (link_setLink s p.val p.val _).trans (if_pos rfl)
      · exact (link_setLink s p.val q _).trans (if_neg hq)

end Sys2Proof.Machine
end

section
/-! PROOFS. A tamper response meets a second commit of the running command's kind (R590, R591). -/
namespace Sys2Proof.Machine

/-- A POLICY_SET that waits for its fuse, with no completion to write. -/
def jFuse : EnvJob :=
  { src := { issuer := 0x20, ring := 255, slot := 0, tag := 0, cqFail := false }, mctp := true, cmd := 4, issuer := 0, counter := 0,
    payload := [], raw := [], outAddr := 0, outLen := 0, accepted := true, wait := .fuse, since := 0, slot := 0, quiet := true }

/-- Its commit is in flight, and entry 17 waits with another fuse commit. -/
def sTwoCommits : State :=
  { sRuntime with
    cmd := { sRuntime.cmd with running := some jFuse }
    cis := { ((sRuntime.setAdm 16 { AdmEntry.reset with st := .running, what := .lcf (.field 1028 [1]) }).setAdm 17
      { AdmEntry.reset with st := .waiting, what := .lcf (.field 1028 [2]) }).cis with inflight := some 16 } }

theorem exec_sensorTrip (s : State) (c : Fin 13) (h11 : c.val ≠ 11) (h12 : c.val ≠ 12) (hsenses : s.senses c.val = true)
    (harmed : s.armed c.val = true) : exec (.sensorTrip c) s = .next (s.trip c.val) := by
  show Host.Outcome.next _ = _
  rw [if_neg h11, if_pos (by simp [h12, hsenses, harmed])]

/-! ### Ports on which nothing loads or waits -/

/-- A port after a tamper response, where nothing loads and no capture waits (R232, R276). -/
def PortState.halted (q : PortState) : PortState :=
  { q with
    stopped := true, stitch := Stitch.idle, checks := [], dev := none, active := none, scrub := { q.scrub with run := false },
    full := { q.full with run := false, binds := [], blk := 0, failed := [], all := [], retry := false } }

/-- Nothing of a port loads, and its write queue holds nothing. -/
def PortState.quiet (q : PortState) : Bool := q.binds.isEmpty && q.wins.isEmpty && q.wq.isEmpty

/-- A tree that loads fails (R232). -/
def PortState.bindStop (q : PortState) (b : Nat) : PortState :=
  if (q.bind b).st = .loading then q.setBind b { q.bind b with st := .failed, nodes := 0, reread := [] } else q

/-- A window that loads fails (R276). -/
def PortState.winStop (q : PortState) (w : Nat) : PortState :=
  if (q.win w).st = .loading then
    q.setWin w { q.win w with
      st := .failed, failBlk := (q.win w).next, retry := false, pend := if (q.win w).pend = some .loaded then none else (q.win w).pend }
  else q

/-- A capture that waits is discarded (R232). -/
def State.captureStop (p : Nat) (s : State) (i : Nat) : State :=
  if ((s.port p).wqe i).st = .captured ∨ ((s.port p).wqe i).st = .applied then
    if ((s.port p).wqe i).type ≠ 3 then
      (s.modPort p (fun q => q.setWqe i { (s.port p).wqe i with st := .discarded, result := stTampered })).failView p ((s.port p).wqe i)
    else s.modPort p (fun q => q.setWqe i { (s.port p).wqe i with st := .discarded, result := stTampered })
  else s

/-- The trees of a port that load. -/
def PortState.loadingTrees (q : PortState) : List Nat := (List.range 8).filter (fun b => (q.bind b).st == .loading)

theorem portStop_eq (s : State) (p : Nat) : s.portStop p =
    (List.range 64).foldl (State.captureStop p) ((s.port p).loadingTrees.foldl (fun s b => s.freeNodes p b)
      (s.setPort p ((List.range 64).foldl PortState.winStop ((List.range 8).foldl PortState.bindStop (s.port p))).halted)) := by
  unfold State.portStop PortState.loadingTrees
  generalize List.range 64 = l
  generalize List.range 8 = m
  rfl

theorem portStop_quiet (s : State) (p : Nat) (h : (s.port p).quiet = true) : s.portStop p = s.setPort p (s.port p).halted := by
  unfold PortState.quiet at h
  simp only [Bool.and_eq_true, List.isEmpty_iff] at h
  obtain ⟨⟨hbinds, hwins⟩, hwq⟩ := h
  have hbind : ∀ b, ((s.port p).bind b).st ≠ .loading := fun b => by
    rw [PortState.bind, hbinds]
    exact fun e => BindSt.noConfusion e
  have hwin : ∀ w, ((s.port p).win w).st ≠ .loading := fun w => by
    rw [PortState.win, hwins]
    exact fun e => WinSt.noConfusion e
  have htrees : (s.port p).loadingTrees = [] := by simp [PortState.loadingTrees, hbind]
  have hb : (List.range 8).foldl PortState.bindStop (s.port p) = s.port p := List.foldl_fixed' (fun b => if_neg (hbind b)) _
  have hw : (List.range 64).foldl PortState.winStop (s.port p) = s.port p := List.foldl_fixed' (fun w => if_neg (hwin w)) _
  rw [portStop_eq, htrees, List.foldl_nil, hb, hw]
  refine List.foldl_fixed' (fun i => if_neg ?_) _
  have hqueue : ((s.setPort p (s.port p).halted).port p).wqe i = WqEntry.reset := by
    rw [State.port_setPort, if_pos rfl, PortState.wqe]
    show SMap.get _ (s.port p).wq i = _
    rw [hwq]
    rfl
  rw [hqueue]
  exact fun e => e.elim (fun e => WqSt.noConfusion e) (fun e => WqSt.noConfusion e)

theorem portStops_quiet (l : List Nat) (hl : l.Nodup) : ∀ s : State, (∀ p ∈ l, (s.port p).quiet = true) →
    l.foldl State.portStop s = l.foldl (fun s p => s.setPort p (s.port p).halted) s := by
  induction l with
  | nil => exact fun s _ => by rw [List.foldl_nil, List.foldl_nil]
  | cons p l ih =>
    intro s hs
    obtain ⟨hp, hl'⟩ := List.nodup_cons.mp hl
    rw [List.foldl_cons, List.foldl_cons, portStop_quiet s p (hs p List.mem_cons_self)]
    refine ih hl' _ fun q hq => ?_
    rw [State.port_setPort, if_neg (fun e : q = p => hp (e ▸ hq))]
    exact hs q (List.mem_cons_of_mem p hq)

/-! ### What follows the end of the commits -/

/-- The steps of a tamper response from Caravan on. -/
def State.lastSteps (s : State) : State := s.cvnTamper.mbxTamper.stageTamper.tamperRecord.expTamper.pwrDrop.romTrip

theorem left_cvnTamper (s : State) : s.Left s.cvnTamper := by
  have hdown := left_foldl (List.range 3) State.portOff left_portOff s
  have hall : s.cvnTamper = (((List.range 3).foldl State.portOff s).modCvn (fun c => { c with missAt := [] })).modCvn
      (fun c => { c with rxFull := false, rxBuf := [], rxFrag := 0 }) := rfl
  rw [hall]
  generalize (List.range 3).foldl State.portOff s = u at hdown ⊢
  exact left_trans hdown (left_of_cvn rfl rfl)

/-- Where no message and no release is under way in the runtime, the last steps of a tamper response start no command. -/
theorem running_afterCommits (u : State) (hrun : u.cmd.running = none) (hmbx : u.mbx = []) (hrel : u.boot.rel = .idle)
    (hrt : u.boot.rtReleased = true) :
    u.lastSteps.cmd.running = none := by
  unfold State.lastSteps
  have hleft := (left_cvnTamper u).frame
  generalize u.cvnTamper = v at hleft ⊢
  have hmbx' : v.mbx = [] := by rw [hleft]; exact hmbx
  have hrel' : v.boot.rel = .idle := by rw [hleft]; exact hrel
  have hrt' : v.boot.rtReleased = true := by rw [hleft]; exact hrt
  have hrun' : v.cmd.running = none := by rw [hleft]; exact hrun
  have hbox : v.mbxTamper = v := List.foldl_fixed' (fun c => by
    rw [if_neg]
    rw [State.chan, hmbx']
    exact fun e => Bool.noConfusion (show false = true from e)) _
  rw [hbox, State.stageTamper, if_pos hrel', State.romTrip]
  have hboot : v.tamperRecord.expTamper.pwrDrop.boot = v.boot ∧ v.tamperRecord.expTamper.pwrDrop.cmd = v.cmd := by
    unfold State.pwrDrop State.expTamper
    split_ifs <;> simp [State.tamperRecord, State.expFail]
  rw [hboot.1, hrt', if_pos (by rfl), hboot.2, hrun']

/-! ### The response -/

/-- The steps of a tamper response from the lines to the commits. -/
def State.keysAndCommits (s : State) : State := (s.forceAll.count (evBoot 11)).celTamper.digTamper.tkTamper.measTamper.cmdTamper.admTamper

theorem coreTrip_eq (s : State) : s.coreTrip =
    ((List.range 16).foldl State.portStop ((s.modTamp (fun t => { t with responded := true })).count (evTamp 0))).keysAndCommits.lastSteps := by
  unfold State.coreTrip State.keysAndCommits State.lastSteps
  dsimp only

/-- `sTwoCommits` with cause 0 latched. -/
def sLatched : State := (sTwoCommits.modTamp (fun t => { t with live := t.live ||| causeBit 0 })).latchTrip (causeBit 0)

/-- Its cause counted, as the core begins to respond. -/
def sTripped : State := (sLatched.countCauses (causeBit 0)).modTamp (fun t => { t with responded := true })

/-- Its ports stopped. -/
def sHalted : State := (List.range 16).foldl (fun s p => s.setPort p (s.port p).halted) (sTripped.count (evTamp 0))

/-- Its keys, jobs and commits ended. -/
def sErased : State := sHalted.keysAndCommits

theorem quiet_sTripped : ∀ p ∈ List.range 16, ((sTripped.count (evTamp 0)).port p).quiet = true := by decide +kernel

theorem sErased_done : sErased.cmd.running = none ∧ sErased.mbx = [] ∧ sErased.boot.rel = .idle ∧ sErased.boot.rtReleased = true := by
  decide +kernel

theorem trip_responds (s : State) (c : Nat) (h : c ≠ 9) :
    s.trip c = (s.modTamp (fun t => { t with live := t.live ||| causeBit c })).respond (causeBit c) := if_neg h

theorem respond_up (s : State) (v : BitVec 13) (h : (s.latchTrip v).coreUp = true) :
    s.respond v = ((s.latchTrip v).countCauses v).coreTrip := if_pos h

theorem trip_sTwoCommits : sTwoCommits.trip 0 = sErased.lastSteps := by
  have hports : (List.range 16).foldl State.portStop (sTripped.count (evTamp 0)) = sHalted :=
    portStops_quiet (List.range 16) List.nodup_range _ quiet_sTripped
  have hup : sLatched.coreUp = true := by decide
  rw [trip_responds _ 0 (by decide), respond_up _ _ hup, coreTrip_eq]
  change ((List.range 16).foldl State.portStop (sTripped.count (evTamp 0))).keysAndCommits.lastSteps = _
  rw [hports, sErased]

/-- Refutes O52: the waiting commit is withdrawn with TAMPERED, which ends the command that waits for a fuse; the clause has a command whose
commit is in flight go on. In `sTwoCommits` both are there. -/
theorem not_tripsLatchTheirCauseAndEraseTheSecrets : ¬ Obligations.TripsLatchTheirCauseAndEraseTheSecrets := by
  unfold Obligations.TripsLatchTheirCauseAndEraseTheSecrets
  intro h
  obtain ⟨-, htrip, -⟩ := h
  obtain ⟨t, ht, -, -, -, -, -, -, -, hcore, -⟩ := htrip sTwoCommits 0 (by decide) (by decide) (by decide) (by decide) (by decide)
  obtain ⟨-, -, -, -, -, -, hrunning, -⟩ := hcore (by decide)
  obtain rfl : sTwoCommits.trip 0 = t :=
    Host.Outcome.next.inj ((exec_sensorTrip sTwoCommits 0 (by decide) (by decide) (by decide) (by decide)).symm.trans ht)
  obtain ⟨hrun, hmbx, hrel, hrt⟩ := sErased_done
  have hnone : (sTwoCommits.trip 0).cmd.running = none := by
    rw [trip_sTwoCommits]
    exact running_afterCommits sErased hrun hmbx hrel hrt
  exact absurd (hnone.symm.trans hrunning) (by decide)

end Sys2Proof.Machine
end

section
/-! PROOFS. Frames that are taken and sent on: walks, training, time and sweeps (R530, R538 to R547, R552 to R554). -/
namespace Sys2Proof.Machine

/-! ### What a frame on its way leaves -/

/-- A link port without its queue, its credits and its counters. -/
def CvnPort.core (l : CvnPort) : CvnPort :=
  { l with tx := 0, rxFree := 0, owed := 0, txSeq := 0, rxSeq := 0, tagFails := 0, hopMax := 0, frames := 0, waiting := [] }

/-- `t` is `s` after frames were taken and sent on; a SWEEP frame may end the openings of its node (R547). -/
structure State.Walked (s t : State) : Prop where
  frame : t = { s with
    regs := t.regs, cvn := { s.cvn with ports := t.cvn.ports, missAt := t.cvn.missAt, missEpoch := t.cvn.missEpoch },
    freeCtr := t.freeCtr, outbox := t.outbox }
  regs : ∀ a, a ≠ aCvn 0 0x5C → t.reg a = s.reg a
  links : ∀ q, (t.link q).core = (s.link q).core

section
variable {r s t : State}

theorem walked_trans (hrs : r.Walked s) (hst : s.Walked t) : r.Walked t where
  frame := Eq.trans hst.frame (congrArg (fun x : State => { x with
    regs := t.regs, cvn := { x.cvn with ports := t.cvn.ports, missAt := t.cvn.missAt, missEpoch := t.cvn.missEpoch },
    freeCtr := t.freeCtr, outbox := t.outbox }) hrs.frame)
  regs a ha := (hst.regs a ha).trans (hrs.regs a ha)
  links q := (hst.links q).trans (hrs.links q)

theorem core_of_sent {a b : CvnPort} (h : a.Sent b) : b.core = a.core :=
  (congrArg CvnPort.core (show b = _ from h)).trans rfl

theorem walked_of_sent (h : s.Sent t) : s.Walked t where
  frame := by
    have hframe := h.frame
    rw [hframe]
  regs := h.regs
  links q := core_of_sent (h.links q)

/-- A port whose frame is taken, before what waited for its credits is sent (R536, R538). -/
def CvnPort.taken (l : CvnPort) (want : Nat) (b : Bytes) : CvnPort :=
  { l with
    tagFails := 0, rxSeq := Bytes.num b 0x18 8, frames := satInc l.frames, tx := min 16 (l.tx + Bytes.num b 0xE 2),
    rxFree := (if want = 7 then l.rxFree else l.rxFree - 1), peer := (if want = 7 then fSrc b else l.peer) }

theorem frameTaken_eq (s : State) (p want : Nat) (b : Bytes) :
    ∃ u : State, s.frameTaken p want b = u.drain p ∧ (∀ q, u.link q = if q = p then (s.link p).taken want b else s.link q) ∧
      u = { s with cvn := { s.cvn with ports := u.cvn.ports } } := by
  refine ⟨_, rfl, fun q => ?_, rfl⟩
  rw [link_modLink, link_modLink, link_modLink, if_pos rfl]
  by_cases hq : q = p
  · rw [if_pos hq, if_pos hq]
    rfl
  · rw [if_neg hq, if_neg hq, if_neg hq]

theorem walked_frameTaken (s : State) (p want : Nat) (b : Bytes) (hwant : want ≠ 7) : s.Walked (s.frameTaken p want b) := by
  obtain ⟨u, hdrain, hlink, hframe⟩ := frameTaken_eq s p want b
  rw [hdrain]
  refine walked_trans ⟨?_, fun a _ => ?_, fun q => ?_⟩ (walked_of_sent (sent_drain u p))
  · rw [hframe]
  · rw [hframe]
    rfl
  · rw [hlink]
    split_ifs with hq
    · rw [hq, CvnPort.taken, if_neg hwant]
      rfl
    · rfl

/-- What was taken on a port on which nothing waits sends nothing. -/
theorem frameTaken_still (s : State) (p want : Nat) (b : Bytes) (hwait : (s.link p).waiting = []) :
    (∀ q, (s.frameTaken p want b).link q = if q = p then (s.link p).taken want b else s.link q) ∧
    s.frameTaken p want b = { s with cvn := (s.frameTaken p want b).cvn } := by
  obtain ⟨u, hdrain, hlink, hframe⟩ := frameTaken_eq s p want b
  have hstill : u.drain p = u := by
    have hnone : (u.link p).waiting = [] := by
      rw [hlink, if_pos rfl]
      exact hwait
    unfold State.drain
    split_ifs
    · rw [hnone]
      rfl
    · rfl
  rw [hdrain, hstill]
  exact ⟨hlink, by rw [hframe]⟩

theorem st_of_walked (h : s.Walked t) (q : Nat) : (t.link q).st = (s.link q).st := by
  have hcore : (t.link q).core.st = (s.link q).core.st := congrArg CvnPort.st (h.links q)
  exact hcore

theorem peer_of_walked (h : s.Walked t) (q : Nat) : (t.link q).peer = (s.link q).peer := by
  have hcore : (t.link q).core.peer = (s.link q).core.peer := congrArg CvnPort.peer (h.links q)
  exact hcore

theorem lat_of_walked (h : s.Walked t) (q : Nat) : (t.link q).lat = (s.link q).lat := by
  have hcore : (t.link q).core.lat = (s.link q).core.lat := congrArg CvnPort.lat (h.links q)
  exact hcore

theorem held_of_walked (h : s.Walked t) (q : Nat) : (t.link q).held = (s.link q).held := by
  have hcore : (t.link q).core.held = (s.link q).core.held := congrArg CvnPort.held (h.links q)
  exact hcore

theorem cis_of_walked (h : s.Walked t) : t.cis = s.cis := by
  rw [h.frame]

theorem evt_of_walked (h : s.Walked t) (k : Nat) : t.evt k = s.evt k := by
  rw [h.frame]
  rfl

/-- The walk goes where the states of the ports and the role of the node send it (R530). -/
theorem walkNext_congr (pin : Option Nat) (ret : Bool) (hroot : t.cvnRoot = s.cvnRoot) (hst : ∀ q, (t.link q).st = (s.link q).st) :
    t.walkNext pin ret = s.walkNext pin ret := by
  have hup : ∀ q, t.cvnUp q = s.cvnUp q := fun q => by rw [State.cvnUp, hst, State.cvnUp]
  unfold State.walkNext
  rw [hroot, hup, hup]

theorem cvnRoot_of_walked (h : s.Walked t) : t.cvnRoot = s.cvnRoot := by
  unfold State.cvnRoot State.bitOf
  rw [h.regs _ (by decide)]

theorem walkNext_of_walked (h : s.Walked t) (pin : Option Nat) (ret : Bool) : t.walkNext pin ret = s.walkNext pin ret :=
  walkNext_congr pin ret (cvnRoot_of_walked h) (st_of_walked h)

theorem rackPos_of_walked (h : s.Walked t) : t.rackPos = s.rackPos := by
  unfold State.rackPos State.fldOf
  rw [cvnRoot_of_walked h, h.regs _ (by decide), h.regs _ (by decide), cis_of_walked h]

theorem rackAhead_of_walked (h : s.Walked t) (hc lu : Nat) : t.rackAhead hc lu = s.rackAhead hc lu := by
  unfold State.rackAhead
  rw [rackPos_of_walked h]

end

/-! ### Frames that leave at once -/

theorem link_slotFree_other (s : State) (o : Option Nat) (q : Nat) (h : o ≠ some q) : (s.slotFree o).link q = s.link q := by
  cases o with
  | none => rfl
  | some p =>
    unfold State.slotFree
    dsimp only
    split_ifs
    · rw [link_modLink, if_neg (fun e : q = p => h (by rw [e]))]
    · rfl

theorem link_copyGone_other (s : State) (e : CvnOut) (q : Nat) (h : e.held ≠ some q) : (s.copyGone e).link q = s.link q := by
  unfold State.copyGone
  split_ifs
  · rfl
  · exact link_slotFree_other s _ q h

theorem copyGone_unheld (s : State) (e : CvnOut) (h : e.held = none) : s.copyGone e = s := by
  rw [State.copyGone, h]
  rfl

theorem outbox_copyGone (s : State) (e : CvnOut) : (s.copyGone e).outbox = s.outbox :=
  (congrArg State.outbox (slotsFreed_copyGone s e).frame).trans rfl

theorem outbox_hopSeen (s : State) (o : Option Nat) : (s.hopSeen o).outbox = s.outbox := by
  cases o <;> rfl

/-- A frame as it leaves: a TIME frame takes its position then (R552). -/
def State.timed (s : State) (e : CvnOut) : CvnOut := if e.func = 5 then { e with pos := s.rackBytes s.rackPos } else e

/-- A port that has sent a frame (R538). -/
def CvnPort.spent (l : CvnPort) (func : Nat) : CvnPort :=
  { l with owed := 0, txSeq := l.txSeq + 1, tx := if func = 7 then l.tx else l.tx - 1 }

theorem xmit_eq (s : State) (p : Nat) (e : CvnOut) : s.xmit p e =
    (((s.setLink p ((s.link p).spent (s.timed e).func)).out (.cvn p (s.nextFrame p (s.timed e)))).hopSeen (s.timed e).held).copyGone
      (s.timed e) := rfl

theorem outbox_xmit (s : State) (p : Nat) (e : CvnOut) : (s.xmit p e).outbox = s.outbox ++ [.cvn p (s.nextFrame p (s.timed e))] := by
  rw [xmit_eq, outbox_copyGone, outbox_hopSeen]
  rfl

theorem timed_held (s : State) (e : CvnOut) : (s.timed e).held = e.held := by
  unfold State.timed
  split_ifs <;> rfl

theorem timed_func (s : State) (e : CvnOut) : (s.timed e).func = e.func := by
  unfold State.timed
  split_ifs <;> rfl

theorem xmit_unheld (s : State) (p : Nat) (e : CvnOut) (h : e.held = none) :
    s.xmit p e = (s.setLink p ((s.link p).spent e.func)).out (.cvn p (s.nextFrame p (s.timed e))) := by
  rw [xmit_eq, timed_held, timed_func, h, copyGone_unheld _ _ (by rw [timed_held, h])]
  rfl

/-- What the next frame of a port is does not depend on the other ports, nor on what waits in it. -/
theorem nextFrame_congr (s t : State) (q : Nat) (e : CvnOut) (hframe : t = { s with cvn := t.cvn })
    (hkey : (t.link q).key = (s.link q).key) (hver : (t.link q).ver = (s.link q).ver) (hseq : (t.link q).txSeq = (s.link q).txSeq)
    (howed : (t.link q).owed = (s.link q).owed) : t.nextFrame q (t.timed e) = s.nextFrame q (s.timed e) := by
  have hkeys : t.linkKeys q = s.linkKeys q := by
    unfold State.linkKeys
    rw [hkey]
    generalize (s.link q).key = k
    rw [hframe]
    rfl
  have htimed : t.timed e = s.timed e := by
    rw [hframe]
    rfl
  unfold State.nextFrame State.sendKey
  rw [hkeys, hver, howed, hseq, htimed]

theorem drain_one (s : State) (q : Nat) (e : CvnOut) (hup : s.cvnUp q = true) (hwait : (s.link q).waiting = [e])
    (hmay : mayXmit (s.link q).tx e = true) : s.drain q = (s.modLink q (fun l => { l with waiting := [] })).xmit q e := by
  have hgo : s.drainGo q 1 = (s.modLink q (fun l => { l with waiting := l.waiting.erase e })).xmit q e := by
    unfold State.drainGo
    rw [hwait, List.find?_cons_of_pos hmay]
    rfl
  rw [State.drain, if_pos hup, hwait]
  refine hgo.trans (congrArg (fun u : State => u.xmit q e) ?_)
  rw [State.modLink, State.modLink, hwait, List.erase_cons_head]

/-- `s` once a frame waits on a port, and the slot that it held is free where no other copy waits. -/
def State.queuedOn (s : State) (q : Nat) (e : CvnOut) : State := (s.modLink q (fun l => { l with waiting := l.waiting ++ [e] })).copyGone e

theorem queuedOn_spec (s : State) (q : Nat) (e : CvnOut) :
    s.queuedOn q e = { s with cvn := (s.queuedOn q e).cvn } ∧ (s.queuedOn q e).outbox = s.outbox ∧
    (e.held = none → s.queuedOn q e = s.modLink q (fun l => { l with waiting := l.waiting ++ [e] })) := by
  have hframe := (slotsFreed_copyGone (s.modLink q (fun l => { l with waiting := l.waiting ++ [e] })) e).frame
  have hsame : s.queuedOn q e = { s with cvn := (s.queuedOn q e).cvn } := by
    unfold State.queuedOn
    generalize (s.modLink q (fun l => { l with waiting := l.waiting ++ [e] })).copyGone e = u at hframe ⊢
    rw [hframe]
    rfl
  exact ⟨hsame, outbox_copyGone _ e, copyGone_unheld _ e⟩

theorem sentOut_frame (s u : State) (q : Nat) (l : CvnPort) (o : Out) (h : u = { s with cvn := { s.cvn with ports := u.cvn.ports } }) :
    (u.setLink q l).out o =
      { s with cvn := { s.cvn with ports := ((u.setLink q l).out o).cvn.ports }, outbox := ((u.setLink q l).out o).outbox } := by
  have hown : (u.setLink q l).out o =
      { u with cvn := { u.cvn with ports := ((u.setLink q l).out o).cvn.ports }, outbox := ((u.setLink q l).out o).outbox } := rfl
  generalize (u.setLink q l).out o = t at hown ⊢
  rw [hown, h]

/-- A frame that may leave at once does (R538). -/
theorem give_idle (s : State) (q : Nat) (e : CvnOut) (hup : s.cvnUp q = true) (hwait : (s.link q).waiting = [])
    (hmay : mayXmit (s.link q).tx e = true) (hver : ¬(e.func = 6 ∧ (s.link q).ver < 2)) (hheld : e.held ≠ some q) :
    (s.give q e).outbox = s.outbox ++ [.cvn q (s.nextFrame q (s.timed e))] ∧
    (e.held = none → (s.give q e).link q = (s.link q).spent e.func ∧ (∀ p, p ≠ q → (s.give q e).link p = s.link p) ∧
      s.give q e = { s with cvn := { s.cvn with ports := (s.give q e).cvn.ports }, outbox := (s.give q e).outbox }) := by
  have hput : s.put q e = s.modLink q (fun l => { l with waiting := l.waiting ++ [e] }) := by
    rw [State.put, hup, if_neg (by decide), if_neg hver]
  have hgive : s.give q e = (s.queuedOn q e).drain q := by
    rw [State.queuedOn, ← hput]
    rfl
  have hself : (s.queuedOn q e).link q = { s.link q with waiting := [e] } := by
    rw [State.queuedOn, link_copyGone_other _ _ _ hheld, link_modLink, if_pos rfl, hwait]
    rfl
  obtain ⟨hframe, hbox, hnone⟩ := queuedOn_spec s q e
  rw [hgive]
  generalize s.queuedOn q e = u at hself hbox hframe hnone ⊢
  have hdrain := drain_one u q e (by rw [State.cvnUp, hself]; exact hup) (by rw [hself]) (by rw [hself]; exact hmay)
  have hempty : (u.modLink q (fun l => { l with waiting := [] })).link q = s.link q := by
    rw [link_modLink, if_pos rfl, hself, ← hwait]
  rw [hdrain]
  refine ⟨?_, fun hh => ?_⟩
  · rw [outbox_xmit, nextFrame_congr s (u.modLink q (fun l => { l with waiting := [] })) q e (by rw [hframe]; rfl) (by rw [hempty])
      (by rw [hempty]) (by rw [hempty]) (by rw [hempty])]
    exact congrArg (· ++ _) hbox
  · rw [xmit_unheld _ _ _ hh, hempty]
    refine ⟨?_, fun p hp => ?_, ?_⟩
    · exact (link_setLink _ q q _).trans (if_pos rfl)
    · refine ((link_setLink _ q p _).trans (if_neg hp)).trans ?_
      rw [link_modLink, if_neg hp, hnone hh, link_modLink, if_neg hp]
    · rw [hnone hh]
      exact sentOut_frame s _ q _ _ rfl

theorem mayXmit_light (tx func : Nat) (e : CvnOut) (hfunc : e.func = func) (hlight : bulky func = false) (htx : 0 < tx) : mayXmit tx e = true := by
  rw [mayXmit, hfunc, hlight]
  simpa using htx

theorem linkIdle_parts (s : State) (p n : Nat) (h : s.linkIdle p n = true) : s.cvnUp p = true ∧ (s.link p).waiting = [] ∧ n < (s.link p).tx := by
  unfold State.linkIdle at h
  simp only [Bool.and_eq_true, List.isEmpty_iff, decide_eq_true_eq] at h
  obtain ⟨⟨hup, hwait⟩, htx⟩ := h
  exact ⟨hup, hwait, htx⟩

end Sys2Proof.Machine
end

section
/-! PROOFS. Training and time: what TRAIN and TIME frames do at a node and at the root (R539, R552 to R554). -/
namespace Sys2Proof.Machine

/-! ### Training -/

/-- What sending on a TRAIN frame leaves to a node, whether the walk goes on or ends there (R539). -/
structure State.TrainedOn (s t : State) : Prop where
  frame : t = { s with cvn := t.cvn, outbox := t.outbox, regs := t.regs, freeCtr := t.freeCtr }
  addr : t.cvn.addr = s.cvn.addr
  branch : t.cvn.branchLast = s.cvn.branchLast
  up : (t.link 0).peer = (s.link 0).peer

section
variable {r s t : State}

theorem trainedOn_trans (hrs : r.TrainedOn s) (hst : s.TrainedOn t) : r.TrainedOn t where
  frame := Eq.trans hst.frame (congrArg (fun x : State => { x with
    cvn := t.cvn, outbox := t.outbox, regs := t.regs, freeCtr := t.freeCtr }) hrs.frame)
  addr := hst.addr.trans hrs.addr
  branch := hst.branch.trans hrs.branch
  up := hst.up.trans hrs.up

theorem trainedOn_of_walked (h : s.Walked t) : s.TrainedOn t := by
  refine ⟨?_, ?_, ?_, peer_of_walked h 0⟩ <;> rw [h.frame]

theorem evt_of_trainedOn (h : s.TrainedOn t) (k : Nat) : t.evt k = s.evt k := by
  rw [h.frame]
  rfl

end

theorem trainEnd_spec (s : State) (next un hops : Nat) (ring : Bool) :
    let t := s.trainEnd next un hops ring
    s.TrainedOn t ∧ t.outbox = s.outbox ∧ t.cvn.trained = true ∧ t.cvn.nodes = min (next - 1) 4095 ∧ t.cvn.unaddr = un ∧
    t.cvn.hops = hops ∧ t.cvn.topo = if ring then 1 else 2 :=
  ⟨⟨rfl, rfl, rfl, rfl⟩, rfl, rfl, rfl, rfl, rfl, rfl⟩

/-- PEER of the port on which TRAIN goes out (R539): UP keeps its own. -/
theorem peerOut_spec (s : State) (q next : Nat) :
    s.TrainedOn (s.peerOut q next) ∧ (s.peerOut q next).cvn.trained = s.cvn.trained := by
  have hmod : ∀ (f : CvnPort → CvnPort), q ≠ 0 → s.TrainedOn (s.modLink q f) := fun f hq =>
    ⟨rfl, rfl, rfl, by rw [link_modLink, if_neg (Ne.symm hq)]⟩
  unfold State.peerOut
  dsimp only
  by_cases h0 : q = 0
  · rw [if_pos h0]
    exact ⟨⟨rfl, rfl, rfl, rfl⟩, rfl⟩
  · rw [if_neg h0]
    by_cases h1 : q = 1 ∧ (!s.cvnRoot) = true
    · rw [if_pos h1]
      exact ⟨trainedOn_trans (hmod _ h0) ⟨rfl, rfl, rfl, rfl⟩, rfl⟩
    · rw [if_neg h1]
      exact ⟨hmod _ h0, rfl⟩

/-- The frame by which training goes on (R539). -/
def trainOut (src next un hops flags : Nat) (ret : Bool) (held : Option Nat) : CvnOut :=
  { cvnOut 2 src 0 (trainBody next un (min 65535 (hops + 1))) with flags := setRet flags ret, held := held }

theorem trainSend_end (s : State) (pin : Option Nat) (src next un hops flags : Nat) (held : Option Nat)
    (h : s.walkNext pin (flags % 2 == 1) = none) :
    s.trainSend pin src next un hops flags held = (s.trainEnd next un hops (pin == some 0)).slotFree held := by
  unfold State.trainSend
  rw [h]

theorem trainSend_on (s : State) (pin : Option Nat) (src next un hops flags : Nat) (held : Option Nat) (q : Nat) (ret : Bool)
    (h : s.walkNext pin (flags % 2 == 1) = some (q, ret)) :
    s.trainSend pin src next un hops flags held = (s.peerOut q next).give q (trainOut src next un hops flags ret held) := by
  unfold State.trainSend
  rw [h]
  rfl

/-- Sending on a TRAIN frame changes nothing else, and a walk that goes on leaves TRAINED as it was. -/
theorem trainSend_keeps (s : State) (pin : Option Nat) (src next un hops flags : Nat) (held : Option Nat) :
    let t := s.trainSend pin src next un hops flags held
    s.TrainedOn t ∧ (s.walkNext pin (flags % 2 == 1) ≠ none → t.cvn.trained = s.cvn.trained) := by
  dsimp only
  cases h : s.walkNext pin (flags % 2 == 1) with
  | none =>
    obtain ⟨hon, -⟩ := trainEnd_spec s next un hops (pin == some 0)
    rw [trainSend_end s pin src next un hops flags held h]
    generalize s.trainEnd next un hops (pin == some 0) = u at hon ⊢
    exact ⟨trainedOn_trans hon (trainedOn_of_walked (walked_of_sent (sent_slotFree u held))), fun hno => absurd rfl hno⟩
  | some x =>
    obtain ⟨q, ret⟩ := x
    obtain ⟨hon, htrained⟩ := peerOut_spec s q next
    rw [trainSend_on s pin src next un hops flags held q ret h]
    generalize s.peerOut q next = u at hon htrained ⊢
    have hsent := walked_of_sent (sent_give u q (trainOut src next un hops flags ret held))
    refine ⟨trainedOn_trans hon (trainedOn_of_walked hsent), fun _ => ?_⟩
    rw [hsent.frame, ← htrained]

/-- A walk that ends at the root ends the training (R539). -/
theorem trainSend_ends (s : State) (pin : Option Nat) (src next un hops flags : Nat) (held : Option Nat)
    (h : s.walkNext pin (flags % 2 == 1) = none) :
    let t := s.trainSend pin src next un hops flags held
    t.cvn.trained = true ∧ t.cvn.nodes = min (next - 1) 4095 ∧ t.cvn.unaddr = un ∧ t.cvn.hops = hops ∧
    t.cvn.topo = (if (pin == some 0) = true then 1 else 2) ∧ t.outbox = s.outbox := by
  obtain ⟨-, hbox, hend⟩ := trainEnd_spec s next un hops (pin == some 0)
  rw [trainSend_end s pin src next un hops flags held h]
  generalize s.trainEnd next un hops (pin == some 0) = u at hbox hend ⊢
  have hfreed := (slotsFreed_slotFree u held).frame
  generalize u.slotFree held = t at hfreed ⊢
  rw [hfreed, ← hbox]
  obtain ⟨h1, h2, h3, h4, h5⟩ := hend
  exact ⟨h1, h2, h3, h4, h5, rfl⟩

theorem rootPort_walk (s : State) (hroot : s.cvnRoot = true) :
    (s.cvnUp 1 = false → s.cvnUp 2 = false → s.walkNext none false = none) ∧
    (s.cvnUp s.rootPort = true → s.walkNext none false = some (s.rootPort, false)) := by
  unfold State.rootPort State.walkNext
  rw [hroot]
  refine ⟨fun h1 h2 => by simp [h1, h2], fun h => ?_⟩
  split_ifs at h with h2
  · simp [h2]
  · simp [h2, h]

/-- The root as its training begins (R539). -/
def State.trainRoot (s : State) : State := (s.modCvn (fun c => { c with addr := 1, branchLast := 0 })).cvnBound

/-- The root's TRAIN (R539). -/
theorem train_spec (s : State) (hroot : s.cvnRoot = true) :
    let t := s.trainRoot.trainSend none 1 2 0 0 0 none
    t.cvn.addr = 1 ∧ t.cvn.branchLast = 0 ∧ t = { s with cvn := t.cvn, outbox := t.outbox, regs := t.regs, freeCtr := t.freeCtr } ∧
    (s.cvnUp 1 = false → s.cvnUp 2 = false → t.cvn.trained = true ∧ t.cvn.nodes = 1 ∧ t.cvn.unaddr = 0 ∧ t.cvn.hops = 0 ∧
      t.outbox = s.outbox) ∧
    (s.linkIdle s.rootPort 0 = true → (t.link s.rootPort).peer = 2 ∧
      t.outbox = s.outbox ++ [.cvn s.rootPort (s.nextFrame s.rootPort (cvnOut 2 1 0 (trainBody 2 0 1)))]) := by
  have hlinks : ∀ q, s.trainRoot.link q = s.link q := fun _ => rfl
  have hwalk : ∀ pin ret, s.trainRoot.walkNext pin ret = s.walkNext pin ret := fun _ _ => rfl
  have hroot' : s.trainRoot.cvnRoot = true := hroot
  have haddr : s.trainRoot.cvn.addr = 1 := rfl
  have hbranch : s.trainRoot.cvn.branchLast = 0 := rfl
  have hframe : s.trainRoot = { s with cvn := s.trainRoot.cvn } := rfl
  obtain ⟨hnone, hsome⟩ := rootPort_walk s hroot
  dsimp only
  generalize s.trainRoot = u at hlinks hwalk hroot' haddr hbranch hframe ⊢
  obtain ⟨hon, -⟩ := trainSend_keeps u none 1 2 0 0 0 none
  refine ⟨hon.addr.trans haddr, hon.branch.trans hbranch, ?_, fun h1 h2 => ?_, fun hidle => ?_⟩
  · have hown := hon.frame
    generalize u.trainSend none 1 2 0 0 0 none = t at hown ⊢
    rw [hown, hframe]
  · obtain ⟨htr, hn, hu, hh, -, hbox⟩ := trainSend_ends u none 1 2 0 0 0 none ((hwalk none false).trans (hnone h1 h2))
    exact ⟨htr, hn, hu, hh, hbox.trans (by rw [hframe])⟩
  · obtain ⟨hup, hwait, htx⟩ := linkIdle_parts s _ 0 hidle
    have hport : s.rootPort = 1 ∨ s.rootPort = 2 := by
      unfold State.rootPort
      split_ifs
      · exact Or.inr rfl
      · exact Or.inl rfl
    rw [trainSend_on u none 1 2 0 0 0 none s.rootPort false ((hwalk none false).trans (hsome hup))]
    generalize s.rootPort = q at hup hwait htx hport ⊢
    have hpeer : u.peerOut q 2 = u.modLink q (fun l => { l with peer := 2 }) := by
      unfold State.peerOut
      dsimp only
      rw [if_neg (by omega), if_neg (by rw [hroot']; simp), if_pos (by decide)]
    have hself : (u.modLink q (fun l => { l with peer := 2 })).link q = { s.link q with peer := 2 } := by
      rw [link_modLink, if_pos rfl, hlinks]
    have hcvn : u.modLink q (fun l => { l with peer := 2 }) = { s with cvn := (u.modLink q (fun l => { l with peer := 2 })).cvn } := by
      rw [hframe]
      rfl
    rw [hpeer]
    generalize u.modLink q (fun l => { l with peer := 2 }) = w at hself hcvn ⊢
    obtain ⟨hbox, hrest⟩ := give_idle w q (trainOut 1 2 0 0 0 false none) (by rw [State.cvnUp, hself]; exact hup) (by rw [hself]; exact hwait)
      (mayXmit_light _ 2 _ rfl rfl (by rw [hself]; exact htx)) (by rintro ⟨h6, -⟩; exact absurd h6 (by decide)) (by simp [trainOut])
    obtain ⟨hlink, -, -⟩ := hrest rfl
    refine ⟨?_, ?_⟩
    · rw [hlink, hself]
      rfl
    · rw [hbox, nextFrame_congr s w q _ hcvn (by rw [hself]) (by rw [hself]) (by rw [hself]) (by rw [hself])]
      rw [hcvn]
      rfl

/-- Where the walk goes on from `t` as it does from `s`: the node's role and the states of its ports are the same. -/
def State.sameWalk (s t : State) : Prop := t.cvnRoot = s.cvnRoot ∧ ∀ q, (t.link q).st = (s.link q).st

theorem sameWalk_trans {r s t : State} (hrs : r.sameWalk s) (hst : s.sameWalk t) : r.sameWalk t :=
  ⟨hst.1.trans hrs.1, fun q => (hst.2 q).trans (hrs.2 q)⟩

theorem sameWalk_modLink (s : State) (p : Nat) (f : CvnPort → CvnPort) (h : (f (s.link p)).st = (s.link p).st) : s.sameWalk (s.modLink p f) := by
  refine ⟨rfl, fun q => ?_⟩
  rw [link_modLink]
  split_ifs with hq
  · rw [h, hq]
  · rfl

theorem sameWalk_count (s : State) (k : Nat) : s.sameWalk (s.count k) := by
  refine ⟨?_, fun q => ?_⟩
  · rw [State.cvnRoot, State.bitOf, State.reg_count]
    rfl
  · simp [State.link]

theorem evt_trainPeer (s : State) (next hops k : Nat) : (s.trainPeer next hops).evt k = s.evt k := by
  unfold State.trainPeer
  split_ifs <;> rfl

/-- PEER of UP once a TRAIN frame came in on it (R539, R545). -/
theorem trainPeer_spec (s : State) (next hops : Nat) :
    s.sameWalk (s.trainPeer next hops) ∧ (hops + 1 = next → ((s.trainPeer next hops).link 0).peer = next - 1) := by
  unfold State.trainPeer
  split_ifs with h
  · exact ⟨sameWalk_modLink s 0 _ rfl, fun _ => by rw [link_modLink, if_pos rfl]⟩
  · exact ⟨sameWalk_modLink s 0 (fun l => { l with peer := (Config.freeWord s.freeCtr).toNat % 4096 }) rfl, fun e => absurd e h⟩

/-- A node that takes an address from TRAIN (R539). -/
theorem trainTake_spec (s : State) (next un : Nat) :
    s.sameWalk (s.trainTake next un).1 ∧ ((s.trainTake next un).1.link 0).peer = (s.link 0).peer ∧
    (next ≤ 0xFFF → (s.trainTake next un).1.cvn.addr = next ∧ (s.trainTake next un).1.cvn.trained = true ∧
      (s.trainTake next un).1.evt (evCvn 2) = (s.evt (evCvn 2)).bump) ∧
    (0xFFF < next → (s.trainTake next un).1.cvn.addr = 0 ∧ (s.trainTake next un).1.cvn.trained = false ∧
      (s.trainTake next un).1.evt (evCvn 3) = (s.evt (evCvn 3)).bump) := by
  unfold State.trainTake
  dsimp only
  split_ifs with h
  · refine ⟨sameWalk_trans (s := (s.modCvn _).modCvn _) ⟨rfl, fun _ => rfl⟩ (sameWalk_count _ _), ?_,
      fun _ => ⟨by simp [State.modCvn], by simp [State.modCvn], ?_⟩, fun hno => absurd h (by omega)⟩
    · simp [State.link, State.modCvn]
    · rw [State.evt_count, if_pos rfl]
      rfl
  · refine ⟨sameWalk_trans (s := (s.modCvn _).modCvn _) ⟨rfl, fun _ => rfl⟩ (sameWalk_count _ _), ?_, fun hno => absurd hno h,
      fun _ => ⟨by simp [State.modCvn], by simp [State.modCvn], ?_⟩⟩
    · simp [State.link, State.modCvn]
    · rw [State.evt_count, if_pos rfl]
      rfl

/-- `s` with PEER and BRANCH_LAST as a TRAIN frame on a port leaves them (R539). -/
def State.trainSeen (s : State) (p : Nat) (b : Bytes) : State :=
  let u := if p = 0 then s.trainPeer (Bytes.num (fBody b) 0 2) (Bytes.num (fBody b) 4 2) else if p = 1 then s.peerBack else s
  if p = 2 then u.modCvn (fun c => { c with branchLast := Bytes.num (fBody b) 0 2 - 1 }) else u

/-- The node's state, NEXT and UNADDR as the TRAIN frame goes on (R539). -/
def State.trainNumbered (s : State) (p : Nat) (b : Bytes) : State × Nat × Nat :=
  if p = 0 && !(s.trainSeen p b).cvnRoot then (s.trainSeen p b).trainTake (Bytes.num (fBody b) 0 2) (Bytes.num (fBody b) 2 2)
  else (s.trainSeen p b, Bytes.num (fBody b) 0 2, Bytes.num (fBody b) 2 2)

theorem trainRx_eq (s : State) (p : Nat) (b : Bytes) : s.trainRx p b = (s.trainNumbered p b).1.trainSend (some p) (fSrc b)
    (s.trainNumbered p b).2.1 (s.trainNumbered p b).2.2 (Bytes.num (fBody b) 4 2) (fFlags b) (some p) := rfl

theorem trainSeen_spec (s : State) (p : Nat) (b : Bytes) :
    s.sameWalk (s.trainSeen p b) ∧
    (p = 0 → Bytes.num (fBody b) 4 2 + 1 = Bytes.num (fBody b) 0 2 → ((s.trainSeen p b).link 0).peer = Bytes.num (fBody b) 0 2 - 1) ∧
    (p = 2 → (s.trainSeen p b).cvn.branchLast = Bytes.num (fBody b) 0 2 - 1) := by
  unfold State.trainSeen
  dsimp only
  by_cases h0 : p = 0
  · subst h0
    rw [if_pos rfl, if_neg (by decide)]
    obtain ⟨hwalk, hpeer⟩ := trainPeer_spec s (Bytes.num (fBody b) 0 2) (Bytes.num (fBody b) 4 2)
    exact ⟨hwalk, fun _ => hpeer, fun h => absurd h (by decide)⟩
  · rw [if_neg h0]
    by_cases h1 : p = 1
    · subst h1
      rw [if_pos rfl, if_neg (by decide)]
      exact ⟨sameWalk_modLink s 1 _ rfl, fun h => absurd h h0, fun h => absurd h (by decide)⟩
    · rw [if_neg h1]
      split_ifs with h2
      · exact ⟨⟨rfl, fun _ => rfl⟩, fun h => absurd h h0, fun _ => rfl⟩
      · exact ⟨⟨rfl, fun _ => rfl⟩, fun h => absurd h h0, fun h => absurd h h2⟩

theorem trainRx_zero (s : State) (b : Bytes) (hroot : s.cvnRoot = false) : s.trainRx 0 b =
    let u := (s.trainPeer (Bytes.num (fBody b) 0 2) (Bytes.num (fBody b) 4 2)).trainTake (Bytes.num (fBody b) 0 2) (Bytes.num (fBody b) 2 2)
    u.1.trainSend (some 0) (fSrc b) u.2.1 u.2.2 (Bytes.num (fBody b) 4 2) (fFlags b) (some 0) := by
  have hrole : (s.trainSeen 0 b).cvnRoot = false := (trainSeen_spec s 0 b).1.1.trans hroot
  have hnum : s.trainNumbered 0 b =
      (s.trainPeer (Bytes.num (fBody b) 0 2) (Bytes.num (fBody b) 4 2)).trainTake (Bytes.num (fBody b) 0 2) (Bytes.num (fBody b) 2 2) := by
    rw [State.trainNumbered, hrole]
    rfl
  rw [trainRx_eq, hnum]

theorem trainRx_other (s : State) (p : Nat) (b : Bytes) (h : p ≠ 0 ∨ s.cvnRoot = true) : s.trainRx p b =
    (s.trainSeen p b).trainSend (some p) (fSrc b) (Bytes.num (fBody b) 0 2) (Bytes.num (fBody b) 2 2) (Bytes.num (fBody b) 4 2) (fFlags b)
      (some p) := by
  have hnum : s.trainNumbered p b = (s.trainSeen p b, Bytes.num (fBody b) 0 2, Bytes.num (fBody b) 2 2) := by
    rw [State.trainNumbered, (trainSeen_spec s p b).1.1]
    exact if_neg (by rcases h with h | h <;> simp [h])
  rw [trainRx_eq, hnum]

/-- CVN_TRAIN_RX (R539). -/
theorem trainRx_spec (s : State) (p : Nat) (b : Bytes) :
    let next := Bytes.num (fBody b) 0 2
    let t := s.trainRx p b
    (s.cvnRoot = false → p = 0 → next ≤ 0xFFF → t.cvn.addr = next ∧ t.cvn.trained = true ∧ t.evt (evCvn 2) = (s.evt (evCvn 2)).bump) ∧
    (s.cvnRoot = false → p = 0 → 0xFFF < next → t.cvn.addr = 0 ∧ t.cvn.trained = false ∧ t.evt (evCvn 3) = (s.evt (evCvn 3)).bump) ∧
    (p = 0 → Bytes.num (fBody b) 4 2 + 1 = next → (t.link 0).peer = next - 1) ∧ (p = 2 → t.cvn.branchLast = next - 1) ∧
    (s.cvnRoot = true → s.walkNext (some p) (fFlags b % 2 == 1) = none → t.cvn.trained = true ∧
      t.cvn.nodes = min (next - 1) 4095 ∧ t.cvn.unaddr = Bytes.num (fBody b) 2 2 ∧ t.cvn.hops = Bytes.num (fBody b) 4 2 ∧
      t.cvn.topo = (if p = 0 then 1 else 2)) := by
  dsimp only
  by_cases hnode : p = 0 ∧ s.cvnRoot = false
  · obtain ⟨rfl, hroot⟩ := hnode
    rw [trainRx_zero s b hroot]
    obtain ⟨hwalk, hpeer⟩ := trainPeer_spec s (Bytes.num (fBody b) 0 2) (Bytes.num (fBody b) 4 2)
    have hevt := evt_trainPeer s (Bytes.num (fBody b) 0 2) (Bytes.num (fBody b) 4 2)
    generalize s.trainPeer (Bytes.num (fBody b) 0 2) (Bytes.num (fBody b) 4 2) = v at hwalk hpeer hevt ⊢
    obtain ⟨hwalk', hpeer', hlow, hhigh⟩ := trainTake_spec v (Bytes.num (fBody b) 0 2) (Bytes.num (fBody b) 2 2)
    dsimp only
    generalize v.trainTake (Bytes.num (fBody b) 0 2) (Bytes.num (fBody b) 2 2) = r at hwalk' hpeer' hlow hhigh ⊢
    obtain ⟨hon, htrained⟩ := trainSend_keeps r.1 (some 0) (fSrc b) r.2.1 r.2.2 (Bytes.num (fBody b) 4 2) (fFlags b) (some 0)
    have hrole : r.1.cvnRoot = false := (sameWalk_trans hwalk hwalk').1.trans hroot
    have hgoes : r.1.walkNext (some 0) (fFlags b % 2 == 1) ≠ none := by
      unfold State.walkNext
      rw [hrole]
      dsimp only
      split_ifs <;> simp_all
    have hsame := htrained hgoes
    have hcount := evt_of_trainedOn hon
    generalize r.1.trainSend (some 0) (fSrc b) r.2.1 r.2.2 (Bytes.num (fBody b) 4 2) (fFlags b) (some 0) = t at hon hsame hcount ⊢
    refine ⟨fun _ _ hle => ?_, fun _ _ hlt => ?_, fun _ hh => ?_, fun h => absurd h (by decide), fun h => absurd (hroot.symm.trans h) (by decide)⟩
    · obtain ⟨h1, h2, h3⟩ := hlow hle
      exact ⟨hon.addr.trans h1, hsame.trans h2, by rw [hcount, h3, hevt]⟩
    · obtain ⟨h1, h2, h3⟩ := hhigh hlt
      exact ⟨hon.addr.trans h1, hsame.trans h2, by rw [hcount, h3, hevt]⟩
    · rw [hon.up, hpeer', hpeer hh]
  · have hother : p ≠ 0 ∨ s.cvnRoot = true := by
      by_cases h0 : p = 0
      · exact Or.inr (by cases hr : s.cvnRoot with
          | true => rfl
          | false => exact absurd ⟨h0, hr⟩ hnode)
      · exact Or.inl h0
    rw [trainRx_other s p b hother]
    obtain ⟨hwalk, hpeer, hbranch⟩ := trainSeen_spec s p b
    generalize s.trainSeen p b = v at hwalk hpeer hbranch ⊢
    obtain ⟨hon, -⟩ := trainSend_keeps v (some p) (fSrc b) (Bytes.num (fBody b) 0 2) (Bytes.num (fBody b) 2 2) (Bytes.num (fBody b) 4 2)
      (fFlags b) (some p)
    refine ⟨fun hr h0 => absurd ⟨h0, hr⟩ hnode, fun hr h0 => absurd ⟨h0, hr⟩ hnode, fun h0 hh => hon.up.trans (hpeer h0 hh),
      fun h2 => hon.branch.trans (hbranch h2), fun hr hend => ?_⟩
    obtain ⟨h1, h2, h3, h4, h5, -⟩ := trainSend_ends v (some p) (fSrc b) (Bytes.num (fBody b) 0 2) (Bytes.num (fBody b) 2 2)
      (Bytes.num (fBody b) 4 2) (fFlags b) (some p) ((walkNext_congr _ _ hwalk.1 hwalk.2).trans hend)
    refine ⟨h1, h2, h3, h4, h5.trans ?_⟩
    by_cases h0 : p = 0 <;> simp [h0]

end Sys2Proof.Machine
end

section
/-! PROOFS. Time and sweeps: what TIME and SWEEP frames do at a node and at the root (R542 to R547, R552 to R554). -/
namespace Sys2Proof.Machine

/-! ### Time -/

/-- The root's TIME frame (R552). -/
theorem timeSend_spec (s : State) (hroot : s.cvnRoot = true) (hidle : s.linkIdle s.rootPort 0 = true) :
    let t := (s.modCvn (fun c => { c with timeHc := some s.cis.hc })).timeSend
    t.outbox = s.outbox ++ [.cvn s.rootPort (s.nextFrame s.rootPort
      { cvnOut 5 s.cvn.addr 0 [] with epoch := s.cvn.epoch.toNat, pos := s.rackBytes s.rackPos })] ∧
    t.cvn.timeHc = some s.cis.hc ∧ t.timeDue = false ∧ t = { s with cvn := t.cvn, outbox := t.outbox } := by
  obtain ⟨hup, hwait, htx⟩ := linkIdle_parts s _ 0 hidle
  have hwalk : (s.modCvn (fun c => { c with timeHc := some s.cis.hc })).walkNext none false = some (s.rootPort, false) :=
    (rootPort_walk s hroot).2 hup
  have hlink : ∀ q, (s.modCvn (fun c => { c with timeHc := some s.cis.hc })).link q = s.link q := fun _ => rfl
  have hhc : (s.modCvn (fun c => { c with timeHc := some s.cis.hc })).cvn.timeHc = some s.cis.hc := rfl
  have hsend : (s.modCvn (fun c => { c with timeHc := some s.cis.hc })).timeSend = (s.modCvn (fun c => { c with timeHc := some s.cis.hc })).give
      s.rootPort { cvnOut 5 s.cvn.addr 0 [] with epoch := s.cvn.epoch.toNat, flags := false.toNat } := by
    unfold State.timeSend
    rw [hwalk]
    rfl
  have hframe : s.modCvn (fun c => { c with timeHc := some s.cis.hc }) =
      { s with cvn := (s.modCvn (fun c => { c with timeHc := some s.cis.hc })).cvn } := rfl
  have htimed : s.timed { cvnOut 5 s.cvn.addr 0 [] with epoch := s.cvn.epoch.toNat, flags := false.toNat } =
      { cvnOut 5 s.cvn.addr 0 [] with epoch := s.cvn.epoch.toNat, pos := s.rackBytes s.rackPos } := rfl
  dsimp only
  rw [hsend]
  generalize s.modCvn (fun c => { c with timeHc := some s.cis.hc }) = u at hlink hhc hframe ⊢
  generalize s.rootPort = q at hup hwait htx ⊢
  rw [← htimed]
  generalize he : ({ cvnOut 5 s.cvn.addr 0 [] with epoch := s.cvn.epoch.toNat, flags := false.toNat } : CvnOut) = e
  have hfunc : e.func = 5 := by rw [← he]; rfl
  have hheld : e.held = none := by rw [← he]; rfl
  obtain ⟨hbox, hrest⟩ := give_idle u q e (by rw [State.cvnUp, hlink]; exact hup) (by rw [hlink]; exact hwait)
    (mayXmit_light _ 5 _ hfunc rfl (by rw [hlink]; exact htx)) (by rw [hfunc]; rintro ⟨h6, -⟩; exact absurd h6 (by decide)) (by rw [hheld]; simp)
  obtain ⟨-, -, hown⟩ := hrest hheld
  rw [nextFrame_congr s u q e hframe (by rw [hlink]) (by rw [hlink]) (by rw [hlink]) (by rw [hlink])] at hbox
  generalize u.give q e = t at hbox hown ⊢
  have hkept : t.cvn.timeHc = some s.cis.hc := by rw [hown]; exact hhc
  have hcis : t.cis = s.cis := by rw [hown, hframe]
  refine ⟨hbox.trans (by rw [hframe]), hkept, ?_, ?_⟩
  · rw [State.timeDue, hkept, hcis]
    simp
  · rw [hown, hframe]

/-- The TIME check (R553). -/
theorem timeCheck_spec (s : State) (p : Nat) (b : Bytes) (e : Int) (he : e = signed 48 (unsigned 48 ((s.rackPos : Int) - s.timeAt p b))) :
    let t := s.timeCheck p b
    t.cvn = { s.cvn with
      timeErr := clampInt (-32767) 32767 e, timeChecks := min 65535 (s.cvn.timeChecks + 1)
      timeSkew := if s.fldOf (aCvn 3 0x40) 15 0 < e.natAbs then some (fEpoch b) else s.cvn.timeSkew } ∧
    (∀ k, t.evt k = if k = evCvn 8 ∧ s.fldOf (aCvn 3 0x40) 15 0 < e.natAbs then (s.evt k).bump else s.evt k) ∧
    t = { s.routed t with cvn := t.cvn } := by
  subst he
  unfold State.timeCheck
  dsimp only
  generalize signed 48 (unsigned 48 ((s.rackPos : Int) - s.timeAt p b)) = e
  have hfld : ∀ f, (s.modCvn f).fldOf (aCvn 3 0x40) 15 0 = s.fldOf (aCvn 3 0x40) 15 0 := fun _ => rfl
  rw [hfld]
  by_cases hskew : s.fldOf (aCvn 3 0x40) 15 0 < e.natAbs
  · rw [if_pos hskew, if_pos hskew]
    refine ⟨by simp [State.modCvn], fun k => ?_, by apply State.ext <;> simp [State.routed]⟩
    rw [State.evt_count]
    by_cases hk : k = evCvn 8
    · rw [if_pos hk, if_pos ⟨hk, hskew⟩, hk]
      rfl
    · rw [if_neg hk, if_neg (fun h => hk h.1)]
      rfl
  · rw [if_neg hskew, if_neg hskew]
    exact ⟨rfl, fun k => by rw [if_neg (fun h => hskew h.2)]; rfl, rfl⟩

/-- A calibration that ends (R554). -/
theorem calEnd_spec (s : State) :
    let t := s.calEnd
    t.cvn = { s.cvn with
      calN := 0, calD := [], calSt := t.cvn.calSt, calHc := t.cvn.calHc, calOff := t.cvn.calOff, calSpread := t.cvn.calSpread } ∧
    (∀ k, t.evt k = if k = evCvn 9 then (s.evt k).bump else s.evt k) ∧ t.cvn.calSt = (if t.cvn.calSpread ≤ 256 then 2 else 3) := by
  unfold State.calEnd
  dsimp only
  generalize (s.cvn.calD.foldl max (s.cvn.calD.headD 0) - s.cvn.calD.foldl min (s.cvn.calD.headD 0)).toNat = spread
  generalize s.cvn.calD.foldl (· + ·) 0 / 16 = mean
  refine ⟨by simp [State.modCvn], fun k => ?_, by simp [State.modCvn]⟩
  rw [State.evt_count]
  by_cases hk : k = evCvn 9
  · rw [if_pos hk, if_pos hk, hk]
    rfl
  · rw [if_neg hk, if_neg hk]
    rfl

/-- One TIME frame on UP of a running calibration (R554). -/
theorem calStep_spec (s : State) (b : Bytes) :
    let t := s.calStep b
    t.cvn = { s.cvn with
      calN := t.cvn.calN, calD := t.cvn.calD, calSt := t.cvn.calSt, calHc := t.cvn.calHc, calOff := t.cvn.calOff
      calSpread := t.cvn.calSpread } ∧
    (∀ k, k ≠ evCvn 9 → t.evt k = s.evt k) ∧
    (∀ n, s.cvn.calN = n + 2 → t.cvn.calN = n + 1 ∧ t.cvn.calD = s.cvn.calD ++
      [signed 48 (unsigned 48 (((s.cis.hc * 65536 + s.cis.lu : Nat) : Int) - s.timeAt 0 b))]) ∧
    (s.cvn.calN = 1 → t.cvn.calN = 0 ∧ t.cvn.calD = [] ∧ t.evt (evCvn 9) = (s.evt (evCvn 9)).bump ∧
      t.cvn.calSt = (if t.cvn.calSpread ≤ 256 then 2 else 3)) := by
  unfold State.calStep
  dsimp only
  generalize signed 48 (unsigned 48 (((s.cis.hc * 65536 + s.cis.lu : Nat) : Int) - s.timeAt 0 b)) = d
  by_cases h0 : s.cvn.calN = 0
  · rw [if_pos h0]
    exact ⟨rfl, fun _ _ => rfl, fun n h => absurd (h0.symm.trans h) (by omega), fun h => absurd (h0.symm.trans h) (by decide)⟩
  · rw [if_neg h0]
    have hn : (s.modCvn (fun c => { c with calN := c.calN - 1, calD := c.calD ++ [d] })).cvn.calN = s.cvn.calN - 1 := rfl
    rw [hn]
    by_cases h1 : s.cvn.calN - 1 = 0
    · rw [if_pos h1]
      have hcvn : (s.modCvn (fun c => { c with calN := c.calN - 1, calD := c.calD ++ [d] })).cvn =
          { s.cvn with calN := s.cvn.calN - 1, calD := s.cvn.calD ++ [d] } := rfl
      have hevts : ∀ k, (s.modCvn (fun c => { c with calN := c.calN - 1, calD := c.calD ++ [d] })).evt k = s.evt k := fun _ => rfl
      generalize s.modCvn (fun c => { c with calN := c.calN - 1, calD := c.calD ++ [d] }) = u at hcvn hevts ⊢
      obtain ⟨hend, hevt, hst⟩ := calEnd_spec u
      generalize u.calEnd = t at hend hevt hst ⊢
      refine ⟨?_, fun k hk => by rw [hevt, if_neg hk, hevts], fun n h => absurd (h1.symm.trans (congrArg (· - 1) h)) (by simp), fun _ =>
        ⟨by rw [hend], by rw [hend], by rw [hevt, if_pos rfl, hevts], hst⟩⟩
      rw [hend, hcvn]
    · rw [if_neg h1]
      exact ⟨rfl, fun _ _ => rfl, fun n h => ⟨hn.trans (by omega), rfl⟩, fun h => absurd h (by omega)⟩

/-- A walk frame that goes on leaves only ports, DROPS and what it told. -/
theorem walked_walkOn (s : State) (p : Nat) (e : CvnOut) : s.Walked (s.walkOn p e) := walked_of_sent (sent_walkOn s p e)

/-- CVN_TIME_RX on a port (R552 to R554). -/
theorem timeRx_spec (s : State) (p : Nat) (b : Bytes) (e : Int) (he : e = signed 48 (unsigned 48 ((s.rackPos : Int) - s.timeAt p b))) :
    let t := s.timeRx p b
    t.cvn.timeErr = clampInt (-32767) 32767 e ∧ t.cvn.timeChecks = min 65535 (s.cvn.timeChecks + 1) ∧
    (s.fldOf (aCvn 3 0x40) 15 0 < e.natAbs → t.cvn.timeSkew = some (fEpoch b) ∧ t.evt (evCvn 8) = (s.evt (evCvn 8)).bump) ∧
    (e.natAbs ≤ s.fldOf (aCvn 3 0x40) 15 0 → t.cvn.timeSkew = s.cvn.timeSkew ∧ t.evt (evCvn 8) = s.evt (evCvn 8)) ∧
    (p = 0 → ∀ n, s.cvn.calN = n + 2 → t.cvn.calN = n + 1 ∧ t.cvn.calD = s.cvn.calD ++
      [signed 48 (unsigned 48 (((s.cis.hc * 65536 + s.cis.lu : Nat) : Int) - s.timeAt 0 b))]) ∧
    (p = 0 → s.cvn.calN = 1 → t.cvn.calN = 0 ∧ t.cvn.calD = [] ∧ t.evt (evCvn 9) = (s.evt (evCvn 9)).bump ∧
      t.cvn.calSt = (if t.cvn.calSpread ≤ 256 then 2 else 3)) ∧
    (p ≠ 0 → t.cvn.calN = s.cvn.calN) := by
  obtain ⟨hcvn, hevt, hframe⟩ := timeCheck_spec s p b e he
  have hcis : (s.timeCheck p b).cis = s.cis := by rw [hframe]; rfl
  have hat : (s.timeCheck p b).timeAt 0 b = s.timeAt 0 b := by
    unfold State.timeAt State.latLu State.link
    rw [hcvn, hcis]
  unfold State.timeRx
  dsimp only
  generalize s.timeCheck p b = u at hcvn hevt hframe hcis hat ⊢
  have hstep : ∀ w : State, w.cvn = { u.cvn with
      calN := w.cvn.calN, calD := w.cvn.calD, calSt := w.cvn.calSt, calHc := w.cvn.calHc, calOff := w.cvn.calOff
      calSpread := w.cvn.calSpread } → (∀ k, k ≠ evCvn 9 → w.evt k = u.evt k) → ∀ t, w.Walked t →
      t.cvn.timeErr = clampInt (-32767) 32767 e ∧ t.cvn.timeChecks = min 65535 (s.cvn.timeChecks + 1) ∧
      (s.fldOf (aCvn 3 0x40) 15 0 < e.natAbs → t.cvn.timeSkew = some (fEpoch b) ∧ t.evt (evCvn 8) = (s.evt (evCvn 8)).bump) ∧
      (e.natAbs ≤ s.fldOf (aCvn 3 0x40) 15 0 → t.cvn.timeSkew = s.cvn.timeSkew ∧ t.evt (evCvn 8) = s.evt (evCvn 8)) :=
    fun w hw hwe t ht => by
      have hte : t.evt (evCvn 8) = u.evt (evCvn 8) := (evt_of_walked ht _).trans (hwe _ (by decide))
      have htc : t.cvn.timeErr = w.cvn.timeErr ∧ t.cvn.timeChecks = w.cvn.timeChecks ∧ t.cvn.timeSkew = w.cvn.timeSkew := by
        rw [ht.frame]
        exact ⟨rfl, rfl, rfl⟩
      obtain ⟨h1, h2, h3⟩ := htc
      rw [h1, h2, h3, hte, hw, hcvn, hevt]
      exact ⟨rfl, rfl, fun h => ⟨if_pos h, if_pos ⟨rfl, h⟩⟩, fun h => ⟨if_neg (by omega), if_neg (fun h' => absurd h'.2 (by omega))⟩⟩
  by_cases h0 : p = 0
  · rw [if_pos h0]
    obtain ⟨hcal, hcalEvt, hmore, hlast⟩ := calStep_spec u b
    generalize u.calStep b = w at hcal hcalEvt hmore hlast ⊢
    have hw := walked_walkOn w p (fwdOf p b)
    generalize w.walkOn p (fwdOf p b) = t at hw ⊢
    obtain ⟨h1, h2, h3, h4⟩ := hstep w hcal hcalEvt t hw
    have hcalN : u.cvn.calN = s.cvn.calN ∧ u.cvn.calD = s.cvn.calD := by rw [hcvn]; exact ⟨rfl, rfl⟩
    have ht : t.cvn.calN = w.cvn.calN ∧ t.cvn.calD = w.cvn.calD ∧ t.cvn.calSt = w.cvn.calSt ∧ t.cvn.calSpread = w.cvn.calSpread := by
      rw [hw.frame]
      exact ⟨rfl, rfl, rfl, rfl⟩
    obtain ⟨ht1, ht2, ht3, ht4⟩ := ht
    rw [hcalN.1, hcalN.2, hcis, hat] at hmore
    rw [hcalN.1] at hlast
    have hnine : u.evt (evCvn 9) = s.evt (evCvn 9) := (hevt _).trans (if_neg (fun h => absurd h.1 (by decide)))
    rw [ht1, ht2, ht3, ht4, evt_of_walked hw (evCvn 9), ← hnine]
    exact ⟨h1, h2, h3, h4, fun _ => hmore, fun _ => hlast, fun h => absurd h0 h⟩
  · rw [if_neg h0]
    have hw := walked_walkOn u p (fwdOf p b)
    generalize u.walkOn p (fwdOf p b) = t at hw ⊢
    obtain ⟨h1, h2, h3, h4⟩ := hstep u rfl (fun _ _ => rfl) t hw
    refine ⟨h1, h2, h3, h4, fun h => absurd h h0, fun h => absurd h h0, fun _ => ?_⟩
    have hsame : t.cvn.calN = u.cvn.calN := by rw [hw.frame]
    rw [hsame, hcvn]

/-! ### Sweeps -/

theorem nodeRec_congr {s t : State} (epoch : Nat) (hseq : t.noticeSeq = s.noticeSeq) (hcvn : t.cvn.addr = s.cvn.addr ∧
    t.cvn.noticeRefused = s.cvn.noticeRefused ∧ t.cvn.timeSkew = s.cvn.timeSkew)
    (hframe : t = { s with cvn := t.cvn, regs := t.regs, freeCtr := t.freeCtr, outbox := t.outbox }) : t.nodeRec epoch = s.nodeRec epoch := by
  obtain ⟨haddr, href, hskew⟩ := hcvn
  have hlc : t.lc = s.lc := by rw [hframe]; rfl
  have hsub : t.substAny = s.substAny := by rw [hframe]; rfl
  have hsvn : t.rtSvn = s.rtSvn := by rw [hframe]; rfl
  have hcon : t.containedBits = s.containedBits := by rw [hframe]; rfl
  have hunit : t.unitId = s.unitId := by rw [hframe]; rfl
  have hline : t.lineStamp = s.lineStamp := by rw [hframe]; rfl
  have hslots : t.mslot = s.mslot := by rw [hframe]; rfl
  unfold State.nodeRec
  rw [hseq, haddr, href, hskew, hlc, hsub, hsvn, hcon, hunit, hline, hslots]

theorem noticeSeq_of_walked {s t : State} (h : s.Walked t) : t.noticeSeq = s.noticeSeq := by
  unfold State.noticeSeq
  rw [h.regs _ (by decide)]

theorem nodeRec_of_walked {s t : State} (h : s.Walked t) (epoch : Nat) : t.nodeRec epoch = s.nodeRec epoch :=
  nodeRec_congr epoch (noticeSeq_of_walked h) (by rw [h.frame]; exact ⟨rfl, rfl, rfl⟩) (by rw [h.frame])

/-- A SWEEP frame of a later epoch ends the openings, and nothing else (R547). -/
theorem sweepPass_spec (s : State) (epoch : Nat) :
    s.Walked (s.sweepPass epoch) ∧ (s.sweepPass epoch).link = s.link ∧ s.sweepPass epoch = { s with cvn := (s.sweepPass epoch).cvn } ∧
    ∀ p x fl, (s.sweepPass epoch).sweepCheck p epoch x fl = s.sweepCheck p epoch x fl := by
  unfold State.sweepPass
  split_ifs
  · exact ⟨⟨rfl, fun _ _ => rfl, fun _ => rfl⟩, rfl, rfl, fun _ _ _ => rfl⟩
  · exact ⟨⟨rfl, fun _ _ => rfl, fun _ => rfl⟩, rfl, rfl, fun _ _ _ => rfl⟩

theorem testBit_flagOff (fl : Nat) : (flagOff fl 2).testBit 0 = fl.testBit 0 := by
  unfold flagOff
  split_ifs with h
  · have hle : 4 ≤ fl := Nat.ge_two_pow_of_testBit h
    simp only [Nat.testBit_zero]
    congr 2
    omega
  · rfl

theorem testBit_flagOn (fl : Nat) : (flagOn fl 1).testBit 1 = true := by
  unfold flagOn
  split_ifs with h
  · exact h
  · have hadd := Nat.testBit_two_pow_add_eq fl 1
    rw [Nat.add_comm, hadd]
    simpa using h

/-- A check of LAST_REC leaves FOLD and COUNT, and of the flags all but OVERFLOW (R545). -/
theorem sweepCheck_spec (s : State) (p epoch : Nat) (x : SweepBody) (fl : Nat) :
    (s.sweepCheck p epoch x fl).1.fold = x.fold ∧ (s.sweepCheck p epoch x fl).1.count = x.count ∧
    (s.sweepCheck p epoch x fl).2.testBit 0 = fl.testBit 0 ∧ (s.sweepCheck p epoch x fl).2.testBit 1 = fl.testBit 1 := by
  have hover : ∀ i, i < 3 → (fl + 8).testBit i = fl.testBit i := fun i hi => by rw [Nat.add_comm, Nat.testBit_two_pow_add_gt (i := 3) hi]
  unfold State.sweepCheck
  dsimp only
  split_ifs
  · exact ⟨rfl, rfl, rfl, rfl⟩
  · exact ⟨rfl, rfl, rfl, rfl⟩
  · exact ⟨rfl, rfl, hover 0 (by decide), hover 1 (by decide)⟩
  · exact ⟨rfl, rfl, rfl, rfl⟩

/-- The SWEEP body and flags with which an addressed node countersigns (R544). -/
def State.signedSweep (s : State) (p : Nat) (b : Bytes) : SweepBody × Nat :=
  if (fFlags b).testBit 2 = true then (sweepOf (fBody b), fFlags b) else s.sweepCheck p (fEpoch b) (sweepOf (fBody b)) (fFlags b)

theorem sweepNode_signs (s : State) (p : Nat) (b : Bytes) (haddr : s.cvn.addr ≠ 0) (hlate : (fFlags b).testBit 1 = false)
    (hret : (fFlags b).testBit 0 = false) (hahead : s.rackAhead (Bytes.num b 0x10 4) (Bytes.num b 0x14 2) = true) :
    s.sweepNode p b = ((s.countersign (fEpoch b) (s.signedSweep p b).1).1, (s.countersign (fEpoch b) (s.signedSweep p b).1).2,
      flagOff (s.signedSweep p b).2 2) := by
  unfold State.sweepNode
  dsimp only
  rw [if_neg (by rw [hlate]; simp [haddr]), hahead, if_neg (by decide), hret, if_pos (by rfl)]
  rfl

/-- A node that does not countersign keeps its record and its epoch (R544). -/
theorem sweepNode_passes (s : State) (p : Nat) (b : Bytes)
    (h : (fFlags b).testBit 1 = true ∨ s.cvn.addr = 0 ∨ s.rackAhead (Bytes.num b 0x10 4) (Bytes.num b 0x14 2) = false) :
    (s.sweepNode p b).1 = s := by
  unfold State.sweepNode
  dsimp only
  by_cases hfirst : (fFlags b).testBit 1 = true ∨ s.cvn.addr = 0
  · rw [if_pos hfirst]
  · have hlate : s.rackAhead (Bytes.num b 0x10 4) (Bytes.num b 0x14 2) = false := by
      rcases h with h | h | h
      · exact absurd (Or.inl h) hfirst
      · exact absurd (Or.inr h) hfirst
      · exact h
    rw [if_neg hfirst, hlate, if_pos (by rfl)]

theorem sweepRx_node (s : State) (p : Nat) (b : Bytes) (hroot : s.cvnRoot = false) : s.sweepRx p b =
    ((s.sweepPass (fEpoch b)).sweepNode p b).1.walkOn p { fwdOf p b with
      flags := ((s.sweepPass (fEpoch b)).sweepNode p b).2.2, body := ((s.sweepPass (fEpoch b)).sweepNode p b).2.1.bytes } := by
  have hrole : (s.sweepPass (fEpoch b)).cvnRoot = false := (cvnRoot_of_walked (sweepPass_spec s _).1).trans hroot
  unfold State.sweepRx
  dsimp only
  rw [hrole]
  rfl

/-- The flags of a SWEEP frame that comes home, LATE behind its deadline (R546). -/
def State.homeFlags (s : State) (b : Bytes) : Nat :=
  if (!s.rackAhead (Bytes.num b 0x10 4) (Bytes.num b 0x14 2)) = true then flagOn (fFlags b) 1 else fFlags b

theorem sweepRx_root (s : State) (p : Nat) (b : Bytes) (hroot : s.cvnRoot = true) (hend : s.walkNext (some p) (fFlags b % 2 == 1) = none) :
    s.sweepRx p b = ((s.sweepPass (fEpoch b)).sweepHome p (fEpoch b) (sweepOf (fBody b)) ((s.sweepPass (fEpoch b)).homeFlags b)).slotFree
      (some p) := by
  have hpass := (sweepPass_spec s (fEpoch b)).1
  have hrole : (s.sweepPass (fEpoch b)).cvnRoot = true := (cvnRoot_of_walked hpass).trans hroot
  have hnone : (s.sweepPass (fEpoch b)).walkNext (some p) (fFlags b % 2 == 1) = none := (walkNext_of_walked hpass _ _).trans hend
  unfold State.sweepRx
  dsimp only
  rw [hrole, hnone]
  rfl

/-- A SWEEP frame back at the root (R546). -/
theorem sweepHome_spec (s : State) (p epoch : Nat) (x : SweepBody) (fl : Nat) :
    let t := s.sweepHome p epoch x fl
    ((s.cvn.sweep ≠ 1 ∨ wd epoch ≠ s.cvn.epoch) → t = s) ∧
    (s.cvn.sweep = 1 → wd epoch = s.cvn.epoch → t.cvn.sweep = 2 ∧ t.cvn.fold = x.fold ∧ t.cvn.count = x.count ∧
      t.evt (evCvn 4) = (s.evt (evCvn 4)).bump ∧ t.cvn.sweepRes = if fl.testBit 1 = false ∧ x.count = s.cvn.nodes then 0 else 1) := by
  unfold State.sweepHome
  dsimp only
  refine ⟨fun hno => if_pos hno, fun hrun hepoch => ?_⟩
  rw [if_neg (by rintro (h | h); exacts [h hrun, h hepoch])]
  obtain ⟨hfold, hcount, hlate⟩ : (if fl.testBit 2 = true then (x, fl) else s.sweepCheck p epoch x fl).1.fold = x.fold ∧
      (if fl.testBit 2 = true then (x, fl) else s.sweepCheck p epoch x fl).1.count = x.count ∧
      (if fl.testBit 2 = true then (x, fl) else s.sweepCheck p epoch x fl).2.testBit 1 = fl.testBit 1 := by
    obtain ⟨h1, h2, -, h4⟩ := sweepCheck_spec s p epoch x fl
    split_ifs
    · exact ⟨rfl, rfl, rfl⟩
    · exact ⟨h1, h2, h4⟩
  generalize (if fl.testBit 2 = true then (x, fl) else s.sweepCheck p epoch x fl) = y at hfold hcount hlate ⊢
  rw [hlate, hcount]
  unfold State.sweepEnd
  refine ⟨by simp [State.modCvn], by simp [State.modCvn, hfold], by simp [State.modCvn], ?_, ?_⟩
  · rw [State.evt_count, if_pos rfl]
    rfl
  · simp [State.modCvn]

end Sys2Proof.Machine
end

section
/-! PROOFS. The commands of the walk: TRAIN, TIME, SWEEP and the exceptions of the last sweep (R539 to R559). -/
namespace Sys2Proof.Machine

/-! ### A SWEEP frame at a node -/

theorem mod_two_of_testBit (n : Nat) : (n % 2 == 1) = n.testBit 0 := by
  rw [Nat.testBit_zero, beq_eq_decide]

/-- What goes on from a node that countersigned (R544). -/
def State.signedFrame (s : State) (p : Nat) (b : Bytes) (y : SweepBody × Nat) (ret : Bool) : CvnOut :=
  { fwdOf p b with
    flags := setRet (flagOff y.2 2) ret
    body := { y.1 with fold := sha384 (y.1.fold ++ s.nodeRec (fEpoch b)), count := y.1.count + 1, last := s.nodeRec (fEpoch b) : SweepBody }.bytes }

theorem walkOn_goes (s : State) (p q : Nat) (e : CvnOut) (ret : Bool) (h : s.walkNext (some p) (e.flags % 2 == 1) = some (q, ret)) :
    s.walkOn p e = s.give q { e with flags := setRet e.flags ret } := by
  unfold State.walkOn
  rw [h]

/-- A node that countersigns (R544). -/
theorem sweepRx_signs (s u : State) (p : Nat) (b : Bytes) (hwalk : s.Walked u) (hroot : s.cvnRoot = false) (haddr : s.cvn.addr ≠ 0)
    (hlate : (fFlags b).testBit 1 = false) (hret : (fFlags b).testBit 0 = false)
    (hahead : s.rackAhead (Bytes.num b 0x10 4) (Bytes.num b 0x14 2) = true) :
    let t := u.sweepRx p b
    t.cvn.ownRec = s.nodeRec (fEpoch b) ∧ t.cvn.epoch = wd (fEpoch b) ∧
    t = { s with cvn := t.cvn, outbox := t.outbox, regs := t.regs, freeCtr := t.freeCtr } ∧
    (fFunc b = 3 → (∀ q, q ≠ p → u.link q = s.link q) → u = { s with cvn := u.cvn } →
      ∀ q ret, s.walkNext (some p) false = some (q, ret) → q ≠ p → s.linkIdle q 0 = true →
        t.outbox = s.outbox ++ [.cvn q (s.nextFrame q (s.signedFrame p b (u.signedSweep p b) ret))]) := by
  obtain ⟨hpass, hlinks, hcvn, hcheck⟩ := sweepPass_spec u (fEpoch b)
  have hall := walked_trans hwalk hpass
  have hrole : u.cvnRoot = false := (cvnRoot_of_walked hwalk).trans hroot
  have haddr' : (u.sweepPass (fEpoch b)).cvn.addr = s.cvn.addr := by rw [hall.frame]
  have hsigned : (u.sweepPass (fEpoch b)).signedSweep p b = u.signedSweep p b := by
    unfold State.signedSweep
    rw [hcheck]
  rw [sweepRx_node u p b hrole, sweepNode_signs (u.sweepPass (fEpoch b)) p b (by rw [haddr']; exact haddr) hlate hret
    ((rackAhead_of_walked hall _ _).trans hahead), hsigned]
  have hpar : (u.signedSweep p b).2.testBit 0 = false := by
    unfold State.signedSweep
    split_ifs
    · exact hret
    · rw [(sweepCheck_spec u p (fEpoch b) (sweepOf (fBody b)) (fFlags b)).2.2.1, hret]
  have hrec := nodeRec_of_walked hall (fEpoch b)
  generalize u.signedSweep p b = y at hpar ⊢
  generalize u.sweepPass (fEpoch b) = v at hlinks hcvn hall hrec ⊢
  have hown : (v.countersign (fEpoch b) y.1).1 = v.modCvn (fun c => { c with ownRec := s.nodeRec (fEpoch b), epoch := wd (fEpoch b) }) := by
    rw [State.countersign, hrec]
  have hbody : (v.countersign (fEpoch b) y.1).2 =
      { y.1 with fold := sha384 (y.1.fold ++ s.nodeRec (fEpoch b)), count := y.1.count + 1, last := s.nodeRec (fEpoch b) } := by
    rw [State.countersign, hrec]
  dsimp only
  rw [hown, hbody]
  have hvwalk : ∀ pin r,
      (v.modCvn (fun c => { c with ownRec := s.nodeRec (fEpoch b), epoch := wd (fEpoch b) })).walkNext pin r = s.walkNext pin r :=
    fun pin r => walkNext_of_walked hall pin r
  have hvlink : ∀ q, (v.modCvn (fun c => { c with ownRec := s.nodeRec (fEpoch b), epoch := wd (fEpoch b) })).link q = u.link q :=
    fun q => congrFun hlinks q
  have hkeep : (v.modCvn (fun c => { c with ownRec := s.nodeRec (fEpoch b), epoch := wd (fEpoch b) })).cvn.ownRec = s.nodeRec (fEpoch b) ∧
      (v.modCvn (fun c => { c with ownRec := s.nodeRec (fEpoch b), epoch := wd (fEpoch b) })).cvn.epoch = wd (fEpoch b) := ⟨rfl, rfl⟩
  have hframe : v.modCvn (fun c => { c with ownRec := s.nodeRec (fEpoch b), epoch := wd (fEpoch b) }) = { v with
      cvn := (v.modCvn (fun c => { c with ownRec := s.nodeRec (fEpoch b), epoch := wd (fEpoch b) })).cvn } := rfl
  unfold State.signedFrame
  generalize s.nodeRec (fEpoch b) = own at hvwalk hvlink hkeep hframe ⊢
  generalize v.modCvn (fun c => { c with ownRec := own, epoch := wd (fEpoch b) }) = w at hvwalk hvlink hkeep hframe ⊢
  have hgo := walked_walkOn w p { fwdOf p b with
    flags := flagOff y.2 2, body := { y.1 with fold := sha384 (y.1.fold ++ own), count := y.1.count + 1, last := own : SweepBody }.bytes }
  refine ⟨?_, ?_, ?_, fun hfunc hsame husame q ret hnext hq hidle => ?_⟩
  · rw [hgo.frame]
    exact hkeep.1
  · rw [hgo.frame]
    exact hkeep.2
  · have hlast := hgo.frame
    generalize w.walkOn p _ = t at hlast ⊢
    rw [hlast, hframe, hall.frame]
  · obtain ⟨hup, hwait, htx⟩ := linkIdle_parts s q 0 hidle
    have hwq : w.link q = s.link q := (hvlink q).trans (hsame q hq)
    have hws : w = { s with cvn := w.cvn } := by rw [hframe, hcvn, husame]
    rw [walkOn_goes w p q _ ret (by rw [hvwalk, mod_two_of_testBit, testBit_flagOff, hpar, hnext])]
    generalize he : ({ fwdOf p b with
      flags := setRet (flagOff y.2 2) ret
      body := { y.1 with fold := sha384 (y.1.fold ++ own), count := y.1.count + 1, last := own : SweepBody }.bytes } : CvnOut) = e
    have hef : e.func = 3 := by rw [← he]; exact hfunc
    have heh : e.held = some p := by rw [← he]; rfl
    obtain ⟨hbox, -⟩ := give_idle w q e (by rw [State.cvnUp, hwq]; exact hup) (by rw [hwq]; exact hwait)
      (mayXmit_light _ 3 e hef rfl (by rw [hwq]; exact htx)) (by rw [hef]; rintro ⟨h6, -⟩; exact absurd h6 (by decide))
      (by rw [heh]; exact fun h => hq (Option.some.inj h).symm)
    rw [nextFrame_congr s w q e hws (by rw [hwq]) (by rw [hwq]) (by rw [hwq]) (by rw [hwq])] at hbox
    have htimed : s.timed e = e := by rw [State.timed, hef, if_neg (by decide)]
    rw [htimed] at hbox
    exact hbox.trans (by rw [hws])

/-- A node that a SWEEP frame only passes (R544). -/
theorem sweepRx_passes (s u : State) (p : Nat) (b : Bytes) (hwalk : s.Walked u) (hroot : s.cvnRoot = false)
    (h : (fFlags b).testBit 1 = true ∨ s.cvn.addr = 0 ∨ s.rackAhead (Bytes.num b 0x10 4) (Bytes.num b 0x14 2) = false) :
    let t := u.sweepRx p b
    t.cvn.ownRec = s.cvn.ownRec ∧ t.cvn.epoch = s.cvn.epoch ∧
    t = { s with cvn := t.cvn, outbox := t.outbox, regs := t.regs, freeCtr := t.freeCtr } := by
  have hall := walked_trans hwalk (sweepPass_spec u (fEpoch b)).1
  have haddr : (u.sweepPass (fEpoch b)).cvn.addr = s.cvn.addr := by rw [hall.frame]
  have hpass := sweepNode_passes (u.sweepPass (fEpoch b)) p b (by rw [haddr, rackAhead_of_walked hall]; exact h)
  rw [sweepRx_node u p b ((cvnRoot_of_walked hwalk).trans hroot), hpass]
  have hgo := walked_trans hall (walked_walkOn (u.sweepPass (fEpoch b)) p { fwdOf p b with
    flags := ((u.sweepPass (fEpoch b)).sweepNode p b).2.2, body := ((u.sweepPass (fEpoch b)).sweepNode p b).2.1.bytes })
  generalize (u.sweepPass (fEpoch b)).walkOn p _ = t at hgo ⊢
  refine ⟨?_, ?_, ?_⟩ <;> rw [hgo.frame]

/-- A SWEEP frame at the end of its walk (R546). -/
theorem sweepRx_home (s u : State) (p : Nat) (b : Bytes) (hwalk : s.Walked u) (hroot : s.cvnRoot = true)
    (hend : s.walkNext (some p) (fFlags b % 2 == 1) = none) :
    let t := u.sweepRx p b
    ((s.cvn.sweep ≠ 1 ∨ wd (fEpoch b) ≠ s.cvn.epoch) → t.cvn.sweep = s.cvn.sweep ∧ t.cvn.fold = s.cvn.fold) ∧
    (s.cvn.sweep = 1 → wd (fEpoch b) = s.cvn.epoch → t.cvn.sweep = 2 ∧ t.cvn.fold = (sweepOf (fBody b)).fold ∧
      t.cvn.count = (sweepOf (fBody b)).count ∧ t.evt (evCvn 4) = (s.evt (evCvn 4)).bump ∧
      t.cvn.sweepRes = (if (fFlags b).testBit 1 = false ∧ s.rackAhead (Bytes.num b 0x10 4) (Bytes.num b 0x14 2) = true ∧
        (sweepOf (fBody b)).count = s.cvn.nodes then 0 else 1)) := by
  have hall := walked_trans hwalk (sweepPass_spec u (fEpoch b)).1
  have hahead := rackAhead_of_walked hall (Bytes.num b 0x10 4) (Bytes.num b 0x14 2)
  have hevts := evt_of_walked hall (evCvn 4)
  have hold : (u.sweepPass (fEpoch b)).cvn.sweep = s.cvn.sweep ∧ (u.sweepPass (fEpoch b)).cvn.fold = s.cvn.fold ∧
      (u.sweepPass (fEpoch b)).cvn.epoch = s.cvn.epoch ∧ (u.sweepPass (fEpoch b)).cvn.nodes = s.cvn.nodes := by
    rw [hall.frame]
    exact ⟨rfl, rfl, rfl, rfl⟩
  rw [sweepRx_root u p b ((cvnRoot_of_walked hwalk).trans hroot) ((walkNext_of_walked hwalk _ _).trans hend)]
  unfold State.homeFlags
  rw [hahead]
  generalize u.sweepPass (fEpoch b) = v at hevts hold ⊢
  obtain ⟨hsweep, hfold, hepoch, hnodes⟩ := hold
  have hflags : (if (!s.rackAhead (Bytes.num b 0x10 4) (Bytes.num b 0x14 2)) = true then flagOn (fFlags b) 1 else fFlags b).testBit 1 =
      (!s.rackAhead (Bytes.num b 0x10 4) (Bytes.num b 0x14 2) || (fFlags b).testBit 1) := by
    cases s.rackAhead (Bytes.num b 0x10 4) (Bytes.num b 0x14 2) with
    | true => rfl
    | false => exact testBit_flagOn _
  generalize (if (!s.rackAhead (Bytes.num b 0x10 4) (Bytes.num b 0x14 2)) = true then flagOn (fFlags b) 1 else fFlags b) = fl at hflags ⊢
  obtain ⟨hstay, hhome⟩ := sweepHome_spec v p (fEpoch b) (sweepOf (fBody b)) fl
  rw [hsweep, hepoch, hflags, hnodes, hevts] at hhome
  rw [hsweep, hepoch] at hstay
  generalize v.sweepHome p (fEpoch b) (sweepOf (fBody b)) fl = w at hstay hhome ⊢
  have hfreed := (slotsFreed_slotFree w (some p)).frame
  dsimp only
  generalize w.slotFree (some p) = t at hfreed ⊢
  have hkeep : t.cvn.sweep = w.cvn.sweep ∧ t.cvn.fold = w.cvn.fold ∧ t.cvn.count = w.cvn.count ∧ t.evt (evCvn 4) = w.evt (evCvn 4) ∧
      t.cvn.sweepRes = w.cvn.sweepRes := by
    rw [hfreed]
    exact ⟨rfl, rfl, rfl, rfl, rfl⟩
  obtain ⟨h1, h2, h3, h4, h5⟩ := hkeep
  rw [h1, h2, h3, h4, h5]
  refine ⟨fun hno => ?_, fun hrun he => ?_⟩
  · rw [hstay hno]
    exact ⟨hsweep, hfold⟩
  · obtain ⟨k1, k2, k3, k4, k5⟩ := hhome hrun he
    refine ⟨k1, k2, k3, k4, k5.trans ?_⟩
    cases s.rackAhead (Bytes.num b 0x10 4) (Bytes.num b 0x14 2) <;> simp

/-! ### The exceptions -/

/-- EXC_DATA is read at its INDEX, which moves on (R559). -/
theorem excDataRead_spec (s : State) (m : Master) (h : s.arrives m 0x182 = true) (hin : s.fldOf (aCvn 2 0x54) 8 0 < s.cvn.exc.length) :
    ∃ t, exec (.excDataRead m) s = .next t ∧ t.reg (aCvn 2 0x54) = wd ((s.fldOf (aCvn 2 0x54) 8 0 + 1) % 512) ∧ t.cvn = s.cvn ∧
      t.outbox.getLast? = some (.readData m (aCvn 2 0x58) (leBytes 4 (s.cvn.exc.getD (s.fldOf (aCvn 2 0x54) 8 0) 0).toNat)) := by
  have hread : s.readWord m (aCvn 2 0x58) = s.excWord ∧ s.readEff m (aCvn 2 0x58) = s.excStep := by constructor <;> rfl
  obtain ⟨hword, heff⟩ := hread
  have hvalue : s.excWord = s.cvn.exc.getD (s.fldOf (aCvn 2 0x54) 8 0) 0 := by
    have hsome : s.cvn.exc.isEmpty = false := by
      cases hx : s.cvn.exc with
      | nil => rw [hx] at hin; exact absurd hin (by simp)
      | cons x l => rfl
    rw [State.excWord, hsome, if_neg (by decide), List.getD_eq_getElem _ _ hin, List.getD_eq_getElem _ _ hin]
  have hexec : exec (.excDataRead m) s = .next ((s.excStep).answer m (aCvn 2 0x58) (leBytes 4 s.excWord.toNat)) := by
    have harr : s.arrives m (aCvn 2 0x58 / 4096) = true := h
    exact congrArg Host.Outcome.next (by rw [State.read32_of_arrives s m _ harr, heff, hword])
  have hframe := answer_recorded s.excStep m (aCvn 2 0x58) (leBytes 4 s.excWord.toNat)
  have hlast := answer_getLast s.excStep m (aCvn 2 0x58) (leBytes 4 s.excWord.toNat)
  rw [hvalue] at hexec hframe hlast
  generalize (s.excStep).answer m (aCvn 2 0x58) (leBytes 4 (s.cvn.exc.getD (s.fldOf (aCvn 2 0x54) 8 0) 0).toNat) = t at hexec hframe hlast
  refine ⟨t, hexec, ?_, ?_, hlast⟩
  · rw [hframe]
    exact (State.reg_setReg s.freed _ _ _).trans (if_pos rfl)
  · rw [hframe]
    rfl

/-! ### The commands -/

theorem frameOk_parts (s : State) (p want : Nat) (b : Bytes) (fmt : Bool) (h : s.frameOk p want b fmt = true) :
    s.cvnUp p = true ∧ fFunc b = want := by
  unfold State.frameOk at h
  simp only [Bool.and_eq_true, beq_iff_eq] at h
  obtain ⟨⟨⟨⟨⟨⟨⟨⟨hup, hfunc⟩, -⟩, -⟩, -⟩, -⟩, -⟩, -⟩, -⟩ := h
  exact ⟨hup, hfunc⟩

/-- An accepted frame, as its command takes it. -/
theorem rx_ok (s : State) (p want : Nat) (b : Bytes) (fmt : Bool) (eff : State → State) (h : s.frameOk p want b fmt = true) :
    (if s.cvnUp p then s.cvnIn p want b fmt eff else s) = eff (s.frameTaken p want b) :=
  (if_pos (frameOk_parts s p want b fmt h).1).trans (cvnIn_ok s p want b fmt eff h)

theorem rx_down (s : State) (p want : Nat) (b : Bytes) (fmt : Bool) (eff : State → State) (h : s.cvnUp p = false) :
    (if s.cvnUp p then s.cvnIn p want b fmt eff else s) = s := if_neg (by rw [h]; decide)

theorem timeAt_of_walked {s t : State} (h : s.Walked t) (p : Nat) (b : Bytes) : t.timeAt p b = s.timeAt p b := by
  unfold State.timeAt State.latLu
  rw [lat_of_walked h, cis_of_walked h]

/-- CVN_TRAIN_RX (R539). -/
theorem cvnTrainRx_spec (s : State) (p : Fin 3) (f : CvnFrame) (h : s.frameOk p.val 2 f.bytes true = true) :
    exec (.cvnTrainRx p f) s = .next ((s.frameTaken p.val 2 f.bytes).trainRx p.val f.bytes) :=
  congrArg Host.Outcome.next (rx_ok s p.val 2 f.bytes true _ h)

/-- CVN_TIME_RX (R553). -/
theorem cvnTimeRx_spec (s : State) (p : Fin 3) (f : CvnFrame) (h : s.frameOk p.val 5 f.bytes true = true) :
    exec (.cvnTimeRx p f) s = .next ((s.frameTaken p.val 5 f.bytes).timeRx p.val f.bytes) :=
  congrArg Host.Outcome.next (rx_ok s p.val 5 f.bytes true _ h)

/-- CVN_SWEEP_RX (R544). -/
theorem cvnSweepRx_spec (s : State) (p : Fin 3) (f : CvnFrame) (h : s.frameOk p.val 3 f.bytes true = true) :
    exec (.cvnSweepRx p f) s = .next ((s.frameTaken p.val 3 f.bytes).sweepRx p.val f.bytes) :=
  congrArg Host.Outcome.next (rx_ok s p.val 3 f.bytes true _ h)

theorem sweepEnd_spec (s : State) (res : Nat) :
    (s.sweepEnd res).evt (evCvn 4) = (s.evt (evCvn 4)).bump ∧
    s.sweepEnd res = { s.routed (s.sweepEnd res) with cvn := { s.cvn with sweep := 2, sweepRes := res } } := by
  unfold State.sweepEnd
  refine ⟨?_, by apply State.ext <;> simp [State.routed, State.modCvn]⟩
  rw [State.evt_count, if_pos rfl]
  rfl

/-- The oldest opening has reached its deadline (R547). -/
theorem missed_spec (s : State) (later : List (Nat × Nat)) :
    let t := (s.modCvn (fun c => { c with missAt := later })).count (evCvn 5)
    t.evt (evCvn 5) = (s.evt (evCvn 5)).bump ∧ t = { s.routed t with cvn := { s.cvn with missAt := later } } := by
  refine ⟨?_, by apply State.ext <;> simp [State.routed, State.modCvn]⟩
  rw [State.evt_count, if_pos rfl]
  rfl

/-- SWEEP_MISSED_CHECK (R547). -/
theorem sweepMissed_nil (s : State) (h : s.cvn.missAt = []) : exec .sweepMissedCheck s = .next s := by
  refine congrArg Host.Outcome.next ?_
  rw [h]

theorem sweepMissed_cons (s : State) (hc lu : Nat) (later : List (Nat × Nat)) (h : s.cvn.missAt = (hc, lu) :: later) :
    exec .sweepMissedCheck s =
      .next (if !s.cvnOn || s.rackAhead hc lu then s else (s.modCvn (fun c => { c with missAt := later })).count (evCvn 5)) := by
  refine congrArg Host.Outcome.next ?_
  rw [h]

/-- Settles O49. -/
theorem walksTrainTimeAndCountersignTheRack : Obligations.WalksTrainTimeAndCountersignTheRack := by
  unfold Obligations.WalksTrainTimeAndCountersignTheRack
  refine ⟨fun s m h => ?train, fun s p f => ?trainRx, fun s => ?time, fun s p f => ?timeRx, fun s m h => ?cal, fun s p f => ?sweepRx,
    fun s => ?lost, fun s => ?missed, fun s m h hin => excDataRead_spec s m h hin⟩
  case train =>
    have hexec : exec (.cvnTrain m) s = .next (s.train m) := guarded_next s m _ _ h
    refine ⟨fun hno => hexec.trans (congrArg Host.Outcome.next (if_neg ?_)), fun hon hroot hsweep => ?_⟩
    · simp only [Bool.and_eq_true, bne_iff_ne, ne_eq]
      rintro ⟨⟨hon, hroot⟩, hsweep⟩
      rcases hno with h | h | h
      · exact absurd (h.symm.trans hon) (by decide)
      · exact absurd (h.symm.trans hroot) (by decide)
      · exact hsweep h
    · have hgo : s.train m = s.trainRoot.trainSend none 1 2 0 0 0 none := if_pos (by simp [hon, hroot, hsweep])
      exact ⟨_, hexec.trans (congrArg Host.Outcome.next hgo), train_spec s hroot⟩
  case trainRx =>
    refine ⟨fun hdown => congrArg Host.Outcome.next (rx_down s p.val 2 f.bytes true _ hdown),
      fun hok next un hops hnext hun hhops => ⟨_, cvnTrainRx_spec s p f hok, ?_⟩⟩
    subst hnext hun hhops
    have hw := walked_frameTaken s p.val 2 f.bytes (by decide)
    generalize s.frameTaken p.val 2 f.bytes = u at hw ⊢
    obtain ⟨h1, h2, h3, h4, h5⟩ := trainRx_spec u p.val f.bytes
    rw [cvnRoot_of_walked hw, evt_of_walked hw] at h1 h2
    rw [cvnRoot_of_walked hw, walkNext_of_walked hw] at h5
    exact ⟨h1, h2, h3, h4, h5⟩
  case time =>
    refine ⟨fun hno => congrArg Host.Outcome.next (if_neg ?_), fun hon hroot hbit hdue hidle => ?_⟩
    · simp only [Bool.and_eq_true]
      rintro ⟨⟨⟨hon, hroot⟩, hbit⟩, hdue⟩
      rcases hno with h | h | h | h
      · exact absurd (h.symm.trans hon) (by decide)
      · exact absurd (h.symm.trans hroot) (by decide)
      · exact absurd (h.symm.trans hbit) (by decide)
      · exact absurd (h.symm.trans hdue) (by decide)
    · exact ⟨_, congrArg Host.Outcome.next (if_pos (by simp [hon, hroot, hbit, hdue])), timeSend_spec s hroot hidle⟩
  case timeRx =>
    refine ⟨fun hdown => congrArg Host.Outcome.next (rx_down s p.val 5 f.bytes true _ hdown),
      fun hok e he => ⟨_, cvnTimeRx_spec s p f hok, ?_⟩⟩
    have hw := walked_frameTaken s p.val 5 f.bytes (by decide)
    generalize s.frameTaken p.val 5 f.bytes = u at hw ⊢
    have hspec := timeRx_spec u p.val f.bytes e (by rw [rackPos_of_walked hw, timeAt_of_walked hw, he])
    have hreg : u.fldOf (aCvn 3 0x40) 15 0 = s.fldOf (aCvn 3 0x40) 15 0 := by rw [State.fldOf, hw.regs _ (by decide), State.fldOf]
    have hcvn : u.cvn.timeChecks = s.cvn.timeChecks ∧ u.cvn.timeSkew = s.cvn.timeSkew ∧ u.cvn.calN = s.cvn.calN ∧ u.cvn.calD = s.cvn.calD := by
      rw [hw.frame]
      exact ⟨rfl, rfl, rfl, rfl⟩
    obtain ⟨c1, c2, c3, c4⟩ := hcvn
    dsimp only at hspec
    rw [hreg, c1, c2, c3, c4, cis_of_walked hw, timeAt_of_walked hw, evt_of_walked hw, evt_of_walked hw] at hspec
    exact hspec
  case cal =>
    have hexec : exec (.cvnTimeCal m) s = .next s.timeCal := guarded_next s m _ _ h
    exact ⟨fun hoff => hexec.trans (congrArg Host.Outcome.next (if_neg (by rw [hoff]; decide))),
      fun hon => hexec.trans (congrArg Host.Outcome.next (if_pos hon))⟩
  case sweepRx =>
    refine ⟨fun hdown => congrArg Host.Outcome.next (rx_down s p.val 3 f.bytes true _ hdown), fun hok x fl u hx hfl hu => ?_⟩
    have hexec := cvnSweepRx_spec s p f hok
    have hw := walked_frameTaken s p.val 3 f.bytes (by decide)
    have hstill := frameTaken_still s p.val 3 f.bytes
    have hfunc := (frameOk_parts s p.val 3 f.bytes true hok).2
    subst hx hfl
    rw [← hu] at hexec hw hstill
    refine ⟨fun hroot haddr hlate hret hahead => ?_, fun hroot h => ⟨_, hexec, sweepRx_passes s u p.val f.bytes hw hroot h⟩,
      fun hroot hend => ⟨_, hexec, sweepRx_home s u p.val f.bytes hw hroot hend⟩⟩
    obtain ⟨h1, h2, h3, h4⟩ := sweepRx_signs s u p.val f.bytes hw hroot haddr hlate hret hahead
    refine ⟨_, hexec, h1, h2, h3, fun q ret y hnext hq hwait hidle hy => ?_⟩
    obtain ⟨hlinks, hframe⟩ := hstill hwait
    rw [h4 hfunc (fun q' hq' => by rw [hlinks, if_neg hq']) hframe q ret hnext hq hidle, List.getLast?_concat, hy]
    rfl
  case lost =>
    refine ⟨fun hno => congrArg Host.Outcome.next (if_neg ?_), fun hrun hpast => ?_⟩
    · simp only [Bool.and_eq_true, beq_iff_eq, Bool.not_eq_true']
      rintro ⟨hrun, hpast⟩
      rcases hno with h | h
      · exact h hrun
      · exact absurd (h.symm.trans hpast) (by decide)
    · exact ⟨_, congrArg Host.Outcome.next (if_pos (by rw [hrun, hpast]; rfl)), sweepEnd_spec s 2⟩
  case missed =>
    refine ⟨fun hno => ?_, fun hc lu later hlist => ⟨fun hahead => ?_, fun hon hpast => ?_⟩⟩
    · cases hlist : s.cvn.missAt with
      | nil => exact sweepMissed_nil s hlist
      | cons x later =>
        have hoff : s.cvnOn = false := hno.resolve_right (by rw [hlist]; simp)
        exact (sweepMissed_cons s x.1 x.2 later hlist).trans (congrArg Host.Outcome.next (if_pos (by simp [hoff])))
    · exact (sweepMissed_cons s hc lu later hlist).trans (congrArg Host.Outcome.next (if_pos (by simp [hahead])))
    · exact ⟨_, (sweepMissed_cons s hc lu later hlist).trans (congrArg Host.Outcome.next (if_neg (by simp [hon, hpast]))), missed_spec s later⟩

end Sys2Proof.Machine
end

section
/-! PROOFS. Notices and recovery objects: the receive buffer, the fragments and the recovery requests (R540, R541, R549 to R555, R620). -/
namespace Sys2Proof.Machine

/-! ### Core memory -/

theorem bytes_setBytes_self (s : State) (a : Nat) (x : Bytes) : (s.setBytes a x).bytes a x.length = x := by
  unfold State.bytes
  refine List.ext_getElem (by simp) fun i h1 h2 => ?_
  rw [List.getElem_map, List.getElem_range, byte_setBytes, if_pos ⟨by omega, by omega⟩, Nat.add_sub_cancel_left, List.getD_eq_getElem _ _ h2]

theorem bytes_length (s : State) (a n : Nat) : (s.bytes a n).length = n := by simp [State.bytes]

/-- An object written to core memory where its buffer lies in data RAM (R550, R555). -/
def State.rxWritten (s : State) (a : Nat) (x : Bytes) : State :=
  if bufInRam s.rxBase then (s.dmaRecords 0x45 a x).setBytes a x else s

theorem rxWritten_spec (s : State) (a : Nat) (x : Bytes) :
    s.rxWritten a x = { s.recorded (s.rxWritten a x) with ram := (s.rxWritten a x).ram } ∧
    (bufInRam s.rxBase = true → (s.rxWritten a x).bytes a x.length = x) ∧ (bufInRam s.rxBase = false → (s.rxWritten a x).ram = s.ram) ∧
    ∀ k, k < 340 → (s.rxWritten a x).evt k = s.evt k := by
  unfold State.rxWritten
  split_ifs with h
  · have hrec := dmaRecords_recorded s 0x45 a x
    have hevt := evt_dmaRecords_low s 0x45 a x
    generalize s.dmaRecords 0x45 a x = u at hrec hevt ⊢
    refine ⟨?_, fun _ => bytes_setBytes_self u a x, fun hno => absurd (h.symm.trans hno) (by decide), fun k hk => ?_⟩
    · have hset : u.setBytes a x = { u with ram := (u.setBytes a x).ram } := by apply State.ext <;> simp
      generalize u.setBytes a x = t at hset ⊢
      rw [hset, hrec]
      rfl
    · rw [← hevt k hk]
      simp [State.evt]
  · exact ⟨rfl, fun hyes => absurd hyes h, fun _ => rfl, fun _ _ => rfl⟩

/-! ### A fragment comes in -/

/-- The offset of a fragment in the receive buffer (R550). -/
def State.rxOffset (s : State) (b : Bytes) : Nat := if fIndex b = 0 then 0 else s.cvn.rxBuf.length

theorem rxStore_spec (s : State) (p : Nat) (b : Bytes) :
    let t := s.rxStore p b
    t.cvn = { s.cvn with
      rxBuf := s.cvn.rxBuf.take (s.rxOffset b) ++ fBody b, rxFrag := (if fIndex b == fLast b then 0 else fIndex b + 1), rxFunc := fFunc b
      rxSrc := fSrc b, rxDst := fDst b, rxPort := p, rxFull := fIndex b == fLast b } ∧
    (bufInRam s.rxBase = true → t.bytes (s.rxBase + s.rxOffset b) (fBody b).length = fBody b) ∧ (bufInRam s.rxBase = false → t.ram = s.ram) ∧
    (fIndex b = fLast b → t.evt (evCvn (if fFunc b = 4 then 6 else 7)) = (s.evt (evCvn (if fFunc b = 4 then 6 else 7))).bump) := by
  obtain ⟨hframe, hin, hout, hevt⟩ := rxWritten_spec s (s.rxBase + s.rxOffset b) (fBody b)
  have hlow : evCvn (if fFunc b = 4 then 6 else 7) < 340 := by split_ifs <;> decide
  have hkeep := hevt _ hlow
  have heq : s.rxStore p b =
      let u := (s.rxWritten (s.rxBase + s.rxOffset b) (fBody b)).modCvn (fun c => { c with
        rxBuf := c.rxBuf.take (s.rxOffset b) ++ fBody b, rxFrag := (if fIndex b == fLast b then 0 else fIndex b + 1), rxFunc := fFunc b
        rxSrc := fSrc b, rxDst := fDst b, rxPort := p, rxFull := fIndex b == fLast b })
      if fIndex b == fLast b then u.count (evCvn (if fFunc b = 4 then 6 else 7)) else u := rfl
  have hcvn : (s.rxWritten (s.rxBase + s.rxOffset b) (fBody b)).cvn = s.cvn := by rw [hframe]; rfl
  rw [heq]
  dsimp only
  generalize s.rxWritten (s.rxBase + s.rxOffset b) (fBody b) = u at hcvn hin hout hkeep ⊢
  generalize evCvn (if fFunc b = 4 then 6 else 7) = ev at hkeep ⊢
  by_cases hfin : fIndex b = fLast b
  · rw [if_pos (by simp [hfin])]
    refine ⟨?_, fun h => ?_, fun h => ?_, fun _ => ?_⟩
    · simp [State.modCvn, hcvn]
    · exact Eq.trans (by simp [State.bytes, State.byte, State.modCvn]) (hin h)
    · exact Eq.trans (by simp [State.modCvn]) (hout h)
    · rw [State.evt_count, if_pos rfl, ← hkeep]
      rfl
  · rw [if_neg (by simp [hfin])]
    refine ⟨?_, hin, hout, fun h => absurd h hfin⟩
    rw [State.modCvn, hcvn]

theorem nrAct_of_walked {s t : State} (h : s.Walked t) (p : Nat) (b : Bytes) : t.nrAct p b = s.nrAct p b := by
  have hup : ∀ q, t.cvnUp q = s.cvnUp q := fun q => by rw [State.cvnUp, st_of_walked h, State.cvnUp]
  have haddr : t.cvn.addr = s.cvn.addr := by rw [h.frame]
  have hbranch : t.cvn.branchLast = s.cvn.branchLast := by rw [h.frame]
  have hroute : ∀ d, t.routeTo d = s.routeTo d := fun d => by
    unfold State.routeTo
    rw [haddr, hbranch, hup]
  unfold State.nrAct
  rw [noticeSeq_of_walked h, cvnRoot_of_walked h, haddr]
  simp only [hroute, hup]

/-- What a delivered or passing NOTICE or RECOVER frame does (R540, R550, R555). -/
theorem nrRx_spec (s : State) (p : Nat) (b : Bytes) :
    let t := s.nrRx p b
    (s.nrAct p b = .consume → t.cvn.rxBuf = s.cvn.rxBuf ∧ t.cvn.rxFull = s.cvn.rxFull) ∧
    (s.nrAct p b = .deliver → s.cvn.rxFull = true →
      t.link p = { s.link p with held := (s.link p).held ++ [b] } ∧ t.cvn.rxBuf = s.cvn.rxBuf) ∧
    (s.nrAct p b = .deliver → s.cvn.rxFull = false → t.cvn.rxBuf = s.cvn.rxBuf.take (s.rxOffset b) ++ fBody b ∧
      t.cvn.rxFull = (fIndex b == fLast b) ∧ t.cvn.rxFunc = fFunc b ∧ t.cvn.rxSrc = fSrc b ∧ t.cvn.rxDst = fDst b ∧ t.cvn.rxPort = p ∧
      (bufInRam s.rxBase = true → t.bytes (s.rxBase + s.rxOffset b) (fBody b).length = fBody b) ∧
      (bufInRam s.rxBase = false → t.ram = s.ram) ∧
      (fIndex b = fLast b → t.evt (evCvn (if fFunc b = 4 then 6 else 7)) = (s.evt (evCvn (if fFunc b = 4 then 6 else 7))).bump)) ∧
    (∀ q, s.nrAct p b = .pass [q] → t = s.give q (fwdOf p b)) := by
  dsimp only
  refine ⟨fun hact => ?_, fun hact hfull => ?_, fun hact hempty => ?_, fun q hact => ?_⟩
  · have hrx : s.nrRx p b = s.slotFree (some p) := by rw [State.nrRx, hact]
    rw [hrx, (slotsFreed_slotFree s (some p)).frame]
    exact ⟨rfl, rfl⟩
  · have hrx : s.nrRx p b = s.modLink p (fun l => { l with held := l.held ++ [b] }) := by rw [State.nrRx, hact]; exact if_pos hfull
    rw [hrx, link_modLink, if_pos rfl]
    exact ⟨rfl, rfl⟩
  · have hrx : s.nrRx p b = (s.rxStore p b).slotFree (some p) := by
      rw [State.nrRx, hact]
      exact if_neg (by rw [hempty]; decide)
    obtain ⟨hcvn, hin, hout, hevt⟩ := rxStore_spec s p b
    rw [hrx]
    generalize s.rxStore p b = u at hcvn hin hout hevt ⊢
    have hfreed := (slotsFreed_slotFree u (some p)).frame
    generalize u.slotFree (some p) = t at hfreed ⊢
    have hram : t.ram = u.ram := by rw [hfreed]
    have hbytes : ∀ a n, t.bytes a n = u.bytes a n := fun a n => by
      unfold State.bytes State.byte
      rw [hram]
    have hevts : ∀ k, t.evt k = u.evt k := fun k => by rw [hfreed]; rfl
    rw [hram]
    refine ⟨?_, ?_, ?_, ?_, ?_, ?_, fun h => by rw [hbytes, hin h], hout, fun h => by rw [hevts, hevt h]⟩ <;> rw [hfreed, hcvn]
  · rw [State.nrRx, hact]
    rfl

theorem rxBase_of_walked {s t : State} (h : s.Walked t) : t.rxBase = s.rxBase := by
  unfold State.rxBase
  rw [h.regs _ (by decide)]

/-- A NOTICE or RECOVER frame, as its command takes it (R550, R555). -/
theorem nrTaken_spec (s : State) (p want ev : Nat) (b : Bytes) (hkind : (want = 4 ∧ ev = 6) ∨ (want = 6 ∧ ev = 7)) (hfunc : fFunc b = want) :
    let t := (s.frameTaken p want b).nrRx p b
    (s.nrAct p b = .consume → t.cvn.rxBuf = s.cvn.rxBuf ∧ t.cvn.rxFull = s.cvn.rxFull) ∧
    (s.nrAct p b = .deliver → s.cvn.rxFull = true →
      t.link p = { (s.frameTaken p want b).link p with held := (s.link p).held ++ [b] } ∧ t.cvn.rxBuf = s.cvn.rxBuf) ∧
    (s.nrAct p b = .deliver → s.cvn.rxFull = false → ∀ o, o = s.rxOffset b → t.cvn.rxBuf = s.cvn.rxBuf.take o ++ fBody b ∧
      t.cvn.rxFull = (fIndex b == fLast b) ∧ t.cvn.rxFunc = want ∧ t.cvn.rxSrc = fSrc b ∧ t.cvn.rxDst = fDst b ∧ t.cvn.rxPort = p ∧
      (bufInRam s.rxBase = true → t.bytes (s.rxBase + o) (fBody b).length = fBody b) ∧
      (bufInRam s.rxBase = false → t.ram = s.ram) ∧
      (fIndex b = fLast b → t.evt (evCvn ev) = (s.evt (evCvn ev)).bump)) ∧
    (∀ q, s.nrAct p b = .pass [q] → q ≠ p → (s.link p).waiting = [] → s.linkIdle q 4 = true → (want = 6 → 2 ≤ (s.link q).ver) →
      t.outbox.getLast? = some (.cvn q (s.nextFrame q (fwdOf p b)))) := by
  have hw := walked_frameTaken s p want b (by omega)
  have hstill := frameTaken_still s p want b
  generalize s.frameTaken p want b = u at hw hstill ⊢
  have hbuf : u.cvn.rxBuf = s.cvn.rxBuf ∧ u.cvn.rxFull = s.cvn.rxFull := by
    rw [hw.frame]
    exact ⟨rfl, rfl⟩
  obtain ⟨hb, hf⟩ := hbuf
  have hoff : u.rxOffset b = s.rxOffset b := by rw [State.rxOffset, hb, State.rxOffset]
  have hram : u.ram = s.ram := by rw [hw.frame]
  have hev : evCvn (if fFunc b = 4 then 6 else 7) = evCvn ev := by
    rw [hfunc]
    rcases hkind with ⟨rfl, rfl⟩ | ⟨rfl, rfl⟩ <;> rfl
  obtain ⟨h1, h2, h3, h4⟩ := nrRx_spec u p b
  rw [nrAct_of_walked hw, hb] at h1 h2 h3
  rw [hf] at h1 h2 h3
  rw [held_of_walked hw] at h2
  rw [hoff, hfunc, rxBase_of_walked hw, hram, ← hfunc, hev, evt_of_walked hw, hfunc] at h3
  rw [nrAct_of_walked hw] at h4
  refine ⟨h1, h2, fun hact hempty o ho => by rw [ho]; exact h3 hact hempty, fun q hact hq hwait hidle hver => ?_⟩
  obtain ⟨hlinks, hframe⟩ := hstill hwait
  obtain ⟨hup, hwait', htx⟩ := linkIdle_parts s q 4 hidle
  have hsame : u.link q = s.link q := by rw [hlinks, if_neg hq]
  have he : (fwdOf p b).func = want := hfunc
  have hbulky : mayXmit (u.link q).tx (fwdOf p b) = true := by
    rw [mayXmit, he, hsame]
    rcases hkind with ⟨rfl, -⟩ | ⟨rfl, -⟩ <;> simpa [bulky] using htx
  obtain ⟨hbox, -⟩ := give_idle u q (fwdOf p b) (by rw [State.cvnUp, hsame]; exact hup) (by rw [hsame]; exact hwait') hbulky
    (by rw [he, hsame]; rintro ⟨h6, hlt⟩; exact absurd (hver h6) (by omega)) (fun h => hq (Option.some.inj h).symm)
  have htimed : s.timed (fwdOf p b) = fwdOf p b := by
    rw [State.timed, he, if_neg (by omega)]
  rw [h4 q hact, hbox, List.getLast?_concat, nextFrame_congr s u q (fwdOf p b) hframe (by rw [hsame]) (by rw [hsame]) (by rw [hsame])
    (by rw [hsame]), htimed]

/-! ### The buffer is cleared -/

/-- `s` with the receive buffer empty. -/
def State.rxEmptied (s : State) : State := s.modCvn (fun c => { c with rxFull := false, rxBuf := [], rxFrag := 0 })

theorem rxClear_none (s : State) (h : ∀ p, p < 3 → (s.link p).held = []) : s.rxClear = s.rxEmptied := by
  have hlinks : ∀ p, p < 3 → s.rxEmptied.heldGo p (s.rxEmptied.link p).held.length = s.rxEmptied := fun p hp => by
    have hheld : (s.rxEmptied.link p).held = [] := h p hp
    rw [hheld]
    rfl
  have hall : s.rxClear = (List.range 3).foldl (fun s p => s.heldGo p (s.link p).held.length) s.rxEmptied := rfl
  rw [hall, show List.range 3 = [0, 1, 2] from rfl, List.foldl_cons, List.foldl_cons, List.foldl_cons, List.foldl_nil,
    hlinks 0 (by decide), hlinks 1 (by decide), hlinks 2 (by decide)]

theorem noneHeld_parts (s : State) (h : s.noneHeld = true) : ∀ p, p < 3 → (s.link p).held = [] := by
  unfold State.noneHeld at h
  simp only [Bool.and_eq_true, List.isEmpty_iff] at h
  obtain ⟨⟨h0, h1⟩, h2⟩ := h
  intro p hp
  interval_cases p
  · exact h0
  · exact h1
  · exact h2

/-! ### What a notice asks for -/

/-- `t` is `s` after a commit was submitted or noted: neither a register nor a Caravan port differs. -/
def State.Noted (s t : State) : Prop := t.regs = s.regs ∧ t.cvn.ports = s.cvn.ports

theorem noted_trans {r s t : State} (hrs : r.Noted s) (hst : s.Noted t) : r.Noted t := ⟨hst.1.trans hrs.1, hst.2.trans hrs.2⟩

theorem noted_arbMakeRoom (s : State) : s.Noted s.arbMakeRoom := by
  unfold State.arbMakeRoom
  split_ifs
  · exact ⟨rfl, rfl⟩
  · have herased := erased_homeErase s (0x800000 + 0x1000 * s.arbOther) 1
    generalize s.homeErase (0x800000 + 0x1000 * s.arbOther) 1 = u at herased ⊢
    have hregs : u.regs = s.regs := by rw [herased]
    have hports : u.cvn.ports = s.cvn.ports := by rw [herased]
    exact noted_trans (s := u) ⟨hregs, hports⟩ ⟨rfl, rfl⟩

theorem noted_arbRaise (s : State) (cls v : Nat) : s.Noted (s.arbRaise cls v) := by
  unfold State.arbRaise State.arbCommit
  split_ifs
  · exact ⟨rfl, rfl⟩
  · cases s.cmdSlot with
    | some k => exact noted_trans (noted_arbMakeRoom s) ⟨rfl, rfl⟩
    | none => exact ⟨rfl, rfl⟩
  · exact ⟨rfl, rfl⟩

theorem noted_noticeApply (s : State) (imgs : List ImageSeen) (o : Bytes) : s.Noted (s.noticeApply imgs o) := by
  unfold State.noticeApply
  dsimp only
  split_ifs
  · exact ⟨rfl, rfl⟩
  · exact ⟨rfl, rfl⟩
  · exact ⟨rfl, rfl⟩
  · exact ⟨rfl, rfl⟩
  · exact ⟨rfl, rfl⟩
  · exact ⟨rfl, rfl⟩
  · exact noted_arbRaise s _ _
  · exact ⟨rfl, rfl⟩
  · exact ⟨rfl, rfl⟩

/-! ### Objects that leave -/

theorem sent_sendObject (s : State) (qs : List Nat) (es : List CvnOut) : s.Sent (s.sendObject qs es) :=
  sent_foldl es _ (fun u e => sent_giveAll u qs e) s

/-- An object that goes nowhere changes nothing. -/
theorem sendObject_nowhere (s : State) (es : List CvnOut) (h : ∀ e ∈ es, e.held = none) : s.sendObject [] es = s := by
  unfold State.sendObject
  induction es with
  | nil => rfl
  | cons e es ih =>
    have hgone : s.giveAll [] e = s := copyGone_unheld s e (h e List.mem_cons_self)
    rw [List.foldl_cons, hgone]
    exact ih fun e' he' => h e' (List.mem_cons_of_mem e he')

theorem held_fragments (func src dst epoch : Nat) (o : Bytes) : ∀ e ∈ fragments func src dst epoch o, e.held = none ∧ e.func = func := by
  intro e he
  unfold fragments at he
  dsimp only at he
  obtain ⟨i, -, rfl⟩ := List.mem_map.mp he
  exact ⟨rfl, rfl⟩

/-- An object of at most 1,984 bytes is one fragment (R549). -/
theorem fragments_one (func src dst : Nat) (o : Bytes) (hpos : 0 < o.length) (hle : o.length ≤ 1984) :
    fragments func src dst 0 o = [cvnOut func src dst o] := by
  have hchunks : chunks 1984 (o.length / 1984 + 1) o = [o] := by
    have hne : o.isEmpty = false := by
      cases o with
      | nil => exact absurd hpos (by simp)
      | cons x l => rfl
    have hrest : o.drop 1984 = [] := List.drop_eq_nil_of_le hle
    unfold chunks
    rw [hne, hrest, List.take_of_length_le hle]
    cases o.length / 1984 <;> rfl
  unfold fragments
  rw [hchunks]
  rfl

theorem chunks_length (n : Nat) (hn : 0 < n) (fuel : Nat) : ∀ o : Bytes, o.length ≤ n * fuel →
    (chunks n fuel o).length = (o.length + n - 1) / n := by
  induction fuel with
  | zero =>
    intro o ho
    have h0 : o.length = 0 := by omega
    rw [h0, Nat.zero_add, Nat.div_eq_of_lt (by omega)]
    rfl
  | succ fuel ih =>
    intro o ho
    unfold chunks
    cases o with
    | nil => simp [Nat.div_eq_of_lt (show n - 1 < n by omega)]
    | cons x l =>
      have hlen : ((x :: l).drop n).length = (x :: l).length - n := List.length_drop
      rw [List.isEmpty_cons, if_neg (by decide), List.length_cons, ih _ (by rw [hlen]; rw [Nat.mul_succ] at ho; omega), hlen]
      generalize hk : (x :: l).length = k at ho ⊢
      have hkpos : 0 < k := by rw [← hk]; simp
      by_cases hle : k ≤ n
      · rw [Nat.sub_eq_zero_of_le hle, Nat.zero_add, Nat.div_eq_of_lt (by omega), show k + n - 1 = (k - 1) + n by omega, Nat.add_div_right _ hn,
          Nat.div_eq_of_lt (by omega)]
      · rw [show k + n - 1 = (k - n + n - 1) + n by omega, Nat.add_div_right _ hn]

theorem fragments_length (func src dst epoch : Nat) (o : Bytes) : (fragments func src dst epoch o).length = (o.length + 1983) / 1984 := by
  unfold fragments
  dsimp only
  rw [List.length_map, List.length_range, chunks_length 1984 (by decide) _ o (by omega)]
  rfl

/-- Fragments leave one after the other on a port that has the credits (R538, R549). -/
theorem sendObject_notice (q : Nat) (es : List CvnOut) : ∀ s : State, (∀ e ∈ es, e.held = none ∧ e.func = 4) → s.cvnUp q = true →
    (s.link q).waiting = [] → 3 + es.length < (s.link q).tx →
    (s.sendObject [q] es).outbox.length = s.outbox.length + es.length ∧ ((s.sendObject [q] es).link q).waiting = [] ∧
      ((s.sendObject [q] es).link q).tx = (s.link q).tx - es.length := by
  induction es with
  | nil => exact fun s _ _ hwait _ => ⟨rfl, hwait, rfl⟩
  | cons e es ih =>
    intro s hall hup hwait htx
    obtain ⟨hheld, hfunc⟩ := hall e List.mem_cons_self
    rw [List.length_cons] at htx ⊢
    obtain ⟨hbox, hrest⟩ := give_idle s q e hup hwait (by rw [mayXmit, hfunc]; simp [bulky]; omega)
      (by rw [hfunc]; rintro ⟨h6, -⟩; exact absurd h6 (by decide)) (by rw [hheld]; simp)
    obtain ⟨hlink, -, -⟩ := hrest hheld
    have hcons : s.sendObject [q] (e :: es) = (s.give q e).sendObject [q] es := rfl
    rw [hcons]
    generalize s.give q e = u at hbox hlink ⊢
    have htx' : (u.link q).tx = (s.link q).tx - 1 := by
      rw [hlink, CvnPort.spent, hfunc]
      rfl
    obtain ⟨h1, h2, h3⟩ := ih u (fun e' he' => hall e' (List.mem_cons_of_mem e he')) (by rw [State.cvnUp, hlink]; exact hup)
      (by rw [hlink]; exact hwait) (by rw [htx']; omega)
    refine ⟨?_, h2, ?_⟩
    · rw [h1, hbox]
      simp
      omega
    · rw [h3, htx']
      omega

end Sys2Proof.Machine
end

section
/-! PROOFS. O50: notices and recovery objects pass the receive buffer (R540, R541, R549 to R551, R555, R620). -/
namespace Sys2Proof.Machine

/-! ### FORWARD and DROP -/

theorem link_of_ports {s t : State} (h : t.cvn.ports = s.cvn.ports) (p : Nat) : t.link p = s.link p := by
  unfold State.link
  rw [h]

theorem held_of_sent {s t : State} (h : s.Sent t) (p : Nat) : (t.link p).held = (s.link p).held := by
  have hl := h.links p
  unfold CvnPort.Sent at hl
  rw [hl]

/-- The register write and the notice of a FORWARD, where the object is a notice (R551). -/
def State.noticed (s : State) (imgs : List ImageSeen) : State :=
  if s.cvn.rxFunc = 4 then (s.setReg (aCvn 3 0x6C) (wd (Bytes.num s.rxObject 8 4))).noticeApply imgs s.rxObject else s

theorem noticed_spec (s : State) (imgs : List ImageSeen) :
    (s.noticed imgs).cvn.ports = s.cvn.ports ∧ (s.cvn.rxFunc = 4 → (s.noticed imgs).reg (aCvn 3 0x6C) = wd (Bytes.num s.rxObject 8 4)) := by
  unfold State.noticed
  split_ifs with h
  · obtain ⟨hregs, hports⟩ := noted_noticeApply (s.setReg (aCvn 3 0x6C) (wd (Bytes.num s.rxObject 8 4))) imgs s.rxObject
    refine ⟨hports.trans (by simp), fun _ => ?_⟩
    rw [State.reg, hregs, ← State.reg, State.reg_setReg, if_pos rfl]
  · exact ⟨rfl, fun h4 => absurd h4 h⟩

/-- What FORWARD sends on (R551, R555). -/
def State.forwarded (s : State) : List CvnOut :=
  fragments s.cvn.rxFunc s.cvn.rxSrc s.cvn.rxDst (if s.cvn.rxFunc = 4 then Bytes.num s.rxObject 8 4 else 0) s.rxObject

theorem forward_full (s : State) (imgs : List ImageSeen) (hfull : s.cvn.rxFull = true) (hheld : s.noneHeld = true) :
    s.forward imgs = ((s.noticed imgs).sendObject s.forwardTo s.forwarded).rxEmptied := by
  have hfwd : s.forward imgs = ((s.noticed imgs).sendObject s.forwardTo s.forwarded).rxClear := by
    unfold State.forward
    rw [hfull, Bool.not_true, if_neg (by decide)]
    rfl
  rw [hfwd]
  refine rxClear_none _ fun p hp => ?_
  rw [held_of_sent (sent_sendObject _ _ _), link_of_ports (noticed_spec s imgs).1]
  exact noneHeld_parts s hheld p hp

/-- FORWARD of an object in the full buffer (R551, R555). -/
theorem forward_spec (s : State) (imgs : List ImageSeen) (hfull : s.cvn.rxFull = true) (hheld : s.noneHeld = true) :
    let t := s.forward imgs
    t.cvn.rxFull = false ∧ t.cvn.rxBuf = [] ∧ (s.cvn.rxFunc = 4 → t.reg (aCvn 3 0x6C) = wd (Bytes.num s.rxObject 8 4)) ∧
    (s.cvn.rxFunc ≠ 4 → t = { s with cvn := t.cvn, outbox := t.outbox, regs := t.regs, freeCtr := t.freeCtr }) ∧
    (s.cvn.rxFunc = 6 → s.cvn.rxDst ≠ bcast → t = { s with cvn := { s.cvn with rxFull := false, rxBuf := [], rxFrag := 0 } }) := by
  dsimp only
  have hunnoticed : s.cvn.rxFunc ≠ 4 → s.noticed imgs = s := fun h => if_neg h
  have hreg := (noticed_spec s imgs).2
  have hsent := sent_sendObject (s.noticed imgs) s.forwardTo s.forwarded
  have hhere : s.cvn.rxDst ≠ bcast → (s.noticed imgs).sendObject s.forwardTo s.forwarded = s.noticed imgs := fun h => by
    rw [State.forwardTo, if_pos h]
    exact sendObject_nowhere _ _ fun e he => (held_fragments _ _ _ _ _ e he).1
  rw [forward_full s imgs hfull hheld]
  generalize (s.noticed imgs).sendObject s.forwardTo s.forwarded = u at hsent hhere ⊢
  refine ⟨rfl, rfl, fun h4 => (hsent.regs _ (by decide)).trans (hreg h4), fun h4 => ?_, fun h6 hdst => ?_⟩
  · rw [hunnoticed h4] at hsent
    have hframe := hsent.frame
    rw [hframe]
    rfl
  · rw [hhere hdst, hunnoticed (by omega)]
    rfl

/-! ### SEND_NOTICE and SEND_RECOVER -/

/-- SEND_NOTICE of an object that passes (R551). -/
theorem sendNotice_spec (s : State) (n : Nat) (o : Bytes) (ho : o.length = 7488) :
    let t := (s.setReg (aCvn 3 0x6C) (wd n)).sendObject s.bcastTo (fragments 4 s.cvn.addr bcast n o)
    t.reg (aCvn 3 0x6C) = wd n ∧ t = { s with regs := t.regs, cvn := t.cvn, outbox := t.outbox, freeCtr := t.freeCtr } ∧
    (s.cvnRoot = false → s.linkIdle 0 7 = true → t.outbox.length = s.outbox.length + 4 ∧ (t.link 0).waiting = [] ∧
      (t.link 0).tx = (s.link 0).tx - 4) := by
  have hset : s.setReg (aCvn 3 0x6C) (wd n) = { s with regs := (s.setReg (aCvn 3 0x6C) (wd n)).regs } := by apply State.ext <;> simp
  have hself : (s.setReg (aCvn 3 0x6C) (wd n)).reg (aCvn 3 0x6C) = wd n := by rw [State.reg_setReg, if_pos rfl]
  have hfour : (fragments 4 s.cvn.addr bcast n o).length = 4 := by rw [fragments_length, ho]
  have hall := held_fragments 4 s.cvn.addr bcast n o
  generalize s.setReg (aCvn 3 0x6C) (wd n) = u at hset hself ⊢
  generalize fragments 4 s.cvn.addr bcast n o = es at hfour hall ⊢
  have hsent := sent_sendObject u s.bcastTo es
  have hlink : ∀ p, u.link p = s.link p := link_of_ports (by rw [hset])
  have hbox : u.outbox = s.outbox := by rw [hset]
  refine ⟨(hsent.regs _ (by decide)).trans hself, ?_, fun hroot hidle => ?_⟩
  · have hframe := hsent.frame
    generalize u.sendObject s.bcastTo es = t at hframe ⊢
    rw [hframe, hset]
  · obtain ⟨hup, hwait, htx⟩ := linkIdle_parts s 0 7 hidle
    have hto : s.bcastTo = [0] := by rw [State.bcastTo, hroot]; rfl
    rw [hto]
    obtain ⟨h1, h2, h3⟩ := sendObject_notice 0 es u hall (by rw [State.cvnUp, hlink]; exact hup) (by rw [hlink]; exact hwait)
      (by rw [hfour, hlink]; exact htx)
    rw [h1, h2, h3, hfour, hlink, hbox]
    exact ⟨rfl, rfl, rfl⟩

/-- A recovery object to this node itself (R540, R555). -/
theorem rxOwn_spec (s : State) (dst : Nat) (o : Bytes) :
    let t := s.rxOwn dst o
    t.cvn = { s.cvn with rxBuf := o, rxFunc := 6, rxSrc := s.cvn.addr, rxDst := dst, rxPort := 3, rxFull := true, rxFrag := 0 } ∧
    t.evt (evCvn 7) = (s.evt (evCvn 7)).bump ∧ t = { s.routed t with cvn := t.cvn, ram := t.ram, flr := t.flr } ∧
    (bufInRam s.rxBase = true → t.bytes s.rxBase o.length = o) ∧ (bufInRam s.rxBase = false → t.ram = s.ram) := by
  obtain ⟨hframe, hin, hout, hevt⟩ := rxWritten_spec s s.rxBase o
  have hkeep := hevt (evCvn 7) (by decide)
  have heq : s.rxOwn dst o = ((s.rxWritten s.rxBase o).modCvn (fun c => { c with
    rxBuf := o, rxFunc := 6, rxSrc := c.addr, rxDst := dst, rxPort := 3, rxFull := true, rxFrag := 0 })).count (evCvn 7) := rfl
  rw [heq]
  generalize s.rxWritten s.rxBase o = u at hframe hin hout hkeep ⊢
  have hcvn : u.cvn = s.cvn := by rw [hframe]; rfl
  dsimp only
  refine ⟨by simp [State.modCvn, hcvn], ?_, ?_, fun h => ?_, fun h => ?_⟩
  · rw [State.evt_count, if_pos rfl, ← hkeep]
    rfl
  · have hcount := State.count_routed (u.modCvn (fun c => { c with
      rxBuf := o, rxFunc := 6, rxSrc := c.addr, rxDst := dst, rxPort := 3, rxFull := true, rxFrag := 0 })) (evCvn 7)
    generalize State.count _ (evCvn 7) = t at hcount ⊢
    rw [hcount, State.modCvn, hframe]
    rfl
  · exact Eq.trans (by simp [State.bytes, State.byte, State.modCvn]) (hin h)
  · exact Eq.trans (by simp [State.modCvn]) (hout h)

theorem routeTo_inward (s : State) (dst : Nat) (h : dst < s.cvn.addr) : s.routeTo dst = some 0 := by
  rw [State.routeTo, if_neg (by omega), if_pos h]

/-- A recovery object of one fragment to a node towards the root (R540, R555). -/
theorem sendRecover1_inward (s : State) (dst : Nat) (o : Bytes) (hb : dst ≠ bcast) (hlt : dst < s.cvn.addr) (hidle : s.linkIdle 0 4 = true)
    (hver : 2 ≤ (s.link 0).ver) (hpos : 0 < o.length) (hle : o.length ≤ 1984) :
    (s.sendRecover1 dst o).outbox = s.outbox ++ [.cvn 0 (s.nextFrame 0 (cvnOut 6 s.cvn.addr dst o))] ∧
    s.sendRecover1 dst o = { s with cvn := (s.sendRecover1 dst o).cvn, outbox := (s.sendRecover1 dst o).outbox } := by
  obtain ⟨hup, hwait, htx⟩ := linkIdle_parts s 0 4 hidle
  have hgive : s.sendRecover1 dst o = s.give 0 (cvnOut 6 s.cvn.addr dst o) := by
    unfold State.sendRecover1
    dsimp only
    rw [if_neg hb, routeTo_inward s dst hlt, fragments_one 6 _ dst o hpos hle]
    exact if_pos hup
  obtain ⟨hbox, hrest⟩ := give_idle s 0 (cvnOut 6 s.cvn.addr dst o) hup hwait (by simpa [mayXmit, bulky, cvnOut] using htx)
    (fun h => absurd h.2 (by omega)) (by simp [cvnOut])
  obtain ⟨-, -, hframe⟩ := hrest rfl
  rw [hgive]
  refine ⟨hbox, ?_⟩
  generalize s.give 0 (cvnOut 6 s.cvn.addr dst o) = t at hframe ⊢
  exact hframe.trans (by rw [hframe])

/-- A recovery object to this node while its receive buffer is free (R555). -/
theorem sendRecover1_own (s : State) (dst : Nat) (o : Bytes) (hb : dst ≠ bcast) (haddr : dst = s.cvn.addr) (hempty : s.cvn.rxFull = false) :
    s.sendRecover1 dst o = s.rxOwn dst o := by
  unfold State.sendRecover1
  dsimp only
  rw [if_neg hb, State.routeTo, if_pos haddr]
  exact if_neg (by rw [hempty]; decide)

/-! ### Recovery requests -/

theorem prst_of_holdFrame {s t : State} (h : s.holdFrame t) : t.prst.recoverHold = s.prst.recoverHold ∧ t.prst.holdReq = s.prst.holdReq := by
  unfold State.holdFrame at h
  rw [h]
  exact ⟨rfl, rfl⟩

theorem prst_holdLines (s : State) (l : List Nat) :
    (s.holdLines l).prst.recoverHold = s.prst.recoverHold ∧ (s.holdLines l).prst.holdReq = s.prst.holdReq ||| lineBits l :=
  prst_of_holdFrame (holdFrame_holdCheck (holdFrame_refl (s.modPrst (fun p => { p with holdReq := p.holdReq ||| lineBits l }))))

theorem prst_setSubst (s : State) (p cls : Nat) (l : List Nat) (on : Bool) : (s.setSubst p cls l on).prst = s.prst := by
  have heq : s.setSubst p cls l on =
      ((s.modPort p (fun q => { q with subst := l.foldl (fun m i => SMap.set (fun _ => false) m i on) q.subst })).measHw (16 + p)
        (if on then 0x12 else 0x13) (portMaster p) cls (regionMap l)).wakeScrub p := rfl
  have hmeas := measHw_meas (s.modPort p (fun q => { q with subst := l.foldl (fun m i => SMap.set (fun _ => false) m i on) q.subst })) (16 + p)
    (if on then 0x12 else 0x13) (portMaster p) cls (regionMap l)
  rw [heq]
  generalize State.measHw _ (16 + p) (if on then 0x12 else 0x13) (portMaster p) cls (regionMap l) = u at hmeas ⊢
  have hwake := portsFrame_wakeScrub (portsFrame_refl u) p
  generalize u.wakeScrub p = t at hwake ⊢
  unfold State.portsFrame at hwake
  rw [hwake, hmeas]
  rfl

/-- SUBST_CTRL.SET for a class holds its lines (R617, R620). -/
theorem prst_recoverSubst (s : State) (k : Nat) : (s.recoverSubst k).prst.recoverHold = s.prst.recoverHold ∧
    (s.recoverSubst k).prst.holdReq = s.prst.holdReq ||| lineBits (s.classLines k) := by
  have hheld := prst_holdLines s (s.classLines k)
  have hrecov : ∀ (l : List Nat) (u : State), (l.foldl State.recovLine u).prst.recoverHold = u.prst.recoverHold ∧
      (l.foldl State.recovLine u).prst.holdReq = u.prst.holdReq := fun l u =>
    List.foldlRecOn (motive := fun t : State => t.prst.recoverHold = u.prst.recoverHold ∧ t.prst.holdReq = u.prst.holdReq) l _ ⟨rfl, rfl⟩
      fun t ht i _ => ht
  have hsubst : ∀ (l : List Nat) (u : State), (l.foldl (fun s p => s.setSubst p k ((s.port p).substSet k false) true) u).prst = u.prst :=
    fun l u => List.foldlRecOn (motive := fun t : State => t.prst = u.prst) l _ rfl fun t ht p _ => (prst_setSubst t p k _ true).trans ht
  unfold State.recoverSubst
  rw [hsubst, (hrecov _ _).1, (hrecov _ _).2]
  exact hheld

theorem fuseBytes_length (s : State) (i n : Nat) : (s.fuseBytes i n).length = n := by simp [State.fuseBytes]

/-- The record of a node fits into one fragment (R543). -/
theorem nodeRec_length (s : State) (epoch : Nat) : (s.nodeRec epoch).length ≤ 64 := by
  have htake : ∀ l : Bytes, (l.take 32).length ≤ 32 := fun l => List.length_take_le 32 l
  unfold State.nodeRec
  dsimp only
  simp only [List.length_append, leBytes_length, State.unitId, fuseBytes_length, State.lc]
  have h32 := htake (sha384 ((List.range 64).flatMap (fun i => Bytes.fit (s.mslot i).value 48)))
  have hz : (zeros 2).length = 2 := rfl
  rw [hz]
  omega

/-! ### The obligation -/

/-- Settles O50. An accepted frame is taken by `cvnIn_ok` and routed by `nrTaken_spec`; FORWARD and DROP end in `rxClear_none`, since no port
holds a frame back; a notice leaves in four fragments (`fragments_length`, `sendObject_notice`); a recovery object that goes inward is one
frame (`sendRecover1_inward`); the lines of a class follow `prst_holdLines`. -/
theorem noticesAndRecoveriesPassTheReceiveBuffer : Obligations.NoticesAndRecoveriesPassTheReceiveBuffer := by
  unfold Obligations.NoticesAndRecoveriesPassTheReceiveBuffer
  refine ⟨fun s p f c want ev hc => ?rx, fun s m imgs h => ⟨fun hempty => ?noObject, fun hfull hheld => ⟨?drop, ?forward⟩⟩,
    fun s m o n h ho hn => ⟨fun hbad => ?noticeBad, fun hon hram hlen hseq => ?noticeOk⟩,
    fun s m len dst h hlen hdst => ⟨fun hbad => ?recoverBad, fun hon hram h8 hmax => ?recoverOk⟩, fun s k => ?requests⟩
  case rx =>
    have hexec : exec c s = .next
        (if s.cvnUp p.val then s.cvnIn p.val want f.bytes (s.nrOk p.val f.bytes) (fun s => s.nrRx p.val f.bytes) else s) := by
      rcases hc with ⟨rfl, rfl, rfl⟩ | ⟨rfl, rfl, rfl⟩ <;> rfl
    have hkind : (want = 4 ∧ ev = 6) ∨ (want = 6 ∧ ev = 7) := by
      rcases hc with ⟨-, rfl, rfl⟩ | ⟨-, rfl, rfl⟩
      · exact Or.inl ⟨rfl, rfl⟩
      · exact Or.inr ⟨rfl, rfl⟩
    refine ⟨fun hdown => hexec.trans (congrArg Host.Outcome.next (rx_down s p.val want f.bytes _ _ hdown)), fun hok => ?_⟩
    exact ⟨_, hexec.trans (congrArg Host.Outcome.next (rx_ok s p.val want f.bytes _ _ hok)),
      nrTaken_spec s p.val want ev f.bytes hkind (frameOk_parts s p.val want f.bytes _ hok).2⟩
  case noObject =>
    refine ⟨(guarded_next s m (aCvn 0 0x48) (fun s => s.forward imgs) h).trans (congrArg Host.Outcome.next ?_),
      (guarded_next s m (aCvn 0 0x48) (fun s => s.rxDrop) h).trans (congrArg Host.Outcome.next (if_neg (by rw [hempty]; decide)))⟩
    exact if_pos (by rw [hempty]; rfl)
  case drop =>
    exact (guarded_next s m (aCvn 0 0x48) (fun s => s.rxDrop) h).trans
      (congrArg Host.Outcome.next ((if_pos hfull).trans (rxClear_none s (noneHeld_parts s hheld))))
  case forward => exact ⟨_, guarded_next s m (aCvn 0 0x48) (fun s => s.forward imgs) h, forward_spec s imgs hfull hheld⟩
  case noticeBad =>
    refine (guarded_next s m (aCvn 0 0x48) (fun s => s.sendNotice m) h).trans (congrArg Host.Outcome.next (if_neg ?_))
    rw [← ho, ← hn]
    simp only [Bool.and_eq_true, beq_iff_eq, decide_eq_true_eq]
    rintro ⟨⟨⟨hon, hram⟩, hlen⟩, hseq⟩
    rcases hbad with hoff | hout | hlen' | hseq'
    · exact absurd (hon.symm.trans hoff) (by decide)
    · exact absurd (hram.symm.trans hout) (by decide)
    · exact hlen' hlen
    · omega
  case noticeOk =>
    refine ⟨_, (guarded_next s m (aCvn 0 0x48) (fun s => s.sendNotice m) h).trans (congrArg Host.Outcome.next (if_pos ?_)), ?_⟩
    · rw [← ho, ← hn, hon, hram, hlen]
      simpa using hseq
    · rw [← ho, ← hn]
      exact sendNotice_spec s n o (by rw [ho, bytes_length])
  case recoverBad =>
    refine (guarded_next s m (aCvn 0 0x48) (fun s => s.sendRecover m) h).trans (congrArg Host.Outcome.next (if_neg ?_))
    rw [← hlen]
    simp only [Bool.and_eq_true, decide_eq_true_eq]
    rintro ⟨⟨hon, hram⟩, h8, hmax⟩
    rcases hbad with hoff | hout | hlow | hhigh
    · exact absurd (hon.symm.trans hoff) (by decide)
    · exact absurd (hram.symm.trans hout) (by decide)
    · omega
    · omega
  case recoverOk =>
    refine ⟨s.sendRecover1 dst (s.bytes s.txBase len),
      (guarded_next s m (aCvn 0 0x48) (fun s => s.sendRecover m) h).trans (congrArg Host.Outcome.next ?_), fun hb haddr hempty => ?_,
      fun hb hlt hidle hver hle => ?_⟩
    · rw [hlen, hdst]
      rw [hlen] at h8 hmax
      exact if_pos (by rw [hon, hram]; simp [h8, hmax])
    · rw [sendRecover1_own s dst _ hb haddr hempty]
      obtain ⟨h1, h2, h3, h4, h5⟩ := rxOwn_spec s dst (s.bytes s.txBase len)
      rw [bytes_length] at h4
      exact ⟨h1, h2, h3, h4, h5⟩
    · exact (sendRecover1_inward s dst _ hb hlt hidle hver (by rw [bytes_length]; omega) (by rw [bytes_length]; exact hle)).1
  case requests =>
    refine ⟨fun hno => congrArg Host.Outcome.next (if_neg (by rw [hno]; decide)),
      fun hyes => ⟨_, congrArg Host.Outcome.next (if_pos hyes),
        prst_holdLines (s.modPrst (fun p => { p with recoverHold := p.recoverHold ||| lineBits (s.classLines k.val) })) (s.classLines k.val)⟩,
      fun hno => congrArg Host.Outcome.next (if_neg (by rw [hno]; decide)),
      fun hyes => ⟨_, congrArg Host.Outcome.next (if_pos hyes), (prst_recoverSubst s k.val).symm⟩, fun env hno => ?_,
      fun env hyes hsame => congrArg Host.Outcome.next (if_pos (by rw [hyes, hsame]; simp)),
      fun hno => congrArg Host.Outcome.next (if_neg (by rw [hno]; decide)), fun hyes h0 h1 hidle hver => ?_⟩
    · refine congrArg Host.Outcome.next (if_neg ?_)
      rw [Bool.and_eq_true, beq_iff_eq]
      rintro ⟨hyes, hsame⟩
      exact hno.elim (fun hoff => absurd (hyes.symm.trans hoff) (by decide)) fun hother => hother hsame
    · have hlen := nodeRec_length s s.cvn.epoch.toNat
      obtain ⟨hbox, hframe⟩ := sendRecover1_inward s 1 (leBytes 4 4 ++ zeros 4 ++ s.nodeRec s.cvn.epoch.toNat) (by decide) (by omega) hidle hver
        (by simp) (by simp [zeros]; omega)
      exact ⟨_, congrArg Host.Outcome.next (if_pos hyes), hframe, hbox⟩

end Sys2Proof.Machine
end

section
/-! PROOFS. O44: host commands, the envelope's checks and its order (R471, R474, R477 to R481, R488, R493, R495). -/
namespace Sys2Proof.Machine

/-! ### Bytes of a prefix -/

theorem slice_take (b : Bytes) (n o k : Nat) (h : o + k ≤ n) : Bytes.slice (b.take n) o k = Bytes.slice b o k := by
  unfold Bytes.slice
  rw [List.drop_take, List.take_take, Nat.min_eq_left (by omega)]

theorem num_take (b : Bytes) (n o k : Nat) (h : o + k ≤ n) : Bytes.num (b.take n) o k = Bytes.num b o k := by
  unfold Bytes.num
  rw [slice_take b n o k h]

/-- Checks 9 to 13 read the header, the payload and the tag of an envelope: those bytes alone (R475 to R477). -/
theorem envelope_raw (s : State) (b : Bytes) :
    s.envCheck2 (b.take (64 + eLen b)) = s.envCheck2 b ∧ s.rightOk (b.take (64 + eLen b)) = s.rightOk b ∧
      eSeq (b.take (64 + eLen b)) = eSeq b := by
  have hnum : ∀ o k, o + k ≤ 64 → Bytes.num (b.take (64 + eLen b)) o k = Bytes.num b o k := fun o k h => num_take b _ o k (by omega)
  have hissuer : eIssuer (b.take (64 + eLen b)) = eIssuer b := hnum 6 2 (by decide)
  have hseq : eSeq (b.take (64 + eLen b)) = eSeq b := hnum 8 4 (by decide)
  have hepoch : eEpoch (b.take (64 + eLen b)) = eEpoch b := hnum 12 4 (by decide)
  have hcmd : eCmd (b.take (64 + eLen b)) = eCmd b := hnum 0x10 2 (by decide)
  have hlen : eLen (b.take (64 + eLen b)) = eLen b := hnum 0x14 4 (by decide)
  have htag : ∀ i, s.tagOk i (b.take (64 + eLen b)) = s.tagOk i b := fun i => by
    unfold State.tagOk
    rw [hlen, slice_take b _ _ _ (by omega), List.take_take, Nat.min_eq_left (by omega)]
  refine ⟨?_, ?_, hseq⟩
  · unfold State.envCheck2
    rw [hissuer, hepoch, hseq, hcmd]
    simp only [htag]
  · unfold State.rightOk
    rw [hissuer, hcmd]

/-! ### Replies -/

theorem completed_hDone (s : State) (src : JobSrc) (opc : Nat) (st : Status) (result detail addr : Nat) (o : Bytes) :
    s.Completed (s.hDone src opc st result detail addr o) := by
  unfold State.hDone
  split_ifs
  · exact completed_out s _
  · exact completed_trans (completed_putOut s _ _ _ _) (completed_complete _ _ _ _ _ _)

theorem completed_envReply (s : State) (j : EnvJob) (st : Status) (result detail : Nat) (o : Bytes) :
    s.Completed (s.envReply j st result detail o) := by
  unfold State.envReply
  split_ifs
  · exact completed_refl s
  · exact completed_hDone s _ _ _ _ _ _ _

theorem cmd_of_completed {s t : State} (h : s.Completed t) : t.cmd = s.cmd := (congrArg State.cmd h.frame).trans rfl

theorem lcf_of_completed {s t : State} (h : s.Completed t) : t.lcf = s.lcf := (congrArg State.lcf h.frame).trans rfl

theorem completed_cmdRecord (s : State) (j : EnvJob) : s.Completed (s.cmdRecord j) := completed_flight s _ _ _

/-- An operation over MCTP answers its request (R474). -/
theorem hDone_mctp (s : State) (src : JobSrc) (opc : Nat) (st : Status) (result detail addr : Nat) (o : Bytes) (h : 69 ≤ src.ring) :
    s.hDone src opc st result detail addr o =
      s.out (.reply src.issuer st (cqEntry src.tag st opc 0 src.slot result detail false ++ o)) := if_pos (by simpa [viaMctp] using h)

/-! ### Commands that need no envelope -/

theorem negotiate_spec (s : State) (src : JobSrc) (d : Desc) (hf : hFieldsOk d false false true = true) (hp : hParam d ≤ 7) :
    (∀ v, pickVersion (hParam d) = some v → s.negotiate src d = (s.setVersion (viaMctp src) v).hDone src 1 stOk v 0 0 []) ∧
    (pickVersion (hParam d) = none → s.negotiate src d = s.hDone src 1 stVersion 0 0 0 []) := by
  unfold State.negotiate
  rw [hf, if_neg (by simp; omega)]
  refine ⟨fun v hv => ?_, fun hnone => ?_⟩
  · rw [hv]
  · rw [hnone]

theorem getEpoch_ok (s : State) (src : JobSrc) (d : Desc) (hf : hFieldsOk d false false false = true) : s.getEpoch src d =
    s.hDone src 2 stOk (s.cmd.epoch + 2 ^ 32 * s.cmd.epochPending.toNat + 2 ^ 33 * s.exhausted.toNat) 0 0 [] := if_neg (by simp [hf])

theorem listIssuers_ok (s : State) (src : JobSrc) (d : Desc) (hf : hFieldsOk d false true false = true) (hlen : 1024 ≤ hOutLen d) :
    s.listIssuers src d = s.freed.hDone src 3 stOk s.cmd.issuers.length 0 (hOutAddr d) (s.issuerList (s.hVersion (viaMctp src))) :=
  (if_neg (by simp [hf])).trans (if_neg (by omega))

/-! ### The order of envelopes -/

theorem markWait_of_none (s : State) (h : s.cmd.waiting = []) : s.markWait = s := by
  unfold State.markWait State.modCmd
  dsimp only
  split_ifs
  · rw [h, List.map_nil, ← h]
  · rfl

theorem envPump_idle (s : State) (n : Nat) (h : s.cmd.waiting = []) : s.envPump (n + 1) = s := by
  unfold State.envPump
  rw [h]
  cases s.cmd.running with
  | none => exact markWait_of_none s h
  | some j => exact markWait_of_none s h

theorem envJoin_eq (s : State) (j : EnvJob) (hwait : s.cmd.waiting = []) :
    s.envJoin j = (s.modCmd (fun c => { c with waiting := [j] })).envPump 2 := by
  unfold State.envJoin State.modCmd
  dsimp only
  rw [hwait]
  rfl

/-- A job that joins an empty order is taken at once, unless it waits at check 8 (R480, R481). -/
theorem envJoin_taken (s : State) (j : EnvJob) (hrun : s.cmd.running = none) (hwait : s.cmd.waiting = [])
    (hgo : (j.cmd ≠ 0 && s.cmd.epochPending) = false) (hkeep : ∀ u : State, u.cmd.waiting = [] →
      (if j.cmd = 0 then u.bootTake j else u.envTake j).cmd.waiting = []) :
    s.envJoin j = if j.cmd = 0 then s.bootTake j else s.envTake j := by
  have hpump : (s.modCmd (fun c => { c with waiting := [j] })).envPump 2 =
      (if j.cmd = 0 then s.bootTake j else s.envTake j).envPump 1 := by
    have hback : (s.modCmd (fun c => { c with waiting := [j] })).modCmd (fun c => { c with waiting := [] }) = s := by
      have : { s.cmd with waiting := [] } = s.cmd := by rw [← hwait]
      unfold State.modCmd
      dsimp only
      rw [this]
    have hr : (s.modCmd (fun c => { c with waiting := [j] })).cmd.running = none := hrun
    have hw : (s.modCmd (fun c => { c with waiting := [j] })).cmd.waiting = [j] := rfl
    have hp : (j.cmd ≠ 0 && (s.modCmd (fun c => { c with waiting := [j] })).cmd.epochPending) = false := hgo
    unfold State.envPump
    rw [hr, hw]
    dsimp only
    rw [hp, hback]
    rfl
  rw [envJoin_eq s j hwait, hpump, envPump_idle _ 0 (hkeep s hwait)]

/-- A job that joins an empty order while the epoch is pending waits for it (R481). -/
theorem envJoin_epoch (s : State) (j : EnvJob) (hrun : s.cmd.running = none) (hwait : s.cmd.waiting = []) (hcmd : j.cmd ≠ 0)
    (hnone : j.wait = .none) (hp : s.cmd.epochPending = true) :
    s.envJoin j = s.modCmd (fun c => { c with waiting := [{ j with wait := .epoch, since := s.posRun }] }) := by
  have hpump : (s.modCmd (fun c => { c with waiting := [j] })).envPump 2 = (s.modCmd (fun c => { c with waiting := [j] })).markWait := by
    have hr : (s.modCmd (fun c => { c with waiting := [j] })).cmd.running = none := hrun
    have hw : (s.modCmd (fun c => { c with waiting := [j] })).cmd.waiting = [j] := rfl
    have hpend : (s.modCmd (fun c => { c with waiting := [j] })).cmd.epochPending = true := hp
    unfold State.envPump
    rw [hr, hw]
    exact if_pos (by simp [hcmd, hpend])
  rw [envJoin_eq s j hwait, hpump]
  unfold State.markWait
  rw [if_pos (by simp [State.epochWait, State.modCmd, hp])]
  have hmap : ([j].map (fun j => if j.wait = .none ∧ j.cmd ≠ 0 then { j with wait := .epoch, since := s.posRun } else j)) =
      [{ j with wait := .epoch, since := s.posRun }] := by
    rw [List.map_singleton, if_pos ⟨hnone, hcmd⟩]
  exact congrArg (fun l => s.modCmd (fun c => { c with waiting := l })) hmap

/-! ### Checks 9 to 13 -/

theorem envTake_bad (s : State) (j : EnvJob) (hex : s.exhausted = false) (hbad : (s.envCheck2 j.raw).1 ≠ stOk) :
    s.envTake j = s.envReply j (s.envCheck2 j.raw).1 0 (s.envCheck2 j.raw).2 [] := by
  have hcheck : (if s.exhausted then (stStateForbids, 0) else s.envCheck2 j.raw) = s.envCheck2 j.raw := if_neg (by rw [hex]; decide)
  unfold State.envTake
  rw [hcheck]
  exact if_pos hbad

/-- An envelope that passes checks 9 to 12 uses its counter up, and runs where its issuer has the right (R477, R478). -/
theorem envTake_ok (s : State) (j : EnvJob) (hex : s.exhausted = false) (hok : (s.envCheck2 j.raw).1 = stOk) :
    let t := s.envTake j
    t.cmd = { s.cmd with
      issuers := s.cmd.issuers.map (fun i => if i.id = j.issuer then { i with lastSeq := eSeq j.raw } else i)
      running := if s.rightOk j.raw then some { j with accepted := true, wait := .none } else s.cmd.running } := by
  have heq : s.envTake j = if s.rightOk j.raw
      then ((s.modIssuers (fun i => if i.id = j.issuer then { i with lastSeq := eSeq j.raw } else i)).cmdRecord j).modCmd
        (fun c => { c with running := some { j with accepted := true, wait := .none } })
      else ((s.modIssuers (fun i => if i.id = j.issuer then { i with lastSeq := eSeq j.raw } else i)).cmdRecord j).envReply j
        stStateForbids j.counter 0 [] := by
    have hcheck : (if s.exhausted then (stStateForbids, 0) else s.envCheck2 j.raw) = s.envCheck2 j.raw := if_neg (by rw [hex]; decide)
    unfold State.envTake
    rw [hcheck]
    exact if_neg (not_not.mpr hok)
  have hrec := cmd_of_completed
    (completed_cmdRecord (s.modIssuers (fun i => if i.id = j.issuer then { i with lastSeq := eSeq j.raw } else i)) j)
  dsimp only
  rw [heq]
  generalize (s.modIssuers (fun i => if i.id = j.issuer then { i with lastSeq := eSeq j.raw } else i)).cmdRecord j = u at hrec ⊢
  split_ifs with hright
  · exact congrArg (fun c : CmdState => { c with running := some { j with accepted := true, wait := .none } }) hrec
  · rw [cmd_of_completed (completed_envReply u j stStateForbids j.counter 0 []), hrec]
    rfl

theorem envTake_waiting (s : State) (j : EnvJob) (h : s.cmd.waiting = []) : (s.envTake j).cmd.waiting = [] := by
  unfold State.envTake
  generalize (if s.exhausted then (stStateForbids, 0) else s.envCheck2 j.raw) = c
  dsimp only
  split_ifs
  · rw [cmd_of_completed (completed_envReply s j c.1 0 c.2 []), h]
  · exact (congrArg CmdState.waiting (cmd_of_completed (completed_cmdRecord (s.modIssuers _) j))).trans h
  · rw [cmd_of_completed (completed_envReply _ j stStateForbids j.counter 0 []), cmd_of_completed (completed_cmdRecord (s.modIssuers _) j)]
    exact h

/-! ### An envelope arrives -/

theorem envCheck1_cmd (s : State) (mctp : Bool) (d : Desc) (io : JobIo) (h : (s.envCheck1 mctp d io).1 = stOk) : eCmd io.data ≠ 0 := by
  unfold State.envCheck1 at h
  dsimp only at h
  intro h0
  have hknown : cmdKnown (eVer io.data) (eCmd io.data) = false := by simp [cmdKnown, h0]
  simp only [hknown, Bool.not_false, if_true] at h
  split_ifs at h <;> exact ne_of_beq_false rfl h

/-- What becomes of an envelope that passes checks 1 to 7 and finds the order empty (R477 to R481). -/
theorem envJoin_spec (s : State) (src : JobSrc) (d : Desc) (b : Bytes) (hcmd : eCmd b ≠ 0) (hex : s.exhausted = false)
    (hrun : s.cmd.running = none) (hwait : s.cmd.waiting = []) :
    let t := s.envJoin (envJob src d b)
    (s.cmd.epochPending = true → t.cmd.issuers = s.cmd.issuers ∧ t.cmd.running = none ∧
      t.cmd.waiting = [{ envJob src d b with wait := .epoch, since := s.posRun }]) ∧
    (s.cmd.epochPending = false → (s.envCheck2 b).1 ≠ stOk → t.cmd.issuers = s.cmd.issuers ∧ t.cmd.running = none ∧ t.cmd.waiting = []) ∧
    (s.cmd.epochPending = false → (s.envCheck2 b).1 = stOk → t.cmd.waiting = [] ∧
      t.cmd.issuers = s.cmd.issuers.map (fun i => if i.id = eIssuer b then { i with lastSeq := eSeq b } else i) ∧
      t.cmd.running = (if s.rightOk b then some { envJob src d b with accepted := true } else none)) := by
  obtain ⟨hcheck, hright, hseq⟩ := envelope_raw s b
  have htaken : s.cmd.epochPending = false → s.envJoin (envJob src d b) = s.envTake (envJob src d b) := fun hp =>
    (envJoin_taken s _ hrun hwait (by rw [hp, Bool.and_false]) fun u hu => by
      rw [if_neg (show (envJob src d b).cmd ≠ 0 from hcmd)]
      exact envTake_waiting u _ hu).trans (if_neg hcmd)
  refine ⟨fun hp => ?_, fun hp hbad => ?_, fun hp hok => ?_⟩
  · rw [envJoin_epoch s (envJob src d b) hrun hwait hcmd rfl hp]
    exact ⟨rfl, hrun, rfl⟩
  · rw [htaken hp, envTake_bad s (envJob src d b) hex (by rw [← hcheck] at hbad; exact hbad), cmd_of_completed (completed_envReply s _ _ 0 _ [])]
    exact ⟨rfl, hrun, hwait⟩
  · have hcmds := envTake_ok s (envJob src d b) hex (by rw [← hcheck] at hok; exact hok)
    rw [htaken hp]
    refine ⟨(congrArg CmdState.waiting hcmds).trans hwait, ?_, ?_⟩
    · rw [← hseq]
      exact congrArg CmdState.issuers hcmds
    · rw [← hright, ← hrun]
      exact congrArg CmdState.running hcmds

/-! ### Bootstrap -/

/-- `t` is `s` as far as the order of envelopes, the issuers and the life cycle go. -/
def State.OrderKept (s t : State) : Prop := t.cmd.waiting = s.cmd.waiting ∧ t.cmd.issuers = s.cmd.issuers ∧ t.lcf = s.lcf

theorem orderKept_trans {r s t : State} (hrs : r.OrderKept s) (hst : s.OrderKept t) : r.OrderKept t := by
  obtain ⟨hw, hi, hl⟩ := hrs
  obtain ⟨hw', hi', hl'⟩ := hst
  exact ⟨hw'.trans hw, hi'.trans hi, hl'.trans hl⟩

theorem orderKept_of_completed {s t : State} (h : s.Completed t) : s.OrderKept t :=
  ⟨congrArg CmdState.waiting (cmd_of_completed h), congrArg CmdState.issuers (cmd_of_completed h), lcf_of_completed h⟩

theorem orderKept_noSlot (s : State) (m : Master) : s.OrderKept (s.noSlot m) := by
  unfold State.noSlot
  dsimp only
  split_ifs <;> simp [State.OrderKept]

theorem orderKept_of_areaWritten {s t : State} (h : s.AreaWritten t) : s.OrderKept t :=
  ⟨(congrArg (fun x : State => x.cmd.waiting) h).trans rfl, issuers_of_areaWritten h, lcf_of_areaWritten h⟩

theorem orderKept_establish (s : State) (j : EnvJob) (id rights : Nat) (pub : Bytes) (fin : State → Status → State)
    (hfin : ∀ (u : State) (st : Status), u.OrderKept (fin u st)) : s.OrderKept (s.establish j id rights pub fin) := by
  by_cases hpub : Config.kexPeerOk 0 pub = true
  case neg =>
    rw [State.establish, if_pos (by simpa using hpub)]
    exact hfin s _
  by_cases hwrap : s.wrapCheck = stOk
  case neg =>
    rw [State.establish, hpub, if_neg (by decide), if_pos hwrap]
    exact hfin s _
  have hopen : s.establish j id rights pub fin = (match s.wrapKey 0 (s.blobEpoch 0), s.allocAt 0, s.cmdSlot with
    | none, _, _ => fin s stStateForbids
    | _, none, _ => fin (s.noSlot 0) stNoSlot
    | _, _, none => fin s stCommitDeferred
    | some _, some _, some _ => s.establish j id rights pub fin) := by
    cases hk : s.wrapKey 0 (s.blobEpoch 0) with
    | none => rw [State.establish, hpub, if_neg (by decide), if_neg (not_not.mpr hwrap), hk]
    | some key =>
      cases hi : s.allocAt 0 with
      | none => rw [State.establish, hpub, if_neg (by decide), if_neg (not_not.mpr hwrap), hk, hi]
      | some i =>
        cases hslot : s.cmdSlot with
        | none => rw [State.establish, hpub, if_neg (by decide), if_neg (not_not.mpr hwrap), hk, hi, hslot]
        | some k => rfl
  cases hk : s.wrapKey 0 (s.blobEpoch 0) with
  | none =>
    rw [hk] at hopen
    rw [hopen]
    exact hfin s _
  | some key =>
    cases hi : s.allocAt 0 with
    | none =>
      rw [hk, hi] at hopen
      rw [hopen]
      exact orderKept_trans (orderKept_noSlot s 0) (hfin _ _)
    | some i =>
      cases hslot : s.cmdSlot with
      | none =>
        rw [hk, hi, hslot] at hopen
        rw [hopen]
        exact hfin s _
      | some k =>
        rw [establish_ok s j id rights pub fin key i k hpub hwrap hk hi hslot]
        obtain ⟨-, hcmd, hlcf⟩ := putKey_keeps s i (cmdKeyCtx (s.newCmdKey id pub) (s.blobEpoch 0))
        unfold State.keyMade
        generalize cmdKeyCtx (s.newCmdKey id pub) (s.blobEpoch 0) = c at hcmd hlcf ⊢
        have hwritten := (recCommit_spec (((s.putCtx i .loaded c).wrapped).drew) k 0
          (issuerRec 1 id rights s.nextSerial (blobOf key s.cel.bootNonce c s.wrapCtr))).1
        have hput : s.OrderKept ((s.putCtx i .loaded c).wrapped).drew := ⟨congrArg CmdState.waiting hcmd, congrArg CmdState.issuers hcmd, hlcf⟩
        generalize ((s.putCtx i .loaded c).wrapped).drew = u at hput hwritten ⊢
        have hkept := orderKept_trans hput (orderKept_of_areaWritten hwritten)
        generalize u.recCommit k 0 _ = v at hkept ⊢
        exact orderKept_trans (s := v) hkept ⟨rfl, rfl, rfl⟩

end Sys2Proof.Machine
end

section
/-! PROOFS. O44: envelopes and the bootstrap (R471 to R481, R488, R493, R495). -/
namespace Sys2Proof.Machine

/-! ### Bootstrap -/

theorem bootTake_bad (s : State) (j : EnvJob) (h : s.bootCheck j.raw ≠ stOk) :
    s.bootTake j = s.envReply j (s.bootCheck j.raw) 0 0 [] := if_pos h

/-- A bootstrap whose checks pass and whose signature does not verify has drawn the nonce (R488). -/
theorem bootTake_unsigned (s : State) (j : EnvJob) (h : s.bootCheck j.raw = stOk)
    (hsig : blockSigOk (j.raw.take 0x660) (Bytes.slice j.raw 0x660 7424) = false) :
    s.bootTake j = s.newNonce.envReply j stAuthFail 0 0 [] := by
  refine (if_neg (not_not.mpr h)).trans ?_
  exact if_pos (by rw [hsig]; rfl)

theorem bootTake_signed (s : State) (j : EnvJob) (h : s.bootCheck j.raw = stOk)
    (hsig : blockSigOk (j.raw.take 0x660) (Bytes.slice j.raw 0x660 7424) = true) :
    s.bootTake j = (s.newNonce.cmdRecord j).establish j 0 0x3FF (Bytes.slice j.raw 0x40 1568) (fun s st => s.envReply j st 0 0 []) := by
  refine (if_neg (not_not.mpr h)).trans ?_
  exact if_neg (by rw [hsig]; decide)

/-- A bootstrap whose checks pass draws a new nonce and leaves the order and the issuers (R488). -/
theorem bootTake_nonce (s : State) (j : EnvJob) (h : s.bootCheck j.raw = stOk) : s.newNonce.OrderKept (s.bootTake j) := by
  cases hsig : blockSigOk (j.raw.take 0x660) (Bytes.slice j.raw 0x660 7424) with
  | false =>
    rw [bootTake_unsigned s j h hsig]
    exact orderKept_of_completed (completed_envReply _ j _ 0 0 [])
  | true =>
    rw [bootTake_signed s j h hsig]
    exact orderKept_trans (orderKept_of_completed (completed_cmdRecord _ j))
      (orderKept_establish _ j 0 0x3FF _ _ fun u st => orderKept_of_completed (completed_envReply u j st 0 0 []))

theorem bootTake_waiting (s : State) (j : EnvJob) (h : s.cmd.waiting = []) : (s.bootTake j).cmd.waiting = [] := by
  by_cases hcheck : s.bootCheck j.raw = stOk
  · obtain ⟨hw, -, -⟩ := bootTake_nonce s j hcheck
    exact hw.trans h
  · rw [bootTake_bad s j hcheck, cmd_of_completed (completed_envReply s j _ 0 0 []), h]

/-- `t` is `s` with a nonce drawn and a record written: what an establishment reads of it is the same. -/
def State.nonced (s t : State) : Prop := t = { s.recorded t with lcf := { s.lcf with nonce := t.lcf.nonce }, drbgCtr := t.drbgCtr }

theorem nonced_cmdRecord (s : State) (j : EnvJob) : s.nonced (s.newNonce.cmdRecord j) := by
  have hrec := State.flight_recorded s.newNonce 0x07 j.src.issuer (leBytes 1 j.src.ring ++ leBytes 1 (if j.cmd = 0 then 5 else 4) ++ zeros 2 ++
    leBytes 4 j.src.tag.toNat ++ leBytes 2 j.issuer ++ zeros 6 ++ leBytes 8 j.counter ++ (sha256 j.raw).take 16)
  have heq : s.newNonce.cmdRecord j = s.newNonce.flight 0x07 j.src.issuer (leBytes 1 j.src.ring ++ leBytes 1 (if j.cmd = 0 then 5 else 4) ++
    zeros 2 ++ leBytes 4 j.src.tag.toNat ++ leBytes 2 j.issuer ++ zeros 6 ++ leBytes 8 j.counter ++ (sha256 j.raw).take 16) := rfl
  rw [heq]
  generalize State.flight _ _ _ _ = t at hrec ⊢
  unfold State.nonced
  rw [hrec]
  rfl

/-- The runtime has no quota (R388). -/
theorem allocAt_runtime (s : State) : s.allocAt 0 = s.findFree s.cel.ptr (min 65536 (s.cel.slots.length + 1)) := rfl

theorem findFree_congr {s u : State} (h : ∀ i, u.slot i = s.slot i) (n : Nat) : ∀ i, u.findFree i n = s.findFree i n := by
  induction n with
  | zero => exact fun i => rfl
  | succ n ih =>
    intro i
    rw [State.findFree, State.findFree, h, ih]

theorem establish_reads_nonced {s u : State} (h : s.nonced u) :
    u.wrapCheck = s.wrapCheck ∧ u.wrapKey 0 (u.blobEpoch 0) = s.wrapKey 0 (s.blobEpoch 0) ∧
    u.allocAt 0 = s.allocAt 0 ∧ u.cmdSlot = s.cmdSlot ∧ u.nextSerial = s.nextSerial ∧ (∀ i, u.slot i = s.slot i) ∧
    u.cmd.issuers = s.cmd.issuers := by
  have hcel : u.cel = s.cel := (congrArg State.cel h).trans rfl
  have hcmd : u.cmd = s.cmd := (congrArg State.cmd h).trans rfl
  have hcis : u.cis = s.cis := (congrArg State.cis h).trans rfl
  have hadm : ∀ k, u.adm k = s.adm k := fun k => by rw [State.adm, hcis, State.adm]
  have hslot : ∀ i, u.slot i = s.slot i := fun i => slot_congr i (congrArg CelState.slots hcel)
  refine ⟨?_, ?_, ?_, ?_, ?_, hslot, congrArg CmdState.issuers hcmd⟩
  · rw [State.wrapCheck, hcmd, hcel, State.wrapCheck]
  · have hframe : u = { s.recorded u with lcf := { s.lcf with nonce := u.lcf.nonce }, drbgCtr := u.drbgCtr } := h
    generalize u.drbgCtr = n at hframe
    generalize u.lcf.nonce = b at hframe
    rw [hframe]
    rfl
  · rw [allocAt_runtime, allocAt_runtime, hcel, findFree_congr hslot]
  · unfold State.cmdSlot
    simp only [hadm]
  · rw [State.nextSerial, hcmd, State.nextSerial]

/-- What a bootstrap that goes through leaves: the key of issuer 0 and its record on the way (R488, R489). -/
theorem bootTake_ok (s : State) (j : EnvJob) (k : Bytes) (i n : Nat) (h : s.bootCheck j.raw = stOk)
    (hsig : blockSigOk (j.raw.take 0x660) (Bytes.slice j.raw 0x660 7424) = true)
    (hpub : Config.kexPeerOk 0 (Bytes.slice j.raw 0x40 1568) = true) (hwrap : s.wrapCheck = stOk)
    (hkey : s.wrapKey 0 (s.blobEpoch 0) = some k) (hi : s.allocAt 0 = some i) (hn : s.cmdSlot = some n) :
    let t := s.bootTake j
    (t.slot i).st = .loaded ∧ (t.slot i).ctx.type = 9 ∧ (t.slot i).ctx.owner = 0 ∧ (t.adm (17 + n)).st = .waiting ∧
    ∃ j' iss ct, t.cmd.running = some j' ∧ j'.accepted = true ∧ j'.slot = n ∧ j'.wait = .register iss ct ∧ iss.id = 0 ∧
      iss.rights = 0x3FF ∧ iss.handle = handleOf i (s.slot i).gen ∧ iss.serial = s.nextSerial := by
  have hnonced := nonced_cmdRecord s j
  rw [bootTake_signed s j h hsig]
  generalize s.newNonce.cmdRecord j = u at hnonced ⊢
  obtain ⟨hw, hk, ha, hc, hser, hslot, -⟩ := establish_reads_nonced hnonced
  obtain ⟨hadm, hself, -, -, hrun⟩ := establish_spec u j 0 0x3FF (Bytes.slice j.raw 0x40 1568) (fun s st => s.envReply j st 0 0 []) k i n hpub
    (hw.trans hwrap) (hk.trans hkey) (ha.trans hi) (hc.trans hn)
  dsimp only
  generalize u.establish j 0 0x3FF (Bytes.slice j.raw 0x40 1568) (fun s st => s.envReply j st 0 0 []) = t at hadm hself hrun ⊢
  refine ⟨by rw [hself], by rw [hself]; rfl, by rw [hself]; rfl, hadm, _, _, _, hrun, rfl, rfl, rfl, rfl, rfl, ?_, hser⟩
  exact congrArg (fun x : Slot => handleOf i x.gen) (hslot i)

/-! ### What the requests of a master leave out -/

/-- What the host commands read is left by taking a descriptor. -/
theorem take_reads (s : State) (src : JobSrc) (d : Desc) (io : JobIo) (mctp : Bool) (b : Bytes) :
    let u := s.take src
    u.cmd = s.cmd ∧ u.tamp = s.tamp ∧ u.lcf = s.lcf ∧ u.drbgCtr = s.drbgCtr ∧ u.posRun = s.posRun ∧
    u.envCheck1 mctp d io = s.envCheck1 mctp d io ∧ u.envCheck2 b = s.envCheck2 b ∧ u.bootCheck b = s.bootCheck b := by
  obtain ⟨q, hq⟩ := take_eq_with s src
  rw [hq]
  exact ⟨rfl, rfl, rfl, rfl, rfl, rfl, rfl, rfl⟩

theorem take_keys (s : State) (src : JobSrc) :
    let u := s.take src
    u.wrapCheck = s.wrapCheck ∧ u.wrapKey 0 (u.blobEpoch 0) = s.wrapKey 0 (s.blobEpoch 0) ∧ u.allocAt 0 = s.allocAt 0 ∧
    u.cmdSlot = s.cmdSlot ∧ u.nextSerial = s.nextSerial ∧ ∀ i, u.slot i = s.slot i := by
  obtain ⟨q, hq⟩ := take_eq_with s src
  rw [hq]
  exact ⟨rfl, rfl, allocAt_withHq s q 0, rfl, rfl, fun _ => rfl⟩

theorem envelope_tampered (s : State) (src : JobSrc) (d : Desc) (io : JobIo) (h : s.tamp.responded = true) :
    s.envelope src d io = s.hDone src 4 stTampered 0 0 0 [] := if_pos h

/-- An envelope that is well formed and finds the epoch in use (R477). -/
theorem envelope_checked (s : State) (src : JobSrc) (d : Desc) (io : JobIo) (htamp : s.tamp.responded = false)
    (hf : hFieldsOk d true true false = true) (hex : s.exhausted = false) :
    s.envelope src d io = if (s.envCheck1 (viaMctp src) d io).1 ≠ stOk
      then s.hDone src 4 (s.envCheck1 (viaMctp src) d io).1 0 (s.envCheck1 (viaMctp src) d io).2 0 [] else s.envJoin (envJob src d io.data) := by
  unfold State.envelope
  rw [htamp, hf, hex]
  rfl

/-- The job of a bootstrap (R488). -/
def bootJob (src : JobSrc) (d : Desc) (b : Bytes) : EnvJob :=
  { src, mctp := viaMctp src, cmd := 0, issuer := 0, counter := 0, payload := [], raw := b.take 9056, outAddr := hOutAddr d
    outLen := hOutLen d, accepted := false, wait := .none, since := 0, slot := 0, quiet := false }

theorem bootstrap_eq (s : State) (src : JobSrc) (d : Desc) (io : JobIo) (htamp : s.tamp.responded = false)
    (hf : hFieldsOk d true true false = true) : s.bootstrap src d io =
      if hInLen d ≠ 9056 ∨ hOutLen d < 1568 then s.hDone src 5 stBadLength 0 0 0 []
      else if io.data.length < 9056 then s.hDone src 5 stLengthShort 0 io.data.length 0 [] else s.envJoin (bootJob src d io.data) := by
  unfold State.bootstrap
  rw [htamp, hf]
  rfl

theorem bootstrap_taken (s : State) (src : JobSrc) (d : Desc) (io : JobIo) (htamp : s.tamp.responded = false)
    (hf : hFieldsOk d true true false = true) (hin : hInLen d = 9056) (hout : 1568 ≤ hOutLen d) (hlen : 9056 ≤ io.data.length)
    (hrun : s.cmd.running = none) (hwait : s.cmd.waiting = []) : s.bootstrap src d io = s.bootTake (bootJob src d io.data) := by
  rw [bootstrap_eq s src d io htamp hf, if_neg (by omega), if_neg (by omega), envJoin_taken s _ hrun hwait rfl fun u hu => ?_]
  · rfl
  · exact bootTake_waiting u _ hu

/-! ### Requests over MCTP -/

/-- The source of an MCTP request (R471, R474). -/
def mctpSrc (tag : Nat) (d : Desc) : JobSrc := { issuer := 0x20, ring := 255, slot := tag, tag := dw (descOf d) 1, cqFail := false }

theorem mctp_bad (s : State) (tag : Nat) (d : Desc) (inp : Bytes)
    (h : dw (descOf d) 4 ≠ 0 ∨ dw (descOf d) 5 ≠ 0 ∨ dw (descOf d) 8 ≠ 0 ∨ dw (descOf d) 9 ≠ 0) :
    s.mctp tag d inp = s.hDone (mctpSrc tag d) (dopc (descOf d)) stBadOpcode 0 0 0 [] := if_pos h

/-- An MCTP request goes by its operation code (R474). -/
theorem mctp_runs (s : State) (tag : Nat) (d : Desc) (inp : Bytes) (h4 : dw (descOf d) 4 = 0) (h5 : dw (descOf d) 5 = 0)
    (h8 : dw (descOf d) 8 = 0) (h9 : dw (descOf d) 9 = 0) : s.mctp tag d inp = (match dopc (descOf d) with
      | 1 => s.negotiate (mctpSrc tag d) (descOf d)
      | 2 => s.getEpoch (mctpSrc tag d) (descOf d)
      | 3 => s.listIssuers (mctpSrc tag d) (descOf d)
      | 4 => s.envelope (mctpSrc tag d) (descOf d)
        { data := inp.take (hInLen (descOf d)), list := [], fault := false, aux := [], auxFault := false, writeFault := false }
      | 5 => s.bootstrap (mctpSrc tag d) (descOf d)
        { data := inp.take (hInLen (descOf d)), list := [], fault := false, aux := [], auxFault := false, writeFault := false }
      | n => s.hDone (mctpSrc tag d) n stBadOpcode 0 0 0 []) := by
  refine (if_neg ?_).trans ?_
  · simp [h4, h5, h8, h9]
  · rfl

theorem mctp_unknown (s : State) (tag : Nat) (d : Desc) (inp : Bytes) (h : 5 < dopc (descOf d) ∨ dopc (descOf d) = 0) :
    s.mctp tag d inp = s.hDone (mctpSrc tag d) (dopc (descOf d)) stBadOpcode 0 0 0 [] := by
  by_cases hbad : dw (descOf d) 4 ≠ 0 ∨ dw (descOf d) 5 ≠ 0 ∨ dw (descOf d) 8 ≠ 0 ∨ dw (descOf d) 9 ≠ 0
  · exact mctp_bad s tag d inp hbad
  · simp only [not_or, not_not] at hbad
    obtain ⟨h4, h5, h8, h9⟩ := hbad
    rw [mctp_runs s tag d inp h4 h5 h8 h9]
    generalize dopc (descOf d) = n at h ⊢
    match n, h with
    | 0, _ => rfl
    | n + 6, _ => rfl

end Sys2Proof.Machine
end

section
/-! PROOFS. O44: the obligation. -/
namespace Sys2Proof.Machine

/-- An MCTP request is served once the runtime is released (R474). -/
theorem exec_mctp (s : State) (tag : Fin 8) (d : Desc) (inp : Bytes) (h : s.boot.rtReleased = true) :
    exec (.mctpRequest tag d inp) s = .next (s.mctp tag.val d inp) := congrArg Host.Outcome.next (if_pos h)

/-- The requests of MCTP, each by its operation code (R474, R477, R488, R493, R495). -/
theorem mctpRequest_spec (s : State) (d : Desc) (tag : Fin 8) (inp : Bytes) (hrt : s.boot.rtReleased = true) (x : JobSrc) (r : Desc)
    (hx : x = mctpSrc tag.val d) (hr : r = descOf d) :
    ((5 < dopc r ∨ dopc r = 0 ∨ dw r 4 ≠ 0 ∨ dw r 5 ≠ 0 ∨ dw r 8 ≠ 0 ∨ dw r 9 ≠ 0) → ∃ e, exec (.mctpRequest tag d inp) s =
      .next (s.out (.reply 0x20 stBadOpcode e))) ∧
    (dw r 4 = 0 → dw r 5 = 0 → dw r 8 = 0 → dw r 9 = 0 →
      (dopc r = 1 → hFieldsOk r false false true = true → ∀ v, hParam r ≤ 7 → pickVersion (hParam r) = some v →
        exec (.mctpRequest tag d inp) s = .next ((s.setVersion true v).hDone x 1 stOk v 0 0 [])) ∧
      (dopc r = 2 → hFieldsOk r false false false = true → exec (.mctpRequest tag d inp) s = .next (s.hDone x 2 stOk
        (s.cmd.epoch + 2 ^ 32 * s.cmd.epochPending.toNat + 2 ^ 33 * s.exhausted.toNat) 0 0 [])) ∧
      (dopc r = 3 → hFieldsOk r false true false = true → 1024 ≤ hOutLen r → ∃ e, exec (.mctpRequest tag d inp) s =
        .next (s.freed.out (.reply 0x20 stOk e))) ∧
      (dopc r = 4 → s.tamp.responded = false → hFieldsOk r true true false = true → s.exhausted = false → s.cmd.epochPending = false →
        s.cmd.running = none → s.cmd.waiting = [] → ∀ b, b = inp.take (hInLen r) →
        (s.envCheck1 true r { data := b, list := [], fault := false, aux := [], auxFault := false, writeFault := false }).1 = stOk →
        (s.envCheck2 b).1 = stOk → s.rightOk b = true → ∃ t, exec (.mctpRequest tag d inp) s = .next t ∧
          t.cmd.running = some { envJob x r b with accepted := true } ∧
          t.cmd.issuers = s.cmd.issuers.map (fun i => if i.id = eIssuer b then { i with lastSeq := eSeq b } else i)) ∧
      (dopc r = 5 → (s.tamp.responded = true → exec (.mctpRequest tag d inp) s = .next (s.hDone x 5 stTampered 0 0 0 [])) ∧
        (s.tamp.responded = false → hFieldsOk r true true false = true → (hInLen r ≠ 9056 ∨ hOutLen r < 1568) →
          exec (.mctpRequest tag d inp) s = .next (s.hDone x 5 stBadLength 0 0 0 [])))) := by
  subst hx hr
  have hexec := exec_mctp s tag d inp hrt
  have hreply : ∀ (u : State) (opc : Nat) (st : Status) (result detail addr : Nat) (o : Bytes),
      ∃ e, u.hDone (mctpSrc tag.val d) opc st result detail addr o = u.out (.reply 0x20 st e) :=
    fun u opc st result detail addr o => ⟨_, hDone_mctp u _ opc st result detail addr o (show 69 ≤ 255 by decide)⟩
  refine ⟨fun hbad => ?_, fun h4 h5 h8 h9 => ?_⟩
  · have hrefused : s.mctp tag.val d inp = s.hDone (mctpSrc tag.val d) (dopc (descOf d)) stBadOpcode 0 0 0 [] := by
      rcases hbad with hhigh | hzero | hfield
      · exact mctp_unknown s _ d inp (Or.inl hhigh)
      · exact mctp_unknown s _ d inp (Or.inr hzero)
      · exact mctp_bad s _ d inp hfield
    obtain ⟨e, he⟩ := hreply s (dopc (descOf d)) stBadOpcode 0 0 0 []
    exact ⟨e, hexec.trans (congrArg Host.Outcome.next (hrefused.trans he))⟩
  · have hrun := mctp_runs s tag.val d inp h4 h5 h8 h9
    refine ⟨fun hop hf v hp hv => ?_, fun hop hf => ?_, fun hop hf hlen => ?_,
      fun hop htamp hf hex hpend hidle hwait b hb hcheck1 hcheck2 hright => ?_, fun hop => ⟨fun htamp => ?_, fun htamp hf hbad => ?_⟩⟩
    · rw [hop] at hrun
      exact hexec.trans (congrArg Host.Outcome.next (hrun.trans ((negotiate_spec s (mctpSrc tag.val d) (descOf d) hf hp).1 v hv)))
    · rw [hop] at hrun
      exact hexec.trans (congrArg Host.Outcome.next (hrun.trans (getEpoch_ok s (mctpSrc tag.val d) (descOf d) hf)))
    · rw [hop] at hrun
      obtain ⟨e, he⟩ := hreply s.freed 3 stOk s.cmd.issuers.length 0 (hOutAddr (descOf d))
        (s.issuerList (s.hVersion (viaMctp (mctpSrc tag.val d))))
      exact ⟨e, hexec.trans (congrArg Host.Outcome.next (hrun.trans ((listIssuers_ok s (mctpSrc tag.val d) (descOf d) hf hlen).trans he)))⟩
    · rw [hop] at hrun
      subst hb
      have henv := envelope_checked s (mctpSrc tag.val d) (descOf d)
        { data := inp.take (hInLen (descOf d)), list := [], fault := false, aux := [], auxFault := false, writeFault := false } htamp hf hex
      have hvia : viaMctp (mctpSrc tag.val d) = true := rfl
      rw [hvia, if_neg (not_not.mpr hcheck1)] at henv
      obtain ⟨-, -, hok⟩ := envJoin_spec s (mctpSrc tag.val d) (descOf d) (inp.take (hInLen (descOf d)))
        (envCheck1_cmd s _ _ _ hcheck1) hex hidle hwait
      obtain ⟨-, hissuers, hrunning⟩ := hok hpend hcheck2
      rw [hright, if_pos rfl] at hrunning
      exact ⟨_, hexec.trans (congrArg Host.Outcome.next (hrun.trans henv)), hrunning, hissuers⟩
    · rw [hop] at hrun
      exact hexec.trans (congrArg Host.Outcome.next (hrun.trans (if_pos htamp)))
    · rw [hop] at hrun
      exact hexec.trans (congrArg Host.Outcome.next (hrun.trans ((bootstrap_eq s (mctpSrc tag.val d) (descOf d) _ htamp hf).trans (if_pos hbad))))

/-- ENVELOPE of a queue or ring (R477 to R481). -/
theorem envelope_spec (s : State) (src : JobSrc) (d : Desc) (io : JobIo) (h : s.takesJob src d 4 = true) :
    (s.tamp.responded = true → exec (.envelope src d io) s = .next ((s.take src).hDone src 4 stTampered 0 0 0 [])) ∧
    (s.tamp.responded = false → hFieldsOk d true true false = true → s.exhausted = false →
      ((s.envCheck1 (viaMctp src) d io).1 ≠ stOk → exec (.envelope src d io) s = .next ((s.take src).hDone src 4
        (s.envCheck1 (viaMctp src) d io).1 0 (s.envCheck1 (viaMctp src) d io).2 0 [])) ∧
      ((s.envCheck1 (viaMctp src) d io).1 = stOk → s.cmd.running = none → s.cmd.waiting = [] →
        ∃ t, exec (.envelope src d io) s = .next t ∧
        (s.cmd.epochPending = true → t.cmd.issuers = s.cmd.issuers ∧ t.cmd.running = none ∧
          t.cmd.waiting = [{ envJob src d io.data with wait := .epoch, since := s.posRun }]) ∧
        (s.cmd.epochPending = false → (s.envCheck2 io.data).1 ≠ stOk → t.cmd.issuers = s.cmd.issuers ∧ t.cmd.running = none ∧
          t.cmd.waiting = []) ∧
        (s.cmd.epochPending = false → (s.envCheck2 io.data).1 = stOk → t.cmd.waiting = [] ∧
          t.cmd.issuers = s.cmd.issuers.map (fun i => if i.id = eIssuer io.data then { i with lastSeq := eSeq io.data } else i) ∧
          t.cmd.running = (if s.rightOk io.data then some { envJob src d io.data with accepted := true } else none)))) := by
  have hexec : exec (.envelope src d io) s = .next ((s.take src).envelope src d io) :=
    congrArg Host.Outcome.next (job_of_takes s src d 4 (fun s => s.envelope src d io) h)
  obtain ⟨hcmd, htampEq, -, -, hpos, hcheck1, hcheck2, -⟩ := take_reads s src d io (viaMctp src) io.data
  have hright : (s.take src).rightOk io.data = s.rightOk io.data := by unfold State.rightOk State.issuer; rw [hcmd]
  refine ⟨fun htamp => hexec.trans (congrArg Host.Outcome.next (envelope_tampered _ src d io (by rw [htampEq]; exact htamp))),
    fun htamp hf hex => ?_⟩
  have henv := envelope_checked (s.take src) src d io (by rw [htampEq]; exact htamp) hf (by rw [State.exhausted, hcmd]; exact hex)
  rw [hcheck1] at henv
  refine ⟨fun hbad => hexec.trans (congrArg Host.Outcome.next (henv.trans (if_pos hbad))), fun hok hidle hwait => ?_⟩
  rw [if_neg (not_not.mpr hok)] at henv
  have hjoin := envJoin_spec (s.take src) src d io.data (envCheck1_cmd s _ d io hok) (by rw [State.exhausted, hcmd]; exact hex)
    (by rw [hcmd]; exact hidle) (by rw [hcmd]; exact hwait)
  rw [hcmd, hcheck2, hright, hpos] at hjoin
  exact ⟨_, hexec.trans (congrArg Host.Outcome.next henv), hjoin⟩

/-- ISSUER_BOOTSTRAP of a queue or ring (R488, R489). -/
theorem issuerBootstrap_spec (s : State) (src : JobSrc) (d : Desc) (io : JobIo) (h : s.takesJob src d 5 = true)
    (htamp : s.tamp.responded = false) (hf : hFieldsOk d true true false = true) (hin : hInLen d = 9056) (hout : 1568 ≤ hOutLen d)
    (hlen : 9056 ≤ io.data.length) (hidle : s.cmd.running = none) (hwait : s.cmd.waiting = []) :
    ∃ t, exec (.issuerBootstrap src d io) s = .next t ∧ t.cmd.waiting = [] ∧ t.cmd.issuers = s.cmd.issuers ∧
      (s.bootCheck (io.data.take 9056) ≠ stOk → t.cmd.running = none ∧ t.lcf = s.lcf) ∧
      (s.bootCheck (io.data.take 9056) = stOk → t.lcf.nonce = s.draw 32) ∧
      (∀ k i n, s.bootCheck (io.data.take 9056) = stOk →
        blockSigOk ((io.data.take 9056).take 0x660) (Bytes.slice (io.data.take 9056) 0x660 7424) = true →
        Config.kexPeerOk 0 (Bytes.slice (io.data.take 9056) 0x40 1568) = true → s.wrapCheck = stOk →
        s.wrapKey 0 (s.blobEpoch 0) = some k → s.allocAt 0 = some i → s.cmdSlot = some n →
        (t.slot i).st = .loaded ∧ (t.slot i).ctx.type = 9 ∧ (t.slot i).ctx.owner = 0 ∧ (t.adm (17 + n)).st = .waiting ∧
        ∃ j iss ct, t.cmd.running = some j ∧ j.accepted = true ∧ j.slot = n ∧ j.wait = .register iss ct ∧ iss.id = 0 ∧
          iss.rights = 0x3FF ∧ iss.handle = handleOf i (s.slot i).gen ∧ iss.serial = s.nextSerial) := by
  have hexec : exec (.issuerBootstrap src d io) s = .next ((s.take src).bootstrap src d io) :=
    congrArg Host.Outcome.next (job_of_takes s src d 5 (fun s => s.bootstrap src d io) h)
  obtain ⟨hcmd, htampEq, hlcf, hdrbg, -, -, -, hboot⟩ := take_reads s src d io false (io.data.take 9056)
  obtain ⟨hwrap, hkeys, halloc, hslot, hserial, hslots⟩ := take_keys s src
  have htaken := bootstrap_taken (s.take src) src d io (by rw [htampEq]; exact htamp) hf hin hout hlen (by rw [hcmd]; exact hidle)
    (by rw [hcmd]; exact hwait)
  generalize s.take src = u at hexec hcmd hlcf hdrbg hboot hwrap hkeys halloc hslot hserial hslots htaken
  have hraw : (bootJob src d io.data).raw = io.data.take 9056 := rfl
  generalize bootJob src d io.data = j at hraw htaken
  refine ⟨_, hexec.trans (congrArg Host.Outcome.next htaken), bootTake_waiting u j (by rw [hcmd]; exact hwait), ?_, fun hbad => ?_, fun hok => ?_,
    fun k i n hok hsig hpub hw hk hi hn => ?_⟩
  · by_cases hok : u.bootCheck j.raw = stOk
    · obtain ⟨-, hissuers, -⟩ := bootTake_nonce u j hok
      exact hissuers.trans (congrArg CmdState.issuers hcmd)
    · rw [bootTake_bad u j hok, cmd_of_completed (completed_envReply u j _ 0 0 []), hcmd]
  · have hcompleted := completed_envReply u j (u.bootCheck j.raw) 0 0 []
    rw [bootTake_bad u j (by rw [hraw, hboot]; exact hbad), cmd_of_completed hcompleted, lcf_of_completed hcompleted, hcmd]
    exact ⟨hidle, hlcf⟩
  · obtain ⟨-, -, hnonce⟩ := bootTake_nonce u j (by rw [hraw, hboot]; exact hok)
    refine (congrArg LcfState.nonce hnonce).trans ?_
    exact congrArg (fun n => Config.drbg n 32) hdrbg
  · have hspec := bootTake_ok u j k i n (by rw [hraw, hboot]; exact hok) (by rw [hraw]; exact hsig) (by rw [hraw]; exact hpub) (hwrap.trans hw)
      (hkeys.trans hk) (halloc.trans hi) (hslot.trans hn)
    rw [hslots, hserial] at hspec
    exact hspec

/-- Settles O44. Taking the descriptor leaves what the checks read (`take_reads`); an envelope that finds the order empty is taken at once
(`envJoin_spec`), since checks 9 to 13 read only the bytes that the envelope names (`envelope_raw`); a bootstrap that passes establishes
issuer 0 (`bootTake_ok`). -/
theorem envelopesUseTheirCounterOnce : Obligations.EnvelopesUseTheirCounterOnce := by
  unfold Obligations.EnvelopesUseTheirCounterOnce
  intro s src d
  refine ⟨fun h hf hp => ?negotiate, fun h hf => ?epoch, fun h hf hlen => ?list, fun tag inp x r hx hr => ⟨fun hno => ?early, fun hrt => ?mctp⟩,
    fun io h => envelope_spec s src d io h, fun ix j hj hwait hepoch => ?timeout,
    fun io h htamp hf hin hout hlen hidle hwait => issuerBootstrap_spec s src d io h htamp hf hin hout hlen hidle hwait⟩
  case negotiate =>
    obtain ⟨hsome, hnone⟩ := negotiate_spec (s.take src) src d hf hp
    have hexec : exec (.hostNegotiate src d) s = .next ((s.take src).negotiate src d) :=
      congrArg Host.Outcome.next (job_of_takes s src d 1 (fun s => s.negotiate src d) h)
    exact ⟨fun v hv => hexec.trans (congrArg Host.Outcome.next (hsome v hv)), fun hv => hexec.trans (congrArg Host.Outcome.next (hnone hv))⟩
  case epoch =>
    obtain ⟨q, hq⟩ := take_eq_with s src
    refine (congrArg Host.Outcome.next ((job_of_takes s src d 2 (fun s => s.getEpoch src d) h).trans (getEpoch_ok (s.take src) src d hf))).trans ?_
    rw [hq]
    rfl
  case list =>
    obtain ⟨q, hq⟩ := take_eq_with s src
    refine (congrArg Host.Outcome.next
      ((job_of_takes s src d 3 (fun s => s.listIssuers src d) h).trans (listIssuers_ok (s.take src) src d hf hlen))).trans ?_
    rw [hq]
    rfl
  case early => exact congrArg Host.Outcome.next (if_neg (by rw [hno]; decide))
  case mctp => exact mctpRequest_spec s d tag inp hrt x r hx hr
  case timeout =>
    have hexec : exec (.envelopeEpochTimeout ix) s = .next (if j.wait = .epoch ∧ s.epochWait ∧ s.admTimeout ≤ s.hcSince j.since then
        ((s.modCmd (fun c => { c with waiting := c.waiting.eraseIdx ix })).envReply j stCommitDeferred 0 0 []).envRun else s) := by
      refine congrArg Host.Outcome.next ?_
      rw [hj]
    refine ⟨fun hearly => hexec.trans (congrArg Host.Outcome.next (if_neg ?_)),
      fun hlate => hexec.trans (congrArg Host.Outcome.next (if_pos ⟨hwait, hepoch, hlate⟩))⟩
    rintro ⟨-, -, hlate⟩
    omega

end Sys2Proof.Machine
end

section
/-! PROOFS. Three statements that give the exact count of an event (R66) while a reset ends jobs: the end of a digest job counts on the source
that its number of a lane gives (R297), and nothing in a state keeps that number below sixteen. O41, O46, O53. -/
namespace Sys2Proof.Machine

/-- A digest job of a master, last run by lane `n`. -/
def jobRanOn (m : Master) (kind : DJobKind) (n : Nat) : DJob :=
  { permJob 0 1 0 with kind := kind, src := { issuer := m, ring := 255, slot := 0, tag := 0, cqFail := false }, ranOn := some n }

/-! ### A job of PF0 as the link goes down -/

/-- The link is up, and a job of PF0 waits that ran on lane 96, whose fault source would be `evLink 1`. -/
def sLinkJob : State :=
  { sRuntime with
    dgl := { sRuntime.dgl with ready := [jobRanOn 0x10 .user 96] }
    hq := { sRuntime.hq with up := true } }

theorem evt_linkDown_sLinkJob : sLinkJob.linkDown.evt (evLink 1) ≠ (sLinkJob.evt (evLink 1)).bump := by decide +kernel

/-- Refutes O41: a link-down ends the jobs of PF0, and each counts its end on the source of its lane before LINK_DOWN is counted; in `sLinkJob`
that source is LINK_DOWN's own. -/
theorem not_linkAndFunctionResetsClearTheirQueues : ¬ Obligations.LinkAndFunctionResetsClearTheirQueues := by
  unfold Obligations.LinkAndFunctionResetsClearTheirQueues
  intro h
  obtain ⟨-, hdown, -⟩ := h
  obtain ⟨-, hup⟩ := hdown sLinkJob
  obtain ⟨⟨t, ht, -, -, -, -, -, -, -, -, hevt⟩, -⟩ := hup rfl
  obtain rfl : sLinkJob.linkDown = t := Host.Outcome.next.inj ht
  exact evt_linkDown_sLinkJob hevt

/-! ### A job of hart 0 as it is reset -/

/-- A job of hart 0 waits that ran on lane 138, whose fault source would be `evHart 5`. -/
def sLockstepJob : State := { sRuntime with dgl := { sRuntime.dgl with ready := [jobRanOn 0 .user 138] } }

theorem evt_lockstep_sLockstepJob : sLockstepJob.lockstep.evt (evHart 5) ≠ (sLockstepJob.evt (evHart 5)).bump := by decide +kernel

/-- Refutes O46: a lockstep reset of hart 0 ends its jobs, and each counts its end on the source of its lane; in `sLockstepJob` that source is
the one that the reset itself has counted on. -/
theorem not_hartsResetParkHaltAndResume : ¬ Obligations.HartsResetParkHaltAndResume := by
  unfold Obligations.HartsResetParkHaltAndResume
  intro h
  obtain ⟨-, -, -, -, hlockstep, -⟩ := h
  obtain ⟨t, ht, -, -, hfirst, -⟩ := hlockstep sLockstepJob (by decide) rfl (by decide)
  obtain ⟨-, -, -, hevt⟩ := hfirst rfl rfl
  have hexec : exec .lockstepMismatch sLockstepJob = .next sLockstepJob.lockstep := congrArg Host.Outcome.next (if_neg (by decide))
  obtain rfl : sLockstepJob.lockstep = t := Host.Outcome.next.inj (hexec.symm.trans ht)
  exact evt_lockstep_sLockstepJob hevt

/-! ### The HMAC of a transaction job as STANDBY is entered -/

/-- A TK_MAC_VERIFY of PF0. -/
def tkMacJob : TkJob :=
  { src := { issuer := 0x10, ring := 255, slot := 0, tag := 0, cqFail := false }, opc := 0x40, desc := [], handle := 0, faulted := false, hit := false
    io := { data := [], list := [], fault := false, aux := [], auxFault := false, writeFault := false }
    status := stOk, detail := 0, abort := none, out := [], after := none }

/-- STANDBY is entered while pipeline 0 holds a job, whose HMAC waits after it ran on lane 127: its fault source would be `evTamp 11`. -/
def sStandbyJob : State :=
  { (sRuntime.setPipe 0 (some tkMacJob)) with
    dgl := { sRuntime.dgl with ready := [jobRanOn 0x45 (.mac 0) 127] }
    pwr := { sRuntime.pwr with pending := some .standby } }

theorem evt_standby_sStandbyJob : (sStandbyJob.tkStandby.pwrDone .standby).evt (evTamp 11) ≠ (sStandbyJob.evt (evTamp 11)).bump := by
  decide +kernel

/-- Refutes O53: STANDBY_ENTRY_DONE ends the jobs of the pipelines with their HMACs, and each counts its end on the source of its lane; in
`sStandbyJob` that source is the one of PWR_DONE. -/
theorem not_powerRequestsWakesAndWatchdogs : ¬ Obligations.PowerRequestsWakesAndWatchdogs := by
  unfold Obligations.PowerRequestsWakesAndWatchdogs
  intro h
  obtain ⟨-, hdone, -⟩ := h
  obtain ⟨-, hstandby, -⟩ := hdone sStandbyJob
  obtain ⟨t, ht, -, -, -, hevt⟩ := hstandby rfl
  have hexec : exec .standbyEntryDone sStandbyJob = .next (sStandbyJob.tkStandby.pwrDone .standby) := congrArg Host.Outcome.next (if_pos rfl)
  obtain rfl : sStandbyJob.tkStandby.pwrDone .standby = t := Host.Outcome.next.inj (hexec.symm.trans ht)
  exact evt_standby_sStandbyJob hevt

end Sys2Proof.Machine
end

section
/-! PROOFS. What the end of the host's work (R446, R594, R596) leaves: the supplies and the line state. One lemma per operation, whose proof is
the chain of the operations that it is made of. -/
namespace Sys2Proof.Machine

/-- The power state, the line state and the level of PF_WARN_N in `s` are those of `r`. -/
structure SupplyKept (r s : State) : Prop where
  pwr : s.pwr = r.pwr
  line : s.cis.line = r.cis.line
  pfw : s.cis.pfw = r.cis.pfw

section
variable {r s : State}

/-- A state that differs in none of them. -/
theorem SupplyKept.update {clk regs buf posted heldLow hiLatch w1 events msixPba sems slowDue arm tamp boot prst lcf cel flr dgl hq harts mbx cmd
    ports cache frames meas spdm cvn tks ram outbox freeCtr drbgCtr pending} (h : SupplyKept r s) :
    SupplyKept r {
      pwr := s.pwr, cis := s.cis, clk, regs, buf, posted, heldLow, hiLatch, w1, events, msixPba, sems, slowDue, arm, tamp, boot, prst, lcf, cel
      flr, dgl, hq, harts, mbx, cmd, ports, cache, frames, meas, spdm, cvn, tks, ram, outbox, freeCtr, drbgCtr, pending } :=
  ⟨h.pwr, h.line, h.pfw⟩

theorem SupplyKept.updateCis {cis} (h : SupplyKept r s) (hl : cis.line = s.cis.line) (hw : cis.pfw = s.cis.pfw) :
    SupplyKept r { s with cis } :=
  ⟨h.pwr, hl.trans h.line, hw.trans h.pfw⟩

theorem SupplyKept.refl (s : State) : SupplyKept s s := ⟨rfl, rfl, rfl⟩

theorem SupplyKept.ite {a b : State} {c : Prop} [Decidable c] (ha : SupplyKept r a) (hb : SupplyKept r b) : SupplyKept r (if c then a else b) := by
  split
  · exact ha
  · exact hb

theorem SupplyKept.foldl {α : Type} {f : State → α → State} {l : List α} (h : SupplyKept r s)
    (hf : ∀ {t x}, SupplyKept r t → SupplyKept r (f t x)) : SupplyKept r (l.foldl f s) := by
  induction l generalizing s with
  | nil => exact h
  | cons x l ih => exact ih (hf h)

theorem SupplyKept.ite_fst {α : Type} {a b : State × α} {c : Prop} [Decidable c] (ha : SupplyKept r a.1) (hb : SupplyKept r b.1) :
    SupplyKept r (if c then a else b).1 := by
  split
  · exact ha
  · exact hb

theorem SupplyKept.setReg (h : SupplyKept r s) {a v} : SupplyKept r (s.setReg a v) := h.update
theorem SupplyKept.setByte (h : SupplyKept r s) {a v} : SupplyKept r (s.setByte a v) := h.update
theorem SupplyKept.setEvt (h : SupplyKept r s) {k v} : SupplyKept r (s.setEvt k v) := h.update
theorem SupplyKept.setSem (h : SupplyKept r s) {n o} : SupplyKept r (s.setSem n o) := h.update
theorem SupplyKept.setFld (h : SupplyKept r s) {a hi lo v} : SupplyKept r (s.setFld a hi lo v) := h.setReg
theorem SupplyKept.incReg (h : SupplyKept r s) {a} : SupplyKept r (s.incReg a) := h.setReg
theorem SupplyKept.add64 (h : SupplyKept r s) {a n} : SupplyKept r (s.add64 a n) := h.setReg.setReg
theorem SupplyKept.out (h : SupplyKept r s) {o} : SupplyKept r (s.out o) := h.update
theorem SupplyKept.setHart (h : SupplyKept r s) {k v} : SupplyKept r (s.setHart k v) := h.update
theorem SupplyKept.setChan (h : SupplyKept r s) {c v} : SupplyKept r (s.setChan c v) := h.update
theorem SupplyKept.setQueue (h : SupplyKept r s) {q v} : SupplyKept r (s.setQueue q v) := h.update
theorem SupplyKept.setFn (h : SupplyKept r s) {f v} : SupplyKept r (s.setFn f v) := h.update
theorem SupplyKept.setSlot (h : SupplyKept r s) {i v} : SupplyKept r (s.setSlot i v) := h.update
theorem SupplyKept.setDctx (h : SupplyKept r s) {i v} : SupplyKept r (s.setDctx i v) := h.update
theorem SupplyKept.setLane (h : SupplyKept r s) {n v} : SupplyKept r (s.setLane n v) := h.update
theorem SupplyKept.setAdm (h : SupplyKept r s) {i v} : SupplyKept r (s.setAdm i v) := h.updateCis rfl rfl
theorem SupplyKept.setLink (h : SupplyKept r s) {p v} : SupplyKept r (s.setLink p v) := h.update
theorem SupplyKept.setBytes (h : SupplyKept r s) {a bs} : SupplyKept r (s.setBytes a bs) := by
  induction bs generalizing s a with
  | nil => exact h
  | cons b t ih => exact ih h.setByte
theorem SupplyKept.drew (h : SupplyKept r s) : SupplyKept r s.drew := h.update
theorem SupplyKept.freed (h : SupplyKept r s) : SupplyKept r s.freed := h.update
theorem SupplyKept.setPba (h : SupplyKept r s) {f v b} : SupplyKept r (s.setPba f v b) := h.update
theorem SupplyKept.msixRequest (h : SupplyKept r s) {f v} : SupplyKept r (s.msixRequest f v) := .ite h (.ite h.out h.setPba)
theorem SupplyKept.resume (h : SupplyKept r s) {k cause} : SupplyKept r (s.resume k cause) := .ite h.setHart h
theorem SupplyKept.deliver (h : SupplyKept r s) {k} : SupplyKept r (s.deliver k) := .ite (.ite h.resume h) (.ite h.msixRequest (.ite h.msixRequest h))
theorem SupplyKept.deliverIfNew (h : SupplyKept r s) {was k} : SupplyKept r (s.deliverIfNew was k) := .ite h.deliver h
theorem SupplyKept.count (h : SupplyKept r s) {k} : SupplyKept r (s.count k) := h.setEvt.deliverIfNew
theorem SupplyKept.putRec (h : SupplyKept r s) {x} : SupplyKept r (s.putRec x) := by
  unfold State.putRec
  exact .ite h.update (.ite h.update (.ite h.update.count (.ite h.update.count h.update)))
theorem SupplyKept.flight (h : SupplyKept r s) {type src body} : SupplyKept r (s.flight type src body) := by
  unfold State.flight
  exact .ite h (SupplyKept.putRec (.ite h h.update.putRec))
theorem SupplyKept.dmaRecords (h : SupplyKept r s) {m addr data} : SupplyKept r (s.dmaRecords m addr data) := .ite h (h.foldl (fun h => h.flight))
theorem SupplyKept.uartOut (h : SupplyKept r s) {v} : SupplyKept r (s.uartOut v) := by
  unfold State.uartOut
  split
  · exact h.out
  · exact .ite h.out h
  · exact .ite h.out h
  · exact h
theorem SupplyKept.setStage (h : SupplyKept r s) {v} : SupplyKept r (s.setStage v) := .ite h h.setReg.uartOut.flight.count
theorem SupplyKept.semReclaim (h : SupplyKept r s) {m} : SupplyKept r (s.semReclaim m) := h.foldl (fun h => h.setSem.count)
theorem SupplyKept.unmark (h : SupplyKept r s) {ctx} : SupplyKept r (s.unmark ctx) := h.foldl (fun h => .ite h.setLane h)
theorem SupplyKept.laneAbsorb (h : SupplyKept r s) {n k} : SupplyKept r (s.laneAbsorb n k) := h.add64
theorem SupplyKept.lanesStop (h : SupplyKept r s) {p} : SupplyKept r (s.lanesStop p) :=
  h.foldl (fun h => (by split; exacts [.ite h.setLane.laneAbsorb.freed h, h]))
theorem SupplyKept.permDrop (h : SupplyKept r s) {i} : SupplyKept r (s.permDrop i) := h.lanesStop.update
theorem SupplyKept.issue (h : SupplyKept r s) {p c} : SupplyKept r (s.issue p c) := h.out
theorem SupplyKept.toFlash (h : SupplyKept r s) {p cs opc a d} : SupplyKept r (s.toFlash p cs opc a d) := h.issue
theorem SupplyKept.enqueue (h : SupplyKept r s) {i cls timeout what} : SupplyKept r (s.enqueue i cls timeout what) :=
  h.setAdm.updateCis rfl rfl
theorem SupplyKept.eraseAt (h : SupplyKept r s) {p cs a} : SupplyKept r (s.eraseAt p cs a) := by
  unfold State.eraseAt
  exact .ite h.toFlash h.update
theorem SupplyKept.take (h : SupplyKept r s) {src} : SupplyKept r (s.take src) := .ite h.setQueue h
theorem SupplyKept.ringIrq (h : SupplyKept r s) {k} : SupplyKept r (s.ringIrq k) := .ite h.resume h
theorem SupplyKept.qError (h : SupplyKept r s) {q cause slot} : SupplyKept r (s.qError q cause slot) := .ite h.setQueue.count h.setQueue
theorem SupplyKept.cqWrite (h : SupplyKept r s) {src opc st result detail} : SupplyKept r (s.cqWrite src opc st result detail) :=
  .ite h.out.setQueue.count h.flight.setBytes.setQueue.ringIrq
theorem SupplyKept.entryDone (h : SupplyKept r s) {src opc st result detail} : SupplyKept r (s.entryDone src opc st result detail) :=
  .ite h.setQueue (.ite h.setQueue.setQueue.qError h.setQueue.cqWrite)
theorem SupplyKept.stall (h : SupplyKept r s) {w} : SupplyKept r (s.stall w) := h.update
theorem SupplyKept.complete (h : SupplyKept r s) {src opc st result detail} : SupplyKept r (s.complete src opc st result detail) :=
  .ite h.out (.ite h (.ite h.entryDone h.take.stall))
theorem SupplyKept.hostWrite (h : SupplyKept r s) {m addr data} : SupplyKept r (s.hostWrite m addr data) := h.out
theorem SupplyKept.putOut (h : SupplyKept r s) {eng src addr data} : SupplyKept r (s.putOut eng src addr data) :=
  .ite h (.ite h.dmaRecords.setBytes (.ite h.hostWrite h.stall))
theorem SupplyKept.stallDrop (h : SupplyKept r s) {m} : SupplyKept r (s.stallDrop m) := h.update
theorem SupplyKept.poisonKey (h : SupplyKept r s) {k why} : SupplyKept r (s.poisonKey k why) := h.update
theorem SupplyKept.destroyFor (h : SupplyKept r s) {i why} : SupplyKept r (s.destroyFor i why) := by
  unfold State.destroyFor
  exact .ite h (.ite h.poisonKey.update.setSlot.count h.poisonKey.update.setSlot)
theorem SupplyKept.destroy (h : SupplyKept r s) {i} : SupplyKept r (s.destroy i) := by
  unfold State.destroy
  exact .ite h.poisonKey.update (.ite h h.destroyFor)
theorem SupplyKept.reap (h : SupplyKept r s) : SupplyKept r s.reap := h.foldl (fun h => .ite h h.destroyFor)
theorem SupplyKept.destroyAll (h : SupplyKept r s) {f} : SupplyKept r (s.destroyAll f) := h.foldl (fun h => h.destroy)
theorem SupplyKept.destroyOwner (h : SupplyKept r s) {m} : SupplyKept r (s.destroyOwner m) := h.destroyAll.count
theorem SupplyKept.noSlot (h : SupplyKept r s) {m} : SupplyKept r (s.noSlot m) := by
  unfold State.noSlot
  exact .ite h.update.count.count h.update.count
theorem SupplyKept.putCtx (h : SupplyKept r s) {i st c} : SupplyKept r (s.putCtx i st c) := h.setSlot.update
theorem SupplyKept.takeUse (h : SupplyKept r s) {k} : SupplyKept r (s.takeUse k).1 := .ite_fst h h.setSlot
theorem SupplyKept.lastUse (h : SupplyKept r s) {k} : SupplyKept r (s.lastUse k) := .ite h.destroy.count h
theorem SupplyKept.celFail (h : SupplyKept r s) {src opc st detail} : SupplyKept r (s.celFail src opc st detail) :=
  SupplyKept.complete (.ite (SupplyKept.count (.ite h.count h)) (.ite h.count h))
theorem SupplyKept.celRun (h : SupplyKept r s) {o} : SupplyKept r (s.celRun o) := h.update
theorem SupplyKept.celJob (h : SupplyKept r s) {src d io eff} (heff : ∀ {t x1}, SupplyKept r t → SupplyKept r (eff t x1)) :
    SupplyKept r (s.celJob src d io eff) :=
  .ite h.celFail (heff h)
theorem SupplyKept.withKey (h : SupplyKept r s) {src opc k bit eff} (heff : ∀ {t x1}, SupplyKept r t → SupplyKept r (eff t x1)) :
    SupplyKept r (s.withKey src opc k bit eff) :=
  .ite h.celFail (heff h)
theorem SupplyKept.celUseRun (h : SupplyKept r s) {k o} : SupplyKept r (s.celUseRun k o) := h.takeUse.celRun
theorem SupplyKept.wrapped (h : SupplyKept r s) : SupplyKept r s.wrapped := h.update
theorem SupplyKept.keyWrap (h : SupplyKept r s) {src d io} : SupplyKept r (s.keyWrap src d io) :=
  .ite h.celFail (h.withKey (fun h => .ite h.celFail (by split; exacts [h.celFail, .ite h.celFail h.wrapped.celUseRun])))
theorem SupplyKept.keyUnload (h : SupplyKept r s) {src d} : SupplyKept r (s.keyUnload src d) := h.withKey (fun h => h.destroy.celRun)
theorem SupplyKept.keyQuery (h : SupplyKept r s) {src d io} : SupplyKept r (s.keyQuery src d io) := by
  refine .ite ?_ (h.withKey (fun h => .ite h.celFail (.ite h.celFail h.celRun)))
  split
  · exact .ite (.ite h.celFail (.ite h.celFail h.celRun)) h.celFail
  · exact h.celFail
theorem SupplyKept.celIssuerReset (h : SupplyKept r s) {m} : SupplyKept r (s.celIssuerReset m) :=
  (h.update.foldl (fun h => (by split; exacts [h.lastUse, h]))).reap
theorem SupplyKept.ctxFree (h : SupplyKept r s) {i} : SupplyKept r (s.ctxFree i) := .ite h (.ite h.setDctx.lastUse h.setDctx)
theorem SupplyKept.laneEnd (h : SupplyKept r s) {j st} : SupplyKept r (s.laneEnd j st) := by
  unfold State.laneEnd
  split
  · exact h
  · exact h
  · exact .ite h.incReg.count h.incReg.count.setReg.count
theorem SupplyKept.macOver (h : SupplyKept r s) {p st} : SupplyKept r (s.macOver p st) := by
  unfold State.macOver
  exact .ite h h.update
theorem SupplyKept.rangeFault (h : SupplyKept r s) {i st} : SupplyKept r (s.rangeFault i st) := by
  unfold State.rangeFault
  split
  · exact h
  · exact .ite h h.update
theorem SupplyKept.jobOver (h : SupplyKept r s) {j st res det} : SupplyKept r (s.jobOver j st res det) := by
  unfold State.jobOver
  split
  · exact h.laneEnd.unmark.complete
  · exact h.laneEnd.unmark.macOver
  · exact h.laneEnd.unmark
  · exact .ite h.laneEnd.unmark h.laneEnd.unmark.rangeFault
theorem SupplyKept.endJobs (h : SupplyKept r s) {p st} : SupplyKept r (s.endJobs p st) := h.lanesStop.update.foldl (fun h => h.jobOver)
theorem SupplyKept.freeCtxs (h : SupplyKept r s) {m} : SupplyKept r (s.freeCtxs m) := h.foldl (fun h => h.ctxFree)
theorem SupplyKept.macDrop (h : SupplyKept r s) {p} : SupplyKept r (s.macDrop p) := h.endJobs.foldl (fun h => h.ctxFree)
theorem SupplyKept.digIssuerReset (h : SupplyKept r s) {m} : SupplyKept r (s.digIssuerReset m) := h.endJobs.freeCtxs
theorem SupplyKept.scanDrop (h : SupplyKept r s) : SupplyKept r s.scanDrop := h.endJobs.freeCtxs
theorem SupplyKept.measIssuerReset (h : SupplyKept r s) {m} : SupplyKept r (s.measIssuerReset m) := by
  unfold State.measIssuerReset
  exact (SupplyKept.update (.ite h.scanDrop h)).foldl (fun h => h.complete)
theorem SupplyKept.newNonce (h : SupplyKept r s) : SupplyKept r s.newNonce := h.update.drew
theorem SupplyKept.kduErr (h : SupplyKept r s) {st} : SupplyKept r (s.kduErr st) := h.update
theorem SupplyKept.derive (h : SupplyKept r s) {md keySlot} : SupplyKept r (s.derive md keySlot) := h.update
theorem SupplyKept.kduDerive (h : SupplyKept r s) : SupplyKept r s.kduDerive := .ite h.kduErr h.derive.kduErr
theorem SupplyKept.kduZero (h : SupplyKept r s) : SupplyKept r s.kduZero := h.update
theorem SupplyKept.kduDiscard (h : SupplyKept r s) : SupplyKept r s.kduDiscard := .ite h.kduErr h.kduZero.kduErr
theorem SupplyKept.modBoot (h : SupplyKept r s) {f} : SupplyKept r (s.modBoot f) := h.update
theorem SupplyKept.stage (h : SupplyKept r s) {st} : SupplyKept r (s.stage st) := h.setStage
theorem SupplyKept.stageAll (h : SupplyKept r s) {st fail slot} : SupplyKept r (s.stageAll st fail slot) := h.setStage
theorem SupplyKept.stageFail (h : SupplyKept r s) {st fail} : SupplyKept r (s.stageFail st fail) := h.stageAll
theorem SupplyKept.setPush (h : SupplyKept r s) {on} : SupplyKept r (s.setPush on) := .ite h.setReg.count h.setReg
theorem SupplyKept.openPush (h : SupplyKept r s) {code} : SupplyKept r (s.openPush code) := .ite h.setPush.stageFail.count h.setPush.stageFail
theorem SupplyKept.slotResult (h : SupplyKept r s) {slot st} : SupplyKept r (s.slotResult slot st) := h.setFld
theorem SupplyKept.romDerive (h : SupplyKept r s) {m} : SupplyKept r (s.romDerive m) :=
  SupplyKept.kduDerive (.ite h ((h.foldl (fun h => h.setReg)).setReg))
theorem SupplyKept.romTry (h : SupplyKept r s) {cs} : SupplyKept r (s.romTry cs) := by
  induction cs generalizing s with
  | nil => exact h.modBoot.openPush
  | cons c rest ih =>
    exact .ite (ih h.slotResult) (.ite (ih h.slotResult.modBoot) (.ite (ih h.slotResult.modBoot) h.modBoot.stageAll.romDerive.stage))
theorem SupplyKept.romFallback (h : SupplyKept r s) {code st} : SupplyKept r (s.romFallback code st) := by
  unfold State.romFallback
  split
  · exact h
  · exact h.kduDiscard.slotResult.count.modBoot.romTry
theorem SupplyKept.stageWipe (h : SupplyKept r s) {rel owner} : SupplyKept r (s.stageWipe rel owner) := h.modBoot
theorem SupplyKept.relRefuse (h : SupplyKept r s) {code check} : SupplyKept r (s.relRefuse code check) :=
  .ite h.permDrop.stageWipe.modBoot.count.romFallback h.permDrop.stageWipe.modBoot.count
theorem SupplyKept.stageReset (h : SupplyKept r s) {m} : SupplyKept r (s.stageReset m) := .ite h.relRefuse h
theorem SupplyKept.mbxIrq (h : SupplyKept r s) {k} : SupplyKept r (s.mbxIrq k) := .ite h.resume h
theorem SupplyKept.mbxIrqs (h : SupplyKept r s) : SupplyKept r s.mbxIrqs := h.foldl (fun h => h.mbxIrq)
theorem SupplyKept.notice (h : SupplyKept r s) {c n} : SupplyKept r (s.notice c n) := h.setChan.count.mbxIrqs
theorem SupplyKept.mbxRecord (h : SupplyKept r s) {c op m x} : SupplyKept r (s.mbxRecord c op m x) := .ite h.flight h
theorem SupplyKept.chAbort (h : SupplyKept r s) {m c} : SupplyKept r (s.chAbort m c) := (SupplyKept.setChan (.ite h.mbxRecord h)).notice
theorem SupplyKept.mbxReset (h : SupplyKept r s) {m} : SupplyKept r (s.mbxReset m) := h.foldl (fun h => .ite h (.ite h.chAbort (.ite h.setChan h)))
theorem SupplyKept.tkErrLast (h : SupplyKept r s) {st opc m} : SupplyKept r (s.tkErrLast st opc m) := h.setReg
theorem SupplyKept.tkBad (h : SupplyKept r s) {j st fault} : SupplyKept r (s.tkBad j st fault) :=
  .ite ((SupplyKept.count (.ite (SupplyKept.incReg (.ite h.tkErrLast h.tkErrLast.count)) h.tkErrLast)).incReg) (.ite (SupplyKept.incReg
    (.ite h.tkErrLast h.tkErrLast.count)) h.tkErrLast)
theorem SupplyKept.tkUsed (h : SupplyKept r s) {k} : SupplyKept r (s.tkUsed k) := .ite h.lastUse h
theorem SupplyKept.tkFinish (h : SupplyKept r s) {j st detail result} : SupplyKept r (s.tkFinish j st detail result) := h.complete.tkUsed.tkUsed.reap
theorem SupplyKept.tkFail (h : SupplyKept r s) {j st detail fault} : SupplyKept r (s.tkFail j st detail fault) := h.tkBad.tkFinish
theorem SupplyKept.keyOp (h : SupplyKept r s) {src d opc io} : SupplyKept r (s.keyOp src d opc io) :=
  h.celJob (fun h => .ite h.keyWrap (.ite h.keyUnload h.keyQuery))
theorem SupplyKept.keyPump (h : SupplyKept r s) {fuel} : SupplyKept r (s.keyPump fuel) := by
  induction fuel generalizing s with
  | zero => exact h
  | succ k ih =>
    unfold State.keyPump
    split
    · exact h
    · split
      · exact h
      · exact ih h.update.keyOp
theorem SupplyKept.keyGo (h : SupplyKept r s) : SupplyKept r s.keyGo := h.keyPump
theorem SupplyKept.tkCut (h : SupplyKept r s) {j st} : SupplyKept r (s.tkCut j st) := .ite h.complete h.tkFail
theorem SupplyKept.tkStop (h : SupplyKept r s) {p st} : SupplyKept r (s.tkStop p st) := (h.update.foldl (fun h => h.macDrop)).foldl (fun h => h.tkCut)
theorem SupplyKept.tkIssuerReset (h : SupplyKept r s) {m} : SupplyKept r (s.tkIssuerReset m) := h.tkStop.keyGo
theorem SupplyKept.hDone (h : SupplyKept r s) {src opc st result detail outAddr out} : SupplyKept r (s.hDone src opc st result detail outAddr out) :=
  .ite h.out h.putOut.complete
theorem SupplyKept.setVersion (h : SupplyKept r s) {mctp v} : SupplyKept r (s.setVersion mctp v) := by
  unfold State.setVersion
  exact .ite h.update h.update
theorem SupplyKept.modCmd (h : SupplyKept r s) {f} : SupplyKept r (s.modCmd f) := h.update
theorem SupplyKept.eraseBlocks (h : SupplyKept r s) {p cs a n} : SupplyKept r (s.eraseBlocks p cs a n) := h.foldl (fun h => h.eraseAt)
theorem SupplyKept.homeErase (h : SupplyKept r s) {off n} : SupplyKept r (s.homeErase off n) := h.eraseBlocks
theorem SupplyKept.recPut (h : SupplyKept r s) {slot timeout x} : SupplyKept r (s.recPut slot timeout x) := h.enqueue.modCmd
theorem SupplyKept.halfSwitch (h : SupplyKept r s) : SupplyKept r s.halfSwitch := by
  unfold State.halfSwitch
  exact h.homeErase.modCmd
theorem SupplyKept.recCommit (h : SupplyKept r s) {slot timeout x} : SupplyKept r (s.recCommit slot timeout x) :=
  .ite h.recPut (by split; exacts [h, h.halfSwitch.recPut.modCmd])
theorem SupplyKept.modIssuers (h : SupplyKept r s) {f} : SupplyKept r (s.modIssuers f) := h.modCmd
theorem SupplyKept.cmdRecord (h : SupplyKept r s) {j} : SupplyKept r (s.cmdRecord j) := h.flight
theorem SupplyKept.envReply (h : SupplyKept r s) {j st result detail out} : SupplyKept r (s.envReply j st result detail out) := .ite h h.hDone
theorem SupplyKept.markWait (h : SupplyKept r s) : SupplyKept r s.markWait := .ite h.modCmd h
theorem SupplyKept.envTake (h : SupplyKept r s) {j} : SupplyKept r (s.envTake j) :=
  .ite h.envReply (.ite h.modIssuers.cmdRecord.modCmd h.modIssuers.cmdRecord.envReply)
theorem SupplyKept.establish (h : SupplyKept r s) {j id rights pub fin} (hfin : ∀ {t x1}, SupplyKept r t → SupplyKept r (fin t x1)) :
    SupplyKept r (s.establish j id rights pub fin) :=
  .ite (hfin h) (.ite (hfin h) (by split; exacts [hfin h, hfin h.noSlot, hfin h, h.putCtx.wrapped.drew.recCommit.modCmd]))
theorem SupplyKept.bootTake (h : SupplyKept r s) {j} : SupplyKept r (s.bootTake j) :=
  .ite h.envReply (.ite h.newNonce.envReply (h.newNonce.cmdRecord.establish (fun h => h.envReply)))
theorem SupplyKept.envPump (h : SupplyKept r s) {fuel} : SupplyKept r (s.envPump fuel) := by
  induction fuel generalizing s with
  | zero => exact h
  | succ n ih =>
    unfold State.envPump
    split
    · exact .ite h.markWait (ih (.ite h.modCmd.bootTake h.modCmd.envTake))
    · exact h.markWait
theorem SupplyKept.envRun (h : SupplyKept r s) : SupplyKept r s.envRun := h.envPump
theorem SupplyKept.cmdReset (h : SupplyKept r s) {mctp} : SupplyKept r (s.cmdReset mctp) := (h.setVersion.modCmd.foldl (fun h => h.envReply)).envRun
theorem SupplyKept.modHq (h : SupplyKept r s) {f} : SupplyKept r (s.modHq f) := h.update
theorem SupplyKept.expFail (h : SupplyKept r s) {st} : SupplyKept r (s.expFail st) := h.update
theorem SupplyKept.expReset (h : SupplyKept r s) {m} : SupplyKept r (s.expReset m) := .ite h.expFail h
theorem SupplyKept.masterReset (h : SupplyKept r s) {m} : SupplyKept r (s.masterReset m) :=
  h.digIssuerReset.measIssuerReset.celIssuerReset.tkIssuerReset.semReclaim.mbxReset.expReset
theorem SupplyKept.queueReset (h : SupplyKept r s) {q} : SupplyKept r (s.queueReset q) := h.setQueue.foldl (fun h => h.setReg)
theorem SupplyKept.msixReset (h : SupplyKept r s) {f} : SupplyKept r (s.msixReset f) := h.foldl (fun h => h.setPba.foldl (fun h => h.setReg))
theorem SupplyKept.vfReset (h : SupplyKept r s) {v} : SupplyKept r (s.vfReset v) :=
  h.queueReset.queueReset.queueReset.msixReset.setFn.stallDrop.masterReset.destroyOwner
theorem SupplyKept.vfsGone (h : SupplyKept r s) {n} : SupplyKept r (s.vfsGone n) := by
  unfold State.vfsGone
  exact (h.foldl (fun h => h.vfReset)).modHq
theorem SupplyKept.pfReset (h : SupplyKept r s) : SupplyKept r s.pfReset :=
  (((((((h.foldl (fun h => h.queueReset)).msixReset).setFn).stallDrop).vfsGone).masterReset).cmdReset).stageReset
theorem SupplyKept.linkDown (h : SupplyKept r s) : SupplyKept r s.linkDown := .ite h (((h.pfReset.foldl (fun h => h.semReclaim)).modHq).count)
theorem SupplyKept.modCvn (h : SupplyKept r s) {f} : SupplyKept r (s.modCvn f) := h.update
theorem SupplyKept.modLink (h : SupplyKept r s) {p f} : SupplyKept r (s.modLink p f) := h.setLink
theorem SupplyKept.slotFree (h : SupplyKept r s) {o} : SupplyKept r (s.slotFree o) := by
  unfold State.slotFree
  split
  · exact .ite h.modLink h
  · exact h
theorem SupplyKept.copyGone (h : SupplyKept r s) {e} : SupplyKept r (s.copyGone e) := .ite h h.slotFree
theorem SupplyKept.linkLost (h : SupplyKept r s) {p} : SupplyKept r (s.linkLost p) :=
  (h.modLink.foldl (fun h => h.copyGone)).foldl (fun h => h.modLink)
theorem SupplyKept.linkLeave (h : SupplyKept r s) {p st cause} : SupplyKept r (s.linkLeave p st cause) :=
  .ite ((SupplyKept.setLink (.ite h.linkLost.destroy h.linkLost)).count) (SupplyKept.setLink (.ite h.linkLost.destroy h.linkLost))
theorem SupplyKept.cvnDown (h : SupplyKept r s) : SupplyKept r s.cvnDown := (h.foldl (fun h => h.linkLeave.modLink)).modCvn
theorem SupplyKept.hostStop (h : SupplyKept r s) : SupplyKept r s.hostStop := h.linkDown.cvnDown

end

end Sys2Proof.Machine
end

section
/-! PROOFS. O31: line states, crossings that do not come, the hold-up estimate and hold-up mode (R311 to R314, R332, R649, R650). -/
namespace Sys2Proof.Machine

/-! ### The line changes its state -/

/-- `t` is `s` after the line was judged: the Cistern, what a record and an event reach, and no count but those of the line differ. -/
structure State.Judged (s t : State) : Prop where
  frame : t = { s.recorded t with cis := t.cis }
  events : ∀ k, k < 340 → k ≠ evCis 0 → k ≠ evCis 1 → t.evt k = s.evt k

section
variable {r s t : State}

theorem judged_trans (hrs : r.Judged s) (hst : s.Judged t) : r.Judged t where
  frame := Eq.trans hst.frame (congrArg (fun x : State => { x.recorded t with cis := t.cis }) hrs.frame)
  events k hk h0 h1 := (hst.events k hk h0 h1).trans (hrs.events k hk h0 h1)

theorem judged_modCis (s : State) (f : CisState → CisState) : s.Judged (s.modCis f) := ⟨rfl, fun _ _ _ _ => rfl⟩

theorem judged_count (s : State) (k : Nat) (hk : k = evCis 0 ∨ k = evCis 1) : s.Judged (s.count k) where
  frame := by
    have h := State.count_routed s k
    have hcis : (s.count k).cis = s.cis := by simp
    generalize s.count k = u at h hcis ⊢
    rw [hcis]
    exact h.trans (by rw [h]; rfl)
  events i _ h0 h1 := by
    rw [State.evt_count, if_neg]
    rintro rfl
    exact hk.elim h0 h1

theorem judged_flight (s : State) (type : Nat) (src : Master) (body : Bytes) : s.Judged (s.flight type src body) where
  frame := by
    have h := State.flight_recorded s type src body
    have hcis : (s.flight type src body).cis = s.cis := by simp
    generalize s.flight type src body = u at h hcis ⊢
    rw [hcis]
    exact h
  events k hk _ _ := evt_flight_low s type src body k hk

end

/-- The Cistern once the line is in a state that it was not in (R305, R311). -/
def State.lineAt (s : State) (l : LineSt) (c : CisState) : CisState :=
  { c with
    line := l, goodRun := if l = .lost then 0 else c.goodRun
    len := if l = .dcFeed then s.nominal else if s.cis.line = .dcFeed ∧ s.cis.locked then s.cis.period else s.cis.len }

/-- The line in a new state, before what wakes on its return (R599). -/
def State.lineTold (s : State) (l : LineSt) : State :=
  let u := (s.modCis (s.lineAt l)).count (evCis 0)
  u.flight 0x09 0x47 (leBytes 4 u.lineStatus.toNat ++ leBytes 4 u.huEst.toNat)

theorem lineTo_eq (s : State) (l : LineSt) : s.lineTo l =
    if s.cis.line = l then s
    else if s.cis.line = .lost ∧ l = .disturbed then (s.lineTold l).wake 3 else s.lineTold l := rfl

theorem lineTold_spec (s : State) (l : LineSt) :
    s.Judged (s.lineTold l) ∧ (s.lineTold l).cis = s.lineAt l s.cis ∧ (s.lineTold l).evt (evCis 0) = (s.evt (evCis 0)).bump ∧
      (s.lineTold l).evt (evCis 1) = s.evt (evCis 1) := by
  have hcount := judged_trans (judged_modCis s (s.lineAt l)) (judged_count (s.modCis (s.lineAt l)) (evCis 0) (Or.inl rfl))
  have hcis : ((s.modCis (s.lineAt l)).count (evCis 0)).cis = s.lineAt l s.cis := by simp [State.modCis]
  have hevt : ∀ k, ((s.modCis (s.lineAt l)).count (evCis 0)).evt k = if k = evCis 0 then (s.evt (evCis 0)).bump else s.evt k := fun k =>
    State.evt_count _ _ _
  have heq : s.lineTold l = ((s.modCis (s.lineAt l)).count (evCis 0)).flight 0x09 0x47
    (leBytes 4 ((s.modCis (s.lineAt l)).count (evCis 0)).lineStatus.toNat ++ leBytes 4 ((s.modCis (s.lineAt l)).count (evCis 0)).huEst.toNat) := rfl
  rw [heq]
  generalize (s.modCis (s.lineAt l)).count (evCis 0) = u at hcount hcis hevt ⊢
  generalize leBytes 4 u.lineStatus.toNat ++ leBytes 4 u.huEst.toNat = b
  refine ⟨judged_trans hcount (judged_flight u 0x09 0x47 b), ?_, ?_, ?_⟩
  · rw [← hcis]
    simp
  · rw [evt_flight_low _ _ _ _ _ (by decide), hevt, if_pos rfl]
  · rw [evt_flight_low _ _ _ _ _ (by decide), hevt, if_neg (by decide)]

/-- A change of the line state on which nothing wakes (R311). -/
theorem lineTo_told (s : State) (l : LineSt) (hne : s.cis.line ≠ l) (hwake : s.cis.line ≠ .lost ∨ l ≠ .disturbed) :
    s.lineTo l = s.lineTold l := by
  rw [lineTo_eq, if_neg hne, if_neg]
  rintro ⟨h1, h2⟩
  exact hwake.elim (fun h => h h1) fun h => h h2

/-- A half-cycle out of tolerance on a line that follows crossings (R310, R311). -/
theorem lineFault_spec (s : State) (code : Nat) (hline : s.cis.line = .healthy ∨ s.cis.line = .disturbed) :
    let t := s.lineFault code
    t.cis.lastFault = code ∧ t.cis.line = .disturbed ∧ t.cis.goodRun = 0 ∧ t.cis.judged = s.cis.judged ∧
    t.evt (evCis 1) = (s.evt (evCis 1)).bump ∧ t = { s.recorded t with cis := t.cis } := by
  have hcount := judged_trans (judged_modCis s (fun c => { c with goodRun := 0, lastFault := code }))
    (judged_count (s.modCis (fun c => { c with goodRun := 0, lastFault := code })) (evCis 1) (Or.inr rfl))
  have hcis : ((s.modCis (fun c => { c with goodRun := 0, lastFault := code })).count (evCis 1)).cis =
      { s.cis with goodRun := 0, lastFault := code } := by simp [State.modCis]
  have hevt : ((s.modCis (fun c => { c with goodRun := 0, lastFault := code })).count (evCis 1)).evt (evCis 1) = (s.evt (evCis 1)).bump :=
    (State.evt_count _ _ _).trans (if_pos rfl)
  have heq : s.lineFault code = if ((s.modCis (fun c => { c with goodRun := 0, lastFault := code })).count (evCis 1)).cis.line = .healthy
      then ((s.modCis (fun c => { c with goodRun := 0, lastFault := code })).count (evCis 1)).lineTo .disturbed
      else (s.modCis (fun c => { c with goodRun := 0, lastFault := code })).count (evCis 1) := rfl
  dsimp only
  rw [heq]
  generalize (s.modCis (fun c => { c with goodRun := 0, lastFault := code })).count (evCis 1) = u at hcount hcis hevt ⊢
  have hline' : u.cis.line = s.cis.line := by rw [hcis]
  split_ifs with hh
  · rw [lineTo_told u .disturbed (by rw [hh]; decide) (Or.inl (by rw [hh]; decide))]
    obtain ⟨hj, hc, -, h1⟩ := lineTold_spec u .disturbed
    refine ⟨?_, ?_, ?_, ?_, h1.trans hevt, (judged_trans hcount hj).frame⟩ <;> rw [hc, State.lineAt, hcis]
    rfl
  · have hdist : u.cis.line = .disturbed := hline'.trans (hline.resolve_left (fun h => hh (hline'.trans h)))
    refine ⟨by rw [hcis], hdist, by rw [hcis], by rw [hcis], hevt, hcount.frame⟩

/-! ### Crossings -/

/-- `t` took its pulse and its B crossing where `s` did, and has counted no more stand-ins of B (R312). -/
def State.sameInput (s t : State) : Prop :=
  t.cis.lastPulse = s.cis.lastPulse ∧ t.cis.onB = s.cis.onB ∧ t.cis.bCross = s.cis.bCross ∧ t.evt (evCis 11) = s.evt (evCis 11)

section
variable {r s t : State}

theorem sameInput_refl (s : State) : s.sameInput s := ⟨rfl, rfl, rfl, rfl⟩

theorem sameInput_trans (hrs : r.sameInput s) (hst : s.sameInput t) : r.sameInput t := by
  obtain ⟨h1, h2, h3, h4⟩ := hrs
  obtain ⟨h1', h2', h3', h4'⟩ := hst
  exact ⟨h1'.trans h1, h2'.trans h2, h3'.trans h3, h4'.trans h4⟩

theorem sameInput_lineTo (s : State) (l : LineSt) : s.sameInput (s.lineTo l) := by
  obtain ⟨hj, hc, -, -⟩ := lineTold_spec s l
  have htold : s.sameInput (s.lineTold l) := ⟨by rw [hc]; rfl, by rw [hc]; rfl, by rw [hc]; rfl, hj.events _ (by decide) (by decide) (by decide)⟩
  rw [lineTo_eq]
  split_ifs
  · exact sameInput_refl s
  · refine sameInput_trans htold ?_
    unfold State.wake
    split_ifs <;> exact sameInput_refl _
  · exact htold

theorem sameInput_lineFault (s : State) (code : Nat) : s.sameInput (s.lineFault code) := by
  have hcount : s.sameInput ((s.modCis (fun c => { c with goodRun := 0, lastFault := code })).count (evCis 1)) :=
    ⟨by simp [State.modCis], by simp [State.modCis], by simp [State.modCis], (State.evt_count _ _ _).trans (if_neg (by decide))⟩
  unfold State.lineFault
  dsimp only
  split_ifs
  · exact sameInput_trans hcount (sameInput_lineTo _ _)
  · exact hcount

theorem sameInput_seen (s : State) (next : Bool) (err : Int) (ok : Bool) : s.sameInput (s.modCis (fun c => c.seen next err ok)) := by
  unfold State.modCis CisState.seen
  dsimp only
  split_ifs <;> exact sameInput_refl _

theorem sameInput_accepted (s : State) (tc width iv : Nat) (next : Bool) (err : Int) : s.sameInput (s.accepted tc width iv next err) := by
  have hlast : ∀ u : State, u.sameInput (u.modCis (fun c => let c := c.seen next err (s.crossFault iv width err == 0)
      if c.line = .lost then c else { c with period := iv, locked := true, len := slewed iv err })) := fun u => by
    refine sameInput_trans (sameInput_seen u next err (s.crossFault iv width err == 0)) ?_
    unfold State.modCis
    dsimp only
    split_ifs <;> exact sameInput_refl _
  have hstart : s.sameInput (s.modCis (fun c => { c with phaseErr := err, width := width, lastAcc := tc })) := ⟨rfl, rfl, rfl, rfl⟩
  unfold State.accepted
  refine sameInput_trans ?_ (hlast _)
  generalize s.modCis (fun c => { c with phaseErr := err, width := width, lastAcc := tc }) = u at hstart
  have hleft : s.sameInput (if (u.cis.line == .lost || u.cis.line == .dcFeed) && !u.pfwOn then u.lineTo .disturbed else u) := by
    split_ifs
    · exact sameInput_trans hstart (sameInput_lineTo u _)
    · exact hstart
  generalize (if (u.cis.line == .lost || u.cis.line == .dcFeed) && !u.pfwOn then u.lineTo .disturbed else u) = v at hleft
  dsimp only
  split_ifs
  · exact sameInput_trans hleft (sameInput_lineFault v _)
  · exact sameInput_trans (sameInput_trans hleft ⟨rfl, rfl, rfl, rfl⟩)
      (sameInput_lineTo (v.modCis (fun c => { c with goodRun := min 7 (c.goodRun + 1) })) _)
  · exact sameInput_trans hleft ⟨rfl, rfl, rfl, rfl⟩

theorem sameInput_rejected (s : State) (next : Bool) (err : Int) : s.sameInput (s.rejected next err) :=
  sameInput_trans (sameInput_trans (s := s.incReg (aCis0 0x70)) ⟨rfl, rfl, rfl, rfl⟩ (sameInput_lineFault _ 5)) (sameInput_seen _ next err false)

/-- What a crossing leaves of its input: its time and the input it came on (R303, R312). -/
theorem crossing_spec (s : State) (tc width : Nat) (onB : Bool) :
    (s.modCis (fun c => { c with lastPulse := tc, onB := onB })).sameInput (s.crossing tc width onB) := by
  unfold State.crossing
  dsimp only
  generalize s.cis.place (s.clk * 100 - tc) = pl
  generalize s.modCis (fun c => { c with lastPulse := tc, onB := onB }) = u
  cases u.cis.ref with
  | none =>
    refine sameInput_trans (s := (u.incReg (aCis0 0x70)).modCis (fun c => c.seen pl.1 pl.2 false)) ?_ ⟨rfl, rfl, rfl, rfl⟩
    exact sameInput_trans (s := u.incReg (aCis0 0x70)) ⟨rfl, rfl, rfl, rfl⟩ (sameInput_seen _ _ _ _)
  | some rf =>
    dsimp only
    have href : u.sameInput (if tc - rf < 758000 then u else u.modCis (fun c => { c with ref := some tc })) := by
      split_ifs <;> exact ⟨rfl, rfl, rfl, rfl⟩
    generalize (if tc - rf < 758000 then u else u.modCis (fun c => { c with ref := some tc })) = v at href ⊢
    split_ifs
    · exact sameInput_trans href (sameInput_accepted v _ _ _ _ _)
    · exact sameInput_trans href (sameInput_rejected v _ _)

end

/-- B stands in where A has brought no crossing (R312). -/
theorem halfMissing_standIn (s : State) (tc w : Nat) (h : s.bStandIn = some (tc, w)) :
    let t := s.halfMissing
    t.cis.judged = true ∧ t.cis.onB = true ∧ t.cis.lastPulse = tc ∧ t.cis.bCross = none ∧ t.evt (evCis 11) = (s.evt (evCis 11)).bump := by
  have heq : s.halfMissing =
      (((s.modCis (fun c => { c with bCross := none })).crossing tc w true).count (evCis 11)).modCis (fun c => { c with judged := true }) := by
    unfold State.halfMissing
    rw [h]
  obtain ⟨hpulse, hon, hcross, hevt⟩ := crossing_spec (s.modCis (fun c => { c with bCross := none })) tc w true
  dsimp only
  rw [heq]
  generalize (s.modCis (fun c => { c with bCross := none })).crossing tc w true = u at hpulse hon hcross hevt ⊢
  have hcis : (u.count (evCis 11)).cis = u.cis := by simp
  have hcount : (u.count (evCis 11)).evt (evCis 11) = (s.evt (evCis 11)).bump := by
    rw [State.evt_count, if_pos rfl, hevt]
    rfl
  generalize u.count (evCis 11) = v at hcis hcount ⊢
  refine ⟨rfl, ?_, ?_, ?_, hcount⟩
  · exact (congrArg CisState.onB hcis).trans hon
  · exact (congrArg CisState.lastPulse hcis).trans hpulse
  · exact (congrArg CisState.bCross hcis).trans hcross

theorem halfMissing_none (s : State) (h : s.bStandIn = none) : s.halfMissing =
    if s.missLu * 2 ^ 20 ≤ s.cis.ph ∧ (s.cis.line = .healthy ∨ s.cis.line = .disturbed)
    then (s.modCis (fun c => { c with judged := true })).lineFault 4 else s := by
  unfold State.halfMissing
  rw [h]

/-! ### The hold-up estimate -/

/-- `t` holds the samples and the position that `s` does. -/
def State.sameSense (s t : State) : Prop :=
  t.cis.code = s.cis.code ∧ t.cis.codeSeen = s.cis.codeSeen ∧ t.cis.samples = s.cis.samples ∧ t.cis.hc = s.cis.hc ∧ t.cis.line = s.cis.line

/-- The estimate recomputed, before the feed is left (R314, R315). -/
def State.estimated (s : State) (free : Bool) (est : Nat) : State :=
  ((if free then s.freed else s).modCis (fun c => { c with estUs := est, estValid := (if free then s.freed else s).adcOk })).holdUpEvent

theorem holdUpEvent_spec (s : State) : s.sameSense s.holdUpEvent ∧ s.holdUpEvent = { s.routed s.holdUpEvent with cis := s.holdUpEvent.cis } := by
  unfold State.holdUpEvent
  dsimp only
  generalize decide (s.cis.estUs < 5000 + s.fldOf (aCis1 0x58) 15 0) = low
  split_ifs
  · have hcount := State.count_routed (s.modCis (fun c => { c with estLow := low, validWas := s.huValid })) (evCis 7)
    have hcis : ((s.modCis (fun c => { c with estLow := low, validWas := s.huValid })).count (evCis 7)).cis =
        { s.cis with estLow := low, validWas := s.huValid } := by simp [State.modCis]
    generalize (s.modCis (fun c => { c with estLow := low, validWas := s.huValid })).count (evCis 7) = u at hcount hcis ⊢
    refine ⟨⟨by rw [hcis], by rw [hcis], by rw [hcis], by rw [hcis], by rw [hcis]⟩, ?_⟩
    rw [hcount]
    rfl
  · exact ⟨⟨rfl, rfl, rfl, rfl, rfl⟩, rfl⟩

theorem estimated_spec (s : State) (free : Bool) (est : Nat) : s.sameSense (s.estimated free est) ∧
    s.estimated free est = { s.routed (s.estimated free est) with cis := (s.estimated free est).cis, freeCtr := (s.estimated free est).freeCtr } := by
  unfold State.estimated
  obtain ⟨⟨h1, h2, h3, h4, h5⟩, hframe⟩ := holdUpEvent_spec
    ((if free then s.freed else s).modCis (fun c => { c with estUs := est, estValid := (if free then s.freed else s).adcOk }))
  generalize (if free then s.freed else s).adcOk = ok at *
  generalize ((if free then s.freed else s).modCis (fun c => { c with estUs := est, estValid := ok })).holdUpEvent = t at *
  refine ⟨?_, ?_⟩
  · cases free <;> exact ⟨h1, h2, h3, h4, h5⟩
  · rw [hframe]
    cases free <;> rfl

theorem estimate_eq (s : State) : ∃ free est, s.estimate =
    if (s.estimated free est).cis.line == .dcFeed && !(s.estimated free est).dcHigh then (s.estimated free est).lineTo .lost
    else s.estimated free est := ⟨_, _, rfl⟩

/-- The Cistern with a sample in its window (R313). -/
def State.senseCis (s : State) (code : Nat) (fault : Option Nat) (c : CisState) : CisState :=
  { c with
    code := code, codeSeen := true, faultAt := fault
    samples := s.cis.samples.filter (fun x => decide (s.clk < x.1 + s.trWindow)) ++ [(s.clk, code)] }

/-- The state with a sample in its window, before the estimate (R313). -/
def State.sensed (s : State) (code : Nat) (fault : Option Nat) (enters : Bool) : State :=
  if enters then (s.modCis (s.senseCis code fault)).count (evCis 13) else s.modCis (s.senseCis code fault)

theorem sensed_spec (s : State) (code : Nat) (fault : Option Nat) (enters : Bool) :
    (s.sensed code fault enters).cis = s.senseCis code fault s.cis ∧
    s.sensed code fault enters = { s.routed (s.sensed code fault enters) with cis := (s.sensed code fault enters).cis } := by
  unfold State.sensed
  cases enters with
  | false => exact ⟨rfl, rfl⟩
  | true =>
    have hcount := State.count_routed (s.modCis (s.senseCis code fault)) (evCis 13)
    have hcis : ((s.modCis (s.senseCis code fault)).count (evCis 13)).cis = s.senseCis code fault s.cis := by simp [State.modCis]
    rw [if_pos rfl]
    generalize (s.modCis (s.senseCis code fault)).count (evCis 13) = u at hcount hcis ⊢
    refine ⟨hcis, ?_⟩
    rw [hcount]
    rfl

theorem sample_eq (s : State) (code : Nat) : ∃ fault enters, s.sample code = (s.sensed code fault enters).estimate := ⟨_, _, rfl⟩

theorem estimate_spec (s : State) : s.estimate.cis.code = s.cis.code ∧ s.estimate.cis.codeSeen = s.cis.codeSeen ∧
    s.estimate.cis.samples = s.cis.samples ∧ s.estimate.cis.hc = s.cis.hc ∧
    (s.cis.line ≠ .dcFeed → s.estimate = { s.routed s.estimate with cis := s.estimate.cis, freeCtr := s.estimate.freeCtr }) := by
  obtain ⟨free, est, heq⟩ := estimate_eq s
  obtain ⟨⟨h1, h2, h3, h4, h5⟩, hframe⟩ := estimated_spec s free est
  rw [heq]
  generalize s.estimated free est = u at h1 h2 h3 h4 h5 hframe ⊢
  split_ifs with hleave
  · have hfeed : u.cis.line = .dcFeed := by
      simp only [Bool.and_eq_true, beq_iff_eq] at hleave
      exact hleave.1
    obtain ⟨-, hcis, -, -⟩ := lineTold_spec u .lost
    rw [lineTo_told u .lost (by rw [hfeed]; decide) (Or.inr (by decide)), hcis]
    exact ⟨h1, h2, h3, h4, fun hno => absurd (h5.symm.trans hfeed) hno⟩
  · exact ⟨h1, h2, h3, h4, fun _ => hframe⟩

/-- A sample joins the window, and those that have left it go (R313). -/
theorem sample_spec (s : State) (code : Nat) :
    let t := s.sample code
    t.cis.code = code ∧ t.cis.codeSeen = true ∧ t.cis.samples.getLast? = some (s.clk, code) ∧
    (∀ x ∈ t.cis.samples, s.clk < x.1 + s.trWindow ∨ x = (s.clk, code)) ∧
    (s.cis.line ≠ .dcFeed → t = { s.routed t with cis := t.cis, freeCtr := t.freeCtr }) ∧ t.cis.hc = s.cis.hc := by
  obtain ⟨fault, enters, heq⟩ := sample_eq s code
  obtain ⟨hcis, hframe⟩ := sensed_spec s code fault enters
  dsimp only
  rw [heq]
  generalize s.sensed code fault enters = u at hcis hframe ⊢
  obtain ⟨h1, h2, h3, h4, hfr⟩ := estimate_spec u
  have hsamples : u.estimate.cis.samples = s.cis.samples.filter (fun x => decide (s.clk < x.1 + s.trWindow)) ++ [(s.clk, code)] :=
    by rw [h3, hcis]; rfl
  refine ⟨by rw [h1, hcis]; rfl, by rw [h2, hcis]; rfl, ?_, fun x hx => ?_, fun hline => ?_, by rw [h4, hcis]; rfl⟩
  · rw [hsamples, List.getLast?_concat]
  · rw [hsamples, List.mem_append, List.mem_filter, List.mem_singleton, decide_eq_true_eq] at hx
    exact hx.imp (fun h => h.2) id
  · have hestimate := hfr ((congrArg CisState.line hcis).trans_ne hline)
    generalize u.estimate = t at hestimate ⊢
    rw [hestimate, hframe]
    rfl

/-! ### Hold-up mode -/

/-- PF_WARN_N shown and counted (R335). -/
def State.warned (s : State) : State := (s.modCis (fun c => { c with pfw := true })).count (evCis 2)

theorem warned_spec (s : State) : s.warned.cis = { s.cis with pfw := true } ∧ s.warned.evt (evCis 2) = (s.evt (evCis 2)).bump ∧
    s.warned = { s.routed s.warned with cis := { s.cis with pfw := true } } := by
  have hcount := State.count_routed (s.modCis (fun c => { c with pfw := true })) (evCis 2)
  have hcis : s.warned.cis = { s.cis with pfw := true } := by simp [State.warned, State.modCis]
  refine ⟨hcis, (State.evt_count _ _ _).trans (if_pos rfl), ?_⟩
  unfold State.warned
  generalize (s.modCis (fun c => { c with pfw := true })).count (evCis 2) = u at hcount ⊢
  rw [hcount]
  rfl

/-- PF_WARN_N with PFW_EN leaves the line LOST (R311). -/
theorem pfwLost_spec (s : State) (h : s.pfwOn = true) : s.pfwLost.cis.line = .lost ∧ s.pfwLost.cis.pfw = s.cis.pfw ∧ s.pfwLost.pwr = s.pwr := by
  unfold State.pfwLost
  by_cases hl : s.cis.line = .lost
  · rw [if_neg (by simp [hl])]
    exact ⟨hl, rfl, rfl⟩
  · rw [if_pos (by simp [h, hl])]
    obtain ⟨hj, hcis, -, -⟩ := lineTold_spec (s.modCis (fun c => { c with lastFault := 6 })) .lost
    rw [lineTo_told (s.modCis (fun c => { c with lastFault := 6 })) .lost hl (Or.inr (by decide))]
    have hframe := hj.frame
    generalize (s.modCis (fun c => { c with lastFault := 6 })).lineTold .lost = t at hcis hframe ⊢
    refine ⟨by rw [hcis]; rfl, by rw [hcis]; rfl, ?_⟩
    rw [hframe]
    rfl

theorem pfWarn_eq (s : State) (h : s.cis.pfw = false) : s.pfWarn =
    if !s.warned.pfwEn then s.warned
    else if s.warned.pfwLost.coreUp then (s.warned.pfwLost.modPwr (fun p => { p with holdup := true, pfwReleasedAt := none })).hostStop
    else s.warned.pfwLost := if_neg (by rw [h]; decide)

/-- PF_WARN_N goes low (R311, R649). -/
theorem pfWarn_spec (s : State) (h : s.cis.pfw = false) :
    s.pfWarn.cis.pfw = true ∧
    (s.pfwEn = false → s.pfWarn.evt (evCis 2) = (s.evt (evCis 2)).bump ∧
      s.pfWarn = { s.routed s.pfWarn with cis := { s.cis with pfw := true } }) ∧
    (s.pfwEn = true → s.pfWarn.cis.line = .lost ∧ (s.coreUp = true → s.pfWarn.pwr.holdup = true ∧ s.pfWarn.pwr.pfwReleasedAt = none)) := by
  obtain ⟨hcis, hevt, hframe⟩ := warned_spec s
  have heq := pfWarn_eq s h
  have hen : s.warned.pfwEn = s.pfwEn := by
    rw [hframe]
    rfl
  have hup : s.warned.coreUp = s.coreUp := by
    rw [hframe]
    rfl
  generalize s.warned = u at hcis hevt hframe heq hen hup
  cases hpfw : s.pfwEn with
  | false =>
    rw [hen, hpfw] at heq
    have hsame : s.pfWarn = u := heq
    rw [hsame]
    exact ⟨by rw [hcis], fun _ => ⟨hevt, hframe⟩, fun hon => absurd hon (by decide)⟩
  | true =>
    have hon : u.pfwOn = true := by
      have hbit : u.bitOf (aCis0 0x40) 3 = true := hen.trans hpfw
      rw [State.pfwOn, hcis, hbit]
      rfl
    obtain ⟨hline, hlevel, hpwr⟩ := pfwLost_spec u hon
    rw [hen, hpfw] at heq
    have hcore : u.pfwLost.coreUp = s.coreUp := by rw [State.coreUp, hpwr, ← hup, State.coreUp]
    have hlevel' : u.pfwLost.cis.pfw = true := by rw [hlevel, hcis]
    have hlost : s.pfWarn = if u.pfwLost.coreUp then (u.pfwLost.modPwr (fun p => { p with holdup := true, pfwReleasedAt := none })).hostStop
      else u.pfwLost := heq
    rw [hcore] at hlost
    generalize u.pfwLost = v at hline hlevel' hlost
    rw [hlost]
    cases hc : s.coreUp with
    | false => exact ⟨hlevel', fun hno => absurd hno (by decide), fun _ => ⟨hline, fun hno => absurd hno (by decide)⟩⟩
    | true =>
      have hkept := (SupplyKept.refl (v.modPwr (fun p => { p with holdup := true, pfwReleasedAt := none }))).hostStop
      rw [if_pos rfl]
      generalize (v.modPwr (fun p => { p with holdup := true, pfwReleasedAt := none })).hostStop = t at hkept ⊢
      refine ⟨hkept.pfw.trans hlevel', fun hno => absurd hno (by decide), fun _ => ⟨hkept.line.trans hline, fun _ => ?_⟩⟩
      rw [hkept.pwr]
      exact ⟨rfl, rfl⟩

/-- Ports that seek block lock are not UP before or after (R532, R597). -/
theorem linkSeek_spec (s : State) :
    s.linkSeek = { s with cvn := s.linkSeek.cvn } ∧ ∀ p, (s.linkSeek.link p).st = .up ↔ (s.link p).st = .up := by
  unfold State.linkSeek
  refine List.foldlRecOn (motive := fun t : State => t = { s with cvn := t.cvn } ∧ ∀ p, (t.link p).st = .up ↔ (s.link p).st = .up) _ _
    ⟨rfl, fun _ => Iff.rfl⟩ fun t ht p _ => ?_
  obtain ⟨hframe, hst⟩ := ht
  split_ifs with hdown
  · refine ⟨?_, fun q => ?_⟩
    · rw [hframe]
      rfl
    · rw [link_modLink]
      split_ifs with hq
      · have hp : (t.link p).st = .down := by
          simp only [Bool.and_eq_true, beq_iff_eq] at hdown
          exact hdown.2
        rw [hq, ← hst p, hp]
        simp
      · exact hst q
  · exact ⟨hframe, hst⟩

/-! ### The obligation -/

/-- Settles O31. The line changes its state as `lineTold_spec` says, and a fault as `lineFault_spec`; B stands in through a crossing that leaves
its input alone (`crossing_spec`); a sample joins the window (`sample_spec`); hold-up mode stops the host's work, which leaves the supplies
and the line (`SupplyKept.hostStop`). -/
theorem theLineIsLostAndHoldUpModeHolds : Obligations.TheLineIsLostAndHoldUpModeHolds := by
  unfold Obligations.TheLineIsLostAndHoldUpModeHolds
  intro s haon
  refine ⟨fun hno => ?notMissing, fun hacq hjudged hph => ?missing, fun hline hlate => ?lost, fun hline hpfw hen hhigh hlate => ?feed,
    fun code => ?sample, fun hpfw => ?warn, fun hpfw => ?warned, fun rel hhold hok hpfw hrel => ?exit⟩
  case notMissing =>
    refine congrArg Host.Outcome.next (if_neg ?_)
    simp only [State.aMissing, Bool.and_eq_true, Bool.not_eq_true', decide_eq_true_eq]
    rintro ⟨-, ⟨hacq, hjudged⟩, hph⟩
    rcases hno with h | h | h
    · exact absurd (hacq.symm.trans h) (by decide)
    · exact absurd (hjudged.symm.trans h) (by decide)
    · omega
  case missing =>
    have hexec : exec .halfCycleMissing s = .next s.halfMissing :=
      congrArg Host.Outcome.next (if_pos (by rw [haon, State.aMissing, hacq, hjudged]; simpa using hph))
    refine ⟨fun hb hlate hline => ?_, fun hb hno => ?_, fun tc w hb => ⟨_, hexec, halfMissing_standIn s tc w hb⟩⟩
    · obtain ⟨hfault, hdist, hgood, hj, hevt, hframe⟩ := lineFault_spec (s.modCis (fun c => { c with judged := true })) 4 hline
      rw [halfMissing_none s hb, if_pos ⟨hlate, hline⟩] at hexec
      exact ⟨_, hexec, hj, hfault, hdist, hgood, hevt, hframe⟩
    · rw [halfMissing_none s hb, if_neg] at hexec
      · exact hexec
      · rintro ⟨hlate, hfollows⟩
        rcases hno with h | h | h
        · omega
        · exact hfollows.elim (fun e => absurd (e.symm.trans h) (by decide)) fun e => absurd (e.symm.trans h) (by decide)
        · exact hfollows.elim (fun e => absurd (e.symm.trans h) (by decide)) fun e => absurd (e.symm.trans h) (by decide)
  case lost =>
    have hne : s.cis.line ≠ .lost := fun e => by rcases hline with h | h <;> exact absurd (h.symm.trans e) (by decide)
    have hfollows : (s.cis.line == .healthy || s.cis.line == .disturbed) = true := by simpa using hline
    have hexec : exec .lineLostTimeout s = .next ((s.modCis (fun c => { c with lastFault := 7 })).lineTold .lost) :=
      congrArg Host.Outcome.next ((if_pos (by rw [haon, hfollows]; simpa using hlate)).trans
        (lineTo_told (s.modCis (fun c => { c with lastFault := 7 })) .lost hne (Or.inr (by decide))))
    obtain ⟨hj, hcis, hevt, -⟩ := lineTold_spec (s.modCis (fun c => { c with lastFault := 7 })) .lost
    have hframe := hj.frame
    generalize (s.modCis (fun c => { c with lastFault := 7 })).lineTold .lost = t at hexec hcis hevt hframe
    exact ⟨t, hexec, by rw [hcis]; rfl, by rw [hcis]; rfl, by rw [hcis]; rfl, hevt, hframe⟩
  case feed =>
    have hexec : exec .dcFeedEntry s = .next (s.lineTold .dcFeed) :=
      congrArg Host.Outcome.next ((if_pos (by rw [hline, hpfw, hen, hhigh]; simpa using hlate)).trans
        (lineTo_told s .dcFeed (by rw [hline]; decide) (Or.inr (by decide))))
    obtain ⟨hj, hcis, hevt, -⟩ := lineTold_spec s .dcFeed
    exact ⟨_, hexec, by rw [hcis]; rfl, by rw [hcis]; rfl, hevt, hj.frame⟩
  case sample => exact ⟨_, congrArg Host.Outcome.next (if_pos haon), sample_spec s code.val⟩
  case warn => exact ⟨_, congrArg Host.Outcome.next (if_pos haon), pfWarn_spec s hpfw⟩
  case warned =>
    exact ⟨congrArg Host.Outcome.next ((if_pos haon).trans (if_pos hpfw)), congrArg Host.Outcome.next (if_pos hpfw)⟩
  case exit =>
    have hexec : exec .holdupModeExit s = .next (if s.pwr.holdup && s.pwr.pwrOk && !s.cis.pfw && decide (rel + 10000 ≤ s.clk)
        then (s.modPwr (fun p => { p with holdup := false, pfwReleasedAt := none })).linkSeek else s) := by
      refine congrArg Host.Outcome.next ?_
      rw [hrel]
    rw [hhold, hok, hpfw] at hexec
    refine ⟨fun hlate => ?_, fun hearly => hexec.trans (congrArg Host.Outcome.next (if_neg (by simpa using hearly)))⟩
    obtain ⟨hframe, hst⟩ := linkSeek_spec (s.modPwr (fun p => { p with holdup := false, pfwReleasedAt := none }))
    exact ⟨_, hexec.trans (congrArg Host.Outcome.next (if_pos (by simpa using hlate))), hframe, hst⟩

end Sys2Proof.Machine
end

section
/-! PROOFS. The extend unit, measurement operations and host-memory scans (R409 to R429). -/
namespace Sys2Proof.Machine

section
variable {s t : State}

/-! ### What operations keep of the measurement state -/

theorem meas_of_completed (h : s.Completed t) : t.meas = s.meas := (congrArg State.meas h.frame).trans rfl

theorem meas_of_destroyed (h : s.Destroyed t) : t.meas = s.meas := (congrArg State.meas h.frame).trans rfl

theorem meas_enqueueJob (s : State) (j : DJob) : (s.enqueueJob j).meas = s.meas := by
  unfold State.enqueueJob
  dsimp only
  split_ifs <;> simp

theorem meas_laneEnd (s : State) (j : DJob) (st : Status) : (s.laneEnd j st).meas = s.meas := by
  unfold State.laneEnd
  split
  · rfl
  · rfl
  · dsimp only
    split_ifs <;> simp

theorem meas_macOver (s : State) (p : Nat) (st : Status) : (s.macOver p st).meas = s.meas := by
  unfold State.macOver
  split_ifs <;> rfl

/-- With no scan running the end of a job leaves the measurement state. -/
theorem meas_jobOver (s : State) (j : DJob) (st : Status) (res det : Nat) (h : s.meas.scan = none) : (s.jobOver j st res det).meas = s.meas := by
  have hlane : ((s.laneEnd j st).unmark j.ctx).meas = s.meas := by simp [meas_laneEnd]
  unfold State.jobOver
  dsimp only
  generalize (s.laneEnd j st).unmark j.ctx = u at hlane ⊢
  cases j.kind with
  | user => exact (meas_of_completed (completed_complete u j.src 0x10 st res det)).trans hlane
  | mac p => exact (meas_macOver u p st).trans hlane
  | perm => exact hlane
  | range i =>
    dsimp only
    split_ifs
    · exact hlane
    · rw [State.rangeFault, hlane, h]
      exact hlane

theorem meas_ctxFree (s : State) (i : Nat) : (s.ctxFree i).meas = s.meas := by
  unfold State.ctxFree
  dsimp only
  split_ifs
  · rfl
  · exact (meas_of_destroyed (destroyed_lastUse _ _)).trans rfl
  · rfl

theorem meas_freeCtxs (s : State) (m : Master) : (s.freeCtxs m).meas = s.meas :=
  List.foldlRecOn (motive := fun u : State => u.meas = s.meas) _ _ rfl fun u hu i _ => (meas_ctxFree u i).trans hu

theorem meas_lanesStop (s : State) (p : DJob → Bool) : (s.lanesStop p).meas = s.meas := by
  refine List.foldlRecOn (motive := fun u : State => u.meas = s.meas) _ _ rfl fun u hu n _ => ?_
  split
  · split_ifs
    · exact (by simp [State.laneAbsorb] : (((u.setLane n Lane.reset).laneAbsorb n _).freed).meas = u.meas).trans hu
    · exact hu
  · exact hu

theorem meas_jobsOver (l : List DJob) (st : Status) (s : State) (h : s.meas.scan = none) :
    (l.foldl (fun u j => u.jobOver j st 0 0) s).meas = s.meas :=
  List.foldlRecOn (motive := fun u : State => u.meas = s.meas) l _ rfl fun u hu j _ =>
    (meas_jobOver u j st 0 0 (by rw [hu]; exact h)).trans hu

theorem meas_endJobs (s : State) (p : DJob → Bool) (st : Status) (h : s.meas.scan = none) : (s.endJobs p st).meas = s.meas := by
  have hlanes := meas_lanesStop s p
  unfold State.endJobs
  dsimp only
  generalize s.lanesStop p = u at hlanes ⊢
  exact (meas_jobsOver _ st _ (by rw [← h, ← hlanes])).trans hlanes

theorem meas_scanDrop (s : State) (h : s.meas.scan = none) : s.scanDrop.meas = s.meas :=
  (meas_freeCtxs _ _).trans (meas_endJobs s _ _ h)

/-! ### The extend unit -/

/-- An extend changes its slot's value and count, and the log while there is room (R412, R420). -/
theorem applyExtend_spec (s : State) (e : MEntry) (b : Bytes) (hb : b = logEntry e (satInc (s.mslot e.slot).count).toNat s.lineStamp) :
    let t := s.applyExtend e
    (t.mslot e.slot).value = sha384 ((s.mslot e.slot).value ++ extendDigest b) ∧ (t.mslot e.slot).count = satInc (s.mslot e.slot).count ∧
    (∀ j, j ≠ e.slot → t.mslot j = s.mslot j) ∧
    (s.logCount < 8191 → (t.mslot e.slot).unlogged = (s.mslot e.slot).unlogged ∧ t.meas.log = s.meas.log ++ [b]) ∧
    (8191 ≤ s.logCount → (t.mslot e.slot).unlogged = satInc (s.mslot e.slot).unlogged ∧
      t.meas.log = if s.logCount = 8191 then s.meas.log ++ [s.logFull] else s.meas.log) ∧
    t.meas.reqq = s.meas.reqq ∧ t = { s with meas := t.meas } := by
  have happend : ∀ (u : State) (l : Bytes) (i : Nat), (u.appendLog l).mslot i = u.mslot i := fun _ _ _ => rfl
  subst hb
  dsimp only
  unfold State.applyExtend
  dsimp only
  by_cases hroom : s.logCount < 8191
  · rw [if_pos hroom]
    refine ⟨?_, ?_, fun j hj => ?_, fun _ => ⟨?_, rfl⟩, fun h => absurd hroom (by omega), rfl, rfl⟩
    · rw [happend, State.mslot_setMslot, if_pos rfl]
    · rw [happend, State.mslot_setMslot, if_pos rfl]
    · rw [happend, State.mslot_setMslot, if_neg hj]
    · rw [happend, State.mslot_setMslot, if_pos rfl]
  · rw [if_neg hroom]
    generalize hy : ({ (s.mslot e.slot) with
      value := sha384 ((s.mslot e.slot).value ++ extendDigest (logEntry e (satInc (s.mslot e.slot).count).toNat s.lineStamp))
      count := satInc (s.mslot e.slot).count, unlogged := satInc (s.mslot e.slot).unlogged } : MSlot) = y
    have hslot : (s.setMslot e.slot y).mslot e.slot = y := by rw [State.mslot_setMslot, if_pos rfl]
    have hother : ∀ j, j ≠ e.slot → (s.setMslot e.slot y).mslot j = s.mslot j := fun j hj => by rw [State.mslot_setMslot, if_neg hj]
    have hcount : (s.setMslot e.slot y).logCount = s.logCount := rfl
    rw [hcount]
    by_cases hfull : s.logCount = 8191
    · rw [if_pos hfull]
      refine ⟨?_, ?_, fun j hj => ?_, fun h => absurd h hroom, fun _ => ⟨?_, (if_pos hfull).symm⟩, rfl, rfl⟩
      · rw [happend, hslot, ← hy]
      · rw [happend, hslot, ← hy]
      · rw [happend, hother j hj]
      · rw [happend, hslot, ← hy]
    · rw [if_neg hfull]
      refine ⟨?_, ?_, hother, fun h => absurd h hroom, fun _ => ⟨?_, (if_neg hfull).symm⟩, rfl, rfl⟩
      · rw [hslot, ← hy]
      · rw [hslot, ← hy]
      · rw [hslot, ← hy]

/-- The unit takes the hardware queue first (R417). -/
theorem extendNext_hardware (s : State) (e : MEntry) (h : s.meas.hwq.head? = some e) :
    ∃ q late, s.extendNext = ({ s with meas := { s.meas with hwq := q, hwLate := late } } : State).applyExtend e := by
  cases hq : s.meas.hwq with
  | nil => rw [hq] at h; exact absurd h (by simp)
  | cons x rest =>
    rw [hq] at h
    obtain rfl : x = e := Option.some.inj h
    refine ⟨rest ++ s.meas.hwLate.take 1, s.meas.hwLate.drop 1, ?_⟩
    rw [State.extendNext, hq]

/-- With the hardware queue empty it takes the request queue. -/
theorem extendNext_request (s : State) (e : MEntry) (hhw : s.meas.hwq = []) (h : s.meas.reqq.head? = some e) (hjob : e.job = none) :
    ∃ q, s.extendNext = ({ s with meas := { s.meas with reqq := q } } : State).applyExtend e := by
  cases hq : s.meas.reqq with
  | nil => rw [hq] at h; exact absurd h (by simp)
  | cons x rest =>
    rw [hq] at h
    obtain rfl : x = e := Option.some.inj h
    refine ⟨rest, ?_⟩
    rw [State.extendNext, hhw, hq]
    dsimp only
    rw [hjob]

theorem extendApply_spec (s : State) (e : MEntry) (b : Bytes)
    (he : s.meas.hwq.head? = some e ∨ (s.meas.hwq = [] ∧ s.meas.reqq.head? = some e ∧ e.job = none))
    (hb : b = logEntry e (satInc (s.mslot e.slot).count).toNat s.lineStamp) : ∃ t, exec .extendApply s = .next t ∧
      (t.mslot e.slot).value = sha384 ((s.mslot e.slot).value ++ extendDigest b) ∧ (t.mslot e.slot).count = satInc (s.mslot e.slot).count ∧
      (∀ j, j ≠ e.slot → t.mslot j = s.mslot j) ∧
      (s.logCount < 8191 → (t.mslot e.slot).unlogged = (s.mslot e.slot).unlogged ∧ t.meas.log = s.meas.log ++ [b]) ∧
      (8191 ≤ s.logCount → (t.mslot e.slot).unlogged = satInc (s.mslot e.slot).unlogged ∧
        t.meas.log = if s.logCount = 8191 then s.meas.log ++ [s.logFull] else s.meas.log) ∧
      (s.meas.hwq ≠ [] → t.meas.reqq = s.meas.reqq) ∧ t = { s with meas := t.meas } := by
  refine ⟨s.extendNext, rfl, ?_⟩
  rcases he with he | ⟨hhw, he, hjob⟩
  · obtain ⟨q, late, heq⟩ := extendNext_hardware s e he
    rw [heq]
    obtain ⟨hvalue, hcount, hother, hroom, hfull, hreqq, hframe⟩ :=
      applyExtend_spec ({ s with meas := { s.meas with hwq := q, hwLate := late } } : State) e b hb
    exact ⟨hvalue, hcount, hother, hroom, hfull, fun _ => hreqq, hframe⟩
  · obtain ⟨q, heq⟩ := extendNext_request s e hhw he hjob
    rw [heq]
    obtain ⟨hvalue, hcount, hother, hroom, hfull, -, hframe⟩ := applyExtend_spec ({ s with meas := { s.meas with reqq := q } } : State) e b hb
    exact ⟨hvalue, hcount, hother, hroom, hfull, fun h => absurd hhw h, hframe⟩

theorem extendApply_idle (s : State) (hhw : s.meas.hwq = []) (hreq : s.meas.reqq = []) : exec .extendApply s = .next s := by
  refine congrArg Host.Outcome.next ?_
  unfold State.extendNext
  rw [hhw, hreq]

/-! ### Scans -/

/-- A scan that starts ranges only moves its `next` on, within its list and 32 ranges in flight (R427). -/
structure ScanJob.Filled (x y : ScanJob) : Prop where
  same : { y with next := x.next } = x
  onward : x.next ≤ y.next
  bounds : y = x ∨ (y.next ≤ scanCount x.list ∧ y.next - x.ends.length ≤ 32)

theorem filled_refl (x : ScanJob) : x.Filled x := ⟨rfl, le_refl _, Or.inl rfl⟩

/-- One more range of the scan starts, in the digest context that is free. -/
theorem scanFill_start (s : State) (x : ScanJob) (k : Nat) (hscan : s.meas.scan = some x)
    (hnext : x.next < scanCount x.list) (hflight : x.next - x.ends.length < 32) (hok : ∀ e ∈ x.ends, e.2.st = stOk)
    (hctx : s.ctxAlloc 0x44 ≠ none) : ∃ u : State, s.scanFill (k + 1) = u.scanFill k ∧
      u.meas = { s.meas with scan := some { x with next := x.next + 1 } } := by
  obtain ⟨i, hi⟩ := Option.ne_none_iff_exists'.mp hctx
  have hgo : ¬(scanCount x.list ≤ x.next ∨ 32 ≤ x.next - x.ends.length ∨ (x.ends.any fun e => e.2.st != stOk) = true) := by
    rintro (h | h | h)
    · omega
    · omega
    · obtain ⟨e, he, hst⟩ := List.any_eq_true.mp h
      simp [hok e he] at hst
  rw [State.scanFill.eq_def, hscan]
  dsimp only
  rw [if_neg hgo, hi]
  refine ⟨_, rfl, ?_⟩
  dsimp only
  rw [meas_enqueueJob]
  rfl

/-- No range starts: the list is done, 32 are in flight, no context is free, or a read failed (R427, R429). -/
theorem scanFill_stop (s : State) (x : ScanJob) (k : Nat) (hscan : s.meas.scan = some x)
    (h : scanCount x.list ≤ x.next ∨ 32 ≤ x.next - x.ends.length ∨ (∃ e ∈ x.ends, e.2.st ≠ stOk) ∨ s.ctxAlloc 0x44 = none) :
    s.scanFill k = s := by
  cases k with
  | zero => rfl
  | succ k =>
    rw [State.scanFill.eq_def, hscan]
    dsimp only
    split_ifs with hstop
    · rfl
    · rcases h with h | h | ⟨e, he, hst⟩ | h
      · exact absurd (Or.inl h) hstop
      · exact absurd (Or.inr (Or.inl h)) hstop
      · exact absurd (Or.inr (Or.inr (List.any_eq_true.mpr ⟨e, he, by simpa using hst⟩))) hstop
      · rw [h]

theorem scanFill_spec (k : Nat) : ∀ (s : State) (x : ScanJob), s.meas.scan = some x →
    ∃ y, (s.scanFill k).meas = { s.meas with scan := some y } ∧ x.Filled y := by
  induction k with
  | zero =>
    intro s x hscan
    refine ⟨x, ?_, filled_refl x⟩
    rw [show s.scanFill 0 = s from rfl, ← hscan]
  | succ k ih =>
    intro s x hscan
    by_cases hgo : x.next < scanCount x.list ∧ x.next - x.ends.length < 32 ∧ (∀ e ∈ x.ends, e.2.st = stOk) ∧ s.ctxAlloc 0x44 ≠ none
    · obtain ⟨hnext, hflight, hok, hctx⟩ := hgo
      obtain ⟨u, hu, hmeas⟩ := scanFill_start s x k hscan hnext hflight hok hctx
      obtain ⟨y, hy, hfill⟩ := ih u _ (by rw [hmeas])
      refine ⟨y, by rw [hu, hy, hmeas], ?_⟩
      obtain ⟨hsame, honward, hbounds⟩ := hfill
      refine ⟨?_, Nat.le_of_succ_le honward, Or.inr ?_⟩
      · exact (congrArg (fun z : ScanJob => { z with next := x.next }) hsame)
      · rcases hbounds with rfl | hbounds
        · exact ⟨hnext, by dsimp only; omega⟩
        · exact hbounds
    · refine ⟨x, ?_, filled_refl x⟩
      rw [scanFill_stop s x (k + 1) hscan, ← hscan]
      by_contra hno
      simp only [not_or, not_exists, not_and, not_le, not_not] at hno
      exact hgo ⟨hno.1, hno.2.1, hno.2.2.1, hno.2.2.2⟩

/-- The scan that runs goes on. -/
theorem scanStart_running (s : State) (j : ScanJob) (h : s.meas.scan = some j) : exec .scanStart s = .next (s.scanFill 32) := by
  refine congrArg Host.Outcome.next ?_
  unfold State.scanStart
  rw [h]

/-- The oldest waiting scan starts where none runs. -/
theorem scanStart_waiting (s : State) (j : ScanJob) (rest : List ScanJob) (hnone : s.meas.scan = none) (hscans : s.meas.scans = j :: rest) :
    exec .scanStart s = .next (({ s with meas := { s.meas with scan := some j, scans := rest } } : State).scanFill 32) := by
  refine congrArg Host.Outcome.next ?_
  unfold State.scanStart
  rw [hnone, hscans]

theorem scanStart_spec (s : State) (j : ScanJob) (h : s.meas.scan = some j) (hok : ∀ e ∈ j.ends, e.2.st = stOk) :
    (scanCount j.list ≤ j.next ∨ 32 ≤ j.next - j.ends.length ∨ s.ctxAlloc 0x44 = none → exec .scanStart s = .next s) ∧
    (j.next < scanCount j.list → j.next - j.ends.length < 32 → s.ctxAlloc 0x44 ≠ none → ∃ t y, exec .scanStart s = .next t ∧
      t.meas.scan = some y ∧ j.next < y.next ∧ y.next ≤ scanCount j.list ∧ y.next - y.ends.length ≤ 32 ∧ { y with next := j.next } = j ∧
      t.meas = { s.meas with scan := some y }) := by
  rw [scanStart_running s j h]
  refine ⟨fun hstop => ?_, fun hnext hflight hctx => ?_⟩
  · refine congrArg Host.Outcome.next (scanFill_stop s j 32 h ?_)
    rcases hstop with hstop | hstop | hstop
    · exact Or.inl hstop
    · exact Or.inr (Or.inl hstop)
    · exact Or.inr (Or.inr (Or.inr hstop))
  · obtain ⟨u, hu, hmeas⟩ := scanFill_start s j 31 h hnext hflight hok hctx
    obtain ⟨y, hy, hsame, honward, hbounds⟩ := scanFill_spec 31 u _ (by rw [hmeas])
    have hall : { y with next := j.next } = j := congrArg (fun z : ScanJob => { z with next := j.next }) hsame
    have hends : y.ends = j.ends := by
      have h := congrArg ScanJob.ends hsame
      exact h
    rw [hmeas] at hy
    have hin : y.next ≤ scanCount j.list ∧ y.next - j.ends.length ≤ 32 := by
      rcases hbounds with rfl | hbounds
      · exact ⟨hnext, by dsimp only; omega⟩
      · exact hbounds
    exact ⟨_, y, rfl, by rw [hu, hy], honward, hin.1, by rw [hends]; exact hin.2, hall, by rw [hu, hy]⟩

/-- The digests of a scan's ranges in list order (R428). -/
def ScanJob.digests (j : ScanJob) : List Bytes :=
  (List.range (scanCount j.list)).map (fun i => match j.endOf i with | some e => e.digest | none => [])

/-- The extend of a scan's list digest (R428). -/
def ScanJob.extend (j : ScanJob) : MEntry :=
  { slot := mSlot j.desc, type := 0x20, source := j.src.issuer, late := false, info := scanCount j.list, data := sha384 j.digests.flatten
    job := none }

/-- A scan whose ranges are hashed writes its results, extends where it is to, and completes (R428). -/
theorem scanDone_hashed (s : State) (j : ScanJob) (hshort : j.short = false) (hroom : mType j.desc = 2 → s.reqFull = false) :
    ∃ out st, s.scanDone j =
      (if mType j.desc = 2 then (if mOutLen j.desc = 0 then s else s.putOut 0x44 j.src (mOutAddr j.desc) out).askExtend j.extend
       else if mOutLen j.desc = 0 then s else s.putOut 0x44 j.src (mOutAddr j.desc) out).complete j.src 0x32 st 0 0 := by
  unfold State.scanDone
  rw [if_neg (by rw [hshort]; decide), if_neg fun h => absurd (hroom h.1).symm (by rw [h.2]; decide)]
  exact ⟨_, _, rfl⟩

/-- What a scan that was hashed leaves of the measurement state. -/
theorem meas_scanDone (s : State) (j : ScanJob) (hshort : j.short = false) (hroom : mType j.desc = 2 → s.reqFull = false) :
    (s.scanDone j).meas = if mType j.desc = 2 then { s.meas with reqq := s.meas.reqq ++ [j.extend] } else s.meas := by
  obtain ⟨out, st, heq⟩ := scanDone_hashed s j hshort hroom
  have hout : (if mOutLen j.desc = 0 then s else s.putOut 0x44 j.src (mOutAddr j.desc) out).meas = s.meas := by
    split_ifs
    · rfl
    · exact meas_of_completed (completed_putOut s 0x44 j.src (mOutAddr j.desc) out)
  rw [heq, meas_of_completed (completed_complete _ j.src 0x32 st 0 0)]
  generalize (if mOutLen j.desc = 0 then s else s.putOut 0x44 j.src (mOutAddr j.desc) out) = u at hout ⊢
  split_ifs
  · rw [State.askExtend, hout]
  · exact hout

/-- A scan of which a read failed or a range brought too little leaves the measurement state (R429). -/
theorem meas_scanDone_short (s : State) (j : ScanJob) (hshort : j.short = true) (hnone : s.meas.scan = none) : (s.scanDone j).meas = s.meas := by
  unfold State.scanDone
  rw [if_pos hshort, meas_of_completed (completed_complete _ j.src 0x32 j.failed 0 _)]
  exact meas_scanDrop s hnone

/-- SCAN_COMPLETE of the running scan. -/
theorem scanComplete_runs (s : State) (j : ScanJob) (h : s.meas.scan = some j) (hmem : s.memOn j.src.issuer = true)
    (hdone : j.hashed = true ∨ j.short = true) :
    exec (.scanComplete j.src.tag) s = .next (({ s with meas := { s.meas with scan := none } } : State).scanDone j) := by
  refine congrArg Host.Outcome.next ?_
  rw [h]
  refine if_neg ?_
  rintro (hne | hne | hne)
  · exact hne rfl
  · rcases hdone with hd | hd <;> simp [hd] at hne
  · simp [hmem] at hne

theorem scanComplete_waits (s : State) (j : ScanJob) (tag : Word) (h : s.meas.scan = some j)
    (hwait : tag ≠ j.src.tag ∨ (j.hashed = false ∧ j.short = false)) : exec (.scanComplete tag) s = .next s := by
  refine congrArg Host.Outcome.next ?_
  rw [h]
  refine if_pos ?_
  rcases hwait with hne | ⟨hhashed, hshort⟩
  · exact Or.inl (Ne.symm hne)
  · exact Or.inr (Or.inl (by simp [hhashed, hshort]))

end

/-! ### The operations -/

section
variable {s : State} {src : JobSrc} {d : Desc} {raw io : JobIo}

theorem measIo_withHq (s : State) (q : HqState) (src : JobSrc) (d : Desc) (raw : JobIo) :
    ({ s with hq := q } : State).measIo src d raw = s.measIo src d raw := rfl

/-- Taking the descriptor leaves what a measurement operation reads. -/
theorem take_measures (s : State) (src : JobSrc) (d : Desc) (raw : JobIo) (m : Master) (i : Nat) :
    let u := s.take src
    u.measIo src d raw = s.measIo src d raw ∧ u.mayExtend m i = s.mayExtend m i ∧ u.mayScan m d = s.mayScan m d ∧
    u.reqFull = s.reqFull ∧ u.tamp = s.tamp ∧ u.meas = s.meas ∧ u.snapshot = s.snapshot := by
  obtain ⟨q, hq⟩ := take_eq_with s src
  rw [hq]
  exact ⟨measIo_withHq s q src d raw, rfl, rfl, rfl, rfl, rfl, rfl⟩

theorem measExtend_spec (hio : io = s.measIo src d raw) (htakes : s.takesJob src d 0x30 = true) (hfields : measFieldsOk d = true)
    (htype : extTypeOk src.issuer (mType d) = true) (hlen : mInLen d = 48) (hmay : s.mayExtend src.issuer (mSlot d) = true)
    (hslot : mSlot d < 16 ∨ 32 ≤ mSlot d ∨ mType d < 0x80) (htamp : s.tamp.responded = false) (hroom : s.reqFull = false)
    (hfault : io.fault = false) (hdata : 48 ≤ io.data.length) : ∃ t, exec (.measExtend src d raw) s = .next t ∧
      t.meas.reqq = s.meas.reqq ++ [{ slot := mSlot d, type := mType d, source := src.issuer, late := false, info := mInfo d,
                                      data := io.data.take 48, job := some src }] ∧
      t = { s.take src with meas := { s.meas with reqq := t.meas.reqq } } := by
  obtain ⟨hreads, hextends, -, hfull, hresponded, hmeas, -⟩ := take_measures s src d raw src.issuer (mSlot d)
  have hexec : exec (.measExtend src d raw) s = .next ((s.take src).measExtend src d io) :=
    congrArg Host.Outcome.next ((job_of_takes s src d 0x30 _ htakes).trans (by rw [hreads, ← hio]))
  have hdone : (s.take src).measExtend src d io = (s.take src).askExtend
      { slot := mSlot d, type := mType d, source := src.issuer, late := false, info := mInfo d, data := io.data.take 48, job := some src } := by
    unfold State.measExtend
    dsimp only
    rw [if_neg (by simp [hfields, htype]), if_neg (by simp [hlen]), if_neg (by rw [hextends, hmay]; simp; omega),
      if_neg (by rw [hresponded, htamp]; decide), if_neg (by rw [hfull, hroom]; decide), if_neg (by rw [hfault]; simp; omega)]
  rw [hdone] at hexec
  exact ⟨_, hexec, by rw [State.askExtend, hmeas], by rw [State.askExtend, hmeas]⟩

theorem measExtend_forbidden (htakes : s.takesJob src d 0x30 = true) (hfields : measFieldsOk d = true)
    (htype : extTypeOk src.issuer (mType d) = true) (hlen : mInLen d = 48) (hmay : s.mayExtend src.issuer (mSlot d) = false) :
    exec (.measExtend src d raw) s = .next ((s.take src).complete src 0x30 stStateForbids 0 0) := by
  obtain ⟨-, hextends, -⟩ := take_measures s src d raw src.issuer (mSlot d)
  refine congrArg Host.Outcome.next ((job_of_takes s src d 0x30 _ htakes).trans ?_)
  unfold State.measExtend
  dsimp only
  rw [if_neg (by simp [hfields, htype]), if_neg (by simp [hlen]), if_pos (by rw [hextends, hmay]; simp)]

theorem measRead_snapshot (hio : io = s.measIo src d raw) (htakes : s.takesJob src d 0x31 = true) (hfields : measFieldsOk d = true)
    (htype : mType d = 0) (hlen : 4128 ≤ mOutLen d) (htamp : s.tamp.responded = false) (hfault : io.writeFault = false) :
    exec (.measRead src d raw) s =
      .next (((s.take src).putOut 0x44 src (mOutAddr d) s.snapshot).complete src 0x31 stOk s.logCount 0) := by
  obtain ⟨hreads, -, -, -, hresponded, hmeas, hsnapshot⟩ := take_measures s src d raw src.issuer (mSlot d)
  refine congrArg Host.Outcome.next ((job_of_takes s src d 0x31 _ htakes).trans ?_)
  rw [hreads, ← hio]
  unfold State.measRead
  dsimp only
  rw [if_neg (by simp [hfields, htype]), if_pos htype, if_neg (by simp [htype]; omega), if_neg (by rw [hresponded, htamp]; decide),
    if_neg (by rw [hfault]; decide), if_pos htype, hsnapshot, State.logCount, hmeas]
  rfl

theorem measDefine_spec (htakes : s.takesJob src d 0x33 = true) (hfields : measFieldsOk d = true) (hparam : mParam d ≤ 511)
    (hext : isPcie (BitVec.ofNat 8 (mParam d)) = true ∨ (BitVec.ofNat 8 (mParam d) : Master) = 0x20) (hsrc : src.issuer = 0)
    (hlow : 32 ≤ mSlot d) (hhigh : mSlot d ≤ 63) (hfree : (s.mslot (mSlot d)).defined = false) (htamp : s.tamp.responded = false) :
    ∃ t, exec (.measDefine src d raw) s = .next t ∧
      t.mslot (mSlot d) = { s.mslot (mSlot d) with defined := true, extender := BitVec.ofNat 8 (mParam d), allowScan := (mParam d).testBit 8 } ∧
      (∀ j, j ≠ mSlot d → t.mslot j = s.mslot j) := by
  obtain ⟨-, -, -, -, hresponded, hmeas, -⟩ := take_measures s src d raw src.issuer (mSlot d)
  have hslots : ∀ j, (s.take src).mslot j = s.mslot j := fun j => by rw [State.mslot, hmeas]; rfl
  have hdone : (s.take src).measDefine src d = ((s.take src).setMslot (mSlot d)
      { s.mslot (mSlot d) with defined := true, extender := BitVec.ofNat 8 (mParam d), allowScan := (mParam d).testBit 8 }).complete
        src 0x33 stOk 0 0 := by
    unfold State.measDefine
    dsimp only
    rw [if_neg (by rw [hfields]; rcases hext with h | h <;> simp [h] <;> omega), hslots, if_neg (by rw [hsrc, hfree]; simp; omega),
      if_neg (by rw [hresponded, htamp]; decide)]
  have hexec : exec (.measDefine src d raw) s = .next ((s.take src).measDefine src d) :=
    congrArg Host.Outcome.next (job_of_takes s src d 0x33 _ htakes)
  rw [hdone] at hexec
  have hcomplete : ∀ (u : State) (j : Nat), (u.complete src 0x33 stOk 0 0).mslot j = u.mslot j := fun u j => by
    rw [State.mslot, meas_of_completed (completed_complete u src 0x33 stOk 0 0)]
    rfl
  exact ⟨_, hexec, by rw [hcomplete, State.mslot_setMslot, if_pos rfl],
    fun j hj => by rw [hcomplete, State.mslot_setMslot, if_neg hj, hslots]⟩

theorem measScan_spec (hio : io = s.measIo src d raw) (htakes : s.takesJob src d 0x32 = true) (hfields : measFieldsOk d = true)
    (htype : mType d ≤ 2) (hmin : 48 ≤ mInLen d) (hmax : mInLen d ≤ 16416) (hslot : mSlot d ≤ 63) (hmay : s.mayScan src.issuer d = true)
    (htamp : s.tamp.responded = false) (hroom : s.meas.scans.length < 8) (hreq : mType d = 2 → s.reqFull = false) (hfault : io.fault = false)
    (hdata : mInLen d ≤ io.data.length) (hlist : scanListOk io.data = true) (hcount : mInLen d = 32 + 16 * scanCount io.data)
    (hout : mOutLen d = 0 ∨ 64 + 64 * scanCount io.data ≤ mOutLen d) : ∃ t, exec (.measScan src d raw) s = .next t ∧
      t.meas.scans.length = s.meas.scans.length + 1 ∧ t.meas.scans.take s.meas.scans.length = s.meas.scans ∧
      t = { s.take src with meas := { s.meas with scans := t.meas.scans } } := by
  obtain ⟨hreads, -, hscans, hfull, hresponded, hmeas, -⟩ := take_measures s src d raw src.issuer (mSlot d)
  have hexec : exec (.measScan src d raw) s = .next ((s.take src).measScan src d io) :=
    congrArg Host.Outcome.next ((job_of_takes s src d 0x32 _ htakes).trans (by rw [hreads, ← hio]))
  have hlens : scanLenOk d io.data = true := by
    rcases hout with h | h
    · simp [scanLenOk, hmin, hmax, ← hcount, h]
    · simp [scanLenOk, hmin, hmax, ← hcount, h]
  have hbusy : ¬(8 ≤ s.meas.scans.length ∨ (mType d = 2 ∧ s.reqFull = true)) := by
    rintro (h | ⟨h, hf⟩)
    · omega
    · exact absurd ((hreq h).symm.trans hf) (by decide)
  have hdone : (s.take src).measScan src d io = { s.take src with meas := { s.meas with scans := s.meas.scans ++
      [{ src, desc := d, list := io.data, expect := io.aux, expectFault := io.auxFault, next := 0, ends := [] }] } } := by
    unfold State.measScan
    dsimp only
    rw [if_neg (by simp [hfields]; omega), if_neg (by simp [hlens]), if_neg (by rw [hscans, hmay]; simp; omega),
      if_neg (by rw [hresponded, htamp]; decide), hmeas, hfull, if_neg hbusy, if_neg (by rw [hfault]; simp; omega), if_neg (by simp [hlist])]
  rw [hdone] at hexec
  exact ⟨_, hexec, List.length_append, List.take_left, rfl⟩

end

/-- Settles O39: the operations of the extend queue and the log, then the scans, whose ranges run on the lanes without touching the rest of the
measurement state. -/
theorem extendsChainIntoTheirSlot : Obligations.ExtendsChainIntoTheirSlot := by
  unfold Obligations.ExtendsChainIntoTheirSlot
  refine ⟨fun s src d raw io hio => ⟨?extend, measExtend_forbidden, measRead_snapshot hio, measDefine_spec, measScan_spec hio⟩,
    extendApply_spec, extendApply_idle, fun s j rest hnone hscans => ?start, scanStart_spec, fun s j h hmem => ?ends⟩
  case extend => exact measExtend_spec hio
  case start =>
    obtain ⟨y, hy, hfill⟩ := scanFill_spec 32 ({ s with meas := { s.meas with scan := some j, scans := rest } } : State) j rfl
    refine ⟨_, scanStart_waiting s j rest hnone hscans, by rw [hy], by rw [hy], ?_⟩
    rw [hy]
    exact congrArg some hfill.same
  case ends =>
    refine ⟨fun tag htag => scanComplete_waits s j tag h (Or.inl htag),
      fun hhashed hshort => scanComplete_waits s j j.src.tag h (Or.inr ⟨hhashed, hshort⟩), fun hshort => ?short,
      fun hshort hhashed htype hfull => ?busy, fun hshort hhashed hroom => ?hashed⟩
    case short =>
      have hmeas := meas_scanDone_short ({ s with meas := { s.meas with scan := none } } : State) j hshort rfl
      exact ⟨_, scanComplete_runs s j h hmem (Or.inr hshort), by rw [hmeas], by rw [hmeas]⟩
    case busy =>
      rw [scanComplete_runs s j h hmem (Or.inl hhashed)]
      refine congrArg Host.Outcome.next ?_
      unfold State.scanDone
      rw [if_neg (by rw [hshort]; decide), if_pos ⟨htype, hfull⟩]
    case hashed =>
      have hmeas := meas_scanDone ({ s with meas := { s.meas with scan := none } } : State) j hshort hroom
      refine ⟨_, scanComplete_runs s j h hmem (Or.inl hhashed), ?_, fun htype => ?_, fun htype => ?_⟩
      · rw [hmeas]
        split_ifs <;> rfl
      · rw [hmeas, if_neg htype]
      · rw [hmeas, if_pos htype]
        rfl

end Sys2Proof.Machine
end

section
/-! PROOFS. Leases, the master's flash reset and commands of the device on the flash side (R160, R180, R182). -/
namespace Sys2Proof.Machine

/-! ### Commands of the device -/

section
variable {s t : State}

/-- Commands of the device go out in order. -/
theorem foldl_toFlash {α : Type} (p cs : Nat) (opc : α → Byte) (addr : α → Nat) (l : List α) : ∀ s : State,
    l.foldl (fun u x => u.toFlash p cs (opc x) (addr x) []) s =
      { s with outbox := s.outbox ++ l.map (fun x => .flash p cs (opc x).toNat (addr x) [] []) } := by
  induction l with
  | nil => exact fun s => by rw [List.map_nil, List.append_nil]; rfl
  | cons x l ih =>
    intro s
    rw [List.foldl_cons, ih, List.map_cons]
    exact congrArg (fun o => ({ s with outbox := o } : State)) (List.append_assoc s.outbox [Out.flash p cs (opc x).toNat (addr x) [] []] _)

/-- What the device sends a chip select without data: nothing where the bank does not allow its mode (R154). -/
def PortState.devOut (q : PortState) (p cs : Nat) (l : List Byte) : List Out :=
  if q.modeRuns cs = true then l.map (fun o => .flash p cs o.toNat 0 [] []) else []

theorem devCmds_eq (s : State) (p cs : Nat) (l : List Byte) :
    s.devCmds p cs l = { s with outbox := s.outbox ++ (s.port p).devOut p cs l } := by
  unfold State.devCmds PortState.devOut
  split_ifs
  · exact foldl_toFlash p cs id (fun _ => 0) l s
  · rw [List.append_nil]

theorem port_out (s : State) (o : Out) (q : Nat) : (s.out o).port q = s.port q := rfl

theorem port_devCmds (s : State) (p cs : Nat) (l : List Byte) (q : Nat) : (s.devCmds p cs l).port q = s.port q := by
  rw [devCmds_eq]
  rfl

/-- The device-originated operation of a port is told by its write queue and the Cistern. -/
theorem devOp_congr {p : Nat} (hwq : (t.port p).wq = (s.port p).wq) (hcis : t.cis = s.cis) : t.devOp p = s.devOp p := by
  simp only [State.devOp, State.commitOn, State.adm, hcis, PortState.wqAll, PortState.wqe, hwq]

theorem isSome_of_none_iff {α : Type} {o : Option α} (h : o.isSome = true) : o ≠ none := Option.isSome_iff_ne_none.mp h

/-! ### The end of a master's command -/

/-- Silencing a port ends its command and breaks its stitch, and nothing else of it (R177, R248). -/
theorem silence_spec (s : State) (p : Nat) :
    ((s.silence p).port p).active = none ∧
    (s.silence p).port p = { s.port p with
      active := none, stitch := ((s.silence p).port p).stitch, cov := ((s.silence p).port p).cov, checks := ((s.silence p).port p).checks } ∧
    (∀ q, q ≠ p → (s.silence p).port q = s.port q) ∧ s.portsFrame (s.silence p) := by
  refine ⟨?_, ?_, ?_, portsFrame_silence (portsFrame_refl s) p⟩
  all_goals
    unfold State.silence
    split_ifs with hactive
  · rw [port_modPort_self]
  · simpa using hactive
  · rw [port_modPort_self]
    exact congrArg (fun q : PortState => ({ q with active := none } : PortState)) (tracked_stitchBreak (tracked_refl p s)).port
  · have hnone : (s.port p).active = none := by simpa using hactive
    generalize s.port p = q at hnone ⊢
    rw [← hnone]
  · exact fun q hq => (port_modPort_other _ hq _).trans ((tracked_stitchBreak (tracked_refl p s)).others q hq)
  · exact fun _ _ => rfl

theorem regs_of_portsFrame (h : s.portsFrame t) : t.regs = s.regs := by
  rw [h]
  rfl

theorem cis_of_portsFrame (h : s.portsFrame t) : t.cis = s.cis := by
  rw [h]
  rfl

/-! ### A master's reset (R182) -/

/-- `s` once the master's command has ended, its flash chip selects back in their configured modes and its view reset. -/
def State.mrstModes (s : State) (p : Nat) : State :=
  ((s.silence p).resetModes p).modPort p (fun q => { q with view0 := MView.reset, view1 := MView.reset })

theorem mrst_free (s : State) (p : Nat) (h : (s.mrstModes p).devOp p = none) : s.mrst p = (s.mrstModes p).out (.frst p) := by
  unfold State.mrstModes at h ⊢
  unfold State.mrst
  dsimp only
  rw [h]

theorem mrst_busy (s : State) (p c : Nat) (h : (s.mrstModes p).devOp p = some c) :
    s.mrst p = ((s.mrstModes p).modPort p (fun q => { q with mrstOwed := true })).portErr p 7 c := by
  unfold State.mrstModes at h ⊢
  unfold State.mrst
  dsimp only
  rw [h]

theorem modeReg_silence (s : State) (p cs : Nat) : (s.silence p).modeReg p cs = s.modeReg p cs := by
  have hreg : ∀ a, (s.silence p).reg a = s.reg a := fun a => by rw [State.reg, regs_of_portsFrame (silence_spec s p).2.2.2, State.reg]
  rw [State.modeReg, hreg]
  rfl

theorem mrstModes_spec (s : State) (p : Nat) :
    let q := (s.mrstModes p).port p
    q.active = none ∧ q.mode0 = s.modeReg p 0 ∧ q.mode1 = s.modeReg p 1 ∧ q.view0 = MView.reset ∧ q.view1 = MView.reset ∧
    q.mcs = (s.port p).mcs ∧ (s.mrstModes p).devOp p = s.devOp p ∧ (∀ j, j ≠ p → (s.mrstModes p).port j = s.port j) := by
  obtain ⟨hactive, hport, hothers, hframe⟩ := silence_spec s p
  have hself : (s.mrstModes p).port p = { (s.silence p).port p with
      mode0 := s.modeReg p 0, mode1 := s.modeReg p 1, view0 := MView.reset, view1 := MView.reset } := by
    rw [State.mrstModes, port_modPort_self, State.resetModes, port_modPort_self, modeReg_silence, modeReg_silence]
  dsimp only
  refine ⟨by rw [hself]; exact hactive, by rw [hself], by rw [hself], by rw [hself], by rw [hself], by rw [hself, hport], ?_, fun j hj => ?_⟩
  · have hcis : (s.mrstModes p).cis = (s.silence p).cis := by simp [State.mrstModes, State.resetModes]
    exact devOp_congr (by rw [hself, hport]) (hcis.trans (cis_of_portsFrame hframe))
  · exact (port_modPort_other _ hj _).trans ((port_modPort_other _ hj _).trans (hothers j hj))

theorem mrst_spec (s : State) (p : Nat) :
    ((s.mrst p).port p).active = none ∧ ((s.mrst p).port p).mode0 = s.modeReg p 0 ∧ ((s.mrst p).port p).mode1 = s.modeReg p 1 ∧
    ((s.mrst p).port p).view0 = MView.reset ∧ ((s.mrst p).port p).view1 = MView.reset ∧ ((s.mrst p).port p).mcs = (s.port p).mcs ∧
    (s.devOp p = none → (s.mrst p).outbox.getLast? = some (.frst p)) ∧ ((s.devOp p).isSome = true → ((s.mrst p).port p).mrstOwed = true) ∧
    (∀ q, q ≠ p → (s.mrst p).port q = s.port q) := by
  obtain ⟨hactive, hmode0, hmode1, hview0, hview1, hmcs, hop, hothers⟩ := mrstModes_spec s p
  cases hdev : s.devOp p with
  | none =>
    rw [mrst_free s p (hop.trans hdev)]
    generalize s.mrstModes p = u at *
    exact ⟨hactive, hmode0, hmode1, hview0, hview1, hmcs, fun _ => List.getLast?_concat, fun h => absurd h (by decide), hothers⟩
  | some c =>
    rw [mrst_busy s p c (hop.trans hdev)]
    generalize s.mrstModes p = u at *
    simp only [port_portErr, port_modPort_self]
    exact ⟨hactive, hmode0, hmode1, hview0, hview1, hmcs, fun h => absurd h (by simp), fun _ => trivial,
      fun q hq => (port_modPort_other u hq _).trans (hothers q hq)⟩

theorem mrstEdge_spec (s : State) (p : Fin 16) (hen : s.bitOf (fp p.val 0 0x40) 3 = true) (hheld : s.portHeld p.val = false) :
    exec (.mrstEdge p) s = .next (s.mrst p.val) :=
  congrArg Host.Outcome.next (if_pos (by rw [hen, hheld]; rfl))

theorem mrstDeferredPulse_waits (s : State) (p : Fin 16) (h : (s.port p.val).mrstOwed = false ∨ (s.devOp p.val).isSome = true) :
    exec (.mrstDeferredPulse p) s = .next s := by
  refine congrArg Host.Outcome.next (if_neg ?_)
  rcases h with h | h
  · simp [h]
  · simp only [Bool.and_eq_true, not_and]
    exact fun _ hnone => isSome_of_none_iff h (by simpa using hnone)

theorem mrstDeferredPulse_spec (s : State) (p : Fin 16) (howed : (s.port p.val).mrstOwed = true) (hop : s.devOp p.val = none) :
    ∃ t : State, exec (.mrstDeferredPulse p) s = .next t ∧
      t.outbox = s.outbox ++ [.frst p.val] ++
        (s.port p.val).devOut p.val 0 [0x66, 0x99] ++ (s.port p.val).devOut p.val 1 [0x66, 0x99] ∧
      (t.port p.val).mrstOwed = false ∧ (∀ q, q ≠ p.val → t.port q = s.port q) ∧ t = { s with ports := t.ports, outbox := t.outbox } := by
  have hexec : exec (.mrstDeferredPulse p) s =
      .next ((((s.modPort p.val (fun q => { q with mrstOwed := false })).out (.frst p.val)).devCmds p.val 0 [0x66, 0x99]).devCmds
        p.val 1 [0x66, 0x99]) :=
    congrArg Host.Outcome.next (if_pos (by rw [howed, hop]; rfl))
  generalize hu : (s.modPort p.val (fun q => { q with mrstOwed := false })).out (.frst p.val) = u at hexec
  have hself : u.port p.val = { s.port p.val with mrstOwed := false } := by
    rw [← hu, port_out, port_modPort_self]
  have hbox : u.outbox = s.outbox ++ [.frst p.val] := by rw [← hu]; rfl
  have hruns : ∀ cs, (u.port p.val).modeRuns cs = (s.port p.val).modeRuns cs := fun cs => by rw [hself]; rfl
  rw [devCmds_eq u p.val 0, devCmds_eq _ p.val 1] at hexec
  refine ⟨_, hexec, ?_, ?_, fun q hq => ?_, ?_⟩
  · show u.outbox ++ (u.port p.val).devOut p.val 0 [0x66, 0x99] ++ (u.port p.val).devOut p.val 1 [0x66, 0x99] = _
    rw [hbox, PortState.devOut, PortState.devOut, hruns, hruns]
    rfl
  · show (u.port p.val).mrstOwed = false
    rw [hself]
  · show u.port q = s.port q
    rw [← hu, port_out, port_modPort_other s hq]
  · rw [← hu]
    rfl

/-! ### Leases (R180) -/

theorem granted_setGrant (q : PortState) (c : Nat) (b : Bool) : (q.setGrant c b).granted c = b := by
  unfold PortState.granted PortState.setGrant
  split_ifs <;> rfl

theorem granted_setGrant_other (q : PortState) (c : Fin 2) (b : Bool) : (q.setGrant c.val b).granted (1 - c.val) = q.granted (1 - c.val) := by
  match c with
  | 0 => rfl
  | 1 => rfl

theorem wip_setGrant (q : PortState) (c : Nat) (b : Bool) : (q.setGrant c b).wip c = false := by
  unfold PortState.wip PortState.setGrant
  split_ifs <;> rfl

theorem leaseWrite_spec (s : State) (p : Fin 16) (m : Master) (v : Word) (h : s.admits m (fp p.val 0 0x70) = true) :
    ∃ t, exec (.leaseWrite m p v) s = .next t ∧ t.reg (fp p.val 0 0x70) = v &&& 3 ∧
      (∀ a, a ≠ fp p.val 0 0x70 → t.reg a = s.reg a) ∧ t = { s with regs := t.regs } :=
  ⟨s.leaseWrite p.val v, guarded_next s m _ _ h, by rw [State.leaseWrite, State.reg_setReg, if_pos rfl],
    fun a ha => by rw [State.leaseWrite, State.reg_setReg, if_neg ha], rfl⟩

/-- The erasures that waited for a lease leave the list and go out. -/
theorem eraseRun_eq (s : State) (p cs : Nat) : s.eraseRun p cs = { s with
    outbox := s.outbox ++ (s.boot.eraseDue.filter (fun x => x.1 == p && x.2.1 == cs)).map (fun x => .flash p cs 0xD8 x.2.2 [] [])
    boot := { s.boot with eraseDue := s.boot.eraseDue.filter (fun x => !(x.1 == p && x.2.1 == cs)) } } := by
  unfold State.eraseRun
  exact foldl_toFlash p cs (fun _ => 0xD8) (fun x : Nat × Nat × Nat => x.2.2) _ _

theorem csQuiet_of (s : State) (p : Fin 16) (c : Fin 2) (h : ∀ a, (s.port p.val).active = some a → s.csMap p.val a.cs ≠ some c.val) :
    s.csQuiet p.val c.val = true := by
  unfold State.csQuiet
  cases hactive : (s.port p.val).active with
  | none => rfl
  | some a => simpa using h a hactive

theorem leaseGrant_spec (s : State) (p : Fin 16) (c : Fin 2) (hbit : s.bitOf (fp p.val 0 0x70) c.val = true)
    (hquiet : ∀ a, (s.port p.val).active = some a → s.csMap p.val a.cs ≠ some c.val) : ∃ t, exec (.leaseGrant p c) s = .next t ∧
      (t.port p.val).granted c.val = true ∧ (t.port p.val).granted (1 - c.val) = (s.port p.val).granted (1 - c.val) ∧
      ((s.port p.val).granted c.val = false → (t.port p.val).wip c.val = false ∧
        t.outbox = s.outbox ++
          (s.boot.eraseDue.filter (fun x => x.1 == p.val && x.2.1 == c.val)).map (fun x => .flash p.val c.val 0xD8 x.2.2 [] []) ∧
        t.boot = { s.boot with eraseDue := s.boot.eraseDue.filter (fun x => !(x.1 == p.val && x.2.1 == c.val)) }) ∧
      ((s.port p.val).granted c.val = true → t = s) ∧
      (∀ q, q ≠ p.val → t.port q = s.port q) ∧ t = { s with ports := t.ports, boot := t.boot, outbox := t.outbox } := by
  cases hgranted : (s.port p.val).granted c.val with
  | true =>
    have hexec : exec (.leaseGrant p c) s = .next s := congrArg Host.Outcome.next (if_neg (by rw [hgranted]; simp))
    exact ⟨s, hexec, hgranted, rfl, fun h => absurd h (by decide), fun _ => rfl, fun _ _ => rfl, rfl⟩
  | false =>
    have hexec : exec (.leaseGrant p c) s = .next ((s.modPort p.val (fun q => q.setGrant c.val true)).eraseRun p.val c.val) :=
      congrArg Host.Outcome.next (if_pos (by rw [hbit, hgranted, csQuiet_of s p c hquiet]; rfl))
    rw [eraseRun_eq] at hexec
    have hself : (s.modPort p.val (fun q => q.setGrant c.val true)).port p.val = (s.port p.val).setGrant c.val true := port_modPort_self s p.val _
    have hothers : ∀ q, q ≠ p.val → (s.modPort p.val (fun q => q.setGrant c.val true)).port q = s.port q :=
      fun q hq => port_modPort_other s hq _
    refine ⟨_, hexec, ?_, ?_, fun _ => ⟨?_, rfl, rfl⟩, fun h => absurd h (by decide), hothers, rfl⟩
    · exact (congrArg (fun q : PortState => q.granted c.val) hself).trans (granted_setGrant _ _ _)
    · exact (congrArg (fun q : PortState => q.granted (1 - c.val)) hself).trans (granted_setGrant_other _ c true)
    · exact (congrArg (fun q : PortState => q.wip c.val) hself).trans (wip_setGrant _ _ _)

theorem leaseGrant_waits (s : State) (p : Fin 16) (c : Fin 2) (h : ∃ a, (s.port p.val).active = some a ∧ s.csMap p.val a.cs = some c.val) :
    exec (.leaseGrant p c) s = .next s := by
  obtain ⟨a, hactive, hcs⟩ := h
  have hbusy : s.csQuiet p.val c.val = false := by simp [State.csQuiet, hactive, hcs]
  exact congrArg Host.Outcome.next (if_neg (by rw [hbusy, Bool.and_false]; decide))

theorem leaseEnd_spec (s : State) (p : Fin 16) (c : Fin 2) (hbit : s.bitOf (fp p.val 0 0x70) c.val = false) (hop : s.devOp p.val ≠ some c.val) :
    ∃ t, exec (.leaseEnd p c) s = .next t ∧ (t.port p.val).granted c.val = false ∧
      (t.port p.val).granted (1 - c.val) = (s.port p.val).granted (1 - c.val) ∧
      (∀ q, q ≠ p.val → t.port q = s.port q) ∧ t = { s with ports := t.ports } := by
  have hexec : exec (.leaseEnd p c) s = .next (s.modPort p.val (fun q => q.setGrant c.val false)) :=
    congrArg Host.Outcome.next (if_pos (by rw [hbit]; simpa using hop))
  exact ⟨_, hexec, by rw [port_modPort_self, granted_setGrant], by rw [port_modPort_self, granted_setGrant_other],
    fun q hq => port_modPort_other s hq _, rfl⟩

end

/-- Settles O20: each command is one change of the port, and what the device sends then follows in the outbox. -/
theorem leasesAndMasterResetsOfAPort : Obligations.LeasesAndMasterResetsOfAPort := by
  unfold Obligations.LeasesAndMasterResetsOfAPort
  exact fun s p => ⟨leaseWrite_spec s p, leaseGrant_spec s p, leaseGrant_waits s p, leaseEnd_spec s p,
    fun hen hheld => ⟨_, mrstEdge_spec s p hen hheld, mrst_spec s p.val⟩, mrstDeferredPulse_waits s p, mrstDeferredPulse_spec s p⟩

end Sys2Proof.Machine
end

section
/-! PROOFS. Discovery, calibration, buffered values and bank voltage of a port (R162, R165, R183 to R192). -/
namespace Sys2Proof.Machine

/-! ### Fields of a word -/

theorem field_setField_dens (w : Word) (c : Fin 2) (v : Nat) :
    Word.field (Word.setField w (8 * c.val + 4) (8 * c.val) v) (8 * c.val + 4) (8 * c.val) = v % 32 := by
  have hw := w.isLt
  match c with
  | 0 =>
    simp only [Word.field, Word.setField, Nat.shiftRight_eq_div_pow, BitVec.toNat_ofNat]
    norm_num
    omega
  | 1 =>
    simp only [Word.field, Word.setField, Nat.shiftRight_eq_div_pow, BitVec.toNat_ofNat]
    norm_num
    omega

theorem field_setField_dummy (w : Word) (v : Nat) (h : v < 32) : Word.field (Word.setField w 4 0 v) 4 0 = v := by
  have hw := w.isLt
  simp only [Word.field, Word.setField, Nat.shiftRight_eq_div_pow, BitVec.toNat_ofNat]
  norm_num
  omega

theorem bit_setField_calFail (w : Word) : Word.bit (Word.setField w 1 1 1) 1 = true := by
  have hw := w.isLt
  simp only [Word.bit, Word.field, Word.setField, BitVec.getLsbD, Nat.testBit, Nat.shiftRight_eq_div_pow, BitVec.toNat_ofNat]
  norm_num
  omega

theorem field_setField_calFail (w : Word) : Word.field (Word.setField w 1 1 1) 31 8 = Word.field w 31 8 := by
  have hw := w.isLt
  simp only [Word.field, Word.setField, Nat.shiftRight_eq_div_pow, BitVec.toNat_ofNat]
  norm_num
  omega

section
variable {s t : State}

/-! ### Discovery (R183, R184) -/

/-- `t` is `s` but for port `p` and the outbox. -/
structure State.PortSpoke (p : Nat) (s t : State) : Prop where
  box : s.portsBox t
  others : ∀ q, q ≠ p → t.port q = s.port q

theorem portSpoke_refl (p : Nat) (s : State) : s.PortSpoke p s := ⟨rfl, fun _ _ => rfl⟩

theorem portSpoke_trans {p : Nat} {r : State} (hrs : r.PortSpoke p s) (hst : s.PortSpoke p t) : r.PortSpoke p t :=
  ⟨portsBox_trans hrs.box hst.box, fun q hq => (hst.others q hq).trans (hrs.others q hq)⟩

theorem modeRuns_setDisc (q : PortState) (cs v k : Nat) : (q.setDisc cs v).modeRuns k = q.modeRuns k := by
  unfold PortState.setDisc
  split_ifs <;> rfl

theorem discStart_spec (s : State) (p cs : Nat) :
    (s.discStart p cs).port p = ((s.port p).setMode cs (s.modeReg p cs)).setDisc cs 1 ∧
    (s.discStart p cs).outbox = s.outbox ++ [.frst p] ++ ((s.port p).setMode cs (s.modeReg p cs)).devOut p cs [0x66, 0x99, 0x9F, 0x5A] ∧
    s.PortSpoke p (s.discStart p cs) := by
  unfold State.discStart
  dsimp only
  generalize hu : (s.out (.frst p)).modPort p (fun q => (q.setMode cs (s.modeReg p cs)).setDisc cs 1) = u
  have hself : u.port p = ((s.port p).setMode cs (s.modeReg p cs)).setDisc cs 1 := by rw [← hu, port_modPort_self, port_out]
  have hspoke : s.PortSpoke p u := by
    rw [← hu]
    exact ⟨rfl, fun q hq => (port_modPort_other _ hq _).trans (port_out s _ q)⟩
  refine ⟨by rw [port_devCmds, hself], ?_, portSpoke_trans hspoke ?_⟩
  · have hbox : u.outbox = s.outbox ++ [.frst p] := by rw [← hu]; rfl
    rw [devCmds_eq, PortState.devOut, hself, modeRuns_setDisc, ← hbox]
    rfl
  · refine ⟨?_, fun q _ => port_devCmds u p cs _ q⟩
    rw [devCmds_eq]
    exact portsBox_of_outbox rfl

/-- What a DISC_CTRL write with its conditions met starts. -/
def State.discStarts (s : State) (p : Nat) (v : Word) : State :=
  let u := if Word.bit v 0 then s.discStart p 0 else s
  if Word.bit v 1 then u.discStart p 1 else u

theorem discStarts_spec (s : State) (p : Nat) (v : Word) :
    (v.getLsbD 0 = true → ((s.discStarts p v).port p).discSt0 = 1) ∧ (v.getLsbD 1 = true → ((s.discStarts p v).port p).discSt1 = 1) ∧
    (v.getLsbD 0 = true → v.getLsbD 1 = false → s.discStarts p v = s.discStart p 0) ∧ s.PortSpoke p (s.discStarts p v) := by
  unfold State.discStarts Word.bit
  have hfirst : ∀ u : State, ((u.discStart p 0).port p).discSt0 = 1 := fun u => by rw [(discStart_spec u p 0).1]; rfl
  have hsecond : ∀ u : State, ((u.discStart p 1).port p).discSt1 = 1 := fun u => by rw [(discStart_spec u p 1).1]; rfl
  have hkept : ∀ u : State, ((u.discStart p 1).port p).discSt0 = (u.port p).discSt0 := fun u => by rw [(discStart_spec u p 1).1]; rfl
  have hspoke : ∀ (u : State) (c : Nat), u.PortSpoke p (u.discStart p c) := fun u c => (discStart_spec u p c).2.2
  by_cases h0 : v.getLsbD 0 = true
  · rw [if_pos h0]
    by_cases h1 : v.getLsbD 1 = true
    · rw [if_pos h1]
      exact ⟨fun _ => (hkept _).trans (hfirst s), fun _ => hsecond _, fun _ h => absurd (h1.symm.trans h) (by decide),
        portSpoke_trans (hspoke s 0) (hspoke _ 1)⟩
    · rw [if_neg h1]
      exact ⟨fun _ => hfirst s, fun h => absurd h h1, fun _ _ => rfl, hspoke s 0⟩
  · rw [if_neg h0]
    by_cases h1 : v.getLsbD 1 = true
    · rw [if_pos h1]
      exact ⟨fun h => absurd h h0, fun _ => hsecond s, fun h => absurd h h0, hspoke s 1⟩
    · rw [if_neg h1]
      exact ⟨fun h => absurd h h0, fun h => absurd h h1, fun h => absurd h h0, portSpoke_refl p s⟩

theorem discover_spec (s : State) (p : Fin 16) (m : Master) (v : Word) (h : s.admits m (fp p.val 0 0x78) = true) :
    ∃ t : State, exec (.discover m p v) s = .next t ∧
      (s.discOk p.val = true → (v.getLsbD 0 = true → (t.port p.val).discSt0 = 1) ∧ (v.getLsbD 1 = true → (t.port p.val).discSt1 = 1) ∧
        (v.getLsbD 0 = true → v.getLsbD 1 = false → t.outbox = s.outbox ++ [.frst p.val] ++
          ((s.port p.val).setMode 0 (s.modeReg p.val 0)).devOut p.val 0 [0x66, 0x99, 0x9F, 0x5A]) ∧
        t = { s with ports := t.ports, outbox := t.outbox } ∧ ∀ q, q ≠ p.val → t.port q = s.port q) ∧
      (s.discOk p.val = false → t.ports = s.ports ∧ t.reg (fp p.val 0 0x18) = pageErrAfter (s.reg (fp p.val 0 0x18)) 0x78 .state m ∧
        t = { s.routed t with regs := t.regs }) := by
  have hexec : exec (.discover m p v) s = .next (s.discover m p.val v) := guarded_next s m _ _ h
  have heq : s.discover m p.val v = if s.discOk p.val then s.discStarts p.val v else s.refuse m (fp p.val 0 0x78) := rfl
  rw [heq] at hexec
  cases hok : s.discOk p.val with
  | true =>
    rw [hok, if_pos rfl] at hexec
    obtain ⟨hst0, hst1, hfirst, hspoke⟩ := discStarts_spec s p.val v
    refine ⟨_, hexec, fun _ => ⟨hst0, hst1, fun h0 h1 => ?_, hspoke.box, hspoke.others⟩, fun hno => absurd hno (by decide)⟩
    rw [hfirst h0 h1]
    exact (discStart_spec s p.val 0).2.1
  | false =>
    rw [hok, if_neg (by decide)] at hexec
    have hreg := reg_refuse s m (fp p.val 0 0x78)
    rw [fp, pg_div _ _ (by decide), pg_mod _ _ (by decide)] at hreg
    exact ⟨_, hexec, fun hno => absurd hno (by decide), fun _ => ⟨ports_refuse s m _, hreg, refuse_routed s m _⟩⟩

/-- The shadow of a chip select as discovery fills it. -/
def PortState.shadowed (q : PortState) (cs code : Nat) (id sf : Bytes) : PortState :=
  if cs = 0 then { q.setDisc cs code with id0 := id, sfdp0 := sf } else { q.setDisc cs code with id1 := id, sfdp1 := sf }

theorem shadowed_spec (q : PortState) (c : Fin 2) (code : Nat) (id sf : Bytes) :
    (q.shadowed c.val code id sf).disc c.val = code ∧ (q.shadowed c.val code id sf).jedec c.val = id ∧
    (q.shadowed c.val code id sf).sfdp c.val = sf := by
  match c with
  | 0 => exact ⟨rfl, rfl, rfl⟩
  | 1 => exact ⟨rfl, rfl, rfl⟩

theorem discDone_found (s : State) (p cs : Nat) (r : DiscResult) (h : discCode r = 2) :
    s.discDone p cs r = (s.modPort p (fun q => q.shadowed cs 2 r.id r.sfdp)).setFld (fp p 0 0x88) (8 * cs + 4) (8 * cs) (discDens r.sfdp) := by
  unfold State.discDone
  dsimp only
  rw [h]
  rfl

theorem discDone_silent (s : State) (p cs : Nat) :
    s.discDone p cs DiscResult.silent = (s.modPort p (fun q => q.shadowed cs 4 [] [])).portErr p 8 cs := by
  have hcode : discCode DiscResult.silent = 4 := by decide
  unfold State.discDone
  dsimp only
  rw [hcode]
  rfl

theorem exec_discoveryDone (s : State) (p : Fin 16) (c : Fin 2) (r : DiscResult) (h : (s.port p.val).disc c.val = 1) :
    exec (.discoveryDone p c r) s = .next (s.discDone p.val c.val (if (s.port p.val).modeRuns c.val then r else DiscResult.silent)) :=
  congrArg Host.Outcome.next (if_pos h)

theorem discoveryDone_found (s : State) (p : Fin 16) (c : Fin 2) (r : DiscResult) (h : (s.port p.val).disc c.val = 1)
    (hruns : (s.port p.val).modeRuns c.val = true) (hcode : discCode r = 2) : ∃ t, exec (.discoveryDone p c r) s = .next t ∧
      (t.port p.val).disc c.val = 2 ∧ (t.port p.val).jedec c.val = r.id ∧ (t.port p.val).sfdp c.val = r.sfdp ∧
      Word.field (t.reg (fp p.val 0 0x88)) (8 * c.val + 4) (8 * c.val) = discDens r.sfdp % 32 ∧
      (∀ q, q ≠ p.val → t.port q = s.port q) ∧ t = { s with regs := t.regs, ports := t.ports } := by
  have hexec := exec_discoveryDone s p c r h
  rw [hruns, if_pos rfl, discDone_found s _ _ r hcode] at hexec
  obtain ⟨hdisc, hid, hsf⟩ := shadowed_spec (s.port p.val) c 2 r.id r.sfdp
  have hport : ∀ (u : State) (a hi lo v q : Nat), (u.setFld a hi lo v).port q = u.port q := fun _ _ _ _ _ _ => rfl
  refine ⟨_, hexec, ?_, ?_, ?_, ?_, fun q hq => ?_, rfl⟩
  · rw [hport, port_modPort_self, hdisc]
  · rw [hport, port_modPort_self, hid]
  · rw [hport, port_modPort_self, hsf]
  · rw [State.setFld, State.reg_setReg, if_pos rfl, field_setField_dens]
  · rw [hport, port_modPort_other s hq]

theorem discoveryDone_silent (s : State) (p : Fin 16) (c : Fin 2) (r : DiscResult) (h : (s.port p.val).disc c.val = 1)
    (hruns : (s.port p.val).modeRuns c.val = false) : ∃ t, exec (.discoveryDone p c r) s = .next t ∧
      (t.port p.val).disc c.val = 4 ∧ (t.port p.val).jedec c.val = [] ∧ (t.port p.val).sfdp c.val = [] ∧
      t.reg (fp p.val 0 0xA8) = fld 8 0 ||| fld c.val 4 ∧ (∀ q, q ≠ p.val → t.port q = s.port q) := by
  have hexec := exec_discoveryDone s p c r h
  rw [hruns, if_neg (by decide), discDone_silent] at hexec
  obtain ⟨hdisc, hid, hsf⟩ := shadowed_spec (s.port p.val) c 4 [] []
  refine ⟨_, hexec, ?_, ?_, ?_, ?_, fun q hq => ?_⟩
  · rw [port_portErr, port_modPort_self, hdisc]
  · rw [port_portErr, port_modPort_self, hid]
  · rw [port_portErr, port_modPort_self, hsf]
  · rw [reg_portErr, if_pos rfl]
  · rw [port_portErr, port_modPort_other s hq]

theorem discoveryDone_idle (s : State) (p : Fin 16) (c : Fin 2) (r : DiscResult) (h : (s.port p.val).disc c.val ≠ 1) :
    exec (.discoveryDone p c r) s = .next s := congrArg Host.Outcome.next (if_neg h)

/-! ### Calibration (R192) -/

theorem phyCal_spec (s : State) (p : Fin 16) (m : Master) (h : s.admits m (fp p.val 0 0xA0) = true)
    (hauto : s.bitOf (fp p.val 0 0x9C) 16 = true) : ∃ t, exec (.phyCal m p) s = .next t ∧ (t.port p.val).calOwed = true ∧
      (∀ q, q ≠ p.val → t.port q = s.port q) ∧ t = { s with ports := t.ports } := by
  have hexec : exec (.phyCal m p) s = .next (s.phyCal p.val) := guarded_next s m _ _ h
  rw [State.phyCal, if_pos hauto] at hexec
  exact ⟨_, hexec, by rw [port_modPort_self], fun q hq => port_modPort_other s hq _, rfl⟩

theorem phyCalDone_spec (s : State) (p : Fin 16) (best : Option Nat) (howed : (s.port p.val).calOwed = true) (hidle : s.portIdle p.val = true) :
    ∃ t, exec (.phyCalDone p best) s = .next t ∧
      (t.port p.val).calOwed = false ∧ (∀ d, best = some d → t.reg (fp p.val 0 0xA4) = 1 ||| BitVec.ofNat 32 (d % 64 * 256)) ∧
      (best = none → Word.bit (t.reg (fp p.val 0 0xA4)) 1 = true ∧
        Word.field (t.reg (fp p.val 0 0xA4)) 31 8 = Word.field (s.reg (fp p.val 0 0xA4)) 31 8) ∧
      (∀ a, a ≠ fp p.val 0 0xA4 → t.reg a = s.reg a) ∧ t = { s with regs := t.regs, ports := t.ports } := by
  have hexec : exec (.phyCalDone p best) s = .next (s.calDone p.val best) := congrArg Host.Outcome.next (if_pos (by rw [howed, hidle]; rfl))
  have hself : ∀ (a : Nat) (v : Word), (((s.modPort p.val (fun q => { q with calOwed := false })).setReg a v).port p.val).calOwed = false :=
    fun a v => congrArg PortState.calOwed (port_modPort_self s p.val (fun q => { q with calOwed := false }))
  cases best with
  | some d =>
    refine ⟨_, hexec, hself _ _, fun k hk => ?_, fun h => absurd h (by simp), fun a ha => ?_, rfl⟩
    · obtain rfl := Option.some.inj hk
      exact (State.reg_setReg ..).trans (if_pos rfl)
    · exact (State.reg_setReg ..).trans (if_neg ha)
  | none =>
    have hreg : (s.calDone p.val none).reg (fp p.val 0 0xA4) = Word.setField (s.reg (fp p.val 0 0xA4)) 1 1 1 :=
      (State.reg_setReg ..).trans (if_pos rfl)
    refine ⟨_, hexec, hself _ _, fun k hk => absurd hk (by simp), fun _ => ⟨?_, ?_⟩, fun a ha => ?_, rfl⟩
    · rw [hreg]; exact bit_setField_calFail _
    · rw [hreg]; exact field_setField_calFail _
    · exact (State.reg_setReg ..).trans (if_neg ha)

theorem port_busy_waits (s : State) (p : Fin 16) (h : s.portIdle p.val = false) :
    (∀ best, exec (.phyCalDone p best) s = .next s) ∧ exec (.portPendingApply p) s = .next s :=
  ⟨fun _ => congrArg Host.Outcome.next (if_neg (by rw [h]; simp)), congrArg Host.Outcome.next (if_neg (by rw [h]; decide))⟩

/-! ### A port without bank voltage (R189) -/

/-- FAULT records PORT_ERR and ends the master's command. -/
theorem faultEntry_spec (s : State) (p : Nat) (was : Bool) :
    (s.faultEntry p was).slowDue = s.slowDue ∧ (∀ b, b ≠ fp p 0 0xA8 → (s.faultEntry p was).reg b = s.reg b) ∧
    ((s.faultEntry p was).port p).bank = (s.port p).bank ∧ (∀ q, q ≠ p → (s.faultEntry p was).port q = s.port q) := by
  unfold State.faultEntry
  split_ifs
  · obtain ⟨-, hport, hothers, hframe⟩ := silence_spec (s.portErr p 4 0) p
    have hdue : ((s.portErr p 4 0).silence p).slowDue = (s.portErr p 4 0).slowDue := by rw [hframe]; rfl
    refine ⟨hdue.trans (by simp [State.portErr]), fun b hb => ?_, ?_,
      fun q hq => (hothers q hq).trans (port_portErr s p 4 0 q)⟩
    · rw [State.reg, regs_of_portsFrame hframe]
      exact (reg_portErr s p 4 0 b).trans (if_neg hb)
    · rw [hport]
      show ((s.portErr p 4 0).port p).bank = (s.port p).bank
      rw [port_portErr]
  · exact ⟨rfl, fun _ _ => rfl, rfl, fun _ _ => rfl⟩

theorem bankTo_spec (s : State) (p code : Nat) :
    ((s.bankTo p code).port p).bank = code ∧ (s.bankTo p code).portEn p = s.portEn p ∧
    (∀ q, q ≠ p → (s.bankTo p code).port q = s.port q) := by
  obtain ⟨-, hregs, hbank, hothers⟩ := faultEntry_spec (s.modPort p (fun q => { q with bank := code })) p (s.portFault p)
  refine ⟨hbank.trans (by rw [port_modPort_self]), ?_, fun q hq => (hothers q hq).trans (port_modPort_other s hq _)⟩
  exact congrArg (fun w : Word => Word.bit w 0) (hregs (fp p 0 0x40) (by simp only [fp, pg]; omega))

theorem bankFault_spec (s : State) (p : Fin 16) (code : Fin 8) (h : code.val = 0 ∨ code.val = 3) :
    ∃ t, exec (.bankFault p code) s = .next t ∧ (t.port p.val).bank = code.val ∧
      (s.portEn p.val = true → t.portFault p.val = true ∧ t.portLive p.val = false) ∧ ∀ q, q ≠ p.val → t.port q = s.port q := by
  obtain ⟨hbank, hen, hothers⟩ := bankTo_spec s p.val code.val
  refine ⟨_, congrArg Host.Outcome.next (if_pos h), hbank, fun hon => ?_, hothers⟩
  have hfault : (s.bankTo p.val code.val).portFault p.val = true := by
    rw [State.portFault, hbank, hen, hon]
    rcases h with h | h <;> rw [h] <;> rfl
  exact ⟨hfault, by rw [State.portLive, hfault]; simp⟩

theorem bankVoltageReturn_spec (s : State) (p : Fin 16) (code : Fin 8) (h : code.val = 1 ∨ code.val = 2) :
    ∃ t, exec (.bankVoltageReturn p code) s = .next t ∧ (t.port p.val).bank = code.val ∧ t.portFault p.val = false ∧
      (∀ q, q ≠ p.val → t.port q = s.port q) ∧ t = { s with ports := t.ports } := by
  have hexec : exec (.bankVoltageReturn p code) s = .next (s.bankTo p.val code.val) := congrArg Host.Outcome.next (if_pos h)
  have hbank : ((s.modPort p.val (fun q => { q with bank := code.val })).port p.val).bank = code.val := by rw [port_modPort_self]
  have hfault : (s.modPort p.val (fun q => { q with bank := code.val })).portFault p.val = false := by
    rw [State.portFault, hbank]
    rcases h with h | h <;> rw [h] <;> exact Bool.and_false _
  rw [State.bankTo, State.faultEntry, hfault, Bool.and_false, if_neg (by decide)] at hexec
  exact ⟨_, hexec, hbank, hfault, fun q hq => port_modPort_other s hq _, rfl⟩

/-! ### Buffered values of a port (R162, R165, R191) -/

/-- How the register at `a`, other than PORT_ERR, takes a strobed value `v` on a bank: from `old` to `new`. -/
def PortTook (p bank a : Nat) (v old new : Word) : Prop :=
  a ≠ fp p 0 0xA8 →
    (a ≠ fp p 0 0x48 → a ≠ fp p 0 0x4C → a ≠ fp p 0 0x54 → new = v) ∧
    (a = fp p 0 0x54 → Word.field new 4 0 = min 16 (max 6 (Word.field v 4 0))) ∧
    (a = fp p 0 0x48 → modeOk bank (Word.field v 3 0) = true → clkOk (Word.field v 3 0) (Word.field v 7 5) = true → new = v) ∧
    (a = fp p 0 0x48 ∨ a = fp p 0 0x4C → modeOk bank (Word.field v 3 0) = false → new = old)

theorem fp_offset (p a off : Nat) (hpage : a / 4096 = 0x80 + 4 * p) (_ : off < 4096) : a = fp p 0 off ↔ a % 4096 = off := by
  simp only [fp, pg]
  omega

/-- A mode takes its value where bank and clock allow it, else PORT_ERR records it. -/
theorem portApply_mode (s : State) (p a : Nat) (v : Word) (hoff : a % 4096 = 0x48 ∨ a % 4096 = 0x4C) :
    (∃ c : Bool, s.portApply p a v = if c then (s.setReg a v).modPort p (fun q => { q with calOwed := true }) else s.setReg a v) ∧
      (modeOk (s.port p).bank (Word.field v 3 0) = true) ∨
    s.portApply p a v = s.portErr p 3 ((a % 4096 - 0x48) / 4) ∧
      ¬(modeOk (s.port p).bank (Word.field v 3 0) = true ∧
        clkOk (Word.field v 3 0) (if a % 4096 = 0x48 then Word.field v 7 5 else 0) = true) := by
  unfold State.portApply
  dsimp only
  rw [if_pos hoff]
  by_cases hok : modeOk (s.port p).bank (Word.field v 3 0) = true ∧
      clkOk (Word.field v 3 0) (if a % 4096 = 0x48 then Word.field v 7 5 else 0) = true
  · rw [if_pos (by rw [Bool.and_eq_true]; exact hok)]
    exact Or.inl ⟨⟨_, rfl⟩, hok.1⟩
  · rw [if_neg (by rw [Bool.and_eq_true]; exact hok)]
    exact Or.inr ⟨rfl, hok⟩

/-- What one strobed value changes. -/
structure State.TookAt (p a : Nat) (v : Word) (s t : State) : Prop where
  due : t.slowDue = s.slowDue
  regs : ∀ b, b ≠ a → b ≠ fp p 0 0xA8 → t.reg b = s.reg b
  took : PortTook p (s.port p).bank a v (s.reg a) (t.reg a)
  bank : (t.port p).bank = (s.port p).bank
  others : ∀ q, q ≠ p → t.port q = s.port q

theorem portApply_spec (s : State) (p a : Nat) (v : Word) (hpage : a / 4096 = 0x80 + 4 * p) : s.TookAt p a v (s.portApply p a v) := by
  have h48 := fp_offset p a 0x48 hpage (by decide)
  have h4C := fp_offset p a 0x4C hpage (by decide)
  have h54 := fp_offset p a 0x54 hpage (by decide)
  by_cases hmode : a % 4096 = 0x48 ∨ a % 4096 = 0x4C
  · rcases portApply_mode s p a v hmode with ⟨⟨c, heq⟩, hok⟩ | ⟨heq, hbad⟩
    · have hreg : ∀ b, (s.portApply p a v).reg b = if b = a then v else s.reg b := fun b => by
        rw [heq, ← State.reg_setReg]
        split_ifs <;> rfl
      have hport : ∀ q, (s.portApply p a v).port q = if c = true ∧ q = p then { s.port p with calOwed := true } else s.port q := fun q => by
        rw [heq]
        cases c with
        | true =>
          simp only [if_true, true_and]
          exact port_modPort (s.setReg a v) p q _
        | false => rfl
      refine ⟨?_, fun b hb _ => (hreg b).trans (if_neg hb), fun _ => ⟨?_, ?_, ?_, ?_⟩, ?_,
        fun q hq => (hport q).trans (if_neg fun h => hq h.2)⟩
      · rw [heq]
        split_ifs <;> rfl
      · exact fun n48 n4C _ => absurd hmode (by rw [← h48, ← h4C]; exact fun h => h.elim n48 n4C)
      · exact fun h => absurd (h54.mp h) (by omega)
      · exact fun _ _ _ => (hreg a).trans (if_pos rfl)
      · exact fun _ hno => absurd (hok.symm.trans hno) (by decide)
      · rw [hport]
        split_ifs <;> rfl
    · have hreg : ∀ b, b ≠ fp p 0 0xA8 → (s.portApply p a v).reg b = s.reg b := fun b hb => by rw [heq, reg_portErr, if_neg hb]
      refine ⟨?_, fun b _ hb => hreg b hb, fun ha => ⟨?_, ?_, ?_, fun _ _ => hreg a ha⟩, ?_, fun q _ => ?_⟩
      · rw [heq]
        simp [State.portErr]
      · exact fun n48 n4C _ => absurd hmode (by rw [← h48, ← h4C]; exact fun h => h.elim n48 n4C)
      · exact fun h => absurd (h54.mp h) (by omega)
      · exact fun h hok hclk => absurd ⟨hok, by rw [if_pos (h48.mp h)]; exact hclk⟩ hbad
      · rw [heq, port_portErr]
      · rw [heq, port_portErr]
  · by_cases hdummy : a % 4096 = 0x54
    · have heq : s.portApply p a v = s.setReg a (Word.setField v 4 0 (min 16 (max 6 (Word.field v 4 0)))) := by
        unfold State.portApply
        dsimp only
        rw [if_neg hmode, if_pos hdummy]
      have hreg : ∀ b, (s.portApply p a v).reg b = if b = a then Word.setField v 4 0 (min 16 (max 6 (Word.field v 4 0))) else s.reg b :=
        fun b => by rw [heq, State.reg_setReg]
      refine ⟨by rw [heq]; rfl, fun b hb _ => (hreg b).trans (if_neg hb), fun _ => ⟨?_, fun _ => ?_, ?_, ?_⟩, by rw [heq]; rfl,
        fun q _ => by rw [heq]; rfl⟩
      · exact fun _ _ n54 => absurd (h54.mpr hdummy) n54
      · rw [hreg, if_pos rfl]
        exact field_setField_dummy v _ (by omega)
      · exact fun h => absurd (Or.inl (h48.mp h)) hmode
      · exact fun h => absurd (h.imp h48.mp h4C.mp) hmode
    · have heq : s.portApply p a v = (s.setReg a v).faultEntry p (s.portFault p) := by
        unfold State.portApply
        dsimp only
        rw [if_neg hmode, if_neg hdummy]
      obtain ⟨hdue, hregs, hbank, hothers⟩ := faultEntry_spec (s.setReg a v) p (s.portFault p)
      have hreg : ∀ b, b ≠ fp p 0 0xA8 → (s.portApply p a v).reg b = if b = a then v else s.reg b :=
        fun b hb => by rw [heq, hregs b hb, State.reg_setReg]
      refine ⟨by rw [heq]; exact hdue, fun b hb hA8 => (hreg b hA8).trans (if_neg hb),
        fun ha => ⟨fun _ _ _ => (hreg a ha).trans (if_pos rfl), ?_, ?_, ?_⟩, by rw [heq]; exact hbank, by rw [heq]; exact hothers⟩
      · exact fun h => absurd (h54.mp h) hdummy
      · exact fun h => absurd (Or.inl (h48.mp h)) hmode
      · exact fun h => absurd (h.imp h48.mp h4C.mp) hmode

/-- One strobed value of the page whose edge has passed applies. -/
def State.portTake (s : State) (p : Nat) (e : Nat × Option (Bool × Word)) : State :=
  match e.2 with
  | some (true, v) => (s.setDue e.1 none).portApply p e.1 v
  | _ => s

theorem portPending_eq (s : State) (p : Nat) :
    s.portPending p = (s.slowDue.filter (fun e => e.1 / 4096 == 0x80 + 4 * p)).foldl (fun u e => u.portTake p e) s := rfl

theorem dueAt_setDue (s : State) (a b : Nat) (v : Option (Bool × Word)) : (s.setDue a v).dueAt b = if b = a then v else s.dueAt b := by
  simp only [State.dueAt, State.setDue, SMap.get_set]

/-- What the entries of a list of strobed values change. -/
structure State.TookAll (p : Nat) (l : SMap (Option (Bool × Word))) (s t : State) : Prop where
  took : ∀ b v, SMap.get (fun _ => none) l b = some (true, v) → t.dueAt b = none ∧ PortTook p (s.port p).bank b v (s.reg b) (t.reg b)
  kept : ∀ b, (∀ v, SMap.get (fun _ => none) l b ≠ some (true, v)) → t.dueAt b = s.dueAt b ∧ (b ≠ fp p 0 0xA8 → t.reg b = s.reg b)
  bank : (t.port p).bank = (s.port p).bank
  others : ∀ q, q ≠ p → t.port q = s.port q

/-- One entry alone. -/
theorem portTake_spec (s : State) (p : Nat) (e : Nat × Option (Bool × Word)) (hpage : e.1 / 4096 = 0x80 + 4 * p) :
    s.TookAll p [e] (s.portTake p e) := by
  obtain ⟨a, x⟩ := e
  have hget : ∀ b, SMap.get (fun _ => none) [(a, x)] b = if a = b then x else none := fun _ => rfl
  by_cases hx : ∃ v, x = some (true, v)
  · obtain ⟨v, rfl⟩ := hx
    obtain ⟨hdue, hregs, htook, hbank, hothers⟩ := portApply_spec (s.setDue a none) p a v hpage
    have hat : ∀ b, (s.portTake p (a, some (true, v))).dueAt b = if b = a then none else s.dueAt b :=
      fun b => (congrArg (fun m => SMap.get (fun _ => none) m b) hdue).trans (dueAt_setDue s a b none)
    refine ⟨fun b w hb => ?_, fun b hb => ?_, hbank, hothers⟩
    · rw [hget] at hb
      by_cases hab : a = b
      · subst hab
        rw [if_pos rfl] at hb
        obtain rfl : v = w := by simpa using hb
        exact ⟨(hat a).trans (if_pos rfl), htook⟩
      · rw [if_neg hab] at hb
        exact absurd hb (by simp)
    · have hne : b ≠ a := fun h => hb v (by rw [hget, if_pos h.symm])
      exact ⟨(hat b).trans (if_neg hne), hregs b hne⟩
  · have heq : s.portTake p (a, x) = s := by
      unfold State.portTake
      split
      · exact absurd ⟨_, ‹_›⟩ hx
      · rfl
    rw [heq]
    refine ⟨fun b w hb => ?_, fun _ _ => ⟨rfl, fun _ => rfl⟩, rfl, fun _ _ => rfl⟩
    rw [hget] at hb
    split_ifs at hb
    exact absurd ⟨w, hb⟩ hx

theorem get_none_of_lt_keys {α : Type} (m : SMap (Option α)) (k : Nat) (h : ∀ e ∈ m, k < e.1) : SMap.get (fun _ => none) m k = none := by
  by_contra hne
  exact absurd (h _ (mem_of_get_ne (fun _ => none) m k hne)) (by simp)

theorem tookAll_foldl (p : Nat) (l : SMap (Option (Bool × Word))) :
    ∀ s : State, SMap.sorted l = true → (∀ e ∈ l, e.1 / 4096 = 0x80 + 4 * p) →
    s.TookAll p l (l.foldl (fun u e => u.portTake p e) s) := by
  induction l with
  | nil => exact fun s _ _ => ⟨fun b v h => absurd h (by simp [SMap.get]), fun _ _ => ⟨rfl, fun _ => rfl⟩, rfl, fun _ _ => rfl⟩
  | cons e l ih =>
    intro s hsorted hpage
    simp only [SMap.sorted, Bool.and_eq_true, List.all_eq_true, decide_eq_true_eq] at hsorted
    obtain ⟨hfirst, hrest⟩ := hsorted
    have hlater := get_none_of_lt_keys l e.1 hfirst
    obtain ⟨htook1, hkept1, hbank1, hothers1⟩ := portTake_spec s p e (hpage e List.mem_cons_self)
    obtain ⟨htook, hkept, hbank, hothers⟩ := ih (s.portTake p e) hrest fun x hx => hpage x (List.mem_cons_of_mem _ hx)
    have hget : ∀ b, SMap.get (fun _ => none) (e :: l) b = if e.1 = b then e.2 else SMap.get (fun _ => none) l b := fun _ => rfl
    have hget1 : ∀ b, SMap.get (fun _ => none) [e] b = if e.1 = b then e.2 else none := fun _ => rfl
    refine ⟨fun b v hb => ?_, fun b hb => ?_, hbank.trans hbank1, fun q hq => (hothers q hq).trans (hothers1 q hq)⟩
    · rw [hget] at hb
      by_cases hab : e.1 = b
      · rw [if_pos hab] at hb
        obtain ⟨hdue, hreg⟩ := hkept b fun w => by rw [← hab, hlater]; simp
        obtain ⟨hnone, htaken⟩ := htook1 b v (by rw [hget1, if_pos hab]; exact hb)
        refine ⟨hdue.trans hnone, fun hne => ?_⟩
        rw [List.foldl_cons, hreg hne]
        exact htaken hne
      · rw [if_neg hab] at hb
        obtain ⟨hnone, htaken⟩ := htook b v hb
        refine ⟨hnone, fun hne => ?_⟩
        obtain ⟨-, hreg⟩ := hkept1 b fun w => by rw [hget1, if_neg hab]; simp
        have h := htaken hne
        rw [hbank1, hreg hne] at h
        exact h
    · obtain ⟨hdue1, hreg1⟩ := hkept1 b fun w => by
        rw [hget1]
        split_ifs with hab
        · rw [hget, if_pos hab] at hb
          exact hb w
        · simp
      obtain ⟨hdue, hreg⟩ := hkept b fun w => by
        by_cases hab : e.1 = b
        · rw [← hab, hlater]
          simp
        · rw [hget, if_neg hab] at hb
          exact hb w
      exact ⟨hdue.trans hdue1, fun hne => (hreg hne).trans (hreg1 hne)⟩

theorem exec_portPendingApply (s : State) (p : Fin 16) (h : s.portIdle p.val = true) : exec (.portPendingApply p) s = .next (s.portPending p.val) :=
  congrArg Host.Outcome.next (if_pos h)

theorem portPending_spec (s : State) (p : Nat) (hwf : SMap.wf (fun _ => none) s.slowDue = true) :
    (∀ a v, a / 4096 = 0x80 + 4 * p → s.dueAt a = some (true, v) →
      (s.portPending p).dueAt a = none ∧ PortTook p (s.port p).bank a v (s.reg a) ((s.portPending p).reg a)) ∧
    (∀ a, a / 4096 ≠ 0x80 + 4 * p → (s.portPending p).dueAt a = s.dueAt a ∧ (s.portPending p).reg a = s.reg a) ∧
    (∀ q, q ≠ p → (s.portPending p).port q = s.port q) := by
  simp only [SMap.wf, Bool.and_eq_true] at hwf
  have hget : ∀ b, SMap.get (fun _ => none) (s.slowDue.filter (fun e => e.1 / 4096 == 0x80 + 4 * p)) b =
      if b / 4096 == 0x80 + 4 * p then s.dueAt b else none :=
    fun b => SMap.get_filter (fun _ => none) s.slowDue (fun k => k / 4096 == 0x80 + 4 * p) b
  obtain ⟨htook, hkept, -, hothers⟩ := tookAll_foldl p (s.slowDue.filter (fun e => e.1 / 4096 == 0x80 + 4 * p)) s
    (SMap.sorted_filter _ _ hwf.1) fun e he => by simpa using (List.mem_filter.mp he).2
  rw [← portPending_eq] at htook hkept hothers
  refine ⟨fun a v hpage hdue => htook a v (by rw [hget, if_pos (by simpa using hpage), hdue]), fun a hpage => ?_, hothers⟩
  obtain ⟨hdue, hreg⟩ := hkept a fun v => by rw [hget, if_neg (by simpa using hpage)]; simp
  exact ⟨hdue, hreg fun h => hpage (by rw [h, fp, pg_div _ _ (by decide)]; rfl)⟩

theorem portPendingApply_badMode (s : State) (p : Fin 16) (v : Word) (hidle : s.portIdle p.val = true)
    (hdue : s.slowDue = [(fp p.val 0 0x48, some (true, v))]) (hbad : modeOk (s.port p.val).bank (Word.field v 3 0) = false) :
    ∃ t, exec (.portPendingApply p) s = .next t ∧ t.reg (fp p.val 0 0x48) = s.reg (fp p.val 0 0x48) ∧
      Word.field (t.reg (fp p.val 0 0xA8)) 3 0 = 3 := by
  have hpage : fp p.val 0 0x48 / 4096 = 0x80 + 4 * p.val := pg_div _ _ (by decide)
  have hoff : fp p.val 0 0x48 % 4096 = 0x48 := pg_mod _ _ (by decide)
  have heq : s.portPending p.val = (s.setDue (fp p.val 0 0x48) none).portApply p.val (fp p.val 0 0x48) v := by
    rw [portPending_eq, hdue, List.filter_cons_of_pos (by simpa using hpage)]
    rfl
  rcases portApply_mode (s.setDue (fp p.val 0 0x48) none) p.val (fp p.val 0 0x48) v (Or.inl hoff) with ⟨-, hok⟩ | ⟨herr, -⟩
  · exact absurd (hok.symm.trans hbad) (by decide)
  · refine ⟨_, exec_portPendingApply s p hidle, ?_, ?_⟩
    · rw [heq, herr, reg_portErr, if_neg (by simp only [fp, pg]; omega)]
      rfl
    · rw [heq, herr, field_portErr _ _ _ _ (by decide)]

end

/-- Settles O21: discovery and calibration each by its command, buffered values by induction over the strobed values of the page. -/
theorem portServicesDiscoverCalibrateAndFault : Obligations.PortServicesDiscoverCalibrateAndFault := by
  unfold Obligations.PortServicesDiscoverCalibrateAndFault
  intro s p
  refine ⟨fun m v h => discover_spec s p m v h, discoveryDone_found s p, discoveryDone_silent s p, discoveryDone_idle s p, phyCal_spec s p,
    phyCalDone_spec s p, port_busy_waits s p, fun hidle hwf => ?pending, fun v hidle hdue hbad => portPendingApply_badMode s p v hidle hdue hbad,
    fun code => ⟨bankFault_spec s p code, bankVoltageReturn_spec s p code⟩⟩
  case pending =>
    obtain ⟨htook, hkept, hothers⟩ := portPending_spec s p.val hwf
    refine ⟨_, exec_portPendingApply s p hidle, fun a v hpage hdue => ?_, hkept, hothers⟩
    obtain ⟨hnone, htaken⟩ := htook a v hpage hdue
    have hA8 : ∀ off, off < 4096 → off ≠ 0xA8 → a = fp p.val 0 off → a ≠ fp p.val 0 0xA8 := fun off hoff hne h => by
      simp only [fp, pg] at h ⊢
      omega
    refine ⟨hnone, fun n48 n4C n54 nA8 => (htaken nA8).1 n48 n4C n54, fun h => (htaken (hA8 _ (by decide) (by decide) h)).2.1 h,
      fun h => (htaken (hA8 _ (by decide) (by decide) h)).2.2.1 h, fun h => ?_⟩
    have hne : a ≠ fp p.val 0 0xA8 := h.elim (hA8 _ (by decide) (by decide)) (hA8 _ (by decide) (by decide))
    exact (htaken hne).2.2.2 h

end Sys2Proof.Machine
end

section
/-! PROOFS. The judgement of a block (R253 to R256): the lanes that hash it, the verdict, and what a passed and a failed check change. -/
namespace Sys2Proof.Machine

section
variable {r s t : State} {p : Nat}

/-! ### Blocks are hashed on lanes -/

/-- `t` differs from `s` at most in the lanes and what their pages count. -/
structure State.Hashed (s t : State) : Prop where
  frame : t = { s with dgl := t.dgl, regs := t.regs }
  regs : s.laneRegs t

theorem hashed_refl (s : State) : s.Hashed s := ⟨rfl, fun _ _ => rfl⟩

theorem hashed_trans (hrs : r.Hashed s) (hst : s.Hashed t) : r.Hashed t where
  frame := Eq.trans hst.frame (congrArg (fun x : State => { x with dgl := t.dgl, regs := t.regs }) hrs.frame)
  regs a ha := (hst.regs a ha).trans (hrs.regs a ha)

theorem hashed_dgl (s : State) (d : DglState) : s.Hashed { s with dgl := d } := ⟨rfl, fun _ _ => rfl⟩

theorem permReady_dgl (s : State) (ctx alg n : Nat) : s.permReady ctx alg n = { s with dgl := (s.permReady ctx alg n).dgl } := by
  apply State.ext <;> simp

theorem hashed_permReady (s : State) (ctx alg n : Nat) : s.Hashed (s.permReady ctx alg n) := by
  rw [permReady_dgl]
  exact hashed_dgl s _

theorem unmark_dgl (s : State) (ctx : Nat) : s.unmark ctx = { s with dgl := (s.unmark ctx).dgl } := by
  apply State.ext <;> simp

theorem hashed_laneAbsorb (s : State) (n k : Nat) (h : n < 16) : s.Hashed (s.laneAbsorb n k) := by
  unfold State.laneAbsorb State.add64
  refine ⟨rfl, fun a ha => ?_⟩
  rw [State.reg_setReg, if_neg, State.reg_setReg, if_neg]
  all_goals
    simp only [pg]
    omega

/-- The lane on which the data of a permanent context ends is one of the sixteen. -/
theorem lane_lt (s : State) : ((((List.range 16).filter s.lanePerm).find? fun n => (s.lane n).job.isNone).getD
    (((List.range 16).filter s.lanePerm).headD 15)) < 16 := by
  have hall : ∀ n ∈ (List.range 16).filter s.lanePerm, n < 16 := fun n hn => List.mem_range.mp (List.mem_filter.mp hn).1
  cases hfree : ((List.range 16).filter s.lanePerm).find? fun n => (s.lane n).job.isNone with
  | some n => exact hall n (List.mem_of_find?_eq_some hfree)
  | none =>
    cases hlist : (List.range 16).filter s.lanePerm with
    | nil => decide
    | cons n l => exact hall n (by rw [hlist]; exact List.mem_cons_self)

theorem hashed_permEnd (s : State) (ctx : Nat) : s.Hashed (s.permEnd ctx) := by
  unfold State.permEnd
  cases hn : (List.range 16).find? (fun n => (s.lane n).job.any (fun j => j.ctx == ctx)) with
  | some n =>
    dsimp only
    split
    · exact hashed_trans (hashed_dgl s _) (hashed_laneAbsorb _ n _ (List.mem_range.mp (List.mem_of_find?_eq_some hn)))
    · exact hashed_refl s
  | none =>
    cases s.dgl.ready.find? (fun j => j.ctx == ctx) with
    | none => exact hashed_refl s
    | some j =>
      refine hashed_trans ?_ (hashed_laneAbsorb _ _ _ (lane_lt s))
      rw [unmark_dgl]
      exact hashed_dgl s _

theorem ports_of_hashed (h : s.Hashed t) : t.ports = s.ports := by rw [h.frame]

theorem port_of_hashed (h : s.Hashed t) (q : Nat) : t.port q = s.port q := by rw [State.port, ports_of_hashed h, State.port]

theorem cache_of_hashed (h : s.Hashed t) : t.cache = s.cache := by rw [h.frame]

theorem frames_of_hashed (h : s.Hashed t) : t.frames = s.frames := by rw [h.frame]

theorem evt_of_hashed (h : s.Hashed t) (k : Nat) : t.evt k = s.evt k := by
  rw [h.frame]
  rfl

/-! ### The verdict -/

theorem bind_congr {a b : PortState} (h : b.binds = a.binds) : b.bind = a.bind := funext fun i => by rw [PortState.bind, h, PortState.bind]

theorem findBind_congr {a b : PortState} (h : b.binds = a.binds) (cls cs blk : Nat) : b.findBind cls cs blk = a.findBind cls cs blk := by
  unfold PortState.findBind
  rw [bind_congr h]

/-- The verdict of a check is told by the port's bindings and the node cache. -/
theorem verdict_congr (c : Check) (hbinds : (t.port p).binds = (s.port p).binds) (hcache : t.cache = s.cache) :
    t.verdict p c = s.verdict p c := by
  unfold State.verdict
  dsimp only
  rw [findBind_congr hbinds, bind_congr hbinds, hcache]

theorem chkReady_congr (c : Check) (hbinds : (t.port p).binds = (s.port p).binds) (hcache : t.cache = s.cache) :
    t.chkReady p c = s.chkReady p c := by
  unfold State.chkReady
  dsimp only
  rw [findBind_congr hbinds, bind_congr hbinds, hcache]

theorem verdict_of_hashed (h : s.Hashed t) (c : Check) : t.verdict p c = s.verdict p c :=
  verdict_congr c (by rw [port_of_hashed h]) (cache_of_hashed h)

/-- The node that a verdict used is used. -/
def State.nodeUsed (s : State) (p b : Nat) (c : Check) : State := s.useNode p b 1 ((c.blk - ((s.port p).bind b).fblock) / 32)

theorem nodeUsed_spec (s : State) (p b : Nat) (c : Check) :
    s.nodeUsed p b c = { s with cache := (s.nodeUsed p b c).cache } ∧ ∀ n, n ∈ (s.nodeUsed p b c).cache ↔ n ∈ s.cache := by
  unfold State.nodeUsed State.useNode
  split
  · rename_i m hm
    have hmem : m ∈ s.cache := List.mem_of_find?_eq_some hm
    refine ⟨rfl, fun n => ?_⟩
    rw [List.mem_append, List.mem_singleton]
    refine ⟨fun h => h.elim List.mem_of_mem_erase fun h => by rw [h]; exact hmem, fun h => ?_⟩
    by_cases hn : n = m
    · exact Or.inr hn
    · exact Or.inl ((List.mem_erase_of_ne hn).mpr h)
  · exact ⟨rfl, fun _ => Iff.rfl⟩

theorem port_nodeUsed (s : State) (b : Nat) (c : Check) (q : Nat) : (s.nodeUsed p b c).port q = s.port q := by
  rw [(nodeUsed_spec s p b c).1]
  rfl

/-- A verdict names a binding that holds the block. -/
theorem findBind_of_verdict {c : Check} {b : Nat} {ok : Bool} (h : s.verdict p c = some (b, ok)) :
    (s.port p).findBind c.cls c.cs c.blk = some (some b) := by
  unfold State.verdict at h
  dsimp only at h
  split at h
  · rename_i b' hbind
    split at h <;> rw [hbind, (Prod.mk.inj (Option.some.inj h)).1]
  · exact absurd h (by simp)

theorem judge_pass {c : Check} {b : Nat} (h : s.verdict p c = some (b, true)) : s.judge p c = ((s.nodeUsed p b c).verifyPass p c, true) := by
  unfold State.judge
  rw [findBind_of_verdict h]
  dsimp only
  rw [h]
  rfl

theorem judge_fail {c : Check} {b : Nat} (h : s.verdict p c = some (b, false)) :
    s.judge p c = ((s.nodeUsed p b c).verifyFail p c 1 b (treeHash ((s.port p).bind b).hash c.data), false) := by
  unfold State.judge
  rw [findBind_of_verdict h]
  dsimp only
  rw [h]
  rfl

/-! ### The check map -/

theorem chkBit_setChk (q : PortState) (cs blk : Nat) (b : Bool) : (q.setChk cs blk b).chkBit cs blk = (b && decide (blk < 65536)) := by
  unfold PortState.setChk PortState.chkBit
  by_cases h : blk < 65536
  · rw [if_pos h, decide_eq_true h, Bool.true_and, Bool.and_true, SMap.get_set, if_pos rfl]
  · rw [if_neg h, decide_eq_false h, Bool.false_and, Bool.and_false]

theorem chkBit_congr {a b : PortState} (h : b.chk = a.chk) (cs blk : Nat) : b.chkBit cs blk = a.chkBit cs blk := by
  rw [PortState.chkBit, h, PortState.chkBit]

/-! ### A passed check -/

/-- A port with a check passed (R253, R274). -/
def PortState.passed (q : PortState) (c : Check) : PortState :=
  match c.region with
  | some g => (q.setChk c.cs c.blk true).modCov g (fun v =>
      if c.src = .fetch then { v with fetch := satInc v.fetch } else { v with scrub := satInc v.scrub })
  | none => q.setChk c.cs c.blk true

theorem verifyPass_eq (s : State) (p : Nat) (c : Check) : s.verifyPass p c = s.modPort p (fun q => q.passed c) := by
  unfold State.verifyPass PortState.passed
  refine congrArg (s.modPort p) (funext fun q => ?_)
  cases c.region <;> rfl

/-- It keeps everything of the port but the check map and the coverage. -/
theorem passed_frame (q : PortState) (c : Check) : q.passed c = { q with chk := (q.passed c).chk, cov := (q.passed c).cov } := by
  unfold PortState.passed PortState.setChk
  cases c.region <;> split_ifs <;> rfl

theorem chkBit_passed (q : PortState) (c : Check) : (q.passed c).chkBit c.cs c.blk = decide (c.blk < 65536) := by
  have hchk : (q.passed c).chk = (q.setChk c.cs c.blk true).chk := by
    unfold PortState.passed
    cases c.region <;> rfl
  rw [chkBit_congr hchk, chkBit_setChk, Bool.true_and]

theorem covOf_passed (q : PortState) (c : Check) (g : Nat) (hregion : c.region = some g) (hsrc : c.src ≠ .fetch) :
    (q.passed c).covOf g = { q.covOf g with scrub := satInc (q.covOf g).scrub } := by
  unfold PortState.passed
  rw [hregion]
  dsimp only
  have hcov : (q.setChk c.cs c.blk true).covOf g = q.covOf g := by
    unfold PortState.setChk
    split_ifs <;> rfl
  rw [PortState.covOf, PortState.modCov, SMap.get_set, if_pos rfl, if_neg hsrc, hcov]

/-! ### What containment and substitution keep -/

/-- `t` differs from `s`, as far as a failed check of port `p` tells, at most in what containment and substitution change. -/
structure State.Guarded (p : Nat) (s t : State) : Prop where
  regs : t.regs = s.regs
  frames : t.frames = s.frames
  event : t.evt (evPort p 0) = s.evt (evPort p 0)
  port : t.port p = { s.port p with
    contained := (t.port p).contained, active := (t.port p).active, stitch := (t.port p).stitch, cov := (t.port p).cov
    subst := (t.port p).subst, scrub := (t.port p).scrub, dev := (t.port p).dev }
  scrub : (s.port p).scrub.run = true → (t.port p).scrub = (s.port p).scrub

theorem guarded_refl (p : Nat) (s : State) : s.Guarded p s := ⟨rfl, rfl, rfl, rfl, fun _ => rfl⟩

theorem guarded_trans (hrs : r.Guarded p s) (hst : s.Guarded p t) : r.Guarded p t where
  regs := hst.regs.trans hrs.regs
  frames := hst.frames.trans hrs.frames
  event := hst.event.trans hrs.event
  port := hst.port.trans (congrArg (fun q : PortState => { q with
    contained := (t.port p).contained, active := (t.port p).active, stitch := (t.port p).stitch, cov := (t.port p).cov
    subst := (t.port p).subst, scrub := (t.port p).scrub, dev := (t.port p).dev }) hrs.port)
  scrub h := (hst.scrub (by rw [hrs.scrub h]; exact h)).trans (hrs.scrub h)

/-- A step that leaves the ports. -/
theorem guarded_of_ports (hregs : t.regs = s.regs) (hframes : t.frames = s.frames) (hevent : t.evt (evPort p 0) = s.evt (evPort p 0))
    (hports : t.ports = s.ports) : s.Guarded p t := by
  have hport : t.port p = s.port p := by rw [State.port, hports, State.port]
  exact ⟨hregs, hframes, hevent, by rw [hport], fun _ => by rw [hport]⟩

/-- Breaking a stitch changes its port's stitch and coverage only. -/
theorem port_stitchBreak (s : State) (q : Nat) : (s.stitchBreak q).port q = { s.port q with
    stitch := ((s.stitchBreak q).port q).stitch, cov := ((s.stitchBreak q).port q).cov } := by
  unfold State.stitchBreak
  dsimp only
  split_ifs
  · rfl
  · rw [port_flight, port_modPort_self, port_modPort_self]
    cases (s.port q).stitch.blk.region <;> rfl
  · rw [port_flight, port_modPort_self]

theorem frames_of_portsFrame (h : s.portsFrame t) : t.frames = s.frames := by
  rw [h]
  rfl

theorem guarded_silence (s : State) (hp : p < 16) (q : Nat) : s.Guarded p (s.silence q) := by
  have hframe := portsFrame_silence (portsFrame_refl s) q
  have hevent : (s.silence q).evt (evPort p 0) = s.evt (evPort p 0) := by
    unfold State.silence
    split_ifs
    · exact (tracked_stitchBreak (tracked_refl q s)).events (evPort p 0) (by simp only [evPort]; omega)
    · rfl
  have hport : (s.silence q).port p = { s.port p with
      active := ((s.silence q).port p).active, stitch := ((s.silence q).port p).stitch, cov := ((s.silence q).port p).cov } := by
    by_cases hq : p = q
    · subst hq
      unfold State.silence
      split_ifs
      · rw [port_modPort_self]
        exact congrArg (fun x : PortState => ({ x with active := none } : PortState)) (port_stitchBreak s p)
      · rfl
    · rw [(silence_spec s q).2.2.1 p hq]
  generalize s.silence q = t at *
  exact ⟨regs_of_portsFrame hframe, frames_of_portsFrame hframe, hevent, hport.trans (by rw [hport]), fun _ => by rw [hport]⟩

theorem guarded_modPort (s : State) (f : PortState → PortState) (hf : ∀ q, f q = { q with
    contained := (f q).contained, active := (f q).active, stitch := (f q).stitch, cov := (f q).cov, subst := (f q).subst }) :
    s.Guarded p (s.modPort p f) := by
  refine ⟨rfl, rfl, rfl, ?_, fun _ => ?_⟩
  · rw [port_modPort_self]
    exact (hf _).trans (by rw [hf])
  · rw [port_modPort_self, hf]

theorem guarded_wakeScrub (s : State) : s.Guarded p (s.wakeScrub p) := by
  unfold State.wakeScrub State.newPass
  split_ifs with h
  · have hrun : (s.port p).scrub.run = false := by
      simp only [Bool.and_eq_true, Bool.not_eq_true'] at h
      exact h.1
    have hset : ∀ v : PortState, v = { s.port p with scrub := v.scrub, dev := v.dev } → s.Guarded p (s.setPort p v) := fun v hv => by
      have hport : (s.setPort p v).port p = v := by rw [State.port_setPort, if_pos rfl]
      refine ⟨rfl, rfl, rfl, ?_, fun hno => absurd (hrun.symm.trans hno) (by decide)⟩
      rw [hport, hv]
    dsimp only
    split
    · exact hset _ rfl
    · exact hset _ rfl
  · exact guarded_refl p s

theorem measHw_frame (s : State) (slot type : Nat) (src : Master) (info : Nat) (data : Bytes) :
    s.measHw slot type src info data = { s with meas := (s.measHw slot type src info data).meas } := by
  unfold State.measHw
  dsimp only
  split_ifs <;> rfl

theorem guarded_measHw (s : State) (slot type : Nat) (src : Master) (info : Nat) (data : Bytes) :
    s.Guarded p (s.measHw slot type src info data) := by
  rw [measHw_frame]
  exact guarded_of_ports rfl rfl rfl rfl

theorem guarded_setSubst (s : State) (cls : Nat) (l : List Nat) (on : Bool) : s.Guarded p (s.setSubst p cls l on) :=
  guarded_trans (guarded_trans (guarded_modPort s _ fun _ => rfl) (guarded_measHw _ _ _ _ _ _)) (guarded_wakeScrub _)

theorem guarded_autoSubst (s : State) (cls : Nat) : s.Guarded p (s.autoSubst p cls) := by
  unfold State.autoSubst
  dsimp only
  split_ifs
  · exact guarded_refl p s
  · exact guarded_setSubst s cls _ true

theorem guarded_silences (l : List Nat) (hp : p < 16) (s : State) : s.Guarded p (l.foldl State.silence s) :=
  List.foldlRecOn (motive := fun u : State => s.Guarded p u) l _ (guarded_refl p s) fun u hu q _ => guarded_trans hu (guarded_silence u hp q)

/-- A port that is silenced among others has no command. -/
theorem active_silences (l : List Nat) :
    ∀ s : State, (p ∈ l ∨ (s.port p).active = none) → ((l.foldl State.silence s).port p).active = none := by
  induction l with
  | nil => exact fun s h => h.resolve_left (by simp)
  | cons q l ih =>
    intro s h
    refine ih (s.silence q) ?_
    by_cases hq : p = q
    · subst hq
      exact Or.inr (silence_spec s p).1
    · rcases h with h | h
      · exact Or.inl ((List.mem_cons.mp h).resolve_left hq)
      · exact Or.inr (by rw [(silence_spec s q).2.2.1 p hq]; exact h)

/-! ### Containment (R256) -/

/-- `s` with the port contained, its line forced and in recovery. -/
def State.lineDown (s : State) (p : Nat) : State :=
  match ((s.modPort p (fun q => { q with contained := true })).forcePort p).lineOf p with
  | some i => ((s.modPort p (fun q => { q with contained := true })).forcePort p).recovLine i
  | none => (s.modPort p (fun q => { q with contained := true })).forcePort p

/-- The ports behind the line of a port. -/
def State.linePorts (s : State) (p : Nat) : List Nat := match s.lineOf p with | some i => s.portsOf i | none => [p]

theorem contain_eq (s : State) (p : Nat) : s.contain p =
    if (s.port p).contained then ((s.lineDown p).linePorts p).foldl State.silence (s.lineDown p)
    else (((s.lineDown p).linePorts p).foldl State.silence (s.lineDown p)).count (evPort p 1) := rfl

theorem lineDown_frame (s : State) (p : Nat) :
    s.lineDown p = { s.modPort p (fun q => { q with contained := true }) with prst := (s.lineDown p).prst } := by
  have hforce : ∀ u : State, u.forcePort p = { u with prst := (u.forcePort p).prst } := fun u => by
    unfold State.forcePort
    split <;> rfl
  unfold State.lineDown
  generalize s.modPort p (fun q => { q with contained := true }) = u
  have hu := hforce u
  generalize u.forcePort p = w at hu ⊢
  split
  · rw [hu]
    rfl
  · exact hu

theorem port_lineDown (s : State) (p : Nat) : (s.lineDown p).port p = { s.port p with contained := true } := by
  have hports : (s.lineDown p).ports = (s.modPort p (fun q => { q with contained := true })).ports := by rw [lineDown_frame]
  rw [State.port, hports]
  exact port_modPort_self s p _

theorem guarded_lineDown (s : State) (p : Nat) : s.Guarded p (s.lineDown p) := by
  refine guarded_trans (guarded_modPort s (fun q => { q with contained := true }) fun _ => rfl) ?_
  rw [lineDown_frame]
  exact guarded_of_ports rfl rfl rfl rfl

theorem mem_linePorts (s : State) (hp : p < 16) : p ∈ s.linePorts p := by
  unfold State.linePorts
  cases hline : s.lineOf p with
  | some i => exact List.mem_filter.mpr ⟨List.mem_range.mpr hp, by rw [hline]; simp⟩
  | none => exact List.mem_singleton_self p

theorem contained_silences (l : List Nat) (s : State) (h : (s.port p).contained = true) :
    ((l.foldl State.silence s).port p).contained = true := by
  refine List.foldlRecOn (motive := fun u : State => (u.port p).contained = true) l _ h fun u hu q _ => ?_
  by_cases hq : p = q
  · subst hq
    rw [(silence_spec u p).2.1]
    exact hu
  · rw [(silence_spec u q).2.2.1 p hq]
    exact hu

theorem contain_spec (s : State) (hp : p < 16) :
    s.Guarded p (s.contain p) ∧ ((s.contain p).port p).contained = true ∧ ((s.contain p).port p).active = none := by
  have hguard := guarded_trans (guarded_lineDown s p) (guarded_silences ((s.lineDown p).linePorts p) hp (s.lineDown p))
  have hactive := active_silences ((s.lineDown p).linePorts p) (s.lineDown p) (Or.inl (mem_linePorts _ hp))
  have hcontained := contained_silences ((s.lineDown p).linePorts p) (s.lineDown p) (by rw [port_lineDown])
  rw [contain_eq]
  generalize ((s.lineDown p).linePorts p).foldl State.silence (s.lineDown p) = u at *
  split_ifs
  · exact ⟨hguard, hcontained, hactive⟩
  · refine ⟨guarded_trans hguard (guarded_of_ports (by simp) (by simp) ?_ (by simp)), by rw [port_count]; exact hcontained,
      by rw [port_count]; exact hactive⟩
    rw [State.evt_count, if_neg (by simp only [evPort]; omega)]

/-! ### A failed check (R254, R255) -/

/-- A port whose check failed: its check-map bit and its coverage. -/
def PortState.failedChk (q : PortState) (c : Check) : PortState :=
  match c.region with
  | some g => (q.setChk c.cs c.blk false).modCov g (fun v => { v with fail := satInc v.fail })
  | none => q.setChk c.cs c.blk false

theorem failedChk_frame (q : PortState) (c : Check) : q.failedChk c = { q with chk := (q.failedChk c).chk, cov := (q.failedChk c).cov } := by
  unfold PortState.failedChk PortState.setChk
  cases c.region <;> split_ifs <;> rfl

theorem chkBit_failedChk (q : PortState) (c : Check) : (q.failedChk c).chkBit c.cs c.blk = false := by
  have hchk : (q.failedChk c).chk = (q.setChk c.cs c.blk false).chk := by
    unfold PortState.failedChk
    cases c.region <;> rfl
  rw [chkBit_congr hchk, chkBit_setChk, Bool.false_and]

/-- `s` with a failed check recorded. -/
def State.chkRecorded (s : State) (p : Nat) (c : Check) (cause bind : Nat) (leaf : Bytes) : State :=
  ((s.modPort p (fun q => q.failedChk c)).recFail p (vfLast0 c cause c.act bind) (c.blk * 4096) c.cs c.mcmd leaf).goodEnd c.cls

theorem verifyFail_eq (s : State) (p : Nat) (c : Check) (cause bind : Nat) (leaf : Bytes) : s.verifyFail p c cause bind leaf =
    if c.act = 1 then (s.chkRecorded p c cause bind leaf).contain p
    else if c.act = 2 then
      (if c.subst then (s.chkRecorded p c cause bind leaf).contain p else ((s.chkRecorded p c cause bind leaf).contain p).autoSubst p c.cls)
    else s.chkRecorded p c cause bind leaf := by
  unfold State.verifyFail State.chkRecorded PortState.failedChk
  cases c.region <;> rfl

/-- What the record of a failure writes: VF_LAST and one event. -/
theorem recFail_spec (s : State) (p : Nat) (vf0 : Word) (addr cs : Nat) (mcmd : Word) (leaf : Bytes) :
    (s.recFail p vf0 addr cs mcmd leaf).reg (fp p 3 0xAC) = vf0 ∧ (s.recFail p vf0 addr cs mcmd leaf).reg (fp p 3 0xB0) = wd addr ∧
    (s.recFail p vf0 addr cs mcmd leaf).evt (evPort p 0) = (s.evt (evPort p 0)).bump ∧
    (s.recFail p vf0 addr cs mcmd leaf).frames = s.frames ∧
    (s.recFail p vf0 addr cs mcmd leaf).port p = { s.port p with lastFail := ((s.recFail p vf0 addr cs mcmd leaf).port p).lastFail } := by
  unfold State.recFail
  dsimp only
  generalize hu : (((s.setReg (fp p 3 0xAC) vf0).setReg (fp p 3 0xB0) (wd addr)).setReg (fp p 3 0xB4) mcmd).count (evPort p 0) = u
  have hAC : u.reg (fp p 3 0xAC) = vf0 := by
    rw [← hu, State.reg_count, State.reg_setReg, if_neg (by simp only [fp, pg]; omega), State.reg_setReg, if_neg (by simp only [fp, pg]; omega),
      State.reg_setReg, if_pos rfl]
  have hB0 : u.reg (fp p 3 0xB0) = wd addr := by
    rw [← hu, State.reg_count, State.reg_setReg, if_neg (by simp only [fp, pg]; omega), State.reg_setReg, if_pos rfl]
  have hevt : u.evt (evPort p 0) = (s.evt (evPort p 0)).bump := by
    rw [← hu, State.evt_count, if_pos rfl]
    rfl
  have hframes : u.frames = s.frames := by rw [← hu]; simp
  have hport : u.port p = s.port p := by rw [← hu, port_count]; rfl
  split_ifs
  · exact ⟨hAC, hB0, hevt, hframes, by rw [hport]⟩
  · have hmeas := measHw_frame u (16 + p) 0x11 (portMaster p) 0 (leBytes 4 vf0.toNat ++ leBytes 4 addr ++ leBytes 4 mcmd.toNat ++ Bytes.fit leaf 32)
    generalize u.measHw (16 + p) 0x11 (portMaster p) 0 _ = w at hmeas ⊢
    have hregs : w.regs = u.regs := by rw [hmeas]
    have hself : w.port p = s.port p := by rw [hmeas]; exact hport
    have hevents : w.evt (evPort p 0) = u.evt (evPort p 0) := by rw [hmeas]; rfl
    refine ⟨?_, ?_, hevents.trans hevt, ?_, by rw [port_modPort_self, hself]⟩
    · rw [reg_modPort, State.reg, hregs]
      exact hAC
    · rw [reg_modPort, State.reg, hregs]
      exact hB0
    · exact Eq.trans (by rw [hmeas]; rfl) hframes

/-- What a failed check of port `p` changes, as far as its port and its record tell. -/
structure State.CheckFailed (p : Nat) (c : Check) (cause bind : Nat) (s t : State) : Prop where
  bit : (t.port p).chkBit c.cs c.blk = false
  port : t.port p = { s.port p with
    contained := (t.port p).contained, active := (t.port p).active, stitch := (t.port p).stitch, cov := (t.port p).cov, chk := (t.port p).chk
    subst := (t.port p).subst, scrub := (t.port p).scrub, dev := (t.port p).dev, lastFail := (t.port p).lastFail }
  scrub : (s.port p).scrub.run = true → (t.port p).scrub = (s.port p).scrub
  record : t.reg (fp p 3 0xAC) = vfLast0 c cause c.act bind
  addr : t.reg (fp p 3 0xB0) = wd (c.blk * 4096)
  event : t.evt (evPort p 0) = (s.evt (evPort p 0)).bump
  frames : t.frames = s.frames
  contained : c.act = 1 → (t.port p).contained = true ∧ (t.port p).active = none

/-- The record of a failure before its action. -/
theorem chkRecorded_spec (s : State) (p : Nat) (c : Check) (cause bind : Nat) (leaf : Bytes) :
    let u := s.chkRecorded p c cause bind leaf
    (u.port p).chkBit c.cs c.blk = false ∧
    u.port p = { s.port p with cov := (u.port p).cov, chk := (u.port p).chk, lastFail := (u.port p).lastFail } ∧
    u.reg (fp p 3 0xAC) = vfLast0 c cause c.act bind ∧ u.reg (fp p 3 0xB0) = wd (c.blk * 4096) ∧
    u.evt (evPort p 0) = (s.evt (evPort p 0)).bump ∧ u.frames = s.frames := by
  obtain ⟨hAC, hB0, hevt, hframes, hport⟩ :=
    recFail_spec (s.modPort p (fun q => q.failedChk c)) p (vfLast0 c cause c.act bind) (c.blk * 4096) c.cs c.mcmd leaf
  rw [port_modPort_self] at hport
  unfold State.chkRecorded
  generalize (s.modPort p (fun q => q.failedChk c)).recFail p (vfLast0 c cause c.act bind) (c.blk * 4096) c.cs c.mcmd leaf = u at *
  have hself : (u.goodEnd c.cls).port p = u.port p := rfl
  have hframe := failedChk_frame (s.port p) c
  have hbit := chkBit_failedChk (s.port p) c
  dsimp only
  refine ⟨?_, ?_, hAC, hB0, hevt, hframes⟩
  · rw [hself, hport]
    exact hbit
  · rw [hself, hport]
    generalize (s.port p).failedChk c = q at hframe ⊢
    rw [hframe]

/-- The record and what follows it. -/
theorem checkFailed_of_guarded (s : State) (c : Check) (cause bind : Nat) (leaf : Bytes) (h : (s.chkRecorded p c cause bind leaf).Guarded p t)
    (hcontained : c.act = 1 → (t.port p).contained = true ∧ (t.port p).active = none) : s.CheckFailed p c cause bind t := by
  obtain ⟨hbit, hport, hAC, hB0, hevt, hframes⟩ := chkRecorded_spec s p c cause bind leaf
  generalize s.chkRecorded p c cause bind leaf = u at *
  have hchk : (t.port p).chk = (u.port p).chk := by rw [h.port]
  have hlast : (t.port p).lastFail = (u.port p).lastFail := by rw [h.port]
  refine ⟨(chkBit_congr hchk _ _).trans hbit, h.port.trans ?_, fun hrun => ?_, ?_, ?_, h.event.trans hevt, h.frames.trans hframes, hcontained⟩
  · rw [hlast, hchk, hport]
  · have hscrub : (u.port p).scrub = (s.port p).scrub := by rw [hport]
    exact (h.scrub (by rw [hscrub]; exact hrun)).trans hscrub
  · rw [State.reg, h.regs]
    exact hAC
  · rw [State.reg, h.regs]
    exact hB0

/-- A failed check: its record, then the action of its region. -/
theorem checkFailed_verifyFail (s : State) (hp : p < 16) (c : Check) (cause bind : Nat) (leaf : Bytes) :
    s.CheckFailed p c cause bind (s.verifyFail p c cause bind leaf) := by
  have hof := fun (t : State) => checkFailed_of_guarded (p := p) (t := t) s c cause bind leaf
  obtain ⟨hguard, hcontained, hactive⟩ := contain_spec (s.chkRecorded p c cause bind leaf) hp
  rw [verifyFail_eq]
  split_ifs with h1 h2 hsub
  · exact hof _ hguard fun _ => ⟨hcontained, hactive⟩
  · exact hof _ hguard fun h => absurd h h1
  · exact hof _ (guarded_trans hguard (guarded_autoSubst _ _)) fun h => absurd h h1
  · exact hof _ (guarded_refl p _) fun h => absurd h h1

end

end Sys2Proof.Machine
end

section
/-! PROOFS. Checks of fetched blocks, substitution by command, resume, scrub restart and coverage (R248, R253 to R257, R262 to R264, R275). -/
namespace Sys2Proof.Machine

section
variable {r s t : State} {p : Nat}

/-! ### A judged block -/

/-- A failure judged of a state that agrees in the port and what is recorded. -/
theorem checkFailed_of_same {c : Check} {cause bind : Nat} (hport : s.port p = r.port p) (hevt : s.evt (evPort p 0) = r.evt (evPort p 0))
    (hframes : s.frames = r.frames) (h : s.CheckFailed p c cause bind t) : r.CheckFailed p c cause bind t where
  bit := h.bit
  port := by rw [← hport]; exact h.port
  scrub := by rw [← hport]; exact h.scrub
  record := h.record
  addr := h.addr
  event := by rw [← hevt]; exact h.event
  frames := h.frames.trans hframes
  contained := h.contained

/-- `t` is `s` after a check that passed: the port, the lanes and the use of the nodes. -/
structure State.Verified (s t : State) : Prop where
  frame : t = { s with ports := t.ports, cache := t.cache, dgl := t.dgl, regs := t.regs }
  lanes : s.laneRegs t
  nodes : ∀ n, n ∈ t.cache ↔ n ∈ s.cache

theorem verified_trans (hrs : r.Verified s) (hst : s.Verified t) : r.Verified t where
  frame := Eq.trans hst.frame (congrArg (fun x : State => { x with ports := t.ports, cache := t.cache, dgl := t.dgl, regs := t.regs }) hrs.frame)
  lanes a ha := (hst.lanes a ha).trans (hrs.lanes a ha)
  nodes n := (hst.nodes n).trans (hrs.nodes n)

theorem verified_of_hashed (h : s.Hashed t) : s.Verified t where
  frame := by
    rw [ports_of_hashed h, cache_of_hashed h]
    exact h.frame
  lanes := h.regs
  nodes n := by rw [cache_of_hashed h]

theorem verified_modPort (s : State) (p : Nat) (f : PortState → PortState) : s.Verified (s.modPort p f) :=
  ⟨rfl, fun _ _ => rfl, fun _ => Iff.rfl⟩

theorem verified_nodeUsed (s : State) (p b : Nat) (c : Check) : s.Verified (s.nodeUsed p b c) := by
  obtain ⟨hframe, hnodes⟩ := nodeUsed_spec s p b c
  generalize s.nodeUsed p b c = u at *
  refine ⟨?_, fun a _ => ?_, hnodes⟩
  · rw [hframe]
  · rw [hframe]
    rfl

/-- A verdict decides the judgement. -/
theorem judge_passed {c : Check} {b : Nat} (h : s.verdict p c = some (b, true)) :
    (s.judge p c).2 = true ∧ s.Verified (s.judge p c).1 ∧ (s.judge p c).1.port p = (s.port p).passed c := by
  rw [judge_pass h]
  dsimp only
  rw [verifyPass_eq]
  exact ⟨rfl, verified_trans (verified_nodeUsed s p b c) (verified_modPort _ p _), by rw [port_modPort_self, port_nodeUsed]⟩

theorem judge_failed {c : Check} {b : Nat} (hp : p < 16) (h : s.verdict p c = some (b, false)) :
    (s.judge p c).2 = false ∧ s.CheckFailed p c 1 b (s.judge p c).1 := by
  rw [judge_fail h]
  have hframe := (nodeUsed_spec s p b c).1
  refine ⟨rfl, checkFailed_of_same (port_nodeUsed s b c p) ?_ ?_ (checkFailed_verifyFail (s.nodeUsed p b c) hp c 1 b _)⟩
  · rw [hframe]
    rfl
  · rw [hframe]

/-! ### FETCH_CHECK_DONE (R253) -/

theorem fetchCheckDone_off (s : State) (p : Fin 16) (h : s.permOn = false) : exec (.fetchCheckDone p) s = .next s := by
  refine congrArg Host.Outcome.next ?_
  unfold State.checkDone
  rw [h]
  rfl

/-- `s` once the lane has hashed the block and the check waits no more. -/
def State.checkTaken (s : State) (p : Nat) (c : Check) : State := (s.permEnd (2 * p)).modPort p (fun q => { q with checks := q.checks.erase c })

theorem exec_fetchCheckDone (s : State) (p : Fin 16) (c : Check) (hon : s.permOn = true)
    (hfind : (s.port p.val).checks.find? (s.chkReady p.val) = some c) :
    exec (.fetchCheckDone p) s = .next ((s.checkTaken p.val c).judge p.val c).1 := by
  refine congrArg Host.Outcome.next ?_
  unfold State.checkDone
  rw [hon, if_pos rfl, hfind]
  rfl

theorem checkTaken_spec (s : State) (p : Nat) (c : Check) :
    (s.checkTaken p c).port p = { s.port p with checks := (s.port p).checks.erase c } ∧ s.Verified (s.checkTaken p c) ∧
    (s.checkTaken p c).verdict p c = s.verdict p c ∧ (s.checkTaken p c).evt (evPort p 0) = s.evt (evPort p 0) := by
  have hhash := hashed_permEnd s (2 * p)
  have hport : (s.checkTaken p c).port p = { s.port p with checks := (s.port p).checks.erase c } := by
    rw [State.checkTaken, port_modPort_self, port_of_hashed hhash]
  have hcache : (s.checkTaken p c).cache = (s.permEnd (2 * p)).cache := rfl
  exact ⟨hport, verified_trans (verified_of_hashed hhash) (verified_modPort _ p _),
    verdict_congr c (by rw [hport]) (hcache.trans (cache_of_hashed hhash)), evt_of_hashed hhash _⟩

theorem fetchCheckDone_spec (s : State) (p : Fin 16) (c : Check) (b : Nat) (ok : Bool) (hon : s.permOn = true)
    (hfind : (s.port p.val).checks.find? (s.chkReady p.val) = some c) (hverdict : s.verdict p.val c = some (b, ok)) (hsrc : c.src = .fetch) :
    ∃ t, exec (.fetchCheckDone p) s = .next t ∧ (t.port p.val).checks = (s.port p.val).checks.erase c ∧
      (t.port p.val).chkBit c.cs c.blk = (ok && decide (c.blk < 65536)) ∧
      (ok = false → t.evt (evPort p.val 0) = (s.evt (evPort p.val 0)).bump ∧ t.reg (fp p.val 3 0xB0) = BitVec.ofNat 32 (c.blk * 4096) ∧
        (c.region.isSome = true → c.action = 1 → (t.port p.val).contained = true ∧ (t.port p.val).active = none)) ∧
      (ok = true → t = { s with ports := t.ports, cache := t.cache, dgl := t.dgl, regs := t.regs } ∧ s.laneRegs t ∧
        (∀ n, n ∈ t.cache ↔ n ∈ s.cache) ∧ (t.port p.val).contained = (s.port p.val).contained) := by
  obtain ⟨hport, htaken, hsame, hevt⟩ := checkTaken_spec s p.val c
  refine ⟨_, exec_fetchCheckDone s p c hon hfind, ?_⟩
  cases ok with
  | true =>
    obtain ⟨-, hpass, hself⟩ := judge_passed (hsame.trans hverdict)
    obtain ⟨hframe, hlanes, hnodes⟩ := verified_trans htaken hpass
    refine ⟨?_, ?_, fun h => absurd h (by decide), fun _ => ⟨hframe, hlanes, hnodes, ?_⟩⟩
    · rw [hself, passed_frame, hport]
    · rw [hself, chkBit_passed, Bool.true_and]
    · rw [hself, passed_frame, hport]
  | false =>
    obtain ⟨-, hfail⟩ := judge_failed p.isLt (hsame.trans hverdict)
    refine ⟨?_, by rw [hfail.bit, Bool.false_and],
      fun _ => ⟨hfail.event.trans (by rw [hevt]), hfail.addr, fun hregion haction => hfail.contained ?_⟩, fun h => absurd h (by decide)⟩
    · rw [hfail.port, hport]
    · unfold Check.act
      rw [if_neg, haction]
      rintro (h | h)
      · exact absurd (hsrc.symm.trans h) (by decide)
      · exact absurd h (by simpa using Option.isSome_iff_ne_none.mp hregion)

/-! ### Stitches, resume, scrub passes and coverage -/

theorem stitch_stitchBreak (s : State) (p : Nat) (h : (s.port p).stitch.isOpen = true) : ((s.stitchBreak p).port p).stitch = Stitch.idle := by
  unfold State.stitchBreak
  dsimp only
  rw [if_neg (by simp [h]), port_flight, port_modPort_self]

theorem stitchTimeout_spec (s : State) (p : Fin 16) (e : Nat) (hopen : (s.port p.val).stitch.isOpen = true)
    (hended : (s.port p.val).stitch.ended = some e) (hlate : e + 64 ≤ s.clk) : ∃ t, exec (.stitchTimeout p) s = .next t ∧
      (t.port p.val).stitch = Stitch.idle ∧ (∀ q, q ≠ p.val → t.port q = s.port q) ∧ t = { s.recorded t with ports := t.ports } := by
  have hexec : exec (.stitchTimeout p) s = .next (s.stitchBreak p.val) := by
    refine congrArg Host.Outcome.next ?_
    rw [hended]
    exact if_pos ⟨hopen, hlate⟩
  exact ⟨_, hexec, stitch_stitchBreak s p.val hopen, (tracked_stitchBreak (tracked_refl p.val s)).others,
    portsFrame_stitchBreak (portsFrame_refl s) p.val⟩

theorem verResume_spec (s : State) (m : Master) (p : Fin 16) (h : s.admits m (fp p.val 3 0x48) = true) :
    (s.lineOf p.val = none → exec (.verResume m p) s = .next (s.modPort p.val (fun q => { q with contained := false }))) ∧
    ((s.lineOf p.val).isSome = true → ∃ t, exec (.verResume m p) s = .next t ∧ t.ports = s.ports ∧
      t = { s.routed t with regs := t.regs }) := by
  have hexec : exec (.verResume m p) s = .next (s.verResume m p.val) := guarded_next s m _ _ h
  unfold State.verResume State.when at hexec
  refine ⟨fun hnone => ?_, fun hsome => ?_⟩
  · rw [hnone, Option.isNone_none, if_pos rfl] at hexec
    exact hexec
  · rw [if_neg (by simpa using Option.isSome_iff_ne_none.mp hsome)] at hexec
    exact ⟨_, hexec, ports_refuse s m _, refuse_routed s m _⟩

/-- What decides the next block of a scrub pass. -/
theorem scrubNext_congr {a b : PortState} (hrt : b.rtA = a.rtA) (hsubst : b.subst = a.subst) (hbinds : b.binds = a.binds) (g o : Nat) :
    b.scrubNext g o = a.scrubNext g o := by
  have hrg : b.rg = a.rg := funext fun i => by rw [PortState.rg, hrt, PortState.rg]
  have hsub : b.sub = a.sub := funext fun i => by rw [PortState.sub, hsubst, PortState.sub]
  have hmap : b.mapBase = a.mapBase := funext fun i => funext fun x => funext fun y => by
    unfold PortState.mapBase
    rw [hrg, hsub]
  have huncovered : b.uncovered = a.uncovered := funext fun i => funext fun x => funext fun y => by
    rw [PortState.uncovered, findBind_congr hbinds, PortState.uncovered]
  have hin : b.scrubIn = a.scrubIn := funext fun i => funext fun x => by
    unfold PortState.scrubIn
    rw [hrg, hmap, huncovered, bind_congr hbinds]
  unfold PortState.scrubNext
  rw [hin]

/-- A new pass begins at its first block, or stops at once. -/
theorem newPass_spec (s : State) (p : Nat) :
    ((s.newPass p).port p).scrub.run = ((s.port p).scrubNext 0 0).isSome ∧
    (∀ x, (s.port p).scrubNext 0 0 = some x → ((s.newPass p).port p).scrub.region = x.1 ∧ ((s.newPass p).port p).scrub.off = x.2) ∧
    ((s.newPass p).port p).scrub.retry = false ∧
    (s.newPass p).port p = { s.port p with scrub := ((s.newPass p).port p).scrub, dev := ((s.newPass p).port p).dev } ∧
    (∀ q, q ≠ p → (s.newPass p).port q = s.port q) ∧ s.newPass p = { s with ports := (s.newPass p).ports } := by
  have hset : ∀ (v : PortState) (q : Nat), (s.setPort p v).port q = if q = p then v else s.port q := fun v q => State.port_setPort s p q v
  have hfresh : ∀ d sc, ({ s.port p with dev := d, scrub := sc } : PortState).scrubNext 0 0 = (s.port p).scrubNext 0 0 :=
    fun _ _ => scrubNext_congr rfl rfl rfl 0 0
  unfold State.newPass
  dsimp only
  split
  · rename_i x hx
    rw [(hfresh _ _).symm.trans hx]
    refine ⟨?_, fun y hy => ?_, ?_, ?_, fun q hq => (hset _ q).trans (if_neg hq), rfl⟩
    · rw [hset, if_pos rfl]
      rfl
    · obtain rfl := Option.some.inj hy
      rw [hset, if_pos rfl]
      exact ⟨rfl, rfl⟩
    · rw [hset, if_pos rfl]
      rfl
    · rw [hset, if_pos rfl]
      rfl
  · rename_i hx
    rw [(hfresh _ _).symm.trans hx]
    refine ⟨?_, fun y hy => absurd hy (by simp), ?_, ?_, fun q hq => (hset _ q).trans (if_neg hq), rfl⟩
    · rw [hset, if_pos rfl]
      rfl
    · rw [hset, if_pos rfl]
      rfl
    · rw [hset, if_pos rfl]
      rfl

theorem scrubRestart_spec (s : State) (m : Master) (p : Fin 16) (h : s.admits m (fp p.val 3 0x48) = true)
    (hstopped : (s.port p.val).stopped = false) (hon : s.scrubOn p.val = true) : ∃ t, exec (.scrubRestart m p) s = .next t ∧
      (t.port p.val).scrub.run = ((s.port p.val).scrubNext 0 0).isSome ∧ (∀ x, (s.port p.val).scrubNext 0 0 = some x →
        (t.port p.val).scrub.region = x.1 ∧ (t.port p.val).scrub.off = x.2) ∧ t = { s with ports := t.ports } := by
  have hexec : exec (.scrubRestart m p) s = .next (s.scrubRestart m p.val) := guarded_next s m _ _ h
  unfold State.scrubRestart State.when at hexec
  rw [hstopped, Bool.not_false, if_pos rfl] at hexec
  dsimp only at hexec
  rw [if_pos hon] at hexec
  obtain ⟨hrun, hfirst, -, -, -, hframe⟩ := newPass_spec s p.val
  exact ⟨_, hexec, hrun, hfirst, hframe⟩

theorem covReset_spec (s : State) (m : Master) (p : Fin 16) (h : s.admits m (fp p.val 3 0x114) = true) : ∃ t, exec (.covReset m p) s = .next t ∧
    (t.port p.val).covOf (Word.field (s.reg (fp p.val 3 0xF8)) 7 0) = Cov.reset ∧
    (∀ g, g ≠ Word.field (s.reg (fp p.val 3 0xF8)) 7 0 → (t.port p.val).covOf g = (s.port p.val).covOf g) ∧
    t = { s with ports := t.ports } := by
  have hcov : ∀ (q : PortState) (i g : Nat), (q.modCov i (fun _ => Cov.reset)).covOf g = if g = i then Cov.reset else q.covOf g :=
    fun q i g => by rw [PortState.covOf, PortState.modCov, SMap.get_set, PortState.covOf]
  refine ⟨s.covReset p.val, guarded_next s m _ _ h, ?_, fun g hg => ?_, rfl⟩
  · rw [State.covReset, port_modPort_self, hcov]
    exact if_pos rfl
  · rw [State.covReset, port_modPort_self, hcov]
    exact if_neg hg

/-! ### Substitution by command (R263) -/

theorem get_foldl_set (on : Bool) (l : List Nat) : ∀ (m : SMap Bool) (i : Nat),
    SMap.get (fun _ => false) (l.foldl (fun m i => SMap.set (fun _ => false) m i on) m) i =
      if i ∈ l then on else SMap.get (fun _ => false) m i := by
  induction l with
  | nil => exact fun m i => (if_neg (by simp)).symm
  | cons x l ih =>
    intro m i
    rw [List.foldl_cons, ih, SMap.get_set]
    by_cases hl : i ∈ l
    · rw [if_pos hl, if_pos (List.mem_cons_of_mem x hl)]
    · by_cases hx : i = x
      · rw [if_neg hl, if_pos hx, if_pos (by rw [hx]; exact List.mem_cons_self)]
      · rw [if_neg hl, if_neg hx, if_neg (by simp [hl, hx])]

theorem subst_wakeScrub (s : State) (p : Nat) :
    ((s.wakeScrub p).port p).subst = (s.port p).subst ∧ s.wakeScrub p = { s with ports := (s.wakeScrub p).ports } := by
  unfold State.wakeScrub
  split_ifs
  · obtain ⟨-, -, -, hport, -, hframe⟩ := newPass_spec s p
    exact ⟨by rw [hport], hframe⟩
  · exact ⟨rfl, rfl⟩

/-- SUBST is set or cleared for the regions of the list, and the port's slot is extended. -/
theorem setSubst_spec (s : State) (p cls : Nat) (l : List Nat) (on : Bool) :
    (∀ i, ((s.setSubst p cls l on).port p).sub i = if i ∈ l then on else (s.port p).sub i) ∧
    s.setSubst p cls l on = { s with ports := (s.setSubst p cls l on).ports, meas := (s.setSubst p cls l on).meas } := by
  unfold State.setSubst
  dsimp only
  generalize hu : (s.modPort p fun q => { q with subst := l.foldl (fun m i => SMap.set (fun _ => false) m i on) q.subst }) = u
  have hself : (u.port p).subst = l.foldl (fun m i => SMap.set (fun _ => false) m i on) (s.port p).subst := by rw [← hu, port_modPort_self]
  have hframe : u = { s with ports := u.ports } := by rw [← hu]; rfl
  have hmeas := measHw_frame u (16 + p) (if on then 0x12 else 0x13) (portMaster p) cls (regionMap l)
  generalize u.measHw (16 + p) (if on then 0x12 else 0x13) (portMaster p) cls (regionMap l) = w at hmeas ⊢
  obtain ⟨hsubst, hwake⟩ := subst_wakeScrub w p
  have hport : w.port p = u.port p := by rw [hmeas]; rfl
  refine ⟨fun i => ?_, ?_⟩
  · rw [PortState.sub, hsubst, hport, hself, get_foldl_set, PortState.sub]
  · generalize w.wakeScrub p = x at hwake ⊢
    rw [hwake, hmeas, hframe]

theorem field_or_set (v : Word) (k : Nat) (hk : 6 ≤ k) : Word.field (v ||| BitVec.ofNat 32 (2 ^ k)) 5 0 = v.toNat % 64 := by
  have hzero : Word.field (BitVec.ofNat 32 (2 ^ k)) 5 0 = 0 := by
    have h : (fld 1 k) = BitVec.ofNat 32 (2 ^ k) := by rw [fld, Nat.one_mul]
    rw [← h]
    exact field_fld_above 1 k 5 (by omega) (by decide)
  rw [field_or, hzero, Nat.or_zero]
  rfl

theorem substCtrl_refused (s : State) (m : Master) (p : Fin 16) (v : Word) (h : s.admits m (fp p.val 3 0x4C) = true)
    (hheld : s.portHeld p.val = false) : ∃ t, exec (.substSetCmd m p v) s = .next t ∧ exec (.substClearCmd m p v) s = .next t ∧
      t.ports = s.ports ∧ t = { s.routed t with regs := t.regs } := by
  have hrefused : ∀ w : Word, s.substCtrl m p.val w = s.refuse m (fp p.val 3 0x4C) := fun w => by
    unfold State.substCtrl State.when
    exact if_neg (by rw [hheld]; simp)
  exact ⟨_, (guarded_next s m _ _ h).trans (congrArg _ (hrefused _)), (guarded_next s m _ _ h).trans (congrArg _ (hrefused _)),
    ports_refuse s m _, refuse_routed s m _⟩

theorem substSetCmd_spec (s : State) (m : Master) (p : Fin 16) (v : Word) (h : s.admits m (fp p.val 3 0x4C) = true) (h9 : Word.bit v 9 = false)
    (hheld : s.portHeld p.val = true) : ∃ t, exec (.substSetCmd m p v) s = .next t ∧
      (∀ i, i < 256 → (t.port p.val).sub i = ((s.port p.val).sub i || ((s.port p.val).substSet (v.toNat % 64) false).contains i)) ∧
      t = { s with ports := t.ports, meas := t.meas } := by
  have hexec : exec (.substSetCmd m p v) s = .next (s.substCtrl m p.val (v ||| 0x100)) := guarded_next s m _ _ h
  have hcls : Word.field (v ||| 0x100) 5 0 = v.toNat % 64 := field_or_set v 8 (by decide)
  have hset : Word.bit (v ||| 0x100) 8 = true := by simp [Word.bit]
  have hclear : Word.bit (v ||| 0x100) 9 = false := by simpa [Word.bit] using h9
  unfold State.substCtrl State.when at hexec
  dsimp only at hexec
  rw [hcls, hset, hclear, hheld, if_pos (by decide), if_pos rfl] at hexec
  obtain ⟨hsub, hframe⟩ := setSubst_spec s p.val (v.toNat % 64) ((s.port p.val).substSet (v.toNat % 64) false) true
  refine ⟨_, hexec, fun i _ => ?_, hframe⟩
  rw [hsub]
  by_cases hi : i ∈ (s.port p.val).substSet (v.toNat % 64) false
  · rw [if_pos hi, List.contains_iff_mem.mpr hi, Bool.or_true]
  · rw [if_neg hi, Bool.eq_false_iff.mpr (fun hc => hi (List.contains_iff_mem.mp hc)), Bool.or_false]

theorem substClearCmd_spec (s : State) (m : Master) (p : Fin 16) (v : Word) (h : s.admits m (fp p.val 3 0x4C) = true) (h8 : Word.bit v 8 = false)
    (hheld : s.portHeld p.val = true) : ∃ t, exec (.substClearCmd m p v) s = .next t ∧
      (∀ i, i < 256 → (t.port p.val).sub i = ((s.port p.val).sub i && !(rgClass ((s.port p.val).rg i) == v.toNat % 64))) ∧
      t = { s with ports := t.ports, meas := t.meas } := by
  have hexec : exec (.substClearCmd m p v) s = .next (s.substCtrl m p.val (v ||| 0x200)) := guarded_next s m _ _ h
  have hcls : Word.field (v ||| 0x200) 5 0 = v.toNat % 64 := field_or_set v 9 (by decide)
  have hset : Word.bit (v ||| 0x200) 8 = false := by simpa [Word.bit] using h8
  have hclear : Word.bit (v ||| 0x200) 9 = true := by simp [Word.bit]
  unfold State.substCtrl State.when at hexec
  dsimp only at hexec
  rw [hcls, hset, hclear, hheld, if_pos (by decide), if_neg (by decide), if_pos rfl] at hexec
  obtain ⟨hsub, hframe⟩ := setSubst_spec s p.val (v.toNat % 64) ((s.port p.val).substClr (v.toNat % 64)) false
  refine ⟨_, hexec, fun i hi => ?_, hframe⟩
  have hmem : i ∈ (s.port p.val).substClr (v.toNat % 64) ↔
      (rgClass ((s.port p.val).rg i) == v.toNat % 64) = true ∧ (s.port p.val).sub i = true := by
    unfold PortState.substClr
    rw [List.mem_filter, List.mem_range, Bool.and_eq_true]
    exact ⟨fun h => h.2, fun h => ⟨hi, h⟩⟩
  rw [hsub]
  by_cases hl : i ∈ (s.port p.val).substClr (v.toNat % 64)
  · rw [if_pos hl, (hmem.mp hl).1, Bool.not_true, Bool.and_false]
  · rw [if_neg hl]
    cases hsubi : (s.port p.val).sub i with
    | false => rfl
    | true => rw [Bool.eq_false_iff.mpr fun hc => hl (hmem.mpr ⟨hc, hsubi⟩)]; rfl

end

/-- Settles O25: a fetched block is judged by its verdict; the other commands are one change of the port each. -/
theorem fetchedBlocksAreCheckedAndFailuresContained : Obligations.FetchedBlocksAreCheckedAndFailuresContained := by
  unfold Obligations.FetchedBlocksAreCheckedAndFailuresContained
  intro s p
  refine ⟨fetchCheckDone_off s p, fetchCheckDone_spec s p, stitchTimeout_spec s p, fun m h => ?_, fun m v h h8 h9 =>
    ⟨substSetCmd_spec s m p v h h9, substClearCmd_spec s m p v h h8, substCtrl_refused s m p v h⟩, fun m => covReset_spec s m p⟩
  obtain ⟨hfree, hbarred⟩ := verResume_spec s m p h
  exact ⟨hfree, hbarred, scrubRestart_spec s m p h⟩

end Sys2Proof.Machine
end

section
/-! PROOFS. Device-side blocks and Pantry windows (R179, R214, R236, R253, R265, R268 to R270). -/
namespace Sys2Proof.Machine

section
variable {r s t : State} {p : Nat}

/-! ### A device-side block -/

/-- The cause stands alone in the low bits of VF_LAST0. -/
theorem field_vfLast0 (c : Check) (cause act bind : Nat) (h : cause < 16) : Word.field (vfLast0 c cause act bind) 3 0 = cause := by
  have hfld : ∀ n k, 3 < k → Word.field (fld n k) 3 0 = 0 := fun n k hk => field_fld_above n k 3 hk (by decide)
  have hflg : ∀ (b : Bool) k, 3 < k → Word.field (flg b k) 3 0 = 0 := fun b k hk => by
    cases b with
    | true => exact hfld 1 k hk
    | false => rfl
  unfold vfLast0
  simp only [field_or, hfld, hflg, Nat.reduceLT, Nat.or_zero, field_fld_zero cause h]

/-- A check whose node is not resident waits. -/
theorem devRead_waits {c : Check} (h : s.chkReady p c = false) :
    (s.devRead p c).port p = { s.port p with dev := some c } ∧
    s.devRead p c = { s with ports := (s.devRead p c).ports, dgl := (s.devRead p c).dgl } := by
  have hhash := hashed_permReady s (2 * p + 1) (permAlg (s.port p) c) 4096
  have hdgl := permReady_dgl s (2 * p + 1) (permAlg (s.port p) c) 4096
  unfold State.devRead
  dsimp only
  generalize s.permReady (2 * p + 1) (permAlg (s.port p) c) 4096 = u at *
  have hport := port_of_hashed hhash p
  have hready := chkReady_congr c (by rw [hport]) (cache_of_hashed hhash)
  rw [hready.trans h, if_neg (by decide), port_modPort_self, hport]
  refine ⟨rfl, ?_⟩
  rw [hdgl]
  rfl

/-- A check whose node is resident is judged once its block is hashed. -/
theorem devRead_ready {c : Check} (h : s.chkReady p c = true) :
    ∃ u, s.Hashed u ∧ s.devRead p c = (u.judge p c).1.devAfter p c (u.judge p c).2 := by
  have hhash := hashed_permReady s (2 * p + 1) (permAlg (s.port p) c) 4096
  unfold State.devRead State.devJudge
  dsimp only
  generalize s.permReady (2 * p + 1) (permAlg (s.port p) c) 4096 = u at *
  have hready := chkReady_congr (p := p) c (by rw [port_of_hashed hhash]) (cache_of_hashed hhash)
  rw [hready.trans h, if_pos rfl]
  exact ⟨_, hashed_trans hhash (hashed_permEnd u (2 * p + 1)), rfl⟩

theorem devRead_passes {c : Check} {b : Nat} (h : s.chkReady p c = true) (hverdict : s.verdict p c = some (b, true)) :
    ∃ u, s.devRead p c = u.devAfter p c true ∧ u.port p = (s.port p).passed c ∧ s.Verified u := by
  obtain ⟨u, hhash, hread⟩ := devRead_ready h
  obtain ⟨hok, hverified, hport⟩ := judge_passed ((verdict_of_hashed hhash c).trans hverdict)
  rw [hok] at hread
  exact ⟨_, hread, by rw [hport, port_of_hashed hhash], verified_trans (verified_of_hashed hhash) hverified⟩

theorem devRead_fails {c : Check} {b : Nat} (hp : p < 16) (h : s.chkReady p c = true) (hverdict : s.verdict p c = some (b, false)) :
    ∃ u, s.devRead p c = u.devAfter p c false ∧ s.CheckFailed p c 1 b u := by
  obtain ⟨u, hhash, hread⟩ := devRead_ready h
  obtain ⟨hok, hfailed⟩ := judge_failed hp ((verdict_of_hashed hhash c).trans hverdict)
  rw [hok] at hread
  exact ⟨_, hread, checkFailed_of_same (port_of_hashed hhash p) (evt_of_hashed hhash _) (frames_of_hashed hhash) hfailed⟩

/-- The second failure of a read is a failed check with cause READ_FAULT. -/
theorem devFault_fails (s : State) (hp : p < 16) (c : Check) :
    ∃ u bind, s.devFault p c = u.devAfter p c false ∧ s.CheckFailed p c 4 bind u :=
  ⟨_, _, rfl, checkFailed_verifyFail s hp c 4 _ _⟩

theorem evt_of_verified (h : s.Verified t) (k : Nat) : t.evt k = s.evt k := by
  rw [h.frame]
  rfl

/-! ### Windows -/

theorem win_setWin (q : PortState) (w v : Nat) (x : Window) : (q.setWin w x).win v = if v = w then x else q.win v := by
  rw [PortState.win, PortState.setWin, SMap.get_set, PortState.win]

theorem win_setWin_self (q : PortState) (w : Nat) (x : Window) : (q.setWin w x).win w = x := (win_setWin q w w x).trans (if_pos rfl)

theorem win_congr {a b : PortState} (h : b.wins = a.wins) (w : Nat) : b.win w = a.win w := by rw [PortState.win, h, PortState.win]

theorem win_passed (q : PortState) (c : Check) (w : Nat) : (q.passed c).win w = q.win w := win_congr (by rw [passed_frame]) w

theorem win_checkFailed {c : Check} {cause bind : Nat} (h : s.CheckFailed p c cause bind t) (w : Nat) : (t.port p).win w = (s.port p).win w :=
  win_congr (by rw [h.port]) w

/-- A window's block that passed fills its frame. -/
theorem winStep_pass (s : State) (p w : Nat) (data : Bytes) {x : Window} (hx : (s.port p).win w = x) (hst : x.st = .loading) :
    s.winStep p w data true = (s.setFrame (Word.field x.w1 9 0 + x.next) data).modPort p (fun q => q.setWin w { x with
      next := x.next + 1, retry := false, pend := if x.next + 1 = Word.field x.w0 24 16 then some .loaded else x.pend }) := by
  unfold State.winStep
  dsimp only
  rw [hx, if_neg (by simp [hst]), if_pos rfl]

/-- A window's block that failed ends the load. -/
theorem winStep_fail (s : State) (p w : Nat) (data : Bytes) {x : Window} (hx : (s.port p).win w = x) (hst : x.st = .loading) :
    s.winStep p w data false = s.modPort p (fun q => q.setWin w { x with st := .failed, failBlk := x.next, retry := false }) := by
  unfold State.winStep
  dsimp only
  rw [hx, if_neg (by simp [hst]), if_neg (by decide)]

/-! ### The window commands (R236, R268, R269) -/

/-- The window that the registers describe (R268). -/
def State.winRegs (s : State) (p : Nat) : Window :=
  { Window.reset with st := .written, w0 := s.reg (fp p 3 0x94), w1 := s.reg (fp p 3 0x98) }

theorem exec_pwWrite (s : State) (m : Master) (p : Fin 16) (h : s.admits m (aPw p.val) = true)
    (hst : (s.curWin p.val).st = .empty ∨ (s.curWin p.val).st = .written ∨ (s.curWin p.val).st = .failed) :
    exec (.pwWrite m p) s = .next (s.modPort p.val fun q => q.setWin (s.wIdx p.val)
      (if s.winCheck p.val (s.wIdx p.val) (s.winRegs p.val) = 0 then s.winRegs p.val
        else { s.curWin p.val with reject := s.winCheck p.val (s.wIdx p.val) (s.winRegs p.val) })) := by
  have hexec : exec (.pwWrite m p) s = .next (s.pwWrite m p.val) := guarded_next s m _ _ h
  unfold State.pwWrite State.when at hexec
  dsimp only at hexec
  rw [if_pos (by simpa [or_assoc] using hst)] at hexec
  exact hexec

theorem pwWrite_taken (s : State) (m : Master) (p : Fin 16) (h : s.admits m (aPw p.val) = true)
    (hst : (s.curWin p.val).st = .empty ∨ (s.curWin p.val).st = .written ∨ (s.curWin p.val).st = .failed) :
    ∃ t, exec (.pwWrite m p) s = .next t ∧
      (s.winCheck p.val (s.wIdx p.val) (s.winRegs p.val) = 0 → t.curWin p.val = s.winRegs p.val) ∧
      (∀ code, code ≠ 0 → s.winCheck p.val (s.wIdx p.val) (s.winRegs p.val) = code →
        t.curWin p.val = { s.curWin p.val with reject := code }) ∧
      (∀ w, w ≠ s.wIdx p.val → (t.port p.val).win w = (s.port p.val).win w) ∧ (∀ q, q ≠ p.val → t.port q = s.port q) ∧
      t = { s with ports := t.ports } := by
  refine ⟨_, exec_pwWrite s m p h hst, fun hcode => ?_, fun code hcode hcheck => ?_, fun w hw => ?_, fun q hq => port_modPort_other s hq _, rfl⟩
  · rw [if_pos hcode]
    exact (congrArg (PortState.win · _) (port_modPort_self s p.val _)).trans (win_setWin_self _ _ _)
  · rw [hcheck, if_neg hcode]
    exact (congrArg (PortState.win · _) (port_modPort_self s p.val _)).trans (win_setWin_self _ _ _)
  · rw [port_modPort_self, win_setWin, if_neg hw]

theorem pwWrite_refused (s : State) (m : Master) (p : Fin 16) (h : s.admits m (aPw p.val) = true)
    (hst : (s.curWin p.val).st = .loading ∨ (s.curWin p.val).st = .loaded) : ∃ t, exec (.pwWrite m p) s = .next t ∧ t.ports = s.ports ∧
      t.reg (fp p.val 3 0x18) = pageErrAfter (s.reg (fp p.val 3 0x18)) 0x9C .state m ∧ t = { s.routed t with regs := t.regs } := by
  have hexec : exec (.pwWrite m p) s = .next (s.pwWrite m p.val) := guarded_next s m _ _ h
  unfold State.pwWrite State.when at hexec
  dsimp only at hexec
  rw [if_neg (by rcases hst with hst | hst <;> simp [hst])] at hexec
  have haddr : pg (aPw p.val / 4096) 0x18 = fp p.val 3 0x18 := by simp only [aPw, fp, pg]; omega
  have hoff : aPw p.val % 4096 = 0x9C := by simp only [aPw, fp, pg]; omega
  refine ⟨_, hexec, ports_refuse s m _, ?_, refuse_routed s m _⟩
  rw [← haddr, reg_refuse, hoff]

theorem pwRead_spec (s : State) (m : Master) (p : Fin 16) (h : s.admits m (aPw p.val) = true) : ∃ t, exec (.pwRead m p) s = .next t ∧
    t.reg (fp p.val 3 0x94) = (s.curWin p.val).w0 ∧ t.reg (fp p.val 3 0x98) = (s.curWin p.val).w1 ∧
    (∀ a, a ≠ fp p.val 3 0x94 → a ≠ fp p.val 3 0x98 → t.reg a = s.reg a) ∧ t = { s with regs := t.regs } := by
  refine ⟨_, guarded_next s m _ _ h, ?_, ?_, fun a ha hb => ?_, rfl⟩
  · rw [State.pwRead, State.reg_setReg, if_neg (by simp only [fp, pg]; omega), State.reg_setReg, if_pos rfl]
  · rw [State.pwRead, State.reg_setReg, if_pos rfl]
  · rw [State.pwRead, State.reg_setReg, if_neg hb, State.reg_setReg, if_neg ha]

theorem pwLoad_spec (s : State) (m : Master) (p : Fin 16) (h : s.admits m (aPw p.val) = true)
    (hst : (s.curWin p.val).st = .written ∨ (s.curWin p.val).st = .failed) (hstopped : (s.port p.val).stopped = false) :
    exec (.pwLoad m p) s = .next (s.modPort p.val (fun q =>
      q.setWin (s.wIdx p.val) { s.curWin p.val with st := .loading, next := 0, retry := false, failBlk := 0 })) := by
  have hexec : exec (.pwLoad m p) s = .next (s.pwLoad m p.val) := guarded_next s m _ _ h
  unfold State.pwLoad State.when at hexec
  dsimp only at hexec
  rw [if_pos (by simpa [hstopped] using hst)] at hexec
  exact hexec

theorem pwUnload_spec (s : State) (m : Master) (p : Fin 16) (h : s.admits m (aPw p.val) = true)
    (hst : (s.curWin p.val).st = .written ∨ (s.curWin p.val).st = .loaded ∨ (s.curWin p.val).st = .failed) :
    exec (.pwUnload m p) s = .next (s.modPort p.val (fun q => q.setWin (s.wIdx p.val) { s.curWin p.val with pend := some .empty })) := by
  have hexec : exec (.pwUnload m p) s = .next (s.pwUnload m p.val) := guarded_next s m _ _ h
  unfold State.pwUnload State.when at hexec
  dsimp only at hexec
  rw [if_pos (by simpa [or_assoc] using hst)] at hexec
  exact hexec

/-! ### WINDOW_BLOCK_READ (R265, R270) -/

theorem windowBlockRead_barred (s : State) (p : Fin 16) (w : Fin 64) (h : s.permOn = false ∨ s.readable p.val (w.val / 32) = false)
    (d : Option Bytes) : exec (.windowBlockRead p w d) s = .next s := by
  refine congrArg Host.Outcome.next ?_
  unfold State.winRead
  dsimp only
  refine if_pos ?_
  rcases h with h | h <;> simp [h]

/-- The check of the next block of a window's load. -/
def State.winCheckOf (s : State) (p w : Nat) (x : Window) (data : Bytes) : Check :=
  (s.port p).devCheck .load ((s.port p).regionAt ((s.port p).bind (Word.field x.w1 18 16)).cls (w / 32) (Word.field x.w0 15 0 + x.next))
    ((s.port p).bind (Word.field x.w1 18 16)).cls (w / 32) (Word.field x.w0 15 0 + x.next) w data

section
variable (s) (p : Fin 16) (w : Fin 64) {x : Window} (hx : (s.port p.val).win w.val = x) (hst : x.st = .loading) (hpend : x.pend = none)
  (hdev : (s.port p.val).dev = none) (hon : s.permOn = true) (hread : s.readable p.val (w.val / 32) = true)
include hx hst hpend hdev hon hread

theorem exec_windowBlockRead (data : Option Bytes) : exec (.windowBlockRead p w data) s = .next (match data with
    | some _ => s.devRead p.val (s.winCheckOf p.val w.val x (data.getD []))
    | none => if x.retry then s.devFault p.val (s.winCheckOf p.val w.val x (data.getD []))
        else s.modPort p.val (fun q => q.setWin w.val { x with retry := true })) := by
  refine congrArg Host.Outcome.next ?_
  unfold State.winRead
  dsimp only
  rw [hx, if_neg (by simp [hst, hpend, hdev, hon, hread])]
  rfl

theorem windowBlockRead_fault (hretry : x.retry = true) : ∃ t, exec (.windowBlockRead p w none) s = .next t ∧
    ((t.port p.val).win w.val).st = .failed ∧ ((t.port p.val).win w.val).failBlk = x.next ∧ Word.field (t.reg (fp p.val 3 0xAC)) 3 0 = 4 ∧
    t.evt (evPort p.val 0) = (s.evt (evPort p.val 0)).bump := by
  have hexec := exec_windowBlockRead s p w hx hst hpend hdev hon hread none
  dsimp only at hexec
  rw [hretry, if_pos rfl] at hexec
  obtain ⟨u, bind, hfault, hfailed⟩ := devFault_fails s p.isLt (s.winCheckOf p.val w.val x (Option.getD none []))
  rw [hfault] at hexec
  have hstep : u.devAfter p.val (s.winCheckOf p.val w.val x (Option.getD none [])) false = _ :=
    winStep_fail u p.val w.val _ ((win_checkFailed hfailed w.val).trans hx) hst
  rw [hstep] at hexec
  refine ⟨_, hexec, ?_, ?_, ?_, hfailed.event⟩
  · rw [port_modPort_self, win_setWin_self]
  · rw [port_modPort_self, win_setWin_self]
  · rw [reg_modPort, hfailed.record, field_vfLast0 _ _ _ _ (by decide)]

theorem windowBlockRead_waits {data : Bytes} (hready : s.chkReady p.val (s.winCheckOf p.val w.val x data) = false) :
    ∃ t, exec (.windowBlockRead p w (some data)) s = .next t ∧ (t.port p.val).dev = some (s.winCheckOf p.val w.val x data) ∧
      (t.port p.val).win w.val = x ∧ t = { s with ports := t.ports, dgl := t.dgl } := by
  obtain ⟨hport, hframe⟩ := devRead_waits hready
  exact ⟨_, exec_windowBlockRead s p w hx hst hpend hdev hon hread (some data), by rw [Option.getD_some, hport],
    by rw [Option.getD_some, hport]; exact hx, hframe⟩

/-- A block that equals its leaf fills its frame. -/
theorem windowBlockRead_passes {data : Bytes} {b : Nat} (hready : s.chkReady p.val (s.winCheckOf p.val w.val x data) = true)
    (hverdict : s.verdict p.val (s.winCheckOf p.val w.val x data) = some (b, true)) :
    ∃ t, exec (.windowBlockRead p w (some data)) s = .next t ∧
      (t.port p.val).chkBit (w.val / 32) (Word.field x.w0 15 0 + x.next) = decide (Word.field x.w0 15 0 + x.next < 65536) ∧
      t.frame (Word.field x.w1 9 0 + x.next) = data ∧ (t.port p.val).win w.val = { x with
        next := x.next + 1, retry := false, pend := if x.next + 1 = Word.field x.w0 24 16 then some .loaded else none } ∧
      t = { s with ports := t.ports, cache := t.cache, frames := t.frames, dgl := t.dgl, regs := t.regs } ∧ s.laneRegs t := by
  have hexec := exec_windowBlockRead s p w hx hst hpend hdev hon hread (some data)
  obtain ⟨u, hpassed, hport, hverified⟩ := devRead_passes hready hverdict
  have hwin : (u.port p.val).win w.val = x := by rw [hport, win_passed, hx]
  have hstep : u.devAfter p.val (s.winCheckOf p.val w.val x data) true = _ := winStep_pass u p.val w.val data hwin hst
  dsimp only [Option.getD_some] at hexec
  rw [hpassed, hstep, hpend] at hexec
  have hbit : (u.port p.val).chkBit (w.val / 32) (Word.field x.w0 15 0 + x.next) = decide (Word.field x.w0 15 0 + x.next < 65536) := by
    rw [hport]
    exact chkBit_passed _ (s.winCheckOf p.val w.val x data)
  refine ⟨_, hexec, ?_, ?_, ?_, ?_, hverified.lanes⟩
  · rw [port_modPort_self]
    exact hbit
  · exact (SMap.get_set _ _ _ _ _).trans (if_pos rfl)
  · rw [port_modPort_self, win_setWin_self]
  · have hframe := hverified.frame
    generalize Word.field x.w1 9 0 + x.next = f
    generalize ({ x with next := x.next + 1, retry := false, pend := _ } : Window) = y
    exact Eq.trans rfl (congrArg (fun v : State => { v with ports := ((u.setFrame f data).modPort p.val fun q => q.setWin w.val y).ports
                                                            frames := (u.setFrame f data).frames }) hframe)

/-- A block that differs from its leaf fails the load. -/
theorem windowBlockRead_fails {data : Bytes} {b : Nat} (hready : s.chkReady p.val (s.winCheckOf p.val w.val x data) = true)
    (hverdict : s.verdict p.val (s.winCheckOf p.val w.val x data) = some (b, false)) :
    ∃ t, exec (.windowBlockRead p w (some data)) s = .next t ∧
      (t.port p.val).chkBit (w.val / 32) (Word.field x.w0 15 0 + x.next) = false ∧
      ((t.port p.val).win w.val).st = .failed ∧ ((t.port p.val).win w.val).failBlk = x.next ∧ t.frames = s.frames ∧
      Word.field (t.reg (fp p.val 3 0xAC)) 3 0 = 1 ∧ t.evt (evPort p.val 0) = (s.evt (evPort p.val 0)).bump := by
  have hexec := exec_windowBlockRead s p w hx hst hpend hdev hon hread (some data)
  obtain ⟨u, hread, hfailed⟩ := devRead_fails p.isLt hready hverdict
  have hstep : u.devAfter p.val (s.winCheckOf p.val w.val x data) false = _ :=
    winStep_fail u p.val w.val data ((win_checkFailed hfailed w.val).trans hx) hst
  dsimp only [Option.getD_some] at hexec
  rw [hread, hstep] at hexec
  refine ⟨_, hexec, ?_, ?_, ?_, hfailed.frames, ?_, hfailed.event⟩
  · rw [port_modPort_self]
    exact hfailed.bit
  · rw [port_modPort_self, win_setWin_self]
  · rw [port_modPort_self, win_setWin_self]
  · rw [reg_modPort, hfailed.record, field_vfLast0 _ _ _ _ (by decide)]

end

/-! ### WINDOW_STATE_APPLY (R214, R268) -/

/-- A change of a port that is counted. -/
theorem count_modPort_routed (s : State) (p k : Nat) (f : PortState → PortState) :
    (s.modPort p f).count k = { s.routed ((s.modPort p f).count k) with ports := ((s.modPort p f).count k).ports } := by
  have hports : ((s.modPort p f).count k).ports = (s.modPort p f).ports := by simp
  rw [hports]
  exact State.count_routed (s.modPort p f) k

theorem windowStateApply_loaded (s : State) (p : Fin 16) (w : Fin 64) (hidle : (s.port p.val).idle = true)
    (hpend : ((s.port p.val).win w.val).pend = some .loaded) : ∃ t, exec (.windowStateApply p w) s = .next t ∧
      (t.port p.val).win w.val = { (s.port p.val).win w.val with st := .loaded, pend := none } ∧
      t.evt (evPort p.val 4) = (s.evt (evPort p.val 4)).bump ∧ t = { s.routed t with ports := t.ports } := by
  have hexec : exec (.windowStateApply p w) s = .next
      ((s.modPort p.val fun q => q.setWin w.val { (s.port p.val).win w.val with st := .loaded, pend := none }).count (evPort p.val 4)) := by
    refine congrArg Host.Outcome.next ?_
    rw [if_pos hidle]
    unfold State.winApply
    dsimp only
    rw [hpend]
  refine ⟨_, hexec, ?_, ?_, ?_⟩
  · rw [port_count, port_modPort_self, win_setWin_self]
  · rw [State.evt_count, if_pos rfl]
    rfl
  · exact count_modPort_routed s _ _ _

theorem windowStateApply_empty (s : State) (p : Fin 16) (w : Fin 64) (hidle : (s.port p.val).idle = true)
    (hpend : ((s.port p.val).win w.val).pend = some .empty) : exec (.windowStateApply p w) s = .next (s.modPort p.val (fun q =>
      q.setWin w.val { Window.reset with reject := ((s.port p.val).win w.val).reject })) := by
  refine congrArg Host.Outcome.next ?_
  rw [if_pos hidle]
  unfold State.winApply
  dsimp only
  rw [hpend]

theorem windowStateApply_busy (s : State) (p : Fin 16) (w : Fin 64) (hidle : (s.port p.val).idle = false) :
    exec (.windowStateApply p w) s = .next s := congrArg Host.Outcome.next (if_neg (by simp [hidle]))

end

/-- Settles O26: a window's commands each set the window; a block that was read is judged as every device-side block is. -/
theorem windowsLoadOnlyBlocksThatEqualTheirLeaves : Obligations.WindowsLoadOnlyBlocksThatEqualTheirLeaves := by
  unfold Obligations.WindowsLoadOnlyBlocksThatEqualTheirLeaves
  intro s m p
  refine ⟨fun h => ⟨pwWrite_taken s m p h, pwWrite_refused s m p h, pwRead_spec s m p h, pwLoad_spec s m p h, pwUnload_spec s m p h⟩, ?_,
    fun w hidle => ⟨windowStateApply_loaded s p w hidle, windowStateApply_empty s p w hidle⟩, windowStateApply_busy s p⟩
  intro w x hx hst hpend hdev
  refine ⟨windowBlockRead_barred s p w, fun hon hread => ⟨fun hretry => ?_, windowBlockRead_fault s p w hx hst hpend hdev hon hread, ?_⟩⟩
  · have hexec := exec_windowBlockRead s p w hx hst hpend hdev hon hread none
    dsimp only at hexec
    rw [hretry, if_neg (by decide)] at hexec
    exact hexec
  · rintro data c rfl
    refine ⟨windowBlockRead_waits s p w hx hst hpend hdev hon hread, fun b ok hready hverdict => ?_⟩
    cases ok with
    | true =>
      obtain ⟨t, hexec, hbit, hrest⟩ := windowBlockRead_passes s p w hx hst hpend hdev hon hread hready hverdict
      exact ⟨t, hexec, by rw [hbit, Bool.true_and], fun _ => hrest, fun h => absurd h (by decide)⟩
    | false =>
      obtain ⟨t, hexec, hbit, hrest⟩ := windowBlockRead_fails s p w hx hst hpend hdev hon hread hready hverdict
      exact ⟨t, hexec, by rw [hbit, Bool.false_and], fun h => absurd h (by decide), fun _ => hrest⟩

end Sys2Proof.Machine
end

section
/-! PROOFS. The scrubber and full checks (R179, R253, R254, R264, R265, R267, R273, R274). -/
namespace Sys2Proof.Machine

section
variable {r s t : State} {p : Nat}

/-! ### The end of a scrub block (R264) -/

theorem scrubStep_next {g o : Nat}
    (h : (s.port p).scrubNext (s.port p).scrub.region ((s.port p).scrub.off + 1) = some (g, o)) :
    s.scrubStep p = s.modPort p (fun q => { q with
      scrub := { (s.port p).scrub with region := g, off := o, any := true, retry := false } }) := by
  unfold State.scrubStep
  dsimp only
  rw [h]

/-- After a block the scrubber has no failed read behind it, and the record of a failure stands. -/
theorem scrubStep_spec (s : State) (p : Nat) : ((s.scrubStep p).port p).scrub.retry = false ∧
    (∀ cs blk, ((s.scrubStep p).port p).chkBit cs blk = (s.port p).chkBit cs blk) ∧
    (s.scrubStep p).reg (fp p 3 0xAC) = s.reg (fp p 3 0xAC) ∧ (s.scrubStep p).evt (evPort p 0) = s.evt (evPort p 0) := by
  cases hnext : (s.port p).scrubNext (s.port p).scrub.region ((s.port p).scrub.off + 1) with
  | some x =>
    rw [scrubStep_next hnext]
    exact ⟨by rw [port_modPort_self], fun cs blk => by rw [port_modPort_self]; rfl, rfl, rfl⟩
  | none =>
    have hstep : s.scrubStep p = ((s.incReg (fp p 3 0xF4)).count (evPort p 4)).newPass p := by
      unfold State.scrubStep
      dsimp only
      rw [hnext]
    obtain ⟨-, -, hretry, hport, -, hframe⟩ := newPass_spec ((s.incReg (fp p 3 0xF4)).count (evPort p 4)) p
    have hself : ((s.incReg (fp p 3 0xF4)).count (evPort p 4)).port p = s.port p := port_count _ _ _
    have hreg : ((s.incReg (fp p 3 0xF4)).count (evPort p 4)).reg (fp p 3 0xAC) = s.reg (fp p 3 0xAC) := by
      rw [State.reg_count, State.incReg, State.reg_setReg, if_neg (by simp only [fp, pg]; omega)]
    have hevt : ((s.incReg (fp p 3 0xF4)).count (evPort p 4)).evt (evPort p 0) = s.evt (evPort p 0) := by
      rw [State.evt_count, if_neg (by simp only [evPort]; omega)]
      rfl
    rw [hstep]
    generalize (s.incReg (fp p 3 0xF4)).count (evPort p 4) = u at *
    generalize u.newPass p = w at *
    refine ⟨hretry, fun cs blk => ?_, ?_, ?_⟩
    · rw [hport, hself]
      rfl
    · rw [hframe]
      exact hreg
    · rw [hframe]
      exact hevt

/-! ### SCRUB_BLOCK_READ (R264, R265) -/

/-- `s` with the scrubber at a block. -/
def State.scrubAt (s : State) (p g o : Nat) : State :=
  s.modPort p (fun q => { q with scrub := { q.scrub with region := g, off := o } })

/-- The flash block of a region at which the scrubber stands. -/
def PortState.scrubBase (q : PortState) (g : Nat) : Nat × Nat := q.mapBase g (rgCs (q.rg g)) (rgCs (q.rg g))

theorem port_scrubAt (s : State) (p g o : Nat) :
    (s.scrubAt p g o).port p = { s.port p with scrub := { (s.port p).scrub with region := g, off := o } } := port_modPort_self s p _

theorem chkReady_scrubAt (s : State) (p g o : Nat) (c : Check) : (s.scrubAt p g o).chkReady p c = s.chkReady p c :=
  chkReady_congr c (by rw [port_scrubAt]) rfl

theorem verdict_scrubAt (s : State) (p g o : Nat) (c : Check) : (s.scrubAt p g o).verdict p c = s.verdict p c :=
  verdict_congr c (by rw [port_scrubAt]) rfl

section
variable (s) (p : Fin 16) {g o : Nat} {f : Nat × Nat} (hon : s.scrubOn p.val = true) (hrun : (s.port p.val).scrub.run = true)
  (hdev : (s.port p.val).dev = none) (hholdup : s.pwr.holdup = false)
  (hnext : (s.port p.val).scrubNext (s.port p.val).scrub.region (s.port p.val).scrub.off = some (g, o))
  (hbase : (s.port p.val).scrubBase g = f)
include hon hrun hdev hholdup hnext hbase

theorem exec_scrubBlockRead (data : Option Bytes) : exec (.scrubBlockRead p data) s = .next
    (if (s.port p.val).granted f.1 ∨ !s.readable p.val f.1 ∨ !s.permOn then s
      else match data with
        | some _ => (s.scrubAt p.val g o).devRead p.val
            ((s.port p.val).devCheck .scrub (some g) (rgClass ((s.port p.val).rg g)) f.1 (f.2 + o) 0 (data.getD []))
        | none => if (s.port p.val).scrub.retry then (s.scrubAt p.val g o).devFault p.val
              ((s.port p.val).devCheck .scrub (some g) (rgClass ((s.port p.val).rg g)) f.1 (f.2 + o) 0 (data.getD []))
            else (s.scrubAt p.val g o).modPort p.val (fun q => { q with scrub := { q.scrub with retry := true } })) := by
  subst hbase
  refine congrArg Host.Outcome.next ?_
  unfold State.scrubRead
  dsimp only
  rw [if_neg (by simp [hon, hrun, hdev, hholdup]), hnext]
  rfl

theorem scrubBlockRead_barred (h : s.permOn = false ∨ (s.port p.val).granted f.1 = true ∨ s.readable p.val f.1 = false) (d : Option Bytes) :
    exec (.scrubBlockRead p d) s = .next s := by
  refine (exec_scrubBlockRead s p hon hrun hdev hholdup hnext hbase d).trans (congrArg _ (if_pos ?_))
  rcases h with h | h | h <;> simp [h]

variable (hperm : s.permOn = true) (hgrant : (s.port p.val).granted f.1 = false) (hread : s.readable p.val f.1 = true)
include hperm hgrant hread

theorem exec_scrubBlockRead_none : exec (.scrubBlockRead p none) s = .next
    (if (s.port p.val).scrub.retry then (s.scrubAt p.val g o).devFault p.val
        ((s.port p.val).devCheck .scrub (some g) (rgClass ((s.port p.val).rg g)) f.1 (f.2 + o) 0 [])
      else (s.scrubAt p.val g o).modPort p.val (fun q => { q with scrub := { q.scrub with retry := true } })) :=
  (exec_scrubBlockRead s p hon hrun hdev hholdup hnext hbase none).trans (congrArg _ (if_neg (by simp [hperm, hgrant, hread])))

theorem exec_scrubBlockRead_some (data : Bytes) : exec (.scrubBlockRead p (some data)) s = .next ((s.scrubAt p.val g o).devRead p.val
    ((s.port p.val).devCheck .scrub (some g) (rgClass ((s.port p.val).rg g)) f.1 (f.2 + o) 0 data)) :=
  (exec_scrubBlockRead s p hon hrun hdev hholdup hnext hbase (some data)).trans (congrArg _ (if_neg (by simp [hperm, hgrant, hread])))

theorem scrubBlockRead_again (hretry : (s.port p.val).scrub.retry = false) : ∃ t, exec (.scrubBlockRead p none) s = .next t ∧
    (t.port p.val).scrub = { (s.port p.val).scrub with region := g, off := o, retry := true } ∧ t = { s with ports := t.ports } := by
  have hexec := exec_scrubBlockRead_none s p hon hrun hdev hholdup hnext hbase hperm hgrant hread
  rw [hretry, if_neg (by decide)] at hexec
  exact ⟨_, hexec, by rw [port_modPort_self, port_scrubAt], rfl⟩

theorem scrubBlockRead_fault (hretry : (s.port p.val).scrub.retry = true) : ∃ t, exec (.scrubBlockRead p none) s = .next t ∧
    (t.port p.val).scrub.retry = false ∧ (t.port p.val).chkBit f.1 (f.2 + o) = false ∧ Word.field (t.reg (fp p.val 3 0xAC)) 3 0 = 4 ∧
    t.evt (evPort p.val 0) = (s.evt (evPort p.val 0)).bump := by
  have hexec := exec_scrubBlockRead_none s p hon hrun hdev hholdup hnext hbase hperm hgrant hread
  rw [hretry, if_pos rfl] at hexec
  obtain ⟨u, bind, hfault, hfailed⟩ := devFault_fails (s.scrubAt p.val g o) p.isLt
    ((s.port p.val).devCheck .scrub (some g) (rgClass ((s.port p.val).rg g)) f.1 (f.2 + o) 0 [])
  rw [hfault] at hexec
  obtain ⟨hstep, hbit, hreg, hevt⟩ := scrubStep_spec u p.val
  exact ⟨_, hexec, hstep, (hbit _ _).trans hfailed.bit,
    (congrArg (Word.field · 3 0) (hreg.trans hfailed.record)).trans (field_vfLast0 _ _ _ _ (by decide)), hevt.trans hfailed.event⟩

variable {data : Bytes} {c : Check}
  (hc : (s.port p.val).devCheck .scrub (some g) (rgClass ((s.port p.val).rg g)) f.1 (f.2 + o) 0 data = c)
include hc

theorem scrubBlockRead_waits (hready : s.chkReady p.val c = false) : ∃ t, exec (.scrubBlockRead p (some data)) s = .next t ∧
    (t.port p.val).dev = some c ∧ t = { s with ports := t.ports, dgl := t.dgl } := by
  have hexec := exec_scrubBlockRead_some s p hon hrun hdev hholdup hnext hbase hperm hgrant hread data
  rw [hc] at hexec
  obtain ⟨hport, hframe⟩ := devRead_waits ((chkReady_scrubAt s p.val g o c).trans hready)
  exact ⟨_, hexec, by rw [hport], hframe⟩

/-- A block that equals its leaf: the pass goes on. -/
theorem scrubBlockRead_passes {b : Nat} (hready : s.chkReady p.val c = true) (hverdict : s.verdict p.val c = some (b, true)) :
    ∃ t, exec (.scrubBlockRead p (some data)) s = .next t ∧ (t.port p.val).chkBit f.1 (f.2 + o) = decide (f.2 + o < 65536) ∧
      ∀ g' o', (s.port p.val).scrubNext g (o + 1) = some (g', o') →
        (t.port p.val).scrub = { (s.port p.val).scrub with region := g', off := o', any := true, retry := false } ∧
        (t.port p.val).covOf g = { (s.port p.val).covOf g with scrub := satInc ((s.port p.val).covOf g).scrub } ∧
        t = { s with ports := t.ports, cache := t.cache, dgl := t.dgl, regs := t.regs } ∧ s.laneRegs t := by
  have hexec := exec_scrubBlockRead_some s p hon hrun hdev hholdup hnext hbase hperm hgrant hread data
  obtain ⟨u, hpassed, hport, hverified⟩ :=
    devRead_passes ((chkReady_scrubAt s p.val g o c).trans hready) ((verdict_scrubAt s p.val g o c).trans hverdict)
  rw [port_scrubAt] at hport
  have hbit : (u.port p.val).chkBit f.1 (f.2 + o) = decide (f.2 + o < 65536) := by
    rw [hport, ← hc]
    exact chkBit_passed _ _
  have hself : s.Verified u := verified_trans (verified_modPort s p.val _) hverified
  have hcov : (u.port p.val).covOf g = { (s.port p.val).covOf g with scrub := satInc ((s.port p.val).covOf g).scrub } := by
    rw [hport]
    exact covOf_passed _ c g (by rw [← hc]; rfl) (by rw [← hc]; exact fun h => nomatch h)
  have hscrub : (u.port p.val).scrub = { (s.port p.val).scrub with region := g, off := o } := by rw [hport, passed_frame]
  have hagain : ∀ i j, (u.port p.val).scrubNext i j = (s.port p.val).scrubNext i j :=
    scrubNext_congr (by rw [hport, passed_frame]) (by rw [hport, passed_frame]) (by rw [hport, passed_frame])
  have hstep : u.devAfter p.val c true = u.scrubStep p.val := by
    unfold State.devAfter
    rw [← hc]
    rfl
  rw [hc, hpassed, hstep] at hexec
  refine ⟨_, hexec, ((scrubStep_spec u p.val).2.1 _ _).trans hbit, fun g' o' hgo => ?_⟩
  have hon' : (u.port p.val).scrubNext (u.port p.val).scrub.region ((u.port p.val).scrub.off + 1) = some (g', o') := by
    rw [hscrub, hagain]
    exact hgo
  rw [scrubStep_next hon', port_modPort_self, hscrub]
  have hall := verified_trans hself (verified_modPort u p.val fun q => { q with
    scrub := { (s.port p.val).scrub with region := g', off := o', any := true, retry := false } })
  exact ⟨rfl, hcov, hall.frame, hall.lanes⟩

/-- A block that differs from its leaf. -/
theorem scrubBlockRead_fails {b : Nat} (hready : s.chkReady p.val c = true) (hverdict : s.verdict p.val c = some (b, false)) :
    ∃ t, exec (.scrubBlockRead p (some data)) s = .next t ∧ (t.port p.val).chkBit f.1 (f.2 + o) = false ∧
      Word.field (t.reg (fp p.val 3 0xAC)) 3 0 = 1 ∧ t.evt (evPort p.val 0) = (s.evt (evPort p.val 0)).bump := by
  have hexec := exec_scrubBlockRead_some s p hon hrun hdev hholdup hnext hbase hperm hgrant hread data
  obtain ⟨u, hfails, hfailed⟩ :=
    devRead_fails p.isLt ((chkReady_scrubAt s p.val g o c).trans hready) ((verdict_scrubAt s p.val g o c).trans hverdict)
  obtain ⟨-, hbit, hreg, hevt⟩ := scrubStep_spec u p.val
  have hstep : u.devAfter p.val c false = u.scrubStep p.val := by
    unfold State.devAfter
    rw [← hc]
    rfl
  rw [hc, hfails, hstep] at hexec
  refine ⟨_, hexec, ?_, (congrArg (Word.field · 3 0) (hreg.trans hfailed.record)).trans (field_vfLast0 _ _ _ _ (by decide)),
    hevt.trans hfailed.event⟩
  refine (hbit _ _).trans (Eq.trans ?_ hfailed.bit)
  rw [← hc]
  rfl

end

/-! ### The end of a full check (R267) -/

theorem bind_setBind (q : PortState) (b i : Nat) (x : Binding) : (q.setBind b x).bind i = if i = b then x else q.bind i := by
  rw [PortState.bind, PortState.setBind, SMap.get_set, PortState.bind]

/-- A binding that a full check found good is marked, where it is still CONFIRMED. -/
def PortState.fullMark (q : PortState) (b : Nat) : PortState :=
  if (q.bind b).st = .confirmed then q.setBind b { q.bind b with fullOk := true } else q

theorem fullMark_frame (q : PortState) (b : Nat) : q.fullMark b = { q with binds := (q.fullMark b).binds } := by
  unfold PortState.fullMark
  split_ifs <;> rfl

/-- Marking keeps a binding CONFIRMED, and a marked one marked. -/
theorem bind_fullMark (q : PortState) (b i : Nat) (h : (q.bind i).st = .confirmed) : ((q.fullMark b).bind i).st = .confirmed ∧
    ((i = b ∨ (q.bind i).fullOk = true) → ((q.fullMark b).bind i).fullOk = true) := by
  unfold PortState.fullMark
  by_cases hi : i = b
  · subst hi
    rw [if_pos h, bind_setBind, if_pos rfl]
    exact ⟨h, fun _ => rfl⟩
  · split_ifs
    · rw [bind_setBind, if_neg hi]
      exact ⟨h, fun hor => hor.resolve_left hi⟩
    · exact ⟨h, fun hor => hor.resolve_left hi⟩

theorem bind_fullMarks (b : Nat) (l : List Nat) : ∀ q : PortState, (q.bind b).st = .confirmed → (b ∈ l ∨ (q.bind b).fullOk = true) →
    ((l.foldl PortState.fullMark q).bind b).fullOk = true := by
  induction l with
  | nil => exact fun q _ h => h.resolve_left (by simp)
  | cons i l ih =>
    intro q hst h
    obtain ⟨hconfirmed, hmark⟩ := bind_fullMark q i b hst
    refine ih _ hconfirmed ?_
    rcases h with h | h
    · exact (List.mem_cons.mp h).symm.imp id fun hb => hmark (Or.inl hb)
    · exact Or.inr (hmark (Or.inr h))

theorem fullMarks_frame (l : List Nat) (q : PortState) :
    l.foldl PortState.fullMark q = { q with binds := (l.foldl PortState.fullMark q).binds } :=
  List.foldlRecOn (motive := fun x : PortState => x = { q with binds := x.binds }) l _ rfl fun x hx b _ => by
    rw [fullMark_frame, hx]

/-- The bindings in which a full check found no failure. -/
def FullChk.good (f : FullChk) : List Nat := f.all.filter (fun b => !f.failed.contains b)

/-- The end of a full check: no check runs, and each binding without a failure is marked. -/
theorem fullEnd_spec (s : State) (p : Nat) : ((s.fullEnd p).port p).full.run = false ∧
    (∀ cs blk, ((s.fullEnd p).port p).chkBit cs blk = (s.port p).chkBit cs blk) ∧
    ((s.fullEnd p).port p).binds = ((s.port p).full.good.foldl PortState.fullMark (s.port p)).binds ∧
    (s.fullEnd p).evt (evPort p 4) = (s.evt (evPort p 4)).bump ∧ (s.fullEnd p).evt (evPort p 0) = s.evt (evPort p 0) := by
  have hself : (s.fullEnd p).port p = { (s.port p).full.good.foldl PortState.fullMark (s.port p) with
      full := { ((s.port p).full.good.foldl PortState.fullMark (s.port p)).full with
        run := false, binds := [], blk := 0, failed := [], all := [], retry := false } } := by
    have hkeep : ((s.port p).full.good.foldl PortState.fullMark (s.port p)).full = (s.port p).full := by rw [fullMarks_frame]
    unfold State.fullEnd
    rw [port_count, port_modPort_self, hkeep]
    rfl
  refine ⟨by rw [hself], fun cs blk => ?_, by rw [hself], ?_, ?_⟩
  · rw [hself]
    exact chkBit_congr (by rw [fullMarks_frame]) cs blk
  · unfold State.fullEnd
    rw [State.evt_count, if_pos rfl]
    rfl
  · unfold State.fullEnd
    rw [State.evt_count, if_neg (by simp only [evPort]; omega)]
    rfl

/-! ### The end of a full check's block -/

/-- What a full check's list of failures is after a block. -/
def FullChk.after (f : FullChk) (b : Nat) (ok : Bool) : List Nat := if ok then f.failed else b :: f.failed

theorem fullStep_next {f : FullChk} {b : Nat} {rest : List Nat} (ok : Bool) (hf : (s.port p).full = f) (hbinds : f.binds = b :: rest)
    (hmore : f.blk + 1 < ((s.port p).bind b).nblk) :
    s.fullStep p ok = s.modPort p (fun q => { q with full := { f with blk := f.blk + 1, failed := f.after b ok, retry := false } }) := by
  unfold State.fullStep
  dsimp only
  rw [hf, hbinds]
  exact if_pos hmore

/-- `s` with the first binding of a full check behind it. -/
def State.fullPast (s : State) (p : Nat) (f : FullChk) (rest failed : List Nat) : State :=
  s.modPort p (fun q => { q with full := { f with binds := rest, blk := 0, failed := failed, retry := false } })

theorem fullStep_last {f : FullChk} {b : Nat} {rest : List Nat} (ok : Bool) (hf : (s.port p).full = f) (hbinds : f.binds = b :: rest)
    (hlast : ((s.port p).bind b).nblk ≤ f.blk + 1) : s.fullStep p ok =
      if rest.isEmpty then (s.fullPast p f rest (f.after b ok)).fullEnd p else s.fullPast p f rest (f.after b ok) := by
  unfold State.fullStep
  dsimp only
  rw [hf, hbinds]
  exact if_neg (by omega)

/-- A block of a full check leaves the check map and the count of failures to its judgement. -/
theorem fullStep_spec (s : State) (p : Nat) (ok : Bool) :
    (∀ cs blk, ((s.fullStep p ok).port p).chkBit cs blk = (s.port p).chkBit cs blk) ∧
    (s.fullStep p ok).evt (evPort p 0) = s.evt (evPort p 0) := by
  cases hbinds : (s.port p).full.binds with
  | nil =>
    have hsame : s.fullStep p ok = s := by
      unfold State.fullStep
      dsimp only
      rw [hbinds]
    rw [hsame]
    exact ⟨fun _ _ => rfl, rfl⟩
  | cons b rest =>
    by_cases hmore : (s.port p).full.blk + 1 < ((s.port p).bind b).nblk
    · rw [fullStep_next ok rfl hbinds hmore]
      exact ⟨fun cs blk => by rw [port_modPort_self]; rfl, rfl⟩
    · have hpast : ∀ cs blk, ((s.fullPast p (s.port p).full rest ((s.port p).full.after b ok)).port p).chkBit cs blk =
          (s.port p).chkBit cs blk := fun cs blk => by rw [State.fullPast, port_modPort_self]; rfl
      rw [fullStep_last ok rfl hbinds (by omega)]
      split_ifs
      · obtain ⟨-, hbit, -, -, hevt⟩ := fullEnd_spec (s.fullPast p (s.port p).full rest ((s.port p).full.after b ok)) p
        exact ⟨fun cs blk => (hbit cs blk).trans (hpast cs blk), hevt⟩
      · exact ⟨hpast, rfl⟩

/-! ### FULLCHECK (R267) -/

/-- The bindings over which a full check runs. -/
def PortState.fullList (q : PortState) : List Nat := (List.range 8).filter (fun b => (q.bind b).st == .confirmed && (q.bind b).full)

/-- `s` with a full check begun over the bindings of a list. -/
def State.fullBegun (s : State) (p : Nat) (l : List Nat) : State :=
  s.modPort p (fun q => { q with full := { run := true, binds := l, blk := 0, failed := [], all := l, retry := false } })

theorem exec_fullcheck (s : State) (m : Master) (p : Fin 16) (h : s.admits m (fp p.val 3 0x48) = true)
    (hrun : (s.port p.val).full.run = false) (hstopped : (s.port p.val).stopped = false) : exec (.fullcheck m p) s = .next
      (if (s.port p.val).fullList.isEmpty then (s.fullBegun p.val (s.port p.val).fullList).fullEnd p.val
        else s.fullBegun p.val (s.port p.val).fullList) := by
  have hexec : exec (.fullcheck m p) s = .next (s.fullStart m p.val) := guarded_next s m _ _ h
  unfold State.fullStart State.when at hexec
  rw [hrun, hstopped, if_pos (by decide)] at hexec
  exact hexec

theorem fullcheck_spec (s : State) (m : Master) (p : Fin 16) (h : s.admits m (fp p.val 3 0x48) = true)
    (hrun : (s.port p.val).full.run = false) (hstopped : (s.port p.val).stopped = false) : ∃ t, exec (.fullcheck m p) s = .next t ∧
      (∀ l, l = (s.port p.val).fullList → (l ≠ [] → t = s.fullBegun p.val l) ∧
        (l = [] → (t.port p.val).full.run = false ∧ t.evt (evPort p.val 4) = (s.evt (evPort p.val 4)).bump)) := by
  refine ⟨_, exec_fullcheck s m p h hrun hstopped, fun l hl => ?_⟩
  subst hl
  refine ⟨fun hne => if_neg (fun hnil => hne (List.isEmpty_iff.mp hnil)), fun hnil => ?_⟩
  rw [if_pos (List.isEmpty_iff.mpr hnil)]
  obtain ⟨hstop, -, -, hevt, -⟩ := fullEnd_spec (s.fullBegun p.val (s.port p.val).fullList) p.val
  exact ⟨hstop, hevt⟩

theorem fullcheck_refused (s : State) (m : Master) (p : Fin 16) (h : s.admits m (fp p.val 3 0x48) = true)
    (hbarred : (s.port p.val).full.run = true ∨ (s.port p.val).stopped = true) : ∃ t, exec (.fullcheck m p) s = .next t ∧
      t.ports = s.ports ∧ t.reg (fp p.val 3 0x18) = pageErrAfter (s.reg (fp p.val 3 0x18)) 0x48 .state m ∧
      t = { s.routed t with regs := t.regs } := by
  have hexec : exec (.fullcheck m p) s = .next (s.fullStart m p.val) := guarded_next s m _ _ h
  unfold State.fullStart State.when at hexec
  rw [if_neg (by rcases hbarred with h | h <;> simp [h])] at hexec
  have haddr : pg (fp p.val 3 0x48 / 4096) 0x18 = fp p.val 3 0x18 := by simp only [fp, pg]; omega
  have hoff : fp p.val 3 0x48 % 4096 = 0x48 := by simp only [fp, pg]; omega
  refine ⟨_, hexec, ports_refuse s m _, ?_, refuse_routed s m _⟩
  rw [← haddr, reg_refuse, hoff]

/-! ### FULLCHECK_BLOCK_READ (R267) -/

/-- The check of the next block of a full check over a binding. -/
def State.fullCheckOf (s : State) (p : Nat) (x : Binding) (data : Bytes) : Check :=
  (s.port p).devCheck .full ((s.port p).regionAt x.cls x.cs (x.fblock + (s.port p).full.blk)) x.cls x.cs (x.fblock + (s.port p).full.blk) 0 data

section
variable (s) (p : Fin 16) {b : Nat} {rest : List Nat} {x : Binding} (hrun : (s.port p.val).full.run = true)
  (hbinds : (s.port p.val).full.binds = b :: rest) (hx : (s.port p.val).bind b = x) (hdev : (s.port p.val).dev = none)
  (hholdup : s.pwr.holdup = false)
include hrun hbinds hx hdev hholdup

theorem exec_fullcheckBlockRead (data : Option Bytes) : exec (.fullcheckBlockRead p data) s = .next
    (if (s.port p.val).granted x.cs ∨ !s.readable p.val x.cs ∨ !s.permOn then s
      else match data with
        | some _ => s.devRead p.val (s.fullCheckOf p.val x (data.getD []))
        | none => if (s.port p.val).full.retry then s.devFault p.val (s.fullCheckOf p.val x (data.getD []))
            else s.modPort p.val (fun q => { q with full := { q.full with retry := true } })) := by
  refine congrArg Host.Outcome.next ?_
  subst hx
  unfold State.fullRead
  dsimp only
  rw [hbinds]
  dsimp only
  refine if_congr ?_ rfl rfl
  simp [hrun, hdev, hholdup]

theorem fullcheckBlockRead_barred (h : s.permOn = false ∨ (s.port p.val).granted x.cs = true ∨ s.readable p.val x.cs = false)
    (d : Option Bytes) : exec (.fullcheckBlockRead p d) s = .next s := by
  refine (exec_fullcheckBlockRead s p hrun hbinds hx hdev hholdup d).trans (congrArg _ (if_pos ?_))
  rcases h with h | h | h <;> simp [h]

variable (hperm : s.permOn = true) (hgrant : (s.port p.val).granted x.cs = false) (hread : s.readable p.val x.cs = true)
include hperm hgrant hread

theorem exec_fullcheckBlockRead_none : exec (.fullcheckBlockRead p none) s = .next
    (if (s.port p.val).full.retry then s.devFault p.val (s.fullCheckOf p.val x [])
      else s.modPort p.val (fun q => { q with full := { q.full with retry := true } })) :=
  (exec_fullcheckBlockRead s p hrun hbinds hx hdev hholdup none).trans (congrArg _ (if_neg (by simp [hperm, hgrant, hread])))

theorem exec_fullcheckBlockRead_some (data : Bytes) :
    exec (.fullcheckBlockRead p (some data)) s = .next (s.devRead p.val (s.fullCheckOf p.val x data)) :=
  (exec_fullcheckBlockRead s p hrun hbinds hx hdev hholdup (some data)).trans (congrArg _ (if_neg (by simp [hperm, hgrant, hread])))

theorem fullcheckBlockRead_fault (hretry : (s.port p.val).full.retry = true) (hmore : (s.port p.val).full.blk + 1 < x.nblk) :
    ∃ t, exec (.fullcheckBlockRead p none) s = .next t ∧ (t.port p.val).full = { (s.port p.val).full with
        blk := (s.port p.val).full.blk + 1, failed := b :: (s.port p.val).full.failed, retry := false } ∧
      Word.field (t.reg (fp p.val 3 0xAC)) 3 0 = 4 ∧ t.evt (evPort p.val 0) = (s.evt (evPort p.val 0)).bump := by
  have hexec := exec_fullcheckBlockRead_none s p hrun hbinds hx hdev hholdup hperm hgrant hread
  obtain ⟨u, bind, hfault, hfailed⟩ := devFault_fails s p.isLt (s.fullCheckOf p.val x [])
  have hfull : (u.port p.val).full = (s.port p.val).full := by rw [hfailed.port]
  have hbind : (u.port p.val).bind b = x := (congrFun (bind_congr (by rw [hfailed.port])) b).trans hx
  have hstep : u.devAfter p.val (s.fullCheckOf p.val x []) false = _ := fullStep_next false hfull hbinds (by rw [hbind]; exact hmore)
  rw [hretry, if_pos rfl, hfault, hstep] at hexec
  refine ⟨_, hexec, by rw [port_modPort_self]; rfl, ?_, hfailed.event⟩
  rw [reg_modPort, hfailed.record, field_vfLast0 _ _ _ _ (by decide)]

/-- A block that equals its leaf: the check goes on, or ends with its binding marked. -/
theorem fullcheckBlockRead_passes {data : Bytes} {b' : Nat} (hready : s.chkReady p.val (s.fullCheckOf p.val x data) = true)
    (hverdict : s.verdict p.val (s.fullCheckOf p.val x data) = some (b', true)) :
    ∃ t, exec (.fullcheckBlockRead p (some data)) s = .next t ∧
      (t.port p.val).chkBit x.cs (x.fblock + (s.port p.val).full.blk) = decide (x.fblock + (s.port p.val).full.blk < 65536) ∧
      ((s.port p.val).full.blk + 1 < x.nblk →
        (t.port p.val).full = { (s.port p.val).full with blk := (s.port p.val).full.blk + 1, retry := false } ∧
        t = { s with ports := t.ports, cache := t.cache, dgl := t.dgl, regs := t.regs } ∧ s.laneRegs t) ∧
      (x.nblk ≤ (s.port p.val).full.blk + 1 → rest = [] → (t.port p.val).full.run = false ∧
        t.evt (evPort p.val 4) = (s.evt (evPort p.val 4)).bump ∧
        (x.st = .confirmed → b ∈ (s.port p.val).full.all → b ∉ (s.port p.val).full.failed → ((t.port p.val).bind b).fullOk = true)) := by
  have hexec := exec_fullcheckBlockRead_some s p hrun hbinds hx hdev hholdup hperm hgrant hread data
  obtain ⟨u, hpassed, hport, hverified⟩ := devRead_passes hready hverdict
  have hfull : (u.port p.val).full = (s.port p.val).full := by rw [hport, passed_frame]
  have hbind : (u.port p.val).bind b = x := (congrFun (bind_congr (by rw [hport, passed_frame])) b).trans hx
  have hbit : (u.port p.val).chkBit x.cs (x.fblock + (s.port p.val).full.blk) = decide (x.fblock + (s.port p.val).full.blk < 65536) := by
    rw [hport]
    exact chkBit_passed _ (s.fullCheckOf p.val x data)
  have hstep : u.devAfter p.val (s.fullCheckOf p.val x data) true = u.fullStep p.val true := rfl
  rw [hpassed, hstep] at hexec
  refine ⟨_, hexec, ((fullStep_spec u p.val true).1 _ _).trans hbit, fun hmore => ?_, fun hlast hnil => ?_⟩
  · rw [fullStep_next true hfull hbinds (by rw [hbind]; exact hmore)]
    have hall := verified_trans hverified (verified_modPort u p.val fun q => { q with full := { (s.port p.val).full with
      blk := (s.port p.val).full.blk + 1, failed := (s.port p.val).full.after b true, retry := false } })
    exact ⟨by rw [port_modPort_self]; rfl, hall.frame, hall.lanes⟩
  · have hpast : (u.fullPast p.val (s.port p.val).full rest ((s.port p.val).full.after b true)).port p.val = { u.port p.val with
        full := { (s.port p.val).full with binds := rest, blk := 0, failed := (s.port p.val).full.failed, retry := false } } :=
      port_modPort_self u p.val _
    rw [fullStep_last true hfull hbinds (by rw [hbind]; exact hlast), if_pos (by rw [hnil]; rfl)]
    obtain ⟨hstop, -, hmarks, hevt, -⟩ := fullEnd_spec (u.fullPast p.val (s.port p.val).full rest ((s.port p.val).full.after b true)) p.val
    refine ⟨hstop, hevt.trans (congrArg EventRec.bump (evt_of_verified hverified _)), fun hst hall hfailed => ?_⟩
    rw [bind_congr hmarks]
    refine bind_fullMarks b _ _ ?_ (Or.inl ?_)
    · rw [hpast]
      exact (congrArg Binding.st hbind).trans hst
    · rw [hpast]
      exact List.mem_filter.mpr ⟨hall, by simpa using hfailed⟩

/-- A block that differs from its leaf. -/
theorem fullcheckBlockRead_fails {data : Bytes} {b' : Nat} (hready : s.chkReady p.val (s.fullCheckOf p.val x data) = true)
    (hverdict : s.verdict p.val (s.fullCheckOf p.val x data) = some (b', false)) :
    ∃ t, exec (.fullcheckBlockRead p (some data)) s = .next t ∧
      (t.port p.val).chkBit x.cs (x.fblock + (s.port p.val).full.blk) = false ∧
      ((s.port p.val).full.blk + 1 < x.nblk → (t.port p.val).full = { (s.port p.val).full with
        blk := (s.port p.val).full.blk + 1, failed := b :: (s.port p.val).full.failed, retry := false }) ∧
      t.evt (evPort p.val 0) = (s.evt (evPort p.val 0)).bump := by
  have hexec := exec_fullcheckBlockRead_some s p hrun hbinds hx hdev hholdup hperm hgrant hread data
  obtain ⟨u, hfails, hfailed⟩ := devRead_fails p.isLt hready hverdict
  have hfull : (u.port p.val).full = (s.port p.val).full := by rw [hfailed.port]
  have hbind : (u.port p.val).bind b = x := (congrFun (bind_congr (by rw [hfailed.port])) b).trans hx
  have hstep : u.devAfter p.val (s.fullCheckOf p.val x data) false = u.fullStep p.val false := rfl
  obtain ⟨hbit, hevt⟩ := fullStep_spec u p.val false
  rw [hfails, hstep] at hexec
  refine ⟨_, hexec, (hbit _ _).trans hfailed.bit, fun hmore => ?_, hevt.trans hfailed.event⟩
  rw [fullStep_next false hfull hbinds (by rw [hbind]; exact hmore), port_modPort_self]
  rfl

end

end

/-- Settles O27: the scrubber and a full check read where nothing stands in the way, and each block read is judged as every device-side
block is. -/
theorem scrubsAndFullChecksReadBlocksTwice : Obligations.ScrubsAndFullChecksReadBlocksTwice := by
  unfold Obligations.ScrubsAndFullChecksReadBlocksTwice
  intro s m p
  refine ⟨fun g o f hon hrun hdev hholdup hnext hbase => ?_, fullcheck_spec s m p, fullcheck_refused s m p,
    fun b rest x hrun hbinds hx hdev hholdup => ?_⟩
  · refine ⟨scrubBlockRead_barred s p hon hrun hdev hholdup hnext hbase, fun hperm hgrant hread =>
      ⟨scrubBlockRead_again s p hon hrun hdev hholdup hnext hbase hperm hgrant hread,
        scrubBlockRead_fault s p hon hrun hdev hholdup hnext hbase hperm hgrant hread, fun data c hc =>
        ⟨scrubBlockRead_waits s p hon hrun hdev hholdup hnext hbase hperm hgrant hread hc, fun b ok hready hverdict => ?_⟩⟩⟩
    cases ok with
    | true =>
      obtain ⟨t, hexec, hbit, hpass⟩ :=
        scrubBlockRead_passes s p hon hrun hdev hholdup hnext hbase hperm hgrant hread hc hready hverdict
      exact ⟨t, hexec, by rw [hbit, Bool.true_and], fun _ => hpass, fun h => absurd h (by decide)⟩
    | false =>
      obtain ⟨t, hexec, hbit, hfail⟩ :=
        scrubBlockRead_fails s p hon hrun hdev hholdup hnext hbase hperm hgrant hread hc hready hverdict
      exact ⟨t, hexec, by rw [hbit, Bool.false_and], fun h => absurd h (by decide), fun _ => hfail⟩
  · refine ⟨fullcheckBlockRead_barred s p hrun hbinds hx hdev hholdup, fun hperm hgrant hread => ⟨fun hretry => ?_,
      fullcheckBlockRead_fault s p hrun hbinds hx hdev hholdup hperm hgrant hread, ?_⟩⟩
    · have hexec := exec_fullcheckBlockRead_none s p hrun hbinds hx hdev hholdup hperm hgrant hread
      rw [hretry, if_neg (by decide)] at hexec
      exact hexec
    · rintro data c b' ok rfl hready hverdict
      cases ok with
      | true =>
        obtain ⟨t, hexec, hbit, hgoes, hends⟩ :=
          fullcheckBlockRead_passes s p hrun hbinds hx hdev hholdup hperm hgrant hread hready hverdict
        exact ⟨t, hexec, by rw [hbit, Bool.true_and], fun hmore => (hgoes hmore).1, fun _ hmore => (hgoes hmore).2, fun _ => hends,
          fun h => absurd h (by decide)⟩
      | false =>
        obtain ⟨t, hexec, hbit, hgoes, hevt⟩ :=
          fullcheckBlockRead_fails s p hrun hbinds hx hdev hholdup hperm hgrant hread hready hverdict
        exact ⟨t, hexec, by rw [hbit, Bool.false_and], hgoes, fun h => absurd h (by decide), fun h => absurd h (by decide), fun _ => hevt⟩

end Sys2Proof.Machine
end

section
/-! PROOFS. The SPDM responder (R433 to R437, R439): one answer to each request, and what each answer leaves in its connection. -/
namespace Sys2Proof.Machine

section
variable {r s t x : State} {tr : Transport} {q p : Bytes}

/-! ### Connections -/

theorem conn_setConn (s : State) (tr : Transport) (c : SpdmConn) : (s.setConn tr c).conn tr = c := by
  unfold State.setConn State.conn
  split_ifs <;> rfl

theorem conn_modConn (s : State) (tr : Transport) (f : SpdmConn → SpdmConn) : (s.modConn tr f).conn tr = f (s.conn tr) := conn_setConn s tr _

theorem conn_drew (s : State) (tr : Transport) : s.drew.conn tr = s.conn tr := rfl

theorem conn_out (s : State) (o : Out) (tr : Transport) : (s.out o).conn tr = s.conn tr := rfl

/-- `x` differs from `r` in the connections and the draws only. -/
def State.spdmFrame (r x : State) : Prop := x = { r with spdm := x.spdm, drbgCtr := x.drbgCtr }

theorem spdmFrame_refl (r : State) : r.spdmFrame r := rfl

theorem spdmFrame_drew (h : r.spdmFrame x) : r.spdmFrame x.drew :=
  congrArg (fun y : State => ({ y with drbgCtr := x.drbgCtr + 1 } : State)) h

theorem setConn_spdm (s : State) (tr : Transport) (c : SpdmConn) : s.setConn tr c = { s with spdm := (s.setConn tr c).spdm } := by
  unfold State.setConn
  split_ifs <;> rfl

theorem spdmFrame_setConn (h : r.spdmFrame x) (tr : Transport) (c : SpdmConn) : r.spdmFrame (x.setConn tr c) := by
  rw [setConn_spdm]
  exact congrArg (fun y : State => ({ y with spdm := (x.setConn tr c).spdm } : State)) h

theorem spdmFrame_modConn (h : r.spdmFrame x) (tr : Transport) (f : SpdmConn → SpdmConn) : r.spdmFrame (x.modConn tr f) :=
  spdmFrame_setConn h tr _

/-! ### Answers -/

theorem qCode_rHead (ver code p1 p2 : Nat) (l : Bytes) (h : code < 256) : qCode (rHead ver code p1 p2 ++ l) = code := by
  have hbyte : Bytes.slice (rHead ver code p1 p2 ++ l) 1 1 = [BitVec.ofNat 8 code] := rfl
  rw [qCode, Bytes.num, hbyte]
  simp [leNat]
  omega

theorem logged_frame (h : r.spdmFrame x) (tr : Transport) (q a : Bytes) : r.spdmFrame (x.logged tr q a).1 := by
  unfold State.logged
  dsimp only
  exact spdmFrame_modConn h tr _

theorem conn_logged (s : State) (tr : Transport) (q a : Bytes) :
    (s.logged tr q a).1.conn tr = { s.conn tr with transcript := (s.conn tr).transcript ++ q ++ a } := conn_modConn s tr _

theorem signed_frame (h : r.spdmFrame x) (tr : Transport) (q a : Bytes) : r.spdmFrame (x.signed tr q a).1 := by
  unfold State.signed
  dsimp only
  exact spdmFrame_modConn (spdmFrame_drew h) tr _

/-- A signed answer keeps the message that it signed and begins the transcript anew. -/
theorem conn_signed (s : State) (tr : Transport) (q a : Bytes) : (s.signed tr q a).1.conn tr =
    { s.conn tr with lastM := some ((s.conn tr).transcript ++ q ++ a), transcript := (s.conn tr).vca } := conn_modConn s.drew tr _

theorem signed_append (s : State) (tr : Transport) (q a : Bytes) : ∃ sig, (s.signed tr q a).2 = a ++ sig := ⟨_, rfl⟩

/-! ### Sending (R433, R434) -/

theorem spdmOut_small (s : State) (tr : Transport) (was : Option SpdmSession) (a : Bytes) (h : tMctp tr = false ∨ a.length ≤ 4096) :
    s.spdmOut tr was a = s.spdmSend tr was a := by
  unfold State.spdmOut
  refine if_neg fun ⟨hmctp, hlong⟩ => ?_
  rcases h with h | h
  · exact absurd (hmctp.symm.trans h) (by decide)
  · omega

theorem spdmOut_plain (s : State) (tr : Transport) (was : Option SpdmSession) (a : Bytes) (hsecured : tSecured tr = false)
    (h : tMctp tr = false ∨ a.length ≤ 4096) : s.spdmOut tr was a = s.out (.spdm (tNum tr) a) := by
  rw [spdmOut_small s tr was a h, State.spdmSend, hsecured]
  rfl

theorem spdmOut_sealed (s : State) (tr : Transport) (y : SpdmSession) (a : Bytes) (hsecured : tSecured tr = true)
    (h : tMctp tr = false ∨ a.length ≤ 4096) (hsession : (s.conn tr).session = some y) : s.spdmOut tr (some y) a =
      (s.modConn tr (fun c => { c with session := some { y with rspSeq := y.rspSeq + 1 } })).out
        (.spdm (tNum tr) (recSeal (tMctp tr) (s.conn tr).ver y a)) := by
  rw [spdmOut_small s tr (some y) a h]
  unfold State.spdmSend
  dsimp only
  rw [hsecured, if_neg (by decide), hsession]
  dsimp only
  rw [if_pos rfl]

theorem outbox_setConn (s : State) (tr : Transport) (c : SpdmConn) : (s.setConn tr c).outbox = s.outbox := by
  rw [setConn_spdm]

theorem spdmOut_record (s : State) (tr : Transport) (y : SpdmSession) (a : Bytes) (hsecured : tSecured tr = true)
    (h : tMctp tr = false ∨ a.length ≤ 4096) (hsession : (s.conn tr).session = some y) : ∃ u, s.spdmOut tr (some y) a = u ∧
      u.outbox = s.outbox ++ [.spdm (tNum tr) (recSeal (tMctp tr) (s.conn tr).ver y a)] ∧
      (u.conn tr).session = some { y with rspSeq := y.rspSeq + 1 } := by
  refine ⟨_, spdmOut_sealed s tr y a hsecured h hsession, ?_, ?_⟩
  · exact congrArg (· ++ [_]) (outbox_setConn s tr _)
  · rw [conn_out, conn_modConn]

/-! ### One request -/

/-- A request `p` has reached the runtime in the message `q`; its record, where it is one, is taken in `r`. -/
structure State.SpdmTaken (s : State) (tr : Transport) (q p : Bytes) (r : State) : Prop where
  released : s.boot.rtReleased = true
  up : s.coreUp = true
  opened : s.opened tr q = some p
  record : r = s.recTaken tr

theorem spdm1_eq (h : s.SpdmTaken tr q p r) {ok : Bytes → Bool} (f : State → Bytes → Ans) (hok : ok p = true) : s.spdm1 tr q ok f =
    if r.tamp.responded then r.spdmErr tr 5
    else if !(r.conn tr).verOk p then r.spdmErr tr 0x41
    else (f r p).1.spdmOut tr (r.conn tr).session (f r p).2 := by
  obtain ⟨hreleased, hup, hopened, rfl⟩ := h
  unfold State.spdm1
  rw [hreleased, hup, Bool.and_self, if_pos rfl, hopened]
  dsimp only
  rw [hok]
  rfl

theorem tamp_recTaken (s : State) (tr : Transport) : (s.recTaken tr).tamp = s.tamp := by
  unfold State.recTaken State.modConn
  split_ifs
  · rw [setConn_spdm]
  · rfl

/-- The command that a message is takes the request that it carries. -/
theorem exec_spdmCommand (s : State) (tr : Transport) (q p : Bytes) :
    ∃ (ok : Bytes → Bool) (f : State → Bytes → Ans), ok p = true ∧ exec (spdmCommand tr q p) s = .next (s.spdm1 tr q ok f) := by
  unfold spdmCommand
  split
  case h_15 h84 hE1 hE3 h81 h82 h83 hE0 hE4 hE5 hE9 hEC hE8 h85 h86 =>
    by_cases h1 : isPq p 1
    · rw [if_pos h1]
      exact ⟨_, _, h1, rfl⟩
    · by_cases h2 : isPq p 2
      · rw [if_neg h1, if_pos h2]
        exact ⟨_, _, h2, rfl⟩
      · rw [if_neg h1, if_neg h2]
        refine ⟨_, _, ?_, rfl⟩
        simp [h1, h2, spdmCodes]
        exact ⟨h84, hE1, hE3, h81, h82, h83, hE0, hE4, hE5, hE9, hEC, hE8, h85, h86⟩
  all_goals
    rename_i hcode
    refine ⟨_, _, ?_, rfl⟩
    exact beq_iff_eq.mpr hcode

theorem spdmCommand_unopened (s : State) (tr : Transport) (q p : Bytes) (h : s.opened tr q = none) :
    exec (spdmCommand tr q p) s = .next s := by
  obtain ⟨ok, f, -, hexec⟩ := exec_spdmCommand s tr q p
  rw [hexec]
  unfold State.spdm1
  rw [h, ite_self]

theorem spdmCommand_responded (h : s.SpdmTaken tr q p r) (htamp : s.tamp.responded = true) :
    exec (spdmCommand tr q p) s = .next (r.spdmErr tr 5) := by
  obtain ⟨ok, f, hok, hexec⟩ := exec_spdmCommand s tr q p
  rw [hexec, spdm1_eq h f hok, if_pos (by rw [h.record, tamp_recTaken]; exact htamp)]

theorem spdmCommand_otherVersion (h : s.SpdmTaken tr q p r) (htamp : s.tamp.responded = false) (hver : (r.conn tr).verOk p = false) :
    exec (spdmCommand tr q p) s = .next (r.spdmErr tr 0x41) := by
  obtain ⟨ok, f, hok, hexec⟩ := exec_spdmCommand s tr q p
  rw [hexec, spdm1_eq h f hok, if_neg (by rw [h.record, tamp_recTaken, htamp]; decide), if_pos (by rw [hver]; rfl)]

/-- A request that is neither after a tamper response nor of another version. -/
structure State.SpdmServed (s : State) (tr : Transport) (q p : Bytes) (r : State) : Prop extends s.SpdmTaken tr q p r where
  untampered : s.tamp.responded = false
  version : (r.conn tr).verOk p = true

theorem spdm1_served (h : s.SpdmServed tr q p r) {ok : Bytes → Bool} (f : State → Bytes → Ans) (hok : ok p = true) :
    s.spdm1 tr q ok f = (f r p).1.spdmOut tr (r.conn tr).session (f r p).2 := by
  rw [spdm1_eq h.toSpdmTaken f hok, if_neg (by rw [h.record, tamp_recTaken, h.untampered]; decide), if_neg (by rw [h.version]; decide)]

/-- A request whose answer is an ERROR leaves the connection. -/
theorem spdm1_error (h : s.SpdmServed tr q p r) {ok : Bytes → Bool} {f : State → Bytes → Ans} {code : Nat} (hok : ok p = true)
    (hf : f r p = (r, rError (r.conn tr) code)) : (.next (s.spdm1 tr q ok f) : Res) = .next (r.spdmErr tr code) := by
  rw [spdm1_served h f hok, hf]
  rfl

/-- A request has one answer. -/
theorem spdm1_answer (h : s.SpdmServed tr q p r) {ok : Bytes → Bool} {f : State → Bytes → Ans} {P : State → Bytes → Prop}
    (hok : ok p = true) (hf : r.spdmFrame (f r p).1 ∧ P (f r p).1 (f r p).2) :
    ∃ t x a, (.next (s.spdm1 tr q ok f) : Res) = .next t ∧ r.answers t tr x a ∧ P x a :=
  ⟨_, _, _, congrArg _ (spdm1_served h f hok), ⟨rfl, hf.1⟩, hf.2⟩

/-- A request whose answer is given. -/
theorem spdm1_answered (h : s.SpdmServed tr q p r) {ok : Bytes → Bool} {f : State → Bytes → Ans} {a : Bytes} (hok : ok p = true)
    (hf : f r p = (x, a)) (hframe : r.spdmFrame x) : ∃ t, (.next (s.spdm1 tr q ok f) : Res) = .next t ∧ r.answers t tr x a := by
  refine ⟨_, congrArg _ (spdm1_served h f hok), ?_⟩
  rw [hf]
  exact ⟨rfl, hframe⟩

/-! ### The negotiation (R433, R434) -/

theorem aVersion_spec (r : State) (tr : Transport) (p : Bytes) : r.spdmFrame (r.aVersion tr p).1 ∧ qCode (r.aVersion tr p).2 = 0x04 ∧
    (r.aVersion tr p).1.conn tr =
      { SpdmConn.reset with step := 1, transcript := p ++ (r.aVersion tr p).2, lastM := (r.conn tr).lastM } :=
  ⟨spdmFrame_setConn (spdmFrame_refl r) tr _, rfl, conn_setConn r tr _⟩

theorem aCaps_spec (hstep : (r.conn tr).step = 1) (hver : Bytes.num p 0 1 = 0x12 ∨ Bytes.num p 0 1 = 0x13) :
    r.spdmFrame (r.aCaps tr p).1 ∧ qCode (r.aCaps tr p).2 = 0x61 ∧ ((r.aCaps tr p).1.conn tr).version = Bytes.num p 0 1 ∧
    ((r.aCaps tr p).1.conn tr).step = 2 := by
  unfold State.aCaps
  dsimp only
  rw [if_neg (not_not.mpr hstep), if_neg (fun h => hver.elim h.1 h.2)]
  refine ⟨logged_frame (spdmFrame_modConn (spdmFrame_refl r) tr _) tr _ _, ?_,
    by rw [conn_logged, conn_modConn], by rw [conn_logged, conn_modConn]⟩
  simp only [State.logged, List.append_assoc]
  exact qCode_rHead _ _ _ _ _ (by decide)

theorem aAlgs_spec (hstep : (r.conn tr).step = 2) : r.spdmFrame (r.aAlgs tr p).1 ∧ qCode (r.aAlgs tr p).2 = 0x63 ∧
    ((r.aAlgs tr p).1.conn tr).step = 3 ∧ ((r.aAlgs tr p).1.conn tr).vca = (r.conn tr).transcript ++ p ++ (r.aAlgs tr p).2 := by
  unfold State.aAlgs
  dsimp only
  rw [if_neg (not_not.mpr hstep)]
  refine ⟨logged_frame (spdmFrame_modConn (spdmFrame_refl r) tr _) tr _ _, ?_, by rw [conn_logged, conn_modConn],
    by rw [conn_logged, conn_modConn]; rfl⟩
  simp only [State.logged, List.append_assoc]
  exact qCode_rHead _ _ _ _ _ (by decide)

/-! ### Digests, certificates, challenge and measurements (R435, R437) -/

theorem ready3_done (h : (s.conn tr).step = 3) (f : Ans) : s.ready3 tr f = f := if_pos h

theorem ready3_early (h : (s.conn tr).step ≠ 3) (f : Ans) : s.ready3 tr f = (s, rError (s.conn tr) 4) := if_neg h

theorem aDigests_spec (hstep : (r.conn tr).step = 3) : r.spdmFrame (r.aDigests tr p).1 ∧ qCode (r.aDigests tr p).2 = 0x01 := by
  unfold State.aDigests
  dsimp only
  rw [ready3_done hstep]
  exact ⟨logged_frame (spdmFrame_refl r) tr _ _, qCode_rHead _ _ _ _ _ (by decide)⟩

theorem aCert_absent (hstep : (r.conn tr).step = 3)
    (h : r.spdmChain (qP1 p % 16) = none ∨ ∃ c, r.spdmChain (qP1 p % 16) = some c ∧ c.length ≤ Bytes.num p 4 2) :
    r.aCert tr p = (r, rError (r.conn tr) 1) := by
  unfold State.aCert
  dsimp only
  rw [ready3_done hstep]
  rcases h with h | ⟨c, h, hlen⟩
  · rw [h]
  · rw [h]
    exact if_pos hlen

theorem aCert_spec {c : Bytes} (hstep : (r.conn tr).step = 3) (h : r.spdmChain (qP1 p % 16) = some c) (hlen : Bytes.num p 4 2 < c.length) :
    r.spdmFrame (r.aCert tr p).1 ∧ qCode (r.aCert tr p).2 = 0x02 ∧
    (r.aCert tr p).2.drop 8 = Bytes.slice c (Bytes.num p 4 2) (min (Bytes.num p 6 2) 4096) := by
  unfold State.aCert
  dsimp only
  rw [ready3_done hstep, h]
  dsimp only
  rw [if_neg (by omega)]
  refine ⟨logged_frame (spdmFrame_refl r) tr _ _, ?_, rfl⟩
  simp only [State.logged, List.append_assoc]
  exact qCode_rHead _ _ _ _ _ (by decide)

/-- Every chain ends in the certificate that the runtime makes at the boot. -/
theorem spdmChain_alias {k : Nat} {c : Bytes} (h : r.spdmChain k = some c) : ∃ y, c = y ++ r.aliasDer false := by
  unfold State.spdmChain State.derChain at h
  obtain ⟨d, hd, rfl⟩ := Option.map_eq_some_iff.mp h
  obtain ⟨e, -, rfl⟩ := Option.map_eq_some_iff.mp hd
  exact ⟨_, (List.append_assoc _ _ _).symm⟩

theorem aChallenge_spec (hstep : (r.conn tr).step = 3) : r.spdmFrame (r.aChallenge tr p).1 ∧ qCode (r.aChallenge tr p).2 = 0x03 ∧
    ((r.aChallenge tr p).1.conn tr).lastM ≠ none ∧ ((r.aChallenge tr p).1.conn tr).transcript = (r.conn tr).vca := by
  unfold State.aChallenge
  rw [ready3_done hstep]
  refine ⟨signed_frame (spdmFrame_drew (spdmFrame_refl r)) tr _ _, ?_, by rw [conn_signed]; exact Option.some_ne_none _,
    by rw [conn_signed, conn_drew]⟩
  simp only [State.signed, List.append_assoc]
  exact qCode_rHead _ _ _ _ _ (by decide)

/-- The answer to GET_MEASUREMENTS before a signature (R437). -/
def State.measAnswer (r : State) (tr : Transport) (p : Bytes) : Bytes :=
  rHead (r.conn tr).ver 0x60 (if qP2 p = 0 then (r.mBlocks 0xFF).length else 0) 0 ++ leBytes 1 (r.mBlocks (qP2 p)).length ++
    leBytes 3 (r.mBlocks (qP2 p)).flatten.length ++ (r.mBlocks (qP2 p)).flatten ++ r.draw 32 ++ zeros 2

theorem num_measAnswer (r : State) (tr : Transport) (p l : Bytes) :
    qCode (r.measAnswer tr p ++ l) = 0x60 ∧ Bytes.num (r.measAnswer tr p ++ l) 4 1 = (r.mBlocks (qP2 p)).length % 256 := by
  unfold State.measAnswer
  simp only [List.append_assoc]
  refine ⟨qCode_rHead _ _ _ _ _ (by decide), ?_⟩
  have hbyte : ∀ (v c p1 p2 n : Nat) (m : Bytes), Bytes.slice (rHead v c p1 p2 ++ (leBytes 1 n ++ m)) 4 1 = [BitVec.ofNat 8 (n >>> 0)] :=
    fun _ _ _ _ _ _ => rfl
  rw [Bytes.num, hbyte]
  simp [leNat]

theorem aMeas_spec (hstep : (r.conn tr).step = 3) : r.spdmFrame (r.aMeas tr p).1 ∧ qCode (r.aMeas tr p).2 = 0x60 ∧
    Bytes.num (r.aMeas tr p).2 4 1 = (r.mBlocks (qP2 p)).length % 256 ∧
    (qP1 p % 2 = 0 → ((r.aMeas tr p).1.conn tr).lastM = (r.conn tr).lastM) := by
  have hframe := spdmFrame_drew (spdmFrame_refl r)
  have hmeas : r.aMeas tr p = if qP1 p % 2 = 1 then r.drew.signed tr p (r.measAnswer tr p) else r.drew.logged tr p (r.measAnswer tr p) :=
    ready3_done hstep _
  rw [hmeas]
  by_cases hsign : qP1 p % 2 = 1
  · rw [if_pos hsign]
    obtain ⟨sig, hsig⟩ := signed_append r.drew tr p (r.measAnswer tr p)
    obtain ⟨hcode, hnum⟩ := num_measAnswer r tr p sig
    rw [hsig]
    exact ⟨signed_frame hframe tr _ _, hcode, hnum, fun h => absurd (hsign.symm.trans h) (by decide)⟩
  · rw [if_neg hsign]
    have hall := num_measAnswer r tr p []
    rw [List.append_nil] at hall
    exact ⟨logged_frame hframe tr _ _, hall.1, hall.2, fun _ => by rw [conn_logged, conn_drew]⟩

/-! ### KEY_EXCHANGE (R434) -/

theorem aKeyEx_badPeer (hstep : (r.conn tr).step = 3) (hpeer : Config.kexPeerOk 0xE (Bytes.slice p 40 96) = false) :
    r.aKeyEx tr p = (r, rError (r.conn tr) 1) := by
  unfold State.aKeyEx
  dsimp only
  rw [ready3_done hstep, hpeer]
  rfl

/-- The answer to KEY_EXCHANGE before its HMAC. -/
def State.kexSigned (r : State) (tr : Transport) (p : Bytes) : Ans :=
  r.drew.drew.drew.signed tr p (rHead (r.conn tr).ver 0x64 0 0 ++ leBytes 2 (leNat (r.draw 2)) ++ zeros 2 ++ r.drew.draw 32 ++
    pubKey 0xE (r.drew.drew.draw 48) ++ sha384 ((r.mBlocks 0xFF).flatten) ++ zeros 2)

/-- The session that a KEY_EXCHANGE begins, up to its HMAC. -/
def State.kexSession (r : State) (tr : Transport) (p : Bytes) : SpdmSession :=
  spdmBegin (r.conn tr).ver (Bytes.num p 4 2 + 65536 * leNat (r.draw 2))
    (Config.take 48 (Config.kexSecretByte 0xE (r.drew.drew.draw 48) (Bytes.slice p 40 96)))
    ((r.conn tr).vca ++ sha384 ((r.spdmChain (qP2 p % 16)).getD []) ++ p ++ (r.kexSigned tr p).2)

theorem aKeyEx_eq (hstep : (r.conn tr).step = 3) (hpeer : Config.kexPeerOk 0xE (Bytes.slice p 40 96) = true) : ∃ v : Bytes,
    r.aKeyEx tr p = ((r.kexSigned tr p).1.modConn tr (fun c => { c with
      session := some { r.kexSession tr p with th := (r.kexSession tr p).th ++ v } }), (r.kexSigned tr p).2 ++ v) := by
  unfold State.aKeyEx
  dsimp only
  rw [ready3_done hstep, hpeer, if_neg (by decide)]
  exact ⟨spdmVerify (r.conn tr).ver (r.kexSession tr p).rsp (r.kexSession tr p).th, rfl⟩

theorem aKeyEx_spec (hstep : (r.conn tr).step = 3) (hpeer : Config.kexPeerOk 0xE (Bytes.slice p 40 96) = true) :
    r.spdmFrame (r.aKeyEx tr p).1 ∧ qCode (r.aKeyEx tr p).2 = 0x64 ∧ ∃ y, ((r.aKeyEx tr p).1.conn tr).session = some y ∧
      y.id = Bytes.num p 4 2 + 65536 * leNat (r.draw 2) ∧ y.finished = false ∧
      y.hs = hmac384 (zeros 48) (Config.take 48 (Config.kexSecretByte 0xE (r.drew.drew.draw 48) (Bytes.slice p 40 96))) := by
  have hframe : r.spdmFrame (r.kexSigned tr p).1 := signed_frame (spdmFrame_drew (spdmFrame_drew (spdmFrame_drew (spdmFrame_refl r)))) tr _ _
  obtain ⟨v, hanswer⟩ := aKeyEx_eq hstep hpeer
  rw [hanswer]
  dsimp only
  refine ⟨spdmFrame_modConn hframe tr _, ?_, ?_⟩
  · simp only [State.kexSigned, State.signed, List.append_assoc]
    exact qCode_rHead _ _ _ _ _ (by decide)
  · rw [conn_modConn]
    exact ⟨_, rfl, rfl, rfl, rfl⟩

/-! ### Requests inside a session (R434) -/

theorem inSession_none (h : tSecured tr = false ∨ (s.conn tr).session = none) (f : SpdmSession → Ans) :
    s.inSession tr f = (s, rError (s.conn tr) 4) := by
  unfold State.inSession
  by_cases hsecured : tSecured tr
  · rw [if_pos hsecured, h.resolve_left (by rw [hsecured]; decide)]
  · rw [if_neg hsecured]

theorem inSession_some {y : SpdmSession} (hsecured : tSecured tr = true) (h : (s.conn tr).session = some y) (f : SpdmSession → Ans) :
    s.inSession tr f = f y := by
  unfold State.inSession
  rw [if_pos hsecured, h]

theorem secured_finished {y : SpdmSession} (hsecured : tSecured tr = true) (h : (s.conn tr).session = some y) (hfinished : y.finished = true)
    (f : SpdmSession → Ans) : s.secured tr f = f y := by
  rw [State.secured, inSession_some hsecured h, if_pos hfinished]

section
variable {y : SpdmSession} (hsecured : tSecured tr = true) (hsession : (r.conn tr).session = some y)
include hsecured hsession

theorem aFinish_bad (hfinished : y.finished = false)
    (hmac : spdmVerify (r.conn tr).ver y.req (y.th ++ p.take 4) ≠ Bytes.slice p 4 48) : r.aFinish tr p = (r, rError (r.conn tr) 6) := by
  unfold State.aFinish
  rw [inSession_some hsecured hsession]
  dsimp only
  rw [if_neg (by simp [hfinished]), if_pos hmac]

theorem aFinish_spec (hfinished : y.finished = false)
    (hmac : spdmVerify (r.conn tr).ver y.req (y.th ++ p.take 4) = Bytes.slice p 4 48) :
    r.spdmFrame (r.aFinish tr p).1 ∧ qCode (r.aFinish tr p).2 = 0x65 ∧ ∃ z, ((r.aFinish tr p).1.conn tr).session = some z ∧
      z.finished = true ∧ z.id = y.id ∧ z = y.finish (r.conn tr).ver (y.th ++ p.take 4 ++ Bytes.slice p 4 48 ++ (r.aFinish tr p).2) := by
  unfold State.aFinish
  rw [inSession_some hsecured hsession]
  dsimp only
  rw [if_neg (by simp [hfinished]), if_neg (not_not.mpr hmac)]
  dsimp only
  refine ⟨spdmFrame_modConn (spdmFrame_refl r) tr _, rfl, ?_⟩
  rw [conn_modConn]
  exact ⟨_, rfl, rfl, rfl, rfl⟩

variable (hfinished : y.finished = true)
include hfinished

theorem aKeyUpdate_eq (h : qP1 p = 1 ∨ qP1 p = 2 ∨ qP1 p = 3) : r.aKeyUpdate tr p = (r.modConn tr (fun c => { c with
      session := some (if qP1 p = 3 then y else y.update (r.conn tr).ver (qP1 p == 2)) }), rHead (r.conn tr).ver 0x69 (qP1 p) (qP2 p)) := by
  unfold State.aKeyUpdate
  rw [secured_finished hsecured hsession hfinished]
  exact if_neg (by omega)

theorem aKeyUpdate_updates (h : qP1 p = 1 ∨ qP1 p = 2) : r.spdmFrame (r.aKeyUpdate tr p).1 ∧ qCode (r.aKeyUpdate tr p).2 = 0x69 ∧
    ((r.aKeyUpdate tr p).1.conn tr).session = some (y.update (r.conn tr).ver (qP1 p == 2)) := by
  rw [aKeyUpdate_eq hsecured hsession hfinished (by omega), if_neg (by omega)]
  dsimp only
  exact ⟨spdmFrame_modConn (spdmFrame_refl r) tr _, rfl, by rw [conn_modConn]⟩

theorem aKeyUpdate_verifies (h : qP1 p = 3) : r.spdmFrame (r.aKeyUpdate tr p).1 ∧ qCode (r.aKeyUpdate tr p).2 = 0x69 ∧
    ((r.aKeyUpdate tr p).1.conn tr).session = some y := by
  rw [aKeyUpdate_eq hsecured hsession hfinished (by omega), if_pos h]
  dsimp only
  exact ⟨spdmFrame_modConn (spdmFrame_refl r) tr _, rfl, by rw [conn_modConn]⟩

theorem aEnd_spec : r.spdmFrame (r.aEnd tr p).1 ∧ qCode (r.aEnd tr p).2 = 0x6C ∧ ((r.aEnd tr p).1.conn tr).session = none := by
  unfold State.aEnd
  rw [secured_finished hsecured hsession hfinished]
  dsimp only
  exact ⟨spdmFrame_modConn (spdmFrame_refl r) tr _, rfl, by rw [conn_modConn]⟩

theorem aHeartbeat_eq : r.aHeartbeat tr p = (r, rHead (r.conn tr).ver 0x68 0 0) := secured_finished hsecured hsession hfinished _

end

/-! ### Chunks (R434) -/

theorem aChunkSend_astray (h0 : Bytes.num p 4 2 ≠ 0) (h : Bytes.num p 4 2 ≠ (r.conn tr).chunkInSeq) :
    r.aChunkSend tr p = (r, rError (r.conn tr) 4) := by
  unfold State.aChunkSend
  dsimp only
  rw [if_pos (by rw [if_neg h0]; exact h)]

theorem aChunkSend_first (h0 : Bytes.num p 4 2 = 0) (hmore : qP1 p % 2 = 0) : r.spdmFrame (r.aChunkSend tr p).1 ∧
    qCode (r.aChunkSend tr p).2 = 0x05 ∧ ((r.aChunkSend tr p).1.conn tr).chunkIn = Bytes.slice p 16 (Bytes.num p 8 4) ∧
    ((r.aChunkSend tr p).1.conn tr).chunkInSeq = 1 := by
  unfold State.aChunkSend
  dsimp only
  rw [h0, if_neg (by rw [if_pos rfl]; exact not_not.mpr rfl), if_neg (by omega)]
  dsimp only
  exact ⟨spdmFrame_modConn (spdmFrame_refl r) tr _, qCode_rHead _ _ _ _ _ (by decide), by rw [conn_modConn]; rfl, by rw [conn_modConn]⟩

theorem aChunkGet_none (h : (r.conn tr).chunkOut = []) : r.aChunkGet tr p = (r, rError (r.conn tr) 4) := by
  unfold State.aChunkGet
  dsimp only
  rw [if_pos (by simp [h])]

theorem aChunkGet_next (h : (r.conn tr).chunkOut ≠ []) (hseq : Bytes.num p 4 2 = (r.conn tr).chunkOutSeq) :
    r.spdmFrame (r.aChunkGet tr p).1 ∧ qCode (r.aChunkGet tr p).2 = 0x06 ∧
    ((r.aChunkGet tr p).1.conn tr).chunkOutSeq = (r.conn tr).chunkOutSeq + 1 ∧
    ((r.aChunkGet tr p).1.conn tr).chunkOut.length < (r.conn tr).chunkOut.length := by
  unfold State.aChunkGet
  dsimp only
  rw [if_neg (by simp [h, hseq])]
  dsimp only
  refine ⟨spdmFrame_modConn (spdmFrame_refl r) tr _, ?_, by rw [conn_modConn], ?_⟩
  · simp only [List.append_assoc]
    exact qCode_rHead _ _ _ _ _ (by decide)
  · have hpos := List.length_pos_iff.mpr h
    rw [conn_modConn, List.length_drop]
    split_ifs <;> omega

/-! ### The answers by the ML-DSA key (R436) -/

theorem aPqSig_none (h : (r.conn tr).lastM = none) : r.aPqSig tr p = (r, rVendor (r.conn tr) [1, stStateForbids]) := by
  unfold State.aPqSig
  rw [h]

theorem aPqSig_some {m : Bytes} (h : (r.conn tr).lastM = some m) : r.aPqSig tr p = (r.drew,
    rVendor (r.conn tr) ([1, stOk] ++ signOf 8 (((r.protectedKey 3).map (fun x => x.2)).getD []) m (r.draw 32) false)) := by
  unfold State.aPqSig
  rw [h]
  dsimp only
  cases r.protectedKey 3 <;> rfl

theorem aPqChain_long (h : 4096 < Bytes.num (qPayload p) 5 2) : r.aPqChain tr p = (r, rVendor (r.conn tr) [2, stBadLength]) := if_pos h

theorem aPqChain_range (h : Bytes.num (qPayload p) 5 2 ≤ 4096) : ∃ a, r.aPqChain tr p = (r, rVendor (r.conn tr) a) :=
  ⟨_, if_neg (by omega)⟩

theorem qCode_rVendor (c : SpdmConn) (a : Bytes) : qCode (rVendor c a) = 0x7E := by
  unfold rVendor
  simp only [List.append_assoc]
  exact qCode_rHead _ _ _ _ _ (by decide)

/-! ### The requests served -/

section
variable (h : s.SpdmServed tr q p r)
include h

theorem spdm_versions_served :
    (qCode p = 0x84 → ∃ t x a, exec (.spdmGetVersion tr q) s = .next t ∧ r.answers t tr x a ∧ qCode a = 0x04 ∧
      x.conn tr = { SpdmConn.reset with step := 1, transcript := p ++ a, lastM := (r.conn tr).lastM }) ∧
    (qCode p = 0xE1 →
      ((r.conn tr).step ≠ 1 → exec (.spdmGetCapabilities tr q) s = .next (r.spdmErr tr 4)) ∧
      ((r.conn tr).step = 1 → (Bytes.num p 0 1 = 0x12 ∨ Bytes.num p 0 1 = 0x13) → ∃ t x a, exec (.spdmGetCapabilities tr q) s = .next t ∧
        r.answers t tr x a ∧ qCode a = 0x61 ∧ (x.conn tr).version = Bytes.num p 0 1 ∧ (x.conn tr).step = 2)) ∧
    (qCode p = 0xE3 →
      ((r.conn tr).step ≠ 2 → exec (.spdmNegotiateAlgorithms tr q) s = .next (r.spdmErr tr 4)) ∧
      ((r.conn tr).step = 2 → ∃ t x a, exec (.spdmNegotiateAlgorithms tr q) s = .next t ∧ r.answers t tr x a ∧ qCode a = 0x63 ∧
        (x.conn tr).step = 3 ∧ (x.conn tr).vca = (r.conn tr).transcript ++ p ++ a)) :=
  ⟨fun hcode => spdm1_answer h (beq_iff_eq.mpr hcode) (aVersion_spec r tr p), fun hcode =>
    ⟨fun hstep => spdm1_error h (beq_iff_eq.mpr hcode) (if_pos hstep),
      fun hstep hver => spdm1_answer h (beq_iff_eq.mpr hcode) (aCaps_spec hstep hver)⟩, fun hcode =>
    ⟨fun hstep => spdm1_error h (beq_iff_eq.mpr hcode) (if_pos hstep), fun hstep => spdm1_answer h (beq_iff_eq.mpr hcode) (aAlgs_spec hstep)⟩⟩

/-- A request that needs the negotiation done comes too early. -/
theorem spdm_early (hstep : (r.conn tr).step ≠ 3) : ∀ c ∈ [0x81, 0x82, 0x83, 0xE0, 0xE4], qCode p = c →
    exec (spdmCommand tr q p) s = .next (r.spdmErr tr 4) := by
  have hearly := ready3_early hstep
  intro c hc hcode
  unfold spdmCommand
  rw [hcode]
  simp only [List.mem_cons, List.not_mem_nil, or_false] at hc
  rcases hc with rfl | rfl | rfl | rfl | rfl
  · exact spdm1_error h (f := fun s q => s.aDigests tr q) (beq_iff_eq.mpr hcode) (hearly _)
  · exact spdm1_error h (f := fun s q => s.aCert tr q) (beq_iff_eq.mpr hcode) (hearly _)
  · exact spdm1_error h (f := fun s q => s.aChallenge tr q) (beq_iff_eq.mpr hcode) (hearly _)
  · exact spdm1_error h (f := fun s q => s.aMeas tr q) (beq_iff_eq.mpr hcode) (hearly _)
  · exact spdm1_error h (f := fun s q => s.aKeyEx tr q) (beq_iff_eq.mpr hcode) (hearly _)

theorem spdm_certificates_served (hstep : (r.conn tr).step = 3) (hcode : qCode p = 0x82) :
    ((r.spdmChain (qP1 p % 16) = none ∨ ∃ c, r.spdmChain (qP1 p % 16) = some c ∧ c.length ≤ Bytes.num p 4 2) →
      exec (.spdmGetCertificate tr q) s = .next (r.spdmErr tr 1)) ∧
    (∀ c, r.spdmChain (qP1 p % 16) = some c → Bytes.num p 4 2 < c.length → (∃ y, c = y ++ r.aliasDer false) ∧
      ∃ t x a, exec (.spdmGetCertificate tr q) s = .next t ∧ r.answers t tr x a ∧ qCode a = 0x02 ∧
        a.drop 8 = Bytes.slice c (Bytes.num p 4 2) (min (Bytes.num p 6 2) 4096)) :=
  ⟨fun hnone => spdm1_error h (beq_iff_eq.mpr hcode) (aCert_absent hstep hnone),
    fun _ hchain hlen => ⟨spdmChain_alias hchain, spdm1_answer h (beq_iff_eq.mpr hcode) (aCert_spec hstep hchain hlen)⟩⟩

theorem spdm_keyExchange_served (hstep : (r.conn tr).step = 3) (hcode : qCode p = 0xE4) :
    (Config.kexPeerOk 0xE (Bytes.slice p 40 96) = false → exec (.spdmKeyExchange tr q) s = .next (r.spdmErr tr 1)) ∧
    (Config.kexPeerOk 0xE (Bytes.slice p 40 96) = true → ∃ t x a y, exec (.spdmKeyExchange tr q) s = .next t ∧ r.answers t tr x a ∧
      qCode a = 0x64 ∧ (x.conn tr).session = some y ∧ y.id = Bytes.num p 4 2 + 65536 * leNat (r.draw 2) ∧ y.finished = false ∧
      y.hs = hmac384 (zeros 48) (Config.take 48 (Config.kexSecretByte 0xE (r.drew.drew.draw 48) (Bytes.slice p 40 96)))) := by
  refine ⟨fun hpeer => spdm1_error h (beq_iff_eq.mpr hcode) (aKeyEx_badPeer hstep hpeer), fun hpeer => ?_⟩
  obtain ⟨hframe, hanswers, y, hy⟩ := aKeyEx_spec (tr := tr) hstep hpeer
  obtain ⟨t, hexec, hanswer⟩ :=
    spdm1_answered h (ok := fun q => qCode q == 0xE4) (f := fun s q => s.aKeyEx tr q) (beq_iff_eq.mpr hcode) rfl hframe
  exact ⟨t, _, _, y, hexec, hanswer, hanswers, hy⟩

theorem spdm_ready_served (hstep : (r.conn tr).step = 3) :
    (qCode p = 0x81 → ∃ t x a, exec (.spdmGetDigests tr q) s = .next t ∧ r.answers t tr x a ∧ qCode a = 0x01) ∧
    (qCode p = 0x83 → ∃ t x a, exec (.spdmChallenge tr q) s = .next t ∧ r.answers t tr x a ∧ qCode a = 0x03 ∧
      (x.conn tr).lastM ≠ none ∧ (x.conn tr).transcript = (r.conn tr).vca) ∧
    (qCode p = 0xE0 → ∃ t x a, exec (.spdmGetMeasurements tr q) s = .next t ∧ r.answers t tr x a ∧ qCode a = 0x60 ∧
      Bytes.num a 4 1 = (r.mBlocks (qP2 p)).length % 256 ∧ (qP1 p % 2 = 0 → (x.conn tr).lastM = (r.conn tr).lastM)) :=
  ⟨fun hcode => spdm1_answer h (beq_iff_eq.mpr hcode) (aDigests_spec hstep), fun hcode =>
    spdm1_answer h (beq_iff_eq.mpr hcode) (aChallenge_spec hstep), fun hcode => spdm1_answer h (beq_iff_eq.mpr hcode) (aMeas_spec hstep)⟩

/-- A request that is a record of no session. -/
theorem spdm_sessionless (hnone : tSecured tr = false ∨ (r.conn tr).session = none) : ∀ c ∈ [0xE5, 0xE9, 0xEC, 0xE8], qCode p = c →
    exec (spdmCommand tr q p) s = .next (r.spdmErr tr 4) := by
  have hno := inSession_none hnone
  intro c hc hcode
  unfold spdmCommand
  rw [hcode]
  simp only [List.mem_cons, List.not_mem_nil, or_false] at hc
  rcases hc with rfl | rfl | rfl | rfl
  · exact spdm1_error h (f := fun s q => s.aFinish tr q) (beq_iff_eq.mpr hcode) (hno _)
  · exact spdm1_error h (f := fun s q => s.aKeyUpdate tr q) (beq_iff_eq.mpr hcode) (hno _)
  · exact spdm1_error h (f := fun s q => s.aEnd tr q) (beq_iff_eq.mpr hcode) (hno _)
  · exact spdm1_error h (f := fun s q => s.aHeartbeat tr q) (beq_iff_eq.mpr hcode) (hno _)

theorem spdm_finish_served {y : SpdmSession} (hsecured : tSecured tr = true) (hsession : (r.conn tr).session = some y)
    (hcode : qCode p = 0xE5) (hfinished : y.finished = false) :
    (spdmVerify (r.conn tr).ver y.req (y.th ++ p.take 4) ≠ Bytes.slice p 4 48 → exec (.spdmFinish tr q) s = .next (r.spdmErr tr 6)) ∧
    (spdmVerify (r.conn tr).ver y.req (y.th ++ p.take 4) = Bytes.slice p 4 48 → ∃ t x a z, exec (.spdmFinish tr q) s = .next t ∧
      r.answers t tr x a ∧ qCode a = 0x65 ∧ (x.conn tr).session = some z ∧ z.finished = true ∧ z.id = y.id ∧
      z = y.finish (r.conn tr).ver (y.th ++ p.take 4 ++ Bytes.slice p 4 48 ++ a)) := by
  refine ⟨fun hmac => spdm1_error h (beq_iff_eq.mpr hcode) (aFinish_bad hsecured hsession hfinished hmac), fun hmac => ?_⟩
  obtain ⟨hframe, hanswers, z, hz⟩ := aFinish_spec hsecured hsession hfinished hmac
  obtain ⟨t, hexec, hanswer⟩ :=
    spdm1_answered h (ok := fun q => qCode q == 0xE5) (f := fun s q => s.aFinish tr q) (beq_iff_eq.mpr hcode) rfl hframe
  exact ⟨t, _, _, z, hexec, hanswer, hanswers, hz⟩

theorem spdm_session_served {y : SpdmSession} (hsecured : tSecured tr = true) (hsession : (r.conn tr).session = some y)
    (hfinished : y.finished = true) :
    (qCode p = 0xE9 → (qP1 p = 1 ∨ qP1 p = 2) → ∃ t x a, exec (.spdmKeyUpdate tr q) s = .next t ∧ r.answers t tr x a ∧ qCode a = 0x69 ∧
      (x.conn tr).session = some (y.update (r.conn tr).ver (qP1 p == 2))) ∧
    (qCode p = 0xE9 → qP1 p = 3 → ∃ t x a, exec (.spdmKeyUpdate tr q) s = .next t ∧ r.answers t tr x a ∧ qCode a = 0x69 ∧
      (x.conn tr).session = some y) ∧
    (qCode p = 0xEC → ∃ t x a, exec (.spdmEndSession tr q) s = .next t ∧ r.answers t tr x a ∧ qCode a = 0x6C ∧
      (x.conn tr).session = none) ∧
    (qCode p = 0xE8 → ∃ t, exec (.spdmHeartbeat tr q) s = .next t ∧ r.answers t tr r (rHead (r.conn tr).ver 0x68 0 0)) := by
  refine ⟨fun hcode hop => spdm1_answer h (beq_iff_eq.mpr hcode) (aKeyUpdate_updates hsecured hsession hfinished hop), fun hcode hop =>
    spdm1_answer h (beq_iff_eq.mpr hcode) (aKeyUpdate_verifies hsecured hsession hfinished hop), fun hcode =>
    spdm1_answer h (beq_iff_eq.mpr hcode) (aEnd_spec hsecured hsession hfinished), fun hcode => ?_⟩
  exact spdm1_answered h (f := fun s q => s.aHeartbeat tr q) (beq_iff_eq.mpr hcode) (aHeartbeat_eq hsecured hsession hfinished) rfl

theorem spdm_chunks_served :
    (qCode p = 0x85 →
      (Bytes.num p 4 2 ≠ 0 → Bytes.num p 4 2 ≠ (r.conn tr).chunkInSeq → exec (.spdmChunkSend tr q) s = .next (r.spdmErr tr 4)) ∧
      (Bytes.num p 4 2 = 0 → qP1 p % 2 = 0 → ∃ t x a, exec (.spdmChunkSend tr q) s = .next t ∧ r.answers t tr x a ∧ qCode a = 0x05 ∧
        (x.conn tr).chunkIn = Bytes.slice p 16 (Bytes.num p 8 4) ∧ (x.conn tr).chunkInSeq = 1)) ∧
    (qCode p = 0x86 →
      ((r.conn tr).chunkOut = [] → exec (.spdmChunkGet tr q) s = .next (r.spdmErr tr 4)) ∧
      ((r.conn tr).chunkOut ≠ [] → Bytes.num p 4 2 = (r.conn tr).chunkOutSeq → ∃ t x a, exec (.spdmChunkGet tr q) s = .next t ∧
        r.answers t tr x a ∧ qCode a = 0x06 ∧ (x.conn tr).chunkOutSeq = (r.conn tr).chunkOutSeq + 1 ∧
        (x.conn tr).chunkOut.length < (r.conn tr).chunkOut.length)) :=
  ⟨fun hcode => ⟨fun h0 hseq => spdm1_error h (beq_iff_eq.mpr hcode) (aChunkSend_astray h0 hseq),
      fun h0 hmore => spdm1_answer h (beq_iff_eq.mpr hcode) (aChunkSend_first h0 hmore)⟩,
    fun hcode => ⟨fun hnone => spdm1_error h (beq_iff_eq.mpr hcode) (aChunkGet_none hnone),
      fun hsome hseq => spdm1_answer h (beq_iff_eq.mpr hcode) (aChunkGet_next hsome hseq)⟩⟩

theorem spdm_pqSig_served (hkind : isPq p 1 = true) :
    ((r.conn tr).lastM = none → ∃ t, exec (.spdmPqSig tr q) s = .next t ∧ r.answers t tr r (rVendor (r.conn tr) [1, stStateForbids])) ∧
    (∀ m, (r.conn tr).lastM = some m → ∃ t, exec (.spdmPqSig tr q) s = .next t ∧ r.answers t tr r.drew
      (rVendor (r.conn tr) ([1, stOk] ++ signOf 8 (((r.protectedKey 3).map (fun x => x.2)).getD []) m (r.draw 32) false))) :=
  ⟨fun hnone => spdm1_answered h (f := fun s q => s.aPqSig tr q) hkind (aPqSig_none hnone) rfl,
    fun _ hsome => spdm1_answered h (f := fun s q => s.aPqSig tr q) hkind (aPqSig_some hsome) rfl⟩

theorem spdm_pqChain_served (hkind : isPq p 2 = true) :
    (4096 < Bytes.num (qPayload p) 5 2 →
      ∃ t, exec (.spdmPqChain tr q) s = .next t ∧ r.answers t tr r (rVendor (r.conn tr) [2, stBadLength])) ∧
    (Bytes.num (qPayload p) 5 2 ≤ 4096 → ∃ t a, exec (.spdmPqChain tr q) s = .next t ∧ r.answers t tr r a ∧ qCode a = 0x7E) := by
  refine ⟨fun hlong => spdm1_answered h (f := fun s q => s.aPqChain tr q) hkind (aPqChain_long hlong) rfl, fun hlen => ?_⟩
  obtain ⟨a, ha⟩ := aPqChain_range hlen
  obtain ⟨t, hexec, hanswer⟩ := spdm1_answered h (f := fun s q => s.aPqChain tr q) (ok := fun q => isPq q 2) hkind ha rfl
  exact ⟨t, _, hexec, hanswer, qCode_rVendor _ _⟩

theorem spdm_unsupported_served (hcode : qCode p ∉ spdmCodes) (h1 : isPq p 1 = false) (h2 : isPq p 2 = false) :
    exec (.spdmUnsupported tr q) s = .next (r.spdmErr tr 7) :=
  spdm1_error h (f := fun s q => s.aUnsupported tr q) (by simp [hcode, h1, h2]) rfl

end

end

/-- Settles O40: a request that is opened has the one answer of its kind, which leaves on its transport. -/
theorem spdmRequestsHaveOneAnswerOnTheirTransport : Obligations.SpdmRequestsHaveOneAnswerOnTheirTransport := by
  unfold Obligations.SpdmRequestsHaveOneAnswerOnTheirTransport
  intro s tr q hreleased hup
  refine ⟨fun hnone p => spdmCommand_unopened s tr q p hnone, fun hplain => if_neg (by rw [hplain]; decide), fun x was a =>
    spdmOut_plain x tr was a, fun x y a => spdmOut_record x tr y a, fun p r hopened hr => ?_⟩
  have htaken : s.SpdmTaken tr q p r := ⟨hreleased, hup, hopened, hr⟩
  refine ⟨spdmCommand_responded htaken, spdmCommand_otherVersion htaken, fun htamp hver => ?_⟩
  have h : s.SpdmServed tr q p r := ⟨htaken, htamp, hver⟩
  obtain ⟨hversion, hcaps, halgs⟩ := spdm_versions_served h
  obtain ⟨hsend, hget⟩ := spdm_chunks_served h
  refine ⟨hversion, hcaps, halgs, spdm_early h, fun hstep => ?_, spdm_sessionless h, fun y hsecured hsession =>
    ⟨spdm_finish_served h hsecured hsession, spdm_session_served h hsecured hsession⟩, hsend, hget, spdm_pqSig_served h,
    spdm_pqChain_served h, spdm_unsupported_served h⟩
  obtain ⟨hdigests, hchallenge, hmeas⟩ := spdm_ready_served h hstep
  exact ⟨hdigests, spdm_certificates_served h hstep, hchallenge, hmeas, spdm_keyExchange_served h hstep⟩

end Sys2Proof.Machine
end
